-- ==== Sys2Proof/Word.lean ====
section
/-! DEFINITION. The word types of the Otcel and the fixed-length table the state keeps its like things in. -/

namespace Sys2Proof

/-- A byte of a packet, a frame or the address space (R4: multi-byte fields are little-endian). -/
abbrev Byte := BitVec 8

/-- A 32-bit register word (R5). -/
abbrev Word := BitVec 32

/-- A warp time stamp: 64 bits of 1 µs ticks (R53). -/
abbrev Warp := BitVec 64

/-- A fixed number of like things: channels, groups, ports. -/
abbrev Tab (α : Type) (n : Nat) := Vector α n

namespace Tab

variable {α : Type} {n : Nat}

/-- `n` copies of one value. -/
def fill (n : Nat) (x : α) : Tab α n := Vector.replicate n x

/-- The entry with number `i`. -/
def get (t : Tab α n) (i : Fin n) : α := t[i.1]

/-- The table with entry `i` replaced. -/
def put (t : Tab α n) (i : Fin n) (x : α) : Tab α n := Vector.set t i.1 x

/-- The table with `f` applied to entry `i`. -/
def upd (t : Tab α n) (i : Fin n) (f : α → α) : Tab α n := t.put i (f (t.get i))

/-- `f` applied to every entry, with its number. -/
def mapIdx (t : Tab α n) (f : Fin n → α → α) : Tab α n :=
  (List.finRange n).foldl (fun acc i => acc.upd i (f i)) t

/-- A table given by its entries' numbers. -/
def ofList (l : List α) (d : α) : Tab α n :=
  (List.finRange n).foldl (fun acc i => acc.put i (l.getD i.1 d)) (fill n d)

/-- The numbers of the entries that meet `p`, rising. -/
def idxs (t : Tab α n) (p : α → Bool) : List (Fin n) := (List.finRange n).filter fun i => p (t.get i)

/-- Does some entry meet `p`? -/
def any (t : Tab α n) (p : α → Bool) : Bool := (List.finRange n).any fun i => p (t.get i)

/-- Do all entries meet `p`? -/
def all (t : Tab α n) (p : α → Bool) : Bool := (List.finRange n).all fun i => p (t.get i)

/-- The sum of `f` over the entries. -/
def sum (t : Tab α n) (f : Fin n → α → Nat) : Nat :=
  (List.finRange n).foldl (fun acc i => acc + f i (t.get i)) 0

/-- The entries' flags as a mask, entry 0 in bit 0. -/
def mask (t : Tab α n) (p : α → Bool) : Nat :=
  (List.finRange n).foldl (fun acc i => acc + if p (t.get i) then 2 ^ i.1 else 0) 0

end Tab

end Sys2Proof
end

