-- ==== Sys2Proof/Config.lean ====
section
/-! DEFINITION. What an implementation or the factory fixes, the cryptographic primitives the spec names by their
standards, and the free values. Every constant here is opaque: no proof can see a value of it. -/

namespace Sys2Proof.Config

open Sys2Proof

/-- Free values, in the order the machine draws them (random numbers, values the spec leaves open). -/
opaque free : Nat → Nat

/-- SHA-256 (named by R281, R455, R459). -/
opaque sha256 : List Byte → List Byte
/-- HMAC-SHA-256 of a message under a key. -/
opaque hmac : List Byte → List Byte → List Byte
/-- HKDF-SHA-256: salt, input key material, info, length (R281). -/
opaque hkdf : List Byte → List Byte → List Byte → Nat → List Byte
/-- AES-128-CMAC of a message under a key. -/
opaque cmac : List Byte → List Byte → List Byte
/-- AES-128-GCM sealing: key, nonce, additional data, plaintext; ciphertext with the tag (R280). -/
opaque gcmSeal : List Byte → List Byte → List Byte → List Byte → List Byte
/-- ECDSA P-256 verification: public key, message, signature. -/
opaque ecdsaVerify : List Byte → List Byte → List Byte → Bool
/-- ECDSA P-256 signing with the device key: message, signature. -/
opaque deviceSign : List Byte → List Byte
/-- Is the point on the P-256 curve? -/
opaque onCurve : List Byte → Bool
/-- The public key of the ephemeral key drawn with a free value. -/
opaque ephPublic : Nat → List Byte
/-- The x-coordinate of the ECDH product of an ephemeral key and a public point. -/
opaque ecdh : Nat → List Byte → List Byte
/-- The subject public key of an X.509 certificate, X then Y. -/
opaque certKeyOf : List Byte → List Byte
/-- Its subject serial number attribute. -/
opaque certSubjectOf : List Byte → List Byte
/-- Is it signed, ecdsa-with-SHA256, under the given key? -/
opaque certSigned : List Byte → List Byte → Bool

/-- Factory values. -/
opaque serial : List Byte
opaque macAddress : Nat
/-- The firmware image as shipped (R461, R512). -/
opaque shippedImage : List Byte
opaque deviceDer : List Byte
opaque deviceCaDer : List Byte
opaque devicePub : List Byte
/-- The public key of the Kwadrasha root, in ROM (R452). -/
opaque rootPub : List Byte
/-- The device certificate and the device CA certificate, at most 512 bytes each (R452). -/
def deviceCert : List Byte := deviceDer.take 512
def deviceCaCert : List Byte := deviceCaDer.take 512

/-- An uppercase hexadecimal digit. -/
def hexDigit (n : Nat) : Byte := BitVec.ofNat 8 (if n < 10 then 48 + n else 55 + n)

/-- A SERIAL as 16 uppercase hexadecimal digits, the most significant first (R452). -/
def serialText (b : List Byte) : List Byte :=
  ((b ++ List.replicate 8 0).take 8).reverse.flatMap fun (x : Byte) => [hexDigit (x.toNat / 16), hexDigit (x.toNat % 16)]

/-- The public key a certificate carries; the device certificate carries the device's (R452). -/
def certKey (c : List Byte) : List Byte := if c = deviceCert then devicePub else certKeyOf c

/-- The subject serial number of a certificate; that of the device certificate is SERIAL (R452). -/
def certSubject (c : List Byte) : List Byte := if c = deviceCert then serialText serial else certSubjectOf c

/-- Is a certificate signed under a key? The device CA has signed the device certificate, the root the device CA's (R452). -/
def certChains (c k : List Byte) : Bool :=
  (decide (c = deviceCert) && decide (k = certKey deviceCaCert)) || (decide (c = deviceCaCert) && decide (k = rootPub)) || certSigned c k

/-- The Kwadrasha firmware signing key a key ID names, none when unknown or revoked (R462). -/
opaque firmwareKey : List Byte → Option (List Byte)
/-- Is the image key of a generation held in OTP (R462, R463)? -/
opaque imageKeyHeld : Nat → Bool
/-- Does a block's GCM tag verify: header, block number, ciphertext with tag (R462)? -/
opaque blockTag : List Byte → Nat → List Byte → Bool
/-- AES-128 of a key and a block (R422). -/
opaque aes128 : List Byte → List Byte → List Byte
/-- The 8-byte MIC by AES-128-CCM* of a key, a nonce and a message (R422). -/
opaque ccmMic : List Byte → List Byte → List Byte → List Byte
opaque loaderVersion : Nat

/-- τ = L / R of an actuator's coil in µs (R40): the coil is not part of the module. -/
opaque coilTau : Nat → Nat
/-- What VBOOST_MV reads at a rail voltage in mV that its 16 bits cannot hold (R198, R228; log entry 65). -/
opaque boostOver : Nat → BitVec 16
/-- A free value: the residence time of a Follow_Up's Sync relayed at an instant, in units of 2^-16 ns (R378). -/
opaque gptpResidence : Nat → Nat

/-- What bytes 0 to 30 of a torn recorder slot read, by slot and byte, and its byte 0 when the others read as erased (R478 states no content). -/
opaque tornByte : Nat → Nat → Byte
opaque tornFirst : Nat → Nat

end Sys2Proof.Config
end

