-- ==== Sys2Proof/Machine/Bits.lean ====
section
/-! DEFINITION. Bit fields, byte order (R4), saturating counts, sign extension and the three cyclic
redundancy checks the spec computes (R265 CRC-8 users, R475 CRC-16, R274 CRC-32C). -/

namespace Sys2Proof.Machine

open Sys2Proof

/-- Bits `lo + width - 1 .. lo` of a number. -/
def bits (v lo width : Nat) : Nat := (v >>> lo) % 2 ^ width

/-- Bit `i` of a number. -/
def bit (v i : Nat) : Bool := v.testBit i

/-- A flag as a number. -/
def b2n (b : Bool) : Nat := if b then 1 else 0

/-- A 32-bit word from a number. -/
def w32 (n : Nat) : Word := BitVec.ofNat 32 n

/-- A count that stops at `cap`. -/
def satAdd (cap n k : Nat) : Nat := min cap (n + k)

/-- A number from the two's complement reading of its low `width` bits. -/
def signed (width v : Nat) : Int :=
  let m := v % 2 ^ width
  if 2 * m < 2 ^ width then (m : Int) else (m : Int) - (2 ^ width : Nat)

/-- The low `width` bits of an integer, in two's complement. -/
def unsigned (width : Nat) (v : Int) : Nat := (v % ((2 ^ width : Nat) : Int)).toNat

/-- The `n` low bytes of a number, least significant first (R4). -/
def le : Nat → Nat → List Byte
  | 0, _ => []
  | k + 1, v => BitVec.ofNat 8 v :: le k (v / 256)

/-- The number a little-endian byte string holds (R4). -/
def ofLe : List Byte → Nat
  | [] => 0
  | b :: bs => b.toNat + 256 * ofLe bs

/-- `n` bytes of a packet from offset `i`; bytes past the end read 0. -/
def slice (p : List Byte) (i n : Nat) : List Byte := (p.drop i).take n

/-- One byte, a half-word and a word of a packet (R4). -/
def u8 (p : List Byte) (i : Nat) : Nat := (p.getD i 0).toNat
def u16 (p : List Byte) (i : Nat) : Nat := ofLe (slice p i 2)
def u24 (p : List Byte) (i : Nat) : Nat := ofLe (slice p i 3)
def u32 (p : List Byte) (i : Nat) : Nat := ofLe (slice p i 4)
def u64 (p : List Byte) (i : Nat) : Nat := ofLe (slice p i 8)

/-- `n` bytes of 0. -/
def zeros (n : Nat) : List Byte := List.replicate n 0

/-- The byte string cut or padded with 0 to `n` bytes. -/
def padTo (n : Nat) (p : List Byte) : List Byte := (p ++ zeros (n - p.length)).take n

/-- One shift of a reflected CRC register. -/
def crcReflStep (poly : Nat) : Nat → Nat → Nat
  | 0, c => c
  | k + 1, c => crcReflStep poly k (if c % 2 = 1 then (c / 2) ^^^ poly else c / 2)

/-- CRC-32C over a byte string (R274). -/
def crc32c (p : List Byte) : Nat :=
  (p.foldl (fun c b => crcReflStep 0x82F63B78 8 (c ^^^ b.toNat)) 0xFFFFFFFF) ^^^ 0xFFFFFFFF

/-- CRC-32 of IEEE 802.3 over a byte string: the FCS, least significant byte first on the line (R372). -/
def crc32 (p : List Byte) : Nat :=
  (p.foldl (fun c b => crcReflStep 0xEDB88320 8 (c ^^^ b.toNat)) 0xFFFFFFFF) ^^^ 0xFFFFFFFF

/-- `k` shifts of an unreflected CRC register of `width` bits. -/
def crcStep (width poly : Nat) : Nat → Nat → Nat
  | 0, c => c
  | k + 1, c =>
    crcStep width poly k
      (if c.testBit (width - 1) then ((2 * c) % 2 ^ width) ^^^ poly else (2 * c) % 2 ^ width)

/-- CRC-16 of the recorder and of the weft's words: polynomial 0x1021, initial value 0xFFFF (R475). -/
def crc16 (p : List Byte) : Nat :=
  p.foldl (fun c b => crcStep 16 0x1021 8 (c ^^^ (b.toNat * 256))) 0xFFFF

/-- CRC-8 with polynomial 0x2F, initial value 0xFF and final inversion: the command check (R330). -/
def crc8 (p : List Byte) : Nat :=
  (p.foldl (fun c b => crcStep 8 0x2F 8 (c ^^^ b.toNat)) 0xFF) ^^^ 0xFF

/-- The entries of a list that meet `p`, counted. -/
def countIf {α : Type} (p : α → Bool) (l : List α) : Nat := (l.filter p).length

end Sys2Proof.Machine
end

