-- ==== Sys2Proof/Machine/StRecorder.lean ====
section
/-! DEFINITION. The state of the event recorder (spec/18_event_recorder.md): the buffer, the token bucket, the
flash regions, the counters and their saved copies. -/

namespace Sys2Proof.Machine

open Sys2Proof

/-- The five fault classes, highest priority first (R308). -/
inductive Cls where
  | S | D | C | A | B
  deriving DecidableEq, Repr

/-- The class number of R308. -/
def Cls.num : Cls → Nat
  | .S => 0 | .D => 1 | .C => 2 | .A => 3 | .B => 4

/-- The classes in priority order (R308). -/
def Cls.order : List Cls := [.S, .D, .C, .A, .B]

/-- A record as it waits in the buffer (R473), before LOST, CRC and MARK are formed. -/
structure Record where
  code     : Nat
  source   : Nat
  severity : Nat
  opSec    : Nat
  subsec   : Nat
  cycles   : Nat
  p0       : Word
  p1       : Word
  p2       : Word
  deriving DecidableEq, Repr

/-- A buffered record: the instant it entered (R479), the slots it has failed in (R477) and the REC_APPEND command waiting for it (R486). -/
structure Buffered where
  record : Record
  at_    : Nat
  fails  : Nat
  cmd    : Option Nat
  deriving DecidableEq, Repr

/-- A programmed slot (R478); an erased slot is listed nowhere. -/
inductive Slot where
  | valid (r : Record) (lost : Nat)
  | torn
  deriving DecidableEq, Repr

/-- One code counter of R490. -/
structure CodeCount where
  code  : Nat
  count : Nat
  deriving DecidableEq, Repr

/-- What the counters' saved copy in recorder flash holds (R476, R481, R490). -/
structure RecSaved where
  opSeconds   : Nat
  cycles      : Nat
  lostPending : Nat
  lostTotal   : Nat
  tailWraps   : Nat
  writeFail   : Nat
  checkDrop   : Nat
  counters    : List CodeCount
  other       : Nat
  deriving DecidableEq, Repr

/-- The recorder. `main` lists slots 0 to NEXT − 1 in order, so NEXT is its length. -/
structure Recorder where
  buffer      : List Buffered
  tokens      : Nat
  tokenAt     : Nat
  main        : List Slot
  tail        : List (Nat × Slot)
  tailNext    : Nat
  sectorReady : Bool
  worn        : List Nat
  saturated   : Bool
  tailWraps   : Nat
  lostPending : Nat
  lostTotal   : Nat
  torn        : Nat
  writeFail   : Nat
  checkDrop   : Nat
  opSeconds   : Nat
  secondAt    : Nat
  cycles      : Nat
  counters    : List CodeCount
  other       : Nat
  savedAt     : Nat
  saved       : RecSaved
  deriving DecidableEq, Repr

def RecSaved.reset : RecSaved :=
  { opSeconds := 0, cycles := 0, lostPending := 0, lostTotal := 0, tailWraps := 0, writeFail := 0,
    checkDrop := 0, counters := [], other := 0 }

/-- A blank recorder at the first power-up: an empty flash and a full bucket (R482). -/
def Recorder.reset : Recorder :=
  { buffer := [], tokens := 256, tokenAt := 0, main := [], tail := [], tailNext := 0, sectorReady := false,
    worn := [], saturated := false, tailWraps := 0, lostPending := 0, lostTotal := 0, torn := 0, writeFail := 0,
    checkDrop := 0, opSeconds := 0, secondAt := 0, cycles := 0, counters := [], other := 0, savedAt := 0,
    saved := RecSaved.reset }

/-- The main region's slots (R476); the last is kept for 0xF001 (R488). -/
def mainSlots : Nat := 2097152

/-- The tail ring's slots and the slots of one of its sectors (R476). -/
def tailSlots : Nat := 32768
def sectorSlots : Nat := 128

end Sys2Proof.Machine
end

