-- ==== Sys2Proof/Machine/StFaults.lean ====
section
/-! DEFINITION. The state of the fault queue, the watchdogs, FORCE_SAFE and the release gate
(spec/11_faults_recovery_ordering.md). -/

namespace Sys2Proof.Machine

open Sys2Proof

/-- An island I0 to I8 (R41). -/
abbrev Isl := Fin 9

/-- A command group (R284). -/
abbrev Grp := Fin 16

/-- A queue entry is queued, running or preempted (R311). -/
inductive EntryState where
  | queued | running | preempted
  deriving DecidableEq, Repr

/-- The STATE byte of R331. -/
def EntryState.num : EntryState → Nat
  | .queued => 0 | .running => 1 | .preempted => 2

/-- A FAULT word on its way to the Taproot (R309). `event` is not 0 for records that R67 names as one event; `seq` is its number on its island's
link (R59); `resent` tells that it goes there a second time (R60). -/
structure FaultWord where
  cls    : Cls
  island : Nat
  code   : Nat
  p0     : Word
  p1     : Word
  at_    : Nat
  tick   : Word
  event  : Nat
  seq    : Nat
  resent : Bool
  deriving DecidableEq, Repr

/-- An entry of the fault queue (R309 to R313, R331). `step` is the handler's next step; `added` are the groups to
which this entry's stall added its cause. -/
structure FaultEntry where
  cls      : Cls
  state    : EntryState
  code     : Nat
  p0       : Word
  p1       : Word
  merged   : Nat
  seq      : Nat
  tick     : Word
  event    : Nat
  step     : Nat
  notified : Bool
  added    : List Grp
  deriving DecidableEq, Repr

/-- The release gate (R326): the causes that hold, whether it is closed, and the instants it is judged by. -/
structure Gate where
  closed      : Bool
  holdReset   : Bool
  expired     : Bool
  closedAt    : Nat
  lastRenewal : Nat
  deriving DecidableEq, Repr

/-- The fault block. `wdtFrom` are the instants from which the islands' watchdogs run (R318, R496); `droppedInSec` counts the faults dropped in the
second that began at `droppedAt` (R317); `planSeen` are the sources that have raised a plan fault in this frame (R126); `txSeq` and `rxSeq`
are the next FAULT word's number on each island's link to the Taproot, at its two ends (R59). -/
structure Faults where
  words        : List FaultWord
  txSeq        : Tab Nat 9
  rxSeq        : Tab Nat 9
  queue        : List FaultEntry
  nextSeq      : Nat
  sWeftStop    : Bool
  counts       : Tab Nat 5
  dropped      : Nat
  droppedInSec : Nat
  droppedAt    : Nat
  holdResets   : Nat
  quietEnd     : Option Nat
  wdtResets    : Tab Nat 9
  wdtFrom      : Tab Nat 9
  forceSafe    : Bool
  forceSafeAt  : Nat
  forceSafeCnt : Nat
  gate         : Gate
  planSeen     : List (Nat × Nat)
  deriving DecidableEq, Repr

/-- R332: the queue is empty and S_WEFT_STOP is 1 at a Keep-domain cold start; the release gate is closed at reset. -/
def Faults.reset : Faults :=
  { words := [], txSeq := Tab.fill 9 0, rxSeq := Tab.fill 9 0, queue := [], nextSeq := 1, sWeftStop := true, counts := Tab.fill 5 0, dropped := 0,
    droppedInSec := 0, droppedAt := 0, holdResets := 0, quietEnd := none,
    wdtResets := Tab.fill 9 0, wdtFrom := Tab.fill 9 0, forceSafe := false, forceSafeAt := 0, forceSafeCnt := 0,
    gate := { closed := true, holdReset := false, expired := true, closedAt := 0, lastRenewal := 0 }, planSeen := [] }

end Sys2Proof.Machine
end

