-- ==== Sys2Proof/Machine/StCommands.lean ====
section
/-! DEFINITION. The state of the command interface (spec/10_command_packets_and_data_port.md): sessions, sources,
groups, windows and notification queues. -/

namespace Sys2Proof.Machine

open Sys2Proof

/-- A source of commands (R284): a session slot, the CAN source, or a packet in clear of the session-opening exchange
(R279). -/
inductive Src where
  | session (slot : Fin 4)
  | can
  | clear
  deriving DecidableEq, Repr

/-- The source's number: 0 to 3 the session slots, 4 the CAN source (R305), 5 packets in clear. -/
def Src.idx : Src → Fin 6
  | .session k => ⟨k.1, by omega⟩
  | .can => 4
  | .clear => 5

/-- How far an executing command has gone (R286, R320). -/
inductive Stage where
  | taken      -- not yet handed to a target
  | service    -- begun in the service core
  | core       -- executing in the service core
  | target     -- handed to the switch, drive or field island
  | far        -- on a far bus
  deriving DecidableEq, Repr

/-- A received command. `id` is the model's serial number for it; `addr` and `port` are where its UDP packet came from; `msn` is the mirror
stage BEGUN that it waits for (R409). -/
structure Cmd where
  id       : Nat
  src      : Src
  addr     : Nat
  port     : Nat
  opcode   : Nat
  flags    : Nat
  posted   : Bool
  fence    : Bool
  tag      : Nat
  group    : Option Grp
  session  : Nat
  params   : List Byte
  accepted : Bool
  stage    : Stage
  msn      : Nat
  mirr     : Bool
  begunAt  : Option Nat
  deriving DecidableEq, Repr

/-- Who holds a group (R284, R292). -/
inductive Holder where
  | free
  | src (s : Src)
  | keyId (k : List Byte)
  deriving DecidableEq, Repr

/-- The stall causes of a group (R293). -/
structure Causes where
  failure : Bool
  clsS    : Bool
  clsD    : Bool
  reset   : Bool
  deriving DecidableEq, Repr

def Causes.none : Causes := { failure := false, clsS := false, clsD := false, reset := false }

/-- Is the group stalled? -/
def Causes.stalled (c : Causes) : Bool := c.failure || c.clsS || c.clsD || c.reset

/-- The latest reply sent for a tag (R290). -/
structure Cached where
  tag    : Nat
  status : Nat
  flags  : Nat
  params : List Byte
  known  : Bool
  deriving DecidableEq, Repr

/-- A group. `failed` lists its failed commands, the earliest tag first; `exec` is the command executing, `handed` the posted commands handed to
their targets and not complete. `inflight` lists the tags a service core reset caught with their status, `due` the notifications, by opcode and
parameters, that the holder gets once it can be reached again (R320). -/
structure Group where
  expected : Nat
  holder   : Holder
  causes   : Causes
  failed   : List Cmd
  held     : List Cmd
  taken    : List Cmd
  exec     : Option Cmd
  handed   : List Cmd
  cache    : List Cached
  inflight : List (Nat × Nat)
  due      : List (Nat × List Byte)
  deriving DecidableEq, Repr

def Group.reset : Group :=
  { expected := 0, holder := .free, causes := Causes.none, failed := [], held := [], taken := [], exec := none,
    handed := [], cache := [], inflight := [], due := [] }

/-- An open session (R280 to R282). `seen` lists the accepted sequence numbers among the 64 below `top`. -/
structure Session where
  id       : Nat
  khd      : List Byte
  kdh      : List Byte
  keyId    : List Byte
  ownerId  : List Byte
  notify   : Bool
  top      : Nat
  seen     : List Nat
  txSeq    : Nat
  addr     : Nat
  lastAt   : Nat
  deriving DecidableEq, Repr

/-- A data-port window (R300): ATTR is 0 MEM, 1 STREAM, 2 CONFIG. -/
structure Window where
  elem    : Nat
  attr    : Nat
  autoinc : Bool
  base    : Nat
  length  : Nat
  cursor  : Nat
  deriving DecidableEq, Repr

/-- What belongs to one source: windows, notification queue and sequence, ungrouped commands (R283, R286, R294). -/
structure Source where
  windows : Tab (Option Window) 4
  notes   : List (List Byte)
  noteSeq : Nat
  waiting : List Cmd
  exec    : Option Cmd
  deriving DecidableEq, Repr

def Source.reset : Source :=
  { windows := Tab.fill 4 none, notes := [], noteSeq := 0, waiting := [], exec := none }

/-- An open weft load (R111): its source, its LENGTH, and the address ranges written so far. -/
structure WeftLoad where
  src     : Src
  length  : Nat
  written : List (Nat × Nat)
  deriving DecidableEq, Repr

/-- The command interface registers of R306 and all that stands behind them. `rxUntil` is the instant at which the packets received so far have
left the receive buffer (R278; log entry 27). -/
structure Commands where
  canEn      : Bool
  canCh      : Nat
  canIde     : Bool
  canNoteEn  : Bool
  canRxId    : Nat
  canTxId    : Nat
  canNoteId  : Nat
  crcFail    : Nat
  authFail   : Nat
  rxOverflow : Nat
  noteLost   : Nat
  sessions   : Tab (Option Session) 4
  sources    : Tab Source 6
  groups     : Tab Group 16
  nextId     : Nat
  serving    : Bool
  load       : Option WeftLoad
  rxUntil    : Nat
  deriving DecidableEq, Repr

def Commands.reset : Commands :=
  { canEn := false, canCh := 0, canIde := false, canNoteEn := false, canRxId := 0, canTxId := 0, canNoteId := 0,
    crcFail := 0, authFail := 0, rxOverflow := 0, noteLost := 0, sessions := Tab.fill 4 none,
    sources := Tab.fill 6 Source.reset, groups := Tab.fill 16 Group.reset, nextId := 0, serving := false, load := none,
    rxUntil := 0 }

end Sys2Proof.Machine
end

