-- ==== Sys2Proof/Machine/StSupply.lean ====
section
/-! DEFINITION. The state of the supplies (spec/01), the clocks, the warp and the shuttle links (spec/02) and the
power states (spec/19). -/

namespace Sys2Proof.Machine

open Sys2Proof

/-- An AUX loss in progress (R29): when it was declared, the lowest AUX voltage, and whether AUX has been restored. -/
structure AuxLoss where
  at_      : Nat
  lowest   : Nat
  restored : Bool
  wrote    : Bool
  deriving DecidableEq, Repr

/-- The supply monitor (R32) and what stands behind it. `sums` are the sums of the envelope guard, 0.1 A; `dissLog` the evaluations of the
latest 60 s, latest first, each its instant and the dissipation in µW, `dissAt` the instant of the latest evaluation (R190). -/
structure Supply where
  auxBand   : Bool
  low       : Tab Bool 4
  fpPresent : Bool
  auxDip    : Bool
  lowSeen   : Tab Bool 4
  vbusFault : Bool
  vbusOn    : Bool
  vbusOffAt : Nat
  auxMv     : Nat
  pwrMv     : Tab Nat 4
  fpMv      : Nat
  sums      : Tab Nat 4
  baseTemp  : Int
  diss1     : Nat
  diss60    : Nat
  dissLog   : List (Nat × Nat)
  dissAt    : Nat
  loss      : Option AuxLoss
  deriving DecidableEq, Repr

/-- R32: every field is 0 at reset and at a Keep-domain cold start. -/
def Supply.reset : Supply :=
  { auxBand := false, low := Tab.fill 4 false, fpPresent := false, auxDip := false, lowSeen := Tab.fill 4 false,
    vbusFault := false, vbusOn := true, vbusOffAt := 0, auxMv := 0, pwrMv := Tab.fill 4 0, fpMv := 0,
    sums := Tab.fill 4 0, baseTemp := 0, diss1 := 0, diss60 := 0, dissLog := [], dissAt := 0, loss := none }

/-- A shuttle word (R57, R58). `resent` marks the one retransmission of R60; `ref` is the host command a SERVICE word carries, 0 for none. -/
structure ShWord where
  typ     : Nat
  seq     : Nat
  payload : BitVec 64
  crc     : Nat
  resent  : Bool
  ref     : Nat
  deriving DecidableEq, Repr

/-- The CRC-16 of the shuttles (R57): polynomial 0x8BB7, initial value 0xFFFF. The order of the bits within a byte is DEDUCED (log entry 111):
most significant first. -/
def shuttleCheck (p : List Byte) : Nat := p.foldl (fun c b => crcStep 16 0x8BB7 8 (c ^^^ (b.toNat * 256))) 0xFFFF

/-- The CRC of a shuttle word (R57): over PAYLOAD, TYPE and SEQ, least significant byte first. -/
def shuttleCrc (payload : BitVec 64) (typ seq : Nat) : Nat := shuttleCheck (le 8 payload.toNat ++ le 1 typ ++ le 1 seq)

/-- The word that PAYLOAD, TYPE and SEQ make (R57). -/
def ShWord.make (typ seq : Nat) (p : BitVec 64) (ref : Nat := 0) : ShWord :=
  { typ := typ, seq := seq, payload := p, crc := shuttleCrc p typ seq, resent := false, ref := ref }

/-- A directed shuttle link (R59 to R63): words in flight oldest first, words the sender holds until the link has room, words accepted whose
ACK has not arrived, words a retransmit request is out for. A held word is its TYPE, its PAYLOAD and the host command it carries. -/
structure Link where
  txSeq   : Nat
  rxSeq   : Nat
  fly     : List ShWord
  hold    : List (Nat × BitVec 64 × Nat)
  unacked : Nat
  retry   : List ShWord
  deriving DecidableEq, Repr

/-- A link after power-up or a reset of either end. The first SEQ and the first number expected are 0: the spec gives none (DESIGN CHOICE, log
entry 112). -/
def Link.reset : Link := { txSeq := 0, rxSeq := 0, fly := [], hold := [], unacked := 0, retry := [] }

/-- A directed link: 0 to 8 are those of R61; 9 to 15 lead from the service core to I4, I5, I0, I1, I3, I7 and I8, 16 to 22 back from them. -/
abbrev LinkNo := Fin 23

/-- The sending and the receiving island of a link (R61); links 7 and 8 end in I4, where the barrier's logic end is. -/
def LinkNo.ends (k : LinkNo) : Nat × Nat :=
  ([(1, 4), (1, 5), (1, 3), (3, 1), (4, 1), (5, 1), (1, 8), (1, 4), (4, 1), (2, 4), (2, 5), (2, 0), (2, 1), (2, 3), (2, 7), (2, 8),
    (4, 2), (5, 2), (0, 2), (1, 2), (3, 2), (7, 2), (8, 2)] : List (Nat × Nat)).getD k.1 (0, 0)

/-- The link that leads back, on which the receiver's ACKs travel (R63); R61 lists none for Loom → Twin. -/
def LinkNo.back (k : LinkNo) : Option LinkNo :=
  ([some 4, some 5, some 3, some 2, some 0, some 1, none, some 8, some 7, some 16, some 17, some 18, some 19, some 20, some 21, some 22,
    some 9, some 10, some 11, some 12, some 13, some 14, some 15] : List (Option LinkNo)).getD k.1 none

/-- The link number of R61 that records carry. -/
def LinkNo.num (k : LinkNo) : Nat := if k.1 < 9 then k.1 else 16 + 9 * k.ends.1 + k.ends.2

/-- The clock registers of R66 and the clock tree of R41 to R51. `avail`, `edgeAt` and `validAt` (the latest
valid measurement) are indexed by TRIM_SRC; `stableAt` is the start of the 10 s of R64, `retryFrom` the latest failed start of R45. -/
structure Clock where
  refXo        : Bool
  xoEnabled    : Bool
  xoEver       : Bool
  startAt      : Nat
  xoEnabledAt  : Nat
  attempts     : Nat
  settled      : Bool
  onPll        : Tab Bool 9
  i7Run        : Bool
  i8Run        : Bool
  xoOk         : Bool
  hfoTrimmed   : Bool
  trimSrc      : Nat
  lfoTrimmed   : Bool
  clkStuck     : Bool
  xoLost       : Bool
  xoFail       : Bool
  warpErr      : Bool
  pllLost      : Tab Bool 9
  hfoTrim      : Int
  hfoDev       : Int
  lfoDev       : Int
  avail        : Tab Bool 6
  edgeAt       : Tab (Option Nat) 6
  validAt      : Tab Nat 6
  holdTemp     : Int
  trimAt       : Nat
  lossAt       : Option Nat
  stableAt     : Option Nat
  retryFrom    : Option Nat
  deriving DecidableEq, Repr

/-- CLK_CONFIG and CAN_SYNC_ID (R66). -/
structure ClockCfg where
  syncInMode    : Nat
  canSyncEn     : Bool
  canSyncCh     : Nat
  canSyncIde    : Bool
  gptpTrimEn    : Bool
  warpPtpEn     : Bool
  canSyncPeriod : Nat
  canSyncId     : Nat
  deriving DecidableEq, Repr

/-- The warp (R53 to R56): the keeper's count, the islands' local counters, PTP's lead over it, whether the
phase lies within 1 µs, captured high words.
`ticks` counts the ticks of warp time, whatever steps it makes (R55, R196). -/
structure WarpTime where
  warp     : Warp
  loc      : Tab Warp 9
  offset   : Warp
  phaseOk  : Bool
  capHi    : Word
  capOffHi : Word
  saved    : Warp
  savedAt  : Nat
  ticks    : Nat
  deriving DecidableEq, Repr

/-- R44 step 1 at the first power-up: the HFO is selected, the XO just enabled. -/
def Clock.reset : Clock :=
  { refXo := false, xoEnabled := true, xoEver := false, startAt := 0, xoEnabledAt := 0, attempts := 1,
    settled := false, onPll := Tab.fill 9 true, i7Run := false, i8Run := false, xoOk := false, hfoTrimmed := false,
    trimSrc := 0, lfoTrimmed := false, clkStuck := false, xoLost := false, xoFail := false, warpErr := false,
    pllLost := Tab.fill 9 false, hfoTrim := 0, hfoDev := 0, lfoDev := 0, avail := Tab.fill 6 false,
    edgeAt := Tab.fill 6 none, validAt := Tab.fill 6 0, holdTemp := 0, trimAt := 0, lossAt := none, stableAt := none, retryFrom := none }

/-- R66: cold-start values. -/
def ClockCfg.reset : ClockCfg :=
  { syncInMode := 0, canSyncEn := false, canSyncCh := 0, canSyncIde := false, gptpTrimEn := true, warpPtpEn := true,
    canSyncPeriod := 100, canSyncId := 0 }

/-- R56: warp time starts at 0. -/
def WarpTime.reset : WarpTime :=
  { warp := 0, loc := Tab.fill 9 0, offset := 0, phaseOk := false, capHi := 0, capOffHi := 0, saved := 0, savedAt := 0, ticks := 0 }

/-- The five power states (R494). -/
inductive PowerState where
  | run | idle | sleep | deep | off
  deriving DecidableEq, Repr

/-- The STATE numbers of R509. -/
def PowerState.num : PowerState → Nat
  | .run => 0 | .idle => 1 | .sleep => 2 | .deep => 3 | .off => 4

/-- The wake-source record and the power configuration (R507 to R510) and the timers of R495 to R499. `entering` tells that an entry into
Sleep has begun, `forced` the state PWR_ENTER asked for and when, `latched` a wake event accepted (R500), `wakeDue` that record 0x0002 is
due, `coldDue` that the Keep domain holds nothing valid. -/
structure Power where
  state      : PowerState
  domains    : Tab Bool 10
  islandUp   : Tab Bool 9
  t1         : Nat
  t2         : Nat
  t3         : Nat
  t4         : Nat
  wakeTimer  : Nat
  srcEn      : Nat
  stateLeft  : Nat
  lastSource : Nat
  detail     : Nat
  wakeOpSec  : Nat
  wakeCounts : Tab Nat 9
  savedWakes : Tab Nat 9
  idleSince  : Nat
  sleepSince : Nat
  sleepAt    : Nat
  t3Used     : Nat
  t3From     : Option Nat
  deepAt     : Nat
  entering   : Bool
  latched    : Option (Nat × Nat)
  wakeDue    : Bool
  forced     : Option (PowerState × Nat)
  offLatch   : Bool
  coldDue    : Bool
  deriving DecidableEq, Repr

/-- R510: the first power-up values; the module starts in Run with every domain powered. -/
def Power.reset : Power :=
  { state := .run, domains := Tab.fill 10 true, islandUp := Tab.fill 9 true, t1 := 10, t2 := 60, t3 := 86400, t4 := 30,
    wakeTimer := 0, srcEn := 0x3FE, stateLeft := 0, lastSource := 0, detail := 0, wakeOpSec := 0,
    wakeCounts := Tab.fill 9 0, savedWakes := Tab.fill 9 0, idleSince := 0, sleepSince := 0, sleepAt := 0, t3Used := 0,
    t3From := none, deepAt := 0, entering := false, latched := none, wakeDue := false, forced := none, offLatch := false, coldDue := true }

end Sys2Proof.Machine
end

