-- ==== Sys2Proof/Machine/StSwitch.lean ====
section
/-! DEFINITION. The state of the switch island I4 (spec/05, spec/06): 48 channels, the common block, the envelope
guard, inrush admission and the thermal budget monitor. Durations are kept as instants of true time in µs; edges of the
pulse generators, and the origin of a ramp, as instants in units of 20 ns (R142). -/

namespace Sys2Proof.Machine

open Sys2Proof

/-- A load switch channel; SWn has index n − 1 (R133). -/
abbrev ChNo := Fin 48

/-- A power input PWR_A to PWR_D. -/
abbrev PwrNo := Fin 4

/-- The six modes (R137). -/
inductive Mode where
  | off | on | pwm | pulse | softOn | softPwm
  deriving DecidableEq, Repr

/-- MODE codes (R137). -/
def Mode.num : Mode → Nat
  | .off => 0 | .on => 1 | .pwm => 2 | .pulse => 3 | .softOn => 4 | .softPwm => 5

/-- The mode with a code. -/
def Mode.ofNum : Nat → Option Mode
  | 0 => some .off | 1 => some .on | 2 => some .pwm | 3 => some .pulse | 4 => some .softOn | 5 => some .softPwm
  | _ => none

/-- Does the mode follow the pulse generator (R138)? -/
def Mode.isPwm : Mode → Bool
  | .pwm | .softOn | .softPwm => true
  | _ => false

/-- Who commands an object (R127). -/
inductive Owner where
  | none | weft | host
  deriving DecidableEq, Repr

/-- The OWNER field of R164 and R227. -/
def Owner.num : Owner → Nat
  | .none => 0 | .weft => 1 | .host => 2

/-- The protective states (R167): a pause carries its end, a thermal wait its beginning. -/
inductive Prot where
  | normal
  | pause (endAt : Nat)
  | thermalWait (since : Nat)
  | latched
  deriving DecidableEq, Repr

/-- The configuration registers of a channel (R164), as stored. -/
structure ChCfg where
  profile     : Nat
  pg          : Fin 4
  autoPhase   : Bool
  olOffEn     : Bool
  policy      : Nat
  safeValue   : Bool
  sleepHold   : Bool
  twinShared  : Bool
  iNom        : Nat
  safeAfter   : Nat
  retryN      : Nat
  p0Ms        : Nat
  retryWindow : Nat
  olThresh    : Nat
  olTime      : Nat
  deriving DecidableEq, Repr

/-- The W1C flags of CH_FLAGS (R164). -/
structure ChFlags where
  short          : Bool
  overcurrent    : Bool
  thermal        : Bool
  openLoadOn     : Bool
  openLoadOff    : Bool
  shed           : Bool
  dutyClamped    : Bool
  pulseDone      : Bool
  orphanSafe     : Bool
  cfgDenied      : Bool
  sleepTrip      : Bool
  profileInvalid : Bool
  deriving DecidableEq, Repr

/-- The fields of a channel command (R152). -/
structure ChCmd where
  mode  : Mode
  duty  : Nat
  phase : Nat
  arg   : Nat
  deriving DecidableEq, Repr

/-- What the pulse generator and the mode timers hold (R137 to R142): target duty and argument, ramp origin, pulse end,
a change waiting for L′, a phase AUTO_PHASE waits to apply, the next period start, the off edge to come and the last one. -/
structure Wave where
  target   : Nat
  arg      : Nat
  rampFrom : Nat
  pulseEnd : Nat
  pend     : Option ChCmd
  autoPend : Option Nat
  nextOn   : Nat
  offAt    : Option Nat
  fellAt   : Nat
  deriving DecidableEq, Repr

/-- The inrush profile as it runs (R147): number and clock group latched at the switch-on, the segment (0 after the
last), its origin L. -/
structure ProfRun where
  profile : Nat
  pg      : Fin 4
  segment : Nat
  origin  : Nat
  deriving DecidableEq, Repr

/-- Measurements (R150, R164); `frameSum` and `frameCnt` gather the frame's samples for I_AVG, `onSum` and `onCnt` those with the output on, whose
mean in the latest frame that had any is `iOn`, the on-state current of R40. -/
structure Meas where
  iMeas      : Nat
  iFine      : Nat
  iAvg       : Nat
  iPeak      : Nat
  sampleTick : Nat
  tj         : Int
  frameSum   : Nat
  frameCnt   : Nat
  onSum      : Nat
  onCnt      : Nat
  iOn        : Nat
  deriving DecidableEq, Repr

/-- The held counters of a channel (R164). -/
structure ChCounts where
  switches  : Nat
  onSeconds : Nat
  trips     : Nat
  deriving DecidableEq, Repr

/-- Open-load evaluation (R177 to R180): counted samples and the instants the conditions run from; `onOpen` and `offOpen` tell that a detected
condition has not ended. `offFrom` is the instant from which the channel has been OFF, NORMAL and enabled, `evalFrom` the one at which a
running off-state evaluation began anew. -/
structure OpenLoad where
  counted  : Nat
  since    : Option Nat
  last     : Nat
  onOpen   : Bool
  back     : Option Nat
  offOpen  : Bool
  offFrom  : Nat
  evalFrom : Nat
  deriving DecidableEq, Repr

/-- Orphan hold (R155, R156): its origin, and policy, SAFE_VALUE and SAFE_AFTER_MS as they stood at entry. -/
structure OrphanHold where
  origin    : Nat
  policy    : Nat
  safeValue : Bool
  safeAfter : Nat
  done      : Bool
  deriving DecidableEq, Repr

/-- A next-frame register or a command register: the word's payload and the check computed over it as it came (R330). -/
structure CmdReg where
  payload : BitVec 64
  check   : Nat
  deriving DecidableEq, Repr

/-- A host command waiting at the switch island (R153, R188, R189); `reg` is the command register, its SERVICE word's payload with the command
check (R330). -/
structure HostReq where
  cmd       : Nat
  arrival   : Nat
  body      : ChCmd
  reg       : CmdReg
  firstMark : Option Nat
  lastNeed  : Nat
  lastHave  : Int
  deriving DecidableEq, Repr

/-- A latched weft command, its check, and the tick it is due at (R123, R330). -/
structure Due where
  payload : BitVec 64
  at_     : Nat
  check   : Nat
  deriving DecidableEq, Repr

/-- A channel. `normalAt` is the instant from which it has been NORMAL since its most recent trip (R174), `offAt` that of its latest switch-off
(R180), `tripDue` the kind of a trip in Sleep whose record waits for the wake (R160, R166). -/
structure Chan where
  cfg       : ChCfg
  flags     : ChFlags
  mode      : Mode
  output    : Bool
  owner     : Owner
  orphan    : Option OrphanHold
  sleepHeld : Bool
  duty      : Nat
  phase     : Nat
  wave      : Wave
  run       : ProfRun
  prot      : Prot
  trips     : Nat
  normalAt  : Nat
  tripDue   : Option Nat
  meas      : Meas
  counts    : ChCounts
  overRun   : Nat
  riseAt    : Nat
  onAt      : Nat
  offAt     : Nat
  ol        : OpenLoad
  nextReg   : Option CmdReg
  latched   : Option Due
  waiting   : List HostReq
  need      : Nat
  incNeed   : Nat
  deriving DecidableEq, Repr

/-- The envelope guard on one power input (R181 to R185); `sumMa` is the latest scan's sum in mA (R151). -/
structure Guard where
  first     : Option Nat
  latest    : Nat
  open_     : Bool
  shedding  : Bool
  nextShed  : Nat
  okSince   : Option Nat
  event     : Bool
  maxSum    : Nat
  budget    : Nat
  lastS     : Nat
  lastE     : Nat
  sumTick   : Nat
  sumMa     : Nat
  deriving DecidableEq, Repr

/-- An entry of SW_ADOPT or of an ADOPT record: object, expected state, expected duty (R110, R298). -/
structure AdoptEntry where
  object : Nat
  expect : Nat
  duty   : Nat
  deriving DecidableEq, Repr

/-- A SW_ADOPT command waiting for its frame mark (R298). -/
structure AdoptReq where
  cmd     : Nat
  entries : List AdoptEntry
  deriving DecidableEq, Repr

/-- The frame commit of an island (R121, R122): CMD words accepted since the last COMMIT, and the COMMIT it holds as frame,
count received and count of words accepted. -/
structure CommitState where
  count    : Nat
  held     : Option (Nat × Nat × Nat)
  deriving DecidableEq, Repr

/-- The switch island. `passAt` is the latest passing of a channel to a weft, which R154 counts as a HEARTBEAT; `hyperAt` the place of the
hyperperiod boundaries in true time, µs modulo one second (R142); `scan` the coarse samples of the scan in progress (R150); `saved` the copy of
the channels' counters made at the last AUX loss (R164). -/
structure Switch where
  chans       : Tab Chan 48
  commit      : CommitState
  loomHb      : Option Nat
  svcHb       : Option Nat
  passAt      : Nat
  cfgReject   : Bool
  switchReset : Bool
  pg          : Tab Nat 4
  pgPend      : Tab (Option Nat) 4
  hyperAt     : Nat
  guards      : Tab Guard 4
  thermOver   : Option Nat
  thermShed   : Option Nat
  envEvents   : Nat
  adopts      : List AdoptReq
  arrivals    : Nat
  scan        : Tab (Option Nat) 48
  saved       : Tab ChCounts 48
  deriving DecidableEq, Repr

/-- The classes of R133. -/
inductive SwClass where
  | H | M | L
  deriving DecidableEq, Repr

/-- The class of a channel (R133). -/
def swClass (c : ChNo) : SwClass := if c.1 < 8 then .H else if c.1 < 24 then .M else .L

/-- The power input of a channel (R133). -/
def swInput (c : ChNo) : PwrNo := if c.1 < 8 then 0 else if c.1 < 24 then 1 else 2

/-- Continuous current in mA, short trip in mA, minimum pulse and slew in µs, shortest PG_PERIOD (R133). -/
def SwClass.rating : SwClass → Nat
  | .H => 25000 | .M => 10000 | .L => 3000
def SwClass.shortTrip : SwClass → Nat
  | .H => 150000 | .M => 60000 | .L => 18000
def SwClass.tMin : SwClass → Nat
  | .H => 100 | .M => 40 | .L => 10
def SwClass.slew : SwClass → Nat
  | .H => 50 | .M => 20 | .L => 5
/-- On-resistance in µΩ, the maximum of R133 that R40 uses. -/
def SwClass.onRes : SwClass → Nat
  | .H => 4500 | .M => 14000 | .L => 70000
def SwClass.minPeriod : SwClass → Nat
  | .H => 100000 | .M => 25000 | .L => 2000

/-- R164: reset values of the configuration. -/
def ChCfg.reset (c : ChNo) : ChCfg :=
  { profile := 0, pg := 0, autoPhase := false, olOffEn := false, policy := 2, safeValue := false, sleepHold := false,
    twinShared := false, iNom := (swClass c).rating, safeAfter := 1000, retryN := 5, p0Ms := 10, retryWindow := 600,
    olThresh := 0, olTime := 100 }

def ChFlags.reset : ChFlags :=
  { short := false, overcurrent := false, thermal := false, openLoadOn := false, openLoadOff := false, shed := false,
    dutyClamped := false, pulseDone := false, orphanSafe := false, cfgDenied := false, sleepTrip := false,
    profileInvalid := false }

def Wave.reset : Wave :=
  { target := 0, arg := 0, rampFrom := 0, pulseEnd := 0, pend := none, autoPend := none, nextOn := 0, offAt := none, fellAt := 0 }

def ProfRun.reset : ProfRun := { profile := 0, pg := 0, segment := 0, origin := 0 }

def Meas.reset : Meas :=
  { iMeas := 0, iFine := 0, iAvg := 0, iPeak := 0, sampleTick := 0, tj := 0, frameSum := 0, frameCnt := 0,
    onSum := 0, onCnt := 0, iOn := 0 }

def ChCounts.reset : ChCounts := { switches := 0, onSeconds := 0, trips := 0 }

def OpenLoad.reset : OpenLoad :=
  { counted := 0, since := none, last := 0, onOpen := false, back := none, offOpen := false, offFrom := 0, evalFrom := 0 }

/-- A channel after a reset of the switch island (R158, R164); the held counters are given. -/
def Chan.reset (c : ChNo) (k : ChCounts) : Chan :=
  { cfg := ChCfg.reset c, flags := ChFlags.reset, mode := .off, output := false, owner := .none, orphan := none,
    sleepHeld := false, duty := 0, phase := 0, wave := Wave.reset, run := ProfRun.reset, prot := .normal, trips := 0,
    normalAt := 0, tripDue := none, meas := Meas.reset, counts := k, overRun := 0, riseAt := 0, onAt := 0, offAt := 0,
    ol := OpenLoad.reset, nextReg := none, latched := none, waiting := [], need := 0, incNeed := 0 }

def Guard.reset : Guard :=
  { first := none, latest := 0, open_ := false, shedding := false, nextShed := 0, okSince := none, event := false,
    maxSum := 0, budget := 600, lastS := 0, lastE := 0, sumTick := 0, sumMa := 0 }

def CommitState.reset : CommitState := { count := 0, held := none }

/-- R164, R165, R193: the switch island after a reset; the held counters and their saved copy are given. -/
def Switch.resetWith (k saved : Tab ChCounts 48) (events : Nat) : Switch :=
  { chans := (Tab.fill 48 (Chan.reset 0 ChCounts.reset)).mapIdx fun c _ => Chan.reset c (k.get c),
    commit := CommitState.reset, loomHb := none, svcHb := none, passAt := 0, cfgReject := false, switchReset := true,
    pg := Tab.ofList [250000, 50000, 25000, 2500] 0, pgPend := Tab.fill 4 none, hyperAt := 0,
    guards := Tab.fill 4 Guard.reset, thermOver := none, thermShed := none, envEvents := events, adopts := [],
    arrivals := 0, scan := Tab.fill 48 none, saved := saved }

def Switch.reset : Switch := Switch.resetWith (Tab.fill 48 ChCounts.reset) (Tab.fill 48 ChCounts.reset) 0

end Sys2Proof.Machine
end

