-- ==== Sys2Proof/Machine/StWeft.lean ====
section
/-! DEFINITION. The state of the wefts (spec/04): the weft store with each committed weft as the loader read it, the
start, stop and swap in progress, and the activations of the tasks. -/

namespace Sys2Proof.Machine

open Sys2Proof

/-- FAULT_POLICY (R107). -/
inductive FaultPolicy where
  | continue | end_ | stop
  deriving DecidableEq, Repr

/-- A TASKS entry (R107). -/
structure TaskDesc where
  entry    : Nat
  winLo    : Nat
  winHi    : Nat
  period   : Nat
  phase    : Nat
  wcet     : Nat
  deadline : Nat
  policy   : FaultPolicy
  deriving DecidableEq, Repr

/-- A segment record (R108). -/
structure SegDesc where
  start  : Nat
  task   : Nat
  budget : Nat
  deriving DecidableEq, Repr

/-- A CHANNEL record (R110); `offset` is its byte offset in DECL. -/
structure ChanDecl where
  chan       : ChNo
  profile    : Nat
  policy     : Nat
  safeValue  : Bool
  pg         : Fin 4
  sleepHold  : Bool
  twinShared : Bool
  safeAfter  : Nat
  crc        : Nat
  offset     : Nat
  deriving DecidableEq, Repr

/-- An actuator AC01 to AC12; ACn has index n − 1. -/
abbrev AcNo := Fin 12

/-- An ACTUATOR record (R110). -/
structure ActDecl where
  act        : AcNo
  bobbin     : Nat
  policy     : Nat
  twinShared : Bool
  crc        : Nat
  offset     : Nat
  deriving DecidableEq, Repr

/-- A SHED record (R110). -/
structure ShedDecl where
  input : PwrNo
  order : List ChNo
  deriving DecidableEq, Repr

/-- An ADOPT record (R110). -/
structure AdoptDecl where
  entry  : AdoptEntry
  refuse : Bool
  deriving DecidableEq, Repr

/-- The declarations of a weft (R110). -/
structure Decl where
  chans  : List ChanDecl
  acts   : List ActDecl
  sheds  : List ShedDecl
  adopts : List AdoptDecl
  status : Option Nat
  deriving DecidableEq, Repr

/-- A committed weft (R113): its image as stored, and what the loader read from it. `data` and `carry` are load addresses
and bytes (R106). -/
structure Weft where
  image       : List Byte
  id          : Nat
  layout      : Nat
  secVersion  : Nat
  carryTag    : Nat
  tasks       : List TaskDesc
  frameMap    : List Nat
  templates   : List (List SegDesc)
  envelope    : List Nat
  decl        : Decl
  data        : Option (Nat × List Byte)
  carry       : Option (Nat × List Byte)
  autostart   : Bool
  deriving DecidableEq, Repr

/-- The slot of the weft store an area uses: half 0 and the whole in slot 0, half 1 in slot 1 (R114). -/
abbrev Slot2 := Fin 2

/-- A start in progress (R129): the store slot, the first warp frame, the command waiting, AUTOSTART as asked, whether the
ownership evaluation has passed, whether it is a restart of R114, and whether both twins start together (R403, R410). -/
structure Starting where
  slot      : Slot2
  frame     : Nat
  cmd       : Option Nat
  autostart : Bool
  evaluated : Bool
  restart   : Bool
  twin      : Bool
  deriving DecidableEq, Repr

/-- A swap in progress (R131). -/
structure Swapping where
  target    : Slot2
  frame     : Nat
  cmd       : Option Nat
  evaluated : Bool
  twin      : Bool
  deriving DecidableEq, Repr

/-- A stop waiting for the end of the frame it executed in (R130). -/
structure Stopping where
  frame  : Nat
  toHost : Bool
  reason : Nat
  cmd    : Option Nat
  deriving DecidableEq, Repr

/-- A task's activation and saved context (R74, R115, R118). `rep` is the repeat state: REPI and the address of the repeated
instruction. -/
structure TaskRun where
  open_    : Bool
  released : Nat
  cycles   : Nat
  wcetDone : Bool
  pc       : Nat
  flg      : Nat
  rpc      : Nat
  wbase    : Nat
  rep      : Option (Bool × Nat)
  deriving DecidableEq, Repr

/-- The wefts. `lastRun` is the last warp frame run; `sent` counts the CMD words entered on the Switch and Drive links in
this frame (R121); `autoTry` says that a restart of R114 waits, `haltDue` that the weft
stops at the next segment boundary (R51). -/
structure Wefts where
  store    : Tab (Option Weft) 2
  running  : Option Slot2
  starting : Option Starting
  swapping : Option Swapping
  stopping : Option Stopping
  lastRun  : Nat
  sent     : Tab Nat 2
  tasks    : Tab TaskRun 64
  autoTry  : Bool
  haltDue  : Bool
  deriving DecidableEq, Repr

def TaskRun.reset : TaskRun :=
  { open_ := false, released := 0, cycles := 0, wcetDone := false, pc := 0, flg := 0, rpc := 0, wbase := 0, rep := none }

/-- At the first power-up the weft store is empty. -/
def Wefts.reset : Wefts :=
  { store := Tab.fill 2 none, running := none, starting := none, swapping := none, stopping := none, lastRun := 0,
    sent := Tab.fill 2 0, tasks := Tab.fill 64 TaskRun.reset, autoTry := false, haltDue := false }

end Sys2Proof.Machine
end

