-- ==== Sys2Proof/Machine/StDrive.lean ====
section
/-! DEFINITION. The state of the drive island I5 (spec/07, spec/08): twelve actuator channels with their bobbin engines, six
banks, the boost rail. Times of the engines are warp ticks (R196); the bobbin store is memory at 0x2210_0000 (R241). -/

namespace Sys2Proof.Machine

open Sys2Proof

/-- A bank BK1 to BK6; BKn has index n − 1 (R195). -/
abbrev BankNo := Fin 6

/-- The bank of a channel (R195). -/
def acBank (c : AcNo) : BankNo := ⟨c.1 / 2, by omega⟩

/-- The configuration registers of a channel (R227), in the units of the registers. -/
structure AcCfg where
  bobbin      : Fin 16
  learnEn     : Bool
  holdMinEn   : Bool
  policy      : Nat
  twinShared  : Bool
  safeAfter   : Nat
  iPeak       : Nat
  iHold       : Nat
  tBoostMin   : Nat
  tBoostMax   : Nat
  tPeak       : Nat
  holdHyst    : Nat
  ttpMin      : Nat
  ttpMax      : Nat
  kinkMin     : Nat
  kinkMax     : Nat
  kinkAvg     : Nat
  kinkEnd     : Bool
  kinkReq     : Bool
  kinkAction  : Bool
  kinkThresh  : Nat
  boostExtend : Nat
  holdMargin  : Nat
  holdFloor   : Nat
  dutyWindow  : Nat
  dutyLimit   : Nat
  deriving DecidableEq, Repr

/-- The phases (R202). -/
inductive Phase where
  | released | wait | boost | peak | hold | decay | fastDecay
  deriving DecidableEq, Repr

/-- The codes of R202. -/
def Phase.num : Phase → Nat
  | .released => 0 | .wait => 1 | .boost => 2 | .peak => 3 | .hold => 4 | .decay => 5 | .fastDecay => 6

/-- The source request of an engine (R230). -/
inductive SrcReq where
  | off | batt | boost
  deriving DecidableEq, Repr

/-- The regulation of an engine, with its level in mA (R230). -/
inductive Regul where
  | none | peak (level : Nat) | hold (level : Nat)
  deriving DecidableEq, Repr

/-- An armed guard slot (R238): the condition is a kink or a current, with the values captured. -/
structure GuardSlot where
  onKink : Bool
  vl     : Nat
  vt     : Nat
  origin : Nat
  diag   : Nat
  action : Nat
  deriving DecidableEq, Repr

/-- A bobbin engine (R230, R247). `request` is the instant a boost was asked for; `capped`
tells that the energy cap ended the boost; `boostAt` is B; `lowKept` that the low side has been on since B, `holdSeen` that REG with
HOLD = 1 has executed; `left` is how many instructions the engine may still execute in the latest update (R237); `samples` are
the coil-voltage samples of the kink detector, latest first. -/
structure Engine where
  run       : Bool
  pc        : Nat
  v         : Tab Nat 8
  m         : Tab Nat 4
  c         : Tab Nat 2
  src       : SrcReq
  ls        : Bool
  reg       : Regul
  guards    : Tab (Option GuardSlot) 2
  arg       : Nat
  tClose    : Nat
  ttp       : Nat
  stampUser : Nat
  program   : Fin 16
  error     : Nat
  request   : Option Nat
  capped    : Bool
  boostAt   : Option Nat
  lowKept   : Bool
  holdSeen  : Bool
  left      : Nat
  samples   : List Int
  kink      : Bool
  learned   : Bool
  diag      : Option Nat
  deriving DecidableEq, Repr

/-- Orphan hold of an actuator (R222): origin, policy and SAFE_AFTER_MS as at entry; `done` once the policy has acted. -/
structure AcOrphan where
  origin    : Nat
  policy    : Nat
  safeAfter : Nat
  done      : Bool
  deriving DecidableEq, Repr

/-- A host AC_FIRE or AC_RELEASE that has reached the drive island (R221): none in `arg` is a release; `reg` is the command register (R330). -/
structure AcReq where
  cmd : Nat
  arg : Option Nat
  reg : CmdReg
  deriving DecidableEq, Repr

/-- A channel. `rest` is its phase while no program runs; `low` its low side; `belowSince`, `openSince`, `unreachSince` are
the instants the conditions of R214 and R216 run from; `dropout` tells that the drop-out detector runs, and whether it may
learn (R208); `leakSince` is the instant from which a RELEASED channel has carried 100 mA with its node fed (R216); `updAt` and `sampledAt` are the tick
count and the warp tick of the latest control update (R196, R220); `active` and `hist` are the intervals in BOOST and PEAK (R213); `fwAt` the
setting of the free-wheel latch; `relMa` the sum of the currents at the releases since the latest evaluation of the thermal budget (R40). -/
structure Coil where
  cfg          : AcCfg
  flags        : BitVec 14
  userFault    : Bool
  rest         : Phase
  low          : Bool
  owner        : Owner
  orphan       : Option AcOrphan
  eng          : Engine
  iCoil        : Nat
  relMa        : Nat
  uCoil        : Int
  closeLearned : Nat
  dropLearned  : Nat
  boostEnergy  : Nat
  active       : Option Nat
  hist         : List (Nat × Nat)
  actCount     : Nat
  diagCount    : Nat
  belowSince   : Option Nat
  openSince    : Option Nat
  unreachSince : Option Nat
  unreachDone  : Bool
  dropout      : Option Bool
  leakSince    : Option Nat
  updAt        : Option Nat
  sampledAt    : Nat
  fwAt         : Option Nat
  fire         : Option Nat
  nextReg      : Option CmdReg
  latched      : Option Due
  waiting      : List AcReq
  deriving DecidableEq, Repr

/-- A bank (R195, R200, R212, R217). -/
structure Bank where
  holder   : Option AcNo
  defer    : Nat
  overload : Bool
  fault    : Bool
  mean     : Nat
  meanAt   : Nat
  deriving DecidableEq, Repr

/-- The drive island; its times are tick counts (R196), `vboostAt` the warp tick of the latest VBOOST. `passAt` is the passing of a channel to the
weft, which counts as a heartbeat (R154). `failFrom` is the instant unstopped recharging below VB_START began, `failed` that BOOST_FAIL has been
raised in it (R198); `bobValid` is BOB_VALID (R248). -/
structure Drive where
  acts       : Tab Coil 12
  banks      : Tab Bank 6
  commit     : CommitState
  loomHb     : Option Nat
  svcHb      : Option Nat
  passAt     : Nat
  vboost     : Nat
  vboostAt   : Nat
  vbSet      : Nat
  vbStart    : Nat
  recharging : Bool
  failFrom   : Option Nat
  failed     : Bool
  driveReset : Bool
  boostFail  : Bool
  vboostOv   : Bool
  cfgReject  : Bool
  bobValid   : Nat
  deriving DecidableEq, Repr

/-- The value that tells no time (R206, R227). -/
def noTime : Nat := 0xFFFFF

/-- R227: reset values of the configuration. -/
def AcCfg.reset : AcCfg :=
  { bobbin := 0, learnEn := true, holdMinEn := false, policy := 2, twinShared := false, safeAfter := 1000, iPeak := 2000,
    iHold := 500, tBoostMin := 2, tBoostMax := 1000, tPeak := 200, holdHyst := 0, ttpMin := 10, ttpMax := 2000,
    kinkMin := 10, kinkMax := 2000, kinkAvg := 1, kinkEnd := false, kinkReq := false, kinkAction := false,
    kinkThresh := 500, boostExtend := 100, holdMargin := 50, holdFloor := 500, dutyWindow := 10, dutyLimit := 20 }

/-- R247: an engine after a reset. -/
def Engine.reset : Engine :=
  { run := false, pc := 0, v := Tab.fill 8 0, m := Tab.fill 4 0, c := Tab.fill 2 0, src := .off, ls := false, reg := .none,
    guards := Tab.fill 2 none, arg := 0, tClose := noTime, ttp := noTime, stampUser := noTime, program := 0, error := 0,
    request := none, capped := false, boostAt := none, lowKept := false, holdSeen := false, left := 32, samples := [], kink := false, learned := false,
    diag := none }

/-- A channel after a reset of the drive island (R224, R227); the held counters, the phase and the latch are given. -/
def Coil.reset (counts : Nat × Nat) (rest : Phase) (fwAt : Option Nat) : Coil :=
  { cfg := AcCfg.reset, flags := 0, userFault := false, rest := rest, low := false, owner := .none, orphan := none,
    eng := Engine.reset, iCoil := 0, relMa := 0, uCoil := 0, closeLearned := noTime, dropLearned := 0, boostEnergy := 0,
    active := none, hist := [], actCount := counts.1, diagCount := counts.2, belowSince := none, openSince := none,
    unreachSince := none, unreachDone := false, dropout := none, leakSince := none, updAt := none,
    sampledAt := 0, fwAt := fwAt, fire := none, nextReg := none,
    latched := none, waiting := [] }

def Bank.reset : Bank := { holder := none, defer := 20, overload := false, fault := false, mean := 0, meanAt := 0 }

/-- The drive island around given channels, at the reset values of R228. -/
def Drive.resetWith (acts : Tab Coil 12) : Drive :=
  { acts := acts, banks := Tab.fill 6 Bank.reset, commit := CommitState.reset, loomHb := none, svcHb := none, passAt := 0, vboost := 0, vboostAt := 0,
    vbSet := 58000, vbStart := 52000, recharging := false, failFrom := none, failed := false, driveReset := true,
    boostFail := false, vboostOv := false, cfgReject := false, bobValid := 1 }

def Drive.reset : Drive := Drive.resetWith (Tab.fill 12 (Coil.reset (0, 0) .released none))

end Sys2Proof.Machine
end

