-- ==== Sys2Proof/Machine/StField.lean ====
section
/-! DEFINITION. The state of the field inputs and outputs (spec/09): the field side I6, and the logic end of the barrier in the
switch island. -/

namespace Sys2Proof.Machine

open Sys2Proof

/-- The configuration of one filtered input (R270). -/
structure InCfg where
  filter  : Nat
  chatEn  : Bool
  freeze  : Bool
  tStuck  : Nat
  deriving DecidableEq, Repr

/-- The field configuration registers (R270). -/
structure FieldCfg where
  chatterN : Nat
  chatterW : Nat
  wakeEn   : Nat
  weftMask : BitVec 16
  fsEn     : BitVec 16
  fsValue  : BitVec 16
  inputs   : Tab InCfg 24
  edges    : Tab Nat 8
  deriving DecidableEq, Repr

/-- One filtered input (R254 to R256): R254's value, consecutive differing samples, the reported value, barrier frames it has
been 1, the monitors, and the instants of the changes in the chatter window. -/
structure Input where
  value    : Bool
  count    : Nat
  reported : Bool
  ones     : Nat
  stuck    : Bool
  chatter  : Bool
  changes  : List Nat
  deriving DecidableEq, Repr

/-- One output (R259): the value applied, whether protection holds it off, FO_OVERLOAD. -/
structure FieldOut where
  applied  : Bool
  held     : Bool
  overload : Bool
  deriving DecidableEq, Repr

/-- A frame from the logic side to the field side (R265); `cmd` is the FIO_CONFIG whose value it carries, `crc` its byte 19. -/
structure LogicFrame where
  seq       : Nat
  k         : Nat
  forceSafe : Bool
  replay    : Bool
  cfg       : Option (Nat × Nat)
  cmd       : Option Nat
  values    : BitVec 16
  clear     : BitVec 27
  foClear   : BitVec 16
  crc       : Nat
  deriving DecidableEq, Repr

/-- Bytes 0 to 18 of a logic frame (R265). -/
def LogicFrame.body (r : LogicFrame) : List Byte :=
  le 1 r.seq ++ le 1 r.k ++ le 1 (b2n r.forceSafe + 2 * b2n r.replay) ++ le 1 ((r.cfg.map fun c => c.1 / 4).getD 0) ++ le 2 r.values.toNat ++
    zeros 2 ++ le 4 ((r.cfg.map fun c => c.2).getD 0) ++ le 4 r.clear.toNat ++ le 2 r.foClear.toNat ++ zeros 1

/-- The frame with its CRC-8, and whether a frame carries its own (R265). -/
def LogicFrame.seal (r : LogicFrame) : LogicFrame := { r with crc := crc8 r.body }
def LogicFrame.good (r : LogicFrame) : Bool := r.crc == crc8 r.body

/-- A frame from the field side to the logic side (R265): the snapshot words and its byte 71; `start` is the number of the start that the
FIELD_START bit stands for; group sums and the down-frame errors travel with it. -/
structure FieldFrame where
  seq     : Nat
  k       : Nat
  start   : Option Nat
  words   : Tab Nat 16
  groups  : Nat × Nat
  downCrc : Nat
  crc     : Nat
  deriving DecidableEq, Repr

/-- Bytes 0 to 70 of a field frame (R265). -/
def FieldFrame.body (r : FieldFrame) : List Byte :=
  le 1 r.seq ++ le 1 r.k ++ le 1 (b2n r.start.isSome) ++ zeros 1 ++ (r.words.toList.flatMap fun w => le 4 w) ++ zeros 3

def FieldFrame.seal (r : FieldFrame) : FieldFrame := { r with crc := crc8 r.body }
def FieldFrame.good (r : FieldFrame) : Bool := r.crc == crc8 r.body

/-- The field side. `fed`: FP24 has risen above 18.0 V and not fallen below 16.0 V since. `sumFor` counts, for each group, the barrier frames
since its sum rose above 4.0 A or since R260 last acted. `got`: a frame has been accepted since the last frame start. `frameAt` is the instant
of the last frame. `done` are the FIO_CONFIG commands whose values it has applied and not confirmed. -/
structure FieldSide where
  running     : Bool
  fed         : Bool
  sumFor      : Tab (Option Nat) 2
  got         : Bool
  frameAt     : Nat
  starts      : Nat
  starting    : Bool
  sawReplay   : Bool
  cause       : Nat
  cfg         : FieldCfg
  inputs      : Tab Input 24
  raw         : BitVec 32
  counters    : Tab (BitVec 32) 8
  overspeed   : BitVec 8
  wrap        : BitVec 8
  outs        : Tab FieldOut 16
  groupLimit  : BitVec 2
  readback    : BitVec 16
  groups      : Nat × Nat
  fpMv        : Nat
  logicSilent : Bool
  silent      : Nat
  fsApplied   : Bool
  rxSeq       : Option Nat
  txSeq       : Nat
  downCrc     : Nat
  rx          : Option LogicFrame
  done        : List (Nat × Nat)
  deriving DecidableEq, Repr

/-- A host FIO_SET at the barrier interface (R261): whether a frame has carried it. -/
structure FioReq where
  cmd  : Nat
  sent : Bool
  deriving DecidableEq, Repr

/-- A configuration write in the queue (R270): offset, value, and the FIO_CONFIG that waits for it. -/
structure CfgWrite where
  off   : Nat
  value : Nat
  cmd   : Option Nat
  deriving DecidableEq, Repr

/-- The field block: the logic end of the barrier and the field side. `heard`: a field frame has been accepted since the last frame start.
`crcLog` holds the instants of the frames of the last second that failed CRC-8, latest first. `checks` are the CRC-16s of the snapshot words (R267).
`sentCfg` are the FIO_CONFIG commands whose values a frame has carried and the field side has not confirmed, with their offsets. `due` counts the
words of the Loom that belong in the frame now being sent (R261). `unsent` are the registers written while FP24_PRESENT was 0 (R270). -/
structure Field where
  side       : FieldSide
  mirror     : FieldCfg
  stale      : Bool
  replay     : Option (List Nat)
  seenStart  : Nat
  startFlag  : Bool
  missing    : Nat
  heard      : Bool
  upCrc      : Nat
  crcLog     : List Nat
  crcAt      : Option Nat
  words      : Tab Nat 16
  checks     : Tab Nat 16
  groups     : Nat × Nat
  downCrc    : Nat
  values     : BitVec 16
  clear      : BitVec 27
  foClear    : BitVec 16
  queue      : List CfgWrite
  unsent     : List Nat
  txSeq      : Nat
  rxSeq      : Option Nat
  down       : Option LogicFrame
  up         : Option FieldFrame
  waiting    : List FioReq
  sentCfg    : List (Nat × Nat)
  due        : Nat
  frameAt    : Option Nat
  deriving DecidableEq, Repr

def InCfg.reset : InCfg := { filter := 30, chatEn := false, freeze := false, tStuck := 0 }

/-- R270: reset values. -/
def FieldCfg.reset : FieldCfg :=
  { chatterN := 20, chatterW := 10, wakeEn := 0, weftMask := 0, fsEn := 0, fsValue := 0, inputs := Tab.fill 24 InCfg.reset,
    edges := Tab.fill 8 0 }

def Input.reset : Input :=
  { value := false, count := 0, reported := false, ones := 0, stuck := false, chatter := false, changes := [] }

/-- A start of the field side (R252): everything at its reset value. -/
def FieldSide.start (starts cause fpMv : Nat) : FieldSide :=
  { running := true, fed := true, sumFor := Tab.fill 2 none, got := true, frameAt := 0, starts := starts, starting := true, sawReplay := false, cause := cause, cfg := FieldCfg.reset,
    inputs := Tab.fill 24 Input.reset, raw := 0, counters := Tab.fill 8 0, overspeed := 0, wrap := 0,
    outs := Tab.fill 16 { applied := false, held := false, overload := false }, groupLimit := 0, readback := 0,
    groups := (0, 0), fpMv := fpMv, logicSilent := false, silent := 0, fsApplied := false, rxSeq := none, txSeq := 0,
    downCrc := 0, rx := none, done := [] }

/-- The field side without FP24 (R252, R35). -/
def FieldSide.off (starts : Nat) : FieldSide := { FieldSide.start starts 0 0 with running := false, fed := false, starting := false }

/-- The field side in Sleep, Deep Sleep and Off: it samples and sends nothing, its outputs are off; WAKE_EN stays with the comparators (R269). -/
def FieldSide.asleep (f : FieldSide) : FieldSide := { FieldSide.off f.starts with fed := f.fed, cfg := f.cfg, fpMv := f.fpMv }

/-- The values its outputs hold, FO01 in bit 0. -/
def FieldSide.applied (f : FieldSide) : BitVec 16 := BitVec.ofNat 16 (f.outs.mask fun o => o.applied)

/-- The logic end after a reset of the switch island: inputs stale (R270); the field side is as given, and each output keeps the value it
last applied (R262). -/
def Field.resetWith (side : FieldSide) : Field :=
  { side := side, mirror := FieldCfg.reset, stale := true, replay := none, seenStart := 0, startFlag := false, missing := 0,
    heard := true, upCrc := 0, crcLog := [], crcAt := none, words := Tab.fill 16 0, checks := Tab.fill 16 (shuttleCheck (le 4 0)), groups := (0, 0), downCrc := 0, values := side.applied, clear := 0,
    foClear := 0, queue := [], unsent := [], txSeq := 0, rxSeq := none, down := none, up := none, waiting := [], sentCfg := [], due := 0, frameAt := none }

def Field.reset : Field := Field.resetWith (FieldSide.off 0)

end Sys2Proof.Machine
end

