-- ==== Sys2Proof/Machine/StLoom.lean ====
section
/-! DEFINITION. The state of the Loom (spec/03): registers, the frame cycle counter, the multiplier, the repeat state, the
segment in progress and the receive queues. -/

namespace Sys2Proof.Machine

open Sys2Proof

/-- The segment in progress: its task, its index in the template, and the frame cycle E its budget ends at (R116). -/
structure Seg where
  task  : Fin 64
  index : Nat
  stop  : Nat
  deriving DecidableEq, Repr

/-- A multiply in flight (R90): the frame cycle from which its product stands, and the product. -/
structure Mul where
  ready   : Nat
  product : BitVec 64
  deriving DecidableEq, Repr

/-- The Loom. `cyc` is the frame cycle at which the next instruction begins (R69); `next` the next segment of the template;
`last` the address of the latest instruction; `file` the register file (R71); `rep` the repeat state: whether it is
suspendable, and the address of the REP or REPI (R87, R89); `selvedge` tells that this frame's selvedge exchange is done. -/
structure Loom where
  cyc      : Nat
  g        : Tab Word 8
  file     : Tab Word 2048
  pc       : Nat
  flg      : BitVec 5
  mlo      : Word
  mhi      : Word
  mul      : Option Mul
  rpc      : Nat
  wbase    : Nat
  rep      : Option (Bool × Nat)
  seg      : Option Seg
  next     : Nat
  last     : Nat
  rx       : Tab (List (BitVec 64)) 3
  selvedge : Bool
  deriving DecidableEq, Repr

/-- A Loom after a reset of I1 (R73 for FLG). -/
def Loom.reset : Loom :=
  { cyc := 0, g := Tab.fill 8 0, file := Tab.fill 2048 0, pc := 0, flg := 0, mlo := 0, mhi := 0, mul := none, rpc := 0,
    wbase := 0, rep := none, seg := none, next := 0, last := 0, rx := Tab.fill 3 [], selvedge := false }

end Sys2Proof.Machine
end

