-- ==== Sys2Proof/Machine/StCan.lean ====
section
/-! DEFINITION. The state of the CAN controllers (spec/12) and of network management (spec/13). -/

namespace Sys2Proof.Machine

open Sys2Proof

/-- A CAN channel; CANn has index n − 1. -/
abbrev CanNo := Fin 6

/-- A CAN frame (R334, R343). `len` is the data length that its DLC gives. -/
structure CanFrame where
  id   : Nat
  ide  : Bool
  rtr  : Bool
  fdf  : Bool
  brs  : Bool
  esi  : Bool
  dlc  : Nat
  len  : Nat
  data : List Byte
  deriving DecidableEq, Repr

/-- The DLC of a data length, and the data length of a DLC (ISO 11898-1). -/
def dlcOf (n : Nat) : Nat :=
  if n ≤ 8 then n else if n ≤ 12 then 9 else if n ≤ 16 then 10 else if n ≤ 20 then 11 else if n ≤ 24 then 12
  else if n ≤ 32 then 13 else if n ≤ 48 then 14 else 15
def dlcLen (fdf : Bool) (d : Nat) : Nat :=
  if d ≤ 8 then d else if fdf then [12, 16, 20, 24, 32, 48, 64].getD (d - 9) 64 else 8

/-- A frame that the Otcel sends; ESI is the controller's to set (R334). -/
def CanFrame.own (id : Nat) (ide rtr fdf brs : Bool) (len : Nat) (data : List Byte) : CanFrame :=
  { id := id, ide := ide, rtr := rtr, fdf := fdf, brs := brs, esi := false, dlc := dlcOf len, len := len, data := data }

/-- What a wake detector has seen (R364): a pattern, a decoded frame, a frame with an error. -/
inductive Seen where
  | pattern
  | frame (f : CanFrame)
  | bad
  deriving DecidableEq, Repr

/-- A queue item (R343): the frame, its start-of-frame tick and sub-tick, the matching pair, SEQ. -/
structure CanItem where
  frame : CanFrame
  tick  : Nat
  sub   : Nat
  pair  : Nat
  seq   : Nat
  deriving DecidableEq, Repr

/-- A receive queue (R342). `dropsInSec` are those not yet in a record 0x4006, of the second that began at `dropAt`. -/
structure CanQueue where
  items      : List CanItem
  seq        : Nat
  drop       : Nat
  ovf        : Bool
  dropsInSec : Nat
  dropAt     : Option Nat
  deriving DecidableEq, Repr

/-- A transmit buffer (R346 to R350): the pending frame with the instant it was loaded, a weft's replacement, the host command
waiting, attempts, the clash count, IDCLASH; `due` is what the record of a count that has reached 16 since IDCLASH was cleared will hold: the
identifier and the count. -/
structure TxBuf where
  frame    : Option (CanFrame × Nat)
  next     : Option (CanFrame × Nat)
  cmd      : Option Nat
  attempts : Nat
  clash    : Nat
  idClash  : Bool
  due      : Option (Nat × Nat)
  abort    : Bool
  deriving DecidableEq, Repr

/-- The bus states of CAN_STATUS (R355). -/
inductive BusState where
  | active | passive | busOff | out
  deriving DecidableEq, Repr

/-- The STATE numbers of R355. -/
def BusState.num : BusState → Nat
  | .active => 0 | .passive => 1 | .busOff => 2 | .out => 3

/-- ERR_LAST (R355). -/
structure ErrLast where
  kind   : Nat
  inData : Bool
  asTx   : Bool
  tick   : Nat
  deriving DecidableEq, Repr

/-- A filter pair as stored (R340, R355). -/
structure Filter where
  id   : Nat
  mask : Nat
  deriving DecidableEq, Repr

/-- A CAN channel (R355). `ctrl`, `nbt`, `dbt` and `tdc` are the stored register words; `waiting` are frames of the Otcel's own
behind the one in TBS. -/
structure CanCh where
  ctrl        : Nat
  nbt         : Nat
  dbt         : Nat
  tdc         : Nat
  tdcv        : Nat
  filters     : Tab Filter 32
  state       : BusState
  integrating : Bool
  seen        : BitVec 6
  tec         : Nat
  rec_        : Nat
  passiveSeen : Bool
  busoffSeen  : Bool
  pexSeen     : Bool
  cfgReject   : Bool
  cfgDenied   : Bool
  busoffCount : Nat
  pexCount    : Nat
  brsSup      : Nat
  q           : Tab CanQueue 2
  tx          : Tab TxBuf 5
  waiting     : List CanFrame
  errLast     : ErrLast
  busoffAt    : Nat
  deriving DecidableEq, Repr

/-- A weft TX under assembly (R352): its request word, the frame so far, the words still to come. -/
structure TxAsm where
  word    : BitVec 64
  channel : Nat
  buffer  : Nat
  frame   : CanFrame
  left    : Nat
  deriving DecidableEq, Repr

/-- The CAN block. -/
structure Can where
  chans : Tab CanCh 6
  asm   : Option TxAsm
  deriving DecidableEq, Repr

def CanQueue.reset : CanQueue := { items := [], seq := 0, drop := 0, ovf := false, dropsInSec := 0, dropAt := none }

def TxBuf.reset : TxBuf :=
  { frame := none, next := none, cmd := none, attempts := 0, clash := 0, idClash := false, due := none, abort := false }

def ErrLast.reset : ErrLast := { kind := 0, inData := false, asTx := false, tick := 0 }

/-- R355: cold-start values: FD_EN 1, 500 kbit/s nominal, 2 Mbit/s data. -/
def CanCh.reset : CanCh :=
  { ctrl := 8, nbt := 62 * 2 ^ 8 + 15 * 2 ^ 16 + 15 * 2 ^ 24, dbt := 14 * 2 ^ 8 + 3 * 2 ^ 16 + 3 * 2 ^ 24, tdc := 0, tdcv := 0,
    filters := Tab.fill 32 { id := 0, mask := 0 }, state := .out, integrating := false, seen := 0, tec := 0, rec_ := 0,
    passiveSeen := false, busoffSeen := false, pexSeen := false, cfgReject := false, cfgDenied := false, busoffCount := 0,
    pexCount := 0, brsSup := 0, q := Tab.fill 2 CanQueue.reset, tx := Tab.fill 5 TxBuf.reset, waiting := [],
    errLast := ErrLast.reset, busoffAt := 0 }

def Can.reset : Can := { chans := Tab.fill 6 CanCh.reset, asm := none }

/-! ## Network management -/

/-- The states of R357. -/
inductive NmState where
  | off | busSleep | rpt | normal | ready | clearing | listen
  deriving DecidableEq, Repr

/-- The codes of R357. -/
def NmState.num : NmState → Nat
  | .off => 0 | .busSleep => 1 | .rpt => 2 | .normal => 3 | .ready => 4 | .clearing => 5 | .listen => 6

/-- A wake-up frame's registers (R364, R370). -/
structure SwCfg where
  id   : Nat
  mask : Nat
  lo   : Nat
  hi   : Nat
  deriving DecidableEq, Repr

/-- The network-management registers as stored (R370). -/
structure NmCfg where
  config   : Nat
  baseId   : Nat
  timing1  : Nat
  timing2  : Nat
  timing3  : Nat
  maxAwake : Nat
  user     : Nat
  sw       : Tab SwCfg 2
  deriving DecidableEq, Repr

/-- A channel's network management: its state since an instant, the restart of the NM timeout, the latest own NM frame, the cause
of the wake that led to LISTEN, the host's own request (its instant, with REPEAT or not), whether ACTIVE_WAKE or REPEAT is set in
own frames, what was heard in this stay in READY, the instant BUS_SLEEP was left, the detector's
error count, the identifier of the frame that woke it. -/
structure NmCh where
  state      : NmState
  since      : Nat
  timeoutAt  : Nat
  sentAt     : Option Nat
  cause      : Nat
  host       : Option Nat
  rptBit     : Bool
  activeWake : Bool
  heard      : List Nat
  lastNode   : Nat
  keeperSaid : Bool
  awakeSince : Nat
  errCount   : Nat
  wakeId     : Nat
  deriving DecidableEq, Repr

/-- The network-management block. `settled`: the channels have been judged since the latest reset of I3 (R6). -/
structure Nm where
  cfg             : NmCfg
  chans           : Tab NmCh 6
  wakeInClearing  : Bool
  falseWake       : Bool
  maxAwake        : Bool
  keeper          : Bool
  cfgReject       : Bool
  settled         : Bool
  falseWakes      : Nat
  clearingWakes   : Nat
  deriving DecidableEq, Repr

/-- R370: cold-start values. -/
def NmCfg.reset : NmCfg :=
  { config := 2 ^ 7 + 2 ^ 18, baseId := 0x500, timing1 := 200 + 2000 * 65536, timing2 := 1500 + 50 * 65536,
    timing3 := 3000 + 600 * 65536, maxAwake := 0, user := 0, sw := Tab.fill 2 { id := 0, mask := 0, lo := 0, hi := 0 } }

def NmCh.reset : NmCh :=
  { state := .off, since := 0, timeoutAt := 0, sentAt := none, cause := 0, host := none, rptBit := false, activeWake := false,
    heard := [], lastNode := 0, keeperSaid := false, awakeSince := 0, errCount := 0, wakeId := 0 }

def Nm.reset : Nm :=
  { cfg := NmCfg.reset, chans := Tab.fill 6 NmCh.reset, wakeInClearing := false, falseWake := false, maxAwake := false,
    keeper := false, cfgReject := false, settled := false, falseWakes := 0, clearingWakes := 0 }

end Sys2Proof.Machine
end

