-- ==== Sys2Proof/Machine/StEth.lean ====
section
/-! DEFINITION. The state of the Ethernet switch, IPv4, the CAN tunnel and the Modbus bridge (spec/14). -/

namespace Sys2Proof.Machine

open Sys2Proof

/-- A port's link, with the TC10 states (R368, R370, R395). -/
inductive PortLink where
  | down | up | requested | asleep
  deriving DecidableEq, Repr

/-- A switch port P1 or P2, index n − 1. -/
abbrev PortNo := Fin 2

/-- A switch port P1 or P2. `asked` tells that a refused sleep request awaits the condition's next rise (R368); `gptp` is 0
disabled, 1 master, 2 slave, 3 passive (R395); `announce` is the priority vector of the latest Announce (R378). -/
structure EthPort where
  link   : PortLink
  loss   : Bool
  upAt   : Nat
  asked  : Bool
  gptp   : Nat
  pdelay : Nat
  pdelayAt : Nat
  announce : Option Nat
  deriving DecidableEq, Repr

/-- A learned address (R374); `port` is 1 or 2. -/
structure MacEntry where
  addr : Nat
  port : Nat
  at_  : Nat
  deriving DecidableEq, Repr

/-- A frame awaiting the tunnel (R382), with its start-of-frame tick and sub-tick and the instant it came. -/
structure TunFrame where
  frame : CanFrame
  tick  : Nat
  sub   : Nat
  at_   : Nat
  deriving DecidableEq, Repr

/-- A channel's tunnel (R381, R382, R395): the registers as stored, the frames waiting, sequence_num, the counters. -/
structure Tunnel where
  ctrl       : Nat
  sidLo      : Nat
  sidHi      : Nat
  destLo     : Nat
  destHi     : Nat
  maxTransit : Nat
  frames     : List TunFrame
  seq        : Nat
  sent       : Nat
  drop       : Nat
  dropsInSec : Nat
  dropAt     : Option Nat
  deriving DecidableEq, Repr

/-- A frame that waits in an egress queue of R377, with its length on the line in bytes, FCS included. -/
structure EthWait where
  queue : Nat
  len   : Nat
  frame : List Byte
  deriving DecidableEq, Repr

/-- An egress port (R377): the frames in its buffer, first come first, and the instant in ns at which its line is free. -/
structure Egress where
  waiting : List EthWait
  freeAt  : Nat
  deriving DecidableEq, Repr

/-- What a DHCP server grants: address, mask, gateway, lease in seconds. -/
structure Lease where
  addr    : Nat
  mask    : Nat
  gateway : Nat
  secs    : Nat
  deriving DecidableEq, Repr

/-- The Ethernet part of the block (R395). -/
structure Eth where
  ctrl       : Nat
  aging      : Nat
  ports      : Tab EthPort 2
  macs       : List MacEntry
  fullAt     : Option Nat
  flooded    : Nat
  cfgReject  : Bool
  ipAddr     : Nat
  ipMask     : Nat
  ipGateway  : Nat
  ipActive   : Nat
  actMask    : Nat
  actGateway : Nat
  leaseEnd   : Nat
  leaseHalf  : Nat
  egressDrop : Tab Nat 3
  outs       : Tab Egress 3
  rxErr      : Tab Nat 3
  vlans      : Tab Nat 16
  pvid       : Tab Nat 3
  synced     : Bool
  arp        : List (Nat × Nat)
  tun        : Tab Tunnel 6
  deriving DecidableEq, Repr

/-! ## The Modbus bridge -/

/-- An RS-485 port; RS485_n has index n − 1. -/
abbrev FarNo := Fin 2

/-- What a far transaction is for (R385, R393, R394). -/
inductive FarKind where
  | read | write | lockWrite | lockRead | unlock | release
  deriving DecidableEq, Repr

/-- A far transaction: its command (none for a release by the Otcel itself), whose it is, the request, whether its answer goes into the
receive stream, the requests sent so far, whether R391 holds it, and since when it waits on a heddle lock. -/
structure Far where
  kind     : FarKind
  cmd      : Option Nat
  src      : Src
  group    : Option Grp
  tag      : Nat
  posted   : Bool
  unit     : Nat
  pdu      : List Byte
  toStream : Option Nat
  attempts : Nat
  held     : Bool
  waitFrom : Option Nat
  deriving DecidableEq, Repr

/-- The open transaction (R385 to R387): the end of its request, and MB_LINE and MB_TIMING as they stood when it began (R395). -/
structure FarOpen where
  far    : Far
  endAt  : Nat
  line   : Nat
  timing : Nat
  deriving DecidableEq, Repr

/-- A lock (R392 to R394). -/
structure FarLock where
  heddle : Bool
  src    : Src
  group  : Option Grp
  unit   : Nat
  at_    : Nat
  deriving DecidableEq, Repr

/-- An item of a receive stream (R390); a reserved one has no bytes yet. -/
structure FarItem where
  seq   : Nat
  bytes : Option (List Byte)
  deriving DecidableEq, Repr

/-- A Modbus port (R384 to R395). `ahead` go before the queue: a lock's read (R393), and writes that failed late, held until their group resumes (R391); `late` are the
Otcel's own releases that wait for room (R385);
`lostBy` are former holders whose lock ended by itself (R394); `lineAt` is the end of the latest frame on the line (R384). -/
structure FarPort where
  line       : Nat
  timing     : Nat
  opts       : Nat
  lockT      : Nat
  semBase    : Nat
  queue      : List Far
  ahead      : List Far
  late       : List Far
  current    : Option FarOpen
  lock       : Option FarLock
  lostBy     : List (Src × Option Grp)
  crcErr     : Nat
  stray      : Nat
  lineAt     : Nat
  timeouts   : Nat
  exceptions : Nat
  items      : List FarItem
  seq        : Nat
  deriving DecidableEq, Repr

/-- The Modbus bridge. -/
structure Bridge where
  ports : Tab FarPort 2
  deriving DecidableEq, Repr

def EthPort.reset : EthPort := { link := .down, loss := false, upAt := 0, asked := false, gptp := 0, pdelay := 0, pdelayAt := 0, announce := none }

def Tunnel.reset : Tunnel :=
  { ctrl := 3 * 2 ^ 16, sidLo := 0, sidHi := 0, destLo := 0, destHi := 0, maxTransit := 2000, frames := [], seq := 0, sent := 0,
    drop := 0, dropsInSec := 0, dropAt := none }

/-- R395: cold-start values. -/
def Eth.reset : Eth :=
  { ctrl := 0x1A, aging := 300, ports := Tab.fill 2 EthPort.reset, macs := [], fullAt := none, flooded := 0, cfgReject := false,
    ipAddr := 0, ipMask := 0, ipGateway := 0, ipActive := 0, actMask := 0, actGateway := 0, leaseEnd := 0, leaseHalf := 0, egressDrop := Tab.fill 3 0,
    outs := Tab.fill 3 { waiting := [], freeAt := 0 }, rxErr := Tab.fill 3 0, vlans := Tab.fill 16 0, pvid := Tab.fill 3 1, synced := false, arp := [],
    tun := Tab.fill 6 Tunnel.reset }

/-- R395: cold-start values. -/
def FarPort.reset : FarPort :=
  { line := 1 + 2 ^ 4, timing := 500 + 100 * 65536, opts := 1 + 4, lockT := 50 + 1000 * 65536, semBase := 0x4B00, queue := [],
    ahead := [], late := [], current := none, lock := none, lostBy := [], crcErr := 0, stray := 0, lineAt := 0, timeouts := 0, exceptions := 0, items := [],
    seq := 0 }

def Bridge.reset : Bridge := { ports := Tab.fill 2 FarPort.reset }

end Sys2Proof.Machine
end

