-- ==== Sys2Proof/Machine/StTwin.lean ====
section
/-! DEFINITION. The state of the twin link and the redundancy manager (spec/15). -/

namespace Sys2Proof.Machine

open Sys2Proof

/-- ROLE (R402): single, lead or shadow. -/
inductive Role where
  | none | lead | shadow
  deriving DecidableEq, Repr

/-- The ROLE numbers of R402. -/
def Role.num : Role → Nat
  | .none => 0 | .lead => 1 | .shadow => 2

/-- PAIR_STATE (R402). -/
inductive PairState where
  | off | waiting | pairing | paired | broken | lone
  deriving DecidableEq, Repr

/-- The PAIR_STATE numbers of R402. -/
def PairState.num : PairState → Nat
  | .off => 0 | .waiting => 1 | .pairing => 2 | .paired => 3 | .broken => 4 | .lone => 5

/-- A frame sent with ACK_REQ and not acknowledged (R398); `msn` is that of a mirror stage, `last` marks the segment that ends a weft
image; a repeat carries the `epoch` it was sent under. -/
structure TwinFly where
  typ     : Nat
  epoch   : Nat
  seq     : Nat
  payload : List Byte
  msn     : Option Nat
  last    : Bool
  sentAt  : Nat
  firstAt : Nat
  repeats : Nat
  deriving DecidableEq, Repr

/-- A frame that waits until LOOM_DATA has been sent (R400). -/
structure TwinLater where
  typ     : Nat
  payload : List Byte
  ack     : Bool
  msn     : Option Nat
  last    : Bool
  deriving DecidableEq, Repr

/-- What the partner's HELLO told (R399, R400). -/
structure Hello where
  side    : Bool
  running : Bool
  proto   : Nat
  serial  : List Byte
  nonce   : List Byte
  check   : List Byte
  deriving DecidableEq, Repr

/-- A command the mirror holds (R409): not yet DONE, or `failed`, DONE as its group's failed command. -/
structure Mirrored where
  group  : Grp
  tag    : Nat
  keyId  : List Byte
  body   : List Byte
  begun  : Bool
  failed : Bool
  deriving DecidableEq, Repr

/-- What the mirror holds of a group (R409). -/
structure MirrorGroup where
  expected : Nat
  causes   : Nat
  holder   : List Byte
  cache    : List Cached
  deriving DecidableEq, Repr

/-- A packet of the lead that waits for the acknowledgement of a mirror stage (R409). -/
structure HeldPacket where
  msn    : Nat
  src    : Src
  id     : Nat
  from_  : Nat
  addr   : Nat
  port   : Nat
  canId  : Nat
  packet : List Byte
  deriving DecidableEq, Repr

/-- A weft image under receipt from the lead (R400, R403): AREA, LENGTH, the segments received. -/
structure WeftRx where
  area   : Nat
  length : Nat
  parts  : List (Nat × List Byte)
  deriving DecidableEq, Repr

/-- A planned handover (R418): the warp frame of F, its command on the lead, whether the shadow has accepted, and whether the new lead has
been told to go. -/
structure Handover where
  frame    : Nat
  cmd      : Option Nat
  accepted : Bool
  gone     : Bool
  deriving DecidableEq, Repr

/-- A WEFT_COMMIT of a paired lead that waits for the shadow's acknowledgement of the last segment, with the weft checked (R410). -/
structure CommitWait where
  cmd  : Nat
  weft : Weft
  deriving DecidableEq, Repr

/-- The twin block (R420) and what stands behind it. `lead` is the latest lead state, bytes 16 to 191 of the HEARTBEAT (R400);
`sentCfg` the configuration values the shadow has (R410); `words` the Loom words of this frame (R408). `agreed` tells that PAIRED has
passed in this pairing, `lockAt` the warp frame from which its step 5 runs (R403); `valid` counts the valid frames heard while the link is down
(R397), `peerRole` is the ROLE of the partner's latest HEARTBEAT, `msnSeen` the latest MSN that came (R418). `later` lists the frames that wait
for the LOOM_DATA of this frame, `loomAt` is the frame whose LOOM_DATA was sent last (R400); `beatAt` is the instant of the lead's latest
HEARTBEAT (R405), `leadFrame` its frame number; `lockWeft` names the weft that both twins run in lockstep (R418). `weftWait` lists the commits in
the order their images were sent. -/
structure Twin where
  en         : Bool
  side       : Bool
  loneWait   : Nat
  code       : List Byte
  role       : Role
  pair       : PairState
  lineLow    : Bool
  driven     : Bool
  cable      : Bool
  linkUp     : Bool
  heardAt    : Nat
  valid      : Nat
  peerRole   : Nat
  msnSeen    : Nat
  tokenFault : Bool
  cableOpen  : Bool
  epoch      : Nat
  linkErrors : Nat
  takeovers  : Nat
  partner    : List Byte
  warpOfs    : Int
  txSeq      : Nat
  fly        : List TwinFly
  nonce      : List Byte
  hello      : Option Hello
  attested   : Bool
  agreed     : Bool
  lockAt     : Option Nat
  msn        : Nat
  acked      : Nat
  stored     : Nat
  released   : Bool
  lead       : List Byte
  mirror     : List Mirrored
  groups     : Tab MirrorGroup 16
  weftRx     : Option WeftRx
  weftWait   : List CommitWait
  words      : List (Nat × Nat)
  wordsLost  : Nat
  held       : List HeldPacket
  sentCfg    : List (Nat × Nat)
  handover   : Option Handover
  holdEnd    : Option Nat
  retryAt    : Option Nat
  waitFrom   : Nat
  later      : List TwinLater
  loomAt     : Option Nat
  beatAt     : Nat
  leadFrame  : Nat
  lockWeft   : Option Nat
  deriving DecidableEq, Repr

def MirrorGroup.reset : MirrorGroup := { expected := 0, causes := 0, holder := zeros 8, cache := [] }

/-- R420: cold-start values. -/
def Twin.reset : Twin :=
  { en := false, side := false, loneWait := 10, code := zeros 8, role := .none, pair := .off, lineLow := false, driven := false,
    cable := false, linkUp := false, heardAt := 0, valid := 0, peerRole := 0, msnSeen := 0, tokenFault := false, cableOpen := false, epoch := 0, linkErrors := 0,
    takeovers := 0, partner := zeros 8, warpOfs := 0, txSeq := 0, fly := [], nonce := zeros 16, hello := none, attested := false, agreed := false,
    lockAt := none, msn := 0, acked := 0, stored := 0, released := false, lead := zeros 176, mirror := [],
    groups := Tab.fill 16 MirrorGroup.reset, weftRx := none, weftWait := [], words := [], wordsLost := 0, held := [],
    sentCfg := [], handover := none, holdEnd := none, retryAt := none, waitFrom := 0,
    later := [], loomAt := none, beatAt := 0, leadFrame := 0, lockWeft := none }

end Sys2Proof.Machine
end

