-- ==== Sys2Proof/Machine/StAccess.lean ====
section
/-! DEFINITION. The state of door access, the release stream (spec/16), the key store, secure boot and the update (spec/17). -/

namespace Sys2Proof.Machine

open Sys2Proof

/-- A reply as one antenna hears it (R422, R423): STS_KEY and STS_V of the STS it carries, and t_round in units of 1/(128 × 499.2 MHz). -/
structure UwbRx where
  sts   : List Byte
  round : Nat
  deriving DecidableEq, Repr

/-- A frame with a valid PHY header in a reply slot (R422, R423): what the antenna with the stronger first path hears and what the other does, then
its payload, and the measured clock ratio less 1 in units of 10⁻⁹. -/
structure UwbFrame where
  strong : UwbRx
  weak   : UwbRx
  id     : Nat
  turn   : Nat
  mic    : List Byte
  ratio  : Int
  deriving DecidableEq, Repr

/-- What the receiver sees in a reply slot (R428, R431): nothing, more than one preamble start, or one frame with a valid PHY header. -/
inductive SlotSeen where
  | empty
  | preambles
  | frame (f : UwbFrame)
  deriving DecidableEq, Repr

/-- A token table slot (R425, R447). -/
structure Token where
  id    : Nat
  key   : List Byte
  opSec : Nat
  deriving DecidableEq, Repr

/-- The access registers that RELEASE_CONFIG SET writes, as stored (R448, R449). -/
structure AccCfg where
  ctrl  : Nat
  range : Nat
  can   : Nat
  id    : Nat
  lease : Nat
  deriving DecidableEq, Repr

/-- A burst that runs (R428, R433): its start, the channel and the ACC_RANGE it ranges by (R448), the polls made, the kind of its first invalid reply, the tokens
present in it. -/
structure Burst where
  startAt : Nat
  channel : Nat
  range   : Nat
  polls   : Nat
  invalid : Option Nat
  seen    : BitVec 32
  deriving DecidableEq, Repr

/-- Access and release. `doorAt` is the latest door event, `doorReq` that it starts a burst at once, `doorLevel` DOOR_IN as last
reported; `deferred` the tokens recorded in this delay; `failAt` the latest failure or decrease; `owed` the delay in seconds that the
latest failure imposed; `counter` the next release counter, `reserved` the end of the block reserved in flash; `leaseFrom` the
operating second of the latest RENEW; `rel` the configuration that the stream goes by, `cfg` from its next REL_SLOT on (R448); `nonces` the
NONCEs of the polls made (R428). -/
structure Access where
  tokens    : Tab (Option Token) 32
  cfg       : AccCfg
  running   : Bool
  burst     : Option Burst
  lastBurst : Option Nat
  doorAt    : Option Nat
  doorReq   : Bool
  doorLevel : Option Bool
  present   : BitVec 32
  granted   : BitVec 32
  absent    : Tab Nat 32
  deferred  : BitVec 32
  failCount : Nat
  failAt    : Nat
  delayEnd  : Option Nat
  owed      : Nat
  grantSeq  : Nat
  lastSlot  : Nat
  lastDist  : Nat
  lastFrame : Nat
  grants    : Nat
  failures  : Nat
  lockedOut : Bool
  tamper    : Bool
  pcc       : Option (List Byte)
  relKey    : List Byte
  relEpoch  : Nat
  counter   : Nat
  reserved  : Nat
  relOn     : Bool
  leaseOk   : Bool
  leaseFrom : Int
  rel       : AccCfg
  nonces    : List Nat
  deriving DecidableEq, Repr

/-- A key entry (R453, R454): role 1 site owner, 2 weft-signing. -/
structure KeyEntry where
  role : Nat
  pub  : List Byte
  deriving DecidableEq, Repr

/-- The stored firmware image (R461, R462, R470): header, encrypted blocks with their tags, the CRC-32C of each 4 KiB page of each block's
ciphertext, signature. -/
structure Flash where
  header : List Byte
  blocks : List (List Byte)
  checks : List (List Nat)
  sig    : List Byte
  deriving DecidableEq, Repr

/-- The firmware that runs (R453). -/
structure RunImage where
  version  : Nat
  security : Nat
  deriving DecidableEq, Repr

/-- The update journal (R468): an update in progress. -/
structure Journal where
  digest   : List Byte
  version  : Nat
  security : Nat
  blocks   : Nat
  done     : Nat
  deriving DecidableEq, Repr

/-- What the first sectors of a medium say of its partitions (R466): none, an MBR with the types of its partitions, a GPT. -/
inductive Partitions where
  | none
  | mbr (types : List Nat)
  | gpt
  deriving DecidableEq, Repr

/-- A USB medium (R466): whether it is a mass-storage device of the bulk-only transport, its sector size in bytes, its partitions, whether the volume is
FAT32, and the files of the root directory under their 8.3 names. -/
structure Medium where
  bulkOnly   : Bool
  sector     : Nat
  partitions : Partitions
  fat32      : Bool
  root       : List (String × List Byte)
  deriving DecidableEq, Repr

/-- Identity, boot and update. `resetAt` is the end of the latest reset of I2 (none while it is held in reset), `armed` the instant an
armed update starts from and whether WAKE armed it, `watch` the origin of the watch of WAKE and whether it may arm, `waitSaid` that
0x8014 has been written, `pollAt` the loader's latest look for a medium; `keyFile` the KWOTOWN.KEY found at the power-up of an unclaimed module and
not yet installed (R467, R513), `execRam` the blocks that stand decrypted in execution RAM (R463, R464). -/
structure Ident where
  keys      : Tab (Option KeyEntry) 12
  keySeq    : Nat
  floor     : Nat
  arb       : Nat
  stored    : Flash
  running   : Option RunImage
  loader    : Bool
  journal   : Option Journal
  waiting   : Bool
  waitSaid  : Bool
  resetAt   : Option Nat
  armed     : Option (Nat × Bool)
  watch     : Option (Nat × Bool)
  pollAt    : Nat
  keyFile   : Option (List Byte)
  execRam   : List Nat
  deriving DecidableEq, Repr

/-- R449: first power-up values. -/
def AccCfg.reset : AccCfg := { ctrl := 1, range := 150, can := 0, id := 0, lease := 168 }

def Access.reset : Access :=
  { tokens := Tab.fill 32 none, cfg := AccCfg.reset, running := false, burst := none, lastBurst := none, doorAt := none,
    doorReq := false, doorLevel := none, present := 0, granted := 0, absent := Tab.fill 32 0, deferred := 0, failCount := 0,
    failAt := 0, delayEnd := none, owed := 0, grantSeq := 0, lastSlot := 0, lastDist := 0, lastFrame := 0, grants := 0,
    failures := 0, lockedOut := false, tamper := false, pcc := none, relKey := [], relEpoch := 0, counter := 1, reserved := 1,
    relOn := false, leaseOk := false, leaseFrom := 0, rel := AccCfg.reset, nonces := [] }

/-- Block i of an image file, with its tag (R462). -/
def imageBlock (p : List Byte) (i : Nat) : List Byte := slice (p.take (p.length - 64)) (128 + 65552 * i) 65552

/-- The page checks of a block (R470). -/
def pageChecks (block : List Byte) : List Nat :=
  let c := block.take (block.length - 16)
  (List.range ((c.length + 4095) / 4096)).map fun i => crc32c (slice c (4096 * i) 4096)

/-- An image file as the flash holds it. -/
def Flash.ofImage (p : List Byte) : Flash :=
  let l := (List.range (u16 p 26)).map (imageBlock p)
  { header := p.take 128, blocks := l, checks := l.map pageChecks, sig := p.drop (p.length - 64) }

/-- The bytes of the stored image (R462). -/
def Flash.bytes (f : Flash) : List Byte := f.header ++ f.blocks.flatten ++ f.sig

/-- Does the USB host support a medium (R466)? Any other counts as absent. -/
def Medium.supported (m : Medium) : Bool :=
  m.bulkOnly && m.sector == 512 && m.fat32 && match m.partitions with
    | .none => true
    | .mbr [t] => t == 0x0B || t == 0x0C
    | _ => false

/-- A file in the root of a medium. -/
def Medium.file (name : String) (m : Option Medium) : Option (List Byte) :=
  match m with
  | none => none
  | some x => if x.supported then (x.root.find? fun f => f.1 == name).map fun f => f.2 else none

/-- The image on a medium (R467). -/
def Medium.img (m : Option Medium) : Option (List Byte) := Medium.file "KWOT4812.IMG" m

/-- The key file on a medium (R455). -/
def Medium.key (m : Option Medium) : Option (List Byte) := Medium.file "KWOTOWN.KEY" m

/-- R512: the shipped image; ARB_COUNT equals its SECURITY_VERSION; the key store is empty. -/
def Ident.reset : Ident :=
  { keys := Tab.fill 12 none, keySeq := 0, floor := 0, arb := min 64 (u32 Config.shippedImage 12),
    stored := Flash.ofImage Config.shippedImage,
    running := none, loader := false, journal := none, waiting := false, waitSaid := false, resetAt := some 0, armed := none,
    watch := none, pollAt := 0, keyFile := none, execRam := [] }

end Sys2Proof.Machine
end

