-- ==== Sys2Proof/Syntax.lean ====
section
/-! DEFINITION. The commands the block takes: one constructor for each row of spec/opcode_table.json, in the table's order, with what the
row needs from outside as operands: the object an event is about, the quantity measured, the bytes received, the place of the host command a
row executes. -/

namespace Sys2Proof

open Sys2Proof.Machine

/-- Where a host command stands: begun in a group, or begun ungrouped for a source (R286). -/
inductive CmdRef where
  | group (g : Fin 16)
  | ungrouped (i : Fin 6)
  deriving DecidableEq, Repr

/-- How a packet came: in the UDP wrapper of R280 with the address and port it came from and the port it came to, or in an FD frame of the command
identifier (R283). -/
inductive Via where
  | udp (addr port to_ : Nat) (wrap : List Byte)
  | can
  deriving DecidableEq, Repr

/-- The commands. Each docstring names the rule that governs the row. -/
inductive Instr where
  /-- AUX_LOSS (R29). -/
  | auxLoss (mv : Nat)
  /-- RESERVE_END (R29). -/
  | reserveEnd (mv : Nat) (wake : Bool) (m : Option Medium)
  /-- AUX_RESTORE (R30). -/
  | auxRestore
  /-- PWR_LOW (R31). -/
  | pwrLow (p : PwrNo) (mv : Nat)
  /-- PWR_RESTORED (R31). -/
  | pwrRestored (p : PwrNo)
  /-- VBUS_FAULT (R23). -/
  | vbusFault
  /-- VBUS_RESTORE (R23). -/
  | vbusRestore
  /-- KEEP_COLD_START (R505). -/
  | keepColdStart (wake : Bool) (m : Option Medium)
  /-- XO_STABLE (R43). -/
  | xoStable
  /-- XO_PLL_SETTLED (R44). -/
  | xoPllSettled
  /-- HFO_TRIM_CONVERGED (R47). -/
  | hfoTrimConverged (trim dev : Int)
  /-- LFO_TRIM_CONVERGED (R48). -/
  | lfoTrimConverged (dev : Int)
  /-- XO_FAIL (R45). -/
  | xoFail
  /-- XO_RETRY (R45). -/
  | xoRetry
  /-- TRIM_SOURCE (R47). -/
  | trimSource (i : Fin 6) (sync : Nat)
  /-- CLKSTUCK (R50). -/
  | clkstuck (mux : Nat)
  /-- PLL_LOST (R51). -/
  | pllLost (n : Isl)
  /-- XO_LOSS (R64). -/
  | xoLoss (offFrequency : Bool)
  /-- XO_RETURN (R64). -/
  | xoReturn
  /-- FRAME_MARK (R53). -/
  | frameMark (corr : List (Nat × Int)) (badSw badDr : Option Nat) (badHost : List Nat)
  /-- WARP_STEP (R55). -/
  | warpStep (ptp : Warp) (phase : Nat)
  /-- WARP_LO_READ (R66). -/
  | warpLoRead
  /-- WARP_PTP_OFFSET_LO_READ (R66). -/
  | warpPtpOffsetLoRead
  /-- SHUTTLE_ACK (R63). -/
  | shuttleAck (k : LinkNo)
  /-- SHUTTLE_RETRANSMIT (R60). -/
  | shuttleRetransmit (k : LinkNo)
  /-- NOP (R82). -/
  | nop
  /-- MOV (R82). -/
  | mov
  /-- MOVSX (R82). -/
  | movsx
  /-- LEA (R82). -/
  | lea
  /-- ADD (R82). -/
  | add
  /-- ADC (R82). -/
  | adc
  /-- SUB (R82). -/
  | sub
  /-- SBC (R82). -/
  | sbc
  /-- AND (R82). -/
  | and
  /-- OR (R82). -/
  | or
  /-- XOR (R82). -/
  | xor
  /-- NOT (R82). -/
  | not
  /-- NEG (R82). -/
  | neg
  /-- SHL (R83). -/
  | shl
  /-- SHR (R83). -/
  | shr
  /-- SAR (R83). -/
  | sar
  /-- ROR (R83). -/
  | ror
  /-- CMP (R83). -/
  | cmp
  /-- TST (R82). -/
  | tst
  /-- ADDM (R82). -/
  | addm
  /-- SUBM (R82). -/
  | subm
  /-- BSET (R83). -/
  | bset
  /-- BCLR (R83). -/
  | bclr
  /-- BTST (R83). -/
  | btst
  /-- BCC (R85). -/
  | bcc
  /-- CALL (R72). -/
  | call
  /-- RET (R72). -/
  | ret
  /-- JMPI (R82). -/
  | jmpi
  /-- YIELD (R86). -/
  | yield
  /-- DONE (R86). -/
  | done
  /-- MULU (R90). -/
  | mulu
  /-- MULS (R90). -/
  | muls
  /-- MUL_COMPLETE (R90). -/
  | mulComplete
  /-- DADD (R91). -/
  | dadd
  /-- DADC (R91). -/
  | dadc
  /-- DSUB (R91). -/
  | dsub
  /-- DSBC (R91). -/
  | dsbc
  /-- DADJ (R92). -/
  | dadj
  /-- CVBD (R93). -/
  | cvbd
  /-- CVDB (R93). -/
  | cvdb
  /-- REP (R87). -/
  | rep
  /-- REPI (R89). -/
  | repi
  /-- SEND (R94). -/
  | send
  /-- RECV (R95). -/
  | recv
  /-- FENCE (R97). -/
  | fence
  /-- WAITSLOT (R98). -/
  | waitslot
  /-- GETS (R73). -/
  | gets
  /-- PUTS (R73). -/
  | puts
  /-- LOOM_DATA_RECEIVE (R96). -/
  | loomDataReceive (port : Fin 3) (crcOk : Bool)
  /-- SEGMENT_START (R116). -/
  | segmentStart
  /-- WCET (R118). -/
  | wcet (k : Fin 64)
  /-- DEADLINE (R118). -/
  | deadline (k : Fin 64)
  /-- SELVEDGE_COMMIT (R121). -/
  | selvedgeCommit
  /-- COMMIT_RECEIVE (R121). -/
  | commitReceive (drive crcOk : Bool)
  /-- HEARTBEAT_RECEIVE (R154). -/
  | heartbeatReceive (drive host crcOk : Bool)
  /-- COMMAND_DUE (R123). -/
  | commandDue (object : Nat) (checkOk : Bool)
  /-- WEFT_LOAD_BEGIN (R111). -/
  | weftLoadBegin (r : CmdRef)
  /-- WEFT_COMMIT (R112). -/
  | weftCommit (r : CmdRef)
  /-- WEFT_START (R129). -/
  | weftStart (r : CmdRef)
  /-- WEFT_STOP (R130). -/
  | weftStop (r : CmdRef)
  /-- WEFT_SWAP (R131). -/
  | weftSwap (r : CmdRef)
  /-- WEFT_AUTOSTART (R114). -/
  | weftAutostart
  /-- OWNERSHIP_EVALUATION (R128). -/
  | ownershipEvaluation
  /-- WEFT_STARTED (R129). -/
  | weftStarted
  /-- WEFT_STOPPED (R130). -/
  | weftStopped
  /-- WEFT_SWAPPED (R131). -/
  | weftSwapped
  /-- SWITCH_CMD (R152). -/
  | switchCmd (crcOk : Bool)
  /-- SWITCH_READ_REQUEST (R151). -/
  | switchReadRequest (crcOk : Bool)
  /-- PWM_PERIOD_START (R142). -/
  | pwmPeriodStart (c : ChNo)
  /-- PWM_OFF_EDGE (R142). -/
  | pwmOffEdge (c : ChNo)
  /-- PULSE_END (R137). -/
  | pulseEnd (c : ChNo)
  /-- PG_PERIOD_WRITE (R143). -/
  | pgPeriodWrite (g : Fin 4) (v : Nat)
  /-- PROFILE_SEGMENT_END (R147). -/
  | profileSegmentEnd (c : ChNo)
  /-- SCAN_SAMPLE (R150). -/
  | scanSample (c : ChNo) (mA fine : Nat) (tj : Int) (dSum : Nat)
  /-- ADMIT_LIMIT (R189). -/
  | admitLimit (c : ChNo)
  /-- ORPHAN_ENTER (R154). -/
  | orphanEnter (host : Bool)
  /-- ORPHAN_SAFE (R155). -/
  | orphanSafe (c : ChNo)
  /-- SWITCH_RESET (R158). -/
  | switchReset
  /-- PEAK_RESET (R164). -/
  | peakReset (c : ChNo)
  /-- SHORT_TRIP (R168). -/
  | shortTrip (c : ChNo) (mA : Nat)
  /-- OVERCURRENT_TRIP (R169). -/
  | overcurrentTrip (c : ChNo)
  /-- THERMAL_SHUTDOWN (R170). -/
  | thermalShutdown (c : ChNo) (tj : Int)
  /-- PAUSE_EXPIRY (R172). -/
  | pauseExpiry (c : ChNo) (tj : Int)
  /-- COOLING_RESTART (R172). -/
  | coolingRestart (c : ChNo) (tj : Int)
  /-- COOLING_LIMIT (R172). -/
  | coolingLimit (c : ChNo)
  /-- RETRY_WINDOW_EXPIRY (R174). -/
  | retryWindowExpiry (c : ChNo)
  /-- OPEN_LOAD_ON_DETECT (R177). -/
  | openLoadOnDetect (c : ChNo)
  /-- LOAD_RETURNED_ON (R177). -/
  | loadReturnedOn (c : ChNo)
  /-- OPEN_LOAD_OFF_DETECT (R179). -/
  | openLoadOffDetect (c : ChNo) (mv : Nat)
  /-- LOAD_RETURNED_OFF (R179). -/
  | loadReturnedOff (c : ChNo) (mv : Nat)
  /-- ENVELOPE_EVENT (R182). -/
  | envelopeEvent (p : PwrNo)
  /-- SHED (R184). -/
  | shed (p : PwrNo)
  /-- ENVELOPE_EVENT_CLOSE (R182). -/
  | envelopeEventClose (p : PwrNo)
  /-- RECHARGE_RESUME (R185). -/
  | rechargeResume
  /-- THERMAL_BUDGET_EVAL (R190). -/
  | thermalBudgetEval (base : Int)
  /-- THERMAL_SHED_START (R191). -/
  | thermalShedStart
  /-- THERMAL_SHED (R191). -/
  | thermalShed
  /-- SW_CLEAR_LATCH (R176). -/
  | swClearLatch (r : CmdRef)
  /-- VBOOST_READY (R198). -/
  | vboostReady (mv : Nat)
  /-- VBOOST_OV (R198). -/
  | vboostOv (mv : Nat)
  /-- BOOST_FAIL (R198). -/
  | boostFail (mv : Nat)
  /-- BOOST_CUT (R199). -/
  | boostCut (c : AcNo) (mJ mA : Nat)
  /-- BOOST_GRANT (R201). -/
  | boostGrant (c : AcNo)
  /-- BANK_DEFER_EXPIRY (R201). -/
  | bankDeferExpiry (c : AcNo)
  /-- ACTUATOR_FIRE (R218). -/
  | actuatorFire (c : AcNo)
  /-- ACTUATOR_RELEASE (R214). -/
  | actuatorRelease (c : AcNo)
  /-- DECAY_END (R214). -/
  | decayEnd (c : AcNo)
  /-- FREEWHEEL_LATCH_EXPIRY (R195). -/
  | freewheelLatchExpiry (c : AcNo)
  /-- CONTROL_UPDATE (R231). -/
  | controlUpdate (c : AcNo) (mA : Nat) (u : Int) (vb mJ : Nat)
  /-- HOLD_UNREACHABLE (R216). -/
  | holdUnreachable (c : AcNo)
  /-- OPEN_COIL (R216). -/
  | openCoil (c : AcNo)
  /-- SHORTED_COIL (R216). -/
  | shortedCoil (c : AcNo) (mA : Nat)
  /-- BANK_FAULT (R216). -/
  | bankFault (b : BankNo) (released : Bool) (mA : Nat)
  /-- BANK_OVERLOAD (R212). -/
  | bankOverload (b : BankNo) (mean : Nat)
  /-- BANK_OVERLOAD_CLEAR (R212). -/
  | bankOverloadClear (b : BankNo) (mean : Nat)
  /-- DRIVE_CMD (R219). -/
  | driveCmd (crcOk : Bool)
  /-- DRIVE_READ_REQUEST (R220). -/
  | driveReadRequest (crcOk : Bool)
  /-- ACTUATOR_ORPHAN_ENTER (R222). -/
  | actuatorOrphanEnter (host : Bool)
  /-- ACTUATOR_ORPHAN_SAFE (R222). -/
  | actuatorOrphanSafe (c : AcNo)
  /-- DRIVE_RESET (R224). -/
  | driveReset
  /-- CLEAR_LEARNED (R209). -/
  | clearLearned (c : AcNo)
  /-- AC_LOAD_BOBBIN (R242). -/
  | acLoadBobbin (r : CmdRef)
  /-- BARRIER_FRAME (R253). -/
  | barrierFrame (raw : BitVec 32) (readback parity : BitVec 16) (fpMv ga gb : Nat)
  /-- FIELD_FRAME_RECEIVE (R267). -/
  | fieldFrameReceive (crcOk : Bool)
  /-- LOGIC_FRAME_RECEIVE (R266). -/
  | logicFrameReceive (crcOk : Bool)
  /-- FIELD_STALE (R267). -/
  | fieldStale
  /-- LOGIC_SILENT (R266). -/
  | logicSilent
  /-- FIELD_START (R252). -/
  | fieldStart (mv : Nat)
  /-- FIELD_STOP (R252). -/
  | fieldStop (mv : Nat)
  /-- FIELD_WATCHDOG (R318). -/
  | fieldWatchdog
  /-- STUCK (R255). -/
  | stuck (i : Fin 24)
  /-- CHATTER (R256). -/
  | chatter (i : Fin 24)
  /-- FAST_COUNT_EDGE (R257). -/
  | fastCountEdge (k : Fin 8) (rising : Bool) (interval : Nat)
  /-- FO_OVERLOAD (R259). -/
  | foOverload (o : Fin 16)
  /-- GROUP_LIMIT (R260). -/
  | groupLimit (g : Fin 2) (ma : List Nat)
  /-- FIELD_DATA_WORD (R263). -/
  | fieldDataWord (crcOk : Bool)
  /-- FIELD_CONFIG_WRITE (R270). -/
  | fieldConfigWrite (off v : Nat)
  /-- COUNTER_CLEAR (R257). -/
  | counterClear (mask : BitVec 8)
  /-- FIELD_FLAG_CLEAR (R270). -/
  | fieldFlagClear (overspeed wrap : BitVec 8) (groups : BitVec 2) (silent : Bool) (outs : BitVec 16)
  /-- PACKET_RECEIVE (R276). -/
  | packetReceive (via : Via) (p : List Byte)
  /-- COMMAND_BEGIN (R286). -/
  | commandBegin (r : CmdRef)
  /-- SESSION_TIMEOUT (R282). -/
  | sessionTimeout (k : Fin 4)
  /-- INFO (R296). -/
  | info (r : CmdRef)
  /-- PING (R296). -/
  | ping (r : CmdRef)
  /-- GET_STATE (R296). -/
  | getState (r : CmdRef)
  /-- SESSION_OPEN (R281). -/
  | sessionOpen (r : CmdRef)
  /-- SESSION_CLOSE (R282). -/
  | sessionClose (r : CmdRef)
  /-- SW_SET (R298). -/
  | swSet (r : CmdRef)
  /-- SW_GET (R296). -/
  | swGet (r : CmdRef)
  /-- SW_CONFIG (R298). -/
  | swConfig (r : CmdRef)
  /-- SW_ADOPT (R298). -/
  | swAdopt (r : CmdRef)
  /-- AC_FIRE (R221). -/
  | acFire (r : CmdRef)
  /-- AC_RELEASE (R221). -/
  | acRelease (r : CmdRef)
  /-- AC_CONFIG (R298). -/
  | acConfig (r : CmdRef)
  /-- AC_GET (R296). -/
  | acGet (r : CmdRef)
  /-- FIO_SET (R298). -/
  | fioSet (r : CmdRef)
  /-- FIO_GET (R296). -/
  | fioGet (r : CmdRef)
  /-- FIO_CONFIG (R298). -/
  | fioConfig (r : CmdRef)
  /-- DP_OPEN (R300). -/
  | dpOpen (r : CmdRef)
  /-- DP_READ (R301). -/
  | dpRead (r : CmdRef)
  /-- DP_WRITE (R301). -/
  | dpWrite (r : CmdRef)
  /-- DP_CLOSE (R296). -/
  | dpClose (r : CmdRef)
  /-- DP_COMMIT (R304). -/
  | dpCommit (r : CmdRef)
  /-- GROUP_RESUME (R315). -/
  | groupResume (r : CmdRef)
  /-- GROUP_ABORT (R288). -/
  | groupAbort (r : CmdRef)
  /-- FENCE_CMD (R296). -/
  | fenceCmd (r : CmdRef)
  /-- FAULT_READ (R331). -/
  | faultRead (r : CmdRef)
  /-- FAULT_REPORT (R309). -/
  | faultReport (crcOk : Bool)
  /-- QUIET_PERIOD_END (R317). -/
  | quietPeriodEnd
  /-- FAULT_HANDLER (R313). -/
  | faultHandler
  /-- WATCHDOG (R318). -/
  | watchdog (n : Isl) (ago : Nat)
  /-- LOOM_RESET (R319). -/
  | loomReset
  /-- SERVICE_CORE_RESET (R320). -/
  | serviceCoreReset
  /-- NETWORK_RESET (R353). -/
  | networkReset
  /-- BOOT (R463). -/
  | boot (otpOk : Bool) (flash : Option (List Byte)) (m : Option Medium)
  /-- FORCE_SAFE_ON (R324). -/
  | forceSafeOn
  /-- FORCE_SAFE_OFF (R325). -/
  | forceSafeOff
  /-- PERMIT_RENEWAL (R326). -/
  | permitRenewal
  /-- PERMIT_EXPIRY (R326). -/
  | permitExpiry
  /-- CAN_FRAME_RECEIVE (R340). -/
  | canFrameReceive (c : CanNo) (f : CanFrame) (ago sub : Nat) (lost : Option (Fin 5))
  /-- CAN_ERROR (R339). -/
  | canError (c : CanNo) (kind : Fin 5) (inData : Bool) (buf : Option (Fin 5)) (dataField heavy : Bool) (ago : Nat) (tdcv : Option Nat)
  /-- PROTOCOL_EXCEPTION (R338). -/
  | protocolException (c : CanNo)
  /-- ERROR_PASSIVE (R339). -/
  | errorPassive (c : CanNo)
  /-- ERROR_ACTIVE (R339). -/
  | errorActive (c : CanNo)
  /-- BUS_OFF (R339). -/
  | busOff (c : CanNo)
  /-- BUS_RECOVERED (R339). -/
  | busRecovered (c : CanNo)
  /-- BUS_INTEGRATED (R338). -/
  | busIntegrated (c : CanNo)
  /-- IDCLASH (R350). -/
  | idclash (c : CanNo) (b : Fin 5)
  /-- CAN_TX_COMPLETE (R349). -/
  | canTxComplete (c : CanNo) (b : Fin 5) (ago tdcv : Nat)
  /-- CAN_ABORT (R348). -/
  | canAbort (c : CanNo) (b : Fin 3)
  /-- CAN_CONFIG (R354). -/
  | canConfig (r : CmdRef)
  /-- CAN_FILTER (R354). -/
  | canFilter (r : CmdRef)
  /-- CAN_SEND (R349). -/
  | canSend (r : CmdRef)
  /-- CAN_STATUS (R354). -/
  | canStatus (r : CmdRef)
  /-- CAN_PEEK (R352). -/
  | canPeek (crcOk : Bool)
  /-- CAN_COMMIT (R352). -/
  | canCommit (crcOk : Bool)
  /-- CAN_TX (R352). -/
  | canTx (crcOk : Bool)
  /-- CAN_STATUS_REQUEST (R352). -/
  | canStatusRequest (crcOk : Bool)
  /-- NETWORK_CMD_INVALID (R383). -/
  | networkCmdInvalid (crcOk : Bool)
  /-- NM_FRAME_SEND (R358). -/
  | nmFrameSend (c : CanNo)
  /-- NM_TIMEOUT (R359). -/
  | nmTimeout (c : CanNo)
  /-- REPEAT_END (R357). -/
  | repeatEnd (c : CanNo)
  /-- NM_SLEEP (R362). -/
  | nmSleep (c : CanNo)
  /-- CAN_WAKE_DETECT (R363). -/
  | canWakeDetect (c : CanNo) (seen : Seen)
  /-- WUF_ERRWAKE (R364). -/
  | wufErrwake (c : CanNo)
  /-- FALSE_WAKE (R365). -/
  | falseWake (c : CanNo)
  /-- MAX_AWAKE (R366). -/
  | maxAwake (c : CanNo)
  /-- NM_KEEPER (R367). -/
  | nmKeeper (c : CanNo)
  /-- NM_CONFIG (R369). -/
  | nmConfig (r : CmdRef)
  /-- NM_REQUEST (R369). -/
  | nmRequest (r : CmdRef)
  /-- NM_REQUEST_REPEAT (R369). -/
  | nmRequestRepeat (r : CmdRef)
  /-- NM_RELEASE (R369). -/
  | nmRelease (r : CmdRef)
  /-- TC10_SLEEP_REQUEST (R368). -/
  | tc10SleepRequest (p : PortNo)
  /-- TC10_SLEEP_RECEIVE (R368). -/
  | tc10SleepReceive (p : PortNo)
  /-- TC10_WAKE (R368). -/
  | tc10Wake (p : PortNo)
  /-- ETH_FRAME_RECEIVE (R374). -/
  | ethFrameReceive (p : PortNo) (frame : List Byte)
  /-- MAC_AGE_OUT (R374). -/
  | macAgeOut (addr : Nat)
  /-- MAC_TABLE_FULL (R375). -/
  | macTableFull
  /-- LINK_UP (R373). -/
  | linkUp (p : PortNo)
  /-- LINK_DOWN (R373). -/
  | linkDown (p : PortNo)
  /-- PDELAY_MEASURE (R378). -/
  | pdelayMeasure (p : PortNo) (ns : Nat)
  /-- GPTP_SYNC (R378). -/
  | gptpSync (p : PortNo)
  /-- GPTP_LOST (R378). -/
  | gptpLost (p : PortNo) (next : Fin 4)
  /-- IP_ADDRESS (R379). -/
  | ipAddress (grant : Option Lease) (other : Option Nat)
  /-- DHCP_RENEWAL (R379). -/
  | dhcpRenewal (extends_ other : Option Nat)
  /-- DHCP_LEASE_LOST (R379). -/
  | dhcpLeaseLost (other : Option Nat)
  /-- TUNNEL_AVTPDU_CLOSE (R382). -/
  | tunnelAvtpduClose (c : CanNo)
  /-- FAR_TRANSACTION_START (R385). -/
  | farTransactionStart (p : FarNo)
  /-- MODBUS_FRAME_RECEIVE (R386). -/
  | modbusFrameReceive (p : FarNo) (frame : List Byte) (charError : Bool)
  /-- FAR_TIMEOUT (R387). -/
  | farTimeout (p : FarNo)
  /-- FAR_TURNAROUND_END (R387). -/
  | farTurnaroundEnd (p : FarNo)
  /-- HEDDLE_WAIT_EXPIRY (R392). -/
  | heddleWaitExpiry (p : FarNo)
  /-- LOCK_EXPIRED (R394). -/
  | lockExpired (p : FarNo)
  /-- FAR_READ (R388). -/
  | farRead (r : CmdRef)
  /-- FAR_WRITE (R388). -/
  | farWrite (r : CmdRef)
  /-- FAR_LOCK (R392). -/
  | farLock (r : CmdRef)
  /-- FAR_UNLOCK (R393). -/
  | farUnlock (r : CmdRef)
  /-- TWIN_LINK_UP (R397). -/
  | twinLinkUp
  /-- TWIN_LINK_DOWN (R416). -/
  | twinLinkDown (detached : Bool)
  /-- TWIN_RETRANSMIT (R398). -/
  | twinRetransmit (seq : Nat)
  /-- MIRROR_ACK_TIMEOUT (R409). -/
  | mirrorAckTimeout
  /-- TWIN_HELLO (R403). -/
  | twinHello (f : List Byte)
  /-- TWIN_ATTEST (R403). -/
  | twinAttest (f : List Byte)
  /-- TWIN_PAIRED (R403). -/
  | twinPaired (f : List Byte)
  /-- TWIN_WEFT (R403). -/
  | twinWeft (f : List Byte) (leadRuns : Bool)
  /-- TWIN_HEARTBEAT (R405). -/
  | twinHeartbeat (f : List Byte) (ofs : Int)
  /-- TWIN_MIRROR (R409). -/
  | twinMirror (f : List Byte)
  /-- TWIN_CONFIG_FRAME (R410). -/
  | twinConfigFrame (f : List Byte)
  /-- TWIN_LOOM_DATA (R408). -/
  | twinLoomData (f : List Byte)
  /-- TWIN_ACK (R398). -/
  | twinAck (f : List Byte)
  /-- TWIN_RELEASE (R401). -/
  | twinRelease (f : List Byte)
  /-- HANDOVER_REQUEST (R418). -/
  | handoverRequest (f : List Byte)
  /-- HANDOVER_ACCEPT (R418). -/
  | handoverAccept (f : List Byte)
  /-- HANDOVER_REFUSE (R418). -/
  | handoverRefuse (f : List Byte)
  /-- HANDOVER_GO (R418). -/
  | handoverGo (f : List Byte)
  /-- HANDOVER_COMPLETE (R418). -/
  | handoverComplete
  /-- CABLE_SENSE (R401). -/
  | cableSense (deciohm : Nat) (low : Bool)
  /-- TAKEOVER (R414). -/
  | takeover
  /-- TOKEN_RELEASE_HOLD_END (R417). -/
  | tokenReleaseHoldEnd (low : Bool)
  /-- LONE_LEAD (R404). -/
  | loneLead (low : Bool)
  /-- PAIRING_RETRY (R403). -/
  | pairingRetry
  /-- TWIN_CONFIG (R419). -/
  | twinConfig (r : CmdRef)
  /-- TWIN_HANDOVER (R418). -/
  | twinHandover (r : CmdRef)
  /-- TWIN_STATUS (R419). -/
  | twinStatus (r : CmdRef)
  /-- BURST_START (R429). -/
  | burstStart
  /-- UWB_POLL (R432). -/
  | uwbPoll (seen : Vector SlotSeen 8)
  /-- BURST_END (R433). -/
  | burstEnd
  /-- FAILURE_DELAY_END (R434). -/
  | failureDelayEnd
  /-- FAIL_DECAY (R433). -/
  | failDecay
  /-- RELEASE_STOPPED (R442). -/
  | releaseStopped
  /-- LEASE_EXPIRY (R445). -/
  | leaseExpiry
  /-- TOKEN_ENROL (R426). -/
  | tokenEnrol (r : CmdRef)
  /-- TOKEN_REVOKE (R427). -/
  | tokenRevoke (r : CmdRef)
  /-- TOKEN_LIST (R447). -/
  | tokenList (r : CmdRef)
  /-- RELEASE_CONFIG_SET (R448). -/
  | releaseConfigSet (r : CmdRef)
  /-- RELEASE_CONFIG_PAIR (R437). -/
  | releaseConfigPair (r : CmdRef)
  /-- RELEASE_CONFIG_UNPAIR (R448). -/
  | releaseConfigUnpair (r : CmdRef)
  /-- RELEASE_CONFIG_RENEW (R445). -/
  | releaseConfigRenew (r : CmdRef)
  /-- LOCKOUT (R447). -/
  | lockout (r : CmdRef)
  /-- CLEAR_LOCKOUT (R448). -/
  | clearLockout (r : CmdRef)
  /-- CLEAR_TAMPER (R448). -/
  | clearTamper (r : CmdRef)
  /-- ATTEST (R459). -/
  | attest (r : CmdRef)
  /-- KEY_ADD (R457). -/
  | keyAdd (r : CmdRef)
  /-- KEY_REMOVE (R458). -/
  | keyRemove (r : CmdRef)
  /-- WEFT_FLOOR_RAISE (R458). -/
  | weftFloorRaise (r : CmdRef)
  /-- UPDATE_CHECK (R467). -/
  | updateCheck (r : CmdRef) (m : Option Medium)
  /-- UPDATE_ARM (R467). -/
  | updateArm (r : CmdRef) (m : Option Medium)
  /-- UPDATE_ARM_BY_WAKE (R467). -/
  | updateArmByWake
  /-- OWNER_CLAIMED (R513). -/
  | ownerClaimed (file : List Byte)
  /-- UPDATE_START (R468). -/
  | updateStart (m : Option Medium)
  /-- UPDATE_BLOCK (R468). -/
  | updateBlock (m : Option Medium) (flash : Option (List Byte))
  /-- MEDIUM_POLL (R469). -/
  | mediumPoll (m : Option Medium)
  /-- RECORD_WRITE (R477). -/
  | recordWrite (ok wordOk : Bool)
  /-- TAIL_SECTOR_ERASE (R489). -/
  | tailSectorErase (ok : Bool)
  /-- RATE_TOKEN (R482). -/
  | rateToken
  /-- COUNTER_SAVE (R481). -/
  | counterSave
  /-- OP_SECOND (R481). -/
  | opSecond
  /-- REC_INFO (R485). -/
  | recInfo (r : CmdRef)
  /-- REC_APPEND (R486). -/
  | recAppend (r : CmdRef)
  /-- IDLE_ENTRY (R495). -/
  | idleEntry
  /-- IDLE_EXIT (R496). -/
  | idleExit
  /-- SLEEP_ENTRY (R499). -/
  | sleepEntry
  /-- DEEP_SLEEP_ENTRY (R501). -/
  | deepSleepEntry
  /-- OFF_ENTRY (R501). -/
  | offEntry
  /-- SLEEP_WAKE (R504). -/
  | sleepWake (source detail : Nat)
  /-- PWR_CONFIG (R509). -/
  | pwrConfig (r : CmdRef)
  /-- PWR_ENTER (R502). -/
  | pwrEnter (r : CmdRef)
  /-- WAKE_SOURCE (R509). -/
  | wakeSource (r : CmdRef)
  /-- SYNC_IN_EDGE (R46). -/
  | syncInEdge (hz : Nat) (dev : Int)
  /-- SUPPLY_MONITOR_UPDATE (R32). -/
  | supplyMonitorUpdate (aux a b c d : Nat)
  /-- WAKE_RISING_EDGE (R503). -/
  | wakeRisingEdge
  /-- WAKE_FALLS (R513). -/
  | wakeFalls
  /-- TC10_SLEEP_ACKNOWLEDGE (R368). -/
  | tc10SleepAcknowledge (p : PortNo) (ack : Bool)
  /-- VBOOST_AT_VB_SET (R198). -/
  | vboostAtVbSet (mv : Nat)
  deriving DecidableEq, Repr

end Sys2Proof
end

