-- ==== Sys2Proof/Machine/Mem.lean ====
section
/-! DEFINITION. The byte-addressed memories of the Otcel (IMEM, DMEM, timetable RAM, staging area, user profiles,
bobbin store) as one sparse list in canonical form, at the addresses the data port gives them (R305).
An unlisted byte reads 0 (DESIGN CHOICE, log entry 2). -/

namespace Sys2Proof.Machine

open Sys2Proof

/-- Address and byte pairs, addresses strictly rising, no listed byte 0. -/
abbrev Memory := List Host.Cell

/-- What an unlisted address reads. -/
def Memory.blank : Byte := 0

/-- Every address above `lo`, rising, no byte blank. -/
def Memory.wfFrom : Nat → List Host.Cell → Bool
  | _, [] => true
  | lo, (a, b) :: m => decide (lo ≤ a) && (b != Memory.blank) && Memory.wfFrom (a + 1) m

/-- The canonical form. -/
def Memory.wf (m : List Host.Cell) : Bool := Memory.wfFrom 0 m

/-- One byte. -/
def Memory.read : List Host.Cell → Nat → Byte
  | [], _ => Memory.blank
  | (k, v) :: m, a => if k = a then v else Memory.read m a

/-- Write one byte. -/
def Memory.write : List Host.Cell → Nat → Byte → List Host.Cell
  | [], a, b => if b = Memory.blank then [] else [(a, b)]
  | (k, v) :: m, a, b =>
    if a < k then (if b = Memory.blank then (k, v) :: m else (a, b) :: (k, v) :: m)
    else if a = k then (if b = Memory.blank then m else (a, b) :: m)
    else (k, v) :: Memory.write m a b

/-- Write a byte string at rising addresses. -/
def Memory.writeBytes : List Host.Cell → Nat → List Byte → List Host.Cell
  | m, _, [] => m
  | m, a, b :: bs => Memory.writeBytes (Memory.write m a b) (a + 1) bs

/-- Read `n` bytes from rising addresses. -/
def Memory.readBytes (m : List Host.Cell) (a : Nat) : Nat → List Byte
  | 0 => []
  | n + 1 => Memory.read m a :: Memory.readBytes m (a + 1) n

/-- Blank the addresses `lo ≤ a < hi`. -/
def Memory.clear (m : List Host.Cell) (lo hi : Nat) : List Host.Cell :=
  m.filter fun c => decide (c.1 < lo) || decide (hi ≤ c.1)

/-- A little-endian number of `n` bytes (R76). -/
def Memory.num (m : List Host.Cell) (a n : Nat) : Nat := ofLe (Memory.readBytes m a n)

end Sys2Proof.Machine
end

