-- ==== Sys2Proof/Machine/StOut.lean ====
section
/-! DEFINITION. What leaves the module's pins, as the model's own trace: packets, frames and polls, latest first. -/

namespace Sys2Proof.Machine

open Sys2Proof

/-- One thing sent. `udp` goes from port `from_` of the Otcel to an address and port (R279), under its IPv4 header. `eth` names the port (1 or 2), the egress queue of
R377 and the frame without its FCS, `can` the DLC, `dhcp` the message type of RFC 2131, `ptp` the port, the messageType of IEEE 802.1AS and the
correctionField of a relayed Follow_Up (R378). -/
inductive Out where
  | udp (from_ addr port : Nat) (header payload : List Byte)
  | can (ch : Fin 6) (id : Nat) (ide rtr fdf brs esi : Bool) (dlc : Nat) (data : List Byte)
  | eth (port queue : Nat) (frame : List Byte)
  | dhcp (kind : Nat)
  | ptp (port kind correction : Nat)
  | rs485 (port : Nat) (frame : List Byte)
  | twin (frame : List Byte)
  | tc10Sleep (port : Nat)
  | tc10Answer (port : Nat) (ack : Bool)
  | tc10Wake (port : Nat)
  | uwb (channel : Nat) (payload : List Byte)
  deriving DecidableEq, Repr

end Sys2Proof.Machine
end

