-- ==== Sys2Proof/Machine/State.lean ====
section
/-! DEFINITION. The whole state of the Otcel, the state after reset, and the reasons a step can stop. -/

namespace Sys2Proof.Machine

open Sys2Proof

/-- The state. Two fields are the model's own and no part of the block: `free`, how many free values have been drawn, and `out`, the trace
of what has left the pins. `now` is true time in µs; `pending` the commands that wait, first in, first out. -/
structure State where
  /-- True time, µs since the first power-up. -/
  now     : Nat
  /-- How many free values have been drawn. -/
  free    : Nat
  /-- What has left the pins, latest first. -/
  out     : List Out
  /-- IMEM, DMEM, timetable RAM, staging area, user profiles and the bobbin store (R305). -/
  mem     : Memory
  /-- Supplies and their monitors (spec/01). -/
  supply  : Supply
  /-- The clock tree (spec/02). -/
  clk     : Clock
  /-- The clock configuration held in the Keep domain (R66). -/
  ccfg    : ClockCfg
  /-- Warp time and the local warp counters (R53 to R56). -/
  wt      : WarpTime
  /-- The shuttle links (R57 to R63). -/
  links   : Tab Link 23
  /-- Power domains, power state and wake sources (spec/19). -/
  pwr     : Power
  /-- The event recorder (spec/18). -/
  rcd     : Recorder
  /-- The fault queue and the release gate (spec/11). -/
  flt     : Faults
  /-- Sessions, groups, sources, windows and notification queues (spec/10). -/
  cmd     : Commands
  /-- The switch island (spec/05, spec/06). -/
  sw      : Switch
  /-- The drive island (spec/07, spec/08). -/
  drv     : Drive
  /-- The field island and the isolated field side (spec/09). -/
  fld     : Field
  /-- The Loom (spec/03). -/
  loom    : Loom
  /-- The weft store and the weft in progress (spec/04). -/
  weft    : Wefts
  /-- The CAN controllers (spec/12). -/
  can     : Can
  /-- Network management and selective wake (spec/13). -/
  nm      : Nm
  /-- The Ethernet switch, gPTP, IP and the tunnels (spec/14). -/
  eth     : Eth
  /-- The Modbus bridge (spec/14). -/
  far     : Bridge
  /-- The twin pair (spec/15). -/
  twin    : Twin
  /-- Door access and the release stream (spec/16). -/
  acc     : Access
  /-- Keys, firmware and the update (spec/17). -/
  id      : Ident
  /-- The commands that wait. -/
  pending : List Instr
  deriving DecidableEq, Repr

/-- The machine at its first power-up (R505): each part at the values its chapter gives for a Keep-domain cold start, warp time at 0 (R56), the
record of the cold start still due, no command waiting. -/
def State.reset : State :=
  { now := 0, free := 0, out := [], mem := [], supply := Supply.reset, clk := Clock.reset, ccfg := ClockCfg.reset, wt := WarpTime.reset,
    links := Tab.fill 23 Link.reset, pwr := Power.reset, rcd := Recorder.reset, flt := Faults.reset, cmd := Commands.reset,
    sw := Switch.reset, drv := Drive.reset, fld := Field.reset, loom := Loom.reset, weft := Wefts.reset, can := Can.reset, nm := Nm.reset,
    eth := Eth.reset, far := Bridge.reset, twin := Twin.reset, acc := Access.reset, id := Ident.reset, pending := [] }

/-- Why a step can end in a fault. -/
inductive Fault where
  /-- Raised by SUPPLY_MONITOR_UPDATE for a supply above the maximum of the operating conditions (R2, R34): the spec says nothing of the
  module beyond them. Safe. -/
  | outsideLimits
  deriving DecidableEq, Repr

/-- Why a step can be refused. -/
inductive Refusal where
  /-- Raised by an arm of `exec` whose command has no meaning yet; the table's mnemonic. Safe. -/
  | notModelled (mnemonic : String)
  deriving DecidableEq, Repr

end Sys2Proof.Machine
end

