-- ==== Sys2Proof/Machine/Ops.lean ====
section
/-! DEFINITION. The operations every family shares: free values, output, records with the rate limit (R479 to R483,
R490), FAULT words (R309), memory, updates of one part of the state. -/

namespace Sys2Proof.Machine

open Sys2Proof

/-! ## Parts of the state -/

def State.onSupply (s : State) (f : Supply → Supply) : State := { s with supply := f s.supply }
def State.onClk (s : State) (f : Clock → Clock) : State := { s with clk := f s.clk }
def State.onWt (s : State) (f : WarpTime → WarpTime) : State := { s with wt := f s.wt }
def State.onLinks (s : State) (f : Tab Link 23 → Tab Link 23) : State := { s with links := f s.links }
def State.onPwr (s : State) (f : Power → Power) : State := { s with pwr := f s.pwr }
def State.onRcd (s : State) (f : Recorder → Recorder) : State := { s with rcd := f s.rcd }
def State.onFlt (s : State) (f : Faults → Faults) : State := { s with flt := f s.flt }
def State.onCmd (s : State) (f : Commands → Commands) : State := { s with cmd := f s.cmd }
def State.onSw (s : State) (f : Switch → Switch) : State := { s with sw := f s.sw }
def State.onDrv (s : State) (f : Drive → Drive) : State := { s with drv := f s.drv }
def State.onFld (s : State) (f : Field → Field) : State := { s with fld := f s.fld }
def State.onLoom (s : State) (f : Loom → Loom) : State := { s with loom := f s.loom }
def State.onWeft (s : State) (f : Wefts → Wefts) : State := { s with weft := f s.weft }
def State.onCan (s : State) (f : Can → Can) : State := { s with can := f s.can }
def State.onNm (s : State) (f : Nm → Nm) : State := { s with nm := f s.nm }
def State.onEth (s : State) (f : Eth → Eth) : State := { s with eth := f s.eth }
def State.onFar (s : State) (f : Bridge → Bridge) : State := { s with far := f s.far }
def State.onTwin (s : State) (f : Twin → Twin) : State := { s with twin := f s.twin }
def State.onAcc (s : State) (f : Access → Access) : State := { s with acc := f s.acc }
def State.onId (s : State) (f : Ident → Ident) : State := { s with id := f s.id }

/-- Apply `f` for each element of a list, in order. -/
def State.forEach {α : Type} (s : State) (l : List α) (f : α → State → State) : State :=
  l.foldl (fun acc x => f x acc) s

/-- Send something. -/
def State.send (s : State) (o : Out) : State := { s with out := o :: s.out }

/-- Draw the next free value; the counter only moves on. -/
def State.draw (s : State) : Nat × State := (Config.free s.free, { s with free := s.free + 1 })

/-- Draw `n` free bytes. -/
def State.drawBytes : Nat → State → List Byte × State
  | 0, s => ([], s)
  | n + 1, s =>
    let (v, s1) := s.draw
    let (vs, s2) := State.drawBytes n s1
    (BitVec.ofNat 8 v :: vs, s2)

/-- The low 32 bits of warp time. -/
def State.tick (s : State) : Word := s.wt.warp.setWidth 32

/-- Warp time as a number of ticks. -/
def State.warp (s : State) : Nat := s.wt.warp.toNat

/-- The warp frame, and the frame within the hyperperiod (R115). -/
def State.frame (s : State) : Nat := s.warp / 1000
def State.hyperFrame (s : State) : Nat := s.frame % 1000

/-- The warp ticks counted so far: what the drive island's times count (R196). -/
def State.ticks (s : State) : Nat := s.wt.ticks

/-- True-time microseconds since an instant. -/
def State.since (s : State) (t : Nat) : Nat := s.now - t

/-! ## Memory -/

def State.writeMem (s : State) (a : Nat) (bs : List Byte) : State := { s with mem := Memory.writeBytes s.mem a bs }
def State.clearMem (s : State) (lo hi : Nat) : State := { s with mem := Memory.clear s.mem lo hi }

/-! ## Records -/

/-- The fraction of the operating second, in 1/65 536 s: twice the LFO cycles since the second began (R481). -/
def State.subsec (s : State) : Nat := (2 * (s.since s.rcd.secondAt * 32768 / 1000000)) % 65536

/-- A record stamped with the present time (R473, R481). -/
def State.stamp (s : State) (code source severity : Nat) (p0 p1 p2 : Word) : Record :=
  { code := code, source := source, severity := severity, opSec := s.rcd.opSeconds, subsec := s.subsec,
    cycles := s.rcd.cycles, p0 := p0, p1 := p1, p2 := p2 }

/-- Raise the counter of a code after saturation (R490): entries in order of first occurrence, the last is OTHER. -/
def Recorder.count (r : Recorder) (code : Nat) : Recorder :=
  if r.saturated then
    if r.counters.any (fun c => c.code == code) then
      { r with counters := r.counters.map fun c =>
          if c.code = code then { c with count := satAdd 0xFFFFFFFF c.count 1 } else c }
    else if r.counters.length < 1023 then { r with counters := r.counters ++ [{ code := code, count := 1 }] }
    else { r with other := satAdd 0xFFFFFFFF r.other 1 }
  else r

/-- One record dropped or lost (R483). -/
def Recorder.lose (r : Recorder) : Recorder :=
  { r with lostPending := satAdd 0xFFFF r.lostPending 1, lostTotal := satAdd 0xFFFFFFFF r.lostTotal 1 }

/-- Every sector of the tail ring worn (R517). -/
def Recorder.allWorn (r : Recorder) : Bool := decide (r.worn.length ≥ tailSlots / sectorSlots)

/-- The island of a record, as R479 orders it; a host's record comes from the service core. -/
def Buffered.island (b : Buffered) : Nat := if b.record.source = 0xFF then 2 else b.record.source

/-- A record enters the buffer: behind every earlier one, and among those of its instant by island number (R479). -/
def enterBuffer (b : Buffered) (l : List Buffered) : List Buffered :=
  let later := fun (x : Buffered) => decide (x.at_ = b.at_) && decide (b.island < x.island) && decide (x.fails = 0)
  let n := (l.reverse.takeWhile later).length
  l.take (l.length - n) ++ b :: l.drop (l.length - n)

/-- A record presented to the recorder (R482, R480, R490, R517). `full` is the case of R480: PD2 off, buffer full. -/
def Recorder.present (r : Recorder) (b : Buffered) (pd2 : Bool) : Recorder :=
  let r := r.count b.record.code
  if r.saturated && r.allWorn then { r with lostTotal := satAdd 0xFFFFFFFF r.lostTotal 1 }
  else if 0xF000 ≤ b.record.code then { r with buffer := enterBuffer b r.buffer }
  else if r.tokens = 0 then r.lose
  else if !pd2 && decide (256 ≤ r.buffer.length) then { r.lose with tokens := r.tokens - 1 }
  else { r with tokens := r.tokens - 1, buffer := enterBuffer b r.buffer }

/-- Is the recorder's flash interface powered (PD2, R480)? -/
def State.pd2 (s : State) : Bool := s.pwr.domains.get 2

/-- Write a record of severity `sev` (R473, R482). -/
def State.recordSev (s : State) (code source sev : Nat) (p0 p1 p2 : Nat) : State :=
  s.onRcd fun r =>
    r.present { record := s.stamp code source sev (w32 p0) (w32 p1) (w32 p2), at_ := s.now, fails := 0, cmd := none } s.pd2

/-- Write a record that raises no fault (R474: severity 5). -/
def State.record (s : State) (code source : Nat) (p0 p1 p2 : Nat) : State := s.recordSev code source 5 p0 p1 p2

/-- A FAULT word on its way to the Taproot (R309), with the next number of its island's link (R59). -/
def State.faultWord (s : State) (c : Cls) (island code : Nat) (p0 p1 : Nat) (event : Nat) : State :=
  let k : Fin 9 := Fin.ofNat 9 island
  s.onFlt fun f =>
    { f with words := f.words ++
               [{ cls := c, island := island, code := code, p0 := w32 p0, p1 := w32 p1, at_ := s.now, tick := s.tick,
                  event := event, seq := f.txSeq.get k, resent := false }]
             txSeq := f.txSeq.upd k fun n => (n + 1) % 256 }

/-- Write a record and raise the fault of its class (R308, R309, R474). -/
def State.fault (s : State) (c : Cls) (island code : Nat) (p0 p1 p2 : Nat) : State :=
  (s.recordSev code island c.num p0 p1 p2).faultWord c island code p0 p1 0

/-- As `fault`, for records that are one event with another (R67, R310). -/
def State.faultEvent (s : State) (event : Nat) (c : Cls) (island code : Nat) (p0 p1 p2 : Nat) : State :=
  (s.recordSev code island c.num p0 p1 p2).faultWord c island code p0 p1 event

/-- The watchdogs of some islands start with their full timeout (R318, R496). -/
def State.wdtStart (s : State) (p : Fin 9 → Bool) : State :=
  let t := s.now
  s.onFlt fun f => { f with wdtFrom := f.wdtFrom.mapIdx fun n x => if p n then t else x }

/-- A signed parameter of a record. -/
def sgn (v : Int) : Nat := unsigned 32 v

/-- Write a record when a condition holds. -/
def State.recordIf (b : Bool) (s : State) (code source : Nat) (p0 p1 p2 : Nat) : State :=
  if b then s.record code source p0 p1 p2 else s

/-! ## Plan faults -/

/-- A plan fault (R125, R126): the first of its source in the frame enters the fault queue, later ones are records. -/
def State.planFault (s : State) (key : Nat × Nat) (island code p0 p1 p2 : Nat) : State :=
  if key ∈ s.flt.planSeen then s.record code island p0 p1 p2
  else (s.onFlt fun f => { f with planSeen := key :: f.planSeen }).fault .C island code p0 p1 p2

/-- A class C fault of a weft's word that R126 does not list among those that enter the queue: a record only (DEDUCED, log entry 12). -/
def State.planRecord (s : State) (island code p0 p1 p2 : Nat) : State := s.recordSev code island Cls.C.num p0 p1 p2

/-- NOT_OWNED and COMMIT_MISSING, which an island raises outside any activation: one of each island in a frame enters the queue (R125, R126;
DEDUCED, log entry 12). -/
def State.islandPlanFault (s : State) (island code p0 p1 p2 : Nat) : State :=
  s.planFault (1, island) island code p0 p1 p2

/-! ## The twin pair's rules for objects -/

/-- Does this module never drive an object: a shared one while it is not lead (R402, R406)? -/
def State.mute (s : State) (shared : Bool) : Bool := shared && decide (s.twin.role ≠ .lead)

/-- Is a shared object inhibited (R402)? -/
def State.inhibited (s : State) (shared : Bool) : Bool := shared && !s.twin.en

/-- Is the object the lead twin's, so that OWNER reads 3 (R406)? -/
def State.leads (s : State) (shared : Bool) : Bool := shared && decide (s.twin.role = .shadow)

/-- Does the lead deny host commands on an object (R411)? -/
def State.twinDenies (s : State) (shared : Bool) : Bool :=
  decide (s.twin.role = .lead) && (decide (s.twin.pair = .paired) || decide (s.twin.pair = .lone)) && !shared

/-- The OWNER field of an object (R164, R227, R406). -/
def State.ownerNum (s : State) (o : Owner) (shared : Bool) : Nat := if s.leads shared then 3 else o.num

/-! ## The weft in force -/

/-- The running weft. -/
def State.runningWeft (s : State) : Option Weft :=
  match s.weft.running with
  | none => none
  | some k => s.weft.store.get k

/-- The template of the present frame (R115). -/
def State.template (s : State) (w : Weft) : Nat := w.frameMap.getD s.hyperFrame 0

/-- The ENVELOPE value of a template, input and slot (R109). -/
def Weft.env (w : Weft) (t p slot : Nat) : Nat := w.envelope.getD (40 * (4 * t + p) + slot) 0

/-- The envelope in force on an input at the present tick (R181). -/
def State.envelope (s : State) (p : PwrNo) : Nat :=
  match s.runningWeft with
  | some w => w.env (s.template w) p.1 (s.warp % 1000 / 25)
  | none => (s.sw.guards.get p).budget

/-- The least of a list of numbers, 0 for none. -/
def leastOf : List Nat → Nat
  | [] => 0
  | x :: xs => xs.foldl min x

/-- The admission budget B of an input (R188). -/
def State.admitBudget (s : State) (p : PwrNo) : Nat :=
  match s.runningWeft with
  | some w => leastOf (w.frameMap.flatMap fun t => (List.range 40).map fun k => w.env t p.1 k)
  | none => (s.sw.guards.get p).budget

/-! ## The boost converter's stops -/

/-- What stops recharging (R198). -/
def State.rechargeStop (s : State) : Bool :=
  s.supply.low.get 3 || (s.sw.guards.get 3).shedding || decide (66000 < s.drv.vboost)

/-- Recharging begins: when the island starts (R198). -/
def Drive.railStart (d : Drive) (now : Nat) : Drive := { d with recharging := true, failFrom := some now, failed := false }

/-- Judge the rail anew after VBOOST or a stop has changed (R198). -/
def State.railUpdate (s : State) : State :=
  let stop := s.rechargeStop
  s.onDrv fun d =>
    let d := { d with recharging := !stop && decide (d.vboost < d.vbSet) }
    if stop || decide (d.vbStart ≤ d.vboost) then { d with failFrom := none, failed := false }
    else { d with failFrom := some (d.failFrom.getD s.ticks) }

end Sys2Proof.Machine
end

