-- ==== Sys2Proof/Machine/TwinBase.lean ====
section
/-! DEFINITION. What other files need of the twin link and of the CAN controllers: a twin frame out (R398), the mirror stages of the lead
(R409), the configuration it mirrors (R410), a frame of the Otcel's own into TBS (R346). -/

namespace Sys2Proof.Machine

open Sys2Proof

/-! ## CAN -/

def State.canCh (s : State) (c : CanNo) : CanCh := s.can.chans.get c

def State.onCanCh (s : State) (c : CanNo) (f : CanCh → CanCh) : State := s.onCan fun k => { k with chans := k.chans.upd c f }

/-- An empty buffer takes a frame (R346, R350). -/
def TxBuf.load (b : TxBuf) (f : CanFrame) (now : Nat) : TxBuf :=
  { b with frame := some (f, now), next := none, attempts := 0, clash := 0, abort := false }

/-- A frame is loaded, or takes the place of the pending one, once no attempt with that is in progress (R352); the count is 0 (R350). -/
def TxBuf.replace (b : TxBuf) (f : CanFrame) (now : Nat) : TxBuf :=
  if b.frame.isSome then { b with next := some (f, now), clash := 0 } else b.load f now

/-- Nominal and data bit time in units of 25 ns (R335). -/
def nominalQuanta (nbt : Nat) : Nat := (bits nbt 0 8 + 1) * (1 + (bits nbt 8 8 + 1) + (bits nbt 16 7 + 1))
def dataQuanta (dbt : Nat) : Nat := (bits dbt 0 5 + 1) * (1 + (bits dbt 8 5 + 1) + (bits dbt 16 4 + 1))

def CanCh.fdEn (x : CanCh) : Bool := bit x.ctrl 3
def CanCh.tdcEn (x : CanCh) : Bool := bit x.tdc 0

/-- Is the data rate above 2 Mbit/s? -/
def CanCh.fast (x : CanCh) : Bool := decide (dataQuanta x.dbt < 20)

/-- Does a frame pass R347? -/
def CanCh.loadable (x : CanCh) (f : CanFrame) : Bool :=
  !(f.fdf && !x.fdEn) && !(f.brs && !f.fdf) && !(f.brs && x.fast && !x.tdcEn) && !(f.rtr && f.fdf) &&
    (decide (f.len ≤ 8) || (f.fdf && [12, 16, 20, 24, 32, 48, 64].contains f.len))

/-- A frame of the Otcel's own goes to TBS, behind those that wait for it (R346; log entry 30), unless it is refused at loading (R347). -/
def CanCh.queueOwn (x : CanCh) (f : CanFrame) (now : Nat) : CanCh :=
  if !x.loadable f then x
  else if (x.tx.get 3).frame.isNone then { x with tx := x.tx.upd 3 fun b => b.load f now } else { x with waiting := x.waiting ++ [f] }

/-! ## Configuration words -/

/-- CH_CONFIG as a word (R164). -/
def ChCfg.word (k : ChCfg) : Nat :=
  k.profile + 2 ^ 4 * k.pg.1 + 2 ^ 6 * b2n k.autoPhase + 2 ^ 7 * b2n k.olOffEn + 2 ^ 8 * k.policy + 2 ^ 10 * b2n k.safeValue +
    2 ^ 11 * b2n k.sleepHold + 2 ^ 12 * b2n k.twinShared

/-- PROT_CONFIG and OL_CONFIG as words (R164). -/
def ChCfg.protWord (k : ChCfg) : Nat := k.retryN + 2 ^ 8 * k.p0Ms + 2 ^ 16 * k.retryWindow
def ChCfg.olWord (k : ChCfg) : Nat := k.olThresh + 2 ^ 16 * k.olTime

/-- The configuration registers as words (R227). -/
def AcCfg.word (k : AcCfg) : Nat → Nat
  | 0x00 => k.bobbin.1 + 2 ^ 4 * b2n k.learnEn + 2 ^ 5 * b2n k.holdMinEn + 2 ^ 8 * k.policy + 2 ^ 12 * b2n k.twinShared
  | 0x04 => k.safeAfter
  | 0x08 => k.iPeak + 2 ^ 16 * k.iHold
  | 0x0C => k.tBoostMin + 2 ^ 16 * k.tBoostMax
  | 0x10 => k.tPeak + 2 ^ 16 * k.holdHyst
  | 0x14 => k.ttpMin + 2 ^ 16 * k.ttpMax
  | 0x18 => k.kinkMin + 2 ^ 16 * k.kinkMax
  | 0x1C => k.kinkAvg + 4 * b2n k.kinkEnd + 8 * b2n k.kinkReq + 16 * b2n k.kinkAction + 2 ^ 16 * k.kinkThresh
  | 0x20 => k.boostExtend + 2 ^ 16 * k.holdMargin
  | 0x24 => k.holdFloor
  | 0x28 => k.dutyWindow + 2 ^ 8 * k.dutyLimit
  | _ => 0

/-- The eleven configuration registers' offsets (R227). -/
def acOffsets : List Nat := [0x00, 0x04, 0x08, 0x0C, 0x10, 0x14, 0x18, 0x1C, 0x20, 0x24, 0x28]

/-- The bobbin store's address in memory (R241). -/
def bobAddr (n : Nat) : Nat := 0x22100000 + 0x100 * n

/-- Words of memory from an address, as address and value. -/
def State.memWords (s : State) (a n : Nat) : List (Nat × Nat) :=
  (List.range n).map fun i => (a + 4 * i, Memory.num s.mem (a + 4 * i) 4)

/-- The key-store items of R446 at the addresses of R400. -/
def State.keyItems (s : State) : List (Nat × Nat) :=
  (List.finRange 32).flatMap (fun k =>
    let a := 0xF0000000 + 32 * k.1
    match s.acc.tokens.get k with
    | none => (List.range 8).map fun i => (a + 4 * i, 0)
    | some t =>
      [(a, t.id % 2 ^ 32), (a + 4, t.id / 2 ^ 32)] ++ (List.range 4).map (fun i => (a + 8 + 4 * i, u32 t.key (4 * i))) ++
        [(a + 24, 1), (a + 28, 0)]) ++
  [(0xF0000400, b2n s.acc.lockedOut + 2 * b2n s.acc.tamper),
   (0xF0000404, if s.acc.leaseOk then (s.acc.leaseFrom + (3600 * (s.acc.cfg.lease % 65536) : Nat) - (s.rcd.opSeconds : Nat)).toNat else 0)]

/-- The configuration the shadow is to have (R410, R446): a PG_PERIOD as it was written, which acts at a hyperperiod boundary. -/
def State.mirrorCfg (s : State) : List (Nat × Nat) :=
  (List.finRange 48).flatMap (fun c =>
    let k := (s.sw.chans.get c).cfg
    let a := 0x20000000 + 0x100 * c.1
    if k.twinShared then [(a, k.word), (a + 4, k.iNom), (a + 8, k.safeAfter), (a + 12, k.protWord), (a + 16, k.olWord)] else []) ++
  (List.finRange 12).flatMap (fun c =>
    let k := (s.drv.acts.get c).cfg
    if k.twinShared then acOffsets.map fun o => (0x22000000 + 0x100 * c.1 + o, k.word o) else []) ++
  (List.finRange 4).map (fun g => (0x20003010 + 4 * g.1, (s.sw.pgPend.get g).getD (s.sw.pg.get g))) ++
  s.memWords 0x21000100 64 ++ s.memWords (bobAddr 1) 960 ++ s.keyItems

/-! ## Frames out -/

/-- The epoch a frame carries: 0 before pairing (R398). -/
def Twin.frameEpoch (t : Twin) : Nat := if t.agreed then t.epoch else 0

/-- A twin frame (R398): header, payload, CRC-32C. -/
def twinBytes (typ : Nat) (ack : Bool) (epoch seq : Nat) (payload : List Byte) : List Byte :=
  let b := le 1 typ ++ le 1 (b2n ack) ++ le 2 payload.length ++ le 4 epoch ++ le 4 seq ++ payload
  b ++ le 4 (crc32c b)

/-- A twin frame with the next SEQ; one with ACK_REQ is kept until it is acknowledged (R398). -/
def State.twinSend (s : State) (typ : Nat) (payload : List Byte) (ack : Bool) (msn : Option Nat) (last : Bool) : State :=
  let t := s.twin
  let f : TwinFly := { typ := typ, epoch := t.frameEpoch, seq := t.txSeq, payload := payload, msn := msn, last := last, sentAt := s.now, firstAt := s.now,
                       repeats := 0 }
  (s.send (.twin (twinBytes typ ack t.frameEpoch t.txSeq payload))).onTwin fun t =>
    { t with txSeq := (t.txSeq + 1) % 2 ^ 32, fly := if ack then t.fly ++ [f] else t.fly }

/-- Must a frame wait for LOOM_DATA (R400)? LOOM_DATA, ACK and HEARTBEAT do not, nor does RELEASE, which is sent within 2 µs (R401; DEDUCED,
log entry 157). -/
def State.twinWaits (s : State) (typ : Nat) : Bool :=
  decide (s.twin.pair = .paired) && s.weft.running.isSome && decide (920 ≤ s.warp % 1000) && decide (s.twin.loomAt ≠ some s.frame) &&
    !([0x10, 0x30, 0x7E, 0x7F].contains typ)

/-- A twin frame, sent at once or once LOOM_DATA has been sent (R398, R400). -/
def State.twinFrame (s : State) (typ : Nat) (payload : List Byte) (ack : Bool) (msn : Option Nat) (last : Bool) : State :=
  if s.twinWaits typ then
    s.onTwin fun t => { t with later := t.later ++ [{ typ := typ, payload := payload, ack := ack, msn := msn, last := last }] }
  else s.twinSend typ payload ack msn last

/-- The frames that have waited go out in their order (R400). -/
def State.flushLater (s : State) : State :=
  let l := s.twin.later
  (s.onTwin fun t => { t with later := [] }).forEach l fun f s => s.twinSend f.typ f.payload f.ack f.msn f.last

/-- Has this module, as lead, told the shadow to go (R418 step 3)? -/
def Twin.handedOver (t : Twin) : Bool :=
  match t.handover with
  | some h => h.gone && h.cmd.isSome
  | none => false

/-- Does this module mirror (R403, R409, R416)? -/
def State.mirrors (s : State) : Bool := decide (s.twin.role = .lead) && decide (s.twin.pair = .paired) && !s.twin.handedOver

/-- The key ID of a source as the mirror carries it: 0xFF in every byte for the CAN source (R400). -/
def State.keyIdOf (s : State) : Src → List Byte
  | .can => List.replicate 8 0xFF
  | .clear => zeros 8
  | .session k => match s.cmd.sessions.get k with
    | some x => x.keyId
    | none => zeros 8

/-- The holder of a group as the mirror carries it (R400). -/
def State.holderId (s : State) (g : Group) : List Byte :=
  match g.holder with
  | .free => zeros 8
  | .src x => s.keyIdOf x
  | .keyId k => k

/-- A mirror frame with the next MSN (R409). -/
def State.mirrorFrame (s : State) (typ : Nat) (rest : List Byte) : State :=
  let m := s.twin.msn + 1
  (s.onTwin fun t => { t with msn := m }).twinFrame typ (le 4 m ++ rest) true (some m) false

/-- Stage TAKEN (R400, R409). -/
def State.mirrorTaken (s : State) (src : Src) (group tag : Nat) (packet : List Byte) : State :=
  if s.mirrors then s.mirrorFrame 0x20 (le 1 0 ++ le 1 group ++ le 2 tag ++ s.keyIdOf src ++ packet) else s

/-- Stage BEGUN (R400, R409). -/
def State.mirrorBegun (s : State) (group tag : Nat) : State :=
  if s.mirrors then s.mirrorFrame 0x20 (le 1 1 ++ le 1 group ++ le 2 tag) else s

/-- Entries of one CONFIG frame (R400): address, value, command check. -/
def configEntry (e : Nat × Nat) : List Byte :=
  let b := le 4 e.1 ++ le 4 e.2
  b ++ le 1 (crc8 b) ++ zeros 3

/-- CONFIG frames for the values the shadow does not have yet (R410), at most 132 entries each. -/
def State.sendConfig : Nat → List (Nat × Nat) → State → State
  | 0, _, s => s
  | _, [], s => s
  | k + 1, l, s =>
    let part := l.take 132
    State.sendConfig k (l.drop 132) (s.mirrorFrame 0x21 (le 2 part.length ++ zeros 2 ++ part.flatMap configEntry))

/-- The configuration changed since the last CONFIG frames goes to the shadow (R410). -/
def State.mirrorConfig (s : State) : State :=
  if s.mirrors then
    let l := s.mirrorCfg
    let new := l.filter fun e => !(s.twin.sentCfg.contains e)
    (State.sendConfig 16 new s).onTwin fun t => { t with sentCfg := l }
  else s

/-- Causes as the mirror carries them (R400). -/
def Causes.num (c : Causes) : Nat := b2n c.failure + 2 * b2n c.clsS + 4 * b2n c.clsD + 8 * b2n c.reset

/-- Stage DONE of a command (R400, R409), with the packet that goes to the host. -/
def State.mirrorDone (s : State) (g : Grp) (tag status : Nat) (causes : Causes) (packet : List Byte) : State :=
  if s.mirrors then
    let s := s.mirrorConfig
    let x := s.cmd.groups.get g
    s.mirrorFrame 0x20 (le 1 2 ++ le 1 g.1 ++ le 2 tag ++ le 1 status ++ le 1 causes.num ++ le 2 x.expected ++ s.holderId x ++ packet)
  else s

/-- The stall of every group, as a DONE with no command (R409). -/
def State.mirrorStallAll (s : State) (causes : Nat) : State :=
  if s.mirrors then s.mirrorFrame 0x20 (le 1 2 ++ le 1 0xFF ++ zeros 2 ++ le 1 0 ++ le 1 causes ++ zeros 10) else s

end Sys2Proof.Machine
end

