-- ==== Sys2Proof/Machine/FarBase.lean ====
section
/-! DEFINITION. What the command interface needs of the Modbus bridge (spec/14): a transaction's stream item, the end of locks, the
transactions that a stalled group holds back (R391). -/

namespace Sys2Proof.Machine

open Sys2Proof

def allFar : List FarNo := List.finRange 2

def State.farPort (s : State) (p : FarNo) : FarPort := s.far.ports.get p

def State.onFarPort (s : State) (p : FarNo) (f : FarPort → FarPort) : State := s.onFar fun b => { b with ports := b.ports.upd p f }

def farNum (p : FarNo) : Nat := p.1 + 1

def Far.function (f : Far) : Nat := u8 f.pdu 0

/-- A transaction's stream item is filled (R390). -/
def FarPort.fillItem (k : FarPort) (p : FarNo) (f : Far) (exception : Nat) (data : List Byte) : FarPort :=
  match f.toStream with
  | none => k
  | some n =>
    let g := match f.group with
      | some g => g.1
      | none => 0xFF
    let b := le 1 (farNum p) ++ le 1 f.unit ++ le 1 f.function ++ le 1 exception ++ le 2 data.length ++ le 1 n ++ le 1 g ++ le 2 f.tag ++
      zeros 2 ++ padTo 252 data
    { k with items := k.items.map fun i => if i.seq = n ∧ i.bytes = none then { i with bytes := some b } else i }

/-- The write of 0 to SEM_REG by function 06 (R393, R394). -/
def FarPort.releasePdu (k : FarPort) : List Byte := (le 1 6) ++ (le 2 (bits k.opts 16 16)).reverse ++ zeros 2

/-- The Otcel's own release of a semaphore (R394). -/
def FarPort.releaseFar (k : FarPort) (l : FarLock) : Far :=
  { kind := .release, cmd := none, src := l.src, group := l.group, tag := 0, posted := false, unit := l.unit, pdu := k.releasePdu,
    toStream := none, attempts := 0, held := false, waitFrom := none }

/-- No heddle lock holds transactions back any longer. -/
def FarPort.noWait (k : FarPort) : FarPort := { k with queue := k.queue.map fun f => { f with waitFrom := none }, ahead := k.ahead.map fun f => { f with waitFrom := none } }

/-- Does a transaction belong to the holder of a lock? -/
def FarLock.owns (l : FarLock) (f : Far) : Bool := decide (l.src = f.src) && decide (l.group = f.group)

/-- Does a heddle lock keep a transaction waiting (R392)? -/
def FarPort.blocks (k : FarPort) (f : Far) : Bool :=
  match k.lock with
  | some l => l.heddle && !l.owns f && decide (f.kind ≠ .release)
  | none => false

/-- Is there room in the queue of 16 (R385)? The releases that wait for it come first. -/
def FarPort.room (k : FarPort) : Bool := decide (k.queue.length + k.late.length < 16)

/-- A lock ends (R394): a semaphore is written to 0. -/
def FarPort.endLock (k : FarPort) (l : FarLock) : FarPort :=
  let k := { k with lock := none }
  if l.heddle then k.noWait else if k.room then { k with queue := k.queue ++ [k.releaseFar l] } else { k with late := k.late ++ [k.releaseFar l] }

/-- What groups held back is discarded (R391), with `all` every transaction of theirs not yet on the line (R282); when they are released, their
locks end (R394). -/
def State.farGone (s : State) (mine : Grp → Bool) (released all : Bool) : State :=
  let has := fun (g : Option Grp) => match g with
    | some g => mine g
    | none => false
  s.forEach allFar fun p s => s.onFarPort p fun k =>
    let goes := fun (f : Far) => has f.group && (f.held || all && decide (f.kind ≠ .release))
    let gone := k.ahead.filter goes ++ k.queue.filter goes
    let k := gone.foldl (fun k f => k.fillItem p f 0 []) k
    let k := { k with ahead := k.ahead.filter (fun f => !goes f), queue := k.queue.filter (fun f => !goes f),
                      lostBy := k.lostBy.filter fun x => !(released && has x.2) }
    match k.lock with
    | some l => if released && has l.group then k.endLock l else k
    | none => k

/-- The commands of the transactions that a stalled group holds back, the failed ones first (R391). -/
def State.farHeld (s : State) (g : Grp) : List Nat :=
  allFar.flatMap fun p =>
    let k := s.farPort p
    ((k.ahead ++ k.queue).filter fun f => f.held && decide (f.group = some g)).filterMap Far.cmd

/-- GROUP_RESUME at the bridge (R391): the failed write goes first, the held transactions run on; those that a heddle lock blocks wait on it from
now (R392). -/
def State.farResume (s : State) (g : Grp) : State :=
  let now := s.now
  s.forEach allFar fun p s => s.onFarPort p fun k =>
    let go := fun (f : Far) => if decide (f.group = some g) && f.held then { f with held := false, waitFrom := if k.blocks f then some now else none } else f
    { k with ahead := k.ahead.map go, queue := k.queue.map go }

end Sys2Proof.Machine
end

