-- ==== Sys2Proof/Machine/EthBase.lean ====
section
/-! DEFINITION. What the command interface needs of the Ethernet switch and of IPv4 (spec/14): big-endian numbers, the VLANs of a port, the header
of the Otcel's own datagrams. -/

namespace Sys2Proof.Machine

open Sys2Proof

/-- A big-endian number. -/
def ofBe (p : List Byte) : Nat := ofLe p.reverse
def be (n v : Nat) : List Byte := (le n v).reverse

/-- A port of the switch: 0 is P0. -/
abbrev SwPort := Fin 3

def PortNo.sw (p : PortNo) : SwPort := ⟨p.1 + 1, by omega⟩

def Eth.vlanEn (e : Eth) : Bool := bit e.ctrl 2

/-- The VLAN entry of a VID (R376). -/
def Eth.vlanEntry (e : Eth) (vid : Nat) : Option Nat :=
  if vid = 0 then none else (e.vlans.toList.find? fun v => bits v 0 12 == vid)

/-- Do the VLANs of R376 let P0 and the listed ports join in one of them? -/
def Eth.joined (e : Eth) (l : List SwPort) : Bool :=
  !e.vlanEn || e.vlans.any fun v => decide (bits v 0 12 ≠ 0) && bit v 12 && l.all fun p => bit v (12 + p.1)

/-- The Internet checksum (RFC 1071). -/
def inetSum : List Byte → Nat
  | a :: b :: l => a.toNat * 256 + b.toNat + inetSum l
  | [a] => a.toNat * 256
  | [] => 0

def foldSum (n : Nat) : Nat := let m := n % 65536 + n / 65536; m % 65536 + m / 65536
def inetCheck (p : List Byte) : Nat := 0xFFFF - foldSum (inetSum p)

/-- The header of an IPv4 datagram of the Otcel's own, DF set and no options (R380). -/
def ipHeader (total proto src dst : Nat) : List Byte :=
  let h := fun (c : Nat) => be 1 0x45 ++ be 1 0 ++ be 2 total ++ be 2 0 ++ be 2 0x4000 ++ be 1 64 ++ be 1 proto ++ be 2 c ++ be 4 src ++ be 4 dst
  h (inetCheck (h 0))

/-- A UDP datagram of the Otcel's own (R376, R380): not sent above 1 472 bytes of payload, nor while no VLAN includes P0. -/
def State.sendUdp (s : State) (from_ addr port : Nat) (payload : List Byte) : State :=
  if 1472 < payload.length ∨ s.eth.joined [] = false then s
  else s.send (.udp from_ addr port (ipHeader (payload.length + 28) 17 s.eth.ipActive addr) payload)

end Sys2Proof.Machine
end

