-- ==== Sys2Proof/Machine/Packets.lean ====
section
/-! DEFINITION. Packets out (R272, R275, R279, R283), notifications (R293, R294), the close of a session (R282), the
completion and failure of commands (R286 to R290). -/

namespace Sys2Proof.Machine

open Sys2Proof

/-- The status codes of R273. -/
inductive Status where
  | ok | accepted | busy | stalled | badOpcode | badParam | badCheck | denied | state | farError | farTimeout
  | duplicate | order | short | limit | held | locked | bankBusy
  deriving DecidableEq, Repr

/-- The code of a status (R273). -/
def Status.code : Status → Nat
  | .ok => 0x00 | .accepted => 0x01 | .busy => 0x02 | .stalled => 0x03 | .badOpcode => 0x04 | .badParam => 0x05
  | .badCheck => 0x06 | .denied => 0x07 | .state => 0x08 | .farError => 0x09 | .farTimeout => 0x0A
  | .duplicate => 0x0B | .order => 0x0C | .short => 0x0D | .limit => 0x0E | .held => 0x0F | .locked => 0x10
  | .bankBusy => 0x11

/-- Does the status stall the group (R273)? -/
def Status.stalls : Status → Bool
  | .badOpcode | .badParam | .badCheck | .denied | .state | .farError | .farTimeout | .limit | .locked
  | .bankBusy => true
  | _ => false

/-- FLAGS of the packets the Otcel sends (R275). -/
def flagsEnd : Nat := 0x14
def flagsAccepted : Nat := 0x04
def flagsFinal : Nat := 0x1C
def flagsNote : Nat := 0x18

/-- GROUP as a packet carries it (R272). -/
def groupByte : Option Grp → Nat
  | none => 0xFF
  | some g => g.1

/-- A packet with its CRC (R272, R274). -/
def packet (flags opcode tag group status session : Nat) (params : List Byte) : List Byte :=
  let h := le 1 1 ++ le 1 flags ++ le 2 opcode ++ le 2 tag ++ le 1 group ++ le 1 status ++ le 4 session ++
    le 2 params.length ++ le 2 0 ++ params
  h ++ le 4 (crc32c h)

/-- The smallest CAN FD data length that holds `n` bytes (R283). -/
def fdLength (n : Nat) : Nat :=
  if n ≤ 8 then n else if n ≤ 12 then 12 else if n ≤ 16 then 16 else if n ≤ 20 then 20 else if n ≤ 24 then 24
  else if n ≤ 32 then 32 else if n ≤ 48 then 48 else 64

/-- The command channel as a CAN controller; 6 and 7 disable (R306). -/
def Commands.channel (c : Commands) : Option (Fin 6) := if h : c.canCh < 6 then some ⟨c.canCh, h⟩ else none

/-- A packet in an FD frame on the command channel (R283, R346); a shadow sends none (R412). -/
def State.sendCan (s : State) (id : Nat) (p : List Byte) : State :=
  if s.twin.role = .shadow then s
  else match s.cmd.channel with
  | none => s
  | some ch =>
    if s.cmd.canEn then
      let n := fdLength p.length
      let f := CanFrame.own (if s.cmd.canIde then id else id % 2048) s.cmd.canIde false true false n (padTo n p)
      s.onCanCh ch fun x => x.queueOwn f s.now
    else s

/-- The largest sequence number of a session (R282). -/
def seqMax : Nat := 2 ^ 64 - 1

def Commands.setSession (c : Commands) (k : Fin 4) (x : Option Session) : Commands :=
  { c with sessions := c.sessions.put k x }

def State.onGroup (s : State) (g : Grp) (f : Group → Group) : State :=
  s.onCmd fun c => { c with groups := c.groups.upd g f }

def State.onSource (s : State) (i : Fin 6) (f : Source → Source) : State :=
  s.onCmd fun c => { c with sources := c.sources.upd i f }

def State.group (s : State) (g : Grp) : Group := s.cmd.groups.get g

/-- What a group has given to the switch, drive and field islands and they have not yet done is withdrawn (R282). -/
def State.withdraw (s : State) (ids : List Nat) : State :=
  let keep := fun (id : Nat) => !ids.contains id
  let s := s.onSw fun w =>
    { w with adopts := w.adopts.filter fun (r : AdoptReq) => keep r.cmd
             chans := w.chans.mapIdx fun _ x => { x with waiting := x.waiting.filter fun (r : HostReq) => keep r.cmd } }
  let s := s.onDrv fun d =>
    { d with acts := d.acts.mapIdx fun _ x => { x with waiting := x.waiting.filter fun (r : AcReq) => keep r.cmd } }
  s.onFld fun f =>
    { f with waiting := f.waiting.filter fun (r : FioReq) => keep r.cmd
             queue := f.queue.filter fun w => match w.cmd with
               | some id => keep id
               | none => true }

/-- The serial numbers of a group's commands that are executing or handed to their targets. -/
def Group.running (g : Group) : List Nat := (g.exec.toList ++ g.handed).map fun c => c.id

/-- The close of a session (R282). Cause 3 keeps the groups, as R292 says; at any other they are free, their commands discarded. -/
def State.closeSession (s : State) (k : Fin 4) (cause : Nat) : State :=
  match s.cmd.sessions.get k with
  | none => s
  | some x =>
    let src := Src.session k
    let own := fun (g : Grp) => decide ((s.cmd.groups.get g).holder = .src src) && decide (cause ≠ 3)
    let ids := ((List.finRange 16).filter own).flatMap fun g => (s.cmd.groups.get g).running
    let s := (s.farGone own true true).withdraw ids
    let s := s.onCmd fun c =>
      { c with
        sessions := c.sessions.put k none
        load := match c.load with
          | some l => if l.src = src then none else some l
          | none => none
        sources := c.sources.upd src.idx fun q => { q with windows := Tab.fill 4 none, notes := [], waiting := [], exec := none }
        groups := c.groups.mapIdx fun _ g =>
          if g.holder = .src src then
            if cause = 3 then { g with holder := .keyId x.keyId } else Group.reset
          else g }
    s.record 0x8031 2 x.id cause 0

/-- The Otcel's ports: commands come to and replies go from the first, final replies and notifications go from the second (R279). -/
def portCmd : Nat := 39231
def portNote : Nat := 39232

/-- AES-128-GCM under a key (R280): as many bytes as the plaintext, and the 16 of the tag. -/
def gcmSealed (key nonce data plain : List Byte) : List Byte := padTo (plain.length + 16) (Config.gcmSeal key nonce data plain)

/-- A packet to a source, from a UDP port to an address and port; over CAN FD with the given identifier (R279, R280, R283). -/
def State.sendPacket (s : State) (src : Src) (from_ addr port canId : Nat) (p : List Byte) : State :=
  match src with
  | .can => s.sendCan canId p
  | .clear => s.sendUdp from_ addr port (zeros 12 ++ p)
  | .session k =>
    match s.cmd.sessions.get k with
    | none => s
    | some x =>
      let seq := x.txSeq + 1
      let hdr := le 4 x.id ++ le 8 seq
      let s := s.sendUdp from_ addr port (hdr ++ gcmSealed x.kdh hdr hdr p)
      let s := s.onCmd fun c => c.setSession k (some { x with txSeq := seq })
      if seq ≥ seqMax then s.closeSession k 2 else s

/-- Is the session that a packet is for still open? -/
def State.reaches (s : State) (src : Src) (id : Nat) : Bool :=
  match src with
  | .session k => match s.cmd.sessions.get k with
    | some x => x.id == id
    | none => false
  | _ => true

/-- A packet goes out, or waits for the acknowledgement of the mirror stages sent so far (R409). -/
def State.sendOrHold (s : State) (mirrored : Bool) (src : Src) (id from_ addr port canId : Nat) (p : List Byte) : State :=
  if !s.reaches src id then s
  else if mirrored && s.mirrors && decide (s.twin.acked < s.twin.msn) then
    s.onTwin fun t =>
      { t with held := t.held ++ [{ msn := t.msn, src := src, id := id, from_ := from_, addr := addr, port := port, canId := canId, packet := p }] }
  else s.sendPacket src from_ addr port canId p

/-- The session ID a source's packets carry (R272). -/
def State.sessionId (s : State) : Src → Nat
  | .can | .clear => 0
  | .session k => match s.cmd.sessions.get k with
    | none => 0
    | some x => x.id

/-- Does the source receive notifications now (R283, R293)? -/
def State.hears (s : State) : Src → Bool
  | .can => s.cmd.canEn
  | .clear => false
  | .session k => (s.cmd.sessions.get k).isSome

/-- A notification to a source: sent, and appended to its queue while it has room (R293, R294). -/
def State.notify (s : State) (src : Src) (opcode : Nat) (params : List Byte) : State :=
  if s.hears src then
    let q := s.cmd.sources.get src.idx
    let p := packet flagsNote opcode q.noteSeq 0xFF 0 (s.sessionId src) params
    let s := s.onCmd fun c =>
      { c with
        sources := c.sources.upd src.idx fun q =>
          { q with
            noteSeq := (q.noteSeq + 1) % 65536
            notes := if q.notes.length < 64 then q.notes ++ [p] else q.notes }
        noteLost := if q.notes.length < 64 then c.noteLost else satAdd 0xFFFF c.noteLost 1 }
    match src with
    | .clear => s
    | .can => if s.cmd.canNoteEn then s.sendOrHold (opcode == 0x0E80) .can 0 portNote 0 0 s.cmd.canNoteId p else s
    | .session k => match s.cmd.sessions.get k with
      | none => s
      | some x => s.sendOrHold (opcode == 0x0E80) src x.id portNote x.addr portNote 0 p
  else s

/-- The source that holds a group. -/
def Group.holderSrc (g : Group) : Option Src :=
  match g.holder with
  | .src x => some x
  | _ => none

/-- A notification to the holder of a group. -/
def State.notifyHolder (s : State) (g : Grp) (opcode : Nat) (params : List Byte) : State :=
  match (s.group g).holderSrc with
  | none => s
  | some src => s.notify src opcode params

/-- The tag a stalled group goes on from: that of its failed command, or EXPECTED (R293, R315). -/
def Group.fromTag (g : Group) : Nat :=
  match g.failed with
  | c :: _ => c.tag
  | [] => g.expected

/-- The parameters of GROUP_STALL (R293). -/
def stallBytes (g : Grp) (x : Group) (cause : Nat) : List Byte := le 1 g.1 ++ le 1 cause ++ le 2 x.fromTag ++ zeros 8

/-- GROUP_STALL (R293). -/
def State.notifyStall (s : State) (g : Grp) (cause : Nat) : State :=
  let x := s.group g
  s.notifyHolder g 0x0E82 (stallBytes g x cause)

/-- Enter a reply into the group's cache of the last 64 tags taken (R290). -/
def Group.cacheReply (g : Group) (tag status flags : Nat) (params : List Byte) (known : Bool) : Group :=
  let e : Cached := { tag := tag, status := status, flags := flags, params := params, known := known }
  if g.cache.any (fun x => x.tag == tag) then
    { g with cache := g.cache.map fun x => if x.tag = tag then e else x }
  else { g with cache := (g.cache ++ [e]).drop (g.cache.length + 1 - 64) }

/-- A reply enters the cache when its tag is one of the last 64 taken (R290): a command held ahead of the series has no entry yet, one whose
entry R292 lost is older than every tag in the cache. -/
def Group.noteReply (g : Group) (tag status flags : Nat) (params : List Byte) : Group :=
  if g.held.any (fun c => c.tag == tag) then g
  else if g.cache.any (fun x => x.tag == tag) then g.cacheReply tag status flags params true
  else if 64 ≤ g.cache.length then g
  else { g with cache := { tag := tag, status := status, flags := flags, params := params, known := true } :: g.cache }

/-- Is a command mirrored in three stages (R409)? The opcodes of updates are not (R410). -/
def Cmd.mirrored (c : Cmd) : Bool := (c.group.isSome && c.opcode / 256 != 0x0A) || c.opcode == 0x0E01 || c.opcode == 0x0E02

/-- The group a command that this module mirrors concerns: one taken while it mirrored (R403). -/
def Cmd.mirrorGroup (c : Cmd) : Option Grp :=
  if !c.mirr then none
  else
    match c.group with
    | some g => some g
    | none => if h : u8 c.params 0 < 16 then some ⟨u8 c.params 0, h⟩ else none

/-- Stage DONE of a command with the packet its end sends (R409); `st` fails the group when `fails` holds. -/
def State.doneStage (s : State) (c : Cmd) (st : Status) (fails : Bool) (p : List Byte) : State :=
  match c.mirrorGroup with
  | none => s
  | some g =>
    let k := (s.group g).causes
    s.mirrorDone g c.tag st.code (if fails then { k with failure := true } else k) p

/-- LATE_ERROR (R289, R293). -/
def State.lateError (s : State) (c : Cmd) (st : Status) (detail : Nat) : State :=
  match c.group with
  | none => s
  | some g =>
    let b := le 1 g.1 ++ le 1 st.code ++ le 2 c.tag ++ le 2 c.opcode ++ zeros 2 ++ le 4 detail
    let p := match (s.group g).holderSrc with
      | none => []
      | some src => packet flagsNote 0x0E80 (s.cmd.sources.get src.idx).noteSeq 0xFF 0 (s.sessionId src) b
    (s.doneStage c st st.stalls p).notifyHolder g 0x0E80 b

/-- Send a reply packet for a command and cache it (R275, R290, R409). `last` tells that the command ends with it. -/
def State.replyWith (s : State) (c : Cmd) (flags : Nat) (st : Status) (params : List Byte) (final last : Bool) : State :=
  let p := packet flags c.opcode c.tag (groupByte c.group) st.code c.session params
  let s := if last then s.doneStage c st st.stalls p else s
  let addr := match c.src with
    | .session k => if final then (match s.cmd.sessions.get k with | some x => x.addr | none => c.addr) else c.addr
    | .can => 0
    | .clear => c.addr
  let s := s.sendOrHold c.mirr c.src c.session (if final then portNote else portCmd) addr (if final then portNote else c.port) s.cmd.canTxId p
  match c.group with
  | none => s
  | some g => s.onGroup g fun x => x.noteReply c.tag st.code flags params

/-- The ACCEPTED reply of a command (R275): LAST is 1 for a posted command. -/
def State.accept (s : State) (c : Cmd) : State :=
  if c.accepted then s
  else s.replyWith c (if c.posted then flagsEnd else flagsAccepted) .accepted [] false false

/-- The reply or the final reply that ends a command (R275). -/
def State.replyEnd (s : State) (c : Cmd) (st : Status) (params : List Byte) : State :=
  if c.accepted then s.replyWith c flagsFinal st params true true else s.replyWith c flagsEnd st params false true

/-- Every outstanding command of a stalled group that has not begun gets its ACCEPTED reply (R287); one that waits for the acknowledgement of its
stage BEGUN has not begun (R321, R409). -/
def State.acceptWaiting (s : State) (g : Grp) : State :=
  let s := s.onGroup g fun x => match x.exec with
    | some c => if c.stage = .taken then { x with exec := none, taken := c :: x.taken } else x
    | none => x
  let x := s.group g
  let s := s.forEach (x.taken ++ x.held) fun c s => s.accept c
  s.onGroup g fun x =>
    { x with taken := x.taken.map fun c => { c with accepted := true }
             held := x.held.map fun c => { c with accepted := true } }

/-- Add a stall cause without notification (R287, R309). -/
def Causes.add (c : Causes) : Nat → Causes
  | 0 => { c with failure := true }
  | 1 => { c with clsS := true }
  | 2 => { c with clsD := true }
  | _ => { c with reset := true }

def Causes.has (c : Causes) : Nat → Bool
  | 0 => c.failure
  | 1 => c.clsS
  | 2 => c.clsD
  | _ => c.reset

/-- How far a tag lies behind EXPECTED. -/
def Group.age (g : Group) (tag : Nat) : Nat := (g.expected + 65536 - tag) % 65536

/-- A failed command takes its place among the group's failed ones, the earliest tag first (R286, R288). -/
def Group.addFailed (g : Group) (c : Cmd) : Group :=
  { g with failed := (g.failed.filter fun y => decide (g.age c.tag < g.age y.tag)) ++ { c with accepted := true } ::
             g.failed.filter fun y => decide (g.age y.tag ≤ g.age c.tag) }

/-- The failure of a command stalls its group (R287, R289). -/
def State.failGroup (s : State) (g : Grp) (c : Cmd) : State :=
  let had := (s.group g).causes.failure
  let s := s.onGroup g fun x => { x.addFailed c with causes := x.causes.add 0 }
  let s := s.acceptWaiting g
  if had then s else s.notifyStall g 0

/-- The group of a command without it among those executing. -/
def Group.drop (g : Group) (id : Nat) : Group :=
  { g with exec := match g.exec with
             | some c => if c.id = id then none else some c
             | none => none
           handed := g.handed.filter fun c => c.id != id }

/-- The executing command with an id, wherever it stands. -/
def Commands.findCmd (c : Commands) (id : Nat) : Option Cmd :=
  let inGroup := (List.finRange 16).filterMap fun g =>
    let x := c.groups.get g
    (x.exec.toList ++ x.handed).find? fun y => y.id == id
  let alone := (List.finRange 6).filterMap fun i => (c.sources.get i).exec.filter fun y => y.id == id
  (inGroup ++ alone).head?

/-- A command completes with a status and reply parameters (R273, R286, R287). A posted one answers only when it has failed, by LATE_ERROR and its
record (R289, R322; log entry 127; none for the LIMIT of a REC_APPEND, R486), or met an exhausted capacity, by BUSY (R273; log entry 126). -/
def State.complete (s : State) (c : Cmd) (st : Status) (params : List Byte) (detail : Nat := 0) : State :=
  match c.group with
  | none =>
    let s := s.onSource c.src.idx fun q => { q with exec := none }
    s.replyEnd c st params
  | some g =>
    let s := s.onGroup g fun x =>
      let x := x.drop c.id
      { x with inflight := x.inflight.map fun y => if y.1 = c.tag then (y.1, st.code) else y }
    let s :=
      if !c.posted then s.replyEnd c st params
      else if st.stalls then
        let s := s.lateError c st detail
        if c.opcode = 0x0802 ∧ st = .limit then s else s.record 0x5062 2 g.1 c.tag st.code
      else if st = .busy then s.replyEnd c st params
      else s.doneStage c st false []
    if st.stalls then s.failGroup g c else s

/-- As `complete`, for a command known by its id; nothing when the command has been lost (R292, R282). -/
def State.completeId (s : State) (id : Nat) (st : Status) (params : List Byte) (detail : Nat := 0) : State :=
  match s.cmd.findCmd id with
  | none => s
  | some c => s.complete c st params detail

/-- A command goes on executing at a target island or a far bus (R286, R320); a posted one is handed over. -/
def State.handOver (s : State) (c : Cmd) (stage : Stage) : State :=
  let c' := { c with stage := stage }
  match c.group with
  | none => s.onSource c.src.idx fun q => { q with exec := some c' }
  | some g => s.onGroup g fun x =>
      if c.posted then { (x.drop c.id) with handed := x.handed ++ [c'] } else { x with exec := some c' }

/-- The command begun at a place, not yet handed to a target. -/
def State.begun (s : State) (r : CmdRef) : Option Cmd :=
  (match r with
    | .group g => (s.group g).exec
    | .ungrouped i => (s.cmd.sources.get i).exec).filter fun c => c.stage == Stage.service

/-- Execute the command begun at a place, when it is of the given opcode; otherwise nothing happens. -/
def State.onCommand (s : State) (r : CmdRef) (opcode : Nat) (f : Cmd → State → State) : State :=
  match s.begun r with
  | none => s
  | some c => if c.opcode = opcode then f c s else s

/-- Are all the listed bytes of a parameter block 0 (R295)? -/
def zeroAt (p : List Byte) (l : List Nat) : Bool := l.all fun i => u8 p i == 0

end Sys2Proof.Machine
end

