-- ==== Sys2Proof/Machine/SwitchOps.lean ====
section
/-! DEFINITION. The shared operations of the switch island (spec/05, spec/06): profiles, the pulse generator, mode
changes, protective switch-offs, sheds, orphan hold and ownership. -/

namespace Sys2Proof.Machine

open Sys2Proof

/-- SWn as a record or packet names it. -/
def chNum (c : ChNo) : Nat := c.1 + 1

/-- The channel a number names. -/
def chOfNum (n : Nat) : Option ChNo := if h : 1 ≤ n ∧ n ≤ 48 then some ⟨n - 1, by omega⟩ else none

def State.chan (s : State) (c : ChNo) : Chan := s.sw.chans.get c

def State.onChan (s : State) (c : ChNo) (f : Chan → Chan) : State :=
  s.onSw fun w => { w with chans := w.chans.upd c f }

def State.onGuard (s : State) (p : PwrNo) (f : Guard → Guard) : State :=
  s.onSw fun w => { w with guards := w.guards.upd p f }

/-- Every channel, in increasing number. -/
def allCh : List ChNo := List.finRange 48

/-- The channels of an input. -/
def inputChans (p : PwrNo) : List ChNo := allCh.filter fun c => swInput c = p

/-! ## Inrush profiles -/

/-- The bytes of a profile with the given segments (R146). -/
def profBytes (tb blank : Nat) (segs : List (Nat × Nat)) (steady : Nat) : List Byte :=
  padTo 28 (le 1 segs.length ++ le 1 tb ++ le 2 blank ++ segs.flatMap fun x => le 2 x.1 ++ le 2 x.2) ++ le 2 steady ++ le 2 0

/-- The predefined profiles 0 to 7 (R148). -/
def predefined : Nat → List Byte
  | 0 => profBytes 0 2 [(6, 24)] 20
  | 1 => profBytes 0 800 [(200, 160), (500, 96), (2000, 48), (5000, 24)] 20
  | 2 => profBytes 0 250 [(20, 320), (200, 64), (2000, 24)] 20
  | 3 => profBytes 0 300 [(50, 128), (500, 48), (2000, 24)] 20
  | 4 => profBytes 1 5000 [(50, 96), (150, 48), (300, 24)] 20
  | 5 => profBytes 1 20000 [(200, 80), (800, 48), (1000, 24)] 20
  | 6 => profBytes 1 10000 [(500, 48), (2000, 32), (5000, 24)] 20
  | _ => profBytes 0 300 [(2000, 20)] 20

/-- Where profile `i` is stored (R146). -/
def profAddr (i : Nat) : Nat := 0x21000000 + 32 * i

/-- The 32 bytes of profile `i` (R146, R148, R149). -/
def State.profile (s : State) (i : Nat) : List Byte :=
  if i < 8 then predefined i else Memory.readBytes s.mem (profAddr i) 32

/-- DUR_k in µs, LIM_k, BLANK in µs of a profile (R146). -/
def profDur (p : List Byte) (k : Nat) : Nat := u16 p (4 + 4 * k) * (if bit (u8 p 1) 0 then 1000 else 10)
def profLim (p : List Byte) (k : Nat) : Nat := u16 p (6 + 4 * k)
def profBlank (p : List Byte) : Nat := u16 p 2 * 100

/-- Does the profile keep every rule of R146? -/
def profValid (p : List Byte) : Bool :=
  let n := u8 p 0
  let limOk := fun v => decide (16 ≤ v) && decide (v ≤ 4095)
  decide (n ≤ 6) && decide (u8 p 1 ≤ 1) &&
  ((List.range 6).all fun k =>
    if k < n then decide (1 ≤ u16 p (4 + 4 * k)) && limOk (profLim p k)
    else u16 p (4 + 4 * k) == 0 && profLim p k == 0) &&
  limOk (u16 p 28) && u16 p 30 == 0

/-- The limit in force of a channel, mA (R147). -/
def State.limit (s : State) (c : ChNo) : Nat :=
  let x := s.chan c
  let p := s.profile x.run.profile
  x.cfg.iNom * (if x.run.segment = 0 then u16 p 28 else profLim p (x.run.segment - 1)) / 16

/-- The end of the segment running (R147), as an instant. -/
def State.segmentEnd (s : State) (c : ChNo) : Nat :=
  let x := s.chan c
  let p := s.profile x.run.profile
  x.run.origin + ((List.range x.run.segment).map fun k => profDur p k).sum

/-! ## The pulse generator -/

/-- Instants of edges are in units of 20 ns; the present instant (R142). -/
def State.n20 (s : State) : Nat := s.now * 50

/-- A hyperperiod boundary, in 20 ns; every group begins a period at each (R142). -/
def State.hyperBase (s : State) : Nat := s.sw.hyperAt * 50

/-- The place of the hyperperiod boundaries, taken from warp time: when the island starts and when warp time steps (R55, R142). -/
def State.rebase (s : State) : State :=
  let b := (s.now + (1000000 - s.warp % 1000000)) % 1000000
  s.onSw fun w => { w with hyperAt := b }

/-- The group period in force of a channel, in 20 ns (R142). -/
def State.chPeriod (s : State) (c : ChNo) : Nat := s.sw.pg.get (s.chan c).run.pg

/-- on_time of R142 in 20 ns. -/
def onTime (period duty : Nat) : Nat := period * duty / 1024

/-- The first on_start at or after `t` for a phase (R142), in 20 ns: periods follow one another before and after every boundary. -/
def firstOn (base period phase t : Nat) : Nat :=
  let x := base + period * phase / 1024
  if t ≤ x then x - (x - t) / period * period else x + (t - x + period - 1) / period * period

/-- The output over the interval `a` to `b` whose on-time ends at `onEnd` (R139): the value at `a`, the off edge, and whether DUTY_CLAMPED is
set. `tm` is t_min in 20 ns, `none` tells a computed on-time of 0, `prev` the output before `a`: where it was on, an interval shorter than
t_min has no room for an off-time. -/
def waveOut (prev none_ : Bool) (a b onEnd tm : Nat) : Bool × Option Nat × Bool :=
  let onLen := min b onEnd - a
  let offLen := (b - a) - onLen
  if none_ then (false, none, false)
  else if prev && decide (b - a < tm) then (true, none, decide (offLen ≠ 0))
  else if onLen = 0 then (false, none, false)
  else if onLen < tm then (false, none, true)
  else if offLen = 0 then (true, none, false)
  else if offLen < tm then (true, none, true)
  else (true, some (a + onLen), false)

/-- Set a channel's output; protection holds it off (R167). -/
def Chan.drive (x : Chan) (v : Bool) (t : Nat) : Chan :=
  let v := v && decide (x.prot = .normal)
  { x with output := v, riseAt := if v && !x.output then t else x.riseAt }

/-- A switch-off: to OFF, or by protection. A running on-state evaluation begins anew (R180). -/
def Chan.switchOff (x : Chan) (t : Nat) : Chan :=
  { x.drive false t with offAt := t, ol := { x.ol with counted := 0, since := none, back := none } }

/-- A pause or a wait ends (R172, R175, R184): NORMAL from now on; a latch stays. -/
def Chan.toNormal (x : Chan) (t : Nat) : Chan :=
  match x.prot with
  | .pause _ | .thermalWait _ => { x with prot := .normal, normalAt := t }
  | _ => x

/-- Begin the generator's interval from `t` to the first on_start of the phase and duty now in force (R138, R139). -/
def Chan.beginWave (x : Chan) (c : ChNo) (base period t : Nat) : Chan :=
  let nxt := firstOn base period x.phase t
  let b := if nxt = t then t + period else nxt
  let on := onTime period x.duty
  let onEnd := if nxt = t then t + on else nxt + on - period
  let (v, off, cl) := waveOut x.output (on == 0) t b onEnd ((swClass c).tMin * 50)
  let was := x.output
  let x := x.drive v (t / 50)
  { x with wave := { x.wave with nextOn := b, offAt := off, fellAt := if was && !x.output then t else x.wave.fellAt }
           flags := { x.flags with dutyClamped := x.flags.dutyClamped || cl } }

/-- The group's period changes at the boundary `t` (R142, R143): the pulse that runs wraps into the new period, which ends at the new first
on_start. An off-time shorter than t_min is not made (R139): the output stays on through it, or off for one period more. -/
def Chan.newPeriod (x : Chan) (c : ChNo) (period t : Nat) : Chan :=
  let b := firstOn t period x.phase t
  let tm := (swClass c).tMin * 50
  let clamp : Chan → Chan := fun y => { y with flags := { y.flags with dutyClamped := true } }
  match x.wave.offAt with
  | some o =>
    if b ≤ o then { x with wave := { x.wave with nextOn := b, offAt := none } }
    else if b - o < tm then clamp { x with wave := { x.wave with nextOn := b, offAt := none } }
    else { x with wave := { x.wave with nextOn := b } }
  | none =>
    if x.output ∨ x.wave.fellAt + tm ≤ b then { x with wave := { x.wave with nextOn := b } }
    else clamp { x with wave := { x.wave with nextOn := b + period } }

/-- Begin with the output off until the first on_start (R138, SOFT_ON and SOFT_PWM from OFF or ON). -/
def Chan.beginSoft (x : Chan) (base period t : Nat) : Chan :=
  let was := x.output
  let x := ({ x with duty := 0 }).drive false (t / 50)
  { x with wave := { x.wave with nextOn := firstOn base period x.phase t, offAt := none, rampFrom := t, fellAt := if was then t else x.wave.fellAt } }

/-! ## AUTO_PHASE -/

/-- A host-owned channel in PWM takes part in AUTO_PHASE (R145). -/
def Chan.autoPhased (x : Chan) : Bool :=
  decide (x.owner = .host) && x.cfg.autoPhase && (x.mode.isPwm || match x.wave.pend with | some k => k.mode.isPwm | none => false)

/-- Recompute the phases of one group (R145): the channel of rank k of n goes to floor(1024 k / n), at its next period. -/
def State.autoPhase (s : State) (g : Fin 4) : State :=
  let l := allCh.filter fun c => (s.chan c).autoPhased && decide ((s.chan c).run.pg = g)
  s.forEach ((List.range l.length).zip l) fun (k, c) s =>
    let ph := 1024 * k / l.length
    s.onChan c fun x =>
      if x.phase = ph && x.wave.pend.isNone && x.wave.autoPend.isNone then x
      else { x with wave := { x.wave with autoPend := some ph } }

/-- The channels taking part in AUTO_PHASE, each with its clock group. -/
def State.phaseSet (s : State) : List (ChNo × Fin 4) :=
  (allCh.filter fun c => (s.chan c).autoPhased).map fun c => (c, (s.chan c).run.pg)

/-- Recompute every group whose participating set has changed against `before` (R145). -/
def State.rephase (s : State) (before : List (ChNo × Fin 4)) : State :=
  let after := s.phaseSet
  if after = before then s
  else s.forEach (List.finRange 4) fun g s =>
    let of := fun (l : List (ChNo × Fin 4)) => l.filter fun x => x.2 = g
    if of before = of after then s else s.autoPhase g

/-! ## Mode changes -/

/-- A switch-on (R147): the profile and its clock group latch, the profile starts, the switch-on is counted. -/
def Chan.switchOn (x : Chan) (segs : Nat) (t : Nat) : Chan :=
  { x with
    run := { profile := x.cfg.profile, pg := x.cfg.pg, segment := if segs = 0 then 0 else 1, origin := t }
    counts := { x.counts with switches := satAdd 0xFFFFFFFF x.counts.switches 1 }
    onAt := t
    meas := { x.meas with onSum := 0, onCnt := 0, iOn := 0 }
    ol := { x.ol with counted := 0, since := none, back := none } }

/-- Put a channel into a mode at the present instant, by the table of R138; the switch-on has been made. -/
def State.enter (s : State) (c : ChNo) (k : ChCmd) : State :=
  let t := s.n20
  let base := s.hyperBase
  let period := s.chPeriod c
  s.onChan c fun x =>
    if x.mode.isPwm && k.mode.isPwm then { x with wave := { x.wave with pend := some k } }
    else
      let was := x.mode
      let x := { x with mode := k.mode
                        wave := { x.wave with target := k.duty, arg := k.arg, pend := none, autoPend := none, offAt := none } }
      match k.mode with
      | .off =>
        let x := { x with duty := 0, phase := 0, run := { x.run with segment := 0 }, need := 0 }
        if was = .off then x.drive false s.now
        else
          let x := x.switchOff s.now
          { x with ol := { x.ol with offFrom := s.now } }
      | .on => ({ x with duty := 0, phase := 0 }).drive true s.now
      | .pulse =>
        ({ x with duty := 0, phase := 0, wave := { x.wave with pulseEnd := s.now + k.arg } }).drive true s.now
      | .pwm => ({ x with duty := k.duty, phase := k.phase }).beginWave c base period t
      | .softOn | .softPwm => ({ x with phase := k.phase }).beginSoft base period t

/-- What became of a change of mode. -/
inductive ModeOutcome where
  | done | latched | shed | invalid
  deriving DecidableEq, Repr

/-- Change a channel's mode, with the refusals and delays of R149, R175 and R184. -/
def State.changeMode (s : State) (c : ChNo) (k : ChCmd) : ModeOutcome × State :=
  let x := s.chan c
  if k.mode = .off then
    let s := s.onChan c fun x => x.toNormal s.now
    (.done, s.enter c k)
  else if x.prot = .latched then (.latched, s)
  else if x.flags.shed && decide (x.mode = .off) then (.shed, s)
  else if x.prot ≠ .normal then
    (.done, s.onChan c fun x =>
      { x with mode := k.mode, duty := k.duty, phase := if x.autoPhased && k.mode.isPwm then x.phase else k.phase
               wave := { x.wave with target := k.duty, arg := k.arg, pend := none } })
  else if x.mode = .off then
    let p := s.profile x.cfg.profile
    if profValid p then
      let s := s.onChan c fun x => x.switchOn (u8 p 0) s.now
      (.done, s.enter c k)
    else (.invalid, s.onChan c fun x => { x with flags := { x.flags with profileInvalid := true } })
  else (.done, s.enter c k)

/-- A restart (R173): a switch-on under R147 in the commanded mode, in the clock group then configured. With an invalid profile it is refused as
any switch-on is: the channel is then OFF (R149; log entry 124). -/
def State.restart (s : State) (c : ChNo) : State :=
  let x := s.chan c
  let p := s.profile x.cfg.profile
  let base := s.hyperBase
  let before := s.phaseSet
  let s := s.onChan c fun x => { x with prot := .normal, normalAt := s.now }
  if profValid p then
    let s := s.onChan c fun x => x.switchOn (u8 p 0) s.now
    let period := s.chPeriod c
    (s.onChan c fun x =>
      match x.mode with
      | .off => x
      | .on => x.drive true s.now
      | .pulse => { x.drive true s.now with wave := { x.wave with pulseEnd := s.now + x.wave.arg } }
      | .pwm => ({ x with duty := x.wave.target }).beginWave c base period s.n20
      | .softOn | .softPwm => x.beginSoft base period s.n20).rephase before
  else
    let s := s.enter c { mode := .off, duty := 0, phase := 0, arg := 0 }
    let s := s.onChan c fun x => { x with flags := { x.flags with profileInvalid := true } }
    (s.record 0x1011 4 (chNum c) x.cfg.profile (if x.owner = .weft then 1 else 0)).rephase before

/-! ## Trips and sheds -/

/-- A trip's sequence after its flag and record: latch, end of a pulse, or pause (R171). -/
def State.afterTrip (s : State) (c : ChNo) : State :=
  let x := s.chan c
  let n := max 1 x.cfg.retryN
  if n ≤ x.trips then
    let s := s.onChan c fun x => { x with prot := .latched }
    s.fault .A 4 0x1015 (chNum c) 0 (s.chan c).counts.trips
  else if x.mode = .pulse then
    s.onChan c fun x => { x with mode := .off, run := { x.run with segment := 0 }, ol := { x.ol with offFrom := s.now } }
  else
    let ms := min (max 1 x.cfg.p0Ms * 2 ^ (x.trips - 1)) 10000
    s.onChan c fun x => { x with prot := .pause (s.now + ms * 1000) }

/-- The first part of a trip (R171): the gate off, TRIPS and TRIP_COUNT raised. -/
def State.countTrip (s : State) (c : ChNo) (current : Bool) : State :=
  s.onChan c fun x =>
    { x.switchOff s.now with
      trips := min 15 (x.trips + 1)
      normalAt := s.now
      overRun := 0
      counts := if current then { x.counts with trips := satAdd 0xFFFFFFFF x.counts.trips 1 } else x.counts }

/-- A shed (R184): an immediate change to OFF with SHED set. -/
def State.shed (s : State) (c : ChNo) (why value : Nat) : State :=
  let before := s.phaseSet
  let s := s.onChan c fun x => { x.toNormal s.now with flags := { x.flags with shed := true } }
  let s := s.enter c { mode := .off, duty := 0, phase := 0, arg := 0 }
  (s.record 0x1021 4 (chNum c) why value).rephase before

/-- Can the guard shed the channel (R183)? -/
def Chan.sheddable (x : Chan) : Bool :=
  match x.prot with
  | .normal => decide (x.mode ≠ .off)
  | .pause _ | .thermalWait _ => true
  | .latched => false

/-- The shed order of an input (R183). -/
def State.shedOrder (s : State) (p : PwrNo) : List ChNo :=
  let listed := match s.runningWeft with
    | some w => ((w.decl.sheds.filter fun d => d.input = p).map fun d => d.order).flatten
    | none => []
  listed ++ (inputChans p).reverse.filter fun c => !(listed.contains c)

/-- The next channel of an input to shed. -/
def State.nextShed (s : State) (p : PwrNo) : Option ChNo := (s.shedOrder p).find? fun c => (s.chan c).sheddable

/-! ## Orphan hold and safe values -/

/-- A change to a safe value (R155, R324): `who` is the record's 1 for orphan hold, 2 for FORCE_SAFE. The answer says
whether it was made. Record 0x1011 has no value of param2 for a switch-on that neither the host nor a weft commands: it carries 0
(DESIGN CHOICE, log entry 147). -/
def State.toSafe (s : State) (c : ChNo) (v : Bool) (who : Nat) : Bool × State :=
  let m : Mode := if v && !s.mute (s.chan c).cfg.twinShared then .on else .off
  let before := s.phaseSet
  match s.changeMode c { mode := m, duty := 0, phase := 0, arg := 0 } with
  | (.done, s) => (true, s.rephase before)
  | (.latched, s) => (false, s.record 0x1022 4 (chNum c) 0 who)
  | (.shed, s) => (false, s.record 0x1022 4 (chNum c) 1 who)
  | (.invalid, s) => (false, s.record 0x1011 4 (chNum c) (s.chan c).cfg.profile 0)

/-- The orphan policy acts (R155). -/
def State.orphanSafe (s : State) (c : ChNo) : State :=
  match (s.chan c).orphan with
  | none => s
  | some o =>
    let s := s.onChan c fun x => { x with orphan := some { o with done := true } }
    match s.toSafe c o.safeValue 1 with
    | (false, s) => s
    | (true, s) =>
      let s := s.onChan c fun x => { x with flags := { x.flags with orphanSafe := true } }
      s.record 0x1002 4 (chNum c) (b2n o.safeValue) o.policy

/-- A channel enters orphan hold (R154, R155): it loses its owner and its latched command (R130); SAFE_NOW acts at once. -/
def State.orphanEnter (s : State) (c : ChNo) : State :=
  let s := s.onChan c fun x =>
    { x with owner := .none, nextReg := none, latched := none
             orphan := some { origin := s.now, policy := x.cfg.policy, safeValue := x.cfg.safeValue,
                              safeAfter := x.cfg.safeAfter, done := false } }
  if 2 ≤ (s.chan c).cfg.policy then s.orphanSafe c else s

/-- The channels in a list as a pair of mask words (R166). -/
def chMask (l : List ChNo) : Nat := (l.map fun c => 2 ^ c.1).sum

/-- Channels enter orphan hold by one event: record 0x1001, then each its policy (R154). -/
def State.orphanEvent (s : State) (commander : Nat) (l : List ChNo) : State :=
  if l = [] then s
  else
    let m := chMask l
    let before := s.phaseSet
    ((s.record 0x1001 4 commander (m % 2 ^ 32) (m / 2 ^ 32)).forEach l fun c s => s.orphanEnter c).rephase before

/-- The channels an owner has. -/
def State.owned (s : State) (o : Owner) : List ChNo := allCh.filter fun c => (s.chan c).owner = o

/-! ## Adoption -/

/-- A mode as adoption counts it (R157), with the DUTY it compares. -/
def Mode.adopt (m : Mode) (duty : Nat) : Nat × Nat :=
  match m with
  | .off => (0, 0)
  | .on | .softOn => (1, 0)
  | .pwm | .softPwm => (2, duty)
  | .pulse => (3, 0)

/-- A channel's state for adoption (R157): EXPECT code and DUTY of what it was last commanded, which may still wait for L′. -/
def Chan.adoptState (x : Chan) : Nat × Nat :=
  match x.wave.pend with
  | some k => k.mode.adopt k.duty
  | none => x.mode.adopt (if x.mode = .softPwm then x.wave.target else x.duty)

/-- Does an entry match the channel's state (R127, R157)? -/
def Chan.matches (x : Chan) (e : AdoptEntry) : Bool :=
  let (k, d) := x.adoptState
  k == e.expect && (decide (k ≠ 2) || d == e.duty)

/-- A channel passes to an owner (R127, R323): out of orphan hold, nothing else changes. -/
def State.passTo (s : State) (c : ChNo) (o : Owner) : State :=
  s.onChan c fun x => { x with owner := o, orphan := none, sleepHeld := false }

end Sys2Proof.Machine
end

