-- ==== Sys2Proof/Machine/LinkOps.lean ====
section
/-! DEFINITION. Shuttle words on directed links (R57 to R63). -/

namespace Sys2Proof.Machine

open Sys2Proof

/-- TYPE values (R58). FAULT words, which go to the Taproot, stand in its list of words (R309). -/
def tyData : Nat := 0x01
def tyCmd : Nat := 0x02
def tyCommit : Nat := 0x10
def tyCommitAck : Nat := 0x11
def tyHeartbeat : Nat := 0x20
def tyFault : Nat := 0x30
def tyService : Nat := 0x40
def tyAck : Nat := 0x7E

/-- Is a TYPE one of R58's? -/
def typeKnown (t : Nat) : Bool := [tyData, tyCmd, tyCommit, tyCommitAck, tyHeartbeat, tyFault, tyService, tyAck].contains t

def State.link (s : State) (k : LinkNo) : Link := s.links.get k

def State.onLink (s : State) (k : LinkNo) (f : Link → Link) : State := s.onLinks fun l => l.upd k f

/-- The island at the receiving end, and the one at the sending end (R61). -/
def LinkNo.receiver (k : LinkNo) : Nat := k.ends.2
def LinkNo.sender (k : LinkNo) : Nat := k.ends.1

/-- Is a word other than an ACK (R62, R63)? -/
def ShWord.counts (w : ShWord) : Bool := w.typ != tyAck

/-- The words of a list that are no ACKs. -/
def realWords (l : List ShWord) : Nat := (l.filter ShWord.counts).length

/-- Is the link full (R62)? ACKs are not counted (R63). -/
def Link.full (l : Link) : Bool := decide (4 ≤ realWords l.fly)

/-- The oldest word in flight that is no ACK. -/
def Link.headWord (l : Link) : Option ShWord := l.fly.find? ShWord.counts

/-- A word enters a link with the next sequence number (R59). -/
def Link.push (l : Link) (typ : Nat) (p : BitVec 64) (ref : Nat := 0) : Link :=
  { l with txSeq := (l.txSeq + 1) % 256, fly := l.fly ++ [ShWord.make typ l.txSeq p ref] }

/-- A word offered to a link: it enters when there is room, else its sender holds it (R62; log entry 62). -/
def Link.offer (l : Link) (typ : Nat) (p : BitVec 64) (ref : Nat := 0) : Link :=
  if l.full || !l.hold.isEmpty then { l with hold := l.hold ++ [(typ, p, ref)] } else l.push typ p ref

/-- A place on the link has become free: the oldest word its sender holds enters. -/
def Link.refill (l : Link) : Link :=
  match l.hold with
  | [] => l
  | (t, p, r) :: rest => if l.full then l else { l with hold := rest }.push t p r

/-- The words of a link that have been sent and not acknowledged (R63, R97). A word given up after its second CRC failure, or dropped as a
duplicate, is none of them any longer (DESIGN CHOICE, log entry 145). -/
def Link.outstanding (l : Link) : Nat := realWords l.fly + l.hold.length + realWords l.retry + l.unacked

def State.sendWord (s : State) (k : LinkNo) (typ : Nat) (p : BitVec 64) (ref : Nat := 0) : State := s.onLink k fun l => l.offer typ p ref

/-- Does the check of R60 pass: the CRC sent is the word's own, and TYPE is listed (R58)? -/
def ShWord.good (w : ShWord) : Bool := typeKnown w.typ && w.crc == shuttleCrc w.payload w.typ w.seq

/-- The receiver judges a word that has come: its CRC (R60), then its SEQ (R59). The answer tells whether it is accepted. -/
def State.judgeWord (s : State) (k : LinkNo) (w : ShWord) (crcOk : Bool) : Bool × State :=
  if !(crcOk && w.good) then
    let s := s.onLink k fun l => { l with retry := if w.resent then l.retry else l.retry ++ [w] }
    (false, s.fault .D k.receiver 0xA070 k.num w.seq w.typ)
  else
    let d := (w.seq + 256 - (s.link k).rxSeq) % 256
    if 128 ≤ d then (false, s)
    else
      let s := if d = 0 then s else s.fault .D k.receiver 0xA071 k.num d 0
      (true, s.onLink k fun l => { l with rxSeq := (w.seq + 1) % 256 })

/-- One word of a link is acknowledged, or its ACK has been given up (log entry 145). -/
def State.acked (s : State) (k : Option LinkNo) : State :=
  match k with
  | some j => s.onLink j fun l => { l with unacked := l.unacked - 1 }
  | none => s

/-- The ACK at the head of a link arrives (R63): it acknowledges the oldest word accepted on the link that leads back. -/
def State.ackArrive (s : State) (k : LinkNo) (crcOk : Bool) : State :=
  match (s.link k).fly with
  | [] => s
  | w :: rest =>
    if w.counts then s
    else
      let s := s.onLink k fun l => { l with fly := rest }
      let (ok, s) := s.judgeWord k w crcOk
      if ok || w.resent || (crcOk && w.good) then s.acked k.back else s

/-- The ACKs that stand ahead of a link's other words arrive before them (R63). -/
def State.takeAcks (s : State) (k : LinkNo) : State := s.forEach (List.range (s.link k).fly.length) fun _ s => s.ackArrive k true

/-- The receiver acknowledges an accepted word on the link that leads back (R63); an ACK's payload is 0 (DESIGN CHOICE, log entry 146). -/
def State.acknowledge (s : State) (k : LinkNo) : State :=
  let s := s.onLink k fun l => { l with unacked := l.unacked + 1 }
  match k.back with
  | some j => s.onLink j fun l => l.push tyAck 0
  | none => s

/-- The oldest word of a link that is no ACK arrives, if it is of the given type or of none that R58 lists. The answer is the payload of an accepted
word; an accepted word is acknowledged (R63). -/
def State.receiveWord (s : State) (k : LinkNo) (typ : Nat) (crcOk : Bool) : Option (BitVec 64) × State :=
  let s := s.takeAcks k
  match (s.link k).fly with
  | [] => (none, s)
  | w :: rest =>
    if typeKnown w.typ && w.typ != typ then (none, s)
    else
      match (s.onLink k fun l => { l with fly := rest }.refill).judgeWord k w crcOk with
      | (true, s) => (some w.payload, s.acknowledge k)
      | (false, s) => (none, s)

/-- Words that cross a link at once, accepted as they come: the numbers of its two ends go on together. -/
def Link.advance (n : Nat) (l : Link) : Link := { l with txSeq := (l.txSeq + n) % 256, rxSeq := (l.rxSeq + n) % 256 }

/-- `n` words cross a link, and their ACKs the link back, while nothing else is in flight. -/
def State.crossWords (s : State) (k : LinkNo) (n : Nat) : State :=
  let s := s.onLink k (Link.advance n)
  match k.back with
  | some j => s.onLink j (Link.advance n)
  | none => s

/-- The command check of a word: CRC-8 over its payload bytes (R330). -/
def commandCheck (p : BitVec 64) : Nat := crc8 (le 8 p.toNat)

/-- A command word comes to its next-frame register with its check (R330). -/
def CmdReg.keep (p : BitVec 64) : CmdReg := { payload := p, check := commandCheck p }

/-- Does a register still agree with its check? -/
def CmdReg.good (r : CmdReg) : Bool := r.check == commandCheck r.payload
def Due.good (d : Due) : Bool := d.check == commandCheck d.payload

/-- A next-frame register is latched: its command is due at its offset in the new frame (R122, R123). -/
def CmdReg.latch (r : CmdReg) (frame : Nat) : Due :=
  { payload := r.payload, at_ := 1000 * frame + bits r.payload.toNat 8 10, check := r.check }

/-- A field of a payload. -/
def pf (p : BitVec 64) (lo width : Nat) : Nat := bits p.toNat lo width

/-- A word for the partner twin: it counts in this frame when its layout holds and there is room; none outside PAIR_STATE 3 (R408). -/
def Twin.takeWord (t : Twin) (cmd : Bool) (a b : Nat) : Twin :=
  if t.pair ≠ .paired then t
  else if cmd = true ∨ b / 2 ^ 10 ≠ 0 ∨ 256 ≤ t.words.length then { t with wordsLost := t.wordsLost + 1 }
  else { t with words := t.words ++ [(b, a)] }

/-- The oldest word of the Loom's Twin link arrives in the twin island (R60, R61, R408). -/
def State.twinArrive (s : State) (crcOk : Bool) : State :=
  match (s.link 6).headWord with
  | none => s
  | some w =>
    match s.receiveWord 6 w.typ crcOk with
    | (none, s) => s
    | (some p, s) => s.onTwin fun t => t.takeWord (w.typ == tyCmd) (pf p 0 32) (pf p 32 32)

/-- Every word on the Twin link has arrived: its bound lies behind (R61, R408). -/
def State.twinDrain (s : State) : State := ((((s.twinArrive true).twinArrive true).twinArrive true).twinArrive true)

end Sys2Proof.Machine
end

