-- ==== Sys2Proof/Machine/RecorderRows.lean ====
section
/-! DEFINITION. The commit engine, the tail ring, the token bucket, the saved counters and the recorder's commands and
registers (spec/18, R517). -/

namespace Sys2Proof.Machine

open Sys2Proof

/-- The write position of the main region (R477): the number of slots written. -/
def Recorder.next (r : Recorder) : Nat := r.main.length

/-- The slot number records and replies carry (R485, R492). -/
def Recorder.slotNo (r : Recorder) : Nat := if r.saturated then 0x80000000 + r.tailNext else r.next

/-- Program a slot at the write position and move it on (R477, R488). -/
def Recorder.program (r : Recorder) (x : Slot) : Recorder :=
  if r.saturated then
    let n := r.tailNext + 1
    let r := { r with tail := (r.tailNext, x) :: r.tail.filter fun y => y.1 != r.tailNext
                      sectorReady := if n % sectorSlots = 0 then false else r.sectorReady }
    if n < tailSlots then { r with tailNext := n }
    else { r with tailNext := 0, tailWraps := satAdd 0xFFFFFFFF r.tailWraps 1 }
  else { r with main := r.main ++ [x] }

/-- Record 0xF001 goes into the last main slot when the write position reaches it (R488). -/
def State.saturate (s : State) : State :=
  if s.rcd.saturated = false ∧ s.rcd.next = mainSlots - 1 then
    let x := s.stamp 0xF001 0 5 (w32 (mainSlots - 1)) (w32 s.rcd.lostTotal) 0
    s.onRcd fun r => { (r.program (.valid x r.lostPending)) with lostPending := 0, saturated := true }
  else s

/-- Can the commit engine program a slot: powered (R480, R501), or on the reserve for the one record begun (R29, R479); a sector erased (R488), not worn
out (R517)? -/
def State.engineReady (s : State) : Bool :=
  (match s.supply.loss with
    | some l => !l.wrote
    | none => s.pd2) && (!s.rcd.saturated || (s.rcd.sectorReady && !s.rcd.allWorn))

/-- A buffered record that never comes to a slot is lost (R475, R477, R483); the REC_APPEND that waits for it ends (log entry 130). -/
def State.loseBuffered (s : State) (b : Buffered) : State :=
  let s := s.onRcd fun r => r.lose
  match b.cmd with
  | none => s
  | some id => s.completeId id .state []

/-- With every sector worn no record is written any more: the buffered ones are lost (R517, log entry 139). -/
def State.dropBuffer (s : State) : State :=
  s.rcd.buffer.foldl State.loseBuffered (s.onRcd fun r => { r with buffer := [] })

/-- RECORD_WRITE (R475, R477, R479, R483, R488): `ok` is the read-back, `wordOk` the check of the FAULT or SERVICE word that brought the record. At an
AUX loss it completes the record begun. -/
def opRecordWrite (ok wordOk : Bool) (s : State) : State :=
  if !s.engineReady then s
  else
    let s := s.onSupply fun v => { v with loss := v.loss.map fun l => { l with wrote := true } }
    match s.rcd.buffer with
    | [] => s
    | b :: rest =>
      let slot := s.rcd.slotNo
      if !wordOk && decide (b.fails = 0) && decide (b.record.source ≠ 0) then
        (s.onRcd fun r => { r with buffer := rest, checkDrop := satAdd 0xFFFF r.checkDrop 1 }).loseBuffered b
      else if ok then
        let s := s.onRcd fun r => { (r.program (.valid b.record r.lostPending)) with buffer := rest, lostPending := 0 }
        let s := match b.cmd with
          | none => s
          | some id => s.completeId id .ok (le 4 slot ++ zeros 4)
        s.saturate
      else
        let f : Buffered := { record := s.stamp 0xF002 0 Cls.D.num (w32 slot) (w32 b.record.code) 0, at_ := s.now, fails := 0, cmd := none }
        let s := s.onRcd fun r =>
          let r := { r.program .torn with torn := satAdd 0xFFFF r.torn 1, writeFail := satAdd 0xFFFF r.writeFail 1 }
          let r := r.count 0xF002
          if b.fails = 0 then { r with buffer := f :: { b with fails := 1 } :: rest }
          else { r with buffer := f :: rest }
        let s := if b.fails = 0 then s else s.loseBuffered b
        (s.faultWord .D 0 0xF002 slot b.record.code 0).saturate

/-- The first index at or after `i` whose sector is not worn, and whether the ring wrapped to reach it (R517). -/
def skipWorn (worn : List Nat) : Nat → Nat → Nat × Bool
  | 0, i => (i, false)
  | n + 1, i =>
    if worn.contains (i / sectorSlots) then
      let j := i + sectorSlots
      if j < tailSlots then skipWorn worn n j else ((skipWorn worn n 0).1, true)
    else (i, false)

/-- TAIL_SECTOR_ERASE (R488, R489, R517): `ok` is the check of the erasure. -/
def opTailSectorErase (ok : Bool) (s : State) : State :=
  if s.rcd.saturated = false ∨ s.rcd.sectorReady = true ∨ s.rcd.allWorn = true then s
  else
    let (i, wrap) := skipWorn s.rcd.worn (tailSlots / sectorSlots) s.rcd.tailNext
    let s := s.onRcd fun r => { r with tailNext := i, tailWraps := if wrap then satAdd 0xFFFFFFFF r.tailWraps 1 else r.tailWraps }
    let k := i / sectorSlots
    if ok then (s.onRcd fun r => { r with tail := (r.tail.filter fun y => y.1 / sectorSlots != k), sectorReady := true })
    else
      let s := (s.onRcd fun r => { r with worn := k :: r.worn }).fault .D 0 0xF002 (0x80000000 + k * sectorSlots) 0 0
      if s.rcd.allWorn then s.dropBuffer else s

/-- RATE_TOKEN (R482). -/
def opRateToken (s : State) : State :=
  if s.since s.rcd.tokenAt < 62500 then s
  else s.onRcd fun r => { r with tokenAt := r.tokenAt + 62500, tokens := min 256 (r.tokens + 1) }

/-- The counters copied to flash (R476, R481, R490). -/
def Recorder.save (r : Recorder) (t : Nat) : Recorder :=
  { r with savedAt := t, saved :=
      { opSeconds := r.opSeconds, cycles := r.cycles, lostPending := r.lostPending, lostTotal := r.lostTotal,
        tailWraps := r.tailWraps, writeFail := r.writeFail, checkDrop := r.checkDrop, counters := r.counters,
        other := r.other } }

/-- COUNTER_SAVE (R481, R490). -/
def opCounterSave (s : State) : State :=
  if s.since s.rcd.savedAt < 600000000 then s else s.onRcd fun r => r.save s.now

/-- OP_SECOND (R481), and ON_SECONDS of the channels that are on or in PWM (R164). -/
def opOpSecond (s : State) : State :=
  if s.since s.rcd.secondAt < 1000000 ∨ s.pwr.state = .off then s
  else
    let s := s.onRcd fun r => { r with secondAt := r.secondAt + 1000000, opSeconds := satAdd 0xFFFFFFFF r.opSeconds 1 }
    let f := fun (x : Chan) =>
      if x.output || decide (x.mode = .pwm) then
        { x with counts := { x.counts with onSeconds := satAdd 0xFFFFFFFF x.counts.onSeconds 1 } }
      else x
    s.onSw fun w => { w with chans := w.chans.mapIdx fun _ x => f x }

/-- REC_INFO (R485). -/
def opRecInfo (r : CmdRef) (s : State) : State :=
  s.onCommand r 0x0801 fun q s =>
    if q.params.length ≠ 0 then s.complete q .badParam []
    else
      let x := s.rcd
      s.complete q .ok (le 1 (b2n x.saturated) ++ zeros 3 ++ le 4 x.next ++
        le 4 (if x.saturated then x.tailNext else 0xFFFFFFFF) ++ le 4 x.tailWraps ++ le 4 x.lostTotal ++
        le 2 x.lostPending ++ le 2 x.tokens ++ le 4 x.opSeconds ++ le 3 x.cycles ++ zeros 1 ++ le 4 x.torn ++ le 4 x.writeFail)

/-- REC_APPEND (R485, R486): it completes when its record is committed. -/
def opRecAppend (r : CmdRef) (s : State) : State :=
  s.onCommand r 0x0802 fun q s =>
    let p := q.params
    let code := u16 p 0
    let sev := u8 p 2
    if p.length ≠ 16 ∨ code < 0xB000 ∨ 0xBFFF < code ∨ sev < 8 ∨ 15 < sev ∨ u8 p 3 ≠ 0 then s.complete q .badParam []
    else if s.rcd.tokens = 0 then s.complete q .limit []
    else
      let x := s.stamp code 0xFF sev (w32 (u32 p 4)) (w32 (u32 p 8)) (w32 (u32 p 12))
      let b : Buffered := { record := x, at_ := s.now, fails := 0, cmd := some q.id }
      if s.rcd.saturated && s.rcd.allWorn then (s.onRcd fun r => r.present b s.pd2).complete q .state []
      else (s.handOver q .core).onRcd fun r => r.present b s.pd2

/-- A record's bytes with LOST, CRC and MARK (R473, R475). -/
def recordBytes (r : Record) (lost : Nat) : List Byte :=
  let a := le 2 r.code ++ le 1 r.source ++ le 1 r.severity ++ le 4 r.opSec ++ le 2 r.subsec ++ le 3 r.cycles ++ le 1 0
  let b := le 4 r.p0.toNat ++ le 4 r.p1.toNat ++ le 4 r.p2.toNat ++ le 2 lost
  a ++ le 2 (crc16 (a ++ b)) ++ b ++ le 1 0 ++ le 1 0x5A

/-- What a torn slot reads: its MARK is not programmed, and some byte differs from an erased slot's (R477, R478; the bytes are free values). -/
def tornBytes (no : Nat) : List Byte :=
  let l := (List.range 31).map fun i => Config.tornByte no i
  (if l.all fun b => b == 0xFF then BitVec.ofNat 8 (Config.tornFirst no % 255) :: l.drop 1 else l) ++ [0xFF]

/-- The 32 bytes a slot reads (R476, R478). -/
def slotBytes (x : Option Slot) (no : Nat) : List Byte :=
  match x with
  | none => List.replicate 32 0xFF
  | some (.valid r lost) => recordBytes r lost
  | some .torn => tornBytes no

/-- The bytes of a code counter entry (R490). -/
def Recorder.counterBytes (r : Recorder) (i : Nat) : List Byte :=
  let entry := fun (c n : Nat) => le 2 c ++ zeros 2 ++ le 4 n
  if i = 1023 then (if r.saved.other = 0 then List.replicate 8 0xFF else entry 0xFFFF r.saved.other)
  else match r.saved.counters[i]? with
    | none => List.replicate 8 0xFF
    | some c => entry c.code c.count

/-- One byte of the recorder regions (R476); the code counters as last copied to flash. -/
def Recorder.byteAt (r : Recorder) (a : Nat) : Byte :=
  if a < 0x34000000 then
    let i := (a - 0x30000000) / 32
    (slotBytes r.main[i]? i).getD (a % 32) 0
  else if a < 0x34200000 then
    let i := (a - 0x34000000) / 32
    (slotBytes ((r.tail.find? fun y => y.1 == i).map fun y => y.2) (0x80000000 + i)).getD (a % 32) 0
  else (r.counterBytes ((a - 0x34200000) / 8)).getD (a % 8) 0

/-- The recorder registers (R493), by offset from 0x2800_0400. -/
def State.readRecorder (s : State) (off : Nat) : Nat :=
  let r := s.rcd
  match off with
  | 0x00 => b2n r.saturated + 2 ^ 8 * r.buffer.length + 2 ^ 17 * r.tokens
  | 0x04 => r.next
  | 0x08 => r.tailNext
  | 0x0C => r.tailWraps
  | 0x10 => r.lostPending
  | 0x14 => r.lostTotal
  | 0x18 => r.torn + 2 ^ 16 * r.writeFail
  | 0x1C => r.checkDrop
  | 0x20 => r.opSeconds
  | 0x24 => r.cycles
  | _ => 0

/-- The recorder's part of a Keep-domain cold start (R478, R481, R482, R490): counters restored, the bucket full, the write
positions found, 0xF003 written for a torn slot below them. -/
def State.recorderColdStart (s : State) : State :=
  let s := s.onRcd fun r =>
    { r with buffer := [], tokens := 256, tokenAt := s.now, secondAt := s.now, savedAt := s.now
             opSeconds := r.saved.opSeconds, cycles := satAdd 0xFFFFFF r.saved.cycles 1
             lostPending := r.saved.lostPending, lostTotal := r.saved.lostTotal, tailWraps := r.saved.tailWraps
             writeFail := r.saved.writeFail, checkDrop := r.saved.checkDrop, counters := r.saved.counters, other := r.saved.other
             torn := min 0xFFFF (countIf (fun x => x == Slot.torn) r.main + countIf (fun y => y.2 == Slot.torn) r.tail)
             sectorReady := r.sectorReady && decide (r.tailNext % sectorSlots ≠ 0) }
  let last := (s.rcd.tailNext + tailSlots - 1) % tailSlots
  let below := if s.rcd.saturated then (s.rcd.tail.find? fun y => y.1 == last).map (fun y => y.2) else s.rcd.main.getLast?
  let no := if s.rcd.saturated then 0x80000000 + last else s.rcd.next - 1
  if below = some .torn then s.record 0xF003 0 no s.rcd.torn 0 else s

/-! ## The meanings of the commands -/

/-- RECORD_WRITE (R477). -/
def execRecordWrite (ok wordOk : Bool) (s : State) : Host.Outcome State Fault Refusal := .next (opRecordWrite ok wordOk s)

/-- TAIL_SECTOR_ERASE (R489). -/
def execTailSectorErase (ok : Bool) (s : State) : Host.Outcome State Fault Refusal := .next (opTailSectorErase ok s)

/-- RATE_TOKEN (R482). -/
def execRateToken (s : State) : Host.Outcome State Fault Refusal := .next (opRateToken s)

/-- COUNTER_SAVE (R481). -/
def execCounterSave (s : State) : Host.Outcome State Fault Refusal := .next (opCounterSave s)

/-- OP_SECOND (R481). -/
def execOpSecond (s : State) : Host.Outcome State Fault Refusal := .next (opOpSecond s)

/-- REC_INFO (R485). -/
def execRecInfo (r : CmdRef) (s : State) : Host.Outcome State Fault Refusal := .next (opRecInfo r s)

/-- REC_APPEND (R486). -/
def execRecAppend (r : CmdRef) (s : State) : Host.Outcome State Fault Refusal := .next (opRecAppend r s)

end Sys2Proof.Machine
end

