-- ==== Sys2Proof/Machine/FaultOps.lean ====
section
/-! DEFINITION. The fault queue (R309 to R313, R316, R317), the release gate (R326), FAULT_READ and the fault registers
(R331, R332). The hold reset itself, which resets islands, stands in System.lean. -/

namespace Sys2Proof.Machine

open Sys2Proof

def allGroups : List Grp := List.finRange 16

/-- The stall cause of a class (R293, R309). -/
def Cls.cause : Cls → Option Nat
  | .S => some 1
  | .D => some 2
  | _ => none

/-- A count of the table of R332. -/
def clsIdx : Cls → Fin 5
  | .S => 0 | .D => 1 | .C => 2 | .A => 3 | .B => 4

/-- Every group is stalled at once for a class S or D entry (R287, R309, R409); the answer lists the groups that gained the
cause. -/
def State.stallAll (s : State) (c : Cls) : List Grp × State :=
  match c.cause with
  | none => ([], s)
  | some k =>
    let gained := allGroups.filter fun g => !((s.group g).causes.has k)
    let s := if gained.isEmpty then s else s.mirrorStallAll (2 ^ k)
    (gained, s.forEach gained fun g s => (s.onGroup g fun x => { x with causes := x.causes.add k }).acceptWaiting g)

/-- Does a new fault merge into an entry (R310)? -/
def FaultEntry.merges (e : FaultEntry) (w : FaultWord) : Bool :=
  decide (e.cls = w.cls) &&
  (decide (w.cls = .S) || (decide (w.event ≠ 0) && e.event == w.event) ||
    (decide (e.state = .queued) && e.code == w.code && e.p0 == w.p0 && e.p1 == w.p1))

/-- Merge into the first entry that takes the fault. The entry then stands for the fault's event too, whose later records merge with it (R67, R310). -/
def mergeFirst (w : FaultWord) (added : List Grp) : List FaultEntry → List FaultEntry
  | [] => []
  | e :: l =>
    if e.merges w then { e with merged := satAdd 0xFFFF e.merged 1, added := e.added ++ added, event := if w.event = 0 then e.event else w.event } :: l
    else e :: mergeFirst w added l

/-- The entries of classes other than S (R317). -/
def Faults.nonS (f : Faults) : Nat := countIf (fun e => decide (e.cls ≠ .S)) f.queue

/-- Does the queue have room for a fault of a class (R309, R317)? -/
def Faults.room (f : Faults) (c : Cls) : Bool :=
  decide (f.queue.length < 64) && (decide (c = .S) || decide (f.nonS < 63))

/-- A new entry at the end of the queue (R309, R331). -/
def Faults.pushEntry (f : Faults) (w : FaultWord) (added : List Grp) : Faults :=
  { f with
    nextSeq := (f.nextSeq + 1) % 65536
    queue := f.queue ++ [{ cls := w.cls, state := .queued, code := w.code, p0 := w.p0, p1 := w.p1, merged := 0,
                           seq := f.nextSeq, tick := w.tick, event := w.event, step := 0, notified := false, added := added }] }

/-- A fault queued or merged is counted once (R332). -/
def Faults.count (f : Faults) (c : Cls) : Faults := { f with counts := f.counts.upd (clsIdx c) fun n => satAdd 0xFFFF n 1 }

/-- A FAULT word enters the queue or merges (R309, R310); none when it cannot. -/
def State.enterFault (s : State) (w : FaultWord) : Option State :=
  if s.flt.queue.any (fun e => e.merges w) then
    let (added, s) := s.stallAll w.cls
    some (s.onFlt fun f => { f.count w.cls with queue := mergeFirst w added f.queue })
  else if s.flt.room w.cls then
    let (added, s) := s.stallAll w.cls
    some (s.onFlt fun f => (f.count w.cls).pushEntry w added)
  else none

/-- The faults dropped in a second that is over are recorded (R317). -/
def State.reportDropped (s : State) : State :=
  let n := s.flt.droppedInSec
  if n = 0 ∨ s.since s.flt.droppedAt < 1000000 then s
  else (s.onFlt fun f => { f with droppedInSec := 0 }).record 0xA102 0 n 0 0

/-- A fault dropped in the quiet period (R317): the first opens a second. -/
def State.dropFault (s : State) : State :=
  let s := s.reportDropped
  let t := s.now
  s.onFlt fun f =>
    { f with dropped := satAdd 0xFFFF f.dropped 1, droppedInSec := f.droppedInSec + 1
             droppedAt := if f.droppedInSec = 0 then t else f.droppedAt }

/-- Is the quiet period running (R317)? -/
def State.quiet (s : State) : Bool :=
  match s.flt.quietEnd with
  | none => false
  | some t => decide (s.now < t)

/-- QUIET_PERIOD_END (R317). -/
def opQuietPeriodEnd (s : State) : State :=
  match s.flt.quietEnd with
  | none => s
  | some t =>
    if s.now < t then s
    else
      let n := s.flt.droppedInSec
      let s := s.onFlt fun f => { f with quietEnd := none, droppedInSec := 0 }
      if n = 0 then s else s.record 0xA102 0 n 0 0

/-- Is word `a` to enter before word `b` (R309): earlier, or of the same instant and a lower island? -/
def FaultWord.before (a b : FaultWord) : Bool := decide (a.at_ < b.at_) || (a.at_ == b.at_ && decide (a.island < b.island))

/-- The word that enters next, and the rest in their order (R309). -/
def takeFirst : List FaultWord → Option (FaultWord × List FaultWord)
  | [] => none
  | w :: l =>
    match takeFirst l with
    | none => some (w, [])
    | some (v, rest) => if v.before w then some (v, w :: rest) else some (w, v :: rest)

/-! ## The handler -/

/-- The entry that runs. -/
def Faults.running (f : Faults) : Option FaultEntry := f.queue.find? fun e => e.state = .running

/-- The entries that wait, highest class first, the preempted one of a class before its queued ones (R311). -/
def Faults.waiting (f : Faults) : List FaultEntry :=
  Cls.order.flatMap fun c =>
    (f.queue.filter fun e => decide (e.cls = c) && decide (e.state = .preempted)) ++
    (f.queue.filter fun e => decide (e.cls = c) && decide (e.state = .queued))

/-- The entries in handler order (R331): the running one first, then preempted ones in class order, then queued ones. -/
def Faults.handlerOrder (f : Faults) : List FaultEntry :=
  f.running.toList ++
  (Cls.order.flatMap fun c => f.queue.filter fun e => decide (e.cls = c) && decide (e.state = .preempted)) ++
  (Cls.order.flatMap fun c => f.queue.filter fun e => decide (e.cls = c) && decide (e.state = .queued))

def Faults.updEntry (f : Faults) (seq : Nat) (g : FaultEntry → FaultEntry) : Faults :=
  { f with queue := f.queue.map fun e => if e.seq = seq then g e else e }

def Faults.removeEntry (f : Faults) (seq : Nat) : Faults := { f with queue := f.queue.filter fun e => e.seq != seq }

/-- Preempt the running entry when one of a higher class waits; then, when none runs, take the next, which starts from its
first step (R311, R312). -/
def Faults.select (f : Faults) : Faults :=
  let f := match f.running, f.waiting with
    | some e, w :: _ => if w.cls.num < e.cls.num then f.updEntry e.seq fun x => { x with state := .preempted, step := 0 } else f
    | _, _ => f
  match f.running, f.waiting with
  | none, w :: _ => f.updEntry w.seq fun x => { x with state := .running, step := 0 }
  | _, _ => f

/-- The FAULT notification of an entry, once (R293, R312, R313). -/
def State.notifyFault (s : State) (e : FaultEntry) : State :=
  if e.notified then s
  else
    let p := le 1 e.cls.num ++ le 1 0 ++ le 2 e.code ++ le 4 e.p0.toNat ++ le 4 e.p1.toNat
    let s := s.onFlt fun f => f.updEntry e.seq fun x => { x with notified := true }
    let wants := fun (src : Src) => match src with
      | .session k => match s.cmd.sessions.get k with
        | some x => x.notify
        | none => false
      | .can => true
      | .clear => false
    s.forEach ([.session 0, .session 1, .session 2, .session 3, .can].filter wants) fun src s => s.notify src 0x0E81 p

/-- GROUP_STALL to the holders of the groups an entry stalled (R313). -/
def State.notifyStalls (s : State) (e : FaultEntry) : State :=
  match e.cls.cause with
  | none => s
  | some k =>
    let s := s.onFlt fun f => f.updEntry e.seq fun x => { x with added := [] }
    s.forEach e.added fun g s => s.notifyStall g k

/-- A stop of the running weft not made by command (R130, R314): pending to the end of the frame; AUTOSTART cleared. A stop
that both twins have agreed for a later frame (R410) ends with this one. -/
def State.stopWeft (s : State) (reason : Nat) (clearAuto : Bool) : State :=
  match s.weft.running with
  | none => s
  | some k =>
    let s := if clearAuto then s.onWeft fun w => { w with store := w.store.upd k fun x => x.map fun y => { y with autostart := false } } else s
    match s.weft.stopping with
    | some x => s.onWeft fun w => { w with stopping := some { x with frame := min x.frame s.frame } }
    | none => s.onWeft fun w => { w with stopping := some { frame := s.frame, toHost := false, reason := reason, cmd := none } }

/-- One step of the handler that runs (R313); the entry leaves the queue at its last. -/
def State.handlerStep (s : State) (e : FaultEntry) : State :=
  let advance := fun (s : State) => s.onFlt fun f => f.updEntry e.seq fun x => { x with step := x.step + 1 }
  let finish := fun (s : State) => s.onFlt fun f => f.removeEntry e.seq
  match e.cls, e.step with
  | .S, 0 => advance (s.notifyStalls e)
  | .S, 1 => advance (if s.flt.sWeftStop then s.stopWeft 4 true else s)
  | .S, 2 =>
    let s := advance (s.notifyFault e)
    if s.weft.running.isSome && s.flt.sWeftStop then s else finish s
  | .S, _ => if s.weft.running.isSome && s.flt.sWeftStop then s else finish s
  | .D, 0 => advance (s.notifyStalls e)
  | .D, _ => finish (s.notifyFault e)
  | _, _ => finish (s.notifyFault e)

/-- FAULT_HANDLER (R311 to R314): the selection, then one step of the entry that runs; handlers wait while the service core
is down. -/
def opFaultHandler (s : State) : State :=
  if !s.cmd.serving then s
  else
    let s := s.onFlt fun f => f.select
    match s.flt.running with
    | none => s
    | some e => s.handlerStep e

/-! ## The release gate -/

/-- The gate closes for a cause (R326). -/
def State.closeGate (s : State) (cause : Nat) : State :=
  if s.flt.gate.closed then s
  else (s.onFlt fun f => { f with gate := { f.gate with closed := true, closedAt := s.now } }).record 0xA150 0 cause 0 0

/-- PERMIT_RENEWAL (R326): by the service core while it serves, by the Taproot in Idle (R496). -/
def opPermitRenewal (s : State) : State :=
  if !s.cmd.serving then s
  else
    let s := s.onFlt fun f => { f with gate := { f.gate with lastRenewal := s.now, expired := false, holdReset := false } }
    if s.flt.gate.closed && !s.flt.forceSafe then
      let ms := s.since s.flt.gate.closedAt / 1000
      (s.onFlt fun f => { f with gate := { f.gate with closed := false } }).record 0xA151 0 ms 0 0
    else s

/-- PERMIT_EXPIRY (R326). -/
def opPermitExpiry (s : State) : State :=
  if s.flt.gate.expired = true ∨ s.since s.flt.gate.lastRenewal < 300000 then s
  else (s.onFlt fun f => { f with gate := { f.gate with expired := true } }).closeGate 2

/-! ## Reading -/

/-- The 20 bytes of an entry (R331). -/
def FaultEntry.bytes (e : FaultEntry) : List Byte :=
  le 1 e.cls.num ++ le 1 e.state.num ++ le 2 e.code ++ le 4 e.p0.toNat ++ le 4 e.p1.toNat ++ le 2 e.merged ++ le 2 e.seq ++
    le 4 e.tick.toNat

/-- FAULT_READ (R331). -/
def opFaultRead (r : CmdRef) (s : State) : State :=
  s.onCommand r 0x0E04 fun q s =>
    let p := q.params
    let start := u8 p 0
    let mx := u8 p 1
    if p.length ≠ 4 ∨ zeroAt p [2, 3] = false ∨ 63 < start ∨ mx < 1 ∨ 64 < mx ∨ (q.src = .can ∧ mx ≠ 1) then s.complete q .badParam []
    else
      let l := (s.flt.handlerOrder.drop start).take mx
      let run := match s.flt.running with
        | some e => e.cls.num
        | none => 0xFF
      s.complete q .ok (le 1 s.flt.queue.length ++ le 1 l.length ++ le 1 run ++ zeros 1 ++ le 2 s.flt.holdResets ++ zeros 2 ++
        l.flatMap fun e => e.bytes)

/-- The fault registers (R332), by offset from 0x2800_0300. -/
def State.readFaults (s : State) (off : Nat) : Nat :=
  let f := s.flt
  match off with
  | 0x00 =>
    let active := (Cls.order.map fun c =>
      if f.queue.any (fun e => decide (e.cls = c) && decide (e.state ≠ .queued)) then 2 ^ c.num else 0).sum
    let run := match f.running with
      | some e => e.cls.num
      | none => 7
    f.queue.length + 2 ^ 8 * active + 2 ^ 13 * run + 2 ^ 16 * b2n f.forceSafe + 2 ^ 17 * b2n f.gate.closed + 2 ^ 18 * b2n s.quiet
  | 0x04 => b2n f.sWeftStop
  | 0x08 => f.counts.get 0 + 2 ^ 16 * f.counts.get 1
  | 0x0C => f.counts.get 2 + 2 ^ 16 * f.counts.get 3
  | 0x10 => f.counts.get 4 + 2 ^ 16 * f.dropped
  | 0x14 => f.holdResets
  | 0x18 => f.wdtResets.get 1 + 2 ^ 8 * f.wdtResets.get 2 + 2 ^ 16 * f.wdtResets.get 3 + 2 ^ 24 * f.wdtResets.get 4
  | 0x1C => f.wdtResets.get 5 + 2 ^ 8 * f.wdtResets.get 7 + 2 ^ 16 * f.wdtResets.get 8
  | 0x20 => f.forceSafeCnt
  | _ => 0

/-- A write of a fault register (R332). -/
def State.writeFaults (s : State) (off v : Nat) : Status × State :=
  if off = 0x04 then (.ok, s.onFlt fun f => { f with sWeftStop := bit v 0 }) else (.ok, s)

/-! ## The meanings of the commands -/

/-- FAULT_READ (R331). -/
def execFaultRead (r : CmdRef) (s : State) : Host.Outcome State Fault Refusal := .next (opFaultRead r s)

/-- QUIET_PERIOD_END (R317). -/
def execQuietPeriodEnd (s : State) : Host.Outcome State Fault Refusal := .next (opQuietPeriodEnd s)

/-- FAULT_HANDLER (R313). -/
def execFaultHandler (s : State) : Host.Outcome State Fault Refusal := .next (opFaultHandler s)

/-- PERMIT_RENEWAL (R326). -/
def execPermitRenewal (s : State) : Host.Outcome State Fault Refusal := .next (opPermitRenewal s)

/-- PERMIT_EXPIRY (R326). -/
def execPermitExpiry (s : State) : Host.Outcome State Fault Refusal := .next (opPermitExpiry s)

end Sys2Proof.Machine
end

