-- ==== Sys2Proof/Machine/PacketRows.lean ====
section
/-! DEFINITION. The reception of packets, the tag rule, the beginning of commands, the end of sessions and the group
opcodes (spec/10). -/

namespace Sys2Proof.Machine

open Sys2Proof

/-- The ordering classes of R295. -/
inductive Ordering' where
  | group | any | ungrouped
  deriving DecidableEq, Repr

/-- What R283 and R296 to R299 say of an opcode: its class, whether it may be posted, whether CAN FD allows it. -/
structure OpInfo where
  ord : Ordering'
  p   : Bool
  can : Bool
  deriving DecidableEq, Repr

/-- The opcodes (R283, R296, R299, R331). -/
def opInfo : Nat → Option OpInfo
  | 0x0101 | 0x0102 | 0x0103 | 0x0202 | 0x0305 | 0x0402 | 0x0504 | 0x0702 | 0x0801 | 0x0B03 | 0x0C03 | 0x0E04 =>
    some { ord := .any, p := false, can := true }
  | 0x0104 | 0x0105 => some { ord := .ungrouped, p := false, can := false }
  | 0x0E01 | 0x0E02 => some { ord := .ungrouped, p := false, can := true }
  | 0x0201 | 0x0302 | 0x0401 | 0x0503 | 0x0703 | 0x0802 | 0x0D02 => some { ord := .group, p := true, can := true }
  | 0x0203 | 0x0204 | 0x0205 | 0x0301 | 0x0403 | 0x0501 | 0x0502 | 0x0505 | 0x0506 | 0x0601 | 0x0602 | 0x0603 | 0x0604 | 0x0605
  | 0x0701 | 0x0704 | 0x0705 | 0x0B01 | 0x0B02 | 0x0C02 | 0x0D01 | 0x0D03 | 0x0D04 | 0x0E03 =>
    some { ord := .group, p := false, can := true }
  | 0x0303 | 0x0304 | 0x0901 | 0x0902 | 0x0904 | 0x0905 | 0x0A02 | 0x0A03 | 0x0C01 => some { ord := .group, p := false, can := false }
  | 0x0903 | 0x0A01 => some { ord := .any, p := false, can := false }
  | _ => none

/-- A SESSION_OPEN refused outside its own step (R281): in clear, with a record whose param0 the spec does not name (log entry 58). -/
def State.refuseOpen (s : State) : State :=
  let (k, s) := s.draw
  s.record 0x8032 2 k 0 0

/-- A reply to a packet that is not taken (steps 4 to 7 of R276): it goes out once, is not cached and stalls nothing. A refused SESSION_OPEN is
answered in clear, with its record (R281); a DUPLICATE refuses nothing, and as a reply to a command taken it waits for that command's stage TAKEN
(R409). -/
def State.rejectPacket (s : State) (src : Src) (addr port : Nat) (p : List Byte) (st : Status) (params : List Byte) : State :=
  if u16 p 2 = 0x0104 ∧ src ≠ .can ∧ st ≠ .duplicate then
    s.refuseOpen.sendPacket .clear portCmd addr port 0 (packet flagsEnd 0x0104 (u16 p 4) (u8 p 6) st.code 0 params)
  else s.sendOrHold (decide (st = .duplicate)) src (u32 p 8) portCmd addr port s.cmd.canTxId
    (packet flagsEnd (u16 p 2) (u16 p 4) (u8 p 6) st.code (u32 p 8) params)

/-- Count a packet discarded by steps 1 to 3 (R276, R306). -/
def State.countCrcFail (s : State) : State := s.onCmd fun c => { c with crcFail := satAdd 0xFFFF c.crcFail 1 }

/-- The outstanding commands of a group (R285). -/
def Group.outstanding (g : Group) : Nat := g.held.length + g.taken.length + g.exec.toList.length + g.handed.length

/-- The packet of a command, as it came (R272). -/
def Cmd.bytes (c : Cmd) : List Byte := packet c.flags c.opcode c.tag (groupByte c.group) 0 c.session c.params

/-- A command is taken (R285, R287, R289, R290, R409). -/
def State.takeCmd (s : State) (g : Grp) (c : Cmd) : State :=
  let s := s.onGroup g fun x =>
    { (x.cacheReply c.tag Status.accepted.code 0 [] false) with
      expected := (x.expected + 1) % 65536, inflight := x.inflight.filter fun y => y.1 != c.tag }
  let c := { c with mirr := c.mirrored && s.mirrors }
  let s := if c.mirr then s.mirrorTaken c.src g.1 c.tag c.bytes else s
  let now := c.posted || (s.group g).causes.stalled
  let s := if c.accepted then s.onGroup g fun x => x.cacheReply c.tag Status.accepted.code (if c.posted then flagsEnd else flagsAccepted) [] true
    else if now then s.accept c else s
  s.onGroup g fun x => { x with taken := x.taken ++ [{ c with accepted := c.accepted || now }] }

/-- Take the held commands whose tags are now in order (R285). -/
def State.takeHeld (g : Grp) : Nat → State → State
  | 0, s => s
  | n + 1, s =>
    let x := s.group g
    match x.held.find? fun c => c.tag == x.expected with
    | none => s
    | some c => State.takeHeld g n ((s.onGroup g fun x => { x with held := x.held.filter fun y => y.id != c.id }).takeCmd g c)

/-- The DUPLICATE reply's parameters (R290, R320). -/
def Group.duplicate (g : Group) (tag : Nat) (can : Bool) : List Byte :=
  match g.inflight.find? fun x => x.1 == tag with
  | some (_, st) => le 1 st ++ zeros 3
  | none =>
    match g.cache.find? fun x => x.tag == tag with
    | none => le 1 0xFF ++ zeros 3
    | some e =>
      if e.known && !can && decide (e.params.length ≤ 1416) then le 1 e.status ++ le 1 1 ++ le 1 e.flags ++ le 1 0 ++ e.params
      else le 1 e.status ++ le 1 0 ++ le 1 e.flags ++ le 1 0

/-- Is the command exempt while the Otcel is shadow (R291)? -/
def shadowExempt (opcode group : Nat) : Bool :=
  opcode == 0x0104 || opcode == 0x0105 || opcode / 256 == 0x0C ||
  (decide (group = 0xFF) && match opInfo opcode with
    | some i => decide (i.ord = .any)
    | none => false)

/-- What a SESSION_OPEN in clear meets when it names a group: an unknown one (step 4), one held by a source (step 5), or its own ordering class
(step 9 of R276). It binds no group, for the five sources of R284 are the only holders. -/
def State.openGroup (s : State) (gb : Nat) : Status :=
  if h : gb < 16 then (if (s.group ⟨gb, h⟩).holder = .free then .badParam else .denied) else .badParam

/-- Steps 4 to 7 of R276 for a packet that passed steps 1 to 3. -/
def State.admitPacket (s : State) (src : Src) (addr port : Nat) (p : List Byte) : State :=
  let gb := u8 p 6
  let tag := u16 p 4
  let opcode := u16 p 2
  let fl := u8 p 1
  let id := s.cmd.nextId
  let s := s.onCmd fun c => { c with nextId := id + 1 }
  let cmd := fun (g : Option Grp) =>
    ({ id := id, src := src, addr := addr, port := port, opcode := opcode, flags := fl, posted := bit fl 0, fence := bit fl 1, tag := tag,
       group := g, session := u32 p 8, params := slice p 16 (u16 p 12), accepted := false, stage := .taken, msn := 0,
       mirr := false, begunAt := none } : Cmd)
  if src = .clear ∧ gb ≠ 0xFF then s.rejectPacket src addr port p (s.openGroup gb) []
  else if gb ≠ 0xFF ∧ 16 ≤ gb then s.rejectPacket src addr port p .badParam []
  else if h : gb < 16 then
    let g : Grp := ⟨gb, h⟩
    let x := s.group g
    let mine := match x.holder with
      | .free => true
      | .src y => decide (y = src)
      | .keyId _ => false
    if !mine then s.rejectPacket src addr port p .denied []
    else if decide (s.twin.role = .shadow) && !shadowExempt opcode gb then s.rejectPacket src addr port p .held []
    else
      let s := if x.holder = .free then s.onGroup g fun x => { x with holder := .src src, expected := tag } else s
      let x := s.group g
      let d := (tag + 65536 - x.expected) % 65536
      if d = 0 then
        if 64 ≤ x.outstanding then s.rejectPacket src addr port p .busy []
        else State.takeHeld g 64 (s.takeCmd g (cmd (some g)))
      else if d ≤ 64 then
        if x.held.any (fun c => c.tag == tag) then s
        else if 64 ≤ x.outstanding then s.rejectPacket src addr port p .busy []
        else s.onGroup g fun x => { x with held := x.held ++ [cmd (some g)] }
      else if d ≤ 32767 then s.rejectPacket src addr port p .order []
      else s.rejectPacket src addr port p .duplicate (x.duplicate tag (decide (src = .can)))
  else if decide (s.twin.role = .shadow) && !shadowExempt opcode gb then s.rejectPacket src addr port p .held []
  else
    let c := cmd none
    let c := { c with mirr := c.mirrored && s.mirrors }
    let s := if c.mirr then s.mirrorTaken src (u8 c.params 0) tag c.bytes else s
    s.onSource src.idx fun q => { q with waiting := q.waiting ++ [c] }

/-- Steps 1 to 3 of R276. -/
def packetOk (p : List Byte) (limit session : Nat) : Bool :=
  let n := u16 p 12
  decide (20 ≤ p.length) && decide (n ≤ limit) && decide (p.length = 20 + n) &&
  u32 p (16 + n) == crc32c (p.take (16 + n)) &&
  u8 p 0 == 1 && u16 p 14 == 0 && u8 p 7 == 0 && !bit (u8 p 1) 2 && !bit (u8 p 1) 3 && u32 p 8 == session

/-- The watchdogs of I1 and I2, paused in Idle, restart with their full timeouts (R496). -/
def State.idleWatch (s : State) : State := if s.pwr.state = .idle then s.wdtStart fun n => n == 1 || n == 2 else s

/-- A packet ends Idle and restarts T_IDLE1 and T_IDLE2 (R495 to R497). -/
def State.serviceActive (s : State) : State :=
  s.idleWatch.onPwr fun p => { p with state := if p.state = .idle then .run else p.state, idleSince := s.now, sleepSince := s.now }

/-- Idle ends (R496). -/
def State.endIdle (s : State) : State := if s.pwr.state = .idle then s.serviceActive else s

/-- The session slot with an ID. -/
def Commands.slotOf (c : Commands) (id : Nat) : Option (Fin 4) :=
  (List.finRange 4).find? fun k => match c.sessions.get k with
    | some x => x.id == id
    | none => false

/-- Does a session accept a sequence number (R280)? -/
def Session.seqOk (x : Session) (n : Nat) : Bool :=
  decide (x.top < n) || (decide (x.top ≤ n + 64) && decide (n < x.top) && decide (1 ≤ n) && !(x.seen.contains n))

/-- The session after it has accepted a packet (R280, R282). -/
def Session.took (x : Session) (n now : Nat) : Session :=
  let top := max x.top n
  let seen := (if x.top < n then x.top :: x.seen else n :: x.seen).filter fun m => decide (top ≤ m + 64) && decide (m < top)
  { x with top := top, seen := seen, lastAt := now }

/-- How long the service core takes for one packet, in µs: 20 000 packets/s, 5 000 on the HFO (R51, R278). -/
def State.packetTime (s : State) : Nat := if s.clk.onPll.get 2 then 50 else 200

/-- The packets in the receive buffer (R278; log entry 27). -/
def State.rxWaiting (s : State) : Nat := (s.cmd.rxUntil - s.now + s.packetTime - 1) / s.packetTime

/-- A packet enters the receive buffer. -/
def State.rxTake (s : State) : State := s.onCmd fun c => { c with rxUntil := max c.rxUntil s.now + s.packetTime }

def State.countAuthFail (s : State) : State := s.onCmd fun c => { c with authFail := satAdd 0xFFFF c.authFail 1 }

/-- Does a UDP payload match the session wrapper (R279)? -/
def wrapperOk (w : List Byte) : Bool :=
  decide (w.length ≤ 1472) && (if u32 w 0 = 0 then decide (12 ≤ w.length) && slice w 4 8 == zeros 8 else decide (28 ≤ w.length))

/-- Does the sealed part of a wrapper open to packet `p` under the session's K_hd, with its tag (R280)? -/
def Session.opens (x : Session) (w p : List Byte) : Bool := gcmSealed x.khd (w.take 12) (w.take 12) p == w.drop 12

/-- A UDP payload that matches the wrapper (R279 to R281): `p` is the packet that its sealed part holds, any other packet where it holds none. A
wrapper of SESSION_ID 0 holds its packet in clear, and only SESSION_OPEN. -/
def State.receiveUdp (s : State) (addr port : Nat) (w p : List Byte) : State :=
  if u32 w 0 = 0 then
    if !packetOk (w.drop 12) 1424 0 then s.countCrcFail
    else if u16 (w.drop 12) 2 = 0x0104 then s.admitPacket .clear addr port (w.drop 12)
    else s
  else
    match s.cmd.slotOf (u32 w 0) with
    | none => s.countAuthFail
    | some k =>
      match s.cmd.sessions.get k with
      | none => s
      | some x =>
        let seq := ofLe (slice w 4 8)
        if !x.opens w p || !x.seqOk seq then s.countAuthFail
        else
          let s := s.onCmd fun c => c.setSession k (some (x.took seq s.now))
          let s := if packetOk p 1424 x.id then s.admitPacket (.session k) addr port p else s.countCrcFail
          if seqMax ≤ seq then s.closeSession k 2 else s

/-- PACKET_RECEIVE (R276 to R285): over UDP, at a port of the Otcel. Other ports are dropped (R380); commands come to 39231 (R279), and what
comes to 39232 has no effect (DESIGN CHOICE, log entry 55). -/
def State.receivePacket (s : State) (via : Via) (p : List Byte) : State :=
  if !s.cmd.serving then s
  else if 256 ≤ s.rxWaiting then s.onCmd fun c => { c with rxOverflow := satAdd 0xFFFF c.rxOverflow 1 }
  else
    match via with
    | .can =>
      let s := s.rxTake.serviceActive
      if !s.cmd.canEn then s
      else
        let p := p.take (20 + u16 p 12)
        if packetOk p 44 0 then s.admitPacket .can 0 0 p else s.countCrcFail
    | .udp addr port to_ w =>
      if to_ = portCmd then (if wrapperOk w then s.rxTake.serviceActive.receiveUdp addr port w p else s)
      else if to_ = portNote then s.rxTake.serviceActive
      else s

def opPacketReceive (via : Via) (p : List Byte) (s : State) : State := s.receivePacket via p

/-- Steps 8 and 9 of R276 that do not depend on the opcode's own rules: the opcode, the transport, the ordering class, the
flags. -/
def Cmd.check (c : Cmd) : Option Status :=
  match opInfo c.opcode with
  | none => some .badOpcode
  | some i =>
    if (c.src = .can ∧ i.can = false) ∨ (c.opcode = 0x0104 ∧ c.src ≠ .clear) then some .badOpcode
    else if (i.ord = .group ∧ c.group = none) ∨ (i.ord = .ungrouped ∧ c.group ≠ none) then some .badParam
    else if (c.posted ∧ (i.p = false ∨ c.group = none)) ∨ (c.fence ∧ c.group = none) ∨ c.flags / 16 ≠ 0 then some .badParam
    else none

/-- Put a command into its place of execution. -/
def State.setExec (s : State) (c : Cmd) : State :=
  match c.group with
  | none => s.onSource c.src.idx fun q => { q with exec := some c }
  | some g => s.onGroup g fun x => { x with exec := some c }

/-- A SESSION_OPEN ends at step 8 or 9 of R276: refused in clear (R281). In a group its failure stalls the group like any other (R287). -/
def State.endOpen (s : State) (c : Cmd) (st : Status) : State :=
  let clear := { c with src := Src.clear, session := 0 }
  match c.group with
  | none => ((s.refuseOpen).onSource c.src.idx fun q => { q with exec := none }).replyEnd clear st []
  | some g => (((s.refuseOpen).onGroup g fun x => x.drop c.id).replyEnd clear st []).failGroup g c

/-- A command begins: it stands ready for its opcode's own step, unless steps 8 and 9 of R276 end it. -/
def State.startCmd (s : State) (c : Cmd) : State :=
  let c := { c with stage := .service }
  let s := s.setExec c
  match c.check with
  | none => s
  | some st => if c.opcode = 0x0104 ∧ c.src ≠ .can then s.endOpen c st else s.complete c st []

/-- A command is due to begin: on a paired lead it waits until the shadow has acknowledged BEGUN (R409). -/
def State.beginCmd (s : State) (c : Cmd) : State :=
  match c.mirrorGroup with
  | none => s.startCmd c
  | some g =>
    if s.mirrors then
      let f := s.frame
      let s := s.mirrorBegun g.1 c.tag
      s.setExec { c with stage := .taken, msn := s.twin.msn, begunAt := some f }
    else s.startCmd c

/-- Does step 2 of a handover keep commands from beginning (R418)? -/
def State.handoverHolds (s : State) : Bool :=
  match s.twin.handover with
  | none => false
  | some h => decide (s.twin.role = .lead) && decide (h.frame ≤ s.frame + 1)

/-- COMMAND_BEGIN (R276 steps 8 and 9, R286, R418): the next command of a group or of a source begins. -/
def opCommandBegin (r : CmdRef) (s : State) : State :=
  if !s.cmd.serving then s
  else
    match r with
    | .group g =>
      let x := s.group g
      match x.taken with
      | [] => s
      | c :: rest =>
        if x.causes.stalled || x.exec.isSome || (c.fence && !x.handed.isEmpty) || s.handoverHolds then s
        else (s.onGroup g fun x => { x with taken := rest }).beginCmd c
    | .ungrouped i =>
      let q := s.cmd.sources.get i
      match q.waiting with
      | [] => s
      | c :: rest =>
        if q.exec.isSome then s
        else (s.onSource i fun q => { q with waiting := rest }).beginCmd c

/-- Commands whose stage BEGUN the shadow has acknowledged begin (R409), and all that wait begin when mirroring has ended (R416). -/
def State.startAcked (s : State) : State :=
  let ready := fun (c : Cmd) => decide (c.stage = .taken) && (!s.mirrors || decide (c.msn ≤ s.twin.acked))
  let l := (allGroups.filterMap fun g => (s.group g).exec) ++ ((List.finRange 6).filterMap fun i => (s.cmd.sources.get i).exec)
  s.forEach (l.filter ready) fun c s => s.startCmd c

/-- SESSION_TIMEOUT (R282). -/
def opSessionTimeout (k : Fin 4) (s : State) : State :=
  match s.cmd.sessions.get k with
  | none => s
  | some x => if s.since x.lastAt < 60000000 then s else s.endIdle.closeSession k 1

/-- SESSION_CLOSE (R282, R296): after its reply. -/
def opSessionClose (r : CmdRef) (s : State) : State :=
  s.onCommand r 0x0105 fun q s =>
    if q.params.length ≠ 0 then s.complete q .badParam []
    else
      let s := s.complete q .ok []
      match q.src with
      | .session k => s.closeSession k 0
      | _ => s

/-- PING (R296). -/
def opPing (r : CmdRef) (s : State) : State :=
  s.onCommand r 0x0102 fun q s => if 1420 < q.params.length then s.complete q .badParam [] else s.complete q .ok q.params

/-- FENCE (R286, R296): it replies when every earlier command of its group has completed. -/
def opFenceCmd (r : CmdRef) (s : State) : State :=
  s.onCommand r 0x0E03 fun q s =>
    if q.params.length ≠ 0 then s.complete q .badParam []
    else
      match q.group with
      | none => s
      | some g => if (s.group g).handed.isEmpty then s.complete q .ok [] else s

/-- The group a GROUP_RESUME or GROUP_ABORT names, held by the command's source (R288). -/
def State.ownGroup (s : State) (q : Cmd) : Except Status Grp :=
  if h : u8 q.params 0 < 16 then
    let g : Grp := ⟨u8 q.params 0, h⟩
    if (s.group g).holder ≠ .src q.src then .error .denied
    else if (s.group g).causes.stalled then .ok g
    else .error .state
  else .error .badParam

/-- GROUP_RESUME (R288, R315). -/
def opGroupResume (r : CmdRef) (s : State) : State :=
  s.onCommand r 0x0E01 fun q s =>
    if q.params.length ≠ 4 ∨ zeroAt q.params [1, 2, 3] = false then s.complete q .badParam []
    else
      match s.ownGroup q with
      | .error st => s.complete q st []
      | .ok g =>
        let x := s.group g
        let has := fun (c : Cls) => s.flt.queue.any fun e => decide (e.cls = c)
        if (x.causes.clsS && (has .S || s.flt.forceSafe)) || (x.causes.clsD && has .D) then s.complete q .state []
        else
          let pend := x.failed.length + x.taken.length + x.held.length
          let far := s.farHeld g
          let again := x.failed.filter fun c => !far.contains c.id
          let s := s.onGroup g fun x => { x with causes := Causes.none, failed := [], taken := again ++ x.taken }
          let s := s.farResume g
          s.complete q .ok (le 1 g.1 ++ zeros 1 ++ le 2 x.fromTag ++ le 2 pend ++ zeros 2)

/-- One discarded command of GROUP_ABORT (R288). -/
def State.discard (s : State) (c : Cmd) : State :=
  if c.posted then s.lateError c .stalled 0 else s.replyEnd c .stalled []

/-- EXPECTED after GROUP_ABORT: one above the highest tag taken or held (R288). -/
def Group.afterAbort (g : Group) : Nat :=
  let ahead := (g.held.map fun c => (c.tag + 65536 - g.expected) % 65536 + 1).foldl max 0
  (g.expected + ahead) % 65536

/-- The group given up (R284): free, its stall and series cleared; what executes or stands at its target goes on (R288). -/
def Group.release (g : Group) : Group := { Group.reset with exec := g.exec, handed := g.handed }

/-- GROUP_ABORT (R284, R288). -/
def opGroupAbort (r : CmdRef) (s : State) : State :=
  s.onCommand r 0x0E02 fun q s =>
    if q.params.length ≠ 4 ∨ zeroAt q.params [2, 3] = false ∨ 1 < u8 q.params 1 then s.complete q .badParam []
    else
      match s.ownGroup q with
      | .error st => s.complete q st []
      | .ok g =>
        let x := s.group g
        let far := s.farHeld g
        let back := (x.handed ++ x.exec.toList).filter fun c => far.contains c.id
        let again := x.failed.filter fun c => !far.contains c.id
        let gone := again ++ back ++ x.taken ++ x.held
        let nxt := x.afterAbort
        let s := s.forEach gone fun c s => s.discard c
        let s := s.onGroup g fun x =>
          { x with causes := Causes.none, failed := [], taken := [], held := [], expected := nxt,
                   exec := x.exec.filter fun c => !far.contains c.id, handed := x.handed.filter fun c => !far.contains c.id }
        let s := s.farGone (fun h => decide (h = g)) (bit (u8 q.params 1) 0) false
        let s := if bit (u8 q.params 1) 0 then s.onGroup g fun x => x.release else s
        s.complete q .ok (le 1 g.1 ++ zeros 1 ++ le 2 gone.length ++ le 2 nxt ++ zeros 2)

/-- The command interface registers (R306), by offset from 0x2900_0000. -/
def State.readCmd (s : State) (off : Nat) : Nat :=
  let c := s.cmd
  if off = 0x00 then b2n c.canEn + 2 * c.canCh + 2 ^ 4 * b2n c.canIde + 2 ^ 5 * b2n c.canNoteEn
  else if off = 0x04 then c.canRxId
  else if off = 0x08 then c.canTxId
  else if off = 0x0C then c.canNoteId
  else if off = 0x10 then c.crcFail + 2 ^ 16 * c.authFail
  else if off = 0x14 then c.rxOverflow + 2 ^ 16 * c.noteLost
  else if h : 0x20 ≤ off ∧ off < 0x60 ∧ off % 4 = 0 then
    let x := c.groups.get ⟨(off - 0x20) / 4, by omega⟩
    let holder := match x.holder with
      | .free => 0
      | .src (.session k) => 1 + k.1
      | .src .can => 5
      | .src .clear => 0
      | .keyId _ => 6
    x.expected + 2 ^ 16 * x.outstanding + 2 ^ 23 * b2n x.causes.stalled + 2 ^ 24 * holder
  else if h : 0x60 ≤ off ∧ off < 0x70 ∧ off % 4 = 0 then
    match c.sessions.get ⟨(off - 0x60) / 4, by omega⟩ with
    | some x => x.id
    | none => 0
  else 0

/-- A write of a command interface register (R306). -/
def State.writeCmd (s : State) (off v : Nat) : Status × State :=
  match off with
  | 0x00 => (.ok, s.onCmd fun c => { c with canEn := bit v 0, canCh := bits v 1 3, canIde := bit v 4, canNoteEn := bit v 5 })
  | 0x04 => (.ok, s.onCmd fun c => { c with canRxId := bits v 0 29 })
  | 0x08 => (.ok, s.onCmd fun c => { c with canTxId := bits v 0 29 })
  | 0x0C => (.ok, s.onCmd fun c => { c with canNoteId := bits v 0 29 })
  | _ => (.ok, s)

/-- The notifications a group owes its holder, now that it can be reached (R320). -/
def State.payDue (s : State) (g : Grp) : State :=
  let l := (s.group g).due
  (s.onGroup g fun x => { x with due := [] }).forEach l fun n s => s.notifyHolder g n.1 n.2

/-- A group comes to a new session of its holder's key ID (R292): its commands answer there, and a posted command that a reset
interrupted is reported (R320). -/
def State.claimGroup (s : State) (g : Grp) (k : Fin 4) (id addr : Nat) : State :=
  let take := fun (c : Cmd) => { c with src := Src.session k, session := id, addr := addr }
  let s := s.onGroup g fun x =>
    { x with holder := .src (.session k), failed := x.failed.map take, taken := x.taken.map take, held := x.held.map take }
  s.payDue g

/-- The CAN source has its groups back as soon as the service core serves (R292). -/
def State.canGroups (s : State) : State :=
  s.forEach (allGroups.filter fun g => (s.group g).holder = .src .can) fun g s => s.payDue g

/-- Every group that awaits a key ID comes to the session (R292). -/
def State.claimGroups (s : State) (k : Fin 4) (x : Session) : State :=
  s.forEach (allGroups.filter fun g => (s.group g).holder = .keyId x.keyId) fun g s => s.claimGroup g k x.id x.addr

/-- What R320 makes of a command that a reset of the service core catches executing: its status, and whether it ends. -/
def Cmd.caught (c : Cmd) : Option Status :=
  match c.stage with
  | .core => some .state
  | .far => some .farTimeout
  | _ => none

/-- A group at a reset of the service core (R292, R320): commands not begun are lost, and EXPECTED returns to the oldest of them; a command in the
service core or on a far bus ends as failed, one at a target goes on there. The CAN source hears of the stall when the core serves (log entry 128). -/
def Group.caught (x : Group) (g : Grp) : Group :=
  let busy := x.exec.toList ++ x.handed
  let inCore := busy.filter fun c => c.caught.isSome
  let oldest := match x.exec.filter (fun c => c.stage == Stage.service || c.stage == Stage.taken) with
    | some c => some c.tag
    | none => (x.taken.head?).map fun c => c.tag
  let fl := busy.map fun c => (c.tag, (c.caught.getD .accepted).code)
  let y := inCore.foldl Group.addFailed
    { x with taken := [], held := [], cache := [], inflight := fl.filter fun y => some y.1 != oldest
             expected := oldest.getD x.expected
             exec := x.exec.filter fun c => c.stage == Stage.target
             handed := x.handed.filter fun c => c.stage == Stage.target
             causes := if (x.taken ++ x.held ++ busy).isEmpty then x.causes else x.causes.add 3 }
  let late := (inCore.filter fun c => c.posted).map fun c =>
    (0x0E80, le 1 g.1 ++ le 1 (c.caught.getD .state).code ++ le 2 c.tag ++ le 2 c.opcode ++ zeros 6)
  let stall := if x.holder = .src .can ∧ y.causes.reset = true ∧ x.causes.reset = false then [(0x0E82, stallBytes g y 3)] else []
  { y with due := x.due ++ late ++ stall }

/-- A reset of the service core as the command interface sees it (R282, R292, R320): sessions close with cause 3, each group is caught as it stands,
and every command that ends so is recorded. -/
def State.resetCommands (s : State) : State :=
  let s := s.forEach (List.finRange 4) fun k s => s.closeSession k 3
  let s := s.forEach allGroups fun g s =>
    let x := s.group g
    let ended := (x.exec.toList ++ x.handed).filter fun c => c.caught.isSome
    (s.onGroup g fun x => x.caught g).forEach ended fun c s => s.record 0xA130 2 g.1 c.tag c.opcode
  s.onCmd fun c =>
    { c with crcFail := 0, authFail := 0, rxOverflow := 0, noteLost := 0, load := none, serving := false, rxUntil := 0
             sources := c.sources.mapIdx fun _ _ => Source.reset }

/-! ## The meanings of the commands -/

/-- PACKET_RECEIVE (R276). -/
def execPacketReceive (via : Via) (p : List Byte) (s : State) : Host.Outcome State Fault Refusal :=
  .next (opPacketReceive via p s)

/-- COMMAND_BEGIN (R286). -/
def execCommandBegin (r : CmdRef) (s : State) : Host.Outcome State Fault Refusal := .next (opCommandBegin r s)

/-- SESSION_TIMEOUT (R282). -/
def execSessionTimeout (k : Fin 4) (s : State) : Host.Outcome State Fault Refusal := .next (opSessionTimeout k s)

/-- PING (R296). -/
def execPing (r : CmdRef) (s : State) : Host.Outcome State Fault Refusal := .next (opPing r s)

/-- SESSION_CLOSE (R282). -/
def execSessionClose (r : CmdRef) (s : State) : Host.Outcome State Fault Refusal := .next (opSessionClose r s)

/-- GROUP_RESUME (R315). -/
def execGroupResume (r : CmdRef) (s : State) : Host.Outcome State Fault Refusal := .next (opGroupResume r s)

/-- GROUP_ABORT (R288). -/
def execGroupAbort (r : CmdRef) (s : State) : Host.Outcome State Fault Refusal := .next (opGroupAbort r s)

/-- FENCE_CMD (R296). -/
def execFenceCmd (r : CmdRef) (s : State) : Host.Outcome State Fault Refusal := .next (opFenceCmd r s)

end Sys2Proof.Machine
end

