-- ==== Sys2Proof/Machine/NmOps.lean ====
section
/-! DEFINITION. The trim sources (R46, R47) and network management (R357 to R368): the channel states, own requests, wakes, the TC10
condition. -/

namespace Sys2Proof.Machine

open Sys2Proof

/-! ## Trim sources -/

/-- The first available source in the order of R46, by its TRIM_SRC number; 0 for none. -/
def State.bestSource (s : State) : Nat :=
  let a := s.clk.avail
  let k := s.ccfg
  if a.get 1 then 1
  else if k.syncInMode = 1 ∧ a.get 2 then 2
  else if k.syncInMode = 2 ∧ a.get 3 then 3
  else if k.canSyncEn ∧ k.canSyncCh < 6 ∧ 10 ≤ k.canSyncPeriod ∧ k.canSyncPeriod ≤ 1000 ∧ a.get 4 then 4
  else if k.gptpTrimEn ∧ s.clk.xoEver ∧ a.get 5 then 5
  else 0

/-- The trim loop passes to the first available source, or into holdover (R47). -/
def State.retrim (s : State) : State :=
  let n := s.bestSource
  let old := s.clk.trimSrc
  if n = old then s
  else (s.onClk fun k => { k with trimSrc := n, hfoTrimmed := false, trimAt := s.now, holdTemp := s.supply.baseTemp }).record 0xA040 0 old n 0

/-- A source becomes available or not. -/
def State.setSource (s : State) (i : Fin 6) (v : Bool) : State := (s.onClk fun k => { k with avail := k.avail.put i v }).retrim

/-- The active source gives the loop a measurement whose deviation no operand carries: HFO_DEV shows a free value (R46, R66; log entry 116). -/
def State.deviation (s : State) (i : Fin 6) : State :=
  if s.clk.trimSrc = i.1 then
    let (v, s) := s.draw
    s.onClk fun k => { k with hfoDev := signed 16 v }
  else s

/-- The windows of the XO and gPTP's sync messages of a frame (R46). -/
def State.frameDeviation (s : State) : State := (s.deviation 1).deviation 5

/-! ## NM registers -/

def NmCfg.enabled (k : NmCfg) (c : CanNo) : Bool := bit k.config c.1
def NmCfg.ide (k : NmCfg) : Bool := bit k.config 6
def NmCfg.weftReq (k : NmCfg) : Bool := bit k.config 7
def NmCfg.nodeId (k : NmCfg) : Nat := bits k.config 8 6
def NmCfg.ethSleep (k : NmCfg) (p : Fin 2) : Bool := bit k.config (16 + p.1)
def NmCfg.ethFwd (k : NmCfg) : Bool := bit k.config 18
def NmCfg.cycle (k : NmCfg) : Nat := bits k.timing1 0 16
def NmCfg.timeout (k : NmCfg) : Nat := bits k.timing1 16 16
def NmCfg.rptTime (k : NmCfg) : Nat := bits k.timing2 0 16
def NmCfg.tClear (k : NmCfg) : Nat := bits k.timing2 16 16
def NmCfg.falseWakeT (k : NmCfg) : Nat := bits k.timing3 0 16
def NmCfg.keepLimit (k : NmCfg) : Nat := bits k.timing3 16 16

/-- The selective-wake registers of a channel with SW_EN = 1 (R361, R364). -/
def NmCfg.selective (k : NmCfg) (c : CanNo) : Option SwCfg :=
  if h : c.1 < 2 then
    let w := k.sw.get ⟨c.1, h⟩
    if bit w.id 30 then some w else none
  else none

def allCan : List CanNo := List.finRange 6

def State.nmCh (s : State) (c : CanNo) : NmCh := s.nm.chans.get c

def State.onNmCh (s : State) (c : CanNo) (f : NmCh → NmCh) : State := s.onNm fun n => { n with chans := n.chans.upd c f }

/-- The channel number that records carry. -/
def canNum (c : CanNo) : Nat := c.1 + 1

/-! ## The controller -/

def CanCh.mode (x : CanCh) : Nat := bits x.ctrl 0 2
def CanCh.brsEn (x : CanCh) : Bool := bit x.ctrl 4
def CanCh.byBuffer (x : CanCh) : Bool := bit x.ctrl 5
def CanCh.default_ (x : CanCh) : Nat := bits x.ctrl 6 2
def CanCh.qWeft (x : CanCh) (q : Fin 2) : Bool := bit x.ctrl (8 + q.1)
def CanCh.tbWeft (x : CanCh) (b : Fin 5) : Bool := decide (b.1 < 3) && bit x.ctrl (10 + b.1)

/-- Does the controller run: MODE not 0, not in BUS_SLEEP, its domain on (R338, R357, R494)? -/
def State.canRuns (s : State) (c : CanNo) : Bool :=
  decide ((s.canCh c).mode ≠ 0) && decide ((s.nmCh c).state ≠ .busSleep) && s.pwr.domains.get 4 && s.pwr.islandUp.get 3

/-- The controller starts with bus integration (R338). -/
def CanCh.integrate (x : CanCh) : CanCh := { x with state := .out, integrating := decide (x.mode ≠ 0) }

/-- The controller stops. -/
def CanCh.stop (x : CanCh) : CanCh := { x with state := .out, integrating := false }

/-! ## States -/

/-- A change of state (R357, R359): READY restarts the NM timeout and what was heard; states that send begin a new cycle; BUS_SLEEP stops
the controller, and leaving it starts it. -/
def State.nmEnter (s : State) (c : CanNo) (st : NmState) : State :=
  let old := (s.nmCh c).state
  let now := s.now
  let s := s.onNmCh c fun x =>
    { x with
      state := st
      since := now
      timeoutAt := if st = .ready then now else x.timeoutAt
      heard := if st = .ready then [] else x.heard
      keeperSaid := if st = .ready then false else x.keeperSaid
      sentAt := if (st = .rpt ∨ st = .normal) ∧ old ≠ .rpt ∧ old ≠ .normal then none else x.sentAt
      activeWake := if st = .rpt ∨ st = .normal then x.activeWake else false
      errCount := if st = .clearing then 0 else x.errCount
      awakeSince := if old = .busSleep then now else x.awakeSince }
  if st = .busSleep then s.onCanCh c fun x => x.stop
  else if old = .busSleep then s.onCanCh c fun x => x.integrate
  else s

/-- Does a buffer of the channel that counts by R360 hold a frame? -/
def CanCh.pendingOwn (x : CanCh) : Bool := (List.finRange 5).any fun b => decide (b.1 < 4) && (x.tx.get b).frame.isSome

/-- An own request on a channel (R360, R439). -/
def State.ownRequest (s : State) (c : CanNo) : Bool :=
  let n := s.nmCh c
  let awake := decide (n.state = .rpt) || decide (n.state = .normal) || decide (n.state = .ready)
  n.host.isSome || (s.weft.running.isSome && s.nm.cfg.weftReq) || (s.acc.relOn && bits s.acc.rel.can 0 3 == c.1) ||
    (awake && (s.canCh c).pendingOwn)

/-- A wake during CLEARING (R361). -/
def State.wakeInClearing (s : State) (c : CanNo) (cause : Nat) (to_ : NmState) (why : Nat) : State :=
  let ms := s.since (s.nmCh c).since / 1000
  let s := s.onNm fun n => { n with wakeInClearing := true, clearingWakes := satAdd 0xFFFF n.clearingWakes 1 }
  ((s.nmEnter c to_).onNmCh c fun x => { x with cause := why }).record 0x4022 3 (canNum c) cause ms

/-- Bus activity that is no NM frame: it ends the clearing of a pattern-wake channel (R361). -/
def State.busActivity (s : State) (c : CanNo) : State :=
  if s.nm.cfg.enabled c && decide ((s.nmCh c).state = .clearing) && (s.nm.cfg.selective c).isNone then s.wakeInClearing c 2 .listen 1 else s

/-- An own request as the channel's state takes it (R357, R360). -/
def State.nmRequest (s : State) (c : CanNo) : State :=
  match (s.nmCh c).state with
  | .busSleep => ((s.nmEnter c .rpt).onNmCh c fun x => { x with activeWake := true, cause := 3 }).record 0x4021 3 (canNum c) 3 0
  | .listen => (s.nmEnter c .rpt).onNmCh c fun x => { x with activeWake := true }
  | .clearing => s.wakeInClearing c 3 .rpt 3
  | .ready => s.nmEnter c .normal
  | _ => s

/-- Judge one channel's own requests anew (R357, R360). -/
def State.nmJudge (s : State) (c : CanNo) : State :=
  if !s.nm.cfg.enabled c then s
  else
  let s := if (s.nmCh c).state = .off then s.nmEnter c .busSleep else s
  if s.ownRequest c then s.nmRequest c
  else if (s.nmCh c).state = .normal then s.nmEnter c .ready
  else s

/-- Is every NM channel in BUS_SLEEP (R362, R368)? -/
def State.nmAsleep (s : State) : Bool := allCan.all fun c => !s.nm.cfg.enabled c || decide ((s.nmCh c).state = .busSleep)

/-- The condition of R368 for sleep requests. -/
def State.tc10Ready (s : State) : Bool := s.nmAsleep && (List.finRange 4).all fun k => (s.cmd.sessions.get k).isNone

/-- A refused sleep request may be repeated once the condition has been false (R368). -/
def State.tc10Judge (s : State) : State :=
  if s.tc10Ready then s else s.onEth fun e => { e with ports := e.ports.mapIdx fun _ p => { p with asked := false } }

/-- Judge all channels anew. -/
def State.nmEval (s : State) : State := ((s.forEach allCan fun c s => s.nmJudge c).onNm fun n => { n with settled := true }).tc10Judge

/-- NET_ASLEEP (R362). -/
def State.netAsleep (s : State) : Bool :=
  s.nmAsleep && (List.finRange 2).all fun p =>
    let l := (s.eth.ports.get p).link
    if s.nm.cfg.ethSleep p then decide (l = .asleep) || decide (l = .down) else decide (l ≠ .up) && decide (l ≠ .requested)

/-- Is a frame an NM frame (R358)? -/
def State.isNm (s : State) (f : CanFrame) : Bool :=
  !f.rtr && decide (2 ≤ f.len) && f.ide == s.nm.cfg.ide && f.id / 64 * 64 == s.nm.cfg.baseId / 64 * 64

/-- A received NM frame (R357, R359, R361, R367). -/
def State.nmReceive (s : State) (c : CanNo) (f : CanFrame) : State :=
  if !s.nm.cfg.enabled c then s
  else
    let node := f.id % 64
    let now := s.now
    let s := s.onNmCh c fun x =>
      { x with timeoutAt := now, lastNode := node, heard := if x.heard.contains node then x.heard else x.heard ++ [node] }
    let rpt := bit (u8 f.data 1) 0
    match (s.nmCh c).state with
    | .clearing => s.wakeInClearing c 1 .ready 0
    | .listen => s.nmEnter c (if rpt then .rpt else .ready)
    | .ready | .normal => if rpt then s.nmEnter c .rpt else s
    | _ => s

/-- A port's link as ETH_STATE (R370). -/
def PortLink.num : PortLink → Nat
  | .up => 0 | .requested => 1 | .asleep => 2 | .down => 3

/-- NM_STATUS (R370): its read-only fields are 0 from a reset of I3 until the channels are judged anew (R6; log entry 51). -/
def State.nmStatus (s : State) : Nat :=
  (if s.nm.settled then
    ((allCan.map fun c => (s.nmCh c).state.num * 2 ^ (3 * c.1)).sum) +
      2 ^ 18 * b2n (allCan.any fun c => s.nm.cfg.enabled c && s.ownRequest c) + 2 ^ 19 * b2n s.netAsleep +
      2 ^ 20 * (s.eth.ports.get 0).link.num + 2 ^ 22 * (s.eth.ports.get 1).link.num
  else 0) + 2 ^ 24 * b2n s.nm.wakeInClearing +
    2 ^ 25 * b2n s.nm.falseWake + 2 ^ 26 * b2n s.nm.maxAwake + 2 ^ 27 * b2n s.nm.keeper + 2 ^ 28 * b2n s.nm.cfgReject

/-! ## A wake of the module -/

/-- A wake event in a sleeping state, or during the entry: it is latched for SLEEP_WAKE (R500, R503, R504). -/
def State.moduleWake (s : State) (source detail : Nat) : State :=
  if bit s.pwr.srcEn source && s.pwr.latched.isNone then s.onPwr fun p => { p with latched := some (source, detail) } else s

/-- Is the module in Sleep, or on its way there? -/
def State.asleep (s : State) : Bool := decide (s.pwr.state = .sleep) || s.pwr.entering

end Sys2Proof.Machine
end

