-- ==== Sys2Proof/Machine/CanRows.lean ====
section
/-! DEFINITION. The CAN controllers (spec/12): reception and filtering, transmission, error confinement, the weft's requests, the CAN
commands and registers. -/

namespace Sys2Proof.Machine

open Sys2Proof

/-! ## Configuration -/

def CanCh.nbrp (x : CanCh) : Nat := bits x.nbt 0 8 + 1

/-- The conditions of R335: 125 kbit/s to 1 Mbit/s is 320 to 40 units, 8 Mbit/s is 5. -/
def timingOk (nbt dbt : Nat) : Bool :=
  let n := nominalQuanta nbt
  let d := dataQuanta dbt
  decide (2 ≤ bits nbt 8 8 + 1) && decide (2 ≤ bits nbt 16 7 + 1) && decide (bits nbt 24 7 ≤ bits nbt 16 7) &&
    decide (bits dbt 24 4 ≤ bits dbt 16 4) && decide (40 ≤ n) && decide (n ≤ 320) && decide (5 ≤ d) && decide (d ≤ n)

/-- NBT, DBT, TDC and CAN_CTRL without their reserved bits (R355). -/
def nbtMask (v : Nat) : Nat := v &&& 0x7F7FFFFF
def dbtMask (v : Nat) : Nat := v &&& 0x0F0F1F1F
def tdcMask (v : Nat) : Nat := v &&& 0x00007F01
def ctrlMask (v : Nat) : Nat := v &&& 0x1FFF

/-! ## Replies and the end of buffers -/

/-- The layout of a CAN_SEND reply (R354). -/
def canReply (c : CanNo) (b : Fin 5) (cause attempts tick : Nat) : List Byte :=
  le 1 (canNum c) ++ le 1 b.1 ++ le 1 cause ++ zeros 1 ++ le 2 (min attempts 0xFFFF) ++ zeros 2 ++ le 8 tick

/-- A buffer with nothing pending; its IDCLASH, and the record owed for it, stay. -/
def TxBuf.empty (y : TxBuf) : TxBuf :=
  { y with frame := none, next := none, cmd := none, clash := 0, abort := false }

/-- TBS takes the next of the Otcel's own frames (log entry 30). -/
def CanCh.refill (x : CanCh) (now : Nat) : CanCh :=
  if (x.tx.get 3).frame.isSome then x
  else
    match x.waiting.dropWhile fun f => !x.loadable f with
    | f :: rest => { x with waiting := rest, tx := x.tx.upd 3 fun y => y.load f now }
    | [] => { x with waiting := [] }

/-- A buffer is emptied before its frame was sent (R348, R349). -/
def State.emptyBuf (s : State) (c : CanNo) (b : Fin 5) (cause : Nat) : State :=
  let y := (s.canCh c).tx.get b
  match y.frame with
  | none => s
  | some _ =>
    let s := s.onCanCh c fun x => CanCh.refill { x with tx := x.tx.upd b TxBuf.empty } s.now
    match y.cmd with
    | none => s
    | some id => s.completeId id .state (canReply c b cause y.attempts 0) cause

/-! ## Receiving -/

def Filter.action (x : Filter) : Nat := bits x.id 30 2

/-- Does a pair match a frame (R340)? -/
def Filter.hits (x : Filter) (f : CanFrame) : Bool :=
  decide (x.action ≠ 0) && bit x.id 29 == f.ide &&
    ((f.id ^^^ x.id) &&& x.mask) % 2 ^ (if f.ide then 29 else 11) == 0

/-- The first pair that matches (R340). -/
def CanCh.pair (x : CanCh) (f : CanFrame) : Option (Fin 32) := (List.finRange 32).find? fun k => (x.filters.get k).hits f

/-- Is a count of drops due for its record: its second, opened by the first of them, is over (R342, R382)? -/
def State.dropsDue (s : State) (n : Nat) (from_ : Option Nat) : Bool :=
  decide (n ≠ 0) && match from_ with
    | none => true
    | some t => decide (1000000 ≤ s.since t)

/-- The frames a queue has dropped in a second, once it is over (R342). -/
def State.reportDrops (s : State) (c : CanNo) (q : Fin 2) : State :=
  let k := (s.canCh c).q.get q
  if s.dropsDue k.dropsInSec k.dropAt then
    (s.onCanCh c fun x => { x with q := x.q.upd q fun k => { k with dropsInSec := 0 } }).record 0x4006 3 (2 * canNum c + q.1) k.dropsInSec 0
  else s

/-- A frame that finds its queue full (R342). -/
def CanQueue.lose (k : CanQueue) (now : Nat) : CanQueue :=
  { k with drop := satAdd 0xFFFF k.drop 1, ovf := true, dropsInSec := k.dropsInSec + 1, dropAt := if k.dropsInSec = 0 then some now else k.dropAt }

/-- A frame goes to a queue, or is dropped (R342). -/
def State.toQueue (s : State) (c : CanNo) (q : Fin 2) (f : CanFrame) (tick sub pair : Nat) : State :=
  let k := (s.canCh c).q.get q
  if k.items.length < 48 then
    let i : CanItem := { frame := f, tick := tick, sub := sub, pair := pair, seq := k.seq }
    s.onCanCh c fun x => { x with q := x.q.upd q fun k => { k with items := k.items ++ [i], seq := (k.seq + 1) % 256 } }
  else
    (s.reportDrops c q).onCanCh c fun x => { x with q := x.q.upd q fun k => k.lose s.now }

/-- The frames a tunnel has dropped in a second, once it is over (R382). -/
def State.reportTunDrops (s : State) (c : CanNo) : State :=
  let k := s.eth.tun.get c
  if s.dropsDue k.dropsInSec k.dropAt then
    (s.onEth fun e => { e with tun := e.tun.upd c fun k => { k with dropsInSec := 0 } }).record 0x5030 3 (canNum c) k.dropsInSec 0
  else s

/-- A frame is handed to its channel's tunnel (R381, R382). -/
def State.tunnelIn (s : State) (c : CanNo) (f : CanFrame) (tick sub : Nat) : State :=
  let k := s.eth.tun.get c
  if !bit k.ctrl 0 || !s.clk.onPll.get 3 then s
  else if k.frames.length < 64 then
    s.onEth fun e => { e with tun := e.tun.upd c fun k =>
      { k with frames := k.frames ++ [{ frame := f, tick := tick, sub := sub, at_ := s.now }] } }
  else
    (s.reportTunDrops c).onEth fun e => { e with tun := e.tun.upd c fun k =>
      { k with drop := satAdd 0xFFFF k.drop 1, dropsInSec := k.dropsInSec + 1, dropAt := if k.dropsInSec = 0 then some s.now else k.dropAt } }

/-- The filters decide a frame's fate (R340); the tunnel takes what its pair accepts (R381). -/
def State.filterFrame (s : State) (c : CanNo) (f : CanFrame) (tick sub : Nat) : State :=
  let x := s.canCh c
  match x.pair f with
  | some k =>
    let y := x.filters.get k
    let s := match y.action with
      | 1 => s.toQueue c 0 f tick sub k.1
      | 2 => s.toQueue c 1 f tick sub k.1
      | _ => s
    if bit y.mask 29 && decide (y.action ≠ 3) then s.tunnelIn c f tick sub else s
  | none =>
    match x.default_ with
    | 1 => s.toQueue c 0 f tick sub 0xFF
    | 2 => s.toQueue c 1 f tick sub 0xFF
    | _ => s

/-- Does R283 take a frame as a command? A classical or remote frame it does not. -/
def State.isCommand (s : State) (c : CanNo) (f : CanFrame) : Bool :=
  s.cmd.canEn && f.fdf && decide (s.cmd.channel = some c) && f.ide == s.cmd.canIde &&
    f.id == (if s.cmd.canIde then s.cmd.canRxId else s.cmd.canRxId % 2048)

/-- A sync frame gives the trim loop an interval of start-of-frame stamps (R46, R341); one outside ±1 % is discarded. -/
def State.canSync (s : State) (c : CanNo) (f : CanFrame) (at_ : Nat) : State :=
  let k := s.ccfg
  if k.canSyncEn && k.canSyncCh == c.1 && f.ide == k.canSyncIde &&
     f.id == (if k.canSyncIde then k.canSyncId else k.canSyncId % 2048) && decide (10 ≤ k.canSyncPeriod) && decide (k.canSyncPeriod ≤ 1000) then
    let p := 1000 * k.canSyncPeriod
    let good := match s.clk.edgeAt.get 4 with
      | none => false
      | some t => decide (99 * p ≤ 100 * (at_ - t)) && decide (100 * (at_ - t) ≤ 101 * p)
    let s := s.onClk fun k => { k with edgeAt := k.edgeAt.put 4 (some at_), validAt := if good then k.validAt.put 4 s.now else k.validAt }
    if good then (s.setSource 4 true).deviation 4 else s
  else s

/-- REC after a frame received without error (R339, ISO 11898-1): 119 to 127, a free value, from above 127. -/
def State.recDown (s : State) (c : CanNo) : State :=
  let x := s.canCh c
  if 128 ≤ x.rec_ then
    let (v, s) := s.draw
    s.onCanCh c fun x => { x with rec_ := 119 + v % 9 }
  else s.onCanCh c fun x => { x with rec_ := x.rec_ - 1 }

/-- The arbitration field as a number: the lower wins. -/
def CanFrame.arb (f : CanFrame) : Nat :=
  if f.ide then f.id / 2 ^ 18 % 2 ^ 11 * 2 ^ 21 + 2 ^ 20 + 2 ^ 19 + f.id % 2 ^ 18 * 2 + b2n f.rtr
  else f.id % 2 ^ 11 * 2 ^ 21 + 2 ^ 20 * b2n f.rtr

/-- The buffers that compete, loaded by an instant (R346); TBR only while the release gate is open (R326). -/
def State.competing (s : State) (c : CanNo) (by_ : Nat) : List (Fin 5) :=
  (List.finRange 5).filter fun b =>
    (match ((s.canCh c).tx.get b).frame with
      | some (_, t) => decide (t ≤ by_)
      | none => false) && (decide (b.1 < 4) || !s.flt.gate.closed)

/-- The order of TX_ORDER = 1 (R346). -/
def orderPlace (b : Fin 5) : Nat := if b.1 = 4 then 0 else if b.1 = 3 then 1 else b.1 + 2

/-- The key by which the pending buffer that goes first is chosen (R346). -/
def CanCh.txKey (x : CanCh) (b : Fin 5) : Nat :=
  if x.byBuffer then orderPlace b
  else match (x.tx.get b).frame with
    | some (f, _) => 8 * f.arb + b.1
    | none => 8 * 2 ^ 33

/-- May buffer `b` be the one that was sent, with its start of frame at an instant (R346)? -/
def State.goesFirst (s : State) (c : CanNo) (b : Fin 5) (sof : Nat) : Bool :=
  let l := s.competing c sof
  l.contains b && l.all fun a => decide ((s.canCh c).txKey b ≤ (s.canCh c).txKey a)

/-- May the channel send (R338, R360)? -/
def State.maySend (s : State) (c : CanNo) : Bool :=
  let x := s.canCh c
  s.canRuns c && decide (x.mode = 1) && !x.integrating && (decide (x.state = .active) || decide (x.state = .passive)) &&
    decide ((s.nmCh c).state ≠ .clearing)

/-- Was buffer `b` the one in an attempt whose start of frame lay at an instant? -/
def State.attempting (s : State) (c : CanNo) (b : Fin 5) (sof : Nat) : Bool := s.maySend c && s.goesFirst c b sof

/-- Replacements that stood before an instant have taken their buffers (R352). -/
def CanCh.promote (x : CanCh) (sof : Nat) : CanCh :=
  { x with tx := x.tx.mapIdx fun _ y => match y.next with
    | some (g, t) => if t ≤ sof then y.load g t else y
    | none => y }

/-- An attempt of a buffer ends without success (R348, R350): the count, the abort that waited, a weft's replacement. The count that a
replacement zeroed when it was loaded takes the error of the old frame's attempt. -/
def State.attemptFailed (s : State) (c : CanNo) (b : Fin 5) (clash : Bool) : State :=
  let y := (s.canCh c).tx.get b
  match y.frame with
  | none => s
  | some (f, _) =>
    let n := if clash then min 63 (y.clash + 1) else 0
    let due := if clash && decide (n = 16) && !y.idClash then some (f.id + 2 ^ 31 * b2n f.ide, n) else y.due
    let s := s.onCanCh c fun x => { x with tx := x.tx.upd b fun y =>
      { y with attempts := y.attempts + 1, clash := n, due := due,
               frame := if y.next.isSome then y.next else y.frame, next := none } }
    if y.abort then s.emptyBuf c b 0 else s

/-- CAN_FRAME_RECEIVE (R340 to R344): a valid frame of another node whose start of frame lay `ago` µs back, at a sub-tick; `lost` is the
own buffer that lost arbitration to it, if it was the one that competed. -/
def opCanFrameReceive (c : CanNo) (f : CanFrame) (ago sub : Nat) (lost : Option (Fin 5)) (s : State) : State :=
  let x := s.canCh c
  if !s.canRuns c || x.integrating || (decide (x.state ≠ .active) && decide (x.state ≠ .passive)) || (f.fdf && !x.fdEn) then s
  else
    let s := match lost with
      | some b =>
        let t := s.onCanCh c fun x => x.promote (s.now - ago)
        if t.attempting c b (s.now - ago) then t.attemptFailed c b false else s
      | none => s
    let s := s.recDown c
    let nm := s.isNm f && !s.isCommand c f
    let s := if s.isCommand c f then s.receivePacket .can f.data
      else
        let s := s.canSync c f (s.now - ago)
        let s := if nm then s.nmReceive c f else s
        s.filterFrame c f (s.warp - ago) sub
    if nm then s.nmJudge c else s.busActivity c

/-! ## Errors -/

/-- The SEEN bits and ERR_LAST (R355). -/
def CanCh.noteError (x : CanCh) (kind : Nat) (inData asTx : Bool) (tick : Nat) : CanCh :=
  let m : Nat := 2 ^ (kind - 1) + (if inData then 32 else 0)
  { x with seen := x.seen ||| BitVec.ofNat 6 m, errLast := { kind := kind, inData := inData, asTx := asTx, tick := tick % 2 ^ 24 } }

/-- CAN_ERROR (R336, R339, R350): an error of kind 1 to 5, in the data phase of a frame with BRS or not, in an attempt of a buffer whose start
of frame lay `ago` µs back, or as receiver; `dataField` tells that it fell in the data field, `heavy` that ISO 11898-1 raises the counter by 8;
`tdcv` is the loop delay where an FD frame's attempt came to the FDF bit. -/
def opCanError (c : CanNo) (kind : Fin 5) (inData : Bool) (buf : Option (Fin 5)) (dataField heavy : Bool) (ago : Nat) (tdcv : Option Nat) (s : State) : State :=
  let x := s.canCh c
  if !s.canRuns c || x.integrating || (decide (x.state ≠ .active) && decide (x.state ≠ .passive)) then s
  else
    match buf with
    | none =>
      (s.onCanCh c fun x =>
        let x := x.noteError (kind.1 + 1) inData false s.warp
        if x.mode = 2 then x.integrate else { x with rec_ := min 255 (x.rec_ + if heavy then 8 else 1) }).busActivity c
    | some b =>
      let t := s.onCanCh c fun x => x.promote (s.now - ago)
      if !t.attempting c b (s.now - ago) then s
      else
        let fd := match ((t.canCh c).tx.get b).frame with
          | some (f, _) => f.fdf
          | none => false
        ((t.onCanCh c fun x =>
          { x.noteError (kind.1 + 1) inData true s.warp with
            tec := x.tec + (if heavy then 8 else 0)
            tdcv := if fd then (tdcv.map (· % 128)).getD x.tdcv else x.tdcv }).attemptFailed c b (decide (kind.1 = 0) && dataField)).busActivity c

/-- PROTOCOL_EXCEPTION (R338). -/
def opProtocolException (c : CanNo) (s : State) : State :=
  let x := s.canCh c
  if !s.canRuns c || x.fdEn || x.integrating || decide (x.state = .busOff) then s
  else (s.onCanCh c fun x => { x.integrate with pexSeen := true, pexCount := satAdd 0xFFFF x.pexCount 1 }).busActivity c

/-- ERROR_PASSIVE (R339). -/
def opErrorPassive (c : CanNo) (s : State) : State :=
  let x := s.canCh c
  if x.state = .active ∧ (128 ≤ x.tec ∨ 128 ≤ x.rec_) then
    (s.onCanCh c fun x => { x with state := .passive, passiveSeen := true }).fault .B 3 0x4001 (canNum c) x.tec x.rec_
  else s

/-- ERROR_ACTIVE (R339). -/
def opErrorActive (c : CanNo) (s : State) : State :=
  let x := s.canCh c
  if x.state = .passive ∧ x.tec < 128 ∧ x.rec_ < 128 then
    (s.onCanCh c fun x => { x with state := .active }).record 0x4002 3 (canNum c) x.tec x.rec_
  else s

/-- ERR_LAST as a word (R355). -/
def ErrLast.word (e : ErrLast) : Nat := e.kind + 8 * b2n e.inData + 16 * b2n e.asTx + 256 * e.tick

/-- BUS_OFF (R339). -/
def opBusOff (c : CanNo) (s : State) : State :=
  let x := s.canCh c
  if (x.state = .active ∨ x.state = .passive) ∧ 256 ≤ x.tec then
    let n := satAdd 0xFFFF x.busoffCount 1
    let s := s.onCanCh c fun x => { x with state := .busOff, busoffSeen := true, busoffCount := n, busoffAt := s.now }
    s.fault .B 3 0x4003 (canNum c) n x.errLast.word
  else s

/-- The nominal bit time in ns. -/
def CanCh.bitNs (x : CanCh) : Nat := 25 * nominalQuanta x.nbt

/-- BUS_RECOVERED (R339): not before 128 × 11 bit times of bus-off. -/
def opBusRecovered (c : CanNo) (s : State) : State :=
  let x := s.canCh c
  if x.state = .busOff ∧ s.canRuns c = true ∧ 1408 * x.bitNs ≤ 1000 * s.since x.busoffAt then
    (s.onCanCh c fun x => { x with state := .active, tec := 0, rec_ := 0 }).record 0x4004 3 (canNum c)
      (min 0xFFFFFFFF (s.since x.busoffAt)) 0
  else s

/-- BUS_INTEGRATED (R338). -/
def opBusIntegrated (c : CanNo) (s : State) : State :=
  let x := s.canCh c
  if s.canRuns c = true ∧ x.integrating = true then
    s.onCanCh c fun x =>
      { x with integrating := false, state := if 128 ≤ x.tec ∨ 128 ≤ x.rec_ then .passive else .active }
  else s

/-- IDCLASH (R350). -/
def opIdclash (c : CanNo) (b : Fin 5) (s : State) : State :=
  let y := (s.canCh c).tx.get b
  match y.due with
  | some (id, n) => (s.onCanCh c fun x => { x with tx := x.tx.upd b fun y => { y with due := none, idClash := true } }).fault .B 3 0x4005 (8 * canNum c + b.1) id n
  | none => s

/-! ## Sending -/

/-- CAN_TX_COMPLETE (R336, R344, R346 to R350): the frame of a buffer has been sent, its start of frame `ago` µs back; `tdcv` is the loop
delay measured in an FD frame. -/
def opCanTxComplete (c : CanNo) (b : Fin 5) (ago tdcv : Nat) (s : State) : State :=
  let s := s.onCanCh c fun x => x.promote (s.now - ago)
  let x := s.canCh c
  let y := x.tx.get b
  match y.frame with
  | none => s
  | some (f, _) =>
    if !s.attempting c b (s.now - ago) then s
    else
      let wish := f.brs && x.brsEn
      let sup := f.fdf && !s.clk.refXo && !s.clk.hfoTrimmed
      let s := s.send (.can c f.id f.ide f.rtr f.fdf (wish && !sup) (f.fdf && decide (x.state = .passive)) f.dlc f.data)
      let now := s.now
      let s := s.onCanCh c fun x =>
        { x with
          tec := x.tec - 1
          tdcv := if f.fdf then tdcv % 128 else x.tdcv
          brsSup := if sup then satAdd 0xFFFF x.brsSup 1 else x.brsSup
          tx := x.tx.upd b fun y => match y.next with
            | some g => { y.empty with frame := some g, attempts := 0 }
            | none => y.empty }
      let s := s.onCanCh c fun x => x.refill now
      let s := if s.isNm f then s.onNmCh c fun n => { n with timeoutAt := now } else s
      let s := match y.cmd with
        | none => s
        | some id => s.completeId id .ok (canReply c b 0xFF (y.attempts + 1) (s.warp - ago))
      s.nmJudge c

/-- CAN_ABORT (R348, R349): an ABORT bit written empties its buffer. -/
def opCanAbort (c : CanNo) (b : Fin 3) (s : State) : State :=
  let b : Fin 5 := ⟨b.1, by omega⟩
  if ((s.canCh c).tx.get b).abort then (s.emptyBuf c b 0).nmJudge c else s

/-! ## Registers -/

/-- CAN_STATUS, ERR_COUNT and the rest as words (R355). -/
def CanCh.status (x : CanCh) : Nat :=
  x.state.num + 4 * x.seen.toNat + 2 ^ 8 * min 255 x.tec + 2 ^ 16 * min 255 x.rec_ + 2 ^ 24 * b2n x.passiveSeen + 2 ^ 25 * b2n x.busoffSeen +
    2 ^ 26 * b2n (x.q.get 0).ovf + 2 ^ 27 * b2n (x.q.get 1).ovf + 2 ^ 28 * b2n x.pexSeen + 2 ^ 29 * b2n x.cfgReject + 2 ^ 30 * b2n x.cfgDenied

def CanCh.pending (x : CanCh) : Nat := x.tx.mask fun y => y.frame.isSome

def CanCh.word (x : CanCh) (off : Nat) : Nat :=
  match off with
  | 0x00 => x.ctrl
  | 0x04 => x.nbt
  | 0x08 => x.dbt
  | 0x0C => x.tdc + 2 ^ 16 * x.tdcv
  | 0x10 => x.status
  | 0x14 => x.busoffCount + 2 ^ 16 * x.pexCount
  | 0x18 => (x.q.get 0).items.length + 2 ^ 8 * (x.q.get 1).items.length + 2 ^ 16 * x.brsSup
  | 0x1C => (x.q.get 0).drop + 2 ^ 16 * (x.q.get 1).drop
  | 0x20 => x.pending + 2 ^ 8 * x.tx.mask fun y => y.idClash
  | 0x24 => x.tx.sum fun b y => y.clash * 2 ^ (6 * b.1)
  | 0x28 => x.errLast.word
  | _ =>
    if h : 0x100 ≤ off ∧ off < 0x200 ∧ off % 4 = 0 then
      let k := x.filters.get ⟨(off - 0x100) / 8, by omega⟩
      if off % 8 = 0 then k.id else k.mask
    else 0

/-- Would a change of CAN_CTRL move an assignment while a weft runs (R351)? -/
def State.assignMoves (s : State) (c : CanNo) (v : Nat) : Bool :=
  s.weft.running.isSome && decide (bits v 8 5 ≠ bits (s.canCh c).ctrl 8 5)

/-- CAN_CTRL takes a value (R338, R348): a change of MODE from 0 integrates, one to 0, 2 or 3 empties the host's buffers. -/
def State.setCtrl (s : State) (c : CanNo) (v : Nat) : State :=
  let x := s.canCh c
  let old := x.mode
  let new := bits v 0 2
  let s := s.onCanCh c fun x => { x with ctrl := ctrlMask v }
  if old = new then s
  else
    let s := if new = 1 then s
      else s.forEach ((List.finRange 5).filter fun b => decide (b.1 < 3) && !x.tbWeft b) fun b s => s.emptyBuf c b 1
    if new = 0 then s.onCanCh c CanCh.stop
    else if old = 0 ∧ s.canRuns c = true then s.onCanCh c CanCh.integrate
    else s

/-- A write to a filter word. -/
def CanCh.setFilter (x : CanCh) (k : Fin 32) (id : Bool) (v : Nat) : CanCh :=
  { x with filters := x.filters.upd k fun f => if id then { f with id := v } else { f with mask := v &&& 0x3FFFFFFF } }

/-- A write of a channel's block (R355). -/
def State.writeCanCh (s : State) (c : CanNo) (off v : Nat) : Status × State :=
  let x := s.canCh c
  let reject := fun (s : State) => s.onCanCh c fun x => { x with cfgReject := true }
  match off with
  | 0x00 =>
    if s.assignMoves c v then (.denied, s.onCanCh c fun x => { x with cfgDenied := true })
    else (.ok, (s.setCtrl c v).nmJudge c)
  | 0x04 =>
    if x.mode ≠ 0 then (.state, reject s)
    else if timingOk (nbtMask v) x.dbt then (.ok, s.onCanCh c fun x => { x with nbt := nbtMask v })
    else (.badParam, reject s)
  | 0x08 =>
    if x.mode ≠ 0 then (.state, reject s)
    else if timingOk x.nbt (dbtMask v) then (.ok, s.onCanCh c fun x => { x with dbt := dbtMask v })
    else (.badParam, reject s)
  | 0x0C => if x.mode ≠ 0 then (.state, reject s) else (.ok, s.onCanCh c fun x => { x with tdc := tdcMask v })
  | 0x10 =>
    (.ok, s.onCanCh c fun x =>
      { x with
        seen := x.seen &&& BitVec.ofNat 6 (63 - bits v 2 6)
        passiveSeen := x.passiveSeen && !bit v 24
        busoffSeen := x.busoffSeen && !bit v 25
        q := x.q.mapIdx fun i k => { k with ovf := k.ovf && !bit v (26 + i.1) }
        pexSeen := x.pexSeen && !bit v 28
        cfgReject := x.cfgReject && !bit v 29
        cfgDenied := x.cfgDenied && !bit v 30 })
  | 0x20 =>
    (.ok, s.onCanCh c fun x =>
      { x with tx := x.tx.mapIdx fun b y =>
        { y with idClash := y.idClash && !bit v (8 + b.1), abort := y.abort || (decide (b.1 < 3) && bit v (16 + b.1) && y.frame.isSome) } })
  | _ =>
    if h : 0x100 ≤ off ∧ off < 0x200 ∧ off % 4 = 0 then
      (.ok, s.onCanCh c fun x => x.setFilter ⟨(off - 0x100) / 8, by omega⟩ (decide (off % 8 = 0)) v)
    else (.ok, s)

/-! ## Commands -/

/-- A channel number 1 to 6 of a command or a request. -/
def canOfNum (n : Nat) : Option CanNo := if h : 1 ≤ n ∧ n ≤ 6 then some ⟨n - 1, by omega⟩ else none

/-- CAN_CONFIG (R351, R354). -/
def opCanConfig (r : CmdRef) (s : State) : State :=
  s.onCommand r 0x0501 fun q s =>
    let p := q.params
    match canOfNum (u8 p 0) with
    | none => s.complete q .badParam []
    | some c =>
      let x := s.canCh c
      let ctrl := ctrlMask (u32 p 4)
      let nbt := nbtMask (u32 p 8)
      let dbt := dbtMask (u32 p 12)
      let tdc := tdcMask (u32 p 16)
      if p.length ≠ 20 ∨ zeroAt p [1, 2, 3] = false ∨ timingOk nbt dbt = false then s.complete q .badParam []
      else if s.assignMoves c ctrl then (s.onCanCh c fun x => { x with cfgDenied := true }).complete q .denied []
      else if x.mode ≠ 0 ∧ (nbt ≠ x.nbt ∨ dbt ≠ x.dbt ∨ tdc ≠ x.tdc ∨ bits ctrl 2 2 ≠ bits x.ctrl 2 2) then s.complete q .state []
      else
        let s := s.onCanCh c fun x => { x with nbt := nbt, dbt := dbt, tdc := tdc }
        let s := (s.setCtrl c ctrl).nmJudge c
        let x := s.canCh c
        s.complete q .ok (p.take 4 ++ le 4 x.ctrl ++ le 4 x.nbt ++ le 4 x.dbt ++ le 4 (x.word 0x0C))

/-- CAN_FILTER (R340, R354). -/
def opCanFilter (r : CmdRef) (s : State) : State :=
  s.onCommand r 0x0502 fun q s =>
    let p := q.params
    match canOfNum (u8 p 0) with
    | none => s.complete q .badParam []
    | some c =>
      let first := u8 p 1
      let n := u8 p 2
      if p.length ≠ 4 + 8 * n ∨ u8 p 3 ≠ 0 ∨ n < 1 ∨ 32 < n ∨ 32 < first + n ∨ (q.src = .can ∧ 4 < n) then s.complete q .badParam []
      else
        let mine := (List.finRange 32).filter fun k => decide (first ≤ k.1) && decide (k.1 < first + n)
        let s := s.onCanCh c fun x => mine.foldl (fun x k =>
          let i := 4 + 8 * (k.1 - first)
          (x.setFilter k true (u32 p i)).setFilter k false (u32 p (i + 4))) x
        s.complete q .ok (p.take 4 ++ mine.flatMap fun k => le 4 ((s.canCh c).filters.get k).id ++ le 4 ((s.canCh c).filters.get k).mask)

/-- CAN_SEND (R346, R347, R349): refused with STATE its CAUSE, which R349 gives to emptied buffers alone, is a free value (log entry 132). -/
def opCanSend (r : CmdRef) (s : State) : State :=
  s.onCommand r 0x0503 fun q s =>
    let p := q.params
    let fl := u8 p 2
    let len := u8 p 3
    let rtr := bit fl 1
    let ide := bit fl 0
    match canOfNum (u8 p 0) with
    | none => s.complete q .badParam []
    | some c =>
      if h : u8 p 1 < 3 then
        let b : Fin 5 := ⟨u8 p 1, by omega⟩
        let f := CanFrame.own (u32 p 4) ide rtr (bit fl 2) (bit fl 3) len (if rtr then [] else slice p 8 len)
        let x := s.canCh c
        if 15 < fl ∨ p.length ≠ 8 + f.data.length ∨ (rtr = false ∧ f.data.length ≠ len) ∨ (if ide then 2 ^ 29 else 2 ^ 11) ≤ f.id ∨
           (q.src = .can ∧ 44 < p.length) then s.complete q .badParam []
        else if x.tbWeft b then s.complete q .denied []
        else if x.mode ≠ 1 ∨ (x.tx.get b).frame.isSome = true then
          let (v, s) := s.draw
          s.complete q .state (canReply c b (v % 256) 0 0)
        else if !x.loadable f then s.complete q .badParam []
        else
          let s := s.onCanCh c fun x => { x with tx := x.tx.upd b fun y => { y.load f s.now with cmd := some q.id } }
          (s.handOver q .target).nmJudge c
      else s.complete q .badParam []

/-- CAN_STATUS (R354). -/
def opCanStatus (r : CmdRef) (s : State) : State :=
  s.onCommand r 0x0504 fun q s =>
    let p := q.params
    match canOfNum (u8 p 0) with
    | none => s.complete q .badParam []
    | some c =>
      if p.length ≠ 4 ∨ zeroAt p [1, 2, 3] = false then s.complete q .badParam []
      else
        let x := s.canCh c
        s.complete q .ok (p ++ [0x10, 0x14, 0x18, 0x1C, 0x20, 0x24, 0x28].flatMap fun o => le 4 (x.word o))

/-! ## Receive queues as streams -/

/-- The 80 bytes of a queue item (R343). -/
def CanItem.bytes (i : CanItem) : List Byte :=
  let f := i.frame
  le 4 (f.id + 2 ^ 29 * b2n f.ide + 2 ^ 30 * b2n f.rtr + 2 ^ 31 * b2n f.fdf) ++
    le 1 (f.dlc + 16 * b2n f.brs + 32 * b2n f.esi) ++ le 1 f.data.length ++ le 1 i.pair ++ le 1 i.seq ++
    le 4 i.tick ++ le 3 (i.tick / 2 ^ 32) ++ le 1 i.sub ++ padTo 64 f.data

/-- Items removed from the head of a queue. -/
def State.dropItems (s : State) (c : CanNo) (q : Fin 2) (n : Nat) : State :=
  s.onCanCh c fun x => { x with q := x.q.upd q fun k => { k with items := k.items.drop n } }

/-! ## The weft's requests (R352) -/

/-- The word that stands next on the Network port. -/
def State.netHead (s : State) : Option ShWord := (s.link 2).headWord

/-- Is the next word a DATA word with the given request code, no TX being assembled? -/
def State.netRequest (s : State) (code : Nat) : Bool :=
  s.can.asm.isNone && s.pwr.islandUp.get 3 &&
    match s.netHead with
    | some w => w.typ == tyData && pf w.payload 0 8 == code
    | none => false

/-- An answer word towards the Loom. -/
def State.answer (s : State) (v : Nat) : State := s.sendWord 3 tyData (BitVec.ofNat 64 v)

/-- The header word (R352). -/
def State.canHeader (s : State) (c : CanNo) (code items units removed : Nat) : Nat :=
  let x := s.canCh c
  code + 2 ^ 8 * items + 2 ^ 16 * units + 2 ^ 24 * removed + 2 ^ 32 * min 255 x.tec + 2 ^ 40 * x.state.num + 2 ^ 42 * x.pending

/-- An invalid request: its answer, where it has one (bits [46:8] are a free value), record and plan fault (R352). -/
def State.badRequest (s : State) (p : BitVec 64) (answers : Bool) : State :=
  let s := if answers then
      let (v, s) := s.draw
      s.answer (0xFF + 256 * (v % 2 ^ 39))
    else s
  s.planRecord 3 0x4010 (pf p 0 32) (pf p 32 32) 0

/-- CAN_PEEK (R352). -/
def opCanPeek (crcOk : Bool) (s : State) : State :=
  if !s.netRequest 0x10 then s
  else
    match s.receiveWord 2 tyData crcOk with
    | (none, s) => s
    | (some p, s) =>
      let item := pf p 16 6
      let first := pf p 24 4
      let n := pf p 32 3
      let q : Fin 2 := ⟨pf p 12 1, by unfold pf bits; omega⟩
      match canOfNum (pf p 8 4) with
      | none => s.badRequest p true
      | some c =>
        if !(s.canCh c).qWeft q || decide (47 < item) || decide (9 < first) || n == 0 || decide (10 < first + n) then s.badRequest p true
        else
          let k := (s.canCh c).q.get q
          match k.items[item]? with
          | none => s.answer (s.canHeader c 0x10 k.items.length 0 0)
          | some i =>
            let s := s.answer (s.canHeader c 0x10 k.items.length n 0)
            s.forEach (List.range n) fun u s => s.answer (u64 i.bytes (8 * (first + u)))

/-- CAN_COMMIT (R352). -/
def opCanCommit (crcOk : Bool) (s : State) : State :=
  if !s.netRequest 0x11 then s
  else
    match s.receiveWord 2 tyData crcOk with
    | (none, s) => s
    | (some p, s) =>
      let n := pf p 16 6
      let q : Fin 2 := ⟨pf p 12 1, by unfold pf bits; omega⟩
      match canOfNum (pf p 8 4) with
      | none => s.badRequest p true
      | some c =>
        if !(s.canCh c).qWeft q || n == 0 || decide (48 < n) then s.badRequest p true
        else
          let m := if n ≤ ((s.canCh c).q.get q).items.length then n else 0
          let s := s.dropItems c q m
          s.answer (s.canHeader c 0x11 ((s.canCh c).q.get q).items.length 0 m)

/-- CAN_STATUS_REQUEST (R352): no queue is named, so the items field is a free value. -/
def opCanStatusRequest (crcOk : Bool) (s : State) : State :=
  if !s.netRequest 0x13 then s
  else
    match s.receiveWord 2 tyData crcOk with
    | (none, s) => s
    | (some p, s) =>
      match canOfNum (pf p 8 4) with
      | none => s.badRequest p true
      | some c =>
        let (v, s) := s.draw
        s.answer (s.canHeader c 0x13 (v % 256) 0 0)

/-- A weft's frame is loaded, or replaces the one that is pending; a shadow discards it (R352, R406). -/
def State.weftLoad (s : State) (c : CanNo) (b : Fin 5) (f : CanFrame) : State :=
  if s.twin.role = .shadow then s
  else
    (s.onCanCh c fun x => { x with tx := x.tx.upd b fun y => y.replace f s.now }).nmJudge c

/-- The assembled TX ends. -/
def State.asmEnd (s : State) : State := s.onCan fun k => { k with asm := none }

/-- The frame of a complete TX, judged (R347, R351, R352). -/
def State.txDone (s : State) (a : TxAsm) : State :=
  match canOfNum a.channel with
  | none => s.badRequest a.word false
  | some c =>
    if h : a.buffer < 3 then
      let b : Fin 5 := ⟨a.buffer, by omega⟩
      let x := s.canCh c
      if !x.tbWeft b || !x.loadable a.frame || (!a.frame.ide && decide (2048 ≤ a.frame.id)) then s.badRequest a.word false
      else s.weftLoad c b a.frame
    else s.badRequest a.word false

/-- The words of data that follow a TX request. -/
def txWords (p : BitVec 64) : Nat := if bit (pf p 46 1) 0 then 0 else (pf p 49 7 + 7) / 8

/-- CAN_TX (R352): a request word or one of its data words; it is loaded with its last. -/
def opCanTx (crcOk : Bool) (s : State) : State :=
  match s.can.asm with
  | none =>
    if !s.netRequest 0x12 then s
    else
      match s.receiveWord 2 tyData crcOk with
      | (none, s) => s
      | (some p, s) =>
        let rtr := decide (pf p 46 1 = 1)
        let f := CanFrame.own (pf p 16 29) (decide (pf p 45 1 = 1)) rtr (decide (pf p 47 1 = 1)) (decide (pf p 48 1 = 1)) (pf p 49 7) []
        let a : TxAsm := { word := p, channel := pf p 8 4, buffer := pf p 12 2, frame := f, left := txWords p }
        if a.left = 0 then s.txDone a else s.onCan fun k => { k with asm := some a }
  | some a =>
    let gap := match s.netHead with
      | some w => decide ((w.seq + 256 - (s.link 2).rxSeq) % 256 ≠ 0)
      | none => false
    match s.receiveWord 2 tyData crcOk with
    | (none, s) => s
    | (some p, s) =>
      if gap then (s.asmEnd).badRequest a.word false
      else
        let a := { a with left := a.left - 1, frame := { a.frame with data := (a.frame.data ++ le 8 p.toNat).take a.frame.len } }
        if a.left = 0 then (s.asmEnd).txDone a else s.onCan fun k => { k with asm := some a }

/-- NETWORK_CMD_INVALID (R352, R383): a CMD word, or a DATA word that is no request. A CMD word interrupts a TX. -/
def opNetworkCmdInvalid (crcOk : Bool) (s : State) : State :=
  match s.netHead with
  | none => s
  | some w =>
    let isCmd := w.typ == tyCmd
    let bad := w.typ == tyData && s.can.asm.isNone && !(decide (0x10 ≤ pf w.payload 0 8) && decide (pf w.payload 0 8 ≤ 0x13))
    if !isCmd && !bad || !s.pwr.islandUp.get 3 then s
    else
      match s.receiveWord 2 w.typ crcOk with
      | (none, s) => s
      | (some p, s) =>
        let s := match s.can.asm with
          | some a => (s.asmEnd).badRequest a.word false
          | none => s
        s.planRecord 3 0x5050 (pf p 0 32) (pf p 32 32) 0

/-! ## A reset of the network island -/

/-- A reset of I3 (R353): queues and buffers empty, TEC and REC 0, registers with reset 0, every channel integrates again. The replies to pending
CAN_SENDs (R349) come after it. -/
def State.resetCan (s : State) : State :=
  let ends := allCan.flatMap fun c => (List.finRange 5).filterMap fun b =>
    let y := (s.canCh c).tx.get b
    y.cmd.map fun id => (id, canReply c b 2 y.attempts 0)
  let s := s.forEach allCan fun c s =>
    s.onCanCh c fun x =>
      let y : CanCh := { CanCh.reset with ctrl := x.ctrl, nbt := x.nbt, dbt := x.dbt, tdc := x.tdc, filters := x.filters,
                                          busoffCount := x.busoffCount }
      if decide (y.mode ≠ 0) && decide ((s.nmCh c).state ≠ .busSleep) then y.integrate else y
  s.asmEnd.forEach ends fun x s => s.completeId x.1 .state x.2 2

/-! ## The meanings of the commands -/

/-- CAN_FRAME_RECEIVE (R340). -/
def execCanFrameReceive (c : CanNo) (f : CanFrame) (ago sub : Nat) (lost : Option (Fin 5)) (s : State) : Host.Outcome State Fault Refusal :=
  .next (opCanFrameReceive c f ago sub lost s)

/-- CAN_ERROR (R339). -/
def execCanError (c : CanNo) (kind : Fin 5) (inData : Bool) (buf : Option (Fin 5)) (dataField heavy : Bool) (ago : Nat) (tdcv : Option Nat) (s : State) : Host.Outcome State Fault Refusal :=
  .next (opCanError c kind inData buf dataField heavy ago tdcv s)

/-- PROTOCOL_EXCEPTION (R338). -/
def execProtocolException (c : CanNo) (s : State) : Host.Outcome State Fault Refusal := .next (opProtocolException c s)

/-- ERROR_PASSIVE (R339). -/
def execErrorPassive (c : CanNo) (s : State) : Host.Outcome State Fault Refusal := .next (opErrorPassive c s)

/-- ERROR_ACTIVE (R339). -/
def execErrorActive (c : CanNo) (s : State) : Host.Outcome State Fault Refusal := .next (opErrorActive c s)

/-- BUS_OFF (R339). -/
def execBusOff (c : CanNo) (s : State) : Host.Outcome State Fault Refusal := .next (opBusOff c s)

/-- BUS_RECOVERED (R339). -/
def execBusRecovered (c : CanNo) (s : State) : Host.Outcome State Fault Refusal := .next (opBusRecovered c s)

/-- BUS_INTEGRATED (R338). -/
def execBusIntegrated (c : CanNo) (s : State) : Host.Outcome State Fault Refusal := .next (opBusIntegrated c s)

/-- IDCLASH (R350). -/
def execIdclash (c : CanNo) (b : Fin 5) (s : State) : Host.Outcome State Fault Refusal := .next (opIdclash c b s)

/-- CAN_TX_COMPLETE (R349). -/
def execCanTxComplete (c : CanNo) (b : Fin 5) (ago tdcv : Nat) (s : State) : Host.Outcome State Fault Refusal :=
  .next (opCanTxComplete c b ago tdcv s)

/-- CAN_ABORT (R348). -/
def execCanAbort (c : CanNo) (b : Fin 3) (s : State) : Host.Outcome State Fault Refusal := .next (opCanAbort c b s)

/-- CAN_CONFIG (R354). -/
def execCanConfig (r : CmdRef) (s : State) : Host.Outcome State Fault Refusal := .next (opCanConfig r s)

/-- CAN_FILTER (R354). -/
def execCanFilter (r : CmdRef) (s : State) : Host.Outcome State Fault Refusal := .next (opCanFilter r s)

/-- CAN_SEND (R349). -/
def execCanSend (r : CmdRef) (s : State) : Host.Outcome State Fault Refusal := .next (opCanSend r s)

/-- CAN_STATUS (R354). -/
def execCanStatus (r : CmdRef) (s : State) : Host.Outcome State Fault Refusal := .next (opCanStatus r s)

/-- CAN_PEEK (R352). -/
def execCanPeek (crcOk : Bool) (s : State) : Host.Outcome State Fault Refusal := .next (opCanPeek crcOk s)

/-- CAN_COMMIT (R352). -/
def execCanCommit (crcOk : Bool) (s : State) : Host.Outcome State Fault Refusal := .next (opCanCommit crcOk s)

/-- CAN_TX (R352). -/
def execCanTx (crcOk : Bool) (s : State) : Host.Outcome State Fault Refusal := .next (opCanTx crcOk s)

/-- CAN_STATUS_REQUEST (R352). -/
def execCanStatusRequest (crcOk : Bool) (s : State) : Host.Outcome State Fault Refusal := .next (opCanStatusRequest crcOk s)

/-- NETWORK_CMD_INVALID (R383). -/
def execNetworkCmdInvalid (crcOk : Bool) (s : State) : Host.Outcome State Fault Refusal := .next (opNetworkCmdInvalid crcOk s)

end Sys2Proof.Machine
end

