-- ==== Sys2Proof/Machine/NmRows.lean ====
section
/-! DEFINITION. Network management (spec/13): the timed changes of state, the wake detectors, NM_CONFIG and NM_REQUEST, TC10, the
registers. -/

namespace Sys2Proof.Machine

open Sys2Proof

/-! ## Timed changes -/

/-- The Otcel's own NM frame (R358, R359): in REPEAT with REPEAT where NM_REQUEST asks for it, and ACTIVE_WAKE otherwise (R357); a base identifier has the low 11 bits of the number (DESIGN CHOICE, log entry 51). -/
def State.nmFrame (s : State) (c : CanNo) : CanFrame :=
  let k := s.nm.cfg
  let n := s.nmCh c
  let rpt := decide (n.state = .rpt)
  let id := k.baseId / 64 * 64 + k.nodeId
  CanFrame.own (if k.ide then id else id % 2048) k.ide false false false 8
    (le 1 k.nodeId ++ le 1 (if rpt then b2n n.rptBit + 8 * b2n (n.activeWake || !n.rptBit) else 0) ++ le 4 k.user ++ zeros 2)

/-- NM_FRAME_SEND (R357, R358): at the entry and every NM_CYCLE in REPEAT and NORMAL. -/
def opNmFrameSend (c : CanNo) (s : State) : State :=
  let n := s.nmCh c
  let due := match n.sentAt with
    | none => true
    | some t => decide (1000 * s.nm.cfg.cycle ≤ s.since t)
  if (n.state = .rpt ∨ n.state = .normal) ∧ due = true then
    let f := s.nmFrame c
    let now := s.now
    (s.onNmCh c fun n => { n with sentAt := some now }).onCanCh c fun x => x.queueOwn f now
  else s

/-- NM_TIMEOUT (R359, R361). -/
def opNmTimeout (c : CanNo) (s : State) : State :=
  let n := s.nmCh c
  if n.state = .ready ∧ 1000 * s.nm.cfg.timeout ≤ s.since n.timeoutAt then s.nmEnter c .clearing else s

/-- REPEAT_END (R357). -/
def opRepeatEnd (c : CanNo) (s : State) : State :=
  let n := s.nmCh c
  if n.state = .rpt ∧ 1000 * s.nm.cfg.rptTime ≤ s.since n.since then s.nmEnter c (if s.ownRequest c then .normal else .ready) else s

/-- FALSE_WAKE (R365). -/
def opFalseWake (c : CanNo) (s : State) : State :=
  let n := s.nmCh c
  if n.state = .listen ∧ 1000 * s.nm.cfg.falseWakeT ≤ s.since n.since then
    ((s.nmEnter c .clearing).onNm fun k => { k with falseWake := true, falseWakes := satAdd 0xFFFF k.falseWakes 1 }).record 0x4023 3
      (canNum c) n.cause 0
  else s

/-- NM_KEEPER (R367): once per stay in READY. -/
def opNmKeeper (c : CanNo) (s : State) : State :=
  let n := s.nmCh c
  if n.state = .ready ∧ n.keeperSaid = false ∧ 1000000 * s.nm.cfg.keepLimit ≤ s.since n.since then
    ((s.onNmCh c fun n => { n with keeperSaid := true }).onNm fun k => { k with keeper := true }).record 0x4025 3 (canNum c) n.lastNode
      n.heard.length
  else s

/-- MAX_AWAKE (R366): the request made at one instant is released on every channel it named. -/
def opMaxAwake (c : CanNo) (s : State) : State :=
  match (s.nmCh c).host with
  | none => s
  | some t =>
    let m := s.nm.cfg.maxAwake
    if m = 0 ∨ s.since t < 1000000 * m then s
    else
      let s := s.onNm fun k =>
        { k with maxAwake := true, chans := k.chans.mapIdx fun _ n =>
          if n.host = some t then { n with host := none, rptBit := false } else n }
      (s.nmEval).fault .B 3 0x4024 (s.since t / 1000000) 0 0

/-! ## Wake detectors -/

/-- A detector signals a wake (R361, R363); `cause` is that of record 0x4021. -/
def State.detectorWake (s : State) (c : CanNo) (cause id : Nat) : State :=
  let s := s.onNmCh c fun n => { n with errCount := 0 }
  match (s.nmCh c).state with
  | .clearing =>
    if cause = 2 then
      let (v, s) := s.draw
      s.wakeInClearing c v .listen 2
    else s.wakeInClearing c (if cause = 0 then 0 else 2) .listen cause
  | .busSleep =>
    if s.asleep then
      if s.pwr.latched.isNone && bit s.pwr.srcEn 2 then
        (s.onNmCh c fun n => { n with cause := cause, wakeId := id }).moduleWake 2 (canNum c)
      else s
    else if s.pwr.state = .run ∨ s.pwr.state = .idle then
      ((s.nmEnter c .listen).onNmCh c fun n => { n with cause := cause, wakeId := id }).record 0x4021 3 (canNum c) cause id
    else s
  | _ => s

/-- Does a frame match as a wake-up frame (R364)? -/
def SwCfg.hits (w : SwCfg) (f : CanFrame) : Bool :=
  let m := w.lo % 2 ^ 32 + 2 ^ 32 * (w.hi % 2 ^ 32)
  !f.fdf && !f.rtr && f.ide == bit w.id 29 && ((f.id ^^^ bits w.id 0 29) &&& bits w.mask 0 29) == 0 &&
    (m == 0 || (List.range (min 8 f.data.length)).any fun i => decide ((u8 f.data i &&& bits m (8 * i) 8) ≠ 0))

/-- CAN_WAKE_DETECT (R361, R363, R364). -/
def opCanWakeDetect (c : CanNo) (seen : Seen) (s : State) : State :=
  let armed := s.nm.cfg.enabled c && (decide ((s.nmCh c).state = .clearing) || decide ((s.nmCh c).state = .busSleep))
  if !armed then s
  else
    match seen, s.nm.cfg.selective c with
    | .pattern, none => s.detectorWake c 1 0
    | .frame f, some w =>
      let s := if f.fdf then s else s.onNmCh c fun n => { n with errCount := n.errCount - 1 }
      if w.hits f then s.detectorWake c 0 f.id else s
    | .bad, some _ => s.onNmCh c fun n => { n with errCount := min 32 (n.errCount + 1) }
    | _, _ => s

/-- WUF_ERRWAKE (R364). -/
def opWufErrwake (c : CanNo) (s : State) : State :=
  let n := s.nmCh c
  if n.errCount < 32 ∨ (n.state ≠ .clearing ∧ n.state ≠ .busSleep) then s
  else (s.detectorWake c 2 0).record 0x4026 3 (canNum c) 0 0

/-- NM_SLEEP (R362): the detector is read first; one that holds a wake ends the clearing. -/
def opNmSleep (c : CanNo) (s : State) : State :=
  let n := s.nmCh c
  if n.state = .clearing ∧ 1000 * s.nm.cfg.tClear ≤ s.since n.since then
    if 32 ≤ n.errCount then opWufErrwake c s
    else (s.nmEnter c .busSleep).record 0x4020 3 (canNum c) (min 0xFFFFFFFF (s.since n.awakeSince / 1000000)) 0
  else s

/-! ## Configuration -/

/-- Are the timing values in range (R370)? -/
def timing1Ok (v : Nat) : Bool := decide (10 ≤ bits v 0 16) && decide (bits v 0 16 ≤ 5000) && decide (100 ≤ bits v 16 16)
def timing2Ok (v : Nat) : Bool := decide (1 ≤ bits v 16 16) && decide (bits v 16 16 ≤ 1000)
def timing3Ok (v : Nat) : Bool := decide (100 ≤ bits v 0 16) && decide (1 ≤ bits v 16 16)
def maxAwakeOk (v : Nat) : Bool := decide (bits v 0 17 ≤ 86400)

def nmConfigMask (v : Nat) : Nat := v &&& 0x00073FFF
def nmBaseMask (v : Nat) : Nat := v &&& 0x1FFFFFC0

/-- The configuration takes new values: channels enabled enter BUS_SLEEP, channels disabled are OFF (R357). -/
def State.setNmCfg (s : State) (k : NmCfg) : State :=
  let s := s.onNm fun n => { n with cfg := k }
  let s := s.forEach allCan fun c s =>
    let st := (s.nmCh c).state
    if k.enabled c then (if st = .off then s.nmEnter c .busSleep else s)
    else if st = .off then s
    else (s.nmEnter c .off).onNmCh c fun n => { n with host := none, rptBit := false }
  s.nmEval

/-- The words of SELECT 0 (R369). -/
def NmCfg.words (k : NmCfg) : List Nat := [k.config, k.baseId, k.timing1, k.timing2, k.timing3, k.maxAwake, k.user]

def SwCfg.words (w : SwCfg) : List Nat := [w.id, w.mask, w.lo, w.hi]

/-- NM_CONFIG (R369). -/
def opNmConfig (r : CmdRef) (s : State) : State :=
  s.onCommand r 0x0505 fun q s =>
    let p := q.params
    let k := s.nm.cfg
    let sel := u8 p 0
    if zeroAt p [1, 2, 3] = false then s.complete q .badParam []
    else if sel = 0 then
      let n : NmCfg := { config := nmConfigMask (u32 p 4), baseId := nmBaseMask (u32 p 8), timing1 := u32 p 12, timing2 := u32 p 16,
                         timing3 := u32 p 20, maxAwake := bits (u32 p 24) 0 17, user := u32 p 28, sw := k.sw }
      let ok := timing1Ok n.timing1 && timing2Ok n.timing2 && timing3Ok n.timing3 && maxAwakeOk n.maxAwake
      let out := s.nm.chans.any fun c => decide (c.state ≠ .off) && decide (c.state ≠ .busSleep)
      if p.length ≠ 32 then s.complete q .badParam []
      else if !ok then (s.onNm fun n => { n with cfgReject := true }).complete q .badParam []
      else if out = true ∧ (n.baseId ≠ k.baseId ∨ n.ide ≠ k.ide ∨ n.nodeId ≠ k.nodeId) then s.complete q .state []
      else (s.setNmCfg n).complete q .ok (p.take 4 ++ n.words.flatMap (le 4))
    else if h : 1 ≤ sel ∧ sel ≤ 2 then
      let w : SwCfg := { id := u32 p 4 % 2 ^ 31, mask := u32 p 8 % 2 ^ 29, lo := u32 p 12, hi := u32 p 16 }
      if p.length ≠ 20 then s.complete q .badParam []
      else
        let s := s.onNm fun n => { n with cfg := { n.cfg with sw := n.cfg.sw.put ⟨sel - 1, by omega⟩ w } }
        s.complete q .ok (p.take 4 ++ w.words.flatMap (le 4))
    else s.complete q .badParam []

/-- The channels that CHANNELS of NM_REQUEST names (R369), none when it names one without network management. -/
def State.nmNamed (s : State) (m : Nat) : Option (List CanNo) :=
  if m = 0 then some (allCan.filter fun c => s.nm.cfg.enabled c)
  else if m < 64 ∧ (allCan.all fun c => !bit m c.1 || s.nm.cfg.enabled c) = true then some (allCan.filter fun c => bit m c.1)
  else none

/-- NM_REQUEST with one of the listed actions (R357, R360, R369); an action above 2 is BAD_PARAM. -/
def State.nmAction (s : State) (r : CmdRef) (mine : Nat → Bool) : State :=
  s.onCommand r 0x0506 fun q s =>
    let p := q.params
    let act := u8 p 0
    if !mine act then s
    else if p.length ≠ 4 ∨ 2 < act ∨ zeroAt p [2, 3] = false then s.complete q .badParam []
    else
      match s.nmNamed (u8 p 1) with
      | none => s.complete q .badParam []
      | some l =>
        let now := s.now
        let s := s.forEach l fun c s =>
          let s := s.onNmCh c fun n =>
            if act = 0 then { n with host := none, rptBit := false } else { n with host := some now, rptBit := decide (act = 2) }
          let st := (s.nmCh c).state
          let s := if act = 2 ∧ (st = .ready ∨ st = .normal) then s.nmEnter c .rpt else s
          s.nmJudge c
        let s := s.tc10Judge
        s.complete q .ok (p ++ le 4 s.nmStatus)

/-- NM_REQUEST, action 1 (R369). -/
def opNmRequest (r : CmdRef) (s : State) : State := s.nmAction r fun a => decide (a = 1) || decide (2 < a)

/-- NM_REQUEST, action 2 (R369). -/
def opNmRequestRepeat (r : CmdRef) (s : State) : State := s.nmAction r fun a => decide (a = 2)

/-- NM_REQUEST, action 0 (R369). -/
def opNmRelease (r : CmdRef) (s : State) : State := s.nmAction r fun a => decide (a = 0)

/-! ## TC10 (R368) -/

def State.port (s : State) (p : PortNo) : EthPort := s.eth.ports.get p

def State.onPort (s : State) (p : PortNo) (f : EthPort → EthPort) : State := s.onEth fun e => { e with ports := e.ports.upd p f }

def portNum (p : PortNo) : Nat := p.1 + 1

/-- TC10_SLEEP_REQUEST. -/
def opTc10SleepRequest (p : PortNo) (s : State) : State :=
  let k := s.port p
  if s.tc10Ready && s.nm.cfg.ethSleep p && decide (k.link = .up) && !k.asked then
    (s.onPort p fun k => { k with link := .requested, asked := true }).send (.tc10Sleep (portNum p))
  else s

/-- A port goes to sleep. -/
def State.portSleeps (s : State) (p : PortNo) (by_ : Nat) : State :=
  (s.onPort p fun k => { k with link := .asleep }).record 0x5040 3 (portNum p) by_ 0

/-- TC10_SLEEP_ACKNOWLEDGE: the partner's answer. A refusal leaves the port up; in a forced entry into Sleep it takes it down (R499). -/
def opTc10SleepAcknowledge (p : PortNo) (ack : Bool) (s : State) : State :=
  if (s.port p).link ≠ .requested then s
  else if ack then s.portSleeps p 0
  else s.onPort p fun k => { k with link := if s.pwr.entering then .down else .up }

/-- TC10_SLEEP_RECEIVE: accepted by the same condition, otherwise refused. -/
def opTc10SleepReceive (p : PortNo) (s : State) : State :=
  let k := s.port p
  if k.link ≠ .up ∧ k.link ≠ .requested then s
  else if s.tc10Ready && s.nm.cfg.ethSleep p then (s.send (.tc10Answer (portNum p) true)).portSleeps p 1
  else s.send (.tc10Answer (portNum p) false)

/-- A sleeping port comes up (R368); cause 0 remote, 1 local, 2 forwarded: the last two wake the partner. Its link comes up (R373). -/
def State.portWakes (s : State) (p : PortNo) (cause : Nat) : State :=
  let now := s.now
  let s := if cause = 0 then s else s.send (.tc10Wake (portNum p))
  ((s.onPort p fun k => { k with link := .up, upAt := now, asked := false }).record 0x5041 3 (portNum p) cause 0).record 0x5001 3 (portNum p) 0 0

/-- TC10_WAKE. -/
def opTc10Wake (p : PortNo) (s : State) : State :=
  if (s.port p).link ≠ .asleep then s
  else if s.asleep then s.moduleWake 3 (portNum p)
  else if s.pwr.state = .run ∨ s.pwr.state = .idle then
    let s := s.portWakes p 0
    let o : PortNo := ⟨1 - p.1, by omega⟩
    if s.nm.cfg.ethFwd && decide ((s.port o).link = .asleep) then s.portWakes o 2 else s
  else s

/-! ## Registers (R370) -/

def State.readNm (s : State) (off : Nat) : Nat :=
  let k := s.nm.cfg
  match off with
  | 0x20 => s.nmStatus
  | 0x24 => s.nm.falseWakes + 2 ^ 16 * s.nm.clearingWakes
  | _ =>
    if off < 0x1C ∧ off % 4 = 0 then k.words.getD (off / 4) 0
    else if h : 0x40 ≤ off ∧ off < 0x60 ∧ off % 4 = 0 then
      (k.sw.get ⟨(off - 0x40) / 16, by omega⟩).words.getD (off % 16 / 4) 0
    else 0

def State.writeNm (s : State) (off v : Nat) : Status × State :=
  let k := s.nm.cfg
  let guarded := fun (ok : Bool) (n : NmCfg) =>
    if ok then (Status.ok, s.setNmCfg n) else (Status.badParam, s.onNm fun m => { m with cfgReject := true })
  match off with
  | 0x00 => (.ok, s.setNmCfg { k with config := nmConfigMask v })
  | 0x04 => (.ok, s.setNmCfg { k with baseId := nmBaseMask v })
  | 0x08 => guarded (timing1Ok v) { k with timing1 := v }
  | 0x0C => guarded (timing2Ok v) { k with timing2 := v }
  | 0x10 => guarded (timing3Ok v) { k with timing3 := v }
  | 0x14 => guarded (maxAwakeOk v) { k with maxAwake := bits v 0 17 }
  | 0x18 => (.ok, s.setNmCfg { k with user := v })
  | 0x20 =>
    (.ok, s.onNm fun n =>
      { n with wakeInClearing := n.wakeInClearing && !bit v 24, falseWake := n.falseWake && !bit v 25,
               maxAwake := n.maxAwake && !bit v 26, keeper := n.keeper && !bit v 27, cfgReject := n.cfgReject && !bit v 28 })
  | _ =>
    if h : 0x40 ≤ off ∧ off < 0x60 ∧ off % 4 = 0 then
      let i : Fin 2 := ⟨(off - 0x40) / 16, by omega⟩
      (.ok, s.onNm fun n => { n with cfg := { n.cfg with sw := n.cfg.sw.upd i fun w => match off % 16 with
        | 0 => { w with id := v % 2 ^ 31 }
        | 4 => { w with mask := v % 2 ^ 29 }
        | 8 => { w with lo := v }
        | _ => { w with hi := v } } })
    else (.ok, s)

/-! ## The meanings of the commands -/

/-- NM_FRAME_SEND (R358). -/
def execNmFrameSend (c : CanNo) (s : State) : Host.Outcome State Fault Refusal := .next (opNmFrameSend c s)

/-- NM_TIMEOUT (R359). -/
def execNmTimeout (c : CanNo) (s : State) : Host.Outcome State Fault Refusal := .next (opNmTimeout c s)

/-- REPEAT_END (R357). -/
def execRepeatEnd (c : CanNo) (s : State) : Host.Outcome State Fault Refusal := .next (opRepeatEnd c s)

/-- NM_SLEEP (R362). -/
def execNmSleep (c : CanNo) (s : State) : Host.Outcome State Fault Refusal := .next (opNmSleep c s)

/-- CAN_WAKE_DETECT (R363). -/
def execCanWakeDetect (c : CanNo) (seen : Seen) (s : State) : Host.Outcome State Fault Refusal := .next (opCanWakeDetect c seen s)

/-- WUF_ERRWAKE (R364). -/
def execWufErrwake (c : CanNo) (s : State) : Host.Outcome State Fault Refusal := .next (opWufErrwake c s)

/-- FALSE_WAKE (R365). -/
def execFalseWake (c : CanNo) (s : State) : Host.Outcome State Fault Refusal := .next (opFalseWake c s)

/-- MAX_AWAKE (R366). -/
def execMaxAwake (c : CanNo) (s : State) : Host.Outcome State Fault Refusal := .next (opMaxAwake c s)

/-- NM_KEEPER (R367). -/
def execNmKeeper (c : CanNo) (s : State) : Host.Outcome State Fault Refusal := .next (opNmKeeper c s)

/-- NM_CONFIG (R369). -/
def execNmConfig (r : CmdRef) (s : State) : Host.Outcome State Fault Refusal := .next (opNmConfig r s)

/-- NM_REQUEST (R369). -/
def execNmRequest (r : CmdRef) (s : State) : Host.Outcome State Fault Refusal := .next (opNmRequest r s)

/-- NM_REQUEST_REPEAT (R369). -/
def execNmRequestRepeat (r : CmdRef) (s : State) : Host.Outcome State Fault Refusal := .next (opNmRequestRepeat r s)

/-- NM_RELEASE (R369). -/
def execNmRelease (r : CmdRef) (s : State) : Host.Outcome State Fault Refusal := .next (opNmRelease r s)

/-- TC10_SLEEP_REQUEST (R368). -/
def execTc10SleepRequest (p : PortNo) (s : State) : Host.Outcome State Fault Refusal := .next (opTc10SleepRequest p s)

/-- TC10_SLEEP_RECEIVE (R368). -/
def execTc10SleepReceive (p : PortNo) (s : State) : Host.Outcome State Fault Refusal := .next (opTc10SleepReceive p s)

/-- TC10_WAKE (R368). -/
def execTc10Wake (p : PortNo) (s : State) : Host.Outcome State Fault Refusal := .next (opTc10Wake p s)

/-- TC10_SLEEP_ACKNOWLEDGE (R368). -/
def execTc10SleepAcknowledge (p : PortNo) (ack : Bool) (s : State) : Host.Outcome State Fault Refusal :=
  .next (opTc10SleepAcknowledge p ack s)

end Sys2Proof.Machine
end

