-- ==== Sys2Proof/Machine/EthRows.lean ====
section
/-! DEFINITION. The Ethernet switch, gPTP, IPv4 and the CAN tunnel (spec/14): forwarding, ARP and echo answers, addresses, AVTPDUs, the
registers of the Ethernet part of the block. -/

namespace Sys2Proof.Machine

open Sys2Proof

/-! ## Frames -/

/-- An Ethernet frame without its FCS: addresses as MAC_ADDR holds them (first byte lowest), the tag's TCI, and what follows from the
EtherType on. -/
structure EthFrame where
  dst  : Nat
  src  : Nat
  tag  : Option Nat
  rest : List Byte
  deriving DecidableEq, Repr

def parseEth (p : List Byte) : EthFrame :=
  if ofBe (slice p 12 2) = 0x8100 then { dst := ofLe (slice p 0 6), src := ofLe (slice p 6 6), tag := some (ofBe (slice p 14 2)), rest := p.drop 16 }
  else { dst := ofLe (slice p 0 6), src := ofLe (slice p 6 6), tag := none, rest := p.drop 12 }

def EthFrame.bytes (f : EthFrame) : List Byte :=
  le 6 f.dst ++ le 6 f.src ++ (match f.tag with
    | some t => be 2 0x8100 ++ be 2 t
    | none => []) ++ f.rest

/-- PCP and VID of a frame (R376, R377). -/
def EthFrame.pcp (f : EthFrame) : Nat := (f.tag.getD 0) / 2 ^ 13 % 8
def EthFrame.vid (f : EthFrame) : Nat := (f.tag.getD 0) % 4096

def EthFrame.etherType (f : EthFrame) : Nat := ofBe (f.rest.take 2)
def EthFrame.payload (f : EthFrame) : List Byte := f.rest.drop 2

def broadcast : Nat := 2 ^ 48 - 1

/-- A link-local group address (R374). -/
def linkLocal (a : Nat) : Bool := a % 2 ^ 40 == 0x0000C28001 && decide (a / 2 ^ 40 < 16)

/-- Does the switch run: its island, its domain, the PHYs ungated, the island on its PLL (R44, R51)? -/
def State.etherRuns (s : State) : Bool :=
  s.pwr.islandUp.get 3 && s.pwr.domains.get 5 && s.clk.settled && s.clk.onPll.get 3

/-- May a frame leave on a port? -/
def State.portOpen (s : State) (p : SwPort) : Bool :=
  match p.1 with
  | 0 => true
  | 1 => decide ((s.port 0).link = .up) || decide ((s.port 0).link = .requested)
  | _ => decide ((s.port 1).link = .up) || decide ((s.port 1).link = .requested)

/-! ## Forwarding -/

/-- Is the MAC table full (R375)? -/
def Eth.macFull (e : Eth) : Bool := decide (256 ≤ e.macs.length)

/-- The source address of a valid frame is learned (R374, R375). -/
def Eth.learn (e : Eth) (a port now : Nat) : Eth :=
  if a = Config.macAddress ∨ a % 2 = 1 then e
  else if e.macs.any (fun m => m.addr == a) then
    { e with macs := e.macs.map fun m => if m.addr = a then { m with port := port, at_ := now } else m }
  else if e.macFull then e
  else { e with macs := e.macs ++ [{ addr := a, port := port, at_ := now }] }

/-- The port an address is known on. -/
def Eth.known (e : Eth) (a : Nat) : Option Nat :=
  if a = Config.macAddress then some 0 else (e.macs.find? fun m => m.addr == a).map fun m => m.port

/-- The ports a frame goes to, and the frame as each sends it (R374, R376): none for a link-local group address; a tag keeps its PCP and DEI. -/
def Eth.route (e : Eth) (ing : SwPort) (f : EthFrame) : List (SwPort × EthFrame) :=
  if linkLocal f.dst then [] else
  let others := (List.finRange 3).filter fun p => decide (p ≠ ing)
  let dests := if f.dst % 2 = 1 then others
    else match e.known f.dst with
      | some k => others.filter fun p => p.1 == k
      | none => others
  if !e.vlanEn then dests.map fun p => (p, f)
  else
    let vid := if f.vid = 0 then (e.pvid.get ing) % 4096 else f.vid
    match e.vlanEntry vid with
    | none => []
    | some v =>
      if !bit v (12 + ing.1) then []
      else (dests.filter fun p => bit v (12 + p.1)).map fun p =>
        (p, { f with tag := if bit v (15 + p.1) then none else some (vid + 2 ^ 12 * ((f.tag.getD 0) / 2 ^ 12 % 16)) })

/-- The egress queue of a PCP (R377). -/
def pcpQueue (pcp : Nat) : Nat := pcp / 2

/-- Nanoseconds of a frame on a line at 1 Gbit/s, with preamble and gap. -/
def wireNs (len : Nat) : Nat := 8 * (len + 20)

/-- Is there room for a frame (R377): 64 KiB for the port, half of it for one queue? -/
def Egress.room (k : Egress) (q len : Nat) : Bool :=
  let held := fun (l : List EthWait) => (l.map fun w => w.len).sum
  decide (held k.waiting + len ≤ 65536) && decide (held (k.waiting.filter fun w => w.queue == q) + len ≤ 32768)

/-- The frame next in strict priority, queue 3 first, when the line is free (R377). -/
def Egress.next (k : Egress) (ns : Nat) : Option EthWait :=
  if ns < k.freeAt then none
  else ([3, 2, 1, 0].findSome? fun q => k.waiting.find? fun w => w.queue == q)

/-- A frame joins the queue of the PCP it came with, padded to 64 bytes with its FCS, or finds no room, is dropped and counted (R372, R377). -/
def State.egress (s : State) (p : SwPort) (queue : Nat) (f : EthFrame) : State :=
  if !s.portOpen p then s
  else
    let k := s.eth.outs.get p
    let b := f.bytes ++ zeros (60 - f.bytes.length)
    let w : EthWait := { queue := queue, len := b.length + 4, frame := b }
    if !k.room w.queue w.len then s.onEth fun e => { e with egressDrop := e.egressDrop.upd p fun n => satAdd 0xFFFF n 1 }
    else
      let from_ := if k.waiting.isEmpty then max k.freeAt (1000 * s.now) else k.freeAt
      s.onEth fun e => { e with outs := e.outs.put p { waiting := k.waiting ++ [w], freeAt := from_ } }

/-- The frames whose turn has come leave a port, at most `n` of them; `give` takes each. -/
def State.drainPort (give : EthWait → State → State) (p : SwPort) : Nat → State → State
  | 0, s => s
  | n + 1, s =>
    let k := s.eth.outs.get p
    match k.next (1000 * s.now) with
    | none => s
    | some w =>
      let s := s.onEth fun e => { e with outs := e.outs.put p { waiting := k.waiting.erase w, freeAt := k.freeAt + wireNs w.len } }
      State.drainPort give p n (give w s)

/-- P1 and P2 send what their lines take (R372, R377). -/
def State.drainLines (s : State) : State :=
  if !s.etherRuns then s
  else
    s.forEach [(1 : SwPort), 2] fun p s =>
      if !s.portOpen p then s
      else
        s.drainPort (fun w s => s.send (.eth p.1 w.queue w.frame)) p (s.eth.outs.get p).waiting.length

/-- A frame is switched (R374 to R377); one flooded for lack of an entry counts while the table is full (R375). -/
def State.switch (s : State) (ing : SwPort) (f : EthFrame) : State :=
  let l := s.eth.route ing f
  let lacking := f.dst % 2 == 0 && (s.eth.known f.dst).isNone && s.eth.macFull && !l.isEmpty
  let s := if lacking then s.onEth fun e => { e with flooded := satAdd 0xFFFFFFFF e.flooded 1 } else s
  s.forEach l fun x s => s.egress x.1 (pcpQueue f.pcp) x.2

/-- A frame whose length or FCS is wrong (R372). -/
def State.rxError (s : State) (p : SwPort) : State := s.onEth fun e => { e with rxErr := e.rxErr.upd p fun n => satAdd 0xFFFF n 1 }

/-- A frame from P0, padded to 64 bytes, is switched; one above 1 522 is dropped (R372). -/
def State.fromP0 (s : State) (f : EthFrame) : State :=
  if !s.etherRuns then s else if 1518 < f.bytes.length then s.rxError 0 else (s.switch 0 f).drainLines

/-! ## ARP, ICMP -/

/-- The ARP cache of 32 entries takes a pair, newest last (R379). -/
def Eth.arpNote (e : Eth) (ip mac : Nat) : Eth :=
  let l := (e.arp.filter fun x => x.1 != ip) ++ [(ip, mac)]
  { e with arp := l.drop (l.length - 32) }

/-- An ARP packet (RFC 826). -/
def arpPacket (op sha spa tha tpa : Nat) : List Byte :=
  be 2 0x0806 ++ be 2 1 ++ be 2 0x0800 ++ be 1 6 ++ be 1 4 ++ be 2 op ++ le 6 sha ++ be 4 spa ++ le 6 tha ++ be 4 tpa

/-- Another MAC address has the address (R379). -/
def State.ipConflict (s : State) (ip mac : Nat) : State := s.fault .B 3 0x5012 ip (mac / 2 ^ 16 % 2 ^ 32) 0

def Eth.dhcpEn (e : Eth) : Bool := bit e.ctrl 3

/-- The address is removed and discovery starts again (R379). -/
def State.dropAddress (s : State) : State :=
  (s.onEth fun e => { e with ipActive := 0, actMask := 0, actGateway := 0, leaseEnd := 0, leaseHalf := 0 }).send (.dhcp 1)

/-- An ARP packet received on P0 (R379): one from another MAC address that claims the address in use is a conflict, and a DHCP address is
then declined. A sender in the cache is brought up to date, and one that asks for this address enters it (RFC 826). -/
def State.arpReceive (s : State) (f : EthFrame) : State :=
  let p := f.payload
  let ip := s.eth.ipActive
  let op := ofBe (slice p 6 2)
  let sha := ofLe (slice p 8 6)
  let spa := ofBe (slice p 14 4)
  let tpa := ofBe (slice p 24 4)
  if p.length < 28 ∨ ofBe (slice p 0 2) ≠ 1 ∨ ofBe (slice p 2 2) ≠ 0x0800 then s
  else
    let s := s.serviceActive
    let s := if spa ≠ 0 ∧ spa ≠ ip ∧ (tpa = ip ∨ s.eth.arp.any (fun x => x.1 == spa) = true) ∧ ip ≠ 0 then s.onEth fun e => e.arpNote spa sha else s
    if ip = 0 then s
    else if spa = ip ∧ sha ≠ Config.macAddress then
      let s := s.ipConflict ip sha
      if s.eth.dhcpEn then (s.send (.dhcp 4)).dropAddress else s
    else if tpa = ip ∧ op = 1 then
      s.fromP0 { dst := sha, src := Config.macAddress, tag := f.tag, rest := arpPacket 2 Config.macAddress ip sha spa }
    else s

/-- An IPv4 packet received on P0: an echo request is answered; UDP arrives as PACKET_RECEIVE, DHCP as its own rows; anything else is
dropped (R379, R380). -/
def State.ipReceive (s : State) (f : EthFrame) : State :=
  let p := f.payload
  let ip := s.eth.ipActive
  let total := ofBe (slice p 2 2)
  let d := (p.take total).drop 20
  if u8 p 0 ≠ 0x45 ∨ total < 28 ∨ p.length < total ∨ ofBe (slice p 6 2) % 2 ^ 14 ≠ 0 ∨ inetCheck (p.take 20) ≠ 0 ∨ ip = 0 ∨
     ofBe (slice p 16 4) ≠ ip ∨ u8 p 9 ≠ 1 ∨ u8 d 0 ≠ 8 ∨ u8 d 1 ≠ 0 ∨ inetCheck d ≠ 0 ∨ bit s.eth.ctrl 4 = false ∨ 1480 < d.length then s
  else
    let s := s.serviceActive
    let body := zeros 2 ++ zeros 2 ++ d.drop 4
    let icmp := zeros 2 ++ be 2 (inetCheck body) ++ d.drop 4
    s.fromP0 { dst := f.src, src := Config.macAddress, tag := f.tag, rest := be 2 0x0800 ++ ipHeader total 1 ip (ofBe (slice p 12 4)) ++ icmp }

/-- A frame delivered to the service core (R380). -/
def State.toService (s : State) (f : EthFrame) : State :=
  if !s.cmd.serving then s
  else if f.etherType = 0x0806 then s.arpReceive f
  else if f.etherType = 0x0800 then s.ipReceive f
  else s

/-! ## gPTP -/

/-- The correctionField that a relayed Follow_Up carries, in units of 2^-16 ns: the residence time and the upstream path delay are added to it
(R378). The residence time, at most 1 ms, is a free value. -/
def State.relayedCorrection (s : State) (p : PortNo) (f : EthFrame) : Nat :=
  (ofBe (slice f.payload 8 8) + 65536 * (s.port p).pdelay + Config.gptpResidence s.now % 65536000001) % 2 ^ 64

/-- The priority vector of an Announce (IEEE 802.1AS): grandmasterPriority1 to stepsRemoved. The lower is the better. -/
def announceVector (p : List Byte) : Nat := ofBe (slice p 47 16)

/-- Does the frame come in on a VLAN that includes P0 (R376)? -/
def Eth.forP0 (e : Eth) (ing : SwPort) (f : EthFrame) : Bool :=
  !e.vlanEn || match e.vlanEntry (if f.vid = 0 then (e.pvid.get ing) % 4096 else f.vid) with
    | some v => bit v 12 && bit v (12 + ing.1)
    | none => false

/-- A gPTP message of domain 0 on a port (R376, R378): neighbour delay requests are answered; an Announce is kept for the best master clock
algorithm; Sync, Follow_Up and Announce go from the slave port to a master port. -/
def State.ptpReceive (s : State) (p : PortNo) (f : EthFrame) : State :=
  let o : PortNo := ⟨1 - p.1, by omega⟩
  let relays := decide ((s.port p).gptp = 2) && decide ((s.port o).gptp = 1) && s.eth.joined [o.sw]
  if f.etherType ≠ 0x88F7 ∨ u8 f.payload 4 ≠ 0 ∨ s.eth.forP0 p.sw f = false then s
  else
    match u8 f.payload 0 % 16 with
    | 2 => (s.send (.ptp (portNum p) 3 0)).send (.ptp (portNum p) 10 0)
    | 0 => if relays then s.send (.ptp (portNum o) 0 0) else s
    | 8 =>
      let s := if (s.port p).gptp = 2 then s.onClk fun k => { k with validAt := k.validAt.put 5 s.now } else s
      if relays then s.send (.ptp (portNum o) 8 (s.relayedCorrection p f)) else s
    | 11 =>
      let s := s.onPort p fun k => { k with announce := some (announceVector f.payload) }
      if relays then s.send (.ptp (portNum o) 11 0) else s
    | _ => s

/-- P0 hands the service core what its line takes, and the answers go out (R377, R380). -/
def State.drainEth (s : State) : State :=
  if !s.etherRuns then s
  else (s.drainPort (fun w s => s.toService (parseEth w.frame)) 0 (s.eth.outs.get 0).waiting.length).drainLines

/-- Is a received frame whole (R372): 64 to 1 522 bytes with its FCS, and the FCS right? -/
def ethFrameOk (p : List Byte) : Bool :=
  decide (64 ≤ p.length) && decide (p.length ≤ 1522) && decide (ofLe (p.drop (p.length - 4)) = crc32 (p.take (p.length - 4)))

/-- ETH_FRAME_RECEIVE (R372, R374 to R380): a frame with its FCS. -/
def opEthFrameReceive (p : PortNo) (frame : List Byte) (s : State) : State :=
  if !s.etherRuns || !s.portOpen p.sw then s
  else if !ethFrameOk frame then s.rxError p.sw
  else
    let f := parseEth (frame.take (frame.length - 4))
    let s := s.onEth fun e => e.learn f.src (portNum p) s.now
    if linkLocal f.dst then (if f.dst = 0x0E0000C28001 then s.ptpReceive p f else s)
    else (s.switch p.sw f).drainEth

/-- MAC_AGE_OUT (R374). -/
def opMacAgeOut (addr : Nat) (s : State) : State :=
  s.onEth fun e => { e with macs := e.macs.filter fun m => m.addr != addr || decide (s.since m.at_ < 1000000 * e.aging) }

/-- MAC_TABLE_FULL (R375). -/
def opMacTableFull (s : State) : State :=
  let due := match s.eth.fullAt with
    | none => true
    | some t => decide (3600000000 ≤ s.since t)
  if s.eth.macFull && due then
    (s.onEth fun e => { e with flooded := 0, fullAt := some s.now }).record 0x5010 3 s.eth.flooded 0 0
  else s

/-- LINK_UP (R373). -/
def opLinkUp (p : PortNo) (s : State) : State :=
  if s.etherRuns && decide ((s.port p).link = .down) then
    (s.onPort p fun k => { k with link := .up, upAt := s.now, asked := false, gptp := if s.eth.synced then 1 else k.gptp }).record 0x5001 3
      (portNum p) 0 0
  else s

/-- LINK_DOWN (R373). -/
def opLinkDown (p : PortNo) (s : State) : State :=
  let k := s.port p
  if k.link = .up ∨ k.link = .requested then
    (s.onPort p fun k => { k with link := .down, loss := true, gptp := if k.gptp = 2 then 2 else 0, announce := none }).fault .B 3 0x5002 (portNum p) (min 0xFFFFFFFF (s.since k.upAt / 1000000)) 0
  else s

/-- PDELAY_MEASURE (R378): every 1 s on each port, the delay in ns. -/
def opPdelayMeasure (p : PortNo) (ns : Nat) (s : State) : State :=
  if s.etherRuns && s.portOpen p.sw && s.eth.joined [p.sw] && decide (1000000 ≤ s.since (s.port p).pdelayAt) then
    (s.onPort p fun k => { k with pdelay := min 0xFFFF ns, pdelayAt := s.now }).send (.ptp (portNum p) 2 0)
  else s

/-- The port that the best master clock algorithm makes slave (R378): its Announce is the best, and the grandmaster's identity is that of the
vector. The Otcel is never grandmaster. -/
def State.bestMaster (s : State) (p : PortNo) : Option Nat :=
  match (s.port p).announce with
  | none => none
  | some v =>
    match (s.port ⟨1 - p.1, by omega⟩).announce with
    | none => some (v / 2 ^ 16 % 2 ^ 64)
    | some w => if v ≤ w then some (v / 2 ^ 16 % 2 ^ 64) else none

/-- GPTP_SYNC (R378): a port enters the slave state; the other is master while its link is up. -/
def opGptpSync (p : PortNo) (s : State) : State :=
  let o : PortNo := ⟨1 - p.1, by omega⟩
  match s.bestMaster p with
  | none => s
  | some gmId =>
  if s.etherRuns && s.portOpen p.sw && decide ((s.port p).gptp ≠ 2) then
    let s := s.onPort p fun k => { k with gptp := 2 }
    let s := s.onPort o fun k => { k with gptp := if s.portOpen o.sw then 1 else 0 }
    let s := s.onEth fun e => { e with synced := true }
    let s := s.onClk fun k => { k with validAt := k.validAt.put 5 s.now }
    (s.record 0x5020 3 (portNum p) (gmId % 2 ^ 32) 0).setSource 5 true
  else s

/-- GPTP_LOST (R378): the slave port takes another state, and what its Announce said has aged. -/
def opGptpLost (p : PortNo) (next : Fin 4) (s : State) : State :=
  if s.eth.synced && decide ((s.port p).gptp = 2) then
    let s := s.onPort p fun k => { k with gptp := if next.1 = 2 then 1 else next.1, announce := none }
    let s := (s.onEth fun e => { e with synced := false }).onWt fun w => { w with phaseOk := false, offset := 0 }
    (s.record 0x5021 3 (portNum p) 0 0).setSource 5 false
  else s

/-! ## Addresses (R379) -/

/-- A broadcast ARP of the Otcel's own: three probes when `spa` is 0, two announcements otherwise (RFC 5227). -/
def State.arpOut (s : State) (spa tpa : Nat) : State :=
  s.forEach (List.range (if spa = 0 then 3 else 2)) fun _ s => s.fromP0 { dst := broadcast, src := Config.macAddress, tag := none, rest := arpPacket 1 Config.macAddress spa 0 tpa }

/-- An address is in use. -/
def State.assign (s : State) (l : Lease) (kind : Nat) : State :=
  let now := s.now
  let s := s.onEth fun e =>
    { e with ipActive := l.addr, actMask := l.mask, actGateway := l.gateway, leaseEnd := now + 1000000 * l.secs,
             leaseHalf := now + 500000 * l.secs }
  (s.arpOut l.addr l.addr).record 0x5011 3 l.addr kind l.secs

/-- IP_ADDRESS: the static address, or a granted one, is probed (`other` is the MAC address that answered), announced and recorded. -/
def opIpAddress (grant : Option Lease) (other : Option Nat) (s : State) : State :=
  let e := s.eth
  if !s.cmd.serving || decide (e.ipActive ≠ 0) then s
  else
    match grant with
    | none =>
      if e.dhcpEn ∨ e.ipAddr = 0 then s
      else
        let s := s.arpOut 0 e.ipAddr
        match other with
        | some m => s.serviceActive.ipConflict e.ipAddr m
        | none => s.assign { addr := e.ipAddr, mask := e.ipMask, gateway := e.ipGateway, secs := 0 } 0
    | some l =>
      if !e.dhcpEn then s
      else
        let s := ((s.serviceActive.send (.dhcp 1)).send (.dhcp 3)).arpOut 0 l.addr
        match other with
        | some m => (s.ipConflict l.addr m).send (.dhcp 4)
        | none => s.assign l 1

/-- A DHCP row ends Idle (R496). -/
def State.dhcpDue (s : State) : Bool := s.eth.dhcpEn && decide (s.eth.ipActive ≠ 0)

/-- DHCP_RENEWAL: the renewal falls due; a server may extend the lease; another station may be found to use the address, which is then declined. -/
def opDhcpRenewal (extends_ : Option Nat) (other : Option Nat) (s : State) : State :=
  if !s.dhcpDue || decide (s.now < s.eth.leaseHalf) then s
  else
    let s := s.serviceActive.send (.dhcp 3)
    let now := s.now
    let s := match extends_ with
      | some n => s.onEth fun e => { e with leaseEnd := now + 1000000 * n, leaseHalf := now + 500000 * n }
      | none => s.onEth fun e => { e with leaseHalf := now + (e.leaseEnd - now) / 2 }
    match other with
    | some m => ((s.ipConflict s.eth.ipActive m).send (.dhcp 4)).dropAddress
    | none => s

/-- DHCP_LEASE_LOST: the lease has run out, or another station uses the address, which is declined. -/
def opDhcpLeaseLost (other : Option Nat) (s : State) : State :=
  if !s.dhcpDue then s
  else
    match other with
    | some m => ((s.serviceActive.ipConflict s.eth.ipActive m).send (.dhcp 4)).dropAddress
    | none => if s.now < s.eth.leaseEnd then s else s.dropAddress

/-! ## The CAN tunnel (R381, R382) -/

/-- WARP_PTP (R55, R66). -/
def State.warpPtp (s : State) : Bool := s.ccfg.warpPtpEn && s.eth.synced && s.wt.phaseOk && decide (s.wt.offset = 0)

/-- gPTP time in ns of a stamp, while warp time is PTP time. -/
def TunFrame.ptpNs (t : TunFrame) : Nat := 1000 * t.tick + 8 * t.sub

/-- One ACF message (IEEE 1722-2016). -/
def TunFrame.acf (t : TunFrame) (c : CanNo) (brief stamped : Bool) : List Byte :=
  let f := t.frame
  let pad := (4 - f.data.length % 4) % 4
  let quads := (if brief then 2 else 4) + (f.data.length + pad) / 4
  let flags := 64 * pad + 32 * b2n (stamped && !brief) + 16 * b2n f.rtr + 8 * b2n f.ide + 4 * b2n f.brs + 2 * b2n f.fdf + b2n f.esi
  be 2 ((if brief then 2 else 1) * 512 + quads) ++ be 1 flags ++ be 1 (canNum c) ++
    (if brief then [] else be 8 (if stamped then t.ptpNs else 0)) ++ be 4 (f.id % 2 ^ 29) ++ f.data ++ zeros pad

/-- An AVTPDU of a channel's stream. -/
def Tunnel.avtpdu (k : Tunnel) (c : CanNo) (stamped : Bool) (l : List TunFrame) : List Byte :=
  let tscf := bit k.ctrl 1
  let body := l.flatMap fun t => t.acf c (bit k.ctrl 2) stamped
  let sid := be 4 k.sidHi ++ be 4 k.sidLo
  if tscf then
    let ts := match l with
      | t :: _ => if stamped then t.ptpNs + 1000 * k.maxTransit else 0
      | [] => 0
    be 1 0x05 ++ be 1 (0x80 + b2n stamped) ++ be 1 k.seq ++ be 1 0 ++ sid ++ be 4 ts ++ zeros 4 ++ be 2 body.length ++ zeros 2 ++ body
  else be 1 0x82 ++ be 2 (0x8000 + body.length) ++ be 1 k.seq ++ sid ++ body

/-- The longest prefix of the waiting frames that one AVTPDU holds (R382); `by_` is the end of the gathering. -/
def Tunnel.gather (k : Tunnel) (c : CanNo) (by_ : Nat) : List TunFrame → List TunFrame → List TunFrame
  | acc, [] => acc
  | acc, t :: l =>
    if t.at_ ≤ by_ ∧ (k.avtpdu c true (acc ++ [t])).length ≤ 1500 then k.gather c by_ (acc ++ [t]) l else acc

/-- TUNNEL_AVTPDU_CLOSE. -/
def opTunnelAvtpduClose (c : CanNo) (s : State) : State :=
  let k := s.eth.tun.get c
  match k.frames with
  | [] => s
  | t :: _ =>
    let wait := 10 * bits k.ctrl 4 7
    let l := if wait = 0 then [t] else k.gather c (t.at_ + wait) [] k.frames
    if !s.etherRuns || (decide (s.now < t.at_ + wait) && decide (l.length = k.frames.length)) then s
    else
      let vid := bits k.ctrl 20 12
      let f : EthFrame := { dst := k.destLo + 2 ^ 32 * k.destHi, src := Config.macAddress,
                            tag := if vid = 0 then none else some (vid + 2 ^ 13 * bits k.ctrl 16 3),
                            rest := be 2 0x22F0 ++ k.avtpdu c s.warpPtp l }
      let s := s.onEth fun e => { e with tun := e.tun.upd c fun k =>
        { k with frames := k.frames.drop l.length, seq := (k.seq + 1) % 256, sent := (k.sent + 1) % 65536 } }
      s.fromP0 f

/-! ## Registers (R395) -/

/-- The link of a port in PORT_STATUS. -/
def PortLink.status : PortLink → Nat
  | .down => 0 | .up => 1 | .requested => 1 | .asleep => 2

def Tunnel.word (k : Tunnel) : Nat → Nat
  | 0x00 => k.ctrl
  | 0x04 => k.sidLo
  | 0x08 => k.sidHi
  | 0x0C => k.destLo
  | 0x10 => k.destHi
  | 0x14 => k.maxTransit
  | 0x18 => k.sent + 2 ^ 16 * k.drop
  | _ => 0

def State.readEth (s : State) (off : Nat) : Nat :=
  let e := s.eth
  match off with
  | 0x00 => e.ctrl
  | 0x04 => e.aging
  | 0x08 =>
    (s.port 0).link.status + 4 * (s.port 1).link.status + 16 * b2n e.macFull + 2 ^ 8 * b2n (s.port 0).loss + 2 ^ 9 * b2n (s.port 1).loss +
      2 ^ 10 * b2n e.cfgReject
  | 0x0C => e.macs.length
  | 0x10 => Config.macAddress % 2 ^ 32
  | 0x14 => Config.macAddress / 2 ^ 32 % 2 ^ 16
  | 0x20 => e.ipAddr
  | 0x24 => e.ipMask
  | 0x28 => e.ipGateway
  | 0x2C => e.ipActive
  | 0x30 => if e.dhcpEn ∧ e.ipActive ≠ 0 then (e.leaseEnd - s.now) / 1000000 else 0
  | 0xD0 => (s.port 0).gptp + 4 * (s.port 1).gptp + 16 * b2n e.synced
  | 0xD4 => (s.port 0).pdelay + 2 ^ 16 * (s.port 1).pdelay
  | _ =>
    if h : 0x40 ≤ off ∧ off < 0x4C ∧ off % 4 = 0 then
      let p : SwPort := ⟨(off - 0x40) / 4, by omega⟩
      e.egressDrop.get p + 2 ^ 16 * e.rxErr.get p
    else if h : 0x80 ≤ off ∧ off < 0xC0 ∧ off % 4 = 0 then e.vlans.get ⟨(off - 0x80) / 4, by omega⟩
    else if h : 0xC0 ≤ off ∧ off < 0xCC ∧ off % 4 = 0 then e.pvid.get ⟨(off - 0xC0) / 4, by omega⟩
    else if h : 0x400 ≤ off ∧ off < 0x4C0 ∧ off % 4 = 0 then (e.tun.get ⟨(off - 0x400) / 0x20, by omega⟩).word (off % 0x20)
    else 0

/-- A write outside a field's range (R395). -/
def State.ethReject (s : State) : Status × State := (.badParam, s.onEth fun e => { e with cfgReject := true })

/-- A change of a role bit retrains its port (R373): the link goes down. -/
def State.retrain (s : State) (old new : Nat) : State :=
  s.forEach (List.finRange 2) fun p s => if bit old p.1 = bit new p.1 then s else opLinkDown p s

/-- The address in use lapses when its source is written (R379). -/
def State.readdress (s : State) (f : Eth → Eth) : State :=
  (s.onEth f).onEth fun e => { e with ipActive := 0, actMask := 0, actGateway := 0, leaseEnd := 0, leaseHalf := 0 }

def Tunnel.write (k : Tunnel) (off v : Nat) : Option Tunnel :=
  match off with
  | 0x00 => if 100 < bits v 4 7 then none else some { k with ctrl := v &&& 0xFFF707F7 }
  | 0x04 => some { k with sidLo := v }
  | 0x08 => some { k with sidHi := v }
  | 0x0C => some { k with destLo := v }
  | 0x10 => some { k with destHi := v % 65536 }
  | 0x14 => some { k with maxTransit := v % 65536 }
  | _ => some k

def State.writeEth (s : State) (off v : Nat) : Status × State :=
  let e := s.eth
  match off with
  | 0x00 =>
    let n := v % 32
    let s := s.retrain e.ctrl n
    (.ok, if bit e.ctrl 3 = bit n 3 then s.onEth fun e => { e with ctrl := n } else s.readdress fun e => { e with ctrl := n })
  | 0x04 => if 10 ≤ v % 65536 ∧ v % 65536 ≤ 3600 then (.ok, s.onEth fun e => { e with aging := v % 65536 }) else s.ethReject
  | 0x08 =>
    let s := s.forEach (List.finRange 2) fun p s => s.onPort p fun k => { k with loss := k.loss && !bit v (8 + p.1) }
    (.ok, s.onEth fun e => { e with cfgReject := e.cfgReject && !bit v 10 })
  | 0x20 => (.ok, if e.dhcpEn then s.onEth fun e => { e with ipAddr := v } else s.readdress fun e => { e with ipAddr := v })
  | 0x24 => (.ok, if e.dhcpEn then s.onEth fun e => { e with ipMask := v } else s.readdress fun e => { e with ipMask := v })
  | 0x28 => (.ok, if e.dhcpEn then s.onEth fun e => { e with ipGateway := v } else s.readdress fun e => { e with ipGateway := v })
  | _ =>
    if h : 0x80 ≤ off ∧ off < 0xC0 ∧ off % 4 = 0 then
      (.ok, s.onEth fun e => { e with vlans := e.vlans.put ⟨(off - 0x80) / 4, by omega⟩ (v % 2 ^ 18) })
    else if h : 0xC0 ≤ off ∧ off < 0xCC ∧ off % 4 = 0 then
      if 1 ≤ v % 4096 ∧ v % 4096 ≤ 4094 then (.ok, s.onEth fun e => { e with pvid := e.pvid.put ⟨(off - 0xC0) / 4, by omega⟩ (v % 4096) })
      else s.ethReject
    else if h : 0x400 ≤ off ∧ off < 0x4C0 ∧ off % 4 = 0 then
      let i : CanNo := ⟨(off - 0x400) / 0x20, by omega⟩
      match (e.tun.get i).write (off % 0x20) v with
      | some k => (.ok, s.onEth fun e => { e with tun := e.tun.put i k })
      | none => s.ethReject
    else (.ok, s)

/-- A reset of I3 as the switch sees it: tables and counters lost, addresses taken anew; a link that was up goes down (R373), and a synchronised
state is lost (R378). -/
def State.resetEth (s : State) : State :=
  let e := s.eth
  let keep := fun (k : Tunnel) => { Tunnel.reset with ctrl := k.ctrl, sidLo := k.sidLo, sidHi := k.sidHi, destLo := k.destLo,
                                                      destHi := k.destHi, maxTransit := k.maxTransit }
  let s := s.onEth fun e =>
    { Eth.reset with ctrl := e.ctrl, aging := e.aging, ipAddr := e.ipAddr, ipMask := e.ipMask, ipGateway := e.ipGateway, vlans := e.vlans,
                     pvid := e.pvid, tun := e.tun.mapIdx fun _ k => keep k,
                     ports := e.ports.mapIdx fun _ k =>
                       { EthPort.reset with link := if k.link = .asleep then .asleep else .down
                                            loss := decide (k.link = .up) || decide (k.link = .requested) } }
  let s := s.onWt fun w => { w with phaseOk := false, offset := 0 }
  let s := s.forEach ((List.finRange 2).filter fun p => (s.port p).loss) fun p s =>
    s.fault .B 3 0x5002 (portNum p) (min 0xFFFFFFFF (s.since (e.ports.get p).upAt / 1000000)) 0
  if e.synced then
    (s.forEach ((List.finRange 2).filter fun p => decide ((e.ports.get p).gptp = 2)) fun p s => s.record 0x5021 3 (portNum p) 0 0).setSource 5 false
  else s

/-! ## The meanings of the commands -/

/-- ETH_FRAME_RECEIVE (R374). -/
def execEthFrameReceive (p : PortNo) (frame : List Byte) (s : State) : Host.Outcome State Fault Refusal := .next (opEthFrameReceive p frame s)

/-- MAC_AGE_OUT (R374). -/
def execMacAgeOut (addr : Nat) (s : State) : Host.Outcome State Fault Refusal := .next (opMacAgeOut addr s)

/-- MAC_TABLE_FULL (R375). -/
def execMacTableFull (s : State) : Host.Outcome State Fault Refusal := .next (opMacTableFull s)

/-- LINK_UP (R373). -/
def execLinkUp (p : PortNo) (s : State) : Host.Outcome State Fault Refusal := .next (opLinkUp p s)

/-- LINK_DOWN (R373). -/
def execLinkDown (p : PortNo) (s : State) : Host.Outcome State Fault Refusal := .next (opLinkDown p s)

/-- PDELAY_MEASURE (R378). -/
def execPdelayMeasure (p : PortNo) (ns : Nat) (s : State) : Host.Outcome State Fault Refusal := .next (opPdelayMeasure p ns s)

/-- GPTP_SYNC (R378). -/
def execGptpSync (p : PortNo) (s : State) : Host.Outcome State Fault Refusal := .next (opGptpSync p s)

/-- GPTP_LOST (R378). -/
def execGptpLost (p : PortNo) (next : Fin 4) (s : State) : Host.Outcome State Fault Refusal := .next (opGptpLost p next s)

/-- IP_ADDRESS (R379). -/
def execIpAddress (grant : Option Lease) (other : Option Nat) (s : State) : Host.Outcome State Fault Refusal :=
  .next (opIpAddress grant other s)

/-- DHCP_RENEWAL (R379). -/
def execDhcpRenewal (extends_ other : Option Nat) (s : State) : Host.Outcome State Fault Refusal := .next (opDhcpRenewal extends_ other s)

/-- DHCP_LEASE_LOST (R379). -/
def execDhcpLeaseLost (other : Option Nat) (s : State) : Host.Outcome State Fault Refusal := .next (opDhcpLeaseLost other s)

/-- TUNNEL_AVTPDU_CLOSE (R382). -/
def execTunnelAvtpduClose (c : CanNo) (s : State) : Host.Outcome State Fault Refusal := .next (opTunnelAvtpduClose c s)

end Sys2Proof.Machine
end

