-- ==== Sys2Proof/Machine/FarRows.lean ====
section
/-! DEFINITION. The Modbus bridge (spec/14): far transactions, locks, the bridge commands and registers. -/

namespace Sys2Proof.Machine

open Sys2Proof

/-! ## The line -/

/-- The CRC of a Modbus RTU frame, low byte first. -/
def modbusCrc (p : List Byte) : List Byte := le 2 (p.foldl (fun c b => crcReflStep 0xA001 8 (c ^^^ b.toNat)) 0xFFFF)

def baudOf (line : Nat) : Nat := [9600, 19200, 38400, 57600, 115200, 230400, 460800, 921600].getD (bits line 0 4) 19200

/-- The bits of a character: start, 8 data bits, parity, stop (R384). -/
def charBits (line : Nat) : Nat := 9 + (if bits line 4 2 = 0 then 0 else 1) + (if bit line 6 then 2 else 1)

/-- How long a frame of `n` bytes takes, in µs. -/
def lineTime (line n : Nat) : Nat := (n * charBits line * 1000000 + baudOf line - 1) / baudOf line

/-- The silent interval t3.5 in µs (R384). -/
def silence (line : Nat) : Nat :=
  if baudOf line ≤ 19200 then (35 * charBits line * 100000 + baudOf line - 1) / baudOf line else 1750

def FarOpen.respTimeout (o : FarOpen) : Nat := 1000 * bits o.timing 0 16
def FarOpen.turnaround (o : FarOpen) : Nat := 1000 * bits o.timing 16 16
def FarPort.retries (k : FarPort) : Nat := bits k.opts 0 2
def FarPort.heddleMode (k : FarPort) : Bool := bit k.opts 2
def FarPort.lockTimeout (k : FarPort) : Nat := 100000 * bits k.lockT 0 16
def FarPort.heddleWait (k : FarPort) : Nat := 1000 * bits k.lockT 16 16

/-! ## Transactions -/

/-- A transaction enters the queue (R385). -/
def State.farEnter (s : State) (p : FarNo) (f : Far) : State :=
  let now := s.now
  s.onFarPort p fun k => { k with queue := k.queue ++ [if k.blocks f then { f with waitFrom := some now } else f] }

/-- The reply of a FAR_READ, FAR_WRITE, FAR_LOCK or FAR_UNLOCK transaction (R388). -/
def State.farReply (s : State) (p : FarNo) (f : Far) (exception : Nat) (data : List Byte) : List Byte :=
  match f.kind with
  | .read =>
    le 1 (farNum p) ++ le 1 f.unit ++ le 1 f.function ++ le 1 exception ++ le 2 data.length ++ le 1 (f.toStream.getD 0) ++ zeros 1 ++
      (if f.toStream.isSome then [] else data)
  | .write => le 1 (farNum p) ++ le 1 f.unit ++ le 1 f.function ++ le 1 exception ++ zeros 4
  | .lockWrite | .lockRead => le 1 (farNum p) ++ zeros 3 ++ le 4 (s.warp + (s.farPort p).lockTimeout)
  | .unlock | .release => le 1 (farNum p) ++ zeros 3

/-- Does a status carry that reply (R294, R388): OK, and for a FAR_READ or FAR_WRITE also FAR_ERROR and FAR_TIMEOUT? -/
def Far.replies (f : Far) (st : Status) : Bool :=
  decide (st = .ok) || (decide (f.kind = .read ∨ f.kind = .write) && decide (st = .farError ∨ st = .farTimeout))

/-- The command of a transaction ends with a status (R388). -/
def State.farDone (s : State) (p : FarNo) (f : Far) (c : Cmd) (st : Status) (exception : Nat) (data : List Byte) : State :=
  s.complete c st (if f.replies st then s.farReply p f exception data else [])

/-- A posted FAR_WRITE fails late (R391): its group stalls, its transactions on this port are held in place. -/
def State.farLate (s : State) (p : FarNo) (f : Far) (c : Cmd) (st : Status) (exception : Nat) : State :=
  match c.group with
  | none => s
  | some g =>
    let s := s.onFarPort p fun k =>
      { k with ahead := k.ahead ++ [{ f with attempts := 0, waitFrom := none, held := true }]
               queue := k.queue.map fun x => if x.group = some g ∧ x.kind ≠ .release then { x with held := true } else x }
    let s := s.lateError c st (exception + 2 ^ 8 * farNum p + 2 ^ 16 * f.unit + 2 ^ 24 * f.function)
    (s.record 0x5062 3 g.1 c.tag st.code).failGroup g c

/-- A transaction ends (R386, R387, R390 to R393). -/
def State.farEnd (s : State) (p : FarNo) (f : Far) (st : Status) (exception : Nat) (data : List Byte) : State :=
  let s := match st with
    | .farError => s.fault .B 3 0x5060 (farNum p) (256 * f.unit + f.function) exception
    | .farTimeout =>
      (s.onFarPort p fun k => { k with timeouts := satAdd 0xFFFF k.timeouts 1 }).fault .B 3 0x5061 (farNum p) (256 * f.unit + f.function) f.attempts
    | _ => s
  let s := s.onFarPort p fun k => k.fillItem p f exception data
  match f.cmd with
  | none => s
  | some id =>
    match s.cmd.findCmd id with
    | none => s
    | some c =>
      match f.kind with
      | .lockWrite =>
        if st = .ok then
          let read : Far := { f with kind := .lockRead, pdu := (le 1 3) ++ slice f.pdu 1 2 ++ be 2 1, attempts := 0 }
          s.onFarPort p fun k => { k with ahead := read :: k.ahead }
        else s.farDone p f c (if st = .farTimeout then .farTimeout else .locked) 0 []
      | .lockRead =>
        if st = .ok then
          if data.length = 2 ∧ ofBe data = f.tag then
            let l : FarLock := { heddle := false, src := f.src, group := f.group, unit := f.unit, at_ := s.now }
            let s := s.onFarPort p fun k => { k with lock := some l, lostBy := k.lostBy.filter fun x => x.2 != f.group }
            s.farDone p f c .ok 0 []
          else s.farDone p f c .locked 0 []
        else s.farDone p f c st 0 []
      | .unlock =>
        let s := if st = .ok then s.onFarPort p fun k => { k with lock := none } else s
        s.farDone p f c st exception []
      | _ => if c.posted && st.stalls then s.farLate p f c st exception else s.farDone p f c st exception data

/-- Has the line been silent for t3.5 (R384)? -/
def State.farQuiet (s : State) (p : FarNo) : Bool := decide (silence (s.farPort p).line ≤ s.since (s.farPort p).lineAt)

/-- The request goes on the line; it ends after its characters. -/
def State.farSend (s : State) (p : FarNo) (f : Far) (line timing : Nat) : State :=
  let b := le 1 f.unit ++ f.pdu
  let frame := b ++ modbusCrc b
  let f := { f with attempts := f.attempts + 1, waitFrom := none }
  let end_ := s.now + lineTime line frame.length
  (s.send (.rs485 (farNum p) frame)).onFarPort p fun k => { k with current := some { far := f, endAt := end_, line := line, timing := timing }, lineAt := end_ }

/-- The first transaction that may run, and the queue without it (R385, R391, R392). -/
def FarPort.pick (k : FarPort) : List Far → Option (Far × List Far)
  | [] => none
  | f :: l =>
    if f.held || k.blocks f then (k.pick l).map fun x => (x.1, f :: x.2) else some (f, l)

/-- The Otcel's own releases enter the queue as it has room (R385). -/
def FarPort.withLate (k : FarPort) : FarPort :=
  { k with queue := k.queue ++ k.late.take (16 - k.queue.length), late := k.late.drop (16 - k.queue.length) }

/-- FAR_TRANSACTION_START (R385), after the silence of t3.5; a shadow's ports issue none (R406). -/
def opFarTransactionStart (p : FarNo) (s : State) : State :=
  let k := (s.farPort p).withLate
  if k.current.isSome || !s.farQuiet p || decide (s.twin.role = .shadow) || !s.pwr.islandUp.get 3 || !s.pwr.domains.get 4 then s
  else
    match k.pick k.ahead, k.pick k.queue with
    | some (f, rest), _ => (s.onFarPort p fun _ => { k with ahead := rest }).farSend p f k.line k.timing
    | none, some (f, rest) => (s.onFarPort p fun _ => { k with queue := rest }).farSend p f k.line k.timing
    | none, none => s

/-- The data bytes that a read's response must carry, none for a write. -/
def Far.expected (f : Far) : Option Nat :=
  let q := ofBe (slice f.pdu 3 2)
  match f.function with
  | 1 | 2 => some ((q + 7) / 8)
  | 3 | 4 | 23 => some (2 * q)
  | _ => none

/-- Does a response PDU match the request (R386)? -/
def Far.answers (f : Far) (r : List Byte) : Bool :=
  match f.expected with
  | some n => decide (r.length = 2 + n) && u8 r 1 == n % 256
  | none => decide (r = f.pdu.take 5)

def State.stray (s : State) (p : FarNo) : State := s.onFarPort p fun k => { k with stray := satAdd 0xFFFF k.stray 1 }

/-- MODBUS_FRAME_RECEIVE (R386): a frame with its CRC; `charError` is a parity or framing error in any character. -/
def opModbusFrameReceive (p : FarNo) (frame : List Byte) (charError : Bool) (s : State) : State :=
  if !s.pwr.islandUp.get 3 || !s.pwr.domains.get 4 then s
  else
    let s := s.onFarPort p fun k => { k with lineAt := s.now }
    match (s.farPort p).current with
    | none => s.stray p
    | some o =>
      let f := o.far
      let n := frame.length
      let body := frame.take (n - 2)
      let r := body.drop 1
      if charError || decide (n < 4) || decide (frame.drop (n - 2) ≠ modbusCrc body) then
        s.onFarPort p fun k => { k with crcErr := satAdd 0xFFFF k.crcErr 1 }
      else if u8 body 0 ≠ f.unit ∨ (u8 r 0 ≠ f.function ∧ u8 r 0 ≠ f.function + 0x80) then s.stray p
      else
        let s := s.onFarPort p fun k => { k with current := none }
        if u8 r 0 = f.function + 0x80 then
          (s.onFarPort p fun k => { k with exceptions := satAdd 0xFFFF k.exceptions 1 }).farEnd p f .farError (u8 r 1) []
        else if f.answers r then s.farEnd p f .ok 0 (if f.expected.isSome then r.drop 2 else [])
        else s.farEnd p f .farError 0xF0 []

/-- FAR_TIMEOUT (R387). -/
def opFarTimeout (p : FarNo) (s : State) : State :=
  let k := s.farPort p
  match k.current with
  | none => s
  | some o =>
    let again := decide (o.far.kind = .read) && decide (o.far.attempts ≤ k.retries)
    if o.far.unit = 0 ∨ s.now < o.endAt + o.respTimeout ∨ (again = true ∧ s.farQuiet p = false) then s
    else
      let s := s.onFarPort p fun k => { k with current := none }
      if again then s.farSend p o.far o.line o.timing else s.farEnd p o.far .farTimeout 0 []

/-- FAR_TURNAROUND_END (R387): a broadcast completes. -/
def opFarTurnaroundEnd (p : FarNo) (s : State) : State :=
  match (s.farPort p).current with
  | none => s
  | some o =>
    if o.far.unit ≠ 0 ∨ s.now < o.endAt + o.turnaround then s
    else (s.onFarPort p fun k => { k with current := none }).farEnd p o.far .ok 0 []

/-- HEDDLE_WAIT_EXPIRY (R392). -/
def opHeddleWaitExpiry (p : FarNo) (s : State) : State :=
  let k := s.farPort p
  let late := fun (f : Far) => match f.waitFrom with
    | some t => decide (k.heddleWait ≤ s.since t) && !f.held
    | none => false
  match (k.ahead ++ k.queue).find? late with
  | none => s
  | some f => (s.onFarPort p fun k => { k with ahead := k.ahead.erase f, queue := if f ∈ k.ahead then k.queue else k.queue.erase f }).farEnd p f .locked 0 []

/-- The lock's mode as records and replies carry it. -/
def FarLock.mode (l : FarLock) : Nat := b2n l.heddle

/-- Source × 16 + group. -/
def FarLock.who (l : FarLock) : Nat :=
  16 * l.src.idx.1 + match l.group with
    | some g => g.1
    | none => 0

/-- LOCK_EXPIRED (R394). -/
def opLockExpired (p : FarNo) (s : State) : State :=
  let k := s.farPort p
  match k.lock with
  | none => s
  | some l =>
    if s.since l.at_ < k.lockTimeout then s
    else
      (s.onFarPort p fun k => { k.endLock l with lostBy := k.lostBy ++ [(l.src, l.group)] }).fault .B 3 0x5063 (farNum p) l.mode l.who

/-- Every lock is lost in a reset of I2 or I3 (R394). -/
def State.loseLocks (s : State) (island : Nat) : State :=
  s.forEach allFar fun p s =>
    match (s.farPort p).lock with
    | none => s
    | some l =>
      (s.onFarPort p fun k => { k.noWait with lock := none, lostBy := k.lostBy ++ [(l.src, l.group)] }).record 0x5064 3 (farNum p) l.mode
        island

/-! ## Commands -/

def farOfNum (n : Nat) : Option FarNo := if h : 1 ≤ n ∧ n ≤ 2 then some ⟨n - 1, by omega⟩ else none

/-- Has the command's group lost its lock on a port (R394)? -/
def State.lockGone (s : State) (p : FarNo) (q : Cmd) : Bool := (s.farPort p).lostBy.any fun x => decide (x.2 = q.group)

/-- May a transaction of the command enter the port's queue (R385)? One of a stalled group waits as its group's commands do (R391). -/
def State.farEnters (s : State) (p : FarNo) (q : Cmd) : Bool :=
  (s.farPort p).room && match q.group with
    | some g => !(s.group g).causes.stalled
    | none => true

/-- A transaction of a command. -/
def Cmd.far (q : Cmd) (kind : FarKind) (unit : Nat) (pdu : List Byte) : Far :=
  { kind := kind, cmd := some q.id, src := q.src, group := q.group, tag := q.tag, posted := q.posted, unit := unit, pdu := pdu,
    toStream := none, attempts := 0, held := false, waitFrom := none }

/-- Are a FAR_READ's parameters valid (R384, R387 to R389)? -/
def farReadOk (q : Cmd) : Bool :=
  let p := q.params
  let fn := u8 p 2
  let n := u16 p 6
  let wn := u16 p 10
  let data := if fn ≤ 2 then (n + 7) / 8 else 2 * n
  decide (1 ≤ u8 p 1) && decide (u8 p 1 ≤ 247) && decide (u8 p 3 ≤ 1) && decide (1 ≤ n) &&
    ((decide (fn = 1 ∨ fn = 2) && decide (n ≤ 2000) && decide (p.length = 8)) ||
     (decide (fn = 3 ∨ fn = 4) && decide (n ≤ 125) && decide (p.length = 8)) ||
     (decide (fn = 23) && decide (n ≤ 125) && decide (1 ≤ wn) && decide (wn ≤ 121) && decide (p.length = 12 + 2 * wn))) &&
    (decide (q.src ≠ .can) || (u8 p 3 == 0 && decide (data ≤ 36) && decide (p.length ≤ 44)))

/-- The PDU of a FAR_READ; the addresses and the register data travel as given, most significant byte first (R384). -/
def farReadPdu (p : List Byte) : List Byte :=
  let a := le 1 (u8 p 2) ++ slice p 4 2 ++ be 2 (u16 p 6)
  if u8 p 2 = 23 then a ++ slice p 8 2 ++ be 2 (u16 p 10) ++ le 1 (2 * u16 p 10) ++ p.drop 12 else a

/-- FAR_READ (R385, R388 to R390). -/
def opFarRead (r : CmdRef) (s : State) : State :=
  s.onCommand r 0x0D01 fun q s =>
    match farOfNum (u8 q.params 0) with
    | none => s.complete q .badParam []
    | some p =>
      let k := s.farPort p
      let stream := bit (u8 q.params 3) 0
      if !farReadOk q then s.complete q .badParam []
      else if s.lockGone p q then s.complete q .state []
      else if stream ∧ 8 ≤ k.items.length then s.complete q .busy []
      else if !s.farEnters p q then s
      else
        let f := q.far .read (u8 q.params 1) (farReadPdu q.params)
        let f := if stream then { f with toStream := some k.seq } else f
        let s := if stream then s.onFarPort p fun k => { k with items := k.items ++ [{ seq := k.seq, bytes := none }], seq := (k.seq + 1) % 256 }
          else s
        (s.handOver q .far).farEnter p f

/-- Are a FAR_WRITE's parameters valid (R384, R388, R389)? -/
def farWriteOk (q : Cmd) : Bool :=
  let p := q.params
  let fn := u8 p 2
  let n := u16 p 6
  let d := p.length - 8
  decide (8 ≤ p.length) && decide (u8 p 1 ≤ 247) && u8 p 3 == 0 &&
    ((decide (fn = 5) && n == 1 && (decide (p.drop 8 = [0xFF, 0x00]) || decide (p.drop 8 = [0x00, 0x00]))) ||
     (decide (fn = 6) && n == 1 && d == 2) ||
     (decide (fn = 15) && decide (1 ≤ n) && decide (n ≤ 1968) && d == (n + 7) / 8) ||
     (decide (fn = 16) && decide (1 ≤ n) && decide (n ≤ 123) && d == 2 * n)) &&
    (decide (q.src ≠ .can) || decide (d ≤ 36))

/-- The PDU of a FAR_WRITE. -/
def farWritePdu (p : List Byte) : List Byte :=
  let a := le 1 (u8 p 2) ++ slice p 4 2
  if u8 p 2 ≤ 6 then a ++ p.drop 8 else a ++ be 2 (u16 p 6) ++ le 1 (p.length - 8) ++ p.drop 8

/-- FAR_WRITE (R385, R388, R389, R391). -/
def opFarWrite (r : CmdRef) (s : State) : State :=
  s.onCommand r 0x0D02 fun q s =>
    match farOfNum (u8 q.params 0) with
    | none => s.complete q .badParam []
    | some p =>
      if !farWriteOk q then s.complete q .badParam []
      else if s.lockGone p q then s.complete q .state []
      else if !s.farEnters p q then s
      else (s.handOver q .far).farEnter p (q.far .write (u8 q.params 1) (farWritePdu q.params))

/-- The owner code of R393. -/
def FarPort.ownerCode (k : FarPort) (q : Cmd) : Nat :=
  (k.semBase + 16 * q.src.idx.1 + match q.group with
    | some g => g.1
    | none => 0) % 65536

/-- FAR_LOCK (R392, R393). A semaphore's transactions carry the owner code in their `tag`. -/
def opFarLock (r : CmdRef) (s : State) : State :=
  s.onCommand r 0x0D03 fun q s =>
    match farOfNum (u8 q.params 0) with
    | none => s.complete q .badParam []
    | some p =>
      let k := s.farPort p
      let unit := u8 q.params 1
      let other := match k.lock with
        | some l => decide (l.src ≠ q.src) || decide (l.group ≠ q.group)
        | none => false
      let now := s.now
      let head := le 1 (farNum p) ++ le 1 (b2n k.heddleMode) ++ zeros 2
      if q.params.length ≠ 4 ∨ zeroAt q.params [2, 3] = false ∨ (if k.heddleMode then unit ≠ 0 else unit = 0 ∨ 247 < unit) then
        s.complete q .badParam []
      else if k.heddleMode then
        if other then s.complete q .locked [] else
        let l : FarLock := { heddle := true, src := q.src, group := q.group, unit := 0, at_ := now }
        let s := s.onFarPort p fun k =>
          let k := { k with lock := some l, lostBy := k.lostBy.filter fun x => x.2 != q.group }
          { k with queue := k.queue.map fun f => if k.blocks f && f.waitFrom.isNone then { f with waitFrom := some now } else f }
        s.complete q .ok (head ++ le 4 (s.warp + k.lockTimeout))
      else if !s.farEnters p q then s
      else
        let f := q.far .lockWrite unit ((le 1 6) ++ be 2 (bits k.opts 16 16) ++ be 2 (k.ownerCode q))
        (s.handOver q .far).farEnter p { f with tag := k.ownerCode q }

/-- FAR_UNLOCK (R392 to R394). -/
def opFarUnlock (r : CmdRef) (s : State) : State :=
  s.onCommand r 0x0D04 fun q s =>
    match farOfNum (u8 q.params 0) with
    | none => s.complete q .badParam []
    | some p =>
      let k := s.farPort p
      if q.params.length ≠ 4 ∨ zeroAt q.params [1, 2, 3] = false then s.complete q .badParam []
      else
        match k.lock with
        | none => s.complete q .state []
        | some l =>
          if l.src ≠ q.src ∨ l.group ≠ q.group then s.complete q .state []
          else if l.heddle then
            (s.onFarPort p fun k => { k.noWait with lock := none }).complete q .ok (le 1 (farNum p) ++ le 1 1 ++ zeros 2)
          else if !s.farEnters p q then s
          else (s.handOver q .far).farEnter p (q.far .unlock l.unit k.releasePdu)

/-! ## Registers (R395) -/

def FarPort.statusWord (k : FarPort) : Nat :=
  min 16 k.queue.length + (match k.lock with
    | some l => 2 ^ 5 + 2 ^ 6 * l.src.idx.1 + 2 ^ 9 * (match l.group with
      | some g => g.1
      | none => 0)
    | none => 0) + 2 ^ 13 * b2n k.current.isSome + 2 ^ 14 * b2n ((k.ahead ++ k.queue).any Far.held)

def FarPort.word (k : FarPort) : Nat → Nat
  | 0x00 => k.line
  | 0x04 => k.timing
  | 0x08 => k.opts
  | 0x0C => k.lockT
  | 0x10 => k.semBase
  | 0x14 => k.statusWord
  | 0x18 => k.crcErr + 2 ^ 16 * k.stray
  | 0x1C => k.timeouts + 2 ^ 16 * k.exceptions
  | _ => 0

def rangeOk (v lo hi : Nat) : Bool := decide (lo ≤ v) && decide (v ≤ hi)

def FarPort.write (k : FarPort) (off v : Nat) : Option FarPort :=
  match off with
  | 0x00 => if bits v 0 4 ≤ 7 ∧ bits v 4 2 ≤ 2 then some { k with line := v % 512 } else none
  | 0x04 => if rangeOk (bits v 0 16) 10 10000 && rangeOk (bits v 16 16) 10 10000 then some { k with timing := v } else none
  | 0x08 => some { k with opts := v &&& 0xFFFF0007 }
  | 0x0C => if rangeOk (bits v 0 16) 1 600 && decide (bits v 16 16 ≤ 10000) then some { k with lockT := v } else none
  | 0x10 => if rangeOk (v % 65536) 1 0xFF00 then some { k with semBase := v % 65536 } else none
  | _ => some k

def State.readFar (s : State) (off : Nat) : Nat :=
  if h : 0x800 ≤ off ∧ off < 0x880 ∧ off % 4 = 0 then (s.farPort ⟨(off - 0x800) / 0x40, by omega⟩).word (off % 0x40) else s.readEth off

def State.writeFar (s : State) (off v : Nat) : Status × State :=
  if h : 0x800 ≤ off ∧ off < 0x880 ∧ off % 4 = 0 then
    let p : FarNo := ⟨(off - 0x800) / 0x40, by omega⟩
    match (s.farPort p).write (off % 0x40) v with
    | some k => (.ok, s.onFarPort p fun _ => k)
    | none => s.ethReject
  else s.writeEth off v

/-- A reset of I3 at the bridge (R319, R353, R394): the open transactions end with FAR_TIMEOUT, locks are lost, counters 0, and the stream
keeps the items that queued reads have reserved. -/
def State.resetFar (s : State) : State :=
  let s := s.loseLocks 3
  let s := s.forEach allFar fun p s =>
    match (s.farPort p).current with
    | none => s
    | some o => (s.onFarPort p fun k => { k with current := none }).farEnd p o.far .farTimeout 0 []
  s.forEach allFar fun p s => s.onFarPort p fun k =>
    let l := k.items.filter fun i => i.bytes.isNone && (k.ahead ++ k.queue).any fun f => f.toStream == some i.seq
    { k with crcErr := 0, stray := 0, timeouts := 0, exceptions := 0, items := l, seq := if l.isEmpty then 0 else k.seq }

/-- A reset of I2 at the bridge (R320, R394): its transactions and receive streams are gone. -/
def State.dropFar (s : State) : State :=
  let s := s.loseLocks 2
  s.forEach allFar fun p s => s.onFarPort p fun k => { k with queue := [], ahead := [], late := [], current := none, items := [], seq := 0 }

/-! ## The meanings of the commands -/

/-- FAR_TRANSACTION_START (R385). -/
def execFarTransactionStart (p : FarNo) (s : State) : Host.Outcome State Fault Refusal := .next (opFarTransactionStart p s)

/-- MODBUS_FRAME_RECEIVE (R386). -/
def execModbusFrameReceive (p : FarNo) (frame : List Byte) (charError : Bool) (s : State) : Host.Outcome State Fault Refusal :=
  .next (opModbusFrameReceive p frame charError s)

/-- FAR_TIMEOUT (R387). -/
def execFarTimeout (p : FarNo) (s : State) : Host.Outcome State Fault Refusal := .next (opFarTimeout p s)

/-- FAR_TURNAROUND_END (R387). -/
def execFarTurnaroundEnd (p : FarNo) (s : State) : Host.Outcome State Fault Refusal := .next (opFarTurnaroundEnd p s)

/-- HEDDLE_WAIT_EXPIRY (R392). -/
def execHeddleWaitExpiry (p : FarNo) (s : State) : Host.Outcome State Fault Refusal := .next (opHeddleWaitExpiry p s)

/-- LOCK_EXPIRED (R394). -/
def execLockExpired (p : FarNo) (s : State) : Host.Outcome State Fault Refusal := .next (opLockExpired p s)

/-- FAR_READ (R388). -/
def execFarRead (r : CmdRef) (s : State) : Host.Outcome State Fault Refusal := .next (opFarRead r s)

/-- FAR_WRITE (R388). -/
def execFarWrite (r : CmdRef) (s : State) : Host.Outcome State Fault Refusal := .next (opFarWrite r s)

/-- FAR_LOCK (R392). -/
def execFarLock (r : CmdRef) (s : State) : Host.Outcome State Fault Refusal := .next (opFarLock r s)

/-- FAR_UNLOCK (R393). -/
def execFarUnlock (r : CmdRef) (s : State) : Host.Outcome State Fault Refusal := .next (opFarUnlock r s)

end Sys2Proof.Machine
end

