-- ==== Sys2Proof/Machine/AccessOps.lean ====
section
/-! DEFINITION. When the radio polls (R429, R430) and when the release stream runs (R438 to R442). -/

namespace Sys2Proof.Machine

open Sys2Proof

/-- The warp time at which a wake of this instant restarts it (R56): the saved value plus the time asleep, rounded up to a whole frame. -/
def State.warpAwake (s : State) : Nat := (s.wt.saved.toNat + s.since s.wt.savedAt + 999) / 1000 * 1000

/-! ## The radio -/

/-- A field of ACC_CTRL (R449). -/
def AccCfg.radioEn (k : AccCfg) : Bool := bit k.ctrl 0
def AccCfg.uwbCh (k : AccCfg) : Nat := bits k.ctrl 1 1
/-- The radio channel that UWB_CH selects (R422). -/
def AccCfg.radioChannel (k : AccCfg) : Nat := if k.uwbCh = 0 then 5 else 9
def AccCfg.releaseEn (k : AccCfg) : Bool := bit k.ctrl 2
def AccCfg.doorIn (k : AccCfg) : Nat := bits k.ctrl 8 5
def AccCfg.tamperIn (k : AccCfg) : Nat := bits k.ctrl 16 5
def AccCfg.tamperPol (k : AccCfg) : Bool := bit k.ctrl 21
def AccCfg.dMax (k : AccCfg) : Nat := bits k.range 0 16
def AccCfg.relCh (k : AccCfg) : Nat := bits k.can 0 3
def AccCfg.relIde (k : AccCfg) : Bool := bit k.can 3
def AccCfg.relSlot (k : AccCfg) : Nat := bits k.can 8 7
def AccCfg.leaseTime (k : AccCfg) : Nat := bits k.lease 0 16

/-- Why the radio does not poll, as 0x7030 names it; none when it may (R430, R450). In Sleep the conditions on the clocks are not
asked (R435; log entry 60). -/
def State.radioCause (s : State) : Option Nat :=
  let awake := decide (s.pwr.state ≠ .sleep)
  if s.pwr.state = .deep ∨ s.pwr.state = .off then some 5
  else if !s.acc.cfg.radioEn then some 4
  else if awake && !s.clk.xoOk then some 0
  else if awake && !(s.clk.onPll.get 7 && s.clk.i7Run) then some 1
  else if s.twin.role = .shadow then some 3
  else none

/-- In Sleep PD9 is powered during poll bursts only (R494). -/
def State.radioPower (s : State) (on : Bool) : State :=
  if s.pwr.state = .sleep then s.onPwr fun p => { p with domains := p.domains.put 9 on } else s

/-- Polling stops: the burst and the presence of every token end (R430). -/
def State.radioStop (s : State) (cause : Nat) : State :=
  if s.acc.running then
    ((s.onAcc fun a => { a with running := false, burst := none, present := 0, granted := 0, absent := Tab.fill 32 0 }).radioPower false).record 0x7030 7 cause 0 0
  else s

/-- Polling stops or resumes as its conditions say (R430). -/
def State.radioEval (s : State) : State :=
  match s.radioCause with
  | some c => s.radioStop c
  | none =>
    if s.acc.running then s
    else (s.onAcc fun a => { a with running := true }).record 0x7031 7 s.acc.cfg.uwbCh 0 0

/-- A door event (R429): it starts a burst at once when none is running. -/
def State.doorEvent (s : State) : State :=
  let t := s.now
  s.onAcc fun a => { a with doorAt := some t, doorReq := a.doorReq || a.burst.isNone }

/-- The PERIOD code of R449 while the radio polls: the time since the latest door event decides (R429). -/
def State.pollCode (s : State) : Nat :=
  match s.acc.doorAt with
  | none => 3
  | some t =>
    let d := s.since t
    if d ≤ 600000000 then 0 else if d ≤ 3600000000 then 1 else if d ≤ 86400000000 then 2 else 3

/-- The poll period in µs (R429); in Sleep at least 1 s. -/
def State.pollPeriod (s : State) : Nat :=
  let p := match s.pollCode with
    | 0 => 250000
    | 1 => 1000000
    | 2 => 4000000
    | _ => 16000000
  if s.pwr.state = .sleep then max p 1000000 else p

/-- Is a failure delay in force (R434)? -/
def State.inDelay (s : State) : Bool :=
  match s.acc.delayEnd with
  | some t => decide (s.now < t)
  | none => false

/-- DELAY_LEFT in s, rounded up (R449). -/
def State.delayLeft (s : State) : Nat :=
  match s.acc.delayEnd with
  | some t => (t - s.now + 999999) / 1000000
  | none => 0

/-! ## The release stream -/

/-- The counter at which REKEY is set (R441). -/
def rekeyAt : Nat := 0xFFFFFFFF00000000

/-- LEASE_OK (R445). -/
def Access.leased (a : Access) : Bool := a.cfg.leaseTime == 0 || a.leaseOk

/-- LEASE_OK as the stream goes by it (R438, R448). -/
def Access.relLeased (a : Access) : Bool := a.rel.leaseTime == 0 || a.leaseOk

/-- LEASE_LEFT (R449). -/
def State.leaseLeft (s : State) : Nat :=
  let a := s.acc
  if a.cfg.leaseTime = 0 then 0xFFFFFFFF
  else if a.leaseOk then (a.leaseFrom + (3600 * a.cfg.leaseTime : Nat) - (s.rcd.opSeconds : Nat)).toNat
  else 0

/-- REL_CH as a channel. -/
def AccCfg.channel (k : AccCfg) : Option CanNo := if h : k.relCh < 6 then some ⟨k.relCh, h⟩ else none

/-- STOP_REASON: the first condition of R438 that fails, 0 when all hold; a SET counts from its REL_SLOT on (R448). -/
def State.stopReason (s : State) : Nat :=
  let a := s.acc
  if !a.rel.releaseEn then 1
  else if a.pcc.isNone then 2
  else if a.lockedOut then 3
  else if a.tamper then 4
  else if !a.relLeased then 5
  else if rekeyAt ≤ a.counter then 6
  else if s.twin.role = .shadow then 7
  else if (match a.rel.channel with
      | some c => (s.canCh c).mode == 1 && (s.canCh c).fdEn
      | none => false) = false then 8
  else if !s.cmd.serving || s.flt.gate.closed then 9
  else 0

/-- The 48 bytes of a frame of the stream, with the present counter (R440). -/
def State.releaseBytes (s : State) (command reason : Nat) : List Byte :=
  let a := s.acc
  let nonce := le 4 a.relEpoch ++ le 8 a.counter
  let aad := le 4 (a.rel.id + (if a.rel.relIde then 2 ^ 31 else 0)) ++ nonce
  let plain := le 1 command ++ le 1 reason ++ zeros 2 ++ padTo 8 Config.serial ++ le 4 s.frame
  nonce ++ gcmSealed a.relKey nonce aad plain ++ zeros 4

/-- A frame of the stream goes to TBR with the next counter, a pending one replaced, unless it is refused at loading (R346, R347, R439, R441). -/
def State.loadRelease (s : State) (command reason : Nat) : State :=
  match s.acc.rel.channel with
  | none => s
  | some c =>
    let k := s.acc.rel
    let x := s.canCh c
    let f := CanFrame.own (if k.relIde then k.id else k.id % 2048) k.relIde false true x.brsEn 48 (s.releaseBytes command reason)
    let now := s.now
    if !x.loadable f then s else
    let s := s.onAcc fun a => { a with counter := a.counter + 1, reserved := if a.counter = a.reserved then a.reserved + 65536 else a.reserved }
    s.onCanCh c fun x => { x with tx := x.tx.upd 4 fun y => y.replace f now }

/-- RELEASE_ON rises when every condition holds (R438). -/
def State.relStart (s : State) : State :=
  if s.acc.relOn || decide (s.stopReason ≠ 0) then s
  else (s.onAcc fun a => { a with relOn := true }).record 0x7021 2 s.acc.relEpoch (s.acc.counter % 2 ^ 32) 0

/-- RELEASE_ON falls (R438, R442): a STOP frame goes out for reasons 1 to 6. -/
def State.relStop (s : State) : State :=
  let r := s.stopReason
  if s.acc.relOn && decide (r ≠ 0) then
    let s := (s.onAcc fun a => { a with relOn := false }).record 0x7022 2 r s.acc.relEpoch (s.acc.counter % 2 ^ 32)
    if r ≤ 6 then s.loadRelease 0xA5 r else s
  else s

/-- RELEASE_STOPPED (R438, R442). -/
def opReleaseStopped (s : State) : State := s.relStop

/-- The frame mark (R438, R439, R448): a SET takes effect at its REL_SLOT; RELEASE_ON follows its conditions; a frame is loaded at REL_SLOT. -/
def State.relMark (s : State) : State :=
  let s := if s.frame % 100 = s.acc.cfg.relSlot then s.onAcc fun a => { a with rel := a.cfg } else s
  let s := s.relStop.relStart
  if s.stopReason = 0 ∧ s.frame % 100 = s.acc.rel.relSlot then s.loadRelease 0x5A 0 else s

/-! ## The meanings of the commands -/

/-- RELEASE_STOPPED (R442). -/
def execReleaseStopped (s : State) : Host.Outcome State Fault Refusal := .next (opReleaseStopped s)

end Sys2Proof.Machine
end

