-- ==== Sys2Proof/Machine/SwitchRows.lean ====
section
/-! DEFINITION. The commands and events of the switch island (spec/05, spec/06): the rows SWITCH_CMD to SW_CLEAR_LATCH. -/

namespace Sys2Proof.Machine

open Sys2Proof

/-! ## Commands -/

/-- May a channel use its clock group in a PWM mode (R141)? -/
def State.groupOk (s : State) (c : ChNo) : Bool :=
  let x := s.chan c
  let g := if x.mode = .off then x.cfg.pg else x.run.pg
  decide ((swClass c).minPeriod ≤ s.sw.pg.get g)

/-- The rules a channel command's fields keep (R137, R140, R152); R141 is judged apart. -/
def cmdFieldsOk (c : ChNo) (k : ChCmd) : Bool :=
  decide (k.duty < 1024) && decide (k.phase < 1024) &&
  match k.mode with
  | .off | .on => k.duty == 0 && k.phase == 0 && k.arg == 0
  | .pwm => k.arg == 0
  | .pulse => k.duty == 0 && k.phase == 0 && decide (1 ≤ k.arg) && decide (k.arg ≤ 4194303) && decide ((swClass c).tMin ≤ k.arg)
  | .softOn => k.duty == 0 && decide (1 ≤ k.arg) && decide (k.arg ≤ 10000)
  | .softPwm => decide (1 ≤ k.arg) && decide (k.arg ≤ 10000)

/-- The command a CMD payload carries for a channel (R152). -/
def switchCmd (p : BitVec 64) (c : ChNo) : Option ChCmd :=
  match Mode.ofNum (pf p 18 3) with
  | none => none
  | some m =>
    let k : ChCmd := { mode := m, duty := pf p 22 10, phase := pf p 32 10, arg := pf p 42 22 }
    if pf p 21 1 = 0 ∧ pf p 8 10 ≤ 999 ∧ cmdFieldsOk c k then some k else none

/-- CMD_INVALID from the switch island (R152, R166): a record only, since R126 does not list it among the plan faults that enter the queue
(DEDUCED, log entry 12). -/
def State.switchInvalid (s : State) (p0 : Nat) (p : BitVec 64) : State :=
  s.planRecord 4 0x1010 p0 (pf p 0 32) (pf p 32 32)

/-- SWITCH_CMD (R152, R120, R125). -/
def opSwitchCmd (crcOk : Bool) (s : State) : State :=
  match s.receiveWord 0 tyCmd crcOk with
  | (none, s) => s
  | (some p, s) =>
    let s := s.onSw fun w => { w with commit := { w.commit with count := w.commit.count + 1 } }
    match chOfNum (pf p 0 8) with
    | none => s.switchInvalid (pf p 0 8) p
    | some c =>
      if s.leads (s.chan c).cfg.twinShared then s
      else if (s.chan c).owner ≠ .weft then s.islandPlanFault 4 0x9013 0 0xFF (chNum c)
      else
        match switchCmd p c with
        | none => s.switchInvalid (chNum c) p
        | some k =>
          if k.mode.isPwm && !s.groupOk c then s.switchInvalid (chNum c) p
          else s.onChan c fun x => { x with nextReg := some (CmdReg.keep p) }

/-- CH_STATE as a word (R164). -/
def State.stateWord (s : State) (x : Chan) : Nat :=
  x.mode.num + 8 * b2n x.output + 16 * s.ownerNum x.owner x.cfg.twinShared + 64 * b2n x.orphan.isSome + 128 * b2n x.sleepHeld +
    2 ^ 8 * x.duty + 2 ^ 18 * x.phase + 2 ^ 28 * (if x.mode = .off then 0 else x.run.segment)

/-- CH_FLAGS as a word (R164). -/
def Chan.flagsWord (x : Chan) : Nat :=
  let f := x.flags
  let (pz, tw, la) := match x.prot with
    | .normal => (false, false, false)
    | .pause _ => (true, false, false)
    | .thermalWait _ => (false, true, false)
    | .latched => (false, false, true)
  b2n f.short + 2 * b2n f.overcurrent + 4 * b2n f.thermal + 8 * b2n pz + 16 * b2n la + 32 * b2n tw +
    64 * b2n f.openLoadOn + 128 * b2n f.openLoadOff + 256 * b2n f.shed + 512 * b2n f.dutyClamped +
    1024 * b2n f.pulseDone + 2048 * b2n f.orphanSafe + 4096 * b2n f.cfgDenied + 8192 * b2n f.sleepTrip +
    16384 * b2n f.profileInvalid

/-- The answer of a read request (R151): value, and tick; none for an invalid request. Sums are in mA. -/
def State.switchRead (s : State) (src qty : Nat) : Option (Nat × Nat) :=
  match chOfNum src with
  | some c =>
    let x := s.chan c
    match qty with
    | 0 => some (x.meas.iMeas, x.meas.sampleTick)
    | 1 => if swClass c = .L then some (x.meas.iFine, x.meas.sampleTick) else none
    | 2 => some (x.meas.iAvg, x.meas.sampleTick)
    | 3 => some (s.stateWord x, s.warp)
    | 4 => some (x.flagsWord, s.warp)
    | 5 => some (sgn x.meas.tj, s.warp)
    | _ => none
  | none =>
    if h : 0x80 ≤ src ∧ src ≤ 0x82 then
      let p : PwrNo := ⟨src - 0x80, by omega⟩
      let total := fun (f : Meas → Nat) => ((inputChans p).map fun c => f (s.chan c).meas).sum
      match qty with
      | 0 => some ((s.sw.guards.get p).sumMa, (s.sw.guards.get p).sumTick)
      | 2 => some (total fun m => m.iAvg, (s.sw.guards.get p).sumTick)
      | _ => none
    else none

/-- A read request's answer as a DATA payload (R151, R220). -/
def readAnswer (value src qty tick : Nat) : BitVec 64 :=
  BitVec.ofNat 64 (value % 2 ^ 32 + 2 ^ 32 * src + 2 ^ 40 * qty + 2 ^ 48 * (tick % 65536))

/-- SWITCH_READ_REQUEST (R151). -/
def opSwitchReadRequest (crcOk : Bool) (s : State) : State :=
  match s.receiveWord 0 tyData crcOk with
  | (none, s) => s
  | (some p, s) =>
    let src := pf p 0 8
    let qty := pf p 8 8
    match (if pf p 16 48 = 0 then s.switchRead src qty else none) with
    | some (v, t) => s.sendWord 4 tyData (readAnswer v src qty t)
    | none => (s.sendWord 4 tyData (readAnswer 0xDEAD0000 src 0xFF s.warp)).switchInvalid src p

/-- A weft's latched command takes effect on its channel (R123, R149, R152, R175, R184, R324). -/
def State.applyWeftCmd (s : State) (c : ChNo) (p : BitVec 64) : State :=
  match switchCmd p c with
  | none => s
  | some k =>
    if s.flt.forceSafe then s
    else if s.mute (s.chan c).cfg.twinShared then s
    else
      let before := s.phaseSet
      match s.changeMode c k with
      | (.done, s) => s.rephase before
      | (.latched, s) => s.record 0x1022 4 (chNum c) 0 0
      | (.shed, s) => s.record 0x1022 4 (chNum c) 1 0
      | (.invalid, s) => (s.record 0x1011 4 (chNum c) (s.chan c).cfg.profile 1).switchInvalid (chNum c) p

/-- The latched command of a channel falls due (R123, R330). -/
def State.switchDue (s : State) (c : ChNo) (checkOk : Bool) : State :=
  match (s.chan c).latched with
  | none => s
  | some d =>
    if s.warp < d.at_ then s
    else
      let s := s.onChan c fun x => { x with latched := none }
      if checkOk && d.good then s.applyWeftCmd c d.payload else s.fault .D 4 0xA140 (chNum c) 1 4

/-! ## The pulse generator's events -/

/-- The microsecond in which an edge falls (R142): at its instant, or, while the island runs on the HFO, at the nearest point of a grid of 25 ns
(R51, R144). -/
def State.edgeUs (s : State) (t : Nat) : Nat := if s.clk.onPll.get 4 then t / 50 else (4 * t + 2) / 5 * 5 / 200

/-- Is an edge due at or before the end of the present microsecond? -/
def State.edgeDue (s : State) (t : Nat) : Bool := decide (s.edgeUs t ≤ s.now)

/-- PWM_PERIOD_START (R138, R139, R140, R142, R145). A change that waits applies at this L′; AUTO_PHASE's phase stands in place of any the host
commands. While protection holds the output off no ramp runs (R167). -/
def opPwmPeriodStart (c : ChNo) (s : State) : State :=
  let x := s.chan c
  let t := x.wave.nextOn
  if !x.mode.isPwm || !s.edgeDue t then s
  else
    let base := s.hyperBase
    let period := s.chPeriod c
    let before := s.phaseSet
    let s := s.onChan c fun x =>
      let ph := fun (d : Nat) => x.wave.autoPend.getD (if x.autoPhased then x.phase else d)
      match x.wave.pend with
      | some k =>
        { x with mode := k.mode
                 phase := ph k.phase
                 duty := if k.mode = .pwm then k.duty else 0
                 wave := { x.wave with target := k.duty, arg := k.arg, rampFrom := t, pend := none, autoPend := none } }
      | none => { x with phase := ph x.phase, wave := { x.wave with autoPend := none } }
    let s := s.onChan c fun x =>
      let ramp := x.wave.arg * 1000 * 50
      let run := t - x.wave.rampFrom
      if x.prot ≠ .normal then { x with wave := { x.wave with nextOn := firstOn base period x.phase (t + 1), offAt := none } }
      else
      match x.mode with
      | .softOn =>
        if ramp ≤ run then ({ x with mode := .on, duty := 0, phase := 0, wave := { x.wave with offAt := none } }).drive true (t / 50)
        else ({ x with duty := 1024 * run / ramp }).beginWave c base period t
      | .softPwm =>
        if ramp ≤ run then ({ x with mode := .pwm, duty := x.wave.target }).beginWave c base period t
        else ({ x with duty := x.wave.target * run / ramp }).beginWave c base period t
      | _ => x.beginWave c base period t
    s.rephase before

/-- PWM_OFF_EDGE (R142). -/
def opPwmOffEdge (c : ChNo) (s : State) : State :=
  match (s.chan c).wave.offAt with
  | none => s
  | some t =>
    if s.edgeDue t && (s.chan c).mode.isPwm then
      s.onChan c fun x => { x.drive false (t / 50) with wave := { x.wave with offAt := none, fellAt := t } }
    else s

/-- PULSE_END (R137). -/
def opPulseEnd (c : ChNo) (s : State) : State :=
  let x := s.chan c
  if x.mode = .pulse ∧ x.prot = .normal ∧ x.wave.pulseEnd ≤ s.now then
    (s.enter c { mode := .off, duty := 0, phase := 0, arg := 0 }).onChan c fun x =>
      { x with flags := { x.flags with pulseDone := true } }
  else s

/-- A write of PG_PERIOD (R142, R143): the status a data-port write of it gets (R303). -/
def State.writePg (s : State) (g : Fin 4) (v : Nat) : Status × State :=
  let members := allCh.filter fun c =>
    let x := s.chan c
    decide ((if x.mode = .off then x.cfg.pg else x.run.pg) = g)
  let reject := s.onSw fun w => { w with cfgReject := true }
  if v < 2000 ∨ 5000000 < v ∨ 50000000 % v ≠ 0 then (.badParam, reject)
  else if members.any (fun c => (s.chan c).mode.isPwm && decide (v < (swClass c).minPeriod)) then (.badParam, reject)
  else if members.any (fun c => decide ((s.chan c).owner = .weft)) then (.denied, reject)
  else (.ok, s.onSw fun w => { w with pgPend := w.pgPend.put g (some v) })

/-- PG_PERIOD_WRITE (R143). -/
def opPgPeriodWrite (g : Fin 4) (v : Nat) (s : State) : State := (s.writePg g v).2

/-- PROFILE_SEGMENT_END (R147). -/
def opProfileSegmentEnd (c : ChNo) (s : State) : State :=
  let x := s.chan c
  if x.run.segment = 0 ∨ s.now < s.segmentEnd c then s
  else
    let n := u8 (s.profile x.run.profile) 0
    s.onChan c fun x =>
      if x.run.segment < n then { x with run := { x.run with segment := x.run.segment + 1 } }
      else { x with run := { x.run with segment := 0 }, need := 0 }

/-! ## Measurement -/

/-- Is the switch island sampling (R160, R181)? -/
def State.scanning (s : State) : Bool := decide (s.pwr.state = .run) || decide (s.pwr.state = .idle)

/-- Over-current counting of one sample (R169). -/
def Chan.countOver (x : Chan) (mA lim slew now : Nat) : Chan :=
  if x.output && decide (x.riseAt + slew ≤ now) then { x with overRun := if lim < mA then x.overRun + 1 else 0 } else x

/-- Is a sample below OL_ON_THRESH (R177, R178), and the value compared? -/
def Chan.belowThresh (x : Chan) (c : ChNo) (mA fine : Nat) : Bool × Nat :=
  match swClass c with
  | .L =>
    if x.cfg.olThresh ≤ 2000 then (decide (fine ≠ 0xFFFF) && decide (fine < x.cfg.olThresh), fine)
    else (decide (mA * 50 < x.cfg.olThresh), mA * 50)
  | _ => (decide (mA < x.cfg.olThresh), mA)

/-- On-state open-load counting of one sample (R177), not for 10 ms after a switch-off (R180); the edges of the pulse generator are none. -/
def Chan.countOpen (x : Chan) (c : ChNo) (mA fine blank now : Nat) : Chan :=
  if x.cfg.olThresh = 0 then { x with ol := { x.ol with counted := 0, since := none, back := none } }
  else if x.output = false then x
  else if decide (x.offAt ≠ 0) && decide (now < x.offAt + 10000) then { x with ol := { x.ol with counted := 0, since := none, back := none } }
  else if now < x.onAt + blank ∨ now < x.riseAt + (swClass c).slew then x
  else
    let (below, v) := x.belowThresh c mA fine
    if below then
      { x with ol := { x.ol with counted := x.ol.counted + 1, since := some (x.ol.since.getD now), last := v, back := none } }
    else { x with ol := { x.ol with counted := 0, since := none, last := v, back := some (x.ol.back.getD now) } }

/-- The guard judges a sum S (0.1 A) on an input (R181, R182, R185). -/
def State.judgeSum (s : State) (p : PwrNo) (sum : Nat) : State :=
  let e := s.envelope p
  s.onGuard p fun g =>
    let g := { g with lastS := sum, lastE := e, maxSum := max g.maxSum sum, sumTick := s.warp % 2 ^ 32
                      okSince := if sum ≤ e then some (g.okSince.getD s.now) else none }
    if 11 * e < 10 * sum then { g with first := some (g.first.getD s.now), latest := s.now } else { g with first := none }

/-- The sum of an input's channels over one scan, once each has been sampled in it (R150, R181); the next scan begins. -/
def State.scanSum (s : State) (p : PwrNo) : State :=
  let l := (inputChans p).map fun c => s.sw.scan.get c
  if l.all Option.isSome then
    let ma := (l.map fun v => v.getD 0).sum
    let s := s.onSw fun w => { w with scan := w.scan.mapIdx fun c v => if swInput c = p then none else v }
    let s := (s.onGuard p fun g => { g with sumMa := ma }).onSupply fun v => { v with sums := v.sums.put p (ma / 100) }
    s.judgeSum p (ma / 100)
  else s

/-- The value a 12-bit converter of a class gives for a current in mA (R150): whole steps of its resolution, up to its range. -/
def SwClass.convert (k : SwClass) (mA : Nat) : Nat :=
  let step := match k with
    | .H => 50 | .M => 20 | .L => 6
  min (mA / step) 4095 * step

/-- The fine value of a class L sample, in 20 µA (R150): above 40 mA it reads over range, 0xFFFF (R164). -/
def fineValue (mA fine : Nat) : Nat := if 40 < mA ∨ 2000 < fine then 0xFFFF else fine

/-- SCAN_SAMPLE (R150, R169, R177, R182): channel, current in mA and in 20 µA as the converters take it, junction temperature in 0.1 °C, and the
sum on PWR_D in 0.1 A, which the guard takes with the scan's last sample (DEDUCED, log entry 125). -/
def opScanSample (c : ChNo) (current fine20 : Nat) (tj : Int) (dSum : Nat) (s : State) : State :=
  if !s.scanning then s
  else
    let mA := (swClass c).convert current
    let fine := fineValue current fine20
    let lim := s.limit c
    let blank := profBlank (s.profile (s.chan c).run.profile)
    let s := s.onChan c fun x =>
      let on := x.output && decide (x.riseAt + (swClass c).slew ≤ s.now)
      let m := { x.meas with
        iMeas := mA
        onSum := if on then x.meas.onSum + mA else x.meas.onSum
        onCnt := if on then x.meas.onCnt + 1 else x.meas.onCnt
        iFine := if swClass c = .L then fine else 0
        iPeak := max x.meas.iPeak mA
        sampleTick := s.warp % 2 ^ 32
        tj := tj
        frameSum := x.meas.frameSum + mA
        frameCnt := x.meas.frameCnt + 1 }
      (({ x with meas := m }).countOver mA lim (swClass c).slew s.now).countOpen c mA fine blank s.now
    let s := (s.onSw fun w => { w with scan := w.scan.put c (some mA) }).scanSum (swInput c)
    if c.1 = 47 then (s.onSupply fun v => { v with sums := v.sums.put 3 dSum }).judgeSum 3 dSum else s

/-! ## Trips -/

/-- Is the gate of a channel under protection's eye: on, or sleep-held and on (R160, R168)? -/
def Chan.armed (x : Chan) : Bool := x.output

/-- A trip of a sleep-held channel in Sleep: a trip by R171, but latched without a retry (R160); record 0x1004 waits for the wake. -/
def State.sleepTrip (s : State) (c : ChNo) (thermal : Bool) (reading : Nat) : State :=
  let s := s.countTrip c (!thermal)
  let s := s.onChan c fun x =>
    { x with prot := .latched, tripDue := some (b2n thermal)
             flags := { x.flags with sleepTrip := true, short := x.flags.short || !thermal, thermal := x.flags.thermal || thermal } }
  (s.record (if thermal then 0x1014 else 0x1012) 4 (chNum c) (s.chan c).trips reading).fault .A 4 0x1015 (chNum c) 0 (s.chan c).counts.trips

/-- SHORT_TRIP (R133, R168, R171): the current at switch-off in mA, above the class's level. -/
def opShortTrip (c : ChNo) (mA : Nat) (s : State) : State :=
  let x := s.chan c
  if !x.armed || decide (mA ≤ (swClass c).shortTrip) then s
  else if s.pwr.state = .sleep then s.sleepTrip c false mA
  else
    let s := s.countTrip c true
    let s := s.onChan c fun x => { x with flags := { x.flags with short := true } }
    (s.record 0x1012 4 (chNum c) (s.chan c).trips mA).afterTrip c

/-- OVERCURRENT_TRIP (R169, R171): the fourth consecutive sample above the limit in force. -/
def opOvercurrentTrip (c : ChNo) (s : State) : State :=
  let x := s.chan c
  if !x.output || decide (x.overRun < 4) || !s.scanning then s
  else
    let lim := s.limit c
    let s := s.countTrip c true
    let s := s.onChan c fun x => { x with flags := { x.flags with overcurrent := true } }
    (s.record 0x1013 4 (chNum c) (s.chan c).trips lim).afterTrip c

/-- THERMAL_SHUTDOWN (R170, R171): the junction sensor's reading in 0.1 °C. -/
def opThermalShutdown (c : ChNo) (tj : Int) (s : State) : State :=
  let s := s.onChan c fun x => { x with meas := { x.meas with tj := tj } }
  if tj < 1700 ∨ (s.chan c).armed = false then s
  else if s.pwr.state = .sleep then s.sleepTrip c true (sgn tj)
  else
    let s := s.countTrip c false
    let s := s.onChan c fun x => { x with flags := { x.flags with thermal := true } }
    (s.record 0x1014 4 (chNum c) (s.chan c).trips (sgn tj)).afterTrip c

/-- PAUSE_EXPIRY (R172); retry stops in Sleep (R160). -/
def opPauseExpiry (c : ChNo) (tj : Int) (s : State) : State :=
  match (s.chan c).prot with
  | .pause e =>
    if decide (s.now < e) || !s.scanning then s
    else
      let s := s.onChan c fun x => { x with meas := { x.meas with tj := tj } }
      if tj < 1450 then s.restart c else s.onChan c fun x => { x with prot := .thermalWait s.now }
  | _ => s

/-- A wait of 60 s ends in the latch (R172). -/
def State.coolingLatch (s : State) (c : ChNo) : State :=
  (s.onChan c fun x => { x with prot := .latched }).fault .A 4 0x1015 (chNum c) 1 (s.chan c).counts.trips

/-- COOLING_RESTART (R172): below 145 °C, unless the wait has lasted 60 s; retry stops in Sleep (R160). -/
def opCoolingRestart (c : ChNo) (tj : Int) (s : State) : State :=
  match (s.chan c).prot with
  | .thermalWait t =>
    if !s.scanning then s
    else
      let s := s.onChan c fun x => { x with meas := { x.meas with tj := tj } }
      if 1450 ≤ tj then s else if 60000000 ≤ s.since t then s.coolingLatch c else s.restart c
  | _ => s

/-- COOLING_LIMIT (R172). -/
def opCoolingLimit (c : ChNo) (s : State) : State :=
  match (s.chan c).prot with
  | .thermalWait t => if decide (s.since t < 60000000) || !s.scanning then s else s.coolingLatch c
  | _ => s

/-- RETRY_WINDOW_EXPIRY (R174): RETRY_WINDOW spent in NORMAL since the most recent trip. -/
def opRetryWindowExpiry (c : ChNo) (s : State) : State :=
  let x := s.chan c
  if x.prot = .normal ∧ max 1 x.cfg.retryWindow * 100000 ≤ s.since x.normalAt then
    s.onChan c fun x => { x with trips := 0 }
  else s

/-! ## Open load -/

/-- OPEN_LOAD_ON_DETECT (R177). -/
def opOpenLoadOnDetect (c : ChNo) (s : State) : State :=
  let x := s.chan c
  match x.ol.since with
  | none => s
  | some t =>
    if x.cfg.olThresh = 0 ∨ x.ol.onOpen = true ∨ x.ol.counted < 8 ∨ s.since t < x.cfg.olTime * 1000 ∨ s.scanning = false then s
    else
      let s := s.onChan c fun x => { x with flags := { x.flags with openLoadOn := true }, ol := { x.ol with onOpen := true } }
      s.record 0x1016 4 (chNum c) 0 x.ol.last

/-- LOAD_RETURNED_ON (R177). -/
def opLoadReturnedOn (c : ChNo) (s : State) : State :=
  let x := s.chan c
  match x.ol.back with
  | none => s
  | some t =>
    if x.cfg.olThresh = 0 ∨ x.ol.onOpen = false ∨ s.since t < x.cfg.olTime * 1000 ∨ s.scanning = false then s
    else (s.onChan c fun x => { x with ol := { x.ol with onOpen := false } }).record 0x1018 4 (chNum c) 0 0

/-- Has the off-state detector evaluated the channel for 10 ms (R179, R180): OFF, NORMAL and enabled for 10 ms before that, its input not low,
outside Sleep, not a shadow's shared channel? -/
def State.offDetects (s : State) (c : ChNo) : Bool :=
  let x := s.chan c
  x.cfg.olOffEn && decide (x.mode = .off) && decide (x.prot = .normal) && decide (20000 ≤ s.since x.ol.offFrom) &&
    decide (10000 ≤ s.since x.ol.evalFrom) && !(s.supply.low.get (swInput c)) && s.scanning && !s.leads x.cfg.twinShared

/-- A running off-state evaluation begins anew on some channels (R180). -/
def State.offAnew (s : State) (f : ChNo → Bool) : State :=
  let t := s.now
  s.onSw fun w => { w with chans := w.chans.mapIdx fun c x => if f c then { x with ol := { x.ol with evalFrom := t } } else x }

/-- OPEN_LOAD_OFF_DETECT (R179): the output voltage in mV, above the threshold of 4.0 V ± 10 %, wherever in that band it lies. A condition once
detected lasts until LOAD_RETURNED, whatever the channel's mode meanwhile (DESIGN CHOICE, log entry 148). -/
def opOpenLoadOffDetect (c : ChNo) (mv : Nat) (s : State) : State :=
  if s.offDetects c && !(s.chan c).ol.offOpen && decide (3600 < mv) then
    (s.onChan c fun x =>
      { x with flags := { x.flags with openLoadOff := true }, ol := { x.ol with offOpen := true, evalFrom := s.now } }).record
      0x1017 4 (chNum c) 1 mv
  else s

/-- LOAD_RETURNED_OFF (R179): the output voltage in mV, below the threshold. -/
def opLoadReturnedOff (c : ChNo) (mv : Nat) (s : State) : State :=
  if s.offDetects c && (s.chan c).ol.offOpen && decide (mv < 4400) then
    (s.onChan c fun x => { x with ol := { x.ol with offOpen := false, evalFrom := s.now } }).record 0x1018 4 (chNum c) 1 0
  else s

/-! ## The envelope guard -/

/-- One shed of the guard on an input, or the end of shedding (R183). -/
def State.guardShed (s : State) (p : PwrNo) : State :=
  match s.nextShed p with
  | none => s.onGuard p fun g => { g with shedding := false }
  | some c => (s.onGuard p fun g => { g with shedding := true, nextShed := s.now + 100 }).shed c 0 (s.sw.guards.get p).lastS

/-- ENVELOPE_EVENT (R182, R183, R185). -/
def opEnvelopeEvent (p : PwrNo) (s : State) : State :=
  let g := s.sw.guards.get p
  match g.first with
  | none => s
  | some f =>
    if g.open_ = true ∨ g.latest - f ≤ 200 ∨ s.scanning = false then s
    else
      let s := s.onGuard p fun g => { g with open_ := true, event := true }
      let s := s.onSw fun w => { w with envEvents := satAdd 0xFFFF w.envEvents 1 }
      let s := s.fault .S 4 0x1020 p.1 g.lastS g.lastE
      if p = 3 then (s.onGuard p fun g => { g with shedding := true, okSince := none }).railUpdate else s.guardShed p

/-- SHED (R183): 100 µs after the shed before, the next channel, while S > E. -/
def opShed (p : PwrNo) (s : State) : State :=
  let g := s.sw.guards.get p
  if p = 3 ∨ g.shedding = false ∨ s.now < g.nextShed ∨ s.scanning = false then s
  else if g.lastE < g.lastS then s.guardShed p
  else s.onGuard p fun g => { g with shedding := false }

/-- ENVELOPE_EVENT_CLOSE (R182): shedding by R183, which PWR_D has none of, is over. -/
def opEnvelopeEventClose (p : PwrNo) (s : State) : State :=
  let g := s.sw.guards.get p
  if g.open_ = true ∧ (g.shedding = false ∨ p = 3) ∧ 1000 ≤ s.since g.latest then s.onGuard p fun g => { g with open_ := false }
  else s

/-- RECHARGE_RESUME (R185). -/
def opRechargeResume (s : State) : State :=
  let g := s.sw.guards.get 3
  match g.okSince with
  | none => s
  | some t => if g.shedding = true ∧ 1000 ≤ s.since t then (s.onGuard 3 fun g => { g with shedding := false }).railUpdate else s

/-! ## Orphan hold, resets, host actions -/

/-- The instant a commander was last heard (R154); the passing of a channel to a weft counts for the Loom. -/
def Switch.heardAt (w : Switch) (host : Bool) : Nat := if host then w.svcHb.getD 0 else max (w.loomHb.getD 0) w.passAt

/-- ORPHAN_ENTER (R154): 3 ms without a HEARTBEAT of the Loom, or of the service core. -/
def opOrphanEnter (host : Bool) (s : State) : State :=
  if s.since (s.sw.heardAt host) < 3000 then s
  else s.orphanEvent (b2n host) (s.owned (if host then .host else .weft))

/-- ORPHAN_SAFE (R155, R159, R160): SAFE_AFTER expires; suspended for a sleep-held channel from the entry into Sleep until the wake. -/
def opOrphanSafe (c : ChNo) (s : State) : State :=
  match (s.chan c).orphan with
  | none => s
  | some o =>
    if ((s.chan c).sleepHeld && s.pwr.entering) = false ∧ o.policy = 1 ∧ o.done = false ∧ o.safeAfter * 1000 ≤ s.since o.origin ∧ s.scanning then s.orphanSafe c else s

/-- The commands that wait at the switch island end with STATE (R158). -/
def State.endWaiting (s : State) (st : Status) : State :=
  let ids := (allCh.flatMap fun c => (s.chan c).waiting.map fun r => r.cmd) ++ s.sw.adopts.map fun a => a.cmd
  s.forEach ids fun id s => s.completeId id st []

/-- The logic end of the barrier starts anew with its island (log entry 96): the commands that wait there end with STATE. -/
def State.endBarrier (s : State) : State :=
  let f := s.fld
  let ids := (f.waiting.map fun r => r.cmd) ++ (f.sentCfg.map fun x => x.1) ++ f.queue.filterMap fun w => w.cmd
  let s := (s.onFld fun f => Field.resetWith { f.side with done := [], rxSeq := none }).onSupply fun v => { v with fpPresent := false }
  s.forEach ids fun id s => s.completeId id .state []

/-- The island's channels, registers and profiles at their reset values (R158); its held counters stay. -/
def State.switchClear (s : State) : State :=
  let s := s.endWaiting .state
  let s := s.endBarrier
  let counts := (Tab.fill 48 ChCounts.reset).mapIdx fun c _ => (s.chan c).counts
  ((s.onSw fun w => Switch.resetWith counts w.saved w.envEvents).rebase).clearMem 0x21000100 0x21000200

/-- SWITCH_RESET (R158). -/
def opSwitchReset (s : State) : State :=
  let on := (allCh.filter fun c => (s.chan c).output).length
  s.switchClear.fault .D 4 0x1003 on 0 0

/-- PEAK_RESET (R164). -/
def opPeakReset (c : ChNo) (s : State) : State := s.onChan c fun x => { x with meas := { x.meas with iPeak := 0 } }

/-- SW_CLEAR_LATCH (R176). -/
def opSwClearLatch (r : CmdRef) (s : State) : State :=
  s.onCommand r 0x0204 fun k s =>
    match chOfNum (u8 k.params 0) with
    | none => s.complete k .badParam []
    | some c =>
      if k.params.length ≠ 4 ∨ zeroAt k.params [1, 2, 3] = false then s.complete k .badParam []
      else
        let x := s.chan c
        if x.prot = .latched ∧ x.meas.tj < 1450 then
          let before := s.phaseSet
          let s := (s.onChan c fun x =>
            { x with prot := .normal, normalAt := s.now, trips := 0, mode := .off, duty := 0, phase := 0, run := { x.run with segment := 0 }
                     wave := { x.wave with pend := none, autoPend := none }, ol := { x.ol with offFrom := s.now } }).rephase before
          let s := s.record 0x1019 4 (chNum c) (sgn x.meas.tj) 0
          s.complete k .ok (le 1 (chNum c) ++ zeros 3 ++ le 4 (sgn x.meas.tj))
        else s.complete k .state []

/-! ## The meanings of the commands -/

/-- SWITCH_CMD (R152). -/
def execSwitchCmd (crcOk : Bool) (s : State) : Host.Outcome State Fault Refusal := .next (opSwitchCmd crcOk s)

/-- SWITCH_READ_REQUEST (R151). -/
def execSwitchReadRequest (crcOk : Bool) (s : State) : Host.Outcome State Fault Refusal := .next (opSwitchReadRequest crcOk s)

/-- PWM_PERIOD_START (R142). -/
def execPwmPeriodStart (c : ChNo) (s : State) : Host.Outcome State Fault Refusal := .next (opPwmPeriodStart c s)

/-- PWM_OFF_EDGE (R142). -/
def execPwmOffEdge (c : ChNo) (s : State) : Host.Outcome State Fault Refusal := .next (opPwmOffEdge c s)

/-- PULSE_END (R137). -/
def execPulseEnd (c : ChNo) (s : State) : Host.Outcome State Fault Refusal := .next (opPulseEnd c s)

/-- PG_PERIOD_WRITE (R143). -/
def execPgPeriodWrite (g : Fin 4) (v : Nat) (s : State) : Host.Outcome State Fault Refusal := .next (opPgPeriodWrite g v s)

/-- PROFILE_SEGMENT_END (R147). -/
def execProfileSegmentEnd (c : ChNo) (s : State) : Host.Outcome State Fault Refusal := .next (opProfileSegmentEnd c s)

/-- SCAN_SAMPLE (R150). -/
def execScanSample (c : ChNo) (mA fine : Nat) (tj : Int) (dSum : Nat) (s : State) : Host.Outcome State Fault Refusal :=
  .next (opScanSample c mA fine tj dSum s)

/-- ORPHAN_ENTER (R154). -/
def execOrphanEnter (host : Bool) (s : State) : Host.Outcome State Fault Refusal := .next (opOrphanEnter host s)

/-- ORPHAN_SAFE (R155). -/
def execOrphanSafe (c : ChNo) (s : State) : Host.Outcome State Fault Refusal := .next (opOrphanSafe c s)

/-- PEAK_RESET (R164). -/
def execPeakReset (c : ChNo) (s : State) : Host.Outcome State Fault Refusal := .next (opPeakReset c s)

/-- SHORT_TRIP (R168). -/
def execShortTrip (c : ChNo) (mA : Nat) (s : State) : Host.Outcome State Fault Refusal := .next (opShortTrip c mA s)

/-- OVERCURRENT_TRIP (R169). -/
def execOvercurrentTrip (c : ChNo) (s : State) : Host.Outcome State Fault Refusal := .next (opOvercurrentTrip c s)

/-- THERMAL_SHUTDOWN (R170). -/
def execThermalShutdown (c : ChNo) (tj : Int) (s : State) : Host.Outcome State Fault Refusal := .next (opThermalShutdown c tj s)

/-- PAUSE_EXPIRY (R172). -/
def execPauseExpiry (c : ChNo) (tj : Int) (s : State) : Host.Outcome State Fault Refusal := .next (opPauseExpiry c tj s)

/-- COOLING_RESTART (R172). -/
def execCoolingRestart (c : ChNo) (tj : Int) (s : State) : Host.Outcome State Fault Refusal := .next (opCoolingRestart c tj s)

/-- COOLING_LIMIT (R172). -/
def execCoolingLimit (c : ChNo) (s : State) : Host.Outcome State Fault Refusal := .next (opCoolingLimit c s)

/-- RETRY_WINDOW_EXPIRY (R174). -/
def execRetryWindowExpiry (c : ChNo) (s : State) : Host.Outcome State Fault Refusal := .next (opRetryWindowExpiry c s)

/-- OPEN_LOAD_ON_DETECT (R177). -/
def execOpenLoadOnDetect (c : ChNo) (s : State) : Host.Outcome State Fault Refusal := .next (opOpenLoadOnDetect c s)

/-- LOAD_RETURNED_ON (R177). -/
def execLoadReturnedOn (c : ChNo) (s : State) : Host.Outcome State Fault Refusal := .next (opLoadReturnedOn c s)

/-- OPEN_LOAD_OFF_DETECT (R179). -/
def execOpenLoadOffDetect (c : ChNo) (mv : Nat) (s : State) : Host.Outcome State Fault Refusal := .next (opOpenLoadOffDetect c mv s)

/-- LOAD_RETURNED_OFF (R179). -/
def execLoadReturnedOff (c : ChNo) (mv : Nat) (s : State) : Host.Outcome State Fault Refusal := .next (opLoadReturnedOff c mv s)

/-- ENVELOPE_EVENT (R182). -/
def execEnvelopeEvent (p : PwrNo) (s : State) : Host.Outcome State Fault Refusal := .next (opEnvelopeEvent p s)

/-- SHED (R184). -/
def execShed (p : PwrNo) (s : State) : Host.Outcome State Fault Refusal := .next (opShed p s)

/-- ENVELOPE_EVENT_CLOSE (R182). -/
def execEnvelopeEventClose (p : PwrNo) (s : State) : Host.Outcome State Fault Refusal := .next (opEnvelopeEventClose p s)

/-- RECHARGE_RESUME (R185). -/
def execRechargeResume (s : State) : Host.Outcome State Fault Refusal := .next (opRechargeResume s)

/-- SW_CLEAR_LATCH (R176). -/
def execSwClearLatch (r : CmdRef) (s : State) : Host.Outcome State Fault Refusal := .next (opSwClearLatch r s)

end Sys2Proof.Machine
end

