-- ==== Sys2Proof/Machine/SwitchHost.lean ====
section
/-! DEFINITION. The switch island's registers (R163 to R165, R193), the host's commands to it (R153, R187 to R189, R298) and
its part of the frame mark (R122, R143, R145, R150). -/

namespace Sys2Proof.Machine

open Sys2Proof

/-! ## Registers -/

/-- A write of one configuration register by its offset (R164); none when the value is out of its range. -/
def ChCfg.write (k : ChCfg) (c : ChNo) (off v : Nat) : Option ChCfg :=
  match off with
  | 0x00 => some { k with
      profile := bits v 0 4
      pg := ⟨bits v 4 2, by unfold bits; exact Nat.mod_lt _ (by decide)⟩
      autoPhase := bit v 6
      olOffEn := bit v 7
      policy := bits v 8 2
      safeValue := bit v 10
      sleepHold := bit v 11
      twinShared := bit v 12 && decide (swClass c = .M) }
  | 0x04 => if 1 ≤ bits v 0 16 ∧ bits v 0 16 ≤ (swClass c).rating then some { k with iNom := bits v 0 16 } else none
  | 0x08 => if 10 ≤ bits v 0 20 ∧ bits v 0 20 ≤ 600000 then some { k with safeAfter := bits v 0 20 } else none
  | 0x0C => some { k with retryN := bits v 0 4, p0Ms := bits v 8 8, retryWindow := bits v 16 16 }
  | 0x10 => some { k with olThresh := bits v 0 16, olTime := bits v 16 16 }
  | _ => some k

/-- Milliseconds of a retry pause still to run (R164). -/
def State.pauseLeft (s : State) (x : Chan) : Nat :=
  match x.prot with
  | .pause e => (e - s.now) / 1000
  | _ => 0

/-- A read of a channel register (R163, R164). -/
def State.readChan (s : State) (c : ChNo) (off : Nat) : Nat :=
  let x := s.chan c
  match off with
  | 0x00 => x.cfg.word
  | 0x04 => x.cfg.iNom
  | 0x08 => x.cfg.safeAfter
  | 0x0C => x.cfg.protWord
  | 0x10 => x.cfg.olWord
  | 0x20 => s.stateWord x
  | 0x24 => x.flagsWord
  | 0x28 => x.meas.iMeas
  | 0x2C => x.meas.iFine
  | 0x30 => x.meas.iAvg
  | 0x34 => x.meas.iPeak
  | 0x38 => x.meas.sampleTick
  | 0x3C => unsigned 16 x.meas.tj
  | 0x40 => x.counts.switches
  | 0x44 => x.counts.onSeconds
  | 0x48 => x.counts.trips
  | 0x4C => x.trips + 2 ^ 8 * (s.pauseLeft x % 2 ^ 24)
  | _ => 0

/-- Clear the W1C flags written as 1 (R164, R192). -/
def ChFlags.clear (f : ChFlags) (v : Nat) : ChFlags :=
  { short := f.short && !bit v 0
    overcurrent := f.overcurrent && !bit v 1
    thermal := f.thermal && !bit v 2
    openLoadOn := f.openLoadOn && !bit v 6
    openLoadOff := f.openLoadOff && !bit v 7
    shed := f.shed && !bit v 8
    dutyClamped := f.dutyClamped && !bit v 9
    pulseDone := f.pulseDone && !bit v 10
    orphanSafe := f.orphanSafe && !bit v 11
    cfgDenied := f.cfgDenied && !bit v 12
    sleepTrip := f.sleepTrip && !bit v 13
    profileInvalid := f.profileInvalid && !bit v 14 }

/-- Set CFG_DENIED (R164). -/
def State.chDenied (s : State) (c : ChNo) : State :=
  s.onChan c fun x => { x with flags := { x.flags with cfgDenied := true } }

/-- Is a channel's configuration closed to the host (R164)? -/
def Chan.cfgClosed (x : Chan) : Bool := decide (x.owner = .weft) || x.orphan.isSome

/-- A shared channel that this module does not drive, or that is inhibited, is OFF (R162, R402). -/
def State.muteChan (s : State) (c : ChNo) : State :=
  let x := s.chan c
  if (s.mute x.cfg.twinShared || s.inhibited x.cfg.twinShared) && decide (x.mode ≠ .off) then
    (s.changeMode c { mode := .off, duty := 0, phase := 0, arg := 0 }).2
  else s

/-- New configuration of a channel (R164). The off-state detector counts from where it is enabled (R179). A channel that becomes shared on a
module that does not lead is OFF (R162). -/
def State.configure (s : State) (c : ChNo) (k : ChCfg) : State :=
  let before := s.phaseSet
  let t := s.now
  let s := s.onChan c fun x => { x with cfg := k, ol := if k.olOffEn && !x.cfg.olOffEn then { x.ol with offFrom := t } else x.ol }
  (s.muteChan c).rephase before

/-- A write of a channel register (R163, R164), with the status of a data-port write (R303). -/
def State.writeChan (s : State) (c : ChNo) (off v : Nat) : Status × State :=
  let x := s.chan c
  if off ≤ 0x10 then
    if x.cfgClosed then (.denied, s.chDenied c)
    else
      match x.cfg.write c off v with
      | none => (.badParam, s.chDenied c)
      | some k => (.ok, s.configure c k)
  else if off = 0x24 then (.ok, s.onChan c fun x => { x with flags := x.flags.clear v })
  else if off = 0x50 then (.ok, if bit v 0 then s.onChan c fun x => { x with meas := { x.meas with iPeak := 0 } } else s)
  else (.ok, s)

/-- The orphan mask of the channels, SW01 in bit 0. -/
def State.swOrphans (s : State) : Nat := s.sw.chans.mask fun x => x.orphan.isSome

/-- Requests that wait for admission on an input (R193). -/
def State.admitWait (s : State) (p : PwrNo) : Nat :=
  ((inputChans p).map fun c => countIf (fun r => r.firstMark.isSome) (s.chan c).waiting).sum

/-- Has a commander been heard within 3 ms (R165)? -/
def State.hbAlive (s : State) (h : Option Nat) : Bool :=
  match h with
  | none => false
  | some t => decide (s.since t < 3000)

/-- A read of the common block (R165, R193). PG_PERIOD reads the period in force, also between an accepted write and the boundary at which it takes
effect (DESIGN CHOICE, log entry 149). -/
def State.readSwitch (s : State) (off : Nat) : Nat :=
  let w := s.sw
  match off with
  | 0x00 => b2n (s.hbAlive w.loomHb) + 2 * b2n (s.hbAlive w.svcHb) + 2 ^ 8 * b2n w.cfgReject + 2 ^ 9 * b2n w.switchReset
  | 0x10 => w.pg.get 0
  | 0x14 => w.pg.get 1
  | 0x18 => w.pg.get 2
  | 0x1C => w.pg.get 3
  | 0x20 => s.swOrphans % 2 ^ 32
  | 0x24 => s.swOrphans / 2 ^ 32
  | 0x40 => w.guards.mask (fun g => g.first.isSome) + 2 ^ 4 * w.guards.mask (fun g => g.shedding) +
      2 ^ 8 * w.guards.mask (fun g => g.event) + 2 ^ 12 * b2n w.thermOver.isSome + 2 ^ 13 * b2n w.thermShed.isSome
  | 0x44 => s.admitWait 0 % 256 + 2 ^ 8 * (s.admitWait 1 % 256) + 2 ^ 16 * (s.admitWait 2 % 256)
  | 0x48 => (w.guards.get 0).budget
  | 0x4C => (w.guards.get 1).budget
  | 0x50 => (w.guards.get 2).budget
  | 0x54 => (w.guards.get 3).budget
  | 0x58 => s.admitBudget 0
  | 0x5C => s.admitBudget 1
  | 0x60 => s.admitBudget 2
  | 0x64 => w.envEvents
  | _ => 0

/-- A write of HOST_BUDGET_p (R186). -/
def State.writeBudget (s : State) (p : PwrNo) (v : Nat) : Status × State :=
  if 600 < bits v 0 16 then (.badParam, s.onSw fun w => { w with cfgReject := true })
  else (.ok, s.onGuard p fun g => { g with budget := bits v 0 16 })

/-- A write of the common block (R165, R193). -/
def State.writeSwitch (s : State) (off v : Nat) : Status × State :=
  match off with
  | 0x00 => (.ok, s.onSw fun w => { w with cfgReject := w.cfgReject && !bit v 8, switchReset := w.switchReset && !bit v 9 })
  | 0x10 => s.writePg 0 (bits v 0 23)
  | 0x14 => s.writePg 1 (bits v 0 23)
  | 0x18 => s.writePg 2 (bits v 0 23)
  | 0x1C => s.writePg 3 (bits v 0 23)
  | 0x40 => (.ok, s.onSw fun w => { w with guards := w.guards.mapIdx fun p g => { g with event := g.event && !bit v (8 + p.1) } })
  | 0x48 => s.writeBudget 0 v
  | 0x4C => s.writeBudget 1 v
  | 0x50 => s.writeBudget 2 v
  | 0x54 => s.writeBudget 3 v
  | _ => (.ok, s)

/-- Is a user profile in use (R149)? -/
def State.profileInUse (s : State) (i : Nat) : Bool :=
  (s.weft.store.any fun w => match w with
    | none => false
    | some w => w.decl.chans.any fun d => d.profile == i) ||
  s.sw.chans.any fun x => x.cfg.profile == i && decide (x.mode ≠ .off)

/-! ## Host commands -/

/-- The payload of a host command's SERVICE word (R153): the fields of R152 at OFFSET 0. -/
def ChCmd.payload (k : ChCmd) (c : ChNo) : BitVec 64 :=
  BitVec.ofNat 64 (chNum c + 2 ^ 18 * k.mode.num + 2 ^ 22 * k.duty + 2 ^ 32 * k.phase + 2 ^ 42 * k.arg)

/-- SW_SET (R153, R298): judged, then sent to the switch island in a SERVICE word (R58), where it waits for a frame mark. -/
def opSwSet (r : CmdRef) (s : State) : State :=
  s.onCommand r 0x0201 fun q s =>
    let p := q.params
    match chOfNum (u8 p 0), Mode.ofNum (u8 p 1) with
    | some c, some m =>
      let k : ChCmd := { mode := m, duty := u16 p 2, phase := u16 p 4, arg := u32 p 8 }
      if p.length ≠ 12 ∨ zeroAt p [6, 7] = false ∨ cmdFieldsOk c k = false then s.complete q .badParam []
      else if s.twinDenies (s.chan c).cfg.twinShared || (s.inhibited (s.chan c).cfg.twinShared && decide (m ≠ .off)) then
        s.complete q .denied []
      else if (s.chan c).owner = .weft then s.complete q .denied []
      else if (s.chan c).orphan.isSome then s.complete q .state []
      else if s.flt.forceSafe then s.complete q .state []
      else if k.mode.isPwm && !s.groupOk c then s.complete q .badParam []
      else (s.handOver q .target).sendWord 9 tyService (k.payload c) q.id
    | _, _ => s.complete q .badParam []

/-- Duty of a mode in 1/1024, targets for the soft modes (R187). -/
def dutyOf (m : Mode) (duty : Nat) : Nat :=
  match m with
  | .off => 0
  | .on | .pulse | .softOn => 1024
  | .pwm | .softPwm => duty

/-- The commanded duty of a channel. -/
def Chan.dutyNow (x : Chan) : Nat :=
  match x.wave.pend with
  | some k => dutyOf k.mode k.duty
  | none => dutyOf x.mode (if x.mode = .softPwm then x.wave.target else x.duty)

/-- Division rounding up. -/
def ceilDiv (a b : Nat) : Nat := (a + b - 1) / b

/-- The need of a switch-on, 0.1 A rounded up (R147, R188). -/
def State.onNeed (s : State) (c : ChNo) (k : ChCmd) : Nat :=
  let x := s.chan c
  let p := s.profile x.cfg.profile
  let seg := (List.range (u8 p 0)).map fun i => min (x.cfg.iNom * profLim p i / 16) (swClass c).shortTrip * 1024
  ceilDiv ((x.cfg.iNom * dutyOf k.mode k.duty :: seg).foldl max 0) 102400

/-- What admission asks of a request (R187, R188): nothing, or a need; the flag tells a switch-on. -/
def State.needOf (s : State) (c : ChNo) (k : ChCmd) : Option (Nat × Bool) :=
  let x := s.chan c
  if k.mode = .off ∨ x.prot ≠ .normal then none
  else if x.mode = .off then some (s.onNeed c k, true)
  else
    let d0 := x.dutyNow
    let d1 := dutyOf k.mode k.duty
    if d0 < d1 then some (ceilDiv (x.cfg.iNom * (d1 - d0)) 102400, false) else none

/-- Take the first waiting command off a channel. -/
def State.popWaiting (s : State) (c : ChNo) : State := s.onChan c fun x => { x with waiting := x.waiting.drop 1 }

/-- A host command takes effect on its channel at a frame mark (R153). What may have changed since it arrived is judged again: the group's
frequency (R141) and who drives a shared channel (R162, R402). -/
def State.applyHostCmd (s : State) (c : ChNo) (r : HostReq) : State :=
  let before := s.phaseSet
  let shared := (s.chan c).cfg.twinShared
  let s := s.popWaiting c
  if r.body.mode.isPwm && !s.groupOk c then s.completeId r.cmd .badParam []
  else if (s.mute shared || s.inhibited shared) && decide (r.body.mode ≠ .off) then s.completeId r.cmd .denied []
  else
  match s.changeMode c r.body with
  | (.done, s) =>
    let s := s.onChan c fun x => { x with owner := .host }
    (s.rephase before).completeId r.cmd .ok (le 1 (chNum c) ++ le 1 r.body.mode.num ++ zeros 2 ++ le 8 s.warp)
  | (.latched, s) => s.completeId r.cmd .state []
  | (.shed, s) => s.completeId r.cmd .limit []
  | (.invalid, s) => (s.record 0x1011 4 (chNum c) (s.chan c).cfg.profile 0).completeId r.cmd .badParam []

/-- The sum R of R188 on an input, before the requests of this mark. -/
def State.admitted (s : State) (p : PwrNo) : Nat :=
  ((inputChans p).map fun c =>
    let x := s.chan c
    (if x.run.segment ≠ 0 ∧ x.owner = .host then x.need else 0) + x.incNeed).sum

/-- What the requests of one mark have done: the needs admitted so far, and the channels whose later commands wait for another mark. -/
structure MarkRun where
  extra : Tab Nat 4
  shut  : List ChNo
  deriving DecidableEq, Repr

/-- One waiting request at a frame mark (R153, R175, R184, R188, R189); `base` is R as the mark began. A command that needs no admission leaves
its channel open for the next; one that asks for it does not, whatever becomes of it (R189). -/
def State.evalRequest (s : State) (c : ChNo) (r : HostReq) (base : Tab Nat 4) (m : MarkRun) : State × MarkRun :=
  let x := s.chan c
  if x.owner = .weft then ((s.popWaiting c).completeId r.cmd .denied [], m)
  else if x.orphan.isSome ∨ s.flt.forceSafe then ((s.popWaiting c).completeId r.cmd .state [], m)
  else if r.body.mode ≠ .off ∧ x.prot = .latched then ((s.popWaiting c).completeId r.cmd .state [], m)
  else
    match s.needOf c r.body with
    | none => (s.applyHostCmd c r, m)
    | some (need, sw) =>
      if sw && (x.flags.shed || !profValid (s.profile x.cfg.profile)) then (s.applyHostCmd c r, { m with shut := c :: m.shut })
      else
        let p := swInput c
        let have_ : Int := (s.admitBudget p : Int) - (s.sw.guards.get p).maxSum - base.get p - m.extra.get p
        if (need : Int) ≤ have_ ∧ s.sw.thermOver = none then
          let s := s.applyHostCmd c r
          let s := s.onChan c fun x => if sw then { x with need := need } else { x with incNeed := need }
          (s, { extra := m.extra.upd p fun e => e + need, shut := c :: m.shut })
        else
          let r' := { r with firstMark := some (r.firstMark.getD s.now), lastNeed := need, lastHave := have_ }
          (s.onChan c fun x => { x with waiting := r' :: x.waiting.drop 1 }, { m with shut := c :: m.shut })

/-- Insert by arrival. -/
def insertReq (a : ChNo × HostReq) : List (ChNo × HostReq) → List (ChNo × HostReq)
  | [] => [a]
  | b :: l => if a.2.arrival ≤ b.2.arrival then a :: b :: l else b :: insertReq a l

/-- The commands that wait at the island, in arrival order (R188). -/
def State.markRequests (s : State) : List (ChNo × HostReq) :=
  (allCh.flatMap fun c => (s.chan c).waiting.map fun r => (c, r)).foldr insertReq []

/-- Has a request's last mark passed (R189)? -/
def State.markOver (s : State) (r : HostReq) : Bool :=
  match r.firstMark with
  | some f => decide (f + 50000 < s.now)
  | none => false

/-- The check of a host command fails before it applies: that command alone is discarded (R330), and ends with STATE (log entry 131). -/
def State.hostCheckFails (s : State) (c : ChNo) (r : HostReq) : State :=
  ((s.popWaiting c).fault .D 4 0xA140 (chNum c) 1 4).completeId r.cmd .state []

/-- One step of the frame mark over the waiting commands: those behind a request that waits, or that was admitted or ended at this mark after
waiting, stay where they are (R189). The command check is verified before the command applies (R330). -/
def State.markStep (base : Tab Nat 4) (bad : List Nat) (a : State × MarkRun) (q : ChNo × HostReq) : State × MarkRun :=
  if a.2.shut.contains q.1 then a
  else
    let m := if q.2.firstMark.isSome then { a.2 with shut := q.1 :: a.2.shut } else a.2
    if bad.contains (chNum q.1) || !q.2.reg.good then (a.1.hostCheckFails q.1 q.2, m)
    else if a.1.markOver q.2 then (a.1, m)
    else a.1.evalRequest q.1 q.2 base m

/-- HOST_COMMAND_APPLY and ADMISSION of the frame mark (R153, R188); `bad` are the objects whose command fails its check (R330). -/
def State.hostMark (s : State) (bad : List Nat) : State :=
  let base := (Tab.fill 4 0).mapIdx fun p _ => s.admitted p
  let l := s.markRequests
  let s := s.onSw fun w => { w with chans := w.chans.mapIdx fun _ x => { x with incNeed := 0 } }
  (l.foldl (State.markStep base bad) (s, { extra := Tab.fill 4 0, shut := [] })).1

/-- ADMIT_LIMIT (R189). -/
def opAdmitLimit (c : ChNo) (s : State) : State :=
  match (s.chan c).waiting with
  | [] => s
  | r :: _ =>
    match r.firstMark with
    | none => s
    | some f =>
      if s.now < f + 50000 then s
      else ((s.popWaiting c).record 0x1023 4 (chNum c) r.lastNeed (sgn r.lastHave)).completeId r.cmd .limit []

/-- SW_GET (R296). -/
def opSwGet (r : CmdRef) (s : State) : State :=
  s.onCommand r 0x0202 fun q s =>
    match chOfNum (u8 q.params 0) with
    | none => s.complete q .badParam []
    | some c =>
      if q.params.length ≠ 4 ∨ zeroAt q.params [1, 2, 3] = false then s.complete q .badParam []
      else
        let x := s.chan c
        s.complete q .ok (le 1 (chNum c) ++ zeros 3 ++ le 4 (s.stateWord x) ++ le 4 x.flagsWord ++ le 4 x.meas.iMeas ++
          le 4 x.meas.iAvg ++ le 4 (s.readChan c 0x4C) ++ le 4 (sgn x.meas.tj))

/-- The five configuration registers at their offsets. -/
def cfgOffsets : List Nat := [0x00, 0x04, 0x08, 0x0C, 0x10]

/-- All five registers written together, or none (R298). -/
def ChCfg.writeAll (k : ChCfg) (c : ChNo) : List (Nat × Nat) → Option ChCfg
  | [] => some k
  | (off, v) :: rest =>
    match k.write c off v with
    | none => none
    | some k => ChCfg.writeAll k c rest

/-- SW_CONFIG (R298). -/
def opSwConfig (r : CmdRef) (s : State) : State :=
  s.onCommand r 0x0203 fun q s =>
    let p := q.params
    match chOfNum (u8 p 0) with
    | none => s.complete q .badParam []
    | some c =>
      if p.length ≠ 24 ∨ zeroAt p [1, 2, 3] = false then s.complete q .badParam []
      else
        match (s.chan c).cfg.writeAll c (cfgOffsets.map fun o => (o, u32 p (4 + o))) with
        | none => (s.chDenied c).complete q .badParam []
        | some k =>
          if (s.chan c).cfgClosed then (s.chDenied c).complete q .denied []
          else
          let s := s.configure c k
          s.complete q .ok (le 1 (chNum c) ++ zeros 3 ++ cfgOffsets.flatMap fun o => le 4 (s.readChan c o))

/-- Is an ADOPT entry well formed (R110)? -/
def AdoptEntry.ok (e : AdoptEntry) : Bool :=
  if 1 ≤ e.object ∧ e.object ≤ 48 then decide (e.expect ≤ 3) && decide (e.duty < 1024) && (decide (e.expect = 2) || e.duty == 0)
  else decide (0x81 ≤ e.object) && decide (e.object ≤ 0x8C) && decide (e.expect ≤ 1) && e.duty == 0

/-- TWIN_SHARED of an object (R164, R227). -/
def State.objectShared (s : State) (o : Nat) : Bool :=
  if h : 1 ≤ o ∧ o ≤ 48 then (s.chan ⟨o - 1, by omega⟩).cfg.twinShared
  else if h : 0x81 ≤ o ∧ o ≤ 0x8C then (s.drv.acts.get ⟨o - 0x81, by omega⟩).cfg.twinShared
  else false

/-- SW_ADOPT (R298, R411): judged, then queued for the frame mark. -/
def opSwAdopt (r : CmdRef) (s : State) : State :=
  s.onCommand r 0x0205 fun q s =>
    let p := q.params
    let n := u8 p 0
    let es := (List.range n).map fun i =>
      ({ object := u8 p (4 + 8 * i), expect := u8 p (5 + 8 * i), duty := u16 p (6 + 8 * i) } : AdoptEntry)
    if n < 1 ∨ 16 < n ∨ p.length ≠ 4 + 8 * n ∨ zeroAt p [1, 2, 3] = false ∨ es.all AdoptEntry.ok = false ∨
        ((List.range n).all fun i => u32 p (8 + 8 * i) == 0) = false then s.complete q .badParam []
    else if es.any (fun (e : AdoptEntry) => s.twinDenies (s.objectShared e.object)) then s.complete q .denied []
    else (s.handOver q .target).onSw fun w => { w with adopts := w.adopts ++ [{ cmd := q.id, entries := es }] }

/-- One channel entry of SW_ADOPT (R157, R298): the result byte. -/
def State.adoptChan (s : State) (c : ChNo) (e : AdoptEntry) : Nat × State :=
  let x := s.chan c
  if x.owner = .weft then (3, s)
  else if x.orphan.isSome then
    if x.matches e then
      let before := s.phaseSet
      (0, (s.passTo c .host).rephase before)
    else (1, s.record 0x9006 4 e.object e.expect x.adoptState.1)
  else if x.owner = .host ∧ x.matches e = true then (4, s)
  else (2, s)

/-! ## The frame mark -/

/-- I_AVG and the frame sums at a mark (R150, R164). -/
def Chan.frameEnd (x : Chan) : Chan :=
  { x with meas := { x.meas with
      iAvg := if x.meas.frameCnt = 0 then 0 else x.meas.frameSum / x.meas.frameCnt
      iOn := if x.meas.onCnt = 0 then x.meas.iOn else x.meas.onSum / x.meas.onCnt
      frameSum := 0, frameCnt := 0, onSum := 0, onCnt := 0 } }

/-- FRAME_COMMIT of the switch island (R122, R330): `weft` tells that a COMMIT is due, `bad` names an object whose command
check fails at the latch, beside those whose registers do not agree with theirs. -/
def State.switchCommit (s : State) (weft : Bool) (bad : Option Nat) : State :=
  let h := s.sw.commit.held
  let s := s.onSw fun w => { w with commit := { w.commit with held := none } }
  let drop := s.onSw fun w => { w with chans := w.chans.mapIdx fun _ x => { x with nextReg := none } }
  let bad := bad.or ((allCh.find? fun c => (s.chan c).nextReg.any fun r => !r.good).map chNum)
  match bad with
  | some o => drop.fault .D 4 0xA140 o 0 4
  | none =>
    let valid := match h with
      | some (f, n, m) => decide (f = s.frame % 2 ^ 32) && n == m
      | none => false
    if valid then
      s.onSw fun w => { w with chans := w.chans.mapIdx fun _ x =>
        match x.nextReg with
        | none => x
        | some r => { x with nextReg := none, latched := some (r.latch s.frame) } }
    else if weft then
      let (n, m) := match h with
        | some (_, n, m) => (m, n)
        | none => (s.sw.commit.count, 0xFFFF)
      drop.islandPlanFault 4 0x9014 0 0xFF (n % 65536 + 65536 * (m % 65536))
    else drop

/-- PG_PERIOD_APPLY (R142, R143) at a hyperperiod boundary. -/
def State.pgMark (s : State) : State :=
  let pend := s.sw.pgPend
  let s := s.rebase.onSw fun w => { w with pg := w.pg.mapIdx (fun g v => (pend.get g).getD v), pgPend := Tab.fill 4 none }
  s.forEach (allCh.filter fun c => (s.chan c).mode.isPwm && (pend.get (s.chan c).run.pg).isSome) fun c s =>
    s.onChan c fun x => x.newPeriod c (s.chPeriod c) s.n20

/-- COMMIT_RECEIVE at the switch island (R121): the frame, the count, and the words accepted since the last COMMIT. -/
def CommitState.take (k : CommitState) (p : BitVec 64) : CommitState :=
  { count := 0, held := some (pf p 0 32, pf p 32 16, k.count) }

/-! ## The meanings of the commands -/

/-- ADMIT_LIMIT (R189). -/
def execAdmitLimit (c : ChNo) (s : State) : Host.Outcome State Fault Refusal := .next (opAdmitLimit c s)

/-- SW_SET (R298). -/
def execSwSet (r : CmdRef) (s : State) : Host.Outcome State Fault Refusal := .next (opSwSet r s)

/-- SW_GET (R296). -/
def execSwGet (r : CmdRef) (s : State) : Host.Outcome State Fault Refusal := .next (opSwGet r s)

/-- SW_CONFIG (R298). -/
def execSwConfig (r : CmdRef) (s : State) : Host.Outcome State Fault Refusal := .next (opSwConfig r s)

/-- SW_ADOPT (R298). -/
def execSwAdopt (r : CmdRef) (s : State) : Host.Outcome State Fault Refusal := .next (opSwAdopt r s)

end Sys2Proof.Machine
end

