-- ==== Sys2Proof/Machine/DriveOps.lean ====
section
/-! DEFINITION. The shared operations of the drive island (spec/07, spec/08): phases, the boost rail, release and refusal, the
diagnostics, learning, orphan hold. -/

namespace Sys2Proof.Machine

open Sys2Proof

/-- ACn as a record or packet names it, and as an ADOPT object (R110). -/
def acNum (c : AcNo) : Nat := c.1 + 1
def acObject (c : AcNo) : Nat := 0x81 + c.1

/-- The actuator a number names. -/
def acOfNum (n : Nat) : Option AcNo := if h : 1 ≤ n ∧ n ≤ 12 then some ⟨n - 1, by omega⟩ else none

/-- Every actuator, in increasing number. -/
def allAc : List AcNo := List.finRange 12

def State.coil (s : State) (c : AcNo) : Coil := s.drv.acts.get c

def State.onCoil (s : State) (c : AcNo) (f : Coil → Coil) : State := s.onDrv fun d => { d with acts := d.acts.upd c f }

def State.onEng (s : State) (c : AcNo) (f : Engine → Engine) : State := s.onCoil c fun x => { x with eng := f x.eng }

def State.bank (s : State) (b : BankNo) : Bank := s.drv.banks.get b

def State.onBank (s : State) (b : BankNo) (f : Bank → Bank) : State := s.onDrv fun d => { d with banks := d.banks.upd b f }

/-- The other channel of a bank. -/
def acOther (c : AcNo) : AcNo := ⟨if c.1 % 2 = 0 then c.1 + 1 else c.1 - 1, by have := c.2; split <;> omega⟩

/-- Is the drive island powered and running (R225)? -/
def State.driveUp (s : State) : Bool := s.pwr.islandUp.get 5

/-- Set or clear a bit of AC_FLAGS (R227). -/
def Coil.flag (x : Coil) (i : Nat) : Coil := { x with flags := x.flags ||| BitVec.ofNat 14 (2 ^ i) }

def Coil.flagSet (x : Coil) (i : Nat) : Bool := x.flags.getLsbD i

/-! ## Phases -/

/-- Does the channel hold its bank's boost switch? -/
def State.holdsBoost (s : State) (c : AcNo) : Bool := (s.bank (acBank c)).holder == some c

/-- The phase of a channel (R202, R232). -/
def State.phase (s : State) (c : AcNo) : Phase :=
  let x := s.coil c
  let e := x.eng
  if !e.run then x.rest
  else if e.request.isSome then .wait
  else
    let drives := e.ls || match e.reg with
      | .peak _ => true
      | _ => false
    if decide (e.src = .boost) && e.capped && drives then .peak
    else if s.holdsBoost c then .boost
    else
      match e.reg with
      | .hold _ => .hold
      | _ => if decide (e.src = .batt) && drives then .peak else .decay

/-- Open or close the interval in BOOST and PEAK that counts toward the duty limit (R202, R213); intervals older than the
longest window are forgotten. -/
def State.settle (s : State) (c : AcNo) : State :=
  let t := s.ticks
  let counts := decide (s.phase c = .boost) || decide (s.phase c = .peak)
  s.onCoil c fun x =>
    match x.active with
    | none => if counts then { x with active := some t } else x
    | some a =>
      if counts then x
      else { x with active := none, hist := (a, t) :: x.hist.filter fun y => decide (t ≤ y.2 + 60000000) }

/-- The part of an interval after `lo`. -/
def overlap (lo : Nat) (y : Nat × Nat) : Nat := y.2 - max lo y.1

/-- U in µs: the time in BOOST and PEAK in the present window (R213). -/
def State.dutyUsed (s : State) (c : AcNo) : Nat :=
  let x := s.coil c
  let lo := s.ticks - x.cfg.dutyWindow * 1000000
  ((match x.active with | some a => [(a, s.ticks)] | none => []) ++ x.hist).foldl (fun n y => n + overlap lo y) 0

/-- The battery switch of a bank (R195): on while a channel of the bank draws from PWR_D and the boost switch is off. -/
def State.batteryOn (s : State) (b : BankNo) : Bool :=
  !(s.bank b).fault && (s.bank b).holder.isNone &&
  allAc.any fun c => decide (acBank c = b) &&
    (decide (s.phase c = .peak) || decide (s.phase c = .hold))

/-! ## Values in force -/

/-- T_BOOST_IN_FORCE in 10 µs units and in µs (R207, R227). -/
def Coil.tBoostUs (x : Coil) : Nat :=
  if x.cfg.learnEn = false ∨ x.closeLearned = noTime then x.cfg.tBoostMax * 10
  else min (max (x.closeLearned + x.cfg.boostExtend * 10) (x.cfg.tBoostMin * 10)) (x.cfg.tBoostMax * 10)

/-- The hold in force in mA (R208). -/
def Coil.holdInForce (x : Coil) : Nat :=
  if x.cfg.holdMinEn = true ∧ x.dropLearned ≠ 0 then
    min x.cfg.iHold (max x.cfg.holdFloor (ceilDiv (x.dropLearned * (100 + x.cfg.holdMargin)) 100))
  else x.cfg.iHold

/-- An average that moves by a quarter (R207, R208). -/
def quarter (old new : Nat) : Nat := (3 * old + new) / 4

/-- T_CLOSE_LEARNED at the end of an actuation, once (R207, R240). -/
def Coil.learnClose (x : Coil) : Coil :=
  if x.eng.learned then x
  else
    let x1 := { x with eng := { x.eng with learned := true } }
    if x.cfg.learnEn && x.eng.kink && x.eng.diag.isNone then
      { x1 with closeLearned := if x.closeLearned = noTime then x.eng.tClose else quarter x.closeLearned x.eng.tClose }
    else x1

/-- The learned values cleared (R209). -/
def Coil.unlearn (x : Coil) : Coil := { x with closeLearned := noTime, dropLearned := 0 }

/-! ## The boost rail -/

/-- A measurement of VBOOST in mV (R198, R228). -/
def State.setVboost (s : State) (mv : Nat) : State :=
  let t := s.warp
  (s.onDrv fun d => { d with vboost := mv, vboostAt := t, vboostOv := d.vboostOv || decide (66000 < mv) }).railUpdate

/-- VBOOST ≥ VB_START (R198, R200). -/
def State.vboostReady (s : State) : Bool := decide (s.drv.vbStart ≤ s.drv.vboost)

/-- Is a channel the first of those waiting in its bank (R201)? -/
def State.firstWaiting (s : State) (c : AcNo) : Bool :=
  match (s.coil c).eng.request, (s.coil (acOther c)).eng.request with
  | some t, some t' => decide (t < t') || (t == t' && decide (c.1 < (acOther c).1))
  | _, _ => true

/-- Is a weft's latched FIRE of a channel due in this tick (R123)? -/
def State.fireDue (s : State) (c : AcNo) : Bool :=
  match (s.coil c).latched with
  | none => false
  | some d => pf d.payload 18 2 == 1 && decide (d.at_ ≤ s.warp)

/-- A request made in this tick waits until the lower-numbered channel of the bank, if its program runs or a FIRE of it is due, has been updated in
it: of two requests of one tick the lower number goes first (R201). -/
def State.tieOpen (s : State) (c : AcNo) : Bool :=
  let o := acOther c
  decide ((s.coil c).eng.request = some s.ticks) && decide (o.1 < c.1) &&
    (s.fireDue o || ((s.coil o).eng.run && decide ((s.coil o).updAt ≠ some s.ticks)))

/-- May a waiting channel begin its boost now (R200, R201)? -/
def State.mayBoost (s : State) (c : AcNo) : Bool :=
  match (s.coil c).eng.request with
  | none => false
  | some t =>
    (s.bank (acBank c)).holder.isNone && s.vboostReady && s.firstWaiting c && !s.tieOpen c && !(s.bank (acBank c)).fault &&
      decide (s.ticks ≤ t + (s.bank (acBank c)).defer * 100)

/-- A boost begins (R199, R201, R236): B and M0 at the first grant of the actuation. -/
def State.grant (s : State) (c : AcNo) : State :=
  let t := s.ticks
  let s := s.onBank (acBank c) fun b => { b with holder := some c }
  let s := s.onCoil c fun x =>
    { x with
      boostEnergy := 0
      actCount := satAdd 0xFFFFFFFF x.actCount 1
      eng :=
        let e := { x.eng with request := none, capped := false }
        match e.boostAt with
        | some _ => e
        | none => { e with boostAt := some t, m := e.m.put 0 t, lowKept := true, samples := [] } }
  s.settle c

/-- The boost switch of a channel's bank is given up (R201, R233). -/
def State.dropBoost (s : State) (c : AcNo) : State :=
  s.onBank (acBank c) fun b => if b.holder = some c then { b with holder := none } else b

/-! ## The end of an actuation -/

/-- Why a channel is released (R214, R297). -/
inductive RelWhy where
  | command | diag (bit : Nat) | bankFault | forceSafe | reset | program | orphan
  deriving DecidableEq, Repr

/-- The reply of AC_FIRE (R297). -/
def State.fireReply (s : State) (c : AcNo) (outcome detail diag : Nat) : List Byte :=
  let x := s.coil c
  le 1 (acNum c) ++ le 1 outcome ++ le 1 detail ++ le 1 diag ++ le 4 x.eng.tClose ++ le 4 x.eng.ttp ++ le 2 x.boostEnergy ++ zeros 2

/-- The waiting AC_FIRE of a channel ends (R221, R297). -/
def State.endFire (s : State) (c : AcNo) (st : Status) (outcome detail diag : Nat) : State :=
  match (s.coil c).fire with
  | none => s
  | some id => (s.onCoil c fun x => { x with fire := none }).completeId id st (s.fireReply c outcome detail diag)

/-- AC_FIRE ends before completion (R221, R297). No code of DETAIL names a release by the orphan policy: that byte is free. -/
def State.endFireEarly (s : State) (c : AcNo) (why : RelWhy) : State :=
  match why with
  | .command => s.endFire c .state 2 0 0xFF
  | .diag b => s.endFire c .state 2 1 b
  | .bankFault => s.endFire c .state 2 1 0xFF
  | .forceSafe => s.endFire c .state 2 2 0xFF
  | .reset => s.endFire c .state 2 3 0xFF
  | .program => s.endFire c .state 2 4 0xFF
  | .orphan =>
    if (s.coil c).fire.isSome then
      let (v, s) := s.draw
      s.endFire c .state 2 v 0xFF
    else s

/-- The engine stops and every switch of the channel opens (R214, R244); PC, values and counters stay readable. -/
def Coil.stop (x : Coil) (rest : Phase) : Coil :=
  let x := if x.eng.run then x.learnClose else x
  { x with
    rest := rest
    relMa := if rest = .decay then x.relMa + x.iCoil else x.relMa
    low := false
    openSince := none
    unreachSince := none
    belowSince := none
    eng := { x.eng with run := false, src := .off, ls := false, reg := .none, guards := Tab.fill 2 none, request := none,
                        capped := false, lowKept := false, samples := [] } }

/-- A release (R214, R244): what it does depends on the phase. A drop-out detector that runs in a DECAY from HOLD runs on (R208). -/
def State.acRelease (s : State) (c : AcNo) (why : RelWhy) : State :=
  let x := s.coil c
  let ph := s.phase c
  if x.eng.run || decide (x.rest = .hold) then
    let rest : Phase := if ph = .wait ∧ x.iCoil < 20 then .released else .decay
    let s := s.dropBoost c
    let s := s.onCoil c fun x =>
      let y := x.stop rest
      match ph with
      | .hold => { y with dropout := some x.eng.diag.isNone }
      | .decay => { y with eng := { y.eng with samples := x.eng.samples } }
      | _ => { y with dropout := none }
    (s.settle c).endFireEarly c why
  else s

/-- A shared actuator that this module does not drive, or that is inhibited, is released (R226, R402). -/
def State.muteAct (s : State) (c : AcNo) : State :=
  let k := (s.coil c).cfg.twinShared
  if s.mute k || s.inhibited k then s.acRelease c .command else s

/-! ## Diagnostics -/

/-- A diagnostic (R216): flag, record, class A fault, count. -/
def State.raiseDiag (s : State) (c : AcNo) (bit code p1 p2 : Nat) : State :=
  let s := s.onCoil c fun x =>
    { x.flag bit with diagCount := satAdd 0xFFFFFFFF x.diagCount 1, eng := { x.eng with diag := some bit } }
  s.fault .A 5 code (acNum c) p1 p2

/-- A diagnostic as FAULT or a guard raises it (R239): 0 TTP_LATE, 1 TTP_EARLY, 2 NO_KINK, 3 HOLD_UNREACHABLE, else USER. -/
def State.bobDiag (s : State) (c : AcNo) (diag value : Nat) : State :=
  let x := s.coil c
  match diag with
  | 0 => s.raiseDiag c 0 0x2011 x.iCoil (x.cfg.ttpMax * 10)
  | 1 => s.raiseDiag c 1 0x2012 x.eng.ttp (x.cfg.ttpMin * 10)
  | 2 => s.raiseDiag c 2 0x2013 (b2n x.cfg.kinkAction) 0
  | 3 => s.raiseDiag c 3 0x2014 x.iCoil x.holdInForce
  | _ => (s.onCoil c fun x => { x with userFault := true }).fault .A 5 0x2022 (acNum c) value x.eng.pc

/-- Does an ACTION release the channel (R233)? -/
def Coil.acts (x : Coil) (action : Nat) : Bool := action == 1 || (action == 2 && x.cfg.kinkAction)

/-! ## Orphan hold -/

/-- Does the orphan policy release the channel now (R222, R245)? `entry`: REG with HOLD = 1 has executed in this update. -/
def State.acOrphanDue (s : State) (c : AcNo) (entry : Bool) : Bool :=
  let x := s.coil c
  match x.orphan with
  | none => false
  | some o =>
    let holds := !x.eng.run && decide (x.rest = .hold)
    if o.done then false
    else
      match o.policy with
      | 0 => false
      | 1 => decide (o.origin + o.safeAfter * 1000 ≤ s.ticks) && (holds || (x.eng.run && x.eng.holdSeen))
      | _ => holds || (x.eng.run && entry)

/-- The mark of a policy release (R222). -/
def State.acOrphanMark (s : State) (c : AcNo) : State :=
  match (s.coil c).orphan with
  | none => s
  | some o =>
    (s.onCoil c fun x => { x.flag 10 with orphan := some { o with done := true } }).record 0x2002 5 (acNum c) o.policy 0

/-- A release by the orphan policy (R222). -/
def State.acOrphanRelease (s : State) (c : AcNo) : State := (s.acRelease c .orphan).acOrphanMark c

/-- A program ends with a release (R245): under SAFE_NOW that is the policy's release. -/
def State.programEnd (s : State) (c : AcNo) (why : RelWhy) : State :=
  let s := s.acRelease c why
  match (s.coil c).orphan with
  | some o => if 2 ≤ o.policy && !o.done then s.acOrphanMark c else s
  | none => s

/-- An actuator enters orphan hold (R154, R222). -/
def State.acOrphanEnter (s : State) (c : AcNo) : State :=
  let s := s.onCoil c fun x =>
    { x with owner := .none, nextReg := none, latched := none
             orphan := some { origin := s.ticks, policy := x.cfg.policy, safeAfter := x.cfg.safeAfter, done := false } }
  if s.acOrphanDue c false then s.acOrphanRelease c else s

/-- Actuators enter orphan hold by one event: record 0x2001, then each its policy (R222). -/
def State.acOrphanEvent (s : State) (commander : Nat) (l : List AcNo) : State :=
  if l = [] then s
  else (s.record 0x2001 5 commander ((l.map fun c => 2 ^ c.1).sum) 0).forEach l fun c s => s.acOrphanEnter c

/-- The actuators an owner has. -/
def State.acOwned (s : State) (o : Owner) : List AcNo := allAc.filter fun c => (s.coil c).owner = o

/-- An actuator's state for adoption (R223). -/
def State.acAdoptState (s : State) (c : AcNo) : Nat :=
  if (s.coil c).eng.run then 1
  else match (s.coil c).rest with
    | .hold => 1
    | _ => 0

/-- An actuator passes to an owner (R127). -/
def State.acPassTo (s : State) (c : AcNo) (o : Owner) : State := s.onCoil c fun x => { x with owner := o, orphan := none }

/-! ## The bobbin store -/

/-- Program 0 (R243). -/
def program0 : List Nat :=
  [0x04400000, 0x04C00004, 0x05400009, 0x05C00008, 0x0640000B, 0x06C00007, 0x08000002, 0x0C000001, 0x28040400, 0x2A882A00,
   0x17504000, 0x08000001, 0x14100000, 0x24000000, 0x20000001, 0x1840C011, 0x2CA00000, 0x10000000, 0x14415000, 0x07400002,
   0x13800000, 0x38000000, 0x00000001]

/-- Word `k` of program `n` (R241). -/
def State.bobWord (s : State) (n k : Nat) : Nat :=
  if n = 0 then program0.getD k 0 else Memory.num s.mem (bobAddr n + 4 * k) 4

/-- The 256 bytes of a program. -/
def State.bobBytes (s : State) (n : Nat) : List Byte := (List.range 64).flatMap fun k => le 4 (s.bobWord n k)

/-- Is a program loaded (R248)? -/
def State.bobLoaded (s : State) (n : Nat) : Bool := bit s.drv.bobValid n

/-- BOB_CRC of a program (R248). -/
def State.bobCrc (s : State) (n : Nat) : Nat := if n < 16 ∧ s.bobLoaded n = true then crc32c (s.bobBytes n) else 0

/-- Is the configuration consistent (R218 check 4, R241)? -/
def State.acConsistent (s : State) (c : AcNo) : Bool :=
  let k := (s.coil c).cfg
  decide (k.tBoostMin ≤ k.tBoostMax) && decide (k.ttpMin < k.ttpMax) && decide (k.kinkMin < k.kinkMax) &&
    decide (k.holdFloor ≤ k.iHold) && decide (k.iHold ≤ k.iPeak) && s.bobLoaded k.bobbin.1

/-! ## Firing -/

/-- A FIRE takes effect (R218, R230): the checks in order, then the program starts. `host` is the waiting AC_FIRE. -/
def State.acFire (s : State) (c : AcNo) (arg : Nat) (host : Option Nat) : State :=
  let x := s.coil c
  let b := s.bank (acBank c)
  let byHost := host.isSome
  let refuse := fun (s : State) (n : Nat) (st : Status) => match host with
    | none => s
    | some id => s.completeId id st (s.fireReply c 1 n 0xFF)
  let rec1D := fun (reason : Nat) => s.record 0x201D 5 (acNum c) reason (b2n byHost)
  let plan1D := fun (reason : Nat) =>
    if byHost then rec1D reason else s.planFault (3, 5) 5 0x201D (acNum c) reason 0
  let x_ := x.cfg.ttpMax * 10 + x.cfg.tPeak * 100
  let u := s.dutyUsed c
  if s.flt.forceSafe then refuse (rec1D 1) 1 .state
  else if s.phase c ≠ .released then refuse (plan1D 0) 2 .state
  else if x.flagSet 4 || x.flagSet 5 || b.fault then refuse (rec1D 2) 3 .state
  else if !s.acConsistent c then refuse (plan1D 3) 4 .badParam
  else if b.overload then refuse (s.fault .A 5 0x201B (acBank c).1.succ b.mean 0) 5 .limit
  else if x.cfg.dutyLimit * x.cfg.dutyWindow * 10000 < u + x_ then
    refuse ((s.onCoil c fun x => x.flag 8).fault .A 5 0x201A (acNum c) (u / 1000) (x_ / 1000)) 6 .limit
  else
    let t := s.ticks
    let s := s.onCoil c fun x =>
      { x with
        eng := { Engine.reset with run := true, m := Tab.fill 4 t, arg := arg, program := x.cfg.bobbin }
        dropout := none, openSince := none, unreachSince := none, unreachDone := false, fire := host
        owner := if byHost then .host else x.owner }
    s.settle c

/-- A request of the boost switch is refused when BANK_DEFER expires (R201, R218 check 7, R236). -/
def State.refuseBoost (s : State) (c : AcNo) : State :=
  let b := s.bank (acBank c)
  let (s, st) := match b.holder with
    | some h => ((s.onCoil c fun x => x.flag 6).fault .A 5 0x2018 (acNum c) (acNum h) b.defer, Status.bankBusy)
    | none => ((s.onCoil c fun x => x.flag 7).fault .A 5 0x2019 (acNum c) s.drv.vboost s.drv.vbStart, Status.limit)
  (s.endFire c st 1 7 0xFF).acRelease c .program

end Sys2Proof.Machine
end

