-- ==== Sys2Proof/Machine/Bobbin.lean ====
section
/-! DEFINITION. The bobbin engine's instructions (R233 to R240): the structural check of a word, the guards, one
instruction, one update. -/

namespace Sys2Proof.Machine

open Sys2Proof

/-! ## Words -/

/-- The bits a word of each operation may use (R233), below the operation code. -/
def bobFields (w : Nat) : List (Nat × Nat) :=
  match bits w 26 6 with
  | 0x00 => [(0, 1)]
  | 0x01 => if bit w 22 then [(23, 3), (22, 1), (0, 5)] else [(23, 3), (22, 1), (0, 20)]
  | 0x02 => [(0, 2)]
  | 0x03 => [(0, 1)]
  | 0x04 => [(25, 1), (22, 3)]
  | 0x05 => [(20, 6), (17, 3), (14, 3), (12, 2)]
  | 0x06 => [(20, 6), (17, 3), (14, 3), (12, 2), (11, 1), (0, 6)]
  | 0x07 => [(0, 6)]
  | 0x08 => [(0, 2)]
  | 0x09 => [(2, 1), (0, 2)]
  | 0x0A => [(25, 1), (23, 2), (20, 3), (17, 3), (15, 2), (12, 3), (10, 2), (9, 1)]
  | 0x0B => [(23, 3), (21, 2), (0, 16)]
  | 0x0C => if bit w 24 then [(25, 1), (24, 1), (0, 3)] else [(25, 1), (24, 1), (0, 16)]
  | 0x0D => [(25, 1), (0, 6)]
  | _ => []

/-- Every field not listed is 0 (R233). -/
def bobUnusedZero (w : Nat) : Bool := bits w 0 26 == ((bobFields w).map fun f => bits w f.1 f.2 * 2 ^ f.1).sum

/-- The rules of a condition mask (R233, R234): not 0; VL only with I_GE or I_LT, VT and MK only with TIME. -/
def bobMaskOk (w : Nat) : Bool :=
  let m := bits w 20 6
  decide (m ≠ 0) && (bit m 0 || bit m 1 || bits w 17 3 == 0) && (bit m 2 || (bits w 14 3 == 0 && bits w 12 2 == 0))

/-- Does a word meet R233, R234, R235 and R238? VL of a kink guard is 0 (DEDUCED, log entry 33). -/
def bobWordOk (w : Nat) : Bool :=
  bobUnusedZero w &&
  match bits w 26 6 with
  | 0x01 => !bit w 22 || decide (bits w 0 5 ≤ 15)
  | 0x02 => decide (bits w 0 2 ≤ 2)
  | 0x05 | 0x06 => bobMaskOk w
  | 0x0A => decide (bits w 23 2 ≤ 1) && (bits w 23 2 == 0 || bits w 20 3 == 0) && decide (bits w 12 3 ≤ 4)
  | 0x0B => decide (bits w 23 3 ≤ 4) && decide (bits w 21 2 ≤ 2)
  | n => decide (n ≤ 0x0E)

/-! ## Execution -/

/-- What step 1 of R231 takes for an update: the mean current, and whether the channel holds the boost switch. -/
structure Taken where
  mA    : Nat
  holds : Bool
  deriving DecidableEq, Repr

/-- How an instruction leaves the engine: it goes on, it waits, or the program has ended. -/
inductive Flow where
  | next | wait | ended
  deriving DecidableEq, Repr

/-- Marks measure from the update's tick (R234). -/
def State.sinceMark (s : State) (m : Nat) : Nat := s.ticks - m

/-- Is any condition of a mask true (R234)? BOOST_OFF takes a boost granted in this update as held (DEDUCED). -/
def State.bobCond (s : State) (c : AcNo) (t : Taken) (w : Nat) : Bool :=
  let x := s.coil c
  let e := x.eng
  let m := bits w 20 6
  let vl := e.v.get ⟨bits w 17 3, Nat.mod_lt _ (by decide)⟩
  let vt := e.v.get ⟨bits w 14 3, Nat.mod_lt _ (by decide)⟩
  let mk := e.m.get ⟨bits w 12 2, Nat.mod_lt _ (by decide)⟩
  (bit m 0 && decide (vl ≤ t.mA)) || (bit m 1 && decide (t.mA < vl)) || (bit m 2 && decide (vt ≤ s.sinceMark mk)) ||
    (bit m 3 && e.kink) || (bit m 4 && e.kink && x.cfg.kinkEnd) || (bit m 5 && !(t.holds || s.holdsBoost c))

/-- The parameters of R235. -/
def State.bobParam (s : State) (c : AcNo) (n : Nat) : Nat :=
  let x := s.coil c
  let k := x.cfg
  match n with
  | 0 => k.iPeak
  | 1 => k.iHold
  | 2 => x.holdInForce
  | 3 => k.holdFloor
  | 4 => x.tBoostUs
  | 5 => k.tBoostMin * 10
  | 6 => k.tBoostMax * 10
  | 7 => k.tPeak * 100
  | 8 => k.ttpMin * 10
  | 9 => k.ttpMax * 10
  | 10 => k.kinkMin * 10
  | 11 => k.kinkMax * 10
  | 12 => x.eng.arg % 65536
  | 13 => x.eng.arg / 65536 % 65536
  | 14 => x.closeLearned
  | _ => s.drv.vboost

/-- Judge a guard slot (R238): met, fired (its diagnostic raised), or neither. The answer tells whether to release. A guard
carries no VALUE: that of a USER guard is free. -/
def State.judgeGuard (s : State) (c : AcNo) (g : Fin 2) (t : Taken) : Bool × State :=
  match (s.coil c).eng.guards.get g with
  | none => (false, s)
  | some k =>
    let off := fun (s : State) => s.onEng c fun e => { e with guards := e.guards.put g none }
    let met := if k.onKink then (s.coil c).eng.kink else decide (k.vl ≤ t.mA)
    if met then (false, off s)
    else if s.sinceMark k.origin < k.vt then (false, s)
    else
      let (v, s) := if k.diag = 4 then s.draw else (0, s)
      ((s.coil c).acts k.action, (off s).bobDiag c k.diag (v % 65536))

/-- A run-time error (R237). -/
def State.bobError (s : State) (c : AcNo) (code : Nat) : State :=
  let s := s.onEng c fun e => { e with error := code }
  let s := s.fault .A 5 0x2023 (acNum c) code (s.coil c).eng.pc
  s.programEnd c .program

/-- PC moves on by one word, within 6 bits (R230). -/
def State.bobNext (s : State) (c : AcNo) : State := s.onEng c fun e => { e with pc := (e.pc + 1) % 64 }

def State.bobJump (s : State) (c : AcNo) (t : Nat) : State := s.onEng c fun e => { e with pc := t % 64 }

/-- DONE (R233, R240). -/
def State.bobDone (s : State) (c : AcNo) : State :=
  let s := s.onCoil c fun x => (x.flag 13).learnClose
  let e := (s.coil c).eng
  let s := s.record 0x2004 5 (acNum c) e.tClose e.ttp
  if (s.coil c).fire.isSome then
    let (v, s) := s.draw
    s.endFire c .ok 0 v ((s.coil c).eng.diag.getD 0xFF)
  else s

/-- END with KEEP = 1 (R232, R240): the channel keeps its regulation. -/
def State.bobKeep (s : State) (c : AcNo) : State :=
  if s.phase c = .hold then
    s.onCoil c fun x => { x.learnClose with rest := .hold, eng := { x.learnClose.eng with run := false } }
  else s.bobError c 4

/-- SRC with S = 2 (R200, R201, R233): a channel that holds the boost switch goes on; else it requests it and waits. -/
def State.bobBoost (s : State) (c : AcNo) : Flow × State :=
  if s.holdsBoost c then (.next, (s.onEng c fun e => { e with src := .boost }).bobNext c)
  else
    let s := if (s.coil c).eng.request.isSome then s
      else s.onEng c fun e => { e with src := .boost, request := some s.ticks, capped := false }
    if s.mayBoost c then (.next, (s.grant c).bobNext c) else (.wait, s.settle c)

/-- REG (R210, R233, R237). -/
def State.bobReg (s : State) (c : AcNo) (w : Nat) : Flow × State :=
  let x := s.coil c
  let v := x.eng.v.get ⟨bits w 22 3, Nat.mod_lt _ (by decide)⟩
  if x.eng.src = .off then (.ended, s.bobError c 2)
  else if bit w 25 then
    if s.holdsBoost c || x.eng.request.isSome then (.ended, s.bobError c 3)
    else
      let s := s.onCoil c fun x =>
        { x with unreachSince := none, unreachDone := false
                 eng := { x.eng with reg := .hold (min v x.holdInForce), ls := false, holdSeen := true } }
      (.next, s.bobNext c)
  else (.next, (s.onEng c fun e => { e with reg := .peak (min v x.cfg.iPeak), ls := false }).bobNext c)

/-- The release that a diagnostic of FAULT or a guard makes (R239, R297): a USER fault is no diagnostic. -/
def relOf (diag : Nat) : RelWhy := if diag < 4 then .diag diag else .program

/-- GUARD (R238): the slot captures its operands and is judged in the arming update. -/
def State.bobGuard (s : State) (c : AcNo) (w : Nat) (t : Taken) : Flow × State :=
  let x := s.coil c
  let g : Fin 2 := if bit w 25 then 1 else 0
  let put := fun (k : Option GuardSlot) => (s.onEng c fun e => { e with guards := e.guards.put g k }).bobNext c
  if bit w 9 && !x.cfg.kinkReq then (.next, s.bobNext c)
  else if bits w 10 2 = 3 then (.next, put none)
  else
    let k : GuardSlot :=
      { onKink := decide (bits w 23 2 = 1)
        vl := x.eng.v.get ⟨bits w 20 3, Nat.mod_lt _ (by decide)⟩
        vt := x.eng.v.get ⟨bits w 17 3, Nat.mod_lt _ (by decide)⟩
        origin := x.eng.m.get ⟨bits w 15 2, Nat.mod_lt _ (by decide)⟩
        diag := bits w 12 3
        action := bits w 10 2 }
    match (put (some k)).judgeGuard c g t with
    | (true, s) => (.ended, s.programEnd c (relOf (bits w 12 3)))
    | (false, s) => (.next, s)

/-- FAULT (R239). -/
def State.bobFault (s : State) (c : AcNo) (w : Nat) : Flow × State :=
  let d := bits w 23 3
  let rel := (s.coil c).acts (bits w 21 2)
  let s := s.bobDiag c d (bits w 0 16)
  if rel then (.ended, s.programEnd c (relOf d)) else (.next, s.bobNext c)

/-- One instruction (R233). -/
def State.bobStep (s : State) (c : AcNo) (t : Taken) : Flow × State :=
  let x := s.coil c
  let e := x.eng
  let w := s.bobWord e.program.1 e.pc
  match bits w 26 6 with
  | 0x00 => (.ended, if bit w 0 then s.bobKeep c else s.programEnd c .program)
  | 0x01 =>
    let v := if bit w 22 then s.bobParam c (bits w 0 5) else bits w 0 20
    (.next, (s.onEng c fun e => { e with v := e.v.put ⟨bits w 23 3, Nat.mod_lt _ (by decide)⟩ (v % 2 ^ 20) }).bobNext c)
  | 0x02 =>
    if bits w 0 2 = 2 then s.bobBoost c
    else
      let s := (s.dropBoost c).onEng c fun e =>
        { e with src := if bits w 0 2 = 1 then .batt else .off, request := none, capped := false }
      (.next, (s.settle c).bobNext c)
  | 0x03 =>
    if bit w 0 && decide (e.src = .off) then (.ended, s.bobError c 2)
    else
      (.next, (s.onCoil c fun x => { x with low := bit w 0, eng := { x.eng with reg := .none, ls := bit w 0 } }).bobNext c)
  | 0x04 => s.bobReg c w
  | 0x05 => if s.bobCond c t w then (.next, s.bobNext c) else (.wait, s)
  | 0x06 => (.next, if s.bobCond c t w != bit w 11 then s.bobJump c (bits w 0 6) else s.bobNext c)
  | 0x07 => (.next, s.bobJump c (bits w 0 6))
  | 0x08 =>
    (.next, (s.onEng c fun e => { e with m := e.m.put ⟨bits w 0 2, Nat.mod_lt _ (by decide)⟩ s.ticks }).bobNext c)
  | 0x09 =>
    let v := min (s.sinceMark (e.m.get ⟨bits w 0 2, Nat.mod_lt _ (by decide)⟩)) noTime
    (.next, (s.onEng c fun e => if bit w 2 then { e with stampUser := v } else { e with ttp := v }).bobNext c)
  | 0x0A => s.bobGuard c w t
  | 0x0B => s.bobFault c w
  | 0x0C =>
    let v := if bit w 24 then e.v.get ⟨bits w 0 3, Nat.mod_lt _ (by decide)⟩ % 65536 else bits w 0 16
    (.next, (s.onEng c fun e => { e with c := e.c.put (if bit w 25 then 1 else 0) v }).bobNext c)
  | 0x0D =>
    let k : Fin 2 := if bit w 25 then 1 else 0
    let n := e.c.get k
    if n = 0 then (.next, s.bobNext c)
    else
      let s := s.onEng c fun e => { e with c := e.c.put k (n - 1) }
      (.next, if n = 1 then s.bobNext c else s.bobJump c (bits w 0 6))
  | 0x0E => (.next, (s.bobDone c).bobNext c)
  | _ => (.ended, s.programEnd c .program)

/-- Step 4 of R231: instructions until one waits or the program ends; 32 of them without a stop are error 1 (R237). -/
def bobRun (c : AcNo) (t : Taken) : Nat → State → State
  | 0, s => s.bobError c 1
  | n + 1, s =>
    match s.bobStep c t with
    | (.next, s) => bobRun c t n s
    | (_, s) => s.onEng c fun e => { e with left := n + 1 }

/-- Step 3 of R231: both slots, slot 0 first; the channel is released once (R239). -/
def State.bobGuards (s : State) (c : AcNo) (t : Taken) : State :=
  let d0 := ((s.coil c).eng.guards.get 0).map fun g => g.diag
  let (r0, s) := s.judgeGuard c 0 t
  let d1 := ((s.coil c).eng.guards.get 1).map fun g => g.diag
  let (r1, s) := s.judgeGuard c 1 t
  if r0 then s.programEnd c (relOf (d0.getD 4))
  else if r1 then s.programEnd c (relOf (d1.getD 4))
  else s

/-! ## The kink detector and the regulation -/

/-- n of R206. -/
def AcCfg.kinkN (k : AcCfg) : Nat := 8 * 2 ^ k.kinkAvg

/-- Does the newest sample complete a kink (R206)? The samples, latest first, are in 10 mV; sums stand for n times the
means. -/
def kinkAt (n thresh : Nat) (l : List Int) : Bool :=
  let total := fun (i : Nat) => ((l.drop i).take n).foldl (fun a b => a + b) 0
  let d := (total 0 - total n) - (total n - total (2 * n))
  decide (3 * n ≤ l.length) && decide (thresh * n ≤ 10 * d.natAbs)

/-- Step 1 of R231 for the kink detector of an actuation (R206). -/
def State.takeKink (s : State) (c : AcNo) (u : Int) : State :=
  let x := s.coil c
  match x.eng.boostAt with
  | none => s
  | some b =>
    let n := x.cfg.kinkN
    let l := (u :: x.eng.samples).take 192
    let kept := x.eng.lowKept && (x.low || s.ticks == b)
    let inside := decide (b + x.cfg.kinkMin * 10 ≤ s.ticks) && decide (s.ticks ≤ b + x.cfg.kinkMax * 10)
    let found := kept && inside && !x.eng.kink && kinkAt n x.cfg.kinkThresh l
    s.onEng c fun e =>
      { e with samples := l, lowKept := kept, kink := e.kink || found
               tClose := if found then min (s.ticks - n - b) noTime else e.tClose }

/-- The drop-out detector in a DECAY from HOLD (R208). -/
def State.takeDropout (s : State) (c : AcNo) (mA : Nat) (u : Int) : State :=
  let x := s.coil c
  match x.dropout with
  | none => s
  | some ok =>
    if mA < 50 ∨ s.phase c ≠ .decay then s.onCoil c fun x => { x with dropout := none }
    else
      let l := (u :: x.eng.samples).take 192
      if kinkAt x.cfg.kinkN x.cfg.kinkThresh l then
        s.onCoil c fun x =>
          { x with dropout := none
                   dropLearned := if !(ok && x.cfg.learnEn) then x.dropLearned
                     else if x.dropLearned = 0 then mA else quarter x.dropLearned mA }
      else s.onEng c fun e => { e with samples := l }

/-- The low side under regulation at a level (R210); the band in 1/20 mA. -/
def Coil.regulate (x : Coil) (level mA : Nat) : Coil :=
  let h := if x.cfg.holdHyst ≠ 0 then 20 * x.cfg.holdHyst else max level 400
  if 20 * mA + h < 20 * level then { x with low := true }
  else if 20 * level + h < 20 * mA then { x with low := false }
  else x

/-- Regulation at a control update (R210). -/
def Coil.control (x : Coil) (mA : Nat) : Coil :=
  match x.eng.reg with
  | .none => x
  | .peak l => x.regulate l mA
  | .hold l => x.regulate l mA

/-- Does the current stand below the band of HOLD_UNREACHABLE (R216)? -/
def Coil.belowHold (x : Coil) (mA : Nat) : Bool :=
  match x.eng.reg with
  | .hold l => decide (10 * mA + max l 200 < 10 * l)
  | _ => false

/-- The instants the hardware's conditions run from (R214, R216), after an update. `was` is the low side before it. -/
def State.track (s : State) (c : AcNo) (was : Bool) (mA : Nat) : State :=
  let t := s.ticks
  let ph := s.phase c
  let fed := s.batteryOn (acBank c) || (s.bank (acBank c)).holder.isSome
  s.onCoil c fun x =>
    let keep := fun (old : Option Nat) => some (if was then old.getD t else t)
    { x with
      leakSince := if ph == .released && fed && decide (100 ≤ mA) then some (x.leakSince.getD t) else none
      belowSince := if mA < 20 then some (x.belowSince.getD t) else none
      openSince := if x.low && (ph == .boost || ph == .peak || ph == .hold) && (!was || decide (mA < 30)) then keep x.openSince else none
      unreachSince := if x.low && ph == .hold && x.belowHold mA then keep x.unreachSince else none }

/-- Step 4 of R231 with the instructions the update has left, then the policy's release at HOLD entry (R245). -/
def State.engineResume (s : State) (c : AcNo) (t : Taken) (left : Nat) : State :=
  let seen := (s.coil c).eng.holdSeen
  let s := bobRun c t left (s.onEng c fun e => { e with holdSeen := false })
  let entry := (s.coil c).eng.holdSeen
  let s := s.onEng c fun e => { e with holdSeen := e.holdSeen || seen }
  if s.acOrphanDue c entry then s.acOrphanRelease c else s

/-- Steps 3 and 4 of R231. -/
def State.engineUpdate (s : State) (c : AcNo) (t : Taken) : State :=
  let s := s.bobGuards c t
  if (s.coil c).eng.run then s.engineResume c t 32 else s

/-- A DECAY that begins from HOLD in this update, by an instruction of the program, arms the drop-out detector (R208). -/
def State.armDropout (s : State) (c : AcNo) (was : Phase) : State :=
  if was = .hold ∧ s.phase c = .decay ∧ (s.coil c).dropout = none then
    s.onCoil c fun x => { x with dropout := some x.eng.diag.isNone, eng := { x.eng with lowKept := false, samples := [] } }
  else s

/-- Step 5 of R231 and what the hardware judges after it: `ph` is the phase and `was` the low side before the update. -/
def State.endUpdate (s : State) (c : AcNo) (ph : Phase) (was : Bool) (mA : Nat) : State :=
  (((s.onCoil c fun x => x.control mA).armDropout c ph).settle c).track c was mA

/-- Once the lower-numbered channel of a bank has been updated, a request that its neighbour made in the same tick is judged, and the neighbour's
program goes on in that tick, in the same update (R201, R231). -/
def State.resumeOther (s : State) (c : AcNo) : State :=
  let o := acOther c
  if c.1 < o.1 ∧ (s.coil o).eng.request = some s.ticks ∧ (s.coil o).updAt = some s.ticks ∧ s.mayBoost o = true then
    let x := s.coil o
    let ph := s.phase o
    (s.engineResume o { mA := x.iCoil, holds := false } x.eng.left).endUpdate o ph x.low x.iCoil
  else s

end Sys2Proof.Machine
end

