-- ==== Sys2Proof/Machine/DriveRows.lean ====
section
/-! DEFINITION. The commands and events of the drive island (spec/07, spec/08): the rows VBOOST_READY to AC_LOAD_BOBBIN, the
host's commands, the registers, and the island's part of the frame mark. -/

namespace Sys2Proof.Machine

open Sys2Proof

/-! ## The boost rail and the banks -/

/-- VBOOST_READY (R198): VBOOST in mV as it reaches VB_START. -/
def opVboostReady (mv : Nat) (s : State) : State := s.setVboost mv

/-- VBOOST_AT_VB_SET (R198): VBOOST in mV; at VB_SET the converter stops delivering. -/
def opVboostAtVbSet (mv : Nat) (s : State) : State := s.setVboost mv

/-- VBOOST_OV (R198). -/
def opVboostOv (mv : Nat) (s : State) : State := s.setVboost mv

/-- BOOST_FAIL (R198): 500 ms of unstopped recharging below VB_START; raised once until the rail is ready or recharging stops. -/
def opBoostFail (mv : Nat) (s : State) : State :=
  let s := s.setVboost mv
  match s.drv.failFrom with
  | none => s
  | some t =>
    if s.drv.failed = true ∨ s.ticks < t + 500000 then s
    else (s.onDrv fun d => { d with boostFail := true, failed := true }).fault .D 5 0x2020 mv 0 0

/-- BOOST_CUT (R199): BOOST_ENERGY in mJ and the current in mA. -/
def opBoostCut (c : AcNo) (mJ mA : Nat) (s : State) : State :=
  if mJ < 1500 ∨ s.holdsBoost c = false then s
  else
    let s := (s.dropBoost c).onCoil c fun x => { x.flag 9 with boostEnergy := mJ, eng := { x.eng with capped := true } }
    (s.settle c).record 0x201C 5 (acNum c) mJ mA

/-- BOOST_GRANT (R200, R201). -/
def opBoostGrant (c : AcNo) (s : State) : State := if s.mayBoost c then s.grant c else s

/-- Has BANK_DEFER expired for a waiting channel (R201)? -/
def State.deferOver (s : State) (c : AcNo) : Bool :=
  match (s.coil c).eng.request with
  | none => false
  | some t => decide (t + (s.bank (acBank c)).defer * 100 ≤ s.ticks) && !s.mayBoost c && !s.tieOpen c

/-- BANK_DEFER_EXPIRY (R201). -/
def opBankDeferExpiry (c : AcNo) (s : State) : State := if s.deferOver c then s.refuseBoost c else s

/-- A 1 s mean of a bank in mA, with its tick (R212, R220). -/
def State.bankMean (s : State) (b : BankNo) (mean : Nat) : State :=
  let t := s.warp
  s.onBank b fun x => { x with mean := mean, meanAt := t }

/-- BANK_OVERLOAD (R212): the bank's 1 s mean in mA. -/
def opBankOverload (b : BankNo) (mean : Nat) (s : State) : State :=
  let was := (s.bank b).overload
  let s := s.bankMean b mean
  if was = true ∨ mean ≤ 10000 then s
  else (s.onBank b fun x => { x with overload := true }).fault .A 5 0x201B (b.1 + 1) mean 0

/-- BANK_OVERLOAD_CLEAR (R212). -/
def opBankOverloadClear (b : BankNo) (mean : Nat) (s : State) : State :=
  let s := s.bankMean b mean
  if 9000 < mean then s else s.onBank b fun x => { x with overload := false }

/-! ## A latched command -/

/-- A weft's latched command takes effect (R219, R226). -/
def State.applyDriveCmd (s : State) (c : AcNo) (p : BitVec 64) : State :=
  if pf p 18 2 = 0 then s.acRelease c .command
  else if s.mute (s.coil c).cfg.twinShared then s
  else s.acFire c (pf p 32 32) none

/-- Is the latched command of an actuator due (R123)? -/
def State.driveLatched (s : State) (c : AcNo) : Option Due :=
  match (s.coil c).latched with
  | none => none
  | some d => if s.warp < d.at_ then none else some d

/-- The latched command of an actuator falls due (R123, R330). -/
def State.driveDue (s : State) (c : AcNo) (checkOk : Bool) : State :=
  match s.driveLatched c with
  | none => s
  | some d =>
    let s := s.onCoil c fun x => { x with latched := none }
    if checkOk && d.good then s.applyDriveCmd c d.payload else s.fault .D 5 0xA140 (acObject c) 1 5

/-- ACTUATOR_FIRE (R218): the latched FIRE of a weft, at L. -/
def opActuatorFire (c : AcNo) (s : State) : State :=
  match s.driveLatched c with
  | none => s
  | some d => if pf d.payload 18 2 = 1 then s.driveDue c true else s

/-- ACTUATOR_RELEASE (R214): the latched RELEASE of a weft. -/
def opActuatorRelease (c : AcNo) (s : State) : State :=
  match s.driveLatched c with
  | none => s
  | some d => if pf d.payload 18 2 = 0 then s.driveDue c true else s

/-! ## The update and the hardware's conditions -/

/-- DECAY_END (R214): the mean current below 20 mA for 100 µs. -/
def opDecayEnd (c : AcNo) (s : State) : State :=
  let x := s.coil c
  match x.belowSince with
  | none => s
  | some t =>
    if x.eng.run = false ∧ (x.rest = .decay ∨ x.rest = .fastDecay) ∧ t + 100 ≤ s.ticks then
      s.onCoil c fun x => { x with rest := .released, dropout := none }
    else s

/-- FREEWHEEL_LATCH_EXPIRY (R195): the Taproot's latch lets the switch close 20 ms after it was set. -/
def opFreewheelLatchExpiry (c : AcNo) (s : State) : State :=
  match (s.coil c).fwAt with
  | none => s
  | some t => if s.since t < 20000 then s else s.onCoil c fun x => { x with fwAt := none }

/-- CONTROL_UPDATE (R196, R206 to R208, R210, R231), once in a tick: the mean current in mA, the coil-voltage sample in 10 mV, VBOOST in mV and
BOOST_ENERGY in mJ as measured. -/
def opControlUpdate (c : AcNo) (mA : Nat) (u : Int) (vb mJ : Nat) (s : State) : State :=
  if !s.driveUp || decide ((s.coil c).updAt = some s.ticks) then s
  else
    let was := (s.coil c).low
    let ph := s.phase c
    let s := s.setVboost vb
    let holds := s.holdsBoost c
    let n := s.ticks
    let t := s.warp
    let s := s.onCoil c fun x =>
      { x with iCoil := mA, uCoil := u, boostEnergy := if holds then mJ else x.boostEnergy, updAt := some n, sampledAt := t }
    let s := if (s.coil c).dropout.isSome then s.takeDropout c mA u
      else if (s.coil c).eng.run || decide ((s.coil c).rest = .hold) then s.takeKink c u
      else s
    let s := if (match s.driveLatched c with | some d => pf d.payload 18 2 == 0 | none => false) then s.driveDue c true else s
    let s := if s.acOrphanDue c false then s.acOrphanRelease c else s
    let s := opBankDeferExpiry c s
    let s := s.engineUpdate c { mA := mA, holds := holds }
    (s.endUpdate c ph was mA).resumeOther c

/-- HOLD_UNREACHABLE (R216): once per HOLD. -/
def opHoldUnreachable (c : AcNo) (s : State) : State :=
  let x := s.coil c
  match x.unreachSince, x.eng.reg with
  | some t, .hold l =>
    if x.unreachDone = true ∨ s.ticks < t + 5000 then s
    else (s.onCoil c fun x => { x with unreachDone := true }).raiseDiag c 3 0x2014 x.iCoil l
  | _, _ => s

/-- OPEN_COIL (R216). -/
def opOpenCoil (c : AcNo) (s : State) : State :=
  match (s.coil c).openSince with
  | none => s
  | some t => if s.ticks < t + 1000 then s else (s.raiseDiag c 4 0x2015 (s.phase c).num 0).acRelease c (.diag 4)

/-- SHORTED_COIL (R216): the comparator's current in mA. -/
def opShortedCoil (c : AcNo) (mA : Nat) (s : State) : State :=
  if mA < 25000 then s else (s.raiseDiag c 5 0x2016 (s.phase c).num 0).acRelease c (.diag 5)

/-- The channels of a bank. -/
def bankChans (b : BankNo) : List AcNo := allAc.filter fun c => acBank c = b

/-- Has a RELEASED channel carried 100 mA for 1 ms while its node is fed (R216)? -/
def State.leaks (s : State) (c : AcNo) : Bool :=
  decide (s.phase c = .released) && match (s.coil c).leakSince with
    | some t => decide (t + 1000 ≤ s.ticks)
    | none => false

/-- BANK_FAULT (R216): 0 a node current of 50 A, 1 a released channel carrying 100 mA for 1 ms; the current in mA. -/
def opBankFault (b : BankNo) (released : Bool) (mA : Nat) (s : State) : State :=
  if (if released then !(bankChans b).any s.leaks || decide (mA < 100) else decide (mA < 50000)) then s
  else
    let s := s.onBank b fun x => { x with fault := true, holder := none }
    let s := s.forEach (bankChans b) fun c s =>
      s.onCoil c fun x => { x with diagCount := satAdd 0xFFFFFFFF x.diagCount 1 }
    let s := s.fault .A 5 0x2017 (b.1 + 1) (b2n released) mA
    s.forEach (bankChans b) fun c s =>
      (s.onEng c fun e => { e with diag := some 0xFF }).acRelease c .bankFault

/-! ## Commands of the weft -/

/-- CMD_INVALID from the drive island (R219, R229), a record only (R126; log entry 12). -/
def State.driveInvalid (s : State) (p0 : Nat) (p : BitVec 64) : State :=
  s.planRecord 5 0x2010 p0 (pf p 0 32) (pf p 32 32)

/-- DRIVE_CMD (R219, R120, R125). -/
def opDriveCmd (crcOk : Bool) (s : State) : State :=
  match s.receiveWord 1 tyCmd crcOk with
  | (none, s) => s
  | (some p, s) =>
    let s := s.onDrv fun d => { d with commit := { d.commit with count := d.commit.count + 1 } }
    match acOfNum (pf p 0 8) with
    | none => s.driveInvalid (pf p 0 8) p
    | some c =>
      if s.leads (s.coil c).cfg.twinShared then s
      else if (s.coil c).owner ≠ .weft then s.islandPlanFault 5 0x9013 0 0xFF (acObject c)
      else
        let action := pf p 18 2
        let argOk := pf p 32 32 == 0 || (action == 1 && decide ((s.coil c).cfg.bobbin ≠ 0))
        if pf p 8 10 ≤ 999 ∧ action ≤ 1 ∧ pf p 20 12 = 0 ∧ argOk then s.onCoil c fun x => { x with nextReg := some (CmdReg.keep p) }
        else s.driveInvalid (acNum c) p

/-- AC_STATE (R227). -/
def State.acStateWord (s : State) (c : AcNo) : Nat :=
  let x := s.coil c
  (s.phase c).num + 8 * b2n x.low + 16 * s.ownerNum x.owner x.cfg.twinShared + 64 * b2n x.orphan.isSome + 128 * b2n x.eng.run

/-- The value a read request asks for, with the warp tick it was sampled at (R151, R220). -/
def State.driveRead (s : State) (src qty : Nat) : Option (Nat × Nat) :=
  match acOfNum src with
  | some c =>
    let x := s.coil c
    match qty with
    | 0 => some (x.iCoil, x.sampledAt)
    | 1 => some (s.acStateWord c, s.warp)
    | 2 => some (x.flags.toNat, s.warp)
    | 3 => some (x.eng.tClose, s.warp)
    | 4 => some (x.eng.ttp, s.warp)
    | 5 => some (sgn x.uCoil, x.sampledAt)
    | 6 => some (x.holdInForce, s.warp)
    | _ => none
  | none =>
    if h : 0x80 ≤ src ∧ src ≤ 0x85 then (if qty = 0 then some ((s.bank ⟨src - 0x80, by omega⟩).mean, (s.bank ⟨src - 0x80, by omega⟩).meanAt) else none)
    else if src = 0x90 ∧ qty = 0 then some (s.drv.vboost, s.drv.vboostAt)
    else none

/-- DRIVE_READ_REQUEST (R220). -/
def opDriveReadRequest (crcOk : Bool) (s : State) : State :=
  match s.receiveWord 1 tyData crcOk with
  | (none, s) => s
  | (some p, s) =>
    let src := pf p 0 8
    let qty := pf p 8 8
    match (if pf p 16 48 = 0 then s.driveRead src qty else none) with
    | some (v, t) => s.sendWord 5 tyData (readAnswer v src qty t)
    | none => (s.sendWord 5 tyData (readAnswer 0xDEAD0000 src 0xFF s.warp)).driveInvalid src p

/-! ## Orphan hold, resets -/

/-- The tick count at which a commander was last heard (R154, R222); the passing of a channel to a weft counts for the Loom. -/
def Drive.heardAt (d : Drive) (host : Bool) : Nat := if host then d.svcHb.getD 0 else max (d.loomHb.getD 0) d.passAt

/-- ACTUATOR_ORPHAN_ENTER (R222): 3 ms without a HEARTBEAT of the Loom, or of the service core. -/
def opActuatorOrphanEnter (host : Bool) (s : State) : State :=
  if s.ticks < s.drv.heardAt host + 3000 then s
  else s.acOrphanEvent (b2n host) (s.acOwned (if host then .host else .weft))

/-- ACTUATOR_ORPHAN_SAFE (R222). -/
def opActuatorOrphanSafe (c : AcNo) (s : State) : State :=
  if s.driveUp && s.acOrphanDue c false then s.acOrphanRelease c else s

/-- The host commands that wait at the drive island end with STATE (R221, R224). -/
def State.endAcWaiting (s : State) (c : AcNo) : State :=
  (s.coil c).waiting.foldl (fun s r => match r.arg with
    | none => s.completeId r.cmd .state []
    | some _ => s.completeId r.cmd .state (s.fireReply c 2 3 0xFF)) s

/-- The island's registers, engines and store at their reset values (R224, R241); coils that carry current decay. -/
def State.driveClear (s : State) : State :=
  let s := s.forEach allAc fun c s => (s.endFireEarly c .reset).endAcWaiting c
  let acts := (Tab.fill 12 (Coil.reset (0, 0) .released none)).mapIdx fun c _ =>
    let x := s.coil c
    let ph := s.phase c
    let rest : Phase := if ph = .released ∨ ph = .fastDecay then ph else if 20 ≤ x.iCoil then .decay else .released
    Coil.reset (x.actCount, x.diagCount) rest x.fwAt
  let n := s.ticks
  ((s.onDrv fun _ => (Drive.resetWith acts).railStart n).railUpdate).clearMem 0x22100100 0x22101000

/-- DRIVE_RESET (R224). -/
def opDriveReset (s : State) : State :=
  let n := (allAc.filter fun c => s.phase c ≠ .released).length
  s.driveClear.fault .D 5 0x2003 n 0 0

/-- FORCE_SAFE at the drive island (R215): every channel that is not RELEASED, one already in FAST_DECAY included. -/
def State.driveForceSafe (s : State) : State :=
  let hit := allAc.filter fun c => s.phase c ≠ .released
  let s := s.forEach hit fun c s =>
    let on := decide (s.phase c ≠ .fastDecay)
    let s := (s.dropBoost c).onCoil c fun x =>
      let y := if on then x.stop .fastDecay else x
      { y.flag 12 with fwAt := some s.now, dropout := none }
    (s.settle c).endFireEarly c .forceSafe
  let s := s.onDrv fun d => { d with banks := d.banks.mapIdx fun _ b => { b with holder := none } }
  if hit = [] then s else s.record 0x2021 5 0 ((hit.map fun c => 2 ^ c.1).sum) 0

/-- CLEAR_LEARNED (R209). -/
def opClearLearned (c : AcNo) (s : State) : State := s.onCoil c fun x => x.unlearn

/-! ## Registers -/

/-- Is a value within a range? -/
def within (lo v hi : Nat) : Bool := decide (lo ≤ v) && decide (v ≤ hi)

/-- A write of one configuration register by its offset (R212, R227); none when a field is out of its range. `other` is I_HOLD
of the bank's other channel. -/
def AcCfg.write (k : AcCfg) (other off v : Nat) : Option AcCfg :=
  let lo := bits v 0 16
  let hi := bits v 16 16
  match off with
  | 0x00 => some { k with
      bobbin := ⟨bits v 0 4, Nat.mod_lt _ (by decide)⟩, learnEn := bit v 4, holdMinEn := bit v 5, policy := bits v 8 2
      twinShared := bit v 12 }
  | 0x04 => if within 10 (bits v 0 20) 600000 then some { k with safeAfter := bits v 0 20 } else none
  | 0x08 =>
    if within 500 lo 20000 && lo % 25 == 0 && within 100 hi 8000 && decide (hi + other ≤ 10000) then
      some { k with iPeak := lo, iHold := hi }
    else none
  | 0x0C => if within 2 lo 2000 && within 2 hi 2000 then some { k with tBoostMin := lo, tBoostMax := hi } else none
  | 0x10 => if within 1 lo 5000 && within 0 hi 1000 then some { k with tPeak := lo, holdHyst := hi } else none
  | 0x14 => if within 1 lo 65535 && within 1 hi 65535 then some { k with ttpMin := lo, ttpMax := hi } else none
  | 0x18 => if within 1 hi 65535 then some { k with kinkMin := lo, kinkMax := hi } else none
  | 0x1C =>
    if within 1 hi 65535 then some { k with
      kinkAvg := bits v 0 2, kinkEnd := bit v 2, kinkReq := bit v 3, kinkAction := bit v 4, kinkThresh := hi }
    else none
  | 0x20 =>
    if within 0 lo 2000 && within 10 (bits v 16 8) 255 then some { k with boostExtend := lo, holdMargin := bits v 16 8 } else none
  | 0x24 => if within 100 lo 8000 then some { k with holdFloor := lo } else none
  | 0x28 =>
    if within 1 (bits v 0 6) 60 && within 1 (bits v 8 8) 100 then some { k with dutyWindow := bits v 0 6, dutyLimit := bits v 8 8 }
    else none
  | _ => some k

/-- All of them written together, or none (R298). -/
def AcCfg.writeAll (k : AcCfg) (other : Nat) : List (Nat × Nat) → Option AcCfg
  | [] => some k
  | (off, v) :: rest =>
    match k.write other off v with
    | none => none
    | some k => AcCfg.writeAll k other rest

/-- A read of an actuator register (R227, R247). -/
def State.readAct (s : State) (c : AcNo) (off : Nat) : Nat :=
  let x := s.coil c
  let e := x.eng
  if off ≤ 0x28 then x.cfg.word off
  else if off = 0x40 then s.acStateWord c
  else if off = 0x44 then x.flags.toNat
  else if off = 0x48 then x.iCoil % 65536
  else if off = 0x4C then unsigned 16 x.uCoil
  else if off = 0x50 then e.tClose
  else if off = 0x54 then x.closeLearned
  else if off = 0x58 then e.ttp
  else if off = 0x5C then x.tBoostUs / 10
  else if off = 0x60 then x.holdInForce + 2 ^ 16 * (x.dropLearned % 65536)
  else if off = 0x64 then x.boostEnergy % 65536
  else if off = 0x68 then s.dutyUsed c / 1000 % 65536
  else if off = 0x6C then x.actCount
  else if off = 0x70 then x.diagCount
  else if off = 0x78 then
    e.pc + 2 ^ 8 * e.program.1 + 2 ^ 12 * b2n (e.guards.get 0).isSome + 2 ^ 13 * b2n (e.guards.get 1).isSome + 2 ^ 16 * e.error +
      2 ^ 24 * b2n x.userFault
  else if off = 0x7C then e.c.get 0 + 2 ^ 16 * e.c.get 1
  else if off = 0x80 then e.stampUser
  else if off = 0x84 then e.arg
  else if h : 0x88 ≤ off ∧ off < 0xA8 ∧ off % 4 = 0 then e.v.get ⟨(off - 0x88) / 4, by omega⟩
  else 0

/-- Is a channel's configuration closed to the host (R227)? -/
def Coil.cfgClosed (x : Coil) : Bool := decide (x.owner = .weft) || x.orphan.isSome

/-- Set CFG_DENIED (R227). -/
def State.acDenied (s : State) (c : AcNo) : State := s.onCoil c fun x => x.flag 11

/-- A write of an actuator register (R209, R217, R227, R247), with the status of a data-port write (R303). -/
def State.writeAct (s : State) (c : AcNo) (off v : Nat) : Status × State :=
  let x := s.coil c
  if off ∈ acOffsets then
    if x.cfgClosed then (.denied, s.acDenied c)
    else
      match x.cfg.write (s.coil (acOther c)).cfg.iHold off v with
      | none => (.badParam, s.acDenied c)
      | some k => (.ok, (s.onCoil c fun x => { x.unlearn with cfg := k }).muteAct c)
  else if off = 0x44 then (.ok, s.onCoil c fun x => { x with flags := x.flags &&& ~~~(BitVec.ofNat 14 v) })
  else if off = 0x74 then (.ok, if bit v 0 then s.onCoil c fun x => x.unlearn else s)
  else if off = 0x78 then (.ok, if bit v 24 then s.onCoil c fun x => { x with userFault := false } else s)
  else (.ok, s)

/-- Has a commander been heard within 3 ms, counted in ticks (R196, R228)? -/
def State.hbTicks (s : State) (h : Option Nat) : Bool :=
  match h with
  | none => false
  | some t => decide (s.ticks < t + 3000)

/-- A read of the common block (R228). -/
def State.readDrive (s : State) (off : Nat) : Nat :=
  let d := s.drv
  let defer := fun (b : BankNo) => (s.bank b).defer
  if off = 0x00 then
    b2n (s.hbTicks d.loomHb) + 2 * b2n (s.hbTicks d.svcHb) + 4 * b2n s.flt.forceSafe + 8 * b2n (d.recharging && !s.rechargeStop) +
      16 * b2n s.rechargeStop + 32 * b2n s.vboostReady + 2 ^ 8 * b2n d.driveReset + 2 ^ 9 * b2n d.boostFail +
      2 ^ 10 * b2n d.vboostOv + 2 ^ 11 * b2n d.cfgReject
  else if off = 0x04 then (if d.vboost < 65536 then d.vboost else (Config.boostOver d.vboost).toNat)
  else if off = 0x08 then d.vbSet + 2 ^ 16 * d.vbStart
  else if off = 0x0C then defer 0 + 2 ^ 8 * defer 1 + 2 ^ 16 * defer 2 + 2 ^ 24 * defer 3
  else if off = 0x10 then defer 4 + 2 ^ 8 * defer 5
  else if off = 0x14 then
    d.banks.mask (fun b => b.holder.isSome) + 2 ^ 8 * d.banks.mask (fun b => b.overload) + 2 ^ 16 * d.banks.mask (fun b => b.fault)
  else if off = 0x18 then d.acts.mask fun x => x.orphan.isSome
  else if h : 0x20 ≤ off ∧ off < 0x38 ∧ off % 4 = 0 then (s.bank ⟨(off - 0x20) / 4, by omega⟩).mean % 65536
  else 0

/-- A write of BANK_DEFER or VB_CONFIG that R228 ignores. -/
def State.driveReject (s : State) (st : Status) : Status × State := (st, s.onDrv fun d => { d with cfgReject := true })

/-- A write of the common block (R217, R228). -/
def State.writeDrive (s : State) (off v : Nat) : Status × State :=
  let owned := !(s.acOwned .weft).isEmpty
  match off with
  | 0x00 => (.ok, s.onDrv fun d =>
      { d with driveReset := d.driveReset && !bit v 8, boostFail := d.boostFail && !bit v 9, vboostOv := d.vboostOv && !bit v 10
               cfgReject := d.cfgReject && !bit v 11 })
  | 0x08 =>
    let a := bits v 0 16
    let b := bits v 16 16
    if !(within 36000 a 65000 && within 36000 b a) then s.driveReject .badParam
    else if owned then s.driveReject .denied
    else (.ok, (s.onDrv fun d => { d with vbSet := a, vbStart := b }).railUpdate)
  | 0x0C =>
    if ((List.range 4).any fun i => decide (50 < bits v (8 * i) 8)) then s.driveReject .badParam
    else if owned then s.driveReject .denied
    else (.ok, s.onDrv fun d =>
      { d with banks := d.banks.mapIdx fun i b => if i.1 < 4 then { b with defer := bits v (8 * i.1) 8 } else b })
  | 0x10 =>
    if ((List.range 2).any fun i => decide (50 < bits v (8 * i) 8)) then s.driveReject .badParam
    else if owned then s.driveReject .denied
    else (.ok, s.onDrv fun d =>
      { d with banks := d.banks.mapIdx fun i b => if i.1 < 4 then b else { b with defer := bits v (8 * (i.1 - 4)) 8 } })
  | 0x14 => (.ok, s.onDrv fun d => { d with banks := d.banks.mapIdx fun i b => { b with fault := b.fault && !bit v (16 + i.1) } })
  | _ => (.ok, s)

/-- A read of the store block (R241, R248), by offset from 0x2210_0000. -/
def State.readStore (s : State) (off : Nat) : Nat :=
  if off < 0x1000 then s.bobWord (off / 0x100) (off % 0x100 / 4)
  else if off < 0x1040 then s.bobCrc ((off - 0x1000) / 4)
  else if off = 0x1040 then s.drv.bobValid
  else 0

/-! ## Host commands -/

/-- The payload of a host command's SERVICE word: the fields of R219 at OFFSET 0 (DESIGN CHOICE, log entry 146). -/
def acPayload (c : AcNo) (arg : Option Nat) : BitVec 64 :=
  match arg with
  | some a => BitVec.ofNat 64 (acNum c + 2 ^ 18 + 2 ^ 32 * a)
  | none => BitVec.ofNat 64 (acNum c)

/-- AC_FIRE (R221, R226, R297). -/
def opAcFire (r : CmdRef) (s : State) : State :=
  s.onCommand r 0x0301 fun q s =>
    let p := q.params
    match acOfNum (u8 p 0) with
    | none => s.complete q .badParam []
    | some c =>
      if p.length ≠ 8 ∨ zeroAt p [1, 2, 3] = false then s.complete q .badParam []
      else if s.twinDenies (s.coil c).cfg.twinShared || s.inhibited (s.coil c).cfg.twinShared then
        s.complete q .denied (s.fireReply c 1 0 0xFF)
      else if (s.coil c).owner = .weft then s.complete q .denied (s.fireReply c 1 0 0xFF)
      else if (s.coil c).orphan.isSome then s.complete q .state (s.fireReply c 1 0 0xFF)
      else (s.handOver q .target).sendWord 10 tyService (acPayload c (some (u32 p 4))) q.id

/-- AC_RELEASE (R221, R296). -/
def opAcRelease (r : CmdRef) (s : State) : State :=
  s.onCommand r 0x0302 fun q s =>
    let p := q.params
    match acOfNum (u8 p 0) with
    | none => s.complete q .badParam []
    | some c =>
      if p.length ≠ 4 ∨ zeroAt p [1, 2, 3] = false then s.complete q .badParam []
      else if s.twinDenies (s.coil c).cfg.twinShared then s.complete q .denied []
      else if (s.coil c).owner = .weft then s.complete q .denied []
      else if (s.coil c).orphan.isSome then s.complete q .state []
      else (s.handOver q .target).sendWord 10 tyService (acPayload c none) q.id

/-- A waiting host command takes effect at a frame mark (R221). -/
def State.applyAcReq (s : State) (c : AcNo) (r : AcReq) : State :=
  let x := s.coil c
  match r.arg with
  | some a =>
    if x.owner = .weft then s.completeId r.cmd .denied (s.fireReply c 1 0 0xFF)
    else if x.orphan.isSome then s.completeId r.cmd .state (s.fireReply c 1 0 0xFF)
    else if s.inhibited x.cfg.twinShared then s.completeId r.cmd .denied (s.fireReply c 1 0 0xFF)
    else if s.leads x.cfg.twinShared then s.completeId r.cmd .held []
    else s.acFire c a (some r.cmd)
  | none =>
    if x.owner = .weft then s.completeId r.cmd .denied []
    else if x.orphan.isSome then s.completeId r.cmd .state []
    else
      let s := (s.acRelease c .command).onCoil c fun x => { x with owner := .host }
      s.completeId r.cmd .ok (le 1 (acNum c) ++ le 1 (s.phase c).num ++ zeros 2)

/-- The host commands that wait at the drive island take effect (R221), but those whose check fails (R330; log entry 131). -/
def State.driveHostMark (s : State) (bad : List Nat) : State :=
  s.forEach allAc fun c s =>
    let l := (s.coil c).waiting
    let s := s.onCoil c fun x => { x with waiting := [] }
    s.forEach l fun r s =>
      if bad.contains (acObject c) || !r.reg.good then
        (s.fault .D 5 0xA140 (acObject c) 1 5).completeId r.cmd .state (if r.arg.isSome then s.fireReply c 1 0 0xFF else [])
      else s.applyAcReq c r

/-- The eleven registers as AC_CONFIG carries them. -/
def AcCfg.bytes (k : AcCfg) : List Byte := acOffsets.flatMap fun o => le 4 (k.word o)

/-- AC_CONFIG (R298). -/
def opAcConfig (r : CmdRef) (s : State) : State :=
  s.onCommand r 0x0303 fun q s =>
    let p := q.params
    match acOfNum (u8 p 0) with
    | none => s.complete q .badParam []
    | some c =>
      if p.length ≠ 48 ∨ zeroAt p [1, 2, 3] = false then s.complete q .badParam []
      else
        match (s.coil c).cfg.writeAll (s.coil (acOther c)).cfg.iHold (acOffsets.map fun o => (o, u32 p (4 + o))) with
        | none => (s.acDenied c).complete q .badParam []
        | some k =>
          if (s.coil c).cfgClosed then (s.acDenied c).complete q .denied []
          else ((s.onCoil c fun x => { x.unlearn with cfg := k }).muteAct c).complete q .ok (le 1 (acNum c) ++ zeros 3 ++ k.bytes)

/-- AC_GET (R296). -/
def opAcGet (r : CmdRef) (s : State) : State :=
  s.onCommand r 0x0305 fun q s =>
    let p := q.params
    match acOfNum (u8 p 0) with
    | none => s.complete q .badParam []
    | some c =>
      if p.length ≠ 4 ∨ zeroAt p [1, 2, 3] = false then s.complete q .badParam []
      else
        let g := fun (o : Nat) => s.readAct c o
        s.complete q .ok (le 1 (acNum c) ++ zeros 3 ++ le 4 (g 0x40) ++ le 4 (g 0x44) ++ le 2 (g 0x48) ++ le 2 (g 0x4C) ++
          le 4 (g 0x50) ++ le 4 (g 0x58) ++ le 4 (g 0x60) ++ le 2 (g 0x68) ++ zeros 2)

/-- Is a program in use (R242)? -/
def State.bobInUse (s : State) (n : Nat) : Bool :=
  (s.weft.store.any fun w => match w with
    | none => false
    | some w => w.decl.acts.any fun d => d.bobbin == n) ||
  allAc.any fun c => decide ((s.coil c).cfg.bobbin.1 = n) && decide (s.phase c ≠ .released)

/-- AC_LOAD_BOBBIN (R242). -/
def opAcLoadBobbin (r : CmdRef) (s : State) : State :=
  s.onCommand r 0x0304 fun q s =>
    let p := q.params
    let n := u8 p 0
    let words := (List.range 64).map fun k => u32 p (4 + 4 * k)
    let reject := fun (s : State) (st : Status) (w : Nat) =>
      (s.record 0x2025 5 n w st.code).complete q st (le 4 (s.bobCrc n) ++ le 1 w ++ zeros 3)
    if p.length ≠ 260 ∨ zeroAt p [1, 2, 3] = false then s.complete q .badParam []
    else if n = 0 then reject s .denied 0xFF
    else if 15 < n then reject s .badParam 0xFF
    else if s.bobInUse n then reject s .denied 0xFF
    else
      match words.findIdx? fun w => !bobWordOk w with
      | some i => reject s .badParam i
      | none =>
        let s := (s.writeMem (bobAddr n) (p.drop 4)).onDrv fun d => { d with bobValid := d.bobValid ||| 2 ^ n }
        let crc := crc32c (p.drop 4)
        (s.record 0x2024 5 n crc 0).complete q .ok (le 4 crc ++ le 1 0xFF ++ zeros 3)

/-! ## The frame mark -/

/-- One actuator entry of SW_ADOPT (R223, R298): the result byte. -/
def State.adoptAct (s : State) (c : AcNo) (e : AdoptEntry) : Nat × State :=
  let x := s.coil c
  if x.owner = .weft then (3, s)
  else if x.orphan.isSome then
    if s.acAdoptState c = e.expect then (0, s.acPassTo c .host)
    else (1, s.record 0x9006 5 e.object e.expect (s.acAdoptState c))
  else if x.owner = .host ∧ s.acAdoptState c = e.expect then (4, s)
  else (2, s)

/-- FRAME_COMMIT of the drive island (R122, R330). -/
def State.driveCommit (s : State) (weft : Bool) (bad : Option Nat) : State :=
  let h := s.drv.commit.held
  let s := s.onDrv fun d => { d with commit := { d.commit with held := none } }
  let drop := s.onDrv fun d => { d with acts := d.acts.mapIdx fun _ x => { x with nextReg := none } }
  let bad := bad.or ((allAc.find? fun c => (s.coil c).nextReg.any fun r => !r.good).map acObject)
  match bad with
  | some o => drop.fault .D 5 0xA140 o 0 5
  | none =>
    let valid := match h with
      | some (f, n, m) => decide (f = s.frame % 2 ^ 32) && n == m
      | none => false
    if valid then
      s.onDrv fun d => { d with acts := d.acts.mapIdx fun _ x =>
        match x.nextReg with
        | none => x
        | some r => { x with nextReg := none, latched := some (r.latch s.frame) } }
    else if weft then
      let (n, m) := match h with
        | some (_, n, m) => (m, n)
        | none => (s.drv.commit.count, 0xFFFF)
      drop.islandPlanFault 5 0x9014 0 0xFF (n % 65536 + 65536 * (m % 65536))
    else drop

/-! ## The meanings of the commands -/

/-- VBOOST_READY (R198). -/
def execVboostReady (mv : Nat) (s : State) : Host.Outcome State Fault Refusal := .next (opVboostReady mv s)

/-- VBOOST_OV (R198). -/
def execVboostOv (mv : Nat) (s : State) : Host.Outcome State Fault Refusal := .next (opVboostOv mv s)

/-- BOOST_FAIL (R198). -/
def execBoostFail (mv : Nat) (s : State) : Host.Outcome State Fault Refusal := .next (opBoostFail mv s)

/-- BOOST_CUT (R199). -/
def execBoostCut (c : AcNo) (mJ mA : Nat) (s : State) : Host.Outcome State Fault Refusal := .next (opBoostCut c mJ mA s)

/-- BOOST_GRANT (R201). -/
def execBoostGrant (c : AcNo) (s : State) : Host.Outcome State Fault Refusal := .next (opBoostGrant c s)

/-- BANK_DEFER_EXPIRY (R201). -/
def execBankDeferExpiry (c : AcNo) (s : State) : Host.Outcome State Fault Refusal := .next (opBankDeferExpiry c s)

/-- ACTUATOR_FIRE (R218). -/
def execActuatorFire (c : AcNo) (s : State) : Host.Outcome State Fault Refusal := .next (opActuatorFire c s)

/-- ACTUATOR_RELEASE (R214). -/
def execActuatorRelease (c : AcNo) (s : State) : Host.Outcome State Fault Refusal := .next (opActuatorRelease c s)

/-- DECAY_END (R214). -/
def execDecayEnd (c : AcNo) (s : State) : Host.Outcome State Fault Refusal := .next (opDecayEnd c s)

/-- FREEWHEEL_LATCH_EXPIRY (R195). -/
def execFreewheelLatchExpiry (c : AcNo) (s : State) : Host.Outcome State Fault Refusal := .next (opFreewheelLatchExpiry c s)

/-- CONTROL_UPDATE (R231). -/
def execControlUpdate (c : AcNo) (mA : Nat) (u : Int) (vb mJ : Nat) (s : State) : Host.Outcome State Fault Refusal :=
  .next (opControlUpdate c mA u vb mJ s)

/-- HOLD_UNREACHABLE (R216). -/
def execHoldUnreachable (c : AcNo) (s : State) : Host.Outcome State Fault Refusal := .next (opHoldUnreachable c s)

/-- OPEN_COIL (R216). -/
def execOpenCoil (c : AcNo) (s : State) : Host.Outcome State Fault Refusal := .next (opOpenCoil c s)

/-- SHORTED_COIL (R216). -/
def execShortedCoil (c : AcNo) (mA : Nat) (s : State) : Host.Outcome State Fault Refusal := .next (opShortedCoil c mA s)

/-- BANK_FAULT (R216). -/
def execBankFault (b : BankNo) (released : Bool) (mA : Nat) (s : State) : Host.Outcome State Fault Refusal :=
  .next (opBankFault b released mA s)

/-- BANK_OVERLOAD (R212). -/
def execBankOverload (b : BankNo) (mean : Nat) (s : State) : Host.Outcome State Fault Refusal := .next (opBankOverload b mean s)

/-- BANK_OVERLOAD_CLEAR (R212). -/
def execBankOverloadClear (b : BankNo) (mean : Nat) (s : State) : Host.Outcome State Fault Refusal := .next (opBankOverloadClear b mean s)

/-- DRIVE_CMD (R219). -/
def execDriveCmd (crcOk : Bool) (s : State) : Host.Outcome State Fault Refusal := .next (opDriveCmd crcOk s)

/-- DRIVE_READ_REQUEST (R220). -/
def execDriveReadRequest (crcOk : Bool) (s : State) : Host.Outcome State Fault Refusal := .next (opDriveReadRequest crcOk s)

/-- ACTUATOR_ORPHAN_ENTER (R222). -/
def execActuatorOrphanEnter (host : Bool) (s : State) : Host.Outcome State Fault Refusal := .next (opActuatorOrphanEnter host s)

/-- ACTUATOR_ORPHAN_SAFE (R222). -/
def execActuatorOrphanSafe (c : AcNo) (s : State) : Host.Outcome State Fault Refusal := .next (opActuatorOrphanSafe c s)

/-- CLEAR_LEARNED (R209). -/
def execClearLearned (c : AcNo) (s : State) : Host.Outcome State Fault Refusal := .next (opClearLearned c s)

/-- AC_LOAD_BOBBIN (R242). -/
def execAcLoadBobbin (r : CmdRef) (s : State) : Host.Outcome State Fault Refusal := .next (opAcLoadBobbin r s)

/-- AC_FIRE (R221). -/
def execAcFire (r : CmdRef) (s : State) : Host.Outcome State Fault Refusal := .next (opAcFire r s)

/-- AC_RELEASE (R221). -/
def execAcRelease (r : CmdRef) (s : State) : Host.Outcome State Fault Refusal := .next (opAcRelease r s)

/-- AC_CONFIG (R298). -/
def execAcConfig (r : CmdRef) (s : State) : Host.Outcome State Fault Refusal := .next (opAcConfig r s)

/-- AC_GET (R296). -/
def execAcGet (r : CmdRef) (s : State) : Host.Outcome State Fault Refusal := .next (opAcGet r s)

/-- VBOOST_AT_VB_SET (R198). -/
def execVboostAtVbSet (mv : Nat) (s : State) : Host.Outcome State Fault Refusal := .next (opVboostAtVbSet mv s)

end Sys2Proof.Machine
end

