-- ==== Sys2Proof/Machine/ServiceOps.lean ====
section
/-! DEFINITION. The shuttle links of the service core (R57 to R63, R153, R221, R303): SERVICE words at the switch and drive islands, and register
accesses. -/

namespace Sys2Proof.Machine

open Sys2Proof

/-- A HEARTBEAT stands in an island (R154, R222): of the service core, or of the Loom. -/
def State.heard (s : State) (drive host : Bool) : State :=
  let t := s.now
  let n := s.ticks
  if drive then s.onDrv fun d => if host then { d with svcHb := some n } else { d with loomHb := some n }
  else s.onSw fun w => if host then { w with svcHb := some t } else { w with loomHb := some t }

/-- A host command stands in the switch island (R153), with its command check (R330), in the order of arrival. -/
def State.queueChan (s : State) (id : Nat) (p : BitVec 64) : State :=
  match chOfNum (pf p 0 8) with
  | none => s.completeId id .state []
  | some c =>
    match switchCmd p c with
    | none => s.completeId id .state []
    | some k =>
      let n := s.sw.arrivals
      let s := s.onSw fun w => { w with arrivals := n + 1 }
      s.onChan c fun x =>
        { x with waiting := x.waiting ++
            [{ cmd := id, arrival := n, body := k, reg := CmdReg.keep p, firstMark := none, lastNeed := 0, lastHave := 0 }] }

/-- A host command stands in the drive island (R221), with its command check (R330). -/
def State.queueAct (s : State) (id : Nat) (p : BitVec 64) : State :=
  match acOfNum (pf p 0 8) with
  | none => s.completeId id .state []
  | some c =>
    let arg := if pf p 18 2 = 1 then some (pf p 32 32) else none
    s.onCoil c fun x => { x with waiting := x.waiting ++ [{ cmd := id, arg := arg, reg := CmdReg.keep p }] }

/-- The oldest word from the service core arrives in the switch or drive island (R57 to R60). A command whose word is given up ends with STATE
(DESIGN CHOICE, log entry 146). -/
def State.serviceArrive (s : State) (drive crcOk : Bool) : State :=
  let k : LinkNo := if drive then 10 else 9
  let s := s.takeAcks k
  match (s.link k).headWord with
  | none => s
  | some w =>
    match s.receiveWord k w.typ crcOk with
    | (some p, s) =>
      if w.typ = tyService then (if drive then s.queueAct w.ref p else s.queueChan w.ref p)
      else if w.typ = tyHeartbeat then s.heard drive true
      else s
    | (none, s) => if w.typ = tyService ∧ (w.resent = true ∨ (crcOk && w.good) = true) then s.completeId w.ref .state [] else s

/-- Words of a link that have not arrived, those its sender holds included. -/
def Link.waiting (l : Link) : Nat := realWords l.fly + l.hold.length

/-- Does a SERVICE word wait on a link? -/
def Link.hasService (l : Link) : Bool := (l.fly.any fun w => w.typ == tyService) || l.hold.any fun h => h.1 == tyService

/-- Every word from the service core that has been sent to an island has arrived (R61: within 2 µs). -/
def State.serviceDrain (s : State) (drive : Bool) : State :=
  s.forEach (List.range (s.link (if drive then 10 else 9)).waiting) fun _ s => s.serviceArrive drive true

/-- The SERVICE words sent to an island stand in it, and what was sent before them (R61, R63). -/
def State.serviceDue (s : State) (drive : Bool) : State :=
  s.forEach (List.range (s.link (if drive then 10 else 9)).waiting) fun _ s =>
    if (s.link (if drive then 10 else 9)).hasService then s.serviceArrive drive true else s

/-- HEARTBEAT_RECEIVE (R122, R154, R222): from the Loom, or from the service core, whose SERVICE words sent before it arrive first (R63). -/
def State.heartbeat (s : State) (drive host crcOk : Bool) : State :=
  let k : LinkNo := if host then (if drive then 10 else 9) else if drive then 1 else 0
  let s := if !host then s else s.forEach (List.range (s.link k).waiting) fun _ s =>
    if ((s.link k).headWord.map ShWord.typ) == some tyService then s.serviceArrive drive true else s
  match s.receiveWord k tyHeartbeat crcOk with
  | (none, s) => s
  | (some _, s) => s.heard drive host

/-- The link from the service core to an island, and whether words can be in flight on it when a register access comes. -/
def coreLink : Nat → Option LinkNo
  | 4 => some 9 | 5 => some 10 | 0 => some 11 | 1 => some 12 | 3 => some 13 | 7 => some 14 | 8 => some 15
  | _ => none

/-- `n` register accesses of the service core at an island (R58, R303): each is a SERVICE word, which a read answers with another; all of them and
their ACKs have crossed within the bound of R61, behind the words sent before (R63; DESIGN CHOICE, log entry 146). -/
def State.access (s : State) (island n : Nat) (reads : Bool) : State :=
  match coreLink island with
  | none => s
  | some k =>
    let s := if k = 9 then s.serviceDrain false else if k = 10 then s.serviceDrain true else s
    let s := match k.back with
      | some j => s.takeAcks j
      | none => s
    s.crossWords k (if reads then 2 * n else n)

end Sys2Proof.Machine
end

