-- ==== Sys2Proof/Machine/FieldRows.lean ====
section
/-! DEFINITION. The barrier, the field side and its commands (spec/09): the rows BARRIER_FRAME to FIELD_FLAG_CLEAR, FIO_SET,
FIO_GET and FIO_CONFIG. FIELD_FRAME_RECEIVE, which also watches for tampering, stands with the access family. -/

namespace Sys2Proof.Machine

open Sys2Proof

def State.onSide (s : State) (f : FieldSide → FieldSide) : State := s.onFld fun x => { x with side := f x.side }

def State.side (s : State) : FieldSide := s.fld.side

/-! ## Configuration registers -/

/-- IN_CONFIG of an input and CNT_CONFIG of a counter, by offset (R270). -/
def inCfgIdx (off : Nat) : Option (Fin 24) :=
  if h : 0x40 ≤ off ∧ off < 0xA0 ∧ off % 4 = 0 then some ⟨(off - 0x40) / 4, by omega⟩ else none
def cntCfgIdx (off : Nat) : Option (Fin 8) :=
  if h : 0xA0 ≤ off ∧ off < 0xC0 ∧ off % 4 = 0 then some ⟨(off - 0xA0) / 4, by omega⟩ else none

/-- The configuration registers' offsets, in order (R267, R270). -/
def fieldCfgOffsets : List Nat :=
  [0x04, 0x0C, 0x34] ++ (List.range 24).map (fun n => 0x40 + 4 * n) ++ (List.range 8).map fun k => 0xA0 + 4 * k

def InCfg.word (c : InCfg) : Nat := c.filter + 2 ^ 8 * b2n c.chatEn + 2 ^ 9 * b2n c.freeze + 2 ^ 12 * c.tStuck

/-- A configuration register as a word (R270). -/
def FieldCfg.read (c : FieldCfg) (off : Nat) : Nat :=
  match off with
  | 0x04 => c.chatterN + 2 ^ 8 * c.chatterW + 2 ^ 16 * c.wakeEn
  | 0x0C => c.weftMask.toNat
  | 0x34 => c.fsEn.toNat + 2 ^ 16 * c.fsValue.toNat
  | _ =>
    match inCfgIdx off, cntCfgIdx off with
    | some i, _ => (c.inputs.get i).word
    | none, some k => c.edges.get k
    | none, none => 0

/-- A write of a configuration register (R270); none when the value is out of its range. -/
def FieldCfg.write (c : FieldCfg) (off v : Nat) : Option FieldCfg :=
  match off with
  | 0x04 =>
    if bits v 0 8 < 2 ∨ bits v 8 8 = 0 then none
    else some { c with chatterN := bits v 0 8, chatterW := bits v 8 8, wakeEn := bits v 16 4 }
  | 0x0C => some { c with weftMask := BitVec.ofNat 16 v }
  | 0x34 => some { c with fsEn := BitVec.ofNat 16 v, fsValue := BitVec.ofNat 16 (v / 65536) }
  | _ =>
    match inCfgIdx off, cntCfgIdx off with
    | some i, _ =>
      if 86400 < bits v 12 17 then none
      else
        let k : InCfg := { filter := bits v 0 8, chatEn := bit v 8, freeze := bit v 9, tStuck := bits v 12 17 }
        some { c with inputs := c.inputs.put i k }
    | none, some k => some { c with edges := c.edges.put k (bits v 0 2) }
    | none, none => some c

/-- A configuration write (R262, R270): its status, mirrored and queued; `cmd` is the FIO_CONFIG that waits for it. The answer
tells whether it is complete at once. -/
def State.fieldConfig (s : State) (off v : Nat) (cmd : Option Nat) : Status × Bool × State :=
  if off = 0x0C ∧ s.weft.running.isSome then (.denied, true, s)
  else
    match s.fld.mirror.write off v with
    | none => (.badParam, true, s)
    | some m =>
      if !s.supply.fpPresent then (.ok, true, s.onFld fun f => { f with mirror := m, unsent := f.unsent.filter (· != off) ++ [off] })
      else if 64 ≤ s.fld.queue.length then (.busy, true, s)
      else
        (.ok, false, s.onFld fun f => { f with mirror := m, queue := f.queue ++ [{ off := off, value := m.read off, cmd := cmd }] })

/-- FIELD_CONFIG_WRITE (R270): offset and value. -/
def opFieldConfigWrite (off v : Nat) (s : State) : State :=
  if off ∈ fieldCfgOffsets then (s.fieldConfig off v none).2.2 else s

/-- COUNTER_CLEAR (R257, R261): a mask of counters. -/
def opCounterClear (mask : BitVec 8) (s : State) : State :=
  s.onFld fun f => { f with clear := f.clear ||| (mask.setWidth 27 <<< 16) }

/-- FIELD_FLAG_CLEAR (R270): masks of OVERSPEED and WRAP, of the GROUP_LIMITs, LOGIC_SILENT, and of FO_OVERLOAD. -/
def opFieldFlagClear (overspeed wrap : BitVec 8) (groups : BitVec 2) (silent : Bool) (outs : BitVec 16) (s : State) : State :=
  s.onFld fun f =>
    { f with
      clear := f.clear ||| overspeed.setWidth 27 ||| (wrap.setWidth 27 <<< 8) ||| (groups.setWidth 27 <<< 24) |||
        (if silent then 1 <<< 26 else 0)
      foClear := f.foClear ||| outs }

/-! ## Inputs -/

/-- One raw sample of a filtered input (R254). -/
def Input.sample (x : Input) (c : InCfg) (raw : Bool) : Bool × Input :=
  if raw = x.value then (false, { x with count := 0 })
  else if max 1 (c.filter * 10) ≤ x.count + 1 then (true, { x with value := raw, count := 0 })
  else (false, { x with count := x.count + 1 })

/-- The monitors at a sample (R255, R256): the window of changes, the end of CHATTER, the reported value. -/
def Input.monitor (x : Input) (c : FieldCfg) (k : InCfg) (changed : Bool) (now : Nat) : Input :=
  let l := ((if changed then [now] else []) ++ x.changes).filter fun t => decide (now < t + c.chatterW * 100000)
  let x := { x with changes := if k.chatEn then l else [] }
  let chat := x.chatter && decide (c.chatterN / 2 < x.changes.length)
  let rep := if chat && k.freeze then x.reported else x.value
  { x with chatter := chat, reported := rep, ones := if rep && x.reported then x.ones + 1 else 0, stuck := x.stuck && rep }

/-- The field side samples (R253): a raw value of each input. -/
def FieldSide.sampleAll (f : FieldSide) (raw : BitVec 32) (now : Nat) : FieldSide :=
  { f with raw := raw, inputs := f.inputs.mapIdx fun i x =>
      let k := f.cfg.inputs.get i
      let (ch, y) := x.sample k (raw.getLsbD i.1)
      y.monitor f.cfg k ch now }

/-- STUCK (R255). -/
def opStuck (i : Fin 24) (s : State) : State :=
  let f := s.side
  let x := f.inputs.get i
  let t := (f.cfg.inputs.get i).tStuck
  if f.running = false ∨ t = 0 ∨ x.stuck = true ∨ x.ones < t * 100000 then s
  else (s.onSide fun f => { f with inputs := f.inputs.upd i fun x => { x with stuck := true } }).record 0x3002 6 (i.1 + 1) t 0

/-- CHATTER (R256). -/
def opChatter (i : Fin 24) (s : State) : State :=
  let f := s.side
  let x := f.inputs.get i
  let k := f.cfg.inputs.get i
  if f.running = false ∨ k.chatEn = false ∨ x.chatter = true ∨ x.changes.length ≤ f.cfg.chatterN then s
  else
    (s.onSide fun f => { f with inputs := f.inputs.upd i fun x => { x with chatter := true } }).record 0x3003 6 (i.1 + 1)
      x.changes.length (b2n k.freeze)

/-- FAST_COUNT_EDGE (R257, R258): an edge on IN25 + k, its polarity, and the field-clock cycles since the edge before. -/
def opFastCountEdge (k : Fin 8) (rising : Bool) (interval : Nat) (s : State) : State :=
  let f := s.side
  if !f.running then s
  else
    let e := f.cfg.edges.get k
    let counts := decide (e = 2) || (decide (e = 0) && rising) || (decide (e = 1) && !rising)
    let n := f.counters.get k
    let s := if counts then
        s.onSide fun f =>
          { f with counters := f.counters.put k (n + 1)
                   wrap := if n = BitVec.allOnes 32 then f.wrap ||| (1 <<< k.1) else f.wrap }
      else s
    if interval < 64 then
      (s.onSide fun f => { f with overspeed := f.overspeed ||| (1 <<< k.1) }).record 0x3004 6 (25 + k.1) interval 0
    else s

/-! ## Outputs -/

/-- The group of an output and its sum in mA. -/
def FieldSide.groupMa (f : FieldSide) (o : Fin 16) : Nat := if o.1 < 8 then f.groups.1 else f.groups.2

/-- Switch an output off by R259. -/
def FieldSide.overload (f : FieldSide) (o : Fin 16) : FieldSide :=
  { f with outs := f.outs.upd o fun x => { x with held := true, overload := true } }

/-- Is an output on? -/
def FieldOut.on (x : FieldOut) : Bool := x.applied && !x.held

/-- FO_OVERLOAD (R259). -/
def opFoOverload (o : Fin 16) (s : State) : State :=
  if s.side.running && (s.side.outs.get o).on then
    (s.onSide fun f => f.overload o).fault .A 6 0x3006 (o.1 + 1) 0 (s.side.groupMa o)
  else s

/-- The outputs of a group. -/
def groupOutputs (g : Fin 2) : List (Fin 16) := (List.finRange 16).filter fun o => decide (o.1 / 8 = g.1)

/-- Of the outputs of a group that are on, the one that carries the most current; of equals the higher number (R260). `ma` gives the group's
currents in order. -/
def FieldSide.heaviest (f : FieldSide) (g : Fin 2) (ma : List Nat) : Option (Fin 16) :=
  ((groupOutputs g).filter fun o => (f.outs.get o).on).foldl (fun best o =>
    match best with
    | some b => if ma.getD (b.1 % 8) 0 ≤ ma.getD (o.1 % 8) 0 then some o else some b
    | none => some o) none

/-- GROUP_LIMIT (R260): `ma` are the currents of the group's eight outputs in mA. The sum has been above 4.0 A for 10 ms, or for 10 ms more. -/
def opGroupLimit (g : Fin 2) (ma : List Nat) (s : State) : State :=
  let f := s.side
  match f.sumFor.get g, f.heaviest g ma with
  | some n, some o =>
    if f.running = false ∨ n < 1000 then s
    else
      (s.onSide fun f => { f.overload o with groupLimit := f.groupLimit ||| (1 <<< g.1), sumFor := f.sumFor.put g (some 0) }).fault .A 6 0x3006
        (o.1 + 1) 1 (f.groupMa o)
  | _, _ => s

/-- A barrier frame that failed its check, or an output register that failed its parity, is counted, and recorded at most once per second (R267,
R271, R329). -/
def State.barrierFailure (s : State) : State :=
  let t := s.now
  let s := s.onFld fun f => { f with crcLog := t :: f.crcLog.filter fun x => decide (t < x + 1000000) }
  if (match s.fld.crcAt with | some x => decide (1000000 ≤ s.since x) | none => true) then
    (s.onFld fun f => { f with crcAt := some t }).record 0x3009 4 s.fld.crcLog.length 0 0
  else s

/-- An output takes a value at a barrier frame start (R259). -/
def FieldOut.take (x : FieldOut) (v : Bool) : FieldOut := { x with applied := v, held := x.held && v }

/-- The field side applies an accepted frame (R252, R257, R259, R261, R264, R270); an output whose register fails its parity keeps its value (R329). -/
def FieldSide.apply (f : FieldSide) (r : LogicFrame) (parity : BitVec 16) : FieldSide :=
  let cfg := match r.cfg with
    | some (off, v) => (f.cfg.write off v).getD f.cfg
    | none => f.cfg
  let f := { f with
    cfg := cfg
    fsApplied := r.forceSafe
    sawReplay := f.sawReplay || r.replay
    starting := f.starting && !(f.sawReplay && !r.replay)
    overspeed := f.overspeed &&& ~~~(r.clear.setWidth 8)
    wrap := f.wrap &&& ~~~((r.clear >>> 8).setWidth 8)
    counters := f.counters.mapIdx fun k n => if r.clear.getLsbD (16 + k.1) then 0 else n
    groupLimit := f.groupLimit &&& ~~~((r.clear >>> 24).setWidth 2)
    logicSilent := f.logicSilent && !r.clear.getLsbD 26
    done := match r.cfg, r.cmd with
      | some (off, _), some id => f.done ++ [(id, off)]
      | _, _ => f.done
    rx := none }
  { f with outs := f.outs.mapIdx fun o x =>
      let v := if r.forceSafe && cfg.fsEn.getLsbD o.1 then cfg.fsValue.getLsbD o.1 else r.values.getLsbD o.1
      let y := if parity.getLsbD o.1 then x else x.take v
      { y with overload := y.overload && !r.foClear.getLsbD o.1 } }

/-- Bits of a table as a number. -/
def tabBits {n : Nat} (f : Fin n → Bool) : Nat := (Tab.fill n false).mapIdx (fun i _ => f i) |>.mask id

/-- The snapshot words (R268). -/
def FieldSide.snapshot (f : FieldSide) (k : Nat) : Tab Nat 16 :=
  let rep := tabBits (fun i : Fin 24 => (f.inputs.get i).reported) + 2 ^ 24 * (f.raw.toNat / 2 ^ 24)
  let stuck := tabBits fun i : Fin 24 => (f.inputs.get i).stuck
  let chat := tabBits fun i : Fin 24 => (f.inputs.get i).chatter
  let ovl := tabBits fun o : Fin 16 => (f.outs.get o).overload
  let app := tabBits fun o : Fin 16 => (f.outs.get o).applied
  let w3 := f.overspeed.toNat + 2 ^ 8 * f.wrap.toNat + 2 ^ 16 * b2n (decide (stuck ≠ 0)) + 2 ^ 17 * b2n (decide (chat ≠ 0)) +
    2 ^ 18 * f.groupLimit.toNat + 2 ^ 20 * b2n (decide (ovl ≠ 0)) + 2 ^ 21 * b2n f.logicSilent + 2 ^ 22 * b2n f.fsApplied
  Tab.ofList ([rep, f.raw.toNat, f.readback.toNat + 2 ^ 16 * app, w3] ++ ((List.finRange 8).map fun k => (f.counters.get k).toNat) ++
    [f.fpMv % 65536 + 2 ^ 16 * f.txSeq + 2 ^ 24 * k, stuck, chat, ovl]) 0

/-! ## Barrier frames -/

/-- The output values that FORCE_SAFE holds (R264). -/
def FieldCfg.safeValues (c : FieldCfg) (v : BitVec 16) : BitVec 16 := (v &&& ~~~c.fsEn) ||| (c.fsValue &&& c.fsEn)

/-- The words of the Loom in flight to the field port: sent before this instant, they belong in the frame that starts now (R261). -/
def State.loomField (s : State) : Nat := realWords (s.link 7).fly

/-- What a frame that the field side did not take carried goes out again (R266). -/
def Field.takeBack (f : Field) (r : LogicFrame) : Field :=
  { f with
    sentCfg := f.sentCfg.filter fun x => some x.1 != r.cmd
    clear := f.clear ||| r.clear
    foClear := f.foClear ||| r.foClear
    replay := match r.replay, r.cfg with
      | true, some (o, _) => some (o :: f.replay.getD [])
      | _, _ => f.replay
    queue := match r.replay, r.cfg with
      | false, some (o, v) => { off := o, value := v, cmd := r.cmd } :: f.queue
      | _, _ => f.queue }

/-- The configuration word of the next frame (R261, R267, R270), the FIO_CONFIG that waits for it, whether it is of the replay, and what
is left: during a replay the replay's register, then the queue's first, then a register written while FP24_PRESENT was 0. -/
def Field.nextCfg (f : Field) (present : Bool) : Option (Nat × Nat) × Option Nat × Bool × Field :=
  match f.replay, f.queue, f.unsent with
  | some (o :: l), _, _ => (some (o, f.mirror.read o), none, true, { f with replay := some l })
  | _, w :: q, _ => (some (w.off, w.value), w.cmd, false, { f with replay := none, queue := q })
  | _, [], o :: l =>
    if present then (some (o, f.mirror.read o), none, false, { f with replay := none, unsent := l }) else (none, none, false, { f with replay := none })
  | _, [], [] => (none, none, false, { f with replay := none })

/-- The logic side's next frame (R261, R265, R267). -/
def State.composeFrame (s : State) (k : Nat) : State :=
  let fs := s.flt.forceSafe
  let present := s.supply.fpPresent
  s.onFld fun f =>
    let f := match f.down with
      | some r => f.takeBack r
      | none => f
    let vals := if fs then f.mirror.safeValues f.values else f.values
    let (cfg, cmd, rep, f) := f.nextCfg present
    { f with
      values := vals
      clear := 0
      foClear := 0
      txSeq := (f.txSeq + 1) % 256
      waiting := f.waiting.map fun r => { r with sent := true }
      sentCfg := f.sentCfg ++ (match cmd, cfg with
        | some id, some (o, _) => [(id, o)]
        | _, _ => [])
      due := s.loomField
      down := some (LogicFrame.seal { seq := f.txSeq, k := k, forceSafe := fs, replay := rep, cfg := cfg, cmd := cmd, values := vals,
                                      clear := f.clear, foClear := f.foClear, crc := 0 }) }

/-- The reply of FIO_SET (R296). -/
def State.fioSetReply (s : State) : List Byte := le 2 (tabBits fun o : Fin 16 => (s.side.outs.get o).applied) ++ zeros 2 ++ le 8 s.warp

/-- The field side at a barrier frame start: it applies the frame accepted since the last one (R261), then samples and reports
(R253, R268). -/
def State.sideFrame (s : State) (k : Nat) (raw : BitVec 32) (readback parity : BitVec 16) (fpMv ga gb : Nat) : State :=
  let s := match s.side.rx with
    | none => s
    | some r =>
      let ids := (s.fld.waiting.filter fun (q : FioReq) => q.sent).map fun (q : FioReq) => q.cmd
      let s := s.onFld fun f => { f with side := f.side.apply r parity, waiting := f.waiting.filter fun q => !q.sent }
      let s := s.forEach ((List.range 16).filter fun o => parity.getLsbD o) fun _ s => s.barrierFailure
      s.forEach ids fun id s => s.completeId id .ok s.fioSetReply
  let heavy := fun (ma : Nat) (n : Option Nat) => if 4000 < ma then some ((n.map fun x => x + 1).getD 0) else none
  let s := s.onSide fun f =>
    { f.sampleAll raw s.now with
      readback := readback, fpMv := fpMv, groups := (ga, gb), sumFor := (f.sumFor.upd 0 (heavy ga)).upd 1 (heavy gb)
      silent := if f.got then 0 else satAdd 0xFFFFFFFF f.silent 1, got := false, frameAt := s.now }
  s.onFld fun f =>
    { f with
      side := { f.side with txSeq := (f.side.txSeq + 1) % 256 }
      up := some (FieldFrame.seal { seq := f.side.txSeq, k := k, start := if f.side.starting then some f.side.starts else none,
                                    words := f.side.snapshot k, groups := f.side.groups, downCrc := f.side.downCrc, crc := 0 }) }

/-- Does the logic end of the barrier run: the switch island is up and awake (R269)? -/
def State.barrierUp (s : State) : Bool := s.pwr.islandUp.get 4 && (decide (s.pwr.state = .run) || decide (s.pwr.state = .idle))

/-- BARRIER_FRAME (R253, R261, R265): at each barrier frame start. The operands are what the field side measures: raw inputs,
read-back, the outputs whose registers fail their parity, FP24 in mV, the group sums in mA. While the logic end is down the field side goes on by its own oscillator (R29, R266). -/
def opBarrierFrame (raw : BitVec 32) (readback parity : BitVec 16) (fpMv ga gb : Nat) (s : State) : State :=
  if !s.barrierUp then
    if s.side.running && decide (s.side.frameAt + 10 ≤ s.now) then
      (s.sideFrame 0 raw readback parity fpMv ga gb).onFld fun f => { f with up := none }
    else s
  else if s.warp % 10 ≠ 0 ∨ s.fld.frameAt = some s.warp then s
  else
    let k := s.warp % 1000 / 10
    let s := s.onFld fun f => { f with frameAt := some s.warp, missing := if f.heard then 0 else f.missing + 1, heard := false }
    let s := if s.side.running then s.sideFrame k raw readback parity fpMv ga gb else s
    s.composeFrame k

/-- Is a SEQ a duplicate by R59? The first frame after a start or reset of the receiver is none (log entry 112). -/
def seqBehind (expected : Option Nat) (seq : Nat) : Bool :=
  match expected with
  | some e => decide (128 ≤ (seq + 256 - e) % 256)
  | none => false

/-- LOGIC_FRAME_RECEIVE (R266): a frame whose CRC fails carries its configuration and clears no further; they go out again. -/
def opLogicFrameReceive (crcOk : Bool) (s : State) : State :=
  match s.fld.down with
  | none => s
  | some r =>
    let s := s.onFld fun f => { f with down := none }
    if !s.side.running then s
    else if !(crcOk && r.good) then
      s.onFld fun f => { f.takeBack r with side := { f.side with downCrc := satAdd 0xFFFF f.side.downCrc 1 } }
    else
      if seqBehind s.side.rxSeq r.seq then s
      else
        let n := s.side.silent
        let s := s.onSide fun f =>
          { f with rxSeq := some ((r.seq + 1) % 256), rx := some r, silent := 0, got := true, logicSilent := f.logicSilent || decide (50 ≤ n) }
        if 50 ≤ n then s.record 0x3007 6 n 0 0 else s

/-- LOGIC_SILENT (R266): 50 barrier frames without an accepted frame; R264 no longer acts. -/
def opLogicSilent (s : State) : State :=
  if s.side.running && decide (50 ≤ s.side.silent) then s.onSide fun f => { f with logicSilent := true, fsApplied := false } else s

/-- FIELD_STALE (R267). The queue goes on to the field side while that runs (R261); its FIO_CONFIGs end as while FP24_PRESENT = 0 (R298). -/
def opFieldStale (s : State) : State :=
  if s.fld.missing < 3 ∨ (s.fld.stale = true ∧ s.supply.fpPresent = false) then s
  else
    let was := s.fld.stale
    let ids := s.fld.sentCfg ++ s.fld.queue.filterMap fun w => w.cmd.map fun id => (id, w.off)
    let s := (s.onFld fun f => { f with stale := true, sentCfg := [], queue := f.queue.map fun w => { w with cmd := none } }).onSupply fun v => { v with fpPresent := false }
    let s := s.forEach ids fun x s => s.completeId x.1 .ok (le 2 x.2 ++ zeros 2 ++ le 4 (s.fld.mirror.read x.2))
    if was then s else s.record 0x3008 4 0 0 0

/-- The logic side takes a field frame (R267): the CRC-16 of each snapshot word stands with the words. At a start of the field side UP_CRC is 0
(R270), every register is sent again, and the FIO_CONFIGs not confirmed follow the replay. -/
def State.receiveField (s : State) (crcOk : Bool) : State :=
  match s.fld.up with
  | none => s
  | some u =>
    let s := s.onFld fun f => { f with up := none }
    if !(crcOk && u.good) then
      (s.onFld fun f => { f with upCrc := satAdd 0xFFFF f.upCrc 1 }).barrierFailure
    else
      let new := match u.start with
        | some n => decide (n ≠ s.fld.seenStart)
        | none => false
      if !new && seqBehind s.fld.rxSeq u.seq then s
      else
        let s := s.onSupply fun v => { v with fpPresent := true, fpMv := u.words.get 12 % 65536 }
        let ids := s.side.done
        let s := s.onFld fun f =>
          { f with rxSeq := some ((u.seq + 1) % 256), heard := true, missing := 0, words := u.words, groups := u.groups, downCrc := u.downCrc
                   checks := (Tab.fill 16 0).mapIdx fun i _ => shuttleCheck (le 4 (u.words.get i))
                   side := { f.side with done := [] }
                   sentCfg := f.sentCfg.filter fun x => !ids.any fun y => y.1 == x.1
                   stale := new || f.replay.isSome }
        let s := s.forEach ids fun x s => s.completeId x.1 .ok (le 2 x.2 ++ zeros 2 ++ le 4 (s.side.cfg.read x.2))
        if new then
          let s := s.onFld fun f =>
            { f with seenStart := u.start.getD 0, startFlag := true, replay := some fieldCfgOffsets, upCrc := 0, sentCfg := [], unsent := []
                     queue := (f.sentCfg.map fun x => { off := x.2, value := f.mirror.read x.2, cmd := some x.1 }) ++ f.queue }
          let mv := u.words.get 12 % 65536
          let s := if s.side.cause = 0 then s.record 0x3001 6 0 mv 0 else s.fault .D 6 0x3001 1 mv 0
          s.record 0x3008 4 1 0 0
        else s

/-- A start of the field side (R252, R269). -/
def State.fieldBegin (s : State) (mv : Nat) : State := s.onFld fun f => { f with side := FieldSide.start (f.side.starts + 1) 0 mv }

/-- May the field side run: in Run and Idle, and while AUX is lost (R29, R494)? -/
def State.fieldPowered (s : State) : Bool := s.pwr.islandUp.get 6 || s.supply.loss.isSome || s.pwr.coldDue

/-- FIELD_START (R252): FP24 in mV. Without its domain the field side starts at the wake (R269). -/
def opFieldStart (mv : Nat) (s : State) : State :=
  if s.side.running = true ∨ mv ≤ 18000 then s
  else if s.fieldPowered then (s.fieldBegin mv).onPwr fun p => { p with islandUp := p.islandUp.put 6 true }
  else s.onSide fun f => { f with fed := true, fpMv := mv }

/-- The field side stops (R252): the host commands that wait for it end with STATE. -/
def State.fieldStop (s : State) (f : FieldSide → FieldSide) : State :=
  let ids := s.fld.waiting.map fun r => r.cmd
  let s := s.onFld fun x => { x with side := f x.side, waiting := [], up := none }
  s.forEach ids fun id s => s.completeId id .state []

/-- FIELD_STOP (R252). -/
def opFieldStop (mv : Nat) (s : State) : State :=
  if 16000 ≤ mv then s
  else if s.side.running then s.fieldStop fun f => FieldSide.off f.starts
  else s.onSide fun f => FieldSide.off f.starts

/-- FIELD_WATCHDOG (R252, R318): the field side starts anew. -/
def opFieldWatchdog (s : State) : State :=
  if !s.side.running then s else s.onFld fun f => { f with side := FieldSide.start (f.side.starts + 1) 1 f.side.fpMv }

/-! ## Commands -/

/-- CMD_INVALID of the Field port (R263). -/
def State.fieldInvalid (s : State) (p : BitVec 64) (typ : Nat) : State :=
  s.planRecord 4 0x3010 (pf p 0 32) (pf p 32 32) typ

/-- The outputs FORCE_SAFE holds (R264). -/
def State.safeHeld (s : State) : BitVec 16 := if s.flt.forceSafe then s.fld.mirror.fsEn else 0

/-- FIELD_DATA_WORD (R261, R263): a word sent before the frame now being sent began still goes into it. -/
def opFieldDataWord (crcOk : Bool) (s : State) : State :=
  let typ := match (s.link 7).fly with
    | w :: _ => w.typ
    | [] => tyData
  let due := decide (0 < s.fld.due)
  let (r, s) := s.receiveWord 7 typ crcOk
  let s := s.onFld fun f => { f with due := f.due - 1 }
  match r with
  | none => s
  | some p =>
    let value := BitVec.ofNat 16 (pf p 0 16)
    let mask := BitVec.ofNat 16 (pf p 16 16)
    if typ ≠ tyData then s.fieldInvalid p typ
    else if pf p 32 32 ≠ 0 ∨ mask &&& ~~~s.fld.mirror.weftMask ≠ 0 then s.fieldInvalid p typ
    else
      let m := mask &&& ~~~s.safeHeld
      let merge := fun (v : BitVec 16) => (v &&& ~~~m) ||| (value &&& m)
      s.onFld fun f => { f with values := merge f.values, down := if due then f.down.map fun r => { r with values := merge r.values }.seal else f.down }

/-- The outputs a weft owns (R262). -/
def State.weftOutputs (s : State) : BitVec 16 := if s.weft.running.isSome then s.fld.mirror.weftMask else 0

/-- FIO_SET (R262, R264, R298). -/
def opFioSet (r : CmdRef) (s : State) : State :=
  s.onCommand r 0x0401 fun q s =>
    let mask := BitVec.ofNat 16 (u16 q.params 0)
    let value := BitVec.ofNat 16 (u16 q.params 2)
    if q.params.length ≠ 4 then s.complete q .badParam []
    else if mask &&& s.weftOutputs ≠ 0 then s.complete q .denied []
    else if mask &&& s.safeHeld ≠ 0 ∨ s.supply.fpPresent = false then s.complete q .state []
    else
      (s.handOver q .target).onFld fun f =>
        { f with values := (f.values &&& ~~~mask) ||| (value &&& mask), waiting := f.waiting ++ [{ cmd := q.id, sent := false }] }

/-- FIELD_STATUS (R270). -/
def State.fieldStatus (s : State) : Nat :=
  let f := s.fld
  let w3 := f.words.get 3
  b2n f.stale + 2 * b2n f.replay.isSome + 4 * b2n (bit w3 22) + 2 ^ 8 * b2n (bit w3 21) + 2 ^ 9 * b2n f.startFlag +
    2 ^ 10 * b2n (bit w3 18) + 2 ^ 11 * b2n (bit w3 19)

/-- FIO_GET (R296). -/
def opFioGet (r : CmdRef) (s : State) : State :=
  s.onCommand r 0x0402 fun q s =>
    if q.params.length ≠ 0 then s.complete q .badParam []
    else
      s.complete q .ok (le 4 (s.fld.words.get 0) ++ le 4 (s.fld.words.get 1) ++ le 4 (s.fld.words.get 2) ++ le 4 (s.fld.words.get 3) ++
        le 4 s.fieldStatus)

/-- FIO_CONFIG (R298). -/
def opFioConfig (r : CmdRef) (s : State) : State :=
  s.onCommand r 0x0403 fun q s =>
    let off := u16 q.params 0
    if q.params.length ≠ 8 ∨ zeroAt q.params [2, 3] = false ∨ off ∉ fieldCfgOffsets then s.complete q .badParam []
    else
      match s.fieldConfig off (u32 q.params 4) (some q.id) with
      | (.ok, true, s) => s.complete q .ok (le 2 off ++ zeros 2 ++ le 4 (s.fld.mirror.read off))
      | (.ok, false, s) => s.handOver q .target
      | (st, _, s) => s.complete q st []

/-! ## Registers -/

/-- A read of the field block (R270). -/
def State.readField (s : State) (off : Nat) : Nat :=
  let f := s.fld
  if off ∈ fieldCfgOffsets then f.mirror.read off
  else if off = 0x00 then s.fieldStatus
  else if off = 0x08 then f.upCrc + 2 ^ 16 * f.downCrc
  else if off = 0x10 then f.words.get 0
  else if off = 0x14 then f.words.get 1
  else if off = 0x18 then f.words.get 13
  else if off = 0x1C then f.words.get 14
  else if off = 0x20 then f.words.get 2
  else if off = 0x24 then f.words.get 15
  else if off = 0x28 then f.words.get 3 % 65536
  else if off = 0x30 then f.groups.1 % 65536 + 2 ^ 16 * (f.groups.2 % 65536)
  else if h : 0xC0 ≤ off ∧ off < 0xE0 ∧ off % 4 = 0 then f.words.get ⟨4 + (off - 0xC0) / 4, by omega⟩
  else 0

/-- A write of the field block (R257, R270), with the status of a data-port write. -/
def State.writeField (s : State) (off v : Nat) : Status × State :=
  if off ∈ fieldCfgOffsets then
    let (st, _, s) := s.fieldConfig off v none
    (st, s)
  else if off = 0x00 then
    let s := if bit v 9 then s.onFld fun f => { f with startFlag := false } else s
    (.ok, opFieldFlagClear 0 0 (BitVec.ofNat 2 (bits v 10 2)) (bit v 8) 0 s)
  else if off = 0x24 then (.ok, opFieldFlagClear 0 0 0 false (BitVec.ofNat 16 v) s)
  else if off = 0x28 then (.ok, opFieldFlagClear (BitVec.ofNat 8 v) (BitVec.ofNat 8 (v / 256)) 0 false 0 s)
  else if off = 0x2C then (.ok, opCounterClear (BitVec.ofNat 8 v) s)
  else (.ok, s)

/-! ## The meanings of the commands -/

/-- BARRIER_FRAME (R253). -/
def execBarrierFrame (raw : BitVec 32) (readback parity : BitVec 16) (fpMv ga gb : Nat) (s : State) : Host.Outcome State Fault Refusal :=
  .next (opBarrierFrame raw readback parity fpMv ga gb s)

/-- LOGIC_FRAME_RECEIVE (R266). -/
def execLogicFrameReceive (crcOk : Bool) (s : State) : Host.Outcome State Fault Refusal := .next (opLogicFrameReceive crcOk s)

/-- FIELD_STALE (R267). -/
def execFieldStale (s : State) : Host.Outcome State Fault Refusal := .next (opFieldStale s)

/-- LOGIC_SILENT (R266). -/
def execLogicSilent (s : State) : Host.Outcome State Fault Refusal := .next (opLogicSilent s)

/-- FIELD_START (R252). -/
def execFieldStart (mv : Nat) (s : State) : Host.Outcome State Fault Refusal := .next (opFieldStart mv s)

/-- FIELD_STOP (R252). -/
def execFieldStop (mv : Nat) (s : State) : Host.Outcome State Fault Refusal := .next (opFieldStop mv s)

/-- FIELD_WATCHDOG (R318). -/
def execFieldWatchdog (s : State) : Host.Outcome State Fault Refusal := .next (opFieldWatchdog s)

/-- STUCK (R255). -/
def execStuck (i : Fin 24) (s : State) : Host.Outcome State Fault Refusal := .next (opStuck i s)

/-- CHATTER (R256). -/
def execChatter (i : Fin 24) (s : State) : Host.Outcome State Fault Refusal := .next (opChatter i s)

/-- FAST_COUNT_EDGE (R257). -/
def execFastCountEdge (k : Fin 8) (rising : Bool) (interval : Nat) (s : State) : Host.Outcome State Fault Refusal :=
  .next (opFastCountEdge k rising interval s)

/-- FO_OVERLOAD (R259). -/
def execFoOverload (o : Fin 16) (s : State) : Host.Outcome State Fault Refusal := .next (opFoOverload o s)

/-- GROUP_LIMIT (R260). -/
def execGroupLimit (g : Fin 2) (ma : List Nat) (s : State) : Host.Outcome State Fault Refusal := .next (opGroupLimit g ma s)

/-- FIELD_DATA_WORD (R263). -/
def execFieldDataWord (crcOk : Bool) (s : State) : Host.Outcome State Fault Refusal := .next (opFieldDataWord crcOk s)

/-- FIELD_CONFIG_WRITE (R270). -/
def execFieldConfigWrite (off v : Nat) (s : State) : Host.Outcome State Fault Refusal := .next (opFieldConfigWrite off v s)

/-- COUNTER_CLEAR (R257). -/
def execCounterClear (mask : BitVec 8) (s : State) : Host.Outcome State Fault Refusal := .next (opCounterClear mask s)

/-- FIELD_FLAG_CLEAR (R270). -/
def execFieldFlagClear (overspeed wrap : BitVec 8) (groups : BitVec 2) (silent : Bool) (outs : BitVec 16) (s : State) : Host.Outcome State Fault Refusal :=
  .next (opFieldFlagClear overspeed wrap groups silent outs s)

/-- FIO_SET (R298). -/
def execFioSet (r : CmdRef) (s : State) : Host.Outcome State Fault Refusal := .next (opFioSet r s)

/-- FIO_GET (R296). -/
def execFioGet (r : CmdRef) (s : State) : Host.Outcome State Fault Refusal := .next (opFioGet r s)

/-- FIO_CONFIG (R298). -/
def execFioConfig (r : CmdRef) (s : State) : Host.Outcome State Fault Refusal := .next (opFioConfig r s)

end Sys2Proof.Machine
end

