-- ==== Sys2Proof/Machine/ThermalRows.lean ====
section
/-! DEFINITION. The module thermal budget monitor (R40, R190, R191): the terms of dissipation, their means, THERM_OVER and thermal shedding.
Powers are in µW. -/

namespace Sys2Proof.Machine

open Sys2Proof

/-! ## The terms of R40 -/

/-- The electronics: the figure of R40 for a budget, 11.0 W (DEDUCED, log entry 19). -/
def electronics : Nat := 11000000

/-- The duty in force of a channel, in 1/1024. -/
def Chan.dutyInForce (x : Chan) : Nat :=
  match x.mode with
  | .off => 0
  | .on | .pulse => 1024
  | .pwm | .softOn | .softPwm => x.duty

/-- A channel (R40), with the on-state current as its samples with the output on give it. -/
def State.channelLoss (s : State) (c : ChNo) : Nat :=
  let x := s.chan c
  let k := swClass c
  let d := x.dutyInForce
  let i := x.meas.iOn
  let conduction := d * i * i * k.onRes / 1024 / 1000000
  let switching := 50 * s.supply.pwrMv.get (swInput c) * i * k.slew / (3 * s.chPeriod c)
  if d = 0 then 0 else if x.mode.isPwm then conduction + switching else conduction

/-- An actuator channel in HOLD or PEAK (R40). -/
def State.coilLoss (s : State) (c : AcNo) : Nat :=
  let i := (s.coil c).iCoil
  if s.phase c = .hold ∨ s.phase c = .peak then i * i * 45000 / 1000000 + 900 * i else 0

/-- The boost converter while it recharges at 40 W (R40, R198). -/
def State.boostLoss (s : State) : Nat := if s.drv.recharging then 5600000 else 0

/-- How many bits of a word are 1. -/
def bitsSet (v n : Nat) : Nat := ((List.range n).filter fun i => bit v i).length

/-- The field outputs of one group that are on, each with an equal share of the group's current (R40, R260; log entry 19). -/
def groupLoss (on ma : Nat) : Nat := if on = 0 then 0 else ma * ma * 400000 / on / 1000000

/-- The field inputs and outputs as the latest frame shows them (R40, R268). -/
def State.fieldLoss (s : State) : Nat :=
  let w := s.fld.words
  let on := (w.get 2 / 65536) &&& (65535 - w.get 15 % 65536)
  100000 * bitsSet (w.get 1) 32 + groupLoss (bitsSet on 8) s.fld.groups.1 + groupLoss (bitsSet (on / 256) 8) s.fld.groups.2

/-- The actuator releases since the latest evaluation (R40): the energy 0.9 V × I_release × τ of each, spread over the time since then. τ is the
coil's own, which nothing in the module states: a free value of the configuration (log entry 150). -/
def State.releaseLoss (s : State) : Nat :=
  900 * (allAc.map fun c => (s.coil c).relMa * Config.coilTau c.1).sum / max 1 (s.since s.supply.dissAt)

/-- The module's dissipation at present (R40). -/
def State.dissipation (s : State) : Nat :=
  electronics + (allCh.map s.channelLoss).sum + (allAc.map s.coilLoss).sum + s.boostLoss + s.fieldLoss + s.releaseLoss

/-- The mean of the evaluations of the latest `n` µs, in 0.1 W, rounded down. Before so much time has passed it is the mean of those there are
(DESIGN CHOICE, log entry 151). -/
def meanDiss (l : List (Nat × Nat)) (now n : Nat) : Nat :=
  let k := (l.filter fun x => decide (now < x.1 + n)).map Prod.snd
  k.sum / max 1 k.length / 100000

/-- DISS_1S, DISS_60S and BASE_TEMP after an evaluation (R32, R190). -/
def State.evalDiss (s : State) (base : Int) : State :=
  let p := s.dissipation
  let t := s.now
  let s := s.onDrv fun d => { d with acts := d.acts.mapIdx fun _ x => { x with relMa := 0 } }
  s.onSupply fun v =>
    let l := (t, p) :: v.dissLog.filter fun x => decide (t < x.1 + 60000000)
    { v with dissLog := l, dissAt := t, diss1 := meanDiss l t 1000000, diss60 := meanDiss l t 60000000, baseTemp := base }

/-! ## The monitor -/

/-- THERMAL_BUDGET_EVAL (R190), every 10 ms while the switch island runs: BASE_TEMP in 0.1 °C. -/
def opThermalBudgetEval (base : Int) (s : State) : State :=
  if decide (s.since s.supply.dissAt < 10000) || !s.scanning then s
  else
    let s := s.evalDiss base
    let d1 := s.supply.diss1
    let d60 := s.supply.diss60
    match s.sw.thermOver with
    | none =>
      if 320 < d60 ∨ 450 < d1 ∨ 850 < base then
        (s.onSw fun w => { w with thermOver := some s.now }).fault .D 4 0x1030 d60 d1 (sgn base)
      else s
    | some _ =>
      if d60 ≤ 300 ∧ d1 ≤ 420 ∧ base ≤ 830 then
        (s.onSw fun w => { w with thermOver := none }).record 0x1031 4 d60 d1 (sgn base)
      else s

/-- THERMAL_SHED_START (R191). -/
def opThermalShedStart (s : State) : State :=
  let over10 := match s.sw.thermOver with
    | some t => decide (10000000 ≤ s.since t)
    | none => false
  if s.sw.thermShed.isSome = true ∨ ¬(over10 = true ∨ 360 < s.supply.diss60 ∨ 870 < s.supply.baseTemp) then s
  else (s.onSw fun w => { w with thermShed := some (s.now + 1000000) }).fault .S 4 0x1030 s.supply.diss60 s.supply.diss1 (sgn s.supply.baseTemp)

/-- THERMAL_SHED (R191): the 1-second decision. -/
def opThermalShed (s : State) : State :=
  match s.sw.thermShed with
  | none => s
  | some t =>
    if s.now < t then s
    else if s.supply.diss1 ≤ 300 then s.onSw fun w => { w with thermShed := none }
    else
      let s := s.onSw fun w => { w with thermShed := some (t + 1000000) }
      match ((s.shedOrder 0 ++ s.shedOrder 1 ++ s.shedOrder 2).find? fun c => (s.chan c).sheddable) with
      | none => s
      | some c => s.shed c 1 s.supply.diss1

/-! ## The meanings of the commands -/

/-- THERMAL_BUDGET_EVAL (R190). -/
def execThermalBudgetEval (base : Int) (s : State) : Host.Outcome State Fault Refusal := .next (opThermalBudgetEval base s)

/-- THERMAL_SHED_START (R191). -/
def execThermalShedStart (s : State) : Host.Outcome State Fault Refusal := .next (opThermalShedStart s)

/-- THERMAL_SHED (R191). -/
def execThermalShed (s : State) : Host.Outcome State Fault Refusal := .next (opThermalShed s)

end Sys2Proof.Machine
end

