-- ==== Sys2Proof/Machine/Flags.lean ====
section
/-! DEFINITION. The Loom's flags (R73, R83) and the results of its arithmetic, logic, shift and decimal operations at a width of
8, 16 or 32 bits (R82, R83, R91 to R93). Values are numbers below 2 to the width. -/

namespace Sys2Proof.Machine

open Sys2Proof

/-- Bit numbers of FLG (R73). -/
def fC : Nat := 0
def fZ : Nat := 1
def fN : Nat := 2
def fV : Nat := 3
def fH : Nat := 4

/-- One flag set to a value. -/
def setF (f : BitVec 5) (i : Nat) (b : Bool) : BitVec 5 :=
  if b then f ||| BitVec.ofNat 5 (2 ^ i) else f &&& ~~~(BitVec.ofNat 5 (2 ^ i))

/-- One flag read. -/
def getF (f : BitVec 5) (i : Nat) : Bool := f.getLsbD i

/-- N and Z of a result (R83). -/
def flagsNZ (f : BitVec 5) (w r : Nat) : BitVec 5 := setF (setF f fN (bit r (w - 1))) fZ (r % 2 ^ w == 0)

/-- Does a signed value fit `w` bits? -/
def fits (w : Nat) (v : Int) : Bool := decide (-(2 ^ (w - 1) : Nat) ≤ v) && decide (v < (2 ^ (w - 1) : Nat))

/-- A + B + c with its flags (R83). -/
def addF (f : BitVec 5) (w a b c : Nat) : Nat × BitVec 5 :=
  let r := (a + b + c) % 2 ^ w
  let f := flagsNZ f w r
  let f := setF f fC (decide (2 ^ w ≤ a + b + c))
  let f := setF f fV (!fits w (signed w a + signed w b + c))
  (r, setF f fH (decide (16 ≤ a % 16 + b % 16 + c)))

/-- A − B − c with its flags (R83). -/
def subF (f : BitVec 5) (w a b c : Nat) : Nat × BitVec 5 :=
  let r := unsigned w ((a : Int) - b - c)
  let f := flagsNZ f w r
  let f := setF f fC (decide (a < b + c))
  let f := setF f fV (!fits w (signed w a - signed w b - c))
  (r, setF f fH (decide (a % 16 < b % 16 + c)))

/-- A logic result: N and Z, V cleared (R82). -/
def logicF (f : BitVec 5) (w r : Nat) : Nat × BitVec 5 := (r % 2 ^ w, setF (flagsNZ f w (r % 2 ^ w)) fV false)

/-- The kinds of shift (R82). -/
inductive Shift where
  | shl | shr | sar | ror
  deriving DecidableEq, Repr

/-- A shift's result and the last bit shifted out (R83). -/
def Shift.result (k : Shift) (w a n : Nat) : Nat × Bool :=
  match k with
  | .shl => ((a * 2 ^ n) % 2 ^ w, decide (n ≤ w) && bit a (w - n))
  | .shr => (a / 2 ^ n, bit a (n - 1))
  | .sar => (unsigned w (signed w a / (2 ^ n : Nat)), bit (unsigned (w + 32) (signed w a)) (n - 1))
  | .ror =>
    let r := (a / 2 ^ (n % w) + a * 2 ^ (w - n % w)) % 2 ^ w
    (r, bit r (w - 1))

/-- A shift with its flags: C unchanged for a count of 0 (R83). -/
def shiftF (k : Shift) (f : BitVec 5) (w a b : Nat) : Nat × BitVec 5 :=
  let n := b % 32
  let (r, c) := k.result w a n
  let f := setF (flagsNZ f w r) fV false
  (r, if n = 0 then f else setF f fC c)

/-- The condition of a Bcc (R85). -/
def condHolds (f : BitVec 5) (cc : Nat) : Bool :=
  let c := getF f fC
  let z := getF f fZ
  let n := getF f fN
  let v := getF f fV
  match cc with
  | 0x0 => true
  | 0x1 => z
  | 0x2 => !z
  | 0x3 => c
  | 0x4 => !c
  | 0x5 => n
  | 0x6 => !n
  | 0x7 => v
  | 0x8 => !v
  | 0x9 => !c && !z
  | 0xA => c || z
  | 0xB => n == v
  | 0xC => n != v
  | 0xD => !z && n == v
  | 0xE => z || n != v
  | _ => false

/-! ## Decimal -/

/-- Digit `i` of a packed number. -/
def digit (v i : Nat) : Nat := v / 16 ^ i % 16

/-- The digit-wise sum or difference from digit `i` on with `k` carried in (R91): result, carry out, carry after the first
digit. -/
def bcd (sub : Bool) (a b : Nat) : Nat → Nat → Nat → Nat × Nat × Nat
  | 0, _, k => (0, k, k)
  | n + 1, i, k =>
    let (d, k') :=
      if sub then
        if digit a i < digit b i + k then ((digit a i + 10 + 16 - digit b i - k) % 16, 1)
        else ((digit a i - digit b i - k) % 16, 0)
      else
        if 10 ≤ digit a i + digit b i + k then ((digit a i + digit b i + k - 10) % 16, 1) else ((digit a i + digit b i + k) % 16, 0)
    let (r, out, _) := bcd sub a b n (i + 1) k'
    (d * 16 ^ i + r, out, k')

/-- Does a packed number hold a digit above 9? -/
def badDigit (v : Nat) : Bool := (List.range 8).any fun i => decide (9 < digit v i)

/-- DADD, DADC, DSUB and DSBC with their flags (R91). -/
def decF (sub : Bool) (f : BitVec 5) (a b k : Nat) : Nat × BitVec 5 :=
  let (r, c, h) := bcd sub a b 8 0 k
  let f := setF (setF (setF f fC (c == 1)) fZ (r == 0)) fH (h == 1)
  (r, setF (setF f fN false) fV (badDigit a || badDigit b))

/-- DADJ (R92). -/
def dadjF (f : BitVec 5) (a : Nat) : Nat × BitVec 5 :=
  let low := if getF f fH || decide (9 < a % 16) then 0x06 else 0
  let c := getF f fC || decide (0x99 < a)
  let corr := low + if c then 0x60 else 0
  let r := (a + corr) % 256
  let f := setF (setF f fC c) fH (decide (16 ≤ a % 16 + corr % 16))
  (r, setF (setF (setF f fN (bit r 7)) fZ (r == 0)) fV false)

/-- A number as eight packed digits. -/
def toBcd (v : Nat) : Nat := ((List.range 8).map fun i => v / 10 ^ i % 10 * 16 ^ i).sum

/-- CVBD (R93). -/
def cvbdF (f : BitVec 5) (a : Nat) : Nat × BitVec 5 :=
  let r := toBcd (a % 100000000)
  (r, setF (setF (setF (setF f fC (decide (100000000 ≤ a))) fZ (r == 0)) fN false) fV false)

/-- CVDB (R93). -/
def cvdbF (f : BitVec 5) (a : Nat) : Nat × BitVec 5 :=
  let r := ((List.range 8).map fun i => digit a i * 10 ^ i).sum % 2 ^ 32
  (r, setF (setF (setF (setF f fC false) fZ (r == 0)) fN false) fV (badDigit a))

end Sys2Proof.Machine
end

