-- ==== Sys2Proof/Machine/Operands.lean ====
section
/-! DEFINITION. The Loom's instruction words and operands (R75 to R81, R119): the uses an operation makes of its three
specifiers, fetching an instruction with its extension words, its illegal encodings and its cycles, and the reading and
writing of operands in the eight modes. -/

namespace Sys2Proof.Machine

open Sys2Proof

/-! ## Registers -/

/-- Register `r` of a specifier: 0 to 7 are G0 to G7, 8 to 31 the window (R71, R77). -/
def Loom.reg (l : Loom) (r : Nat) : Nat :=
  if h : r < 8 then (l.g.get ⟨r, h⟩).toNat
  else (l.file.get ⟨(l.wbase + (r - 8)) % 2048, Nat.mod_lt _ (by decide)⟩).toNat

def Loom.setReg (l : Loom) (r v : Nat) : Loom :=
  if h : r < 8 then { l with g := l.g.put ⟨r, h⟩ (w32 v) }
  else { l with file := l.file.put ⟨(l.wbase + (r - 8)) % 2048, Nat.mod_lt _ (by decide)⟩ (w32 v) }

/-! ## Shapes -/

/-- What an operation does with a specifier byte: nothing, read, write, read then write, take its address, or a field of a
control instruction (R77, R79). -/
inductive Use where
  | none | src | dst | rmw | addr | code
  deriving DecidableEq, Repr

/-- The shape of an operation: its uses of D, A and B, and the base of its cycles (R81, R82). -/
structure Shape where
  d    : Use
  a    : Use
  b    : Use
  base : Nat
  deriving DecidableEq, Repr

/-- Does the operation code carry a size in its low two bits (R82)? -/
def sized (opc : Nat) : Bool := (decide (0x04 ≤ opc) && decide (opc ≤ 0x0B)) || (decide (0x10 ≤ opc) && decide (opc ≤ 0x5F))

/-- The byte form of an operation code: the row of R82 it belongs to. -/
def opRow (opc : Nat) : Nat := if sized opc then opc / 4 * 4 else opc

/-- The operations of R82; none for a code not listed. -/
def opShape (opc : Nat) : Option Shape :=
  match opRow opc with
  | 0x00 => some { d := .none, a := .none, b := .none, base := 1 }
  | 0x04 | 0x08 | 0x2C | 0x30 | 0x70 => some { d := .dst, a := .src, b := .none, base := 1 }
  | 0x0E => some { d := .dst, a := .addr, b := .none, base := 1 }
  | 0x10 | 0x14 | 0x18 | 0x1C | 0x20 | 0x24 | 0x28 | 0x34 | 0x38 | 0x3C | 0x40 | 0x6C | 0x6D | 0x6E | 0x6F =>
    some { d := .dst, a := .src, b := .src, base := 1 }
  | 0x44 | 0x48 | 0x5C | 0x68 | 0x69 => some { d := .none, a := .src, b := .src, base := 1 }
  | 0x4C | 0x50 | 0x54 | 0x58 => some { d := .rmw, a := .src, b := .none, base := 1 }
  | 0x60 => some { d := .code, a := .code, b := .code, base := 2 }
  | 0x61 | 0x62 | 0x64 | 0x65 => some { d := .code, a := .code, b := .code, base := 3 }
  | 0x63 => some { d := .none, a := .src, b := .none, base := 2 }
  | 0x71 | 0x72 => some { d := .dst, a := .src, b := .none, base := 10 }
  | 0x74 | 0x75 => some { d := .none, a := .src, b := .none, base := 1 }
  | 0x78 => some { d := .code, a := .src, b := .src, base := 2 }
  | 0x79 => some { d := .dst, a := .code, b := .code, base := 2 }
  | 0x7A => some { d := .code, a := .code, b := .code, base := 160 }
  | 0x7B => some { d := .none, a := .src, b := .none, base := 2 }
  | 0x7C => some { d := .dst, a := .code, b := .code, base := 1 }
  | 0x7D => some { d := .code, a := .src, b := .code, base := 1 }
  | _ => none

/-- Bytes of an operand (R77, R92): the size the code gives; a byte for DADJ; otherwise a word. -/
def opSize (opc : Nat) : Nat :=
  if sized opc then (if opc % 4 = 0 then 1 else if opc % 4 = 1 then 2 else 4) else if opc = 0x70 then 1 else 4

/-- Is a specifier an operand? -/
def Use.operand : Use → Bool
  | .none | .code => false
  | _ => true

/-- Mode and register of a specifier byte (R77). -/
def sMode (x : Nat) : Nat := x / 32
def sReg (x : Nat) : Nat := x % 32

/-- Does a mode take an extension word (R77)? -/
def modeExt (m : Nat) : Bool := m == 1 || m == 2 || m == 4 || m == 5

/-- Extension words of a specifier. A specifier byte that the operation does not use implies none, whatever its mode (DESIGN CHOICE, log entry
120). -/
def extOf (u : Use) (x : Nat) : Nat := if u.operand && modeExt (sMode x) then 1 else 0

/-- Memory accesses of a specifier (R81). -/
def accOf (u : Use) (x : Nat) : Nat :=
  match u with
  | .src | .dst => if 2 ≤ sMode x then 1 else 0
  | .rmw => if 2 ≤ sMode x then 2 else 0
  | _ => 0

/-- An instruction as fetched: address, word, the three specifier bytes with their extension words, its shape and length. -/
structure Ins where
  addr   : Nat
  w      : Nat
  opc    : Nat
  shape  : Shape
  listed : Bool
  d      : Nat
  a      : Nat
  b      : Nat
  xd     : Nat
  xa     : Nat
  xb     : Nat
  words  : Nat
  deriving DecidableEq, Repr

/-- A word of IMEM (R75). Beyond its end it reads 0, and an extension word is not held to the layout's half as PC is (DESIGN CHOICE, log entry
118). -/
def State.imem (s : State) (a : Nat) : Nat := if a < 0x80000 then Memory.num s.mem a 4 else 0

/-- Fetch an instruction with its extension words, D's first, then A's, then B's (R78, R99). -/
def State.fetchIns (s : State) (addr : Nat) : Ins :=
  let w := s.imem addr
  let opc := bits w 24 8
  let sh := (opShape opc).getD { d := .src, a := .src, b := .src, base := 1 }
  let d := bits w 16 8
  let a := bits w 8 8
  let b := bits w 0 8
  let nd := extOf sh.d d
  let na := extOf sh.a a
  let nb := extOf sh.b b
  { addr := addr, w := w, opc := opc, shape := sh, listed := (opShape opc).isSome, d := d, a := a, b := b
    xd := s.imem (addr + 4), xa := s.imem (addr + 4 + 4 * nd), xb := s.imem (addr + 4 + 4 * nd + 4 * na)
    words := 1 + nd + na + nb }

/-- The address after an instruction. -/
def Ins.after (i : Ins) : Nat := i.addr + 4 * i.words

/-- The cycles of an instruction by R81: base + m + e. -/
def Ins.cycles (i : Ins) : Nat :=
  i.shape.base + accOf i.shape.d i.d + accOf i.shape.a i.a + accOf i.shape.b i.b + (i.words - 1)

/-! ## Illegal encodings -/

/-- The rules of R80 for one specifier. -/
def specOk (u : Use) (x ext : Nat) : Bool :=
  match u with
  | .none => x == 0
  | .code => true
  | u =>
    (decide (sMode x ≠ 1) || (sReg x == 0 && decide (u ≠ .dst) && decide (u ≠ .rmw))) &&
    (decide (sMode x ≠ 4) || decide (ext < 65536)) &&
    (decide (u ≠ .addr) || (decide (2 ≤ sMode x) && decide (sMode x ≤ 5)))

/-- The rules of control instructions' fields (R73, R84, R94, R95). -/
def Ins.fieldsOk (i : Ins) : Bool :=
  match i.opc with
  | 0x61 => decide (1 ≤ bits i.w 21 3) && decide (bits i.w 21 3 ≤ 6)
  | 0x62 | 0x64 | 0x65 | 0x7A => bits i.w 0 24 == 0
  | 0x78 => decide (bits i.w 21 3 ≤ 4) && bits i.w 16 4 == 0
  | 0x79 =>
    let port := bits i.w 13 3
    (port == 0 || port == 1 || port == 2 || port == 4) && bits i.w 8 5 == 0 && bits i.w 6 2 == 0 &&
      (if port = 4 then !bit i.w 0 else bits i.w 2 4 == 0)
  | 0x7C => bits i.w 11 5 == 0 && bits i.w 0 8 == 0
  | 0x7D => bits i.w 19 5 == 0 && (bits i.w 16 3 == 1 || bits i.w 16 3 == 4) && bits i.w 0 8 == 0
  | _ => true

/-- Is the encoding legal (R80)? -/
def Ins.legal (i : Ins) : Bool :=
  i.listed && !(sized i.opc && i.opc % 4 == 3) && specOk i.shape.d i.d i.xd && specOk i.shape.a i.a i.xa &&
    specOk i.shape.b i.b i.xb && i.fieldsOk

/-! ## Operand access -/

/-- Where an operand stands. -/
inductive Loc where
  | reg (r : Nat)
  | imm (v : Nat)
  | mem (a : Nat)
  deriving DecidableEq, Repr

/-- The operand a specifier names (R77), with the increment or decrement it makes. -/
def Loom.loc (l : Loom) (x ext size : Nat) : Loc × Loom :=
  let r := sReg x
  let v := l.reg r
  match sMode x with
  | 0 => (.reg r, l)
  | 1 => (.imm (ext % 2 ^ (8 * size)), l)
  | 2 => (.mem (ext % 2 ^ 32), l)
  | 3 => (.mem v, l)
  | 4 => (.mem (unsigned 32 ((v : Int) + signed 16 ext)), l)
  | 5 => (.mem (unsigned 32 ((ext : Int) + signed 32 v * size)), l)
  | 6 => (.mem v, l.setReg r ((v + size) % 2 ^ 32))
  | _ => let a := unsigned 32 ((v : Int) - size); (.mem a, l.setReg r a)

/-- May the Loom access data at an address (R75, R119)? `layout` is the running weft's. -/
def dataOk (layout a size : Nat) : Bool :=
  a % size == 0 && decide (0x10000000 ≤ a) && decide (a + size ≤ 0x10040000) &&
  match layout with
  | 1 => decide (a + size ≤ 0x10028000)
  | 2 => decide (a + size ≤ 0x10010000) || decide (0x10028000 ≤ a)
  | _ => true

/-- May the Loom fetch at an address (R75, R119)? One off a 4-byte boundary, where a RET's link word may lead, is none (DESIGN CHOICE, log entry 38). -/
def codeOk (layout a : Nat) : Bool :=
  a % 4 == 0 && match layout with
  | 1 => decide (a < 0x40000)
  | 2 => decide (0x40000 ≤ a) && decide (a < 0x80000)
  | _ => decide (a < 0x80000)

/-- The layout of the running weft. -/
def State.layout (s : State) : Nat :=
  match s.runningWeft with
  | some w => w.layout
  | none => 0

/-- The void marker (R95, R99). -/
def void : Nat := 0xDEAD0000

/-- Read an operand (R79, R99): its value, the address of an address fault, the state. -/
def State.readOp (s : State) (x ext size : Nat) : Nat × Option Nat × State :=
  let (k, l) := s.loom.loc x ext size
  let s := s.onLoom fun _ => l
  match k with
  | .reg r => (l.reg r % 2 ^ (8 * size), none, s)
  | .imm v => (v, none, s)
  | .mem a => if dataOk s.layout a size then (Memory.num s.mem a size, none, s) else (void % 2 ^ (8 * size), some a, s)

/-- Write a result where an operand stands (R79, R99). -/
def State.writeAt (s : State) (k : Loc) (size v : Nat) : Option Nat × State :=
  match k with
  | .reg r => (none, s.onLoom fun l => l.setReg r v)
  | .imm _ => (none, s)
  | .mem a => if dataOk s.layout a size then (none, s.writeMem a (le size v)) else (some a, s)

/-- Write the destination (R78). -/
def State.writeOp (s : State) (x ext size v : Nat) : Option Nat × State :=
  let (k, l) := s.loom.loc x ext size
  (s.onLoom fun _ => l).writeAt k size v

end Sys2Proof.Machine
end

