-- ==== Sys2Proof/Machine/LoomOps.lean ====
section
/-! DEFINITION. How the Loom executes (R68, R69, R74, R86 to R90, R99, R115 to R119, R125): one instruction of a task's segment,
its monitors, the repeat state, plan faults and FAULT_POLICY. -/

namespace Sys2Proof.Machine

open Sys2Proof

/-! ## Tasks -/

def State.task (s : State) (k : Fin 64) : TaskRun := s.weft.tasks.get k

def State.onTask (s : State) (k : Fin 64) (f : TaskRun → TaskRun) : State := s.onWeft fun w => { w with tasks := w.tasks.upd k f }

/-- The TASKS entry of a task of the running weft (R107). -/
def State.taskDesc (s : State) (k : Fin 64) : Option TaskDesc := s.runningWeft.bind fun w => w.tasks[k.1]?

/-- The multiplier's product stands when its cycle has come (R90). -/
def Loom.settle (l : Loom) (t : Nat) : Loom :=
  match l.mul with
  | some m => if m.ready ≤ t then { l with mul := none, mlo := m.product.setWidth 32, mhi := (m.product >>> 32).setWidth 32 } else l
  | none => l

/-- The task's context is saved and its segment ends (R74, R86); `pc` is where it resumes. -/
def State.saveContext (s : State) (pc : Nat) : State :=
  match s.loom.seg with
  | none => s
  | some g =>
    let l := s.loom
    let s := s.onTask g.task fun t => { t with pc := pc, flg := l.flg.toNat, rpc := l.rpc, wbase := l.wbase, rep := l.rep }
    s.onLoom fun l => { l with seg := none, rep := none }

/-- The task's activation ends as by DONE (R86). -/
def State.endActivation (s : State) (k : Fin 64) : State :=
  let s := s.onTask k fun t => { t with open_ := false }
  match s.loom.seg with
  | some g => if g.task = k then s.onLoom fun l => { l with seg := none, rep := none } else s
  | none => s

/-- A plan fault within an activation, with its FAULT_POLICY (R125, R126). -/
def State.taskFault (s : State) (k : Fin 64) (code p0 p1 p2 : Nat) : State :=
  let s := s.planFault (0, k.1) 1 code p0 p1 p2
  match (s.taskDesc k).map TaskDesc.policy with
  | some .end_ => s.endActivation k
  | some .stop => s.stopWeft 1 false
  | _ => s

/-! ## A stop at once -/

/-- A stop for reason 2 or 3: without the frame's commit; the objects follow the HEARTBEAT loss. A command that waits replies STATE, and
still clears AUTOSTART (R130). A start or a swap in progress ends with STATE. -/
def State.haltWeft (s : State) (reason : Nat) : State :=
  let w := s.weft
  let s := s.onLoom fun l => { l with seg := none, rep := none }
  let s := match w.starting with
    | some st =>
      let s := s.onWeft fun w => { w with starting := none, autoTry := w.autoTry || st.restart }
      match st.cmd with
      | some c => s.completeId c .state []
      | none => s
    | none => s
  let name := fun (k : Slot2) => match w.store.get k with
    | some x => x.id
    | none => 0
  match w.running with
  | none => s
  | some k =>
    let last := s.frame % 2 ^ 32
    let s := s.onWeft fun w => { w with running := none, haltDue := false, stopping := none, swapping := none, lastRun := last
                                        tasks := w.tasks.mapIdx fun _ t => { t with open_ := false } }
    let s := match w.swapping with
      | some x => match x.cmd with
        | some c => s.completeId c .state (le 1 18 ++ zeros 3 ++ le 4 (name k) ++ le 4 (name x.target) ++ zeros 4)
        | none => s
      | none => s
    let s := match w.stopping with
      | some x => match x.cmd with
        | some c => s.completeId c .state (le 4 last)
        | none => s
      | none => s
    s.record 0x9004 1 (name k) last reason

/-- A weft whose Loom has lost its PLL stops at the next segment boundary (R51). -/
def State.boundary (s : State) : State :=
  if s.weft.haltDue && s.loom.seg.isNone then s.haltWeft 2 else s

/-! ## One instruction -/

/-- What an instruction does: the state with its results, its cycles, where it goes (none: on in sequence) or stays, whether its
task's activation or segment ends, and the plan fault it raises. `ahead` are the cycles of a REP's iterations, which nothing interrupts (R89). -/
structure Done where
  s      : State
  cycles : Nat
  ahead  : Nat
  jump   : Option Nat
  stay   : Bool
  ends   : Bool
  yields : Bool
  fault  : Option (Nat × Nat)

/-- An instruction that writes nothing but `s` and takes the cycles of R81. -/
def Ins.plain (i : Ins) (s : State) : Done :=
  { s := s, cycles := i.cycles, ahead := 0, jump := none, stay := false, ends := false, yields := false, fault := none }

/-- An address fault, if any, as a plan fault (R99). -/
def addrFault (a : Option Nat) : Option (Nat × Nat) := a.map fun x => (0x9021, x)

/-- The first of two address faults. -/
def orFault (a b : Option Nat) : Option Nat :=
  match a with
  | some x => some x
  | none => b

/-- An ILLEGAL instruction whose operands show it: nothing is written, one cycle (R99). -/
def Ins.illegal (i : Ins) (s : State) : Done := { i.plain s with cycles := 1, fault := some (0x9020, i.w) }

/-- The instruction at the Loom's PC, or the repeated one. -/
def State.nowIns (s : State) : Ins := s.fetchIns s.loom.pc

/-- May the Loom fetch at its PC (R75, R119)? -/
def State.fetchOk (s : State) : Bool := codeOk s.layout s.loom.pc

/-- Is the Loom ready to begin an instruction: a segment in progress, its cycle reached by the frame, the selvedge not begun (R69)? -/
def State.loomReady (s : State) : Bool :=
  s.loom.seg.isSome && s.pwr.islandUp.get 1 && !s.loom.selvedge && decide (s.loom.cyc < 237500) && decide (s.loom.cyc < (s.warp % 1000 + 1) * 250)

/-- The repeat state after an iteration (R87): the next iteration, or the instruction after. An RPC that the repeated PUTS has set to 0 ends the
repeat (DESIGN CHOICE, log entry 117). -/
def Loom.iterate (l : Loom) (i : Ins) : Loom :=
  match l.rep with
  | none => { l with pc := i.after % 2 ^ 32 }
  | some _ =>
    let n := l.rpc - 1
    if n = 0 then { l with rpc := 0, rep := none, pc := i.after % 2 ^ 32 } else { l with rpc := n }

/-- The cycles pass (R69, R118). -/
def State.spend (s : State) (k : Fin 64) (c : Nat) : State :=
  (s.onTask k fun t => { t with cycles := t.cycles + c }).onLoom fun l => { l with cyc := l.cyc + c }

/-- REPI suspends its task before an iteration that would not fit (R89). -/
def State.suspend (s : State) (g : Seg) (addr : Nat) : State := (s.spend g.task 3).saveContext addr

/-- The budget monitor (R117). -/
def State.budgetFault (s : State) (g : Seg) : State :=
  let pc := s.loom.pc
  ((s.spend g.task 3).saveContext pc).taskFault g.task 0x9010 pc g.task.1 g.index

/-- An instruction's results take effect: cycles, PC, repeat, the end of segment or activation, the plan fault (R86, R87, R99). -/
def State.finishIns (g : Seg) (i : Ins) (r : Done) : State :=
  let s := r.s.spend g.task r.cycles
  let s := s.onLoom fun l =>
    let l := { l with last := i.addr }
    match r.jump with
    | some a => { l with pc := a % 2 ^ 32 }
    | none => if r.stay then l else l.iterate i
  let s := if r.yields then s.saveContext s.loom.pc else s
  let s := if r.ends then s.endActivation g.task else s
  match r.fault with
  | none => s
  | some (code, p2) => s.taskFault g.task code (if code = 0xA072 then p2 else i.addr) g.task.1 (if code = 0xA072 then 0 else p2)

/-- Execute the instruction at PC when it is of the row's kind (R116, R117): `sel` tells the rows' operation codes, `sem` what
the instruction does. An illegal encoding of that kind takes one cycle and writes nothing (R99). A REP is judged with all its iterations,
which then run to their end (R89); only a PUTS to RPC that it repeats can make it longer, and the budget monitor stops it there (DESIGN
CHOICE, log entry 117). -/
def State.loomRow (s : State) (sel : Nat → Bool) (sem : Ins → State → Done) : State :=
  match s.loom.seg with
  | none => s
  | some g =>
    let i := s.nowIns
    if !s.loomReady || !s.fetchOk || !sel (opRow i.opc) then s
    else
      let s := s.onLoom fun l => l.settle l.cyc
      let r := if i.legal then sem i s else i.illegal s
      let ending := r.yields || (r.ends && r.fault.isNone)
      let t := s.loom.cyc
      let fitsBudget := decide (t + r.cycles + r.ahead + (if ending then 0 else 3) ≤ g.stop)
      (match s.loom.rep with
      | some (true, a) => if t + r.cycles + 3 ≤ g.stop then State.finishIns g i r else s.suspend g a
      | some (false, _) => if t + r.cycles + 3 ≤ g.stop then State.finishIns g i r else s.budgetFault g
      | none => if fitsBudget then State.finishIns g i r else s.budgetFault g).boundary

/-- Is there no instruction of any listed kind at PC: a fetch that is not allowed, or a code not listed (R80, R119)? -/
def State.noListed (s : State) : Bool := !s.fetchOk || !(s.nowIns).listed

/-! ## Shapes of instructions -/

/-- D := f(A), at the operation's size. -/
def semUnary (f : BitVec 5 → Nat → Nat → Nat × BitVec 5) (i : Ins) (s : State) : Done :=
  let z := opSize i.opc
  let (a, fa, s) := s.readOp i.a i.xa z
  let (v, flg) := f s.loom.flg (8 * z) a
  let s := s.onLoom fun l => { l with flg := flg }
  let (fd, s) := s.writeOp i.d i.xd z v
  { i.plain s with fault := addrFault (orFault fa fd) }

/-- D := f(A, B). -/
def semBinary (f : BitVec 5 → Nat → Nat → Nat → Nat × BitVec 5) (i : Ins) (s : State) : Done :=
  let z := opSize i.opc
  let (a, fa, s) := s.readOp i.a i.xa z
  let (b, fb, s) := s.readOp i.b i.xb z
  let (v, flg) := f s.loom.flg (8 * z) a b
  let s := s.onLoom fun l => { l with flg := flg }
  let (fd, s) := s.writeOp i.d i.xd z v
  { i.plain s with fault := addrFault (orFault (orFault fa fb) fd) }

/-- Flags of f(A, B), nothing written. -/
def semCompare (f : BitVec 5 → Nat → Nat → Nat → BitVec 5) (i : Ins) (s : State) : Done :=
  let z := opSize i.opc
  let (a, fa, s) := s.readOp i.a i.xa z
  let (b, fb, s) := s.readOp i.b i.xb z
  { i.plain (s.onLoom fun l => { l with flg := f l.flg (8 * z) a b }) with fault := addrFault (orFault fa fb) }

/-- D := f(D, A): one location, read then written (R81). -/
def semModify (f : BitVec 5 → Nat → Nat → Nat → Nat × BitVec 5) (i : Ins) (s : State) : Done :=
  let z := opSize i.opc
  let (a, fa, s) := s.readOp i.a i.xa z
  let (k, l) := s.loom.loc i.d i.xd z
  let s := s.onLoom fun _ => l
  let (d, fd) := match k with
    | .reg r => (l.reg r % 2 ^ (8 * z), none)
    | .imm v => (v, none)
    | .mem p => if dataOk s.layout p z then (Memory.num s.mem p z, none) else (void % 2 ^ (8 * z), some p)
  let (v, flg) := f l.flg (8 * z) d a
  let s := s.onLoom fun l => { l with flg := flg }
  let (_, s) := s.writeAt k z v
  { i.plain s with fault := addrFault (orFault fa fd) }

/-- Nothing but A, at word size; `f` sees the state before the read as well, and whether the value is void. -/
def semOne (f : Ins → Nat → Bool → State → State → Done) (i : Ins) (s : State) : Done :=
  let (a, fa, s1) := s.readOp i.a i.xa 4
  let r := f i a fa.isSome s s1
  match fa with
  | none => r
  | some x => { r with fault := some (0x9021, x) }

end Sys2Proof.Machine
end

