-- ==== Sys2Proof/Machine/WeftLoad.lean ====
section
/-! DEFINITION. The weft image (R102 to R110) and the loader's checks (R112). -/

namespace Sys2Proof.Machine

open Sys2Proof

/-- The key ID of a public key (R451). -/
def pubId (pub : List Byte) : List Byte := (Config.sha256 pub).take 8

/-- The installed keys of a role (R454). -/
def Ident.keysOf (k : Ident) (role : Nat) : List (List Byte) :=
  (List.finRange 12).filterMap fun i => match k.keys.get i with
    | some e => if e.role = role then some e.pub else none
    | none => none

/-- The installed key of a role that a key ID names (R454). -/
def Ident.keyNamed (k : Ident) (role : Nat) (id : List Byte) : Option (List Byte) :=
  (k.keysOf role).find? fun p => pubId p == id

/-- A failed check: REASON, DETAIL (none where R112 gives it no value), status. -/
structure Reject where
  reason : Nat
  detail : Option Nat
  st     : Status
  deriving DecidableEq, Repr

/-- A check of R112: refuse unless the condition holds. -/
def must (b : Bool) (reason detail : Nat) (st : Status) : Except Reject Unit :=
  if b then .ok () else .error { reason := reason, detail := some detail, st := st }

/-- The first that fails of a list of conditions, each with its DETAIL. -/
def mustAll (reason : Nat) (st : Status) : List (Bool × Nat) → Except Reject Unit
  | [] => .ok ()
  | (b, d) :: l => if b then mustAll reason st l else .error { reason := reason, detail := some d, st := st }

/-- Are all bytes 0? -/
def allZero (p : List Byte) : Bool := p.all fun b => b == 0

/-! ## Header and signature -/

/-- LENGTH as R102 and R111 have it. -/
def weftLengthOk (n : Nat) : Bool := n % 4 == 0 && decide (200 ≤ n) && decide (n ≤ 2097152)

/-- Checks 2 and 3 (R102, R103, R112). -/
def checkHeader (p : List Byte) : Except Reject Unit := do
  mustAll 2 .badParam
    [(u32 p 0 == 0x54464557, 0), (u16 p 4 == 1, 4), (u16 p 6 == 128, 6), (weftLengthOk (u32 p 8) && u32 p 8 == p.length, 8),
     (decide (1 ≤ u8 p 24) && decide (u8 p 24 ≤ 64), 24), (decide (1 ≤ u8 p 25) && decide (u8 p 25 ≤ 64), 25),
     (decide (5 ≤ u8 p 26) && decide (u8 p 26 ≤ 7), 26), (u32 p 40 == 0, 40)]
  mustAll 3 .badParam [(u32 p 16 == 0x4812, 16), (u16 p 20 == 1000, 20), (u16 p 22 == 1000, 22)]

/-- KEY_ID of an image (R105). -/
def weftKeyId (p : List Byte) : List Byte := slice p (p.length - 72) 8

/-- Checks 4 to 6 (R105, R112, R458). -/
def checkSignature (k : Ident) (p : List Byte) : Except Reject Unit :=
  match k.keyNamed 2 (weftKeyId p) with
  | none => .error { reason := 4, detail := some 0, st := .badCheck }
  | some pub => do
    must (Config.ecdsaVerify pub (p.take (p.length - 72)) (p.drop (p.length - 64))) 5 0 .badCheck
    must (decide (k.floor ≤ u32 p 12)) 6 0 .denied

/-! ## Sections -/

/-- A section: type, offset, size. -/
structure Section where
  typ  : Nat
  off  : Nat
  size : Nat
  deriving DecidableEq, Repr

/-- Entry `i` of the section table (R104). -/
def sectionAt (p : List Byte) (i : Nat) : Section := { typ := u8 p (44 + 12 * i), off := u32 p (48 + 12 * i), size := u32 p (52 + 12 * i) }

/-- May an entry stand after the sections `seen` (R104)? -/
def Section.ok (x : Section) (seen : List Section) (length : Nat) : Bool :=
  decide (1 ≤ x.typ) && decide (x.typ ≤ 7) && x.off % 4 == 0 && x.size % 4 == 0 && decide (x.size ≠ 0) && decide (128 ≤ x.off) &&
    decide (x.off + x.size ≤ length - 72) &&
    seen.all fun y => y.typ != x.typ && (decide (x.off + x.size ≤ y.off) || decide (y.off + y.size ≤ x.off))

/-- The section table from entry `i` on (R104, check 7). -/
def checkSections (p : List Byte) (i : Nat) (seen : List Section) : Nat → Except Reject (List Section)
  | 0 => .ok seen
  | n + 1 =>
    let e := slice p (44 + 12 * i) 12
    let x := sectionAt p i
    let bad : Except Reject (List Section) := .error { reason := 7, detail := some i, st := .badParam }
    if i < u8 p 26 then
      if allZero (slice e 1 3) && x.ok seen p.length then checkSections p (i + 1) (seen ++ [x]) n else bad
    else if allZero e then checkSections p (i + 1) seen n
    else bad

/-- The bytes of the section of a type, empty when there is none. -/
def sectionBytes (p : List Byte) (l : List Section) (typ : Nat) : List Byte :=
  match l.find? fun x => x.typ == typ with
  | some x => slice p x.off x.size
  | none => []

/-- The IMEM range of a layout: base and size (R106). -/
def imemOf (layout : Nat) : Nat × Nat := if layout = 0 then (0, 0x80000) else if layout = 1 then (0, 0x40000) else (0x40000, 0x40000)

/-- The timetable RAM of a layout: base and size (R106). -/
def ttOf (layout : Nat) : Nat × Nat :=
  if layout = 0 then (0x18000000, 0x40000) else if layout = 1 then (0x18000000, 0x20000) else (0x18020000, 0x20000)

/-- The weft data area of a layout, without the carry region where DATA may not lie in it: first address and end (R106). -/
def dataOf (layout : Nat) : Nat × Nat :=
  if layout = 0 then (0x10000000, 0x10040000) else if layout = 1 then (0x10010000, 0x10028000) else (0x10028000, 0x10040000)

/-- The carry region (R106). -/
def carryRegion : Nat × Nat := (0x10000000, 0x10010000)

/-- A section with a load address lies in a range (R106); an absent one does. -/
def placedIn (b : List Byte) (r : Nat × Nat) : Bool :=
  b.isEmpty || (u32 b 0 % 4 == 0 && decide (r.1 ≤ u32 b 0) && decide (u32 b 0 + (b.length - 4) ≤ r.2))

/-- The bytes to place, with their address. -/
def placed (b : List Byte) : Option (Nat × List Byte) := if b.isEmpty then none else some (u32 b 0, b.drop 4)

/-! ## TASKS -/

def policyOf : Nat → FaultPolicy
  | 0 => .continue
  | 1 => .end_
  | _ => .stop

/-- TASKS entry `i` (R107). -/
def taskAt (b : List Byte) (i : Nat) : TaskDesc :=
  let o := 32 * i
  { entry := u32 b o, winLo := u16 b (o + 4), winHi := u16 b (o + 6), period := u16 b (o + 8), phase := u16 b (o + 10),
    wcet := u32 b (o + 12), deadline := u16 b (o + 16), policy := policyOf (u16 b (o + 18)) }

/-- The periods R107 allows. -/
def periods : List Nat := [1, 2, 5, 10, 20, 50, 100, 200, 500, 1000]

/-- The rules of one TASKS entry (R107); `imem` is the base and the size of CODE as placed. -/
def taskOk (b : List Byte) (i : Nat) (imem : Nat × Nat) : Bool :=
  let t := taskAt b i
  t.entry % 4 == 0 && decide (imem.1 ≤ t.entry) && decide (t.entry < imem.1 + imem.2) &&
    decide (t.winLo + 23 ≤ t.winHi) && decide (t.winHi ≤ 2047) && periods.contains t.period && decide (t.phase < t.period) &&
    decide (1 ≤ t.deadline) && decide (t.deadline ≤ t.period) && decide (1 ≤ t.wcet) && decide (t.wcet ≤ 237500 * t.deadline) &&
    decide (u16 b (32 * i + 18) ≤ 2) && allZero (slice b (32 * i + 20) 12) &&
    (List.range i).all fun j => decide ((taskAt b j).winHi < t.winLo) || decide (t.winHi < (taskAt b j).winLo)

/-- Check 9 (R107). -/
def checkTasks (b : List Byte) (n : Nat) (imem : Nat × Nat) : Except Reject Unit := do
  must (b.length == 32 * n) 9 0xFF .badParam
  mustAll 9 .badParam ((List.range n).map fun i => (taskOk b i imem, i))

/-! ## TIMETABLE -/

/-- A segment record (R108). -/
def segAt (b : List Byte) (o : Nat) : SegDesc := { start := bits (u32 b o) 0 18, task := bits (u32 b o) 18 6, budget := bits (u32 b (o + 4)) 0 18 }

/-- FIRST and COUNT of a template (R108). -/
def dirAt (b : List Byte) (t : Nat) : Nat × Nat := (u32 b (1024 + 8 * t), u16 b (1028 + 8 * t))

/-- The rules of record `k` of a template (R108). -/
def segOk (b : List Byte) (first k tasks : Nat) : Bool :=
  let o := first + 8 * k
  let g := segAt b o
  let prev := segAt b (o - 8)
  u32 b o / 2 ^ 24 == 0 && u32 b (o + 4) / 2 ^ 18 == 0 && decide (g.task < tasks) && decide (7 ≤ g.budget) &&
    (k == 0 || decide (prev.start + prev.budget ≤ g.start)) && decide (g.start + g.budget ≤ 237500)

/-- One template (R108). FIRST is asked to be a multiple of 4, as every record of the section is (DESIGN CHOICE, log entry 121). -/
def checkTemplate (b : List Byte) (count tasks t : Nat) : Except Reject Unit := do
  let (first, n) := dirAt b t
  must (decide (1 ≤ n) && decide (n ≤ 512) && u16 b (1030 + 8 * t) == 0 && decide (1024 + 8 * count ≤ first) && first % 4 == 0)
    10 (512 * t) .badParam
  must (decide (first + 8 * n ≤ b.length)) 10 0xFFFF .badParam
  mustAll 10 .badParam ((List.range n).map fun k => (segOk b first k tasks, 512 * t + k))

/-- Each of a list of checks in order. -/
def checkEach (f : Nat → Except Reject Unit) : List Nat → Except Reject Unit
  | [] => .ok ()
  | t :: l => do f t; checkEach f l

/-- Check 10 (R108). -/
def checkTimetable (b : List Byte) (count tasks ram : Nat) : Except Reject Unit := do
  must (decide (1024 + 8 * count ≤ b.length) && decide (b.length ≤ ram)) 10 0xFFFF .badParam
  mustAll 10 .badParam ((List.range 1000).map fun f => (decide (u8 b f < count), 0x8000 + f))
  if allZero (slice b 1000 24) then pure () else .error { reason := 10, detail := none, st := .badParam }
  checkEach (checkTemplate b count tasks) (List.range count)
  must (decide (1024 + 8 * count + 8 * ((List.range count).map fun t => (dirAt b t).2).sum ≤ ram)) 10 0xFFFF .badParam

/-! ## ENVELOPE -/

/-- R38 for one template and input: no value above 120.0 A, the mean at most 60.0 A. -/
def envOk (b : List Byte) (i : Nat) : Bool :=
  let l := (List.range 40).map fun k => u16 b (80 * i + 2 * k)
  (l.all fun v => decide (v ≤ 1200)) && decide (l.sum ≤ 40 * 600)

/-- Check 11 (R109, R38). -/
def checkEnvelope (b : List Byte) (count : Nat) : Except Reject Unit := do
  if b.length == 320 * count then pure () else .error { reason := 11, detail := none, st := .badParam }
  mustAll 11 .badParam ((List.range (4 * count)).map fun i => (envOk b i, i))

/-! ## DECL -/

/-- A record of DECL, none when it breaks a rule that needs no other record (R110). -/
inductive DeclRec where
  | chan (d : ChanDecl)
  | act (d : ActDecl)
  | shed (d : ShedDecl) (offset : Nat)
  | adopt (d : AdoptDecl) (offset : Nat)
  | status (address : Nat)
  deriving DecidableEq, Repr

/-- A CHANNEL record at an offset (R110). -/
def declChan (r : List Byte) (off : Nat) : Option DeclRec :=
  match chOfNum (u8 r 2) with
  | none => none
  | some c =>
    let crc := u32 r 12
    let shared := bit (u8 r 7) 1
    if r.length = 16 ∧ u8 r 3 ≤ 15 ∧ u8 r 4 ≤ 2 ∧ u8 r 5 ≤ 1 ∧ u8 r 6 ≤ 3 ∧ u8 r 7 ≤ 3 ∧ (8 ≤ u8 r 3 ∨ crc = 0) ∧
        (if u8 r 4 = 1 then 10 ≤ u32 r 8 ∧ u32 r 8 ≤ 600000 else u32 r 8 = 0) ∧ (shared = true → swClass c = .M) then
      some (.chan { chan := c, profile := u8 r 3, policy := u8 r 4, safeValue := u8 r 5 == 1, pg := Fin.ofNat 4 (u8 r 6),
                    sleepHold := bit (u8 r 7) 0, twinShared := shared, safeAfter := u32 r 8, crc := crc, offset := off })
    else none

/-- An ACTUATOR record (R110). -/
def declAct (r : List Byte) (off : Nat) : Option DeclRec :=
  match acOfNum (u8 r 2) with
  | none => none
  | some c =>
    if r.length = 12 ∧ u8 r 3 ≤ 15 ∧ u8 r 4 ≤ 2 ∧ (u8 r 5 = 0 ∨ u8 r 5 = 2) ∧ u16 r 6 = 0 then
      some (.act { act := c, bobbin := u8 r 3, policy := u8 r 4, twinShared := bit (u8 r 5) 1, crc := u32 r 8, offset := off })
    else none

/-- A SHED record: its channels are fed from its input (R24, R110). -/
def declShed (r : List Byte) (off : Nat) : Option DeclRec :=
  let n := u8 r 3
  let l := slice r 4 n
  let cs := l.filterMap fun b => chOfNum b.toNat
  if h : u8 r 2 < 4 then
    let p : PwrNo := ⟨u8 r 2, h⟩
    if 1 ≤ n ∧ n ≤ 48 ∧ r.length = 4 + 4 * ((n + 3) / 4) ∧ allZero (r.drop (4 + n)) = true ∧ cs.length = n ∧
        (cs.all fun c => swInput c == p) = true then some (.shed { input := p, order := cs } off)
    else none
  else none

/-- An ADOPT record (R110). -/
def declAdopt (r : List Byte) (off : Nat) : Option DeclRec :=
  let e : AdoptEntry := { object := u8 r 2, expect := u8 r 3, duty := u16 r 4 }
  if r.length = 8 ∧ e.ok = true ∧ u8 r 6 ≤ 1 ∧ u8 r 7 = 0 then some (.adopt { entry := e, refuse := u8 r 6 == 1 } off) else none

/-- An ADOPT_STATUS record: its address lies in the weft data area outside the carry region (R106, R110). -/
def declStatus (r : List Byte) (layout : Nat) : Option DeclRec :=
  let a := u32 r 4
  let area := dataOf layout
  if r.length = 8 ∧ u16 r 2 = 0 ∧ a % 8 = 0 ∧ max area.1 carryRegion.2 ≤ a ∧ a + 8 ≤ area.2 then some (.status a) else none

/-- One record, by its type (R110). -/
def declRec (r : List Byte) (off layout : Nat) : Option DeclRec :=
  match u8 r 0 with
  | 1 => declChan r off
  | 2 => declAct r off
  | 3 => declShed r off
  | 4 => declAdopt r off
  | 5 => declStatus r layout
  | _ => none

/-- Do two records say the same thing twice (R110)? -/
def DeclRec.clash : DeclRec → DeclRec → Bool
  | .chan a, .chan b => decide (a.chan = b.chan)
  | .act a, .act b => decide (a.act = b.act)
  | .shed a _, .shed b _ => decide (a.input = b.input)
  | .adopt a _, .adopt b _ => a.entry.object == b.entry.object
  | .status _, .status _ => true
  | _, _ => false

/-- The records from an offset on, `seen` before them; a failure names its offset. -/
def parseDecl (b : List Byte) (layout off : Nat) (seen : List DeclRec) : Nat → Except Reject (List DeclRec)
  | 0 => .ok seen
  | n + 1 =>
    if b.length ≤ off then .ok seen
    else
      let len := u8 b (off + 1)
      let bad : Except Reject (List DeclRec) := .error { reason := 12, detail := some off, st := .badParam }
      if len = 0 ∨ len % 4 ≠ 0 ∨ b.length < off + len then bad
      else
        match declRec (slice b off len) off layout with
        | none => bad
        | some d => if seen.any d.clash then bad else parseDecl b layout (off + len) (seen ++ [d]) n

/-- The declarations a list of records makes. -/
def declOf (l : List DeclRec) : Decl :=
  { chans := l.filterMap fun d => match d with | .chan x => some x | _ => none
    acts := l.filterMap fun d => match d with | .act x => some x | _ => none
    sheds := l.filterMap fun d => match d with | .shed x _ => some x | _ => none
    adopts := l.filterMap fun d => match d with | .adopt x _ => some x | _ => none
    status := (l.filterMap fun d => match d with | .status a => some a | _ => none).head? }

/-- Is an object declared (R110)? -/
def Decl.declares (d : Decl) (object : Nat) : Bool :=
  (d.chans.any fun x => chNum x.chan == object) || d.acts.any fun x => acObject x.act == object

/-- What a record asks of the others (R110): true when it holds, with the record's offset. -/
def DeclRec.linked (d : Decl) : DeclRec → Bool × Nat
  | .shed x off => (x.order.all fun c => d.declares (chNum c), off)
  | .adopt x off => (d.declares x.entry.object, off)
  | _ => (true, 0)

/-- Check 12 (R110): every record for itself first, then what records ask of one another; DETAIL names the first that fails in that order (DESIGN
CHOICE, log entry 74). -/
def checkDecl (b : List Byte) (layout : Nat) : Except Reject Decl := do
  let l ← parseDecl b layout 0 [] b.length
  let d := declOf l
  mustAll 12 .badParam (l.map (DeclRec.linked d))
  pure d

/-! ## The whole image -/

/-- Checks 7 to 12 on a signed image (R112), and the weft it holds. -/
def readWeft (p : List Byte) : Except Reject Weft := do
  let l ← checkSections p 0 [] 7
  mustAll 7 .badParam ([1, 4, 5, 6, 7].map fun t => (l.any fun x => x.typ == t, 0x100 + t))
  let layout := u8 p 27
  let sec := sectionBytes p l
  must (decide (layout ≤ 2)) 8 0 .badParam
  let code := sec 1
  mustAll 8 .badParam [(decide (code.length ≤ (imemOf layout).2), 1), (placedIn (sec 2) (dataOf layout), 2), (placedIn (sec 3) carryRegion, 3)]
  let tasks := u8 p 24
  let temps := u8 p 25
  checkTasks (sec 4) tasks ((imemOf layout).1, code.length)
  let tt := sec 5
  checkTimetable tt temps tasks (ttOf layout).2
  checkEnvelope (sec 7) temps
  let d ← checkDecl (sec 6) layout
  pure
    { image := p, id := u32 p 32, layout := layout, secVersion := u32 p 12, carryTag := u32 p 28
      tasks := (List.range tasks).map (taskAt (sec 4))
      frameMap := (List.range 1000).map (u8 tt)
      templates := (List.range temps).map fun t => (List.range (dirAt tt t).2).map fun k => segAt tt ((dirAt tt t).1 + 8 * k)
      envelope := (List.range (160 * temps)).map fun i => u16 (sec 7) (2 * i)
      decl := d, data := placed (sec 2), carry := placed (sec 3), autostart := false }

/-- The bytes of a section of an image that has passed its checks. -/
def imageSection (p : List Byte) (typ : Nat) : List Byte :=
  sectionBytes p ((List.range (u8 p 26)).map (sectionAt p)) typ

/-- The slot of the weft store for a layout (R114). -/
def slotOf (layout : Nat) : Slot2 := if layout = 2 then 1 else 0

/-- Does a layout's area hold a running weft, or one that awaits a swap (R112 check 13, R113)? -/
def State.areaBusy (s : State) (layout : Nat) : Bool :=
  let w := s.weft
  let active := w.running.toList ++ (w.swapping.map Swapping.target).toList
  active.any fun k => match w.store.get k with
    | some x => layout == 0 || x.layout == 0 || x.layout == layout
    | none => false

/-- Checks 4 to 13 (R112, R114). -/
def State.checkWeft (s : State) (p : List Byte) : Except Reject Weft := do
  checkSignature s.id p
  let w ← readWeft p
  must (!s.areaBusy w.layout) 13 w.layout .state
  pure w

/-- DETAIL of a failed check; one that R112 gives no value is free (log entry 58). -/
def State.detailOf (s : State) (r : Reject) : Nat × State :=
  match r.detail with
  | some d => (d, s)
  | none => let (v, s) := s.draw; (v % 65536, s)

end Sys2Proof.Machine
end

