-- ==== Sys2Proof/Machine/ClockRows.lean ====
section
/-! DEFINITION. Oscillators, auto-trim, clock switches (R41 to R51, R64, R65), the warp's alignment (R55), the acknowledgement and the
retransmission of shuttle words (R60, R63) and the clock registers (R66). -/

namespace Sys2Proof.Machine

open Sys2Proof

/-! ## The crystal -/

/-- The Otcel's clocks run for the islands: Run or Idle. -/
def State.awake (s : State) : Bool := decide (s.pwr.state = .run) || decide (s.pwr.state = .idle)

/-- XO_STABLE (R43, R44 step 4, R64): the first time since t0 REFMUX switches to the XO at once; after a loss the XO must stay stable for
10 s. -/
def opXoStable (s : State) : State :=
  let k := s.clk
  if !s.awake || !k.xoEnabled || k.xoOk || k.stableAt.isSome then s
  else if k.xoEver then s.onClk fun k => { k with stableAt := some s.now }
  else
    let s := s.onClk fun k => { k with refXo := true, xoOk := true, xoEver := true, retryFrom := none }
    s.radioEval

/-- XO_PLL_SETTLED (R44 step 5): I7, I8 and the PHYs are ungated, auto-trim against the XO begins. The start
time that record 0xA001 gives runs to this instant (DESIGN CHOICE, log entry 115). -/
def opXoPllSettled (s : State) : State :=
  let k := s.clk
  if !k.xoOk || k.settled then s
  else
    let s := s.onClk fun k => { k with settled := true, i7Run := true, i8Run := true }
    let s := s.record 0xA001 0 k.attempts (s.since k.startAt % 2 ^ 32) 0
    (s.setSource 1 true).radioEval

/-- How far HFO_TRIM may have gone since its value was last known, or since the loop passed to another source: 10 ppm for each millisecond, in its
steps of 2 ppm (R47). -/
def State.trimRoom (s : State) : Int := 5 * (s.since s.clk.trimAt / 1000 : Nat)

/-- HFO_TRIM_CONVERGED (R44, R47): the trim the loop converges to, in steps of 2 ppm, and the last deviation. The loop stands nearer the old trim
while its rate has not let it reach the new one. -/
def opHfoTrimConverged (trim dev : Int) (s : State) : State :=
  if s.clk.trimSrc = 0 then s
  else
    let want := max (-2500) (min 2500 trim)
    let got := max (s.clk.hfoTrim - s.trimRoom) (min (s.clk.hfoTrim + s.trimRoom) want)
    let t := s.now
    s.onClk fun k => { k with hfoTrimmed := decide (got = want), hfoTrim := got, trimAt := if got = k.hfoTrim ∧ want ≠ got then k.trimAt else t, hfoDev := dev }

/-- LFO_TRIM_CONVERGED (R44, R48): while the XO runs, selected or in the 10 s before it is selected again (R64). -/
def opLfoTrimConverged (dev : Int) (s : State) : State :=
  if s.clk.xoOk || s.clk.stableAt.isSome then s.onClk fun k => { k with lfoTrimmed := true, lfoDev := dev } else s

/-- XO_FAIL (R45): not stable 20 ms after it was enabled. -/
def opXoFail (s : State) : State :=
  let k := s.clk
  if !s.awake || !k.xoEnabled || k.xoOk || k.stableAt.isSome || decide (s.since k.xoEnabledAt < 20000) then s
  else
    let s := s.onClk fun k => { k with xoFail := true, xoEnabled := false, retryFrom := some (k.retryFrom.getD k.xoEnabledAt) }
    s.fault .D 0 0xA002 0 0 0

/-- XO_RETRY (R45, R64 step 5): every 10 s the XO is disabled, enabled again and tested. -/
def opXoRetry (s : State) : State :=
  let t := s.now
  match s.clk.retryFrom with
  | none => s
  | some f =>
    if !s.awake || s.clk.xoOk || s.clk.stableAt.isSome || decide (t < f + 10000000) then s
    else s.onClk fun k => { k with xoEnabled := true, xoEnabledAt := t, attempts := k.attempts + 1, retryFrom := some t }

/-- XO_LOSS (R64, R67): the selected XO stops, or runs off frequency. An XO that does so in the 10 s before it would be selected again has not been
stable for 10 s continuously: it is tested anew at the next retry. -/
def opXoLoss (offFrequency : Bool) (s : State) : State :=
  let k := s.clk
  if !k.refXo then (if k.stableAt.isSome then s.onClk fun k => { k with stableAt := none, xoEnabled := false } else s)
  else
    let ev := s.now + 1
    let s := if offFrequency then s else (s.onClk fun k => { k with clkStuck := true }).faultEvent ev .D 0 0xA020 0 0 0
    let t := s.now
    let s := s.onClk fun k =>
      { k with refXo := false, xoOk := false, xoLost := true, xoEnabled := false, i7Run := false, lossAt := some t, stableAt := none,
               retryFrom := some t }
    let s := s.faultEvent ev .D 0 0xA010 (b2n offFrequency) (sgn k.hfoTrim) 0
    (s.setSource 1 false).radioEval

/-- Is this the selvedge of a hyperperiod's last frame, or the boundary that ends it (R64, R69)? -/
def State.atHyperEnd (s : State) : Bool := decide (999950 ≤ s.warp % 1000000) || decide (s.warp % 1000000 = 0)

/-- XO_RETURN (R64 step 6): at a hyperperiod boundary, in the selvedge before it, after 10 s of a stable XO. The seconds on the HFO are whole
ones, rounded down (DESIGN CHOICE, log entry 115). -/
def opXoReturn (s : State) : State :=
  match s.clk.stableAt with
  | none => s
  | some t =>
    if s.clk.xoOk || decide (s.now < t + 10000000) || !s.atHyperEnd then s
    else
      let sec := match s.clk.lossAt with
        | some l => s.since l / 1000000
        | none => 0
      let s := s.onClk fun k =>
        { k with refXo := true, xoOk := true, i7Run := true, stableAt := none, retryFrom := none, lossAt := none }
      ((s.record 0xA011 0 sec 0 0).setSource 1 true).radioEval

/-! ## Trim sources -/

/-- The period of a trim source in µs (R46); that of gPTP is the announced sync interval, which is given. -/
def State.sourcePeriod (s : State) (i : Fin 6) (sync : Nat) : Nat :=
  match i.1 with
  | 2 => 1000000
  | 3 => 1000
  | 4 => 1000 * s.ccfg.canSyncPeriod
  | 5 => sync
  | _ => 1000

/-- TRIM_SOURCE (R46, R47): a source has made no valid measurement for three of its periods. -/
def opTrimSource (i : Fin 6) (sync : Nat) (s : State) : State :=
  if i.1 < 2 ∨ s.clk.avail.get i = false ∨ s.since (s.clk.validAt.get i) < 3 * s.sourcePeriod i sync then s
  else s.setSource i false

/-- A measurement of a source (R46): a valid one makes it available. -/
def State.measured (s : State) (i : Fin 6) (valid : Bool) (dev : Int) : State :=
  let t := s.now
  let s := s.onClk fun k =>
    { k with validAt := if valid then k.validAt.put i t else k.validAt, hfoDev := if valid && k.trimSrc == i.1 then dev else k.hfoDev }
  s.setSource i valid

/-- SYNC_IN_EDGE (R46): at 1 PPS a rising edge, judged by the interval since the last one; at 10 MHz the end of a 1 ms window with the
frequency it measured in Hz. `dev` is the HFO's deviation that follows, ppm. -/
def opSyncInEdge (hz : Nat) (dev : Int) (s : State) : State :=
  if s.ccfg.syncInMode = 1 then
    let last := s.clk.edgeAt.get 2
    let t := s.now
    let s := s.onClk fun k => { k with edgeAt := k.edgeAt.put 2 (some t) }
    match last with
    | none => s
    | some l => s.measured 2 (decide (990000 ≤ t - l) && decide (t - l ≤ 1010000)) dev
  else if s.ccfg.syncInMode = 2 then s.measured 3 (decide (9900000 ≤ hz) && decide (hz ≤ 10100000)) dev
  else s

/-! ## Clock switches -/

/-- CLKSTUCK (R50): a forced switch of a multiplexer: 0, 1, or 10 + n of island In. -/
def opClkstuck (mux : Nat) (s : State) : State :=
  if mux ≤ 1 ∨ (10 ≤ mux ∧ mux ≤ 18) then (s.onClk fun k => { k with clkStuck := true }).fault .D 0 0xA020 mux 0 0 else s

/-! ## The warp -/

/-- Is warp time to follow PTP (R55)? A paired shadow follows its lead instead (R405). -/
def State.followsPtp (s : State) : Bool :=
  s.ccfg.warpPtpEn && s.eth.synced && !(decide (s.twin.role = .shadow) && decide (s.twin.pair = .paired))

/-- The step of warp time that is pending, applied (R55). -/
def State.applyStep (s : State) : State :=
  let d := s.wt.offset
  if s.followsPtp && s.wt.phaseOk && decide (d ≠ 0) then
    let s := (s.onWt fun w => { w with warp := w.warp + d, offset := 0, loc := w.loc.mapIdx fun _ x => x + d }).rebase
    s.record 0xA050 3 (d.toNat % 2 ^ 32) (d.toNat / 2 ^ 32) 0
  else s

/-- Does a weft run, or is it to start? -/
def State.weftActive (s : State) : Bool := s.weft.running.isSome || s.weft.starting.isSome

/-- WARP_STEP (R55): the warp keeper compares PTP time in µs and the phase in ns with warp time; while no weft runs a step follows once
the phase is within 1 µs. -/
def opWarpStep (ptp : Warp) (phase : Nat) (s : State) : State :=
  if s.followsPtp then
    let s := s.onWt fun w => { w with phaseOk := decide (phase ≤ 1000), offset := ptp - w.warp }
    if s.weftActive then s else s.applyStep
  else s

/-- WARP_LO_READ (R66). -/
def opWarpLoRead (s : State) : State := s.onWt fun w => { w with capHi := (w.warp >>> 32).setWidth 32 }

/-- The offset as the registers show it (R66). -/
def State.ptpOffset (s : State) : Warp := if s.followsPtp then s.wt.offset else 0

/-- WARP_PTP_OFFSET_LO_READ (R66). -/
def opWarpPtpOffsetLoRead (s : State) : State :=
  let d := s.ptpOffset
  s.onWt fun w => { w with capOffHi := (d >>> 32).setWidth 32 }

/-! ## Shuttle links -/

/-- What the rows of R60 and R63 tell of a link whose words have no row of their own: its oldest word in flight has come (log entry 61). -/
def State.told (s : State) (k : LinkNo) (crcOk : Bool) : State :=
  if k = 6 then s.twinArrive crcOk else if k = 9 then s.serviceArrive false crcOk else if k = 10 then s.serviceArrive true crcOk else s

/-- SHUTTLE_ACK (R63): the ACK of an accepted word has arrived. On the Twin link and on those of the service core the ACK tells that the oldest
word in flight has arrived, when none that has arrived waits for its own (log entry 61). -/
def opShuttleAck (k : LinkNo) (s : State) : State :=
  let s := if (s.link k).unacked = 0 then s.told k true else s
  match k.back with
  | some j => s.ackArrive j true
  | none => s.acked (some k)

/-- The oldest word a retransmit request is out for is sent again with the same SEQ, when the link has room (R60, R62). It stands behind the words
in flight: the spec gives its place nowhere (DESIGN CHOICE, log entry 114). -/
def Link.resend (l : Link) : Link :=
  match l.retry with
  | [] => l
  | w :: rest => if l.full then l else { l with retry := rest, fly := l.fly ++ [{ w with resent := true }] }

/-- SHUTTLE_RETRANSMIT (R60): the sender sends the word once more with the same SEQ. Where no word that failed waits, the request itself tells of
the failure: of an ACK at the link's head, or of the oldest word in flight on the Twin link and those of the service core (log entry 61). A
register access, which crosses its link within its row, has then failed once and passed (log entry 146). -/
def opShuttleRetransmit (k : LinkNo) (s : State) : State :=
  let l := s.link k
  let s := if l.retry ≠ [] then s
    else if l.fly.head?.any fun w => !w.counts then s.ackArrive k false
    else if l.fly ≠ [] then s.told k false
    else if 9 ≤ k.1 then s.fault .D k.receiver 0xA070 k.num ((l.txSeq + 255) % 256) tyService
    else s
  s.onLink k Link.resend

/-! ## Registers (R66) -/

/-- A read, by offset from 0x2800_0200, with what the read itself does. -/
def State.readClock (s : State) (off : Nat) : Nat × State :=
  let k := s.clk
  match off with
  | 0x00 =>
    (b2n k.xoOk + 2 * b2n k.hfoTrimmed + 4 * k.trimSrc + 2 ^ 5 * b2n k.lfoTrimmed + 2 ^ 6 * b2n s.warpPtp + 2 ^ 8 * b2n k.clkStuck +
      2 ^ 9 * b2n k.xoLost + 2 ^ 10 * b2n k.xoFail + 2 ^ 11 * b2n k.warpErr + 2 ^ 12 * k.pllLost.mask (fun b => b), s)
  | 0x04 =>
    let c := s.ccfg
    (c.syncInMode + 4 * b2n c.canSyncEn + 8 * c.canSyncCh + 2 ^ 6 * b2n c.canSyncIde + 2 ^ 7 * b2n c.gptpTrimEn + 2 ^ 8 * b2n c.warpPtpEn +
      2 ^ 16 * c.canSyncPeriod, s)
  | 0x08 => (s.ccfg.canSyncId, s)
  | 0x0C => (unsigned 16 k.hfoTrim, s)
  | 0x10 => (unsigned 16 k.hfoDev + 2 ^ 16 * unsigned 16 k.lfoDev, s)
  | 0x20 => (s.warp % 2 ^ 32, opWarpLoRead s)
  | 0x24 => (s.wt.capHi.toNat, s)
  | 0x28 => (s.ptpOffset.toNat % 2 ^ 32, opWarpPtpOffsetLoRead s)
  | 0x2C => (s.wt.capOffHi.toNat, s)
  | _ => (0, s)

/-- A write (R66). -/
def State.writeClock (s : State) (off v : Nat) : Status × State :=
  match off with
  | 0x00 => (.ok, s.onClk fun k =>
      { k with clkStuck := k.clkStuck && !bit v 8, xoLost := k.xoLost && !bit v 9, xoFail := k.xoFail && !bit v 10
               warpErr := k.warpErr && !bit v 11, pllLost := k.pllLost.mapIdx fun n b => b && !bit v (12 + n.1) })
  | 0x04 =>
    let c : ClockCfg := { s.ccfg with
      syncInMode := bits v 0 2, canSyncEn := bit v 2, canSyncCh := bits v 3 3, canSyncIde := bit v 6, gptpTrimEn := bit v 7
      warpPtpEn := bit v 8, canSyncPeriod := bits v 16 16 }
    (.ok, { s with ccfg := c }.retrim)
  | 0x08 => (.ok, { s with ccfg := { s.ccfg with canSyncId := bits v 0 29 } })
  | _ => (.ok, s)

/-! ## The meanings of the commands -/

/-- XO_STABLE (R43). -/
def execXoStable (s : State) : Host.Outcome State Fault Refusal := .next (opXoStable s)

/-- XO_PLL_SETTLED (R44). -/
def execXoPllSettled (s : State) : Host.Outcome State Fault Refusal := .next (opXoPllSettled s)

/-- HFO_TRIM_CONVERGED (R47). -/
def execHfoTrimConverged (trim dev : Int) (s : State) : Host.Outcome State Fault Refusal := .next (opHfoTrimConverged trim dev s)

/-- LFO_TRIM_CONVERGED (R48). -/
def execLfoTrimConverged (dev : Int) (s : State) : Host.Outcome State Fault Refusal := .next (opLfoTrimConverged dev s)

/-- XO_FAIL (R45). -/
def execXoFail (s : State) : Host.Outcome State Fault Refusal := .next (opXoFail s)

/-- XO_RETRY (R45). -/
def execXoRetry (s : State) : Host.Outcome State Fault Refusal := .next (opXoRetry s)

/-- TRIM_SOURCE (R47). -/
def execTrimSource (i : Fin 6) (sync : Nat) (s : State) : Host.Outcome State Fault Refusal := .next (opTrimSource i sync s)

/-- CLKSTUCK (R50). -/
def execClkstuck (mux : Nat) (s : State) : Host.Outcome State Fault Refusal := .next (opClkstuck mux s)

/-- XO_LOSS (R64). -/
def execXoLoss (offFrequency : Bool) (s : State) : Host.Outcome State Fault Refusal := .next (opXoLoss offFrequency s)

/-- XO_RETURN (R64). -/
def execXoReturn (s : State) : Host.Outcome State Fault Refusal := .next (opXoReturn s)

/-- WARP_STEP (R55). -/
def execWarpStep (ptp : Warp) (phase : Nat) (s : State) : Host.Outcome State Fault Refusal := .next (opWarpStep ptp phase s)

/-- WARP_LO_READ (R66). -/
def execWarpLoRead (s : State) : Host.Outcome State Fault Refusal := .next (opWarpLoRead s)

/-- WARP_PTP_OFFSET_LO_READ (R66). -/
def execWarpPtpOffsetLoRead (s : State) : Host.Outcome State Fault Refusal := .next (opWarpPtpOffsetLoRead s)

/-- SHUTTLE_ACK (R63). -/
def execShuttleAck (k : LinkNo) (s : State) : Host.Outcome State Fault Refusal := .next (opShuttleAck k s)

/-- SHUTTLE_RETRANSMIT (R60). -/
def execShuttleRetransmit (k : LinkNo) (s : State) : Host.Outcome State Fault Refusal := .next (opShuttleRetransmit k s)

/-- SYNC_IN_EDGE (R46). -/
def execSyncInEdge (hz : Nat) (dev : Int) (s : State) : Host.Outcome State Fault Refusal := .next (opSyncInEdge hz dev s)

end Sys2Proof.Machine
end

