-- ==== Sys2Proof/Machine/LoomRows.lean ====
section
/-! DEFINITION. The Loom's instructions (R82): the rows NOP to PUTS. Each row executes the instruction standing at the Loom's PC
when it is of the row's kind. -/

namespace Sys2Proof.Machine

open Sys2Proof

/-- Does a code belong to a row? -/
def isRow (n : Nat) (o : Nat) : Bool := o == n

/-- A fetch outside the weft's code (R75, R119), or off a 4-byte boundary, where a RET's link word may lead: CODE_ADDRESS, and the activation ends.
What it costs is not stated: no cycle, and no budget check stands before it (DESIGN CHOICE, log entry 38). -/
def State.fetchFault (s : State) : State :=
  match s.loom.seg with
  | none => s
  | some g =>
    if !s.loomReady then s
    else
      let pc := s.loom.pc
      (s.endActivation g.task).taskFault g.task 0x9022 pc g.task.1 pc

/-- NOP (R82); this row also stands for a fetch that is not allowed and for a code not listed, which is ILLEGAL (R80, R99). -/
def opNop (s : State) : State :=
  if s.fetchOk then s.loomRow (fun o => o == 0 || (opShape o).isNone) fun i s => i.plain s else s.fetchFault

/-! ## Moves -/

def opMov (s : State) : State := s.loomRow (isRow 0x04) (semUnary fun f w a => (a, flagsNZ f w a))

def opMovsx (s : State) : State := s.loomRow (isRow 0x08) (semUnary fun f w a => (unsigned 32 (signed w a), flagsNZ f w a))

/-- LEA (R82): the effective address of A, which is not accessed. -/
def semLea (i : Ins) (s : State) : Done :=
  let (k, l) := s.loom.loc i.a i.xa 4
  let v := match k with
    | .mem a => a
    | _ => 0
  let (fd, s) := (s.onLoom fun _ => l).writeOp i.d i.xd 4 v
  { i.plain s with fault := addrFault fd }

def opLea (s : State) : State := s.loomRow (isRow 0x0E) semLea

/-! ## Arithmetic and logic -/

/-- The carry as a number. -/
def carry (f : BitVec 5) : Nat := b2n (getF f fC)

def opAdd (s : State) : State := s.loomRow (isRow 0x10) (semBinary fun f w a b => addF f w a b 0)
def opAdc (s : State) : State := s.loomRow (isRow 0x14) (semBinary fun f w a b => addF f w a b (carry f))
def opSub (s : State) : State := s.loomRow (isRow 0x18) (semBinary fun f w a b => subF f w a b 0)
def opSbc (s : State) : State := s.loomRow (isRow 0x1C) (semBinary fun f w a b => subF f w a b (carry f))
def opAnd (s : State) : State := s.loomRow (isRow 0x20) (semBinary fun f w a b => logicF f w (a &&& b))
def opOr (s : State) : State := s.loomRow (isRow 0x24) (semBinary fun f w a b => logicF f w (a ||| b))
def opXor (s : State) : State := s.loomRow (isRow 0x28) (semBinary fun f w a b => logicF f w (a ^^^ b))
def opNot (s : State) : State := s.loomRow (isRow 0x2C) (semUnary fun f w a => logicF f w (2 ^ w - 1 - a))
def opNeg (s : State) : State := s.loomRow (isRow 0x30) (semUnary fun f w a => subF f w 0 a 0)
def opShl (s : State) : State := s.loomRow (isRow 0x34) (semBinary (shiftF .shl))
def opShr (s : State) : State := s.loomRow (isRow 0x38) (semBinary (shiftF .shr))
def opSar (s : State) : State := s.loomRow (isRow 0x3C) (semBinary (shiftF .sar))
def opRor (s : State) : State := s.loomRow (isRow 0x40) (semBinary (shiftF .ror))
def opCmp (s : State) : State := s.loomRow (isRow 0x44) (semCompare fun f w a b => (subF f w a b 0).2)
def opTst (s : State) : State := s.loomRow (isRow 0x48) (semCompare fun f w a b => (logicF f w (a &&& b)).2)
def opAddm (s : State) : State := s.loomRow (isRow 0x4C) (semModify fun f w d a => addF f w d a 0)
def opSubm (s : State) : State := s.loomRow (isRow 0x50) (semModify fun f w d a => subF f w d a 0)

/-- Z := not bit n of a value, n modulo the width (R83). -/
def bitZ (f : BitVec 5) (w v n : Nat) : BitVec 5 := setF f fZ (!bit v (n % w))

def opBset (s : State) : State := s.loomRow (isRow 0x54) (semModify fun f w d a => (d ||| 2 ^ (a % w), bitZ f w d a))
def opBclr (s : State) : State :=
  s.loomRow (isRow 0x58) (semModify fun f w d a => (if bit d (a % w) then d - 2 ^ (a % w) else d, bitZ f w d a))
def opBtst (s : State) : State := s.loomRow (isRow 0x5C) (semCompare fun f w a b => bitZ f w a b)

/-! ## Control -/

/-- Bcc (R84, R85). -/
def semBcc (i : Ins) (s : State) : Done :=
  let t := unsigned 32 ((i.addr : Int) + 4 + signed 20 (bits i.w 0 20) * 4)
  { i.plain s with jump := if condHolds s.loom.flg (bits i.w 20 4) then some t else none }

def opBcc (s : State) : State := s.loomRow (isRow 0x60) semBcc

/-- The task's region of the register file (R107). -/
def State.region (s : State) : Nat × Nat :=
  match s.loom.seg with
  | none => (0, 2047)
  | some g => match s.taskDesc g.task with
    | none => (0, 2047)
    | some d => (d.winLo, d.winHi)

/-- CALL (R72, R84). -/
def semCall (i : Ins) (s : State) : Done :=
  let k := bits i.w 21 3
  let b := s.loom.wbase + 4 * k
  if s.region.2 < b + 23 then { i.plain s with stay := true, ends := true, fault := some (0x9023, s.loom.wbase) }
  else
    let s := s.onLoom fun l => ({ l with wbase := b }).setReg 31 ((i.addr + 4) % 2 ^ 19 + 2 ^ 24 * k)
    { i.plain s with jump := some (unsigned 32 ((i.addr : Int) + 4 + signed 21 (bits i.w 0 21) * 4)) }

def opCall (s : State) : State := s.loomRow (isRow 0x61) semCall

/-- RET (R72, R99). -/
def semRet (i : Ins) (s : State) : Done :=
  let link := s.loom.reg 31
  let k := bits link 24 3
  if k = 0 ∨ k = 7 ∨ link ≠ bits link 0 19 + 2 ^ 24 * k then
    { i.plain s with stay := true, ends := true, fault := some (0x9022, link) }
  else if s.loom.wbase < s.region.1 + 4 * k then
    { i.plain s with stay := true, ends := true, fault := some (0x9023, s.loom.wbase) }
  else { i.plain (s.onLoom fun l => { l with wbase := l.wbase - 4 * k }) with jump := some (bits link 0 19) }

def opRet (s : State) : State := s.loomRow (isRow 0x62) semRet

/-- JMPI (R82, R99): a void or bad target leaves PC and ends the activation. -/
def semJmpi (i : Ins) (a : Nat) (isVoid : Bool) (_ s : State) : Done :=
  let t := a / 4 * 4
  if isVoid then { i.plain s with stay := true, ends := true }
  else if 0x80000 ≤ a then { i.plain s with stay := true, ends := true, fault := some (0x9022, t) }
  else { i.plain s with jump := some t }

def opJmpi (s : State) : State := s.loomRow (isRow 0x63) (semOne semJmpi)

/-- YIELD and DONE (R86). -/
def opYield (s : State) : State := s.loomRow (isRow 0x64) fun i s => { i.plain s with yields := true }
def opDone (s : State) : State := s.loomRow (isRow 0x65) fun i s => { i.plain s with ends := true }

/-! ## Multiplier and decimal -/

/-- MULU and MULS (R90): the product stands 4 cycles after the final cycle; an unfinished product is discarded. -/
def semMul (sgn : Bool) (i : Ins) (s : State) : Done :=
  let (a, fa, s) := s.readOp i.a i.xa 4
  let (b, fb, s) := s.readOp i.b i.xb 4
  let k := s.loom.cyc + i.cycles - 1
  let p : BitVec 64 := if sgn then BitVec.ofInt 64 (signed 32 a * signed 32 b) else BitVec.ofNat 64 (a * b)
  { i.plain (s.onLoom fun l => { l.settle k with mul := some { ready := k + 4, product := p } }) with
    fault := addrFault (orFault fa fb) }

def opMulu (s : State) : State := s.loomRow (isRow 0x68) (semMul false)
def opMuls (s : State) : State := s.loomRow (isRow 0x69) (semMul true)

/-- MUL_COMPLETE (R90): the product stands once its cycle has come, counted by the segment that runs, or by the frame while none does. -/
def opMulComplete (s : State) : State :=
  s.onLoom fun l => l.settle (if l.seg.isSome then l.cyc else max l.cyc (s.warp % 1000 * 250))

def opDadd (s : State) : State := s.loomRow (isRow 0x6C) (semBinary fun f _ a b => decF false f a b 0)
def opDadc (s : State) : State := s.loomRow (isRow 0x6D) (semBinary fun f _ a b => decF false f a b (carry f))
def opDsub (s : State) : State := s.loomRow (isRow 0x6E) (semBinary fun f _ a b => decF true f a b 0)
def opDsbc (s : State) : State := s.loomRow (isRow 0x6F) (semBinary fun f _ a b => decF true f a b (carry f))
def opDadj (s : State) : State := s.loomRow (isRow 0x70) (semUnary fun f _ a => dadjF f a)
def opCvbd (s : State) : State := s.loomRow (isRow 0x71) (semUnary fun f _ a => cvbdF f a)
def opCvdb (s : State) : State := s.loomRow (isRow 0x72) (semUnary fun f _ a => cvdbF f a)

/-! ## Repeat -/

/-- The instructions that may not be repeated (R88). -/
def noRepeat (opc : Nat) : Bool :=
  opc == 0x60 || opc == 0x61 || opc == 0x62 || opc == 0x63 || opc == 0x64 || opc == 0x65 || opc == 0x74 || opc == 0x75 ||
    opc == 0x7A || opc == 0x7B

/-- REP and REPI (R87 to R89): RPC is loaded; a count of 0 passes over the next instruction. -/
def semRep (susp : Bool) (i : Ins) (s : State) : Done :=
  let n := s.fetchIns i.after
  if noRepeat n.opc then
    { i.plain (s.onLoom fun l => { l with rpc := 0 }) with cycles := 1, jump := some n.after, fault := some (0x9020, n.w) }
  else
    let (a, fa, s) := s.readOp i.a i.xa 4
    let c := a % 65536
    let s := s.onLoom fun l => { l with rpc := c, rep := if c = 0 then none else some (susp, i.addr) }
    { i.plain s with jump := some (if c = 0 then n.after else i.after), fault := addrFault fa
                     ahead := if susp then 0 else c * (if n.legal then n.cycles else 1) }

def opRep (s : State) : State := s.loomRow (isRow 0x74) (semRep false)
def opRepi (s : State) : State := s.loomRow (isRow 0x75) (semRep true)

/-! ## Shuttles -/

/-- The link of a port (R61, R94). -/
def portLink : Nat → LinkNo
  | 0 => 0 | 1 => 1 | 2 => 2 | 3 => 6 | _ => 7

/-- Count a CMD word that entered the Switch or Drive link (R121). -/
def State.countSent (s : State) (port : Nat) (cmd : Bool) : State :=
  if !cmd then s
  else match port with
    | 0 => s.onWeft fun w => { w with sent := w.sent.upd 0 fun n => n + 1 }
    | 1 => s.onWeft fun w => { w with sent := w.sent.upd 1 fun n => n + 1 }
    | _ => s

/-- SEND (R62, R94). -/
def semSend (i : Ins) (s : State) : Done :=
  let (a, fa, s) := s.readOp i.a i.xa 4
  let (b, fb, s) := s.readOp i.b i.xb 4
  let port := bits i.w 21 3
  let cmd := bit i.w 20
  let k := portLink port
  let af := addrFault (orFault fa fb)
  if (s.link k).full then { i.plain s with fault := if af.isSome then af else some (0xA072, k.num) }
  else
    let s := (s.sendWord k (if cmd then tyCmd else tyData) (BitVec.ofNat 64 (a + 2 ^ 32 * b))).countSent port cmd
    { i.plain s with fault := af }

def opSend (s : State) : State := s.loomRow (isRow 0x78) semSend

/-- The receive queue of a port (R95). -/
def portQueue : Nat → Fin 3
  | 0 => 0 | 1 => 1 | _ => 2

/-- RECV (R95). -/
def semRecv (i : Ins) (s : State) : Done :=
  let port := bits i.w 13 3
  let sel := bits i.w 0 8
  let q := s.loom.rx.get (portQueue port)
  let value : Option Nat :=
    if port = 4 then (if s.fld.stale then none else some (s.fld.words.get ⟨bits i.w 2 4, Nat.mod_lt _ (by decide)⟩))
    else q.head?.map fun x => if bit sel 0 then pf x 32 32 else pf x 0 32
  let s := if port ≠ 4 ∧ bit sel 1 = true then s.onLoom fun l => { l with rx := l.rx.upd (portQueue port) fun q => q.drop 1 } else s
  let s := s.onLoom fun l => { l with flg := setF l.flg fZ value.isNone }
  let (fd, s) := s.writeOp i.d i.xd 4 (value.getD void)
  { i.plain s with fault := if value.isNone then some (0x9024, port) else addrFault fd }

def opRecv (s : State) : State := s.loomRow (isRow 0x79) semRecv

/-- Words unacknowledged on the links FENCE covers (R97). -/
def State.unacked (s : State) : Nat :=
  (([0, 1, 2, 6] : List LinkNo).map fun k => (s.link k).outstanding).sum

/-- FENCE (R97), judged at its last cycle. -/
def opFence (s : State) : State :=
  s.loomRow (isRow 0x7A) fun i s => { i.plain s with fault := if s.unacked = 0 then none else some (0x9025, s.unacked) }

/-- WAITSLOT (R98, R99). -/
def semWaitslot (i : Ins) (a : Nat) (isVoid : Bool) (s0 s : State) : Done :=
  if isVoid then i.plain s
  else if a = 0 ∨ 37 < a then i.illegal s0
  else
    let t := s.loom.cyc
    let late := decide (6250 * a < t + i.cycles)
    let s := s.onLoom fun l => { l with flg := setF l.flg fC late }
    { i.plain s with cycles := if late then i.cycles else 6250 * a - t }

def opWaitslot (s : State) : State := s.loomRow (isRow 0x7B) (semOne semWaitslot)

/-- A special register's value at the first cycle (R73). -/
def State.special (s : State) (n : Nat) : Nat :=
  let l := s.loom
  match n with
  | 0 => l.pc
  | 1 => l.flg.toNat
  | 2 => l.mlo.toNat
  | 3 => l.mhi.toNat
  | 4 => l.rpc
  | 5 => l.wbase
  | 6 => l.cyc / 6250 + 2 ^ 16 * s.hyperFrame
  | _ => (1000 * s.frame + l.cyc / 250) % 2 ^ 32

/-- GETS (R73). -/
def semGets (i : Ins) (s : State) : Done :=
  let (fd, s) := s.writeOp i.d i.xd 4 (s.special (bits i.w 8 3))
  { i.plain s with fault := addrFault fd }

def opGets (s : State) : State := s.loomRow (isRow 0x7C) semGets

/-- PUTS (R73): to FLG or RPC; bits without access make it illegal. Where the source is void the instruction is whole, with its cycles and its
mode's updates, and its fault is ADDRESS (DESIGN CHOICE, log entry 119). -/
def semPuts (i : Ins) (a : Nat) (isVoid : Bool) (s0 s : State) : Done :=
  let n := bits i.w 16 3
  if n = 1 ∧ a < 32 then i.plain (s.onLoom fun l => { l with flg := BitVec.ofNat 5 a })
  else if n = 4 ∧ a < 65536 then i.plain (s.onLoom fun l => { l with rpc := a })
  else if isVoid then i.plain s
  else i.illegal s0

def opPuts (s : State) : State := s.loomRow (isRow 0x7D) (semOne semPuts)

/-! ## The meanings of the commands -/

/-- NOP (R82). -/
def execNop (s : State) : Host.Outcome State Fault Refusal := .next (opNop s)

/-- MOV (R82). -/
def execMov (s : State) : Host.Outcome State Fault Refusal := .next (opMov s)

/-- MOVSX (R82). -/
def execMovsx (s : State) : Host.Outcome State Fault Refusal := .next (opMovsx s)

/-- LEA (R82). -/
def execLea (s : State) : Host.Outcome State Fault Refusal := .next (opLea s)

/-- ADD (R82). -/
def execAdd (s : State) : Host.Outcome State Fault Refusal := .next (opAdd s)

/-- ADC (R82). -/
def execAdc (s : State) : Host.Outcome State Fault Refusal := .next (opAdc s)

/-- SUB (R82). -/
def execSub (s : State) : Host.Outcome State Fault Refusal := .next (opSub s)

/-- SBC (R82). -/
def execSbc (s : State) : Host.Outcome State Fault Refusal := .next (opSbc s)

/-- AND (R82). -/
def execAnd (s : State) : Host.Outcome State Fault Refusal := .next (opAnd s)

/-- OR (R82). -/
def execOr (s : State) : Host.Outcome State Fault Refusal := .next (opOr s)

/-- XOR (R82). -/
def execXor (s : State) : Host.Outcome State Fault Refusal := .next (opXor s)

/-- NOT (R82). -/
def execNot (s : State) : Host.Outcome State Fault Refusal := .next (opNot s)

/-- NEG (R82). -/
def execNeg (s : State) : Host.Outcome State Fault Refusal := .next (opNeg s)

/-- SHL (R83). -/
def execShl (s : State) : Host.Outcome State Fault Refusal := .next (opShl s)

/-- SHR (R83). -/
def execShr (s : State) : Host.Outcome State Fault Refusal := .next (opShr s)

/-- SAR (R83). -/
def execSar (s : State) : Host.Outcome State Fault Refusal := .next (opSar s)

/-- ROR (R83). -/
def execRor (s : State) : Host.Outcome State Fault Refusal := .next (opRor s)

/-- CMP (R83). -/
def execCmp (s : State) : Host.Outcome State Fault Refusal := .next (opCmp s)

/-- TST (R82). -/
def execTst (s : State) : Host.Outcome State Fault Refusal := .next (opTst s)

/-- ADDM (R82). -/
def execAddm (s : State) : Host.Outcome State Fault Refusal := .next (opAddm s)

/-- SUBM (R82). -/
def execSubm (s : State) : Host.Outcome State Fault Refusal := .next (opSubm s)

/-- BSET (R83). -/
def execBset (s : State) : Host.Outcome State Fault Refusal := .next (opBset s)

/-- BCLR (R83). -/
def execBclr (s : State) : Host.Outcome State Fault Refusal := .next (opBclr s)

/-- BTST (R83). -/
def execBtst (s : State) : Host.Outcome State Fault Refusal := .next (opBtst s)

/-- BCC (R85). -/
def execBcc (s : State) : Host.Outcome State Fault Refusal := .next (opBcc s)

/-- CALL (R72). -/
def execCall (s : State) : Host.Outcome State Fault Refusal := .next (opCall s)

/-- RET (R72). -/
def execRet (s : State) : Host.Outcome State Fault Refusal := .next (opRet s)

/-- JMPI (R82). -/
def execJmpi (s : State) : Host.Outcome State Fault Refusal := .next (opJmpi s)

/-- YIELD (R86). -/
def execYield (s : State) : Host.Outcome State Fault Refusal := .next (opYield s)

/-- DONE (R86). -/
def execDone (s : State) : Host.Outcome State Fault Refusal := .next (opDone s)

/-- MULU (R90). -/
def execMulu (s : State) : Host.Outcome State Fault Refusal := .next (opMulu s)

/-- MULS (R90). -/
def execMuls (s : State) : Host.Outcome State Fault Refusal := .next (opMuls s)

/-- MUL_COMPLETE (R90). -/
def execMulComplete (s : State) : Host.Outcome State Fault Refusal := .next (opMulComplete s)

/-- DADD (R91). -/
def execDadd (s : State) : Host.Outcome State Fault Refusal := .next (opDadd s)

/-- DADC (R91). -/
def execDadc (s : State) : Host.Outcome State Fault Refusal := .next (opDadc s)

/-- DSUB (R91). -/
def execDsub (s : State) : Host.Outcome State Fault Refusal := .next (opDsub s)

/-- DSBC (R91). -/
def execDsbc (s : State) : Host.Outcome State Fault Refusal := .next (opDsbc s)

/-- DADJ (R92). -/
def execDadj (s : State) : Host.Outcome State Fault Refusal := .next (opDadj s)

/-- CVBD (R93). -/
def execCvbd (s : State) : Host.Outcome State Fault Refusal := .next (opCvbd s)

/-- CVDB (R93). -/
def execCvdb (s : State) : Host.Outcome State Fault Refusal := .next (opCvdb s)

/-- REP (R87). -/
def execRep (s : State) : Host.Outcome State Fault Refusal := .next (opRep s)

/-- REPI (R89). -/
def execRepi (s : State) : Host.Outcome State Fault Refusal := .next (opRepi s)

/-- SEND (R94). -/
def execSend (s : State) : Host.Outcome State Fault Refusal := .next (opSend s)

/-- RECV (R95). -/
def execRecv (s : State) : Host.Outcome State Fault Refusal := .next (opRecv s)

/-- FENCE (R97). -/
def execFence (s : State) : Host.Outcome State Fault Refusal := .next (opFence s)

/-- WAITSLOT (R98). -/
def execWaitslot (s : State) : Host.Outcome State Fault Refusal := .next (opWaitslot s)

/-- GETS (R73). -/
def execGets (s : State) : Host.Outcome State Fault Refusal := .next (opGets s)

/-- PUTS (R73). -/
def execPuts (s : State) : Host.Outcome State Fault Refusal := .next (opPuts s)

end Sys2Proof.Machine
end

