-- ==== Sys2Proof/Machine/WeftRows.lean ====
section
/-! DEFINITION. Loading, committing, starting, stopping and swapping wefts (R111 to R114, R127 to R132), segments and their monitors
(R115 to R118), the selvedge exchange (R121, R408, R436), words at the Loom and at the islands (R95, R96, R121 to R123). -/

namespace Sys2Proof.Machine

open Sys2Proof

/-! ## Words -/

/-- The link that ends at a receive queue of the Loom (R61, R95). -/
def rxLink : Fin 3 → LinkNo
  | 0 => 4 | 1 => 5 | 2 => 3

/-- LOOM_DATA_RECEIVE (R95, R96): a DATA word enters its receive queue; a COMMIT_ACK has no queue. -/
def opLoomDataReceive (port : Fin 3) (crcOk : Bool) (s : State) : State :=
  let k := rxLink port
  match (s.link k).headWord with
  | none => s
  | some w =>
    if w.typ = tyCommitAck then (s.receiveWord k tyCommitAck crcOk).2
    else
      match s.receiveWord k tyData crcOk with
      | (none, s) => s
      | (some p, s) =>
        if (s.loom.rx.get port).length < 8 then s.onLoom fun l => { l with rx := l.rx.upd port fun q => q ++ [p] }
        else s.planFault (2, port.1) 1 0xA072 k.num 0xFF 0

/-- COMMIT_RECEIVE (R121): the COMMIT stands in the island, which answers COMMIT_ACK. What the answer carries is not stated: it carries the
COMMIT's own payload (DESIGN CHOICE, log entry 113). -/
def opCommitReceive (drive crcOk : Bool) (s : State) : State :=
  let k : LinkNo := if drive then 1 else 0
  match s.receiveWord k tyCommit crcOk with
  | (none, s) => s
  | (some p, s) =>
    let s := if drive then s.onDrv fun d => { d with commit := d.commit.take p } else s.onSw fun w => { w with commit := w.commit.take p }
    s.sendWord (if drive then 5 else 4) tyCommitAck p

/-- HEARTBEAT_RECEIVE (R122, R154, R222): from the Loom, or from the service core. -/
def opHeartbeatReceive (drive host crcOk : Bool) (s : State) : State :=
  s.heartbeat drive host crcOk

/-- COMMAND_DUE (R123, R330): the latched command of an object takes effect at its tick, unless its command check fails. -/
def opCommandDue (object : Nat) (checkOk : Bool) (s : State) : State :=
  match chOfNum object with
  | some c => s.switchDue c checkOk
  | none => match (List.finRange 12).find? fun c => acObject c == object with
    | some c => s.driveDue c checkOk
    | none => s

/-! ## Segments -/

/-- Do segments still run in this frame: no stop whose frame has passed (R130)? -/
def State.segmentsRun (s : State) : Bool :=
  s.weft.running.isSome && s.pwr.islandUp.get 1 && match s.weft.stopping with
    | none => true
    | some x => decide (s.frame ≤ x.frame)

/-- The activation of a task in this frame (R115). -/
def State.activeTask (s : State) (k : Fin 64) : Bool :=
  let t := s.task k
  t.open_ && match s.taskDesc k with
    | some d => decide (s.frame < t.released + d.deadline)
    | none => false

/-- SEGMENT_START (R74, R86, R89, R115, R116): at START the task's context is restored; without an open activation the segment passes
idle. -/
def opSegmentStart (s : State) : State :=
  match s.runningWeft with
  | none => s
  | some w =>
    match (w.templates.getD (s.template w) [])[s.loom.next]? with
    | none => s
    | some d =>
      if !s.segmentsRun || s.loom.seg.isSome || s.loom.selvedge || decide (s.warp % 1000 < d.start / 250) || decide (950 ≤ s.warp % 1000) then s
      else if s.weft.haltDue then s.boundary
      else
        let k : Fin 64 := Fin.ofNat 64 d.task
        let i := s.loom.next
        let s := s.onLoom fun l => { l with next := i + 1 }
        if !s.activeTask k then s
        else
          let t := s.task k
          let pc := match t.rep with
            | some (true, a) => (s.fetchIns a).after
            | _ => t.pc
          let s := s.onTask k fun t => { t with cycles := t.cycles + 4 }
          s.onLoom fun l =>
            { l with cyc := d.start + 4, pc := pc, flg := BitVec.ofNat 5 t.flg, rpc := t.rpc, wbase := t.wbase, rep := t.rep,
                     seg := some { task := k, index := i, stop := d.start + d.budget } }

/-- WCET (R118): once for each activation. -/
def opWcet (k : Fin 64) (s : State) : State :=
  match s.taskDesc k with
  | none => s
  | some d =>
    let n := (s.task k).cycles
    if (s.task k).wcetDone || decide (n ≤ d.wcet) then s
    else (s.onTask k fun t => { t with wcetDone := true }).taskFault k 0x9012 s.loom.last k.1 n

/-- DEADLINE (R118): no DONE by frame cycle 237 500 of the activation's last frame. -/
def opDeadline (k : Fin 64) (s : State) : State :=
  match s.taskDesc k with
  | none => s
  | some d =>
    let t := s.task k
    if t.open_ && decide (1000 * (t.released + d.deadline) - 50 ≤ s.warp) then (s.endActivation k).taskFault k 0x9011 0 k.1 d.deadline
    else s

/-- The tasks released at the mark of the present frame (R74, R115). -/
def State.releaseTasks (s : State) : State :=
  match s.runningWeft with
  | none => s
  | some w =>
    let f := s.frame
    s.onWeft fun x => { x with tasks := x.tasks.mapIdx fun k t =>
      match w.tasks[k.1]? with
      | none => t
      | some d =>
        if f % 1000 % d.period = d.phase then
          { open_ := true, released := f, cycles := 0, wcetDone := false, pc := d.entry, flg := 0, rpc := 0, wbase := d.winLo, rep := none }
        else t }

/-- The Loom's part of a frame mark (R69, R90, R115). -/
def State.weftMark (s : State) : State :=
  let s := s.saveContext s.loom.pc
  let s := s.onLoom fun l => { (l.settle 250000) with cyc := 0, next := 0, selvedge := false }
  let s := s.onWeft fun w => { w with sent := Tab.fill 2 0 }
  let s := s.boundary
  if s.segmentsRun then s.releaseTasks else s

/-! ## The selvedge -/

/-- ACC_CTRL's words for the weft (R436). -/
def State.accessWords (s : State) : List Nat :=
  let a := s.acc
  [a.grantSeq % 2 ^ 32, a.lastSlot + 2 ^ 16 * a.lastDist, a.lastFrame % 2 ^ 32, a.present.toNat, a.granted.toNat,
   b2n a.running + 2 * b2n s.inDelay + 4 * b2n a.lockedOut + 8 * b2n a.tamper + 16 * b2n (decide (s.stopReason = 0)) + 2 ^ 8 * a.failCount,
   s.frame % 2 ^ 32, 0]

/-- The Loom words of the frame go to the partner, and then the frames that waited for it (R400, R408). -/
def State.sendLoomData (s : State) : State :=
  let t := s.twin
  if t.pair ≠ .paired then s
  else
    let b := le 4 s.frame ++ le 2 t.words.length ++ zeros 2 ++ t.words.flatMap fun w => le 2 w.1 ++ le 4 w.2
    let f := s.frame
    let s := s.twinFrame 0x30 b false none false
    let s := (s.onTwin fun t => { t with words := [], wordsLost := 0, loomAt := some f }).flushLater
    if t.wordsLost = 0 then s else s.planRecord 8 0x6031 t.wordsLost 0 0

/-- Does a channel, or an actuator, that both wefts of a swap declare pass to the incoming one (R127, R131)? One in orphan hold stays there, which
it leaves only by adoption (R157; DEDUCED, log entry 153); the lead's own does not pass to a shadow's weft (R406). -/
def State.chanPasses (s : State) (out_ : Decl) (d : ChanDecl) : Bool :=
  out_.declares (chNum d.chan) && (s.chan d.chan).orphan.isNone && !(d.twinShared && decide (s.twin.role = .shadow))

def State.actPasses (s : State) (out_ : Decl) (d : ActDecl) : Bool :=
  out_.declares (acObject d.act) && (s.coil d.act).orphan.isNone && !(d.twinShared && decide (s.twin.role = .shadow))

/-- The ownership word of a weft: the declared objects that the weft owns (R128), with those that pass to it at H from an outgoing one (R131). -/
def State.ownershipWord (s : State) (w : Weft) (out_ : Option Decl) : Nat :=
  ((w.decl.chans.map fun d => if (s.chan d.chan).owner = .weft ∨ out_.any (fun o => s.chanPasses o d) = true then 2 ^ d.chan.1 else 0).sum) +
    ((w.decl.acts.map fun d => if (s.coil d.act).owner = .weft ∨ out_.any (fun o => s.actPasses o d) = true then 2 ^ (48 + d.act.1) else 0).sum)

/-- It is written to the ADOPT_STATUS address (R128). -/
def State.writeOwnership (s : State) (w : Weft) (out_ : Option Decl) : State :=
  match w.decl.status with
  | some a => s.writeMem a (le 8 (s.ownershipWord w out_))
  | none => s

/-- G0 to G7 and the register file at 0 (R70, R71). -/
def Loom.clearRegs (l : Loom) : Loom := { l with g := Tab.fill 8 0, file := Tab.fill 2048 0 }

/-- Is the selvedge exchange of a start due in this frame (R129 step 4)? -/
def State.startSelvedge (s : State) : Bool :=
  match s.weft.starting with
  | some x => x.evaluated && decide (s.frame + 1 = x.frame)
  | none => false

/-- SELVEDGE_COMMIT (R121, R129, R131, R408, R436). -/
def opSelvedgeCommit (s : State) : State :=
  if s.warp % 1000 < 950 ∨ s.loom.selvedge = true ∨ (s.segmentsRun = false ∧ (s.startSelvedge && s.pwr.islandUp.get 1) = false) then s
  else
    let s := s.onLoom fun l => { l with selvedge := true }
    let next := (s.frame + 1) % 2 ^ 32
    let s := s.sendWord 0 tyCommit (BitVec.ofNat 64 (next + 2 ^ 32 * (s.weft.sent.get 0 % 65536)))
    let s := s.sendWord 0 tyHeartbeat (BitVec.ofNat 64 0)
    let s := s.sendWord 1 tyCommit (BitVec.ofNat 64 (next + 2 ^ 32 * (s.weft.sent.get 1 % 65536)))
    let s := s.sendWord 1 tyHeartbeat (BitVec.ofNat 64 0)
    if s.weft.running.isNone then s
    else
      let s := s.twinDrain.sendLoomData
      let s := if s.cmd.serving then s.writeMem 0x1000EFC0 (s.accessWords.flatMap fun w => le 4 w) else s
      match s.weft.swapping with
      | none => s
      | some x =>
        if x.evaluated && decide (s.frame + 1 = x.frame) && s.weft.stopping.isNone then
          let s := s.onLoom Loom.clearRegs
          match s.weft.store.get x.target with
          | some w => s.writeOwnership w (s.runningWeft.map Weft.decl)
          | none => s
        else s

/-! ## Loading -/

/-- WEFT_LOAD_BEGIN (R111). LENGTH is judged before another session's open load (R276 steps 9 and 10). -/
def opWeftLoadBegin (r : CmdRef) (s : State) : State :=
  s.onCommand r 0x0601 fun q s =>
    let n := u32 q.params 0
    if q.params.length ≠ 4 then s.complete q .badParam []
    else if !weftLengthOk n then s.complete q .badParam []
    else if (match s.cmd.load with
        | some l => decide (l.src ≠ q.src)
        | none => false) then s.complete q .busy []
    else (s.onCmd fun c => { c with load := some { src := q.src, length := n, written := [] } }).complete q .ok (le 4 0x1C000000)

/-- How far a load is written without a gap from an offset on (R112 check 1). -/
def reachOf (l : List (Nat × Nat)) : Nat → Nat → Nat
  | 0, r => r
  | n + 1, r => match l.find? fun x => decide (x.1 ≤ r) && decide (r < x.2) with
    | some x => reachOf l n x.2
    | none => r

/-- Has every byte of a load been written? -/
def WeftLoad.full (l : WeftLoad) : Bool := decide (l.length ≤ reachOf l.written l.written.length 0)

/-- The reply of WEFT_COMMIT (R111). -/
def commitReply (reason detail id area : Nat) : List Byte := le 1 reason ++ zeros 1 ++ le 2 detail ++ le 4 id ++ le 1 area ++ zeros 3

/-- CODE and TIMETABLE at their places (R106, R113). -/
def State.placeWeft (s : State) (w : Weft) : State :=
  (s.writeMem (imemOf w.layout).1 (imageSection w.image 1)).writeMem (ttOf w.layout).1 (imageSection w.image 5)

/-- A start whose weft is discarded or replaced ends with STATE (DESIGN CHOICE, log entry 74). -/
def State.dropStart (s : State) (gone : Slot2 → Bool) : State :=
  match s.weft.starting with
  | none => s
  | some x =>
    if gone x.slot then
      let s := s.onWeft fun w => { w with starting := none, autoTry := w.autoTry || x.restart }
      match x.cmd with
      | some c => s.completeId c .state []
      | none => s
    else s

/-- A weft is installed in its area (R113). -/
def State.installWeft (s : State) (w : Weft) : State :=
  let drop := fun (x : Option Weft) => x.filter fun y => w.layout != 0 && y.layout != 0
  let s := s.dropStart fun k => k == slotOf w.layout || !(drop (s.weft.store.get k)).isSome
  let s := s.onWeft fun v => { v with store := ((v.store.mapIdx fun _ x => drop x)).put (slotOf w.layout) (some w) }
  (s.placeWeft w).record 0x9001 2 w.id w.layout w.secVersion

/-- An image goes to the shadow in WEFT frames of 1 024 bytes (R400, R410). -/
def State.sendWeftFrom (area length off : Nat) : Nat → List Byte → State → State
  | 0, _, s => s
  | n + 1, p, s =>
    if p.isEmpty then s
    else
      let rest := p.drop 1024
      let s := s.twinFrame 0x04 (le 1 area ++ zeros 3 ++ le 4 length ++ le 4 off ++ p.take 1024) true none rest.isEmpty
      State.sendWeftFrom area length (off + 1024) n rest s

def State.sendWeft (s : State) (w : Weft) : State := State.sendWeftFrom w.layout w.image.length 0 2048 w.image s

/-- A refused image (R112): record 0x9002 and the reply. -/
def State.refuseWeft (s : State) (q : Cmd) (p : List Byte) (r : Reject) : State :=
  let (d, s) := s.detailOf r
  let s := s.record 0x9002 2 r.reason d 0
  let named := decide (r.reason = 13)
  s.complete q r.st (commitReply r.reason d (if named then u32 p 32 else 0) (if named then u8 p 27 else 0))

/-- A REASON that no rule gives: a free value (log entry 58). -/
def State.freeReason (s : State) : Nat × State := let (v, s) := s.draw; (v % 256, s)

/-- WEFT_COMMIT (R111 to R113, R410). -/
def opWeftCommit (r : CmdRef) (s : State) : State :=
  s.onCommand r 0x0602 fun q s =>
    if q.params.length ≠ 0 then
      let s := s.onCmd fun c => { c with load := c.load.filter fun l => decide (l.src ≠ q.src) }
      let (v, s) := s.freeReason
      s.complete q .badParam (commitReply v 0 0 0)
    else
      match s.cmd.load.filter fun l => decide (l.src = q.src) with
      | none => s.refuseWeft q [] { reason := 1, detail := some 0, st := .state }
      | some l =>
        let s := s.onCmd fun c => { c with load := none }
        let p := Memory.readBytes s.mem 0x1C000000 l.length
        if !l.full then s.refuseWeft q p { reason := 1, detail := some 0, st := .state }
        else
          match (do checkHeader p; s.checkWeft p : Except Reject Weft) with
          | .error e => s.refuseWeft q p e
          | .ok w =>
            if s.mirrors then
              ((s.handOver q .core).sendWeft w).onTwin fun t => { t with weftWait := t.weftWait ++ [{ cmd := q.id, weft := w }] }
            else (s.installWeft w).complete q .ok (commitReply 0 0 w.id w.layout)

/-! ## Starting -/

/-- The weft that AREA names (R111). -/
def State.pickWeft (s : State) (area : Nat) : Option Slot2 :=
  let a := (s.weft.store.get 0).isSome
  let b := (s.weft.store.get 1).isSome
  match area with
  | 0 => if a && !b then some 0 else if b && !a then some 1 else none
  | 1 => if a then some 0 else none
  | _ => if b then some 1 else none

/-- The DECL offsets of records whose PROFILE_CRC or BOBBIN_CRC does not match (R110, R129 step 1). -/
def State.crcBad (s : State) (w : Weft) : List Nat :=
  (w.decl.chans.filterMap fun d =>
    if d.profile < 8 ∨ crc32c (s.profile d.profile) = d.crc then none else some d.offset) ++
  (w.decl.acts.filterMap fun d => if s.bobCrc d.bobbin = d.crc then none else some d.offset)

/-- The first hyperperiod boundary at least 3 ms after an instant, as a warp frame (R129, R131). -/
def boundaryAfter (warp : Nat) : Nat := (warp + 3000 + 999999) / 1000000 * 1000

/-- The same, counted from now. -/
def State.nextH (s : State) : Nat := boundaryAfter s.warp

/-- The frame from which both twins count a start, a stop or a swap: 4 ms after the lead's frame at its stage BEGUN, by which the lead has begun
the command or the link is down (R409, R410; DESIGN CHOICE, log entry 158); none on a module that does not mirror the command. -/
def twinBase : Option Nat → Nat
  | some f => f + 4
  | none => 0

/-- The boundary of a start or a swap: both twins compute the same one (R410). -/
def State.nextTwinH (s : State) (begun : Option Nat) : Nat := boundaryAfter (max s.warp (1000 * twinBase begun))

/-- A load address and its bytes go to DMEM. -/
def State.placeData (s : State) : Option (Nat × List Byte) → State
  | some (a, b) => s.writeMem a b
  | none => s

/-- Steps 1 and 2 of a start whose checks have passed (R55, R129); CODE and TIMETABLE stand in their memories, from the weft store where those
have lost them (R114, R506). -/
def State.beginStart (s : State) (k : Slot2) (w : Weft) (auto : Bool) (cmd begun : Option Nat) (restart twin : Bool) : State :=
  let s := s.applyStep.placeWeft w
  let s := (s.placeData w.data).placeData w.carry
  let s := s.onLoom Loom.clearRegs
  let h := s.nextTwinH begun
  s.onWeft fun x =>
    { x with starting := some { slot := k, frame := h, cmd := cmd, autostart := auto, evaluated := false, restart := restart, twin := twin } }

/-- May a weft start now (R51, R65, R129)? -/
def State.mayStart (s : State) : Bool :=
  !s.weftActive && s.weft.swapping.isNone && s.clk.xoOk && s.clk.onPll.get 1 && s.pwr.islandUp.get 1

/-- WEFT_START as either twin executes it (R129, R410): false on a refusal. `begun` is the lead's frame at stage BEGUN, when it is mirrored. -/
def State.doStart (s : State) (auto : Bool) (area : Nat) (cmd begun : Option Nat) : Bool × State :=
  match s.pickWeft area with
  | none => (false, s)
  | some k =>
    match s.weft.store.get k with
    | none => (false, s)
    | some w => if s.mayStart && (s.crcBad w).isEmpty then (true, s.beginStart k w auto cmd begun false begun.isSome) else (false, s)

/-- WEFT_START (R129). -/
def opWeftStart (r : CmdRef) (s : State) : State :=
  s.onCommand r 0x0603 fun q s =>
    let p := q.params
    if p.length ≠ 4 ∨ 1 < u8 p 0 ∨ 2 < u8 p 1 ∨ u16 p 2 ≠ 0 then s.complete q .badParam []
    else
      match (s.handOver q .core).doStart (u8 p 0 == 1) (u8 p 1) (some q.id) q.begunAt with
      | (true, s) => s
      | (false, s) => s.complete q .state []

/-- The slot a restart takes: the lowest whose AUTOSTART is set (R114). -/
def State.autoSlot (s : State) : Option Slot2 :=
  (List.finRange 2).find? fun k => match s.weft.store.get k with
    | some w => w.autostart
    | none => false

/-- A restart fails: record 0x9002 (R114). -/
def State.restartFails (s : State) (reason detail : Nat) : State :=
  (s.onWeft fun w => { w with autoTry := false }).record 0x9002 2 reason detail 1

/-- WEFT_AUTOSTART (R114): after a reset of I1, a wake or a cold start, once XO_OK = 1. -/
def opWeftAutostart (s : State) : State :=
  if !s.weft.autoTry || !s.mayStart || !s.cmd.serving then s
  else
    match s.autoSlot with
    | none => s.onWeft fun w => { w with autoTry := false }
    | some k =>
      match s.weft.store.get k with
      | none => s
      | some old =>
        match s.checkWeft old.image with
        | .error e =>
          let (d, s) := s.detailOf e
          s.restartFails e.reason d
        | .ok w =>
          match (s.crcBad w).min? with
          | some d => s.restartFails 19 d
          | none =>
            let s := s.onWeft fun x => { x with autoTry := false, store := x.store.put k (some { w with autostart := true }) }
            s.beginStart k w true none none true false

/-! ## Ownership -/

/-- What the CHANNEL record says of a channel's configuration when it passes to a weft (R164). -/
def ChCfg.declared (k : ChCfg) (d : ChanDecl) : ChCfg :=
  { k with profile := d.profile, pg := d.pg, policy := d.policy, safeValue := d.safeValue, sleepHold := d.sleepHold, twinShared := d.twinShared,
           safeAfter := d.safeAfter }

/-- What the ACTUATOR record says (R227). -/
def AcCfg.declared (k : AcCfg) (d : ActDecl) : AcCfg :=
  { k with bobbin := Fin.ofNat 16 d.bobbin, policy := d.policy, twinShared := d.twinShared }

/-- Does a declared object stay the lead twin's (R406)? -/
def State.leadsDecl (s : State) (shared : Bool) : Bool := shared && decide (s.twin.role = .shadow)

/-- A shared object of a shadow: declared, driven by the lead alone (R406). -/
def State.yieldChan (s : State) (d : ChanDecl) : State :=
  let before := s.phaseSet
  let s := (s.changeMode d.chan { mode := .off, duty := 0, phase := 0, arg := 0 }).2
  (s.onChan d.chan fun x => { x with cfg := x.cfg.declared d, owner := .none, orphan := none }).rephase before

def State.yieldAct (s : State) (d : ActDecl) : State :=
  let s := s.acRelease d.act .command
  s.onCoil d.act fun x => { x with cfg := x.cfg.declared d, owner := .none, orphan := none }

/-- A declared channel passes to the weft (R127, R154, R164). -/
def State.chanToWeft (s : State) (d : ChanDecl) : State :=
  if s.leadsDecl d.twinShared then s.yieldChan d
  else
    let before := s.phaseSet
    let t := s.now
    let s := (s.passTo d.chan .weft).onSw fun w => { w with passAt := t }
    ((s.onChan d.chan fun x => { x with cfg := x.cfg.declared d }).muteChan d.chan).rephase before

/-- A declared actuator passes to the weft (R127, R222, R227). -/
def State.actToWeft (s : State) (d : ActDecl) : State :=
  if s.leadsDecl d.twinShared then s.yieldAct d
  else
    let t := s.ticks
    let s := (s.acPassTo d.act .weft).onDrv fun x => { x with passAt := t }
    (s.onCoil d.act fun x => { x with cfg := x.cfg.declared d }).muteAct d.act

/-- The ADOPT entry of an object (R110). -/
def Decl.adoptOf (d : Decl) (object : Nat) : Option AdoptDecl := d.adopts.find? fun a => a.entry.object == object

/-- A mismatch: its island, object, actual state, and whether it refuses the start (R127, R128). -/
structure Mismatch where
  island : Nat
  object : Nat
  expect : Nat
  actual : Nat
  refuse : Bool
  deriving DecidableEq, Repr

/-- The mismatch of an object in orphan hold, none when its entry matches. -/
def Decl.judge (d : Decl) (island object actual : Nat) (hit : AdoptEntry → Bool) : Option Mismatch :=
  match d.adoptOf object with
  | none => some { island := island, object := object, expect := 0xFF, actual := actual, refuse := false }
  | some a =>
    if hit a.entry then none
    else some { island := island, object := object, expect := a.entry.expect, actual := actual, refuse := a.refuse }

def State.chanMismatch (s : State) (w : Decl) (d : ChanDecl) : Option Mismatch :=
  let x := s.chan d.chan
  if x.orphan.isNone || s.leadsDecl d.twinShared then none else w.judge 4 (chNum d.chan) x.adoptState.1 x.matches

def State.actMismatch (s : State) (w : Decl) (d : ActDecl) : Option Mismatch :=
  let k := s.acAdoptState d.act
  if (s.coil d.act).orphan.isNone || s.leadsDecl d.twinShared then none
  else w.judge 5 (acObject d.act) k fun e => e.expect == k

/-- The evaluation of the objects a weft takes (R127, R128): all that match pass, or, on a refusal, none does. -/
def State.evaluate (s : State) (w : Decl) (chans : List ChanDecl) (acts : List ActDecl) : Bool × State :=
  let bad := chans.filterMap (s.chanMismatch w) ++ acts.filterMap (s.actMismatch w)
  let goChan := chans.filter fun d => (s.chanMismatch w d).isNone
  let goAct := acts.filter fun d => (s.actMismatch w d).isNone
  let s := s.forEach bad fun m s => s.record 0x9006 m.island m.object m.expect m.actual
  if bad.any fun m => m.refuse then (false, s)
  else
    let s := s.forEach goChan fun d s => s.chanToWeft d
    (true, s.forEach goAct fun d s => s.actToWeft d)

/-- The name of a slot's weft, 0 for none. -/
def State.weftId (s : State) (k : Slot2) : Nat :=
  match s.weft.store.get k with
  | some w => w.id
  | none => 0

/-- The reply of WEFT_SWAP (R111). -/
def swapReply (reason out_ in_ frame : Nat) : List Byte := le 1 reason ++ zeros 3 ++ le 4 out_ ++ le 4 in_ ++ le 4 frame

/-- A swap ends without effect (R131). -/
def State.endSwap (s : State) (reason : Nat) : State :=
  match s.weft.swapping with
  | none => s
  | some x =>
    let out_ := match s.weft.running with
      | some k => s.weftId k
      | none => 0
    let s := s.onWeft fun w => { w with swapping := none }
    match x.cmd with
    | some c => s.completeId c .state (swapReply reason out_ (s.weftId x.target) 0)
    | none => s

/-- The evaluation of a start at H − 1 ms (R129 steps 3 and 4). -/
def State.evalStart (s : State) (x : Starting) : State :=
  match s.weft.store.get x.slot with
  | none => s
  | some w =>
    match s.evaluate w.decl w.decl.chans w.decl.acts with
    | (true, s) => (s.onWeft fun v => { v with starting := some { x with evaluated := true } }).writeOwnership w none
    | (false, s) =>
      let s := s.onWeft fun v => { v with starting := none }
      let s := if x.restart then s.restartFails 20 0 else s
      match x.cmd with
      | some c => s.completeId c .state []
      | none => s

/-- The evaluation of a swap at H − 1 ms: the objects that only the incoming weft declares (R131 step 2). -/
def State.evalSwap (s : State) (x : Swapping) : State :=
  match s.runningWeft, s.weft.store.get x.target with
  | some out_, some w =>
    let chans := w.decl.chans.filter fun d => !(out_.decl.declares (chNum d.chan))
    let acts := w.decl.acts.filter fun d => !(out_.decl.declares (acObject d.act))
    match s.evaluate w.decl chans acts with
    | (true, s) => s.onWeft fun v => { v with swapping := some { x with evaluated := true } }
    | (false, s) => s.endSwap 17
  | _, _ => s

/-- OWNERSHIP_EVALUATION (R127, R128): in the frame before H. -/
def opOwnershipEvaluation (s : State) : State :=
  match s.weft.starting with
  | some x => if x.evaluated = false ∧ s.frame + 1 = x.frame then s.evalStart x else s
  | none =>
    match s.weft.swapping with
    | some x => if x.evaluated = false ∧ s.frame + 1 = x.frame ∧ s.weft.stopping = none then s.evalSwap x else s
    | none => s

/-- WEFT_STARTED (R129 step 5): at H frame 0 begins. A start with AUTOSTART = 0 ends one still in force for that weft (DESIGN CHOICE, log entry
155). -/
def opWeftStarted (s : State) : State :=
  match s.weft.starting with
  | none => s
  | some x =>
    if x.evaluated = false ∨ s.frame < x.frame then s
    else
      let id := s.weftId x.slot
      let s := s.onWeft fun w =>
        { w with starting := none, running := some x.slot, stopping := none
                 store := w.store.upd x.slot fun y => y.map fun v => { v with autostart := x.autostart } }
      let s := (s.onTwin fun t => { t with lockWeft := if x.twin then some id else none }).weftMark
      let s := s.record 0x9003 1 id (x.frame % 2 ^ 32) (b2n x.restart)
      let s := match x.cmd with
        | some c => s.completeId c .ok (le 4 id ++ le 4 x.frame)
        | none => s
      s.nmEval

/-! ## Stopping -/

/-- WEFT_STOP as either twin executes it (R130, R410): false when no weft runs or a stop is pending. -/
def State.doStop (s : State) (toHost : Bool) (cmd begun : Option Nat) : Bool × State :=
  match s.weft.running, s.weft.stopping with
  | some k, none =>
    let f := max s.frame (twinBase begun)
    (true, s.onWeft fun w =>
      { w with stopping := some { frame := f, toHost := toHost, reason := 0, cmd := cmd }
               store := w.store.upd k fun y => y.map fun v => { v with autostart := false } })
  | _, _ => (false, s)

/-- WEFT_STOP (R130). -/
def opWeftStop (r : CmdRef) (s : State) : State :=
  s.onCommand r 0x0604 fun q s =>
    let p := q.params
    if p.length ≠ 4 ∨ 1 < u8 p 0 ∨ zeroAt p [1, 2, 3] = false then s.complete q .badParam []
    else
      match (s.handOver q .core).doStop (u8 p 0 == 1) (some q.id) q.begunAt with
      | (true, s) => s
      | (false, s) => s.complete q .state []

/-- Every object of the weft passes to the host with its present state (R130). -/
def State.weftToHost (s : State) : State :=
  let before := s.phaseSet
  let s := s.forEach (s.owned .weft) fun c s => s.passTo c .host
  let s := s.forEach (s.acOwned .weft) fun c s => s.acPassTo c .host
  s.rephase before

/-- WEFT_STOPPED (R130): at the frame mark after the frame in which the stop executed. -/
def opWeftStopped (s : State) : State :=
  match s.weft.running, s.weft.stopping with
  | some k, some x =>
    if s.frame ≤ x.frame then s
    else
      let id := s.weftId k
      let s := s.endSwap 18
      let s := s.onWeft fun w => { w with running := none, haltDue := false, stopping := none, lastRun := x.frame
                                          tasks := w.tasks.mapIdx fun _ t => { t with open_ := false } }
      let s := s.onLoom fun l => { l with seg := none, rep := none }
      let s := if x.toHost then s.weftToHost else (s.orphanEvent 2 (s.owned .weft)).acOrphanEvent 2 (s.acOwned .weft)
      let s := s.record 0x9004 1 id (x.frame % 2 ^ 32) x.reason
      let s := match x.cmd with
        | some c => s.completeId c .ok (le 4 x.frame)
        | none => s
      s.nmEval
  | _, _ => s

/-! ## Swapping -/

/-- The other slot. -/
def otherSlot (k : Slot2) : Slot2 := if k = 0 then 1 else 0

/-- May the running weft be swapped: the incoming one, or the status and REASON of the refusal (R131). -/
def State.swapCheck (s : State) : Except (Status × Nat) (Slot2 × Weft) :=
  match s.weft.running, s.runningWeft with
  | some k, some w =>
    match s.weft.store.get (otherSlot k) with
    | none => .error (.state, 16)
    | some v =>
      if w.layout = 0 ∨ s.weft.swapping.isSome = true then .error (.state, 16)
      else if w.carryTag ≠ v.carryTag then .error (.badParam, 14)
      else if s.weft.stopping.isSome then .error (.state, 18)
      else .ok (otherSlot k, v)
  | _, _ => .error (.state, 16)

/-- WEFT_SWAP as either twin executes it: step 1 (R131, R410); CODE and TIMETABLE stand in their memories (R114). -/
def State.beginSwap (s : State) (k : Slot2) (w : Weft) (cmd begun : Option Nat) : State :=
  let h := s.nextTwinH begun
  ((s.placeWeft w).placeData w.data).onWeft fun x =>
    { x with swapping := some { target := k, frame := h, cmd := cmd, evaluated := false, twin := begun.isSome } }

/-- The outgoing and the incoming WEFT_ID of a refused swap (R111); both are 0 while no weft runs (DESIGN CHOICE, log entry 122). -/
def State.swapIds (s : State) : Nat × Nat :=
  match s.weft.running with
  | some k => (s.weftId k, if (match s.runningWeft with | some w => w.layout == 0 | none => true) then 0 else s.weftId (otherSlot k))
  | none => (0, 0)

/-- WEFT_SWAP (R131). -/
def opWeftSwap (r : CmdRef) (s : State) : State :=
  s.onCommand r 0x0605 fun q s =>
    let ids := s.swapIds
    if q.params.length ≠ 0 then
      let (v, s) := s.freeReason
      s.complete q .badParam (swapReply v ids.1 ids.2 0)
    else
      match s.swapCheck with
      | .error (st, reason) => s.complete q st (swapReply reason ids.1 ids.2 0)
      | .ok (k, w) => (s.handOver q .core).beginSwap k w (some q.id) q.begunAt

/-- WEFT_SWAPPED (R131 step 4): at H the incoming weft runs frame 0. What both wefts declare passes to it without adoption, but what stands in orphan
hold (log entry 153). AUTOSTART passes when it is set; else the incoming weft keeps its own (R114). The objects that only the outgoing weft
declares enter orphan hold as at a weft stop, commander 2 in record 0x1001 (DESIGN CHOICE, log entry 154). -/
def opWeftSwapped (s : State) : State :=
  match s.weft.running, s.runningWeft, s.weft.swapping with
  | some k, some out_, some x =>
    match s.weft.store.get x.target with
    | none => s
    | some w =>
      if x.evaluated = false ∨ s.frame < x.frame ∨ s.weft.stopping.isSome = true then s
      else
        let auto := out_.autostart
        let s := s.onWeft fun v =>
          { v with running := some x.target, swapping := none, lastRun := x.frame - 1
                   store := (v.store.put k (some { out_ with autostart := false })).put x.target (some { w with autostart := auto || w.autostart })
                   tasks := v.tasks.mapIdx fun _ t => { t with open_ := false } }
        let s := (s.orphanEvent 2 ((s.owned .weft).filter fun c => !(w.decl.declares (chNum c)))).acOrphanEvent 2
          ((s.acOwned .weft).filter fun c => !(w.decl.declares (acObject c)))
        let s := s.forEach (w.decl.chans.filter fun d => decide ((s.chan d.chan).owner = .weft) || s.chanPasses out_.decl d) fun d s => s.chanToWeft d
        let s := s.forEach (w.decl.acts.filter fun d => decide ((s.coil d.act).owner = .weft) || s.actPasses out_.decl d) fun d s => s.actToWeft d
        let s := (s.onTwin fun t => { t with lockWeft := if x.twin then some w.id else none }).weftMark
        let s := s.record 0x9005 1 out_.id w.id (x.frame % 2 ^ 32)
        match x.cmd with
        | some c => s.completeId c .ok (swapReply 0 out_.id w.id x.frame)
        | none => s
  | _, _, _ => s

/-! ## Writes by the host (R113) -/

/-- The slots whose area holds an address of IMEM or timetable RAM (R106). -/
def State.slotsAt (s : State) (a : Nat) : List Slot2 :=
  (List.finRange 2).filter fun k => match s.weft.store.get k with
    | some w =>
      let i := imemOf w.layout
      let t := ttOf w.layout
      (decide (i.1 ≤ a) && decide (a < i.1 + i.2)) || (decide (t.1 ≤ a) && decide (a < t.1 + t.2))
    | none => false

/-- Does the slot run a weft, or await a swap (R113)? -/
def State.slotBusy (s : State) (k : Slot2) : Bool :=
  let w := s.weft
  w.running == some k || (w.swapping.map Swapping.target) == some k

/-- A host write to IMEM or timetable RAM discards the weft committed there; it is denied while that runs (R113). -/
def State.touchWeft (s : State) (a : Nat) : Status × State :=
  let l := s.slotsAt a
  if l.any s.slotBusy then (.denied, s)
  else (.ok, (s.onWeft fun w => { w with store := w.store.mapIdx fun k x => if l.contains k then none else x }).dropStart fun k => l.contains k)

/-! ## The meanings of the commands -/

/-- LOOM_DATA_RECEIVE (R96). -/
def execLoomDataReceive (port : Fin 3) (crcOk : Bool) (s : State) : Host.Outcome State Fault Refusal :=
  .next (opLoomDataReceive port crcOk s)

/-- SEGMENT_START (R116). -/
def execSegmentStart (s : State) : Host.Outcome State Fault Refusal := .next (opSegmentStart s)

/-- WCET (R118). -/
def execWcet (k : Fin 64) (s : State) : Host.Outcome State Fault Refusal := .next (opWcet k s)

/-- DEADLINE (R118). -/
def execDeadline (k : Fin 64) (s : State) : Host.Outcome State Fault Refusal := .next (opDeadline k s)

/-- SELVEDGE_COMMIT (R121). -/
def execSelvedgeCommit (s : State) : Host.Outcome State Fault Refusal := .next (opSelvedgeCommit s)

/-- COMMIT_RECEIVE (R121). -/
def execCommitReceive (drive crcOk : Bool) (s : State) : Host.Outcome State Fault Refusal := .next (opCommitReceive drive crcOk s)

/-- HEARTBEAT_RECEIVE (R154). -/
def execHeartbeatReceive (drive host crcOk : Bool) (s : State) : Host.Outcome State Fault Refusal :=
  .next (opHeartbeatReceive drive host crcOk s)

/-- COMMAND_DUE (R123). -/
def execCommandDue (object : Nat) (checkOk : Bool) (s : State) : Host.Outcome State Fault Refusal := .next (opCommandDue object checkOk s)

/-- WEFT_LOAD_BEGIN (R111). -/
def execWeftLoadBegin (r : CmdRef) (s : State) : Host.Outcome State Fault Refusal := .next (opWeftLoadBegin r s)

/-- WEFT_COMMIT (R112). -/
def execWeftCommit (r : CmdRef) (s : State) : Host.Outcome State Fault Refusal := .next (opWeftCommit r s)

/-- WEFT_START (R129). -/
def execWeftStart (r : CmdRef) (s : State) : Host.Outcome State Fault Refusal := .next (opWeftStart r s)

/-- WEFT_STOP (R130). -/
def execWeftStop (r : CmdRef) (s : State) : Host.Outcome State Fault Refusal := .next (opWeftStop r s)

/-- WEFT_SWAP (R131). -/
def execWeftSwap (r : CmdRef) (s : State) : Host.Outcome State Fault Refusal := .next (opWeftSwap r s)

/-- WEFT_AUTOSTART (R114). -/
def execWeftAutostart (s : State) : Host.Outcome State Fault Refusal := .next (opWeftAutostart s)

/-- OWNERSHIP_EVALUATION (R128). -/
def execOwnershipEvaluation (s : State) : Host.Outcome State Fault Refusal := .next (opOwnershipEvaluation s)

/-- WEFT_STARTED (R129). -/
def execWeftStarted (s : State) : Host.Outcome State Fault Refusal := .next (opWeftStarted s)

/-- WEFT_STOPPED (R130). -/
def execWeftStopped (s : State) : Host.Outcome State Fault Refusal := .next (opWeftStopped s)

/-- WEFT_SWAPPED (R131). -/
def execWeftSwapped (s : State) : Host.Outcome State Fault Refusal := .next (opWeftSwapped s)

end Sys2Proof.Machine
end

