-- ==== Sys2Proof/Machine/IdentOps.lean ====
section
/-! DEFINITION. The attestation report (R459, R460) and lookups in the key store (R451, R454). -/

namespace Sys2Proof.Machine

open Sys2Proof

/-- UPDATE_STATE (R453). -/
def Ident.updateState (k : Ident) : Nat :=
  match k.journal with
  | none => 0
  | some j => (if k.waiting then 2 else 1) + 2 ^ 8 * (j.done % 256)

/-- FW_VERSION and FW_SECURITY_VERSION of the running image; 0 in loader mode (R453). -/
def Ident.runVersion (k : Ident) : Nat := match k.running with | some r => r.version | none => 0
def Ident.runSecurity (k : Ident) : Nat := match k.running with | some r => r.security | none => 0

/-- SHA-256 of bytes 0 to LENGTH − 73 of a committed weft, 0 for none (R459). -/
def weftDigest : Option Weft → List Byte
  | some w => padTo 32 (Config.sha256 (w.image.take (w.image.length - 72)))
  | none => zeros 32

/-- The PCC key ID, 0 when unpaired (R437). -/
def Access.pccId (a : Access) : List Byte := padTo 8 (a.pcc.getD [])

/-- REKEY (R441). -/
def Access.rekey (a : Access) : Bool := decide (rekeyAt ≤ a.counter)

/-- SHA-256 of bytes 0 to LENGTH − 65 of an image (R459, R468). -/
def imageDigest (p : List Byte) : List Byte := Config.sha256 (p.take (p.length - 64))

/-- The twin protocol version of the firmware (R403, R461). -/
def Ident.twinProto (k : Ident) : Nat := u16 k.stored.header 24

/-- REPORT (R459). -/
def State.attestReport (s : State) (nonce : List Byte) : List Byte :=
  let k := s.id
  let w := s.weft.store
  let paired := decide (s.twin.pair = .paired) || decide (s.twin.pair = .broken)
  le 2 1 ++ zeros 2 ++ le 4 0x4812 ++ padTo 8 Config.serial ++ padTo 16 nonce ++ le 4 k.runVersion ++ le 4 k.runSecurity ++
    le 4 Config.loaderVersion ++ le 4 k.arb ++ le 4 k.floor ++ padTo 32 (imageDigest k.stored.bytes) ++
    le 4 (s.weftId 0) ++ le 4 (s.weftId 1) ++ weftDigest (w.get 0) ++ weftDigest (w.get 1) ++
    padTo 32 ((k.keysOf 1).flatMap fun p => padTo 8 (pubId p)) ++
    le 4 (if s.acc.pcc.isSome then s.acc.relEpoch else 0) ++ s.acc.pccId ++ le 1 s.twin.role.num ++ le 1 s.twin.pair.num ++ zeros 2 ++
    (if paired then padTo 8 s.twin.partner else zeros 8) ++
    le 4 (b2n s.acc.lockedOut + 2 * b2n s.acc.tamper + 4 * b2n s.flt.forceSafe + 8 * b2n s.acc.rekey) ++
    le 4 s.rcd.opSeconds ++ le 4 (s.rcd.cycles % 2 ^ 24) ++ le 8 s.warp

/-- The reply of ATTEST (R459). -/
def State.attestReply (s : State) (nonce : List Byte) : List Byte :=
  let r := s.attestReport nonce
  r ++ le 2 Config.deviceCert.length ++ le 2 Config.deviceCaCert.length ++ Config.deviceCert ++ Config.deviceCaCert ++
    padTo 64 (Config.deviceSign r)

/-- Does a verifier that sent a nonce accept a report (R452, R460)? -/
def attestOk (p nonce : List Byte) : Bool :=
  let dl := u16 p 232
  let cl := u16 p 234
  let dev := slice p 236 dl
  let ca := slice p (236 + dl) cl
  decide (1 ≤ dl) && decide (dl ≤ 512) && decide (1 ≤ cl) && decide (cl ≤ 512) && p.length == 236 + dl + cl + 64 && Config.certChains ca Config.rootPub && Config.certChains dev (Config.certKey ca) &&
    Config.certSubject dev == Config.serialText (slice p 8 8) && Config.ecdsaVerify (Config.certKey dev) (p.take 232) (p.drop (p.length - 64)) && slice p 16 16 == nonce && u32 p 4 == 0x4812

/-- The installed site owner key that signed a certificate, if any; its subject key must be a P-256 key (R454). -/
def Ident.signer (k : Ident) (cert : List Byte) : Option (List Byte) :=
  if Config.onCurve (Config.certKey cert) then (k.keysOf 1).find? fun p => Config.certChains cert p else none

end Sys2Proof.Machine
end

