-- ==== Sys2Proof/Machine/TwinLink.lean ====
section
/-! DEFINITION. The twin link: reception of frames, pairing, the mirror on the shadow, acknowledgements, the loss of the link
(R397 to R400, R402, R403, R405, R406, R408 to R410, R416). -/

namespace Sys2Proof.Machine

open Sys2Proof

/-! ## Frames in -/

/-- The LENs of a TYPE (R399, R400): least, greatest and step; none for an unknown TYPE. -/
def twinLen : Nat → Option (Nat × Nat × Nat)
  | 0x01 => some (44, 44, 1) | 0x02 => some (302, 1324, 1) | 0x03 => some (12, 12, 1) | 0x04 => some (13, 1036, 1)
  | 0x10 => some (192, 192, 1) | 0x20 => some (8, 1600, 1) | 0x21 => some (20, 1592, 12) | 0x30 => some (8, 1544, 6)
  | 0x40 => some (8, 8, 1) | 0x7E => some (4, 4, 1) | 0x7F => some (0, 0, 1)
  | _ => none

/-- The next EPOCH (R403, R516). -/
def nextEpoch (e : Nat) : Nat := if (e + 1) % 2 ^ 32 = 0 then 1 else (e + 1) % 2 ^ 32

/-- Is the EPOCH of a frame its own after pairing (R398)? A frame of a new exchange carries 0. Until a handover is complete a frame of the EPOCH
before, such as a repeated go, passes too (DESIGN CHOICE, log entry 159). -/
def Twin.epochOk (t : Twin) (e : Nat) : Bool :=
  !t.agreed || e == t.epoch || (decide (t.pair = .pairing) && e == 0) || (t.handover.any (fun h => h.gone) && nextEpoch e == t.epoch)

/-- Does a frame pass every check of R398? -/
def Twin.frameOk (t : Twin) (f : List Byte) : Bool :=
  let n := u16 f 2
  f.length == 16 + n && u32 f (12 + n) == crc32c (f.take (12 + n)) && t.epochOk (u32 f 4) &&
    match twinLen (u8 f 0) with
    | none => false
    | some (lo, hi, k) => decide (lo ≤ n) && decide (n ≤ hi) && (n - lo) % k == 0

/-- A frame received: its payload when the link is up, the frame is valid and of the TYPE (R397, R398). While the link is down its valid frames are
counted. -/
def State.twinTake (s : State) (typ : Nat) (f : List Byte) : Option (List Byte) × State :=
  if !s.clk.i8Run then (none, s)
  else if !s.twin.frameOk f then (none, s.onTwin fun t => { t with linkErrors := satAdd 0xFFFF t.linkErrors 1 })
  else if !s.twin.linkUp then (none, s.onTwin fun t => { t with valid := t.valid + 1, peerRole := if u8 f 0 = 0x10 then u8 f 20 else t.peerRole })
  else if u8 f 0 ≠ typ then (none, s)
  else
    let t := s.now
    (some (slice f 12 (u16 f 2)), s.onTwin fun k => { k with heardAt := t, released := false })

/-- The ACK that answers a frame with ACK_REQ = 1 (R398). -/
def State.twinAnswer (s : State) (f : List Byte) : State :=
  if bit (u8 f 1) 0 then s.twinFrame 0x7E (le 4 (u32 f 8)) false none false else s

/-! ## Shared objects -/

def State.sharedChans (s : State) : List ChNo := allCh.filter fun c => (s.chan c).cfg.twinShared
def State.sharedActs (s : State) : List AcNo := allAc.filter fun c => (s.coil c).cfg.twinShared

/-- The shared channels turn OFF and the shared actuators are released; the lead owns them (R402, R406, R417). -/
def State.dropShared (s : State) : State :=
  let s := s.forEach s.sharedChans fun c s =>
    let before := s.phaseSet
    ((s.changeMode c { mode := .off, duty := 0, phase := 0, arg := 0 }).2.onChan c fun x =>
      { x with owner := .none, orphan := none, nextReg := none, latched := none }).rephase before
  s.forEach s.sharedActs fun c s =>
    (s.acRelease c .command).onCoil c fun x => { x with owner := .none, orphan := none, nextReg := none, latched := none }

/-- What a change of ROLE lets stop or start: the off-state evaluations of shared channels, polling, the release stream (R180, R406, R430, R438). -/
def State.roleChanged (s : State) : State := ((s.offAnew fun c => (s.chan c).cfg.twinShared).radioEval).relStop.relStart

/-- A HANDOVER frame (R400). -/
def State.handoverFrame (s : State) (action frame : Nat) : State := s.twinFrame 0x40 (le 1 action ++ zeros 3 ++ le 4 frame) true none false

/-- The module drives the token and is lead (R401). -/
def State.seize (s : State) (pair : PairState) : State :=
  (s.onTwin fun t => { t with role := .lead, driven := true, lineLow := true, pair := pair, holdEnd := none, released := false }).roleChanged

/-! ## Pairing -/

/-- RUNNING (R399): a weft runs, or any object is owned. -/
def State.twinRunning (s : State) : Bool :=
  s.weft.running.isSome || allCh.any (fun c => decide ((s.chan c).owner ≠ .none)) || allAc.any fun c => decide ((s.coil c).owner ≠ .none)

/-- CODE_CHECK (R399). -/
def codeCheck (code nonce : List Byte) : List Byte := padTo 16 (Config.sha256 (code ++ nonce))

/-- The exchange starts with HELLO over a fresh NONCE (R399, R400, R403). -/
def State.startPairing (s : State) : State :=
  let (n, s) := State.drawBytes 16 s
  let s := s.onTwin fun t =>
    { t with pair := .pairing, nonce := n, hello := none, attested := false, agreed := false, lockAt := none, retryAt := none, weftRx := none }
  let b := le 1 (b2n s.twin.side) ++ le 1 (b2n s.twinRunning) ++ le 2 s.id.twinProto ++ padTo 8 Config.serial ++ n ++ codeCheck s.twin.code n
  s.twinFrame 0x01 b true none false

/-- May a pairing start (R403)? -/
def State.mayPair (s : State) : Bool :=
  s.twin.en && s.twin.linkUp && decide (s.twin.pair ≠ .paired) && s.twin.holdEnd.isNone

/-- A pairing ends refused; it is tried again after 10 s (R403). -/
def State.endPairing (s : State) : State :=
  let t := s.now
  s.onTwin fun k =>
    { k with pair := if k.driven then .lone else .waiting, hello := none, attested := false, agreed := false, lockAt := none,
             retryAt := some (t + 10000000) }

/-- This module refuses the pairing (R403): record 0x6002. -/
def State.refusePairing (s : State) (reason : Nat) : State := (s.record 0x6002 8 reason (u32 s.twin.partner 0) 0).endPairing

/-- TWIN_LINK_UP (R397, R403): both lanes are aligned and 3 valid frames have come. A link that is up shows the cable. -/
def opTwinLinkUp (s : State) : State :=
  if s.twin.linkUp || !s.clk.i8Run || decide (s.twin.valid < 3) then s
  else
    let t := s.now
    let s := s.onTwin fun k => { k with linkUp := true, heardAt := t, released := false, cable := true, valid := 0 }
    if s.mayPair then s.startPairing else s

/-- PAIRING_RETRY (R403). -/
def opPairingRetry (s : State) : State :=
  match s.twin.retryAt with
  | none => s
  | some t => if s.now < t ∨ s.mayPair = false then s else s.startPairing

/-- The reason a HELLO refuses the pairing, in the order of the table (R403). -/
def State.helloReason (s : State) (h : Hello) : Option Nat :=
  if h.check ≠ codeCheck s.twin.code h.nonce then some 1
  else if h.side = s.twin.side then some 2
  else if h.proto ≠ s.id.twinProto then some 3
  else if h.running && s.twinRunning then some 5
  else none

/-- TWIN_HELLO (R403 steps 1 and 2). -/
def opTwinHello (f : List Byte) (s : State) : State :=
  match s.twinTake 0x01 f with
  | (none, s) => s
  | (some p, s) =>
    let s := s.twinAnswer f
    if !s.mayPair then s
    else
      let s := if s.twin.pair ≠ .pairing ∨ s.twin.hello.isSome then s.startPairing else s
      let h : Hello := { side := u8 p 0 == 1, running := u8 p 1 == 1, proto := u16 p 2, serial := slice p 4 8, nonce := slice p 12 16,
                         check := slice p 28 16 }
      let s := s.onTwin fun t => { t with partner := h.serial }
      match s.helloReason h with
      | some r => s.refusePairing r
      | none => (s.onTwin fun t => { t with hello := some h }).twinFrame 0x02 (s.attestReply h.nonce) true none false

/-- Does this module become lead (R403 step 3)? The partner is LONE when its HEARTBEAT says lead, or when it holds the line. -/
def State.becomesLead (s : State) (h : Hello) : Bool :=
  let t := s.twin
  let theirs := decide (t.peerRole = 1) || (t.lineLow && !t.driven)
  s.twinRunning || (!h.running && (if t.driven = theirs then !t.side else t.driven))

/-- Steps 3 and 4 of R403 on the lead: PAIRED, then the committed wefts, the running one first. -/
def State.leadPairing (s : State) : State :=
  let e := nextEpoch s.twin.epoch
  let s := s.seize .pairing
  let s := s.onTwin fun t => { t with epoch := e }
  let s := s.twinFrame 0x03 (le 4 e ++ padTo 8 Config.serial) true none false
  let s := s.onTwin fun t => { t with agreed := true, msn := 0, acked := 0, sentCfg := [] }
  let first := match s.weft.running with
    | some k => [k]
    | none => []
  s.forEach (first ++ (List.finRange 2).filter fun k => !first.contains k) fun k s =>
    match s.weft.store.get k with
    | some w => s.sendWeft w
    | none => s

/-- TWIN_ATTEST (R403 steps 2 to 4). -/
def opTwinAttest (f : List Byte) (s : State) : State :=
  match s.twinTake 0x02 f with
  | (none, s) => s
  | (some p, s) =>
    let s := s.twinAnswer f
    match s.twin.hello with
    | none => s
    | some h =>
      if s.twin.pair ≠ .pairing ∨ s.twin.attested = true then s
      else if !attestOk p s.twin.nonce then s.refusePairing 4
      else
        let s := s.onTwin fun t => { t with attested := true }
        if s.becomesLead h then s.leadPairing else s

/-- TWIN_PAIRED (R403 step 3): the new EPOCH; this module is shadow. One that has refused the pairing tells the lead so by HANDOVER refuse, the
one frame of R400 that refuses (DESIGN CHOICE, log entry 69). -/
def opTwinPaired (f : List Byte) (s : State) : State :=
  match s.twinTake 0x03 f with
  | (none, s) => s
  | (some p, s) =>
    let leads := match s.twin.hello with
      | some h => s.becomesLead h
      | none => false
    if s.twin.pair ≠ .pairing ∨ s.twin.attested = false ∨ leads = true then (s.handoverFrame 2 0).twinAnswer f
    else
      let s := s.twinAnswer f
      let s := s.onTwin fun t =>
        { t with epoch := u32 p 0, role := .shadow, driven := false, lineLow := true, agreed := true, stored := 0, msnSeen := 0, mirror := []
                 groups := Tab.fill 16 MirrorGroup.reset }
      s.dropShared.roleChanged

/-- The image under receipt, assembled from its segments as far as they reach. -/
def assemble (parts : List (Nat × List Byte)) : Nat → List Byte → List Byte
  | 0, acc => acc
  | n + 1, acc => match parts.find? fun x => x.1 == acc.length with
    | some x => assemble parts n (acc ++ x.2)
    | none => acc

/-- TWIN_WEFT (R403 step 4, R410): a segment; the last one is acknowledged once the weft is committed, or once HANDOVER refuse has told the lead
that a check has failed (DESIGN CHOICE, log entry 69). `leadRuns` tells that the lead runs
this weft while it pairs, which no field of the frames tells (log entry 63). -/
def opTwinWeft (f : List Byte) (leadRuns : Bool) (s : State) : State :=
  match s.twinTake 0x04 f with
  | (none, s) => s
  | (some p, s) =>
    if s.twin.role ≠ .shadow ∨ s.twin.agreed = false then s.twinAnswer f
    else
      let rx := match s.twin.weftRx with
        | some r => if r.area = u8 p 0 ∧ r.length = u32 p 4 ∧ u32 p 8 ≠ 0 then r else { area := u8 p 0, length := u32 p 4, parts := [] }
        | none => { area := u8 p 0, length := u32 p 4, parts := [] }
      let rx := { rx with parts := rx.parts ++ [(u32 p 8, p.drop 12)] }
      let image := assemble rx.parts rx.parts.length []
      if image.length < rx.length then (s.onTwin fun t => { t with weftRx := some rx }).twinAnswer f
      else
        let s := s.onTwin fun t => { t with weftRx := none }
        match (do checkHeader image; s.checkWeft image : Except Reject Weft) with
        | .error e =>
          let (d, s) := s.detailOf e
          let s := ((s.record 0x9002 2 e.reason d 0).handoverFrame 2 0).twinAnswer f
          if s.twin.pair = .pairing then s.refusePairing 6 else s
        | .ok w =>
          let s := (s.installWeft w).twinAnswer f
          if leadRuns && decide (s.twin.pair = .pairing) && s.mayStart && (s.crcBad w).isEmpty then s.beginStart (slotOf w.layout) w false none none false true
          else s

/-! ## Lockstep -/

/-- The lead state of the module (R400, R406). -/
def State.leadState (s : State) : List Byte :=
  ((allCh.drop 8).take 16).flatMap (fun c =>
    let x := s.chan c
    le 1 x.mode.num ++
      le 1 (x.owner.num + 4 * b2n x.orphan.isSome + 8 * b2n (decide (x.prot = .normal)) + 16 * b2n x.cfg.twinShared) ++
      le 2 x.duty ++ le 2 x.phase ++ zeros 2) ++
  allAc.flatMap fun c =>
    let x := s.coil c
    le 1 (s.phase c).num ++ le 1 (x.owner.num + 4 * b2n x.orphan.isSome + 16 * b2n x.cfg.twinShared) ++ zeros 2

/-- HEARTBEAT at a frame mark, behind what waited for a LOOM_DATA that did not come (R400, R405); it also is what the partner's link hears to come up (R397). -/
def State.twinHeartbeat (s : State) : State :=
  let s := s.flushLater
  let t := s.twin
  if s.pwr.islandUp.get 8 && s.clk.i8Run && t.en then
    let m := if t.role = .shadow then t.stored else t.acked
    let gone := decide (t.role = .lead) && !t.driven
    s.twinFrame 0x10 (le 8 s.frame ++ le 1 t.role.num ++ le 1 (b2n gone) ++ zeros 2 ++ le 4 m ++ s.leadState) false none false
  else s

/-- TWIN_HEARTBEAT (R405, R406): the lead's state; at pairing the shadow's warp steps to the lead's frame. `ofs` is the measured offset of
the frame marks in ns. -/
def opTwinHeartbeat (f : List Byte) (ofs : Int) (s : State) : State :=
  match s.twinTake 0x10 f with
  | (none, s) => s
  | (some p, s) =>
    let s := (s.twinAnswer f).onTwin fun t => { t with released := u8 p 9 == 1, peerRole := u8 p 8 }
    if u8 p 8 ≠ 1 ∨ s.twin.role ≠ .shadow ∨ s.twin.agreed = false then s
    else
      let now := s.now
      let s := s.onTwin fun t => { t with lead := p.drop 16, warpOfs := ofs, beatAt := now, leadFrame := u64 p 0 }
      let d : Warp := BitVec.ofNat 64 (1000 * u64 p 0) - BitVec.ofNat 64 (1000 * s.frame)
      if s.twin.pair = .pairing ∧ d ≠ 0 ∧ s.weftActive = false then
        (s.onWt fun w => { w with warp := w.warp + d, loc := w.loc.mapIdx fun _ x => x + d }).rebase.record 0xA050 3 (d.toNat % 2 ^ 32) (d.toNat / 2 ^ 32) 0
      else s

/-- TWIN_LOOM_DATA (R408): the partner's words go to the twin mailbox, then the frame. -/
def opTwinLoomData (f : List Byte) (s : State) : State :=
  match s.twinTake 0x30 f with
  | (none, s) => s
  | (some p, s) =>
    let s := s.twinAnswer f
    let n := u16 p 4
    if s.twin.pair ≠ .paired ∨ p.length ≠ 8 + 6 * n then s
    else
      let s := s.forEach (List.range n) fun i s =>
        let k := u16 p (8 + 6 * i)
        if k < 1024 then s.writeMem (0x1000F000 + 4 * k) (slice p (10 + 6 * i) 4) else s
      s.writeMem 0x1000EFFC (slice p 0 4)

/-! ## The mirror on the shadow -/

/-- The shadow is paired from the first mirror stage on (R403 step 5). -/
def State.shadowPaired (s : State) : State :=
  if s.twin.pair = .pairing then
    let now := s.now
    (s.onTwin fun t => { t with pair := .paired, beatAt := now }).record 0x6001 8 s.twin.epoch (u32 s.twin.partner 0) 2
  else s

/-- The reply cache of a mirrored group (R290, R409). -/
def MirrorGroup.note (g : MirrorGroup) (e : Cached) : MirrorGroup :=
  let l := g.cache.filter fun x => x.tag != e.tag
  { g with cache := (l ++ [e]).drop (l.length + 1 - 64) }

/-- Opcode and parameters of a packet (R272). -/
def packetOpcode (b : List Byte) : Nat := u16 b 2
def packetParams (b : List Byte) : List Byte := slice b 16 (u16 b 12)

/-- A mirrored WEFT_START, WEFT_STOP or WEFT_SWAP acts on the shadow as it begins, at the boundary or frame that the lead computes too (R410). -/
def State.shadowExecute (s : State) (b : List Byte) : State :=
  let p := packetParams b
  let begun := some s.twin.leadFrame
  match packetOpcode b with
  | 0x0603 => (s.doStart (u8 p 0 == 1) (u8 p 1) none begun).2
  | 0x0604 => (s.doStop (u8 p 0 == 1) none begun).2
  | 0x0605 => match s.swapCheck with
    | .ok (k, w) => s.beginSwap k w none begun
    | .error _ => s
  | _ => s

/-- Is an entry the one a stage names? -/
def Mirrored.is (e : Mirrored) (g : Grp) (tag : Nat) : Bool := decide (e.group = g) && e.tag == tag && !e.failed

/-- Stage TAKEN (R400, R409): a grouped command also moves its group's EXPECTED on, and binds a free group. -/
def State.storeTaken (s : State) (g : Grp) (tag : Nat) (p : List Byte) : State :=
  let body := p.drop 16
  s.onTwin fun t =>
    { t with groups := t.groups.upd g fun m =>
               if u8 body 6 = 0xFF then m
               else { m with expected := (tag + 1) % 65536, holder := if m.holder = zeros 8 then slice p 8 8 else m.holder }
             mirror := t.mirror ++ [{ group := g, tag := tag, keyId := slice p 8 8, body := p.drop 16, begun := false, failed := false }] }

/-- Stage BEGUN. -/
def State.storeBegun (s : State) (g : Grp) (tag : Nat) : State :=
  match s.twin.mirror.find? fun e => e.is g tag with
  | none => s
  | some e =>
    (s.onTwin fun t => { t with mirror := t.mirror.map fun x => if x.is g tag then { x with begun := true } else x }).shadowExecute e.body

/-- What the end of a GROUP_RESUME or GROUP_ABORT does to the entries of its group (R288). -/
def mirrorAfter (opcode status : Nat) (g : Grp) (l : List Mirrored) : List Mirrored :=
  if status ≠ 0 then l
  else if opcode = 0x0E01 then l.map fun e => if e.group = g ∧ e.failed = true then { e with begun := false, failed := false } else e
  else if opcode = 0x0E02 then l.filter fun e => decide (e.group ≠ g)
  else l

/-- The statuses that stall a group, by code (R273). -/
def stallCodes : List Nat := [0x04, 0x05, 0x06, 0x07, 0x08, 0x09, 0x0A, 0x0E, 0x10, 0x11]

/-- Stage DONE. -/
def State.storeDone (s : State) (g : Grp) (tag : Nat) (p : List Byte) : State :=
  let st := u8 p 8
  let b := p.drop 20
  let entry := s.twin.mirror.find? fun e => e.is g tag
  let opcode : Nat := match entry with
    | some e => packetOpcode e.body
    | none => 0
  let grouped : Bool := match entry with
    | some e => u8 e.body 6 != 0xFF
    | none => false
  let plain := !b.isEmpty && packetOpcode b != 0x0E80
  let c : Cached := if plain then { tag := tag, status := st, flags := u8 b 1, params := packetParams b, known := true }
    else { tag := tag, status := Status.accepted.code, flags := flagsEnd, params := [], known := true }
  s.onTwin fun t =>
    let m := t.groups.get g
    let m := { m with expected := u16 p 10, causes := u8 p 9, holder := slice p 12 8 }
    let keep := grouped && stallCodes.contains st
    let l := if keep then t.mirror.map fun e => if e.is g tag then { e with failed := true } else e else t.mirror.filter fun e => !e.is g tag
    { t with groups := t.groups.put g (if grouped then m.note c else m), mirror := mirrorAfter opcode st g l }

/-- The stall of every group (R409). -/
def State.storeStall (s : State) (causes : Nat) : State :=
  s.onTwin fun t => { t with groups := t.groups.mapIdx fun _ m => { m with causes := m.causes ||| causes } }

/-- A stage as stored by the shadow. -/
def State.storeStage (s : State) (p : List Byte) : State :=
  if h : u8 p 5 < 16 then
    let g : Grp := ⟨u8 p 5, h⟩
    match u8 p 4 with
    | 0 => s.storeTaken g (u16 p 6) p
    | 1 => s.storeBegun g (u16 p 6)
    | 2 => s.storeDone g (u16 p 6) p
    | _ => s
  else if u8 p 4 = 2 then s.storeStall (u8 p 9)
  else s

/-- A stage in the order of the MSN: the next is stored, one stored before is acknowledged again, any other is discarded (R409, R515). -/
def State.inOrder (s : State) (f p : List Byte) (store : State → State) : State :=
  if (s.twin.role ≠ .shadow ∧ s.twin.handedOver = false) ∨ s.twin.agreed = false ∨ (s.twin.pair ≠ .pairing ∧ s.twin.pair ≠ .paired) then s
  else
    let m := u32 p 0
    if m = (s.twin.stored + 1) % 2 ^ 32 then
      ((store s.shadowPaired).onTwin fun t => { t with stored := m, msnSeen := if t.msnSeen = t.stored then m else t.msnSeen }).twinAnswer f
    else if (s.twin.stored + 2 ^ 32 - m) % 2 ^ 32 < 2 ^ 31 then s.twinAnswer f
    else s.onTwin fun t => { t with msnSeen := m }

/-- TWIN_MIRROR (R409). -/
def opTwinMirror (f : List Byte) (s : State) : State :=
  match s.twinTake 0x20 f with
  | (none, s) => s
  | (some p, s) => s.inOrder f p fun s => s.storeStage p

/-- A piece of a mirrored token slot (R400, R446). -/
def Token.piece (t : Option Token) (i v opSec : Nat) : Option Token :=
  let x := t.getD { id := 0, key := zeros 16, opSec := opSec }
  match i with
  | 0 => if t.isNone && v == 0 then none else some { x with id := x.id / 2 ^ 32 * 2 ^ 32 + v }
  | 1 => if t.isNone && v == 0 then none else some { x with id := x.id % 2 ^ 32 + v * 2 ^ 32 }
  | 6 => if v = 0 then none else some x
  | 7 => t
  | _ => if t.isNone && v == 0 then none else some { x with key := x.key.take (4 * (i - 2)) ++ le 4 v ++ x.key.drop (4 * (i - 2) + 4) }

/-- A value mirrored to a key-store item (R400, R446). -/
def State.writeItem (s : State) (off v : Nat) : State :=
  let sec := s.rcd.opSeconds
  if h : off < 0x400 then
    s.onAcc fun a => { a with tokens := a.tokens.upd ⟨off / 32, by omega⟩ fun t => Token.piece t (off % 32 / 4) v sec }
  else if off = 0x400 then s.onAcc fun a => { a with lockedOut := bit v 0, tamper := bit v 1 }
  else if off = 0x404 then
    s.onAcc fun a => { a with leaseOk := decide (v ≠ 0), leaseFrom := (v : Int) + (sec : Nat) - (3600 * a.cfg.leaseTime : Nat) }
  else s

/-- A mirrored value for a channel's configuration; one outside its range is refused (R410, R165). -/
def State.mirrorChan (s : State) (c : ChNo) (off v : Nat) : State :=
  match (s.chan c).cfg.write c off v with
  | some k => s.configure c k
  | none => s.chDenied c

/-- A mirrored value for an actuator's configuration, which clears what was learned (R209, R227, R410); the shadow drives no shared one (R226). -/
def State.mirrorAct (s : State) (c : AcNo) (off v : Nat) : State :=
  match (s.coil c).cfg.write (s.coil (acOther c)).cfg.iHold off v with
  | some k => (s.onCoil c fun x => { x.unlearn with cfg := k }).muteAct c
  | none => s.acDenied c

/-- A mirrored value goes to the shadow's register, whatever the ownership refusals (R410). -/
def State.writeMirrored (s : State) (a v : Nat) : State :=
  if h : 0x20000000 ≤ a ∧ a < 0x20003000 then
    s.mirrorChan ⟨(a - 0x20000000) / 0x100, by omega⟩ (a % 0x100) v
  else if 0x20003010 ≤ a ∧ a < 0x20003020 ∧ a % 4 = 0 then (s.writePg (Fin.ofNat 4 ((a - 0x20003010) / 4)) v).2
  else if 0x21000100 ≤ a ∧ a < 0x21000200 then s.writeMem a (le 4 v)
  else if h : 0x22000000 ≤ a ∧ a < 0x22000C00 then
    s.mirrorAct ⟨(a - 0x22000000) / 0x100, by omega⟩ (a % 0x100) v
  else if 0x22100100 ≤ a ∧ a < 0x22101000 then
    let s := s.writeMem a (le 4 v)
    if v = 0 then s else s.onDrv fun d => { d with bobValid := d.bobValid ||| 2 ^ ((a - 0x22100000) / 0x100) }
  else if 0xF0000000 ≤ a then s.writeItem (a - 0xF0000000) v
  else s

/-- The records of a token table that a frame has changed (R426, R427; chapter 20 step 18). -/
def State.tokenChanges (s : State) (before : Tab (Option Token) 32) : State :=
  s.forEach (List.finRange 32) fun i s =>
    match before.get i, s.acc.tokens.get i with
    | none, some t =>
      (s.onAcc fun a => { a with deferred := a.deferred &&& ~~~(BitVec.ofNat 32 (2 ^ i.1)) }).record 0x7010 2 i.1 (t.id % 2 ^ 32) (t.id / 2 ^ 32)
    | some t, none =>
      (s.onAcc fun a => { a with present := a.present &&& ~~~(BitVec.ofNat 32 (2 ^ i.1)), granted := a.granted &&& ~~~(BitVec.ofNat 32 (2 ^ i.1)) }).record
        0x7011 2 i.1 (t.id % 2 ^ 32) (t.id / 2 ^ 32)
    | _, _ => s

/-- The records of the access flags that a frame has changed: LOCKED_OUT and LEASE_OK (R445, R448). -/
def State.flagChanges (s : State) (locked leased : Bool) : State :=
  let s := if s.acc.lockedOut = locked then s else s.record 0x7023 2 (b2n s.acc.lockedOut) 0 0
  if s.acc.leaseOk = leased then s else s.record 0x7025 2 (if s.acc.leaseOk then 0 else 1) s.acc.cfg.leaseTime 0

/-- TWIN_CONFIG_FRAME (R410): the entries whose command check holds are written. -/
def opTwinConfigFrame (f : List Byte) (s : State) : State :=
  match s.twinTake 0x21 f with
  | (none, s) => s
  | (some p, s) =>
    let n := u16 p 4
    if p.length ≠ 8 + 12 * n then s
    else
      let before := s.acc
      let s := s.inOrder f p fun s => s.forEach (List.range n) fun i s =>
        let b := slice p (8 + 12 * i) 8
        if crc8 b = u8 p (16 + 12 * i) then s.writeMirrored (u32 b 0) (u32 b 4) else s
      ((s.tokenChanges before.tokens).flagChanges before.lockedOut before.leaseOk).roleChanged

/-! ## Acknowledgements -/

/-- The packets whose mirror stages are acknowledged go to the host; all of them when mirroring has ended (R409, R416). -/
def State.flushHeld (s : State) : State :=
  let go := fun (h : HeldPacket) => !s.mirrors || decide (h.msn ≤ s.twin.acked)
  let l := s.twin.held.filter go
  let s := s.onTwin fun t => { t with held := t.held.filter fun h => !go h }
  s.forEach l fun h s => if s.reaches h.src h.id then s.sendPacket h.src h.from_ h.addr h.port h.canId h.packet else s

/-- Step 5 of R403 waits until the shadow has the wefts and its start. -/
def State.lockstepDue (s : State) : State :=
  let t := s.twin
  if t.pair = .pairing ∧ t.role = .lead ∧ t.agreed = true ∧ t.lockAt = none ∧ (t.fly.all fun f => f.typ != 0x03 && f.typ != 0x04) = true then
    s.onTwin fun t => { t with lockAt := some (if s.weft.running.isSome then s.nextH else s.frame) }
  else s

/-- A paired lead's WEFT_COMMIT completes as the shadow acknowledges the last segment of its image (R410): the weft stands on both modules, without a
second judgement of check 13 (DESIGN CHOICE, log entry 156). -/
def State.commitAcked (s : State) : State :=
  match s.twin.weftWait with
  | [] => s
  | w :: rest =>
    ((s.onTwin fun t => { t with weftWait := rest }).installWeft w.weft).completeId w.cmd .ok (commitReply 0 0 w.weft.id w.weft.layout)

/-- A paired lead's WEFT_COMMIT ends without effect (R410). -/
def State.commitFails (s : State) (w : CommitWait) : State :=
  s.completeId w.cmd .state (commitReply 15 0 w.weft.id w.weft.layout)

/-- TWIN_ACK (R398, R409, R410). -/
def opTwinAck (f : List Byte) (s : State) : State :=
  match s.twinTake 0x7E f with
  | (none, s) => s
  | (some p, s) =>
    let n := u32 p 0
    match s.twin.fly.find? fun x => x.seq == n with
    | none => s
    | some x =>
      let s := s.onTwin fun t =>
        { t with fly := t.fly.filter fun y => y.seq != n
                 acked := match x.msn with
                   | some m => max m t.acked
                   | none => t.acked }
      let s := s.flushHeld.startAcked
      (if x.last then s.commitAcked else s).lockstepDue

/-- Commands taken before step 5 of R403 are not mirrored. -/
def Commands.unmirror (c : Commands) : Commands :=
  let off := fun (x : Cmd) => { x with mirr := false, begunAt := none }
  { c with
    groups := c.groups.mapIdx fun _ g =>
      { g with taken := g.taken.map off, exec := g.exec.map off, handed := g.handed.map off, failed := g.failed.map off }
    sources := c.sources.mapIdx fun _ q => { q with waiting := q.waiting.map off, exec := q.exec.map off } }

/-- Step 5 of R403 at a frame mark: the group state and the configuration go to the shadow; the lead is paired. -/
def State.lockstep (s : State) : State :=
  match s.twin.lockAt with
  | none => s
  | some f =>
    if s.frame < f then s
    else
      let weft := s.weft.running.map s.weftId
      let s := (s.onTwin fun t => { t with pair := .paired, lockAt := none, sentCfg := [], lockWeft := weft }).record 0x6001 8 s.twin.epoch
        (u32 s.twin.partner 0) 1
      let s := s.onCmd Commands.unmirror
      let s := s.forEach allGroups fun g s =>
        let x := s.group g
        s.mirrorFrame 0x20 (le 1 2 ++ le 1 g.1 ++ zeros 2 ++ le 1 0 ++ le 1 x.causes.num ++ le 2 x.expected ++ s.holderId x)
      s.mirrorConfig

/-! ## The loss of the link -/

/-- The link is down (R397, R416): Loom words and frames not sent are discarded (R408). A handover whose go was sent runs to its end (R418).
`detached` tells that the partner left the pair by TWIN_EN = 0. -/
def State.linkGone (s : State) (detached : Bool) : State :=
  let t := s.twin
  let now := s.now
  let s := s.onTwin fun k =>
    { k with linkUp := false, valid := 0, fly := [], hello := none, attested := false, weftRx := none, retryAt := none, lockAt := none, weftWait := [],
             handover := k.handover.filter fun h => h.gone, words := [], wordsLost := 0, later := []
             pair := match k.pair with
               | .paired => if k.role = .lead && detached then .lone else .broken
               | .pairing => if k.driven then .lone else .waiting
               | p => p
             waitFrom := if k.pair = .pairing ∧ k.driven = false then now else k.waitFrom }
  let s := if t.pair = .paired ∧ t.role = .lead then
      if detached then s.record 0x6005 8 t.epoch 1 0 else s.fault .D 8 0x6003 t.epoch t.acked 0
    else s
  let s := s.forEach t.weftWait fun w s => s.commitFails w
  let s := match t.handover with
    | some h => match h.cmd with
      | some c => if h.gone then s else s.completeId c .state []
      | none => s
    | none => s
  s.flushHeld.startAcked

/-- Have three HEARTBEATs of the lead been missed in a row (R405)? -/
def State.beatsMissed (s : State) : Bool :=
  decide (s.twin.role = .shadow) && decide (s.twin.pair = .paired) && decide (3000 ≤ s.since s.twin.beatAt)

/-- TWIN_LINK_DOWN (R397, R405, R416). -/
def opTwinLinkDown (detached : Bool) (s : State) : State :=
  if !s.twin.linkUp || (decide (s.since s.twin.heardAt < 3000) && !s.beatsMissed) then s else s.linkGone detached

/-- TWIN_RETRANSMIT (R398): after 50 µs without an answer, under the EPOCH it was sent with; after the third unanswered repeat the link is down. -/
def opTwinRetransmit (seq : Nat) (s : State) : State :=
  match s.twin.fly.find? fun x => x.seq == seq with
  | none => s
  | some x =>
    if s.since x.sentAt < 50 then s
    else if 3 ≤ x.repeats then s.linkGone false
    else
      let t := s.now
      let s := s.send (.twin (twinBytes x.typ true x.epoch x.seq x.payload))
      s.onTwin fun k => { k with fly := k.fly.map fun y => if y.seq = seq then { y with sentAt := t, repeats := y.repeats + 1 } else y }

/-- MIRROR_ACK_TIMEOUT (R409). -/
def opMirrorAckTimeout (s : State) : State :=
  if s.mirrors && s.twin.fly.any (fun x => x.msn.isSome && decide (3000 ≤ s.since x.firstAt)) then s.linkGone false else s

/-- TWIN_RELEASE (R401): the lead has released the token. -/
def opTwinRelease (f : List Byte) (s : State) : State :=
  match s.twinTake 0x7F f with
  | (none, s) => s
  | (some _, s) => (s.twinAnswer f).onTwin fun t => { t with released := true }

/-! ## The meanings of the commands -/

/-- TWIN_LINK_UP (R397). -/
def execTwinLinkUp (s : State) : Host.Outcome State Fault Refusal := .next (opTwinLinkUp s)

/-- TWIN_LINK_DOWN (R416). -/
def execTwinLinkDown (detached : Bool) (s : State) : Host.Outcome State Fault Refusal := .next (opTwinLinkDown detached s)

/-- TWIN_RETRANSMIT (R398). -/
def execTwinRetransmit (seq : Nat) (s : State) : Host.Outcome State Fault Refusal := .next (opTwinRetransmit seq s)

/-- MIRROR_ACK_TIMEOUT (R409). -/
def execMirrorAckTimeout (s : State) : Host.Outcome State Fault Refusal := .next (opMirrorAckTimeout s)

/-- TWIN_HELLO (R403). -/
def execTwinHello (f : List Byte) (s : State) : Host.Outcome State Fault Refusal := .next (opTwinHello f s)

/-- TWIN_ATTEST (R403). -/
def execTwinAttest (f : List Byte) (s : State) : Host.Outcome State Fault Refusal := .next (opTwinAttest f s)

/-- TWIN_PAIRED (R403). -/
def execTwinPaired (f : List Byte) (s : State) : Host.Outcome State Fault Refusal := .next (opTwinPaired f s)

/-- TWIN_WEFT (R403). -/
def execTwinWeft (f : List Byte) (leadRuns : Bool) (s : State) : Host.Outcome State Fault Refusal := .next (opTwinWeft f leadRuns s)

/-- TWIN_HEARTBEAT (R405). -/
def execTwinHeartbeat (f : List Byte) (ofs : Int) (s : State) : Host.Outcome State Fault Refusal := .next (opTwinHeartbeat f ofs s)

/-- TWIN_MIRROR (R409). -/
def execTwinMirror (f : List Byte) (s : State) : Host.Outcome State Fault Refusal := .next (opTwinMirror f s)

/-- TWIN_CONFIG_FRAME (R410). -/
def execTwinConfigFrame (f : List Byte) (s : State) : Host.Outcome State Fault Refusal := .next (opTwinConfigFrame f s)

/-- TWIN_LOOM_DATA (R408). -/
def execTwinLoomData (f : List Byte) (s : State) : Host.Outcome State Fault Refusal := .next (opTwinLoomData f s)

/-- TWIN_ACK (R398). -/
def execTwinAck (f : List Byte) (s : State) : Host.Outcome State Fault Refusal := .next (opTwinAck f s)

/-- TWIN_RELEASE (R401). -/
def execTwinRelease (f : List Byte) (s : State) : Host.Outcome State Fault Refusal := .next (opTwinRelease f s)

/-- PAIRING_RETRY (R403). -/
def execPairingRetry (s : State) : Host.Outcome State Fault Refusal := .next (opPairingRetry s)

end Sys2Proof.Machine
end

