-- ==== Sys2Proof/Machine/TwinRows.lean ====
section
/-! DEFINITION. The token, takeover, the planned handover, the twin commands and registers (R401, R404, R411 to R420). -/

namespace Sys2Proof.Machine

open Sys2Proof

/-! ## The token -/

/-- The token is released other than by handover (R401, R417): outputs stay for 1 ms; RELEASE goes out while I8 runs. -/
def State.releaseToken (s : State) : State :=
  if !s.twin.driven then s
  else
    let t := s.now
    let s := if s.twin.linkUp && s.clk.i8Run then s.twinFrame 0x7F [] false none false else s
    let s := s.onTwin fun k =>
      { k with driven := false, lineLow := false, holdEnd := some (t + 1000), handover := none, weftWait := [], words := [], wordsLost := 0
               later := []
               pair := if k.pair = .paired then .broken else k.pair }
    s.flushHeld.startAcked

/-- TOKEN_RELEASE_HOLD_END (R417): the shared outputs drop; the module is shadow once I8 runs and the line reads low. -/
def opTokenReleaseHoldEnd (low : Bool) (s : State) : State :=
  match s.twin.holdEnd with
  | none => s
  | some t =>
    if s.now < t then s
    else
      let s := s.dropShared
      let now := s.now
      if low && s.clk.i8Run && s.twin.en then
        let s := s.onTwin fun k => { k with role := .shadow, pair := .waiting, lineLow := true, holdEnd := none, waitFrom := now, agreed := false }
        s.roleChanged
      else s

/-- CABLE_SENSE (R401): every 1 ms while the link is down, on a module that is not lead: `deciohm` is the far-end termination on TWIN_TX0 in tenths of
an ohm, `low` the reading of TWIN_TOKEN. -/
def opCableSense (deciohm : Nat) (low : Bool) (s : State) : State :=
  if s.twin.linkUp ∨ s.twin.role = .lead then s
  else
    let now := s.now
    let present := decide (800 ≤ deciohm) && decide (deciohm ≤ 1200)
    s.onTwin fun t =>
      { t with cable := present, lineLow := low || t.driven
               waitFrom := if low && decide (t.pair = .waiting) && !present then now else t.waitFrom }

/-- LONE_LEAD (R404). -/
def opLoneLead (low : Bool) (s : State) : State :=
  let t := s.twin
  let s := s.onTwin fun t => { t with lineLow := low || t.driven }
  if !t.en || low || t.driven || t.holdEnd.isSome || !(decide (t.pair = .waiting) || decide (t.pair = .pairing)) then s
  else
    let wait := 1000000 * t.loneWait + (if t.cable && t.side then 50000 else 0)
    if s.since t.waitFrom < wait then s else (s.seize .lone).record 0x6012 8 (b2n t.cable) 0 0

/-! ## Taking the shared objects -/

/-- An orphan keeps its policy from a new origin (R414). -/
def State.takeOrphan (s : State) (c : ChNo) : State :=
  let s := s.onChan c fun x =>
    { x with orphan := some { origin := s.now, policy := x.cfg.policy, safeValue := x.cfg.safeValue, safeAfter := x.cfg.safeAfter, done := false } }
  if 2 ≤ (s.chan c).cfg.policy then s.orphanSafe c else s

def ownerOf : Nat → Owner
  | 1 => .weft
  | 2 => .host
  | _ => .none

/-- One shared channel takes the lead state (R414 step 2); the lead state does not carry ARG: a free value. -/
def State.takeChan (s : State) (c : ChNo) : State :=
  let e := slice s.twin.lead (8 * (c.1 - 8)) 8
  if (s.chan c).cfg.twinShared = false ∨ bit (u8 e 1) 4 = false then s
  else
    let before := s.phaseSet
    let s := s.onChan c fun x => { x with owner := ownerOf (u8 e 1 % 4), orphan := none }
    let s :=
      if bit (u8 e 1) 3 then
        match Mode.ofNum (u8 e 0) with
        | none => s
        | some .off => s
        | some m =>
          let (v, s) := if m = .pulse ∨ m = .softOn ∨ m = .softPwm then s.draw else (0, s)
          (s.changeMode c { mode := m, duty := u16 e 2, phase := u16 e 4, arg := v }).2
      else
        (s.enter c { mode := .off, duty := 0, phase := 0, arg := 0 }).onChan c fun x => { x with flags := { x.flags with shed := true } }
    let s := s.rephase before
    if bit (u8 e 1) 2 then s.takeOrphan c else s

/-- A FIRE at the next frame mark, with a free ARG (R414). -/
def State.fireNext (s : State) (c : AcNo) : State :=
  let (v, s) := if (s.coil c).cfg.bobbin = 0 then (0, s) else s.draw
  let p := BitVec.ofNat 64 (acNum c + 2 ^ 18 + 2 ^ 32 * (v % 2 ^ 32))
  let at_ := 1000 * (s.frame + 1)
  s.onCoil c fun x => { x with latched := some { payload := p, at_ := at_, check := crc8 (le 8 p.toNat) } }

/-- One shared actuator takes the lead state (R414 step 2): takeover hold, or a fresh FIRE. -/
def State.takeAct (s : State) (c : AcNo) : State :=
  let e := slice s.twin.lead (128 + 4 * c.1) 4
  if (s.coil c).cfg.twinShared = false ∨ bit (u8 e 1) 4 = false then s
  else
    let s := s.onCoil c fun x => { x with owner := ownerOf (u8 e 1 % 4), orphan := none }
    let s :=
      if u8 e 0 = 4 then
        s.onCoil c fun x =>
          { x with rest := .hold, unreachSince := none, unreachDone := false, dropout := none
                   eng := { Engine.reset with src := .batt, reg := .hold x.holdInForce, program := x.cfg.bobbin } }
      else if 1 ≤ u8 e 0 ∧ u8 e 0 ≤ 3 then s.fireNext c
      else s
    if bit (u8 e 1) 2 then
      let now := s.ticks
      let s := s.onCoil c fun x =>
        { x with orphan := some { origin := now, policy := x.cfg.policy, safeAfter := x.cfg.safeAfter, done := false } }
      if s.acOrphanDue c false then s.acOrphanRelease c else s
    else s

/-- Step 2 of R414. -/
def State.takeShared (s : State) : State :=
  let s := s.forEach ((allCh.drop 8).take 16) fun c s => s.takeChan c
  s.forEach allAc fun c s => s.takeAct c

/-! ## Groups from the mirror -/

/-- The source of a key ID on this module: the CAN source, or the session under it; none while no session is open. -/
def State.srcOfKey (s : State) (k : List Byte) : Option Src :=
  if k = List.replicate 8 0xFF then some .can
  else ((List.finRange 4).find? fun i => match s.cmd.sessions.get i with
    | some x => x.keyId == k
    | none => false).map Src.session

/-- A command of a mirror entry, with a fresh serial number; without an open session its replies reach no one. -/
def State.mirrorCmd (s : State) (id : Nat) (e : Mirrored) (mirr : Bool) : Cmd :=
  let b := e.body
  let src := s.srcOfKey e.keyId
  let sess := match src with
    | some (.session k) => match s.cmd.sessions.get k with
      | some x => (x.id, x.addr)
      | none => (2 ^ 32, 0)
    | some _ => (0, 0)
    | none => (2 ^ 32, 0)
  { id := id, src := src.getD (.session 0), addr := sess.2, port := 39232, opcode := packetOpcode b, flags := u8 b 1, posted := bit (u8 b 1) 0,
    fence := bit (u8 b 1) 1, tag := e.tag, group := if u8 b 6 = 0xFF then none else some e.group, session := sess.1,
    params := packetParams b, accepted := false, stage := .taken, msn := 0, mirr := mirr, begunAt := none }

/-- Does a BEGUN command drive a shared object, so that it executes from its beginning (R415)? -/
def State.beginsAgain (s : State) (e : Mirrored) : Bool :=
  let p := packetParams e.body
  match packetOpcode e.body with
  | 0x0201 => s.objectShared (u8 p 0)
  | 0x0205 => (List.range (u8 p 0)).all fun i => s.objectShared (u8 p (4 + 8 * i))
  | 0x0301 | 0x0302 => s.objectShared (0x80 + u8 p 0)
  | _ => false

def causesOf (n : Nat) : Causes := { failure := bit n 0, clsS := bit n 1, clsD := bit n 2, reset := bit n 3 }

/-- Is a far transaction meant (R415)? -/
def farOpcode (n : Nat) : Bool := n / 256 == 0x0D

/-- A group takes its state from the mirror (R414 step 3, R415); at a planned handover the new lead goes on mirroring, and the TWIN_HANDOVER in
execution is the old lead's to end (R418). -/
def State.restoreGroup (s : State) (planned : Bool) (g : Grp) : State :=
  let m := s.twin.groups.get g
  let es := s.twin.mirror.filter fun e => decide (e.group = g) && u8 e.body 6 != 0xFF
  let again := fun (e : Mirrored) => !e.begun || s.beginsAgain e
  let doneNow := fun (e : Mirrored) => planned && e.begun && packetOpcode e.body == 0x0C02
  let open_ := es.filter fun e => !e.failed && !doneNow e
  let lost := open_.filter fun e => !again e
  let runs := (open_.filter fun e => e.begun && again e) ++ open_.filter fun e => !e.begun
  let n := s.cmd.nextId
  let cmds := (List.range runs.length).zip runs |>.map fun x => s.mirrorCmd (n + x.1) x.2 planned
  let k := n + runs.length
  let bad := lost ++ es.filter fun e => e.failed
  let failed := (List.range bad.length).zip bad |>.map fun x => { s.mirrorCmd (k + x.1) x.2 planned with accepted := true }
  let holder : Holder := if m.holder = zeros 8 then .free
    else if m.holder = List.replicate 8 0xFF then .src .can else .keyId m.holder
  let note := fun (c : List Cached) (e : Mirrored) =>
    c.filter (fun x => x.tag != e.tag) ++ [{ tag := e.tag, status := Status.accepted.code, flags := 0, params := [], known := false }]
  let cache := open_.foldl note m.cache
  let status := fun (e : Mirrored) => if farOpcode (packetOpcode e.body) then Status.farTimeout.code else Status.state.code
  let causes := causesOf m.causes
  let s := s.onCmd fun c => { c with nextId := k + bad.length }
  let s := s.onGroup g fun _ =>
    { Group.reset with
      expected := m.expected
      holder := holder
      causes := if lost.isEmpty then causes else causes.add 3
      failed := failed
      taken := cmds
      cache := cache
      inflight := lost.map fun e => (e.tag, status e) }
  s.forEach lost fun e s => s.record 0xA130 2 g.1 e.tag (packetOpcode e.body)

/-- The ungrouped GROUP_RESUME and GROUP_ABORT entries (R409, R415): one not begun waits again, one begun is the failed command of the group it
names, which stalls. -/
def State.restoreUngrouped (s : State) (planned : Bool) : State :=
  s.forEach (s.twin.mirror.filter fun e => u8 e.body 6 == 0xFF) fun e s =>
    if e.begun then
      let n := s.cmd.nextId
      let c := { s.mirrorCmd n e planned with group := some e.group, accepted := true }
      ((s.onCmd fun c => { c with nextId := n + 1 }).onGroup e.group fun x =>
        { x with causes := x.causes.add 3, failed := x.failed ++ [c] }).record 0xA130 2 e.group.1 e.tag (packetOpcode e.body)
    else
      match s.srcOfKey e.keyId with
      | none => s
      | some src =>
        let n := s.cmd.nextId
        let c := s.mirrorCmd n e planned
        (s.onCmd fun c => { c with nextId := n + 1 }).onSource src.idx fun q => { q with waiting := q.waiting ++ [c] }

/-- Step 3 of R414; a stale mirror frees every group (R416). -/
def State.restoreGroups (s : State) (stale planned : Bool) : State :=
  let s :=
    if stale then s.forEach allGroups fun g s => s.onGroup g fun _ => Group.reset
    else (s.forEach allGroups fun g s => s.restoreGroup planned g).restoreUngrouped planned
  let s := s.onTwin fun t => { t with mirror := [], groups := Tab.fill 16 MirrorGroup.reset, stored := 0 }
  s.forEach (List.finRange 4) fun k s => match s.cmd.sessions.get k with
    | some x => s.claimGroups k x
    | none => s

/-! ## Takeover -/

/-- The takeover of R414; step 4 of it is the commit as ever. -/
def State.takeOver (s : State) : State :=
  let t := s.twin
  let stale := decide (t.pair = .broken)
  let e := nextEpoch t.epoch
  let now := s.now
  let s := s.seize .lone
  let s := s.onTwin fun k =>
    { k with epoch := e, takeovers := satAdd 0xFFFF k.takeovers 1, agreed := false, handover := none, weftRx := none, msn := 0, acked := 0
             words := [], wordsLost := 0, later := []
             retryAt := if k.linkUp then some (now + 10000000) else none }
  let s := s.takeShared.restoreGroups stale false
  s.record 0x6010 8 e (b2n stale) (b2n !t.released)

/-- TAKEOVER (R413, R414): TWIN_TOKEN has read high for 20 µs on a shadow in PAIR_STATE 3 or 4. -/
def opTakeover (s : State) : State :=
  let t := s.twin
  if t.role ≠ .shadow ∨ (t.pair ≠ .paired ∧ t.pair ≠ .broken) then s
  else
    let s := s.onTwin fun k => { k with lineLow := false }
    if !(t.linkUp || t.cable) then (s.onTwin fun k => { k with cableOpen := true }).fault .B 8 0x6021 t.role.num 0 0
    else if t.linkUp && !t.released then (s.onTwin fun k => { k with tokenFault := true }).fault .D 8 0x6020 0 0 0
    else s.takeOver

/-! ## Planned handover -/

/-- A HANDOVER frame in with its ACTION. -/
def State.handoverTake (s : State) (f : List Byte) (action : Nat) : Option (List Byte) × State :=
  match s.twinTake 0x40 f with
  | (none, s) => (none, s)
  | (some p, s) => let s := s.twinAnswer f; if u8 p 0 = action then (some p, s) else (none, s)

/-- Does this module run the weft that both twins run in lockstep (R418)? -/
def State.inLockstep (s : State) : Bool :=
  s.weft.running.isSome && decide (s.weft.running.map s.weftId = s.twin.lockWeft) && s.weft.swapping.isNone && s.weft.stopping.isNone

/-- HANDOVER_REQUEST (R418 step 1): the shadow accepts or refuses. -/
def opHandoverRequest (f : List Byte) (s : State) : State :=
  match s.handoverTake f 0 with
  | (none, s) => s
  | (some _, s) =>
    let ok := decide (s.twin.role = .shadow) && decide (s.twin.pair = .paired) && decide (s.twin.msnSeen = s.twin.stored) && s.inLockstep &&
      !s.flt.forceSafe
    s.handoverFrame (if ok then 1 else 2) 0

/-- HANDOVER_ACCEPT (R418). -/
def opHandoverAccept (f : List Byte) (s : State) : State :=
  match s.handoverTake f 1 with
  | (none, s) => s
  | (some _, s) => s.onTwin fun t => { t with handover := t.handover.map fun h => { h with accepted := true } }

/-- The handover ends without effect: STATE (R418). -/
def State.handoverRefused (s : State) : State :=
  match s.twin.handover with
  | none => s
  | some h =>
    let s := s.onTwin fun t => { t with handover := none }
    match h.cmd with
    | some c => s.completeId c .state []
    | none => s

/-- The shadow has refused what the lead asked of it (R418; log entry 69): a handover whose request it has acknowledged; else the image whose last
segment it has not; else the pairing. -/
def State.refusedByShadow (s : State) : State :=
  let asked := s.twin.handover.any fun h => !h.accepted && !h.gone
  let sent := s.twin.fly.any fun x => x.typ == 0x40
  match s.twin.weftWait with
  | w :: rest => if asked && !sent then s.handoverRefused else (s.onTwin fun t => { t with weftWait := rest }).commitFails w
  | [] =>
    if asked then s.handoverRefused
    else if s.twin.role = .lead ∧ s.twin.pair = .pairing then s.endPairing
    else s

/-- HANDOVER_REFUSE (R403, R410, R418). -/
def opHandoverRefuse (f : List Byte) (s : State) : State :=
  match s.handoverTake f 2 with
  | (none, s) => s
  | (some _, s) => s.refusedByShadow

/-- What the old lead holds of a group, as its mirror (R418): the shadow it becomes stores it. -/
def Group.mirrorOf (x : Group) (holder : List Byte) : MirrorGroup :=
  { expected := x.expected, causes := x.causes.num, holder := holder, cache := x.cache.filter fun e => e.known }

/-- The commands of a group that have not ended, as mirror entries. -/
def State.entriesOf (s : State) (g : Grp) : List Mirrored :=
  let x := s.group g
  (x.failed.map fun c => { group := g, tag := c.tag, keyId := s.keyIdOf c.src, body := c.bytes, begun := true, failed := true }) ++
    x.taken.map fun c => { group := g, tag := c.tag, keyId := s.keyIdOf c.src, body := c.bytes, begun := false, failed := false }

/-- What the old lead holds becomes the mirror of the shadow it will be (R418). -/
def State.mirrorOwn (s : State) : State :=
  let groups := (Tab.fill 16 MirrorGroup.reset).mapIdx fun g _ => (s.group g).mirrorOf (s.holderId (s.group g))
  let mirror := allGroups.flatMap s.entriesOf
  s.onTwin fun t => { t with groups := groups, mirror := mirror, stored := 0, msnSeen := 0 }

/-- Step 3 of R418 on the lead, at F; from here it stores the new lead's mirror stages. -/
def State.handoverMark (s : State) : State :=
  match s.twin.handover with
  | none => s
  | some h =>
    if s.twin.role ≠ .lead ∨ h.gone = true ∨ s.frame < h.frame then s
    else if !h.accepted then s.handoverRefused
    else
      let s := s.handoverFrame 3 (h.frame % 2 ^ 32)
      let e := nextEpoch s.twin.epoch
      s.mirrorOwn.onTwin fun t => { t with epoch := e, msn := 0, acked := 0, handover := some { h with gone := true } }

/-- HANDOVER_GO (R418 step 3): the shadow becomes lead and takes the shared objects. -/
def opHandoverGo (f : List Byte) (s : State) : State :=
  match s.handoverTake f 3 with
  | (none, s) => s
  | (some _, s) =>
    if s.twin.role ≠ .shadow ∨ s.twin.pair ≠ .paired then s
    else
      let e := nextEpoch s.twin.epoch
      let s := s.seize .paired
      let cfg := s.mirrorCfg
      let h : Handover := { frame := s.frame, cmd := none, accepted := true, gone := true }
      let s := s.onTwin fun t =>
        { t with epoch := e, takeovers := satAdd 0xFFFF t.takeovers 1, msn := 0, acked := 0, sentCfg := cfg, handover := some h }
      s.takeShared.restoreGroups false true

/-- HANDOVER_COMPLETE (R418 steps 4 and 5): at F + 1 ms the old lead drops its shared outputs, becomes shadow and replies OK; the new lead
begins the commands held. -/
def opHandoverComplete (s : State) : State :=
  match s.twin.handover with
  | none => s
  | some h =>
    if h.gone = false ∨ s.frame ≤ h.frame then s
    else
      match h.cmd with
      | none => (s.onTwin fun t => { t with handover := none }).record 0x6011 8 s.twin.epoch 1000 1
      | some c =>
        let s := if s.twin.linkUp && s.clk.i8Run then s.twinFrame 0x7F [] false none false else s
        let s := (s.record 0x6011 8 s.twin.epoch 1000 0).completeId c .ok (le 4 s.twin.epoch ++ le 2 1000 ++ zeros 2)
        let now := s.now
        let s := (s.dropShared.onTwin fun t => { t with handover := none, role := .shadow, driven := false, beatAt := now }).roleChanged
        s.forEach allGroups fun g s => s.onGroup g Group.release

/-! ## Commands -/

/-- TWIN_EN becomes 1 (R404). -/
def State.enterPair (s : State) : State :=
  let t := s.now
  let s := s.onTwin fun k => { k with en := true, role := .shadow, pair := .waiting, driven := false, waitFrom := t, agreed := false, holdEnd := none }
  let s := s.dropShared.roleChanged
  if s.mayPair then s.startPairing else s

/-- TWIN_EN becomes 0 (R402): the module is single, its shared objects inhibited. -/
def State.leavePair (s : State) : State :=
  let t := s.twin
  let s := if t.pair = .paired then s.record 0x6005 8 t.epoch 0 0 else s
  let s := s.onTwin fun k =>
    { k with en := false, role := .none, pair := .off, driven := false, hello := none, attested := false, agreed := false, retryAt := none,
             lockAt := none, weftRx := none, fly := [], holdEnd := none, words := [], wordsLost := 0, later := [], mirror := [], groups := Tab.fill 16 MirrorGroup.reset }
  s.dropShared.roleChanged

/-- TWIN_CONFIG (R419). -/
def opTwinConfig (r : CmdRef) (s : State) : State :=
  s.onCommand r 0x0C01 fun q s =>
    let p := q.params
    let t := s.twin
    let en := u8 p 0 == 1
    let side := u8 p 1 == 1
    let setCode := bit (u8 p 3) 0
    if p.length ≠ 12 ∨ 1 < u8 p 0 ∨ 1 < u8 p 1 ∨ u8 p 2 = 0 ∨ 1 < u8 p 3 then s.complete q .badParam []
    else
      let locked := decide (t.pair = .pairing) || decide (t.pair = .paired)
      if (locked && (side != t.side || (setCode && slice p 4 8 != t.code))) || (!en && decide (t.role = .lead) && decide (t.pair = .paired)) then
        s.complete q .state []
      else
        let s := s.onTwin fun t => { t with side := side, loneWait := u8 p 2, code := if setCode then slice p 4 8 else t.code }
        let s := if en && !t.en then s.enterPair else if !en && t.en then s.leavePair else s
        s.complete q .ok (le 1 (b2n en) ++ le 1 (b2n side) ++ le 1 (u8 p 2) ++ zeros 1 ++ le 1 s.twin.role.num ++ le 1 s.twin.pair.num ++ zeros 2)

/-- TWIN_HANDOVER (R412, R418, R419). -/
def opTwinHandover (r : CmdRef) (s : State) : State :=
  s.onCommand r 0x0C02 fun q s =>
    let t := s.twin
    if q.params.length ≠ 0 then s.complete q .badParam []
    else if t.role = .shadow then s.complete q .held []
    else if t.role ≠ .lead ∨ t.pair ≠ .paired ∨ s.inLockstep = false ∨
        s.flt.forceSafe = true ∨ t.handover.isSome = true then s.complete q .state []
    else
      let f := (s.warp + 2000 + 999) / 1000
      let s := (s.handOver q .core).onTwin fun t => { t with handover := some { frame := f, cmd := some q.id, accepted := false, gone := false } }
      s.handoverFrame 0 0

/-- TOKEN of R419. -/
def Twin.tokenBits (t : Twin) : Nat := b2n t.lineLow + 2 * b2n t.driven + 4 * b2n (t.linkUp || t.cable)

/-- The latest MSN acknowledged (R420). -/
def Twin.ackedMsn (t : Twin) : Nat := (if t.role = .shadow then t.stored else t.acked) % 2 ^ 32

/-- TWIN_STATUS (R419). -/
def opTwinStatus (r : CmdRef) (s : State) : State :=
  s.onCommand r 0x0C03 fun q s =>
    if q.params.length ≠ 0 then s.complete q .badParam []
    else
      let t := s.twin
      s.complete q .ok (le 1 t.role.num ++ le 1 t.pair.num ++ le 1 t.tokenBits ++ zeros 1 ++ le 4 t.epoch ++ le 4 t.ackedMsn ++ padTo 8 t.partner ++
        le 4 t.linkErrors ++ le 4 (sgn t.warpOfs))

/-! ## Registers (R420) -/

/-- A read, by offset from 0x2600_0000. -/
def State.readTwin (s : State) (off : Nat) : Nat :=
  let t := s.twin
  match off with
  | 0x00 => b2n t.en + 2 * b2n t.side + 2 ^ 8 * t.loneWait
  | 0x04 => t.role.num + 4 * t.pair.num + 2 ^ 5 * t.tokenBits + 2 ^ 8 * b2n t.linkUp + 2 ^ 9 * b2n t.tokenFault + 2 ^ 10 * b2n t.cableOpen
  | 0x08 => t.epoch
  | 0x0C => t.ackedMsn
  | 0x10 => u32 t.partner 0
  | 0x14 => u32 t.partner 4
  | 0x18 => sgn t.warpOfs
  | 0x1C => t.linkErrors + 2 ^ 16 * t.takeovers
  | _ => 0

/-- A write: TWIN_CTRL is denied, two flags of TWIN_STATE clear. -/
def State.writeTwin (s : State) (off v : Nat) : Status × State :=
  match off with
  | 0x00 => (.denied, s)
  | 0x04 => (.ok, s.onTwin fun t => { t with tokenFault := t.tokenFault && !bit v 9, cableOpen := t.cableOpen && !bit v 10 })
  | _ => (.ok, s)

/-- A reset of I8 or of the service core as the twin block sees it (R327, R401, R420): the token goes, the link is down, the fields that are
not held return to 0, PAIR_STATE to WAITING while TWIN_EN = 1 (R402). -/
def State.resetTwin (s : State) : State :=
  let s := (if s.twin.linkUp then s.linkGone false else s).releaseToken
  let now := s.now
  s.onTwin fun t =>
    { t with linkErrors := 0, tokenFault := false, cableOpen := false, warpOfs := 0, words := [], wordsLost := 0, partner := zeros 8, msn := 0, cable := false, agreed := false
             acked := 0, stored := 0
             role := if t.en && t.holdEnd.isNone then .shadow else t.role
             pair := if t.en then .waiting else t.pair
             waitFrom := now }

/-! ## A lost PLL -/

/-- P1, P2, the internal switch and gPTP stop (R51). -/
def State.etherStops (s : State) : State :=
  let s := s.forEach (List.finRange 2) fun p s => opLinkDown p s
  s.forEach (List.finRange 2) fun p s => opGptpLost p 0 s

/-- PLL_LOST (R51): the island goes on on the HFO, or stops; a weft that runs stops at the next segment boundary. -/
def opPllLost (n : Isl) (s : State) : State :=
  if n.1 = 0 ∨ n.1 = 6 ∨ s.clk.onPll.get n = false then s
  else
    let s := s.onClk fun k =>
      { k with onPll := k.onPll.put n false, pllLost := k.pllLost.put n true
               i7Run := k.i7Run && decide (n.1 ≠ 7), i8Run := k.i8Run && decide (n.1 ≠ 8) }
    let s := s.fault .D 0 0xA030 n.1 0 0
    match n.1 with
    | 1 => if s.weft.running.isSome then (s.onWeft fun w => { w with haltDue := true }).boundary else s.haltWeft 2
    | 3 => s.etherStops
    | 7 => s.radioEval
    | 8 => if s.twin.linkUp then s.linkGone false else s
    | _ => s

/-! ## The meanings of the commands -/

/-- PLL_LOST (R51). -/
def execPllLost (n : Isl) (s : State) : Host.Outcome State Fault Refusal := .next (opPllLost n s)


/-- HANDOVER_REQUEST (R418). -/
def execHandoverRequest (f : List Byte) (s : State) : Host.Outcome State Fault Refusal := .next (opHandoverRequest f s)

/-- HANDOVER_ACCEPT (R418). -/
def execHandoverAccept (f : List Byte) (s : State) : Host.Outcome State Fault Refusal := .next (opHandoverAccept f s)

/-- HANDOVER_REFUSE (R418). -/
def execHandoverRefuse (f : List Byte) (s : State) : Host.Outcome State Fault Refusal := .next (opHandoverRefuse f s)

/-- HANDOVER_GO (R418). -/
def execHandoverGo (f : List Byte) (s : State) : Host.Outcome State Fault Refusal := .next (opHandoverGo f s)

/-- HANDOVER_COMPLETE (R418). -/
def execHandoverComplete (s : State) : Host.Outcome State Fault Refusal := .next (opHandoverComplete s)

/-- CABLE_SENSE (R401). -/
def execCableSense (deciohm : Nat) (low : Bool) (s : State) : Host.Outcome State Fault Refusal := .next (opCableSense deciohm low s)

/-- TAKEOVER (R414). -/
def execTakeover (s : State) : Host.Outcome State Fault Refusal := .next (opTakeover s)

/-- TOKEN_RELEASE_HOLD_END (R417). -/
def execTokenReleaseHoldEnd (low : Bool) (s : State) : Host.Outcome State Fault Refusal := .next (opTokenReleaseHoldEnd low s)

/-- LONE_LEAD (R404). -/
def execLoneLead (low : Bool) (s : State) : Host.Outcome State Fault Refusal := .next (opLoneLead low s)

/-- TWIN_CONFIG (R419). -/
def execTwinConfig (r : CmdRef) (s : State) : Host.Outcome State Fault Refusal := .next (opTwinConfig r s)

/-- TWIN_HANDOVER (R418). -/
def execTwinHandover (r : CmdRef) (s : State) : Host.Outcome State Fault Refusal := .next (opTwinHandover r s)

/-- TWIN_STATUS (R419). -/
def execTwinStatus (r : CmdRef) (s : State) : Host.Outcome State Fault Refusal := .next (opTwinStatus r s)

end Sys2Proof.Machine
end

