-- ==== Sys2Proof/Machine/AccessRows.lean ====
section
/-! DEFINITION. Polling and granting (R428 to R435), the tamper and door inputs (R429, R446), tokens (R426, R427), the release pairing and
the lease (R437, R441, R445), the access commands and registers (R447 to R449). -/

namespace Sys2Proof.Machine

open Sys2Proof

abbrev TokNo := Fin 32

def allTokens : List TokNo := List.finRange 32

/-- A mask with one bit. -/
def bit32 (i : TokNo) : BitVec 32 := 1#32 <<< i.1

/-! ## The inputs -/

/-- The reported value of an input IN01 to IN24, 0 for none (R254). -/
def State.inputReads (s : State) (n : Nat) : Bool := decide (n ≠ 0) && bit (s.fld.words.get 0) (n - 1)

/-- FIELD_FRAME_RECEIVE (R267, R429, R446): the frame, then DOOR_IN and TAMPER_IN; a stale input does neither. -/
def opFieldFrameReceive (crcOk : Bool) (s : State) : State :=
  let s := s.receiveField crcOk
  if s.fld.stale then s
  else
    let k := s.acc.cfg
    let s := if k.tamperIn ≠ 0 ∧ s.inputReads k.tamperIn = k.tamperPol ∧ s.acc.tamper = false then
        ((s.onAcc fun a => { a with tamper := true }).record 0x7024 2 k.tamperIn 1 0).relStop
      else s
    if k.doorIn = 0 then s
    else
      let v := s.inputReads k.doorIn
      let s := if s.acc.doorLevel = some (!v) then s.doorEvent else s
      s.onAcc fun a => { a with doorLevel := some v }

/-! ## Bursts -/

/-- BURST_START (R428, R429). -/
def opBurstStart (s : State) : State :=
  let a := s.acc
  let t := s.now
  let due := a.doorReq || match a.lastBurst with
    | none => true
    | some b => decide (s.pollPeriod ≤ s.since b)
  if !a.running || a.burst.isSome || !due then s
  else (s.radioPower true).onAcc fun a =>
    { a with doorReq := false, lastBurst := some t, burst := some { startAt := t, channel := a.cfg.radioChannel, range := a.cfg.range, polls := 0, invalid := none, seen := 0 } }

/-- The slot of a token for a poll (R431). -/
def pollSlot (t : Token) (nonce : List Byte) : Nat := u8 (Config.sha256 (le 8 t.id ++ nonce)) 0 % 8

/-- T_REPLY in ps (R423). -/
def tReply (slot : Nat) : Int := 300000000 + 250000000 * slot

/-- STS_KEY and STS_V of a token's reply to a poll (R422). -/
def Token.sts (t : Token) (nonce : List Byte) : List Byte :=
  Config.aes128 t.key (le 1 0x53 ++ zeros 7 ++ nonce) ++ Config.aes128 t.key (le 1 0x56 ++ zeros 7 ++ nonce)

/-- t_round, when the STS checks out: the antenna with the stronger first path gives it, the other serves when that one fails (R423). -/
def UwbFrame.heard (f : UwbFrame) (sts : List Byte) : Option Nat :=
  if f.strong.sts = sts then some f.strong.round else if f.weak.sts = sts then some f.weak.round else none

/-- Does the MIC hold under a token's key (R422)? -/
def UwbFrame.micOk (f : UwbFrame) (t : Token) (nonce : List Byte) : Bool := f.mic == Config.ccmMic t.key nonce (le 8 f.id ++ le 5 f.turn)

/-- r × t_turn, in units of 10⁻⁹/(128 × 499.2 MHz) (R423). -/
def UwbFrame.scaled (f : UwbFrame) : Int := f.turn * (1000000000 + f.ratio)

/-- Does the turnaround lie within T_REPLY ± 20 ns (R423)? -/
def UwbFrame.turnOk (f : UwbFrame) (slot : Nat) : Bool :=
  decide ((tReply slot - 20000) * 63897600 ≤ f.scaled) && decide (f.scaled ≤ (tReply slot + 20000) * 63897600)

/-- How a reply slot is judged (R431): valid carries t_round − r × t_turn, invalid carries 0 for authentication, 1 for the turnaround. -/
inductive Judged where
  | empty | collision | valid (t : TokNo) (flight : Int) | invalid (kind : Nat)
  deriving DecidableEq, Repr

/-- What a frame is to one token (R423, R428): none when its STS is not the token's, else t_round and whether the MIC holds. -/
def UwbFrame.under (f : UwbFrame) (t : Token) (nonce : List Byte) : Option (Nat × Bool) :=
  (f.heard (t.sts nonce)).map fun r => (r, f.micOk t nonce)

/-- R423, R428, R431. -/
def Access.judge (a : Access) (nonce : List Byte) (slot : Nat) : SlotSeen → Judged
  | .empty => .empty
  | .preambles => .collision
  | .frame f =>
    let known := allTokens.filterMap fun i => (a.tokens.get i).bind fun t => (f.under t nonce).map fun r => (i, t, r)
    if known.any fun x => !x.2.2.2 then .collision
    else
      match known.find? fun x => x.2.1.id == f.id && pollSlot x.2.1 nonce == slot with
      | none => .invalid 0
      | some x => if f.turnOk slot then .valid x.1 (1000000000 * x.2.2.1 - f.scaled) else .invalid 1

/-- RANGE_OFFSET in cm. -/
def rangeOffset (range : Nat) : Int := signed 16 (bits range 16 16)

/-- c / 2 × (t_round − r × t_turn) in cm, as a number over `cmUnit` (R423). -/
def flightCm (flight : Int) : Int := flight * 29979245800
def cmUnit : Int := 127795200000000000000

/-- Is the distance at most D_MAX (R423, R432)? -/
def flightNear (flight : Int) (range : Nat) : Bool := decide (flightCm flight ≤ cmUnit * ((bits range 0 16 : Nat) + rangeOffset range))

/-- The distance in whole cm, as the 16 bits of the registers and records hold it (log entry 64). -/
def distanceCm (flight : Int) (range : Nat) : Nat := unsigned 16 (flightCm flight / cmUnit - rangeOffset range)

/-- The warp frame of this instant: in Sleep the one at which warp time would restart (R56, R436). -/
def State.frameNow (s : State) : Nat := if s.pwr.state = .sleep then s.warpAwake / 1000 else s.frame

/-- A grant (R435); one made while the Otcel enters Sleep wakes it too. -/
def State.grantToken (s : State) (i : TokNo) (cm poll : Nat) : State :=
  let f := s.frameNow
  let s := s.onAcc fun a =>
    { a with granted := a.granted ||| bit32 i, absent := a.absent.put i 0, grantSeq := (a.grantSeq + 1) % 2 ^ 32, lastSlot := i.1, lastDist := cm,
             lastFrame := f, grants := satAdd 0xFFFF a.grants 1 }
  let s := (s.record 0x7001 7 i.1 cm poll).doorEvent
  if s.pwr.state = .sleep ∨ s.pwr.entering = true then s.moduleWake 5 i.1 else s

/-- A present token is granted or deferred, by R432. -/
def State.decideToken (s : State) (i : TokNo) (cm poll : Nat) : State :=
  let a := s.acc
  if a.granted.getLsbD i.1 || a.lockedOut || a.tamper then s
  else if s.inDelay then
    if a.deferred.getLsbD i.1 then s
    else (s.onAcc fun a => { a with deferred := a.deferred ||| bit32 i }).record 0x7003 7 i.1 s.delayLeft cm
  else s.grantToken i cm poll

/-- The first number from `v` on, modulo 2^64, that a list does not hold; `n` is its length. -/
def freshFrom (used : List Nat) : Nat → Nat → Nat
  | 0, v => v
  | n + 1, v => if used.contains v then freshFrom used n ((v + 1) % 2 ^ 64) else v

/-- A NONCE that no poll has had (R428): a free value, or the next one not used (log entry 160). -/
def State.pollNonce (s : State) : Nat × State :=
  let (v, s) := s.draw
  let n := freshFrom s.acc.nonces s.acc.nonces.length (v % 2 ^ 64)
  (n, s.onAcc fun a => { a with nonces := n :: a.nonces })

/-- UWB_POLL (R428, R431, R432): a poll with a fresh NONCE, and what the eight reply slots bring. -/
def opUwbPoll (seen : Vector SlotSeen 8) (s : State) : State :=
  match s.acc.burst with
  | none => s
  | some b =>
    if !s.acc.running || decide (3 ≤ b.polls) || decide (s.now < b.startAt + 5000 * b.polls) then s
    else
      let (n, s) := s.pollNonce
      let nonce := le 8 n
      let s := s.send (.uwb b.channel nonce)
      let l := (List.finRange 8).map fun k => s.acc.judge nonce k.1 seen[k]
      let near := l.filterMap fun x => match x with
        | .valid i d => if flightNear d b.range then some (i, distanceCm d b.range) else none
        | _ => none
      let bad := l.filterMap fun x => match x with
        | .invalid k => some k
        | _ => none
      let mask : BitVec 32 := near.foldl (fun m x => m ||| bit32 x.1) 0
      let s := s.onAcc fun a =>
        { a with present := mask
                 burst := some { b with polls := b.polls + 1, invalid := b.invalid.or bad.head?, seen := b.seen ||| mask } }
      s.forEach near fun x s => s.decideToken x.1 x.2 b.polls

/-- The delay in s that a failure count imposes (R434). -/
def delayOf (k : Nat) : Nat := if k < 4 then 0 else min (2 ^ (k - 3)) 256

/-- A failure is counted (R433, R434). -/
def State.countFailure (s : State) (kind : Nat) : State :=
  let t := s.now
  let k := min 255 (s.acc.failCount + 1)
  let d := delayOf k
  let s := s.onAcc fun a =>
    let a := { a with failCount := k, failures := satAdd 0xFFFF a.failures 1, failAt := t, owed := d }
    if d = 0 then a else { a with delayEnd := some (t + 1000000 * d), deferred := 0 }
  s.record 0x7002 7 kind k d

/-- BURST_END (R428, R432, R433): after the three polls. -/
def opBurstEnd (s : State) : State :=
  match s.acc.burst with
  | none => s
  | some b =>
    if s.now < b.startAt + 15000 ∨ b.polls < 3 then s
    else
      let s := s.onAcc fun a =>
        let n := fun (i : TokNo) => if !a.granted.getLsbD i.1 || b.seen.getLsbD i.1 then 0 else a.absent.get i + 1
        let gone : BitVec 32 := allTokens.foldl (fun m i => if 3 ≤ n i then m ||| bit32 i else m) 0
        { a with burst := none, granted := a.granted &&& ~~~gone, absent := a.absent.mapIdx fun i _ => if 3 ≤ n i then 0 else n i }
      let s := match b.invalid with
        | some k => s.countFailure k
        | none => s
      (s.radioPower false).radioEval

/-- FAILURE_DELAY_END (R434). -/
def opFailureDelayEnd (s : State) : State :=
  match s.acc.delayEnd with
  | none => s
  | some t => if s.now < t then s else s.onAcc fun a => { a with delayEnd := none, owed := 0 }

/-- FAIL_DECAY (R433). -/
def opFailDecay (s : State) : State :=
  let t := s.now
  if s.acc.failCount = 0 ∨ s.since s.acc.failAt < 600000000 then s
  else s.onAcc fun a => { a with failCount := a.failCount - 1, failAt := t }

/-- LEASE_EXPIRY (R445). -/
def opLeaseExpiry (s : State) : State :=
  let a := s.acc
  if a.cfg.leaseTime = 0 ∨ a.leaseOk = false ∨ s.leaseLeft ≠ 0 then s
  else ((s.onAcc fun a => { a with leaseOk := false }).record 0x7025 2 1 a.cfg.leaseTime 0).relStop

/-! ## Tokens -/

def tokenOf (n : Nat) : Option TokNo := if h : n < 32 then some ⟨n, h⟩ else none

/-- KCV (R447). -/
def kcv (key : List Byte) : List Byte := padTo 4 (Config.sha256 key)

/-- TOKEN_ENROL (R426). -/
def opTokenEnrol (r : CmdRef) (s : State) : State :=
  s.onCommand r 0x0901 fun q s =>
    let p := q.params
    let id := u64 p 4
    let free := allTokens.find? fun i => (s.acc.tokens.get i).isNone
    let held := allTokens.any fun i => match s.acc.tokens.get i with
      | some t => t.id == id
      | none => false
    let take := fun (s : State) (i : TokNo) =>
      if held then s.complete q .state []
      else
        let sec := s.rcd.opSeconds
        let s := s.onAcc fun a =>
          { a with tokens := a.tokens.put i (some { id := id, key := slice p 12 16, opSec := sec }), deferred := a.deferred &&& ~~~bit32 i }
        (s.record 0x7010 2 i.1 (id % 2 ^ 32) (id / 2 ^ 32)).complete q .ok (le 1 i.1 ++ zeros 3 ++ kcv (slice p 12 16))
    if p.length ≠ 28 ∨ zeroAt p [1, 2, 3] = false ∨ (32 ≤ u8 p 0 ∧ u8 p 0 ≠ 0xFF) ∨ id = 0 ∨ id = 2 ^ 64 - 1 then s.complete q .badParam []
    else
      match tokenOf (u8 p 0) with
      | none => match free with
        | none => s.complete q .limit []
        | some i => take s i
      | some i => if (s.acc.tokens.get i).isSome then s.complete q .state [] else take s i

/-- TOKEN_REVOKE (R427). -/
def opTokenRevoke (r : CmdRef) (s : State) : State :=
  s.onCommand r 0x0902 fun q s =>
    let p := q.params
    match tokenOf (u8 p 0) with
    | none => s.complete q .badParam []
    | some i =>
      if p.length ≠ 4 ∨ zeroAt p [1, 2, 3] = false then s.complete q .badParam []
      else
        match s.acc.tokens.get i with
        | none => s.complete q .state []
        | some t =>
          let s := s.onAcc fun a =>
            { a with tokens := a.tokens.put i none, present := a.present &&& ~~~bit32 i, granted := a.granted &&& ~~~bit32 i
                     deferred := a.deferred &&& ~~~bit32 i }
          (s.record 0x7011 2 i.1 (t.id % 2 ^ 32) (t.id / 2 ^ 32)).complete q .ok (le 1 i.1 ++ zeros 3 ++ le 8 t.id)

/-- An entry of TOKEN_LIST (R447); an empty slot holds zeros. -/
def tokenEntry (n : Nat) (t : Option Token) : List Byte :=
  match t with
  | none => le 1 n ++ zeros 19
  | some t => le 1 n ++ le 1 1 ++ zeros 2 ++ le 8 t.id ++ kcv t.key ++ le 4 t.opSec

/-- TOKEN_LIST (R447). -/
def opTokenList (r : CmdRef) (s : State) : State :=
  s.onCommand r 0x0903 fun q s =>
    let p := q.params
    let first := u8 p 0
    let n := u8 p 1
    if p.length ≠ 4 ∨ zeroAt p [2, 3] = false ∨ n = 0 ∨ 32 < first + n then s.complete q .badParam []
    else s.complete q .ok (le 1 first ++ le 1 n ++ zeros 2 ++
      (allTokens.filter fun i => decide (first ≤ i.1) && decide (i.1 < first + n)).flatMap fun i => tokenEntry i.1 (s.acc.tokens.get i))

/-! ## RELEASE_CONFIG -/

/-- The stored words: reserved bits read 0 (R449). -/
def AccCfg.ofWords (ctrl range can id lease : Nat) : AccCfg :=
  { ctrl := ctrl &&& 0x003F1F07, range := range, can := can &&& 0x7F0F, id := id % 2 ^ 29, lease := lease % 2 ^ 16 }

/-- Is every field in range (R448, R449)? -/
def AccCfg.ok (k : AccCfg) : Bool :=
  decide (k.doorIn ≤ 24) && decide (k.tamperIn ≤ 24) && decide (30 ≤ k.dMax) && decide (k.dMax ≤ 1000) &&
    decide (-50 ≤ rangeOffset k.range) && decide (rangeOffset k.range ≤ 50) && decide (k.relCh ≤ 5) && decide (k.relSlot ≤ 99) &&
    decide (k.leaseTime ≤ 720)

/-- RELEASE_CONFIG SET (R448): the stream takes it up at the next REL_SLOT, the radio with the next burst; a malformed ACTION ends here too. -/
def opReleaseConfigSet (r : CmdRef) (s : State) : State :=
  s.onCommand r 0x0904 fun q s =>
    let p := q.params
    if 1 ≤ u8 p 0 ∧ u8 p 0 ≤ 3 then s
    else
      let k := AccCfg.ofWords (u32 p 4) (u32 p 8) (u32 p 12) (u32 p 16) (u32 p 20)
      let fd := match k.channel with
        | some c => (s.canCh c).fdEn
        | none => false
      if p.length ≠ 24 ∨ zeroAt p [0, 1, 2, 3] = false ∨ k.ok = false then s.complete q .badParam []
      else if k.releaseEn && !fd then s.complete q .state []
      else
        let s := s.onAcc fun a => { a with cfg := k, doorLevel := if a.cfg.doorIn = k.doorIn then a.doorLevel else none }
        let s := if s.acc.burst.isNone then s.radioEval else s
        s.complete q .ok (zeros 4 ++ le 4 k.ctrl ++ le 4 k.range ++ le 4 k.can ++ le 4 k.id ++ le 4 k.lease)

/-- RELEASE_CONFIG PAIR (R437, R444, R448, R516). -/
def opReleaseConfigPair (r : CmdRef) (s : State) : State :=
  s.onCommand r 0x0904 fun q s =>
    let p := q.params
    if u8 p 0 ≠ 1 then s
    else
      let n := u16 p 84
      let cert := slice p 88 n
      let eph := slice p 20 64
      if n < 1 ∨ 1024 < n ∨ p.length ≠ 152 + n ∨ zeroAt p [1, 2, 3, 86, 87] = false ∨ Config.onCurve eph = false then s.complete q .badParam []
      else if s.twin.role ≠ .none then s.complete q .state []
      else if s.acc.relEpoch = 0xFFFFFFFF then s.complete q .limit []
      else if (s.id.signer cert).isNone ||
          !Config.ecdsaVerify (Config.certKey cert) (slice p 4 (84 + n) ++ padTo 8 Config.serial) (slice p (88 + n) 64) then s.complete q .badCheck []
      else
        let (k, s) := s.draw
        let (nonce, s) := State.drawBytes 16 s
        let e := s.acc.relEpoch + 1
        let key := Config.hkdf (slice p 4 16 ++ nonce) (Config.ecdh k eph) (le 4 e ++ [0x4B, 0x57, 0x52, 0x31]) 16
        let pcc := pubId (Config.certKey cert)
        let s := s.onAcc fun a => { a with pcc := some pcc, relKey := key, relEpoch := e, counter := 1, reserved := 1 }
        let s := s.record 0x7020 2 e (u32 pcc 0) 0
        let b := le 1 1 ++ zeros 3 ++ le 4 e ++ nonce ++ padTo 64 (Config.ephPublic k)
        (s.complete q .ok (b ++ padTo 64 (Config.deviceSign (p ++ b)))).relStart

/-- RELEASE_CONFIG UNPAIR (R444, R448). -/
def opReleaseConfigUnpair (r : CmdRef) (s : State) : State :=
  s.onCommand r 0x0904 fun q s =>
    let p := q.params
    if u8 p 0 ≠ 2 then s
    else if p.length ≠ 4 ∨ zeroAt p [1, 2, 3] = false then s.complete q .badParam []
    else if s.twin.role ≠ .none ∨ s.acc.pcc = none then s.complete q .state []
    else
      let s := (s.onAcc fun a => { a with pcc := none }).relStop
      (s.onAcc fun a => { a with relKey := [] }).complete q .ok (le 1 2 ++ zeros 3 ++ le 4 s.acc.relEpoch)

/-- RELEASE_CONFIG RENEW (R445, R448). -/
def opReleaseConfigRenew (r : CmdRef) (s : State) : State :=
  s.onCommand r 0x0904 fun q s =>
    let p := q.params
    if u8 p 0 ≠ 3 then s
    else if p.length ≠ 4 ∨ zeroAt p [1, 2, 3] = false then s.complete q .badParam []
    else if s.acc.cfg.leaseTime = 0 then s.complete q .state []
    else
      let sec := s.rcd.opSeconds
      let s := (s.onAcc fun a => { a with leaseOk := true, leaseFrom := (sec : Nat) }).record 0x7025 2 0 s.acc.cfg.leaseTime 0
      (s.complete q .ok (le 1 3 ++ zeros 3 ++ le 4 s.leaseLeft)).relStart

/-! ## Registers -/

/-- ACC_STATUS (R449). -/
def State.accStatus (s : State) : Nat :=
  let a := s.acc
  let r := s.stopReason
  b2n a.running + 2 * (if a.running then s.pollCode else 4) + 2 ^ 4 * b2n s.inDelay + 2 ^ 5 * b2n a.lockedOut + 2 ^ 6 * b2n a.tamper +
    2 ^ 7 * b2n a.pcc.isSome + 2 ^ 8 * b2n a.leased + 2 ^ 9 * b2n (r == 0) + 2 ^ 10 * b2n a.rekey + 2 ^ 16 * r

/-- A read of the access block, by offset from 0x2700_0000 (R449). -/
def State.readAccess (s : State) (off : Nat) : Nat :=
  let a := s.acc
  match off with
  | 0x00 => a.cfg.ctrl
  | 0x04 => a.cfg.range
  | 0x08 => a.cfg.can
  | 0x0C => a.cfg.id
  | 0x10 => a.cfg.lease
  | 0x20 => s.accStatus
  | 0x24 => a.failCount + 2 ^ 16 * s.delayLeft
  | 0x28 => a.present.toNat
  | 0x2C => a.granted.toNat
  | 0x30 => a.tokens.mask Option.isSome
  | 0x34 => a.grantSeq
  | 0x38 => a.lastSlot + 2 ^ 16 * a.lastDist
  | 0x3C => s.leaseLeft
  | 0x40 => a.relEpoch
  | 0x44 => a.counter % 2 ^ 32
  | 0x48 => a.counter / 2 ^ 32
  | 0x4C => a.grants + 2 ^ 16 * a.failures
  | _ => 0

/-! ## LOCKOUT -/

/-- LOCKOUT action 0 (R447, R448); a malformed ACTION ends here too. -/
def opLockout (r : CmdRef) (s : State) : State :=
  s.onCommand r 0x0905 fun q s =>
    let p := q.params
    if 1 ≤ u8 p 0 ∧ u8 p 0 ≤ 2 then s
    else if p.length ≠ 4 ∨ zeroAt p [0, 1, 2, 3] = false then s.complete q .badParam []
    else
      let s := if s.acc.lockedOut then s else ((s.onAcc fun a => { a with lockedOut := true }).record 0x7023 2 1 0 0).relStop
      s.complete q .ok (zeros 4 ++ le 4 s.accStatus)

/-- LOCKOUT action 1 (R448). -/
def opClearLockout (r : CmdRef) (s : State) : State :=
  s.onCommand r 0x0905 fun q s =>
    let p := q.params
    if u8 p 0 ≠ 1 then s
    else if p.length ≠ 4 ∨ zeroAt p [1, 2, 3] = false then s.complete q .badParam []
    else if !s.acc.lockedOut then s.complete q .state []
    else
      let s := ((s.onAcc fun a => { a with lockedOut := false }).record 0x7023 2 0 0 0).relStart
      s.complete q .ok (le 1 1 ++ zeros 3 ++ le 4 s.accStatus)

/-- LOCKOUT action 2 (R448). -/
def opClearTamper (r : CmdRef) (s : State) : State :=
  s.onCommand r 0x0905 fun q s =>
    let p := q.params
    let k := s.acc.cfg
    if u8 p 0 ≠ 2 then s
    else if p.length ≠ 4 ∨ zeroAt p [1, 2, 3] = false then s.complete q .badParam []
    else if !s.acc.tamper || (decide (k.tamperIn ≠ 0) && (s.inputReads k.tamperIn == k.tamperPol)) then s.complete q .state []
    else
      let s := ((s.onAcc fun a => { a with tamper := false }).record 0x7024 2 k.tamperIn 0 0).relStart
      s.complete q .ok (le 1 2 ++ zeros 3 ++ le 4 s.accStatus)

/-! ## Resets -/

/-- The service core stops (R441): the stream stops, its counter goes on from the next unreserved block. -/
def State.stopAccess (s : State) : State := s.relStop.onAcc fun a => { a with counter := a.reserved, rel := a.cfg }

/-- A reset of the service core (R6, R449): the grants and the presence of the tokens return to 0. A failure delay and the lease go on, which only a
Keep-domain cold start ends (R433, R434, R445; log entry 161). -/
def State.resetAccess (s : State) : State :=
  s.stopAccess.onAcc fun a =>
    { a with present := 0, granted := 0, absent := Tab.fill 32 0, grantSeq := 0, lastSlot := 0, lastDist := 0, lastFrame := 0 }

/-- A Keep-domain cold start (R433, R441, R445): the lease clears, a delay still owed restarts in full; the time of the latest failure stands in
flash. -/
def State.coldAccess (s : State) : State :=
  let t := s.now
  let s := if s.acc.leaseOk then s.record 0x7025 2 2 s.acc.cfg.leaseTime 0 else s
  s.onAcc fun a =>
    { a with leaseOk := false, counter := a.reserved, rel := a.cfg, relOn := false, burst := none, lastBurst := none, doorAt := none, doorReq := false,
             doorLevel := none, present := 0, granted := 0, absent := Tab.fill 32 0, deferred := 0,
             delayEnd := if a.owed = 0 then none else some (t + 1000000 * a.owed)
             grantSeq := 0, lastSlot := 0, lastDist := 0, lastFrame := 0 }

/-! ## The meanings of the commands -/

/-- FIELD_FRAME_RECEIVE (R267). -/
def execFieldFrameReceive (crcOk : Bool) (s : State) : Host.Outcome State Fault Refusal := .next (opFieldFrameReceive crcOk s)

/-- BURST_START (R429). -/
def execBurstStart (s : State) : Host.Outcome State Fault Refusal := .next (opBurstStart s)

/-- UWB_POLL (R432). -/
def execUwbPoll (seen : Vector SlotSeen 8) (s : State) : Host.Outcome State Fault Refusal := .next (opUwbPoll seen s)

/-- BURST_END (R433). -/
def execBurstEnd (s : State) : Host.Outcome State Fault Refusal := .next (opBurstEnd s)

/-- FAILURE_DELAY_END (R434). -/
def execFailureDelayEnd (s : State) : Host.Outcome State Fault Refusal := .next (opFailureDelayEnd s)

/-- FAIL_DECAY (R433). -/
def execFailDecay (s : State) : Host.Outcome State Fault Refusal := .next (opFailDecay s)

/-- LEASE_EXPIRY (R445). -/
def execLeaseExpiry (s : State) : Host.Outcome State Fault Refusal := .next (opLeaseExpiry s)

/-- TOKEN_ENROL (R426). -/
def execTokenEnrol (r : CmdRef) (s : State) : Host.Outcome State Fault Refusal := .next (opTokenEnrol r s)

/-- TOKEN_REVOKE (R427). -/
def execTokenRevoke (r : CmdRef) (s : State) : Host.Outcome State Fault Refusal := .next (opTokenRevoke r s)

/-- TOKEN_LIST (R447). -/
def execTokenList (r : CmdRef) (s : State) : Host.Outcome State Fault Refusal := .next (opTokenList r s)

/-- RELEASE_CONFIG_SET (R448). -/
def execReleaseConfigSet (r : CmdRef) (s : State) : Host.Outcome State Fault Refusal := .next (opReleaseConfigSet r s)

/-- RELEASE_CONFIG_PAIR (R437). -/
def execReleaseConfigPair (r : CmdRef) (s : State) : Host.Outcome State Fault Refusal := .next (opReleaseConfigPair r s)

/-- RELEASE_CONFIG_UNPAIR (R448). -/
def execReleaseConfigUnpair (r : CmdRef) (s : State) : Host.Outcome State Fault Refusal := .next (opReleaseConfigUnpair r s)

/-- RELEASE_CONFIG_RENEW (R445). -/
def execReleaseConfigRenew (r : CmdRef) (s : State) : Host.Outcome State Fault Refusal := .next (opReleaseConfigRenew r s)

/-- LOCKOUT (R447). -/
def execLockout (r : CmdRef) (s : State) : Host.Outcome State Fault Refusal := .next (opLockout r s)

/-- CLEAR_LOCKOUT (R448). -/
def execClearLockout (r : CmdRef) (s : State) : Host.Outcome State Fault Refusal := .next (opClearLockout r s)

/-- CLEAR_TAMPER (R448). -/
def execClearTamper (r : CmdRef) (s : State) : Host.Outcome State Fault Refusal := .next (opClearTamper r s)

end Sys2Proof.Machine
end

