-- ==== Sys2Proof/Machine/Resets.lean ====
section
/-! DEFINITION. Resets of islands (R318 to R320, R353), the hold reset (R316), the entry of FAULT words into the queue (R309, R317), and
FORCE_SAFE (R324, R325, R503). -/

namespace Sys2Proof.Machine

open Sys2Proof

/-! ## Resets -/

/-- The shuttle links that begin or end in an island start anew with it (log entry 96). -/
def State.resetLinks (s : State) (n : Nat) : State :=
  s.onLinks fun t => t.mapIdx fun k l => if LinkNo.sender k = n ∨ LinkNo.receiver k = n then Link.reset else l

/-- An island that starts has its PLL locked (R44, R51); I7 and I8 are ungated as the crystal allows (R44, R64). -/
def Clock.restart (k : Clock) (n : Isl) : Clock :=
  { k with onPll := k.onPll.put n true
           i7Run := k.i7Run || (decide (n.1 = 7) && k.settled && k.xoOk)
           i8Run := k.i8Run || (decide (n.1 = 8) && k.settled) }

/-- I1 (R319): the weft stops with reason 3; a restart by R114 is due. -/
def State.resetLoom (s : State) : State :=
  ((s.haltWeft 3).onLoom fun _ => Loom.reset).onWeft fun w => { w with autoTry := true }

/-- The handler that runs goes on from its first step (R312). -/
def Faults.restart (f : Faults) : Faults :=
  { f with queue := f.queue.map fun e => if e.state = .running then { e with step := 0 } else e }

/-- I2 (R292, R312, R319, R320, R327). -/
def State.resetService (s : State) : State :=
  let t := s.now
  let s := s.onFlt Faults.restart
  let s := s.releaseToken.resetCommands.dropFar.resetAccess
  s.onId fun k => { k with running := none, execRam := [], loader := false, resetAt := some t, armed := none, waitSaid := false }

/-- The fields of NM_STATUS return to 0 with their island (R6, R370). -/
def State.resetNm (s : State) : State :=
  s.onNm fun n =>
    { n with wakeInClearing := false, falseWake := false, maxAwake := false, keeper := false, cfgReject := false, settled := false }

/-- Every channel is OFF after a reset of I3, its own request gone; one with NM_CH_EN = 1 goes on to BUS_SLEEP when it is next judged (R6, R357, R370). -/
def State.resetNmChans (s : State) : State :=
  s.onNm fun n => { n with chans := n.chans.mapIdx fun _ c => { NmCh.reset with since := s.now, lastNode := c.lastNode } }

/-- I3 (R56, R319, R353): the warp keeper goes on from the local warp counter of I4. -/
def State.resetNetwork (s : State) : State :=
  let s := s.resetNm.resetNmChans.resetCan.resetEth.resetFar
  (s.onWt fun w => { w with warp := w.loc.get 4 }).rebase

/-- A reset of an island (R319). What the service core had sent to the island stands in it by then (R61; log entry 146). -/
def State.resetIsland (s : State) (n : Isl) : State :=
  let s := if n = 2 ∨ n = 4 then s.serviceDrain false else s
  let s := if n = 2 ∨ n = 5 then s.serviceDrain true else s
  let s := ((s.resetLinks n.1).onClk fun k => k.restart n).wdtStart fun m => m == n
  match n.1 with
  | 1 => s.resetLoom
  | 2 => s.resetService
  | 3 => s.resetNetwork
  | 4 => opSwitchReset s
  | 5 => opDriveReset s
  | 7 => (s.radioStop 2).radioEval
  | 8 => s.resetTwin
  | _ => s

/-- LOOM_RESET (R319). -/
def opLoomReset (s : State) : State := s.resetIsland 1

/-- SERVICE_CORE_RESET (R320). -/
def opServiceCoreReset (s : State) : State := s.resetIsland 2

/-- NETWORK_RESET (R353). -/
def opNetworkReset (s : State) : State := s.resetIsland 3

/-- Does the watchdog of an island run (R318, R496)? -/
def State.watched (s : State) (n : Isl) : Bool :=
  decide (n.1 ≠ 0) && decide (n.1 ≠ 6) && s.pwr.islandUp.get n && !(decide (s.pwr.state = .idle) && decide (n.1 ≤ 2))

/-- The timeout of an island's watchdog in µs (R318): I2 has 1 s from its reset until the firmware serves. -/
def State.wdtTimeout (s : State) (n : Isl) : Nat :=
  match n.1 with
  | 1 => 3000
  | 2 => if s.cmd.serving then 10000 else 1000000
  | 7 => 100000
  | 8 => 10000
  | _ => 5000

/-- WATCHDOG (R318): the island refreshed its watchdog last `ago` µs before. It runs out after its timeout, counted from no earlier than the start of
the watchdog. -/
def opWatchdog (n : Isl) (ago : Nat) (s : State) : State :=
  if s.watched n && decide (s.wdtTimeout n ≤ min ago (s.since (s.flt.wdtFrom.get n))) then
    ((s.resetIsland n).onFlt fun f => { f with wdtResets := f.wdtResets.upd n fun v => satAdd 255 v 1 }).fault .D 0 0xA110 n.1 0 0
  else s

/-! ## The fault queue -/

/-- The hold reset (R316, R317); the fault that caused it enters after the FAULT_OVERFLOW entry. -/
def State.holdReset (s : State) (w : FaultWord) : State :=
  let s := (s.releaseToken.closeGate 1).onFlt fun f => { f with gate := { f.gate with holdReset := true } }
  let s := s.forEach [1, 2, 3, 7, 8] fun n s => s.resetIsland n
  let q := s.flt.queue
  let mask := (Cls.order.map fun c => if q.any (fun e => decide (e.cls = c)) then 2 ^ c.num else 0).sum
  let t := s.now
  let s := s.onFlt fun f =>
    { f with queue := [], holdResets := satAdd 0xFFFF f.holdResets 1, quietEnd := some (t + 10000000), droppedInSec := 0, droppedAt := t }
  let s := s.recordSev 0xA100 0 Cls.D.num q.length mask s.flt.holdResets
  let e : FaultWord := { cls := .D, island := 0, code := 0xA100, p0 := w32 q.length, p1 := w32 mask, at_ := t, tick := s.tick, event := 0, seq := 0, resent := false }
  let s := (s.enterFault e).getD s
  s.onFlt fun f => { f with words := w :: f.words }

/-- The number of an island's link to the Taproot: R61 numbers the one from I2 alone; that of any other is free (log entry 129). -/
def State.rootLink (s : State) (island : Nat) : Nat × State := if island = 2 then (34, s) else s.draw

/-- A FAULT word whose CRC fails on the way to the Taproot (R60, R329): it goes once more, then it is given up. -/
def State.badFaultWord (s : State) (w : FaultWord) : State :=
  let (k, s) := s.rootLink w.island
  let s := if w.resent then s else s.onFlt fun f => { f with words := { w with resent := true } :: f.words }
  s.fault .D 0 0xA070 k w.seq tyFault

/-- The SEQ of a FAULT word that has passed its CRC (R59): how far it lies from the number expected; the Taproot expects the next. -/
def State.faultSeq (s : State) (w : FaultWord) : Nat × State :=
  let i : Fin 9 := Fin.ofNat 9 w.island
  let d := (w.seq + 256 - s.flt.rxSeq.get i) % 256
  if 128 ≤ d then (d, s)
  else
    let s := s.onFlt fun f => { f with rxSeq := f.rxSeq.put i ((w.seq + 1) % 256) }
    if d = 0 then (d, s)
    else
      let (k, s) := s.rootLink w.island
      (d, s.fault .D 0 0xA071 k d 0)

/-- FAULT_REPORT (R59, R60, R309, R310, R316, R317): the word that arrives next; the Taproot's own faults cross no link. -/
def opFaultReport (crcOk : Bool) (s : State) : State :=
  match takeFirst s.flt.words with
  | none => s
  | some (w, rest) =>
    let s := s.onFlt fun f => { f with words := rest }
    if !crcOk && decide (w.island ≠ 0) then s.badFaultWord w
    else
      let (d, s) := if w.island = 0 then (0, s) else s.faultSeq w
      if 128 ≤ d then s
      else
      match s.enterFault w with
      | some s => s.endIdle
      | none => if s.quiet then s.dropFault else s.endIdle.holdReset w

/-! ## FORCE_SAFE -/

/-- Does a channel stand at its SAFE_VALUE? -/
def Chan.atSafe (x : Chan) : Bool := decide (x.mode = if x.cfg.safeValue then Mode.on else Mode.off)

/-- FORCE_SAFE_ON (R215, R324, R326, R496, R503). -/
def opForceSafeOn (s : State) : State :=
  if s.flt.forceSafe || decide (s.pwr.state = .off) then s
  else
    let t := s.now
    let chans := if s.pwr.islandUp.get 4 = false then [] else if s.pwr.state = .sleep then allCh.filter fun c => (s.chan c).sleepHeld else allCh
    let away := (chans.filter fun c => !(s.chan c).atSafe).length
    let live := ((allAc.filter fun c => s.phase c ≠ .released).map fun c => 2 ^ c.1).sum
    let s := s.onFlt fun f => { f with forceSafe := true, forceSafeAt := t, forceSafeCnt := satAdd 0xFFFF f.forceSafeCnt 1 }
    let s := s.forEach chans fun c s => (s.toSafe c (s.chan c).cfg.safeValue 2).2
    let s := if s.driveUp then s.driveForceSafe else s
    let s := (s.closeGate 0).fault .S 0 0xA120 away live 0
    if s.pwr.state = .sleep ∨ s.pwr.state = .deep then s.moduleWake 8 0 else s.endIdle

/-- FORCE_SAFE_OFF (R325): inactive for 1 ms. -/
def opForceSafeOff (s : State) : State :=
  if !s.flt.forceSafe then s
  else
    let ms := min 0xFFFFFFFF (s.since s.flt.forceSafeAt / 1000)
    (s.onFlt fun f => { f with forceSafe := false }).record 0xA121 0 ms 0 0

/-! ## The meanings of the commands -/

/-- FAULT_REPORT (R309). -/
def execFaultReport (crcOk : Bool) (s : State) : Host.Outcome State Fault Refusal := .next (opFaultReport crcOk s)

/-- WATCHDOG (R318). -/
def execWatchdog (n : Isl) (ago : Nat) (s : State) : Host.Outcome State Fault Refusal := .next (opWatchdog n ago s)

/-- SWITCH_RESET (R158). -/
def execSwitchReset (s : State) : Host.Outcome State Fault Refusal := .next (s.resetIsland 4)

/-- DRIVE_RESET (R224). -/
def execDriveReset (s : State) : Host.Outcome State Fault Refusal := .next (s.resetIsland 5)

/-- LOOM_RESET (R319). -/
def execLoomReset (s : State) : Host.Outcome State Fault Refusal := .next (opLoomReset s)

/-- SERVICE_CORE_RESET (R320). -/
def execServiceCoreReset (s : State) : Host.Outcome State Fault Refusal := .next (opServiceCoreReset s)

/-- NETWORK_RESET (R353). -/
def execNetworkReset (s : State) : Host.Outcome State Fault Refusal := .next (opNetworkReset s)

/-- FORCE_SAFE_ON (R324). -/
def execForceSafeOn (s : State) : Host.Outcome State Fault Refusal := .next (opForceSafeOn s)

/-- FORCE_SAFE_OFF (R325). -/
def execForceSafeOff (s : State) : Host.Outcome State Fault Refusal := .next (opForceSafeOff s)

end Sys2Proof.Machine
end

