-- ==== Sys2Proof/Machine/IdentRows.lean ====
section
/-! DEFINITION. Sessions (R281), attestation, the key store (R455 to R458), secure boot (R463, R464) and the update from a medium (R465 to
R471, R513). -/

namespace Sys2Proof.Machine

open Sys2Proof

/-! ## SESSION_OPEN -/

/-- A refusal (R281, R307). -/
def State.sessionRefused (s : State) (q : Cmd) (st : Status) (why key : Nat) : State := (s.record 0x8032 2 why key 0).complete q st []

/-- A random SESSION_ID, not 0 and not that of an open session: the first of the free value and its successors that serves. -/
def State.freshSession (s : State) (v : Nat) : Nat :=
  let ok := fun (id : Nat) => decide (id ≠ 0) && (List.finRange 4).all fun k => match s.cmd.sessions.get k with
    | some x => x.id != id
    | none => true
  (((List.range 6).map fun i => (v + i) % 2 ^ 32).find? ok).getD 0

/-- SESSION_OPEN (R281, R292). -/
def opSessionOpen (r : CmdRef) (s : State) : State :=
  s.onCommand r 0x0104 fun q s =>
    let p := q.params
    let n := u16 p 82
    let cert := slice p 84 n
    let pub := Config.certKey cert
    let eph := slice p 16 64
    if n < 1 ∨ 1024 < n ∨ p.length ≠ 148 + n ∨ 1 < u8 p 80 ∨ u8 p 81 ≠ 0 then
      let (k, s) := s.draw
      s.sessionRefused q .badParam k 0
    else if !Config.onCurve eph then s.sessionRefused q .badParam 3 0
    else
      let lo := u32 (pubId pub) 0
      match s.id.signer cert with
      | none => s.sessionRefused q .badCheck 0 lo
      | some owner =>
        if !Config.ecdsaVerify pub (p.take (84 + n)) (p.drop (84 + n)) then s.sessionRefused q .badCheck 1 lo
        else
          match (List.finRange 4).find? fun k => (s.cmd.sessions.get k).isNone with
          | none => s.sessionRefused q .busy 2 lo
          | some k =>
            let (id0, s) := s.draw
            let (e, s) := s.draw
            let (nonce, s) := State.drawBytes 16 s
            let id := s.freshSession id0
            let key := Config.hkdf (slice p 0 16 ++ nonce) (Config.ecdh e eph) (le 4 id ++ [0x4B, 0x57, 0x53, 0x31]) 32
            let x : Session :=
              { id := id, khd := key.take 16, kdh := key.drop 16, keyId := pubId pub, ownerId := pubId owner, notify := bit (u8 p 80) 0
                top := 0, seen := [], txSeq := 0, addr := q.addr, lastAt := s.now }
            let b := le 4 id ++ nonce ++ padTo 64 (Config.ephPublic e) ++ le 2 Config.deviceCert.length ++ zeros 2 ++ Config.deviceCert
            let s := s.onCmd fun c => c.setSession k (some x)
            let s := s.record 0x8030 2 id k.1 lo
            (s.complete { q with session := id } .ok (b ++ padTo 64 (Config.deviceSign (p ++ b)))).claimGroups k x

/-! ## Attestation -/

/-- ATTEST (R459). -/
def opAttest (r : CmdRef) (s : State) : State :=
  s.onCommand r 0x0A01 fun q s => if q.params.length ≠ 16 then s.complete q .badParam [] else s.complete q .ok (s.attestReply q.params)

/-! ## KEY_INSTALL -/

/-- The entries of a role that are free (R454, R456). -/
def Ident.freeOf (k : Ident) (role : Nat) : Nat :=
  match role with
  | 1 => 4 - (k.keysOf 1).length
  | 2 => 8 - (k.keysOf 2).length
  | _ => 0

/-- Checks 1 to 3 (R457). -/
def State.keyCheck (s : State) (p : List Byte) : Option Status :=
  let a := u8 p 0
  let role := u8 p 1
  let data := slice p 8 64
  let shape := match a with
    | 0 => (role == 1 || role == 2) && Config.onCurve data
    | 1 => (role == 1 || role == 2) && data.drop 8 == zeros 56
    | 2 => role == 0 && data.drop 4 == zeros 60
    | _ => false
  if p.length ≠ 144 ∨ zeroAt p [2, 3] = false ∨ shape = false then some .badParam
  else if s.id.keySeq = 0xFFFFFFFF then some .limit
  else if u32 p 4 ≠ s.id.keySeq + 1 then some .state
  else
    match s.id.keyNamed 1 (slice p 72 8) with
    | none => some .badCheck
    | some pub => if Config.ecdsaVerify pub (p.take 80 ++ padTo 8 Config.serial) (p.drop 80) then none else some .badCheck

/-- A statement that passes its checks: KEY_SEQ follows, the record is written, the reply goes (R456 to R458). -/
def State.keyDone (s : State) (q : Cmd) (code p0 p1 : Nat) (keyId : List Byte) : State :=
  let n := u32 q.params 4
  let s := (s.onId fun k => { k with keySeq := n }).record code 2 p0 p1 n
  s.complete q .ok (le 1 (u8 q.params 0) ++ le 1 (u8 q.params 1) ++ le 1 (s.id.freeOf (u8 q.params 1)) ++ zeros 1 ++ le 4 n ++ padTo 8 keyId)

/-- KEY_INSTALL action 0 (R457); a malformed ACTION ends here too. -/
def opKeyAdd (r : CmdRef) (s : State) : State :=
  s.onCommand r 0x0A02 fun q s =>
    let p := q.params
    let role := u8 p 1
    let pub := slice p 8 64
    if 1 ≤ u8 p 0 ∧ u8 p 0 ≤ 2 then s
    else
      match s.keyCheck p with
      | some st => s.complete q st []
      | none =>
        if (s.id.keysOf 1 ++ s.id.keysOf 2).contains pub then s.complete q .state []
        else
          match (List.finRange 12).find? fun i => (s.id.keys.get i).isNone with
          | none => s.complete q .limit []
          | some i =>
            if s.id.freeOf role = 0 then s.complete q .limit []
            else
              let s := s.onId fun k => { k with keys := k.keys.put i (some { role := role, pub := pub }) }
              s.keyDone q 0x8020 role (u32 (pubId pub) 0) (pubId pub)

/-- Does a committed weft name the key (R457)? -/
def State.weftNames (s : State) (keyId : List Byte) : Bool :=
  s.weft.store.any fun w => match w with
    | some w => weftKeyId w.image == keyId
    | none => false

/-- KEY_INSTALL action 1 (R457, R458): sessions under a removed owner key close with cause 4 after the reply. -/
def opKeyRemove (r : CmdRef) (s : State) : State :=
  s.onCommand r 0x0A02 fun q s =>
    let p := q.params
    let role := u8 p 1
    let keyId := slice p 8 8
    if u8 p 0 ≠ 1 then s
    else
      match s.keyCheck p with
      | some st => s.complete q st []
      | none =>
        if (s.id.keyNamed role keyId).isNone || (role == 1 && decide ((s.id.keysOf 1).length ≤ 1)) || s.weftNames keyId then
          s.complete q .state []
        else
          let gone := fun (e : KeyEntry) => e.role == role && pubId e.pub == keyId
          let s := s.onId fun k => { k with keys := k.keys.mapIdx fun _ e => e.filter fun x => !gone x }
          let s := s.keyDone q 0x8021 role (u32 keyId 0) keyId
          if role = 1 then
            let l := (List.finRange 4).filter fun k => match s.cmd.sessions.get k with
              | some x => x.ownerId == keyId
              | none => false
            s.forEach l fun k s => s.closeSession k 4
          else s

/-- KEY_INSTALL action 2 (R457, R458). -/
def opWeftFloorRaise (r : CmdRef) (s : State) : State :=
  s.onCommand r 0x0A02 fun q s =>
    let p := q.params
    let v := u32 p 8
    if u8 p 0 ≠ 2 then s
    else
      match s.keyCheck p with
      | some st => s.complete q st []
      | none =>
        let lower := s.weft.store.any fun w => match w with
          | some w => decide (w.secVersion < v)
          | none => false
        let old := s.id.floor
        if v ≤ old ∨ lower = true then s.complete q .state []
        else (s.onId fun k => { k with floor := v }).keyDone q 0x8022 old v []

/-! ## Images -/

/-- Does the signature of an image verify (R462)? -/
def imageSigned (p : List Byte) : Bool :=
  match Config.firmwareKey (slice p 44 8) with
  | none => false
  | some pub => Config.ecdsaVerify pub (p.take (p.length - 64)) (p.drop (p.length - 64))

/-- The checks of a header (R461 and step 1 of R468): each with its REASON and the header offset it concerns (log entry 105). -/
def headerChecks (p : List Byte) : List (Bool × Nat × Nat) :=
  let blocks := u16 p 26
  let plain := u32 p 28
  [(decide (128 ≤ p.length) && u32 p 0 == 0x4D49574B, 2, 0), (u16 p 4 == 1, 2, 4), (u16 p 6 == 128, 2, 6),
   (u32 p 8 == 128 + plain + 16 * blocks + 64 && p.length == u32 p 8, 2, 8), (blocks == (plain + 65535) / 65536, 2, 26),
   (decide (1 ≤ plain) && decide (plain ≤ 3145728), 2, 28), (decide (u8 p 32 ≤ 3), 2, 32), (slice p 33 3 == zeros 3, 2, 33),
   (slice p 52 76 == zeros 76, 2, 52), (u32 p 16 == 0x4812, 3, 16), (Config.imageKeyHeld (u8 p 32), 3, 32),
   ((Config.firmwareKey (slice p 44 8)).isSome, 4, 44)]

/-- Steps 1 and 2 of R468: the REASON of the first check that fails, and the header offset it concerns. -/
def imageFault (arb : Nat) (p : List Byte) : Option (Nat × Nat) :=
  let sec := u32 p 12
  let rest : List (Bool × Nat × Nat) := [(imageSigned p, 5, 0), (decide (arb ≤ sec), 6, 12), (decide (sec ≤ 64), 7, 12)]
  ((headerChecks p ++ rest).find? fun c => !c.1).map fun c => c.2

/-- Step 2 of R463. -/
def headerOk (p : List Byte) : Bool := ((headerChecks p).all fun c => c.1) && decide (u32 p 12 ≤ 64)

/-- Step 3 of R463 on the image as the flash reads: every page check, then the signature (R462, R470). -/
def Flash.sealed (f : Flash) (p : List Byte) : Bool :=
  decide (((List.range (u16 p 26)).map fun i => pageChecks (imageBlock p i)) = f.checks) && imageSigned p

/-- The first step of R463 that an image fails, 0 for none. -/
def Flash.bootStep (f : Flash) (arb : Nat) (p : List Byte) : Nat :=
  if !headerOk p then 2
  else if !f.sealed p then 3
  else if u32 p 12 < arb then 4
  else if !((List.range (u16 p 26)).all fun i => Config.blockTag (p.take 128) i (imageBlock p i)) then 5
  else 0

/-- A block is written with its page checks (R468 step 4, R470). -/
def Flash.write (f : Flash) (i : Nat) (block : List Byte) : Flash :=
  { f with blocks := f.blocks.take i ++ [block] ++ f.blocks.drop (i + 1), checks := f.checks.take i ++ [pageChecks block] ++ f.checks.drop (i + 1) }

/-- After the last block the header and the signature are written (R468 step 5). -/
def Flash.close (f : Flash) (p : List Byte) : Flash :=
  { header := p.take 128, blocks := f.blocks.take (u16 p 26), checks := f.checks.take (u16 p 26), sig := p.drop (p.length - 64) }

/-- The journal of an update that begins with an image (R468 step 3). -/
def Journal.begin (p : List Byte) : Journal :=
  { digest := imageDigest p, version := u32 p 20, security := u32 p 12, blocks := u16 p 26, done := 0 }

/-! ## Update commands -/

/-- The reply of UPDATE_ARM (R467); where no file is read, what it would tell is free (log entry 58). -/
def State.updateReply (s : State) (q : Cmd) (st : Status) (reason : Nat) (img : Option (List Byte)) : State :=
  let head := le 1 (u8 q.params 0) ++ le 1 reason ++ zeros 2
  match img with
  | some p => s.complete q st (head ++ le 4 (u32 p 20) ++ le 4 (u32 p 12) ++ le 4 (u32 p 8) ++ le 4 s.id.arb)
  | none =>
    let (b, s) := State.drawBytes 12 s
    s.complete q st (head ++ b ++ le 4 s.id.arb)

/-- UPDATE_ARM of either mode (R467): on success `go` follows. -/
def State.updateArm (s : State) (q : Cmd) (m : Option Medium) (go : State → State) : State :=
  match Medium.img m with
  | none => s.updateReply q .state 1 none
  | some p =>
    if s.twin.role = .lead ∧ (s.twin.pair = .paired ∨ s.twin.pair = .broken) then s.updateReply q .state 10 (some p)
    else
      match imageFault s.id.arb p with
      | none => go (s.updateReply q .ok 0 (some p))
      | some (reason, _) => s.updateReply q (if 6 ≤ reason then .denied else .badCheck) reason (some p)

/-- UPDATE_CHECK (R467 MODE 0); a malformed MODE ends here too. -/
def opUpdateCheck (r : CmdRef) (m : Option Medium) (s : State) : State :=
  s.onCommand r 0x0A03 fun q s =>
    let p := q.params
    if u8 p 0 = 1 then s
    else if p.length ≠ 4 ∨ zeroAt p [0, 1, 2, 3] = false then s.complete q .badParam []
    else s.updateArm q m fun s => s

/-- UPDATE_ARM (R467 MODE 1): the update is to start within 100 ms. -/
def opUpdateArm (r : CmdRef) (m : Option Medium) (s : State) : State :=
  s.onCommand r 0x0A03 fun q s =>
    let p := q.params
    if u8 p 0 ≠ 1 then s
    else if p.length ≠ 4 ∨ zeroAt p [1, 2, 3] = false then s.complete q .badParam []
    else s.updateArm q m fun s =>
      let t := s.now
      s.onId fun k => { k with armed := some (t, false) }

/-- The key of a file KWOTOWN.KEY is installed on an unclaimed module (R455). -/
def State.installOwner (s : State) (file : List Byte) : State :=
  let pub := file.drop 8
  if !(s.id.keysOf 1).isEmpty || decide (file.length ≠ 72) || file.take 8 != [0x4B, 0x57, 0x4F, 0x4B, 0, 0, 0, 0] then s
  else if !Config.onCurve pub then s.record 0x8013 2 9 0 0
  else
    match (List.finRange 12).find? fun i => (s.id.keys.get i).isNone with
    | none => s
    | some i =>
      (s.onId fun k => { k with keySeq := 0, keys := k.keys.put i (some { role := 1, pub := pub }) }).record 0x8023 2 (u32 (pubId pub) 0) 0 0

/-- The key file of the power-up is dealt with before anything else follows from the watch of WAKE (R467, R513). -/
def State.claimPending (s : State) : State :=
  match s.id.keyFile with
  | none => s
  | some file => (s.onId fun k => { k with keyFile := none }).installOwner file

/-- OWNER_CLAIMED (R455, R513): the loader has read the file KWOTOWN.KEY of the medium found at power-up. -/
def opOwnerClaimed (file : List Byte) (s : State) : State :=
  if s.id.watch.isNone || decide (s.id.keyFile ≠ some file) then s else s.claimPending

/-- UPDATE_ARM_BY_WAKE (R467): WAKE has stayed active for 10 s from the power-up; the key of R455 stands by then. -/
def opUpdateArmByWake (s : State) : State :=
  match s.id.watch with
  | some (t, true) =>
    if s.now < t + 10000000 then s
    else
      let now := s.now
      s.claimPending.onId fun k => { k with watch := none, armed := some (now, true) }
  | _ => s

/-! ## The loader -/

/-- The loader waits for a medium (R469). -/
def State.enterWait (s : State) : State :=
  let t := s.now
  let said := s.id.waitSaid
  let done := match s.id.journal with
    | some j => j.done
    | none => 0
  let s := s.onId fun k => { k with waiting := true, waitSaid := true, pollAt := t }
  if said then s else s.fault .D 2 0x8014 done 0 0

/-- The resume rule (R469). -/
def State.resume (s : State) (j : Journal) (m : Option Medium) : State :=
  match Medium.img m with
  | none => s.enterWait
  | some p =>
    if imageDigest p = j.digest ∧ imageSigned p = true then
      (s.onId fun k => { k with waiting := false }).record 0x8011 2 j.done j.blocks 0
    else if (imageFault s.id.arb p).isNone then s.onId fun k => { k with waiting := false, journal := some (Journal.begin p) }
    else s.enterWait

/-- Only the loader runs (R471): I1 is held in reset. -/
def State.loaderRuns (s : State) : State :=
  let s := (s.resetLinks 1).resetLoom
  (s.onPwr fun p => { p with islandUp := p.islandUp.put 1 false }).onId fun k => { k with loader := true, resetAt := none, running := none, execRam := [] }

/-- The loader ends; the boot of R463 follows. -/
def State.bootNext (s : State) : State :=
  let t := s.now
  s.onId fun k => { k with loader := false, waiting := false, resetAt := some t }

/-- The firmware serves (R319, R326, R504 step 4). -/
def State.serve (s : State) : State :=
  let t := s.now
  let s := s.onPwr fun p => { p with islandUp := p.islandUp.put 1 true, idleSince := t, sleepSince := t }
  let s := (opPermitRenewal (s.onCmd fun c => { c with serving := true })).canGroups.wdtStart fun n => n == 1 || n == 2
  if s.pwr.wakeDue then
    let s := s.record 0x0002 0 s.pwr.lastSource s.pwr.detail s.pwr.stateLeft
    let s := s.onPwr fun p => { p with wakeDue := false }
    if h : s.pwr.lastSource = 2 ∧ 1 ≤ s.pwr.detail ∧ s.pwr.detail ≤ 6 then
      let c : CanNo := ⟨s.pwr.detail - 1, by omega⟩
      let s := s.nmEnter c .listen
      s.record 0x4021 3 (canNum c) (s.nmCh c).cause (s.nmCh c).wakeId
    else s
  else s

/-- A step of R463 fails: loader mode, with no decrypted block in execution RAM (R464). -/
def State.bootFails (s : State) (step : Nat) (p : List Byte) : State :=
  let t := s.now
  let s := s.onId fun k => { k with loader := true, resetAt := none, running := none, execRam := [], pollAt := t }
  s.fault .D 2 0x8002 step (if 128 ≤ p.length then u32 p 20 else 0) 0

/-- BOOT (R463, R464): `otpOk` is the loader's check of the OTP, `flash` is what the flash reads at this boot where it is not what was written. -/
def opBoot (otpOk : Bool) (flash : Option (List Byte)) (m : Option Medium) (s : State) : State :=
  match s.id.resetAt with
  | none => s
  | some t0 =>
    let held := match s.id.watch with
      | some (t, arm) => arm || decide (s.now < t + 10000000)
      | none => false
    if held || s.id.armed.isSome || !s.pwr.islandUp.get 2 then s
    else
      let s := s.claimPending.onId fun k => { k with watch := none }
      let p := flash.getD s.id.stored.bytes
      match otpOk, s.id.journal with
      | false, _ => s.bootFails 1 p
      | true, some j => s.loaderRuns.resume j m
      | true, none =>
        let step := s.id.stored.bootStep s.id.arb p
        if step ≠ 0 then s.bootFails step p
        else
          let ms := s.since t0 / 1000
          let s := s.onId fun k =>
            { k with running := some { version := u32 p 20, security := u32 p 12 }, execRam := List.range (u16 p 26), loader := false, resetAt := none }
          (s.record 0x8001 2 (u32 p 20) (u32 p 12) ms).serve

/-- UPDATE_START (R468 steps 1 to 3, R471). -/
def opUpdateStart (m : Option Medium) (s : State) : State :=
  match s.id.armed with
  | none => s
  | some (_, wake) =>
    let s := ((s.resetLinks 2).resetService.loaderRuns).onId fun k => { k with armed := none, watch := none }
    let reject := fun (reason off : Nat) => (s.record 0x8013 2 reason off 0).bootNext
    match Medium.img m with
    | none => reject 1 0
    | some p =>
      match imageFault s.id.arb p with
      | some (reason, off) => reject reason off
      | none =>
        (s.record 0x8010 2 (u32 p 20) (u32 p 12) (b2n wake)).onId fun k => { k with journal := some (Journal.begin p), waiting := false }

/-- Steps 5 and 6 of R468 with the image of the medium; the stored image is verified as the flash reads it. -/
def State.updateEnd (s : State) (j : Journal) (image : List Byte) (flash : Option (List Byte)) : State :=
  let s := s.onId fun k => { k with stored := k.stored.close image }
  let p := flash.getD s.id.stored.bytes
  if !(headerOk p && s.id.stored.sealed p) then s.enterWait
  else
    let old := s.id.arb
    let s := if old < j.security then (s.onId fun k => { k with arb := j.security }).record 0x8024 2 old j.security 0 else s
    ((s.onId fun k => { k with journal := none }).record 0x8012 2 j.version s.id.arb 0).bootNext

/-- UPDATE_BLOCK (R468 step 4, R470): the next block is read, checked, written and journaled; after the last the update ends. `flash` is what the
flash reads at that end where it is not what was written. -/
def opUpdateBlock (m : Option Medium) (flash : Option (List Byte)) (s : State) : State :=
  match s.id.journal with
  | none => s
  | some j =>
    if !s.id.loader || s.id.waiting then s
    else
      match Medium.img m with
      | none => s.enterWait
      | some p =>
        if imageDigest p ≠ j.digest then s.enterWait
        else if j.blocks ≤ j.done then s.updateEnd j p flash
        else if !Config.blockTag (p.take 128) j.done (imageBlock p j.done) then
          (s.record 0x8013 2 11 j.done 0).enterWait
        else
          let i := j.done
          let j := { j with done := i + 1 }
          let s := s.onId fun k => { k with stored := k.stored.write i (imageBlock p i), journal := some j }
          if j.blocks ≤ j.done then s.updateEnd j p flash else s

/-- MEDIUM_POLL (R469): every 1 s while the loader waits. -/
def opMediumPoll (m : Option Medium) (s : State) : State :=
  if !s.id.loader || decide (s.since s.id.pollAt < 1000000) then s
  else
    let t := s.now
    let s := s.onId fun k => { k with pollAt := t }
    match s.id.journal with
    | some j => if s.id.waiting then s.resume j m else s
    | none => s

/-- WAKE_FALLS (R467, R513): the watch of WAKE ends; the boot of R463 follows. -/
def opWakeFalls (s : State) : State := s.claimPending.onId fun k => { k with watch := none }

/-! ## The identity area -/

/-- The identity area (R453) as bytes from 0x7F00_0000; bytes not listed read 0. -/
def State.identBytes (s : State) : List Byte :=
  let k := s.id
  let entry := fun (e : Option KeyEntry) => match e with
    | none => zeros 80
    | some e => le 1 e.role ++ zeros 7 ++ padTo 8 (pubId e.pub) ++ padTo 64 e.pub
  padTo 0x40 (le 4 0x4812 ++ le 4 k.runVersion ++ le 4 Config.loaderVersion ++ padTo 8 Config.serial ++ le 4 k.runSecurity ++ le 4 k.arb ++
    le 4 k.floor ++ padTo 8 (pubId Config.devicePub) ++ le 4 k.keySeq ++ le 4 k.updateState) ++
  padTo 64 Config.devicePub ++ padTo 0x80 (le 2 Config.deviceCert.length ++ le 2 Config.deviceCaCert.length) ++
  padTo 512 Config.deviceCert ++ padTo 512 Config.deviceCaCert ++ (k.keys.toList.flatMap entry)

/-! ## The meanings of the commands -/

/-- SESSION_OPEN (R281). -/
def execSessionOpen (r : CmdRef) (s : State) : Host.Outcome State Fault Refusal := .next (opSessionOpen r s)

/-- BOOT (R463). -/
def execBoot (otpOk : Bool) (flash : Option (List Byte)) (m : Option Medium) (s : State) : Host.Outcome State Fault Refusal :=
  .next (opBoot otpOk flash m s)

/-- ATTEST (R459). -/
def execAttest (r : CmdRef) (s : State) : Host.Outcome State Fault Refusal := .next (opAttest r s)

/-- KEY_ADD (R457). -/
def execKeyAdd (r : CmdRef) (s : State) : Host.Outcome State Fault Refusal := .next (opKeyAdd r s)

/-- KEY_REMOVE (R458). -/
def execKeyRemove (r : CmdRef) (s : State) : Host.Outcome State Fault Refusal := .next (opKeyRemove r s)

/-- WEFT_FLOOR_RAISE (R458). -/
def execWeftFloorRaise (r : CmdRef) (s : State) : Host.Outcome State Fault Refusal := .next (opWeftFloorRaise r s)

/-- UPDATE_CHECK (R467). -/
def execUpdateCheck (r : CmdRef) (m : Option Medium) (s : State) : Host.Outcome State Fault Refusal := .next (opUpdateCheck r m s)

/-- UPDATE_ARM (R467). -/
def execUpdateArm (r : CmdRef) (m : Option Medium) (s : State) : Host.Outcome State Fault Refusal := .next (opUpdateArm r m s)

/-- UPDATE_ARM_BY_WAKE (R467). -/
def execUpdateArmByWake (s : State) : Host.Outcome State Fault Refusal := .next (opUpdateArmByWake s)

/-- OWNER_CLAIMED (R513). -/
def execOwnerClaimed (file : List Byte) (s : State) : Host.Outcome State Fault Refusal := .next (opOwnerClaimed file s)

/-- UPDATE_START (R468). -/
def execUpdateStart (m : Option Medium) (s : State) : Host.Outcome State Fault Refusal := .next (opUpdateStart m s)

/-- UPDATE_BLOCK (R468). -/
def execUpdateBlock (m : Option Medium) (flash : Option (List Byte)) (s : State) : Host.Outcome State Fault Refusal :=
  .next (opUpdateBlock m flash s)

/-- MEDIUM_POLL (R469). -/
def execMediumPoll (m : Option Medium) (s : State) : Host.Outcome State Fault Refusal := .next (opMediumPoll m s)

/-- WAKE_FALLS (R513). -/
def execWakeFalls (s : State) : Host.Outcome State Fault Refusal := .next (opWakeFalls s)

end Sys2Proof.Machine
end

