-- ==== Sys2Proof/Machine/PowerRows.lean ====
section
/-! DEFINITION. The supplies (R23, R29 to R32), and the power states (R494 to R511, R44, R56, R159, R160, R225, R269). -/

namespace Sys2Proof.Machine

open Sys2Proof

/-! ## The power inputs, VBUS and the supply monitor -/

/-- PWR_LOW (R31): `mv` is the lowest voltage of the 100 µs. -/
def opPwrLow (p : PwrNo) (mv : Nat) (s : State) : State :=
  if s.supply.low.get p = true ∨ s.pwr.state = .off then s
  else
    let s := s.onSupply fun v => { v with low := v.low.put p true, lowSeen := v.lowSeen.put p true }
    (s.record 0x0120 0 p.1 mv 0).railUpdate

/-- PWR_RESTORED (R31); off-state evaluations of the input's channels begin anew (R180). -/
def opPwrRestored (p : PwrNo) (s : State) : State :=
  if s.supply.low.get p = false ∨ s.pwr.state = .off then s
  else (((s.onSupply fun v => { v with low := v.low.put p false }).offAnew fun c => swInput c == p).record 0x0121 0 p.1 0 0).railUpdate

/-- VBUS_FAULT (R23). -/
def opVbusFault (s : State) : State :=
  if !s.supply.vbusOn then s
  else
    let t := s.now
    s.onSupply fun v => { v with vbusOn := false, vbusFault := true, vbusOffAt := t }

/-- VBUS_RESTORE (R23). -/
def opVbusRestore (s : State) : State :=
  if s.supply.vbusOn = true ∨ s.since s.supply.vbusOffAt < 1000000 then s else s.onSupply fun v => { v with vbusOn := true }

/-- Do the voltages lie within the operating maxima (R34)? -/
def withinMaxima (aux a b c d : Nat) : Bool := decide (aux ≤ 34000) && decide (a ≤ 34000) && decide (b ≤ 34000) && decide (c ≤ 34000) && decide (d ≤ 34000)

/-- SUPPLY_MONITOR_UPDATE (R32): AUX and PWR_A to PWR_D in mV. -/
def opSupplyMonitorUpdate (aux a b c d : Nat) (s : State) : State :=
  s.onSupply fun v =>
    let band := decide (aux < 16000) && v.loss.isNone
    { v with auxMv := aux % 65536, pwrMv := Tab.ofList [a % 65536, b % 65536, c % 65536, d % 65536] 0, auxBand := band
             auxDip := v.auxDip || band }

/-- The supply monitor's registers (R32), by offset from 0x2800_0100. -/
def State.readSupply (s : State) (off : Nat) : Nat :=
  let v := s.supply
  match off with
  | 0x00 =>
    b2n v.auxBand + 2 * v.low.mask (fun b => b) + 2 ^ 5 * b2n v.fpPresent + 2 ^ 8 * b2n v.auxDip + 2 ^ 9 * v.lowSeen.mask (fun b => b) +
      2 ^ 16 * b2n v.vbusFault
  | 0x04 => v.auxMv
  | 0x08 => v.pwrMv.get 0
  | 0x0C => v.pwrMv.get 1
  | 0x10 => v.pwrMv.get 2
  | 0x14 => v.pwrMv.get 3
  | 0x18 => v.fpMv
  | 0x20 => v.sums.get 0 % 65536
  | 0x24 => v.sums.get 1 % 65536
  | 0x28 => v.sums.get 2 % 65536
  | 0x2C => v.sums.get 3 % 65536
  | 0x30 => unsigned 16 v.baseTemp
  | 0x34 => v.diss1 % 65536
  | 0x38 => v.diss60 % 65536
  | _ => 0

/-- A write: the flags of SUPPLY_STATUS are W1C (R32). -/
def State.writeSupply (s : State) (off v : Nat) : Status × State :=
  if off = 0 then
    (.ok, s.onSupply fun x =>
      { x with auxDip := x.auxDip && !bit v 8, lowSeen := x.lowSeen.mapIdx fun i b => b && !bit v (9 + i.1), vbusFault := x.vbusFault && !bit v 16 })
  else (.ok, s)

/-! ## The conditions of Idle and Sleep -/

/-- Does the service core have work (R495)? The command with id `except` is not counted. -/
def State.coreBusy (s : State) (except : Option Nat) : Bool :=
  let n := ((allGroups.flatMap fun g =>
      let x := s.group g
      x.taken ++ x.exec.toList ++ x.handed) ++ (List.finRange 6).flatMap fun i => (s.cmd.sources.get i).waiting ++ (s.cmd.sources.get i).exec.toList).filter
    fun c => some c.id != except
  !n.isEmpty || (allFar.any fun p => !(s.farPort p).queue.isEmpty || !(s.farPort p).ahead.isEmpty || (s.farPort p).current.isSome) ||
    s.cmd.load.isSome || !s.flt.queue.isEmpty

/-- Does a weft run, start or await a swap? -/
def State.weftBusy (s : State) : Bool := s.weftActive || s.weft.swapping.isSome

/-- Is the pair in a state that keeps the module awake: PAIR_STATE 2 or 3 (R495, R502)? -/
def State.pairBusy (s : State) : Bool := decide (s.twin.pair = .pairing) || decide (s.twin.pair = .paired)

/-- The conditions of R495 apart from T_IDLE1. -/
def State.idleOk (s : State) (except : Option Nat) : Bool := !s.weftBusy && !s.coreBusy except && !s.acc.relOn && !s.pairBusy

/-- Does a channel, an actuator or a field output block Sleep (R497)? -/
def State.outputBlocks (s : State) : Bool :=
  (allCh.any fun c =>
    let x := s.chan c
    decide (x.mode ≠ .off) && !(x.cfg.sleepHold && decide (x.mode = .on))) ||
  (allAc.any fun c => decide (s.phase c ≠ .released)) || s.side.outs.any fun o => o.applied

/-- SLEEP_BLOCK (R497, R510): BLK_WEFT in bit 0 to BLK_TWIN in bit 7. -/
def State.sleepBlock (s : State) (except : Option Nat) : Nat :=
  b2n s.weftBusy + 2 * b2n (s.coreBusy except) + 4 * b2n s.acc.relOn + 8 * b2n (!s.netAsleep) +
    16 * b2n ((List.finRange 4).any fun k => (s.cmd.sessions.get k).isSome) + 32 * b2n s.outputBlocks + 64 * b2n s.flt.forceSafe +
    128 * b2n (s.pairBusy || decide (s.twin.pair = .broken))

/-- The sleep-held channels (R159). -/
def State.sleepHeld (s : State) : List ChNo := allCh.filter fun c => (s.chan c).sleepHeld

/-- Is a channel sleep-held and on (R498)? -/
def State.heldOn (s : State) : Bool := s.sleepHeld.any fun c => (s.chan c).output

/-- The timers of R495, R497 and R498 at each tick. -/
def State.powerWatch (s : State) : State :=
  let t := s.now
  match s.pwr.state with
  | .run | .idle =>
    let i := s.idleOk none && s.cmd.serving
    let z := s.sleepBlock none == 0 && s.cmd.serving
    s.onPwr fun p => { p with idleSince := if i then p.idleSince else t, sleepSince := if z then p.sleepSince else t }
  | .sleep =>
    let on := s.heldOn
    s.onPwr fun p =>
      match p.t3From with
      | some f => if on then { p with t3Used := p.t3Used + (t - f), t3From := none } else p
      | none => if on then p else { p with t3From := some t }
  | _ => s

/-! ## Loss of power by islands -/

/-- The islands that R494 leaves without power lose what they hold (R506): `keepSwitch` spares I4. `field` is what becomes of the field side. -/
def State.unpower (s : State) (keepSwitch : Bool) (field : FieldSide → FieldSide) : State :=
  let up := fun (n : Isl) => s.pwr.islandUp.get n
  let s := if up 2 then s.releaseToken.resetCommands.dropFar.stopAccess.clearMem 0x1C000000 0x1C200000 else s
  let s := if up 1 then (s.resetLoom.clearMem 0 0x80000).clearMem 0x10000000 0x18040000 else s
  let s := if up 3 then s.resetCan.resetEth.resetFar.resetNm else s
  let s := if up 4 && !keepSwitch then s.switchClear else s
  let s := if up 5 then s.driveClear else s
  let s := (s.fieldStop field).onSupply fun v => { v with fpPresent := false }
  let s := if up 8 then s.resetTwin else s
  let s := s.onLinks fun _ => Tab.fill 23 Link.reset
  let s := s.onPwr fun p => { p with islandUp := (Tab.fill 9 false).put 0 true |>.put 4 (keepSwitch && up 4) |>.put 6 s.side.running }
  s.onId fun k => { k with running := none, execRam := [], loader := false, resetAt := none, armed := none, watch := none, keyFile := none }

/-- The clocks start (R44 step 1); the trims and the W1C flags stay. -/
def Clock.start (k : Clock) (now : Nat) : Clock :=
  { Clock.reset with
    startAt := now, xoEnabledAt := now, trimAt := now, lfoTrimmed := k.lfoTrimmed, clkStuck := k.clkStuck, xoLost := k.xoLost, xoFail := k.xoFail
    warpErr := k.warpErr, pllLost := k.pllLost, hfoTrim := k.hfoTrim, hfoDev := k.hfoDev, lfoDev := k.lfoDev }

/-- Warp time on a wake (R56). -/
def State.warpResume (s : State) : State :=
  let v := BitVec.ofNat 64 s.warpAwake
  s.onWt fun w => { w with warp := v, loc := Tab.fill 9 v, offset := 0, phaseOk := false }

/-- The held channels at a wake (R160): their policies apply from now, the records of trips in Sleep are written. Every channel's open-load
evaluation begins anew (R180). -/
def State.wakeHeld (s : State) : State :=
  let t := s.now
  (s.offAnew fun _ => true).forEach s.sleepHeld fun c s =>
    let x := s.chan c
    let s := match x.tripDue with
      | some k => s.record 0x1004 4 (chNum c) k 0
      | none => s
    let s := s.onChan c fun x =>
      { x with tripDue := none, orphan := x.orphan.map fun o => { o with origin := t }
               ol := { x.ol with counted := 0, since := none, back := none, evalFrom := t } }
    match x.orphan with
    | some o => if 2 ≤ o.policy then s.orphanSafe c else s
    | none => s

/-- Step 1 of R504 with the records of R158 and R224 (log entry 87), the record of R507 and what follows from them; a grant that wakes the Otcel stands
(R435). -/
def State.wakeUp (s : State) (source detail : Nat) : State :=
  let t := s.now
  let sec := s.rcd.opSeconds
  let left := s.pwr.state.num
  let asleep := (List.finRange 2).filter fun p => decide ((s.port p).link = .asleep)
  let held := s.pwr.islandUp.get 4
  let s := s.onPwr fun p =>
    { p with
      state := .run, domains := Tab.fill 10 true, islandUp := Tab.fill 9 true, stateLeft := left, lastSource := source, detail := detail
      wakeOpSec := sec, latched := none, wakeDue := true, forced := none, entering := false, t3From := none, idleSince := t, sleepSince := t
      wakeCounts := if h : 1 ≤ source ∧ source ≤ 9 then p.wakeCounts.upd ⟨source - 1, by omega⟩ fun n => satAdd 0xFFFF n 1 else p.wakeCounts }
  let s := s.wdtStart fun _ => true
  let src := s.clk.trimSrc
  let s := s.onClk fun k => k.start t
  let s := if src = 0 then s else s.record 0xA040 0 src 0 0
  let s := s.warpResume.rebase.onWeft fun w => { w with autoTry := true }
  let s := (if held then s else s.fault .D 4 0x1003 0 0 0).fault .D 5 0x2003 0 0 0
  let n := s.ticks
  let s := (s.onDrv fun d => d.railStart n).railUpdate
  let s := if s.side.fed then s.fieldBegin s.side.fpMv else s
  let s := s.onId fun k => { k with resetAt := some t, waitSaid := false }
  let s := s.forEach (allCan.filter fun c => s.nm.cfg.enabled c && decide ((s.nmCh c).state ≠ .busSleep)) fun c s => s.nmEnter c .busSleep
  let s := s.wakeHeld
  let s := s.forEach asleep fun p s => s.portWakes p (if source = 3 ∧ detail = portNum p then 0 else if source = 3 ∧ s.nm.cfg.ethFwd = true then 2 else 1)
  let s := if source = 1 then s.doorEvent else s
  let granted := s.acc.granted
  let s := s.radioEval
  if source = 5 then s.onAcc fun a => { a with granted := granted } else s

/-! ## AUX loss and restore -/

/-- AUX_LOSS (R29 steps 1 to 4): AUX in mV. The field side, which FP24 feeds, runs on and hears no frame (R266). -/
def opAuxLoss (mv : Nat) (s : State) : State :=
  if s.supply.loss.isSome then s
  else
    let t := s.now
    let s := s.onSupply fun v => { v with loss := some { at_ := t, lowest := mv, restored := false, wrote := false }, auxBand := false }
    let s := s.onWt fun w => { w with saved := if s.pwr.islandUp.get 3 then w.warp else w.saved, savedAt := if s.pwr.islandUp.get 3 then t else w.savedAt }
    let s := s.onPwr fun p => { p with entering := false, latched := none, forced := none }
    (s.radioStop 5).unpower false id

/-- AUX_RESTORE (R29, R30): at or above 16.0 V for 10 ms; the loss still runs its course. -/
def opAuxRestore (s : State) : State := s.onSupply fun v => { v with loss := v.loss.map fun l => { l with restored := true } }

/-- Commit up to `n` buffered records (R479, R501); the engine erases a sector before its first slot (R488). -/
def State.commitBuffered : Nat → State → State
  | 0, s => s
  | n + 1, s => State.commitBuffered n (opRecordWrite true true (if s.rcd.buffer.isEmpty then s else opTailSectorErase true s))

/-- The records that stay in the buffer as the Keep domain ends are lost (R479). -/
def Recorder.loseAll (r : Recorder) : Recorder := { (r.buffer.foldl (fun r _ => r.lose) r) with buffer := [] }

/-- A record that the commit engine takes first (R479), when the rate limit lets it in. -/
def State.recordFirst (s : State) (code source p0 : Nat) : State :=
  let n := s.rcd.buffer.length
  let old := s.rcd.buffer
  let b : Buffered := { record := s.stamp code source 5 (w32 p0) 0 0, at_ := s.now, fails := 0, cmd := none }
  s.onRcd fun r =>
    let r := r.present b s.pd2
    if n < r.buffer.length then { r with buffer := b :: old } else r

/-- The key file of a medium, while the module is unclaimed (R455). -/
def State.keyFileOf (s : State) (wake : Bool) (m : Option Medium) : Option (List Byte) :=
  if wake && (s.id.keysOf 1).isEmpty then Medium.key m else none

/-- Does a file on the medium let the loader watch WAKE (R467, R513)? The answer tells whether an update may be armed. -/
def State.watchOf (s : State) (wake : Bool) (m : Option Medium) : Option (Nat × Bool) :=
  if wake && ((Medium.img m).isSome || (s.keyFileOf wake m).isSome) then some (s.now, (Medium.img m).isSome) else none

/-- The channels' held counters are copied to flash (R164, R479, R501). -/
def State.saveCounts (s : State) : State :=
  s.onSw fun w => { w with saved := (Tab.fill 48 ChCounts.reset).mapIdx fun c _ => (w.chans.get c).counts }

/-- RESERVE_END (R29 steps 5 and 6, R479): the lowest AUX in mV, WAKE and the medium as the loader finds them. -/
def opReserveEnd (mv : Nat) (wake : Bool) (m : Option Medium) (s : State) : State :=
  match s.supply.loss with
  | none => s
  | some l =>
    if s.since l.at_ < 30000 then s
    else
      let s := (s.recordFirst 0x0110 0 (min l.lowest mv)).onSupply fun v => { v with loss := none }
      let s := s.onPwr fun p => { p with domains := p.domains.put 2 true }
      let s := State.commitBuffered 49 s
      let t := s.now
      let s := s.onRcd fun r => if l.restored then r.save t else r.loseAll.save t
      let s := (s.onPwr fun p => { p with savedWakes := p.wakeCounts }).saveCounts
      if l.restored && decide (s.pwr.state ≠ .off) then
        let s := s.wakeUp 9 0
        let w := s.watchOf wake m
        let f := s.keyFileOf wake m
        s.onId fun k => { k with watch := w, keyFile := f }
      else s.onPwr fun p => { p with coldDue := true, domains := Tab.fill 10 false, islandUp := (Tab.fill 9 false).put 6 s.side.running, offLatch := false, latched := none }

/-- KEEP_COLD_START (R44, R505, R507, R511): the Keep domain's supply becomes valid without retained state. -/
def opKeepColdStart (wake : Bool) (m : Option Medium) (s : State) : State :=
  let fromOff := s.pwr.offLatch && !s.pwr.coldDue
  if !s.pwr.coldDue && !(fromOff && decide (s.pwr.state = .off)) then s
  else
    let t := s.now
    let s := { s with
      mem := [], supply := Supply.reset, clk := Clock.reset.start t, ccfg := ClockCfg.reset, wt := WarpTime.reset, links := Tab.fill 23 Link.reset
      flt := Faults.reset, cmd := Commands.reset, sw := Switch.resetWith s.sw.saved s.sw.saved 0, drv := Drive.reset.railStart 0
      fld := Field.resetWith s.side, loom := Loom.reset, can := Can.reset, nm := Nm.reset, eth := Eth.reset
      far := Bridge.reset, twin := Twin.reset
      weft := { Wefts.reset with store := s.weft.store, lastRun := s.weft.lastRun, autoTry := true } }
    let s := (if s.side.fed && !s.side.running then s.fieldBegin s.side.fpMv else s).rebase.recorderColdStart
    let sec := s.rcd.opSeconds
    let s := s.onPwr fun p =>
      { Power.reset with
        t1 := p.t1, t2 := p.t2, t3 := p.t3, t4 := p.t4, wakeTimer := p.wakeTimer, srcEn := p.srcEn, savedWakes := p.savedWakes
        wakeCounts := if fromOff then p.savedWakes.upd 0 fun n => satAdd 0xFFFF n 1 else p.savedWakes
        lastSource := if fromOff then 1 else 0, stateLeft := if fromOff then 4 else 0, wakeOpSec := sec, wakeDue := fromOff
        idleSince := t, sleepSince := t, coldDue := false }
    let s := (s.wdtStart fun _ => true).record 0x0001 0 (b2n fromOff) s.rcd.cycles sec
    let s := s.coldAccess
    let s := if fromOff then s.doorEvent else s
    let w := s.watchOf wake m
    let f := s.keyFileOf wake m
    (s.onId fun k =>
      { k with running := none, execRam := [], keyFile := f, loader := false, waiting := false, waitSaid := false, resetAt := some t, armed := none, watch := w, pollAt := 0 }).radioEval

/-! ## Idle -/

/-- The state PWR_ENTER has asked for. -/
def State.forcedTo (s : State) : Option PowerState := s.pwr.forced.map fun f => f.1

/-- IDLE_ENTRY (R495, R496, R502). -/
def opIdleEntry (s : State) : State :=
  let due := decide (s.forcedTo = some .idle) || decide (1000 * s.pwr.t1 ≤ s.since s.pwr.idleSince)
  if s.pwr.state = .run ∧ s.cmd.serving = true ∧ s.pwr.entering = false ∧ s.idleOk none = true ∧ due = true then
    s.onPwr fun p => { p with state := .idle, forced := if decide (p.forced.map (fun f => f.1) = some .idle) then none else p.forced }
  else s

/-- IDLE_EXIT (R496). -/
def opIdleExit (s : State) : State :=
  let t := s.now
  if s.pwr.state = .idle then s.idleWatch.onPwr fun p => { p with state := .run, idleSince := t } else s

/-! ## Sleep -/

/-- A channel at Sleep entry (R159). -/
def State.sleepChan (s : State) (c : ChNo) : State :=
  let x := s.chan c
  if x.cfg.sleepHold && (decide (x.mode = .on) || decide (x.mode = .off)) then
    let t := s.now
    s.onChan c fun x =>
      { x with
        owner := .none, nextReg := none, latched := none, sleepHeld := true
        orphan := some { origin := t, policy := x.cfg.policy, safeValue := x.cfg.safeValue, safeAfter := x.cfg.safeAfter, done := false } }
  else if x.mode = .off then s
  else (s.changeMode c { mode := .off, duty := 0, phase := 0, arg := 0 }).2

/-- The locks that sessions hold end with them (R282, R394). -/
def State.sessionLocks (s : State) : State :=
  s.forEach allFar fun p s => s.onFarPort p fun k => match k.lock with
    | some l => match l.src with
      | .session _ => k.endLock l
      | _ => k
    | none => k

/-- Steps 1 to 3 of R499. -/
def State.sleepBegin (s : State) (forced : Bool) : State :=
  let s := s.haltWeft 3
  let s := s.sessionLocks.resetCommands
  let s := if forced then
      let s := s.onNm fun n => { n with chans := n.chans.mapIdx fun _ c => { c with host := none } }
      let s := s.forEach (allCan.filter fun c => s.nm.cfg.enabled c) fun c s => s.nmEnter c .busSleep
      s.forEach ((List.finRange 2).filter fun p => decide ((s.port p).link = .up)) fun p s =>
        (s.onPort p fun k => { k with link := .requested, asked := true }).send (.tc10Sleep (portNum p))
    else s
  let s := s.forEach allCh fun c s => s.sleepChan c
  let s := s.forEach allAc fun c s => s.acRelease c .orphan
  let s := s.fieldStop FieldSide.asleep
  let s := s.onPwr fun p => { p with entering := true, state := .run }
  s.record 0x0010 0 2 (b2n forced) s.sleepHeld.length

/-- The logic end of the barrier in a switch island that stays powered: no frames, inputs stale, output values 0 (R269). -/
def State.barrierRest (s : State) : State :=
  s.onFld fun f =>
    { f with
      stale := true, values := 0, clear := 0, foClear := 0, queue := [], unsent := [], sentCfg := [], replay := none, down := none, up := none, due := 0
      rxSeq := none }

/-- Steps 4 and 5 of R499. -/
def State.sleepEnd (s : State) : State :=
  let t := s.now
  let held := !s.sleepHeld.isEmpty
  let s := s.onWt fun w => { w with saved := w.warp, savedAt := t }
  let s := (s.unpower held FieldSide.asleep).barrierRest
  let s := s.onEth fun e => { e with ports := e.ports.mapIdx fun _ k => { k with link := if k.link = .asleep then .asleep else .down } }
  let on := s.heldOn
  let burst := s.acc.burst.isSome
  (s.onPwr fun p =>
    { p with
      state := .sleep, entering := false, sleepAt := t, t3Used := 0, t3From := if on then none else some t
      forced := match p.forced with
        | some (.sleep, _) => none
        | f => f
      domains := Tab.ofList [true, true, false, false, false, false, held, false, false, burst] false }).radioEval

/-- The entry ends; a wake latched on the way follows at once (R500). -/
def State.sleepReached (s : State) : State :=
  let s := s.sleepEnd
  match s.pwr.latched with
  | some (src, d) => s.wakeUp src d
  | none => s

/-- SLEEP_ENTRY (R497, R499, R500, R502, R480): the entry begins, and ends once the recorder buffer is empty. -/
def opSleepEntry (s : State) : State :=
  if s.pwr.entering then (if s.rcd.buffer.isEmpty then s.sleepReached else s)
  else
    match s.pwr.forced with
    | some (.sleep, t) | some (.deep, t) | some (.off, t) =>
      if s.awake && decide (t + 10000 ≤ s.now) then s.sleepBegin true else s
    | _ =>
      if s.pwr.state = .idle ∧ s.sleepBlock none = 0 ∧ 1000000 * s.pwr.t2 ≤ s.since s.pwr.sleepSince then s.sleepBegin false else s

/-- DEEP_SLEEP_ENTRY (R498, R501). -/
def opDeepSleepEntry (s : State) : State :=
  let p := s.pwr
  let forced := decide (s.forcedTo = some .deep) || decide (s.forcedTo = some .off)
  let counted := p.t3Used + match p.t3From with
    | some f => s.since f
    | none => 0
  if p.state ≠ .sleep ∨ p.latched.isSome = true ∨ (forced = false ∧ (s.heldOn = true ∨ counted < 1000000 * p.t3)) then s
  else
    let t := s.now
    let s := s.record 0x0010 0 3 (b2n forced) s.sleepHeld.length
    let s := s.unpower false FieldSide.asleep
    (s.onPwr fun p =>
      { p with
        state := .deep, deepAt := t, domains := Tab.ofList [true, true] false
        forced := match p.forced with
          | some (.off, t) => some (.off, t)
          | _ => none }).radioEval

/-- OFF_ENTRY (R337, R498, R501, R480): the buffer is committed, the counters are saved, the Keep domain ends and the terminations open. -/
def opOffEntry (s : State) : State :=
  let p := s.pwr
  let forced := decide (s.forcedTo = some .off)
  if p.state ≠ .deep ∨ p.latched.isSome = true ∨ (forced = false ∧ (p.t4 = 0 ∨ s.since p.deepAt < 86400000000 * p.t4)) then s
  else
    let t := s.now
    let s := s.record 0x0010 0 4 (b2n forced) 0
    let s := s.onPwr fun p => { p with domains := p.domains.put 2 true }
    let s := ((State.commitBuffered s.rcd.buffer.length s).onRcd fun r => r.loseAll.save t).saveCounts
    let s := s.onCan fun k => { k with chans := k.chans.mapIdx fun _ x => { x with ctrl := x.ctrl &&& 0x1FFB } }
    (s.onPwr fun p =>
      { p with
        state := .off, forced := none, savedWakes := p.wakeCounts, offLatch := false, domains := Tab.ofList [true] false
        islandUp := Tab.fill 9 false }).radioEval

/-! ## Waking -/

/-- Is a wake event of an outside source accepted in the present state, or on the way to Sleep (R500, R503)? -/
def State.wakeOk (s : State) (source detail : Nat) : Bool :=
  let p := s.pwr
  bit p.srcEn source && match source with
    | 1 => true
    | 4 => s.asleep && detail == 0
    | 6 => !p.entering && decide (p.wakeTimer ≠ 0) && decide (1000000 * p.wakeTimer ≤ s.since p.sleepAt) && detail == 0
    | 7 => s.asleep && decide (1 ≤ detail) && decide (detail ≤ 4) && s.side.fed && bit s.side.cfg.wakeEn (detail - 1)
    | _ => false

/-- SLEEP_WAKE (R500, R503, R504, R507): a latched event first, else the event given. In Off the latch of PD0 takes WAKE. -/
def opSleepWake (source detail : Nat) (s : State) : State :=
  let p := s.pwr
  if s.supply.loss.isSome then s
  else if p.entering then (if s.wakeOk source detail then s.moduleWake source detail else s)
  else if p.state = .off then (if source = 1 then s.onPwr fun p => { p with offLatch := true } else s)
  else if p.state = .sleep ∨ p.state = .deep then
    match p.latched with
    | some (src, d) => s.wakeUp src d
    | none => if s.wakeOk source detail then s.wakeUp source detail else s
  else s

/-- WAKE_RISING_EDGE (R496, R503, R429). -/
def opWakeRisingEdge (s : State) : State := if s.awake && !s.pwr.entering then s.serviceActive.doorEvent else s

/-! ## Commands -/

/-- The six values of PWR_CONFIG as words. -/
def Power.configBytes (p : Power) : List Byte :=
  zeros 4 ++ le 4 p.t1 ++ le 4 p.t2 ++ le 4 p.t3 ++ le 4 p.t4 ++ le 4 p.wakeTimer ++ le 4 p.srcEn

/-- PWR_CONFIG (R509, R510). -/
def opPwrConfig (r : CmdRef) (s : State) : State :=
  s.onCommand r 0x0B01 fun q s =>
    let p := q.params
    let t1 := u32 p 4
    let t2 := u32 p 8
    let t3 := u32 p 12
    let t4 := u32 p 16
    let wt := u32 p 20
    let en := u32 p 24
    if p.length ≠ 28 ∨ u32 p 0 ≠ 0 ∨ t1 < 1 ∨ 10000 < t1 ∨ t2 < 1 ∨ 86400 < t2 ∨ t3 < 60 ∨ 2592000 < t3 ∨ 3650 < t4 ∨ 2592000 < wt ∨ 1024 ≤ en then
      s.complete q .badParam []
    else
      let s := s.onPwr fun k => { k with t1 := t1, t2 := t2, t3 := t3, t4 := t4, wakeTimer := wt, srcEn := (en ||| 0x202) &&& 0x3FE }
      s.complete q .ok s.pwr.configBytes

/-- The states by STATE (R509). -/
def PowerState.ofNum : Nat → Option PowerState
  | 0 => some .run
  | 1 => some .idle
  | 2 => some .sleep
  | 3 => some .deep
  | 4 => some .off
  | _ => none

/-- PWR_ENTER (R502, R509): the reply goes before the entry begins. -/
def opPwrEnter (r : CmdRef) (s : State) : State :=
  s.onCommand r 0x0B02 fun q s =>
    let p := q.params
    match PowerState.ofNum (u8 p 0) with
    | none => s.complete q .badParam []
    | some st =>
      let reply := le 1 st.num ++ zeros 3 ++ le 4 (s.sleepBlock (some q.id))
      if p.length ≠ 4 ∨ zeroAt p [1, 2, 3] = false then s.complete q .badParam []
      else if st = .run then s.complete q .ok reply
      else if s.weftBusy || s.flt.forceSafe || s.pairBusy || (decide (st = .idle) && !s.idleOk (some q.id)) then s.complete q .state []
      else
        let t := s.now
        (s.complete q .ok reply).onPwr fun k => { k with forced := some (st, t) }

/-- WAKE_SOURCE (R509). -/
def opWakeSource (r : CmdRef) (s : State) : State :=
  s.onCommand r 0x0B03 fun q s =>
    let p := s.pwr
    if q.params.length ≠ 0 then s.complete q .badParam []
    else
      s.complete q .ok (le 1 p.lastSource ++ le 1 p.detail ++ le 1 p.stateLeft ++ zeros 1 ++ le 4 p.wakeOpSec ++
        (p.wakeCounts.toList.flatMap fun n => le 2 n) ++ zeros 2)

/-- The power registers (R510), by offset from 0x2800_0500. -/
def State.readPower (s : State) (off : Nat) : Nat :=
  let p := s.pwr
  let cnt := fun (i : Nat) => p.wakeCounts.toList.getD i 0
  match off with
  | 0x00 => p.stateLeft + 2 ^ 8 * s.sleepBlock none
  | 0x04 => p.t1
  | 0x08 => p.t2
  | 0x0C => p.t3
  | 0x10 => p.t4
  | 0x14 => p.wakeTimer
  | 0x18 => p.srcEn
  | 0x20 => p.lastSource + 2 ^ 8 * p.detail + 2 ^ 16 * p.stateLeft
  | 0x24 => p.wakeOpSec
  | 0x28 => cnt 0 + 2 ^ 16 * cnt 1
  | 0x2C => cnt 2 + 2 ^ 16 * cnt 3
  | 0x30 => cnt 4 + 2 ^ 16 * cnt 5
  | 0x34 => cnt 6 + 2 ^ 16 * cnt 7
  | 0x38 => cnt 8
  | _ => 0

/-! ## The meanings of the commands -/

/-- AUX_LOSS (R29). -/
def execAuxLoss (mv : Nat) (s : State) : Host.Outcome State Fault Refusal := .next (opAuxLoss mv s)

/-- RESERVE_END (R29). -/
def execReserveEnd (mv : Nat) (wake : Bool) (m : Option Medium) (s : State) : Host.Outcome State Fault Refusal :=
  .next (opReserveEnd mv wake m s)

/-- AUX_RESTORE (R30). -/
def execAuxRestore (s : State) : Host.Outcome State Fault Refusal := .next (opAuxRestore s)

/-- PWR_LOW (R31). -/
def execPwrLow (p : PwrNo) (mv : Nat) (s : State) : Host.Outcome State Fault Refusal := .next (opPwrLow p mv s)

/-- PWR_RESTORED (R31). -/
def execPwrRestored (p : PwrNo) (s : State) : Host.Outcome State Fault Refusal := .next (opPwrRestored p s)

/-- VBUS_FAULT (R23). -/
def execVbusFault (s : State) : Host.Outcome State Fault Refusal := .next (opVbusFault s)

/-- VBUS_RESTORE (R23). -/
def execVbusRestore (s : State) : Host.Outcome State Fault Refusal := .next (opVbusRestore s)

/-- KEEP_COLD_START (R505). -/
def execKeepColdStart (wake : Bool) (m : Option Medium) (s : State) : Host.Outcome State Fault Refusal := .next (opKeepColdStart wake m s)

/-- IDLE_ENTRY (R495). -/
def execIdleEntry (s : State) : Host.Outcome State Fault Refusal := .next (opIdleEntry s)

/-- IDLE_EXIT (R496). -/
def execIdleExit (s : State) : Host.Outcome State Fault Refusal := .next (opIdleExit s)

/-- SLEEP_ENTRY (R499). -/
def execSleepEntry (s : State) : Host.Outcome State Fault Refusal := .next (opSleepEntry s)

/-- DEEP_SLEEP_ENTRY (R501). -/
def execDeepSleepEntry (s : State) : Host.Outcome State Fault Refusal := .next (opDeepSleepEntry s)

/-- OFF_ENTRY (R501). -/
def execOffEntry (s : State) : Host.Outcome State Fault Refusal := .next (opOffEntry s)

/-- SLEEP_WAKE (R504). -/
def execSleepWake (source detail : Nat) (s : State) : Host.Outcome State Fault Refusal := .next (opSleepWake source detail s)

/-- PWR_CONFIG (R509). -/
def execPwrConfig (r : CmdRef) (s : State) : Host.Outcome State Fault Refusal := .next (opPwrConfig r s)

/-- PWR_ENTER (R502). -/
def execPwrEnter (r : CmdRef) (s : State) : Host.Outcome State Fault Refusal := .next (opPwrEnter r s)

/-- WAKE_SOURCE (R509). -/
def execWakeSource (r : CmdRef) (s : State) : Host.Outcome State Fault Refusal := .next (opWakeSource r s)

/-- SUPPLY_MONITOR_UPDATE (R32); beyond the operating maxima the spec defines nothing (R2, R34). -/
def execSupplyMonitorUpdate (aux a b c d : Nat) (s : State) : Host.Outcome State Fault Refusal :=
  if withinMaxima aux a b c d then .next (opSupplyMonitorUpdate aux a b c d s) else .fault .outsideLimits

/-- WAKE_RISING_EDGE (R503). -/
def execWakeRisingEdge (s : State) : Host.Outcome State Fault Refusal := .next (opWakeRisingEdge s)

end Sys2Proof.Machine
end

