-- ==== Sys2Proof/Machine/DataPort.lean ====
section
/-! DEFINITION. INFO and GET_STATE (R296), and the data port: its address space (R305), windows (R300), bursts (R301 to R303), streams
(R304). -/

namespace Sys2Proof.Machine

open Sys2Proof

/-! ## INFO and GET_STATE -/

/-- INFO (R296): the maximum PLEN is that of the transport the command came on (R274, R283). -/
def opInfoCmd (r : CmdRef) (s : State) : State :=
  s.onCommand r 0x0101 fun q s =>
    if q.params.length ≠ 0 then s.complete q .badParam []
    else
      s.complete q .ok (le 4 0x4812 ++ le 4 s.id.runVersion ++ le 4 Config.loaderVersion ++ padTo 8 Config.serial ++ le 1 s.twin.role.num ++
        le 1 (countIf (fun x => x.isSome) s.cmd.sessions.toList) ++ le 2 (if q.src = .can then 44 else 1424) ++ le 8 s.warp)

/-- WEFT of GET_STATE (R296). -/
def State.weftNum (s : State) : Nat :=
  if s.weft.swapping.isSome then 3 else if s.weft.running.isSome then 2 else if s.weft.store.any (fun w => w.isSome) then 1 else 0

/-- GET_STATE (R296). -/
def opGetState (r : CmdRef) (s : State) : State :=
  s.onCommand r 0x0103 fun q s =>
    if q.params.length ≠ 0 then s.complete q .badParam []
    else
      s.complete q .ok (le 1 s.twin.role.num ++ le 1 s.weftNum ++ le 1 s.flt.queue.length ++ le 1 (b2n s.flt.forceSafe) ++
        le 2 (s.cmd.groups.mask fun g => g.causes.stalled) ++ le 2 (s.cmd.groups.mask fun g => decide (g.holder = .src q.src)) ++
        le 6 s.swOrphans ++ le 2 (s.drv.acts.mask fun x => x.orphan.isSome) ++ le 8 s.warp ++ le 4 s.rcd.opSeconds ++
        le 4 (s.rcd.cycles % 2 ^ 24))

/-! ## The address space (R305) -/

/-- What stands in a region. -/
inductive Space where
  | plain      -- bytes of `State.mem`
  | code       -- IMEM and timetable RAM (R113)
  | staging
  | profiles
  | store
  | recorder
  | identity
  | regs
  | notes
  deriving DecidableEq, Repr

/-- A region of R305 (or R476): its first address, its length, the ATTR values and ELEM sizes allowed. -/
structure Region where
  base   : Nat
  length : Nat
  space  : Space
  attrs  : List Nat
  elems  : List Nat
  deriving DecidableEq, Repr

/-- The regions outside the notification queues (R305, R476). -/
def fixedRegions : List Region :=
  [ { base := 0x00000000, length := 0x80000, space := .code, attrs := [0], elems := [4] },
    { base := 0x10000000, length := 0x40000, space := .plain, attrs := [0], elems := [1, 2, 4] },
    { base := 0x18000000, length := 0x40000, space := .code, attrs := [0], elems := [4] },
    { base := 0x1C000000, length := 0x200000, space := .staging, attrs := [0], elems := [1, 2, 4] },
    { base := 0x20000000, length := 0x3000, space := .regs, attrs := [2], elems := [4] },
    { base := 0x20003000, length := 0x100, space := .regs, attrs := [2], elems := [4] },
    { base := 0x21000000, length := 0x200, space := .profiles, attrs := [0], elems := [1, 2, 4] },
    { base := 0x22000000, length := 0xC00, space := .regs, attrs := [2], elems := [4] },
    { base := 0x22002000, length := 0x100, space := .regs, attrs := [2], elems := [4] },
    { base := 0x22100000, length := 0x1100, space := .store, attrs := [0], elems := [4] },
    { base := 0x23000000, length := 0x100, space := .regs, attrs := [2], elems := [4] },
    { base := 0x24000000, length := 0x1000000, space := .regs, attrs := [1, 2], elems := [4] },
    { base := 0x25000000, length := 0x1000000, space := .regs, attrs := [1, 2], elems := [4] },
    { base := 0x26000000, length := 0x1000000, space := .regs, attrs := [2], elems := [4] },
    { base := 0x27000000, length := 0x1000000, space := .regs, attrs := [2], elems := [4] } ] ++
  [ { base := 0x28000000, length := 0x1000000, space := .regs, attrs := [2], elems := [4] },
    { base := 0x29000000, length := 0x100, space := .regs, attrs := [2], elems := [4] },
    { base := 0x30000000, length := 0x4000000, space := .recorder, attrs := [0], elems := [4] },
    { base := 0x34000000, length := 0x100000, space := .recorder, attrs := [0], elems := [4] },
    { base := 0x34200000, length := 0x2000, space := .recorder, attrs := [0], elems := [4] },
    { base := 0x7F000000, length := 0x10000, space := .identity, attrs := [0], elems := [1, 2, 4] } ]

/-- The notification queues of the five sources (R305). -/
def noteRegions : List Region :=
  (List.range 5).map fun s => { base := 0x7E000000 + 0x1000 * s, length := 2048, space := .notes, attrs := [1], elems := [4] }

/-- The region that holds a range whole. -/
def regionOf (base length : Nat) : Option Region :=
  (fixedRegions ++ noteRegions).find? fun r => decide (r.base ≤ base) && decide (base + length ≤ r.base + r.length)

/-- The streams (R294, R343, R390). -/
inductive Stream where
  | notes (i : Fin 6)
  | can (c : CanNo) (q : Fin 2)
  | far (p : FarNo)
  deriving DecidableEq, Repr

/-- S, the size of a stream's items. -/
def Stream.size : Stream → Nat
  | .notes _ => 32
  | .can _ _ => 80
  | .far _ => 264

/-- A stream's first address and length. -/
def Stream.extent : Stream → Nat × Nat
  | .notes i => (0x7E000000 + 0x1000 * i.1, 2048)
  | .can c q => (0x24100000 + 0x2000 * c.1 + 0x1000 * q.1, 3840)
  | .far p => (0x25100000 + 0x1000 * p.1, 2112)

/-- Every stream the data port reaches. -/
def allStreams : List Stream :=
  ((List.finRange 6).filter fun i => decide (i.1 < 5)).map Stream.notes ++
  (allCan.flatMap fun c => (List.finRange 2).map fun q => Stream.can c q) ++ allFar.map Stream.far

/-- The stream with exactly an extent (R300 check 4). -/
def streamAt (base length : Nat) : Option Stream := allStreams.find? fun t => decide (t.extent = (base, length))

/-- The items of a stream, head first; a bridge item reserved and not filled ends what is present (log entry 97). -/
def State.streamItems (s : State) : Stream → List (List Byte)
  | .notes i => (s.cmd.sources.get i).notes.map (padTo 32)
  | .can c q => ((s.canCh c).q.get q).items.map CanItem.bytes
  | .far p => ((s.farPort p).items.takeWhile fun i => i.bytes.isSome).filterMap fun i => i.bytes

/-- Items removed from a stream's head (R304). -/
def State.streamDrop (s : State) (t : Stream) (n : Nat) : State :=
  match t with
  | .notes i => s.onSource i fun q => { q with notes := q.notes.drop n }
  | .can c q => s.dropItems c q n
  | .far p => s.onFarPort p fun k => { k with items := k.items.drop n }

/-! ## Registers -/

/-- A read of a register (R303): what the register reads, and what the read itself does. -/
def State.readReg (s : State) (a : Nat) : Nat × State :=
  let pure := fun (v : Nat) => (v % 2 ^ 32, s)
  if h : 0x20000000 ≤ a ∧ a < 0x20003000 then pure (s.readChan ⟨(a - 0x20000000) / 0x100, by omega⟩ (a % 0x100))
  else if 0x20003000 ≤ a ∧ a < 0x20003100 then pure (s.readSwitch (a % 0x100))
  else if h : 0x22000000 ≤ a ∧ a < 0x22000C00 then pure (s.readAct ⟨(a - 0x22000000) / 0x100, by omega⟩ (a % 0x100))
  else if 0x22002000 ≤ a ∧ a < 0x22002100 then pure (s.readDrive (a % 0x100))
  else if 0x23000000 ≤ a ∧ a < 0x23000100 then pure (s.readField (a % 0x100))
  else if h : 0x24000000 ≤ a ∧ a < 0x24006000 then pure ((s.canCh ⟨(a - 0x24000000) / 0x1000, by omega⟩).word (a % 0x1000))
  else if 0x24008000 ≤ a ∧ a < 0x24009000 then pure (s.readNm (a % 0x1000))
  else if 0x25000000 ≤ a ∧ a < 0x26000000 then pure (s.readFar (a - 0x25000000))
  else if 0x26000000 ≤ a ∧ a < 0x27000000 then pure (s.readTwin (a - 0x26000000))
  else if 0x27000000 ≤ a ∧ a < 0x28000000 then pure (s.readAccess (a - 0x27000000))
  else if 0x28000100 ≤ a ∧ a < 0x28000200 then pure (s.readSupply (a % 0x100))
  else if 0x28000200 ≤ a ∧ a < 0x28000300 then s.readClock (a % 0x100)
  else if 0x28000300 ≤ a ∧ a < 0x28000400 then pure (s.readFaults (a % 0x100))
  else if 0x28000400 ≤ a ∧ a < 0x28000500 then pure (s.readRecorder (a % 0x100))
  else if 0x28000500 ≤ a ∧ a < 0x28000600 then pure (s.readPower (a % 0x100))
  else if 0x29000000 ≤ a ∧ a < 0x29000100 then pure (s.readCmd (a % 0x100))
  else (0, s)

/-- A write of a register (R303). -/
def State.writeReg (s : State) (a v : Nat) : Status × State :=
  if h : 0x20000000 ≤ a ∧ a < 0x20003000 then s.writeChan ⟨(a - 0x20000000) / 0x100, by omega⟩ (a % 0x100) v
  else if 0x20003000 ≤ a ∧ a < 0x20003100 then s.writeSwitch (a % 0x100) v
  else if h : 0x22000000 ≤ a ∧ a < 0x22000C00 then s.writeAct ⟨(a - 0x22000000) / 0x100, by omega⟩ (a % 0x100) v
  else if 0x22002000 ≤ a ∧ a < 0x22002100 then s.writeDrive (a % 0x100) v
  else if 0x23000000 ≤ a ∧ a < 0x23000100 then s.writeField (a % 0x100) v
  else if h : 0x24000000 ≤ a ∧ a < 0x24006000 then s.writeCanCh ⟨(a - 0x24000000) / 0x1000, by omega⟩ (a % 0x1000) v
  else if 0x24008000 ≤ a ∧ a < 0x24009000 then s.writeNm (a % 0x1000) v
  else if 0x25000000 ≤ a ∧ a < 0x26000000 then s.writeFar (a - 0x25000000) v
  else if 0x26000000 ≤ a ∧ a < 0x27000000 then s.writeTwin (a - 0x26000000) v
  else if 0x27000000 ≤ a ∧ a < 0x28000000 then (.denied, s)
  else if 0x28000100 ≤ a ∧ a < 0x28000200 then s.writeSupply (a % 0x100) v
  else if 0x28000200 ≤ a ∧ a < 0x28000300 then s.writeClock (a % 0x100) v
  else if 0x28000300 ≤ a ∧ a < 0x28000400 then s.writeFaults (a % 0x100) v
  else if 0x28000500 ≤ a ∧ a < 0x28000540 then (.denied, s)
  else if 0x29000000 ≤ a ∧ a < 0x29000100 then s.writeCmd (a % 0x100) v
  else (.ok, s)

/-- `n` registers read once each, in increasing address order (R303). -/
def State.readRegs : Nat → Nat → State → List Byte × State
  | _, 0, s => ([], s)
  | a, n + 1, s =>
    let (v, s) := s.readReg a
    let (b, s) := State.readRegs (a + 4) n s
    (le 4 v ++ b, s)

/-- Registers written once each; a refusal ends the burst. The answer holds the status and the bytes written (R303). -/
def State.writeRegs : Nat → List Byte → Nat → State → Status × Nat × State
  | _, _, 0, s => (.ok, 0, s)
  | a, b, n + 1, s =>
    match s.writeReg a (u32 b 0) with
    | (.ok, s) =>
      let (st, k, s) := State.writeRegs (a + 4) (b.drop 4) n s
      (st, k + 4, s)
    | (st, s) => (st, 0, s)

/-- Would the burst exhaust the field configuration queue (R270, R303)? -/
def State.fieldFull (s : State) (a n : Nat) : Bool :=
  decide (0x23000000 ≤ a) && decide (a < 0x23000100) && s.supply.fpPresent &&
    decide (64 < s.fld.queue.length + countIf (fun k => decide ((a + 4 * k) % 0x100 ∈ fieldCfgOffsets)) (List.range n))

/-! ## MEM accesses (R302) -/

/-- Bytes of a MEM region. -/
def State.readSpace (s : State) (p : Space) (a n : Nat) : List Byte :=
  match p with
  | .store => (List.range n).map fun i => BitVec.ofNat 8 (s.readStore ((a + i - 0x22100000) / 4 * 4) / 2 ^ (8 * ((a + i) % 4)))
  | .recorder => (List.range n).map fun i => s.rcd.byteAt (a + i)
  | .identity =>
    let l := s.identBytes
    (List.range n).map fun i => l.getD (a + i - 0x7F000000) 0
  | .profiles =>
    (List.range n).map fun i =>
      let o := a + i - 0x21000000
      (s.profile (o / 32)).getD (o % 32) 0
  | _ => Memory.readBytes s.mem a n

/-- The user and predefined profiles a burst reaches. -/
def profilesIn (a n : Nat) : List Nat := (List.range 16).filter fun i => decide (profAddr i < a + n) && decide (a < profAddr i + 32)

/-- A refusal by the destination, made before any element is written (R111, R113, R148, R149, R241, R302). -/
def State.memRefusal (s : State) (p : Space) (a n : Nat) : Option Status :=
  match p with
  | .code => if ((List.range n).any fun i => (s.slotsAt (a + i)).any s.slotBusy) then some .denied else none
  | .staging => match s.cmd.load with
    | none => some .state
    | some l => if a + n ≤ 0x1C000000 + l.length then none else some .state
  | .profiles => if ((profilesIn a n).any fun i => decide (i < 8) || s.profileInUse i) then some .denied else none
  | .store | .recorder | .identity => some .denied
  | _ => none

/-- A range of the staging area written (R111). -/
def WeftLoad.wrote (part : Nat × Nat) (l : WeftLoad) : WeftLoad := { l with written := l.written ++ [part] }

/-- The bytes of a burst stored; a write to IMEM or timetable RAM discards the weft committed there (R113). -/
def State.storeMem (s : State) (p : Space) (a : Nat) (b : List Byte) : State :=
  let s := match p with
    | .code => s.forEach (List.range b.length) fun i s => (s.touchWeft (a + i)).2
    | .staging =>
      let part := (a - 0x1C000000, a - 0x1C000000 + b.length)
      s.onCmd fun c => { c with load := c.load.map (WeftLoad.wrote part) }
    | _ => s
  s.writeMem a b

/-! ## The opcodes -/

/-- A window of a command's source. -/
def State.window (s : State) (q : Cmd) (n : Nat) : Option Window :=
  if h : n < 4 then (s.cmd.sources.get q.src.idx).windows.get ⟨n, h⟩ else none

/-- A window set or closed. -/
def State.setWindow (s : State) (q : Cmd) (n : Nat) (w : Option Window) : State :=
  if h : n < 4 then s.onSource q.src.idx fun x => { x with windows := x.windows.put ⟨n, h⟩ w } else s

/-- Is the stream at an address open in a window other than window `n` of the source (R300 check 6)? -/
def State.streamOpen (s : State) (q : Cmd) (n base : Nat) : Bool :=
  (List.finRange 6).any fun i => (List.finRange 4).any fun k =>
    !(decide (i = q.src.idx) && decide (k.1 = n)) &&
      match (s.cmd.sources.get i).windows.get k with
      | some w => decide (w.attr = 1) && decide (w.base = base)
      | none => false

/-- The checks of DP_OPEN in their order (R300, R345). -/
def State.openCheck (s : State) (q : Cmd) : Option Status :=
  let p := q.params
  let elem := u8 p 1
  let attr := u8 p 2
  let base := u32 p 4
  let length := u32 p 8
  if 3 < u8 p 0 ∨ 2 < attr ∨ 1 < u8 p 3 then some .badParam
  else if elem = 0 ∨ base % elem ≠ 0 ∨ length % elem ≠ 0 ∨ length < elem then some .badParam
  else
    match regionOf base length with
    | none => some .badParam
    | some r =>
      if attr ∉ r.attrs ∨ elem ∉ r.elems then some .badParam
      else if attr ≠ 1 then none
      else
        match streamAt base length with
        | none => some .badParam
        | some t =>
          let theirs := match t with
            | .notes i => decide (i ≠ q.src.idx)
            | .can c k => (s.canCh c).qWeft k
            | .far _ => false
          if u8 p 3 = 1 then some .badParam
          else if theirs then some .denied
          else if s.streamOpen q (u8 p 0) base then some .busy
          else none

/-- DP_OPEN (R296, R300). -/
def opDpOpen (r : CmdRef) (s : State) : State :=
  s.onCommand r 0x0701 fun q s =>
    let p := q.params
    if p.length ≠ 12 then s.complete q .badParam []
    else
      match s.openCheck q with
      | some st => s.complete q st []
      | none =>
        let w : Window :=
          { elem := u8 p 1, attr := u8 p 2, autoinc := bit (u8 p 3) 0, base := u32 p 4, length := u32 p 8, cursor := 0 }
        (s.setWindow q (u8 p 0) (some w)).complete q .ok (le 1 (u8 p 0) ++ zeros 3 ++ le 4 w.length)

/-- What COUNT and OFFSET must be multiples of (R301, R304). -/
def Window.unit (w : Window) : Nat :=
  if w.attr = 1 then (match streamAt w.base w.length with
    | some t => t.size
    | none => w.elem)
  else w.elem

/-- The start of a burst, where COUNT and OFFSET keep R301. -/
def Window.burst (w : Window) (count offset : Nat) (can : Bool) : Option Nat :=
  let o := if w.autoinc = true ∧ offset = 0xFFFFFFFF then w.cursor else offset
  if count % w.unit = 0 ∧ w.unit ≤ count ∧ count ≤ (if can then 36 else 1024) ∧ o % w.unit = 0 ∧ o ≤ w.length then some o else none

/-- The cursor after a burst of `n` bytes from `o` (R301). -/
def State.advance (s : State) (q : Cmd) (k : Nat) (w : Window) (o n : Nat) : State :=
  if w.autoinc then s.setWindow q k (some { w with cursor := o + n }) else s

/-- The burst begins: the cursor stands at its start, whatever becomes of it (R301). -/
def State.seek (s : State) (q : Cmd) (k : Nat) (w : Window) (o : Nat) : State := s.advance q k w o 0

/-- The island whose registers stand at an address (R305): 2 for the service core's own. -/
def regIsland (a : Nat) : Nat :=
  match a / 0x1000000 with
  | 0x20 | 0x23 => 4
  | 0x22 => 5
  | 0x24 | 0x25 => 3
  | 0x26 => 8
  | 0x28 => 0
  | _ => 2

/-- The bytes a burst reads from `o`, at most `n` (R301 to R304). -/
def State.readBurst (s : State) (w : Window) (o n : Nat) : List Byte × State :=
  let n := min n (w.length - o)
  if w.attr = 1 then
    match streamAt w.base w.length with
    | none => ([], s)
    | some t => ((((s.streamItems t).drop (o / t.size)).take (n / t.size)).flatten, s)
  else if w.attr = 2 then State.readRegs (w.base + o) (n / 4) (s.access (regIsland (w.base + o)) (n / 4) true)
  else
    match regionOf w.base w.length with
    | none => ([], s)
    | some r => (s.readSpace r.space (w.base + o) n, s)

/-- DP_READ (R296, R301). A window that is not open replies STATE (log entry 98). -/
def opDpRead (r : CmdRef) (s : State) : State :=
  s.onCommand r 0x0702 fun q s =>
    let p := q.params
    let k := u8 p 0
    let count := u16 p 2
    if p.length ≠ 8 ∨ u8 p 1 ≠ 0 ∨ 3 < k then s.complete q .badParam []
    else
      match s.window q k with
      | none => s.complete q .state []
      | some w =>
        match w.burst count (u32 p 4) (decide (q.src = .can)) with
        | none => s.complete q .badParam []
        | some o =>
          let (b, s) := (s.seek q k w o).readBurst w o count
          let s := s.advance q k w o b.length
          s.complete q (if b.length < count then .short else .ok) (le 1 k ++ zeros 1 ++ le 2 b.length ++ le 4 o ++ b)

/-- The reply of DP_WRITE (R296). -/
def writeReply (k n o : Nat) : List Byte := le 1 k ++ zeros 1 ++ le 2 n ++ le 4 o

/-- DP_WRITE (R296, R301 to R304). -/
def opDpWrite (r : CmdRef) (s : State) : State :=
  s.onCommand r 0x0703 fun q s =>
    let p := q.params
    let k := u8 p 0
    let count := u16 p 2
    if p.length ≠ 8 + count ∨ u8 p 1 ≠ 0 ∨ 3 < k then s.complete q .badParam []
    else
      match s.window q k with
      | none => s.complete q .state []
      | some w =>
        match w.burst count (u32 p 4) (decide (q.src = .can)) with
        | none => s.complete q .badParam []
        | some o =>
          let n := min count (w.length - o)
          let b := slice p 8 n
          let a := w.base + o
          let done := if n < count then Status.short else .ok
          let s := s.seek q k w o
          if w.attr = 1 then s.complete q .denied []
          else if w.attr = 2 then
            if s.fieldFull a (n / 4) then s.complete q .busy []
            else
              let (st, m, s) := State.writeRegs a b (n / 4) (s.access (regIsland a) (n / 4) false)
              (s.advance q k w o m).complete q (if st = .ok then done else st) (writeReply k m o)
          else
            match regionOf w.base w.length with
            | none => s.complete q .badParam []
            | some g =>
              match (if n = 0 then none else s.memRefusal g.space a n) with
              | some st => s.complete q st []
              | none => ((s.storeMem g.space a b).advance q k w o n).complete q done (writeReply k n o)

/-- DP_CLOSE (R296): a window that is not open is closed already (log entry 98). -/
def opDpClose (r : CmdRef) (s : State) : State :=
  s.onCommand r 0x0704 fun q s =>
    let p := q.params
    if p.length ≠ 4 ∨ zeroAt p [1, 2, 3] = false ∨ 3 < u8 p 0 then s.complete q .badParam []
    else (s.setWindow q (u8 p 0) none).complete q .ok p

/-- DP_COMMIT (R296, R304). -/
def opDpCommit (r : CmdRef) (s : State) : State :=
  s.onCommand r 0x0705 fun q s =>
    let p := q.params
    let items := u16 p 2
    if p.length ≠ 4 ∨ u8 p 1 ≠ 0 ∨ 3 < u8 p 0 then s.complete q .badParam []
    else
      match s.window q (u8 p 0) with
      | none => s.complete q .state []
      | some w =>
        match (if w.attr = 1 then streamAt w.base w.length else none) with
        | none => s.complete q .badParam []
        | some t =>
          let have_ := (s.streamItems t).length
          if have_ < items then s.complete q .badParam []
          else (s.streamDrop t items).complete q .ok (le 1 (u8 p 0) ++ zeros 1 ++ le 2 items ++ le 2 (have_ - items) ++ zeros 2)

/-! ## The meanings of the commands -/

/-- INFO (R296). -/
def execInfo (r : CmdRef) (s : State) : Host.Outcome State Fault Refusal := .next (opInfoCmd r s)

/-- GET_STATE (R296). -/
def execGetState (r : CmdRef) (s : State) : Host.Outcome State Fault Refusal := .next (opGetState r s)

/-- DP_OPEN (R300). -/
def execDpOpen (r : CmdRef) (s : State) : Host.Outcome State Fault Refusal := .next (opDpOpen r s)

/-- DP_READ (R301). -/
def execDpRead (r : CmdRef) (s : State) : Host.Outcome State Fault Refusal := .next (opDpRead r s)

/-- DP_WRITE (R301). -/
def execDpWrite (r : CmdRef) (s : State) : Host.Outcome State Fault Refusal := .next (opDpWrite r s)

/-- DP_CLOSE (R296). -/
def execDpClose (r : CmdRef) (s : State) : Host.Outcome State Fault Refusal := .next (opDpClose r s)

/-- DP_COMMIT (R304). -/
def execDpCommit (r : CmdRef) (s : State) : Host.Outcome State Fault Refusal := .next (opDpCommit r s)

end Sys2Proof.Machine
end

