-- ==== Sys2Proof/Machine/System.lean ====
section
/-! DEFINITION. The frame mark (R53, R54) and the passing of a microsecond. -/

namespace Sys2Proof.Machine

open Sys2Proof

/-- One entry of SW_ADOPT (R298): the result byte. -/
def State.adoptObject (s : State) (e : AdoptEntry) : Nat × State :=
  match chOfNum e.object with
  | some c => s.adoptChan c e
  | none => match acOfNum (e.object - 0x80) with
    | some c => s.adoptAct c e
    | none => (2, s)

/-- Its entries in order, with the results. -/
def State.adoptAll : List AdoptEntry → State → List Nat × State
  | [], s => ([], s)
  | e :: l, s =>
    let (n, s) := s.adoptObject e
    let (r, s) := State.adoptAll l s
    (n :: r, s)

/-- The SW_ADOPTs that wait are evaluated at the frame mark (R298). -/
def State.adoptMark (s : State) : State :=
  let l := s.sw.adopts
  (s.onSw fun w => { w with adopts := [] }).forEach l fun r s =>
    let (res, s) := s.adoptAll r.entries
    let ok := res.all fun n => n == 0 || n == 4
    s.completeId r.cmd (if ok then .ok else .state) (le 1 res.length ++ zeros 3 ++ res.flatMap fun n => le 1 n)

/-- Commands due in the frame that ends, and the SAFE_AFTER policies that expire with it, act before the mark's own changes (R123, R156). -/
def State.overdue (s : State) : State :=
  let s := s.forEach allCh fun c s => s.switchDue c true
  let s := s.forEach allAc fun c s => s.driveDue c true
  let s := s.forEach allCh fun c s => opOrphanSafe c s
  s.forEach allAc fun c s => opActuatorOrphanSafe c s

/-- Is a COMMIT due at this mark (R121, R129 step 4)? After a stop at once, which sends no COMMIT any more, the island discards the registers without
COMMIT_MISSING (DESIGN CHOICE, log entry 152). -/
def State.commitDue (s : State) : Bool :=
  s.weft.running.isSome || match s.weft.starting with
    | some x => x.evaluated && decide (s.frame = x.frame)
    | none => false

/-- SERVICE_HEARTBEAT (R154, R496, R497): from the service core, or from the Taproot in Idle and while an entry into Sleep goes on. -/
def State.serviceHeartbeat (s : State) : State :=
  if s.cmd.serving || decide (s.pwr.state = .idle) || s.pwr.entering then
    (s.sendWord 9 tyHeartbeat 0).sendWord 10 tyHeartbeat 0
  else s

/-- The drops not yet reported (R317, R342, R382). -/
def State.dropReports (s : State) : State :=
  s.reportDropped.forEach allCan fun c s => ((s.reportDrops c 0).reportDrops c 1).reportTunDrops c

/-- The islands whose local warp counter the mark corrects (R54). -/
def warpIslands : List Nat := [1, 2, 4, 5, 7, 8]

/-- WARP_CORRECTION and WARP_ERR (R54): `corr` lists the corrections in ns. -/
def State.correctWarp (s : State) (corr : List (Nat × Int)) : State :=
  s.forEach (corr.filter fun x => x.1 ∈ warpIslands && decide (250 < x.2.natAbs)) fun x s =>
    (s.onClk fun k => { k with warpErr := true }).fault .D x.1 0xA060 x.1 (sgn x.2) 0

/-- What every island does at a frame mark; the plan faults of the new frame are counted from here (R126). `badSw` and `badDr` name an object of
the switch or drive island whose command check fails at the latch, `badHost` the objects whose host commands fail it before they apply (R330). -/
def State.markWork (s : State) (corr : List (Nat × Int)) (badSw badDr : Option Nat) (badHost : List Nat) : State :=
  let s := ((s.onFlt fun f => { f with planSeen := [] }).correctWarp corr).frameDeviation
  let s := s.overdue.adoptMark
  let s := (s.serviceDue false).serviceDue true
  let due := s.commitDue
  let s := (s.switchCommit due badSw).driveCommit due badDr
  let s := (s.hostMark badHost).driveHostMark badHost
  let s := if s.hyperFrame = 0 then s.pgMark else s
  let s := s.onSw fun w =>
    { w with chans := w.chans.mapIdx fun _ x => x.frameEnd, guards := w.guards.mapIdx fun _ g => { g with maxSum := 0 } }
  let s := s.drainEth.serviceHeartbeat.twinHeartbeat.relMark.nmEval.dropReports
  s.weftMark.handoverMark.lockstep.powerWatch

/-- True time and warp time move on by `n` µs; warp time stands while its keeper is without power (R53, R56). -/
def State.elapse (s : State) (n : Nat) : State :=
  let s := { s with now := s.now + n }
  if s.pwr.islandUp.get 3 then
    s.onWt fun w =>
      { w with warp := w.warp + BitVec.ofNat 64 n, loc := (w.loc.mapIdx fun _ x => x + BitVec.ofNat 64 n), ticks := w.ticks + n }
  else s

/-- FRAME_MARK (R53, R54): warp time reaches its next multiple of 1 000. -/
def opFrameMark (corr : List (Nat × Int)) (badSw badDr : Option Nat) (badHost : List Nat) (s : State) : State :=
  if !s.pwr.islandUp.get 3 then s
  else
    let s := s.elapse (1000 - s.warp % 1000)
    (s.onWt fun w => { w with loc := Tab.fill 9 w.warp }).markWork corr badSw badDr badHost

/-- One microsecond passes: what the block does while no command waits (log entry 1). -/
def State.idleStep (s : State) : State :=
  let s := s.elapse 1
  if s.pwr.islandUp.get 3 && decide (s.warp % 1000 = 0) then
    (s.onWt fun w => { w with loc := Tab.fill 9 w.warp }).markWork [] none none []
  else s.drainEth.powerWatch

/-! ## The meanings of the commands -/

/-- FRAME_MARK (R53). -/
def execFrameMark (corr : List (Nat × Int)) (badSw badDr : Option Nat) (badHost : List Nat) (s : State) : Host.Outcome State Fault Refusal :=
  .next (opFrameMark corr badSw badDr badHost s)

end Sys2Proof.Machine
end

