-- ==== Sys2Proof/Machine/Dispatch.lean ====
section
/-! DEFINITION. One arm for each command of the table: a direct call of its meaning. -/

namespace Sys2Proof.Machine

open Sys2Proof

def exec (i : Instr) (s : State) : Host.Outcome State Fault Refusal :=
  match i with
  | .auxLoss mv => Sys2Proof.Machine.execAuxLoss mv s
  | .reserveEnd mv wake m => Sys2Proof.Machine.execReserveEnd mv wake m s
  | .auxRestore => Sys2Proof.Machine.execAuxRestore s
  | .pwrLow p mv => Sys2Proof.Machine.execPwrLow p mv s
  | .pwrRestored p => Sys2Proof.Machine.execPwrRestored p s
  | .vbusFault => Sys2Proof.Machine.execVbusFault s
  | .vbusRestore => Sys2Proof.Machine.execVbusRestore s
  | .keepColdStart wake m => Sys2Proof.Machine.execKeepColdStart wake m s
  | .xoStable => Sys2Proof.Machine.execXoStable s
  | .xoPllSettled => Sys2Proof.Machine.execXoPllSettled s
  | .hfoTrimConverged trim dev => Sys2Proof.Machine.execHfoTrimConverged trim dev s
  | .lfoTrimConverged dev => Sys2Proof.Machine.execLfoTrimConverged dev s
  | .xoFail => Sys2Proof.Machine.execXoFail s
  | .xoRetry => Sys2Proof.Machine.execXoRetry s
  | .trimSource j sync => Sys2Proof.Machine.execTrimSource j sync s
  | .clkstuck mux => Sys2Proof.Machine.execClkstuck mux s
  | .pllLost n => Sys2Proof.Machine.execPllLost n s
  | .xoLoss offFrequency => Sys2Proof.Machine.execXoLoss offFrequency s
  | .xoReturn => Sys2Proof.Machine.execXoReturn s
  | .frameMark corr badSw badDr badHost => Sys2Proof.Machine.execFrameMark corr badSw badDr badHost s
  | .warpStep ptp phase => Sys2Proof.Machine.execWarpStep ptp phase s
  | .warpLoRead => Sys2Proof.Machine.execWarpLoRead s
  | .warpPtpOffsetLoRead => Sys2Proof.Machine.execWarpPtpOffsetLoRead s
  | .shuttleAck k => Sys2Proof.Machine.execShuttleAck k s
  | .shuttleRetransmit k => Sys2Proof.Machine.execShuttleRetransmit k s
  | .nop => Sys2Proof.Machine.execNop s
  | .mov => Sys2Proof.Machine.execMov s
  | .movsx => Sys2Proof.Machine.execMovsx s
  | .lea => Sys2Proof.Machine.execLea s
  | .add => Sys2Proof.Machine.execAdd s
  | .adc => Sys2Proof.Machine.execAdc s
  | .sub => Sys2Proof.Machine.execSub s
  | .sbc => Sys2Proof.Machine.execSbc s
  | .and => Sys2Proof.Machine.execAnd s
  | .or => Sys2Proof.Machine.execOr s
  | .xor => Sys2Proof.Machine.execXor s
  | .not => Sys2Proof.Machine.execNot s
  | .neg => Sys2Proof.Machine.execNeg s
  | .shl => Sys2Proof.Machine.execShl s
  | .shr => Sys2Proof.Machine.execShr s
  | .sar => Sys2Proof.Machine.execSar s
  | .ror => Sys2Proof.Machine.execRor s
  | .cmp => Sys2Proof.Machine.execCmp s
  | .tst => Sys2Proof.Machine.execTst s
  | .addm => Sys2Proof.Machine.execAddm s
  | .subm => Sys2Proof.Machine.execSubm s
  | .bset => Sys2Proof.Machine.execBset s
  | .bclr => Sys2Proof.Machine.execBclr s
  | .btst => Sys2Proof.Machine.execBtst s
  | .bcc => Sys2Proof.Machine.execBcc s
  | .call => Sys2Proof.Machine.execCall s
  | .ret => Sys2Proof.Machine.execRet s
  | .jmpi => Sys2Proof.Machine.execJmpi s
  | .yield => Sys2Proof.Machine.execYield s
  | .done => Sys2Proof.Machine.execDone s
  | .mulu => Sys2Proof.Machine.execMulu s
  | .muls => Sys2Proof.Machine.execMuls s
  | .mulComplete => Sys2Proof.Machine.execMulComplete s
  | .dadd => Sys2Proof.Machine.execDadd s
  | .dadc => Sys2Proof.Machine.execDadc s
  | .dsub => Sys2Proof.Machine.execDsub s
  | .dsbc => Sys2Proof.Machine.execDsbc s
  | .dadj => Sys2Proof.Machine.execDadj s
  | .cvbd => Sys2Proof.Machine.execCvbd s
  | .cvdb => Sys2Proof.Machine.execCvdb s
  | .rep => Sys2Proof.Machine.execRep s
  | .repi => Sys2Proof.Machine.execRepi s
  | .send => Sys2Proof.Machine.execSend s
  | .recv => Sys2Proof.Machine.execRecv s
  | .fence => Sys2Proof.Machine.execFence s
  | .waitslot => Sys2Proof.Machine.execWaitslot s
  | .gets => Sys2Proof.Machine.execGets s
  | .puts => Sys2Proof.Machine.execPuts s
  | .loomDataReceive port crcOk => Sys2Proof.Machine.execLoomDataReceive port crcOk s
  | .segmentStart => Sys2Proof.Machine.execSegmentStart s
  | .wcet k => Sys2Proof.Machine.execWcet k s
  | .deadline k => Sys2Proof.Machine.execDeadline k s
  | .selvedgeCommit => Sys2Proof.Machine.execSelvedgeCommit s
  | .commitReceive drive crcOk => Sys2Proof.Machine.execCommitReceive drive crcOk s
  | .heartbeatReceive drive host crcOk => Sys2Proof.Machine.execHeartbeatReceive drive host crcOk s
  | .commandDue object checkOk => Sys2Proof.Machine.execCommandDue object checkOk s
  | .weftLoadBegin r => Sys2Proof.Machine.execWeftLoadBegin r s
  | .weftCommit r => Sys2Proof.Machine.execWeftCommit r s
  | .weftStart r => Sys2Proof.Machine.execWeftStart r s
  | .weftStop r => Sys2Proof.Machine.execWeftStop r s
  | .weftSwap r => Sys2Proof.Machine.execWeftSwap r s
  | .weftAutostart => Sys2Proof.Machine.execWeftAutostart s
  | .ownershipEvaluation => Sys2Proof.Machine.execOwnershipEvaluation s
  | .weftStarted => Sys2Proof.Machine.execWeftStarted s
  | .weftStopped => Sys2Proof.Machine.execWeftStopped s
  | .weftSwapped => Sys2Proof.Machine.execWeftSwapped s
  | .switchCmd crcOk => Sys2Proof.Machine.execSwitchCmd crcOk s
  | .switchReadRequest crcOk => Sys2Proof.Machine.execSwitchReadRequest crcOk s
  | .pwmPeriodStart c => Sys2Proof.Machine.execPwmPeriodStart c s
  | .pwmOffEdge c => Sys2Proof.Machine.execPwmOffEdge c s
  | .pulseEnd c => Sys2Proof.Machine.execPulseEnd c s
  | .pgPeriodWrite g v => Sys2Proof.Machine.execPgPeriodWrite g v s
  | .profileSegmentEnd c => Sys2Proof.Machine.execProfileSegmentEnd c s
  | .scanSample c mA fine tj dSum => Sys2Proof.Machine.execScanSample c mA fine tj dSum s
  | .admitLimit c => Sys2Proof.Machine.execAdmitLimit c s
  | .orphanEnter host => Sys2Proof.Machine.execOrphanEnter host s
  | .orphanSafe c => Sys2Proof.Machine.execOrphanSafe c s
  | .switchReset => Sys2Proof.Machine.execSwitchReset s
  | .peakReset c => Sys2Proof.Machine.execPeakReset c s
  | .shortTrip c mA => Sys2Proof.Machine.execShortTrip c mA s
  | .overcurrentTrip c => Sys2Proof.Machine.execOvercurrentTrip c s
  | .thermalShutdown c tj => Sys2Proof.Machine.execThermalShutdown c tj s
  | .pauseExpiry c tj => Sys2Proof.Machine.execPauseExpiry c tj s
  | .coolingRestart c tj => Sys2Proof.Machine.execCoolingRestart c tj s
  | .coolingLimit c => Sys2Proof.Machine.execCoolingLimit c s
  | .retryWindowExpiry c => Sys2Proof.Machine.execRetryWindowExpiry c s
  | .openLoadOnDetect c => Sys2Proof.Machine.execOpenLoadOnDetect c s
  | .loadReturnedOn c => Sys2Proof.Machine.execLoadReturnedOn c s
  | .openLoadOffDetect c mv => Sys2Proof.Machine.execOpenLoadOffDetect c mv s
  | .loadReturnedOff c mv => Sys2Proof.Machine.execLoadReturnedOff c mv s
  | .envelopeEvent p => Sys2Proof.Machine.execEnvelopeEvent p s
  | .shed p => Sys2Proof.Machine.execShed p s
  | .envelopeEventClose p => Sys2Proof.Machine.execEnvelopeEventClose p s
  | .rechargeResume => Sys2Proof.Machine.execRechargeResume s
  | .thermalBudgetEval base => Sys2Proof.Machine.execThermalBudgetEval base s
  | .thermalShedStart => Sys2Proof.Machine.execThermalShedStart s
  | .thermalShed => Sys2Proof.Machine.execThermalShed s
  | .swClearLatch r => Sys2Proof.Machine.execSwClearLatch r s
  | .vboostReady mv => Sys2Proof.Machine.execVboostReady mv s
  | .vboostOv mv => Sys2Proof.Machine.execVboostOv mv s
  | .boostFail mv => Sys2Proof.Machine.execBoostFail mv s
  | .boostCut c mJ mA => Sys2Proof.Machine.execBoostCut c mJ mA s
  | .boostGrant c => Sys2Proof.Machine.execBoostGrant c s
  | .bankDeferExpiry c => Sys2Proof.Machine.execBankDeferExpiry c s
  | .actuatorFire c => Sys2Proof.Machine.execActuatorFire c s
  | .actuatorRelease c => Sys2Proof.Machine.execActuatorRelease c s
  | .decayEnd c => Sys2Proof.Machine.execDecayEnd c s
  | .freewheelLatchExpiry c => Sys2Proof.Machine.execFreewheelLatchExpiry c s
  | .controlUpdate c mA u vb mJ => Sys2Proof.Machine.execControlUpdate c mA u vb mJ s
  | .holdUnreachable c => Sys2Proof.Machine.execHoldUnreachable c s
  | .openCoil c => Sys2Proof.Machine.execOpenCoil c s
  | .shortedCoil c mA => Sys2Proof.Machine.execShortedCoil c mA s
  | .bankFault b released mA => Sys2Proof.Machine.execBankFault b released mA s
  | .bankOverload b mean => Sys2Proof.Machine.execBankOverload b mean s
  | .bankOverloadClear b mean => Sys2Proof.Machine.execBankOverloadClear b mean s
  | .driveCmd crcOk => Sys2Proof.Machine.execDriveCmd crcOk s
  | .driveReadRequest crcOk => Sys2Proof.Machine.execDriveReadRequest crcOk s
  | .actuatorOrphanEnter host => Sys2Proof.Machine.execActuatorOrphanEnter host s
  | .actuatorOrphanSafe c => Sys2Proof.Machine.execActuatorOrphanSafe c s
  | .driveReset => Sys2Proof.Machine.execDriveReset s
  | .clearLearned c => Sys2Proof.Machine.execClearLearned c s
  | .acLoadBobbin r => Sys2Proof.Machine.execAcLoadBobbin r s
  | .barrierFrame raw readback parity fpMv ga gb => Sys2Proof.Machine.execBarrierFrame raw readback parity fpMv ga gb s
  | .fieldFrameReceive crcOk => Sys2Proof.Machine.execFieldFrameReceive crcOk s
  | .logicFrameReceive crcOk => Sys2Proof.Machine.execLogicFrameReceive crcOk s
  | .fieldStale => Sys2Proof.Machine.execFieldStale s
  | .logicSilent => Sys2Proof.Machine.execLogicSilent s
  | .fieldStart mv => Sys2Proof.Machine.execFieldStart mv s
  | .fieldStop mv => Sys2Proof.Machine.execFieldStop mv s
  | .fieldWatchdog => Sys2Proof.Machine.execFieldWatchdog s
  | .stuck j => Sys2Proof.Machine.execStuck j s
  | .chatter j => Sys2Proof.Machine.execChatter j s
  | .fastCountEdge k rising interval => Sys2Proof.Machine.execFastCountEdge k rising interval s
  | .foOverload o => Sys2Proof.Machine.execFoOverload o s
  | .groupLimit g ma => Sys2Proof.Machine.execGroupLimit g ma s
  | .fieldDataWord crcOk => Sys2Proof.Machine.execFieldDataWord crcOk s
  | .fieldConfigWrite off v => Sys2Proof.Machine.execFieldConfigWrite off v s
  | .counterClear mask => Sys2Proof.Machine.execCounterClear mask s
  | .fieldFlagClear overspeed wrap groups silent outs => Sys2Proof.Machine.execFieldFlagClear overspeed wrap groups silent outs s
  | .packetReceive via p => Sys2Proof.Machine.execPacketReceive via p s
  | .commandBegin r => Sys2Proof.Machine.execCommandBegin r s
  | .sessionTimeout k => Sys2Proof.Machine.execSessionTimeout k s
  | .info r => Sys2Proof.Machine.execInfo r s
  | .ping r => Sys2Proof.Machine.execPing r s
  | .getState r => Sys2Proof.Machine.execGetState r s
  | .sessionOpen r => Sys2Proof.Machine.execSessionOpen r s
  | .sessionClose r => Sys2Proof.Machine.execSessionClose r s
  | .swSet r => Sys2Proof.Machine.execSwSet r s
  | .swGet r => Sys2Proof.Machine.execSwGet r s
  | .swConfig r => Sys2Proof.Machine.execSwConfig r s
  | .swAdopt r => Sys2Proof.Machine.execSwAdopt r s
  | .acFire r => Sys2Proof.Machine.execAcFire r s
  | .acRelease r => Sys2Proof.Machine.execAcRelease r s
  | .acConfig r => Sys2Proof.Machine.execAcConfig r s
  | .acGet r => Sys2Proof.Machine.execAcGet r s
  | .fioSet r => Sys2Proof.Machine.execFioSet r s
  | .fioGet r => Sys2Proof.Machine.execFioGet r s
  | .fioConfig r => Sys2Proof.Machine.execFioConfig r s
  | .dpOpen r => Sys2Proof.Machine.execDpOpen r s
  | .dpRead r => Sys2Proof.Machine.execDpRead r s
  | .dpWrite r => Sys2Proof.Machine.execDpWrite r s
  | .dpClose r => Sys2Proof.Machine.execDpClose r s
  | .dpCommit r => Sys2Proof.Machine.execDpCommit r s
  | .groupResume r => Sys2Proof.Machine.execGroupResume r s
  | .groupAbort r => Sys2Proof.Machine.execGroupAbort r s
  | .fenceCmd r => Sys2Proof.Machine.execFenceCmd r s
  | .faultRead r => Sys2Proof.Machine.execFaultRead r s
  | .faultReport crcOk => Sys2Proof.Machine.execFaultReport crcOk s
  | .quietPeriodEnd => Sys2Proof.Machine.execQuietPeriodEnd s
  | .faultHandler => Sys2Proof.Machine.execFaultHandler s
  | .watchdog n ago => Sys2Proof.Machine.execWatchdog n ago s
  | .loomReset => Sys2Proof.Machine.execLoomReset s
  | .serviceCoreReset => Sys2Proof.Machine.execServiceCoreReset s
  | .networkReset => Sys2Proof.Machine.execNetworkReset s
  | .boot otpOk flash m => Sys2Proof.Machine.execBoot otpOk flash m s
  | .forceSafeOn => Sys2Proof.Machine.execForceSafeOn s
  | .forceSafeOff => Sys2Proof.Machine.execForceSafeOff s
  | .permitRenewal => Sys2Proof.Machine.execPermitRenewal s
  | .permitExpiry => Sys2Proof.Machine.execPermitExpiry s
  | .canFrameReceive c f ago sub lost => Sys2Proof.Machine.execCanFrameReceive c f ago sub lost s
  | .canError c kind inData buf dataField heavy ago tdcv => Sys2Proof.Machine.execCanError c kind inData buf dataField heavy ago tdcv s
  | .protocolException c => Sys2Proof.Machine.execProtocolException c s
  | .errorPassive c => Sys2Proof.Machine.execErrorPassive c s
  | .errorActive c => Sys2Proof.Machine.execErrorActive c s
  | .busOff c => Sys2Proof.Machine.execBusOff c s
  | .busRecovered c => Sys2Proof.Machine.execBusRecovered c s
  | .busIntegrated c => Sys2Proof.Machine.execBusIntegrated c s
  | .idclash c b => Sys2Proof.Machine.execIdclash c b s
  | .canTxComplete c b ago tdcv => Sys2Proof.Machine.execCanTxComplete c b ago tdcv s
  | .canAbort c b => Sys2Proof.Machine.execCanAbort c b s
  | .canConfig r => Sys2Proof.Machine.execCanConfig r s
  | .canFilter r => Sys2Proof.Machine.execCanFilter r s
  | .canSend r => Sys2Proof.Machine.execCanSend r s
  | .canStatus r => Sys2Proof.Machine.execCanStatus r s
  | .canPeek crcOk => Sys2Proof.Machine.execCanPeek crcOk s
  | .canCommit crcOk => Sys2Proof.Machine.execCanCommit crcOk s
  | .canTx crcOk => Sys2Proof.Machine.execCanTx crcOk s
  | .canStatusRequest crcOk => Sys2Proof.Machine.execCanStatusRequest crcOk s
  | .networkCmdInvalid crcOk => Sys2Proof.Machine.execNetworkCmdInvalid crcOk s
  | .nmFrameSend c => Sys2Proof.Machine.execNmFrameSend c s
  | .nmTimeout c => Sys2Proof.Machine.execNmTimeout c s
  | .repeatEnd c => Sys2Proof.Machine.execRepeatEnd c s
  | .nmSleep c => Sys2Proof.Machine.execNmSleep c s
  | .canWakeDetect c seen => Sys2Proof.Machine.execCanWakeDetect c seen s
  | .wufErrwake c => Sys2Proof.Machine.execWufErrwake c s
  | .falseWake c => Sys2Proof.Machine.execFalseWake c s
  | .maxAwake c => Sys2Proof.Machine.execMaxAwake c s
  | .nmKeeper c => Sys2Proof.Machine.execNmKeeper c s
  | .nmConfig r => Sys2Proof.Machine.execNmConfig r s
  | .nmRequest r => Sys2Proof.Machine.execNmRequest r s
  | .nmRequestRepeat r => Sys2Proof.Machine.execNmRequestRepeat r s
  | .nmRelease r => Sys2Proof.Machine.execNmRelease r s
  | .tc10SleepRequest p => Sys2Proof.Machine.execTc10SleepRequest p s
  | .tc10SleepReceive p => Sys2Proof.Machine.execTc10SleepReceive p s
  | .tc10Wake p => Sys2Proof.Machine.execTc10Wake p s
  | .ethFrameReceive p frame => Sys2Proof.Machine.execEthFrameReceive p frame s
  | .macAgeOut addr => Sys2Proof.Machine.execMacAgeOut addr s
  | .macTableFull => Sys2Proof.Machine.execMacTableFull s
  | .linkUp p => Sys2Proof.Machine.execLinkUp p s
  | .linkDown p => Sys2Proof.Machine.execLinkDown p s
  | .pdelayMeasure p ns => Sys2Proof.Machine.execPdelayMeasure p ns s
  | .gptpSync p => Sys2Proof.Machine.execGptpSync p s
  | .gptpLost p next => Sys2Proof.Machine.execGptpLost p next s
  | .ipAddress grant other => Sys2Proof.Machine.execIpAddress grant other s
  | .dhcpRenewal extends_ other => Sys2Proof.Machine.execDhcpRenewal extends_ other s
  | .dhcpLeaseLost other => Sys2Proof.Machine.execDhcpLeaseLost other s
  | .tunnelAvtpduClose c => Sys2Proof.Machine.execTunnelAvtpduClose c s
  | .farTransactionStart p => Sys2Proof.Machine.execFarTransactionStart p s
  | .modbusFrameReceive p frame charError => Sys2Proof.Machine.execModbusFrameReceive p frame charError s
  | .farTimeout p => Sys2Proof.Machine.execFarTimeout p s
  | .farTurnaroundEnd p => Sys2Proof.Machine.execFarTurnaroundEnd p s
  | .heddleWaitExpiry p => Sys2Proof.Machine.execHeddleWaitExpiry p s
  | .lockExpired p => Sys2Proof.Machine.execLockExpired p s
  | .farRead r => Sys2Proof.Machine.execFarRead r s
  | .farWrite r => Sys2Proof.Machine.execFarWrite r s
  | .farLock r => Sys2Proof.Machine.execFarLock r s
  | .farUnlock r => Sys2Proof.Machine.execFarUnlock r s
  | .twinLinkUp => Sys2Proof.Machine.execTwinLinkUp s
  | .twinLinkDown detached => Sys2Proof.Machine.execTwinLinkDown detached s
  | .twinRetransmit seq => Sys2Proof.Machine.execTwinRetransmit seq s
  | .mirrorAckTimeout => Sys2Proof.Machine.execMirrorAckTimeout s
  | .twinHello f => Sys2Proof.Machine.execTwinHello f s
  | .twinAttest f => Sys2Proof.Machine.execTwinAttest f s
  | .twinPaired f => Sys2Proof.Machine.execTwinPaired f s
  | .twinWeft f leadRuns => Sys2Proof.Machine.execTwinWeft f leadRuns s
  | .twinHeartbeat f ofs => Sys2Proof.Machine.execTwinHeartbeat f ofs s
  | .twinMirror f => Sys2Proof.Machine.execTwinMirror f s
  | .twinConfigFrame f => Sys2Proof.Machine.execTwinConfigFrame f s
  | .twinLoomData f => Sys2Proof.Machine.execTwinLoomData f s
  | .twinAck f => Sys2Proof.Machine.execTwinAck f s
  | .twinRelease f => Sys2Proof.Machine.execTwinRelease f s
  | .handoverRequest f => Sys2Proof.Machine.execHandoverRequest f s
  | .handoverAccept f => Sys2Proof.Machine.execHandoverAccept f s
  | .handoverRefuse f => Sys2Proof.Machine.execHandoverRefuse f s
  | .handoverGo f => Sys2Proof.Machine.execHandoverGo f s
  | .handoverComplete => Sys2Proof.Machine.execHandoverComplete s
  | .cableSense deciohm low => Sys2Proof.Machine.execCableSense deciohm low s
  | .takeover => Sys2Proof.Machine.execTakeover s
  | .tokenReleaseHoldEnd low => Sys2Proof.Machine.execTokenReleaseHoldEnd low s
  | .loneLead low => Sys2Proof.Machine.execLoneLead low s
  | .pairingRetry => Sys2Proof.Machine.execPairingRetry s
  | .twinConfig r => Sys2Proof.Machine.execTwinConfig r s
  | .twinHandover r => Sys2Proof.Machine.execTwinHandover r s
  | .twinStatus r => Sys2Proof.Machine.execTwinStatus r s
  | .burstStart => Sys2Proof.Machine.execBurstStart s
  | .uwbPoll seen => Sys2Proof.Machine.execUwbPoll seen s
  | .burstEnd => Sys2Proof.Machine.execBurstEnd s
  | .failureDelayEnd => Sys2Proof.Machine.execFailureDelayEnd s
  | .failDecay => Sys2Proof.Machine.execFailDecay s
  | .releaseStopped => Sys2Proof.Machine.execReleaseStopped s
  | .leaseExpiry => Sys2Proof.Machine.execLeaseExpiry s
  | .tokenEnrol r => Sys2Proof.Machine.execTokenEnrol r s
  | .tokenRevoke r => Sys2Proof.Machine.execTokenRevoke r s
  | .tokenList r => Sys2Proof.Machine.execTokenList r s
  | .releaseConfigSet r => Sys2Proof.Machine.execReleaseConfigSet r s
  | .releaseConfigPair r => Sys2Proof.Machine.execReleaseConfigPair r s
  | .releaseConfigUnpair r => Sys2Proof.Machine.execReleaseConfigUnpair r s
  | .releaseConfigRenew r => Sys2Proof.Machine.execReleaseConfigRenew r s
  | .lockout r => Sys2Proof.Machine.execLockout r s
  | .clearLockout r => Sys2Proof.Machine.execClearLockout r s
  | .clearTamper r => Sys2Proof.Machine.execClearTamper r s
  | .attest r => Sys2Proof.Machine.execAttest r s
  | .keyAdd r => Sys2Proof.Machine.execKeyAdd r s
  | .keyRemove r => Sys2Proof.Machine.execKeyRemove r s
  | .weftFloorRaise r => Sys2Proof.Machine.execWeftFloorRaise r s
  | .updateCheck r m => Sys2Proof.Machine.execUpdateCheck r m s
  | .updateArm r m => Sys2Proof.Machine.execUpdateArm r m s
  | .updateArmByWake => Sys2Proof.Machine.execUpdateArmByWake s
  | .ownerClaimed file => Sys2Proof.Machine.execOwnerClaimed file s
  | .updateStart m => Sys2Proof.Machine.execUpdateStart m s
  | .updateBlock m flash => Sys2Proof.Machine.execUpdateBlock m flash s
  | .mediumPoll m => Sys2Proof.Machine.execMediumPoll m s
  | .recordWrite ok wordOk => Sys2Proof.Machine.execRecordWrite ok wordOk s
  | .tailSectorErase ok => Sys2Proof.Machine.execTailSectorErase ok s
  | .rateToken => Sys2Proof.Machine.execRateToken s
  | .counterSave => Sys2Proof.Machine.execCounterSave s
  | .opSecond => Sys2Proof.Machine.execOpSecond s
  | .recInfo r => Sys2Proof.Machine.execRecInfo r s
  | .recAppend r => Sys2Proof.Machine.execRecAppend r s
  | .idleEntry => Sys2Proof.Machine.execIdleEntry s
  | .idleExit => Sys2Proof.Machine.execIdleExit s
  | .sleepEntry => Sys2Proof.Machine.execSleepEntry s
  | .deepSleepEntry => Sys2Proof.Machine.execDeepSleepEntry s
  | .offEntry => Sys2Proof.Machine.execOffEntry s
  | .sleepWake source detail => Sys2Proof.Machine.execSleepWake source detail s
  | .pwrConfig r => Sys2Proof.Machine.execPwrConfig r s
  | .pwrEnter r => Sys2Proof.Machine.execPwrEnter r s
  | .wakeSource r => Sys2Proof.Machine.execWakeSource r s
  | .syncInEdge hz dev => Sys2Proof.Machine.execSyncInEdge hz dev s
  | .supplyMonitorUpdate aux a b c d => Sys2Proof.Machine.execSupplyMonitorUpdate aux a b c d s
  | .wakeRisingEdge => Sys2Proof.Machine.execWakeRisingEdge s
  | .wakeFalls => Sys2Proof.Machine.execWakeFalls s
  | .tc10SleepAcknowledge p ack => Sys2Proof.Machine.execTc10SleepAcknowledge p ack s
  | .vboostAtVbSet mv => Sys2Proof.Machine.execVboostAtVbSet mv s

end Sys2Proof.Machine
end

