-- ==== Sys2Proof/Machine/Step.lean ====
section
/-! DEFINITION. One step: the command at the front of the queue, or one microsecond when none waits. -/

namespace Sys2Proof.Machine

open Sys2Proof

/-- The state with a command at the front of the queue. -/
def State.enqueue (s : State) (c : Instr) : State := { s with pending := c :: s.pending }

/-- The state with the queue's rest. -/
def State.rest (s : State) (q : List Instr) : State := { s with pending := q }

/-- The step: `exec` of the command in front on the state with the queue's rest; on an empty queue one microsecond passes (log entry 1). -/
def step (s : State) : Host.Outcome State Fault Refusal :=
  match s.pending with
  | [] => .next s.idleStep
  | c :: q => exec c (s.rest q)

/-- The state with the command that a word spells at the front of its queue, unchanged where it spells none. -/
def State.withFetchWord (s : State) (nbits w : Nat) : State :=
  match decodeTableWord nbits w with
  | some c => s.enqueue c
  | none => s

end Sys2Proof.Machine
end

