-- ==== Sys2Proof/WellFormed.lean ====
section
/-! DEFINITION. Which commands are well formed: those whose operands lie where the spec lets such an event or quantity lie. An ill-formed
command has its meaning all the same; nothing outside the block sends one. -/

namespace Sys2Proof

open Sys2Proof.Machine

/-- A supply or contact voltage in mV as its monitor reads it, 16 bits (R32). -/
def voltOk (mv : Nat) : Bool := decide (mv < 2 ^ 16)

/-- The boost rail in mV (R198). -/
def boostOk (mv : Nat) : Bool := decide (mv < 2 ^ 17)

/-- A clock multiplexer: the two of the reference, or 10 + n of island In (R50). -/
def muxOk (n : Nat) : Bool := decide (n ≤ 1) || (decide (10 ≤ n) && decide (n ≤ 18))

/-- Corrections of the local warp counters, one at most of each island that keeps one (R54). -/
def corrOk (l : List (Nat × Int)) : Bool := (l.map fun x => x.1).Nodup && l.all fun x => x.1 ∈ [1, 2, 4, 5, 7, 8]

/-- A condition on an operand that may be absent. -/
def latchOk (o : Option Nat) (p : Nat → Bool) : Bool :=
  match o with
  | none => true
  | some n => p n

/-- An object: channel 1 to 48, or actuator 0x81 to 0x8C (R110). -/
def objectOk (n : Nat) : Bool := (decide (1 ≤ n) && decide (n ≤ 48)) || (decide (0x81 ≤ n) && decide (n ≤ 0x8C))

/-- The fields of a UDP wrapper (R280). -/
def viaOk : Via → Bool
  | .udp addr port to_ _ => decide (addr < 2 ^ 32) && decide (port < 2 ^ 16) && decide (to_ < 2 ^ 16)
  | .can => true

/-- A CAN frame: identifier, DLC and its data length, no data in a remote frame, no remote frame of FD format (R334). -/
def canFrameOk (f : CanFrame) : Bool :=
  decide (f.id < (if f.ide then 2 ^ 29 else 2 ^ 11)) &&
  decide (f.dlc < 16) && f.len == dlcLen f.fdf f.dlc &&
  !(f.rtr && f.fdf) && decide (f.data.length = if f.rtr then 0 else f.len)

/-- What a wake detector has seen (R364). -/
def seenOk : Seen → Bool
  | .frame f => canFrameOk f
  | .pattern | .bad => true

/-- A DHCP lease: three IPv4 words (R379). -/
def leaseOk : Option Lease → Bool
  | none => true
  | some l => decide (l.addr < 2 ^ 32) && decide (l.mask < 2 ^ 32) && decide (l.gateway < 2 ^ 32)

/-- Is a command well formed? -/
def Instr.wellFormed : Instr → Bool
  | .auxLoss mv => voltOk mv
  | .reserveEnd mv _ _ => voltOk mv
  | .auxRestore => true
  | .pwrLow _ mv => voltOk mv
  | .pwrRestored _ => true
  | .vbusFault => true
  | .vbusRestore => true
  | .keepColdStart _ _ => true
  | .xoStable => true
  | .xoPllSettled => true
  | .hfoTrimConverged _ _ => true
  | .lfoTrimConverged _ => true
  | .xoFail => true
  | .xoRetry => true
  | .trimSource _ _ => true
  | .clkstuck mux => muxOk mux
  | .pllLost _ => true
  | .xoLoss _ => true
  | .xoReturn => true
  | .frameMark corr badSw badDr badHost => corrOk corr && badHost.all objectOk && latchOk badSw (fun o => decide (1 ≤ o) && decide (o ≤ 48)) && latchOk badDr (fun o => decide (0x81 ≤ o) && decide (o ≤ 0x8C))
  | .warpStep _ _ => true
  | .warpLoRead => true
  | .warpPtpOffsetLoRead => true
  | .shuttleAck _ => true
  | .shuttleRetransmit _ => true
  | .nop => true
  | .mov => true
  | .movsx => true
  | .lea => true
  | .add => true
  | .adc => true
  | .sub => true
  | .sbc => true
  | .and => true
  | .or => true
  | .xor => true
  | .not => true
  | .neg => true
  | .shl => true
  | .shr => true
  | .sar => true
  | .ror => true
  | .cmp => true
  | .tst => true
  | .addm => true
  | .subm => true
  | .bset => true
  | .bclr => true
  | .btst => true
  | .bcc => true
  | .call => true
  | .ret => true
  | .jmpi => true
  | .yield => true
  | .done => true
  | .mulu => true
  | .muls => true
  | .mulComplete => true
  | .dadd => true
  | .dadc => true
  | .dsub => true
  | .dsbc => true
  | .dadj => true
  | .cvbd => true
  | .cvdb => true
  | .rep => true
  | .repi => true
  | .send => true
  | .recv => true
  | .fence => true
  | .waitslot => true
  | .gets => true
  | .puts => true
  | .loomDataReceive _ _ => true
  | .segmentStart => true
  | .wcet _ => true
  | .deadline _ => true
  | .selvedgeCommit => true
  | .commitReceive _ _ => true
  | .heartbeatReceive _ _ _ => true
  | .commandDue object _ => objectOk object
  | .weftLoadBegin _ => true
  | .weftCommit _ => true
  | .weftStart _ => true
  | .weftStop _ => true
  | .weftSwap _ => true
  | .weftAutostart => true
  | .ownershipEvaluation => true
  | .weftStarted => true
  | .weftStopped => true
  | .weftSwapped => true
  | .switchCmd _ => true
  | .switchReadRequest _ => true
  | .pwmPeriodStart _ => true
  | .pwmOffEdge _ => true
  | .pulseEnd _ => true
  | .pgPeriodWrite _ v => decide (v < 2 ^ 23)
  | .profileSegmentEnd _ => true
  | .scanSample _ _ _ _ _ => true
  | .admitLimit _ => true
  | .orphanEnter _ => true
  | .orphanSafe _ => true
  | .switchReset => true
  | .peakReset _ => true
  | .shortTrip _ _ => true
  | .overcurrentTrip _ => true
  | .thermalShutdown _ _ => true
  | .pauseExpiry _ _ => true
  | .coolingRestart _ _ => true
  | .coolingLimit _ => true
  | .retryWindowExpiry _ => true
  | .openLoadOnDetect _ => true
  | .loadReturnedOn _ => true
  | .openLoadOffDetect _ mv => voltOk mv
  | .loadReturnedOff _ mv => voltOk mv
  | .envelopeEvent _ => true
  | .shed _ => true
  | .envelopeEventClose _ => true
  | .rechargeResume => true
  | .thermalBudgetEval _ => true
  | .thermalShedStart => true
  | .thermalShed => true
  | .swClearLatch _ => true
  | .vboostReady mv => boostOk mv
  | .vboostOv mv => boostOk mv
  | .boostFail mv => boostOk mv
  | .boostCut _ _ _ => true
  | .boostGrant _ => true
  | .bankDeferExpiry _ => true
  | .actuatorFire _ => true
  | .actuatorRelease _ => true
  | .decayEnd _ => true
  | .freewheelLatchExpiry _ => true
  | .controlUpdate _ _ _ _ _ => true
  | .holdUnreachable _ => true
  | .openCoil _ => true
  | .shortedCoil _ _ => true
  | .bankFault _ _ _ => true
  | .bankOverload _ _ => true
  | .bankOverloadClear _ _ => true
  | .driveCmd _ => true
  | .driveReadRequest _ => true
  | .actuatorOrphanEnter _ => true
  | .actuatorOrphanSafe _ => true
  | .driveReset => true
  | .clearLearned _ => true
  | .acLoadBobbin _ => true
  | .barrierFrame _ _ _ _ _ _ => true
  | .fieldFrameReceive _ => true
  | .logicFrameReceive _ => true
  | .fieldStale => true
  | .logicSilent => true
  | .fieldStart mv => voltOk mv
  | .fieldStop mv => voltOk mv
  | .fieldWatchdog => true
  | .stuck _ => true
  | .chatter _ => true
  | .fastCountEdge _ _ _ => true
  | .foOverload _ => true
  | .groupLimit _ ma => decide (ma.length = 8)
  | .fieldDataWord _ => true
  | .fieldConfigWrite off v => decide (off < 0x100) && decide (off % 4 = 0) && decide (v < 2 ^ 32)
  | .counterClear _ => true
  | .fieldFlagClear _ _ _ _ _ => true
  | .packetReceive via _ => viaOk via
  | .commandBegin _ => true
  | .sessionTimeout _ => true
  | .info _ => true
  | .ping _ => true
  | .getState _ => true
  | .sessionOpen _ => true
  | .sessionClose _ => true
  | .swSet _ => true
  | .swGet _ => true
  | .swConfig _ => true
  | .swAdopt _ => true
  | .acFire _ => true
  | .acRelease _ => true
  | .acConfig _ => true
  | .acGet _ => true
  | .fioSet _ => true
  | .fioGet _ => true
  | .fioConfig _ => true
  | .dpOpen _ => true
  | .dpRead _ => true
  | .dpWrite _ => true
  | .dpClose _ => true
  | .dpCommit _ => true
  | .groupResume _ => true
  | .groupAbort _ => true
  | .fenceCmd _ => true
  | .faultRead _ => true
  | .faultReport _ => true
  | .quietPeriodEnd => true
  | .faultHandler => true
  | .watchdog _ _ => true
  | .loomReset => true
  | .serviceCoreReset => true
  | .networkReset => true
  | .boot _ _ _ => true
  | .forceSafeOn => true
  | .forceSafeOff => true
  | .permitRenewal => true
  | .permitExpiry => true
  | .canFrameReceive _ f _ t _ => canFrameOk f && decide (t < 125)
  | .canError _ _ _ _ _ _ _ t => decide (t.getD 0 < 128)
  | .protocolException _ => true
  | .errorPassive _ => true
  | .errorActive _ => true
  | .busOff _ => true
  | .busRecovered _ => true
  | .busIntegrated _ => true
  | .idclash _ _ => true
  | .canTxComplete _ _ _ _ => true
  | .canAbort _ _ => true
  | .canConfig _ => true
  | .canFilter _ => true
  | .canSend _ => true
  | .canStatus _ => true
  | .canPeek _ => true
  | .canCommit _ => true
  | .canTx _ => true
  | .canStatusRequest _ => true
  | .networkCmdInvalid _ => true
  | .nmFrameSend _ => true
  | .nmTimeout _ => true
  | .repeatEnd _ => true
  | .nmSleep _ => true
  | .canWakeDetect _ seen => seenOk seen
  | .wufErrwake _ => true
  | .falseWake _ => true
  | .maxAwake _ => true
  | .nmKeeper _ => true
  | .nmConfig _ => true
  | .nmRequest _ => true
  | .nmRequestRepeat _ => true
  | .nmRelease _ => true
  | .tc10SleepRequest _ => true
  | .tc10SleepReceive _ => true
  | .tc10Wake _ => true
  | .ethFrameReceive _ frame => decide (4 ≤ frame.length) && decide (frame.length ≤ 65536)
  | .macAgeOut addr => decide (addr < 2 ^ 48)
  | .macTableFull => true
  | .linkUp _ => true
  | .linkDown _ => true
  | .pdelayMeasure _ _ => true
  | .gptpSync _ => true
  | .gptpLost _ _ => true
  | .ipAddress grant other => latchOk other (fun a => decide (a < 2 ^ 48)) && leaseOk grant
  | .dhcpRenewal _ other => latchOk other (fun a => decide (a < 2 ^ 48))
  | .dhcpLeaseLost other => latchOk other (fun a => decide (a < 2 ^ 48))
  | .tunnelAvtpduClose _ => true
  | .farTransactionStart _ => true
  | .modbusFrameReceive _ frame _ => decide (frame.length ≤ 256)
  | .farTimeout _ => true
  | .farTurnaroundEnd _ => true
  | .heddleWaitExpiry _ => true
  | .lockExpired _ => true
  | .farRead _ => true
  | .farWrite _ => true
  | .farLock _ => true
  | .farUnlock _ => true
  | .twinLinkUp => true
  | .twinLinkDown _ => true
  | .twinRetransmit seq => decide (seq < 2 ^ 32)
  | .mirrorAckTimeout => true
  | .twinHello _ => true
  | .twinAttest _ => true
  | .twinPaired _ => true
  | .twinWeft _ _ => true
  | .twinHeartbeat _ _ => true
  | .twinMirror _ => true
  | .twinConfigFrame _ => true
  | .twinLoomData _ => true
  | .twinAck _ => true
  | .twinRelease _ => true
  | .handoverRequest _ => true
  | .handoverAccept _ => true
  | .handoverRefuse _ => true
  | .handoverGo _ => true
  | .handoverComplete => true
  | .cableSense _ _ => true
  | .takeover => true
  | .tokenReleaseHoldEnd _ => true
  | .loneLead _ => true
  | .pairingRetry => true
  | .twinConfig _ => true
  | .twinHandover _ => true
  | .twinStatus _ => true
  | .burstStart => true
  | .uwbPoll seen => seen.toList.all fun x => match x with
    | .frame f => decide (f.turn < 2 ^ 40) && decide (f.id < 2 ^ 64)
    | _ => true
  | .burstEnd => true
  | .failureDelayEnd => true
  | .failDecay => true
  | .releaseStopped => true
  | .leaseExpiry => true
  | .tokenEnrol _ => true
  | .tokenRevoke _ => true
  | .tokenList _ => true
  | .releaseConfigSet _ => true
  | .releaseConfigPair _ => true
  | .releaseConfigUnpair _ => true
  | .releaseConfigRenew _ => true
  | .lockout _ => true
  | .clearLockout _ => true
  | .clearTamper _ => true
  | .attest _ => true
  | .keyAdd _ => true
  | .keyRemove _ => true
  | .weftFloorRaise _ => true
  | .updateCheck _ _ => true
  | .updateArm _ _ => true
  | .updateArmByWake => true
  | .ownerClaimed _ => true
  | .updateStart _ => true
  | .updateBlock _ _ => true
  | .mediumPoll _ => true
  | .recordWrite _ _ => true
  | .tailSectorErase _ => true
  | .rateToken => true
  | .counterSave => true
  | .opSecond => true
  | .recInfo _ => true
  | .recAppend _ => true
  | .idleEntry => true
  | .idleExit => true
  | .sleepEntry => true
  | .deepSleepEntry => true
  | .offEntry => true
  | .sleepWake source detail => decide (1 ≤ source) && decide (source ≤ 8) && decide (detail < 256)
  | .pwrConfig _ => true
  | .pwrEnter _ => true
  | .wakeSource _ => true
  | .syncInEdge _ _ => true
  | .supplyMonitorUpdate aux a b c d => voltOk aux && voltOk a && voltOk b && voltOk c && voltOk d
  | .wakeRisingEdge => true
  | .wakeFalls => true
  | .tc10SleepAcknowledge _ _ => true
  | .vboostAtVbSet mv => boostOk mv

end Sys2Proof
end

