-- ==== Sys2Proof/Safety.lean ====
section
/-! DEFINITION. What counts as a safe run, which parts of the state a command leaves alone, and the invariants that claims speak of. -/

namespace Sys2Proof

open Sys2Proof.Machine

/-- The machine goes on: a step neither faults nor is refused. -/
def Goes (s : State) : Prop := ∃ t, step s = .next t

/-- Every command that waits is well formed. -/
def QueueOk (s : State) : Prop := ∀ c ∈ s.pending, Instr.wellFormed c = true

/-- `n` steps go on from a state. -/
def SafeFor : Nat → State → Prop
  | 0, _ => True
  | n + 1, s => ∃ t, step s = .next t ∧ SafeFor n t

/-- Memory stands in its canonical form. -/
def MemOk (s : State) : Prop := Memory.wf s.mem = true

/-! ## Frames -/

/-- The parts of the state, one for each of its fields. -/
inductive Part where
  | now | free | out | mem | supply | clk | ccfg | wt | links | pwr | rcd | flt | cmd | sw | drv | fld | loom | weft | can | nm | eth | far
  | twin | acc | id | pending
  deriving DecidableEq, Repr

/-- A part is equal in two states. -/
def Part.same (s t : State) : Part → Prop
  | .now => t.now = s.now
  | .free => t.free = s.free
  | .out => t.out = s.out
  | .mem => t.mem = s.mem
  | .supply => t.supply = s.supply
  | .clk => t.clk = s.clk
  | .ccfg => t.ccfg = s.ccfg
  | .wt => t.wt = s.wt
  | .links => t.links = s.links
  | .pwr => t.pwr = s.pwr
  | .rcd => t.rcd = s.rcd
  | .flt => t.flt = s.flt
  | .cmd => t.cmd = s.cmd
  | .sw => t.sw = s.sw
  | .drv => t.drv = s.drv
  | .fld => t.fld = s.fld
  | .loom => t.loom = s.loom
  | .weft => t.weft = s.weft
  | .can => t.can = s.can
  | .nm => t.nm = s.nm
  | .eth => t.eth = s.eth
  | .far => t.far = s.far
  | .twin => t.twin = s.twin
  | .acc => t.acc = s.acc
  | .id => t.id = s.id
  | .pending => t.pending = s.pending

/-- From `s` to `t` only the listed parts may have changed. -/
structure Only (ps : List Part) (s t : State) : Prop where
  same : ∀ p, p ∉ ps → p.same s t

/-! ## Invariants -/

/-- TWIN_TOKEN is driven only by the lead, and not in the time after its release in which the outputs stay (R401, R417). -/
def TokenOk (s : State) : Prop := (s.twin.driven = true → s.twin.role = .lead) ∧ (s.twin.holdEnd.isSome = true → s.twin.driven = false)

/-- The fault queue holds at most one class S entry, at most 63 others, and so at most 64 (R309, R310, R317). -/
def FaultQueueOk (s : State) : Prop :=
  (s.flt.queue.filter fun e => decide (e.cls = .S)).length ≤ 1 ∧ (s.flt.queue.filter fun e => decide (e.cls ≠ .S)).length ≤ 63 ∧
  s.flt.queue.length ≤ 64

/-! ## Shuttle words -/

/-- The word `w` of a type stands at the head of a link, next in sequence and with its own check (R57, R59, R60). -/
def WordAt (s : State) (k : LinkNo) (typ : Nat) (w : ShWord) : Prop :=
  (s.link k).fly.head? = some w ∧ w.typ = typ ∧ w.seq = (s.link k).rxSeq ∧ w.good = true

/-- A link has room for a word, and its sender holds none back (R62). -/
def Room (s : State) (k : LinkNo) : Prop := (s.link k).full = false ∧ (s.link k).hold = []

/-- The payloads of a link's words in their order, its ACKs apart: those in flight, then those its sender holds back. -/
def Machine.Link.words (l : Link) : List (BitVec 64) := (l.fly.filter ShWord.counts).map ShWord.payload ++ l.hold.map fun h => h.2.1

/-! ## The Loom -/

/-- The multiplier settled at the Loom's own cycle, before an instruction begins (R90). -/
def settled (s : State) : State := s.onLoom fun l => l.settle l.cyc

/-- The Loom stands, in the segment `g` and outside a repeat, at a legal instruction of a row of R82. -/
def LoomAt (s : State) (g : Seg) (row : Nat) : Prop :=
  s.loom.seg = some g ∧ s.loomReady = true ∧ s.fetchOk = true ∧ opRow s.nowIns.opc = row ∧ s.nowIns.legal = true ∧ s.loom.rep = none

/-- Where the budget of the segment allows it, a command executes the instruction at the Loom's PC with the meaning `sem`, in every operand form:
its results, cycles, jump and faults take effect (R116; YIELD and DONE need 3 cycles up to the budget's end, every other instruction its own
and 3 more). A weft that a lost PLL is to stop (R51) stops if the segment ends there. -/
def LoomCompletes (c : Instr) (row : Nat) (sem : Ins → State → Done) : Prop :=
  ∀ (s : State) (g : Seg), LoomAt s g row →
    (settled s).loom.cyc + (sem s.nowIns (settled s)).cycles + (sem s.nowIns (settled s)).ahead + (if row = 0x64 ∨ row = 0x65 then 0 else 3) ≤ g.stop →
    exec c s = .next (State.finishIns g s.nowIns (sem s.nowIns (settled s))).boundary

/-- Does an instruction name register `r` as its destination, or count it up or down as an address (R77)? -/
def Machine.Ins.changes (i : Ins) (r : Nat) : Prop :=
  ((i.shape.d = .dst ∨ i.shape.d = .rmw) ∧ sMode i.d = 0 ∧ sReg i.d = r) ∨ (i.shape.d.operand = true ∧ 6 ≤ sMode i.d ∧ sReg i.d = r) ∨
  (i.shape.a.operand = true ∧ 6 ≤ sMode i.a ∧ sReg i.a = r) ∨ (i.shape.b.operand = true ∧ 6 ≤ sMode i.b ∧ sReg i.b = r)

/-- The registers after the source operands of an instruction were read (R78). -/
def Machine.Ins.sources (i : Ins) (l : Loom) : Loom :=
  let l := if i.shape.a.operand then (l.loc i.a i.xa (opSize i.opc)).2 else l
  if i.shape.b.operand then (l.loc i.b i.xb (opSize i.opc)).2 else l

/-- The address an instruction stores its destination to, if that is memory (R77, R78). -/
def Machine.Ins.storesTo (i : Ins) (l : Loom) : Option Nat :=
  if i.shape.d = .dst ∨ i.shape.d = .rmw then
    match ((i.sources l).loc i.d i.xd (opSize i.opc)).1 with
    | .mem a => some a
    | _ => none
  else none

/-- Every byte of memory outside `lo ≤ a < hi` reads as before. -/
def OnlyBytes (lo hi : Nat) (s t : State) : Prop := ∀ a, a < lo ∨ hi ≤ a → Memory.read t.mem a = Memory.read s.mem a

/-! ## Trips -/

/-- What a trip of a channel leaves (R171): the gate off, TRIPS and its instant noted, TRIP_COUNT raised by a current trip, and then the latch, the end
of a pulse, or a pause of P0 · 2^(TRIPS − 1) ms, at most 10 s. -/
def Tripped (s t : State) (c : ChNo) (current : Bool) : Prop :=
  let n := min 15 ((s.chan c).trips + 1)
  let limit := max 1 (s.chan c).cfg.retryN
  (t.chan c).output = false ∧ (t.chan c).trips = n ∧ (t.chan c).normalAt = s.now ∧
  (t.chan c).counts.trips = (if current then satAdd 0xFFFFFFFF (s.chan c).counts.trips 1 else (s.chan c).counts.trips) ∧
  (limit ≤ n → (t.chan c).prot = .latched ∧ (t.chan c).mode = (s.chan c).mode) ∧
  (n < limit → (s.chan c).mode = .pulse → (t.chan c).prot = (s.chan c).prot ∧ (t.chan c).mode = .off) ∧
  (n < limit → (s.chan c).mode ≠ .pulse →
    (t.chan c).prot = .pause (s.now + min (max 1 (s.chan c).cfg.p0Ms * 2 ^ (n - 1)) 10000 * 1000) ∧ (t.chan c).mode = (s.chan c).mode)

/-- A channel shed (R184): off, with SHED set. -/
def ShedNow (t : State) (c : ChNo) : Prop := (t.chan c).mode = .off ∧ (t.chan c).output = false ∧ (t.chan c).flags.shed = true

/-- The value of a packed decimal word of `n` digits from digit `i` on. -/
def decimalValue (v i : Nat) : Nat → Nat
  | 0 => 0
  | n + 1 => digit v i + 10 * decimalValue v (i + 1) n

end Sys2Proof
end

