-- ==== Sys2Proof/Certificates/Slice0/Obligations.lean ====
section
/-! DEFINITION. The statements for the provers. -/

open Sys2Proof Sys2Proof.Machine

/-- A step takes the command in front of the queue and answers what `exec` answers on the state with the queue's rest. -/
def Obligations.StepRunsFront : Prop :=
  ∀ (s : State) (c : Instr) (q : List Instr), s.pending = c :: q → step s = exec c (s.rest q)

/-- On an empty queue a step lets one microsecond pass (the model's choice, log entry 1): it goes on, true time rises by 1, and no command appears. -/
def Obligations.EmptyQueueTicks : Prop :=
  ∀ s : State, s.pending = [] → ∃ t, step s = .next t ∧ t.now = s.now + 1 ∧ t.pending = []

/-- Reset (spec/01 to 19): the invariants hold, no command waits, every output is off and every actuator released, the module is single, the fault queue
is empty with the release gate closed, and warp time is 0. -/
def Obligations.ResetState : Prop :=
  MemOk State.reset ∧ TokenOk State.reset ∧ FaultQueueOk State.reset ∧ State.reset.pending = [] ∧
  (∀ c, (State.reset.chan c).mode = .off ∧ (State.reset.chan c).output = false ∧ (State.reset.chan c).flags.shed = false) ∧
  (∀ c, State.reset.phase c = .released) ∧ State.reset.twin.role = .none ∧ State.reset.twin.pair = .off ∧
  State.reset.flt.queue = [] ∧ State.reset.flt.gate.closed = true ∧ State.reset.warp = 0 ∧ State.reset.weft.running = none

/-- No command is refused, and the one command that can end in a fault is SUPPLY_MONITOR_UPDATE, on a supply outside the operating limits (R2, R34). -/
def Obligations.NeverRefused : Prop :=
  ∀ (s : State) (c : Instr), (∃ t, exec c s = .next t) ∨ (exec c s = .fault .outsideLimits ∧ ∃ aux a b x d, c = .supplyMonitorUpdate aux a b x d)

/-- A command leaves the queue of waiting commands alone; true time and the count of free values never go back. -/
def Obligations.QueueAndClockKept : Prop :=
  ∀ (s t : State) (c : Instr), exec c s = .next t → t.pending = s.pending ∧ s.now ≤ t.now ∧ s.free ≤ t.free

/-- Every step keeps memory in its canonical form: addresses rising, no listed byte equal to what an unlisted one reads. -/
def Obligations.MemoryFormKept : Prop :=
  ∀ s t : State, MemOk s → step s = .next t → MemOk t

/-- R401: every step keeps TWIN_TOKEN driven by the lead only. -/
def Obligations.TokenKept : Prop :=
  ∀ s t : State, TokenOk s → step s = .next t → TokenOk t

/-- R309, R310 and R317: every step keeps the fault queue within 64 entries, one of them of class S and 63 of the others at most. -/
def Obligations.FaultQueueBounded : Prop :=
  ∀ s t : State, FaultQueueOk s → step s = .next t → FaultQueueOk t

/-- R88: a REP or REPI before an instruction that may not be repeated loads no count. RPC is 0, nothing repeats, and PC passes over the
instruction, whose address, registers and memory stay; ILLEGAL is raised for the task, and one cycle passes (R99). -/
def Obligations.ForbiddenRepeat : Prop :=
  ∀ (s : State) (g : Seg) (row : Nat), row = 0x74 ∨ row = 0x75 → LoomAt s g row →
    (s.fetchIns s.nowIns.after).opc ∈ [0x60, 0x61, 0x62, 0x63, 0x64, 0x65, 0x74, 0x75, 0x7A, 0x7B] → s.loom.cyc + 4 ≤ g.stop →
    ∃ t, exec (if row = 0x74 then .rep else .repi) s = .next t ∧ t.loom.rpc = 0 ∧ t.loom.rep = none ∧
      t.loom.pc = (s.fetchIns s.nowIns.after).after % 2 ^ 32 ∧ t.loom.cyc = s.loom.cyc + 1 ∧ t.loom.g = s.loom.g ∧ t.loom.file = s.loom.file ∧
      t.loom.flg = s.loom.flg ∧ t.mem = s.mem ∧ (0, g.task.1) ∈ t.flt.planSeen

/-- R186: a write of HOST_BUDGET_p from 0 to 600 sets the budget; one above 600 is ignored and sets CFG_REJECT. -/
def Obligations.HostBudget : Prop :=
  ∀ (s : State) (p : PwrNo) (v : Nat), v < 65536 →
    (v ≤ 600 → ((s.writeReg (0x20003048 + 4 * p.1) v).2.sw.guards.get p).budget = v ∧ (s.writeReg (0x20003048 + 4 * p.1) v).2.sw.cfgReject = s.sw.cfgReject) ∧
    (600 < v → (s.writeReg (0x20003048 + 4 * p.1) v).2.sw = { s.sw with cfgReject := true })

/-- R365: a channel FALSE_WAKE_T ms in LISTEN enters CLEARING, where its clearing time runs from now; FALSE_WAKE is set, FALSE_WAKES rises, saturating,
and record 0x4023 gives the cause of the wake. Before that instant, and outside LISTEN, nothing happens. -/
def Obligations.FalseWake : Prop :=
  ∀ (s : State) (c : CanNo),
    ((s.nmCh c).state = .listen → 1000 * s.nm.cfg.falseWakeT ≤ s.since (s.nmCh c).since →
      ∃ t, exec (.falseWake c) s = .next t ∧ (t.nmCh c).state = .clearing ∧ (t.nmCh c).since = s.now ∧ t.nm.falseWake = true ∧
        t.nm.falseWakes = satAdd 0xFFFF s.nm.falseWakes 1 ∧ t.rcd = (s.record 0x4023 3 (canNum c) (s.nmCh c).cause 0).rcd) ∧
    ((s.nmCh c).state ≠ .listen ∨ s.since (s.nmCh c).since < 1000 * s.nm.cfg.falseWakeT → exec (.falseWake c) s = .next s)

/-- R367: a channel KEEP_LIMIT s in READY sets KEEPER and writes record 0x4025 with the latest node ID and the number of node IDs heard, once per stay;
it stays in READY, and every other node's vote is its own. -/
def Obligations.NmKeeper : Prop :=
  ∀ (s : State) (c : CanNo),
    ((s.nmCh c).state = .ready → (s.nmCh c).keeperSaid = false → 1000000 * s.nm.cfg.keepLimit ≤ s.since (s.nmCh c).since →
      ∃ t, exec (.nmKeeper c) s = .next t ∧ t.nm.keeper = true ∧
        t.rcd = (s.record 0x4025 3 (canNum c) (s.nmCh c).lastNode (s.nmCh c).heard.length).rcd ∧
        t.nmCh c = { s.nmCh c with keeperSaid := true } ∧ t.out = s.out ∧ exec (.nmKeeper c) t = .next t) ∧
    ((s.nmCh c).state ≠ .ready ∨ (s.nmCh c).keeperSaid = true ∨ s.since (s.nmCh c).since < 1000000 * s.nm.cfg.keepLimit →
      exec (.nmKeeper c) s = .next s)

/-- Spec/01, R23 and R29 to R32: each supply event has its effect. AUX_LOSS notes the loss, saves warp time where I3 has power, turns every output off, and
leaves every island without power but I0 and the field side, which FP24 feeds and which the loss leaves as it is; RESERVE_END of a loss without restore
ends it with the Keep domain's content gone; AUX_RESTORE marks the loss; a power input that falls or returns sets its bits and its record; VBUS goes off
and on. A supply above the operating maximum is the one thing the spec says nothing of (R2, R34), and the one stop of the model. -/
def Obligations.SupplyCommandsComplete : Prop :=
  (∀ (s : State) (mv : Nat), s.supply.loss = none →
    ∃ t, exec (.auxLoss mv) s = .next t ∧ t.supply.loss = some { at_ := s.now, lowest := mv, restored := false, wrote := false } ∧ t.supply.auxBand = false ∧
      t.pwr.islandUp.get 0 = true ∧ t.pwr.islandUp.get 6 = s.side.running ∧ (∀ n : Isl, n ≠ 0 → n ≠ 6 → t.pwr.islandUp.get n = false) ∧
      (s.pwr.islandUp.get 3 = true → t.wt.saved = s.wt.warp ∧ t.wt.savedAt = s.now) ∧
      (s.pwr.islandUp.get 4 = true → ∀ c, (t.chan c).output = false) ∧ t.side = s.side) ∧
  (∀ (s : State) (mv : Nat) (wake : Bool) (m : Option Medium) (l : AuxLoss), s.supply.loss = some l → 30000 ≤ s.since l.at_ → l.restored = false →
    ∃ t, exec (.reserveEnd mv wake m) s = .next t ∧ t.supply.loss = none ∧ t.pwr.coldDue = true ∧ t.pwr.savedWakes = s.pwr.wakeCounts) ∧
  (∀ (s : State) (l : AuxLoss), s.supply.loss = some l →
    ∃ t, exec .auxRestore s = .next t ∧ t.supply.loss = some { l with restored := true }) ∧
  (∀ (s : State) (p : PwrNo) (mv : Nat), s.supply.low.get p = false → s.pwr.state ≠ .off →
    ∃ t, exec (.pwrLow p mv) s = .next t ∧ t.supply.low.get p = true ∧ t.supply.lowSeen.get p = true ∧ t.rcd = (s.record 0x0120 0 p.1 mv 0).rcd) ∧
  (∀ (s : State) (p : PwrNo), s.supply.low.get p = true → s.pwr.state ≠ .off →
    ∃ t, exec (.pwrRestored p) s = .next t ∧ t.supply.low.get p = false ∧ t.supply.lowSeen = s.supply.lowSeen ∧
      t.rcd = (s.record 0x0121 0 p.1 0 0).rcd) ∧
  (∀ s : State, s.supply.vbusOn = true →
    ∃ t, exec .vbusFault s = .next t ∧ t.supply.vbusOn = false ∧ t.supply.vbusFault = true ∧ t.supply.vbusOffAt = s.now) ∧
  (∀ s : State, s.supply.vbusOn = false → 1000000 ≤ s.since s.supply.vbusOffAt →
    ∃ t, exec .vbusRestore s = .next t ∧ t.supply = { s.supply with vbusOn := true }) ∧
  (∀ (s : State) (aux a b c d : Nat), withinMaxima aux a b c d = true → s.supply.loss = none →
    ∃ t, exec (.supplyMonitorUpdate aux a b c d) s = .next t ∧ t.supply.auxMv = aux ∧ t.supply.auxBand = decide (aux < 16000) ∧
      t.supply.pwrMv.get 0 = a ∧ t.supply.pwrMv.get 1 = b ∧ t.supply.pwrMv.get 2 = c ∧ t.supply.pwrMv.get 3 = d) ∧
  (∀ (s : State) (aux a b c d : Nat), withinMaxima aux a b c d = false → exec (.supplyMonitorUpdate aux a b c d) s = .fault .outsideLimits)

/-- Spec/19: the changes of power state and the commands about them. -/
def Obligations.PowerCommandsComplete : Prop :=
  (∀ (s : State) (wake : Bool) (m : Option Medium), s.pwr.coldDue = true →
    ∃ t, exec (.keepColdStart wake m) s = .next t ∧ t.pwr.coldDue = false ∧ t.pwr.state = .run ∧ t.wt = WarpTime.reset ∧ t.mem = []) ∧
  (∀ s : State, s.pwr.state = .run → s.cmd.serving = true → s.pwr.entering = false → s.idleOk none = true → 1000 * s.pwr.t1 ≤ s.since s.pwr.idleSince →
    ∃ t, exec .idleEntry s = .next t ∧ t.pwr.state = .idle) ∧
  (∀ s : State, s.pwr.state = .idle → ∃ t, exec .idleExit s = .next t ∧ t.pwr.state = .run ∧ t.pwr.idleSince = s.now) ∧
  (∀ s : State, s.pwr.entering = true → s.rcd.buffer = [] → s.pwr.latched = none →
    ∃ t, exec .sleepEntry s = .next t ∧ t.pwr.state = .sleep ∧ t.pwr.entering = false ∧ t.wt.saved = s.wt.warp ∧ t.wt.savedAt = s.now ∧
      t.pwr.sleepAt = s.now) ∧
  (∀ s : State, s.pwr.entering = false → s.pwr.forced = none → s.pwr.state = .idle → s.sleepBlock none = 0 →
      1000000 * s.pwr.t2 ≤ s.since s.pwr.sleepSince →
    ∃ t, exec .sleepEntry s = .next t ∧ t.pwr.entering = true ∧ t.pwr.state = .run) ∧
  (∀ s : State, s.pwr.state = .sleep → s.pwr.latched = none → s.forcedTo = some .deep →
    ∃ t, exec .deepSleepEntry s = .next t ∧ t.pwr.state = .deep ∧ t.pwr.deepAt = s.now) ∧
  (∀ s : State, s.pwr.state = .deep → s.pwr.latched = none → s.forcedTo = some .off →
    ∃ t, exec .offEntry s = .next t ∧ t.pwr.state = .off ∧ t.pwr.savedWakes = s.pwr.wakeCounts) ∧
  (∀ (s : State) (source detail src d : Nat), s.supply.loss = none → s.pwr.entering = false → s.pwr.state = .sleep → s.pwr.latched = some (src, d) →
    ∃ t, exec (.sleepWake source detail) s = .next t ∧ t.pwr.state = .run ∧ t.pwr.lastSource = src ∧ t.pwr.detail = d ∧ t.pwr.stateLeft = 2 ∧
      t.pwr.latched = none) ∧
  (∀ s : State, s.awake = true → s.pwr.entering = false →
    ∃ t, exec .wakeRisingEdge s = .next t ∧ t.pwr.idleSince = s.now ∧ t.pwr.sleepSince = s.now ∧ t.pwr.state ≠ .idle) ∧
  (∀ (s : State) (r : CmdRef) (q : Cmd), s.begun r = some q → q.opcode = 0x0B01 → q.params.length = 28 → u32 q.params 0 = 0 →
      1 ≤ u32 q.params 4 → u32 q.params 4 ≤ 10000 → 1 ≤ u32 q.params 8 → u32 q.params 8 ≤ 86400 → 60 ≤ u32 q.params 12 →
      u32 q.params 12 ≤ 2592000 → u32 q.params 16 ≤ 3650 → u32 q.params 20 ≤ 2592000 → u32 q.params 24 < 1024 →
    ∃ t, exec (.pwrConfig r) s = .next t ∧ t.pwr.t1 = u32 q.params 4 ∧ t.pwr.t2 = u32 q.params 8 ∧ t.pwr.t3 = u32 q.params 12 ∧
      t.pwr.t4 = u32 q.params 16 ∧ t.pwr.wakeTimer = u32 q.params 20 ∧ t.pwr.srcEn = (u32 q.params 24 ||| 0x202) &&& 0x3FE) ∧
  (∀ (s : State) (r : CmdRef) (q : Cmd), s.begun r = some q → q.opcode = 0x0B02 → q.params = [2, 0, 0, 0] → s.weftBusy = false →
      s.flt.forceSafe = false → s.pairBusy = false →
    ∃ t, exec (.pwrEnter r) s = .next t ∧ t.pwr.forced = some (.sleep, s.now)) ∧
  (∀ (s : State) (r : CmdRef) (q : Cmd), s.begun r = some q → q.opcode = 0x0B03 → q.params = [] →
    exec (.wakeSource r) s = .next (s.complete q .ok (le 1 s.pwr.lastSource ++ le 1 s.pwr.detail ++ le 1 s.pwr.stateLeft ++ zeros 1 ++
      le 4 s.pwr.wakeOpSec ++ (s.pwr.wakeCounts.toList.flatMap fun n => le 2 n) ++ zeros 2)))

/-- Spec/02: the crystal, the trim sources and the clock switches (R43 to R51, R64, R65). -/
def Obligations.ClockCommandsComplete : Prop :=
  (∀ s : State, s.awake = true → s.clk.xoEnabled = true → s.clk.xoOk = false → s.clk.stableAt = none → s.clk.xoEver = false →
    ∃ t, exec .xoStable s = .next t ∧ t.clk.refXo = true ∧ t.clk.xoOk = true ∧ t.clk.xoEver = true) ∧
  (∀ s : State, s.awake = true → s.clk.xoEnabled = true → s.clk.xoOk = false → s.clk.stableAt = none → s.clk.xoEver = true →
    ∃ t, exec .xoStable s = .next t ∧ t.clk = { s.clk with stableAt := some s.now }) ∧
  (∀ s : State, s.clk.xoOk = true → s.clk.settled = false →
    ∃ t, exec .xoPllSettled s = .next t ∧ t.clk.settled = true ∧ t.clk.i7Run = true ∧ t.clk.i8Run = true ∧ t.clk.avail.get 1 = true) ∧
  (∀ (s : State) (trim dev : Int), s.clk.trimSrc ≠ 0 →
    ∃ t, exec (.hfoTrimConverged trim dev) s = .next t ∧ t.clk.hfoDev = dev ∧
      t.clk.hfoTrim = max (s.clk.hfoTrim - 5 * (s.since s.clk.trimAt / 1000 : Nat))
        (min (s.clk.hfoTrim + 5 * (s.since s.clk.trimAt / 1000 : Nat)) (max (-2500) (min 2500 trim))) ∧
      (t.clk.hfoTrimmed = true ↔ t.clk.hfoTrim = max (-2500) (min 2500 trim))) ∧
  (∀ (s : State) (dev : Int), s.clk.xoOk = true ∨ s.clk.stableAt.isSome = true →
    ∃ t, exec (.lfoTrimConverged dev) s = .next t ∧ t.clk.lfoTrimmed = true ∧ t.clk.lfoDev = dev) ∧
  (∀ s : State, s.awake = true → s.clk.xoEnabled = true → s.clk.xoOk = false → s.clk.stableAt = none → 20000 ≤ s.since s.clk.xoEnabledAt →
    ∃ t, exec .xoFail s = .next t ∧ t.clk.xoFail = true ∧ t.clk.xoEnabled = false ∧ t.flt = (s.fault .D 0 0xA002 0 0 0).flt ∧
      t.rcd = (s.fault .D 0 0xA002 0 0 0).rcd) ∧
  (∀ (s : State) (f : Nat), s.clk.retryFrom = some f → s.awake = true → s.clk.xoOk = false → s.clk.stableAt = none → f + 10000000 ≤ s.now →
    ∃ t, exec .xoRetry s = .next t ∧ t.clk.xoEnabled = true ∧ t.clk.xoEnabledAt = s.now ∧ t.clk.attempts = s.clk.attempts + 1) ∧
  (∀ (s : State) (i : Fin 6) (sync : Nat), 2 ≤ i.1 → s.clk.avail.get i = true → 3 * s.sourcePeriod i sync ≤ s.since (s.clk.validAt.get i) →
    ∃ t, exec (.trimSource i sync) s = .next t ∧ t.clk.avail.get i = false) ∧
  (∀ (s : State) (m : Nat), m ≤ 1 ∨ (10 ≤ m ∧ m ≤ 18) →
    ∃ t, exec (.clkstuck m) s = .next t ∧ t.clk = { s.clk with clkStuck := true } ∧ t.flt = (s.fault .D 0 0xA020 m 0 0).flt ∧
      t.rcd = (s.fault .D 0 0xA020 m 0 0).rcd) ∧
  (∀ (s : State) (n : Isl), n.1 ≠ 0 → n.1 ≠ 6 → s.clk.onPll.get n = true →
    ∃ t, exec (.pllLost n) s = .next t ∧ t.clk.onPll = s.clk.onPll.put n false ∧ t.clk.pllLost = s.clk.pllLost.put n true ∧
      t.clk.i7Run = (s.clk.i7Run && decide (n.1 ≠ 7)) ∧ t.clk.i8Run = (s.clk.i8Run && decide (n.1 ≠ 8)) ∧
      (n.1 ≠ 3 → n.1 ≠ 8 → t.flt = (s.fault .D 0 0xA030 n.1 0 0).flt) ∧
      (n.1 = 1 → s.weft.running.isSome = true → s.loom.seg.isSome = true → t.weft.haltDue = true ∧ t.weft.running = s.weft.running)) ∧
  (∀ s : State, s.clk.refXo = true →
    ∃ t, exec (.xoLoss false) s = .next t ∧ t.clk.refXo = false ∧ t.clk.xoLost = true ∧ t.clk.clkStuck = true ∧ t.clk.xoOk = false ∧
      t.clk.lossAt = some s.now) ∧
  (∀ (s : State) (a : Nat), s.clk.stableAt = some a → s.clk.xoOk = false → a + 10000000 ≤ s.now →
      999950 ≤ s.warp % 1000000 ∨ s.warp % 1000000 = 0 →
    ∃ t, exec .xoReturn s = .next t ∧ t.clk.refXo = true ∧ t.clk.xoOk = true ∧ t.clk.lossAt = none) ∧
  (∀ (s : State) (hz : Nat) (dev : Int), s.ccfg.syncInMode = 2 → 9900000 ≤ hz → hz ≤ 10100000 →
    ∃ t, exec (.syncInEdge hz dev) s = .next t ∧ t.clk.avail.get 3 = true ∧ t.clk.validAt.get 3 = s.now)

/-- Spec/02: warp time and the shuttle links (R53 to R55, R60, R63, R66). -/
def Obligations.WarpCommandsComplete : Prop :=
  (∀ (s : State) (corr : List (Nat × Int)) (a b : Option Nat) (l : List Nat), s.pwr.islandUp.get 3 = true →
    ∃ t, exec (.frameMark corr a b l) s = .next t ∧ t.now = s.now + (1000 - s.warp % 1000) ∧
      t.wt.warp = s.wt.warp + BitVec.ofNat 64 (1000 - s.warp % 1000) ∧ ∀ n : Fin 9, t.wt.loc.get n = t.wt.warp) ∧
  (∀ (s : State) (ptp : Warp) (phase : Nat), s.followsPtp = true → s.weftActive = true →
    ∃ t, exec (.warpStep ptp phase) s = .next t ∧ t.wt = { s.wt with phaseOk := decide (phase ≤ 1000), offset := ptp - s.wt.warp }) ∧
  (∀ (s : State) (ptp : Warp) (phase : Nat), s.followsPtp = true → s.weftActive = false → phase ≤ 1000 → ptp ≠ s.wt.warp →
    ∃ t, exec (.warpStep ptp phase) s = .next t ∧ t.wt.warp = ptp ∧ t.wt.offset = 0 ∧
      t.rcd = (s.record 0xA050 3 ((ptp - s.wt.warp).toNat % 2 ^ 32) ((ptp - s.wt.warp).toNat / 2 ^ 32) 0).rcd) ∧
  (∀ s : State, ∃ t, exec .warpLoRead s = .next t ∧ t.wt = { s.wt with capHi := (s.wt.warp >>> 32).setWidth 32 }) ∧
  (∀ s : State, ∃ t, exec .warpPtpOffsetLoRead s = .next t ∧ t.wt = { s.wt with capOffHi := (s.ptpOffset >>> 32).setWidth 32 }) ∧
  (∀ (s : State) (k j : LinkNo) (w : ShWord), k.back = some j → (s.link k).unacked ≠ 0 → WordAt s j tyAck w →
    ∃ t, exec (.shuttleAck k) s = .next t ∧ (t.link k) = { s.link k with unacked := (s.link k).unacked - 1 } ∧
      (t.link j) = { s.link j with fly := (s.link j).fly.tail, rxSeq := (w.seq + 1) % 256 } ∧
      ∀ i : LinkNo, i ≠ k → i ≠ j → t.link i = s.link i) ∧
  (∀ (s : State) (k : LinkNo), k.back = none → (s.link k).unacked ≠ 0 →
    ∃ t, exec (.shuttleAck k) s = .next t ∧ (t.link k) = { s.link k with unacked := (s.link k).unacked - 1 } ∧
      ∀ j : LinkNo, j ≠ k → t.link j = s.link j) ∧
  (∀ (s : State) (k : LinkNo) (w : ShWord) (rest : List ShWord), (s.link k).retry = w :: rest → (s.link k).full = false →
    ∃ t, exec (.shuttleRetransmit k) s = .next t ∧ (t.link k).retry = rest ∧ (t.link k).fly = (s.link k).fly ++ [{ w with resent := true }] ∧
      ∀ j : LinkNo, j ≠ k → t.link j = s.link j)

/-- Spec/03, R82 to R93: the moves, the arithmetic and logic, the shifts, the bit operations, the multiplies and the decimal operations complete
in every operand form, with the flags and results of R83 and R90 to R93. -/
def Obligations.LoomDataComplete : Prop :=
  LoomCompletes .nop 0x00 (fun i s => i.plain s) ∧
  LoomCompletes .mov 0x04 (semUnary fun f w a => (a, flagsNZ f w a)) ∧
  LoomCompletes .movsx 0x08 (semUnary fun f w a => (unsigned 32 (signed w a), flagsNZ f w a)) ∧
  LoomCompletes .lea 0x0E semLea ∧
  LoomCompletes .add 0x10 (semBinary fun f w a b => addF f w a b 0) ∧
  LoomCompletes .adc 0x14 (semBinary fun f w a b => addF f w a b (carry f)) ∧
  LoomCompletes .sub 0x18 (semBinary fun f w a b => subF f w a b 0) ∧
  LoomCompletes .sbc 0x1C (semBinary fun f w a b => subF f w a b (carry f)) ∧
  LoomCompletes .and 0x20 (semBinary fun f w a b => logicF f w (a &&& b)) ∧
  LoomCompletes .or 0x24 (semBinary fun f w a b => logicF f w (a ||| b)) ∧
  LoomCompletes .xor 0x28 (semBinary fun f w a b => logicF f w (a ^^^ b)) ∧
  LoomCompletes .not 0x2C (semUnary fun f w a => logicF f w (2 ^ w - 1 - a)) ∧
  LoomCompletes .neg 0x30 (semUnary fun f w a => subF f w 0 a 0) ∧
  LoomCompletes .shl 0x34 (semBinary (shiftF .shl)) ∧
  LoomCompletes .shr 0x38 (semBinary (shiftF .shr)) ∧
  LoomCompletes .sar 0x3C (semBinary (shiftF .sar)) ∧
  LoomCompletes .ror 0x40 (semBinary (shiftF .ror)) ∧
  LoomCompletes .cmp 0x44 (semCompare fun f w a b => (subF f w a b 0).2) ∧
  LoomCompletes .tst 0x48 (semCompare fun f w a b => (logicF f w (a &&& b)).2) ∧
  LoomCompletes .addm 0x4C (semModify fun f w d a => addF f w d a 0) ∧
  LoomCompletes .subm 0x50 (semModify fun f w d a => subF f w d a 0) ∧
  LoomCompletes .bset 0x54 (semModify fun f w d a => (d ||| 2 ^ (a % w), bitZ f w d a)) ∧
  LoomCompletes .bclr 0x58 (semModify fun f w d a => (if bit d (a % w) then d - 2 ^ (a % w) else d, bitZ f w d a)) ∧
  LoomCompletes .btst 0x5C (semCompare fun f w a b => bitZ f w a b) ∧
  LoomCompletes .mulu 0x68 (semMul false) ∧
  LoomCompletes .muls 0x69 (semMul true) ∧
  LoomCompletes .dadd 0x6C (semBinary fun f _ a b => decF false f a b 0) ∧
  LoomCompletes .dadc 0x6D (semBinary fun f _ a b => decF false f a b (carry f)) ∧
  LoomCompletes .dsub 0x6E (semBinary fun f _ a b => decF true f a b 0) ∧
  LoomCompletes .dsbc 0x6F (semBinary fun f _ a b => decF true f a b (carry f)) ∧
  LoomCompletes .dadj 0x70 (semUnary fun f _ a => dadjF f a) ∧
  LoomCompletes .cvbd 0x71 (semUnary fun f _ a => cvbdF f a) ∧
  LoomCompletes .cvdb 0x72 (semUnary fun f _ a => cvdbF f a) ∧
  ∀ (s : State) (m : Mul), s.loom.mul = some m → m.ready ≤ (if s.loom.seg.isSome = true then s.loom.cyc else max s.loom.cyc (s.warp % 1000 * 250)) →
    ∃ t, exec .mulComplete s = .next t ∧ t.loom.mlo = m.product.setWidth 32 ∧ t.loom.mhi = (m.product >>> 32).setWidth 32 ∧ t.loom.mul = none

/-- Spec/03, R72, R73, R84 to R89 and R94 to R98: branches, calls, the repeats, the shuttle instructions and the special registers complete in
every operand form. -/
def Obligations.LoomControlComplete : Prop :=
  LoomCompletes .bcc 0x60 semBcc ∧
  LoomCompletes .call 0x61 semCall ∧
  LoomCompletes .ret 0x62 semRet ∧
  LoomCompletes .jmpi 0x63 (semOne semJmpi) ∧
  LoomCompletes .yield 0x64 (fun i s => { i.plain s with yields := true }) ∧
  LoomCompletes .done 0x65 (fun i s => { i.plain s with ends := true }) ∧
  LoomCompletes .rep 0x74 (semRep false) ∧
  LoomCompletes .repi 0x75 (semRep true) ∧
  LoomCompletes .send 0x78 semSend ∧
  LoomCompletes .recv 0x79 semRecv ∧
  LoomCompletes .fence 0x7A (fun i s => { i.plain s with fault := if s.unacked = 0 then none else some (0x9025, s.unacked) }) ∧
  LoomCompletes .waitslot 0x7B (semOne semWaitslot) ∧
  LoomCompletes .gets 0x7C semGets ∧
  LoomCompletes .puts 0x7D (semOne semPuts)

/-- Spec/03, R72, R73, R84 to R89, R94, R95, R97 and R98: what the control instructions leave when their operands are readable and the budget holds. A
branch goes to its target or on and changes nothing else; CALL moves the window up and leaves its link in R31, RET comes back; JMPI goes to its
operand's word; YIELD saves the context and leaves the activation open, DONE closes it; REP and REPI load RPC and go to the repeated instruction, or
past it; SEND puts its two words on the port's link; RECV reads, and takes, the oldest word of its port; FENCE goes on when no word is outstanding;
WAITSLOT waits for its slot; GETS writes a special register to its destination register; PUTS writes FLG or RPC. -/
def Obligations.ControlResults : Prop :=
  (∀ (s : State) (g : Seg), LoomAt s g 0x60 → s.loom.cyc + s.nowIns.cycles + 3 ≤ g.stop →
    ∃ t, exec .bcc s = .next t ∧
      t.loom.pc = (if condHolds s.loom.flg (bits s.nowIns.w 20 4) then unsigned 32 (s.loom.pc + 4 + 4 * signed 20 (bits s.nowIns.w 0 20))
        else s.nowIns.after) % 2 ^ 32 ∧
      t.loom.flg = s.loom.flg ∧ t.loom.g = s.loom.g ∧ t.loom.file = s.loom.file ∧ t.mem = s.mem ∧ t.loom.cyc = s.loom.cyc + s.nowIns.cycles) ∧
  (∀ (s : State) (g : Seg) (k : Nat), LoomAt s g 0x61 → k = bits s.nowIns.w 21 3 → s.loom.wbase + 4 * k + 23 ≤ s.region.2 →
      s.loom.cyc + s.nowIns.cycles + 3 ≤ g.stop →
    ∃ t, exec .call s = .next t ∧ t.loom.wbase = s.loom.wbase + 4 * k ∧
      t.loom.pc = unsigned 32 (s.loom.pc + 4 + 4 * signed 21 (bits s.nowIns.w 0 21)) ∧ t.loom.reg 31 = (s.loom.pc + 4) % 2 ^ 19 + 2 ^ 24 * k ∧
      t.loom.flg = s.loom.flg ∧ t.loom.g = s.loom.g ∧ t.mem = s.mem) ∧
  (∀ (s : State) (g : Seg) (k p : Nat), LoomAt s g 0x62 → 1 ≤ k → k ≤ 6 → p < 2 ^ 19 → s.loom.reg 31 = p + 2 ^ 24 * k →
      s.region.1 + 4 * k ≤ s.loom.wbase → s.loom.cyc + s.nowIns.cycles + 3 ≤ g.stop →
    ∃ t, exec .ret s = .next t ∧ t.loom.wbase = s.loom.wbase - 4 * k ∧ t.loom.pc = p ∧ t.loom.flg = s.loom.flg ∧ t.loom.g = s.loom.g ∧
      t.loom.file = s.loom.file ∧ t.mem = s.mem) ∧
  (∀ (s u : State) (g : Seg) (v : Nat), LoomAt s g 0x63 → (settled s).readOp s.nowIns.a s.nowIns.xa 4 = (v, none, u) → v < 0x80000 →
      s.loom.cyc + s.nowIns.cycles + 3 ≤ g.stop →
    ∃ t, exec .jmpi s = .next t ∧ t.loom.pc = v / 4 * 4 ∧ t.loom.flg = s.loom.flg ∧ t.loom.wbase = s.loom.wbase ∧ t.mem = s.mem) ∧
  (∀ (s : State) (g : Seg), LoomAt s g 0x64 → s.weft.haltDue = false → s.loom.cyc + s.nowIns.cycles ≤ g.stop →
    ∃ t, exec .yield s = .next t ∧ t.loom.seg = none ∧ (t.task g.task).pc = s.nowIns.after % 2 ^ 32 ∧ (t.task g.task).flg = s.loom.flg.toNat ∧
      (t.task g.task).rpc = s.loom.rpc ∧ (t.task g.task).wbase = s.loom.wbase ∧ (t.task g.task).open_ = (s.task g.task).open_ ∧ t.mem = s.mem) ∧
  (∀ (s : State) (g : Seg), LoomAt s g 0x65 → s.weft.haltDue = false → s.loom.cyc + s.nowIns.cycles ≤ g.stop →
    ∃ t, exec .done s = .next t ∧ t.loom.seg = none ∧ (t.task g.task).open_ = false ∧ t.mem = s.mem ∧ ∀ k, k ≠ g.task → t.task k = s.task k) ∧
  (∀ (s u : State) (g : Seg) (v : Nat) (n : Ins), LoomAt s g 0x74 → n = s.fetchIns s.nowIns.after → noRepeat n.opc = false →
      (settled s).readOp s.nowIns.a s.nowIns.xa 4 = (v, none, u) →
      s.loom.cyc + s.nowIns.cycles + v % 65536 * (if n.legal then n.cycles else 1) + 3 ≤ g.stop →
    ∃ t, exec .rep s = .next t ∧ t.loom.rpc = v % 65536 ∧ t.loom.rep = (if v % 65536 = 0 then none else some (false, s.loom.pc)) ∧
      t.loom.pc = (if v % 65536 = 0 then n.after else s.nowIns.after) % 2 ^ 32 ∧ t.loom.flg = s.loom.flg ∧ t.mem = s.mem) ∧
  (∀ (s u : State) (g : Seg) (v : Nat) (n : Ins), LoomAt s g 0x75 → n = s.fetchIns s.nowIns.after → noRepeat n.opc = false →
      (settled s).readOp s.nowIns.a s.nowIns.xa 4 = (v, none, u) → s.loom.cyc + s.nowIns.cycles + 3 ≤ g.stop →
    ∃ t, exec .repi s = .next t ∧ t.loom.rpc = v % 65536 ∧ t.loom.rep = (if v % 65536 = 0 then none else some (true, s.loom.pc)) ∧
      t.loom.pc = (if v % 65536 = 0 then n.after else s.nowIns.after) % 2 ^ 32 ∧ t.loom.flg = s.loom.flg ∧ t.mem = s.mem) ∧
  (∀ (s u x : State) (g : Seg) (a b : Nat) (k : LinkNo), LoomAt s g 0x78 → (settled s).readOp s.nowIns.a s.nowIns.xa 4 = (a, none, u) →
      u.readOp s.nowIns.b s.nowIns.xb 4 = (b, none, x) → k = portLink (bits s.nowIns.w 21 3) → (s.link k).full = false →
      s.loom.cyc + s.nowIns.cycles + 3 ≤ g.stop →
    ∃ t, exec .send s = .next t ∧ (t.link k).words = (s.link k).words ++ [BitVec.ofNat 64 (a + 2 ^ 32 * b)] ∧
      (∀ j, j ≠ k → t.link j = s.link j) ∧ t.loom.flg = s.loom.flg ∧ t.mem = s.mem) ∧
  (∀ (s : State) (g : Seg) (port : Nat) (x : BitVec 64) (rest : List (BitVec 64)), LoomAt s g 0x79 → port = bits s.nowIns.w 13 3 → port ≠ 4 →
      s.loom.rx.get (portQueue port) = x :: rest → sMode s.nowIns.d = 0 → s.loom.cyc + s.nowIns.cycles + 3 ≤ g.stop →
    ∃ t, exec .recv s = .next t ∧ t.loom.reg (sReg s.nowIns.d) = (if bit s.nowIns.w 0 then pf x 32 32 else pf x 0 32) ∧
      t.loom.rx.get (portQueue port) = (if bit s.nowIns.w 1 then rest else x :: rest) ∧ t.loom.flg = setF s.loom.flg fZ false ∧ t.mem = s.mem) ∧
  (∀ (s : State) (g : Seg), LoomAt s g 0x7A → s.unacked = 0 → s.loom.cyc + s.nowIns.cycles + 3 ≤ g.stop →
    ∃ t, exec .fence s = .next t ∧ t.loom.pc = s.nowIns.after % 2 ^ 32 ∧ t.loom.cyc = s.loom.cyc + 160 ∧ t.loom.flg = s.loom.flg ∧ t.loom.g = s.loom.g ∧
      t.mem = s.mem ∧ t.flt = s.flt) ∧
  (∀ (s u : State) (g : Seg) (v : Nat), LoomAt s g 0x7B → (settled s).readOp s.nowIns.a s.nowIns.xa 4 = (v, none, u) → 1 ≤ v → v ≤ 37 →
      max (s.loom.cyc + s.nowIns.cycles) (6250 * v) + 3 ≤ g.stop →
    ∃ t, exec .waitslot s = .next t ∧ t.loom.cyc = max (s.loom.cyc + s.nowIns.cycles) (6250 * v) ∧
      t.loom.flg = setF s.loom.flg fC (decide (6250 * v < s.loom.cyc + s.nowIns.cycles)) ∧ t.mem = s.mem) ∧
  (∀ (s : State) (g : Seg), LoomAt s g 0x7C → sMode s.nowIns.d = 0 → s.loom.cyc + s.nowIns.cycles + 3 ≤ g.stop →
    ∃ t, exec .gets s = .next t ∧ t.loom.reg (sReg s.nowIns.d) = (settled s).special (bits s.nowIns.w 8 3) % 2 ^ 32 ∧ t.loom.flg = s.loom.flg ∧
      t.mem = s.mem) ∧
  (∀ (s u : State) (g : Seg) (v : Nat), LoomAt s g 0x7D → (settled s).readOp s.nowIns.a s.nowIns.xa 4 = (v, none, u) → bits s.nowIns.w 16 3 = 1 →
      v < 32 → s.loom.cyc + s.nowIns.cycles + 3 ≤ g.stop →
    ∃ t, exec .puts s = .next t ∧ t.loom.flg = BitVec.ofNat 5 v ∧ t.loom.rpc = s.loom.rpc ∧ t.mem = s.mem) ∧
  (∀ (s u : State) (g : Seg) (v : Nat), LoomAt s g 0x7D → (settled s).readOp s.nowIns.a s.nowIns.xa 4 = (v, none, u) → bits s.nowIns.w 16 3 = 4 →
      v < 65536 → s.loom.cyc + s.nowIns.cycles + 3 ≤ g.stop →
    ∃ t, exec .puts s = .next t ∧ t.loom.rpc = v ∧ t.loom.flg = s.loom.flg ∧ t.mem = s.mem)

/-- R117: an instruction that does not fit the budget is not begun; the context is saved in 3 cycles with PC at it and the task takes a BUDGET plan
fault. The segment ends there, and with it a weft that a lost PLL is to stop (R51). -/
def Obligations.LoomBudget : Prop :=
  ∀ (s : State) (g : Seg),
    ∀ p ∈ ([(.nop, 0x00), (.mov, 0x04), (.movsx, 0x08), (.lea, 0x0E), (.add, 0x10), (.adc, 0x14), (.sub, 0x18), (.sbc, 0x1C), (.and, 0x20), (.or, 0x24),
        (.xor, 0x28), (.not, 0x2C), (.neg, 0x30), (.shl, 0x34), (.shr, 0x38), (.sar, 0x3C), (.ror, 0x40), (.cmp, 0x44), (.tst, 0x48), (.addm, 0x4C),
        (.subm, 0x50), (.bset, 0x54), (.bclr, 0x58), (.btst, 0x5C), (.bcc, 0x60), (.call, 0x61), (.ret, 0x62), (.jmpi, 0x63), (.mulu, 0x68),
        (.muls, 0x69), (.dadd, 0x6C), (.dadc, 0x6D), (.dsub, 0x6E), (.dsbc, 0x6F), (.dadj, 0x70), (.cvbd, 0x71), (.cvdb, 0x72), (.send, 0x78),
        (.recv, 0x79), (.fence, 0x7A), (.gets, 0x7C)] : List (Instr × Nat)),
      LoomAt s g p.2 → g.stop < (settled s).loom.cyc + s.nowIns.cycles + 3 → exec p.1 s = .next ((settled s).budgetFault g).boundary

/-- R91: on operands without a digit above 9, DADD adds and DSUB subtracts as eight-digit decimal numbers, with C the carry and the borrow. -/
def Obligations.DecimalArithmetic : Prop :=
  ∀ (f : BitVec 5) (a b : Nat), a < 2 ^ 32 → b < 2 ^ 32 → badDigit a = false → badDigit b = false →
    (decimalValue (decF false f a b 0).1 0 8 + (if getF (decF false f a b 0).2 fC then 100000000 else 0) = decimalValue a 0 8 + decimalValue b 0 8) ∧
    (decimalValue (decF true f a b 0).1 0 8 + decimalValue b 0 8 = decimalValue a 0 8 + (if getF (decF true f a b 0).2 fC then 100000000 else 0)) ∧
    getF (decF false f a b 0).2 fV = false ∧ getF (decF true f a b 0).2 fV = false ∧ getF (decF false f a b 0).2 fN = false ∧
    (getF (decF false f a b 0).2 fZ = true ↔ (decF false f a b 0).1 = 0)

/-- R93: CVDB undoes CVBD on every number of at most eight decimal digits, with C and V clear. -/
def Obligations.DecimalConversion : Prop :=
  ∀ (f : BitVec 5) (a : Nat), a < 100000000 →
    (cvdbF f (cvbdF f a).1).1 = a ∧ getF (cvbdF f a).2 fC = false ∧ getF (cvdbF f (cvbdF f a).1).2 fV = false ∧ getF (cvdbF f (cvbdF f a).1).2 fC = false

/-- R83: the results and the flags of an addition and of a subtraction at the widths 8, 16 and 32. -/
def Obligations.ArithmeticFlags : Prop :=
  ∀ (f : BitVec 5) (w a b c : Nat), w = 8 ∨ w = 16 ∨ w = 32 → a < 2 ^ w → b < 2 ^ w → c ≤ 1 →
    ((addF f w a b c).1 = (a + b + c) % 2 ^ w ∧
      getF (addF f w a b c).2 fN = (addF f w a b c).1.testBit (w - 1) ∧
      (getF (addF f w a b c).2 fZ = true ↔ (addF f w a b c).1 = 0) ∧
      (getF (addF f w a b c).2 fC = true ↔ 2 ^ w ≤ a + b + c) ∧
      (getF (addF f w a b c).2 fV = true ↔ signed w (addF f w a b c).1 ≠ signed w a + signed w b + c) ∧
      (getF (addF f w a b c).2 fH = true ↔ 16 ≤ a % 16 + b % 16 + c)) ∧
    (((subF f w a b c).1 + b + c) % 2 ^ w = a ∧ (subF f w a b c).1 < 2 ^ w ∧
      getF (subF f w a b c).2 fN = (subF f w a b c).1.testBit (w - 1) ∧
      (getF (subF f w a b c).2 fZ = true ↔ (subF f w a b c).1 = 0) ∧
      (getF (subF f w a b c).2 fC = true ↔ a < b + c) ∧
      (getF (subF f w a b c).2 fV = true ↔ signed w (subF f w a b c).1 ≠ signed w a - signed w b - c) ∧
      (getF (subF f w a b c).2 fH = true ↔ a % 16 < b % 16 + c))

/-- R79 and R81: ADD with three register operands writes the sum to its register, in one cycle, and goes on to the next word; memory and every
other register stay. -/
def Obligations.AddRegisters : Prop :=
  ∀ (s : State) (g : Seg) (d a b : Nat), LoomAt s g 0x10 → s.nowIns.opc = 0x12 → s.nowIns.d = d → s.nowIns.a = a → s.nowIns.b = b → d < 8 → a < 8 →
    b < 8 → s.loom.cyc + 4 ≤ g.stop → s.loom.pc + 4 < 2 ^ 32 →
    ∃ t, exec .add s = .next t ∧ t.loom.reg d = (s.loom.reg a + s.loom.reg b) % 2 ^ 32 ∧ (∀ r, r < 32 → r ≠ d → t.loom.reg r = s.loom.reg r) ∧
      t.loom.flg = (addF s.loom.flg 32 (s.loom.reg a) (s.loom.reg b) 0).2 ∧ t.loom.pc = s.loom.pc + 4 ∧ t.loom.cyc = s.loom.cyc + 1 ∧ t.mem = s.mem

/-- R77 to R79: MOV to an absolute memory operand stores the bytes of its size there; every other byte of memory reads as before. -/
def Obligations.MovStores : Prop :=
  ∀ (s : State) (g : Seg), LoomAt s g 0x04 → Memory.wf s.mem = true → s.nowIns.opc = 0x06 → s.nowIns.d = 0x40 → s.nowIns.a < 8 →
    dataOk s.layout (s.nowIns.xd % 2 ^ 32) 4 = true → (settled s).loom.cyc + s.nowIns.cycles + 3 ≤ g.stop →
    ∃ t, exec .mov s = .next t ∧ t.mem = Memory.writeBytes s.mem (s.nowIns.xd % 2 ^ 32) (le 4 (s.loom.reg s.nowIns.a)) ∧
      ∀ a, a < s.nowIns.xd % 2 ^ 32 ∨ s.nowIns.xd % 2 ^ 32 + 4 ≤ a → Memory.read t.mem a = Memory.read s.mem a

/-- The frame of the Loom's moves, arithmetic, logic, shifts, bit and decimal operations, multiplies and comparisons (spec/03): a G register or a
window register changes only as the instruction's destination or as an address it counts up or down; the window, the receive queues and, with no
product in progress, MLO and MHI stay; MOV and MOVSX leave C, V and H, the bit operations every flag but Z, and NOP, LEA and the multiplies every
flag; memory changes only in the bytes of the destination, whose address the operand form gives after the sources were read. -/
def Obligations.LoomRegisterFrame : Prop :=
  ∀ s t : State, Memory.wf s.mem = true →
    ∀ row ∈ ([.nop, .mov, .movsx, .lea, .add, .adc, .sub, .sbc, .and, .or, .xor, .not, .neg, .shl, .shr, .sar, .ror, .cmp, .tst, .addm, .subm, .bset,
        .bclr, .btst, .mulu, .muls, .dadd, .dadc, .dsub, .dsbc, .dadj, .cvbd, .cvdb] : List Instr),
      exec row s = .next t →
      (∀ r : Fin 8, ¬ s.nowIns.changes r.1 → t.loom.g.get r = s.loom.g.get r) ∧
      (∀ k : Fin 2048, (∀ r, 8 ≤ r → r < 32 → s.nowIns.changes r → k.1 ≠ (s.loom.wbase + (r - 8)) % 2048) → t.loom.file.get k = s.loom.file.get k) ∧
      t.loom.wbase = s.loom.wbase ∧ t.loom.rx = s.loom.rx ∧
      (s.loom.mul = none → t.loom.mlo = s.loom.mlo ∧ t.loom.mhi = s.loom.mhi) ∧
      (row = .mov ∨ row = .movsx → ∀ i, i = fC ∨ i = fV ∨ i = fH → getF t.loom.flg i = getF s.loom.flg i) ∧
      (row = .bset ∨ row = .bclr ∨ row = .btst → ∀ i, i ≠ fZ → getF t.loom.flg i = getF s.loom.flg i) ∧
      (row = .nop ∨ row = .lea ∨ row = .mulu ∨ row = .muls → t.loom.flg = s.loom.flg) ∧
      ∀ a, (∀ p, s.nowIns.storesTo s.loom = some p → a < p ∨ p + opSize s.nowIns.opc ≤ a) → Memory.read t.mem a = Memory.read s.mem a

/-- Spec/03 and spec/04: words at the Loom and at the islands, the segments and their monitors, and the selvedge exchange (R95, R115, R116, R118,
R121 to R123). -/
def Obligations.WeftEventsComplete : Prop :=
  (∀ (s : State) (port : Fin 3) (w : ShWord), WordAt s (rxLink port) tyData w → (s.loom.rx.get port).length < 8 →
    ∃ t, exec (.loomDataReceive port true) s = .next t ∧ t.loom.rx.get port = s.loom.rx.get port ++ [w.payload]) ∧
  (∀ (s : State) (w : Weft) (d : SegDesc), s.runningWeft = some w → (w.templates.getD (s.template w) [])[s.loom.next]? = some d →
      s.segmentsRun = true → s.loom.seg = none → s.loom.selvedge = false → s.weft.haltDue = false → d.start / 250 ≤ s.warp % 1000 →
      s.warp % 1000 < 950 → s.activeTask (Fin.ofNat 64 d.task) = true →
    ∃ t, exec .segmentStart s = .next t ∧ t.loom.seg = some { task := Fin.ofNat 64 d.task, index := s.loom.next, stop := d.start + d.budget } ∧
      t.loom.cyc = d.start + 4 ∧ t.loom.wbase = (s.task (Fin.ofNat 64 d.task)).wbase ∧ t.loom.next = s.loom.next + 1) ∧
  (∀ (s : State) (k : Fin 64) (d : TaskDesc), s.taskDesc k = some d → (s.task k).wcetDone = false → d.wcet < (s.task k).cycles →
    ∃ t, exec (.wcet k) s = .next t ∧ (t.task k).wcetDone = true) ∧
  (∀ (s : State) (k : Fin 64) (d : TaskDesc), s.taskDesc k = some d → (s.task k).open_ = true →
      1000 * ((s.task k).released + d.deadline) - 50 ≤ s.warp →
    ∃ t, exec (.deadline k) s = .next t ∧ (t.task k).open_ = false) ∧
  (∀ (s : State) (i : Fin 2) (k : LinkNo), k = (if i = 0 then 0 else 1) → 950 ≤ s.warp % 1000 → s.loom.selvedge = false → s.segmentsRun = true →
      (s.link k).fly = [] → (s.link k).hold = [] →
    ∃ t, exec .selvedgeCommit s = .next t ∧ t.loom.selvedge = true ∧
      (t.link k).fly = [ShWord.make tyCommit (s.link k).txSeq (BitVec.ofNat 64 ((s.frame + 1) % 2 ^ 32 + 2 ^ 32 * (s.weft.sent.get i % 65536))),
                        ShWord.make tyHeartbeat (((s.link k).txSeq + 1) % 256) 0]) ∧
  (∀ (s : State) (drive : Bool) (w : ShWord), WordAt s (if drive then 1 else 0) tyCommit w →
    ∃ t, exec (.commitReceive drive true) s = .next t ∧
      if drive then t.drv.commit = s.drv.commit.take w.payload else t.sw.commit = s.sw.commit.take w.payload) ∧
  (∀ (s : State) (drive host : Bool) (w : ShWord), WordAt s (if host then (if drive then 10 else 9) else if drive then 1 else 0) tyHeartbeat w →
    ∃ t, exec (.heartbeatReceive drive host true) s = .next t ∧
      if drive then (if host then t.drv.svcHb = some s.ticks else t.drv.loomHb = some s.ticks)
      else if host then t.sw.svcHb = some s.now else t.sw.loomHb = some s.now) ∧
  (∀ (s : State) (c : ChNo) (d : Due), (s.chan c).latched = some d → d.at_ ≤ s.warp → d.good = true →
    exec (.commandDue (chNum c) true) s = .next ((s.onChan c fun x => { x with latched := none }).applyWeftCmd c d.payload)) ∧
  (∀ (s : State) (c : AcNo) (d : Due), s.driveLatched c = some d → d.good = true →
    exec (.commandDue (acObject c) true) s = .next ((s.onCoil c fun x => { x with latched := none }).applyDriveCmd c d.payload)) ∧
  (∀ (s : State) (c : ChNo) (d : Due) (ok : Bool), (s.chan c).latched = some d → d.at_ ≤ s.warp → ok = false ∨ d.good = false →
    exec (.commandDue (chNum c) ok) s = .next ((s.onChan c fun x => { x with latched := none }).fault .D 4 0xA140 (chNum c) 1 4))

/-- Spec/04: loading, starting, stopping and swapping wefts (R111 to R114, R127 to R131). -/
def Obligations.WeftCommandsComplete : Prop :=
  (∀ (s : State) (r : CmdRef) (q : Cmd), s.begun r = some q → q.opcode = 0x0601 → q.params.length = 4 → s.cmd.load = none →
      weftLengthOk (u32 q.params 0) = true →
    exec (.weftLoadBegin r) s =
      .next ((s.onCmd fun c => { c with load := some { src := q.src, length := u32 q.params 0, written := [] } }).complete q .ok (le 4 0x1C000000))) ∧
  (∀ (s : State) (r : CmdRef) (q : Cmd) (l : WeftLoad), s.begun r = some q → q.opcode = 0x0602 → q.params = [] →
      s.cmd.load = some l → l.src = q.src → l.full = true → checkHeader (Memory.readBytes s.mem 0x1C000000 l.length) = .ok () → s.mirrors = false →
    ∃ t, exec (.weftCommit r) s = .next t ∧ t.cmd.load = none ∧
      (match (s.onCmd fun c => { c with load := none }).checkWeft (Memory.readBytes s.mem 0x1C000000 l.length) with
        | .ok w => t.weft.store.get (slotOf w.layout) = some w
        | .error _ => t.weft.store = s.weft.store)) ∧
  (∀ (s : State) (r : CmdRef) (q : Cmd) (k : Slot2) (w : Weft), s.begun r = some q → q.opcode = 0x0603 → q.params.length = 4 → u8 q.params 0 ≤ 1 →
      u8 q.params 1 ≤ 2 → u16 q.params 2 = 0 → s.pickWeft (u8 q.params 1) = some k → s.weft.store.get k = some w → s.mayStart = true →
      s.crcBad w = [] →
    ∃ t x, exec (.weftStart r) s = .next t ∧ t.weft.starting = some x ∧ x.slot = k ∧ x.cmd = some q.id ∧ x.autostart = (u8 q.params 0 == 1) ∧
      x.evaluated = false) ∧
  (∀ (s : State) (r : CmdRef) (q : Cmd) (k : Slot2), s.begun r = some q → q.opcode = 0x0604 → q.params.length = 4 → u8 q.params 0 ≤ 1 →
      zeroAt q.params [1, 2, 3] = true → s.weft.running = some k → s.weft.stopping = none →
    ∃ t, exec (.weftStop r) s = .next t ∧
      t.weft.stopping = some { frame := max s.frame (twinBase q.begunAt), toHost := u8 q.params 0 == 1, reason := 0, cmd := some q.id }) ∧
  (∀ (s : State) (r : CmdRef) (q : Cmd) (k : Slot2) (w : Weft), s.begun r = some q → q.opcode = 0x0605 → q.params = [] → s.swapCheck = .ok (k, w) →
    ∃ t, exec (.weftSwap r) s = .next t ∧ t.weft.swapping =
      some { target := k, frame := s.nextTwinH q.begunAt, cmd := some q.id, evaluated := false, twin := q.begunAt.isSome }) ∧
  (∀ (s : State) (k : Slot2) (old : Weft), s.weft.autoTry = true → s.mayStart = true → s.cmd.serving = true → s.autoSlot = some k →
      s.weft.store.get k = some old →
    ∃ t, exec .weftAutostart s = .next t ∧ t.weft.autoTry = false ∧ t.weft.running = s.weft.running ∧
      (match s.checkWeft old.image with
        | .ok w => if s.crcBad w = [] then ∃ x, t.weft.starting = some x ∧ x.slot = k ∧ x.restart = true else t.weft.starting = none
        | .error _ => t.weft.starting = none)) ∧
  (∀ (s : State) (x : Starting) (w : Weft), s.weft.starting = some x → x.evaluated = false → s.frame + 1 = x.frame →
      s.weft.store.get x.slot = some w → (s.evaluate w.decl w.decl.chans w.decl.acts).1 = true →
    ∃ t, exec .ownershipEvaluation s = .next t ∧ t.weft.starting = some { x with evaluated := true }) ∧
  (∀ (s : State) (x : Starting), s.weft.starting = some x → x.evaluated = true → x.frame ≤ s.frame → s.weft.haltDue = false →
    ∃ t, exec .weftStarted s = .next t ∧ t.weft.running = some x.slot ∧ t.weft.starting = none ∧ t.weft.stopping = none) ∧
  (∀ (s : State) (k : Slot2) (x : Stopping), s.weft.running = some k → s.weft.stopping = some x → x.frame < s.frame →
    ∃ t, exec .weftStopped s = .next t ∧ t.weft.running = none ∧ t.weft.stopping = none ∧ t.weft.lastRun = x.frame ∧ t.loom.seg = none) ∧
  (∀ (s : State) (k : Slot2) (o w : Weft) (x : Swapping), s.weft.running = some k → s.runningWeft = some o → s.weft.swapping = some x →
      s.weft.store.get x.target = some w → x.evaluated = true → x.frame ≤ s.frame → s.weft.stopping = none → s.weft.haltDue = false →
    ∃ t, exec .weftSwapped s = .next t ∧ t.weft.running = some x.target ∧ t.weft.swapping = none ∧ t.weft.lastRun = x.frame - 1)

/-- Spec/05: the weft's commands and reads, the pulse generator, the inrush profile and the samples (R137 to R151, R164). -/
def Obligations.SwitchOperationComplete : Prop :=
  (∀ (s : State) (w : ShWord) (c : ChNo) (k : ChCmd), WordAt s 0 tyCmd w → chOfNum (pf w.payload 0 8) = some c →
      s.leads (s.chan c).cfg.twinShared = false → (s.chan c).owner = .weft → switchCmd w.payload c = some k → (k.mode.isPwm = true → s.groupOk c = true) →
    ∃ t, exec (.switchCmd true) s = .next t ∧ (t.chan c).nextReg = some (CmdReg.keep w.payload) ∧ t.sw.commit.count = s.sw.commit.count + 1 ∧
      ∀ d : ChNo, d ≠ c → t.chan d = s.chan d) ∧
  (∀ (s : State) (w : ShWord) (v k : Nat), WordAt s 0 tyData w → Room s 4 → pf w.payload 16 48 = 0 →
      s.switchRead (pf w.payload 0 8) (pf w.payload 8 8) = some (v, k) →
    ∃ t, exec (.switchReadRequest true) s = .next t ∧ t.sw = s.sw ∧
      (t.link 4).fly = (s.link 4).fly ++ [ShWord.make tyAck (s.link 4).txSeq 0,
        ShWord.make tyData (((s.link 4).txSeq + 1) % 256) (readAnswer v (pf w.payload 0 8) (pf w.payload 8 8) k)]) ∧
  (∀ (s : State) (c : ChNo), (s.chan c).mode = .pwm → (s.chan c).prot = .normal → (s.chan c).wave.pend = none → (s.chan c).wave.autoPend = none →
      s.edgeDue (s.chan c).wave.nextOn = true →
      firstOn s.hyperBase (s.chPeriod c) (s.chan c).phase (s.chan c).wave.nextOn = (s.chan c).wave.nextOn →
      (swClass c).tMin * 50 ≤ onTime (s.chPeriod c) (s.chan c).duty → onTime (s.chPeriod c) (s.chan c).duty + (swClass c).tMin * 50 ≤ s.chPeriod c →
    ∃ t, exec (.pwmPeriodStart c) s = .next t ∧ (t.chan c).output = true ∧ (t.chan c).wave.nextOn = (s.chan c).wave.nextOn + s.chPeriod c ∧
      (t.chan c).wave.offAt = some ((s.chan c).wave.nextOn + onTime (s.chPeriod c) (s.chan c).duty)) ∧
  (∀ (s : State) (c : ChNo) (k : Nat), (s.chan c).wave.offAt = some k → s.edgeDue k = true → (s.chan c).mode.isPwm = true →
    ∃ t, exec (.pwmOffEdge c) s = .next t ∧ (t.chan c).output = false ∧ (t.chan c).wave.offAt = none ∧ (t.chan c).wave.fellAt = k) ∧
  (∀ (s : State) (c : ChNo), (s.chan c).mode = .pulse → (s.chan c).prot = .normal → (s.chan c).wave.pulseEnd ≤ s.now →
    ∃ t, exec (.pulseEnd c) s = .next t ∧ (t.chan c).mode = .off ∧ (t.chan c).output = false ∧ (t.chan c).flags.pulseDone = true) ∧
  (∀ (s : State) (g : Fin 4) (v : Nat), 2000 ≤ v → v ≤ 5000000 → 50000000 % v = 0 →
      (∀ c : ChNo, (if (s.chan c).mode = .off then (s.chan c).cfg.pg else (s.chan c).run.pg) = g →
        (s.chan c).owner ≠ .weft ∧ ((s.chan c).mode.isPwm = true → (swClass c).minPeriod ≤ v)) →
    ∃ t, exec (.pgPeriodWrite g v) s = .next t ∧ t.sw.pgPend.get g = some v ∧ t.sw.pg = s.sw.pg) ∧
  (∀ (s : State) (c : ChNo), (s.chan c).run.segment ≠ 0 → s.segmentEnd c ≤ s.now →
    ∃ t, exec (.profileSegmentEnd c) s = .next t ∧
      ((s.chan c).run.segment < u8 (s.profile (s.chan c).run.profile) 0 → (t.chan c).run.segment = (s.chan c).run.segment + 1) ∧
      (u8 (s.profile (s.chan c).run.profile) 0 ≤ (s.chan c).run.segment → (t.chan c).run.segment = 0)) ∧
  (∀ (s : State) (c : ChNo) (mA fine : Nat) (tj : Int) (dSum : Nat), s.scanning = true →
    ∃ t, exec (.scanSample c mA fine tj dSum) s = .next t ∧ (t.chan c).meas.iMeas = (swClass c).convert mA ∧ (t.chan c).meas.tj = tj ∧
      (t.chan c).meas.iPeak = max (s.chan c).meas.iPeak ((swClass c).convert mA) ∧ (t.chan c).meas.sampleTick = s.warp % 2 ^ 32) ∧
  (∀ (s : State) (c : ChNo), ∃ t, exec (.peakReset c) s = .next t ∧ (t.chan c).meas = { (s.chan c).meas with iPeak := 0 } ∧
      ∀ d : ChNo, d ≠ c → t.chan d = s.chan d)

/-- Spec/05 and spec/06: trips, pauses, latches and open loads (R160, R168 to R180). -/
def Obligations.SwitchProtectionComplete : Prop :=
  (∀ (s : State) (c : ChNo) (mA : Nat), (s.chan c).output = true → (swClass c).shortTrip < mA → s.pwr.state ≠ .sleep →
    ∃ t, exec (.shortTrip c mA) s = .next t ∧ Tripped s t c true ∧ (t.chan c).flags.short = true) ∧
  (∀ (s : State) (c : ChNo) (mA : Nat), (s.chan c).output = true → (swClass c).shortTrip < mA → s.pwr.state = .sleep →
    ∃ t, exec (.shortTrip c mA) s = .next t ∧ (t.chan c).prot = .latched ∧ (t.chan c).output = false ∧ (t.chan c).flags.short = true ∧
      (t.chan c).flags.sleepTrip = true ∧ (t.chan c).trips = min 15 ((s.chan c).trips + 1) ∧
      (t.chan c).counts.trips = satAdd 0xFFFFFFFF (s.chan c).counts.trips 1) ∧
  (∀ (s : State) (c : ChNo), (s.chan c).output = true → 4 ≤ (s.chan c).overRun → s.scanning = true →
    ∃ t, exec (.overcurrentTrip c) s = .next t ∧ Tripped s t c true ∧ (t.chan c).flags.overcurrent = true) ∧
  (∀ (s : State) (c : ChNo) (tj : Int), 1700 ≤ tj → (s.chan c).output = true → s.pwr.state ≠ .sleep →
    ∃ t, exec (.thermalShutdown c tj) s = .next t ∧ Tripped s t c false ∧ (t.chan c).flags.thermal = true ∧ (t.chan c).meas.tj = tj) ∧
  (∀ (s : State) (c : ChNo) (tj : Int) (e : Nat), (s.chan c).prot = .pause e → e ≤ s.now → s.scanning = true → tj < 1450 →
      profValid (s.profile (s.chan c).cfg.profile) = true →
    ∃ t, exec (.pauseExpiry c tj) s = .next t ∧ (t.chan c).prot = .normal ∧ (t.chan c).onAt = s.now ∧
      (t.chan c).counts.switches = satAdd 0xFFFFFFFF (s.chan c).counts.switches 1 ∧ ((s.chan c).mode = .on → (t.chan c).output = true)) ∧
  (∀ (s : State) (c : ChNo) (tj : Int) (e : Nat), (s.chan c).prot = .pause e → e ≤ s.now → s.scanning = true → 1450 ≤ tj →
    ∃ t, exec (.pauseExpiry c tj) s = .next t ∧ (t.chan c).prot = .thermalWait s.now) ∧
  (∀ (s : State) (c : ChNo) (tj : Int) (e : Nat), (s.chan c).prot = .thermalWait e → s.since e < 60000000 → s.scanning = true → tj < 1450 →
      profValid (s.profile (s.chan c).cfg.profile) = true →
    ∃ t, exec (.coolingRestart c tj) s = .next t ∧ (t.chan c).prot = .normal ∧ (t.chan c).onAt = s.now ∧
      (t.chan c).counts.switches = satAdd 0xFFFFFFFF (s.chan c).counts.switches 1 ∧ ((s.chan c).mode = .on → (t.chan c).output = true)) ∧
  (∀ (s : State) (c : ChNo) (e : Nat), (s.chan c).prot = .thermalWait e → 60000000 ≤ s.since e → s.scanning = true →
    ∃ t, exec (.coolingLimit c) s = .next t ∧ (t.chan c).prot = .latched ∧ t.flt = (s.fault .A 4 0x1015 (chNum c) 1 (s.chan c).counts.trips).flt) ∧
  (∀ (s : State) (c : ChNo), (s.chan c).prot = .normal → max 1 (s.chan c).cfg.retryWindow * 100000 ≤ s.since (s.chan c).normalAt →
    ∃ t, exec (.retryWindowExpiry c) s = .next t ∧ (t.chan c) = { s.chan c with trips := 0 }) ∧
  (∀ (s : State) (c : ChNo) (a : Nat), (s.chan c).ol.since = some a → (s.chan c).cfg.olThresh ≠ 0 → (s.chan c).ol.onOpen = false →
      8 ≤ (s.chan c).ol.counted → (s.chan c).cfg.olTime * 1000 ≤ s.since a → s.scanning = true →
    ∃ t, exec (.openLoadOnDetect c) s = .next t ∧ (t.chan c).flags.openLoadOn = true ∧ (t.chan c).ol.onOpen = true ∧
      t.rcd = (s.record 0x1016 4 (chNum c) 0 (s.chan c).ol.last).rcd) ∧
  (∀ (s : State) (c : ChNo) (a : Nat), (s.chan c).ol.back = some a → (s.chan c).ol.onOpen = true → (s.chan c).cfg.olTime * 1000 ≤ s.since a →
      (s.chan c).cfg.olThresh ≠ 0 → s.scanning = true →
    ∃ t, exec (.loadReturnedOn c) s = .next t ∧ (t.chan c).ol.onOpen = false ∧ t.rcd = (s.record 0x1018 4 (chNum c) 0 0).rcd) ∧
  (∀ (s : State) (c : ChNo) (mv : Nat), s.offDetects c = true → (s.chan c).ol.offOpen = false → 3600 < mv →
    ∃ t, exec (.openLoadOffDetect c mv) s = .next t ∧ (t.chan c).flags.openLoadOff = true ∧ (t.chan c).ol.offOpen = true ∧
      t.rcd = (s.record 0x1017 4 (chNum c) 1 mv).rcd) ∧
  (∀ (s : State) (c : ChNo) (mv : Nat), s.offDetects c = true → (s.chan c).ol.offOpen = true → mv < 4400 →
    ∃ t, exec (.loadReturnedOff c mv) s = .next t ∧ (t.chan c).ol.offOpen = false ∧ t.rcd = (s.record 0x1018 4 (chNum c) 1 0).rcd)

/-- Spec/05 and spec/06: the envelope guard, the thermal monitor, orphan hold, the island's reset and the host's commands to the channels (R153 to R158,
R176, R182 to R191, R296, R298). -/
def Obligations.SwitchSupervisionComplete : Prop :=
  (∀ (s : State) (p : PwrNo) (f : Nat), (s.sw.guards.get p).first = some f → (s.sw.guards.get p).open_ = false →
      200 < (s.sw.guards.get p).latest - f → s.scanning = true →
    ∃ t, exec (.envelopeEvent p) s = .next t ∧ (t.sw.guards.get p).open_ = true ∧ (t.sw.guards.get p).event = true ∧
      t.sw.envEvents = satAdd 0xFFFF s.sw.envEvents 1 ∧ t.flt = (s.fault .S 4 0x1020 p.1 (s.sw.guards.get p).lastS (s.sw.guards.get p).lastE).flt ∧
      ∀ c, p.1 ≠ 3 → s.nextShed p = some c → ShedNow t c) ∧
  (∀ (s : State) (p : PwrNo) (c : ChNo), p.1 ≠ 3 → (s.sw.guards.get p).shedding = true → (s.sw.guards.get p).nextShed ≤ s.now →
      (s.sw.guards.get p).lastE < (s.sw.guards.get p).lastS → s.nextShed p = some c → s.scanning = true →
    ∃ t, exec (.shed p) s = .next t ∧ ShedNow t c ∧ (t.sw.guards.get p).nextShed = s.now + 100) ∧
  (∀ (s : State) (p : PwrNo), p.1 ≠ 3 → (s.sw.guards.get p).shedding = true → (s.sw.guards.get p).nextShed ≤ s.now →
      (s.sw.guards.get p).lastS ≤ (s.sw.guards.get p).lastE → s.scanning = true →
    ∃ t, exec (.shed p) s = .next t ∧ (t.sw.guards.get p).shedding = false) ∧
  (∀ (s : State) (p : PwrNo), (s.sw.guards.get p).open_ = true → (s.sw.guards.get p).shedding = false ∨ p = 3 →
      1000 ≤ s.since (s.sw.guards.get p).latest →
    ∃ t, exec (.envelopeEventClose p) s = .next t ∧ (t.sw.guards.get p).open_ = false) ∧
  (∀ (s : State) (k : Nat), (s.sw.guards.get 3).okSince = some k → (s.sw.guards.get 3).shedding = true → 1000 ≤ s.since k →
    ∃ t, exec .rechargeResume s = .next t ∧ (t.sw.guards.get 3).shedding = false) ∧
  (∀ (s : State) (b : Int), s.sw.thermOver = none → 10000 ≤ s.since s.supply.dissAt → s.scanning = true →
      320 < (s.evalDiss b).supply.diss60 ∨ 450 < (s.evalDiss b).supply.diss1 ∨ 850 < b →
    ∃ t, exec (.thermalBudgetEval b) s = .next t ∧ t.sw.thermOver = some s.now ∧ t.supply = (s.evalDiss b).supply ∧
      t.supply.baseTemp = b ∧ t.flt = (s.fault .D 4 0x1030 t.supply.diss60 t.supply.diss1 (sgn b)).flt) ∧
  (∀ (s : State) (k : Nat) (b : Int), s.sw.thermOver = some k → 10000 ≤ s.since s.supply.dissAt → s.scanning = true →
      (s.evalDiss b).supply.diss60 ≤ 300 → (s.evalDiss b).supply.diss1 ≤ 420 → b ≤ 830 →
    ∃ t, exec (.thermalBudgetEval b) s = .next t ∧ t.sw.thermOver = none ∧ t.supply = (s.evalDiss b).supply ∧
      t.rcd = (s.record 0x1031 4 t.supply.diss60 t.supply.diss1 (sgn b)).rcd) ∧
  (∀ s : State, s.sw.thermShed = none → 360 < s.supply.diss60 ∨ 870 < s.supply.baseTemp ∨ (∃ k, s.sw.thermOver = some k ∧ 10000000 ≤ s.since k) →
    ∃ t, exec .thermalShedStart s = .next t ∧ t.sw.thermShed = some (s.now + 1000000)) ∧
  (∀ (s : State) (k : Nat), s.sw.thermShed = some k → k ≤ s.now → s.supply.diss1 ≤ 300 →
    ∃ t, exec .thermalShed s = .next t ∧ t.sw.thermShed = none) ∧
  (∀ (s : State) (k : Nat) (c : ChNo), s.sw.thermShed = some k → k ≤ s.now → 300 < s.supply.diss1 →
      ((s.shedOrder 0 ++ s.shedOrder 1 ++ s.shedOrder 2).find? fun c => (s.chan c).sheddable) = some c →
    ∃ t, exec .thermalShed s = .next t ∧ t.sw.thermShed = some (k + 1000000) ∧ ShedNow t c) ∧
  (∀ (s : State) (host : Bool), 3000 ≤ s.since (s.sw.heardAt host) →
    ∃ t, exec (.orphanEnter host) s = .next t ∧
      (∀ c : ChNo, (s.chan c).owner = (if host then .host else .weft) → (t.chan c).owner = .none ∧ (t.chan c).orphan.isSome = true ∧
        (t.chan c).latched = none) ∧
      ∀ c : ChNo, (s.chan c).owner ≠ (if host then .host else .weft) → t.chan c = s.chan c) ∧
  (∀ (s : State) (c : ChNo) (o : OrphanHold), (s.chan c).orphan = some o → o.policy = 1 → o.done = false → o.safeAfter * 1000 ≤ s.since o.origin →
      s.scanning = true → o.safeValue = false →
    ∃ t, exec (.orphanSafe c) s = .next t ∧ (t.chan c).mode = .off ∧ (t.chan c).output = false ∧ (t.chan c).flags.orphanSafe = true ∧
      t.rcd = (s.record 0x1002 4 (chNum c) 0 1).rcd) ∧
  (∀ s : State, ∃ t, exec .switchReset s = .next t ∧ t.sw.switchReset = true ∧
      ∀ c : ChNo, t.chan c = Chan.reset c (s.chan c).counts) ∧
  (∀ (s : State) (r : CmdRef) (q : Cmd) (c : ChNo), s.begun r = some q → q.opcode = 0x0204 → chOfNum (u8 q.params 0) = some c → q.params.length = 4 →
      zeroAt q.params [1, 2, 3] = true → (s.chan c).prot = .latched → (s.chan c).meas.tj < 1450 →
    ∃ t, exec (.swClearLatch r) s = .next t ∧ (t.chan c).prot = .normal ∧ (t.chan c).trips = 0 ∧ (t.chan c).mode = .off) ∧
  (∀ (s : State) (c : ChNo) (r : HostReq) (rest : List HostReq) (f : Nat), (s.chan c).waiting = r :: rest → r.firstMark = some f → f + 50000 ≤ s.now →
    ∃ t, exec (.admitLimit c) s = .next t ∧ (t.chan c).waiting.Sublist rest) ∧
  (∀ (s : State) (r : CmdRef) (q : Cmd) (c : ChNo) (m : Mode), s.begun r = some q → q.opcode = 0x0201 → chOfNum (u8 q.params 0) = some c →
      Mode.ofNum (u8 q.params 1) = some m → q.params.length = 12 → zeroAt q.params [6, 7] = true →
      cmdFieldsOk c { mode := m, duty := u16 q.params 2, phase := u16 q.params 4, arg := u32 q.params 8 } = true →
      s.twinDenies (s.chan c).cfg.twinShared = false → (s.inhibited (s.chan c).cfg.twinShared = true → m = .off) → (s.chan c).owner ≠ .weft →
      (s.chan c).orphan = none → s.flt.forceSafe = false → (m.isPwm = true → s.groupOk c = true) → Room s 9 →
    ∃ t, exec (.swSet r) s = .next t ∧ (∀ d, t.chan d = s.chan d) ∧ (t.link 9).fly = (s.link 9).fly ++
      [ShWord.make tyService (s.link 9).txSeq (ChCmd.payload { mode := m, duty := u16 q.params 2, phase := u16 q.params 4, arg := u32 q.params 8 } c)
        q.id]) ∧
  (∀ (s : State) (w : ShWord) (c : ChNo) (k : ChCmd), WordAt s 9 tyService w → (s.link 9).unacked = 0 → chOfNum (pf w.payload 0 8) = some c →
      switchCmd w.payload c = some k →
    ∃ t, exec (.shuttleAck 9) s = .next t ∧ (t.chan c).waiting = (s.chan c).waiting ++
      [{ cmd := w.ref, arrival := s.sw.arrivals, body := k, reg := CmdReg.keep w.payload, firstMark := none, lastNeed := 0, lastHave := 0 }] ∧
      (∀ d, d ≠ c → t.chan d = s.chan d) ∧ (t.link 9).words = (s.link 9).words.tail) ∧
  (∀ (s : State) (r : CmdRef) (q : Cmd) (c : ChNo), s.begun r = some q → q.opcode = 0x0202 → chOfNum (u8 q.params 0) = some c →
      q.params.length = 4 → zeroAt q.params [1, 2, 3] = true →
    exec (.swGet r) s = .next (s.complete q .ok (le 1 (chNum c) ++ zeros 3 ++ le 4 (s.readChan c 0x20) ++ le 4 (s.readChan c 0x24) ++
      le 4 (s.readChan c 0x28) ++ le 4 (s.readChan c 0x30) ++ le 4 (s.readChan c 0x4C) ++ le 4 (sgn (s.chan c).meas.tj)))) ∧
  (∀ (s : State) (r : CmdRef) (q : Cmd) (c : ChNo) (k : ChCfg), s.begun r = some q → q.opcode = 0x0203 → chOfNum (u8 q.params 0) = some c →
      q.params.length = 24 → zeroAt q.params [1, 2, 3] = true → (s.chan c).cfgClosed = false →
      (s.chan c).cfg.writeAll c (cfgOffsets.map fun o => (o, u32 q.params (4 + o))) = some k →
    ∃ t, exec (.swConfig r) s = .next t ∧ (t.chan c).cfg = k) ∧
  (∀ (s : State) (r : CmdRef) (q : Cmd), s.begun r = some q → q.opcode = 0x0205 → q.params.length = 12 → u8 q.params 0 = 1 →
      zeroAt q.params [1, 2, 3] = true → u32 q.params 8 = 0 →
      AdoptEntry.ok { object := u8 q.params 4, expect := u8 q.params 5, duty := u16 q.params 6 } = true →
      s.twinDenies (s.objectShared (u8 q.params 4)) = false →
    ∃ t, exec (.swAdopt r) s = .next t ∧ t.sw.adopts = s.sw.adopts ++
      [{ cmd := q.id, entries := [{ object := u8 q.params 4, expect := u8 q.params 5, duty := u16 q.params 6 }] }])

/-- Spec/07: the boost rail, the banks, boosts granted, cut and refused (R198 to R201, R212, R216). -/
def Obligations.BoostRailComplete : Prop :=
  (∀ (s : State) (mv : Nat), ∃ t, exec (.vboostReady mv) s = .next t ∧ t.drv.vboost = mv ∧
      t.drv.recharging = (!t.rechargeStop && decide (mv < s.drv.vbSet)) ∧ (s.drv.vbStart ≤ mv → t.vboostReady = true ∧ t.drv.failFrom = none)) ∧
  (∀ (s : State) (mv : Nat), s.drv.vbSet ≤ mv →
    ∃ t, exec (.vboostAtVbSet mv) s = .next t ∧ t.drv.vboost = mv ∧ t.drv.recharging = false) ∧
  (∀ (s : State) (mv : Nat), 66000 < mv →
    ∃ t, exec (.vboostOv mv) s = .next t ∧ t.drv.vboostOv = true ∧ t.drv.vboost = mv ∧ t.drv.recharging = false ∧ t.rechargeStop = true) ∧
  (∀ (s : State) (mv k : Nat), s.supply.low.get 3 = false → (s.sw.guards.get 3).shedding = false → mv < s.drv.vbStart → mv ≤ 66000 →
      s.drv.failFrom = some k → s.drv.failed = false → k + 500000 ≤ s.ticks →
    ∃ t, exec (.boostFail mv) s = .next t ∧ t.drv.boostFail = true ∧ t.drv.failed = true ∧ t.flt = (s.fault .D 5 0x2020 mv 0 0).flt ∧
      t.rcd = (s.fault .D 5 0x2020 mv 0 0).rcd) ∧
  (∀ (s : State) (c : AcNo) (mJ mA : Nat), 1500 ≤ mJ → s.holdsBoost c = true →
    ∃ t, exec (.boostCut c mJ mA) s = .next t ∧ (t.bank (acBank c)).holder = none ∧ (t.coil c).boostEnergy = mJ ∧ (t.coil c).flagSet 9 = true ∧
      (t.coil c).eng.capped = true ∧ t.rcd = (s.record 0x201C 5 (acNum c) mJ mA).rcd) ∧
  (∀ (s : State) (c : AcNo), s.mayBoost c = true →
    ∃ t, exec (.boostGrant c) s = .next t ∧ (t.bank (acBank c)).holder = some c ∧ (t.coil c).eng.request = none ∧ (t.coil c).boostEnergy = 0 ∧
      (t.coil c).actCount = satAdd 0xFFFFFFFF (s.coil c).actCount 1 ∧
      ((s.coil c).eng.boostAt = none → (t.coil c).eng.boostAt = some s.ticks ∧ (t.coil c).eng.m.get 0 = s.ticks)) ∧
  (∀ (s : State) (c h : AcNo) (k : Nat), (s.coil c).eng.run = true → (s.coil c).eng.request = some k →
      k + (s.bank (acBank c)).defer * 100 ≤ s.ticks → (s.bank (acBank c)).holder = some h → h ≠ c →
    ∃ t, exec (.bankDeferExpiry c) s = .next t ∧ (t.coil c).flagSet 6 = true ∧ (t.coil c).eng.run = false ∧ (t.bank (acBank c)).holder = some h ∧
      t.flt = (s.fault .A 5 0x2018 (acNum c) (acNum h) (s.bank (acBank c)).defer).flt) ∧
  (∀ (s : State) (b : BankNo) (released : Bool) (mA : Nat), (if released then 100 else 50000) ≤ mA →
      (released = true → ∃ c, acBank c = b ∧ s.leaks c = true) →
    ∃ t, exec (.bankFault b released mA) s = .next t ∧ (t.bank b).fault = true ∧ (t.bank b).holder = none ∧
      t.flt = (s.fault .A 5 0x2017 (b.1 + 1) (b2n released) mA).flt ∧ ∀ c, acBank c = b → (t.coil c).eng.run = false) ∧
  (∀ (s : State) (b : BankNo) (mean : Nat), (s.bank b).overload = false → 10000 < mean →
    ∃ t, exec (.bankOverload b mean) s = .next t ∧ (t.bank b) = { s.bank b with overload := true, mean := mean, meanAt := s.warp } ∧
      t.flt = (s.fault .A 5 0x201B (b.1 + 1) mean 0).flt) ∧
  (∀ (s : State) (b : BankNo) (mean : Nat), mean ≤ 9000 →
    ∃ t, exec (.bankOverloadClear b mean) s = .next t ∧ (t.bank b) = { s.bank b with overload := false, mean := mean, meanAt := s.warp })

/-- Spec/07 and spec/08: firing and releasing an actuator, its control update, its diagnostics, and the commands of the weft and of the host
(R195, R206, R209, R214 to R224, R242, R296 to R298). -/
def Obligations.ActuatorCommandsComplete : Prop :=
  (∀ (s : State) (c : AcNo) (d : Due), s.driveLatched c = some d → d.good = true → pf d.payload 18 2 = 1 →
      s.mute (s.coil c).cfg.twinShared = false →
      s.flt.forceSafe = false → s.phase c = .released → (s.coil c).flagSet 4 = false → (s.coil c).flagSet 5 = false →
      (s.bank (acBank c)).fault = false → s.acConsistent c = true → (s.bank (acBank c)).overload = false →
      s.dutyUsed c + ((s.coil c).cfg.ttpMax * 10 + (s.coil c).cfg.tPeak * 100) ≤ (s.coil c).cfg.dutyLimit * (s.coil c).cfg.dutyWindow * 10000 →
    ∃ t, exec (.actuatorFire c) s = .next t ∧ (t.coil c).latched = none ∧ (t.coil c).fire = none ∧ (t.coil c).eng =
      { Engine.reset with run := true, m := Tab.fill 4 s.ticks, arg := pf d.payload 32 32, program := (s.coil c).cfg.bobbin }) ∧
  (∀ (s : State) (c : AcNo) (d : Due), s.driveLatched c = some d → d.good = true → pf d.payload 18 2 = 0 → (s.coil c).eng.run = true →
    ∃ t, exec (.actuatorRelease c) s = .next t ∧ (t.coil c).eng.run = false ∧ (t.coil c).low = false ∧ (t.coil c).latched = none ∧
      ((t.coil c).rest = .decay ∨ (t.coil c).rest = .released)) ∧
  (∀ (s : State) (c : AcNo) (k : Nat), (s.coil c).belowSince = some k → (s.coil c).eng.run = false →
      (s.coil c).rest = .decay ∨ (s.coil c).rest = .fastDecay → k + 100 ≤ s.ticks →
    ∃ t, exec (.decayEnd c) s = .next t ∧ (t.coil c) = { s.coil c with rest := .released, dropout := none } ∧ t.phase c = .released) ∧
  (∀ (s : State) (c : AcNo) (k : Nat), (s.coil c).fwAt = some k → 20000 ≤ s.since k →
    ∃ t, exec (.freewheelLatchExpiry c) s = .next t ∧ (t.coil c) = { s.coil c with fwAt := none }) ∧
  (∀ (s : State) (c : AcNo) (mA : Nat) (u : Int) (vb mJ : Nat), s.driveUp = true → (s.coil c).updAt ≠ some s.ticks →
    ∃ t, exec (.controlUpdate c mA u vb mJ) s = .next t ∧ (t.coil c).updAt = some s.ticks ∧ (t.coil c).iCoil = mA ∧ (t.coil c).uCoil = u ∧ t.drv.vboost = vb) ∧
  (∀ (s : State) (c : AcNo) (k l : Nat), (s.coil c).unreachSince = some k → (s.coil c).eng.reg = .hold l → (s.coil c).unreachDone = false →
      k + 5000 ≤ s.ticks →
    ∃ t, exec (.holdUnreachable c) s = .next t ∧ (t.coil c).flagSet 3 = true ∧ (t.coil c).unreachDone = true ∧
      t.flt = (s.fault .A 5 0x2014 (acNum c) (s.coil c).iCoil l).flt) ∧
  (∀ (s : State) (c : AcNo) (k : Nat), (s.coil c).openSince = some k → k + 1000 ≤ s.ticks →
    ∃ t, exec (.openCoil c) s = .next t ∧ (t.coil c).flagSet 4 = true ∧ (t.coil c).eng.run = false ∧
      t.flt = (s.fault .A 5 0x2015 (acNum c) (s.phase c).num 0).flt) ∧
  (∀ (s : State) (c : AcNo) (mA : Nat), 25000 ≤ mA →
    ∃ t, exec (.shortedCoil c mA) s = .next t ∧ (t.coil c).flagSet 5 = true ∧ (t.coil c).eng.run = false ∧
      t.flt = (s.fault .A 5 0x2016 (acNum c) (s.phase c).num 0).flt) ∧
  (∀ (s : State) (w : ShWord) (c : AcNo), WordAt s 1 tyCmd w → acOfNum (pf w.payload 0 8) = some c → s.leads (s.coil c).cfg.twinShared = false →
      (s.coil c).owner = .weft → pf w.payload 8 10 ≤ 999 → pf w.payload 18 2 ≤ 1 → pf w.payload 20 12 = 0 →
      pf w.payload 32 32 = 0 ∨ (pf w.payload 18 2 = 1 ∧ (s.coil c).cfg.bobbin ≠ 0) →
    ∃ t, exec (.driveCmd true) s = .next t ∧ (t.coil c).nextReg = some (CmdReg.keep w.payload) ∧ t.drv.commit.count = s.drv.commit.count + 1 ∧
      ∀ d : AcNo, d ≠ c → t.coil d = s.coil d) ∧
  (∀ (s : State) (w : ShWord) (v k : Nat), WordAt s 1 tyData w → Room s 5 → pf w.payload 16 48 = 0 →
      s.driveRead (pf w.payload 0 8) (pf w.payload 8 8) = some (v, k) →
    ∃ t, exec (.driveReadRequest true) s = .next t ∧ t.drv = s.drv ∧
      (t.link 5).fly = (s.link 5).fly ++ [ShWord.make tyAck (s.link 5).txSeq 0,
        ShWord.make tyData (((s.link 5).txSeq + 1) % 256) (readAnswer v (pf w.payload 0 8) (pf w.payload 8 8) k)]) ∧
  (∀ (s : State) (host : Bool), s.drv.heardAt host + 3000 ≤ s.ticks →
    ∃ t, exec (.actuatorOrphanEnter host) s = .next t ∧
      ∀ c : AcNo, ((s.coil c).owner = (if host then .host else .weft) → (t.coil c).owner = .none ∧ (t.coil c).orphan.isSome = true) ∧
        ((s.coil c).owner ≠ (if host then .host else .weft) → t.coil c = { s.coil c with waiting := (t.coil c).waiting })) ∧
  (∀ (s : State) (c : AcNo) (o : AcOrphan), s.driveUp = true → (s.coil c).orphan = some o → o.done = false → o.policy = 1 →
      o.origin + o.safeAfter * 1000 ≤ s.ticks → (s.coil c).eng.run = false → (s.coil c).rest = .hold → (s.coil c).fire = none →
    ∃ t, exec (.actuatorOrphanSafe c) s = .next t ∧ (t.coil c).rest = .decay ∧ (t.coil c).low = false ∧ (t.coil c).flagSet 10 = true ∧
      t.rcd = (s.record 0x2002 5 (acNum c) 1 0).rcd) ∧
  (∀ s : State, ∃ t, exec .driveReset s = .next t ∧ t.drv.driveReset = true ∧ t.drv.vbSet = 58000 ∧ t.drv.vbStart = 52000 ∧ t.drv.bobValid = 1 ∧
      ∀ c : AcNo, (t.coil c).cfg = AcCfg.reset ∧ (t.coil c).eng = Engine.reset ∧ (t.coil c).actCount = (s.coil c).actCount ∧
        (t.coil c).diagCount = (s.coil c).diagCount) ∧
  (∀ (s : State) (c : AcNo), ∃ t, exec (.clearLearned c) s = .next t ∧ (t.coil c) = { s.coil c with closeLearned := noTime, dropLearned := 0 } ∧
      ∀ d : AcNo, d ≠ c → t.coil d = s.coil d) ∧
  (∀ (s : State) (r : CmdRef) (q : Cmd) (c : AcNo), s.begun r = some q → q.opcode = 0x0301 → acOfNum (u8 q.params 0) = some c → q.params.length = 8 →
      zeroAt q.params [1, 2, 3] = true → s.twinDenies (s.coil c).cfg.twinShared = false → s.inhibited (s.coil c).cfg.twinShared = false →
      (s.coil c).owner ≠ .weft → (s.coil c).orphan = none → Room s 10 →
    ∃ t, exec (.acFire r) s = .next t ∧ (∀ d, t.coil d = s.coil d) ∧ (t.link 10).fly = (s.link 10).fly ++
      [ShWord.make tyService (s.link 10).txSeq (acPayload c (some (u32 q.params 4))) q.id]) ∧
  (∀ (s : State) (r : CmdRef) (q : Cmd) (c : AcNo), s.begun r = some q → q.opcode = 0x0302 → acOfNum (u8 q.params 0) = some c → q.params.length = 4 →
      zeroAt q.params [1, 2, 3] = true → s.twinDenies (s.coil c).cfg.twinShared = false → (s.coil c).owner ≠ .weft → (s.coil c).orphan = none → Room s 10 →
    ∃ t, exec (.acRelease r) s = .next t ∧ (∀ d, t.coil d = s.coil d) ∧ (t.link 10).fly = (s.link 10).fly ++
      [ShWord.make tyService (s.link 10).txSeq (acPayload c none) q.id]) ∧
  (∀ (s : State) (w : ShWord) (c : AcNo), WordAt s 10 tyService w → (s.link 10).unacked = 0 → acOfNum (pf w.payload 0 8) = some c →
    ∃ t, exec (.shuttleAck 10) s = .next t ∧ (t.coil c).waiting = (s.coil c).waiting ++
      [{ cmd := w.ref, arg := if pf w.payload 18 2 = 1 then some (pf w.payload 32 32) else none, reg := CmdReg.keep w.payload }] ∧
      (∀ d, d ≠ c → t.coil d = s.coil d) ∧ (t.link 10).words = (s.link 10).words.tail) ∧
  (∀ (s : State) (r : CmdRef) (q : Cmd) (c : AcNo) (k : AcCfg), s.begun r = some q → q.opcode = 0x0303 → acOfNum (u8 q.params 0) = some c →
      q.params.length = 48 → zeroAt q.params [1, 2, 3] = true → (s.coil c).cfgClosed = false →
      (s.coil c).cfg.writeAll (s.coil (acOther c)).cfg.iHold (acOffsets.map fun o => (o, u32 q.params (4 + o))) = some k →
    ∃ t, exec (.acConfig r) s = .next t ∧ (t.coil c).cfg = k ∧ (t.coil c).closeLearned = noTime ∧ (t.coil c).dropLearned = 0) ∧
  (∀ (s : State) (r : CmdRef) (q : Cmd) (c : AcNo), s.begun r = some q → q.opcode = 0x0305 → acOfNum (u8 q.params 0) = some c → q.params.length = 4 →
      zeroAt q.params [1, 2, 3] = true →
    exec (.acGet r) s = .next (s.complete q .ok (le 1 (acNum c) ++ zeros 3 ++ le 4 (s.readAct c 0x40) ++ le 4 (s.readAct c 0x44) ++
      le 2 (s.readAct c 0x48) ++ le 2 (s.readAct c 0x4C) ++ le 4 (s.readAct c 0x50) ++ le 4 (s.readAct c 0x58) ++ le 4 (s.readAct c 0x60) ++
      le 2 (s.readAct c 0x68) ++ zeros 2))) ∧
  (∀ (s : State) (r : CmdRef) (q : Cmd), s.begun r = some q → q.opcode = 0x0304 → q.params.length = 260 → zeroAt q.params [1, 2, 3] = true →
      1 ≤ u8 q.params 0 → u8 q.params 0 ≤ 15 → s.bobInUse (u8 q.params 0) = false →
      ((List.range 64).all fun k => bobWordOk (u32 q.params (4 + 4 * k))) = true →
    ∃ t, exec (.acLoadBobbin r) s = .next t ∧ t.mem = Memory.writeBytes s.mem (bobAddr (u8 q.params 0)) (q.params.drop 4) ∧
      t.drv.bobValid = s.drv.bobValid ||| 2 ^ u8 q.params 0)

/-- Spec/08, R230 to R237: what a bobbin engine's LD, JMP, LOOP, WAIT, JC and MARK do, and the error of an update of 32 instructions without a stop. -/
def Obligations.BobbinInstructions : Prop :=
  ∀ (s : State) (c : AcNo) (k : Taken) (w : Nat), w = s.bobWord (s.coil c).eng.program.1 (s.coil c).eng.pc →
    (bits w 26 6 = 0x01 → bit w 22 = false →
      (s.bobStep c k).1 = .next ∧ ∃ x : Fin 8, x.1 = bits w 23 3 ∧ (((s.bobStep c k).2.coil c).eng.v.get x = bits w 0 20) ∧
        ∀ y : Fin 8, y ≠ x → ((s.bobStep c k).2.coil c).eng.v.get y = (s.coil c).eng.v.get y) ∧
    (bits w 26 6 = 0x07 → (s.bobStep c k).1 = .next ∧ ((s.bobStep c k).2.coil c).eng = { (s.coil c).eng with pc := bits w 0 6 }) ∧
    (bits w 26 6 = 0x0D → bit w 25 = false → 1 < (s.coil c).eng.c.get 0 →
      (s.bobStep c k).1 = .next ∧ ((s.bobStep c k).2.coil c).eng.pc = bits w 0 6 ∧
        ((s.bobStep c k).2.coil c).eng.c.get 0 = (s.coil c).eng.c.get 0 - 1) ∧
    (bits w 26 6 = 0x05 → s.bobCond c k w = false → s.bobStep c k = (.wait, s)) ∧
    (bits w 26 6 = 0x05 → s.bobCond c k w = true →
      (s.bobStep c k).1 = .next ∧ ((s.bobStep c k).2.coil c).eng = { (s.coil c).eng with pc := ((s.coil c).eng.pc + 1) % 64 }) ∧
    (bits w 26 6 = 0x06 → (s.bobStep c k).1 = .next ∧
      ((s.bobStep c k).2.coil c).eng.pc = if (s.bobCond c k w) = !bit w 11 then bits w 0 6 else ((s.coil c).eng.pc + 1) % 64) ∧
    (bits w 26 6 = 0x08 → (s.bobStep c k).1 = .next ∧ ∃ m : Fin 4, m.1 = bits w 0 2 ∧ ((s.bobStep c k).2.coil c).eng.m.get m = s.ticks) ∧
    ((bobRun c k 0 s).coil c).eng.error = 1

/-- Spec/09: the barrier frames, the field side, its inputs, counters and outputs, and the commands of the weft and the host to them (R252 to R270,
R296, R298). -/
def Obligations.FieldCommandsComplete : Prop :=
  (∀ (s : State) (raw : BitVec 32) (rb parity : BitVec 16) (mv ga gb : Nat), s.warp % 10 = 0 → s.fld.frameAt ≠ some s.warp → s.barrierUp = true →
    ∃ t x, exec (.barrierFrame raw rb parity mv ga gb) s = .next t ∧ t.fld.frameAt = some s.warp ∧
      t.fld.missing = (if s.fld.heard then 0 else s.fld.missing + 1) ∧ t.fld.down = some x ∧ x.seq = s.fld.txSeq ∧ x.good = true ∧
      t.fld.txSeq = (s.fld.txSeq + 1) % 256 ∧ t.fld.clear = 0 ∧ t.fld.foClear = 0 ∧
      (s.side.running = true → t.side.raw = raw ∧ t.side.readback = rb ∧ t.side.fpMv = mv ∧ t.side.groups = (ga, gb) ∧ t.side.rx = none ∧
        ∃ u, t.fld.up = some u ∧ u.seq = s.side.txSeq ∧ u.good = true)) ∧
  (∀ (s : State) (u : FieldFrame), s.fld.up = some u → u.good = true → seqBehind s.fld.rxSeq u.seq = false → u.start = none →
    ∃ t, exec (.fieldFrameReceive true) s = .next t ∧ t.fld.words = u.words ∧ t.fld.missing = 0 ∧ t.fld.up = none ∧
      t.fld.stale = s.fld.replay.isSome ∧ t.supply.fpPresent = true ∧ t.fld.rxSeq = some ((u.seq + 1) % 256)) ∧
  (∀ (s : State) (u : FieldFrame) (n : Nat), s.fld.up = some u → u.good = true → u.start = some n → n ≠ s.fld.seenStart →
    ∃ t, exec (.fieldFrameReceive true) s = .next t ∧ t.fld.words = u.words ∧ t.fld.startFlag = true ∧ t.fld.replay = some fieldCfgOffsets ∧
      t.fld.stale = true ∧ t.fld.seenStart = n ∧ t.fld.upCrc = 0) ∧
  (∀ (s : State) (x : LogicFrame), s.fld.down = some x → s.side.running = true → x.good = true → seqBehind s.side.rxSeq x.seq = false →
    ∃ t, exec (.logicFrameReceive true) s = .next t ∧ t.side.rx = some x ∧ t.side.silent = 0 ∧ t.side.rxSeq = some ((x.seq + 1) % 256) ∧
      t.fld.down = none) ∧
  (∀ s : State, 3 ≤ s.fld.missing → s.fld.stale = false ∨ s.supply.fpPresent = true →
    ∃ t, exec .fieldStale s = .next t ∧ t.fld.stale = true ∧ t.supply.fpPresent = false ∧
      (s.fld.stale = false → s.fld.sentCfg = [] → s.fld.queue = [] → t.rcd = (s.record 0x3008 4 0 0 0).rcd)) ∧
  (∀ s : State, s.side.running = true → 50 ≤ s.side.silent →
    ∃ t, exec .logicSilent s = .next t ∧ t.side.logicSilent = true ∧ t.side.fsApplied = false) ∧
  (∀ (s : State) (mv : Nat), s.side.running = false → 18000 < mv → s.fieldPowered = true →
    ∃ t, exec (.fieldStart mv) s = .next t ∧ t.side = FieldSide.start (s.side.starts + 1) 0 mv ∧ t.pwr.islandUp.get 6 = true) ∧
  (∀ (s : State) (mv : Nat), s.side.running = true → mv < 16000 →
    ∃ t, exec (.fieldStop mv) s = .next t ∧ t.side = FieldSide.off s.side.starts ∧ t.fld.waiting = []) ∧
  (∀ s : State, s.side.running = true →
    ∃ t, exec .fieldWatchdog s = .next t ∧ t.side = FieldSide.start (s.side.starts + 1) 1 s.side.fpMv) ∧
  (∀ (s : State) (i : Fin 24), s.side.running = true → (s.side.cfg.inputs.get i).tStuck ≠ 0 → (s.side.inputs.get i).stuck = false →
      (s.side.cfg.inputs.get i).tStuck * 100000 ≤ (s.side.inputs.get i).ones →
    ∃ t, exec (.stuck i) s = .next t ∧ (t.side.inputs.get i) = { s.side.inputs.get i with stuck := true } ∧
      t.rcd = (s.record 0x3002 6 (i.1 + 1) (s.side.cfg.inputs.get i).tStuck 0).rcd) ∧
  (∀ (s : State) (i : Fin 24), s.side.running = true → (s.side.cfg.inputs.get i).chatEn = true → (s.side.inputs.get i).chatter = false →
      s.side.cfg.chatterN < (s.side.inputs.get i).changes.length →
    ∃ t, exec (.chatter i) s = .next t ∧ (t.side.inputs.get i) = { s.side.inputs.get i with chatter := true } ∧
      t.rcd = (s.record 0x3003 6 (i.1 + 1) (s.side.inputs.get i).changes.length (b2n (s.side.cfg.inputs.get i).freeze)).rcd) ∧
  (∀ (s : State) (k : Fin 8) (rising : Bool) (n : Nat), s.side.running = true →
    ∃ t, exec (.fastCountEdge k rising n) s = .next t ∧
      t.side.counters.get k = s.side.counters.get k +
        (if s.side.cfg.edges.get k = 2 ∨ (s.side.cfg.edges.get k = 0 ∧ rising = true) ∨ (s.side.cfg.edges.get k = 1 ∧ rising = false) then 1 else 0) ∧
      (n < 64 → t.side.overspeed.getLsbD k.1 = true ∧ t.rcd = (s.record 0x3004 6 (25 + k.1) n 0).rcd)) ∧
  (∀ (s : State) (o : Fin 16), s.side.running = true → (s.side.outs.get o).on = true →
    ∃ t, exec (.foOverload o) s = .next t ∧ (t.side.outs.get o) = { s.side.outs.get o with held := true, overload := true } ∧
      t.flt = (s.fault .A 6 0x3006 (o.1 + 1) 0 (s.side.groupMa o)).flt) ∧
  (∀ (s : State) (g : Fin 2) (ma : List Nat) (n : Nat) (o : Fin 16), s.side.running = true → s.side.sumFor.get g = some n → 1000 ≤ n →
      s.side.heaviest g ma = some o →
    ∃ t, exec (.groupLimit g ma) s = .next t ∧ (t.side.outs.get o) = { s.side.outs.get o with held := true, overload := true } ∧
      t.side.groupLimit.getLsbD g.1 = true ∧ t.flt = (s.fault .A 6 0x3006 (o.1 + 1) 1 (s.side.groupMa o)).flt) ∧
  (∀ (s : State) (w : ShWord), WordAt s 7 tyData w → pf w.payload 32 32 = 0 →
      BitVec.ofNat 16 (pf w.payload 16 16) &&& ~~~s.fld.mirror.weftMask = 0 →
    ∃ t, exec (.fieldDataWord true) s = .next t ∧ ∀ i : Fin 16, t.fld.values.getLsbD i.1 =
      if bit (pf w.payload 16 16) i.1 && !s.safeHeld.getLsbD i.1 then bit (pf w.payload 0 16) i.1 else s.fld.values.getLsbD i.1) ∧
  (∀ (s : State) (off v : Nat) (m : FieldCfg), off ∈ fieldCfgOffsets → (off = 0x0C → s.weft.running = none) → s.fld.mirror.write off v = some m →
      s.supply.fpPresent = false ∨ s.fld.queue.length < 64 →
    ∃ t, exec (.fieldConfigWrite off v) s = .next t ∧ t.fld.mirror = m ∧
      t.fld.queue = if s.supply.fpPresent then s.fld.queue ++ [{ off := off, value := m.read off, cmd := none }] else s.fld.queue) ∧
  (∀ (s : State) (mask : BitVec 8),
    ∃ t, exec (.counterClear mask) s = .next t ∧ ∀ i : Fin 27, t.fld.clear.getLsbD i.1 =
      (s.fld.clear.getLsbD i.1 || (decide (16 ≤ i.1) && mask.getLsbD (i.1 - 16)))) ∧
  (∀ (s : State) (speed wrap : BitVec 8) (groups : BitVec 2) (silent : Bool) (outs : BitVec 16),
    ∃ t, exec (.fieldFlagClear speed wrap groups silent outs) s = .next t ∧ t.fld.foClear = s.fld.foClear ||| outs ∧
      ∀ i : Fin 27, t.fld.clear.getLsbD i.1 = (s.fld.clear.getLsbD i.1 || speed.getLsbD i.1 || (decide (8 ≤ i.1) && wrap.getLsbD (i.1 - 8)) ||
        (decide (24 ≤ i.1) && groups.getLsbD (i.1 - 24)) || (silent && decide (i.1 = 26)))) ∧
  (∀ (s : State) (r : CmdRef) (q : Cmd), s.begun r = some q → q.opcode = 0x0401 → q.params.length = 4 →
      BitVec.ofNat 16 (u16 q.params 0) &&& s.weftOutputs = 0 → BitVec.ofNat 16 (u16 q.params 0) &&& s.safeHeld = 0 → s.supply.fpPresent = true →
    ∃ t, exec (.fioSet r) s = .next t ∧ t.fld.waiting = s.fld.waiting ++ [{ cmd := q.id, sent := false }] ∧
      ∀ i : Fin 16, t.fld.values.getLsbD i.1 = if bit (u16 q.params 0) i.1 then bit (u16 q.params 2) i.1 else s.fld.values.getLsbD i.1) ∧
  (∀ (s : State) (r : CmdRef) (q : Cmd), s.begun r = some q → q.opcode = 0x0402 → q.params = [] →
    exec (.fioGet r) s = .next (s.complete q .ok (le 4 (s.readField 0x10) ++ le 4 (s.readField 0x14) ++ le 4 (s.readField 0x20) ++
      le 4 (s.fld.words.get 3) ++ le 4 (s.readField 0x00)))) ∧
  (∀ (s : State) (r : CmdRef) (q : Cmd) (m : FieldCfg), s.begun r = some q → q.opcode = 0x0403 → q.params.length = 8 → zeroAt q.params [2, 3] = true →
      u16 q.params 0 ∈ fieldCfgOffsets → (u16 q.params 0 = 0x0C → s.weft.running = none) →
      s.fld.mirror.write (u16 q.params 0) (u32 q.params 4) = some m → s.supply.fpPresent = false ∨ s.fld.queue.length < 64 →
    ∃ t, exec (.fioConfig r) s = .next t ∧ t.fld.mirror = m ∧
      (s.supply.fpPresent = true →
        t.fld.queue = s.fld.queue ++ [{ off := u16 q.params 0, value := m.read (u16 q.params 0), cmd := some q.id }]))

/-- Spec/10: packets received, commands begun, sessions ended, and the group opcodes (R276 to R288, R296). -/
def Obligations.PacketCommandsComplete : Prop :=
  (∀ (s : State) (via : Via) (p : List Byte), s.cmd.serving = true → 256 ≤ s.rxWaiting →
    ∃ t, exec (.packetReceive via p) s = .next t ∧ t.cmd = { s.cmd with rxOverflow := satAdd 0xFFFF s.cmd.rxOverflow 1 }) ∧
  (∀ (s : State) (p : List Byte), s.cmd.serving = true → s.rxWaiting < 256 → s.cmd.canEn = true → packetOk (p.take (20 + u16 p 12)) 44 0 = false →
    ∃ t, exec (.packetReceive .can p) s = .next t ∧
      t.cmd = { s.cmd with crcFail := satAdd 0xFFFF s.cmd.crcFail 1, rxUntil := max s.cmd.rxUntil s.now + s.packetTime }) ∧
  (∀ (s : State) (addr port : Nat) (w p : List Byte), s.cmd.serving = true → s.rxWaiting < 256 → wrapperOk w = true → u32 w 0 ≠ 0 →
      s.cmd.slotOf (u32 w 0) = none →
    ∃ t, exec (.packetReceive (.udp addr port portCmd w) p) s = .next t ∧
      t.cmd = { s.cmd with authFail := satAdd 0xFFFF s.cmd.authFail 1, rxUntil := max s.cmd.rxUntil s.now + s.packetTime }) ∧
  (∀ (s : State) (addr port to_ : Nat) (w p : List Byte), s.cmd.serving = true → s.rxWaiting < 256 → to_ ≠ portCmd → to_ ≠ portNote →
    exec (.packetReceive (.udp addr port to_ w) p) s = .next s) ∧
  (∀ (s : State) (p : List Byte), s.cmd.serving = true → s.rxWaiting < 256 → s.cmd.canEn = true → packetOk p 44 0 = true → u8 p 6 = 0xFF →
      s.twin.role ≠ .shadow → s.mirrors = false →
    ∃ t c, exec (.packetReceive .can p) s = .next t ∧ (t.cmd.sources.get 4).waiting = (s.cmd.sources.get 4).waiting ++ [c] ∧
      c.src = .can ∧ c.group = none ∧ c.opcode = u16 p 2 ∧ c.tag = u16 p 4 ∧ c.params = slice p 16 (u16 p 12) ∧ c.id = s.cmd.nextId) ∧
  (∀ (s : State) (addr port : Nat) (w p : List Byte) (k : Fin 4) (x : Session) (g : Grp), s.cmd.serving = true → s.rxWaiting < 256 →
      wrapperOk w = true → u32 w 0 ≠ 0 → s.cmd.slotOf (u32 w 0) = some k → s.cmd.sessions.get k = some x → x.opens w p = true →
      x.seqOk (ofLe (slice w 4 8)) = true → ofLe (slice w 4 8) < seqMax → packetOk p 1424 x.id = true → u8 p 6 = g.1 → bit (u8 p 1) 0 = false →
      (s.group g).holder = .src (.session k) → s.twin.role ≠ .shadow → (s.group g).causes.stalled = false → (s.group g).held = [] →
      (s.group g).outstanding < 64 → u16 p 4 = (s.group g).expected → s.mirrors = false →
    ∃ t c, exec (.packetReceive (.udp addr port portCmd w) p) s = .next t ∧ (t.group g).taken = (s.group g).taken ++ [c] ∧
      (t.group g).expected = (u16 p 4 + 1) % 65536 ∧ t.cmd.sessions.get k = some (x.took (ofLe (slice w 4 8)) s.now) ∧
      c.src = .session k ∧ c.group = some g ∧ c.opcode = u16 p 2 ∧ c.tag = u16 p 4 ∧ c.params = slice p 16 (u16 p 12)) ∧
  (∀ (s : State) (g : Grp) (c : Cmd) (rest : List Cmd), s.cmd.serving = true → (s.group g).taken = c :: rest → (s.group g).causes.stalled = false →
      (s.group g).exec = none → (c.fence = true → (s.group g).handed = []) → s.handoverHolds = false → s.mirrors = false → c.group = some g →
      c.check = none →
    ∃ t, exec (.commandBegin (.group g)) s = .next t ∧ (t.group g).taken = rest ∧ t.begun (.group g) = some { c with stage := .service }) ∧
  (∀ (s : State) (i : Fin 6) (c : Cmd) (rest : List Cmd), s.cmd.serving = true → (s.cmd.sources.get i).waiting = c :: rest →
      (s.cmd.sources.get i).exec = none → s.mirrors = false → c.group = none → c.src.idx = i → c.check = none →
    ∃ t, exec (.commandBegin (.ungrouped i)) s = .next t ∧ (t.cmd.sources.get i).waiting = rest ∧
      t.begun (.ungrouped i) = some { c with stage := .service }) ∧
  (∀ (s : State) (k : Fin 4) (x : Session), s.cmd.sessions.get k = some x → 60000000 ≤ s.since x.lastAt →
    ∃ t, exec (.sessionTimeout k) s = .next t ∧ t.cmd.sessions.get k = none ∧
      ∀ g : Grp, (s.group g).holder = .src (.session k) → (t.group g).holder = .free) ∧
  (∀ (s : State) (r : CmdRef) (q : Cmd) (k : Fin 4), s.begun r = some q → q.opcode = 0x0105 → q.params = [] → q.src = .session k →
    ∃ t, exec (.sessionClose r) s = .next t ∧ t.cmd.sessions.get k = none) ∧
  (∀ (s : State) (r : CmdRef) (q : Cmd), s.begun r = some q → q.opcode = 0x0102 → q.params.length ≤ 1420 →
    exec (.ping r) s = .next (s.complete q .ok q.params)) ∧
  (∀ (s : State) (r : CmdRef) (q : Cmd) (g : Grp), s.begun r = some q → q.opcode = 0x0E03 → q.params = [] → q.group = some g → (s.group g).handed = [] →
    exec (.fenceCmd r) s = .next (s.complete q .ok [])) ∧
  (∀ (s : State) (r : CmdRef) (q : Cmd) (g : Grp), s.begun r = some q → q.opcode = 0x0E01 → q.params.length = 4 → zeroAt q.params [1, 2, 3] = true →
      s.ownGroup q = .ok g → ((s.group g).causes.clsS = true → s.flt.forceSafe = false ∧ ∀ e ∈ s.flt.queue, e.cls ≠ .S) →
      ((s.group g).causes.clsD = true → ∀ e ∈ s.flt.queue, e.cls ≠ .D) →
    ∃ t, exec (.groupResume r) s = .next t ∧ (t.group g).causes = Causes.none ∧ (t.group g).failed = []) ∧
  (∀ (s : State) (r : CmdRef) (q : Cmd) (g : Grp), s.begun r = some q → q.opcode = 0x0E02 → q.params.length = 4 → zeroAt q.params [2, 3] = true →
      u8 q.params 1 ≤ 1 → s.ownGroup q = .ok g →
    ∃ t, exec (.groupAbort r) s = .next t ∧ (t.group g).causes = Causes.none ∧ (t.group g).failed = [] ∧ (t.group g).taken = [] ∧
      (t.group g).held = []) ∧
  (∀ (s : State) (r : CmdRef) (q : Cmd), s.begun r = some q → q.opcode = 0x0101 → q.params = [] →
    exec (.info r) s = .next (s.complete q .ok (le 4 0x4812 ++ le 4 s.id.runVersion ++ le 4 Config.loaderVersion ++ padTo 8 Config.serial ++
      le 1 s.twin.role.num ++ le 1 (countIf (fun x => x.isSome) s.cmd.sessions.toList) ++ le 2 (if q.src = .can then 44 else 1424) ++ le 8 s.warp))) ∧
  (∀ (s : State) (r : CmdRef) (q : Cmd), s.begun r = some q → q.opcode = 0x0103 → q.params = [] →
    exec (.getState r) s = .next (s.complete q .ok (le 1 s.twin.role.num ++ le 1 s.weftNum ++ le 1 s.flt.queue.length ++ le 1 (b2n s.flt.forceSafe) ++
      le 2 (s.cmd.groups.mask fun g => g.causes.stalled) ++ le 2 (s.cmd.groups.mask fun g => decide (g.holder = .src q.src)) ++
      le 6 s.swOrphans ++ le 2 (s.drv.acts.mask fun x => x.orphan.isSome) ++ le 8 s.warp ++ le 4 s.rcd.opSeconds ++
      le 4 (s.rcd.cycles % 2 ^ 24))))

/-- Spec/10: the data-port opcodes (R296, R300 to R304). -/
def Obligations.DataPortCommandsComplete : Prop :=
  (∀ (s : State) (r : CmdRef) (q : Cmd), s.begun r = some q → q.opcode = 0x0701 → q.params.length = 12 → s.openCheck q = none →
    exec (.dpOpen r) s = .next ((s.setWindow q (u8 q.params 0) (some
      { elem := u8 q.params 1, attr := u8 q.params 2, autoinc := bit (u8 q.params 3) 0, base := u32 q.params 4, length := u32 q.params 8, cursor := 0 })).complete
      q .ok (le 1 (u8 q.params 0) ++ zeros 3 ++ le 4 (u32 q.params 8)))) ∧
  (∀ (s : State) (r : CmdRef) (q : Cmd) (w : Window) (o : Nat), s.begun r = some q → q.opcode = 0x0702 → q.params.length = 8 → u8 q.params 1 = 0 →
      s.window q (u8 q.params 0) = some w → w.burst (u16 q.params 2) (u32 q.params 4) (decide (q.src = .can)) = some o →
    exec (.dpRead r) s = .next (((s.readBurst w o (u16 q.params 2)).2.advance q (u8 q.params 0) w o (s.readBurst w o (u16 q.params 2)).1.length).complete q
      (if (s.readBurst w o (u16 q.params 2)).1.length < u16 q.params 2 then .short else .ok)
      (le 1 (u8 q.params 0) ++ zeros 1 ++ le 2 (s.readBurst w o (u16 q.params 2)).1.length ++ le 4 o ++ (s.readBurst w o (u16 q.params 2)).1))) ∧
  (∀ (s : State) (r : CmdRef) (q : Cmd) (w : Window) (o n : Nat) (g : Region), s.begun r = some q → q.opcode = 0x0703 →
      q.params.length = 8 + u16 q.params 2 → u8 q.params 1 = 0 → s.window q (u8 q.params 0) = some w →
      w.burst (u16 q.params 2) (u32 q.params 4) (decide (q.src = .can)) = some o → w.attr = 0 → n = min (u16 q.params 2) (w.length - o) → 1 ≤ n →
      regionOf w.base w.length = some g → s.memRefusal g.space (w.base + o) n = none →
    exec (.dpWrite r) s = .next (((s.storeMem g.space (w.base + o) (slice q.params 8 n)).advance q (u8 q.params 0) w o n).complete q
      (if n < u16 q.params 2 then .short else .ok) (writeReply (u8 q.params 0) n o))) ∧
  (∀ (s u : State) (r : CmdRef) (q : Cmd) (w : Window) (o n : Nat), s.begun r = some q → q.opcode = 0x0703 →
      q.params.length = 8 + u16 q.params 2 → u8 q.params 1 = 0 → s.window q (u8 q.params 0) = some w →
      w.burst (u16 q.params 2) (u32 q.params 4) (decide (q.src = .can)) = some o → w.attr = 2 → n = min (u16 q.params 2) (w.length - o) →
      s.fieldFull (w.base + o) (n / 4) = false → u = (s.seek q (u8 q.params 0) w o).access (regIsland (w.base + o)) (n / 4) false →
      (State.writeRegs (w.base + o) (slice q.params 8 n) (n / 4) u).1 = .ok →
    exec (.dpWrite r) s = .next (((State.writeRegs (w.base + o) (slice q.params 8 n) (n / 4) u).2.2.advance q (u8 q.params 0) w o
        (State.writeRegs (w.base + o) (slice q.params 8 n) (n / 4) u).2.1).complete q
      (if n < u16 q.params 2 then .short else .ok)
      (writeReply (u8 q.params 0) (State.writeRegs (w.base + o) (slice q.params 8 n) (n / 4) u).2.1 o))) ∧
  (∀ (s : State) (r : CmdRef) (q : Cmd), s.begun r = some q → q.opcode = 0x0704 → q.params.length = 4 → zeroAt q.params [1, 2, 3] = true →
      u8 q.params 0 ≤ 3 →
    exec (.dpClose r) s = .next ((s.setWindow q (u8 q.params 0) none).complete q .ok q.params)) ∧
  (∀ (s : State) (r : CmdRef) (q : Cmd) (w : Window) (x : Stream), s.begun r = some q → q.opcode = 0x0705 → q.params.length = 4 → u8 q.params 1 = 0 →
      s.window q (u8 q.params 0) = some w → w.attr = 1 → streamAt w.base w.length = some x → u16 q.params 2 ≤ (s.streamItems x).length →
    exec (.dpCommit r) s = .next ((s.streamDrop x (u16 q.params 2)).complete q .ok
      (le 1 (u8 q.params 0) ++ zeros 1 ++ le 2 (u16 q.params 2) ++ le 2 ((s.streamItems x).length - u16 q.params 2) ++ zeros 2)))

/-- R302 and R303: a burst of a MEM window reads back what a burst wrote there, and leaves every byte outside it. -/
def Obligations.DataPortMemory : Prop :=
  ∀ (s : State) (a : Nat) (b : List Byte), Memory.wf s.mem = true → 0 < b.length →
    (s.storeMem .plain a b).readSpace .plain a b.length = b ∧ Memory.wf (s.storeMem .plain a b).mem = true ∧
    ∀ x, x < a ∨ a + b.length ≤ x → Memory.read (s.storeMem .plain a b).mem x = Memory.read s.mem x

/-- Spec/11: FAULT words, their queue and its handlers, the release gate, watchdogs and resets, FORCE_SAFE (R309 to R326, R331, R353). -/
def Obligations.FaultCommandsComplete : Prop :=
  (∀ (s : State) (w : FaultWord) (rest : List FaultWord), takeFirst s.flt.words = some (w, rest) → (∀ e ∈ s.flt.queue, e.merges w = false) →
      s.flt.room w.cls = true →
    ∃ t e, exec (.faultReport true) s = .next t ∧ t.flt.queue = s.flt.queue ++ [e] ∧ e.cls = w.cls ∧ e.code = w.code ∧ e.p0 = w.p0 ∧ e.p1 = w.p1 ∧
      e.state = .queued ∧ e.merged = 0 ∧ e.seq = s.flt.nextSeq ∧ t.flt.words = rest ∧
      t.flt.counts.get (clsIdx w.cls) = satAdd 0xFFFF (s.flt.counts.get (clsIdx w.cls)) 1 ∧
      ((∀ g : Grp, (s.group g).taken = [] ∧ (s.group g).held = [] ∧ (s.group g).exec = none) → ∀ k, w.cls.cause = some k → ∀ g : Grp, (t.group g).causes.has k = true)) ∧
  (∀ (s : State) (w : FaultWord) (rest : List FaultWord), takeFirst s.flt.words = some (w, rest) → (∃ e ∈ s.flt.queue, e.merges w = true) →
    ∃ t, exec (.faultReport true) s = .next t ∧ t.flt.queue.length = s.flt.queue.length ∧ t.flt.words = rest ∧ t.flt.nextSeq = s.flt.nextSeq ∧
      t.flt.counts.get (clsIdx w.cls) = satAdd 0xFFFF (s.flt.counts.get (clsIdx w.cls)) 1) ∧
  (∀ (s : State) (w : FaultWord) (rest : List FaultWord), takeFirst s.flt.words = some (w, rest) → w.island ≠ 0 → w.resent = false →
    ∃ t, exec (.faultReport false) s = .next t ∧ t.flt.queue = s.flt.queue ∧ { w with resent := true } ∈ t.flt.words) ∧
  (∀ (s : State) (k : Nat), s.flt.quietEnd = some k → k ≤ s.now →
    ∃ t, exec .quietPeriodEnd s = .next t ∧ t.flt = { s.flt with quietEnd := none, droppedInSec := 0 }) ∧
  (∀ (s : State) (e : FaultEntry), s.cmd.serving = true → s.flt.select.running = some e →
    ∃ t, exec .faultHandler s = .next t ∧ (e.cls = .C ∨ e.cls = .A ∨ e.cls = .B → ∀ x ∈ t.flt.queue, x.seq ≠ e.seq) ∧
      (∀ k, e.cls = .S → e.step = 1 → s.flt.sWeftStop = true → s.weft.running = some k → s.weft.stopping = none →
        t.weft.stopping = some { frame := s.frame, toHost := false, reason := 4, cmd := none })) ∧
  (∀ (s : State) (r : CmdRef) (q : Cmd), s.begun r = some q → q.opcode = 0x0E04 → q.params.length = 4 → zeroAt q.params [2, 3] = true →
      u8 q.params 0 ≤ 63 → 1 ≤ u8 q.params 1 → u8 q.params 1 ≤ 64 → (q.src = .can → u8 q.params 1 = 1) →
    exec (.faultRead r) s = .next (s.complete q .ok (le 1 s.flt.queue.length ++
      le 1 ((s.flt.handlerOrder.drop (u8 q.params 0)).take (u8 q.params 1)).length ++
      le 1 (match s.flt.running with | some e => e.cls.num | none => 0xFF) ++ zeros 1 ++ le 2 s.flt.holdResets ++ zeros 2 ++
      ((s.flt.handlerOrder.drop (u8 q.params 0)).take (u8 q.params 1)).flatMap fun e => e.bytes))) ∧
  (∀ s : State, s.cmd.serving = true →
    ∃ t, exec .permitRenewal s = .next t ∧ t.flt.gate.lastRenewal = s.now ∧ t.flt.gate.expired = false ∧
      t.flt.gate.closed = (s.flt.gate.closed && s.flt.forceSafe)) ∧
  (∀ s : State, s.flt.gate.expired = false → 300000 ≤ s.since s.flt.gate.lastRenewal →
    ∃ t, exec .permitExpiry s = .next t ∧ t.flt.gate.expired = true ∧ t.flt.gate.closed = true) ∧
  (∀ (s : State) (n : Isl) (ago : Nat), s.watched n = true → s.wdtTimeout n ≤ ago → s.wdtTimeout n ≤ s.since (s.flt.wdtFrom.get n) →
    ∃ t, exec (.watchdog n ago) s = .next t ∧ t.flt.wdtResets.get n = satAdd 255 (s.flt.wdtResets.get n) 1 ∧
      ∀ m, m ≠ n → t.flt.wdtResets.get m = s.flt.wdtResets.get m) ∧
  (∀ s : State, ∃ t, exec .loomReset s = .next t ∧ t.loom = Loom.reset ∧ t.weft.autoTry = true) ∧
  (∀ s : State, ∃ t, exec .serviceCoreReset s = .next t ∧ t.cmd.serving = false ∧ t.id.running = none ∧ t.id.resetAt = some s.now ∧
      ∀ k : Fin 4, t.cmd.sessions.get k = none) ∧
  (∀ s : State, ∃ t, exec .networkReset s = .next t ∧ t.wt.warp = s.wt.loc.get 4) ∧
  (∀ s : State, s.flt.forceSafe = false → s.pwr.state ≠ .off →
    ∃ t, exec .forceSafeOn s = .next t ∧ t.flt.forceSafe = true ∧ t.flt.forceSafeAt = s.now ∧
      t.flt.forceSafeCnt = satAdd 0xFFFF s.flt.forceSafeCnt 1 ∧ t.flt.gate.closed = true ∧
      (s.pwr.islandUp.get 4 = true → s.pwr.state ≠ .sleep → s.pwr.state ≠ .deep → ∀ c : ChNo, (s.chan c).cfg.safeValue = false →
        (t.chan c).mode = .off ∧ (t.chan c).output = false) ∧
      (s.driveUp = true → ∀ c : AcNo, (t.coil c).eng.run = false)) ∧
  (∀ s : State, s.flt.forceSafe = true →
    ∃ t, exec .forceSafeOff s = .next t ∧ t.flt = { s.flt with forceSafe := false } ∧
      t.rcd = (s.record 0xA121 0 (min 0xFFFFFFFF (s.since s.flt.forceSafeAt / 1000)) 0 0).rcd)

/-- Spec/12, what happens on a CAN bus: reception, errors, the bus states, sending and aborting (R338 to R350). -/
def Obligations.CanEventsComplete : Prop :=
  (∀ (s : State) (c : CanNo) (f : CanFrame) (ago sub : Nat) (k : Fin 32), s.canRuns c = true → (s.canCh c).integrating = false →
      (s.canCh c).state = .active ∨ (s.canCh c).state = .passive → (f.fdf = true → (s.canCh c).fdEn = true) → s.isCommand c f = false →
      s.isNm f = false → (s.nmCh c).state ≠ .clearing → (s.canCh c).pair f = some k → ((s.canCh c).filters.get k).action = 1 →
      bit ((s.canCh c).filters.get k).mask 29 = false → ((s.canCh c).q.get 0).items.length < 48 →
    ∃ t, exec (.canFrameReceive c f ago sub none) s = .next t ∧
      ((t.canCh c).q.get 0).items = ((s.canCh c).q.get 0).items ++
        [{ frame := f, tick := s.warp - ago, sub := sub, pair := k.1, seq := ((s.canCh c).q.get 0).seq }] ∧ ((t.canCh c).q.get 1) = (s.canCh c).q.get 1) ∧
  (∀ (s : State) (c : CanNo) (f : CanFrame) (ago sub : Nat) (k : Fin 32), s.canRuns c = true → (s.canCh c).integrating = false →
      (s.canCh c).state = .active ∨ (s.canCh c).state = .passive → (f.fdf = true → (s.canCh c).fdEn = true) → s.isCommand c f = false →
      s.isNm f = false → (s.nmCh c).state ≠ .clearing → (s.canCh c).pair f = some k → ((s.canCh c).filters.get k).action = 2 →
      bit ((s.canCh c).filters.get k).mask 29 = false → 48 ≤ ((s.canCh c).q.get 1).items.length →
    ∃ t, exec (.canFrameReceive c f ago sub none) s = .next t ∧ ((t.canCh c).q.get 1).items = ((s.canCh c).q.get 1).items ∧
      ((t.canCh c).q.get 1).drop = satAdd 0xFFFF ((s.canCh c).q.get 1).drop 1 ∧ ((t.canCh c).q.get 1).ovf = true) ∧
  (∀ (s : State) (c : CanNo) (kind : Fin 5) (inData dataField heavy : Bool) (ago : Nat) (tdcv : Option Nat), s.canRuns c = true →
      (s.canCh c).integrating = false → (s.canCh c).state = .active ∨ (s.canCh c).state = .passive → (s.canCh c).mode ≠ 2 →
    ∃ t, exec (.canError c kind inData none dataField heavy ago tdcv) s = .next t ∧ (t.canCh c).tec = (s.canCh c).tec ∧
      (t.canCh c).errLast = { kind := kind.1 + 1, inData := inData, asTx := false, tick := s.warp % 2 ^ 24 } ∧
      (t.canCh c).rec_ = min 255 ((s.canCh c).rec_ + if heavy then 8 else 1) ∧ (t.canCh c).tx = (s.canCh c).tx) ∧
  (∀ (s : State) (c : CanNo) (kind : Fin 5) (b : Fin 5) (f : CanFrame) (l : Nat) (inData heavy : Bool) (ago : Nat) (tdcv : Option Nat),
      s.canRuns c = true → (s.canCh c).integrating = false → (s.canCh c).state = .active ∨ (s.canCh c).state = .passive →
      (∀ a, ((s.canCh c).tx.get a).next = none) → ((s.canCh c).tx.get b).frame = some (f, l) → ((s.canCh c).tx.get b).abort = false →
      s.attempting c b (s.now - ago) = true →
    ∃ t, exec (.canError c kind inData (some b) false heavy ago tdcv) s = .next t ∧ (t.canCh c).tec = (s.canCh c).tec + (if heavy then 8 else 0) ∧
      (t.canCh c).errLast = { kind := kind.1 + 1, inData := inData, asTx := true, tick := s.warp % 2 ^ 24 } ∧
      (t.canCh c).rec_ = (s.canCh c).rec_ ∧ ((t.canCh c).tx.get b).frame = some (f, l) ∧
      ((t.canCh c).tx.get b).attempts = ((s.canCh c).tx.get b).attempts + 1 ∧ ∀ a, a ≠ b → (t.canCh c).tx.get a = (s.canCh c).tx.get a) ∧
  (∀ (s : State) (c : CanNo), s.canRuns c = true → (s.canCh c).integrating = false → (s.canCh c).fdEn = false → (s.canCh c).state ≠ .busOff →
    ∃ t, exec (.protocolException c) s = .next t ∧ (t.canCh c).state = .out ∧ (t.canCh c).integrating = true ∧ (t.canCh c).pexSeen = true ∧
      (t.canCh c).pexCount = satAdd 0xFFFF (s.canCh c).pexCount 1) ∧
  (∀ (s : State) (c : CanNo), (s.canCh c).state = .active → 128 ≤ (s.canCh c).tec ∨ 128 ≤ (s.canCh c).rec_ →
    ∃ t, exec (.errorPassive c) s = .next t ∧ (t.canCh c).state = .passive ∧ (t.canCh c).passiveSeen = true ∧
      t.flt = (s.fault .B 3 0x4001 (canNum c) (s.canCh c).tec (s.canCh c).rec_).flt) ∧
  (∀ (s : State) (c : CanNo), (s.canCh c).state = .passive → (s.canCh c).tec < 128 → (s.canCh c).rec_ < 128 →
    ∃ t, exec (.errorActive c) s = .next t ∧ (t.canCh c).state = .active ∧
      t.rcd = (s.record 0x4002 3 (canNum c) (s.canCh c).tec (s.canCh c).rec_).rcd) ∧
  (∀ (s : State) (c : CanNo), (s.canCh c).state = .active ∨ (s.canCh c).state = .passive → 256 ≤ (s.canCh c).tec →
    ∃ t, exec (.busOff c) s = .next t ∧ (t.canCh c).state = .busOff ∧ (t.canCh c).busoffSeen = true ∧ (t.canCh c).busoffAt = s.now ∧
      (t.canCh c).busoffCount = satAdd 0xFFFF (s.canCh c).busoffCount 1 ∧
      t.flt = (s.fault .B 3 0x4003 (canNum c) (satAdd 0xFFFF (s.canCh c).busoffCount 1) (s.canCh c).errLast.word).flt) ∧
  (∀ (s : State) (c : CanNo), (s.canCh c).state = .busOff → s.canRuns c = true → 1408 * (s.canCh c).bitNs ≤ 1000 * s.since (s.canCh c).busoffAt →
    ∃ t, exec (.busRecovered c) s = .next t ∧ (t.canCh c).state = .active ∧ (t.canCh c).tec = 0 ∧ (t.canCh c).rec_ = 0 ∧
      t.rcd = (s.record 0x4004 3 (canNum c) (min 0xFFFFFFFF (s.since (s.canCh c).busoffAt)) 0).rcd) ∧
  (∀ (s : State) (c : CanNo), s.canRuns c = true → (s.canCh c).integrating = true →
    ∃ t, exec (.busIntegrated c) s = .next t ∧ (t.canCh c).integrating = false ∧
      (t.canCh c).state = (if 128 ≤ (s.canCh c).tec ∨ 128 ≤ (s.canCh c).rec_ then .passive else .active) ∧ t.rcd = s.rcd ∧ t.flt = s.flt) ∧
  (∀ (s : State) (c : CanNo) (b : Fin 5) (id n : Nat), ((s.canCh c).tx.get b).due = some (id, n) →
    ∃ t, exec (.idclash c b) s = .next t ∧ (t.canCh c).tx.get b = { (s.canCh c).tx.get b with idClash := true, due := none } ∧
      t.flt = (s.fault .B 3 0x4005 (8 * canNum c + b.1) id n).flt) ∧
  (∀ (s : State) (c : CanNo) (b : Fin 5) (f : CanFrame) (l ago tdcv : Nat), (∀ a, ((s.canCh c).tx.get a).next = none) →
      ((s.canCh c).tx.get b).frame = some (f, l) → s.attempting c b (s.now - ago) = true → (b = 3 → (s.canCh c).waiting = [] ∧ ((s.canCh c).tx.get b).cmd = none) →
    ∃ t, exec (.canTxComplete c b ago tdcv) s = .next t ∧ ((t.canCh c).tx.get b).frame = none ∧ (t.canCh c).tec = (s.canCh c).tec - 1 ∧
      Out.can c f.id f.ide f.rtr f.fdf (f.brs && (s.canCh c).brsEn && !(f.fdf && !s.clk.refXo && !s.clk.hfoTrimmed))
        (f.fdf && decide ((s.canCh c).state = .passive)) f.dlc f.data ∈ t.out) ∧
  (∀ (s : State) (c : CanNo) (b : Fin 3) (f : CanFrame) (l : Nat), ((s.canCh c).tx.get ⟨b.1, by omega⟩).abort = true →
      ((s.canCh c).tx.get ⟨b.1, by omega⟩).frame = some (f, l) →
    ∃ t, exec (.canAbort c b) s = .next t ∧ ((t.canCh c).tx.get ⟨b.1, by omega⟩).frame = none ∧ ((t.canCh c).tx.get ⟨b.1, by omega⟩).cmd = none ∧
      ((t.canCh c).tx.get ⟨b.1, by omega⟩).abort = false)

/-- Spec/12: the CAN commands of the host and the weft's request words (R335, R340, R346 to R352, R354, R383). -/
def Obligations.CanCommandsComplete : Prop :=
  (∀ (s : State) (r : CmdRef) (q : Cmd) (c : CanNo), s.begun r = some q → q.opcode = 0x0501 → q.params.length = 20 → zeroAt q.params [1, 2, 3] = true →
      canOfNum (u8 q.params 0) = some c → timingOk (nbtMask (u32 q.params 8)) (dbtMask (u32 q.params 12)) = true →
      s.assignMoves c (ctrlMask (u32 q.params 4)) = false →
      (s.canCh c).mode = 0 ∨ (nbtMask (u32 q.params 8) = (s.canCh c).nbt ∧ dbtMask (u32 q.params 12) = (s.canCh c).dbt ∧
        tdcMask (u32 q.params 16) = (s.canCh c).tdc ∧ bits (ctrlMask (u32 q.params 4)) 2 2 = bits (s.canCh c).ctrl 2 2) →
    ∃ t, exec (.canConfig r) s = .next t ∧ (t.canCh c).ctrl = ctrlMask (u32 q.params 4) ∧ (t.canCh c).nbt = nbtMask (u32 q.params 8) ∧
      (t.canCh c).dbt = dbtMask (u32 q.params 12) ∧ (t.canCh c).tdc = tdcMask (u32 q.params 16) ∧ ∀ d, d ≠ c → (t.canCh d).nbt = (s.canCh d).nbt) ∧
  (∀ (s : State) (r : CmdRef) (q : Cmd) (c : CanNo), s.begun r = some q → q.opcode = 0x0502 → u8 q.params 3 = 0 → 1 ≤ u8 q.params 2 →
      u8 q.params 1 + u8 q.params 2 ≤ 32 → q.params.length = 4 + 8 * u8 q.params 2 → (q.src = .can → q.params.length ≤ 44) →
      canOfNum (u8 q.params 0) = some c →
    ∃ t, exec (.canFilter r) s = .next t ∧ ∀ k : Fin 32, (t.canCh c).filters.get k =
      (if u8 q.params 1 ≤ k.1 ∧ k.1 < u8 q.params 1 + u8 q.params 2 then
        { id := u32 q.params (4 + 8 * (k.1 - u8 q.params 1)), mask := u32 q.params (8 + 8 * (k.1 - u8 q.params 1)) &&& 0x3FFFFFFF }
      else (s.canCh c).filters.get k)) ∧
  (∀ (s : State) (r : CmdRef) (q : Cmd) (c : CanNo) (b : Fin 5) (f : CanFrame), s.begun r = some q → q.opcode = 0x0503 →
      canOfNum (u8 q.params 0) = some c → b.1 = u8 q.params 1 → b.1 < 3 → u8 q.params 2 ≤ 15 →
      f = CanFrame.own (u32 q.params 4) (bit (u8 q.params 2) 0) (bit (u8 q.params 2) 1) (bit (u8 q.params 2) 2) (bit (u8 q.params 2) 3)
        (u8 q.params 3) (if bit (u8 q.params 2) 1 then [] else slice q.params 8 (u8 q.params 3)) →
      q.params.length = 8 + f.data.length → (f.rtr = false → f.data.length = f.len) → f.id < (if f.ide then 2 ^ 29 else 2 ^ 11) →
      (q.src = .can → q.params.length ≤ 44) → (s.canCh c).tbWeft b = false → (s.canCh c).mode = 1 → ((s.canCh c).tx.get b).frame = none →
      (s.canCh c).loadable f = true →
    ∃ t, exec (.canSend r) s = .next t ∧ ((t.canCh c).tx.get b).frame = some (f, s.now) ∧ ((t.canCh c).tx.get b).cmd = some q.id ∧
      ∀ a, a ≠ b → (t.canCh c).tx.get a = (s.canCh c).tx.get a) ∧
  (∀ (s : State) (r : CmdRef) (q : Cmd) (c : CanNo), s.begun r = some q → q.opcode = 0x0504 → q.params.length = 4 →
      zeroAt q.params [1, 2, 3] = true → canOfNum (u8 q.params 0) = some c →
    exec (.canStatus r) s = .next (s.complete q .ok (q.params ++
      [0x10, 0x14, 0x18, 0x1C, 0x20, 0x24, 0x28].flatMap fun o => le 4 ((s.canCh c).word o)))) ∧
  (∀ (s : State) (w : ShWord) (c : CanNo) (q : Fin 2) (i : CanItem), WordAt s 2 tyData w → s.can.asm = none → s.pwr.islandUp.get 3 = true →
      pf w.payload 0 8 = 0x10 → canOfNum (pf w.payload 8 4) = some c →
      q.1 = pf w.payload 12 1 → (s.canCh c).qWeft q = true → pf w.payload 24 4 + pf w.payload 32 3 ≤ 10 → 1 ≤ pf w.payload 32 3 →
      pf w.payload 16 6 ≤ 47 → ((s.canCh c).q.get q).items[pf w.payload 16 6]? = some i →
    ∃ t, exec (.canPeek true) s = .next t ∧ t.can = s.can ∧ (t.link 2).rxSeq = (w.seq + 1) % 256 ∧ (t.link 3).words = (s.link 3).words ++
        BitVec.ofNat 64 (s.canHeader c 0x10 ((s.canCh c).q.get q).items.length (pf w.payload 32 3) 0) ::
        (List.range (pf w.payload 32 3)).map fun u => BitVec.ofNat 64 (u64 i.bytes (8 * (pf w.payload 24 4 + u)))) ∧
  (∀ (s : State) (w : ShWord) (c : CanNo) (q : Fin 2), WordAt s 2 tyData w → s.can.asm = none → s.pwr.islandUp.get 3 = true →
      pf w.payload 0 8 = 0x11 → canOfNum (pf w.payload 8 4) = some c →
      q.1 = pf w.payload 12 1 → (s.canCh c).qWeft q = true → 1 ≤ pf w.payload 16 6 → pf w.payload 16 6 ≤ 48 →
    ∃ t, exec (.canCommit true) s = .next t ∧ ((t.canCh c).q.get q).items =
      (if pf w.payload 16 6 ≤ ((s.canCh c).q.get q).items.length then ((s.canCh c).q.get q).items.drop (pf w.payload 16 6)
       else ((s.canCh c).q.get q).items)) ∧
  (∀ (s : State) (w : ShWord) (c : CanNo) (b : Fin 5) (f : CanFrame), WordAt s 2 tyData w → s.can.asm = none → s.pwr.islandUp.get 3 = true →
      pf w.payload 0 8 = 0x12 → canOfNum (pf w.payload 8 4) = some c →
      b.1 = pf w.payload 12 2 → b.1 < 3 → txWords w.payload = 0 → (s.canCh c).tbWeft b = true →
      f = CanFrame.own (pf w.payload 16 29) (decide (pf w.payload 45 1 = 1)) (decide (pf w.payload 46 1 = 1)) (decide (pf w.payload 47 1 = 1))
        (decide (pf w.payload 48 1 = 1)) (pf w.payload 49 7) [] →
      (s.canCh c).loadable f = true → (f.ide = true ∨ f.id < 2048) → s.twin.role ≠ .shadow → ((s.canCh c).tx.get b).frame = none →
    ∃ t, exec (.canTx true) s = .next t ∧ ((t.canCh c).tx.get b).frame = some (f, s.now) ∧ t.can.asm = none) ∧
  (∀ (s : State) (w : ShWord) (c : CanNo), WordAt s 2 tyData w → s.can.asm = none → s.pwr.islandUp.get 3 = true → pf w.payload 0 8 = 0x13 →
      canOfNum (pf w.payload 8 4) = some c →
    ∃ t v, exec (.canStatusRequest true) s = .next t ∧ t.can = s.can ∧ v < 256 ∧
      (t.link 3).words = (s.link 3).words ++ [BitVec.ofNat 64 (s.canHeader c 0x13 v 0 0)]) ∧
  (∀ (s : State) (w : ShWord), WordAt s 2 tyCmd w → s.can.asm = none → s.pwr.islandUp.get 3 = true →
    ∃ t, exec (.networkCmdInvalid true) s = .next t ∧ (t.link 2).rxSeq = (w.seq + 1) % 256 ∧ t.can = s.can ∧
      t.flt = s.flt ∧ t.rcd = (s.planRecord 3 0x5050 (pf w.payload 0 32) (pf w.payload 32 32) 0).rcd)

/-- Spec/13: network management of the CAN buses and TC10 sleep and wake of the Ethernet ports (R357 to R369). -/
def Obligations.NetworkManagementComplete : Prop :=
  (∀ (s : State) (c : CanNo), (s.nmCh c).state = .rpt ∨ (s.nmCh c).state = .normal →
      (s.nmCh c).sentAt = none ∨ (∃ t, (s.nmCh c).sentAt = some t ∧ 1000 * s.nm.cfg.cycle ≤ s.since t) → ((s.canCh c).tx.get 3).frame = none →
    ∃ t, exec (.nmFrameSend c) s = .next t ∧ ((t.canCh c).tx.get 3).frame = some (s.nmFrame c, s.now) ∧ (t.nmCh c).sentAt = some s.now) ∧
  (∀ (s : State) (c : CanNo), (s.nmCh c).state = .ready → 1000 * s.nm.cfg.timeout ≤ s.since (s.nmCh c).timeoutAt →
    ∃ t, exec (.nmTimeout c) s = .next t ∧ (t.nmCh c).state = .clearing ∧ (t.nmCh c).since = s.now ∧ t.can = s.can) ∧
  (∀ (s : State) (c : CanNo), (s.nmCh c).state = .rpt → 1000 * s.nm.cfg.rptTime ≤ s.since (s.nmCh c).since →
    ∃ t, exec (.repeatEnd c) s = .next t ∧ (t.nmCh c).state = (if s.ownRequest c then .normal else .ready)) ∧
  (∀ (s : State) (c : CanNo), (s.nmCh c).state = .clearing → 1000 * s.nm.cfg.tClear ≤ s.since (s.nmCh c).since →
    ∃ t, exec (.nmSleep c) s = .next t ∧ (t.nmCh c).state = .busSleep ∧ (t.canCh c).state = .out ∧ (t.canCh c).integrating = false ∧
      t.rcd = (s.record 0x4020 3 (canNum c) (min 0xFFFFFFFF (s.since (s.nmCh c).awakeSince / 1000000)) 0).rcd) ∧
  (∀ (s : State) (c : CanNo), s.nm.cfg.enabled c = true → s.nm.cfg.selective c = none → (s.nmCh c).state = .busSleep → s.asleep = false →
      s.pwr.state = .run ∨ s.pwr.state = .idle →
    ∃ t, exec (.canWakeDetect c .pattern) s = .next t ∧ (t.nmCh c).state = .listen ∧ (t.nmCh c).cause = 1 ∧
      t.rcd = (s.record 0x4021 3 (canNum c) 1 0).rcd) ∧
  (∀ (s : State) (c : CanNo), s.nm.cfg.enabled c = true → (s.nm.cfg.selective c).isSome = true → (s.nmCh c).state = .busSleep →
    ∃ t, exec (.canWakeDetect c .bad) s = .next t ∧ (t.nmCh c).errCount = min 32 ((s.nmCh c).errCount + 1) ∧ (t.nmCh c).state = .busSleep) ∧
  (∀ (s : State) (c : CanNo), 32 ≤ (s.nmCh c).errCount → (s.nmCh c).state = .busSleep → s.asleep = false →
      s.pwr.state = .run ∨ s.pwr.state = .idle →
    ∃ t, exec (.wufErrwake c) s = .next t ∧ (t.nmCh c).state = .listen ∧ (t.nmCh c).errCount = 0 ∧
      t.rcd = ((s.record 0x4021 3 (canNum c) 2 0).record 0x4026 3 (canNum c) 0 0).rcd) ∧
  (∀ (s : State) (c : CanNo), (s.nmCh c).state = .listen → 1000 * s.nm.cfg.falseWakeT ≤ s.since (s.nmCh c).since →
    ∃ t, exec (.falseWake c) s = .next t ∧ (t.nmCh c).state = .clearing ∧ t.nm.falseWake = true ∧
      t.nm.falseWakes = satAdd 0xFFFF s.nm.falseWakes 1 ∧ t.rcd = (s.record 0x4023 3 (canNum c) (s.nmCh c).cause 0).rcd) ∧
  (∀ (s : State) (c : CanNo) (k : Nat), (s.nmCh c).host = some k → s.nm.cfg.maxAwake ≠ 0 → 1000000 * s.nm.cfg.maxAwake ≤ s.since k →
    ∃ t, exec (.maxAwake c) s = .next t ∧ t.nm.maxAwake = true ∧ t.flt = (s.fault .B 3 0x4024 (s.since k / 1000000) 0 0).flt ∧
      ∀ d, (t.nmCh d).host = (if (s.nmCh d).host = some k then none else (s.nmCh d).host)) ∧
  (∀ (s : State) (c : CanNo), (s.nmCh c).state = .ready → (s.nmCh c).keeperSaid = false → 1000000 * s.nm.cfg.keepLimit ≤ s.since (s.nmCh c).since →
    ∃ t, exec (.nmKeeper c) s = .next t ∧ (t.nmCh c).keeperSaid = true ∧ t.nm.keeper = true ∧
      t.rcd = (s.record 0x4025 3 (canNum c) (s.nmCh c).lastNode (s.nmCh c).heard.length).rcd) ∧
  (∀ (s : State) (r : CmdRef) (q : Cmd), s.begun r = some q → q.opcode = 0x0505 → zeroAt q.params [0, 1, 2, 3] = true → q.params.length = 32 →
      timing1Ok (u32 q.params 12) = true → timing2Ok (u32 q.params 16) = true → timing3Ok (u32 q.params 20) = true →
      u32 q.params 24 % 2 ^ 17 ≤ 86400 → (∀ c, (s.nmCh c).state = .off ∨ (s.nmCh c).state = .busSleep) →
    ∃ t, exec (.nmConfig r) s = .next t ∧ t.nm.cfg =
      { config := nmConfigMask (u32 q.params 4), baseId := nmBaseMask (u32 q.params 8), timing1 := u32 q.params 12, timing2 := u32 q.params 16,
        timing3 := u32 q.params 20, maxAwake := u32 q.params 24 % 2 ^ 17, user := u32 q.params 28, sw := s.nm.cfg.sw }) ∧
  (∀ (s : State) (r : CmdRef) (q : Cmd) (l : List CanNo) (c : CanNo), s.begun r = some q → q.opcode = 0x0506 → u8 q.params 0 = 1 →
      q.params.length = 4 → zeroAt q.params [2, 3] = true → s.nmNamed (u8 q.params 1) = some l → c ∈ l →
    ∃ t, exec (.nmRequest r) s = .next t ∧ (t.nmCh c).host = some s.now ∧ (t.nmCh c).rptBit = false ∧
      ((s.nmCh c).state = .busSleep → (t.nmCh c).state = .rpt ∧ (t.nmCh c).activeWake = true) ∧
      ((s.nmCh c).state = .ready → (t.nmCh c).state = .normal)) ∧
  (∀ (s : State) (r : CmdRef) (q : Cmd) (l : List CanNo) (c : CanNo), s.begun r = some q → q.opcode = 0x0506 → u8 q.params 0 = 2 →
      q.params.length = 4 → zeroAt q.params [2, 3] = true → s.nmNamed (u8 q.params 1) = some l → c ∈ l →
    ∃ t, exec (.nmRequestRepeat r) s = .next t ∧ (t.nmCh c).host = some s.now ∧ (t.nmCh c).rptBit = true ∧
      ((s.nmCh c).state = .ready ∨ (s.nmCh c).state = .normal → (t.nmCh c).state = .rpt)) ∧
  (∀ (s : State) (r : CmdRef) (q : Cmd) (l : List CanNo) (c : CanNo), s.begun r = some q → q.opcode = 0x0506 → u8 q.params 0 = 0 →
      q.params.length = 4 → zeroAt q.params [2, 3] = true → s.nmNamed (u8 q.params 1) = some l → c ∈ l →
    ∃ t, exec (.nmRelease r) s = .next t ∧ (t.nmCh c).host = none ∧ (t.nmCh c).rptBit = false ∧ ∀ d, d ∉ l → t.nmCh d = s.nmCh d) ∧
  (∀ (s : State) (p : PortNo), s.tc10Ready = true → s.nm.cfg.ethSleep p = true → (s.port p).link = .up → (s.port p).asked = false →
    ∃ t, exec (.tc10SleepRequest p) s = .next t ∧ (t.port p).link = .requested ∧ (t.port p).asked = true ∧
      t.out = .tc10Sleep (portNum p) :: s.out) ∧
  (∀ (s : State) (p : PortNo), (s.port p).link = .requested →
    ∃ t u, exec (.tc10SleepAcknowledge p true) s = .next t ∧ (t.port p).link = .asleep ∧ t.rcd = (s.record 0x5040 3 (portNum p) 0 0).rcd ∧
      exec (.tc10SleepAcknowledge p false) s = .next u ∧ (u.port p).link = (if s.pwr.entering then .down else .up) ∧ u.rcd = s.rcd) ∧
  (∀ (s : State) (p : PortNo), s.tc10Ready = true → s.nm.cfg.ethSleep p = true → (s.port p).link = .up ∨ (s.port p).link = .requested →
    ∃ t, exec (.tc10SleepReceive p) s = .next t ∧ (t.port p).link = .asleep ∧ t.rcd = (s.record 0x5040 3 (portNum p) 1 0).rcd) ∧
  (∀ (s : State) (p : PortNo), (s.port p).link = .asleep → s.asleep = false → s.pwr.state = .run ∨ s.pwr.state = .idle → s.nm.cfg.ethFwd = false →
    ∃ t, exec (.tc10Wake p) s = .next t ∧ (t.port p).link = .up ∧ (t.port p).upAt = s.now ∧
      t.rcd = ((s.record 0x5041 3 (portNum p) 0 0).record 0x5001 3 (portNum p) 0 0).rcd)

/-- Spec/14: the Ethernet switch, gPTP, the module's address and the CAN tunnel (R372 to R382). -/
def Obligations.EthernetComplete : Prop :=
  (∀ (s : State) (p : PortNo) (frame : List Byte), s.etherRuns = true → s.portOpen p.sw = true → ethFrameOk frame = false →
    ∃ t, exec (.ethFrameReceive p frame) s = .next t ∧ t.eth.rxErr.get p.sw = satAdd 0xFFFF (s.eth.rxErr.get p.sw) 1 ∧
      t.out = s.out ∧ t.eth.macs = s.eth.macs) ∧
  (∀ (s : State) (p o : PortNo) (frame : List Byte) (f : EthFrame), s.etherRuns = true → s.portOpen p.sw = true → s.portOpen o.sw = true → o ≠ p →
      ethFrameOk frame = true → f = parseEth (frame.take (frame.length - 4)) → linkLocal f.dst = false → f.dst % 2 = 0 → s.eth.vlanEn = false →
      (s.eth.learn f.src (portNum p) s.now).known f.dst = some (portNum o) →
      (∀ x, (s.eth.outs.get x).waiting = [] ∧ (s.eth.outs.get x).freeAt ≤ 1000 * s.now) →
    ∃ t, exec (.ethFrameReceive p frame) s = .next t ∧ t.out = .eth o.sw.1 (pcpQueue f.pcp) f.bytes :: s.out ∧
      t.eth.macs = (s.eth.learn f.src (portNum p) s.now).macs ∧
      t.eth.outs.get o.sw = { waiting := [], freeAt := 1000 * s.now + wireNs (f.bytes.length + 4) } ∧
      ∀ x, x ≠ o.sw → t.eth.outs.get x = s.eth.outs.get x) ∧
  (∀ (s : State) (p o : PortNo) (frame : List Byte) (f : EthFrame), s.etherRuns = true → s.portOpen p.sw = true → s.portOpen o.sw = true → o ≠ p →
      ethFrameOk frame = true → f = parseEth (frame.take (frame.length - 4)) → linkLocal f.dst = false → f.dst % 2 = 0 → s.eth.vlanEn = false →
      (s.eth.learn f.src (portNum p) s.now).known f.dst = some (portNum o) → (∀ x, 1000 * s.now < (s.eth.outs.get x).freeAt) →
    ∃ t, exec (.ethFrameReceive p frame) s = .next t ∧ t.out = s.out ∧
      (if (s.eth.outs.get o.sw).room (pcpQueue f.pcp) (f.bytes.length + 4) = true then
        t.eth.egressDrop = s.eth.egressDrop ∧ (t.eth.outs.get o.sw).waiting = (s.eth.outs.get o.sw).waiting ++
          [{ queue := pcpQueue f.pcp, len := f.bytes.length + 4, frame := f.bytes }]
      else t.eth.outs = s.eth.outs ∧ t.eth.egressDrop.get o.sw = satAdd 0xFFFF (s.eth.egressDrop.get o.sw) 1)) ∧
  (∀ (s : State) (addr : Nat), ∃ t, exec (.macAgeOut addr) s = .next t ∧
    ∀ m, m ∈ t.eth.macs ↔ m ∈ s.eth.macs ∧ (m.addr ≠ addr ∨ s.since m.at_ < 1000000 * s.eth.aging)) ∧
  (∀ s : State, 256 ≤ s.eth.macs.length → s.eth.fullAt = none →
    ∃ t, exec .macTableFull s = .next t ∧ t.eth = { s.eth with flooded := 0, fullAt := some s.now } ∧
      t.rcd = (s.record 0x5010 3 s.eth.flooded 0 0).rcd) ∧
  (∀ (s : State) (p : PortNo), s.etherRuns = true → (s.port p).link = .down →
    ∃ t, exec (.linkUp p) s = .next t ∧ (t.port p).link = .up ∧ (t.port p).upAt = s.now ∧ t.rcd = (s.record 0x5001 3 (portNum p) 0 0).rcd ∧
      ∀ o, o ≠ p → t.port o = s.port o) ∧
  (∀ (s : State) (p : PortNo), (s.port p).link = .up ∨ (s.port p).link = .requested →
    ∃ t, exec (.linkDown p) s = .next t ∧ (t.port p).link = .down ∧ (t.port p).loss = true ∧
      t.flt = (s.fault .B 3 0x5002 (portNum p) (min 0xFFFFFFFF (s.since (s.port p).upAt / 1000000)) 0).flt) ∧
  (∀ (s : State) (p : PortNo) (ns : Nat), s.etherRuns = true → s.portOpen p.sw = true → 1000000 ≤ s.since (s.port p).pdelayAt →
    ∃ t, exec (.pdelayMeasure p ns) s = .next t ∧ (t.port p).pdelay = min 0xFFFF ns ∧ (t.port p).pdelayAt = s.now ∧
      t.out = .ptp (portNum p) 2 0 :: s.out) ∧
  (∀ (s : State) (p : PortNo) (gmId : Nat), s.etherRuns = true → s.portOpen p.sw = true → (s.port p).gptp ≠ 2 → s.bestMaster p = some gmId →
    ∃ t, exec (.gptpSync p) s = .next t ∧ (t.port p).gptp = 2 ∧ t.eth.synced = true ∧ t.clk.avail.get 5 = true ∧
      ∀ o, o ≠ p → (t.port o).gptp = (if s.portOpen o.sw then 1 else 0)) ∧
  (∀ (s : State) (p : PortNo) (next : Fin 4), s.eth.synced = true → (s.port p).gptp = 2 → next ≠ 2 →
    ∃ t, exec (.gptpLost p next) s = .next t ∧ (t.port p).gptp = next.1 ∧ t.eth.synced = false ∧ t.clk.avail.get 5 = false ∧
      t.wt.phaseOk = false ∧ t.wt.offset = 0) ∧
  (∀ s : State, s.cmd.serving = true → s.eth.ipActive = 0 → s.eth.dhcpEn = false → s.eth.ipAddr ≠ 0 →
    ∃ t, exec (.ipAddress none none) s = .next t ∧ t.eth.ipActive = s.eth.ipAddr ∧ t.eth.actMask = s.eth.ipMask ∧
      t.eth.actGateway = s.eth.ipGateway ∧ t.rcd = (s.record 0x5011 3 s.eth.ipAddr 0 0).rcd) ∧
  (∀ (s : State) (l : Lease), s.cmd.serving = true → s.eth.ipActive = 0 → s.eth.dhcpEn = true →
    ∃ t, exec (.ipAddress (some l) none) s = .next t ∧ t.eth.ipActive = l.addr ∧ t.eth.leaseEnd = s.now + 1000000 * l.secs ∧
      t.rcd = (s.record 0x5011 3 l.addr 1 l.secs).rcd) ∧
  (∀ (s : State) (n : Nat), s.dhcpDue = true → s.eth.leaseHalf ≤ s.now →
    ∃ t, exec (.dhcpRenewal (some n) none) s = .next t ∧ t.eth = { s.eth with leaseEnd := s.now + 1000000 * n, leaseHalf := s.now + 500000 * n } ∧
      t.out = .dhcp 3 :: s.out) ∧
  (∀ s : State, s.dhcpDue = true → s.eth.leaseEnd ≤ s.now →
    ∃ t, exec (.dhcpLeaseLost none) s = .next t ∧ t.eth.ipActive = 0 ∧ t.out = .dhcp 1 :: s.out) ∧
  (∀ (s : State) (c : CanNo) (x : TunFrame) (rest : List TunFrame), s.etherRuns = true → (s.eth.tun.get c).frames = x :: rest →
      bits (s.eth.tun.get c).ctrl 4 7 = 0 → x.at_ ≤ s.now →
    ∃ t, exec (.tunnelAvtpduClose c) s = .next t ∧ (t.eth.tun.get c).frames = rest ∧
      (t.eth.tun.get c).seq = ((s.eth.tun.get c).seq + 1) % 256 ∧ (t.eth.tun.get c).sent = ((s.eth.tun.get c).sent + 1) % 65536)

/-- Spec/14: the Modbus bridge, its transactions and its locks (R384 to R394). -/
def Obligations.FarTransactionsComplete : Prop :=
  (∀ (s : State) (p : FarNo) (f : Far) (rest : List Far) (first : Bool), (s.farPort p).current = none → s.pwr.islandUp.get 3 = true →
      s.pwr.domains.get 4 = true → s.farQuiet p = true → s.twin.role ≠ .shadow →
      (if first then (s.farPort p).pick (s.farPort p).ahead = some (f, rest) else
        (s.farPort p).pick (s.farPort p).ahead = none ∧ (s.farPort p).pick (s.farPort p).withLate.queue = some (f, rest)) →
    ∃ t o, exec (.farTransactionStart p) s = .next t ∧ (if first then (t.farPort p).ahead else (t.farPort p).queue) = rest ∧
      (t.farPort p).current = some o ∧
      o.far = { f with attempts := f.attempts + 1, waitFrom := none } ∧
      o.endAt = s.now + lineTime (s.farPort p).line (f.pdu.length + 3) ∧ o.line = (s.farPort p).line ∧ o.timing = (s.farPort p).timing ∧
      t.out = .rs485 (farNum p) (le 1 f.unit ++ f.pdu ++ modbusCrc (le 1 f.unit ++ f.pdu)) :: s.out) ∧
  (∀ (s : State) (p : FarNo) (frame : List Byte) (e : Bool), s.pwr.islandUp.get 3 = true → s.pwr.domains.get 4 = true →
      (s.farPort p).current = none →
    ∃ t, exec (.modbusFrameReceive p frame e) s = .next t ∧ (t.farPort p).stray = satAdd 0xFFFF (s.farPort p).stray 1) ∧
  (∀ (s : State) (p : FarNo) (frame b : List Byte) (o : FarOpen), s.pwr.islandUp.get 3 = true → s.pwr.domains.get 4 = true →
      (s.farPort p).current = some o → 2 ≤ b.length → frame = b ++ modbusCrc b → u8 b 0 = o.far.unit → u8 b 1 = o.far.function + 0x80 →
    ∃ t, exec (.modbusFrameReceive p frame false) s = .next t ∧ (t.farPort p).current = none ∧
      (t.farPort p).exceptions = satAdd 0xFFFF (s.farPort p).exceptions 1 ∧
      t.flt = (s.fault .B 3 0x5060 (farNum p) (256 * o.far.unit + o.far.function) (u8 b 2)).flt) ∧
  (∀ (s : State) (p : FarNo) (o : FarOpen), (s.farPort p).current = some o → o.far.unit ≠ 0 → o.endAt + o.respTimeout ≤ s.now →
      o.far.kind = .read → o.far.attempts ≤ (s.farPort p).retries → s.farQuiet p = true →
    ∃ t x, exec (.farTimeout p) s = .next t ∧ (t.farPort p).current = some x ∧ x.far.attempts = o.far.attempts + 1 ∧ x.far.pdu = o.far.pdu ∧
      (t.farPort p).timeouts = (s.farPort p).timeouts) ∧
  (∀ (s : State) (p : FarNo) (o : FarOpen), (s.farPort p).current = some o → o.far.unit ≠ 0 → o.endAt + o.respTimeout ≤ s.now →
      o.far.kind ≠ .read ∨ (s.farPort p).retries < o.far.attempts →
    ∃ t, exec (.farTimeout p) s = .next t ∧ (t.farPort p).current = none ∧ (t.farPort p).timeouts = satAdd 0xFFFF (s.farPort p).timeouts 1 ∧
      t.flt = (s.fault .B 3 0x5061 (farNum p) (256 * o.far.unit + o.far.function) o.far.attempts).flt) ∧
  (∀ (s : State) (p : FarNo) (o : FarOpen), (s.farPort p).current = some o → o.far.unit = 0 → o.endAt + o.turnaround ≤ s.now →
    ∃ t, exec (.farTurnaroundEnd p) s = .next t ∧ (t.farPort p).current = none ∧ t.flt = s.flt) ∧
  (∀ (s : State) (p : FarNo) (f : Far) (rest : List Far) (k id : Nat) (c : Cmd), (s.farPort p).ahead = [] →
      (s.farPort p).queue = f :: rest → f.waitFrom = some k →
      (s.farPort p).heddleWait ≤ s.since k → f.held = false → f.kind = .write → f.cmd = some id → s.cmd.findCmd id = some c → c.posted = false →
    exec (.heddleWaitExpiry p) s = .next ((s.onFarPort p fun x => FarPort.fillItem { x with queue := rest } p f 0 []).complete c .locked [])) ∧
  (∀ (s : State) (p : FarNo) (l : FarLock), (s.farPort p).lock = some l → (s.farPort p).lockTimeout ≤ s.since l.at_ →
    ∃ t, exec (.lockExpired p) s = .next t ∧ (t.farPort p).lock = none ∧
      (t.farPort p).lostBy = (s.farPort p).lostBy ++ [(l.src, l.group)] ∧
      t.flt = (s.fault .B 3 0x5063 (farNum p) (if l.heddle then 1 else 0) l.who).flt) ∧
  (∀ (s : State) (r : CmdRef) (q : Cmd) (p : FarNo) (f : Far), s.begun r = some q → q.opcode = 0x0D01 → farOfNum (u8 q.params 0) = some p →
      farReadOk q = true → s.lockGone p q = false → s.farEnters p q = true →
      f = q.far .read (u8 q.params 1) (farReadPdu q.params) → u8 q.params 3 = 0 →
    ∃ t, exec (.farRead r) s = .next t ∧
      (t.farPort p).queue = (s.farPort p).queue ++ [if (s.farPort p).blocks f then { f with waitFrom := some s.now } else f]) ∧
  (∀ (s : State) (r : CmdRef) (q : Cmd) (p : FarNo), s.begun r = some q → q.opcode = 0x0D01 → farOfNum (u8 q.params 0) = some p →
      farReadOk q = true → s.lockGone p q = false → s.farEnters p q = true → u8 q.params 3 = 1 → (s.farPort p).items.length < 8 →
    ∃ t, exec (.farRead r) s = .next t ∧ (t.farPort p).queue.length = (s.farPort p).queue.length + 1 ∧
      (t.farPort p).items = (s.farPort p).items ++ [{ seq := (s.farPort p).seq, bytes := none }] ∧
      (t.farPort p).seq = ((s.farPort p).seq + 1) % 256) ∧
  (∀ (s : State) (r : CmdRef) (q : Cmd) (p : FarNo) (f : Far), s.begun r = some q → q.opcode = 0x0D02 → farOfNum (u8 q.params 0) = some p →
      farWriteOk q = true → s.lockGone p q = false → s.farEnters p q = true → f = q.far .write (u8 q.params 1) (farWritePdu q.params) →
    ∃ t, exec (.farWrite r) s = .next t ∧
      (t.farPort p).queue = (s.farPort p).queue ++ [if (s.farPort p).blocks f then { f with waitFrom := some s.now } else f]) ∧
  (∀ (s : State) (r : CmdRef) (q : Cmd) (p : FarNo) (f : Far), s.begun r = some q → q.opcode = 0x0D03 → farOfNum (u8 q.params 0) = some p →
      q.params.length = 4 → zeroAt q.params [2, 3] = true → 1 ≤ u8 q.params 1 → u8 q.params 1 ≤ 247 → (s.farPort p).heddleMode = false →
      s.farEnters p q = true →
      f = { q.far .lockWrite (u8 q.params 1) (le 1 6 ++ be 2 (bits (s.farPort p).opts 16 16) ++ be 2 ((s.farPort p).ownerCode q)) with
        tag := (s.farPort p).ownerCode q } →
    ∃ t, exec (.farLock r) s = .next t ∧
      (t.farPort p).lock = (s.farPort p).lock ∧
      (t.farPort p).queue = (s.farPort p).queue ++ [if (s.farPort p).blocks f then { f with waitFrom := some s.now } else f]) ∧
  (∀ (s : State) (r : CmdRef) (q : Cmd) (p : FarNo), s.begun r = some q → q.opcode = 0x0D03 → farOfNum (u8 q.params 0) = some p →
      q.params.length = 4 → zeroAt q.params [1, 2, 3] = true → (s.farPort p).heddleMode = true → (s.farPort p).lock = none → (s.farPort p).queue = [] →
    exec (.farLock r) s = .next ((s.onFarPort p fun k =>
      { k with lock := some { heddle := true, src := q.src, group := q.group, unit := 0, at_ := s.now }
               lostBy := k.lostBy.filter fun x => x.2 != q.group }).complete q .ok
      (le 1 (farNum p) ++ le 1 1 ++ zeros 2 ++ le 4 (s.warp + (s.farPort p).lockTimeout)))) ∧
  (∀ (s : State) (r : CmdRef) (q : Cmd) (p : FarNo) (l : FarLock), s.begun r = some q → q.opcode = 0x0D04 → farOfNum (u8 q.params 0) = some p →
      q.params.length = 4 → zeroAt q.params [1, 2, 3] = true → (s.farPort p).lock = some l → l.src = q.src → l.group = q.group → l.heddle = false →
      s.farEnters p q = true →
    ∃ t, exec (.farUnlock r) s = .next t ∧ (t.farPort p).lock = some l ∧
      (t.farPort p).queue = (s.farPort p).queue ++ [q.far .unlock l.unit (s.farPort p).releasePdu]) ∧
  (∀ (s : State) (r : CmdRef) (q : Cmd) (p : FarNo) (l : FarLock), s.begun r = some q → q.opcode = 0x0D04 → farOfNum (u8 q.params 0) = some p →
      q.params.length = 4 → zeroAt q.params [1, 2, 3] = true → (s.farPort p).lock = some l → l.src = q.src → l.group = q.group → l.heddle = true →
    exec (.farUnlock r) s = .next ((s.onFarPort p fun k => { k.noWait with lock := none }).complete q .ok
      (le 1 (farNum p) ++ le 1 1 ++ zeros 2)))

/-- Spec/15: the frames of the twin link, pairing and the mirror on the shadow (R397 to R410, R416). -/
def Obligations.TwinFramesComplete : Prop :=
  (∀ s : State, s.twin.linkUp = false → s.clk.i8Run = true → 3 ≤ s.twin.valid →
    ∃ t, exec .twinLinkUp s = .next t ∧ t.twin.linkUp = true ∧ t.twin.heardAt = s.now ∧ t.twin.cable = true ∧
      (s.twin.en = true → s.twin.pair ≠ .paired → s.twin.holdEnd = none → t.twin.pair = .pairing ∧ t.twin.hello = none ∧ t.twin.attested = false)) ∧
  (∀ (s : State) (detached : Bool), s.twin.linkUp = true → 3000 ≤ s.since s.twin.heardAt ∨ s.beatsMissed = true →
    ∃ t, exec (.twinLinkDown detached) s = .next t ∧ t.twin.linkUp = false ∧ t.twin.fly = [] ∧
      (s.twin.pair = .paired → t.twin.pair = (if s.twin.role = .lead ∧ detached = true then .lone else .broken))) ∧
  (∀ (s : State) (seq : Nat) (x : TwinFly), (s.twin.fly.find? fun x => x.seq == seq) = some x → 50 ≤ s.since x.sentAt → x.repeats < 3 →
    ∃ t, exec (.twinRetransmit seq) s = .next t ∧ t.out = .twin (twinBytes x.typ true x.epoch x.seq x.payload) :: s.out ∧
      t.twin = { s.twin with fly := s.twin.fly.map fun y => if y.seq = seq then { y with sentAt := s.now, repeats := y.repeats + 1 } else y }) ∧
  (∀ s : State, s.mirrors = true → (∃ x ∈ s.twin.fly, x.msn.isSome = true ∧ 3000 ≤ s.since x.firstAt) →
    ∃ t, exec .mirrorAckTimeout s = .next t ∧ t.twin.linkUp = false ∧ t.twin.pair = .broken ∧ t.twin.fly = []) ∧
  (∀ (s : State) (f p : List Byte) (h : Hello), s.twin.linkUp = true → s.clk.i8Run = true → s.twin.frameOk f = true → u8 f 0 = 0x01 →
      p = slice f 12 (u16 f 2) → s.mayPair = true → s.twin.pair = .pairing → s.twin.hello = none →
      h = { side := u8 p 0 == 1, running := u8 p 1 == 1, proto := u16 p 2, serial := slice p 4 8, nonce := slice p 12 16, check := slice p 28 16 } →
    ∃ t, exec (.twinHello f) s = .next t ∧ t.twin.partner = slice p 4 8 ∧
      (match s.helloReason h with
        | none => t.twin.hello = some h ∧ t.twin.pair = .pairing
        | some n => t.rcd = (s.record 0x6002 8 n (u32 (slice p 4 8) 0) 0).rcd ∧ t.twin.retryAt = some (s.now + 10000000))) ∧
  (∀ (s : State) (f p : List Byte) (h : Hello), s.twin.linkUp = true → s.clk.i8Run = true → s.twin.frameOk f = true → u8 f 0 = 0x02 →
      p = slice f 12 (u16 f 2) → s.twin.hello = some h → s.twin.pair = .pairing → s.twin.attested = false →
    ∃ t, exec (.twinAttest f) s = .next t ∧
      (if attestOk p s.twin.nonce = true then
        t.twin.attested = true ∧ (if s.becomesLead h = true then t.twin.role = .lead ∧ t.twin.driven = true ∧ t.twin.agreed = true ∧
          t.twin.epoch = nextEpoch s.twin.epoch else t.twin.role = s.twin.role)
      else t.rcd = (s.record 0x6002 8 4 (u32 s.twin.partner 0) 0).rcd ∧ t.twin.retryAt = some (s.now + 10000000))) ∧
  (∀ (s : State) (f p : List Byte), s.twin.linkUp = true → s.clk.i8Run = true → s.twin.frameOk f = true → u8 f 0 = 0x03 →
      p = slice f 12 (u16 f 2) → s.twin.pair = .pairing → s.twin.attested = true → (∀ h, s.twin.hello = some h → s.becomesLead h = false) →
    ∃ t, exec (.twinPaired f) s = .next t ∧ t.twin.role = .shadow ∧ t.twin.epoch = u32 p 0 ∧ t.twin.agreed = true ∧ t.twin.stored = 0) ∧
  (∀ (s : State) (f p : List Byte) (leadRuns : Bool), s.twin.linkUp = true → s.clk.i8Run = true → s.twin.frameOk f = true → u8 f 0 = 0x04 →
      p = slice f 12 (u16 f 2) → s.twin.role = .shadow → s.twin.agreed = true → s.twin.weftRx = none → (p.drop 12).length < u32 p 4 →
    ∃ t, exec (.twinWeft f leadRuns) s = .next t ∧ t.weft = s.weft ∧
      t.twin.weftRx = some { area := u8 p 0, length := u32 p 4, parts := [(u32 p 8, p.drop 12)] }) ∧
  (∀ (s : State) (f p : List Byte) (leadRuns : Bool), s.twin.linkUp = true → s.clk.i8Run = true → s.twin.frameOk f = true → u8 f 0 = 0x04 →
      p = slice f 12 (u16 f 2) → s.twin.role = .shadow → s.twin.agreed = true → s.twin.weftRx = none → u32 p 8 = 0 → u32 p 4 ≤ (p.drop 12).length →
      checkHeader (p.drop 12) = .ok () →
    ∃ t, exec (.twinWeft f leadRuns) s = .next t ∧ t.twin.weftRx = none ∧
      (match s.checkWeft (p.drop 12) with
        | .ok w => t.weft.store.get (slotOf w.layout) = some w
        | .error _ => t.weft.store = s.weft.store)) ∧
  (∀ (s : State) (f p : List Byte) (ofs : Int), s.twin.linkUp = true → s.clk.i8Run = true → s.twin.frameOk f = true → u8 f 0 = 0x10 →
      p = slice f 12 (u16 f 2) → u8 p 8 = 1 → s.twin.role = .shadow → s.twin.agreed = true →
    ∃ t, exec (.twinHeartbeat f ofs) s = .next t ∧ t.twin.lead = p.drop 16 ∧ t.twin.warpOfs = ofs ∧ t.twin.released = (u8 p 9 == 1) ∧ t.twin.peerRole = 1 ∧
      t.wt.warp = (if s.twin.pair = .pairing ∧ s.weftActive = false then
        s.wt.warp + (BitVec.ofNat 64 (1000 * u64 p 0) - BitVec.ofNat 64 (1000 * s.frame)) else s.wt.warp)) ∧
  (∀ (s : State) (f p : List Byte) (g : Grp), s.twin.linkUp = true → s.clk.i8Run = true → s.twin.frameOk f = true → u8 f 0 = 0x20 →
      p = slice f 12 (u16 f 2) → s.twin.role = .shadow → s.twin.agreed = true → s.twin.pair = .pairing ∨ s.twin.pair = .paired →
      u32 p 0 = (s.twin.stored + 1) % 2 ^ 32 → u8 p 4 = 0 → u8 p 5 = g.1 →
    ∃ t, exec (.twinMirror f) s = .next t ∧ t.twin.stored = u32 p 0 ∧ t.twin.pair = .paired ∧ t.twin.mirror = s.twin.mirror ++
      [{ group := g, tag := u16 p 6, keyId := slice p 8 8, body := p.drop 16, begun := false, failed := false }]) ∧
  (∀ (s : State) (f p : List Byte), s.twin.linkUp = true → s.clk.i8Run = true → s.twin.frameOk f = true → u8 f 0 = 0x21 →
      p = slice f 12 (u16 f 2) → s.twin.role = .shadow → s.twin.agreed = true → s.twin.pair = .pairing ∨ s.twin.pair = .paired →
      u32 p 0 = (s.twin.stored + 1) % 2 ^ 32 → u16 p 4 = 1 → p.length = 20 → crc8 (slice p 8 8) = u8 p 16 → u32 p 8 % 4 = 0 →
      0x21000100 ≤ u32 p 8 → u32 p 8 < 0x21000200 → Memory.wf s.mem = true →
    ∃ t, exec (.twinConfigFrame f) s = .next t ∧ t.twin.stored = u32 p 0 ∧ t.twin.pair = .paired ∧
      Memory.readBytes t.mem (u32 p 8) 4 = slice p 12 4 ∧
      ∀ a, a < u32 p 8 ∨ u32 p 8 + 4 ≤ a → Memory.read t.mem a = Memory.read s.mem a) ∧
  (∀ (s : State) (f p : List Byte), s.twin.linkUp = true → s.clk.i8Run = true → s.twin.frameOk f = true → u8 f 0 = 0x30 →
      p = slice f 12 (u16 f 2) → s.twin.pair = .paired → u16 p 4 = 1 → p.length = 14 → u16 p 8 < 1024 → Memory.wf s.mem = true →
    ∃ t, exec (.twinLoomData f) s = .next t ∧ Memory.readBytes t.mem (0x1000F000 + 4 * u16 p 8) 4 = slice p 10 4 ∧
      Memory.readBytes t.mem 0x1000EFFC 4 = slice p 0 4 ∧
      ∀ a, a < 0x1000EFFC ∨ 0x10010000 ≤ a → Memory.read t.mem a = Memory.read s.mem a) ∧
  (∀ (s : State) (f p : List Byte) (x : TwinFly), s.twin.linkUp = true → s.clk.i8Run = true → s.twin.frameOk f = true → u8 f 0 = 0x7E →
      p = slice f 12 (u16 f 2) → (s.twin.fly.find? fun x => x.seq == u32 p 0) = some x →
    ∃ t, exec (.twinAck f) s = .next t ∧ t.twin.acked = (match x.msn with | some m => max m s.twin.acked | none => s.twin.acked) ∧
      (s.mirrors = false → t.twin.fly = s.twin.fly.filter fun y => y.seq != u32 p 0)) ∧
  (∀ (s : State) (f : List Byte), s.twin.linkUp = true → s.clk.i8Run = true → s.twin.frameOk f = true → u8 f 0 = 0x7F →
    ∃ t, exec (.twinRelease f) s = .next t ∧ t.twin.released = true ∧ t.twin.heardAt = s.now ∧ t.twin.role = s.twin.role) ∧
  (∀ (s : State) (k : Nat), s.twin.retryAt = some k → k ≤ s.now → s.mayPair = true →
    ∃ t, exec .pairingRetry s = .next t ∧ t.twin.pair = .pairing ∧ t.twin.retryAt = none)

/-- Spec/15, R401, R404, R413, R414, R417 and R419: the token and the pairing of a module. CABLE_SENSE reads the far end's termination; TAKEOVER makes the
shadow lead, or refuses with its fault where the cable or the RELEASE frame is missing; the hold after a release of the token ends with the shared
objects dropped; a module that finds no partner leads alone; TWIN_CONFIG sets the pair up and TWIN_STATUS reads it. -/
def Obligations.TwinTokenComplete : Prop :=
  (∀ (s : State) (deciohm : Nat) (low : Bool), s.twin.linkUp = false → s.twin.role ≠ .lead →
    ∃ t, exec (.cableSense deciohm low) s = .next t ∧ (t.twin.cable = true ↔ 800 ≤ deciohm ∧ deciohm ≤ 1200) ∧
      t.twin.lineLow = (low || s.twin.driven) ∧ t.twin.role = s.twin.role) ∧
  (∀ s : State, s.twin.role = .shadow → s.twin.pair = .paired ∨ s.twin.pair = .broken →
      (s.twin.linkUp = true ∧ s.twin.released = true) ∨ (s.twin.linkUp = false ∧ s.twin.cable = true) →
    ∃ t, exec .takeover s = .next t ∧ t.twin.role = .lead ∧ t.twin.driven = true ∧ t.twin.pair = .lone ∧
      t.twin.epoch = nextEpoch s.twin.epoch ∧ t.twin.takeovers = satAdd 0xFFFF s.twin.takeovers 1) ∧
  (∀ s : State, s.twin.role = .shadow → s.twin.pair = .paired ∨ s.twin.pair = .broken → s.twin.linkUp = true → s.twin.released = false →
    ∃ t, exec .takeover s = .next t ∧ t.twin = { s.twin with lineLow := false, tokenFault := true } ∧ t.flt = (s.fault .D 8 0x6020 0 0 0).flt) ∧
  (∀ s : State, s.twin.role = .shadow → s.twin.pair = .paired ∨ s.twin.pair = .broken → s.twin.linkUp = false → s.twin.cable = false →
    ∃ t, exec .takeover s = .next t ∧ t.twin = { s.twin with lineLow := false, cableOpen := true } ∧ t.flt = (s.fault .B 8 0x6021 2 0 0).flt) ∧
  (∀ (s : State) (k : Nat), s.twin.holdEnd = some k → k ≤ s.now → s.clk.i8Run = true → s.twin.en = true →
    ∃ t, exec (.tokenReleaseHoldEnd true) s = .next t ∧ t.twin.role = .shadow ∧ t.twin.pair = .waiting ∧ t.twin.holdEnd = none ∧
      ∀ c, (s.chan c).cfg.twinShared = true → (t.chan c).mode = .off ∧ (t.chan c).owner = .none) ∧
  (∀ s : State, s.twin.en = true → s.twin.driven = false → s.twin.holdEnd = none → s.twin.pair = .waiting ∨ s.twin.pair = .pairing →
      1000000 * s.twin.loneWait + (if s.twin.cable && s.twin.side then 50000 else 0) ≤ s.since s.twin.waitFrom →
    ∃ t, exec (.loneLead false) s = .next t ∧ t.twin.role = .lead ∧ t.twin.driven = true ∧ t.twin.pair = .lone) ∧
  (∀ (s : State) (r : CmdRef) (q : Cmd), s.begun r = some q → q.opcode = 0x0C01 → q.params.length = 12 → u8 q.params 0 ≤ 1 → u8 q.params 1 ≤ 1 →
      u8 q.params 2 ≠ 0 → u8 q.params 3 = 1 → s.twin.pair ≠ .pairing → s.twin.pair ≠ .paired →
    ∃ t, exec (.twinConfig r) s = .next t ∧ t.twin.en = (u8 q.params 0 == 1) ∧ t.twin.side = (u8 q.params 1 == 1) ∧
      t.twin.loneWait = u8 q.params 2 ∧ t.twin.code = slice q.params 4 8 ∧
      (u8 q.params 0 = 1 → s.twin.en = false → t.twin.role = .shadow) ∧ (u8 q.params 0 = 0 → s.twin.en = true → t.twin.role = .none)) ∧
  (∀ (s : State) (r : CmdRef) (q : Cmd), s.begun r = some q → q.opcode = 0x0C03 → q.params = [] →
    exec (.twinStatus r) s = .next (s.complete q .ok (le 1 s.twin.role.num ++ le 1 s.twin.pair.num ++ le 1 s.twin.tokenBits ++ zeros 1 ++
      le 4 s.twin.epoch ++ le 4 s.twin.ackedMsn ++ padTo 8 s.twin.partner ++ le 4 s.twin.linkErrors ++ le 4 (sgn s.twin.warpOfs))))

/-- Spec/15, R418: the planned handover. TWIN_HANDOVER on a paired lead in lockstep asks for it; the shadow answers the request with accept or refuse;
the lead notes an accept and ends at a refuse; the go makes the shadow lead with the next EPOCH; 1 ms after its frame the old lead becomes shadow. A
frame waits while LOOM_DATA goes first (R400). -/
def Obligations.TwinHandoverComplete : Prop :=
  (∀ (s : State) (r : CmdRef) (q : Cmd), s.begun r = some q → q.opcode = 0x0C02 → q.params = [] → s.twin.role = .lead → s.twin.pair = .paired →
      s.inLockstep = true → s.flt.forceSafe = false → s.twin.handover = none →
    ∃ t, exec (.twinHandover r) s = .next t ∧
      t.twin.handover = some { frame := (s.warp + 2999) / 1000, cmd := some q.id, accepted := false, gone := false } ∧ t.twin.role = .lead ∧
      (s.twinWaits 0x40 = false → t.out = .twin (twinBytes 0x40 true s.twin.frameEpoch s.twin.txSeq (zeros 8)) :: s.out)) ∧
  (∀ (s : State) (f : List Byte) (action : Nat), s.twin.linkUp = true → s.clk.i8Run = true → s.twin.frameOk f = true → u8 f 0 = 0x40 →
      u8 (slice f 12 (u16 f 2)) 0 = 0 →
      action = (if s.twin.role = .shadow ∧ s.twin.pair = .paired ∧ s.twin.msnSeen = s.twin.stored ∧ s.inLockstep = true ∧ s.flt.forceSafe = false
        then 1 else 2) →
    ∃ t, exec (.handoverRequest f) s = .next t ∧ t.twin.role = s.twin.role ∧ t.twin.heardAt = s.now ∧
      (if s.twinWaits 0x40 = true then t.twin.later.getLast? =
          some { typ := 0x40, payload := le 1 action ++ zeros 3 ++ le 4 0, ack := true, msn := none, last := false }
      else ∃ n, t.out.head? = some (.twin (twinBytes 0x40 true s.twin.frameEpoch n (le 1 action ++ zeros 3 ++ le 4 0))))) ∧
  (∀ (s : State) (f : List Byte) (h : Handover), s.twin.linkUp = true → s.clk.i8Run = true → s.twin.frameOk f = true → u8 f 0 = 0x40 →
      u8 (slice f 12 (u16 f 2)) 0 = 1 → s.twin.handover = some h →
    ∃ t, exec (.handoverAccept f) s = .next t ∧ t.twin.handover = some { h with accepted := true }) ∧
  (∀ (s : State) (f : List Byte) (h : Handover), s.twin.linkUp = true → s.clk.i8Run = true → s.twin.frameOk f = true → u8 f 0 = 0x40 →
      u8 (slice f 12 (u16 f 2)) 0 = 2 → s.twin.handover = some h → h.accepted = false → h.gone = false → s.twin.weftWait = [] →
    ∃ t, exec (.handoverRefuse f) s = .next t ∧ t.twin.handover = none ∧ t.twin.role = s.twin.role ∧ t.twin.pair = s.twin.pair) ∧
  (∀ (s : State) (f : List Byte), s.twin.linkUp = true → s.clk.i8Run = true → s.twin.frameOk f = true → u8 f 0 = 0x40 →
      u8 (slice f 12 (u16 f 2)) 0 = 3 → s.twin.role = .shadow → s.twin.pair = .paired →
    ∃ t, exec (.handoverGo f) s = .next t ∧ t.twin.role = .lead ∧ t.twin.driven = true ∧ t.twin.pair = .paired ∧
      t.twin.epoch = nextEpoch s.twin.epoch ∧ t.twin.takeovers = satAdd 0xFFFF s.twin.takeovers 1) ∧
  (∀ (s : State) (h : Handover) (c : Nat), s.twin.handover = some h → h.gone = true → h.frame < s.frame → h.cmd = some c →
    ∃ t, exec .handoverComplete s = .next t ∧ t.twin.handover = none ∧ t.twin.role = .shadow ∧ t.twin.driven = false) ∧
  (∀ (s : State) (h : Handover), s.twin.handover = some h → h.gone = true → h.frame < s.frame → h.cmd = none →
    ∃ t, exec .handoverComplete s = .next t ∧ t.twin.handover = none ∧ t.twin.role = s.twin.role ∧
      t.rcd = (s.record 0x6011 8 s.twin.epoch 1000 1).rcd)

/-- Spec/16: polling, granting, the failure count, the lease and the stop of the release stream (R429 to R435, R438, R442, R445). -/
def Obligations.AccessEventsComplete : Prop :=
  (∀ s : State, s.acc.running = true → s.acc.burst = none → s.acc.doorReq = true ∨ s.acc.lastBurst = none ∨
      (∃ b, s.acc.lastBurst = some b ∧ s.pollPeriod ≤ s.since b) →
    ∃ t, exec .burstStart s = .next t ∧ t.acc.lastBurst = some s.now ∧ t.acc.doorReq = false ∧
      t.acc.burst = some { startAt := s.now, channel := s.acc.cfg.radioChannel, range := s.acc.cfg.range, polls := 0, invalid := none, seen := 0 }) ∧
  (∀ (s : State) (seen : Vector SlotSeen 8) (b : Burst), s.acc.burst = some b → s.acc.running = true → b.polls < 3 → b.startAt + 5000 * b.polls ≤ s.now →
      (∀ k : Fin 8, seen[k] = .empty) →
    ∃ t, exec (.uwbPoll seen) s = .next t ∧ t.acc.burst = some { b with polls := b.polls + 1 } ∧ t.acc.present = 0 ∧
      t.acc.granted = s.acc.granted ∧ t.out = .uwb b.channel (le 8 s.pollNonce.1) :: s.out ∧ (s.acc.nonces.length < 2 ^ 64 → s.pollNonce.1 ∉ s.acc.nonces)) ∧
  (∀ (s : State) (seen : Vector SlotSeen 8) (b : Burst) (k : Fin 8) (f : UwbFrame) (n : Nat), s.acc.burst = some b → s.acc.running = true →
      b.polls < 3 → b.startAt + 5000 * b.polls ≤ s.now → seen[k] = .frame f → (∀ j : Fin 8, j ≠ k → seen[j] = .empty) →
      s.acc.judge (le 8 s.pollNonce.1) k.1 (.frame f) = .invalid n →
    ∃ t, exec (.uwbPoll seen) s = .next t ∧ t.acc.burst = some { b with polls := b.polls + 1, invalid := b.invalid.or (some n) } ∧
      t.acc.granted = s.acc.granted ∧ t.acc.present = 0) ∧
  (∀ (s : State) (seen : Vector SlotSeen 8) (b : Burst) (k : Fin 8) (f : UwbFrame) (i : TokNo) (d : Int), s.acc.burst = some b → s.acc.running = true →
      b.polls < 3 → b.startAt + 5000 * b.polls ≤ s.now → seen[k] = .frame f → (∀ j : Fin 8, j ≠ k → seen[j] = .empty) →
      s.acc.judge (le 8 s.pollNonce.1) k.1 (.frame f) = .valid i d → flightNear d b.range = true → s.acc.granted.getLsbD i.1 = false →
      s.acc.lockedOut = false → s.acc.tamper = false → s.inDelay = false →
    ∃ t, exec (.uwbPoll seen) s = .next t ∧ t.acc.granted = s.acc.granted ||| bit32 i ∧ t.acc.present = bit32 i ∧ t.acc.lastSlot = i.1 ∧
      t.acc.lastDist = distanceCm d b.range ∧ t.acc.grantSeq = (s.acc.grantSeq + 1) % 2 ^ 32 ∧ t.acc.doorAt = some s.now ∧
      t.rcd = (s.record 0x7001 7 i.1 (distanceCm d b.range) b.polls).rcd) ∧
  (∀ (s : State) (b : Burst), s.acc.burst = some b → b.startAt + 15000 ≤ s.now → b.polls = 3 →
    ∃ t, exec .burstEnd s = .next t ∧ t.acc.burst = none ∧
      (b.invalid = none → t.acc.failCount = s.acc.failCount) ∧
      (b.invalid.isSome = true → t.acc.failCount = min 255 (s.acc.failCount + 1) ∧ t.acc.failAt = s.now ∧ t.acc.owed = delayOf (t.acc.failCount) ∧
        (3 ≤ s.acc.failCount → t.acc.delayEnd = some (s.now + 1000000 * t.acc.owed)))) ∧
  (∀ (s : State) (k : Nat), s.acc.delayEnd = some k → k ≤ s.now →
    ∃ t, exec .failureDelayEnd s = .next t ∧ t.acc = { s.acc with delayEnd := none, owed := 0 }) ∧
  (∀ s : State, s.acc.failCount ≠ 0 → 600000000 ≤ s.since s.acc.failAt →
    ∃ t, exec .failDecay s = .next t ∧ t.acc = { s.acc with failCount := s.acc.failCount - 1, failAt := s.now }) ∧
  (∀ s : State, s.acc.cfg.leaseTime ≠ 0 → s.acc.leaseOk = true → s.leaseLeft = 0 →
    ∃ t, exec .leaseExpiry s = .next t ∧ t.acc.leaseOk = false ∧ t.acc.relOn = false) ∧
  (∀ s : State, s.acc.relOn = true → s.stopReason ≠ 0 →
    ∃ t, exec .releaseStopped s = .next t ∧ t.acc.relOn = false ∧
      t.rcd = (s.record 0x7022 2 s.stopReason s.acc.relEpoch (s.acc.counter % 2 ^ 32)).rcd)

/-- Spec/16: the tokens, the release configuration and the lockout (R426, R427, R437, R444, R445, R447, R448). -/
def Obligations.AccessCommandsComplete : Prop :=
  (∀ (s : State) (r : CmdRef) (q : Cmd) (i : TokNo), s.begun r = some q → q.opcode = 0x0901 → q.params.length = 28 → zeroAt q.params [1, 2, 3] = true →
      u8 q.params 0 = i.1 → u64 q.params 4 ≠ 0 → u64 q.params 4 ≠ 2 ^ 64 - 1 → s.acc.tokens.get i = none →
      (∀ j k, s.acc.tokens.get j = some k → k.id ≠ u64 q.params 4) →
    ∃ t, exec (.tokenEnrol r) s = .next t ∧
      t.acc.tokens.get i = some { id := u64 q.params 4, key := slice q.params 12 16, opSec := s.rcd.opSeconds } ∧
      ∀ j, j ≠ i → t.acc.tokens.get j = s.acc.tokens.get j) ∧
  (∀ (s : State) (r : CmdRef) (q : Cmd) (i : TokNo) (k : Token), s.begun r = some q → q.opcode = 0x0902 → q.params.length = 4 →
      zeroAt q.params [1, 2, 3] = true → u8 q.params 0 = i.1 → s.acc.tokens.get i = some k →
    ∃ t, exec (.tokenRevoke r) s = .next t ∧ t.acc.tokens.get i = none ∧ t.acc.granted.getLsbD i.1 = false ∧ t.acc.present.getLsbD i.1 = false ∧
      ∀ j, j ≠ i → t.acc.tokens.get j = s.acc.tokens.get j) ∧
  (∀ (s : State) (r : CmdRef) (q : Cmd), s.begun r = some q → q.opcode = 0x0903 → q.params.length = 4 → zeroAt q.params [2, 3] = true →
      1 ≤ u8 q.params 1 → u8 q.params 0 + u8 q.params 1 ≤ 32 →
    exec (.tokenList r) s = .next (s.complete q .ok (le 1 (u8 q.params 0) ++ le 1 (u8 q.params 1) ++ zeros 2 ++
      (allTokens.filter fun i => decide (u8 q.params 0 ≤ i.1) && decide (i.1 < u8 q.params 0 + u8 q.params 1)).flatMap
        fun i => tokenEntry i.1 (s.acc.tokens.get i)))) ∧
  (∀ (s : State) (r : CmdRef) (q : Cmd) (k : AccCfg), s.begun r = some q → q.opcode = 0x0904 → q.params.length = 24 →
      zeroAt q.params [0, 1, 2, 3] = true →
      k = AccCfg.ofWords (u32 q.params 4) (u32 q.params 8) (u32 q.params 12) (u32 q.params 16) (u32 q.params 20) → k.ok = true →
      (k.releaseEn = true → ∃ c, k.channel = some c ∧ (s.canCh c).fdEn = true) →
    ∃ t, exec (.releaseConfigSet r) s = .next t ∧ t.acc.cfg = k) ∧
  (∀ (s : State) (r : CmdRef) (q : Cmd) (n : Nat), s.begun r = some q → q.opcode = 0x0904 → u8 q.params 0 = 1 → n = u16 q.params 84 →
      1 ≤ n → n ≤ 1024 → q.params.length = 152 + n → zeroAt q.params [1, 2, 3, 86, 87] = true →
      s.twin.role = .none → s.acc.relEpoch ≠ 0xFFFFFFFF →
    ∃ t, exec (.releaseConfigPair r) s = .next t ∧
      (if Config.onCurve (slice q.params 20 64) = true ∧ (s.id.signer (slice q.params 88 n)).isSome = true ∧
          Config.ecdsaVerify (Config.certKey (slice q.params 88 n)) (slice q.params 4 (84 + n) ++ padTo 8 Config.serial)
            (slice q.params (88 + n) 64) = true then
        t.acc.relEpoch = s.acc.relEpoch + 1 ∧ t.acc.counter = 1 ∧ t.acc.pcc = some (pubId (Config.certKey (slice q.params 88 n)))
      else t.acc = s.acc)) ∧
  (∀ (s : State) (r : CmdRef) (q : Cmd), s.begun r = some q → q.opcode = 0x0904 → q.params = [2, 0, 0, 0] → s.twin.role = .none → s.acc.pcc.isSome = true →
    ∃ t, exec (.releaseConfigUnpair r) s = .next t ∧ t.acc.pcc = none ∧ t.acc.relKey = [] ∧ t.acc.relOn = false) ∧
  (∀ (s : State) (r : CmdRef) (q : Cmd), s.begun r = some q → q.opcode = 0x0904 → q.params = [3, 0, 0, 0] → s.acc.cfg.leaseTime ≠ 0 →
    ∃ t, exec (.releaseConfigRenew r) s = .next t ∧ t.acc.leaseOk = true ∧ t.acc.leaseFrom = s.rcd.opSeconds) ∧
  (∀ (s : State) (r : CmdRef) (q : Cmd), s.begun r = some q → q.opcode = 0x0905 → q.params = [0, 0, 0, 0] → s.acc.lockedOut = false →
    ∃ t, exec (.lockout r) s = .next t ∧ t.acc.lockedOut = true ∧ t.acc.relOn = false) ∧
  (∀ (s : State) (r : CmdRef) (q : Cmd), s.begun r = some q → q.opcode = 0x0905 → q.params = [1, 0, 0, 0] → s.acc.lockedOut = true →
    ∃ t, exec (.clearLockout r) s = .next t ∧ t.acc.lockedOut = false) ∧
  (∀ (s : State) (r : CmdRef) (q : Cmd), s.begun r = some q → q.opcode = 0x0905 → q.params = [2, 0, 0, 0] → s.acc.tamper = true →
      s.acc.cfg.tamperIn = 0 ∨ s.inputReads s.acc.cfg.tamperIn ≠ s.acc.cfg.tamperPol →
    ∃ t, exec (.clearTamper r) s = .next t ∧ t.acc.tamper = false)

/-- Spec/10 and spec/17: opening a session, attestation, the key store, secure boot and the update (R281, R455 to R470, R513). -/
def Obligations.IdentityCommandsComplete : Prop :=
  (∀ (s : State) (r : CmdRef) (q : Cmd) (n : Nat) (k : Fin 4), s.begun r = some q → q.opcode = 0x0104 → q.src = .clear →
      q.group = none → n = u16 q.params 82 → 1 ≤ n → n ≤ 1024 → q.params.length = 148 + n → u8 q.params 80 ≤ 1 → u8 q.params 81 = 0 →
      ((List.finRange 4).find? fun k => (s.cmd.sessions.get k).isNone) = some k →
      (∀ g : Grp, (s.group g).holder ≠ .keyId (pubId (Config.certKey (slice q.params 84 n)))) →
    ∃ t, exec (.sessionOpen r) s = .next t ∧
      (if Config.onCurve (slice q.params 16 64) = true ∧ (s.id.signer (slice q.params 84 n)).isSome = true ∧
          Config.ecdsaVerify (Config.certKey (slice q.params 84 n)) (q.params.take (84 + n)) (q.params.drop (84 + n)) = true then
        ∃ x, t.cmd.sessions.get k = some x ∧ x.keyId = pubId (Config.certKey (slice q.params 84 n)) ∧
          x.ownerId = pubId ((s.id.signer (slice q.params 84 n)).getD []) ∧ x.top = 0 ∧ x.txSeq = 0 ∧ x.lastAt = s.now ∧
          x.notify = bit (u8 q.params 80) 0
      else t.cmd.sessions = s.cmd.sessions)) ∧
  (∀ (s : State) (k : Nat) (flash : Option (List Byte)) (m : Option Medium) (p : List Byte), s.id.resetAt = some k → s.id.watch = none →
      s.id.armed = none → s.pwr.islandUp.get 2 = true → s.id.journal = none → p = flash.getD s.id.stored.bytes →
    ∃ t, exec (.boot true flash m) s = .next t ∧ t.id.resetAt = none ∧ t.id.keys = s.claimPending.id.keys ∧
      (if s.id.stored.bootStep s.id.arb p = 0 then
        t.cmd.serving = true ∧ t.id.running = some { version := u32 p 20, security := u32 p 12 } ∧ t.id.loader = false ∧
          t.id.execRam = List.range (u16 p 26) ∧ t.pwr.islandUp.get 1 = true
      else t.id.loader = true ∧ t.id.running = none ∧ t.id.execRam = [] ∧ t.cmd = s.cmd ∧
        t.flt = (s.claimPending.fault .D 2 0x8002 (s.id.stored.bootStep s.id.arb p) (if 128 ≤ p.length then u32 p 20 else 0) 0).flt)) ∧
  (∀ (s : State) (k : Nat) (flash : Option (List Byte)) (m : Option Medium) (p : List Byte), s.id.resetAt = some k → s.id.watch = none →
      s.id.armed = none → s.pwr.islandUp.get 2 = true → p = flash.getD s.id.stored.bytes →
    ∃ t, exec (.boot false flash m) s = .next t ∧ t.id.resetAt = none ∧ t.id.loader = true ∧ t.id.running = none ∧ t.id.execRam = [] ∧
      t.cmd = s.cmd ∧ t.flt = (s.claimPending.fault .D 2 0x8002 1 (if 128 ≤ p.length then u32 p 20 else 0) 0).flt) ∧
  (∀ (s : State) (k : Nat) (flash : Option (List Byte)) (m : Option Medium), s.id.resetAt = some k → s.id.watch = none → s.id.armed = none →
      s.pwr.islandUp.get 2 = true → s.id.journal.isSome = true →
    ∃ t, exec (.boot true flash m) s = .next t ∧ t.id.loader = true ∧ t.id.running = none ∧ t.id.resetAt = none ∧ t.pwr.islandUp.get 1 = false) ∧
  (∀ (s : State) (r : CmdRef) (q : Cmd), s.begun r = some q → q.opcode = 0x0A01 → q.params.length = 16 →
    exec (.attest r) s = .next (s.complete q .ok (s.attestReply q.params))) ∧
  (∀ (s : State) (r : CmdRef) (q : Cmd) (i : Fin 12), s.begun r = some q → q.opcode = 0x0A02 → u8 q.params 0 = 0 →
      (s.id.keysOf 1 ++ s.id.keysOf 2).contains (slice q.params 8 64) = false → ((List.finRange 12).find? fun i => (s.id.keys.get i).isNone) = some i →
      s.id.freeOf (u8 q.params 1) ≠ 0 →
    ∃ t, exec (.keyAdd r) s = .next t ∧ (s.keyCheck q.params ≠ none → t.id = s.id) ∧ (s.keyCheck q.params = none →
      t.id = { s.id with keys := s.id.keys.put i (some { role := u8 q.params 1, pub := slice q.params 8 64 }), keySeq := u32 q.params 4 })) ∧
  (∀ (s : State) (r : CmdRef) (q : Cmd), s.begun r = some q → q.opcode = 0x0A02 → u8 q.params 0 = 1 →
      (u8 q.params 1 = 1 → 2 ≤ (s.id.keysOf 1).length) → (∀ k, s.weft.store.get k = none) →
    ∃ t, exec (.keyRemove r) s = .next t ∧ (s.keyCheck q.params ≠ none → t.id = s.id) ∧
      (s.keyCheck q.params = none → (s.id.keyNamed (u8 q.params 1) (slice q.params 8 8)).isSome = true →
        t.id.keySeq = u32 q.params 4 ∧ ∀ i e, t.id.keys.get i = some e ↔
          s.id.keys.get i = some e ∧ ¬(e.role = u8 q.params 1 ∧ pubId e.pub = slice q.params 8 8))) ∧
  (∀ (s : State) (r : CmdRef) (q : Cmd), s.begun r = some q → q.opcode = 0x0A02 → u8 q.params 0 = 2 →
      s.id.floor < u32 q.params 8 → (∀ k w, s.weft.store.get k = some w → u32 q.params 8 ≤ w.secVersion) →
    ∃ t, exec (.weftFloorRaise r) s = .next t ∧ (s.keyCheck q.params ≠ none → t.id = s.id) ∧
      (s.keyCheck q.params = none → t.id = { s.id with floor := u32 q.params 8, keySeq := u32 q.params 4 })) ∧
  (∀ (s : State) (r : CmdRef) (q : Cmd) (m : Option Medium) (p : List Byte), s.begun r = some q → q.opcode = 0x0A03 → q.params = [0, 0, 0, 0] →
      Medium.img m = some p → s.twin.role ≠ .lead ∨ (s.twin.pair ≠ .paired ∧ s.twin.pair ≠ .broken) →
    exec (.updateCheck r m) s = .next (match imageFault s.id.arb p with
      | none => s.complete q .ok (zeros 4 ++ le 4 (u32 p 20) ++ le 4 (u32 p 12) ++ le 4 (u32 p 8) ++ le 4 s.id.arb)
      | some (n, _) => s.complete q (if 6 ≤ n then .denied else .badCheck)
          (le 1 0 ++ le 1 n ++ zeros 2 ++ le 4 (u32 p 20) ++ le 4 (u32 p 12) ++ le 4 (u32 p 8) ++ le 4 s.id.arb))) ∧
  (∀ (s : State) (r : CmdRef) (q : Cmd) (m : Option Medium) (p : List Byte), s.begun r = some q → q.opcode = 0x0A03 → q.params = [1, 0, 0, 0] →
      Medium.img m = some p → s.twin.role ≠ .lead ∨ (s.twin.pair ≠ .paired ∧ s.twin.pair ≠ .broken) →
    ∃ t, exec (.updateArm r m) s = .next t ∧
      t.id = (if imageFault s.id.arb p = none then { s.id with armed := some (s.now, false) } else s.id)) ∧
  (∀ (s : State) (k : Nat), s.id.watch = some (k, true) → k + 10000000 ≤ s.now →
    ∃ t, exec .updateArmByWake s = .next t ∧ t.id = { s.claimPending.id with watch := none, armed := some (s.now, true) }) ∧
  (∀ (s : State) (file : List Byte) (i : Fin 12), s.id.watch.isSome = true → s.id.keyFile = some file → s.id.keysOf 1 = [] → file.length = 72 →
      file.take 8 = [0x4B, 0x57, 0x4F, 0x4B, 0, 0, 0, 0] →
      ((List.finRange 12).find? fun i => (s.id.keys.get i).isNone) = some i →
    ∃ t, exec (.ownerClaimed file) s = .next t ∧
      (if Config.onCurve (file.drop 8) = true then
        t.id = { s.id with keyFile := none, keys := s.id.keys.put i (some { role := 1, pub := file.drop 8 }), keySeq := 0 } ∧
          t.rcd = (s.record 0x8023 2 (u32 (pubId (file.drop 8)) 0) 0 0).rcd
      else t.id = { s.id with keyFile := none } ∧ t.rcd = (s.record 0x8013 2 9 0 0).rcd)) ∧
  (∀ (s : State) (k : Nat) (wake : Bool) (m : Option Medium) (p : List Byte), s.id.armed = some (k, wake) → Medium.img m = some p →
    ∃ t, exec (.updateStart m) s = .next t ∧ t.id.armed = none ∧ t.cmd.serving = false ∧ t.pwr.islandUp.get 1 = false ∧ t.id.waiting = false ∧
      (if imageFault s.id.arb p = none then t.id.journal = some (Journal.begin p) ∧ t.id.loader = true
       else t.id.journal = s.id.journal ∧ t.id.loader = false ∧ t.id.resetAt = some s.now)) ∧
  (∀ (s : State) (m : Option Medium) (flash : Option (List Byte)) (j : Journal) (p : List Byte), s.id.journal = some j → s.id.loader = true →
      s.id.waiting = false → j.done + 1 < j.blocks → Medium.img m = some p → imageDigest p = j.digest →
    ∃ t, exec (.updateBlock m flash) s = .next t ∧
      t.id = (if Config.blockTag (p.take 128) j.done (imageBlock p j.done) = true then
          { s.id with stored := s.id.stored.write j.done (imageBlock p j.done), journal := some { j with done := j.done + 1 } }
        else { s.id with waiting := true, waitSaid := true, pollAt := s.now })) ∧
  (∀ (s : State) (m : Option Medium) (flash : Option (List Byte)) (j : Journal) (p r : List Byte) (f : Flash), s.id.journal = some j →
      s.id.loader = true → s.id.waiting = false → j.blocks ≤ j.done + 1 → Medium.img m = some p → imageDigest p = j.digest →
      (j.done < j.blocks → Config.blockTag (p.take 128) j.done (imageBlock p j.done) = true) →
      f = (if j.done < j.blocks then s.id.stored.write j.done (imageBlock p j.done) else s.id.stored).close p → r = flash.getD f.bytes →
    ∃ t, exec (.updateBlock m flash) s = .next t ∧ t.id.stored = f ∧
      (if headerOk r = true ∧ f.sealed r = true then
        t.id.journal = none ∧ t.id.arb = max s.id.arb j.security ∧ t.id.loader = false ∧ t.id.resetAt = some s.now
      else t.id.waiting = true ∧ t.id.loader = true ∧ t.id.arb = s.id.arb)) ∧
  (∀ (s : State) (m : Option Medium) (j : Journal) (p : List Byte), s.id.loader = true → 1000000 ≤ s.since s.id.pollAt → s.id.journal = some j →
      s.id.waiting = true → Medium.img m = some p → imageDigest p = j.digest →
    ∃ t, exec (.mediumPoll m) s = .next t ∧ t.id.pollAt = s.now ∧ (imageSigned p = true → t.id = { s.id with pollAt := s.now, waiting := false } ∧
      t.rcd = (s.record 0x8011 2 j.done j.blocks 0).rcd)) ∧
  (∀ s : State, ∃ t, exec .wakeFalls s = .next t ∧ t.id = { s.claimPending.id with watch := none })

/-- Spec/18: the event recorder (R477, R481, R482, R485, R486, R488, R489). -/
def Obligations.RecorderCommandsComplete : Prop :=
  (∀ (s : State) (b : Buffered) (rest : List Buffered) (w : Bool), s.engineReady = true → s.rcd.buffer = b :: rest → s.rcd.saturated = false →
      s.rcd.main.length + 2 < mainSlots → w = true ∨ b.fails ≠ 0 ∨ b.record.source = 0 →
    ∃ t, exec (.recordWrite true w) s = .next t ∧ t.rcd.main = s.rcd.main ++ [.valid b.record s.rcd.lostPending] ∧
      (b.cmd = none → t.rcd = { s.rcd with main := s.rcd.main ++ [.valid b.record s.rcd.lostPending], buffer := rest, lostPending := 0 })) ∧
  (∀ (s : State) (b : Buffered) (rest : List Buffered) (w : Bool), s.engineReady = true → s.rcd.buffer = b :: rest → s.rcd.saturated = false →
      s.rcd.main.length + 2 < mainSlots → b.fails = 0 → w = true ∨ b.record.source = 0 →
    ∃ t f, exec (.recordWrite false w) s = .next t ∧ t.rcd.main = s.rcd.main ++ [.torn] ∧ t.rcd.buffer = f :: { b with fails := 1 } :: rest ∧
      f.record.code = 0xF002 ∧ t.rcd.writeFail = satAdd 0xFFFF s.rcd.writeFail 1) ∧
  (∀ (s : State) (b : Buffered) (rest : List Buffered) (ok : Bool), s.engineReady = true → s.rcd.buffer = b :: rest → b.fails = 0 →
      b.record.source ≠ 0 →
    ∃ t, exec (.recordWrite ok false) s = .next t ∧ t.rcd.main = s.rcd.main ∧ t.rcd.checkDrop = satAdd 0xFFFF s.rcd.checkDrop 1 ∧
      (b.cmd = none → t.rcd.buffer = rest ∧ t.rcd.lostTotal = satAdd 0xFFFFFFFF s.rcd.lostTotal 1)) ∧
  (∀ s : State, s.rcd.saturated = true → s.rcd.sectorReady = false → s.rcd.worn = [] → s.rcd.tailNext < tailSlots →
    ∃ t, exec (.tailSectorErase true) s = .next t ∧ t.rcd.sectorReady = true ∧ t.rcd.tailNext = s.rcd.tailNext ∧
      ∀ i x, (i, x) ∈ t.rcd.tail ↔ (i, x) ∈ s.rcd.tail ∧ i / sectorSlots ≠ s.rcd.tailNext / sectorSlots) ∧
  (∀ s : State, 62500 ≤ s.since s.rcd.tokenAt →
    ∃ t, exec .rateToken s = .next t ∧ t.rcd = { s.rcd with tokenAt := s.rcd.tokenAt + 62500, tokens := min 256 (s.rcd.tokens + 1) }) ∧
  (∀ s : State, 600000000 ≤ s.since s.rcd.savedAt →
    ∃ t, exec .counterSave s = .next t ∧ t.rcd.saved.opSeconds = s.rcd.opSeconds ∧ t.rcd.saved.cycles = s.rcd.cycles ∧
      t.rcd.saved.lostPending = s.rcd.lostPending ∧ t.rcd.saved.counters = s.rcd.counters ∧ t.rcd.savedAt = s.now ∧ t.rcd.main = s.rcd.main) ∧
  (∀ s : State, 1000000 ≤ s.since s.rcd.secondAt → s.pwr.state ≠ .off →
    ∃ t, exec .opSecond s = .next t ∧ t.rcd.opSeconds = satAdd 0xFFFFFFFF s.rcd.opSeconds 1 ∧ t.rcd.secondAt = s.rcd.secondAt + 1000000 ∧
      ∀ c, (t.chan c).counts.onSeconds = (if (s.chan c).output = true ∨ (s.chan c).mode = .pwm then
        satAdd 0xFFFFFFFF (s.chan c).counts.onSeconds 1 else (s.chan c).counts.onSeconds)) ∧
  (∀ (s : State) (r : CmdRef) (q : Cmd), s.begun r = some q → q.opcode = 0x0801 → q.params = [] →
    exec (.recInfo r) s = .next (s.complete q .ok (le 1 (b2n s.rcd.saturated) ++ zeros 3 ++ le 4 s.rcd.main.length ++
      le 4 (if s.rcd.saturated then s.rcd.tailNext else 0xFFFFFFFF) ++ le 4 s.rcd.tailWraps ++ le 4 s.rcd.lostTotal ++
      le 2 s.rcd.lostPending ++ le 2 s.rcd.tokens ++ le 4 s.rcd.opSeconds ++ le 3 s.rcd.cycles ++ zeros 1 ++ le 4 s.rcd.torn ++
      le 4 s.rcd.writeFail))) ∧
  (∀ (s : State) (r : CmdRef) (q : Cmd), s.begun r = some q → q.opcode = 0x0802 → q.params.length = 16 → 0xB000 ≤ u16 q.params 0 →
      u16 q.params 0 ≤ 0xBFFF → 8 ≤ u8 q.params 2 → u8 q.params 2 ≤ 15 → u8 q.params 3 = 0 → s.rcd.tokens ≠ 0 → s.rcd.saturated = false →
      s.pwr.domains.get 2 = true →
    ∃ t b, exec (.recAppend r) s = .next t ∧ t.rcd.buffer = s.rcd.buffer ++ [b] ∧ t.rcd.tokens = s.rcd.tokens - 1 ∧ b.cmd = some q.id ∧
      b.record.code = u16 q.params 0 ∧ b.record.source = 0xFF ∧ b.record.severity = u8 q.params 2 ∧
      b.record.p0 = BitVec.ofNat 32 (u32 q.params 4) ∧ b.record.opSec = s.rcd.opSeconds)

/-- Spec/01, 02, 18 and 19: the supply, power, clock and recorder events: which parts of the state each of these commands may change when it answers a next state; every other part is as before. -/
def Obligations.PowerAndClockFrame : Prop :=
  ∀ s t : State,
    (∀ (mv : Nat), exec (.auxLoss mv) s = .next t → Only [.free, .out, .mem, .supply, .clk, .wt, .links, .pwr, .rcd, .flt, .cmd, .sw, .drv, .fld, .loom,
      .weft, .can, .nm, .eth, .far, .twin, .acc, .id] s t) ∧
    (∀ row ∈ ([.sleepEntry, .deepSleepEntry] : List Instr), exec row s = .next t → Only [.free, .out, .mem, .supply, .clk, .wt, .links, .pwr, .rcd, .flt,
      .cmd, .sw, .drv, .fld, .loom, .weft, .can, .nm, .eth, .far, .twin, .acc, .id] s t) ∧
    (∀ (mv : Nat) (wake : Bool) (m : Option Medium), exec (.reserveEnd mv wake m) s = .next t → Only [.out, .supply, .clk, .wt, .pwr, .rcd, .flt, .cmd,
      .sw, .drv, .fld, .weft, .can, .nm, .eth, .far, .twin, .acc, .id] s t) ∧
    (∀ row ∈ ([.auxRestore, .vbusFault, .vbusRestore] : List Instr), exec row s = .next t → Only [.supply] s t) ∧
    (∀ (aux : Nat) (a : Nat) (b : Nat) (c : Nat) (d : Nat), exec (.supplyMonitorUpdate aux a b c d) s = .next t → Only [.supply] s t) ∧
    (∀ (p : PwrNo) (mv : Nat), exec (.pwrLow p mv) s = .next t → Only [.supply, .rcd, .drv] s t) ∧
    (∀ (p : PwrNo), exec (.pwrRestored p) s = .next t → Only [.supply, .rcd, .sw, .drv] s t) ∧
    (∀ (wake : Bool) (m : Option Medium), exec (.keepColdStart wake m) s = .next t → Only [.mem, .supply, .clk, .ccfg, .wt, .links, .pwr, .rcd, .flt,
      .cmd, .sw, .drv, .fld, .loom, .weft, .can, .nm, .eth, .far, .twin, .acc, .id] s t) ∧
    (exec .idleEntry s = .next t → Only [.pwr] s t) ∧
    (exec .idleExit s = .next t → Only [.pwr, .flt] s t) ∧
    (exec .offEntry s = .next t → Only [.out, .supply, .pwr, .rcd, .flt, .cmd, .sw, .drv, .fld, .can, .far, .twin, .acc] s t) ∧
    (∀ (source : Nat) (detail : Nat), exec (.sleepWake source detail) s = .next t → Only [.out, .clk, .wt, .pwr, .rcd, .flt, .sw, .drv, .fld, .weft, .can,
      .nm, .eth, .acc, .id] s t) ∧
    (∀ (r : CmdRef), ∀ row ∈ ([.pwrConfig r, .pwrEnter r] : List Instr), exec row s = .next t → Only [.out, .pwr, .rcd, .cmd, .sw, .drv, .fld, .can, .far,
      .twin] s t) ∧
    (∀ (r : CmdRef), exec (.wakeSource r) s = .next t → Only [.out, .rcd, .cmd, .sw, .drv, .fld, .can, .far, .twin] s t) ∧
    (exec .wakeRisingEdge s = .next t → Only [.pwr, .flt, .acc] s t) ∧
    (∀ row ∈ ([.xoStable, .xoPllSettled, .xoReturn] : List Instr), exec row s = .next t → Only [.clk, .pwr, .rcd, .acc] s t) ∧
    (∀ (trim : Int) (dev : Int), exec (.hfoTrimConverged trim dev) s = .next t → Only [.clk] s t) ∧
    (∀ (dev : Int), exec (.lfoTrimConverged dev) s = .next t → Only [.clk] s t) ∧
    (exec .xoRetry s = .next t → Only [.clk] s t) ∧
    (exec .xoFail s = .next t → Only [.clk, .rcd, .flt] s t) ∧
    (∀ (mux : Nat), exec (.clkstuck mux) s = .next t → Only [.clk, .rcd, .flt] s t) ∧
    (∀ (i : Fin 6) (sync : Nat), exec (.trimSource i sync) s = .next t → Only [.clk, .rcd] s t) ∧
    (∀ (hz : Nat) (dev : Int), exec (.syncInEdge hz dev) s = .next t → Only [.clk, .rcd] s t) ∧
    (∀ (offFrequency : Bool), exec (.xoLoss offFrequency) s = .next t → Only [.clk, .pwr, .rcd, .flt, .acc] s t) ∧
    (∀ (ptp : Warp) (phase : Nat), exec (.warpStep ptp phase) s = .next t → Only [.wt, .rcd, .sw] s t) ∧
    (∀ row ∈ ([.warpLoRead, .warpPtpOffsetLoRead] : List Instr), exec row s = .next t → Only [.wt] s t) ∧
    (∀ (k : LinkNo), ∀ row ∈ ([.shuttleAck k, .shuttleRetransmit k] : List Instr), exec row s = .next t → Only [.out, .links, .rcd, .flt, .cmd, .sw, .drv,
      .fld, .can, .far, .twin] s t) ∧
    (∀ (corr : List (Nat × Int)) (badSw : Option Nat) (badDr : Option Nat) (badHost : List Nat), exec (.frameMark corr badSw badDr badHost) s = .next t →
      Only [.now, .free, .out, .clk, .wt, .links, .pwr, .rcd, .flt, .cmd, .sw, .drv, .fld, .loom, .weft, .can, .nm, .eth, .far, .twin, .acc] s t) ∧
    (∀ (ok : Bool) (wordOk : Bool), exec (.recordWrite ok wordOk) s = .next t → Only [.out, .supply, .rcd, .flt, .cmd, .sw, .drv, .fld, .can, .far, .twin]
      s t) ∧
    (∀ (ok : Bool), exec (.tailSectorErase ok) s = .next t → Only [.out, .rcd, .flt, .cmd, .sw, .drv, .fld, .can, .far, .twin] s t) ∧
    (∀ row ∈ ([.rateToken, .counterSave] : List Instr), exec row s = .next t → Only [.rcd] s t) ∧
    (exec .opSecond s = .next t → Only [.rcd, .sw] s t) ∧
    (∀ (r : CmdRef), ∀ row ∈ ([.recInfo r, .recAppend r] : List Instr), exec row s = .next t → Only [.out, .rcd, .cmd, .sw, .drv, .fld, .can, .far, .twin]
      s t)

/-- Spec/03 and 04: the instructions of the Loom and the events and commands of the weft: which parts of the state each of these commands may change when it answers a next state; every other part is as before. -/
def Obligations.LoomAndWeftFrame : Prop :=
  ∀ s t : State,
    (∀ row ∈ ([.nop, .cmp, .tst, .btst, .bcc, .call, .ret, .jmpi, .yield, .done, .mulu, .muls, .rep, .repi, .fence, .waitslot, .puts] : List Instr), exec
      row s = .next t → Only [.out, .rcd, .flt, .cmd, .sw, .drv, .fld, .loom, .weft, .can, .far, .twin] s t) ∧
    (∀ row ∈ ([.mov, .movsx, .lea, .add, .adc, .sub, .sbc, .and, .or, .xor, .not, .neg, .shl, .shr, .sar, .ror, .addm, .subm, .bset, .bclr, .dadd, .dadc,
      .dsub, .dsbc, .dadj, .cvbd, .cvdb, .recv, .gets] : List Instr), exec row s = .next t → Only [.out, .mem, .rcd, .flt, .cmd, .sw, .drv, .fld,
      .loom, .weft, .can, .far, .twin] s t) ∧
    (exec .mulComplete s = .next t → Only [.loom] s t) ∧
    (exec .send s = .next t → Only [.out, .links, .rcd, .flt, .cmd, .sw, .drv, .fld, .loom, .weft, .can, .far, .twin] s t) ∧
    (∀ (port : Fin 3) (crcOk : Bool), exec (.loomDataReceive port crcOk) s = .next t → Only [.links, .rcd, .flt, .loom] s t) ∧
    (exec .segmentStart s = .next t → Only [.out, .rcd, .cmd, .sw, .drv, .fld, .loom, .weft, .can, .far, .twin] s t) ∧
    (∀ (k : Fin 64), ∀ row ∈ ([.wcet k, .deadline k] : List Instr), exec row s = .next t → Only [.rcd, .flt, .loom, .weft] s t) ∧
    (exec .selvedgeCommit s = .next t → Only [.out, .mem, .links, .rcd, .flt, .loom, .twin] s t) ∧
    (∀ (drive : Bool) (crcOk : Bool), exec (.commitReceive drive crcOk) s = .next t → Only [.links, .rcd, .flt, .sw, .drv] s t) ∧
    (∀ (drive : Bool) (host : Bool) (crcOk : Bool), exec (.heartbeatReceive drive host crcOk) s = .next t → Only [.out, .links, .rcd, .flt, .cmd, .sw,
      .drv, .fld, .can, .far, .twin] s t) ∧
    (∀ (object : Nat) (checkOk : Bool), exec (.commandDue object checkOk) s = .next t → Only [.free, .out, .rcd, .flt, .cmd, .sw, .drv, .fld, .can, .far,
      .twin] s t) ∧
    (∀ (r : CmdRef), exec (.weftLoadBegin r) s = .next t → Only [.out, .rcd, .cmd, .sw, .drv, .fld, .can, .far, .twin] s t) ∧
    (∀ (r : CmdRef), ∀ row ∈ ([.weftCommit r, .weftSwap r] : List Instr), exec row s = .next t → Only [.free, .out, .mem, .rcd, .cmd, .sw, .drv, .fld,
      .weft, .can, .far, .twin] s t) ∧
    (exec .ownershipEvaluation s = .next t → Only [.free, .out, .mem, .rcd, .cmd, .sw, .drv, .fld, .weft, .can, .far, .twin] s t) ∧
    (∀ (r : CmdRef), exec (.weftStart r) s = .next t → Only [.out, .mem, .wt, .rcd, .cmd, .sw, .drv, .fld, .loom, .weft, .can, .far, .twin] s t) ∧
    (∀ (r : CmdRef), exec (.weftStop r) s = .next t → Only [.out, .rcd, .cmd, .sw, .drv, .fld, .weft, .can, .far, .twin] s t) ∧
    (exec .weftAutostart s = .next t → Only [.free, .mem, .wt, .rcd, .sw, .loom, .weft] s t) ∧
    (exec .weftStarted s = .next t → Only [.out, .rcd, .cmd, .sw, .drv, .fld, .loom, .weft, .can, .nm, .eth, .far, .twin] s t) ∧
    (exec .weftStopped s = .next t → Only [.free, .out, .rcd, .cmd, .sw, .drv, .fld, .loom, .weft, .can, .nm, .eth, .far, .twin] s t) ∧
    (exec .weftSwapped s = .next t → Only [.free, .out, .rcd, .cmd, .sw, .drv, .fld, .loom, .weft, .can, .far, .twin] s t)

/-- Spec/05 and 06: the switch island: which parts of the state each of these commands may change when it answers a next state; every other part is as before. -/
def Obligations.SwitchFrame : Prop :=
  ∀ s t : State,
    (∀ (crcOk : Bool), exec (.switchCmd crcOk) s = .next t → Only [.links, .rcd, .flt, .sw] s t) ∧
    (∀ (crcOk : Bool), exec (.switchReadRequest crcOk) s = .next t → Only [.links, .rcd, .flt] s t) ∧
    (∀ (c : ChNo), ∀ row ∈ ([.pwmPeriodStart c, .pwmOffEdge c, .pulseEnd c, .profileSegmentEnd c, .peakReset c, .retryWindowExpiry c] : List Instr), exec
      row s = .next t → Only [.sw] s t) ∧
    (∀ (g : Fin 4) (v : Nat), exec (.pgPeriodWrite g v) s = .next t → Only [.sw] s t) ∧
    (∀ (p : PwrNo), exec (.envelopeEventClose p) s = .next t → Only [.sw] s t) ∧
    (∀ (c : ChNo) (current : Nat) (fine20 : Nat) (tj : Int) (dSum : Nat), exec (.scanSample c current fine20 tj dSum) s = .next t → Only [.supply, .sw] s
      t) ∧
    (∀ (host : Bool), exec (.orphanEnter host) s = .next t → Only [.rcd, .sw] s t) ∧
    (∀ (c : ChNo), ∀ row ∈ ([.orphanSafe c, .openLoadOnDetect c, .loadReturnedOn c] : List Instr), exec row s = .next t → Only [.rcd, .sw] s t) ∧
    (∀ (c : ChNo) (tj : Int), exec (.pauseExpiry c tj) s = .next t → Only [.rcd, .sw] s t) ∧
    (∀ (c : ChNo) (mv : Nat), ∀ row ∈ ([.openLoadOffDetect c mv, .loadReturnedOff c mv] : List Instr), exec row s = .next t → Only [.rcd, .sw] s t) ∧
    (∀ (p : PwrNo), exec (.shed p) s = .next t → Only [.rcd, .sw] s t) ∧
    (exec .switchReset s = .next t → Only [.out, .mem, .supply, .clk, .links, .rcd, .flt, .cmd, .sw, .drv, .fld, .can, .far, .twin] s t) ∧
    (∀ (c : ChNo) (mA : Nat), exec (.shortTrip c mA) s = .next t → Only [.rcd, .flt, .sw] s t) ∧
    (∀ (c : ChNo), ∀ row ∈ ([.overcurrentTrip c, .coolingLimit c] : List Instr), exec row s = .next t → Only [.rcd, .flt, .sw] s t) ∧
    (∀ (c : ChNo) (tj : Int), ∀ row ∈ ([.thermalShutdown c tj, .coolingRestart c tj] : List Instr), exec row s = .next t → Only [.rcd, .flt, .sw] s t) ∧
    (∀ (p : PwrNo), exec (.envelopeEvent p) s = .next t → Only [.rcd, .flt, .sw, .drv] s t) ∧
    (exec .rechargeResume s = .next t → Only [.sw, .drv] s t) ∧
    (∀ (r : CmdRef), exec (.swClearLatch r) s = .next t → Only [.out, .rcd, .cmd, .sw, .drv, .fld, .can, .far, .twin] s t) ∧
    (∀ (c : ChNo), exec (.admitLimit c) s = .next t → Only [.out, .rcd, .cmd, .sw, .drv, .fld, .can, .far, .twin] s t) ∧
    (∀ (r : CmdRef), ∀ row ∈ ([.swGet r, .swConfig r, .swAdopt r] : List Instr), exec row s = .next t → Only [.out, .rcd, .cmd, .sw, .drv, .fld, .can,
      .far, .twin] s t) ∧
    (∀ (r : CmdRef), exec (.swSet r) s = .next t → Only [.out, .links, .rcd, .cmd, .sw, .drv, .fld, .can, .far, .twin] s t) ∧
    (∀ (base : Int), exec (.thermalBudgetEval base) s = .next t → Only [.supply, .rcd, .flt, .sw, .drv] s t) ∧
    (exec .thermalShedStart s = .next t → Only [.rcd, .flt, .sw] s t) ∧
    (exec .thermalShed s = .next t → Only [.rcd, .sw] s t)

/-- Spec/07 to 09: the drive island and the field island: which parts of the state each of these commands may change when it answers a next state; every other part is as before. -/
def Obligations.DriveAndFieldFrame : Prop :=
  ∀ s t : State,
    (∀ (mv : Nat), ∀ row ∈ ([.vboostReady mv, .vboostOv mv, .vboostAtVbSet mv] : List Instr), exec row s = .next t → Only [.drv] s t) ∧
    (∀ (c : AcNo), ∀ row ∈ ([.boostGrant c, .decayEnd c, .freewheelLatchExpiry c, .clearLearned c] : List Instr), exec row s = .next t → Only [.drv] s t) ∧
    (∀ (b : BankNo) (mean : Nat), exec (.bankOverloadClear b mean) s = .next t → Only [.drv] s t) ∧
    (∀ (mv : Nat), exec (.boostFail mv) s = .next t → Only [.rcd, .flt, .drv] s t) ∧
    (∀ (c : AcNo), exec (.holdUnreachable c) s = .next t → Only [.rcd, .flt, .drv] s t) ∧
    (∀ (b : BankNo) (mean : Nat), exec (.bankOverload b mean) s = .next t → Only [.rcd, .flt, .drv] s t) ∧
    (∀ (c : AcNo) (mJ : Nat) (mA : Nat), exec (.boostCut c mJ mA) s = .next t → Only [.rcd, .drv] s t) ∧
    (∀ (c : AcNo), ∀ row ∈ ([.bankDeferExpiry c, .actuatorFire c, .actuatorRelease c, .openCoil c] : List Instr), exec row s = .next t → Only [.free,
      .out, .rcd, .flt, .cmd, .sw, .drv, .fld, .can, .far, .twin] s t) ∧
    (∀ (c : AcNo) (mA : Nat) (u : Int) (vb : Nat) (mJ : Nat), exec (.controlUpdate c mA u vb mJ) s = .next t → Only [.free, .out, .rcd, .flt, .cmd, .sw,
      .drv, .fld, .can, .far, .twin] s t) ∧
    (∀ (c : AcNo) (mA : Nat), exec (.shortedCoil c mA) s = .next t → Only [.free, .out, .rcd, .flt, .cmd, .sw, .drv, .fld, .can, .far, .twin] s t) ∧
    (∀ (b : BankNo) (released : Bool) (mA : Nat), exec (.bankFault b released mA) s = .next t → Only [.free, .out, .rcd, .flt, .cmd, .sw, .drv, .fld,
      .can, .far, .twin] s t) ∧
    (∀ (crcOk : Bool), exec (.driveCmd crcOk) s = .next t → Only [.links, .rcd, .flt, .drv] s t) ∧
    (∀ (crcOk : Bool), exec (.driveReadRequest crcOk) s = .next t → Only [.links, .rcd, .flt] s t) ∧
    (∀ (host : Bool), exec (.actuatorOrphanEnter host) s = .next t → Only [.free, .out, .rcd, .cmd, .sw, .drv, .fld, .can, .far, .twin] s t) ∧
    (∀ (c : AcNo), exec (.actuatorOrphanSafe c) s = .next t → Only [.free, .out, .rcd, .cmd, .sw, .drv, .fld, .can, .far, .twin] s t) ∧
    (∀ (r : CmdRef), exec (.acConfig r) s = .next t → Only [.free, .out, .rcd, .cmd, .sw, .drv, .fld, .can, .far, .twin] s t) ∧
    (exec .driveReset s = .next t → Only [.free, .out, .mem, .clk, .links, .rcd, .flt, .cmd, .sw, .drv, .fld, .can, .far, .twin] s t) ∧
    (∀ (r : CmdRef), exec (.acLoadBobbin r) s = .next t → Only [.out, .mem, .rcd, .cmd, .sw, .drv, .fld, .can, .far, .twin] s t) ∧
    (∀ (r : CmdRef), ∀ row ∈ ([.acFire r, .acRelease r] : List Instr), exec row s = .next t → Only [.out, .links, .rcd, .cmd, .sw, .drv, .fld, .can, .far,
      .twin] s t) ∧
    (∀ (r : CmdRef), exec (.acGet r) s = .next t → Only [.out, .rcd, .cmd, .sw, .drv, .fld, .can, .far, .twin] s t) ∧
    (∀ (raw : BitVec 32) (readback : BitVec 16) (parity : BitVec 16) (fpMv : Nat) (ga : Nat) (gb : Nat), exec (.barrierFrame raw readback parity fpMv ga
      gb) s = .next t → Only [.out, .rcd, .cmd, .sw, .drv, .fld, .can, .far, .twin] s t) ∧
    (∀ (mv : Nat), exec (.fieldStop mv) s = .next t → Only [.out, .rcd, .cmd, .sw, .drv, .fld, .can, .far, .twin] s t) ∧
    (∀ (r : CmdRef), ∀ row ∈ ([.fioSet r, .fioGet r, .fioConfig r] : List Instr), exec row s = .next t → Only [.out, .rcd, .cmd, .sw, .drv, .fld, .can,
      .far, .twin] s t) ∧
    (∀ (crcOk : Bool), exec (.logicFrameReceive crcOk) s = .next t → Only [.rcd, .fld] s t) ∧
    (∀ (i : Fin 24), ∀ row ∈ ([.stuck i, .chatter i] : List Instr), exec row s = .next t → Only [.rcd, .fld] s t) ∧
    (∀ (k : Fin 8) (rising : Bool) (interval : Nat), exec (.fastCountEdge k rising interval) s = .next t → Only [.rcd, .fld] s t) ∧
    (exec .fieldStale s = .next t → Only [.out, .supply, .rcd, .cmd, .sw, .drv, .fld, .can, .far, .twin] s t) ∧
    (∀ row ∈ ([.logicSilent, .fieldWatchdog] : List Instr), exec row s = .next t → Only [.fld] s t) ∧
    (∀ (off : Nat) (v : Nat), exec (.fieldConfigWrite off v) s = .next t → Only [.fld] s t) ∧
    (∀ (mask : BitVec 8), exec (.counterClear mask) s = .next t → Only [.fld] s t) ∧
    (∀ (overspeed : BitVec 8) (wrap : BitVec 8) (groups : BitVec 2) (silent : Bool) (outs : BitVec 16), exec (.fieldFlagClear overspeed wrap groups silent
      outs) s = .next t → Only [.fld] s t) ∧
    (∀ (mv : Nat), exec (.fieldStart mv) s = .next t → Only [.pwr, .fld] s t) ∧
    (∀ (o : Fin 16), exec (.foOverload o) s = .next t → Only [.rcd, .flt, .fld] s t) ∧
    (∀ (g : Fin 2) (ma : List Nat), exec (.groupLimit g ma) s = .next t → Only [.rcd, .flt, .fld] s t) ∧
    (∀ (crcOk : Bool), exec (.fieldDataWord crcOk) s = .next t → Only [.links, .rcd, .flt, .fld] s t)

/-- Spec/10, 11 and 17: packets, the data port, the identity, faults and resets: which parts of the state each of these commands may change when it answers a next state; every other part is as before. -/
def Obligations.CommandFrame : Prop :=
  ∀ s t : State,
    (∀ (via : Via) (p : List Byte), exec (.packetReceive via p) s = .next t → Only [.free, .out, .pwr, .rcd, .flt, .cmd, .sw, .drv, .fld, .can, .far,
      .twin] s t) ∧
    (∀ (r : CmdRef), exec (.commandBegin r) s = .next t → Only [.free, .out, .rcd, .cmd, .sw, .drv, .fld, .can, .far, .twin] s t) ∧
    (∀ (k : Fin 4), exec (.sessionTimeout k) s = .next t → Only [.pwr, .rcd, .flt, .cmd, .sw, .drv, .fld, .far] s t) ∧
    (∀ (r : CmdRef), ∀ row ∈ ([.ping r, .sessionClose r, .groupResume r, .groupAbort r, .fenceCmd r] : List Instr), exec row s = .next t → Only [.out,
      .rcd, .cmd, .sw, .drv, .fld, .can, .far, .twin] s t) ∧
    (∀ (r : CmdRef), ∀ row ∈ ([.info r, .getState r, .dpOpen r, .dpClose r, .dpCommit r] : List Instr), exec row s = .next t → Only [.out, .rcd, .cmd,
      .sw, .drv, .fld, .can, .far, .twin] s t) ∧
    (∀ (r : CmdRef), exec (.dpRead r) s = .next t → Only [.out, .wt, .links, .rcd, .flt, .cmd, .sw, .drv, .fld, .can, .far, .twin] s t) ∧
    (∀ (r : CmdRef), exec (.dpWrite r) s = .next t → Only [.free, .out, .mem, .supply, .clk, .ccfg, .links, .rcd, .flt, .cmd, .sw, .drv, .fld, .weft,
      .can, .nm, .eth, .far, .twin] s t) ∧
    (∀ (r : CmdRef), exec (.sessionOpen r) s = .next t → Only [.free, .out, .rcd, .cmd, .sw, .drv, .fld, .can, .far, .twin] s t) ∧
    (∀ (r : CmdRef) (m : Option Medium), exec (.updateCheck r m) s = .next t → Only [.free, .out, .rcd, .cmd, .sw, .drv, .fld, .can, .far, .twin] s t) ∧
    (∀ (otpOk : Bool) (flash : Option (List Byte)) (m : Option Medium), exec (.boot otpOk flash m) s = .next t → Only [.out, .links, .pwr, .rcd, .flt,
      .cmd, .sw, .drv, .fld, .loom, .weft, .can, .nm, .far, .twin, .id] s t) ∧
    (∀ (r : CmdRef), exec (.attest r) s = .next t → Only [.out, .rcd, .cmd, .sw, .drv, .fld, .can, .far, .twin] s t) ∧
    (∀ (r : CmdRef), ∀ row ∈ ([.keyAdd r, .keyRemove r, .weftFloorRaise r] : List Instr), exec row s = .next t → Only [.out, .rcd, .cmd, .sw, .drv, .fld,
      .can, .far, .twin, .id] s t) ∧
    (∀ (r : CmdRef) (m : Option Medium), exec (.updateArm r m) s = .next t → Only [.free, .out, .rcd, .cmd, .sw, .drv, .fld, .can, .far, .twin, .id] s t) ∧
    (∀ row ∈ ([.updateArmByWake, .wakeFalls] : List Instr), exec row s = .next t → Only [.rcd, .id] s t) ∧
    (∀ (file : List Byte), exec (.ownerClaimed file) s = .next t → Only [.rcd, .id] s t) ∧
    (∀ (m : Option Medium), exec (.updateStart m) s = .next t → Only [.free, .out, .links, .pwr, .rcd, .flt, .cmd, .sw, .drv, .fld, .loom, .weft, .can,
      .far, .twin, .acc, .id] s t) ∧
    (∀ (m : Option Medium) (flash : Option (List Byte)), exec (.updateBlock m flash) s = .next t → Only [.rcd, .flt, .id] s t) ∧
    (∀ (m : Option Medium), exec (.mediumPoll m) s = .next t → Only [.rcd, .flt, .id] s t) ∧
    (∀ (r : CmdRef), exec (.faultRead r) s = .next t → Only [.out, .rcd, .cmd, .sw, .drv, .fld, .can, .far, .twin] s t) ∧
    (∀ row ∈ ([.quietPeriodEnd, .permitRenewal, .permitExpiry] : List Instr), exec row s = .next t → Only [.rcd, .flt] s t) ∧
    (exec .faultHandler s = .next t → Only [.out, .rcd, .flt, .cmd, .sw, .drv, .fld, .weft, .can, .far, .twin] s t) ∧
    (∀ (crcOk : Bool), exec (.faultReport crcOk) s = .next t → Only [.free, .out, .mem, .supply, .clk, .wt, .links, .pwr, .rcd, .flt, .cmd, .sw, .drv,
      .fld, .loom, .weft, .can, .nm, .eth, .far, .twin, .acc, .id] s t) ∧
    (∀ (n : Isl) (ago : Nat), exec (.watchdog n ago) s = .next t → Only [.free, .out, .mem, .supply, .clk, .wt, .links, .pwr, .rcd, .flt, .cmd, .sw, .drv,
      .fld, .loom, .weft, .can, .nm, .eth, .far, .twin, .acc, .id] s t) ∧
    (∀ row ∈ ([.loomReset, .serviceCoreReset, .networkReset] : List Instr), exec row s = .next t → Only [.free, .out, .mem, .supply, .clk, .wt, .links,
      .pwr, .rcd, .flt, .cmd, .sw, .drv, .fld, .loom, .weft, .can, .nm, .eth, .far, .twin, .acc, .id] s t) ∧
    (exec .forceSafeOn s = .next t → Only [.free, .out, .pwr, .rcd, .flt, .cmd, .sw, .drv, .fld, .can, .far, .twin] s t) ∧
    (exec .forceSafeOff s = .next t → Only [.rcd, .flt] s t)

/-- Spec/12 to 14: CAN, network management, Ethernet and the Modbus bridge: which parts of the state each of these commands may change when it answers a next state; every other part is as before. -/
def Obligations.NetworkFrame : Prop :=
  ∀ s t : State,
    (∀ (c : CanNo) (f : CanFrame) (ago : Nat) (sub : Nat) (lost : Option (Fin 5)), exec (.canFrameReceive c f ago sub lost) s = .next t → Only [.free,
      .out, .clk, .pwr, .rcd, .flt, .cmd, .sw, .drv, .fld, .can, .nm, .eth, .far, .twin] s t) ∧
    (∀ (c : CanNo) (kind : Fin 5) (inData : Bool) (buf : Option (Fin 5)) (dataField : Bool) (heavy : Bool) (ago : Nat) (tdcv : Option Nat), exec
      (.canError c kind inData buf dataField heavy ago tdcv) s = .next t → Only [.out, .rcd, .cmd, .sw, .drv, .fld, .can, .nm, .far, .twin] s t) ∧
    (∀ (c : CanNo) (b : Fin 5) (ago : Nat) (tdcv : Nat), exec (.canTxComplete c b ago tdcv) s = .next t → Only [.out, .rcd, .cmd, .sw, .drv, .fld, .can,
      .nm, .far, .twin] s t) ∧
    (∀ (c : CanNo) (b : Fin 3), exec (.canAbort c b) s = .next t → Only [.out, .rcd, .cmd, .sw, .drv, .fld, .can, .nm, .far, .twin] s t) ∧
    (∀ (r : CmdRef), exec (.canConfig r) s = .next t → Only [.out, .rcd, .cmd, .sw, .drv, .fld, .can, .nm, .far, .twin] s t) ∧
    (∀ (c : CanNo), exec (.protocolException c) s = .next t → Only [.rcd, .can, .nm] s t) ∧
    (∀ (c : CanNo), ∀ row ∈ ([.errorPassive c, .busOff c] : List Instr), exec row s = .next t → Only [.rcd, .flt, .can] s t) ∧
    (∀ (c : CanNo) (b : Fin 5), exec (.idclash c b) s = .next t → Only [.rcd, .flt, .can] s t) ∧
    (∀ (c : CanNo), ∀ row ∈ ([.errorActive c, .busRecovered c] : List Instr), exec row s = .next t → Only [.rcd, .can] s t) ∧
    (∀ (c : CanNo), exec (.busIntegrated c) s = .next t → Only [.can] s t) ∧
    (∀ (r : CmdRef), ∀ row ∈ ([.canFilter r, .canStatus r] : List Instr), exec row s = .next t → Only [.out, .rcd, .cmd, .sw, .drv, .fld, .can, .far,
      .twin] s t) ∧
    (∀ (r : CmdRef), exec (.canSend r) s = .next t → Only [.free, .out, .rcd, .cmd, .sw, .drv, .fld, .can, .nm, .far, .twin] s t) ∧
    (∀ (crcOk : Bool), ∀ row ∈ ([.canPeek crcOk, .canStatusRequest crcOk] : List Instr), exec row s = .next t → Only [.free, .links, .rcd, .flt] s t) ∧
    (∀ (crcOk : Bool), ∀ row ∈ ([.canCommit crcOk, .networkCmdInvalid crcOk] : List Instr), exec row s = .next t → Only [.free, .links, .rcd, .flt, .can]
      s t) ∧
    (∀ (crcOk : Bool), exec (.canTx crcOk) s = .next t → Only [.free, .links, .rcd, .flt, .can, .nm] s t) ∧
    (∀ (c : CanNo), ∀ row ∈ ([.nmFrameSend c, .nmTimeout c, .repeatEnd c] : List Instr), exec row s = .next t → Only [.can, .nm] s t) ∧
    (∀ (c : CanNo), ∀ row ∈ ([.nmSleep c, .wufErrwake c] : List Instr), exec row s = .next t → Only [.free, .pwr, .rcd, .can, .nm] s t) ∧
    (∀ (c : CanNo) (seen : Seen), exec (.canWakeDetect c seen) s = .next t → Only [.free, .pwr, .rcd, .can, .nm] s t) ∧
    (∀ (c : CanNo), exec (.falseWake c) s = .next t → Only [.rcd, .can, .nm] s t) ∧
    (∀ (c : CanNo), exec (.maxAwake c) s = .next t → Only [.rcd, .flt, .can, .nm, .eth] s t) ∧
    (∀ (c : CanNo), exec (.nmKeeper c) s = .next t → Only [.rcd, .nm] s t) ∧
    (∀ (r : CmdRef), ∀ row ∈ ([.nmConfig r, .nmRequest r, .nmRequestRepeat r, .nmRelease r] : List Instr), exec row s = .next t → Only [.out, .rcd, .cmd,
      .sw, .drv, .fld, .can, .nm, .eth, .far, .twin] s t) ∧
    (∀ (p : PortNo), exec (.tc10SleepRequest p) s = .next t → Only [.out, .eth] s t) ∧
    (∀ (p : PortNo), exec (.tc10SleepReceive p) s = .next t → Only [.out, .rcd, .eth] s t) ∧
    (∀ (p : PortNo), exec (.tc10Wake p) s = .next t → Only [.out, .pwr, .rcd, .eth] s t) ∧
    (∀ (p : PortNo) (ack : Bool), exec (.tc10SleepAcknowledge p ack) s = .next t → Only [.rcd, .eth] s t) ∧
    (∀ (p : PortNo) (frame : List Byte), exec (.ethFrameReceive p frame) s = .next t → Only [.out, .clk, .pwr, .rcd, .flt, .eth] s t) ∧
    (∀ (addr : Nat), exec (.macAgeOut addr) s = .next t → Only [.eth] s t) ∧
    (exec .macTableFull s = .next t → Only [.rcd, .eth] s t) ∧
    (∀ (p : PortNo), exec (.linkUp p) s = .next t → Only [.rcd, .eth] s t) ∧
    (∀ (p : PortNo), exec (.linkDown p) s = .next t → Only [.rcd, .flt, .eth] s t) ∧
    (∀ (p : PortNo) (ns : Nat), exec (.pdelayMeasure p ns) s = .next t → Only [.out, .eth] s t) ∧
    (∀ (c : CanNo), exec (.tunnelAvtpduClose c) s = .next t → Only [.out, .eth] s t) ∧
    (∀ (p : PortNo), exec (.gptpSync p) s = .next t → Only [.clk, .rcd, .eth] s t) ∧
    (∀ (p : PortNo) (next : Fin 4), exec (.gptpLost p next) s = .next t → Only [.clk, .wt, .rcd, .eth] s t) ∧
    (∀ (grant : Option Lease) (other : Option Nat), exec (.ipAddress grant other) s = .next t → Only [.out, .pwr, .rcd, .flt, .eth] s t) ∧
    (∀ (extends_ : Option Nat) (other : Option Nat), exec (.dhcpRenewal extends_ other) s = .next t → Only [.out, .pwr, .rcd, .flt, .eth] s t) ∧
    (∀ (other : Option Nat), exec (.dhcpLeaseLost other) s = .next t → Only [.out, .pwr, .rcd, .flt, .eth] s t) ∧
    (∀ (p : FarNo), exec (.farTransactionStart p) s = .next t → Only [.out, .far] s t) ∧
    (∀ (p : FarNo) (frame : List Byte) (charError : Bool), exec (.modbusFrameReceive p frame charError) s = .next t → Only [.out, .rcd, .flt, .cmd, .sw,
      .drv, .fld, .can, .far, .twin] s t) ∧
    (∀ (p : FarNo), ∀ row ∈ ([.farTimeout p, .farTurnaroundEnd p, .heddleWaitExpiry p] : List Instr), exec row s = .next t → Only [.out, .rcd, .flt, .cmd,
      .sw, .drv, .fld, .can, .far, .twin] s t) ∧
    (∀ (p : FarNo), exec (.lockExpired p) s = .next t → Only [.rcd, .flt, .far] s t) ∧
    (∀ (r : CmdRef), ∀ row ∈ ([.farRead r, .farWrite r, .farLock r, .farUnlock r] : List Instr), exec row s = .next t → Only [.out, .rcd, .cmd, .sw, .drv,
      .fld, .can, .far, .twin] s t)

/-- Spec/15 and 16: the twin pair and door access: which parts of the state each of these commands may change when it answers a next state; every other part is as before. -/
def Obligations.TwinAndAccessFrame : Prop :=
  ∀ s t : State,
    (∀ row ∈ ([.twinLinkUp, .pairingRetry] : List Instr), exec row s = .next t → Only [.free, .out, .twin] s t) ∧
    (∀ (detached : Bool), exec (.twinLinkDown detached) s = .next t → Only [.free, .out, .rcd, .flt, .cmd, .sw, .drv, .fld, .can, .far, .twin] s t) ∧
    (∀ (seq : Nat), exec (.twinRetransmit seq) s = .next t → Only [.free, .out, .rcd, .flt, .cmd, .sw, .drv, .fld, .can, .far, .twin] s t) ∧
    (exec .mirrorAckTimeout s = .next t → Only [.free, .out, .rcd, .flt, .cmd, .sw, .drv, .fld, .can, .far, .twin] s t) ∧
    (∀ (f : List Byte), exec (.twinHello f) s = .next t → Only [.free, .out, .rcd, .twin] s t) ∧
    (∀ (f : List Byte), exec (.twinAttest f) s = .next t → Only [.out, .pwr, .rcd, .sw, .can, .twin, .acc] s t) ∧
    (∀ (f : List Byte), exec (.twinPaired f) s = .next t → Only [.free, .out, .pwr, .rcd, .cmd, .sw, .drv, .fld, .can, .far, .twin, .acc] s t) ∧
    (∀ (f : List Byte) (leadRuns : Bool), exec (.twinWeft f leadRuns) s = .next t → Only [.free, .out, .mem, .wt, .rcd, .cmd, .sw, .drv, .fld, .loom,
      .weft, .can, .far, .twin] s t) ∧
    (∀ (f : List Byte) (ofs : Int), exec (.twinHeartbeat f ofs) s = .next t → Only [.out, .wt, .rcd, .sw, .twin] s t) ∧
    (∀ (f : List Byte), exec (.twinMirror f) s = .next t → Only [.out, .mem, .wt, .rcd, .sw, .loom, .weft, .twin] s t) ∧
    (∀ (f : List Byte), exec (.twinConfigFrame f) s = .next t → Only [.free, .out, .mem, .pwr, .rcd, .cmd, .sw, .drv, .fld, .can, .far, .twin, .acc] s t) ∧
    (∀ (f : List Byte), exec (.twinLoomData f) s = .next t → Only [.out, .mem, .twin] s t) ∧
    (∀ (f : List Byte), exec (.twinAck f) s = .next t → Only [.free, .out, .mem, .rcd, .cmd, .sw, .drv, .fld, .weft, .can, .far, .twin] s t) ∧
    (∀ (f : List Byte), exec (.twinRelease f) s = .next t → Only [.out, .twin] s t) ∧
    (∀ (n : Isl), exec (.pllLost n) s = .next t → Only [.free, .out, .clk, .wt, .pwr, .rcd, .flt, .cmd, .sw, .drv, .fld, .loom, .weft, .can, .eth, .far,
      .twin, .acc] s t) ∧
    (∀ (f : List Byte), ∀ row ∈ ([.handoverRequest f, .handoverAccept f] : List Instr), exec row s = .next t → Only [.out, .twin] s t) ∧
    (∀ (f : List Byte), exec (.handoverRefuse f) s = .next t → Only [.out, .rcd, .cmd, .sw, .drv, .fld, .can, .far, .twin] s t) ∧
    (∀ (r : CmdRef), ∀ row ∈ ([.twinHandover r, .twinStatus r] : List Instr), exec row s = .next t → Only [.out, .rcd, .cmd, .sw, .drv, .fld, .can, .far,
      .twin] s t) ∧
    (∀ (f : List Byte), exec (.handoverGo f) s = .next t → Only [.free, .out, .pwr, .rcd, .cmd, .sw, .drv, .fld, .can, .far, .twin, .acc] s t) ∧
    (exec .handoverComplete s = .next t → Only [.free, .out, .pwr, .rcd, .cmd, .sw, .drv, .fld, .can, .far, .twin, .acc] s t) ∧
    (∀ (low : Bool), exec (.tokenReleaseHoldEnd low) s = .next t → Only [.free, .out, .pwr, .rcd, .cmd, .sw, .drv, .fld, .can, .far, .twin, .acc] s t) ∧
    (∀ (r : CmdRef), exec (.twinConfig r) s = .next t → Only [.free, .out, .pwr, .rcd, .cmd, .sw, .drv, .fld, .can, .far, .twin, .acc] s t) ∧
    (∀ (deciohm : Nat) (low : Bool), exec (.cableSense deciohm low) s = .next t → Only [.twin] s t) ∧
    (exec .takeover s = .next t → Only [.free, .out, .pwr, .rcd, .flt, .cmd, .sw, .drv, .fld, .can, .far, .twin, .acc] s t) ∧
    (∀ (low : Bool), exec (.loneLead low) s = .next t → Only [.pwr, .rcd, .sw, .can, .twin, .acc] s t) ∧
    (∀ (crcOk : Bool), exec (.fieldFrameReceive crcOk) s = .next t → Only [.out, .supply, .rcd, .flt, .cmd, .sw, .drv, .fld, .can, .far, .twin, .acc] s t) ∧
    (exec .burstStart s = .next t → Only [.pwr, .acc] s t) ∧
    (∀ (seen : Vector SlotSeen 8), exec (.uwbPoll seen) s = .next t → Only [.free, .out, .pwr, .rcd, .acc] s t) ∧
    (exec .burstEnd s = .next t → Only [.pwr, .rcd, .acc] s t) ∧
    (∀ row ∈ ([.failureDelayEnd, .failDecay] : List Instr), exec row s = .next t → Only [.acc] s t) ∧
    (exec .leaseExpiry s = .next t → Only [.rcd, .can, .acc] s t) ∧
    (∀ (r : CmdRef), ∀ row ∈ ([.tokenEnrol r, .tokenRevoke r, .releaseConfigUnpair r, .releaseConfigRenew r, .lockout r, .clearLockout r, .clearTamper r]
      : List Instr), exec row s = .next t → Only [.out, .rcd, .cmd, .sw, .drv, .fld, .can, .far, .twin, .acc] s t) ∧
    (∀ (r : CmdRef), exec (.tokenList r) s = .next t → Only [.out, .rcd, .cmd, .sw, .drv, .fld, .can, .far, .twin] s t) ∧
    (∀ (r : CmdRef), exec (.releaseConfigSet r) s = .next t → Only [.out, .pwr, .rcd, .cmd, .sw, .drv, .fld, .can, .far, .twin, .acc] s t) ∧
    (∀ (r : CmdRef), exec (.releaseConfigPair r) s = .next t → Only [.free, .out, .rcd, .cmd, .sw, .drv, .fld, .can, .far, .twin, .acc] s t) ∧
    (exec .releaseStopped s = .next t → Only [.rcd, .can, .acc] s t)

/-- Spec/05 to 09 and 12 to 14: an event or a command on one channel, coil, input, counter, network channel or port leaves every other of its kind.
A retry does so when its profile is valid, CONTROL_UPDATE but for the other channel of its bank (R201). Where a command ends with the event, its
session may close with its last reply, whose waiting commands then go (R280, R282). -/
def Obligations.OtherObjectsKept : Prop :=
  ∀ s t : State,
    (∀ (c d : ChNo) (n m k : Nat) (tj : Int), d ≠ c →
      ∀ row ∈ ([.pwmOffEdge c, .pulseEnd c, .profileSegmentEnd c, .scanSample c n m tj k, .peakReset c, .coolingLimit c, .retryWindowExpiry c,
          .orphanSafe c, .openLoadOnDetect c, .loadReturnedOn c, .openLoadOffDetect c n, .loadReturnedOff c n, .shortTrip c n, .overcurrentTrip c,
          .thermalShutdown c tj] : List Instr), exec row s = .next t → t.chan d = s.chan d) ∧
    (∀ (c d : ChNo) (tj : Int), d ≠ c → profValid (s.profile (s.chan c).cfg.profile) = true →
      ∀ row ∈ ([.pauseExpiry c tj, .coolingRestart c tj] : List Instr), exec row s = .next t → t.chan d = s.chan d) ∧
    (∀ (c d : AcNo) (n m : Nat), d ≠ c →
      ∀ row ∈ ([.boostCut c n m, .boostGrant c, .decayEnd c, .freewheelLatchExpiry c, .holdUnreachable c, .clearLearned c] : List Instr),
        exec row s = .next t → t.coil d = s.coil d) ∧
    (∀ (c d : AcNo) (n m k : Nat) (u : Int), d ≠ c →
      ∀ row ∈ ([.bankDeferExpiry c, .actuatorFire c, .actuatorRelease c, .controlUpdate c n u m k, .openCoil c, .shortedCoil c n,
          .actuatorOrphanSafe c] : List Instr),
        (row = .controlUpdate c n u m k → d ≠ acOther c) → exec row s = .next t →
        (t.coil d).waiting.Sublist (s.coil d).waiting ∧ t.coil d = { s.coil d with waiting := (t.coil d).waiting }) ∧
    (∀ i j : Fin 24, j ≠ i → ∀ row ∈ ([.stuck i, .chatter i] : List Instr), exec row s = .next t → t.side.inputs.get j = s.side.inputs.get j) ∧
    (∀ (k j : Fin 8) (rising : Bool) (n : Nat), j ≠ k → exec (.fastCountEdge k rising n) s = .next t →
      t.side.counters.get j = s.side.counters.get j) ∧
    (∀ (c d : CanNo) (b : Fin 5), d ≠ c →
      ∀ row ∈ ([.protocolException c, .errorPassive c, .errorActive c, .busOff c, .busRecovered c, .busIntegrated c, .idclash c b] : List Instr),
        exec row s = .next t → t.canCh d = s.canCh d) ∧
    (∀ (c d : CanNo) (x : Seen), d ≠ c →
      ∀ row ∈ ([.nmFrameSend c, .nmTimeout c, .repeatEnd c, .nmSleep c, .falseWake c, .nmKeeper c, .canWakeDetect c x, .wufErrwake c] : List Instr),
        exec row s = .next t → t.nmCh d = s.nmCh d ∧ t.canCh d = s.canCh d) ∧
    (∀ (p q : PortNo) (n : Nat) (b : Bool), q ≠ p →
      ∀ row ∈ ([.linkUp p, .linkDown p, .pdelayMeasure p n, .tc10SleepRequest p, .tc10SleepReceive p, .tc10SleepAcknowledge p b] : List Instr),
        exec row s = .next t → t.port q = s.port q) ∧
    ∀ p q : FarNo, q ≠ p → ∀ row ∈ ([.farTransactionStart p, .lockExpired p] : List Instr), exec row s = .next t → t.farPort q = s.farPort q

/-- Spec/05, 07, 10 and 15 and R436: a reset of the switch island blanks its user profiles only, one of the drive island its bobbin store only; a bobbin
program loads into its own 256 bytes; a data-port burst stays in its window; the twin's Loom data goes to the twin mailbox; the selvedge writes
the access words and, at a swap, the ownership word. Every other byte of memory reads as before. -/
def Obligations.MemoryFrame : Prop :=
  ∀ s t : State, Memory.wf s.mem = true →
    (exec .switchReset s = .next t → OnlyBytes 0x21000100 0x21000200 s t) ∧
    (exec .driveReset s = .next t → OnlyBytes 0x22100100 0x22101000 s t) ∧
    (∀ (r : CmdRef) (q : Cmd), s.begun r = some q → exec (.acLoadBobbin r) s = .next t →
      OnlyBytes (bobAddr (u8 q.params 0)) (bobAddr (u8 q.params 0) + 0x100) s t) ∧
    (∀ (r : CmdRef) (q : Cmd) (w : Window), s.begun r = some q → s.window q (u8 q.params 0) = some w → exec (.dpWrite r) s = .next t →
      OnlyBytes w.base (w.base + w.length) s t) ∧
    (∀ f, exec (.twinLoomData f) s = .next t → OnlyBytes 0x1000EFFC 0x10010000 s t) ∧
    (exec .selvedgeCommit s = .next t →
      ∀ a, (a < 0x1000EFC0 ∨ 0x1000EFE0 ≤ a) →
        (∀ x w p, s.weft.swapping = some x → s.weft.store.get x.target = some w → w.decl.status = some p → a < p ∨ p + 8 ≤ a) →
        Memory.read t.mem a = Memory.read s.mem a)
end

