-- ==== Sys2Proof/Laws/Keeps.lean ====
section
/-! SUPPORT. The relation `Keeps`: from one state to a later one, only the listed parts have changed, memory keeps its canonical form, and
neither true time nor the count of free values goes back. How it composes. -/

namespace Sys2Proof.Laws

open Sys2Proof Sys2Proof.Machine

/-- Only the listed parts may have changed; memory keeps its form; true time and the count of free values do not go back. -/
structure Keeps (ps : List Part) (s t : State) : Prop where
  only  : Only ps s t
  form  : Memory.wf s.mem = true → Memory.wf t.mem = true
  time  : s.now ≤ t.now
  drawn : s.free ≤ t.free

theorem keeps_refl (m : List Part) (s : State) : Keeps m s s :=
  ⟨⟨fun p _ => by cases p <;> rfl⟩, id, Nat.le_refl _, Nat.le_refl _⟩

theorem keeps_trans {m : List Part} {s t u : State} (h : Keeps m s t) (k : Keeps m t u) : Keeps m s u :=
  ⟨⟨fun p hp => by
      have a := h.only.same p hp
      have b := k.only.same p hp
      cases p <;> exact b.trans a⟩,
    fun e => k.form (h.form e), Nat.le_trans h.time k.time, Nat.le_trans h.drawn k.drawn⟩

theorem keeps_mono {a m : List Part} {s t : State} (h : Keeps a s t) (k : a ⊆ m) : Keeps m s t :=
  ⟨⟨fun p hp => h.only.same p fun q => hp (k q)⟩, h.form, h.time, h.drawn⟩

/-- A last operation with a smaller footprint. -/
theorem keeps_step {a m : List Part} {s t u : State} (h : Keeps a t u) (k : a ⊆ m) (g : Keeps m s t) : Keeps m s u :=
  keeps_trans g (keeps_mono h k)

theorem keeps_ite {m : List Part} {s t u : State} {c : Prop} [Decidable c] (h : Keeps m s t) (k : Keeps m s u) :
    Keeps m s (if c then t else u) := by
  split
  · exact h
  · exact k

theorem keeps_of_eq {α : Type} {m : List Part} {s t : State} {p : α × State} {a : α} (e : p = (a, t)) (h : Keeps m s p.2) :
    Keeps m s t := by subst e; exact h

theorem keeps_of_eq1 {α : Type} {m : List Part} {s t : State} {p : State × α} {a : α} (e : p = (t, a)) (h : Keeps m s p.1) :
    Keeps m s t := by subst e; exact h

theorem keeps_of_eq2 {α β : Type} {m : List Part} {s t : State} {p : α × β × State} {a : α} {b : β} (e : p = (a, b, t))
    (h : Keeps m s p.2.2) : Keeps m s t := by subst e; exact h

theorem keeps_dite {m : List Part} {s : State} {c : Prop} [Decidable c] {f : c → State} {g : ¬c → State} (h : ∀ x, Keeps m s (f x))
    (k : ∀ x, Keeps m s (g x)) : Keeps m s (if x : c then f x else g x) := by
  split
  · exact h _
  · exact k _

theorem keeps_dite_pair {α : Type} {m : List Part} {s : State} {c : Prop} [Decidable c] {f : c → α × State} {g : ¬c → α × State}
    (h : ∀ x, Keeps m s (f x).2) (k : ∀ x, Keeps m s (g x).2) : Keeps m s (if x : c then f x else g x).2 := by
  split
  · exact h _
  · exact k _

theorem keeps_ite_pair {α : Type} {m : List Part} {s : State} {c : Prop} [Decidable c] {p q : α × State}
    (h : Keeps m s p.2) (k : Keeps m s q.2) : Keeps m s (if c then p else q).2 := by
  split
  · exact h
  · exact k

theorem keeps_of_some {m : List Part} {s t u : State} {o : Option State} (e : o = some t) (h : Keeps m s (o.getD u)) : Keeps m s t := by
  subst e; exact h

theorem keeps_foldl1 {α β : Type} {m : List Part} {f : State × β → α → State × β} {s : State} {p : State × β} (l : List α)
    (h : ∀ p x, Keeps m p.1 (f p x).1) (g : Keeps m s p.1) : Keeps m s (l.foldl f p).1 := by
  induction l generalizing p with
  | nil => exact g
  | cons x l ih => exact ih (keeps_trans g (h p x))

theorem keeps_foldl {α : Type} {m : List Part} {f : State → α → State} {s t : State} (l : List α)
    (h : ∀ t x, Keeps m t (f t x)) (g : Keeps m s t) : Keeps m s (l.foldl f t) := by
  induction l generalizing t with
  | nil => exact g
  | cons x l ih => exact ih (keeps_trans g (h t x))

theorem keeps_forEach {α : Type} {m : List Part} {f : α → State → State} {s t : State} {l : List α}
    (h : ∀ x t, Keeps m t (f x t)) (g : Keeps m s t) : Keeps m s (t.forEach l f) :=
  keeps_foldl l (fun t x => h x t) g

end Sys2Proof.Laws
end

