-- ==== Sys2Proof/Laws/KeepsShared.lean ====
section
/-! SUPPORT. What each operation leaves alone: the operations every family shares. -/

namespace Sys2Proof.Laws

open Sys2Proof Sys2Proof.Machine

set_option linter.all false

variable {m : List Part} {s : State}

theorem onRcd_keeps {t x1} (k : [.rcd] ⊆ m) (g : Keeps m s t) : Keeps m s (State.onRcd t x1) := by
  refine keeps_step (t := t) ⟨⟨fun p h => ?_⟩, id, Nat.le_refl _, Nat.le_refl _⟩ k g; cases p <;> first | rfl | exact absurd (by decide) h

theorem recordSev_keeps {t x1 x2 x3 x4 x5 x6} (k : [.rcd] ⊆ m) (g : Keeps m s t) : Keeps m s (State.recordSev t x1 x2 x3 x4 x5 x6) := by
  refine keeps_step ?_ k g; unfold State.recordSev
  repeat' first | (with_reducible first | exact keeps_refl _ _ | apply onRcd_keeps) | decide | split | dsimp only

theorem record_keeps {t x1 x2 x3 x4 x5} (k : [.rcd] ⊆ m) (g : Keeps m s t) : Keeps m s (State.record t x1 x2 x3 x4 x5) := by
  refine keeps_step ?_ k g; unfold State.record
  repeat' first | (with_reducible first | exact keeps_refl _ _ | apply recordSev_keeps) | decide | split | dsimp only

theorem onFlt_keeps {t x1} (k : [.flt] ⊆ m) (g : Keeps m s t) : Keeps m s (State.onFlt t x1) := by
  refine keeps_step (t := t) ⟨⟨fun p h => ?_⟩, id, Nat.le_refl _, Nat.le_refl _⟩ k g; cases p <;> first | rfl | exact absurd (by decide) h

theorem faultWord_keeps {t x1 x2 x3 x4 x5 x6} (k : [.flt] ⊆ m) (g : Keeps m s t) : Keeps m s (State.faultWord t x1 x2 x3 x4 x5 x6) := by
  refine keeps_step ?_ k g; unfold State.faultWord
  repeat' first | (with_reducible first | exact keeps_refl _ _ | apply onFlt_keeps) | decide | split | dsimp only

theorem fault_keeps {t x1 x2 x3 x4 x5 x6} (k : [.rcd, .flt] ⊆ m) (g : Keeps m s t) : Keeps m s (State.fault t x1 x2 x3 x4 x5 x6) := by
  refine keeps_step ?_ k g; unfold State.fault
  repeat' first | (with_reducible first | exact keeps_refl _ _ | apply faultWord_keeps | apply recordSev_keeps) | decide | split | dsimp only

theorem planFault_keeps {t x1 x2 x3 x4 x5 x6} (k : [.rcd, .flt] ⊆ m) (g : Keeps m s t) : Keeps m s (State.planFault t x1 x2 x3 x4 x5 x6) := by
  refine keeps_step ?_ k g; unfold State.planFault
  repeat' first | (with_reducible first | exact keeps_refl _ _ | apply record_keeps | apply fault_keeps | apply onFlt_keeps | apply keeps_ite) | decide | split | dsimp only

theorem onTwin_keeps {t x1} (k : [.twin] ⊆ m) (g : Keeps m s t) : Keeps m s (State.onTwin t x1) := by
  refine keeps_step (t := t) ⟨⟨fun p h => ?_⟩, id, Nat.le_refl _, Nat.le_refl _⟩ k g; cases p <;> first | rfl | exact absurd (by decide) h

theorem onEth_keeps {t x1} (k : [.eth] ⊆ m) (g : Keeps m s t) : Keeps m s (State.onEth t x1) := by
  refine keeps_step (t := t) ⟨⟨fun p h => ?_⟩, id, Nat.le_refl _, Nat.le_refl _⟩ k g; cases p <;> first | rfl | exact absurd (by decide) h

theorem send_keeps {t x1} (k : [.out] ⊆ m) (g : Keeps m s t) : Keeps m s (State.send t x1) := by
  refine keeps_step (t := t) ⟨⟨fun p h => ?_⟩, id, Nat.le_refl _, Nat.le_refl _⟩ k g; cases p <;> first | rfl | exact absurd (by decide) h

theorem recordIf_keeps {x0 t x2 x3 x4 x5 x6} (k : [.rcd] ⊆ m) (g : Keeps m s t) : Keeps m s (State.recordIf x0 t x2 x3 x4 x5 x6) := by
  refine keeps_step ?_ k g; unfold State.recordIf
  repeat' first | (with_reducible first | exact keeps_refl _ _ | apply record_keeps | apply keeps_ite) | decide | split | dsimp only

theorem writeMem_keeps {t x1 x2} (k : [.mem] ⊆ m) (g : Keeps m s t) : Keeps m s (State.writeMem t x1 x2) := by
  refine keeps_step (t := t) ⟨⟨fun p h => ?_⟩, Memory.wf_writeBytes _ _, Nat.le_refl _, Nat.le_refl _⟩ k g; cases p <;> first | rfl | exact absurd (by decide) h

theorem planRecord_keeps {t x1 x2 x3 x4 x5} (k : [.rcd] ⊆ m) (g : Keeps m s t) : Keeps m s (State.planRecord t x1 x2 x3 x4 x5) := by
  refine keeps_step ?_ k g; unfold State.planRecord
  repeat' first | (with_reducible first | exact keeps_refl _ _ | apply recordSev_keeps) | decide | split | dsimp only

theorem wdtStart_keeps {t x1} (k : [.flt] ⊆ m) (g : Keeps m s t) : Keeps m s (State.wdtStart t x1) := by
  refine keeps_step ?_ k g; unfold State.wdtStart
  repeat' first | (with_reducible first | exact keeps_refl _ _ | apply onFlt_keeps | apply keeps_ite) | decide | split | dsimp only

theorem onAcc_keeps {t x1} (k : [.acc] ⊆ m) (g : Keeps m s t) : Keeps m s (State.onAcc t x1) := by
  refine keeps_step (t := t) ⟨⟨fun p h => ?_⟩, id, Nat.le_refl _, Nat.le_refl _⟩ k g; cases p <;> first | rfl | exact absurd (by decide) h

theorem onClk_keeps {t x1} (k : [.clk] ⊆ m) (g : Keeps m s t) : Keeps m s (State.onClk t x1) := by
  refine keeps_step (t := t) ⟨⟨fun p h => ?_⟩, id, Nat.le_refl _, Nat.le_refl _⟩ k g; cases p <;> first | rfl | exact absurd (by decide) h

theorem onLoom_keeps {t x1} (k : [.loom] ⊆ m) (g : Keeps m s t) : Keeps m s (State.onLoom t x1) := by
  refine keeps_step (t := t) ⟨⟨fun p h => ?_⟩, id, Nat.le_refl _, Nat.le_refl _⟩ k g; cases p <;> first | rfl | exact absurd (by decide) h

theorem islandPlanFault_keeps {t x1 x2 x3 x4 x5} (k : [.rcd, .flt] ⊆ m) (g : Keeps m s t) : Keeps m s (State.islandPlanFault t x1 x2 x3 x4 x5) := by
  refine keeps_step ?_ k g; unfold State.islandPlanFault
  repeat' first | (with_reducible first | exact keeps_refl _ _ | apply planFault_keeps) | decide | split | dsimp only

theorem onSw_keeps {t x1} (k : [.sw] ⊆ m) (g : Keeps m s t) : Keeps m s (State.onSw t x1) := by
  refine keeps_step (t := t) ⟨⟨fun p h => ?_⟩, id, Nat.le_refl _, Nat.le_refl _⟩ k g; cases p <;> first | rfl | exact absurd (by decide) h

theorem clearMem_keeps {t x1 x2} (k : [.mem] ⊆ m) (g : Keeps m s t) : Keeps m s (State.clearMem t x1 x2) := by
  refine keeps_step (t := t) ⟨⟨fun p h => ?_⟩, Memory.wf_clear _ _, Nat.le_refl _, Nat.le_refl _⟩ k g; cases p <;> first | rfl | exact absurd (by decide) h

theorem onWt_keeps {t x1} (k : [.wt] ⊆ m) (g : Keeps m s t) : Keeps m s (State.onWt t x1) := by
  refine keeps_step (t := t) ⟨⟨fun p h => ?_⟩, id, Nat.le_refl _, Nat.le_refl _⟩ k g; cases p <;> first | rfl | exact absurd (by decide) h

theorem onCmd_keeps {t x1} (k : [.cmd] ⊆ m) (g : Keeps m s t) : Keeps m s (State.onCmd t x1) := by
  refine keeps_step (t := t) ⟨⟨fun p h => ?_⟩, id, Nat.le_refl _, Nat.le_refl _⟩ k g; cases p <;> first | rfl | exact absurd (by decide) h

theorem onLinks_keeps {t x1} (k : [.links] ⊆ m) (g : Keeps m s t) : Keeps m s (State.onLinks t x1) := by
  refine keeps_step (t := t) ⟨⟨fun p h => ?_⟩, id, Nat.le_refl _, Nat.le_refl _⟩ k g; cases p <;> first | rfl | exact absurd (by decide) h

theorem onWeft_keeps {t x1} (k : [.weft] ⊆ m) (g : Keeps m s t) : Keeps m s (State.onWeft t x1) := by
  refine keeps_step (t := t) ⟨⟨fun p h => ?_⟩, id, Nat.le_refl _, Nat.le_refl _⟩ k g; cases p <;> first | rfl | exact absurd (by decide) h

theorem onFar_keeps {t x1} (k : [.far] ⊆ m) (g : Keeps m s t) : Keeps m s (State.onFar t x1) := by
  refine keeps_step (t := t) ⟨⟨fun p h => ?_⟩, id, Nat.le_refl _, Nat.le_refl _⟩ k g; cases p <;> first | rfl | exact absurd (by decide) h

theorem onSupply_keeps {t x1} (k : [.supply] ⊆ m) (g : Keeps m s t) : Keeps m s (State.onSupply t x1) := by
  refine keeps_step (t := t) ⟨⟨fun p h => ?_⟩, id, Nat.le_refl _, Nat.le_refl _⟩ k g; cases p <;> first | rfl | exact absurd (by decide) h

theorem onCan_keeps {t x1} (k : [.can] ⊆ m) (g : Keeps m s t) : Keeps m s (State.onCan t x1) := by
  refine keeps_step (t := t) ⟨⟨fun p h => ?_⟩, id, Nat.le_refl _, Nat.le_refl _⟩ k g; cases p <;> first | rfl | exact absurd (by decide) h

theorem draw_keeps {t} (k : [.free] ⊆ m) (g : Keeps m s t) : Keeps m s (State.draw t).2 := by
  refine keeps_step (t := t) ⟨⟨fun p h => ?_⟩, id, Nat.le_refl _, Nat.le_succ _⟩ k g; cases p <;> first | rfl | exact absurd (by decide) h

theorem faultEvent_keeps {t x1 x2 x3 x4 x5 x6 x7} (k : [.rcd, .flt] ⊆ m) (g : Keeps m s t) : Keeps m s (State.faultEvent t x1 x2 x3 x4 x5 x6 x7) := by
  refine keeps_step ?_ k g; unfold State.faultEvent
  repeat' first | (with_reducible first | exact keeps_refl _ _ | apply faultWord_keeps | apply recordSev_keeps) | decide | split | dsimp only

theorem onPwr_keeps {t x1} (k : [.pwr] ⊆ m) (g : Keeps m s t) : Keeps m s (State.onPwr t x1) := by
  refine keeps_step (t := t) ⟨⟨fun p h => ?_⟩, id, Nat.le_refl _, Nat.le_refl _⟩ k g; cases p <;> first | rfl | exact absurd (by decide) h

theorem onDrv_keeps {t x1} (k : [.drv] ⊆ m) (g : Keeps m s t) : Keeps m s (State.onDrv t x1) := by
  refine keeps_step (t := t) ⟨⟨fun p h => ?_⟩, id, Nat.le_refl _, Nat.le_refl _⟩ k g; cases p <;> first | rfl | exact absurd (by decide) h

theorem railUpdate_keeps {t} (k : [.drv] ⊆ m) (g : Keeps m s t) : Keeps m s (State.railUpdate t) := by
  refine keeps_step ?_ k g; unfold State.railUpdate
  repeat' first | (with_reducible first | exact keeps_refl _ _ | apply onDrv_keeps | apply keeps_ite) | decide | split | dsimp only

theorem onId_keeps {t x1} (k : [.id] ⊆ m) (g : Keeps m s t) : Keeps m s (State.onId t x1) := by
  refine keeps_step (t := t) ⟨⟨fun p h => ?_⟩, id, Nat.le_refl _, Nat.le_refl _⟩ k g; cases p <;> first | rfl | exact absurd (by decide) h

theorem onFld_keeps {t x1} (k : [.fld] ⊆ m) (g : Keeps m s t) : Keeps m s (State.onFld t x1) := by
  refine keeps_step (t := t) ⟨⟨fun p h => ?_⟩, id, Nat.le_refl _, Nat.le_refl _⟩ k g; cases p <;> first | rfl | exact absurd (by decide) h

theorem drawBytes_keeps {x0 t} (k : [.free] ⊆ m) (g : Keeps m s t) : Keeps m s (State.drawBytes x0 t).2 := by
  induction x0 generalizing t with
  | zero =>
    unfold State.drawBytes
    repeat' first | exact k | (with_reducible first | assumption | apply draw_keeps | refine keeps_of_eq (by assumption) ?_) | exact List.Subset.trans (by decide) k | split | dsimp only
  | succ n ih =>
    unfold State.drawBytes
    repeat' first | exact k | (with_reducible first | assumption | apply ih | apply draw_keeps | refine keeps_of_eq (by assumption) ?_) | exact List.Subset.trans (by decide) k | split | dsimp only

theorem onNm_keeps {t x1} (k : [.nm] ⊆ m) (g : Keeps m s t) : Keeps m s (State.onNm t x1) := by
  refine keeps_step (t := t) ⟨⟨fun p h => ?_⟩, id, Nat.le_refl _, Nat.le_refl _⟩ k g; cases p <;> first | rfl | exact absurd (by decide) h

theorem twinSend_keeps {t x1 x2 x3 x4 x5} (k : [.out, .twin] ⊆ m) (g : Keeps m s t) : Keeps m s (State.twinSend t x1 x2 x3 x4 x5) := by
  refine keeps_step ?_ k g; unfold State.twinSend
  repeat' first | (with_reducible first | exact keeps_refl _ _ | apply onTwin_keeps | apply send_keeps | apply keeps_ite) | decide | split | dsimp only

theorem twinFrame_keeps {t x1 x2 x3 x4 x5} (k : [.out, .twin] ⊆ m) (g : Keeps m s t) : Keeps m s (State.twinFrame t x1 x2 x3 x4 x5) := by
  refine keeps_step ?_ k g; unfold State.twinFrame
  repeat' first | (with_reducible first | exact keeps_refl _ _ | apply onTwin_keeps | apply twinSend_keeps | apply keeps_ite) | decide | split | dsimp only

theorem mirrorFrame_keeps {t x1 x2} (k : [.out, .twin] ⊆ m) (g : Keeps m s t) : Keeps m s (State.mirrorFrame t x1 x2) := by
  refine keeps_step ?_ k g; unfold State.mirrorFrame
  repeat' first | (with_reducible first | exact keeps_refl _ _ | apply twinFrame_keeps | apply onTwin_keeps) | decide | split | dsimp only

theorem mirrorBegun_keeps {t x1 x2} (k : [.out, .twin] ⊆ m) (g : Keeps m s t) : Keeps m s (State.mirrorBegun t x1 x2) := by
  refine keeps_step ?_ k g; unfold State.mirrorBegun
  repeat' first | (with_reducible first | exact keeps_refl _ _ | apply mirrorFrame_keeps | apply keeps_ite) | decide | split | dsimp only

theorem onCanCh_keeps {t x1 x2} (k : [.can] ⊆ m) (g : Keeps m s t) : Keeps m s (State.onCanCh t x1 x2) := by
  refine keeps_step ?_ k g; unfold State.onCanCh
  repeat' first | (with_reducible first | exact keeps_refl _ _ | apply onCan_keeps) | decide | split | dsimp only

theorem sendConfig_keeps {n l t} (k : [.out, .twin] ⊆ m) (g : Keeps m s t) : Keeps m s (State.sendConfig n l t) := by
  induction n generalizing l t with
  | zero => unfold State.sendConfig; exact g
  | succ n ih =>
    cases l with
    | nil => exact g
    | cons => exact ih (mirrorFrame_keeps k g)

theorem mirrorConfig_keeps {t} (k : [.out, .twin] ⊆ m) (g : Keeps m s t) : Keeps m s (State.mirrorConfig t) := by
  refine keeps_step ?_ k g; unfold State.mirrorConfig
  repeat' first | (with_reducible first | exact keeps_refl _ _ | apply onTwin_keeps | apply sendConfig_keeps | apply keeps_ite) | decide | split | dsimp only

theorem mirrorDone_keeps {t x1 x2 x3 x4 x5} (k : [.out, .twin] ⊆ m) (g : Keeps m s t) : Keeps m s (State.mirrorDone t x1 x2 x3 x4 x5) := by
  refine keeps_step ?_ k g; unfold State.mirrorDone
  repeat' first | (with_reducible first | exact keeps_refl _ _ | apply mirrorConfig_keeps | apply mirrorFrame_keeps | apply keeps_ite) | decide | split | dsimp only

theorem mirrorStallAll_keeps {t x1} (k : [.out, .twin] ⊆ m) (g : Keeps m s t) : Keeps m s (State.mirrorStallAll t x1) := by
  refine keeps_step ?_ k g; unfold State.mirrorStallAll
  repeat' first | (with_reducible first | exact keeps_refl _ _ | apply mirrorFrame_keeps | apply keeps_ite) | decide | split | dsimp only

theorem flushLater_keeps {t} (k : [.out, .twin] ⊆ m) (g : Keeps m s t) : Keeps m s (State.flushLater t) := by
  refine keeps_step ?_ k g; unfold State.flushLater
  repeat' first | (with_reducible first | exact keeps_refl _ _ | apply onTwin_keeps | apply twinSend_keeps | apply keeps_forEach) | decide | intro _ | split | dsimp only

theorem mirrorTaken_keeps {t x1 x2 x3 x4} (k : [.out, .twin] ⊆ m) (g : Keeps m s t) : Keeps m s (State.mirrorTaken t x1 x2 x3 x4) := by
  refine keeps_step ?_ k g; unfold State.mirrorTaken
  repeat' first | (with_reducible first | exact keeps_refl _ _ | apply mirrorFrame_keeps | apply keeps_ite) | decide | split | dsimp only

theorem onFarPort_keeps {t x1 x2} (k : [.far] ⊆ m) (g : Keeps m s t) : Keeps m s (State.onFarPort t x1 x2) := by
  refine keeps_step ?_ k g; unfold State.onFarPort
  repeat' first | (with_reducible first | exact keeps_refl _ _ | apply onFar_keeps) | decide | split | dsimp only

theorem farGone_keeps {t x1 x2 x3} (k : [.far] ⊆ m) (g : Keeps m s t) : Keeps m s (State.farGone t x1 x2 x3) := by
  refine keeps_step ?_ k g; unfold State.farGone
  repeat' first | (with_reducible first | exact keeps_refl _ _ | apply onFarPort_keeps | apply keeps_forEach | apply keeps_foldl | apply keeps_foldl1 | apply keeps_ite) | decide | intro _ | split | dsimp only

theorem farResume_keeps {t x1} (k : [.far] ⊆ m) (g : Keeps m s t) : Keeps m s (State.farResume t x1) := by
  refine keeps_step ?_ k g; unfold State.farResume
  repeat' first | (with_reducible first | exact keeps_refl _ _ | apply onFarPort_keeps | apply keeps_forEach | apply keeps_ite) | decide | intro _ | split | dsimp only

theorem sendUdp_keeps {t x1 x2 x3 x4} (k : [.out] ⊆ m) (g : Keeps m s t) : Keeps m s (State.sendUdp t x1 x2 x3 x4) := by
  refine keeps_step ?_ k g; unfold State.sendUdp
  repeat' first | (with_reducible first | exact keeps_refl _ _ | apply send_keeps | apply keeps_ite) | decide | split | dsimp only

theorem sendCan_keeps {t x1 x2} (k : [.can] ⊆ m) (g : Keeps m s t) : Keeps m s (State.sendCan t x1 x2) := by
  refine keeps_step ?_ k g; unfold State.sendCan
  repeat' first | (with_reducible first | exact keeps_refl _ _ | apply onCanCh_keeps | apply keeps_ite) | decide | split | dsimp only

theorem withdraw_keeps {t x1} (k : [.sw, .drv, .fld] ⊆ m) (g : Keeps m s t) : Keeps m s (State.withdraw t x1) := by
  refine keeps_step ?_ k g; unfold State.withdraw
  repeat' first | (with_reducible first | exact keeps_refl _ _ | apply onSw_keeps | apply onDrv_keeps | apply onFld_keeps) | decide | split | dsimp only

theorem closeSession_keeps {t x1 x2} (k : [.rcd, .cmd, .sw, .drv, .fld, .far] ⊆ m) (g : Keeps m s t) : Keeps m s (State.closeSession t x1 x2) := by
  refine keeps_step ?_ k g; unfold State.closeSession
  repeat' first | (with_reducible first | exact keeps_refl _ _ | apply withdraw_keeps | apply farGone_keeps | apply onCmd_keeps | apply record_keeps | apply keeps_ite) | decide | split | dsimp only

theorem sendPacket_keeps {t x1 x2 x3 x4 x5 x6} (k : [.out, .rcd, .cmd, .sw, .drv, .fld, .can, .far] ⊆ m) (g : Keeps m s t) : Keeps m s (State.sendPacket t x1 x2 x3 x4 x5 x6) := by
  refine keeps_step ?_ k g; unfold State.sendPacket
  repeat' first | (with_reducible first | exact keeps_refl _ _ | apply sendCan_keeps | apply sendUdp_keeps | apply onCmd_keeps | apply closeSession_keeps | apply keeps_ite) | decide | split | dsimp only

theorem sendOrHold_keeps {t x1 x2 x3 x4 x5 x6 x7 x8} (k : [.out, .rcd, .cmd, .sw, .drv, .fld, .can, .far, .twin] ⊆ m) (g : Keeps m s t) : Keeps m s (State.sendOrHold t x1 x2 x3 x4 x5 x6 x7 x8) := by
  refine keeps_step ?_ k g; unfold State.sendOrHold
  repeat' first | (with_reducible first | exact keeps_refl _ _ | apply onTwin_keeps | apply sendPacket_keeps | apply keeps_ite) | decide | split | dsimp only

theorem notify_keeps {t x1 x2 x3} (k : [.out, .rcd, .cmd, .sw, .drv, .fld, .can, .far, .twin] ⊆ m) (g : Keeps m s t) : Keeps m s (State.notify t x1 x2 x3) := by
  refine keeps_step ?_ k g; unfold State.notify
  repeat' first | (with_reducible first | exact keeps_refl _ _ | apply onCmd_keeps | apply sendOrHold_keeps | apply keeps_ite) | decide | split | dsimp only

theorem notifyHolder_keeps {t x1 x2 x3} (k : [.out, .rcd, .cmd, .sw, .drv, .fld, .can, .far, .twin] ⊆ m) (g : Keeps m s t) : Keeps m s (State.notifyHolder t x1 x2 x3) := by
  refine keeps_step ?_ k g; unfold State.notifyHolder
  repeat' first | (with_reducible first | exact keeps_refl _ _ | apply notify_keeps) | decide | split | dsimp only

theorem notifyStall_keeps {t x1 x2} (k : [.out, .rcd, .cmd, .sw, .drv, .fld, .can, .far, .twin] ⊆ m) (g : Keeps m s t) : Keeps m s (State.notifyStall t x1 x2) := by
  refine keeps_step ?_ k g; unfold State.notifyStall
  repeat' first | (with_reducible first | exact keeps_refl _ _ | apply notifyHolder_keeps) | decide | split | dsimp only

theorem doneStage_keeps {t x1 x2 x3 x4} (k : [.out, .twin] ⊆ m) (g : Keeps m s t) : Keeps m s (State.doneStage t x1 x2 x3 x4) := by
  refine keeps_step ?_ k g; unfold State.doneStage
  repeat' first | (with_reducible first | exact keeps_refl _ _ | apply mirrorDone_keeps | apply keeps_ite) | decide | split | dsimp only

theorem lateError_keeps {t x1 x2 x3} (k : [.out, .rcd, .cmd, .sw, .drv, .fld, .can, .far, .twin] ⊆ m) (g : Keeps m s t) : Keeps m s (State.lateError t x1 x2 x3) := by
  refine keeps_step ?_ k g; unfold State.lateError
  repeat' first | (with_reducible first | exact keeps_refl _ _ | apply notifyHolder_keeps | apply doneStage_keeps) | decide | split | dsimp only

theorem onSource_keeps {t x1 x2} (k : [.cmd] ⊆ m) (g : Keeps m s t) : Keeps m s (State.onSource t x1 x2) := by
  refine keeps_step ?_ k g; unfold State.onSource
  repeat' first | (with_reducible first | exact keeps_refl _ _ | apply onCmd_keeps) | decide | split | dsimp only

theorem onGroup_keeps {t x1 x2} (k : [.cmd] ⊆ m) (g : Keeps m s t) : Keeps m s (State.onGroup t x1 x2) := by
  refine keeps_step ?_ k g; unfold State.onGroup
  repeat' first | (with_reducible first | exact keeps_refl _ _ | apply onCmd_keeps) | decide | split | dsimp only

theorem replyWith_keeps {t x1 x2 x3 x4 x5 x6} (k : [.out, .rcd, .cmd, .sw, .drv, .fld, .can, .far, .twin] ⊆ m) (g : Keeps m s t) : Keeps m s (State.replyWith t x1 x2 x3 x4 x5 x6) := by
  refine keeps_step ?_ k g; unfold State.replyWith
  repeat' first | (with_reducible first | exact keeps_refl _ _ | apply doneStage_keeps | apply sendOrHold_keeps | apply onGroup_keeps | apply keeps_ite) | decide | split | dsimp only

theorem replyEnd_keeps {t x1 x2 x3} (k : [.out, .rcd, .cmd, .sw, .drv, .fld, .can, .far, .twin] ⊆ m) (g : Keeps m s t) : Keeps m s (State.replyEnd t x1 x2 x3) := by
  refine keeps_step ?_ k g; unfold State.replyEnd
  repeat' first | (with_reducible first | exact keeps_refl _ _ | apply replyWith_keeps | apply keeps_ite) | decide | split | dsimp only

theorem accept_keeps {t x1} (k : [.out, .rcd, .cmd, .sw, .drv, .fld, .can, .far, .twin] ⊆ m) (g : Keeps m s t) : Keeps m s (State.accept t x1) := by
  refine keeps_step ?_ k g; unfold State.accept
  repeat' first | (with_reducible first | exact keeps_refl _ _ | apply replyWith_keeps | apply keeps_ite) | decide | split | dsimp only

theorem acceptWaiting_keeps {t x1} (k : [.out, .rcd, .cmd, .sw, .drv, .fld, .can, .far, .twin] ⊆ m) (g : Keeps m s t) : Keeps m s (State.acceptWaiting t x1) := by
  refine keeps_step ?_ k g; unfold State.acceptWaiting
  repeat' first | (with_reducible first | exact keeps_refl _ _ | apply onGroup_keeps | apply accept_keeps | apply keeps_forEach | apply keeps_ite) | decide | intro _ | split | dsimp only

theorem failGroup_keeps {t x1 x2} (k : [.out, .rcd, .cmd, .sw, .drv, .fld, .can, .far, .twin] ⊆ m) (g : Keeps m s t) : Keeps m s (State.failGroup t x1 x2) := by
  refine keeps_step ?_ k g; unfold State.failGroup
  repeat' first | (with_reducible first | exact keeps_refl _ _ | apply onGroup_keeps | apply acceptWaiting_keeps | apply notifyStall_keeps | apply keeps_ite) | decide | split | dsimp only

theorem complete_keeps {t x1 x2 x3 x4} (k : [.out, .rcd, .cmd, .sw, .drv, .fld, .can, .far, .twin] ⊆ m) (g : Keeps m s t) : Keeps m s (State.complete t x1 x2 x3 x4) := by
  refine keeps_step ?_ k g; unfold State.complete
  repeat' first | (with_reducible first | exact keeps_refl _ _ | apply onSource_keeps | apply replyEnd_keeps | apply onGroup_keeps | apply lateError_keeps | apply record_keeps | apply doneStage_keeps | apply failGroup_keeps | apply keeps_ite) | decide | split | dsimp only

theorem onCommand_keeps {t} {r n} {f : Cmd → State → State} (h : ∀ c t, Keeps m t (f c t)) (g : Keeps m s t) : Keeps m s (t.onCommand r n f) := by
  unfold State.onCommand
  split
  · exact g
  · split
    · exact keeps_trans g (h _ _)
    · exact g

theorem handOver_keeps {t x1 x2} (k : [.cmd] ⊆ m) (g : Keeps m s t) : Keeps m s (State.handOver t x1 x2) := by
  refine keeps_step ?_ k g; unfold State.handOver
  repeat' first | (with_reducible first | exact keeps_refl _ _ | apply onSource_keeps | apply onGroup_keeps | apply keeps_ite) | decide | split | dsimp only

theorem completeId_keeps {t x1 x2 x3 x4} (k : [.out, .rcd, .cmd, .sw, .drv, .fld, .can, .far, .twin] ⊆ m) (g : Keeps m s t) : Keeps m s (State.completeId t x1 x2 x3 x4) := by
  refine keeps_step ?_ k g; unfold State.completeId
  repeat' first | (with_reducible first | exact keeps_refl _ _ | apply complete_keeps) | decide | split | dsimp only

theorem onLink_keeps {t x1 x2} (k : [.links] ⊆ m) (g : Keeps m s t) : Keeps m s (State.onLink t x1 x2) := by
  refine keeps_step ?_ k g; unfold State.onLink
  repeat' first | (with_reducible first | exact keeps_refl _ _ | apply onLinks_keeps) | decide | split | dsimp only

theorem crossWords_keeps {t x1 x2} (k : [.links] ⊆ m) (g : Keeps m s t) : Keeps m s (State.crossWords t x1 x2) := by
  refine keeps_step ?_ k g; unfold State.crossWords
  repeat' first | (with_reducible first | exact keeps_refl _ _ | apply onLink_keeps) | decide | split | dsimp only

theorem sendWord_keeps {t x1 x2 x3 x4} (k : [.links] ⊆ m) (g : Keeps m s t) : Keeps m s (State.sendWord t x1 x2 x3 x4) := by
  refine keeps_step ?_ k g; unfold State.sendWord
  repeat' first | (with_reducible first | exact keeps_refl _ _ | apply onLink_keeps) | decide | split | dsimp only

theorem judgeWord_keeps {t x1 x2 x3} (k : [.links, .rcd, .flt] ⊆ m) (g : Keeps m s t) : Keeps m s (State.judgeWord t x1 x2 x3).2 := by
  refine keeps_step ?_ k g; unfold State.judgeWord
  repeat' first | (with_reducible first | exact keeps_refl _ _ | apply onLink_keeps | apply fault_keeps | apply keeps_ite | apply keeps_ite_pair) | decide | split | dsimp only

theorem acked_keeps {t x1} (k : [.links] ⊆ m) (g : Keeps m s t) : Keeps m s (State.acked t x1) := by
  refine keeps_step ?_ k g; unfold State.acked
  repeat' first | (with_reducible first | exact keeps_refl _ _ | apply onLink_keeps) | decide | split | dsimp only

theorem ackArrive_keeps {t x1 x2} (k : [.links, .rcd, .flt] ⊆ m) (g : Keeps m s t) : Keeps m s (State.ackArrive t x1 x2) := by
  refine keeps_step ?_ k g; unfold State.ackArrive
  repeat' first | (with_reducible first | exact keeps_refl _ _ | apply onLink_keeps | apply judgeWord_keeps | apply acked_keeps | apply keeps_ite | refine keeps_of_eq (by assumption) ?_) | decide | split | dsimp only

theorem acknowledge_keeps {t x1} (k : [.links] ⊆ m) (g : Keeps m s t) : Keeps m s (State.acknowledge t x1) := by
  refine keeps_step ?_ k g; unfold State.acknowledge
  repeat' first | (with_reducible first | exact keeps_refl _ _ | apply onLink_keeps) | decide | split | dsimp only

theorem takeAcks_keeps {t x1} (k : [.links, .rcd, .flt] ⊆ m) (g : Keeps m s t) : Keeps m s (State.takeAcks t x1) := by
  refine keeps_step ?_ k g; unfold State.takeAcks
  repeat' first | (with_reducible first | exact keeps_refl _ _ | apply ackArrive_keeps | apply keeps_forEach) | decide | intro _ | split | dsimp only

theorem receiveWord_keeps {t x1 x2 x3} (k : [.links, .rcd, .flt] ⊆ m) (g : Keeps m s t) : Keeps m s (State.receiveWord t x1 x2 x3).2 := by
  refine keeps_step ?_ k g; unfold State.receiveWord
  repeat' first | (with_reducible first | exact keeps_refl _ _ | apply takeAcks_keeps | apply judgeWord_keeps | apply onLink_keeps | apply acknowledge_keeps | apply keeps_ite | apply keeps_ite_pair | refine keeps_of_eq (by assumption) ?_) | decide | split | dsimp only

theorem twinArrive_keeps {t x1} (k : [.links, .rcd, .flt, .twin] ⊆ m) (g : Keeps m s t) : Keeps m s (State.twinArrive t x1) := by
  refine keeps_step ?_ k g; unfold State.twinArrive
  repeat' first | (with_reducible first | exact keeps_refl _ _ | apply receiveWord_keeps | apply onTwin_keeps | refine keeps_of_eq (by assumption) ?_) | decide | split | dsimp only

theorem twinDrain_keeps {t} (k : [.links, .rcd, .flt, .twin] ⊆ m) (g : Keeps m s t) : Keeps m s (State.twinDrain t) := by
  refine keeps_step ?_ k g; unfold State.twinDrain
  repeat' first | (with_reducible first | exact keeps_refl _ _ | apply twinArrive_keeps) | decide | split | dsimp only

end Sys2Proof.Laws
end

