-- ==== Sys2Proof/Laws/KeepsCommands.lean ====
section
/-! SUPPORT. What each operation leaves alone: the recorder, the fault queue and the command protocol. -/

namespace Sys2Proof.Laws

open Sys2Proof Sys2Proof.Machine

set_option linter.all false

variable {m : List Part} {s : State}

theorem recorderColdStart_keeps {t} (k : [.rcd] ⊆ m) (g : Keeps m s t) : Keeps m s (State.recorderColdStart t) := by
  refine keeps_step ?_ k g; unfold State.recorderColdStart
  repeat' first | (with_reducible first | exact keeps_refl _ _ | apply onRcd_keeps | apply record_keeps | apply keeps_ite) | decide | split | dsimp only

theorem loseBuffered_keeps {t x1} (k : [.out, .rcd, .cmd, .sw, .drv, .fld, .can, .far, .twin] ⊆ m) (g : Keeps m s t) : Keeps m s (State.loseBuffered t x1) := by
  refine keeps_step ?_ k g; unfold State.loseBuffered
  repeat' first | (with_reducible first | exact keeps_refl _ _ | apply onRcd_keeps | apply completeId_keeps) | decide | split | dsimp only

theorem dropBuffer_keeps {t} (k : [.out, .rcd, .cmd, .sw, .drv, .fld, .can, .far, .twin] ⊆ m) (g : Keeps m s t) : Keeps m s (State.dropBuffer t) := by
  refine keeps_step ?_ k g; unfold State.dropBuffer
  repeat' first | (with_reducible first | exact keeps_refl _ _ | apply loseBuffered_keeps | apply onRcd_keeps | apply keeps_foldl | apply keeps_foldl1) | decide | intro _ | split | dsimp only

theorem opTailSectorErase_keeps {x0 t} (k : [.out, .rcd, .flt, .cmd, .sw, .drv, .fld, .can, .far, .twin] ⊆ m) (g : Keeps m s t) : Keeps m s (opTailSectorErase x0 t) := by
  refine keeps_step ?_ k g; unfold opTailSectorErase
  repeat' first | (with_reducible first | exact keeps_refl _ _ | apply onRcd_keeps | apply fault_keeps | apply dropBuffer_keeps | apply keeps_ite) | decide | split | dsimp only

theorem saturate_keeps {t} (k : [.rcd] ⊆ m) (g : Keeps m s t) : Keeps m s (State.saturate t) := by
  refine keeps_step ?_ k g; unfold State.saturate
  repeat' first | (with_reducible first | exact keeps_refl _ _ | apply onRcd_keeps | apply keeps_ite) | decide | split | dsimp only

theorem opRecordWrite_keeps {x0 x1 t} (k : [.out, .supply, .rcd, .flt, .cmd, .sw, .drv, .fld, .can, .far, .twin] ⊆ m) (g : Keeps m s t) : Keeps m s (opRecordWrite x0 x1 t) := by
  refine keeps_step ?_ k g; unfold opRecordWrite
  repeat' first | (with_reducible first | exact keeps_refl _ _ | apply onSupply_keeps | apply loseBuffered_keeps | apply onRcd_keeps | apply completeId_keeps | apply saturate_keeps | apply faultWord_keeps | apply keeps_ite) | decide | split | dsimp only

theorem stallAll_keeps {t x1} (k : [.out, .rcd, .cmd, .sw, .drv, .fld, .can, .far, .twin] ⊆ m) (g : Keeps m s t) : Keeps m s (State.stallAll t x1).2 := by
  refine keeps_step ?_ k g; unfold State.stallAll
  repeat' first | (with_reducible first | exact keeps_refl _ _ | apply mirrorStallAll_keeps | apply acceptWaiting_keeps | apply onGroup_keeps | apply keeps_forEach | apply keeps_ite | apply keeps_ite_pair) | decide | intro _ | split | dsimp only

theorem notifyStalls_keeps {t x1} (k : [.out, .rcd, .flt, .cmd, .sw, .drv, .fld, .can, .far, .twin] ⊆ m) (g : Keeps m s t) : Keeps m s (State.notifyStalls t x1) := by
  refine keeps_step ?_ k g; unfold State.notifyStalls
  repeat' first | (with_reducible first | exact keeps_refl _ _ | apply onFlt_keeps | apply notifyStall_keeps | apply keeps_forEach) | decide | intro _ | split | dsimp only

theorem stopWeft_keeps {t x1 x2} (k : [.weft] ⊆ m) (g : Keeps m s t) : Keeps m s (State.stopWeft t x1 x2) := by
  refine keeps_step ?_ k g; unfold State.stopWeft
  repeat' first | (with_reducible first | exact keeps_refl _ _ | apply onWeft_keeps | apply keeps_ite) | decide | split | dsimp only

theorem notifyFault_keeps {t x1} (k : [.out, .rcd, .flt, .cmd, .sw, .drv, .fld, .can, .far, .twin] ⊆ m) (g : Keeps m s t) : Keeps m s (State.notifyFault t x1) := by
  refine keeps_step ?_ k g; unfold State.notifyFault
  repeat' first | (with_reducible first | exact keeps_refl _ _ | apply onFlt_keeps | apply notify_keeps | apply keeps_forEach | apply keeps_ite) | decide | intro _ | split | dsimp only

theorem handlerStep_keeps {t x1} (k : [.out, .rcd, .flt, .cmd, .sw, .drv, .fld, .weft, .can, .far, .twin] ⊆ m) (g : Keeps m s t) : Keeps m s (State.handlerStep t x1) := by
  refine keeps_step ?_ k g; unfold State.handlerStep
  repeat' first | (with_reducible first | exact keeps_refl _ _ | apply onFlt_keeps | apply notifyStalls_keeps | apply stopWeft_keeps | apply notifyFault_keeps | apply keeps_ite) | decide | split | dsimp only

theorem enterFault_keeps {t w} (k : [.out, .rcd, .flt, .cmd, .sw, .drv, .fld, .can, .far, .twin] ⊆ m) (g : Keeps m s t) : Keeps m s ((t.enterFault w).getD t) := by
  refine keeps_step ?_ k g; unfold State.enterFault
  have h : ∀ f, Keeps [.out, .rcd, .flt, .cmd, .sw, .drv, .fld, .can, .far, .twin] t ((t.stallAll w.cls).2.onFlt f) := fun f =>
    onFlt_keeps (by decide) (stallAll_keeps (by decide) (keeps_refl _ _))
  split
  · simp only [Option.getD_some]
    exact h _
  · split
    · simp only [Option.getD_some]
      exact h _
    · exact keeps_refl _ _

theorem closeGate_keeps {t x1} (k : [.rcd, .flt] ⊆ m) (g : Keeps m s t) : Keeps m s (State.closeGate t x1) := by
  refine keeps_step ?_ k g; unfold State.closeGate
  repeat' first | (with_reducible first | exact keeps_refl _ _ | apply record_keeps | apply onFlt_keeps | apply keeps_ite) | decide | split | dsimp only

theorem writeFaults_keeps {t x1 x2} (k : [.flt] ⊆ m) (g : Keeps m s t) : Keeps m s (State.writeFaults t x1 x2).2 := by
  refine keeps_step ?_ k g; unfold State.writeFaults
  repeat' first | (with_reducible first | exact keeps_refl _ _ | apply onFlt_keeps | apply keeps_ite | apply keeps_ite_pair) | decide | split | dsimp only

theorem reportDropped_keeps {t} (k : [.rcd, .flt] ⊆ m) (g : Keeps m s t) : Keeps m s (State.reportDropped t) := by
  refine keeps_step ?_ k g; unfold State.reportDropped
  repeat' first | (with_reducible first | exact keeps_refl _ _ | apply record_keeps | apply onFlt_keeps | apply keeps_ite) | decide | split | dsimp only

theorem dropFault_keeps {t} (k : [.rcd, .flt] ⊆ m) (g : Keeps m s t) : Keeps m s (State.dropFault t) := by
  refine keeps_step ?_ k g; unfold State.dropFault
  repeat' first | (with_reducible first | exact keeps_refl _ _ | apply reportDropped_keeps | apply onFlt_keeps | apply keeps_ite) | decide | split | dsimp only

theorem opPermitRenewal_keeps {t} (k : [.rcd, .flt] ⊆ m) (g : Keeps m s t) : Keeps m s (opPermitRenewal t) := by
  refine keeps_step ?_ k g; unfold opPermitRenewal
  repeat' first | (with_reducible first | exact keeps_refl _ _ | apply onFlt_keeps | apply record_keeps | apply keeps_ite) | decide | split | dsimp only

theorem takeCmd_keeps {t x1 x2} (k : [.out, .rcd, .cmd, .sw, .drv, .fld, .can, .far, .twin] ⊆ m) (g : Keeps m s t) : Keeps m s (State.takeCmd t x1 x2) := by
  refine keeps_step ?_ k g; unfold State.takeCmd
  repeat' first | (with_reducible first | exact keeps_refl _ _ | apply onGroup_keeps | apply mirrorTaken_keeps | apply accept_keeps | apply keeps_ite) | decide | split | dsimp only

theorem takeHeld_keeps {x0 x1 t} (k : [.out, .rcd, .cmd, .sw, .drv, .fld, .can, .far, .twin] ⊆ m) (g : Keeps m s t) : Keeps m s (State.takeHeld x0 x1 t) := by
  induction x1 generalizing x0 t with
  | zero =>
    unfold State.takeHeld
    repeat' first | exact k | (with_reducible first | assumption | apply takeCmd_keeps | apply onGroup_keeps) | exact List.Subset.trans (by decide) k | split | dsimp only
  | succ n ih =>
    unfold State.takeHeld
    repeat' first | exact k | (with_reducible first | assumption | apply ih | apply takeCmd_keeps | apply onGroup_keeps) | exact List.Subset.trans (by decide) k | split | dsimp only

theorem payDue_keeps {t x1} (k : [.out, .rcd, .cmd, .sw, .drv, .fld, .can, .far, .twin] ⊆ m) (g : Keeps m s t) : Keeps m s (State.payDue t x1) := by
  refine keeps_step ?_ k g; unfold State.payDue
  repeat' first | (with_reducible first | exact keeps_refl _ _ | apply onGroup_keeps | apply notifyHolder_keeps | apply keeps_forEach) | decide | intro _ | split | dsimp only

theorem claimGroup_keeps {t x1 x2 x3 x4} (k : [.out, .rcd, .cmd, .sw, .drv, .fld, .can, .far, .twin] ⊆ m) (g : Keeps m s t) : Keeps m s (State.claimGroup t x1 x2 x3 x4) := by
  refine keeps_step ?_ k g; unfold State.claimGroup
  repeat' first | (with_reducible first | exact keeps_refl _ _ | apply onGroup_keeps | apply payDue_keeps) | decide | split | dsimp only

theorem idleWatch_keeps {t} (k : [.flt] ⊆ m) (g : Keeps m s t) : Keeps m s (State.idleWatch t) := by
  refine keeps_step ?_ k g; unfold State.idleWatch
  repeat' first | (with_reducible first | exact keeps_refl _ _ | apply wdtStart_keeps | apply keeps_ite) | decide | split | dsimp only

theorem serviceActive_keeps {t} (k : [.pwr, .flt] ⊆ m) (g : Keeps m s t) : Keeps m s (State.serviceActive t) := by
  refine keeps_step ?_ k g; unfold State.serviceActive
  repeat' first | (with_reducible first | exact keeps_refl _ _ | apply onPwr_keeps | apply idleWatch_keeps | apply keeps_ite) | decide | split | dsimp only

theorem endIdle_keeps {t} (k : [.pwr, .flt] ⊆ m) (g : Keeps m s t) : Keeps m s (State.endIdle t) := by
  refine keeps_step ?_ k g; unfold State.endIdle
  repeat' first | (with_reducible first | exact keeps_refl _ _ | apply serviceActive_keeps | apply keeps_ite) | decide | split | dsimp only

theorem countCrcFail_keeps {t} (k : [.cmd] ⊆ m) (g : Keeps m s t) : Keeps m s (State.countCrcFail t) := by
  refine keeps_step ?_ k g; unfold State.countCrcFail
  repeat' first | (with_reducible first | exact keeps_refl _ _ | apply onCmd_keeps) | decide | split | dsimp only

theorem refuseOpen_keeps {t} (k : [.free, .rcd] ⊆ m) (g : Keeps m s t) : Keeps m s (State.refuseOpen t) := by
  refine keeps_step ?_ k g; unfold State.refuseOpen
  repeat' first | (with_reducible first | exact keeps_refl _ _ | apply draw_keeps | apply record_keeps | refine keeps_of_eq (by assumption) ?_) | decide | split | dsimp only

theorem rejectPacket_keeps {t x1 x2 x3 x4 x5 x6} (k : [.free, .out, .rcd, .cmd, .sw, .drv, .fld, .can, .far, .twin] ⊆ m) (g : Keeps m s t) : Keeps m s (State.rejectPacket t x1 x2 x3 x4 x5 x6) := by
  refine keeps_step ?_ k g; unfold State.rejectPacket
  repeat' first | (with_reducible first | exact keeps_refl _ _ | apply sendPacket_keeps | apply refuseOpen_keeps | apply sendOrHold_keeps | apply keeps_ite) | decide | split | dsimp only

theorem admitPacket_keeps {t x1 x2 x3 x4} (k : [.free, .out, .rcd, .cmd, .sw, .drv, .fld, .can, .far, .twin] ⊆ m) (g : Keeps m s t) : Keeps m s (State.admitPacket t x1 x2 x3 x4) := by
  refine keeps_step ?_ k g; unfold State.admitPacket
  repeat' first | (with_reducible first | exact keeps_refl _ _ | apply onCmd_keeps | apply rejectPacket_keeps | apply onGroup_keeps | apply takeHeld_keeps | apply takeCmd_keeps | apply mirrorTaken_keeps | apply onSource_keeps | apply keeps_dite | apply keeps_dite_pair | apply keeps_ite) | decide | intro _ | split | dsimp only

theorem countAuthFail_keeps {t} (k : [.cmd] ⊆ m) (g : Keeps m s t) : Keeps m s (State.countAuthFail t) := by
  refine keeps_step ?_ k g; unfold State.countAuthFail
  repeat' first | (with_reducible first | exact keeps_refl _ _ | apply onCmd_keeps) | decide | split | dsimp only

theorem receiveUdp_keeps {t x1 x2 x3 x4} (k : [.free, .out, .rcd, .cmd, .sw, .drv, .fld, .can, .far, .twin] ⊆ m) (g : Keeps m s t) : Keeps m s (State.receiveUdp t x1 x2 x3 x4) := by
  refine keeps_step ?_ k g; unfold State.receiveUdp
  repeat' first | (with_reducible first | exact keeps_refl _ _ | apply countCrcFail_keeps | apply admitPacket_keeps | apply countAuthFail_keeps | apply onCmd_keeps | apply closeSession_keeps | apply keeps_ite) | decide | split | dsimp only

theorem setExec_keeps {t x1} (k : [.cmd] ⊆ m) (g : Keeps m s t) : Keeps m s (State.setExec t x1) := by
  refine keeps_step ?_ k g; unfold State.setExec
  repeat' first | (with_reducible first | exact keeps_refl _ _ | apply onSource_keeps | apply onGroup_keeps) | decide | split | dsimp only

theorem endOpen_keeps {t x1 x2} (k : [.free, .out, .rcd, .cmd, .sw, .drv, .fld, .can, .far, .twin] ⊆ m) (g : Keeps m s t) : Keeps m s (State.endOpen t x1 x2) := by
  refine keeps_step ?_ k g; unfold State.endOpen
  repeat' first | (with_reducible first | exact keeps_refl _ _ | apply replyEnd_keeps | apply onSource_keeps | apply refuseOpen_keeps | apply failGroup_keeps | apply onGroup_keeps) | decide | split | dsimp only

theorem startCmd_keeps {t x1} (k : [.free, .out, .rcd, .cmd, .sw, .drv, .fld, .can, .far, .twin] ⊆ m) (g : Keeps m s t) : Keeps m s (State.startCmd t x1) := by
  refine keeps_step ?_ k g; unfold State.startCmd
  repeat' first | (with_reducible first | exact keeps_refl _ _ | apply setExec_keeps | apply endOpen_keeps | apply complete_keeps | apply keeps_ite) | decide | split | dsimp only

theorem beginCmd_keeps {t x1} (k : [.free, .out, .rcd, .cmd, .sw, .drv, .fld, .can, .far, .twin] ⊆ m) (g : Keeps m s t) : Keeps m s (State.beginCmd t x1) := by
  refine keeps_step ?_ k g; unfold State.beginCmd
  repeat' first | (with_reducible first | exact keeps_refl _ _ | apply startCmd_keeps | apply mirrorBegun_keeps | apply setExec_keeps | apply keeps_ite) | decide | split | dsimp only

theorem resetCommands_keeps {t} (k : [.rcd, .cmd, .sw, .drv, .fld, .far] ⊆ m) (g : Keeps m s t) : Keeps m s (State.resetCommands t) := by
  refine keeps_step ?_ k g; unfold State.resetCommands
  repeat' first | (with_reducible first | exact keeps_refl _ _ | apply closeSession_keeps | apply onGroup_keeps | apply record_keeps | apply onCmd_keeps | apply keeps_forEach) | decide | intro _ | split | dsimp only

theorem canGroups_keeps {t} (k : [.out, .rcd, .cmd, .sw, .drv, .fld, .can, .far, .twin] ⊆ m) (g : Keeps m s t) : Keeps m s (State.canGroups t) := by
  refine keeps_step ?_ k g; unfold State.canGroups
  repeat' first | (with_reducible first | exact keeps_refl _ _ | apply payDue_keeps | apply keeps_forEach) | decide | intro _ | split | dsimp only

theorem startAcked_keeps {t} (k : [.free, .out, .rcd, .cmd, .sw, .drv, .fld, .can, .far, .twin] ⊆ m) (g : Keeps m s t) : Keeps m s (State.startAcked t) := by
  refine keeps_step ?_ k g; unfold State.startAcked
  repeat' first | (with_reducible first | exact keeps_refl _ _ | apply startCmd_keeps | apply keeps_forEach) | decide | intro _ | split | dsimp only

theorem discard_keeps {t x1} (k : [.out, .rcd, .cmd, .sw, .drv, .fld, .can, .far, .twin] ⊆ m) (g : Keeps m s t) : Keeps m s (State.discard t x1) := by
  refine keeps_step ?_ k g; unfold State.discard
  repeat' first | (with_reducible first | exact keeps_refl _ _ | apply lateError_keeps | apply replyEnd_keeps | apply keeps_ite) | decide | split | dsimp only

theorem writeCmd_keeps {t x1 x2} (k : [.cmd] ⊆ m) (g : Keeps m s t) : Keeps m s (State.writeCmd t x1 x2).2 := by
  refine keeps_step ?_ k g; unfold State.writeCmd
  repeat' first | (with_reducible first | exact keeps_refl _ _ | apply onCmd_keeps) | decide | split | dsimp only

theorem rxTake_keeps {t} (k : [.cmd] ⊆ m) (g : Keeps m s t) : Keeps m s (State.rxTake t) := by
  refine keeps_step ?_ k g; unfold State.rxTake
  repeat' first | (with_reducible first | exact keeps_refl _ _ | apply onCmd_keeps) | decide | split | dsimp only

theorem receivePacket_keeps {t x1 x2} (k : [.free, .out, .pwr, .rcd, .flt, .cmd, .sw, .drv, .fld, .can, .far, .twin] ⊆ m) (g : Keeps m s t) : Keeps m s (State.receivePacket t x1 x2) := by
  refine keeps_step ?_ k g; unfold State.receivePacket
  repeat' first | (with_reducible first | exact keeps_refl _ _ | apply onCmd_keeps | apply serviceActive_keeps | apply rxTake_keeps | apply admitPacket_keeps | apply countCrcFail_keeps | apply receiveUdp_keeps | apply keeps_ite) | decide | split | dsimp only

theorem claimGroups_keeps {t x1 x2} (k : [.out, .rcd, .cmd, .sw, .drv, .fld, .can, .far, .twin] ⊆ m) (g : Keeps m s t) : Keeps m s (State.claimGroups t x1 x2) := by
  refine keeps_step ?_ k g; unfold State.claimGroups
  repeat' first | (with_reducible first | exact keeps_refl _ _ | apply claimGroup_keeps | apply keeps_forEach) | decide | intro _ | split | dsimp only

end Sys2Proof.Laws
end

