-- ==== Sys2Proof/Laws/KeepsSwitch.lean ====
section
/-! SUPPORT. What each operation leaves alone: the switch island. -/

namespace Sys2Proof.Laws

open Sys2Proof Sys2Proof.Machine

set_option linter.all false

variable {m : List Part} {s : State}

theorem onGuard_keeps {t x1 x2} (k : [.sw] ⊆ m) (g : Keeps m s t) : Keeps m s (State.onGuard t x1 x2) := by
  refine keeps_step ?_ k g; unfold State.onGuard
  repeat' first | (with_reducible first | exact keeps_refl _ _ | apply onSw_keeps) | decide | split | dsimp only

theorem onChan_keeps {t x1 x2} (k : [.sw] ⊆ m) (g : Keeps m s t) : Keeps m s (State.onChan t x1 x2) := by
  refine keeps_step ?_ k g; unfold State.onChan
  repeat' first | (with_reducible first | exact keeps_refl _ _ | apply onSw_keeps) | decide | split | dsimp only

theorem passTo_keeps {t x1 x2} (k : [.sw] ⊆ m) (g : Keeps m s t) : Keeps m s (State.passTo t x1 x2) := by
  refine keeps_step ?_ k g; unfold State.passTo
  repeat' first | (with_reducible first | exact keeps_refl _ _ | apply onChan_keeps) | decide | split | dsimp only

theorem rebase_keeps {t} (k : [.sw] ⊆ m) (g : Keeps m s t) : Keeps m s (State.rebase t) := by
  refine keeps_step ?_ k g; unfold State.rebase
  repeat' first | (with_reducible first | exact keeps_refl _ _ | apply onSw_keeps) | decide | split | dsimp only

theorem autoPhase_keeps {t x1} (k : [.sw] ⊆ m) (g : Keeps m s t) : Keeps m s (State.autoPhase t x1) := by
  refine keeps_step ?_ k g; unfold State.autoPhase
  repeat' first | (with_reducible first | exact keeps_refl _ _ | apply onChan_keeps | apply keeps_forEach | apply keeps_ite) | decide | intro _ | split | dsimp only

theorem rephase_keeps {t x1} (k : [.sw] ⊆ m) (g : Keeps m s t) : Keeps m s (State.rephase t x1) := by
  refine keeps_step ?_ k g; unfold State.rephase
  repeat' first | (with_reducible first | exact keeps_refl _ _ | apply autoPhase_keeps | apply keeps_forEach | apply keeps_ite) | decide | intro _ | split | dsimp only

theorem enter_keeps {t x1 x2} (k : [.sw] ⊆ m) (g : Keeps m s t) : Keeps m s (State.enter t x1 x2) := by
  refine keeps_step ?_ k g; unfold State.enter
  repeat' first | (with_reducible first | exact keeps_refl _ _ | apply onChan_keeps | apply keeps_ite) | decide | split | dsimp only

theorem changeMode_keeps {t x1 x2} (k : [.sw] ⊆ m) (g : Keeps m s t) : Keeps m s (State.changeMode t x1 x2).2 := by
  refine keeps_step ?_ k g; unfold State.changeMode
  repeat' first | (with_reducible first | exact keeps_refl _ _ | apply onChan_keeps | apply enter_keeps | apply keeps_ite | apply keeps_ite_pair) | decide | split | dsimp only

theorem toSafe_keeps {t x1 x2 x3} (k : [.rcd, .sw] ⊆ m) (g : Keeps m s t) : Keeps m s (State.toSafe t x1 x2 x3).2 := by
  refine keeps_step ?_ k g; unfold State.toSafe
  repeat' first | (with_reducible first | exact keeps_refl _ _ | apply changeMode_keeps | apply rephase_keeps | apply record_keeps | apply keeps_ite | apply keeps_ite_pair | refine keeps_of_eq (by assumption) ?_) | decide | split | dsimp only

theorem orphanSafe_keeps {t x1} (k : [.rcd, .sw] ⊆ m) (g : Keeps m s t) : Keeps m s (State.orphanSafe t x1) := by
  refine keeps_step ?_ k g; unfold State.orphanSafe
  repeat' first | (with_reducible first | exact keeps_refl _ _ | apply onChan_keeps | apply toSafe_keeps | apply record_keeps | refine keeps_of_eq (by assumption) ?_) | decide | split | dsimp only

theorem orphanEnter_keeps {t x1} (k : [.rcd, .sw] ⊆ m) (g : Keeps m s t) : Keeps m s (State.orphanEnter t x1) := by
  refine keeps_step ?_ k g; unfold State.orphanEnter
  repeat' first | (with_reducible first | exact keeps_refl _ _ | apply onChan_keeps | apply orphanSafe_keeps | apply keeps_ite) | decide | split | dsimp only

theorem orphanEvent_keeps {t x1 x2} (k : [.rcd, .sw] ⊆ m) (g : Keeps m s t) : Keeps m s (State.orphanEvent t x1 x2) := by
  refine keeps_step ?_ k g; unfold State.orphanEvent
  repeat' first | (with_reducible first | exact keeps_refl _ _ | apply rephase_keeps | apply record_keeps | apply orphanEnter_keeps | apply keeps_forEach | apply keeps_ite) | decide | intro _ | split | dsimp only

theorem restart_keeps {t x1} (k : [.rcd, .sw] ⊆ m) (g : Keeps m s t) : Keeps m s (State.restart t x1) := by
  refine keeps_step ?_ k g; unfold State.restart
  repeat' first | (with_reducible first | exact keeps_refl _ _ | apply onChan_keeps | apply rephase_keeps | apply enter_keeps | apply record_keeps | apply keeps_ite) | decide | split | dsimp only

theorem afterTrip_keeps {t x1} (k : [.rcd, .flt, .sw] ⊆ m) (g : Keeps m s t) : Keeps m s (State.afterTrip t x1) := by
  refine keeps_step ?_ k g; unfold State.afterTrip
  repeat' first | (with_reducible first | exact keeps_refl _ _ | apply onChan_keeps | apply fault_keeps | apply keeps_ite) | decide | split | dsimp only

theorem shed_keeps {t x1 x2 x3} (k : [.rcd, .sw] ⊆ m) (g : Keeps m s t) : Keeps m s (State.shed t x1 x2 x3) := by
  refine keeps_step ?_ k g; unfold State.shed
  repeat' first | (with_reducible first | exact keeps_refl _ _ | apply onChan_keeps | apply enter_keeps | apply rephase_keeps | apply record_keeps) | decide | split | dsimp only

theorem countTrip_keeps {t x1 x2} (k : [.sw] ⊆ m) (g : Keeps m s t) : Keeps m s (State.countTrip t x1 x2) := by
  refine keeps_step ?_ k g; unfold State.countTrip
  repeat' first | (with_reducible first | exact keeps_refl _ _ | apply onChan_keeps | apply keeps_ite) | decide | split | dsimp only

theorem sleepTrip_keeps {t x1 x2 x3} (k : [.rcd, .flt, .sw] ⊆ m) (g : Keeps m s t) : Keeps m s (State.sleepTrip t x1 x2 x3) := by
  refine keeps_step ?_ k g; unfold State.sleepTrip
  repeat' first | (with_reducible first | exact keeps_refl _ _ | apply countTrip_keeps | apply onChan_keeps | apply fault_keeps | apply record_keeps | apply keeps_ite) | decide | split | dsimp only

theorem guardShed_keeps {t x1} (k : [.rcd, .sw] ⊆ m) (g : Keeps m s t) : Keeps m s (State.guardShed t x1) := by
  refine keeps_step ?_ k g; unfold State.guardShed
  repeat' first | (with_reducible first | exact keeps_refl _ _ | apply onGuard_keeps | apply shed_keeps) | decide | split | dsimp only

theorem switchInvalid_keeps {t x1 x2} (k : [.rcd] ⊆ m) (g : Keeps m s t) : Keeps m s (State.switchInvalid t x1 x2) := by
  refine keeps_step ?_ k g; unfold State.switchInvalid
  repeat' first | (with_reducible first | exact keeps_refl _ _ | apply planRecord_keeps) | decide | split | dsimp only

theorem applyWeftCmd_keeps {t x1 x2} (k : [.rcd, .sw] ⊆ m) (g : Keeps m s t) : Keeps m s (State.applyWeftCmd t x1 x2) := by
  refine keeps_step ?_ k g; unfold State.applyWeftCmd
  repeat' first | (with_reducible first | exact keeps_refl _ _ | apply changeMode_keeps | apply rephase_keeps | apply record_keeps | apply switchInvalid_keeps | apply keeps_ite | refine keeps_of_eq (by assumption) ?_) | decide | split | dsimp only

theorem switchDue_keeps {t x1 x2} (k : [.rcd, .flt, .sw] ⊆ m) (g : Keeps m s t) : Keeps m s (State.switchDue t x1 x2) := by
  refine keeps_step ?_ k g; unfold State.switchDue
  repeat' first | (with_reducible first | exact keeps_refl _ _ | apply onChan_keeps | apply applyWeftCmd_keeps | apply fault_keeps | apply keeps_ite) | decide | split | dsimp only

theorem writePg_keeps {t x1 x2} (k : [.sw] ⊆ m) (g : Keeps m s t) : Keeps m s (State.writePg t x1 x2).2 := by
  refine keeps_step ?_ k g; unfold State.writePg
  repeat' first | (with_reducible first | exact keeps_refl _ _ | apply onSw_keeps | apply keeps_ite | apply keeps_ite_pair) | decide | split | dsimp only

theorem endWaiting_keeps {t x1} (k : [.out, .rcd, .cmd, .sw, .drv, .fld, .can, .far, .twin] ⊆ m) (g : Keeps m s t) : Keeps m s (State.endWaiting t x1) := by
  refine keeps_step ?_ k g; unfold State.endWaiting
  repeat' first | (with_reducible first | exact keeps_refl _ _ | apply completeId_keeps | apply keeps_forEach) | decide | intro _ | split | dsimp only

theorem endBarrier_keeps {t} (k : [.out, .supply, .rcd, .cmd, .sw, .drv, .fld, .can, .far, .twin] ⊆ m) (g : Keeps m s t) : Keeps m s (State.endBarrier t) := by
  refine keeps_step ?_ k g; unfold State.endBarrier
  repeat' first | (with_reducible first | exact keeps_refl _ _ | apply onSupply_keeps | apply onFld_keeps | apply completeId_keeps | apply keeps_forEach) | decide | intro _ | split | dsimp only

theorem coolingLatch_keeps {t x1} (k : [.rcd, .flt, .sw] ⊆ m) (g : Keeps m s t) : Keeps m s (State.coolingLatch t x1) := by
  refine keeps_step ?_ k g; unfold State.coolingLatch
  repeat' first | (with_reducible first | exact keeps_refl _ _ | apply fault_keeps | apply onChan_keeps) | decide | split | dsimp only

theorem switchClear_keeps {t} (k : [.out, .mem, .supply, .rcd, .cmd, .sw, .drv, .fld, .can, .far, .twin] ⊆ m) (g : Keeps m s t) : Keeps m s (State.switchClear t) := by
  refine keeps_step ?_ k g; unfold State.switchClear
  repeat' first | (with_reducible first | exact keeps_refl _ _ | apply endWaiting_keeps | apply endBarrier_keeps | apply clearMem_keeps | apply rebase_keeps | apply onSw_keeps) | decide | split | dsimp only

theorem judgeSum_keeps {t x1 x2} (k : [.sw] ⊆ m) (g : Keeps m s t) : Keeps m s (State.judgeSum t x1 x2) := by
  refine keeps_step ?_ k g; unfold State.judgeSum
  repeat' first | (with_reducible first | exact keeps_refl _ _ | apply onGuard_keeps | apply keeps_ite) | decide | split | dsimp only

theorem opOrphanSafe_keeps {x0 t} (k : [.rcd, .sw] ⊆ m) (g : Keeps m s t) : Keeps m s (opOrphanSafe x0 t) := by
  refine keeps_step ?_ k g; unfold opOrphanSafe
  repeat' first | (with_reducible first | exact keeps_refl _ _ | apply orphanSafe_keeps | apply keeps_ite) | decide | split | dsimp only

theorem opSwitchReset_keeps {t} (k : [.out, .mem, .supply, .rcd, .flt, .cmd, .sw, .drv, .fld, .can, .far, .twin] ⊆ m) (g : Keeps m s t) : Keeps m s (opSwitchReset t) := by
  refine keeps_step ?_ k g; unfold opSwitchReset
  repeat' first | (with_reducible first | exact keeps_refl _ _ | apply fault_keeps | apply switchClear_keeps) | decide | split | dsimp only

theorem offAnew_keeps {t x1} (k : [.sw] ⊆ m) (g : Keeps m s t) : Keeps m s (State.offAnew t x1) := by
  refine keeps_step ?_ k g; unfold State.offAnew
  repeat' first | (with_reducible first | exact keeps_refl _ _ | apply onSw_keeps | apply keeps_ite) | decide | split | dsimp only

theorem scanSum_keeps {t x1} (k : [.supply, .sw] ⊆ m) (g : Keeps m s t) : Keeps m s (State.scanSum t x1) := by
  refine keeps_step ?_ k g; unfold State.scanSum
  repeat' first | (with_reducible first | exact keeps_refl _ _ | apply onSw_keeps | apply onSupply_keeps | apply onGuard_keeps | apply judgeSum_keeps | apply keeps_ite) | decide | split | dsimp only

theorem chDenied_keeps {t x1} (k : [.sw] ⊆ m) (g : Keeps m s t) : Keeps m s (State.chDenied t x1) := by
  refine keeps_step ?_ k g; unfold State.chDenied
  repeat' first | (with_reducible first | exact keeps_refl _ _ | apply onChan_keeps) | decide | split | dsimp only

theorem muteChan_keeps {t x1} (k : [.sw] ⊆ m) (g : Keeps m s t) : Keeps m s (State.muteChan t x1) := by
  refine keeps_step ?_ k g; unfold State.muteChan
  repeat' first | (with_reducible first | exact keeps_refl _ _ | apply changeMode_keeps | apply keeps_ite | refine keeps_of_eq (by assumption) ?_) | decide | split | dsimp only

theorem configure_keeps {t x1 x2} (k : [.sw] ⊆ m) (g : Keeps m s t) : Keeps m s (State.configure t x1 x2) := by
  refine keeps_step ?_ k g; unfold State.configure
  repeat' first | (with_reducible first | exact keeps_refl _ _ | apply onChan_keeps | apply rephase_keeps | apply muteChan_keeps | apply keeps_ite) | decide | split | dsimp only

theorem writeChan_keeps {t x1 x2 x3} (k : [.sw] ⊆ m) (g : Keeps m s t) : Keeps m s (State.writeChan t x1 x2 x3).2 := by
  refine keeps_step ?_ k g; unfold State.writeChan
  repeat' first | (with_reducible first | exact keeps_refl _ _ | apply chDenied_keeps | apply configure_keeps | apply onChan_keeps | apply keeps_ite | apply keeps_ite_pair) | decide | split | dsimp only

theorem adoptChan_keeps {t x1 x2} (k : [.rcd, .sw] ⊆ m) (g : Keeps m s t) : Keeps m s (State.adoptChan t x1 x2).2 := by
  refine keeps_step ?_ k g; unfold State.adoptChan
  repeat' first | (with_reducible first | exact keeps_refl _ _ | apply rephase_keeps | apply passTo_keeps | apply record_keeps | apply keeps_ite | apply keeps_ite_pair) | decide | split | dsimp only

theorem popWaiting_keeps {t x1} (k : [.sw] ⊆ m) (g : Keeps m s t) : Keeps m s (State.popWaiting t x1) := by
  refine keeps_step ?_ k g; unfold State.popWaiting
  repeat' first | (with_reducible first | exact keeps_refl _ _ | apply onChan_keeps) | decide | split | dsimp only

theorem hostCheckFails_keeps {t x1 x2} (k : [.out, .rcd, .flt, .cmd, .sw, .drv, .fld, .can, .far, .twin] ⊆ m) (g : Keeps m s t) : Keeps m s (State.hostCheckFails t x1 x2) := by
  refine keeps_step ?_ k g; unfold State.hostCheckFails
  repeat' first | (with_reducible first | exact keeps_refl _ _ | apply completeId_keeps | apply fault_keeps | apply popWaiting_keeps) | decide | split | dsimp only

theorem applyHostCmd_keeps {t x1 x2} (k : [.out, .rcd, .cmd, .sw, .drv, .fld, .can, .far, .twin] ⊆ m) (g : Keeps m s t) : Keeps m s (State.applyHostCmd t x1 x2) := by
  refine keeps_step ?_ k g; unfold State.applyHostCmd
  repeat' first | (with_reducible first | exact keeps_refl _ _ | apply popWaiting_keeps | apply completeId_keeps | apply changeMode_keeps | apply onChan_keeps | apply rephase_keeps | apply record_keeps | apply keeps_ite | refine keeps_of_eq (by assumption) ?_) | decide | split | dsimp only

theorem evalRequest_keeps {t x1 x2 x3 x4} (k : [.out, .rcd, .cmd, .sw, .drv, .fld, .can, .far, .twin] ⊆ m) (g : Keeps m s t) : Keeps m s (State.evalRequest t x1 x2 x3 x4).1 := by
  refine keeps_step ?_ k g; unfold State.evalRequest
  repeat' first | (with_reducible first | exact keeps_refl _ _ | apply completeId_keeps | apply popWaiting_keeps | apply applyHostCmd_keeps | apply onChan_keeps | apply keeps_ite) | decide | split | dsimp only

theorem markStep_keeps {base bad a q} (k : [.out, .rcd, .flt, .cmd, .sw, .drv, .fld, .can, .far, .twin] ⊆ m) : Keeps m a.1 (State.markStep base bad a q).1 := by
  have hh : Keeps m a.1 (a.1.hostCheckFails q.1 q.2) := hostCheckFails_keeps (List.Subset.trans (by decide) k) (keeps_refl _ _)
  have he : ∀ x, Keeps m a.1 (a.1.evalRequest q.1 q.2 base x).1 := fun x => evalRequest_keeps (List.Subset.trans (by decide) k) (keeps_refl _ _)
  unfold State.markStep
  repeat' first | exact keeps_refl _ _ | exact hh | exact he _ | split | dsimp only

theorem hostMark_keeps {t x1} (k : [.out, .rcd, .flt, .cmd, .sw, .drv, .fld, .can, .far, .twin] ⊆ m) (g : Keeps m s t) : Keeps m s (State.hostMark t x1) := by
  refine keeps_step ?_ k g; unfold State.hostMark
  repeat' first | (with_reducible first | exact keeps_refl _ _ | apply onSw_keeps | apply markStep_keeps | apply keeps_foldl | apply keeps_foldl1 | refine keeps_of_eq1 (by assumption) ?_) | decide | intro _ | split | dsimp only

theorem pgMark_keeps {t} (k : [.sw] ⊆ m) (g : Keeps m s t) : Keeps m s (State.pgMark t) := by
  refine keeps_step ?_ k g; unfold State.pgMark
  repeat' first | (with_reducible first | exact keeps_refl _ _ | apply onSw_keeps | apply rebase_keeps | apply onChan_keeps | apply keeps_forEach) | decide | intro _ | split | dsimp only

theorem writeBudget_keeps {t x1 x2} (k : [.sw] ⊆ m) (g : Keeps m s t) : Keeps m s (State.writeBudget t x1 x2).2 := by
  refine keeps_step ?_ k g; unfold State.writeBudget
  repeat' first | (with_reducible first | exact keeps_refl _ _ | apply onSw_keeps | apply onGuard_keeps | apply keeps_ite | apply keeps_ite_pair) | decide | split | dsimp only

theorem switchCommit_keeps {t x1 x2} (k : [.rcd, .flt, .sw] ⊆ m) (g : Keeps m s t) : Keeps m s (State.switchCommit t x1 x2) := by
  refine keeps_step ?_ k g; unfold State.switchCommit
  repeat' first | (with_reducible first | exact keeps_refl _ _ | apply onSw_keeps | apply fault_keeps | apply islandPlanFault_keeps | apply keeps_ite) | decide | split | dsimp only

theorem writeSwitch_keeps {t x1 x2} (k : [.sw] ⊆ m) (g : Keeps m s t) : Keeps m s (State.writeSwitch t x1 x2).2 := by
  refine keeps_step ?_ k g; unfold State.writeSwitch
  repeat' first | (with_reducible first | exact keeps_refl _ _ | apply onSw_keeps | apply writePg_keeps | apply writeBudget_keeps | refine keeps_of_eq (by assumption) ?_) | decide | split | dsimp only

end Sys2Proof.Laws
end

