-- ==== Sys2Proof/Laws/KeepsDrive.lean ====
section
/-! SUPPORT. What each operation leaves alone: the drive island. -/

namespace Sys2Proof.Laws

open Sys2Proof Sys2Proof.Machine

set_option linter.all false

variable {m : List Part} {s : State}

theorem onCoil_keeps {t x1 x2} (k : [.drv] ⊆ m) (g : Keeps m s t) : Keeps m s (State.onCoil t x1 x2) := by
  refine keeps_step ?_ k g; unfold State.onCoil
  repeat' first | (with_reducible first | exact keeps_refl _ _ | apply onDrv_keeps) | decide | split | dsimp only

theorem acOrphanMark_keeps {t x1} (k : [.rcd, .drv] ⊆ m) (g : Keeps m s t) : Keeps m s (State.acOrphanMark t x1) := by
  refine keeps_step ?_ k g; unfold State.acOrphanMark
  repeat' first | (with_reducible first | exact keeps_refl _ _ | apply record_keeps | apply onCoil_keeps) | decide | split | dsimp only

theorem onBank_keeps {t x1 x2} (k : [.drv] ⊆ m) (g : Keeps m s t) : Keeps m s (State.onBank t x1 x2) := by
  refine keeps_step ?_ k g; unfold State.onBank
  repeat' first | (with_reducible first | exact keeps_refl _ _ | apply onDrv_keeps) | decide | split | dsimp only

theorem dropBoost_keeps {t x1} (k : [.drv] ⊆ m) (g : Keeps m s t) : Keeps m s (State.dropBoost t x1) := by
  refine keeps_step ?_ k g; unfold State.dropBoost
  repeat' first | (with_reducible first | exact keeps_refl _ _ | apply onBank_keeps | apply keeps_ite) | decide | split | dsimp only

theorem endFire_keeps {t x1 x2 x3 x4 x5} (k : [.out, .rcd, .cmd, .sw, .drv, .fld, .can, .far, .twin] ⊆ m) (g : Keeps m s t) : Keeps m s (State.endFire t x1 x2 x3 x4 x5) := by
  refine keeps_step ?_ k g; unfold State.endFire
  repeat' first | (with_reducible first | exact keeps_refl _ _ | apply completeId_keeps | apply onCoil_keeps) | decide | split | dsimp only

theorem endFireEarly_keeps {t x1 x2} (k : [.free, .out, .rcd, .cmd, .sw, .drv, .fld, .can, .far, .twin] ⊆ m) (g : Keeps m s t) : Keeps m s (State.endFireEarly t x1 x2) := by
  refine keeps_step ?_ k g; unfold State.endFireEarly
  repeat' first | (with_reducible first | exact keeps_refl _ _ | apply endFire_keeps | apply draw_keeps | apply keeps_ite | refine keeps_of_eq (by assumption) ?_) | decide | split | dsimp only

theorem settle_keeps {t x1} (k : [.drv] ⊆ m) (g : Keeps m s t) : Keeps m s (State.settle t x1) := by
  refine keeps_step ?_ k g; unfold State.settle
  repeat' first | (with_reducible first | exact keeps_refl _ _ | apply onCoil_keeps | apply keeps_ite) | decide | split | dsimp only

theorem acRelease_keeps {t x1 x2} (k : [.free, .out, .rcd, .cmd, .sw, .drv, .fld, .can, .far, .twin] ⊆ m) (g : Keeps m s t) : Keeps m s (State.acRelease t x1 x2) := by
  refine keeps_step ?_ k g; unfold State.acRelease
  repeat' first | (with_reducible first | exact keeps_refl _ _ | apply dropBoost_keeps | apply onCoil_keeps | apply endFireEarly_keeps | apply settle_keeps | apply keeps_ite) | decide | split | dsimp only

theorem acOrphanRelease_keeps {t x1} (k : [.free, .out, .rcd, .cmd, .sw, .drv, .fld, .can, .far, .twin] ⊆ m) (g : Keeps m s t) : Keeps m s (State.acOrphanRelease t x1) := by
  refine keeps_step ?_ k g; unfold State.acOrphanRelease
  repeat' first | (with_reducible first | exact keeps_refl _ _ | apply acOrphanMark_keeps | apply acRelease_keeps) | decide | split | dsimp only

theorem acOrphanEnter_keeps {t x1} (k : [.free, .out, .rcd, .cmd, .sw, .drv, .fld, .can, .far, .twin] ⊆ m) (g : Keeps m s t) : Keeps m s (State.acOrphanEnter t x1) := by
  refine keeps_step ?_ k g; unfold State.acOrphanEnter
  repeat' first | (with_reducible first | exact keeps_refl _ _ | apply onCoil_keeps | apply acOrphanRelease_keeps | apply keeps_ite) | decide | split | dsimp only

theorem acOrphanEvent_keeps {t x1 x2} (k : [.free, .out, .rcd, .cmd, .sw, .drv, .fld, .can, .far, .twin] ⊆ m) (g : Keeps m s t) : Keeps m s (State.acOrphanEvent t x1 x2) := by
  refine keeps_step ?_ k g; unfold State.acOrphanEvent
  repeat' first | (with_reducible first | exact keeps_refl _ _ | apply record_keeps | apply acOrphanEnter_keeps | apply keeps_forEach | apply keeps_ite) | decide | intro _ | split | dsimp only

theorem raiseDiag_keeps {t x1 x2 x3 x4 x5} (k : [.rcd, .flt, .drv] ⊆ m) (g : Keeps m s t) : Keeps m s (State.raiseDiag t x1 x2 x3 x4 x5) := by
  refine keeps_step ?_ k g; unfold State.raiseDiag
  repeat' first | (with_reducible first | exact keeps_refl _ _ | apply onCoil_keeps | apply fault_keeps) | decide | split | dsimp only

theorem bobDiag_keeps {t x1 x2 x3} (k : [.rcd, .flt, .drv] ⊆ m) (g : Keeps m s t) : Keeps m s (State.bobDiag t x1 x2 x3) := by
  refine keeps_step ?_ k g; unfold State.bobDiag
  repeat' first | (with_reducible first | exact keeps_refl _ _ | apply raiseDiag_keeps | apply fault_keeps | apply onCoil_keeps) | decide | split | dsimp only

theorem onEng_keeps {t x1 x2} (k : [.drv] ⊆ m) (g : Keeps m s t) : Keeps m s (State.onEng t x1 x2) := by
  refine keeps_step ?_ k g; unfold State.onEng
  repeat' first | (with_reducible first | exact keeps_refl _ _ | apply onCoil_keeps) | decide | split | dsimp only

theorem programEnd_keeps {t x1 x2} (k : [.free, .out, .rcd, .cmd, .sw, .drv, .fld, .can, .far, .twin] ⊆ m) (g : Keeps m s t) : Keeps m s (State.programEnd t x1 x2) := by
  refine keeps_step ?_ k g; unfold State.programEnd
  repeat' first | (with_reducible first | exact keeps_refl _ _ | apply acRelease_keeps | apply acOrphanMark_keeps | apply keeps_ite) | decide | split | dsimp only

theorem setVboost_keeps {t x1} (k : [.drv] ⊆ m) (g : Keeps m s t) : Keeps m s (State.setVboost t x1) := by
  refine keeps_step ?_ k g; unfold State.setVboost
  repeat' first | (with_reducible first | exact keeps_refl _ _ | apply railUpdate_keeps | apply onDrv_keeps) | decide | split | dsimp only

theorem acPassTo_keeps {t x1 x2} (k : [.drv] ⊆ m) (g : Keeps m s t) : Keeps m s (State.acPassTo t x1 x2) := by
  refine keeps_step ?_ k g; unfold State.acPassTo
  repeat' first | (with_reducible first | exact keeps_refl _ _ | apply onCoil_keeps) | decide | split | dsimp only

theorem acFire_keeps {t x1 x2 x3} (k : [.out, .rcd, .flt, .cmd, .sw, .drv, .fld, .can, .far, .twin] ⊆ m) (g : Keeps m s t) : Keeps m s (State.acFire t x1 x2 x3) := by
  refine keeps_step ?_ k g; unfold State.acFire
  repeat' first | (with_reducible first | exact keeps_refl _ _ | apply completeId_keeps | apply record_keeps | apply planFault_keeps | apply fault_keeps | apply onCoil_keeps | apply settle_keeps | apply keeps_ite) | decide | split | dsimp only

theorem grant_keeps {t x1} (k : [.drv] ⊆ m) (g : Keeps m s t) : Keeps m s (State.grant t x1) := by
  refine keeps_step ?_ k g; unfold State.grant
  repeat' first | (with_reducible first | exact keeps_refl _ _ | apply onBank_keeps | apply onCoil_keeps | apply settle_keeps) | decide | split | dsimp only

theorem muteAct_keeps {t x1} (k : [.free, .out, .rcd, .cmd, .sw, .drv, .fld, .can, .far, .twin] ⊆ m) (g : Keeps m s t) : Keeps m s (State.muteAct t x1) := by
  refine keeps_step ?_ k g; unfold State.muteAct
  repeat' first | (with_reducible first | exact keeps_refl _ _ | apply acRelease_keeps | apply keeps_ite) | decide | split | dsimp only

theorem refuseBoost_keeps {t x1} (k : [.free, .out, .rcd, .flt, .cmd, .sw, .drv, .fld, .can, .far, .twin] ⊆ m) (g : Keeps m s t) : Keeps m s (State.refuseBoost t x1) := by
  refine keeps_step ?_ k g; unfold State.refuseBoost
  repeat' first | (with_reducible first | exact keeps_refl _ _ | apply fault_keeps | apply onCoil_keeps | apply acRelease_keeps | apply endFire_keeps) | decide | split | dsimp only

theorem bobNext_keeps {t x1} (k : [.drv] ⊆ m) (g : Keeps m s t) : Keeps m s (State.bobNext t x1) := by
  refine keeps_step ?_ k g; unfold State.bobNext
  repeat' first | (with_reducible first | exact keeps_refl _ _ | apply onEng_keeps) | decide | split | dsimp only

theorem judgeGuard_keeps {t x1 x2 x3} (k : [.free, .rcd, .flt, .drv] ⊆ m) (g : Keeps m s t) : Keeps m s (State.judgeGuard t x1 x2 x3).2 := by
  refine keeps_step ?_ k g; unfold State.judgeGuard
  repeat' first | (with_reducible first | exact keeps_refl _ _ | apply onEng_keeps | apply draw_keeps | apply bobDiag_keeps | apply keeps_ite | apply keeps_ite_pair | refine keeps_of_eq (by assumption) ?_) | decide | split | dsimp only

theorem armDropout_keeps {t x1 x2} (k : [.drv] ⊆ m) (g : Keeps m s t) : Keeps m s (State.armDropout t x1 x2) := by
  refine keeps_step ?_ k g; unfold State.armDropout
  repeat' first | (with_reducible first | exact keeps_refl _ _ | apply onCoil_keeps | apply keeps_ite) | decide | split | dsimp only

theorem bobJump_keeps {t x1 x2} (k : [.drv] ⊆ m) (g : Keeps m s t) : Keeps m s (State.bobJump t x1 x2) := by
  refine keeps_step ?_ k g; unfold State.bobJump
  repeat' first | (with_reducible first | exact keeps_refl _ _ | apply onEng_keeps) | decide | split | dsimp only

theorem bobGuards_keeps {t x1 x2} (k : [.free, .out, .rcd, .flt, .cmd, .sw, .drv, .fld, .can, .far, .twin] ⊆ m) (g : Keeps m s t) : Keeps m s (State.bobGuards t x1 x2) := by
  refine keeps_step ?_ k g; unfold State.bobGuards
  repeat' first | (with_reducible first | exact keeps_refl _ _ | apply judgeGuard_keeps | apply programEnd_keeps | apply keeps_ite | refine keeps_of_eq (by assumption) ?_) | decide | split | dsimp only

theorem bobError_keeps {t x1 x2} (k : [.free, .out, .rcd, .flt, .cmd, .sw, .drv, .fld, .can, .far, .twin] ⊆ m) (g : Keeps m s t) : Keeps m s (State.bobError t x1 x2) := by
  refine keeps_step ?_ k g; unfold State.bobError
  repeat' first | (with_reducible first | exact keeps_refl _ _ | apply onEng_keeps | apply fault_keeps | apply programEnd_keeps) | decide | split | dsimp only

theorem bobKeep_keeps {t x1} (k : [.free, .out, .rcd, .flt, .cmd, .sw, .drv, .fld, .can, .far, .twin] ⊆ m) (g : Keeps m s t) : Keeps m s (State.bobKeep t x1) := by
  refine keeps_step ?_ k g; unfold State.bobKeep
  repeat' first | (with_reducible first | exact keeps_refl _ _ | apply onCoil_keeps | apply bobError_keeps | apply keeps_ite) | decide | split | dsimp only

theorem bobBoost_keeps {t x1} (k : [.drv] ⊆ m) (g : Keeps m s t) : Keeps m s (State.bobBoost t x1).2 := by
  refine keeps_step ?_ k g; unfold State.bobBoost
  repeat' first | (with_reducible first | exact keeps_refl _ _ | apply bobNext_keeps | apply onEng_keeps | apply grant_keeps | apply settle_keeps | apply keeps_ite | apply keeps_ite_pair) | decide | split | dsimp only

theorem bobReg_keeps {t x1 x2} (k : [.free, .out, .rcd, .flt, .cmd, .sw, .drv, .fld, .can, .far, .twin] ⊆ m) (g : Keeps m s t) : Keeps m s (State.bobReg t x1 x2).2 := by
  refine keeps_step ?_ k g; unfold State.bobReg
  repeat' first | (with_reducible first | exact keeps_refl _ _ | apply bobError_keeps | apply onCoil_keeps | apply bobNext_keeps | apply onEng_keeps | apply keeps_ite | apply keeps_ite_pair) | decide | split | dsimp only

theorem bobGuard_keeps {t x1 x2 x3} (k : [.free, .out, .rcd, .flt, .cmd, .sw, .drv, .fld, .can, .far, .twin] ⊆ m) (g : Keeps m s t) : Keeps m s (State.bobGuard t x1 x2 x3).2 := by
  refine keeps_step ?_ k g; unfold State.bobGuard
  repeat' first | (with_reducible first | exact keeps_refl _ _ | apply bobNext_keeps | apply onEng_keeps | apply judgeGuard_keeps | apply programEnd_keeps | apply keeps_ite | apply keeps_ite_pair | refine keeps_of_eq (by assumption) ?_) | decide | split | dsimp only

theorem bobFault_keeps {t x1 x2} (k : [.free, .out, .rcd, .flt, .cmd, .sw, .drv, .fld, .can, .far, .twin] ⊆ m) (g : Keeps m s t) : Keeps m s (State.bobFault t x1 x2).2 := by
  refine keeps_step ?_ k g; unfold State.bobFault
  repeat' first | (with_reducible first | exact keeps_refl _ _ | apply bobDiag_keeps | apply programEnd_keeps | apply bobNext_keeps | apply keeps_ite | apply keeps_ite_pair) | decide | split | dsimp only

theorem bobDone_keeps {t x1} (k : [.free, .out, .rcd, .cmd, .sw, .drv, .fld, .can, .far, .twin] ⊆ m) (g : Keeps m s t) : Keeps m s (State.bobDone t x1) := by
  refine keeps_step ?_ k g; unfold State.bobDone
  repeat' first | (with_reducible first | exact keeps_refl _ _ | apply onCoil_keeps | apply record_keeps | apply draw_keeps | apply endFire_keeps | apply keeps_ite | refine keeps_of_eq (by assumption) ?_) | decide | split | dsimp only

theorem bobStep_keeps {t x1 x2} (k : [.free, .out, .rcd, .flt, .cmd, .sw, .drv, .fld, .can, .far, .twin] ⊆ m) (g : Keeps m s t) : Keeps m s (State.bobStep t x1 x2).2 := by
  refine keeps_step ?_ k g; unfold State.bobStep
  repeat' first | (with_reducible first | exact keeps_refl _ _ | apply bobKeep_keeps | apply programEnd_keeps | apply bobNext_keeps | apply onEng_keeps | apply bobBoost_keeps | apply dropBoost_keeps | apply settle_keeps | apply bobError_keeps | apply onCoil_keeps | apply bobReg_keeps | apply bobJump_keeps | apply bobGuard_keeps | apply bobFault_keeps | apply bobDone_keeps | apply keeps_ite | apply keeps_ite_pair | refine keeps_of_eq (by assumption) ?_) | decide | split | dsimp only

theorem bobRun_keeps {x0 x1 x2 t} (k : [.free, .out, .rcd, .flt, .cmd, .sw, .drv, .fld, .can, .far, .twin] ⊆ m) (g : Keeps m s t) : Keeps m s (bobRun x0 x1 x2 t) := by
  induction x2 generalizing x0 x1 t with
  | zero =>
    unfold bobRun
    repeat' first | exact k | (with_reducible first | assumption | apply bobError_keeps | apply bobStep_keeps | apply onEng_keeps | refine keeps_of_eq (by assumption) ?_) | exact List.Subset.trans (by decide) k | split | dsimp only
  | succ n ih =>
    unfold bobRun
    repeat' first | exact k | (with_reducible first | assumption | apply ih | apply bobError_keeps | apply bobStep_keeps | apply onEng_keeps | refine keeps_of_eq (by assumption) ?_) | exact List.Subset.trans (by decide) k | split | dsimp only

theorem engineResume_keeps {t x1 x2 x3} (k : [.free, .out, .rcd, .flt, .cmd, .sw, .drv, .fld, .can, .far, .twin] ⊆ m) (g : Keeps m s t) : Keeps m s (State.engineResume t x1 x2 x3) := by
  refine keeps_step ?_ k g; unfold State.engineResume
  repeat' first | (with_reducible first | exact keeps_refl _ _ | apply bobRun_keeps | apply onEng_keeps | apply acOrphanRelease_keeps | apply keeps_ite) | decide | split | dsimp only

theorem engineUpdate_keeps {t x1 x2} (k : [.free, .out, .rcd, .flt, .cmd, .sw, .drv, .fld, .can, .far, .twin] ⊆ m) (g : Keeps m s t) : Keeps m s (State.engineUpdate t x1 x2) := by
  refine keeps_step ?_ k g; unfold State.engineUpdate
  repeat' first | (with_reducible first | exact keeps_refl _ _ | apply bobGuards_keeps | apply engineResume_keeps | apply keeps_ite) | decide | split | dsimp only

theorem track_keeps {t x1 x2 x3} (k : [.drv] ⊆ m) (g : Keeps m s t) : Keeps m s (State.track t x1 x2 x3) := by
  refine keeps_step ?_ k g; unfold State.track
  repeat' first | (with_reducible first | exact keeps_refl _ _ | apply onCoil_keeps | apply keeps_ite) | decide | split | dsimp only

theorem endUpdate_keeps {t x1 x2 x3 x4} (k : [.drv] ⊆ m) (g : Keeps m s t) : Keeps m s (State.endUpdate t x1 x2 x3 x4) := by
  refine keeps_step ?_ k g; unfold State.endUpdate
  repeat' first | (with_reducible first | exact keeps_refl _ _ | apply track_keeps | apply settle_keeps | apply armDropout_keeps | apply onCoil_keeps) | decide | split | dsimp only

theorem takeKink_keeps {t x1 x2} (k : [.drv] ⊆ m) (g : Keeps m s t) : Keeps m s (State.takeKink t x1 x2) := by
  refine keeps_step ?_ k g; unfold State.takeKink
  repeat' first | (with_reducible first | exact keeps_refl _ _ | apply onEng_keeps | apply keeps_ite) | decide | split | dsimp only

theorem resumeOther_keeps {t x1} (k : [.free, .out, .rcd, .flt, .cmd, .sw, .drv, .fld, .can, .far, .twin] ⊆ m) (g : Keeps m s t) : Keeps m s (State.resumeOther t x1) := by
  refine keeps_step ?_ k g; unfold State.resumeOther
  repeat' first | (with_reducible first | exact keeps_refl _ _ | apply endUpdate_keeps | apply engineResume_keeps | apply keeps_ite) | decide | split | dsimp only

theorem takeDropout_keeps {t x1 x2 x3} (k : [.drv] ⊆ m) (g : Keeps m s t) : Keeps m s (State.takeDropout t x1 x2 x3) := by
  refine keeps_step ?_ k g; unfold State.takeDropout
  repeat' first | (with_reducible first | exact keeps_refl _ _ | apply onCoil_keeps | apply onEng_keeps | apply keeps_ite) | decide | split | dsimp only

theorem endAcWaiting_keeps {t x1} (k : [.out, .rcd, .cmd, .sw, .drv, .fld, .can, .far, .twin] ⊆ m) (g : Keeps m s t) : Keeps m s (State.endAcWaiting t x1) := by
  refine keeps_step ?_ k g; unfold State.endAcWaiting
  repeat' first | (with_reducible first | exact keeps_refl _ _ | apply completeId_keeps | apply keeps_foldl | apply keeps_foldl1) | decide | intro _ | split | dsimp only

theorem driveClear_keeps {t} (k : [.free, .out, .mem, .rcd, .cmd, .sw, .drv, .fld, .can, .far, .twin] ⊆ m) (g : Keeps m s t) : Keeps m s (State.driveClear t) := by
  refine keeps_step ?_ k g; unfold State.driveClear
  repeat' first | (with_reducible first | exact keeps_refl _ _ | apply endAcWaiting_keeps | apply endFireEarly_keeps | apply clearMem_keeps | apply railUpdate_keeps | apply onDrv_keeps | apply keeps_forEach | apply keeps_ite) | decide | intro _ | split | dsimp only

theorem opDriveReset_keeps {t} (k : [.free, .out, .mem, .rcd, .flt, .cmd, .sw, .drv, .fld, .can, .far, .twin] ⊆ m) (g : Keeps m s t) : Keeps m s (opDriveReset t) := by
  refine keeps_step ?_ k g; unfold opDriveReset
  repeat' first | (with_reducible first | exact keeps_refl _ _ | apply fault_keeps | apply driveClear_keeps) | decide | split | dsimp only

theorem adoptAct_keeps {t x1 x2} (k : [.rcd, .drv] ⊆ m) (g : Keeps m s t) : Keeps m s (State.adoptAct t x1 x2).2 := by
  refine keeps_step ?_ k g; unfold State.adoptAct
  repeat' first | (with_reducible first | exact keeps_refl _ _ | apply acPassTo_keeps | apply record_keeps | apply keeps_ite | apply keeps_ite_pair) | decide | split | dsimp only

theorem acDenied_keeps {t x1} (k : [.drv] ⊆ m) (g : Keeps m s t) : Keeps m s (State.acDenied t x1) := by
  refine keeps_step ?_ k g; unfold State.acDenied
  repeat' first | (with_reducible first | exact keeps_refl _ _ | apply onCoil_keeps) | decide | split | dsimp only

theorem writeAct_keeps {t x1 x2 x3} (k : [.free, .out, .rcd, .cmd, .sw, .drv, .fld, .can, .far, .twin] ⊆ m) (g : Keeps m s t) : Keeps m s (State.writeAct t x1 x2 x3).2 := by
  refine keeps_step ?_ k g; unfold State.writeAct
  repeat' first | (with_reducible first | exact keeps_refl _ _ | apply acDenied_keeps | apply muteAct_keeps | apply onCoil_keeps | apply keeps_ite | apply keeps_ite_pair) | decide | split | dsimp only

theorem driveCommit_keeps {t x1 x2} (k : [.rcd, .flt, .drv] ⊆ m) (g : Keeps m s t) : Keeps m s (State.driveCommit t x1 x2) := by
  refine keeps_step ?_ k g; unfold State.driveCommit
  repeat' first | (with_reducible first | exact keeps_refl _ _ | apply onDrv_keeps | apply fault_keeps | apply islandPlanFault_keeps | apply keeps_ite) | decide | split | dsimp only

theorem driveReject_keeps {t x1} (k : [.drv] ⊆ m) (g : Keeps m s t) : Keeps m s (State.driveReject t x1).2 := by
  refine keeps_step ?_ k g; unfold State.driveReject
  repeat' first | (with_reducible first | exact keeps_refl _ _ | apply onDrv_keeps) | decide | split | dsimp only

theorem writeDrive_keeps {t x1 x2} (k : [.drv] ⊆ m) (g : Keeps m s t) : Keeps m s (State.writeDrive t x1 x2).2 := by
  refine keeps_step ?_ k g; unfold State.writeDrive
  repeat' first | (with_reducible first | exact keeps_refl _ _ | apply onDrv_keeps | apply driveReject_keeps | apply railUpdate_keeps | apply keeps_ite | apply keeps_ite_pair | refine keeps_of_eq (by assumption) ?_) | decide | split | dsimp only

theorem opActuatorOrphanSafe_keeps {x0 t} (k : [.free, .out, .rcd, .cmd, .sw, .drv, .fld, .can, .far, .twin] ⊆ m) (g : Keeps m s t) : Keeps m s (opActuatorOrphanSafe x0 t) := by
  refine keeps_step ?_ k g; unfold opActuatorOrphanSafe
  repeat' first | (with_reducible first | exact keeps_refl _ _ | apply acOrphanRelease_keeps | apply keeps_ite) | decide | split | dsimp only

theorem applyDriveCmd_keeps {t x1 x2} (k : [.free, .out, .rcd, .flt, .cmd, .sw, .drv, .fld, .can, .far, .twin] ⊆ m) (g : Keeps m s t) : Keeps m s (State.applyDriveCmd t x1 x2) := by
  refine keeps_step ?_ k g; unfold State.applyDriveCmd
  repeat' first | (with_reducible first | exact keeps_refl _ _ | apply acRelease_keeps | apply acFire_keeps | apply keeps_ite) | decide | split | dsimp only

theorem driveDue_keeps {t x1 x2} (k : [.free, .out, .rcd, .flt, .cmd, .sw, .drv, .fld, .can, .far, .twin] ⊆ m) (g : Keeps m s t) : Keeps m s (State.driveDue t x1 x2) := by
  refine keeps_step ?_ k g; unfold State.driveDue
  repeat' first | (with_reducible first | exact keeps_refl _ _ | apply onCoil_keeps | apply applyDriveCmd_keeps | apply fault_keeps | apply keeps_ite) | decide | split | dsimp only

theorem opBankDeferExpiry_keeps {x0 t} (k : [.free, .out, .rcd, .flt, .cmd, .sw, .drv, .fld, .can, .far, .twin] ⊆ m) (g : Keeps m s t) : Keeps m s (opBankDeferExpiry x0 t) := by
  refine keeps_step ?_ k g; unfold opBankDeferExpiry
  repeat' first | (with_reducible first | exact keeps_refl _ _ | apply refuseBoost_keeps | apply keeps_ite) | decide | split | dsimp only

theorem driveInvalid_keeps {t x1 x2} (k : [.rcd] ⊆ m) (g : Keeps m s t) : Keeps m s (State.driveInvalid t x1 x2) := by
  refine keeps_step ?_ k g; unfold State.driveInvalid
  repeat' first | (with_reducible first | exact keeps_refl _ _ | apply planRecord_keeps) | decide | split | dsimp only

theorem applyAcReq_keeps {t x1 x2} (k : [.free, .out, .rcd, .flt, .cmd, .sw, .drv, .fld, .can, .far, .twin] ⊆ m) (g : Keeps m s t) : Keeps m s (State.applyAcReq t x1 x2) := by
  refine keeps_step ?_ k g; unfold State.applyAcReq
  repeat' first | (with_reducible first | exact keeps_refl _ _ | apply completeId_keeps | apply acFire_keeps | apply onCoil_keeps | apply acRelease_keeps | apply keeps_ite) | decide | split | dsimp only

theorem bankMean_keeps {t x1 x2} (k : [.drv] ⊆ m) (g : Keeps m s t) : Keeps m s (State.bankMean t x1 x2) := by
  refine keeps_step ?_ k g; unfold State.bankMean
  repeat' first | (with_reducible first | exact keeps_refl _ _ | apply onBank_keeps) | decide | split | dsimp only

theorem driveHostMark_keeps {t x1} (k : [.free, .out, .rcd, .flt, .cmd, .sw, .drv, .fld, .can, .far, .twin] ⊆ m) (g : Keeps m s t) : Keeps m s (State.driveHostMark t x1) := by
  refine keeps_step ?_ k g; unfold State.driveHostMark
  repeat' first | (with_reducible first | exact keeps_refl _ _ | apply onCoil_keeps | apply completeId_keeps | apply fault_keeps | apply applyAcReq_keeps | apply keeps_forEach | apply keeps_ite) | decide | intro _ | split | dsimp only

theorem driveForceSafe_keeps {t} (k : [.free, .out, .rcd, .cmd, .sw, .drv, .fld, .can, .far, .twin] ⊆ m) (g : Keeps m s t) : Keeps m s (State.driveForceSafe t) := by
  refine keeps_step ?_ k g; unfold State.driveForceSafe
  repeat' first | (with_reducible first | exact keeps_refl _ _ | apply onCoil_keeps | apply dropBoost_keeps | apply endFireEarly_keeps | apply settle_keeps | apply onDrv_keeps | apply record_keeps | apply keeps_forEach | apply keeps_ite) | decide | intro _ | split | dsimp only

theorem queueAct_keeps {t x1 x2} (k : [.out, .rcd, .cmd, .sw, .drv, .fld, .can, .far, .twin] ⊆ m) (g : Keeps m s t) : Keeps m s (State.queueAct t x1 x2) := by
  refine keeps_step ?_ k g; unfold State.queueAct
  repeat' first | (with_reducible first | exact keeps_refl _ _ | apply completeId_keeps | apply onCoil_keeps | apply keeps_ite) | decide | split | dsimp only

theorem queueChan_keeps {t x1 x2} (k : [.out, .rcd, .cmd, .sw, .drv, .fld, .can, .far, .twin] ⊆ m) (g : Keeps m s t) : Keeps m s (State.queueChan t x1 x2) := by
  refine keeps_step ?_ k g; unfold State.queueChan
  repeat' first | (with_reducible first | exact keeps_refl _ _ | apply completeId_keeps | apply onSw_keeps | apply onChan_keeps) | decide | split | dsimp only

theorem heard_keeps {t x1 x2} (k : [.sw, .drv] ⊆ m) (g : Keeps m s t) : Keeps m s (State.heard t x1 x2) := by
  refine keeps_step ?_ k g; unfold State.heard
  repeat' first | (with_reducible first | exact keeps_refl _ _ | apply onDrv_keeps | apply onSw_keeps | apply keeps_ite) | decide | split | dsimp only

theorem serviceArrive_keeps {t x1 x2} (k : [.out, .links, .rcd, .flt, .cmd, .sw, .drv, .fld, .can, .far, .twin] ⊆ m) (g : Keeps m s t) : Keeps m s (State.serviceArrive t x1 x2) := by
  refine keeps_step ?_ k g; unfold State.serviceArrive
  repeat' first | (with_reducible first | exact keeps_refl _ _ | apply takeAcks_keeps | apply receiveWord_keeps | apply queueAct_keeps | apply queueChan_keeps | apply heard_keeps | apply completeId_keeps | apply keeps_ite | refine keeps_of_eq (by assumption) ?_) | decide | split | dsimp only

theorem heartbeat_keeps {t x1 x2 x3} (k : [.out, .links, .rcd, .flt, .cmd, .sw, .drv, .fld, .can, .far, .twin] ⊆ m) (g : Keeps m s t) : Keeps m s (State.heartbeat t x1 x2 x3) := by
  refine keeps_step ?_ k g; unfold State.heartbeat
  repeat' first | (with_reducible first | exact keeps_refl _ _ | apply serviceArrive_keeps | apply receiveWord_keeps | apply heard_keeps | apply keeps_forEach | apply keeps_ite | refine keeps_of_eq (by assumption) ?_) | decide | intro _ | split | dsimp only

theorem serviceDrain_keeps {t x1} (k : [.out, .links, .rcd, .flt, .cmd, .sw, .drv, .fld, .can, .far, .twin] ⊆ m) (g : Keeps m s t) : Keeps m s (State.serviceDrain t x1) := by
  refine keeps_step ?_ k g; unfold State.serviceDrain
  repeat' first | (with_reducible first | exact keeps_refl _ _ | apply serviceArrive_keeps | apply keeps_forEach | apply keeps_ite) | decide | intro _ | split | dsimp only

theorem access_keeps {t x1 x2 x3} (k : [.out, .links, .rcd, .flt, .cmd, .sw, .drv, .fld, .can, .far, .twin] ⊆ m) (g : Keeps m s t) : Keeps m s (State.access t x1 x2 x3) := by
  refine keeps_step ?_ k g; unfold State.access
  repeat' first | (with_reducible first | exact keeps_refl _ _ | apply serviceDrain_keeps | apply takeAcks_keeps | apply crossWords_keeps | apply keeps_ite) | decide | split | dsimp only

theorem serviceDue_keeps {t x1} (k : [.out, .links, .rcd, .flt, .cmd, .sw, .drv, .fld, .can, .far, .twin] ⊆ m) (g : Keeps m s t) : Keeps m s (State.serviceDue t x1) := by
  refine keeps_step ?_ k g; unfold State.serviceDue
  repeat' first | (with_reducible first | exact keeps_refl _ _ | apply serviceArrive_keeps | apply keeps_forEach | apply keeps_ite) | decide | intro _ | split | dsimp only

end Sys2Proof.Laws
end

