-- ==== Sys2Proof/Laws/KeepsField.lean ====
section
/-! SUPPORT. What each operation leaves alone: the field island. -/

namespace Sys2Proof.Laws

open Sys2Proof Sys2Proof.Machine

set_option linter.all false

variable {m : List Part} {s : State}

theorem onSide_keeps {t x1} (k : [.fld] ⊆ m) (g : Keeps m s t) : Keeps m s (State.onSide t x1) := by
  refine keeps_step ?_ k g; unfold State.onSide
  repeat' first | (with_reducible first | exact keeps_refl _ _ | apply onFld_keeps) | decide | split | dsimp only

theorem fieldBegin_keeps {t x1} (k : [.fld] ⊆ m) (g : Keeps m s t) : Keeps m s (State.fieldBegin t x1) := by
  refine keeps_step ?_ k g; unfold State.fieldBegin
  repeat' first | (with_reducible first | exact keeps_refl _ _ | apply onFld_keeps) | decide | split | dsimp only

theorem composeFrame_keeps {t x1} (k : [.fld] ⊆ m) (g : Keeps m s t) : Keeps m s (State.composeFrame t x1) := by
  refine keeps_step ?_ k g; unfold State.composeFrame
  repeat' first | (with_reducible first | exact keeps_refl _ _ | apply onFld_keeps | apply keeps_ite) | decide | split | dsimp only

theorem fieldConfig_keeps {t x1 x2 x3} (k : [.fld] ⊆ m) (g : Keeps m s t) : Keeps m s (State.fieldConfig t x1 x2 x3).2.2 := by
  refine keeps_step ?_ k g; unfold State.fieldConfig
  repeat' first | (with_reducible first | exact keeps_refl _ _ | apply onFld_keeps | apply keeps_ite) | decide | split | dsimp only

theorem opFieldFlagClear_keeps {x0 x1 x2 x3 x4 t} (k : [.fld] ⊆ m) (g : Keeps m s t) : Keeps m s (opFieldFlagClear x0 x1 x2 x3 x4 t) := by
  refine keeps_step ?_ k g; unfold opFieldFlagClear
  repeat' first | (with_reducible first | exact keeps_refl _ _ | apply onFld_keeps | apply keeps_ite) | decide | split | dsimp only

theorem opCounterClear_keeps {x0 t} (k : [.fld] ⊆ m) (g : Keeps m s t) : Keeps m s (opCounterClear x0 t) := by
  refine keeps_step ?_ k g; unfold opCounterClear
  repeat' first | (with_reducible first | exact keeps_refl _ _ | apply onFld_keeps) | decide | split | dsimp only

theorem writeField_keeps {t x1 x2} (k : [.fld] ⊆ m) (g : Keeps m s t) : Keeps m s (State.writeField t x1 x2).2 := by
  refine keeps_step ?_ k g; unfold State.writeField
  repeat' first | (with_reducible first | exact keeps_refl _ _ | apply fieldConfig_keeps | apply onFld_keeps | apply opFieldFlagClear_keeps | apply opCounterClear_keeps | apply keeps_ite | apply keeps_ite_pair | refine keeps_of_eq (by assumption) ?_ | refine keeps_of_eq2 (by assumption) ?_) | decide | split | dsimp only

theorem fieldStop_keeps {t x1} (k : [.out, .rcd, .cmd, .sw, .drv, .fld, .can, .far, .twin] ⊆ m) (g : Keeps m s t) : Keeps m s (State.fieldStop t x1) := by
  refine keeps_step ?_ k g; unfold State.fieldStop
  repeat' first | (with_reducible first | exact keeps_refl _ _ | apply onFld_keeps | apply completeId_keeps | apply keeps_forEach) | decide | intro _ | split | dsimp only

theorem fieldInvalid_keeps {t x1 x2} (k : [.rcd] ⊆ m) (g : Keeps m s t) : Keeps m s (State.fieldInvalid t x1 x2) := by
  refine keeps_step ?_ k g; unfold State.fieldInvalid
  repeat' first | (with_reducible first | exact keeps_refl _ _ | apply planRecord_keeps) | decide | split | dsimp only

theorem barrierFailure_keeps {t} (k : [.rcd, .fld] ⊆ m) (g : Keeps m s t) : Keeps m s (State.barrierFailure t) := by
  refine keeps_step ?_ k g; unfold State.barrierFailure
  repeat' first | (with_reducible first | exact keeps_refl _ _ | apply onFld_keeps | apply record_keeps | apply keeps_ite) | decide | split | dsimp only

theorem sideFrame_keeps {t x1 x2 x3 x4 x5 x6 x7} (k : [.out, .rcd, .cmd, .sw, .drv, .fld, .can, .far, .twin] ⊆ m) (g : Keeps m s t) : Keeps m s (State.sideFrame t x1 x2 x3 x4 x5 x6 x7) := by
  refine keeps_step ?_ k g; unfold State.sideFrame
  repeat' first | (with_reducible first | exact keeps_refl _ _ | apply onFld_keeps | apply barrierFailure_keeps | apply completeId_keeps | apply onSide_keeps | apply keeps_forEach | apply keeps_ite) | decide | intro _ | split | dsimp only

theorem receiveField_keeps {t x1} (k : [.out, .supply, .rcd, .flt, .cmd, .sw, .drv, .fld, .can, .far, .twin] ⊆ m) (g : Keeps m s t) : Keeps m s (State.receiveField t x1) := by
  refine keeps_step ?_ k g; unfold State.receiveField
  repeat' first | (with_reducible first | exact keeps_refl _ _ | apply onFld_keeps | apply barrierFailure_keeps | apply onSupply_keeps | apply completeId_keeps | apply record_keeps | apply fault_keeps | apply keeps_forEach | apply keeps_ite) | decide | intro _ | split | dsimp only

end Sys2Proof.Laws
end

