-- ==== Sys2Proof/Laws/KeepsNetwork.lean ====
section
/-! SUPPORT. What each operation leaves alone: CAN, network management, Ethernet and the Modbus bridge. -/

namespace Sys2Proof.Laws

open Sys2Proof Sys2Proof.Machine

set_option linter.all false

variable {m : List Part} {s : State}

theorem moduleWake_keeps {t x1 x2} (k : [.pwr] ⊆ m) (g : Keeps m s t) : Keeps m s (State.moduleWake t x1 x2) := by
  refine keeps_step ?_ k g; unfold State.moduleWake
  repeat' first | (with_reducible first | exact keeps_refl _ _ | apply onPwr_keeps | apply keeps_ite) | decide | split | dsimp only

theorem onNmCh_keeps {t x1 x2} (k : [.nm] ⊆ m) (g : Keeps m s t) : Keeps m s (State.onNmCh t x1 x2) := by
  refine keeps_step ?_ k g; unfold State.onNmCh
  repeat' first | (with_reducible first | exact keeps_refl _ _ | apply onNm_keeps) | decide | split | dsimp only

theorem deviation_keeps {t x1} (k : [.free, .clk] ⊆ m) (g : Keeps m s t) : Keeps m s (State.deviation t x1) := by
  refine keeps_step ?_ k g; unfold State.deviation
  repeat' first | (with_reducible first | exact keeps_refl _ _ | apply draw_keeps | apply onClk_keeps | apply keeps_ite | refine keeps_of_eq (by assumption) ?_) | decide | split | dsimp only

theorem frameDeviation_keeps {t} (k : [.free, .clk] ⊆ m) (g : Keeps m s t) : Keeps m s (State.frameDeviation t) := by
  refine keeps_step ?_ k g; unfold State.frameDeviation
  repeat' first | (with_reducible first | exact keeps_refl _ _ | apply deviation_keeps) | decide | split | dsimp only

theorem retrim_keeps {t} (k : [.clk, .rcd] ⊆ m) (g : Keeps m s t) : Keeps m s (State.retrim t) := by
  refine keeps_step ?_ k g; unfold State.retrim
  repeat' first | (with_reducible first | exact keeps_refl _ _ | apply record_keeps | apply onClk_keeps | apply keeps_ite) | decide | split | dsimp only

theorem tc10Judge_keeps {t} (k : [.eth] ⊆ m) (g : Keeps m s t) : Keeps m s (State.tc10Judge t) := by
  refine keeps_step ?_ k g; unfold State.tc10Judge
  repeat' first | (with_reducible first | exact keeps_refl _ _ | apply onEth_keeps | apply keeps_ite) | decide | split | dsimp only

theorem nmEnter_keeps {t x1 x2} (k : [.can, .nm] ⊆ m) (g : Keeps m s t) : Keeps m s (State.nmEnter t x1 x2) := by
  refine keeps_step ?_ k g; unfold State.nmEnter
  repeat' first | (with_reducible first | exact keeps_refl _ _ | apply onNmCh_keeps | apply onCanCh_keeps | apply keeps_ite) | decide | split | dsimp only

theorem wakeInClearing_keeps {t x1 x2 x3 x4} (k : [.rcd, .can, .nm] ⊆ m) (g : Keeps m s t) : Keeps m s (State.wakeInClearing t x1 x2 x3 x4) := by
  refine keeps_step ?_ k g; unfold State.wakeInClearing
  repeat' first | (with_reducible first | exact keeps_refl _ _ | apply onNm_keeps | apply record_keeps | apply onNmCh_keeps | apply nmEnter_keeps) | decide | split | dsimp only

theorem nmRequest_keeps {t x1} (k : [.rcd, .can, .nm] ⊆ m) (g : Keeps m s t) : Keeps m s (State.nmRequest t x1) := by
  refine keeps_step ?_ k g; unfold State.nmRequest
  repeat' first | (with_reducible first | exact keeps_refl _ _ | apply record_keeps | apply onNmCh_keeps | apply nmEnter_keeps | apply wakeInClearing_keeps) | decide | split | dsimp only

theorem nmJudge_keeps {t x1} (k : [.rcd, .can, .nm] ⊆ m) (g : Keeps m s t) : Keeps m s (State.nmJudge t x1) := by
  refine keeps_step ?_ k g; unfold State.nmJudge
  repeat' first | (with_reducible first | exact keeps_refl _ _ | apply nmEnter_keeps | apply nmRequest_keeps | apply keeps_ite) | decide | split | dsimp only

theorem nmEval_keeps {t} (k : [.rcd, .can, .nm, .eth] ⊆ m) (g : Keeps m s t) : Keeps m s (State.nmEval t) := by
  refine keeps_step ?_ k g; unfold State.nmEval
  repeat' first | (with_reducible first | exact keeps_refl _ _ | apply tc10Judge_keeps | apply onNm_keeps | apply nmJudge_keeps | apply keeps_forEach) | decide | intro _ | split | dsimp only

theorem nmReceive_keeps {t x1 x2} (k : [.rcd, .can, .nm] ⊆ m) (g : Keeps m s t) : Keeps m s (State.nmReceive t x1 x2) := by
  refine keeps_step ?_ k g; unfold State.nmReceive
  repeat' first | (with_reducible first | exact keeps_refl _ _ | apply onNmCh_keeps | apply wakeInClearing_keeps | apply nmEnter_keeps | apply keeps_ite) | decide | split | dsimp only

theorem busActivity_keeps {t x1} (k : [.rcd, .can, .nm] ⊆ m) (g : Keeps m s t) : Keeps m s (State.busActivity t x1) := by
  refine keeps_step ?_ k g; unfold State.busActivity
  repeat' first | (with_reducible first | exact keeps_refl _ _ | apply wakeInClearing_keeps | apply keeps_ite) | decide | split | dsimp only

theorem setSource_keeps {t x1 x2} (k : [.clk, .rcd] ⊆ m) (g : Keeps m s t) : Keeps m s (State.setSource t x1 x2) := by
  refine keeps_step ?_ k g; unfold State.setSource
  repeat' first | (with_reducible first | exact keeps_refl _ _ | apply retrim_keeps | apply onClk_keeps) | decide | split | dsimp only

theorem onPort_keeps {t x1 x2} (k : [.eth] ⊆ m) (g : Keeps m s t) : Keeps m s (State.onPort t x1 x2) := by
  refine keeps_step ?_ k g; unfold State.onPort
  repeat' first | (with_reducible first | exact keeps_refl _ _ | apply onEth_keeps) | decide | split | dsimp only

theorem portSleeps_keeps {t x1 x2} (k : [.rcd, .eth] ⊆ m) (g : Keeps m s t) : Keeps m s (State.portSleeps t x1 x2) := by
  refine keeps_step ?_ k g; unfold State.portSleeps
  repeat' first | (with_reducible first | exact keeps_refl _ _ | apply record_keeps | apply onPort_keeps) | decide | split | dsimp only

theorem nmAction_keeps {t x1 x2} (k : [.out, .rcd, .cmd, .sw, .drv, .fld, .can, .nm, .eth, .far, .twin] ⊆ m) (g : Keeps m s t) : Keeps m s (State.nmAction t x1 x2) := by
  refine keeps_step ?_ k g; unfold State.nmAction
  repeat' first | (with_reducible first | exact keeps_refl _ _ | apply complete_keeps | apply onNmCh_keeps | apply nmEnter_keeps | apply nmJudge_keeps | apply tc10Judge_keeps | apply keeps_forEach | apply onCommand_keeps | apply keeps_ite) | decide | intro _ | split | dsimp only

theorem detectorWake_keeps {t x1 x2 x3} (k : [.free, .pwr, .rcd, .can, .nm] ⊆ m) (g : Keeps m s t) : Keeps m s (State.detectorWake t x1 x2 x3) := by
  refine keeps_step ?_ k g; unfold State.detectorWake
  repeat' first | (with_reducible first | exact keeps_refl _ _ | apply onNmCh_keeps | apply draw_keeps | apply wakeInClearing_keeps | apply moduleWake_keeps | apply record_keeps | apply nmEnter_keeps | apply keeps_ite | refine keeps_of_eq (by assumption) ?_) | decide | split | dsimp only

theorem opWufErrwake_keeps {x0 t} (k : [.free, .pwr, .rcd, .can, .nm] ⊆ m) (g : Keeps m s t) : Keeps m s (opWufErrwake x0 t) := by
  refine keeps_step ?_ k g; unfold opWufErrwake
  repeat' first | (with_reducible first | exact keeps_refl _ _ | apply record_keeps | apply detectorWake_keeps | apply keeps_ite) | decide | split | dsimp only

theorem portWakes_keeps {t x1 x2} (k : [.out, .rcd, .eth] ⊆ m) (g : Keeps m s t) : Keeps m s (State.portWakes t x1 x2) := by
  refine keeps_step ?_ k g; unfold State.portWakes
  repeat' first | (with_reducible first | exact keeps_refl _ _ | apply send_keeps | apply record_keeps | apply onPort_keeps | apply keeps_ite) | decide | split | dsimp only

theorem setNmCfg_keeps {t x1} (k : [.rcd, .can, .nm, .eth] ⊆ m) (g : Keeps m s t) : Keeps m s (State.setNmCfg t x1) := by
  refine keeps_step ?_ k g; unfold State.setNmCfg
  repeat' first | (with_reducible first | exact keeps_refl _ _ | apply onNm_keeps | apply nmEnter_keeps | apply onNmCh_keeps | apply nmEval_keeps | apply keeps_forEach | apply keeps_ite) | decide | intro _ | split | dsimp only

theorem writeNm_keeps {t x1 x2} (k : [.rcd, .can, .nm, .eth] ⊆ m) (g : Keeps m s t) : Keeps m s (State.writeNm t x1 x2).2 := by
  refine keeps_step ?_ k g; unfold State.writeNm
  repeat' first | (with_reducible first | exact keeps_refl _ _ | apply setNmCfg_keeps | apply onNm_keeps | apply keeps_dite | apply keeps_dite_pair | apply keeps_ite | apply keeps_ite_pair) | decide | intro _ | split | dsimp only

theorem emptyBuf_keeps {t x1 x2 x3} (k : [.out, .rcd, .cmd, .sw, .drv, .fld, .can, .far, .twin] ⊆ m) (g : Keeps m s t) : Keeps m s (State.emptyBuf t x1 x2 x3) := by
  refine keeps_step ?_ k g; unfold State.emptyBuf
  repeat' first | (with_reducible first | exact keeps_refl _ _ | apply onCanCh_keeps | apply completeId_keeps) | decide | split | dsimp only

theorem attemptFailed_keeps {t x1 x2 x3} (k : [.out, .rcd, .cmd, .sw, .drv, .fld, .can, .far, .twin] ⊆ m) (g : Keeps m s t) : Keeps m s (State.attemptFailed t x1 x2 x3) := by
  refine keeps_step ?_ k g; unfold State.attemptFailed
  repeat' first | (with_reducible first | exact keeps_refl _ _ | apply onCanCh_keeps | apply emptyBuf_keeps | apply keeps_ite) | decide | split | dsimp only

theorem reportDrops_keeps {t x1 x2} (k : [.rcd, .can] ⊆ m) (g : Keeps m s t) : Keeps m s (State.reportDrops t x1 x2) := by
  refine keeps_step ?_ k g; unfold State.reportDrops
  repeat' first | (with_reducible first | exact keeps_refl _ _ | apply record_keeps | apply onCanCh_keeps | apply keeps_ite) | decide | split | dsimp only

theorem answer_keeps {t x1} (k : [.links] ⊆ m) (g : Keeps m s t) : Keeps m s (State.answer t x1) := by
  refine keeps_step ?_ k g; unfold State.answer
  repeat' first | (with_reducible first | exact keeps_refl _ _ | apply sendWord_keeps) | decide | split | dsimp only

theorem badRequest_keeps {t x1 x2} (k : [.free, .links, .rcd] ⊆ m) (g : Keeps m s t) : Keeps m s (State.badRequest t x1 x2) := by
  refine keeps_step ?_ k g; unfold State.badRequest
  repeat' first | (with_reducible first | exact keeps_refl _ _ | apply draw_keeps | apply answer_keeps | apply planRecord_keeps | apply keeps_ite | refine keeps_of_eq (by assumption) ?_) | decide | split | dsimp only

theorem weftLoad_keeps {t x1 x2 x3} (k : [.rcd, .can, .nm] ⊆ m) (g : Keeps m s t) : Keeps m s (State.weftLoad t x1 x2 x3) := by
  refine keeps_step ?_ k g; unfold State.weftLoad
  repeat' first | (with_reducible first | exact keeps_refl _ _ | apply nmJudge_keeps | apply onCanCh_keeps | apply keeps_ite) | decide | split | dsimp only

theorem txDone_keeps {t x1} (k : [.free, .links, .rcd, .can, .nm] ⊆ m) (g : Keeps m s t) : Keeps m s (State.txDone t x1) := by
  refine keeps_step ?_ k g; unfold State.txDone
  repeat' first | (with_reducible first | exact keeps_refl _ _ | apply badRequest_keeps | apply weftLoad_keeps | apply keeps_dite | apply keeps_dite_pair | apply keeps_ite) | decide | intro _ | split | dsimp only

theorem asmEnd_keeps {t} (k : [.can] ⊆ m) (g : Keeps m s t) : Keeps m s (State.asmEnd t) := by
  refine keeps_step ?_ k g; unfold State.asmEnd
  repeat' first | (with_reducible first | exact keeps_refl _ _ | apply onCan_keeps) | decide | split | dsimp only

theorem dropItems_keeps {t x1 x2 x3} (k : [.can] ⊆ m) (g : Keeps m s t) : Keeps m s (State.dropItems t x1 x2 x3) := by
  refine keeps_step ?_ k g; unfold State.dropItems
  repeat' first | (with_reducible first | exact keeps_refl _ _ | apply onCanCh_keeps) | decide | split | dsimp only

theorem setCtrl_keeps {t x1 x2} (k : [.out, .rcd, .cmd, .sw, .drv, .fld, .can, .far, .twin] ⊆ m) (g : Keeps m s t) : Keeps m s (State.setCtrl t x1 x2) := by
  refine keeps_step ?_ k g; unfold State.setCtrl
  repeat' first | (with_reducible first | exact keeps_refl _ _ | apply onCanCh_keeps | apply emptyBuf_keeps | apply keeps_forEach | apply keeps_ite) | decide | intro _ | split | dsimp only

theorem recDown_keeps {t x1} (k : [.free, .can] ⊆ m) (g : Keeps m s t) : Keeps m s (State.recDown t x1) := by
  refine keeps_step ?_ k g; unfold State.recDown
  repeat' first | (with_reducible first | exact keeps_refl _ _ | apply draw_keeps | apply onCanCh_keeps | apply keeps_ite | refine keeps_of_eq (by assumption) ?_) | decide | split | dsimp only

theorem reportTunDrops_keeps {t x1} (k : [.rcd, .eth] ⊆ m) (g : Keeps m s t) : Keeps m s (State.reportTunDrops t x1) := by
  refine keeps_step ?_ k g; unfold State.reportTunDrops
  repeat' first | (with_reducible first | exact keeps_refl _ _ | apply record_keeps | apply onEth_keeps | apply keeps_ite) | decide | split | dsimp only

theorem tunnelIn_keeps {t x1 x2 x3 x4} (k : [.rcd, .eth] ⊆ m) (g : Keeps m s t) : Keeps m s (State.tunnelIn t x1 x2 x3 x4) := by
  refine keeps_step ?_ k g; unfold State.tunnelIn
  repeat' first | (with_reducible first | exact keeps_refl _ _ | apply onEth_keeps | apply reportTunDrops_keeps | apply keeps_ite) | decide | split | dsimp only

theorem resetCan_keeps {t} (k : [.out, .rcd, .cmd, .sw, .drv, .fld, .can, .far, .twin] ⊆ m) (g : Keeps m s t) : Keeps m s (State.resetCan t) := by
  refine keeps_step ?_ k g; unfold State.resetCan
  repeat' first | (with_reducible first | exact keeps_refl _ _ | apply onCanCh_keeps | apply asmEnd_keeps | apply completeId_keeps | apply keeps_forEach | apply keeps_ite) | decide | intro _ | split | dsimp only

theorem canSync_keeps {t x1 x2 x3} (k : [.free, .clk, .rcd] ⊆ m) (g : Keeps m s t) : Keeps m s (State.canSync t x1 x2 x3) := by
  refine keeps_step ?_ k g; unfold State.canSync
  repeat' first | (with_reducible first | exact keeps_refl _ _ | apply onClk_keeps | apply deviation_keeps | apply setSource_keeps | apply keeps_ite) | decide | split | dsimp only

theorem toQueue_keeps {t x1 x2 x3 x4 x5 x6} (k : [.rcd, .can] ⊆ m) (g : Keeps m s t) : Keeps m s (State.toQueue t x1 x2 x3 x4 x5 x6) := by
  refine keeps_step ?_ k g; unfold State.toQueue
  repeat' first | (with_reducible first | exact keeps_refl _ _ | apply onCanCh_keeps | apply reportDrops_keeps | apply keeps_ite) | decide | split | dsimp only

theorem filterFrame_keeps {t x1 x2 x3 x4} (k : [.rcd, .can, .eth] ⊆ m) (g : Keeps m s t) : Keeps m s (State.filterFrame t x1 x2 x3 x4) := by
  refine keeps_step ?_ k g; unfold State.filterFrame
  repeat' first | (with_reducible first | exact keeps_refl _ _ | apply toQueue_keeps | apply tunnelIn_keeps | apply keeps_ite) | decide | split | dsimp only

theorem writeCanCh_keeps {t x1 x2 x3} (k : [.out, .rcd, .cmd, .sw, .drv, .fld, .can, .nm, .far, .twin] ⊆ m) (g : Keeps m s t) : Keeps m s (State.writeCanCh t x1 x2 x3).2 := by
  refine keeps_step ?_ k g; unfold State.writeCanCh
  repeat' first | (with_reducible first | exact keeps_refl _ _ | apply onCanCh_keeps | apply nmJudge_keeps | apply setCtrl_keeps | apply keeps_dite | apply keeps_dite_pair | apply keeps_ite | apply keeps_ite_pair) | decide | intro _ | split | dsimp only

theorem ipConflict_keeps {t x1 x2} (k : [.rcd, .flt] ⊆ m) (g : Keeps m s t) : Keeps m s (State.ipConflict t x1 x2) := by
  refine keeps_step ?_ k g; unfold State.ipConflict
  repeat' first | (with_reducible first | exact keeps_refl _ _ | apply fault_keeps) | decide | split | dsimp only

theorem dropAddress_keeps {t} (k : [.out, .eth] ⊆ m) (g : Keeps m s t) : Keeps m s (State.dropAddress t) := by
  refine keeps_step ?_ k g; unfold State.dropAddress
  repeat' first | (with_reducible first | exact keeps_refl _ _ | apply send_keeps | apply onEth_keeps) | decide | split | dsimp only

theorem rxError_keeps {t x1} (k : [.eth] ⊆ m) (g : Keeps m s t) : Keeps m s (State.rxError t x1) := by
  refine keeps_step ?_ k g; unfold State.rxError
  repeat' first | (with_reducible first | exact keeps_refl _ _ | apply onEth_keeps) | decide | split | dsimp only

theorem drainPort_keeps {give p n t} (k : [.eth] ⊆ m) (h : ∀ b u, Keeps m u (give b u)) (g : Keeps m s t) :
    Keeps m s (State.drainPort give p n t) := by
  induction n generalizing t with
  | zero => exact g
  | succ n ih =>
    unfold State.drainPort
    dsimp only
    split
    · exact g
    · exact ih (keeps_trans (onEth_keeps k g) (h _ _))

theorem drainLines_keeps {t} (k : [.out, .eth] ⊆ m) (g : Keeps m s t) : Keeps m s (State.drainLines t) := by
  refine keeps_step ?_ k g; unfold State.drainLines
  repeat' first | (with_reducible first | exact keeps_refl _ _ | apply drainPort_keeps | apply send_keeps | apply keeps_forEach | apply keeps_ite) | decide | intro _ | split | dsimp only

theorem egress_keeps {t x1 x2 x3} (k : [.eth] ⊆ m) (g : Keeps m s t) : Keeps m s (State.egress t x1 x2 x3) := by
  refine keeps_step ?_ k g; unfold State.egress
  repeat' first | (with_reducible first | exact keeps_refl _ _ | apply onEth_keeps | apply keeps_ite) | decide | split | dsimp only

theorem switch_keeps {t x1 x2} (k : [.eth] ⊆ m) (g : Keeps m s t) : Keeps m s (State.switch t x1 x2) := by
  refine keeps_step ?_ k g; unfold State.switch
  repeat' first | (with_reducible first | exact keeps_refl _ _ | apply onEth_keeps | apply egress_keeps | apply keeps_forEach | apply keeps_ite) | decide | intro _ | split | dsimp only

theorem fromP0_keeps {t x1} (k : [.out, .eth] ⊆ m) (g : Keeps m s t) : Keeps m s (State.fromP0 t x1) := by
  refine keeps_step ?_ k g; unfold State.fromP0
  repeat' first | (with_reducible first | exact keeps_refl _ _ | apply rxError_keeps | apply drainLines_keeps | apply switch_keeps | apply keeps_ite) | decide | split | dsimp only

theorem arpReceive_keeps {t x1} (k : [.out, .pwr, .rcd, .flt, .eth] ⊆ m) (g : Keeps m s t) : Keeps m s (State.arpReceive t x1) := by
  refine keeps_step ?_ k g; unfold State.arpReceive
  repeat' first | (with_reducible first | exact keeps_refl _ _ | apply serviceActive_keeps | apply onEth_keeps | apply ipConflict_keeps | apply dropAddress_keeps | apply send_keeps | apply fromP0_keeps | apply keeps_ite) | decide | split | dsimp only

theorem ipReceive_keeps {t x1} (k : [.out, .pwr, .flt, .eth] ⊆ m) (g : Keeps m s t) : Keeps m s (State.ipReceive t x1) := by
  refine keeps_step ?_ k g; unfold State.ipReceive
  repeat' first | (with_reducible first | exact keeps_refl _ _ | apply serviceActive_keeps | apply fromP0_keeps | apply keeps_ite) | decide | split | dsimp only

theorem toService_keeps {t x1} (k : [.out, .pwr, .rcd, .flt, .eth] ⊆ m) (g : Keeps m s t) : Keeps m s (State.toService t x1) := by
  refine keeps_step ?_ k g; unfold State.toService
  repeat' first | (with_reducible first | exact keeps_refl _ _ | apply arpReceive_keeps | apply ipReceive_keeps | apply keeps_ite) | decide | split | dsimp only

theorem drainEth_keeps {t} (k : [.out, .pwr, .rcd, .flt, .eth] ⊆ m) (g : Keeps m s t) : Keeps m s (State.drainEth t) := by
  refine keeps_step ?_ k g; unfold State.drainEth
  repeat' first | (with_reducible first | exact keeps_refl _ _ | apply drainLines_keeps | apply drainPort_keeps | apply toService_keeps | apply keeps_ite) | decide | intro _ | split | dsimp only

theorem ptpReceive_keeps {t x1 x2} (k : [.out, .clk, .eth] ⊆ m) (g : Keeps m s t) : Keeps m s (State.ptpReceive t x1 x2) := by
  refine keeps_step ?_ k g; unfold State.ptpReceive
  repeat' first | (with_reducible first | exact keeps_refl _ _ | apply send_keeps | apply onClk_keeps | apply onPort_keeps | apply keeps_ite) | decide | split | dsimp only

theorem opLinkDown_keeps {x0 t} (k : [.rcd, .flt, .eth] ⊆ m) (g : Keeps m s t) : Keeps m s (opLinkDown x0 t) := by
  refine keeps_step ?_ k g; unfold opLinkDown
  repeat' first | (with_reducible first | exact keeps_refl _ _ | apply fault_keeps | apply onPort_keeps | apply keeps_ite) | decide | split | dsimp only

theorem arpOut_keeps {t x1 x2} (k : [.out, .eth] ⊆ m) (g : Keeps m s t) : Keeps m s (State.arpOut t x1 x2) := by
  refine keeps_step ?_ k g; unfold State.arpOut
  repeat' first | (with_reducible first | exact keeps_refl _ _ | apply fromP0_keeps | apply keeps_forEach | apply keeps_ite) | decide | intro _ | split | dsimp only

theorem retrain_keeps {t x1 x2} (k : [.rcd, .flt, .eth] ⊆ m) (g : Keeps m s t) : Keeps m s (State.retrain t x1 x2) := by
  refine keeps_step ?_ k g; unfold State.retrain
  repeat' first | (with_reducible first | exact keeps_refl _ _ | apply opLinkDown_keeps | apply keeps_forEach | apply keeps_ite) | decide | intro _ | split | dsimp only

theorem readdress_keeps {t x1} (k : [.eth] ⊆ m) (g : Keeps m s t) : Keeps m s (State.readdress t x1) := by
  refine keeps_step ?_ k g; unfold State.readdress
  repeat' first | (with_reducible first | exact keeps_refl _ _ | apply onEth_keeps) | decide | split | dsimp only

theorem ethReject_keeps {t} (k : [.eth] ⊆ m) (g : Keeps m s t) : Keeps m s (State.ethReject t).2 := by
  refine keeps_step ?_ k g; unfold State.ethReject
  repeat' first | (with_reducible first | exact keeps_refl _ _ | apply onEth_keeps) | decide | split | dsimp only

theorem writeEth_keeps {t x1 x2} (k : [.rcd, .flt, .eth] ⊆ m) (g : Keeps m s t) : Keeps m s (State.writeEth t x1 x2).2 := by
  refine keeps_step ?_ k g; unfold State.writeEth
  repeat' first | (with_reducible first | exact keeps_refl _ _ | apply retrain_keeps | apply onEth_keeps | apply readdress_keeps | apply ethReject_keeps | apply onPort_keeps | apply keeps_forEach | apply keeps_dite | apply keeps_dite_pair | apply keeps_ite | apply keeps_ite_pair | refine keeps_of_eq (by assumption) ?_) | decide | intro _ | split | dsimp only

theorem opGptpLost_keeps {x0 x1 t} (k : [.clk, .wt, .rcd, .eth] ⊆ m) (g : Keeps m s t) : Keeps m s (opGptpLost x0 x1 t) := by
  refine keeps_step ?_ k g; unfold opGptpLost
  repeat' first | (with_reducible first | exact keeps_refl _ _ | apply onPort_keeps | apply onWt_keeps | apply onEth_keeps | apply setSource_keeps | apply record_keeps | apply keeps_ite) | decide | split | dsimp only

theorem assign_keeps {t x1 x2} (k : [.out, .rcd, .eth] ⊆ m) (g : Keeps m s t) : Keeps m s (State.assign t x1 x2) := by
  refine keeps_step ?_ k g; unfold State.assign
  repeat' first | (with_reducible first | exact keeps_refl _ _ | apply onEth_keeps | apply record_keeps | apply arpOut_keeps) | decide | split | dsimp only

theorem resetEth_keeps {t} (k : [.clk, .wt, .rcd, .flt, .eth] ⊆ m) (g : Keeps m s t) : Keeps m s (State.resetEth t) := by
  refine keeps_step ?_ k g; unfold State.resetEth
  repeat' first | (with_reducible first | exact keeps_refl _ _ | apply onEth_keeps | apply onWt_keeps | apply fault_keeps | apply setSource_keeps | apply record_keeps | apply keeps_forEach | apply keeps_ite) | decide | intro _ | split | dsimp only

theorem farSend_keeps {t x1 x2 x3 x4} (k : [.out, .far] ⊆ m) (g : Keeps m s t) : Keeps m s (State.farSend t x1 x2 x3 x4) := by
  refine keeps_step ?_ k g; unfold State.farSend
  repeat' first | (with_reducible first | exact keeps_refl _ _ | apply onFarPort_keeps | apply send_keeps) | decide | split | dsimp only

theorem farDone_keeps {t x1 x2 x3 x4 x5 x6} (k : [.out, .rcd, .cmd, .sw, .drv, .fld, .can, .far, .twin] ⊆ m) (g : Keeps m s t) : Keeps m s (State.farDone t x1 x2 x3 x4 x5 x6) := by
  refine keeps_step ?_ k g; unfold State.farDone
  repeat' first | (with_reducible first | exact keeps_refl _ _ | apply complete_keeps | apply keeps_ite) | decide | split | dsimp only

theorem farLate_keeps {t x1 x2 x3 x4 x5} (k : [.out, .rcd, .cmd, .sw, .drv, .fld, .can, .far, .twin] ⊆ m) (g : Keeps m s t) : Keeps m s (State.farLate t x1 x2 x3 x4 x5) := by
  refine keeps_step ?_ k g; unfold State.farLate
  repeat' first | (with_reducible first | exact keeps_refl _ _ | apply onFarPort_keeps | apply lateError_keeps | apply failGroup_keeps | apply record_keeps | apply keeps_ite) | decide | split | dsimp only

theorem farEnd_keeps {t x1 x2 x3 x4 x5} (k : [.out, .rcd, .flt, .cmd, .sw, .drv, .fld, .can, .far, .twin] ⊆ m) (g : Keeps m s t) : Keeps m s (State.farEnd t x1 x2 x3 x4 x5) := by
  refine keeps_step ?_ k g; unfold State.farEnd
  repeat' first | (with_reducible first | exact keeps_refl _ _ | apply fault_keeps | apply onFarPort_keeps | apply farDone_keeps | apply farLate_keeps | apply keeps_ite) | decide | split | dsimp only

theorem farEnter_keeps {t x1 x2} (k : [.far] ⊆ m) (g : Keeps m s t) : Keeps m s (State.farEnter t x1 x2) := by
  refine keeps_step ?_ k g; unfold State.farEnter
  repeat' first | (with_reducible first | exact keeps_refl _ _ | apply onFarPort_keeps | apply keeps_ite) | decide | split | dsimp only

theorem writeFar_keeps {t x1 x2} (k : [.rcd, .flt, .eth, .far] ⊆ m) (g : Keeps m s t) : Keeps m s (State.writeFar t x1 x2).2 := by
  refine keeps_step ?_ k g; unfold State.writeFar
  repeat' first | (with_reducible first | exact keeps_refl _ _ | apply onFarPort_keeps | apply ethReject_keeps | apply writeEth_keeps | apply keeps_dite | apply keeps_dite_pair | refine keeps_of_eq (by assumption) ?_) | decide | intro _ | split | dsimp only

theorem loseLocks_keeps {t x1} (k : [.rcd, .far] ⊆ m) (g : Keeps m s t) : Keeps m s (State.loseLocks t x1) := by
  refine keeps_step ?_ k g; unfold State.loseLocks
  repeat' first | (with_reducible first | exact keeps_refl _ _ | apply record_keeps | apply onFarPort_keeps | apply keeps_forEach) | decide | intro _ | split | dsimp only

theorem resetFar_keeps {t} (k : [.out, .rcd, .flt, .cmd, .sw, .drv, .fld, .can, .far, .twin] ⊆ m) (g : Keeps m s t) : Keeps m s (State.resetFar t) := by
  refine keeps_step ?_ k g; unfold State.resetFar
  repeat' first | (with_reducible first | exact keeps_refl _ _ | apply loseLocks_keeps | apply farEnd_keeps | apply onFarPort_keeps | apply keeps_forEach | apply keeps_ite) | decide | intro _ | split | dsimp only

theorem dropFar_keeps {t} (k : [.rcd, .far] ⊆ m) (g : Keeps m s t) : Keeps m s (State.dropFar t) := by
  refine keeps_step ?_ k g; unfold State.dropFar
  repeat' first | (with_reducible first | exact keeps_refl _ _ | apply loseLocks_keeps | apply onFarPort_keeps | apply keeps_forEach) | decide | intro _ | split | dsimp only

theorem stray_keeps {t x1} (k : [.far] ⊆ m) (g : Keeps m s t) : Keeps m s (State.stray t x1) := by
  refine keeps_step ?_ k g; unfold State.stray
  repeat' first | (with_reducible first | exact keeps_refl _ _ | apply onFarPort_keeps) | decide | split | dsimp only

end Sys2Proof.Laws
end

