-- ==== Sys2Proof/Laws/KeepsLoom.lean ====
section
/-! SUPPORT. What each operation leaves alone: the Loom. -/

namespace Sys2Proof.Laws

open Sys2Proof Sys2Proof.Machine

set_option linter.all false

variable {m : List Part} {s : State}

theorem writeAt_keeps {t x1 x2 x3} (k : [.mem, .loom] ⊆ m) (g : Keeps m s t) : Keeps m s (State.writeAt t x1 x2 x3).2 := by
  refine keeps_step ?_ k g; unfold State.writeAt
  repeat' first | (with_reducible first | exact keeps_refl _ _ | apply onLoom_keeps | apply writeMem_keeps | apply keeps_ite | apply keeps_ite_pair) | decide | split | dsimp only

theorem writeOp_keeps {t x1 x2 x3 x4} (k : [.mem, .loom] ⊆ m) (g : Keeps m s t) : Keeps m s (State.writeOp t x1 x2 x3 x4).2 := by
  refine keeps_step ?_ k g; unfold State.writeOp
  repeat' first | (with_reducible first | exact keeps_refl _ _ | apply writeAt_keeps | apply onLoom_keeps | refine keeps_of_eq (by assumption) ?_) | decide | split | dsimp only

theorem readOp_keeps {t x1 x2 x3} (k : [.loom] ⊆ m) (g : Keeps m s t) : Keeps m s (State.readOp t x1 x2 x3).2.2 := by
  refine keeps_step ?_ k g; unfold State.readOp
  repeat' first | (with_reducible first | exact keeps_refl _ _ | apply onLoom_keeps | apply keeps_ite) | decide | split | dsimp only

theorem Ins_plain_keeps {x0 t} (k : [] ⊆ m) (g : Keeps m s t) : Keeps m s (Ins.plain x0 t).s := by
  refine keeps_step ?_ k g; unfold Ins.plain
  repeat' first | (with_reducible first | exact keeps_refl _ _) | decide | split | dsimp only

theorem haltWeft_keeps {t x1} (k : [.out, .rcd, .cmd, .sw, .drv, .fld, .loom, .weft, .can, .far, .twin] ⊆ m) (g : Keeps m s t) : Keeps m s (State.haltWeft t x1) := by
  refine keeps_step ?_ k g; unfold State.haltWeft
  repeat' first | (with_reducible first | exact keeps_refl _ _ | apply onLoom_keeps | apply onWeft_keeps | apply completeId_keeps | apply record_keeps) | decide | split | dsimp only

theorem boundary_keeps {t} (k : [.out, .rcd, .cmd, .sw, .drv, .fld, .loom, .weft, .can, .far, .twin] ⊆ m) (g : Keeps m s t) : Keeps m s (State.boundary t) := by
  refine keeps_step ?_ k g; unfold State.boundary
  repeat' first | (with_reducible first | exact keeps_refl _ _ | apply haltWeft_keeps | apply keeps_ite) | decide | split | dsimp only

theorem onTask_keeps {t x1 x2} (k : [.weft] ⊆ m) (g : Keeps m s t) : Keeps m s (State.onTask t x1 x2) := by
  refine keeps_step ?_ k g; unfold State.onTask
  repeat' first | (with_reducible first | exact keeps_refl _ _ | apply onWeft_keeps) | decide | split | dsimp only

theorem spend_keeps {t x1 x2} (k : [.loom, .weft] ⊆ m) (g : Keeps m s t) : Keeps m s (State.spend t x1 x2) := by
  refine keeps_step ?_ k g; unfold State.spend
  repeat' first | (with_reducible first | exact keeps_refl _ _ | apply onLoom_keeps | apply onTask_keeps) | decide | split | dsimp only

theorem semCompare_keeps {x0 x1 t} (k : [.loom] ⊆ m) (g : Keeps m s t) : Keeps m s (semCompare x0 x1 t).s := by
  refine keeps_step ?_ k g; unfold semCompare
  repeat' first | (with_reducible first | exact keeps_refl _ _ | apply readOp_keeps | apply Ins_plain_keeps | apply onLoom_keeps | refine keeps_of_eq (by assumption) ?_ | refine keeps_of_eq2 (by assumption) ?_) | decide | split | dsimp only

theorem Ins_illegal_keeps {x0 t} (k : [] ⊆ m) (g : Keeps m s t) : Keeps m s (Ins.illegal x0 t).s := by
  refine keeps_step ?_ k g; unfold Ins.illegal
  repeat' first | (with_reducible first | exact keeps_refl _ _ | apply Ins_plain_keeps) | decide | split | dsimp only

theorem saveContext_keeps {t x1} (k : [.loom, .weft] ⊆ m) (g : Keeps m s t) : Keeps m s (State.saveContext t x1) := by
  refine keeps_step ?_ k g; unfold State.saveContext
  repeat' first | (with_reducible first | exact keeps_refl _ _ | apply onTask_keeps | apply onLoom_keeps) | decide | split | dsimp only

theorem endActivation_keeps {t x1} (k : [.loom, .weft] ⊆ m) (g : Keeps m s t) : Keeps m s (State.endActivation t x1) := by
  refine keeps_step ?_ k g; unfold State.endActivation
  repeat' first | (with_reducible first | exact keeps_refl _ _ | apply onTask_keeps | apply onLoom_keeps | apply keeps_ite) | decide | split | dsimp only

theorem taskFault_keeps {t x1 x2 x3 x4 x5} (k : [.rcd, .flt, .loom, .weft] ⊆ m) (g : Keeps m s t) : Keeps m s (State.taskFault t x1 x2 x3 x4 x5) := by
  refine keeps_step ?_ k g; unfold State.taskFault
  repeat' first | (with_reducible first | exact keeps_refl _ _ | apply planFault_keeps | apply endActivation_keeps | apply stopWeft_keeps) | decide | split | dsimp only

theorem finishIns_keeps {g i} {r : Done} (k : [.rcd, .flt, .loom, .weft] ⊆ m) (h : Keeps m s r.s) : Keeps m s (State.finishIns g i r) := by
  refine keeps_step ?_ k h; unfold State.finishIns
  repeat' first | (with_reducible first | exact keeps_refl _ _ | apply taskFault_keeps | apply endActivation_keeps | apply saveContext_keeps | apply onLoom_keeps | apply spend_keeps | apply keeps_ite) | decide | split | dsimp only

theorem suspend_keeps {t x1 x2} (k : [.loom, .weft] ⊆ m) (g : Keeps m s t) : Keeps m s (State.suspend t x1 x2) := by
  refine keeps_step ?_ k g; unfold State.suspend
  repeat' first | (with_reducible first | exact keeps_refl _ _ | apply saveContext_keeps | apply spend_keeps) | decide | split | dsimp only

theorem budgetFault_keeps {t x1} (k : [.rcd, .flt, .loom, .weft] ⊆ m) (g : Keeps m s t) : Keeps m s (State.budgetFault t x1) := by
  refine keeps_step ?_ k g; unfold State.budgetFault
  repeat' first | (with_reducible first | exact keeps_refl _ _ | apply taskFault_keeps | apply saveContext_keeps | apply spend_keeps) | decide | split | dsimp only

theorem loomRow_keeps {sel : Nat → Bool} {sem : Ins → State → Done} (k : [.out, .rcd, .flt, .cmd, .sw, .drv, .fld, .loom, .weft, .can, .far, .twin] ⊆ m)
    (h : ∀ i t, Keeps m t (sem i t).s) : Keeps m s (s.loomRow sel sem) := by
  have hl : ∀ t : State, Keeps m t (t.onLoom fun l => l.settle l.cyc) := fun t => onLoom_keeps (List.Subset.trans (by decide) k) (keeps_refl _ _)
  have hi : ∀ (i : Ins) (t : State), Keeps m t (if i.legal then sem i t else i.illegal t).s := fun i t => by
    split
    · exact h i t
    · exact Ins_illegal_keeps (by simp) (keeps_refl _ _)
  unfold State.loomRow
  split
  · exact keeps_refl _ _
  · dsimp only
    split
    · exact keeps_refl _ _
    · refine keeps_trans (hl s) ?_
      have e := hi s.nowIns (s.onLoom fun l => l.settle l.cyc)
      revert e
      generalize (if s.nowIns.legal then sem s.nowIns (s.onLoom fun l => l.settle l.cyc)
        else s.nowIns.illegal (s.onLoom fun l => l.settle l.cyc)) = r
      intro e
      have z : ∀ {g' i'}, Keeps m (s.onLoom fun l => l.settle l.cyc) (State.finishIns g' i' r) := finishIns_keeps (List.Subset.trans (by decide) k) e
      have b : ∀ {g'}, Keeps m (s.onLoom fun l => l.settle l.cyc) (State.budgetFault (s.onLoom fun l => l.settle l.cyc) g') :=
        budgetFault_keeps (List.Subset.trans (by decide) k) (keeps_refl _ _)
      apply boundary_keeps (List.Subset.trans (by decide) k)
      split
      · exact keeps_ite z (suspend_keeps (List.Subset.trans (by decide) k) (keeps_refl _ _))
      · exact keeps_ite z b
      · exact keeps_ite z b

theorem semOne_keeps {sem : Ins → Nat → Bool → State → State → Done} {i} {t} (k : [.loom] ⊆ m)
    (h : ∀ a b u, Keeps m t u → Keeps m t (sem i a b t u).s) (g : Keeps m s t) : Keeps m s (semOne sem i t).s := by
  have hr : Keeps m t (t.readOp i.a i.xa 4).2.2 := readOp_keeps k (keeps_refl _ _)
  refine keeps_trans g ?_
  unfold semOne
  dsimp only
  split
  · exact h _ _ _ hr
  · exact h _ _ _ hr

theorem semBinary_keeps {x0 x1 t} (k : [.mem, .loom] ⊆ m) (g : Keeps m s t) : Keeps m s (semBinary x0 x1 t).s := by
  refine keeps_step ?_ k g; unfold semBinary
  repeat' first | (with_reducible first | exact keeps_refl _ _ | apply readOp_keeps | apply onLoom_keeps | apply writeOp_keeps | apply Ins_plain_keeps | refine keeps_of_eq (by assumption) ?_ | refine keeps_of_eq2 (by assumption) ?_) | decide | split | dsimp only

theorem semModify_keeps {x0 x1 t} (k : [.mem, .loom] ⊆ m) (g : Keeps m s t) : Keeps m s (semModify x0 x1 t).s := by
  refine keeps_step ?_ k g; unfold semModify
  repeat' first | (with_reducible first | exact keeps_refl _ _ | apply readOp_keeps | apply onLoom_keeps | apply writeAt_keeps | apply Ins_plain_keeps | apply keeps_ite | refine keeps_of_eq (by assumption) ?_ | refine keeps_of_eq2 (by assumption) ?_) | decide | split | dsimp only

theorem semUnary_keeps {x0 x1 t} (k : [.mem, .loom] ⊆ m) (g : Keeps m s t) : Keeps m s (semUnary x0 x1 t).s := by
  refine keeps_step ?_ k g; unfold semUnary
  repeat' first | (with_reducible first | exact keeps_refl _ _ | apply readOp_keeps | apply onLoom_keeps | apply writeOp_keeps | apply Ins_plain_keeps | refine keeps_of_eq (by assumption) ?_ | refine keeps_of_eq2 (by assumption) ?_) | decide | split | dsimp only

theorem semGets_keeps {x0 t} (k : [.mem, .loom] ⊆ m) (g : Keeps m s t) : Keeps m s (semGets x0 t).s := by
  refine keeps_step ?_ k g; unfold semGets
  repeat' first | (with_reducible first | exact keeps_refl _ _ | apply writeOp_keeps | apply Ins_plain_keeps | refine keeps_of_eq (by assumption) ?_) | decide | split | dsimp only

theorem semLea_keeps {x0 t} (k : [.mem, .loom] ⊆ m) (g : Keeps m s t) : Keeps m s (semLea x0 t).s := by
  refine keeps_step ?_ k g; unfold semLea
  repeat' first | (with_reducible first | exact keeps_refl _ _ | apply writeOp_keeps | apply onLoom_keeps | apply Ins_plain_keeps | refine keeps_of_eq (by assumption) ?_) | decide | split | dsimp only

theorem semBcc_keeps {x0 t} (k : [] ⊆ m) (g : Keeps m s t) : Keeps m s (semBcc x0 t).s := by
  refine keeps_step ?_ k g; unfold semBcc
  repeat' first | (with_reducible first | exact keeps_refl _ _ | apply Ins_plain_keeps | apply keeps_ite) | decide | split | dsimp only

theorem semRep_keeps {x0 x1 t} (k : [.loom] ⊆ m) (g : Keeps m s t) : Keeps m s (semRep x0 x1 t).s := by
  refine keeps_step ?_ k g; unfold semRep
  repeat' first | (with_reducible first | exact keeps_refl _ _ | apply Ins_plain_keeps | apply onLoom_keeps | apply readOp_keeps | apply keeps_ite | refine keeps_of_eq (by assumption) ?_ | refine keeps_of_eq2 (by assumption) ?_) | decide | split | dsimp only

theorem semMul_keeps {x0 x1 t} (k : [.loom] ⊆ m) (g : Keeps m s t) : Keeps m s (semMul x0 x1 t).s := by
  refine keeps_step ?_ k g; unfold semMul
  repeat' first | (with_reducible first | exact keeps_refl _ _ | apply readOp_keeps | apply Ins_plain_keeps | apply onLoom_keeps | apply keeps_ite | refine keeps_of_eq (by assumption) ?_ | refine keeps_of_eq2 (by assumption) ?_) | decide | split | dsimp only

theorem fetchFault_keeps {t} (k : [.rcd, .flt, .loom, .weft] ⊆ m) (g : Keeps m s t) : Keeps m s (State.fetchFault t) := by
  refine keeps_step ?_ k g; unfold State.fetchFault
  repeat' first | (with_reducible first | exact keeps_refl _ _ | apply taskFault_keeps | apply endActivation_keeps | apply keeps_ite) | decide | split | dsimp only

theorem semWaitslot_keeps {i a b t} (k : [.loom] ⊆ m) (g : Keeps m s t) : Keeps m s (semWaitslot i a b s t).s := by
  unfold semWaitslot
  split
  · exact g
  · split
    · exact keeps_refl _ _
    · dsimp only [Ins.plain]
      exact onLoom_keeps k g

theorem semJmpi_keeps {i a b t} (g : Keeps m s t) : Keeps m s (semJmpi i a b s t).s := by
  unfold semJmpi
  dsimp only
  split
  · exact g
  · split
    · exact g
    · exact g

theorem countSent_keeps {t x1 x2} (k : [.weft] ⊆ m) (g : Keeps m s t) : Keeps m s (State.countSent t x1 x2) := by
  refine keeps_step ?_ k g; unfold State.countSent
  repeat' first | (with_reducible first | exact keeps_refl _ _ | apply onWeft_keeps | apply keeps_ite) | decide | split | dsimp only

theorem semRet_keeps {x0 t} (k : [.loom] ⊆ m) (g : Keeps m s t) : Keeps m s (semRet x0 t).s := by
  refine keeps_step ?_ k g; unfold semRet
  repeat' first | (with_reducible first | exact keeps_refl _ _ | apply Ins_plain_keeps | apply onLoom_keeps | apply keeps_ite) | decide | split | dsimp only

theorem semPuts_keeps {i a b t} (k : [.loom] ⊆ m) (g : Keeps m s t) : Keeps m s (semPuts i a b s t).s := by
  have h : ∀ f, Keeps m s (t.onLoom f) := fun f => onLoom_keeps k g
  unfold semPuts
  dsimp only [Ins.plain]
  split
  · dsimp only
    exact h _
  · split
    · dsimp only
      exact h _
    · split
      · exact g
      · exact keeps_refl _ _

theorem semCall_keeps {x0 t} (k : [.loom] ⊆ m) (g : Keeps m s t) : Keeps m s (semCall x0 t).s := by
  refine keeps_step ?_ k g; unfold semCall
  repeat' first | (with_reducible first | exact keeps_refl _ _ | apply Ins_plain_keeps | apply onLoom_keeps | apply keeps_ite) | decide | split | dsimp only

theorem semSend_keeps {x0 t} (k : [.links, .loom, .weft] ⊆ m) (g : Keeps m s t) : Keeps m s (semSend x0 t).s := by
  refine keeps_step ?_ k g; unfold semSend
  repeat' first | (with_reducible first | exact keeps_refl _ _ | apply readOp_keeps | apply Ins_plain_keeps | apply countSent_keeps | apply sendWord_keeps | apply keeps_ite | refine keeps_of_eq (by assumption) ?_ | refine keeps_of_eq2 (by assumption) ?_) | decide | split | dsimp only

theorem semRecv_keeps {x0 t} (k : [.mem, .loom] ⊆ m) (g : Keeps m s t) : Keeps m s (semRecv x0 t).s := by
  refine keeps_step ?_ k g; unfold semRecv
  repeat' first | (with_reducible first | exact keeps_refl _ _ | apply onLoom_keeps | apply writeOp_keeps | apply Ins_plain_keeps | apply keeps_ite | refine keeps_of_eq (by assumption) ?_) | decide | split | dsimp only

end Sys2Proof.Laws
end

