-- ==== Sys2Proof/Laws/KeepsWeft.lean ====
section
/-! SUPPORT. What each operation leaves alone: the clocks, the weft and the release token. -/

namespace Sys2Proof.Laws

open Sys2Proof Sys2Proof.Machine

set_option linter.all false

variable {m : List Part} {s : State}

theorem loadRelease_keeps {t x1 x2} (k : [.can, .acc] ⊆ m) (g : Keeps m s t) : Keeps m s (State.loadRelease t x1 x2) := by
  refine keeps_step ?_ k g; unfold State.loadRelease
  repeat' first | (with_reducible first | exact keeps_refl _ _ | apply onAcc_keeps | apply onCanCh_keeps | apply keeps_ite) | decide | split | dsimp only

theorem radioPower_keeps {t x1} (k : [.pwr] ⊆ m) (g : Keeps m s t) : Keeps m s (State.radioPower t x1) := by
  refine keeps_step ?_ k g; unfold State.radioPower
  repeat' first | (with_reducible first | exact keeps_refl _ _ | apply onPwr_keeps | apply keeps_ite) | decide | split | dsimp only

theorem radioStop_keeps {t x1} (k : [.pwr, .rcd, .acc] ⊆ m) (g : Keeps m s t) : Keeps m s (State.radioStop t x1) := by
  refine keeps_step ?_ k g; unfold State.radioStop
  repeat' first | (with_reducible first | exact keeps_refl _ _ | apply record_keeps | apply radioPower_keeps | apply onAcc_keeps | apply keeps_ite) | decide | split | dsimp only

theorem radioEval_keeps {t} (k : [.pwr, .rcd, .acc] ⊆ m) (g : Keeps m s t) : Keeps m s (State.radioEval t) := by
  refine keeps_step ?_ k g; unfold State.radioEval
  repeat' first | (with_reducible first | exact keeps_refl _ _ | apply radioStop_keeps | apply record_keeps | apply onAcc_keeps | apply keeps_ite) | decide | split | dsimp only

theorem relStart_keeps {t} (k : [.rcd, .acc] ⊆ m) (g : Keeps m s t) : Keeps m s (State.relStart t) := by
  refine keeps_step ?_ k g; unfold State.relStart
  repeat' first | (with_reducible first | exact keeps_refl _ _ | apply record_keeps | apply onAcc_keeps | apply keeps_ite) | decide | split | dsimp only

theorem relStop_keeps {t} (k : [.rcd, .can, .acc] ⊆ m) (g : Keeps m s t) : Keeps m s (State.relStop t) := by
  refine keeps_step ?_ k g; unfold State.relStop
  repeat' first | (with_reducible first | exact keeps_refl _ _ | apply record_keeps | apply onAcc_keeps | apply loadRelease_keeps | apply keeps_ite) | decide | split | dsimp only

theorem relMark_keeps {t} (k : [.rcd, .can, .acc] ⊆ m) (g : Keeps m s t) : Keeps m s (State.relMark t) := by
  refine keeps_step ?_ k g; unfold State.relMark
  repeat' first | (with_reducible first | exact keeps_refl _ _ | apply onAcc_keeps | apply relStart_keeps | apply relStop_keeps | apply loadRelease_keeps | apply keeps_ite) | decide | split | dsimp only

theorem doorEvent_keeps {t} (k : [.acc] ⊆ m) (g : Keeps m s t) : Keeps m s (State.doorEvent t) := by
  refine keeps_step ?_ k g; unfold State.doorEvent
  repeat' first | (with_reducible first | exact keeps_refl _ _ | apply onAcc_keeps) | decide | split | dsimp only

theorem detailOf_keeps {t x1} (k : [.free] ⊆ m) (g : Keeps m s t) : Keeps m s (State.detailOf t x1).2 := by
  refine keeps_step ?_ k g; unfold State.detailOf
  repeat' first | (with_reducible first | exact keeps_refl _ _ | apply draw_keeps | refine keeps_of_eq (by assumption) ?_) | decide | split | dsimp only

theorem measured_keeps {t x1 x2 x3} (k : [.clk, .rcd] ⊆ m) (g : Keeps m s t) : Keeps m s (State.measured t x1 x2 x3) := by
  refine keeps_step ?_ k g; unfold State.measured
  repeat' first | (with_reducible first | exact keeps_refl _ _ | apply onClk_keeps | apply setSource_keeps | apply keeps_ite) | decide | split | dsimp only

theorem told_keeps {t x1 x2} (k : [.out, .links, .rcd, .flt, .cmd, .sw, .drv, .fld, .can, .far, .twin] ⊆ m) (g : Keeps m s t) : Keeps m s (State.told t x1 x2) := by
  refine keeps_step ?_ k g; unfold State.told
  repeat' first | (with_reducible first | exact keeps_refl _ _ | apply twinArrive_keeps | apply serviceArrive_keeps | apply keeps_ite) | decide | split | dsimp only

theorem opWarpPtpOffsetLoRead_keeps {t} (k : [.wt] ⊆ m) (g : Keeps m s t) : Keeps m s (opWarpPtpOffsetLoRead t) := by
  refine keeps_step ?_ k g; unfold opWarpPtpOffsetLoRead
  repeat' first | (with_reducible first | exact keeps_refl _ _ | apply onWt_keeps) | decide | split | dsimp only

theorem opWarpLoRead_keeps {t} (k : [.wt] ⊆ m) (g : Keeps m s t) : Keeps m s (opWarpLoRead t) := by
  refine keeps_step ?_ k g; unfold opWarpLoRead
  repeat' first | (with_reducible first | exact keeps_refl _ _ | apply onWt_keeps) | decide | split | dsimp only

theorem readClock_keeps {t x1} (k : [.wt] ⊆ m) (g : Keeps m s t) : Keeps m s (State.readClock t x1).2 := by
  refine keeps_step ?_ k g; unfold State.readClock
  repeat' first | (with_reducible first | exact keeps_refl _ _ | apply opWarpLoRead_keeps | apply opWarpPtpOffsetLoRead_keeps) | decide | split | dsimp only

theorem applyStep_keeps {t} (k : [.wt, .rcd, .sw] ⊆ m) (g : Keeps m s t) : Keeps m s (State.applyStep t) := by
  refine keeps_step ?_ k g; unfold State.applyStep
  repeat' first | (with_reducible first | exact keeps_refl _ _ | apply rebase_keeps | apply onWt_keeps | apply record_keeps | apply keeps_ite) | decide | split | dsimp only

theorem writeClock_keeps {t x1 x2} (k : [.clk, .ccfg, .rcd] ⊆ m) (g : Keeps m s t) : Keeps m s (State.writeClock t x1 x2).2 := by
  refine keeps_step ?_ k g; unfold State.writeClock
  repeat' first | (with_reducible first | exact keeps_refl _ _ | apply onClk_keeps | apply retrim_keeps) | decide | split | dsimp only | (refine ⟨⟨fun p h => ?_⟩, id, Nat.le_refl _, Nat.le_refl _⟩; cases p <;> first | rfl | exact absurd (by decide) h)

theorem yieldChan_keeps {t x1} (k : [.sw] ⊆ m) (g : Keeps m s t) : Keeps m s (State.yieldChan t x1) := by
  refine keeps_step ?_ k g; unfold State.yieldChan
  repeat' first | (with_reducible first | exact keeps_refl _ _ | apply changeMode_keeps | apply rephase_keeps | apply onChan_keeps | refine keeps_of_eq (by assumption) ?_) | decide | split | dsimp only

theorem chanToWeft_keeps {t x1} (k : [.sw] ⊆ m) (g : Keeps m s t) : Keeps m s (State.chanToWeft t x1) := by
  refine keeps_step ?_ k g; unfold State.chanToWeft
  repeat' first | (with_reducible first | exact keeps_refl _ _ | apply yieldChan_keeps | apply onSw_keeps | apply passTo_keeps | apply rephase_keeps | apply muteChan_keeps | apply onChan_keeps | apply keeps_ite) | decide | split | dsimp only

theorem doStop_keeps {t x1 x2 x3} (k : [.weft] ⊆ m) (g : Keeps m s t) : Keeps m s (State.doStop t x1 x2 x3).2 := by
  refine keeps_step ?_ k g; unfold State.doStop
  repeat' first | (with_reducible first | exact keeps_refl _ _ | apply onWeft_keeps) | decide | split | dsimp only

theorem sendLoomData_keeps {t} (k : [.out, .rcd, .twin] ⊆ m) (g : Keeps m s t) : Keeps m s (State.sendLoomData t) := by
  refine keeps_step ?_ k g; unfold State.sendLoomData
  repeat' first | (with_reducible first | exact keeps_refl _ _ | apply twinFrame_keeps | apply flushLater_keeps | apply onTwin_keeps | apply planRecord_keeps | apply keeps_ite) | decide | split | dsimp only

theorem yieldAct_keeps {t x1} (k : [.free, .out, .rcd, .cmd, .sw, .drv, .fld, .can, .far, .twin] ⊆ m) (g : Keeps m s t) : Keeps m s (State.yieldAct t x1) := by
  refine keeps_step ?_ k g; unfold State.yieldAct
  repeat' first | (with_reducible first | exact keeps_refl _ _ | apply acRelease_keeps | apply onCoil_keeps) | decide | split | dsimp only

theorem actToWeft_keeps {t x1} (k : [.free, .out, .rcd, .cmd, .sw, .drv, .fld, .can, .far, .twin] ⊆ m) (g : Keeps m s t) : Keeps m s (State.actToWeft t x1) := by
  refine keeps_step ?_ k g; unfold State.actToWeft
  repeat' first | (with_reducible first | exact keeps_refl _ _ | apply yieldAct_keeps | apply onDrv_keeps | apply acPassTo_keeps | apply muteAct_keeps | apply onCoil_keeps | apply keeps_ite) | decide | split | dsimp only

theorem evaluate_keeps {t x1 x2 x3} (k : [.free, .out, .rcd, .cmd, .sw, .drv, .fld, .can, .far, .twin] ⊆ m) (g : Keeps m s t) : Keeps m s (State.evaluate t x1 x2 x3).2 := by
  refine keeps_step ?_ k g; unfold State.evaluate
  repeat' first | (with_reducible first | exact keeps_refl _ _ | apply record_keeps | apply chanToWeft_keeps | apply actToWeft_keeps | apply keeps_forEach | apply keeps_ite | apply keeps_ite_pair) | decide | intro _ | split | dsimp only

theorem endSwap_keeps {t x1} (k : [.out, .rcd, .cmd, .sw, .drv, .fld, .weft, .can, .far, .twin] ⊆ m) (g : Keeps m s t) : Keeps m s (State.endSwap t x1) := by
  refine keeps_step ?_ k g; unfold State.endSwap
  repeat' first | (with_reducible first | exact keeps_refl _ _ | apply onWeft_keeps | apply completeId_keeps) | decide | split | dsimp only

theorem evalSwap_keeps {t x1} (k : [.free, .out, .rcd, .cmd, .sw, .drv, .fld, .weft, .can, .far, .twin] ⊆ m) (g : Keeps m s t) : Keeps m s (State.evalSwap t x1) := by
  refine keeps_step ?_ k g; unfold State.evalSwap
  repeat' first | (with_reducible first | exact keeps_refl _ _ | apply evaluate_keeps | apply onWeft_keeps | apply endSwap_keeps | refine keeps_of_eq (by assumption) ?_) | decide | split | dsimp only

theorem releaseTasks_keeps {t} (k : [.weft] ⊆ m) (g : Keeps m s t) : Keeps m s (State.releaseTasks t) := by
  refine keeps_step ?_ k g; unfold State.releaseTasks
  repeat' first | (with_reducible first | exact keeps_refl _ _ | apply onWeft_keeps | apply keeps_ite) | decide | split | dsimp only

theorem weftMark_keeps {t} (k : [.out, .rcd, .cmd, .sw, .drv, .fld, .loom, .weft, .can, .far, .twin] ⊆ m) (g : Keeps m s t) : Keeps m s (State.weftMark t) := by
  refine keeps_step ?_ k g; unfold State.weftMark
  repeat' first | (with_reducible first | exact keeps_refl _ _ | apply saveContext_keeps | apply onLoom_keeps | apply onWeft_keeps | apply boundary_keeps | apply releaseTasks_keeps | apply keeps_ite) | decide | split | dsimp only

theorem weftToHost_keeps {t} (k : [.sw, .drv] ⊆ m) (g : Keeps m s t) : Keeps m s (State.weftToHost t) := by
  refine keeps_step ?_ k g; unfold State.weftToHost
  repeat' first | (with_reducible first | exact keeps_refl _ _ | apply passTo_keeps | apply acPassTo_keeps | apply rephase_keeps | apply keeps_forEach) | decide | intro _ | split | dsimp only

theorem dropStart_keeps {t x1} (k : [.out, .rcd, .cmd, .sw, .drv, .fld, .weft, .can, .far, .twin] ⊆ m) (g : Keeps m s t) : Keeps m s (State.dropStart t x1) := by
  refine keeps_step ?_ k g; unfold State.dropStart
  repeat' first | (with_reducible first | exact keeps_refl _ _ | apply onWeft_keeps | apply completeId_keeps | apply keeps_ite) | decide | split | dsimp only

theorem placeWeft_keeps {t x1} (k : [.mem] ⊆ m) (g : Keeps m s t) : Keeps m s (State.placeWeft t x1) := by
  refine keeps_step ?_ k g; unfold State.placeWeft
  repeat' first | (with_reducible first | exact keeps_refl _ _ | apply writeMem_keeps) | decide | split | dsimp only

theorem installWeft_keeps {t x1} (k : [.out, .mem, .rcd, .cmd, .sw, .drv, .fld, .weft, .can, .far, .twin] ⊆ m) (g : Keeps m s t) : Keeps m s (State.installWeft t x1) := by
  refine keeps_step ?_ k g; unfold State.installWeft
  repeat' first | (with_reducible first | exact keeps_refl _ _ | apply dropStart_keeps | apply onWeft_keeps | apply record_keeps | apply placeWeft_keeps) | decide | split | dsimp only

theorem freeReason_keeps {t} (k : [.free] ⊆ m) (g : Keeps m s t) : Keeps m s (State.freeReason t).2 := by
  refine keeps_step ?_ k g; unfold State.freeReason
  repeat' first | (with_reducible first | exact keeps_refl _ _ | apply draw_keeps | refine keeps_of_eq (by assumption) ?_) | decide | split | dsimp only

theorem placeData_keeps {t x1} (k : [.mem] ⊆ m) (g : Keeps m s t) : Keeps m s (State.placeData t x1) := by
  refine keeps_step ?_ k g; unfold State.placeData
  repeat' first | (with_reducible first | exact keeps_refl _ _ | apply writeMem_keeps) | decide | split | dsimp only

theorem beginSwap_keeps {t x1 x2 x3 x4} (k : [.mem, .weft] ⊆ m) (g : Keeps m s t) : Keeps m s (State.beginSwap t x1 x2 x3 x4) := by
  refine keeps_step ?_ k g; unfold State.beginSwap
  repeat' first | (with_reducible first | exact keeps_refl _ _ | apply onWeft_keeps | apply placeData_keeps | apply placeWeft_keeps) | decide | split | dsimp only

theorem writeOwnership_keeps {t x1 x2} (k : [.mem] ⊆ m) (g : Keeps m s t) : Keeps m s (State.writeOwnership t x1 x2) := by
  refine keeps_step ?_ k g; unfold State.writeOwnership
  repeat' first | (with_reducible first | exact keeps_refl _ _ | apply writeMem_keeps) | decide | split | dsimp only

theorem restartFails_keeps {t x1 x2} (k : [.rcd, .weft] ⊆ m) (g : Keeps m s t) : Keeps m s (State.restartFails t x1 x2) := by
  refine keeps_step ?_ k g; unfold State.restartFails
  repeat' first | (with_reducible first | exact keeps_refl _ _ | apply record_keeps | apply onWeft_keeps) | decide | split | dsimp only

theorem beginStart_keeps {t x1 x2 x3 x4 x5 x6 x7} (k : [.mem, .wt, .rcd, .sw, .loom, .weft] ⊆ m) (g : Keeps m s t) : Keeps m s (State.beginStart t x1 x2 x3 x4 x5 x6 x7) := by
  refine keeps_step ?_ k g; unfold State.beginStart
  repeat' first | (with_reducible first | exact keeps_refl _ _ | apply placeWeft_keeps | apply applyStep_keeps | apply placeData_keeps | apply onLoom_keeps | apply onWeft_keeps) | decide | split | dsimp only

theorem refuseWeft_keeps {t x1 x2 x3} (k : [.free, .out, .rcd, .cmd, .sw, .drv, .fld, .can, .far, .twin] ⊆ m) (g : Keeps m s t) : Keeps m s (State.refuseWeft t x1 x2 x3) := by
  refine keeps_step ?_ k g; unfold State.refuseWeft
  repeat' first | (with_reducible first | exact keeps_refl _ _ | apply detailOf_keeps | apply record_keeps | apply complete_keeps | apply keeps_ite | refine keeps_of_eq (by assumption) ?_) | decide | split | dsimp only

theorem sendWeftFrom_keeps {x0 x1 x2 x3 x4 t} (k : [.out, .twin] ⊆ m) (g : Keeps m s t) : Keeps m s (State.sendWeftFrom x0 x1 x2 x3 x4 t) := by
  induction x3 generalizing x0 x1 x2 x4 t with
  | zero =>
    unfold State.sendWeftFrom
    repeat' first | exact k | (with_reducible first | assumption | apply twinFrame_keeps | apply keeps_ite) | exact List.Subset.trans (by decide) k | split | dsimp only
  | succ n ih =>
    unfold State.sendWeftFrom
    repeat' first | exact k | (with_reducible first | assumption | apply ih | apply twinFrame_keeps | apply keeps_ite) | exact List.Subset.trans (by decide) k | split | dsimp only

theorem sendWeft_keeps {t x1} (k : [.out, .twin] ⊆ m) (g : Keeps m s t) : Keeps m s (State.sendWeft t x1) := by
  refine keeps_step ?_ k g; unfold State.sendWeft
  repeat' first | (with_reducible first | exact keeps_refl _ _ | apply sendWeftFrom_keeps) | decide | split | dsimp only

theorem doStart_keeps {t x1 x2 x3 x4} (k : [.mem, .wt, .rcd, .sw, .loom, .weft] ⊆ m) (g : Keeps m s t) : Keeps m s (State.doStart t x1 x2 x3 x4).2 := by
  refine keeps_step ?_ k g; unfold State.doStart
  repeat' first | (with_reducible first | exact keeps_refl _ _ | apply beginStart_keeps | apply keeps_ite | apply keeps_ite_pair) | decide | split | dsimp only

theorem touchWeft_keeps {t x1} (k : [.out, .rcd, .cmd, .sw, .drv, .fld, .weft, .can, .far, .twin] ⊆ m) (g : Keeps m s t) : Keeps m s (State.touchWeft t x1).2 := by
  refine keeps_step ?_ k g; unfold State.touchWeft
  repeat' first | (with_reducible first | exact keeps_refl _ _ | apply dropStart_keeps | apply onWeft_keeps | apply keeps_ite | apply keeps_ite_pair) | decide | split | dsimp only

theorem evalStart_keeps {t x1} (k : [.free, .out, .mem, .rcd, .cmd, .sw, .drv, .fld, .weft, .can, .far, .twin] ⊆ m) (g : Keeps m s t) : Keeps m s (State.evalStart t x1) := by
  refine keeps_step ?_ k g; unfold State.evalStart
  repeat' first | (with_reducible first | exact keeps_refl _ _ | apply evaluate_keeps | apply writeOwnership_keeps | apply onWeft_keeps | apply restartFails_keeps | apply completeId_keeps | apply keeps_ite | refine keeps_of_eq (by assumption) ?_) | decide | split | dsimp only

end Sys2Proof.Laws
end

