-- ==== Sys2Proof/Laws/KeepsTwin.lean ====
section
/-! SUPPORT. What each operation leaves alone: the twin pair and door access. -/

namespace Sys2Proof.Laws

open Sys2Proof Sys2Proof.Machine

set_option linter.all false

variable {m : List Part} {s : State}

theorem twinAnswer_keeps {t x1} (k : [.out, .twin] ⊆ m) (g : Keeps m s t) : Keeps m s (State.twinAnswer t x1) := by
  refine keeps_step ?_ k g; unfold State.twinAnswer
  repeat' first | (with_reducible first | exact keeps_refl _ _ | apply twinFrame_keeps | apply keeps_ite) | decide | split | dsimp only

theorem twinTake_keeps {t x1 x2} (k : [.twin] ⊆ m) (g : Keeps m s t) : Keeps m s (State.twinTake t x1 x2).2 := by
  refine keeps_step ?_ k g; unfold State.twinTake
  repeat' first | (with_reducible first | exact keeps_refl _ _ | apply onTwin_keeps | apply keeps_ite | apply keeps_ite_pair) | decide | split | dsimp only

theorem commitFails_keeps {t x1} (k : [.out, .rcd, .cmd, .sw, .drv, .fld, .can, .far, .twin] ⊆ m) (g : Keeps m s t) : Keeps m s (State.commitFails t x1) := by
  refine keeps_step ?_ k g; unfold State.commitFails
  repeat' first | (with_reducible first | exact keeps_refl _ _ | apply completeId_keeps) | decide | split | dsimp only

theorem flushHeld_keeps {t} (k : [.out, .rcd, .cmd, .sw, .drv, .fld, .can, .far, .twin] ⊆ m) (g : Keeps m s t) : Keeps m s (State.flushHeld t) := by
  refine keeps_step ?_ k g; unfold State.flushHeld
  repeat' first | (with_reducible first | exact keeps_refl _ _ | apply onTwin_keeps | apply sendPacket_keeps | apply keeps_forEach | apply keeps_ite) | decide | intro _ | split | dsimp only

theorem linkGone_keeps {t x1} (k : [.free, .out, .rcd, .flt, .cmd, .sw, .drv, .fld, .can, .far, .twin] ⊆ m) (g : Keeps m s t) : Keeps m s (State.linkGone t x1) := by
  refine keeps_step ?_ k g; unfold State.linkGone
  repeat' first | (with_reducible first | exact keeps_refl _ _ | apply onTwin_keeps | apply record_keeps | apply fault_keeps | apply commitFails_keeps | apply completeId_keeps | apply startAcked_keeps | apply flushHeld_keeps | apply keeps_forEach | apply keeps_ite) | decide | intro _ | split | dsimp only

theorem endPairing_keeps {t} (k : [.twin] ⊆ m) (g : Keeps m s t) : Keeps m s (State.endPairing t) := by
  refine keeps_step ?_ k g; unfold State.endPairing
  repeat' first | (with_reducible first | exact keeps_refl _ _ | apply onTwin_keeps | apply keeps_ite) | decide | split | dsimp only

theorem refusePairing_keeps {t x1} (k : [.rcd, .twin] ⊆ m) (g : Keeps m s t) : Keeps m s (State.refusePairing t x1) := by
  refine keeps_step ?_ k g; unfold State.refusePairing
  repeat' first | (with_reducible first | exact keeps_refl _ _ | apply endPairing_keeps | apply record_keeps) | decide | split | dsimp only

theorem roleChanged_keeps {t} (k : [.pwr, .rcd, .sw, .can, .acc] ⊆ m) (g : Keeps m s t) : Keeps m s (State.roleChanged t) := by
  refine keeps_step ?_ k g; unfold State.roleChanged
  repeat' first | (with_reducible first | exact keeps_refl _ _ | apply relStart_keeps | apply relStop_keeps | apply radioEval_keeps | apply offAnew_keeps) | decide | split | dsimp only

theorem seize_keeps {t x1} (k : [.pwr, .rcd, .sw, .can, .twin, .acc] ⊆ m) (g : Keeps m s t) : Keeps m s (State.seize t x1) := by
  refine keeps_step ?_ k g; unfold State.seize
  repeat' first | (with_reducible first | exact keeps_refl _ _ | apply roleChanged_keeps | apply onTwin_keeps) | decide | split | dsimp only

theorem leadPairing_keeps {t} (k : [.out, .pwr, .rcd, .sw, .can, .twin, .acc] ⊆ m) (g : Keeps m s t) : Keeps m s (State.leadPairing t) := by
  refine keeps_step ?_ k g; unfold State.leadPairing
  repeat' first | (with_reducible first | exact keeps_refl _ _ | apply seize_keeps | apply onTwin_keeps | apply twinFrame_keeps | apply sendWeft_keeps | apply keeps_forEach) | decide | intro _ | split | dsimp only

theorem lockstepDue_keeps {t} (k : [.twin] ⊆ m) (g : Keeps m s t) : Keeps m s (State.lockstepDue t) := by
  refine keeps_step ?_ k g; unfold State.lockstepDue
  repeat' first | (with_reducible first | exact keeps_refl _ _ | apply onTwin_keeps | apply keeps_ite) | decide | split | dsimp only

theorem commitAcked_keeps {t} (k : [.out, .mem, .rcd, .cmd, .sw, .drv, .fld, .weft, .can, .far, .twin] ⊆ m) (g : Keeps m s t) : Keeps m s (State.commitAcked t) := by
  refine keeps_step ?_ k g; unfold State.commitAcked
  repeat' first | (with_reducible first | exact keeps_refl _ _ | apply completeId_keeps | apply installWeft_keeps | apply onTwin_keeps) | decide | split | dsimp only

theorem shadowPaired_keeps {t} (k : [.rcd, .twin] ⊆ m) (g : Keeps m s t) : Keeps m s (State.shadowPaired t) := by
  refine keeps_step ?_ k g; unfold State.shadowPaired
  repeat' first | (with_reducible first | exact keeps_refl _ _ | apply record_keeps | apply onTwin_keeps | apply keeps_ite) | decide | split | dsimp only

theorem dropShared_keeps {t} (k : [.free, .out, .rcd, .cmd, .sw, .drv, .fld, .can, .far, .twin] ⊆ m) (g : Keeps m s t) : Keeps m s (State.dropShared t) := by
  refine keeps_step ?_ k g; unfold State.dropShared
  repeat' first | (with_reducible first | exact keeps_refl _ _ | apply rephase_keeps | apply onChan_keeps | apply changeMode_keeps | apply onCoil_keeps | apply acRelease_keeps | apply keeps_forEach | refine keeps_of_eq (by assumption) ?_) | decide | intro _ | split | dsimp only

theorem inOrder_keeps {t a b} {f : State → State} (k : [.out, .rcd, .twin] ⊆ m) (h : ∀ t, Keeps m t (f t)) (g : Keeps m s t) :
    Keeps m s (t.inOrder a b f) := by
  have ha : ∀ {u q}, Keeps m s u → Keeps m s (u.twinAnswer q) := fun e => twinAnswer_keeps (List.Subset.trans (by decide) k) e
  have hp : Keeps m s t.shadowPaired := shadowPaired_keeps (List.Subset.trans (by decide) k) g
  unfold State.inOrder
  split
  · exact g
  · dsimp only
    split
    · exact ha (onTwin_keeps (List.Subset.trans (by decide) k) (keeps_trans hp (h _)))
    · split
      · exact ha g
      · exact onTwin_keeps (List.Subset.trans (by decide) k) g

theorem storeTaken_keeps {t x1 x2 x3} (k : [.twin] ⊆ m) (g : Keeps m s t) : Keeps m s (State.storeTaken t x1 x2 x3) := by
  refine keeps_step ?_ k g; unfold State.storeTaken
  repeat' first | (with_reducible first | exact keeps_refl _ _ | apply onTwin_keeps | apply keeps_ite) | decide | split | dsimp only

theorem shadowExecute_keeps {t x1} (k : [.mem, .wt, .rcd, .sw, .loom, .weft] ⊆ m) (g : Keeps m s t) : Keeps m s (State.shadowExecute t x1) := by
  refine keeps_step ?_ k g; unfold State.shadowExecute
  repeat' first | (with_reducible first | exact keeps_refl _ _ | apply doStart_keeps | apply doStop_keeps | apply beginSwap_keeps | refine keeps_of_eq (by assumption) ?_) | decide | split | dsimp only

theorem storeBegun_keeps {t x1 x2} (k : [.mem, .wt, .rcd, .sw, .loom, .weft, .twin] ⊆ m) (g : Keeps m s t) : Keeps m s (State.storeBegun t x1 x2) := by
  refine keeps_step ?_ k g; unfold State.storeBegun
  repeat' first | (with_reducible first | exact keeps_refl _ _ | apply shadowExecute_keeps | apply onTwin_keeps | apply keeps_ite) | decide | split | dsimp only

theorem storeDone_keeps {t x1 x2 x3} (k : [.twin] ⊆ m) (g : Keeps m s t) : Keeps m s (State.storeDone t x1 x2 x3) := by
  refine keeps_step ?_ k g; unfold State.storeDone
  repeat' first | (with_reducible first | exact keeps_refl _ _ | apply onTwin_keeps | apply keeps_ite) | decide | split | dsimp only

theorem storeStall_keeps {t x1} (k : [.twin] ⊆ m) (g : Keeps m s t) : Keeps m s (State.storeStall t x1) := by
  refine keeps_step ?_ k g; unfold State.storeStall
  repeat' first | (with_reducible first | exact keeps_refl _ _ | apply onTwin_keeps) | decide | split | dsimp only

theorem storeStage_keeps {t x1} (k : [.mem, .wt, .rcd, .sw, .loom, .weft, .twin] ⊆ m) (g : Keeps m s t) : Keeps m s (State.storeStage t x1) := by
  refine keeps_step ?_ k g; unfold State.storeStage
  repeat' first | (with_reducible first | exact keeps_refl _ _ | apply storeTaken_keeps | apply storeBegun_keeps | apply storeDone_keeps | apply storeStall_keeps | apply keeps_dite | apply keeps_dite_pair | apply keeps_ite) | decide | intro _ | split | dsimp only

theorem flagChanges_keeps {t x1 x2} (k : [.rcd] ⊆ m) (g : Keeps m s t) : Keeps m s (State.flagChanges t x1 x2) := by
  refine keeps_step ?_ k g; unfold State.flagChanges
  repeat' first | (with_reducible first | exact keeps_refl _ _ | apply record_keeps | apply keeps_ite) | decide | split | dsimp only

theorem twinHeartbeat_keeps {t} (k : [.out, .twin] ⊆ m) (g : Keeps m s t) : Keeps m s (State.twinHeartbeat t) := by
  refine keeps_step ?_ k g; unfold State.twinHeartbeat
  repeat' first | (with_reducible first | exact keeps_refl _ _ | apply flushLater_keeps | apply twinFrame_keeps | apply keeps_ite) | decide | split | dsimp only

theorem startPairing_keeps {t} (k : [.free, .out, .twin] ⊆ m) (g : Keeps m s t) : Keeps m s (State.startPairing t) := by
  refine keeps_step ?_ k g; unfold State.startPairing
  repeat' first | (with_reducible first | exact keeps_refl _ _ | apply drawBytes_keeps | apply onTwin_keeps | apply twinFrame_keeps | refine keeps_of_eq (by assumption) ?_) | decide | split | dsimp only

theorem handoverFrame_keeps {t x1 x2} (k : [.out, .twin] ⊆ m) (g : Keeps m s t) : Keeps m s (State.handoverFrame t x1 x2) := by
  refine keeps_step ?_ k g; unfold State.handoverFrame
  repeat' first | (with_reducible first | exact keeps_refl _ _ | apply twinFrame_keeps) | decide | split | dsimp only

theorem lockstep_keeps {t} (k : [.out, .rcd, .cmd, .twin] ⊆ m) (g : Keeps m s t) : Keeps m s (State.lockstep t) := by
  refine keeps_step ?_ k g; unfold State.lockstep
  repeat' first | (with_reducible first | exact keeps_refl _ _ | apply record_keeps | apply onTwin_keeps | apply onCmd_keeps | apply mirrorFrame_keeps | apply mirrorConfig_keeps | apply keeps_forEach | apply keeps_ite) | decide | intro _ | split | dsimp only

theorem mirrorChan_keeps {t x1 x2 x3} (k : [.sw] ⊆ m) (g : Keeps m s t) : Keeps m s (State.mirrorChan t x1 x2 x3) := by
  refine keeps_step ?_ k g; unfold State.mirrorChan
  repeat' first | (with_reducible first | exact keeps_refl _ _ | apply configure_keeps | apply chDenied_keeps) | decide | split | dsimp only

theorem tokenChanges_keeps {t x1} (k : [.rcd, .acc] ⊆ m) (g : Keeps m s t) : Keeps m s (State.tokenChanges t x1) := by
  refine keeps_step ?_ k g; unfold State.tokenChanges
  repeat' first | (with_reducible first | exact keeps_refl _ _ | apply record_keeps | apply onAcc_keeps | apply keeps_forEach) | decide | intro _ | split | dsimp only

theorem mirrorAct_keeps {t x1 x2 x3} (k : [.free, .out, .rcd, .cmd, .sw, .drv, .fld, .can, .far, .twin] ⊆ m) (g : Keeps m s t) : Keeps m s (State.mirrorAct t x1 x2 x3) := by
  refine keeps_step ?_ k g; unfold State.mirrorAct
  repeat' first | (with_reducible first | exact keeps_refl _ _ | apply muteAct_keeps | apply onCoil_keeps | apply acDenied_keeps) | decide | split | dsimp only

theorem writeItem_keeps {t x1 x2} (k : [.acc] ⊆ m) (g : Keeps m s t) : Keeps m s (State.writeItem t x1 x2) := by
  refine keeps_step ?_ k g; unfold State.writeItem
  repeat' first | (with_reducible first | exact keeps_refl _ _ | apply onAcc_keeps | apply keeps_dite | apply keeps_dite_pair | apply keeps_ite) | decide | intro _ | split | dsimp only

theorem writeMirrored_keeps {t x1 x2} (k : [.free, .out, .mem, .rcd, .cmd, .sw, .drv, .fld, .can, .far, .twin, .acc] ⊆ m) (g : Keeps m s t) : Keeps m s (State.writeMirrored t x1 x2) := by
  refine keeps_step ?_ k g; unfold State.writeMirrored
  repeat' first | (with_reducible first | exact keeps_refl _ _ | apply mirrorChan_keeps | apply writePg_keeps | apply writeMem_keeps | apply mirrorAct_keeps | apply onDrv_keeps | apply writeItem_keeps | apply keeps_dite | apply keeps_dite_pair | apply keeps_ite | refine keeps_of_eq (by assumption) ?_) | decide | intro _ | split | dsimp only

theorem restoreUngrouped_keeps {t x1} (k : [.rcd, .cmd] ⊆ m) (g : Keeps m s t) : Keeps m s (State.restoreUngrouped t x1) := by
  refine keeps_step ?_ k g; unfold State.restoreUngrouped
  repeat' first | (with_reducible first | exact keeps_refl _ _ | apply record_keeps | apply onGroup_keeps | apply onCmd_keeps | apply onSource_keeps | apply keeps_forEach | apply keeps_ite) | decide | intro _ | split | dsimp only

theorem restoreGroup_keeps {t x1 x2} (k : [.rcd, .cmd] ⊆ m) (g : Keeps m s t) : Keeps m s (State.restoreGroup t x1 x2) := by
  refine keeps_step ?_ k g; unfold State.restoreGroup
  repeat' first | (with_reducible first | exact keeps_refl _ _ | apply onCmd_keeps | apply onGroup_keeps | apply record_keeps | apply keeps_forEach | apply keeps_foldl | apply keeps_foldl1 | apply keeps_ite) | decide | intro _ | split | dsimp only

theorem restoreGroups_keeps {t x1 x2} (k : [.out, .rcd, .cmd, .sw, .drv, .fld, .can, .far, .twin] ⊆ m) (g : Keeps m s t) : Keeps m s (State.restoreGroups t x1 x2) := by
  refine keeps_step ?_ k g; unfold State.restoreGroups
  repeat' first | (with_reducible first | exact keeps_refl _ _ | apply onGroup_keeps | apply restoreUngrouped_keeps | apply restoreGroup_keeps | apply onTwin_keeps | apply claimGroups_keeps | apply keeps_forEach | apply keeps_ite) | decide | intro _ | split | dsimp only

theorem fireNext_keeps {t x1} (k : [.free, .drv] ⊆ m) (g : Keeps m s t) : Keeps m s (State.fireNext t x1) := by
  refine keeps_step ?_ k g; unfold State.fireNext
  repeat' first | (with_reducible first | exact keeps_refl _ _ | apply draw_keeps | apply onCoil_keeps | apply keeps_ite | refine keeps_of_eq (by assumption) ?_) | decide | split | dsimp only

theorem releaseToken_keeps {t} (k : [.free, .out, .rcd, .cmd, .sw, .drv, .fld, .can, .far, .twin] ⊆ m) (g : Keeps m s t) : Keeps m s (State.releaseToken t) := by
  refine keeps_step ?_ k g; unfold State.releaseToken
  repeat' first | (with_reducible first | exact keeps_refl _ _ | apply twinFrame_keeps | apply onTwin_keeps | apply startAcked_keeps | apply flushHeld_keeps | apply keeps_ite) | decide | split | dsimp only

theorem handoverTake_keeps {t x1 x2} (k : [.out, .twin] ⊆ m) (g : Keeps m s t) : Keeps m s (State.handoverTake t x1 x2).2 := by
  refine keeps_step ?_ k g; unfold State.handoverTake
  repeat' first | (with_reducible first | exact keeps_refl _ _ | apply twinTake_keeps | apply twinAnswer_keeps | apply keeps_ite | apply keeps_ite_pair | refine keeps_of_eq (by assumption) ?_) | decide | split | dsimp only

theorem resetTwin_keeps {t} (k : [.free, .out, .rcd, .flt, .cmd, .sw, .drv, .fld, .can, .far, .twin] ⊆ m) (g : Keeps m s t) : Keeps m s (State.resetTwin t) := by
  refine keeps_step ?_ k g; unfold State.resetTwin
  repeat' first | (with_reducible first | exact keeps_refl _ _ | apply releaseToken_keeps | apply linkGone_keeps | apply onTwin_keeps | apply keeps_ite) | decide | split | dsimp only

theorem handoverRefused_keeps {t} (k : [.out, .rcd, .cmd, .sw, .drv, .fld, .can, .far, .twin] ⊆ m) (g : Keeps m s t) : Keeps m s (State.handoverRefused t) := by
  refine keeps_step ?_ k g; unfold State.handoverRefused
  repeat' first | (with_reducible first | exact keeps_refl _ _ | apply onTwin_keeps | apply completeId_keeps) | decide | split | dsimp only

theorem refusedByShadow_keeps {t} (k : [.out, .rcd, .cmd, .sw, .drv, .fld, .can, .far, .twin] ⊆ m) (g : Keeps m s t) : Keeps m s (State.refusedByShadow t) := by
  refine keeps_step ?_ k g; unfold State.refusedByShadow
  repeat' first | (with_reducible first | exact keeps_refl _ _ | apply handoverRefused_keeps | apply commitFails_keeps | apply onTwin_keeps | apply endPairing_keeps | apply keeps_ite) | decide | split | dsimp only

theorem etherStops_keeps {t} (k : [.clk, .wt, .rcd, .flt, .eth] ⊆ m) (g : Keeps m s t) : Keeps m s (State.etherStops t) := by
  refine keeps_step ?_ k g; unfold State.etherStops
  repeat' first | (with_reducible first | exact keeps_refl _ _ | apply opLinkDown_keeps | apply opGptpLost_keeps | apply keeps_forEach) | decide | intro _ | split | dsimp only

theorem takeOrphan_keeps {t x1} (k : [.rcd, .sw] ⊆ m) (g : Keeps m s t) : Keeps m s (State.takeOrphan t x1) := by
  refine keeps_step ?_ k g; unfold State.takeOrphan
  repeat' first | (with_reducible first | exact keeps_refl _ _ | apply onChan_keeps | apply orphanSafe_keeps | apply keeps_ite) | decide | split | dsimp only

theorem takeChan_keeps {t x1} (k : [.free, .rcd, .sw] ⊆ m) (g : Keeps m s t) : Keeps m s (State.takeChan t x1) := by
  refine keeps_step ?_ k g; unfold State.takeChan
  repeat' first | (with_reducible first | exact keeps_refl _ _ | apply onChan_keeps | apply draw_keeps | apply changeMode_keeps | apply enter_keeps | apply rephase_keeps | apply takeOrphan_keeps | apply keeps_ite | refine keeps_of_eq (by assumption) ?_) | decide | split | dsimp only

theorem takeAct_keeps {t x1} (k : [.free, .out, .rcd, .cmd, .sw, .drv, .fld, .can, .far, .twin] ⊆ m) (g : Keeps m s t) : Keeps m s (State.takeAct t x1) := by
  refine keeps_step ?_ k g; unfold State.takeAct
  repeat' first | (with_reducible first | exact keeps_refl _ _ | apply onCoil_keeps | apply fireNext_keeps | apply acOrphanRelease_keeps | apply keeps_ite) | decide | split | dsimp only

theorem takeShared_keeps {t} (k : [.free, .out, .rcd, .cmd, .sw, .drv, .fld, .can, .far, .twin] ⊆ m) (g : Keeps m s t) : Keeps m s (State.takeShared t) := by
  refine keeps_step ?_ k g; unfold State.takeShared
  repeat' first | (with_reducible first | exact keeps_refl _ _ | apply takeChan_keeps | apply takeAct_keeps | apply keeps_forEach) | decide | intro _ | split | dsimp only

theorem mirrorOwn_keeps {t} (k : [.twin] ⊆ m) (g : Keeps m s t) : Keeps m s (State.mirrorOwn t) := by
  refine keeps_step ?_ k g; unfold State.mirrorOwn
  repeat' first | (with_reducible first | exact keeps_refl _ _ | apply onTwin_keeps) | decide | split | dsimp only

theorem takeOver_keeps {t} (k : [.free, .out, .pwr, .rcd, .cmd, .sw, .drv, .fld, .can, .far, .twin, .acc] ⊆ m) (g : Keeps m s t) : Keeps m s (State.takeOver t) := by
  refine keeps_step ?_ k g; unfold State.takeOver
  repeat' first | (with_reducible first | exact keeps_refl _ _ | apply seize_keeps | apply onTwin_keeps | apply restoreGroups_keeps | apply takeShared_keeps | apply record_keeps | apply keeps_ite) | decide | split | dsimp only

theorem enterPair_keeps {t} (k : [.free, .out, .pwr, .rcd, .cmd, .sw, .drv, .fld, .can, .far, .twin, .acc] ⊆ m) (g : Keeps m s t) : Keeps m s (State.enterPair t) := by
  refine keeps_step ?_ k g; unfold State.enterPair
  repeat' first | (with_reducible first | exact keeps_refl _ _ | apply onTwin_keeps | apply roleChanged_keeps | apply dropShared_keeps | apply startPairing_keeps | apply keeps_ite) | decide | split | dsimp only

theorem handoverMark_keeps {t} (k : [.out, .rcd, .cmd, .sw, .drv, .fld, .can, .far, .twin] ⊆ m) (g : Keeps m s t) : Keeps m s (State.handoverMark t) := by
  refine keeps_step ?_ k g; unfold State.handoverMark
  repeat' first | (with_reducible first | exact keeps_refl _ _ | apply handoverRefused_keeps | apply handoverFrame_keeps | apply onTwin_keeps | apply mirrorOwn_keeps | apply keeps_ite) | decide | split | dsimp only

theorem writeTwin_keeps {t x1 x2} (k : [.twin] ⊆ m) (g : Keeps m s t) : Keeps m s (State.writeTwin t x1 x2).2 := by
  refine keeps_step ?_ k g; unfold State.writeTwin
  repeat' first | (with_reducible first | exact keeps_refl _ _ | apply onTwin_keeps) | decide | split | dsimp only

theorem leavePair_keeps {t} (k : [.free, .out, .pwr, .rcd, .cmd, .sw, .drv, .fld, .can, .far, .twin, .acc] ⊆ m) (g : Keeps m s t) : Keeps m s (State.leavePair t) := by
  refine keeps_step ?_ k g; unfold State.leavePair
  repeat' first | (with_reducible first | exact keeps_refl _ _ | apply record_keeps | apply onTwin_keeps | apply roleChanged_keeps | apply dropShared_keeps | apply keeps_ite) | decide | split | dsimp only

theorem stopAccess_keeps {t} (k : [.rcd, .can, .acc] ⊆ m) (g : Keeps m s t) : Keeps m s (State.stopAccess t) := by
  refine keeps_step ?_ k g; unfold State.stopAccess
  repeat' first | (with_reducible first | exact keeps_refl _ _ | apply onAcc_keeps | apply relStop_keeps) | decide | split | dsimp only

theorem grantToken_keeps {t x1 x2 x3} (k : [.pwr, .rcd, .acc] ⊆ m) (g : Keeps m s t) : Keeps m s (State.grantToken t x1 x2 x3) := by
  refine keeps_step ?_ k g; unfold State.grantToken
  repeat' first | (with_reducible first | exact keeps_refl _ _ | apply onAcc_keeps | apply doorEvent_keeps | apply record_keeps | apply moduleWake_keeps | apply keeps_ite) | decide | split | dsimp only

theorem coldAccess_keeps {t} (k : [.rcd, .acc] ⊆ m) (g : Keeps m s t) : Keeps m s (State.coldAccess t) := by
  refine keeps_step ?_ k g; unfold State.coldAccess
  repeat' first | (with_reducible first | exact keeps_refl _ _ | apply record_keeps | apply onAcc_keeps | apply keeps_ite) | decide | split | dsimp only

theorem resetAccess_keeps {t} (k : [.rcd, .can, .acc] ⊆ m) (g : Keeps m s t) : Keeps m s (State.resetAccess t) := by
  refine keeps_step ?_ k g; unfold State.resetAccess
  repeat' first | (with_reducible first | exact keeps_refl _ _ | apply onAcc_keeps | apply stopAccess_keeps) | decide | split | dsimp only

theorem countFailure_keeps {t x1} (k : [.rcd, .acc] ⊆ m) (g : Keeps m s t) : Keeps m s (State.countFailure t x1) := by
  refine keeps_step ?_ k g; unfold State.countFailure
  repeat' first | (with_reducible first | exact keeps_refl _ _ | apply onAcc_keeps | apply record_keeps | apply keeps_ite) | decide | split | dsimp only

theorem decideToken_keeps {t x1 x2 x3} (k : [.pwr, .rcd, .acc] ⊆ m) (g : Keeps m s t) : Keeps m s (State.decideToken t x1 x2 x3) := by
  refine keeps_step ?_ k g; unfold State.decideToken
  repeat' first | (with_reducible first | exact keeps_refl _ _ | apply record_keeps | apply onAcc_keeps | apply grantToken_keeps | apply keeps_ite) | decide | split | dsimp only

theorem pollNonce_keeps {t} (k : [.free, .acc] ⊆ m) (g : Keeps m s t) : Keeps m s (State.pollNonce t).2 := by
  refine keeps_step ?_ k g; unfold State.pollNonce
  repeat' first | (with_reducible first | exact keeps_refl _ _ | apply draw_keeps | apply onAcc_keeps | refine keeps_of_eq (by assumption) ?_) | decide | split | dsimp only

end Sys2Proof.Laws
end

