-- ==== Sys2Proof/Laws/KeepsSystem.lean ====
section
/-! SUPPORT. What each operation leaves alone: resets, the update, power, the data port and the frame mark. -/

namespace Sys2Proof.Laws

open Sys2Proof Sys2Proof.Machine

set_option linter.all false

variable {m : List Part} {s : State}

theorem evalDiss_keeps {t x1} (k : [.supply, .drv] ⊆ m) (g : Keeps m s t) : Keeps m s (State.evalDiss t x1) := by
  refine keeps_step ?_ k g; unfold State.evalDiss
  repeat' first | (with_reducible first | exact keeps_refl _ _ | apply onDrv_keeps | apply onSupply_keeps) | decide | split | dsimp only

theorem resetLinks_keeps {t x1} (k : [.links] ⊆ m) (g : Keeps m s t) : Keeps m s (State.resetLinks t x1) := by
  refine keeps_step ?_ k g; unfold State.resetLinks
  repeat' first | (with_reducible first | exact keeps_refl _ _ | apply onLinks_keeps | apply keeps_ite) | decide | split | dsimp only

theorem resetLoom_keeps {t} (k : [.out, .rcd, .cmd, .sw, .drv, .fld, .loom, .weft, .can, .far, .twin] ⊆ m) (g : Keeps m s t) : Keeps m s (State.resetLoom t) := by
  refine keeps_step ?_ k g; unfold State.resetLoom
  repeat' first | (with_reducible first | exact keeps_refl _ _ | apply onWeft_keeps | apply onLoom_keeps | apply haltWeft_keeps) | decide | split | dsimp only

theorem resetService_keeps {t} (k : [.free, .out, .rcd, .flt, .cmd, .sw, .drv, .fld, .can, .far, .twin, .acc, .id] ⊆ m) (g : Keeps m s t) : Keeps m s (State.resetService t) := by
  refine keeps_step ?_ k g; unfold State.resetService
  repeat' first | (with_reducible first | exact keeps_refl _ _ | apply onFlt_keeps | apply resetAccess_keeps | apply dropFar_keeps | apply resetCommands_keeps | apply releaseToken_keeps | apply onId_keeps) | decide | split | dsimp only

theorem resetNmChans_keeps {t} (k : [.nm] ⊆ m) (g : Keeps m s t) : Keeps m s (State.resetNmChans t) := by
  refine keeps_step ?_ k g; unfold State.resetNmChans
  repeat' first | (with_reducible first | exact keeps_refl _ _ | apply onNm_keeps) | decide | split | dsimp only

theorem resetNm_keeps {t} (k : [.nm] ⊆ m) (g : Keeps m s t) : Keeps m s (State.resetNm t) := by
  refine keeps_step ?_ k g; unfold State.resetNm
  repeat' first | (with_reducible first | exact keeps_refl _ _ | apply onNm_keeps) | decide | split | dsimp only

theorem resetNetwork_keeps {t} (k : [.out, .clk, .wt, .rcd, .flt, .cmd, .sw, .drv, .fld, .can, .nm, .eth, .far, .twin] ⊆ m) (g : Keeps m s t) : Keeps m s (State.resetNetwork t) := by
  refine keeps_step ?_ k g; unfold State.resetNetwork
  repeat' first | (with_reducible first | exact keeps_refl _ _ | apply resetFar_keeps | apply resetEth_keeps | apply resetCan_keeps | apply resetNmChans_keeps | apply resetNm_keeps | apply rebase_keeps | apply onWt_keeps) | decide | split | dsimp only

theorem resetIsland_keeps {t x1} (k : [.free, .out, .mem, .supply, .clk, .wt, .links, .pwr, .rcd, .flt, .cmd, .sw, .drv, .fld, .loom, .weft, .can, .nm, .eth, .far, .twin, .acc, .id] ⊆ m) (g : Keeps m s t) : Keeps m s (State.resetIsland t x1) := by
  refine keeps_step ?_ k g; unfold State.resetIsland
  repeat' first | (with_reducible first | exact keeps_refl _ _ | apply serviceDrain_keeps | apply wdtStart_keeps | apply onClk_keeps | apply resetLinks_keeps | apply resetLoom_keeps | apply resetService_keeps | apply resetNetwork_keeps | apply opSwitchReset_keeps | apply opDriveReset_keeps | apply radioEval_keeps | apply radioStop_keeps | apply resetTwin_keeps | apply keeps_ite) | decide | split | dsimp only

theorem rootLink_keeps {t x1} (k : [.free] ⊆ m) (g : Keeps m s t) : Keeps m s (State.rootLink t x1).2 := by
  refine keeps_step ?_ k g; unfold State.rootLink
  repeat' first | (with_reducible first | exact keeps_refl _ _ | apply draw_keeps | apply keeps_ite | apply keeps_ite_pair | refine keeps_of_eq (by assumption) ?_) | decide | split | dsimp only

theorem faultSeq_keeps {t x1} (k : [.free, .rcd, .flt] ⊆ m) (g : Keeps m s t) : Keeps m s (State.faultSeq t x1).2 := by
  refine keeps_step ?_ k g; unfold State.faultSeq
  repeat' first | (with_reducible first | exact keeps_refl _ _ | apply onFlt_keeps | apply rootLink_keeps | apply fault_keeps | apply keeps_ite | apply keeps_ite_pair | refine keeps_of_eq (by assumption) ?_) | decide | split | dsimp only

theorem holdReset_keeps {t x1} (k : [.free, .out, .mem, .supply, .clk, .wt, .links, .pwr, .rcd, .flt, .cmd, .sw, .drv, .fld, .loom, .weft, .can, .nm, .eth, .far, .twin, .acc, .id] ⊆ m) (g : Keeps m s t) : Keeps m s (State.holdReset t x1) := by
  refine keeps_step ?_ k g; unfold State.holdReset
  repeat' first | (with_reducible first | exact keeps_refl _ _ | apply onFlt_keeps | apply closeGate_keeps | apply releaseToken_keeps | apply resetIsland_keeps | apply recordSev_keeps | apply keeps_forEach | apply enterFault_keeps | apply keeps_ite) | decide | intro _ | split | dsimp only

theorem badFaultWord_keeps {t x1} (k : [.free, .rcd, .flt] ⊆ m) (g : Keeps m s t) : Keeps m s (State.badFaultWord t x1) := by
  refine keeps_step ?_ k g; unfold State.badFaultWord
  repeat' first | (with_reducible first | exact keeps_refl _ _ | apply rootLink_keeps | apply onFlt_keeps | apply fault_keeps | apply keeps_ite | refine keeps_of_eq (by assumption) ?_) | decide | split | dsimp only

theorem keyDone_keeps {t x1 x2 x3 x4 x5} (k : [.out, .rcd, .cmd, .sw, .drv, .fld, .can, .far, .twin, .id] ⊆ m) (g : Keeps m s t) : Keeps m s (State.keyDone t x1 x2 x3 x4 x5) := by
  refine keeps_step ?_ k g; unfold State.keyDone
  repeat' first | (with_reducible first | exact keeps_refl _ _ | apply record_keeps | apply onId_keeps | apply complete_keeps) | decide | split | dsimp only

theorem updateReply_keeps {t x1 x2 x3 x4} (k : [.free, .out, .rcd, .cmd, .sw, .drv, .fld, .can, .far, .twin] ⊆ m) (g : Keeps m s t) : Keeps m s (State.updateReply t x1 x2 x3 x4) := by
  refine keeps_step ?_ k g; unfold State.updateReply
  repeat' first | (with_reducible first | exact keeps_refl _ _ | apply complete_keeps | apply drawBytes_keeps | refine keeps_of_eq (by assumption) ?_) | decide | split | dsimp only

theorem updateArm_keeps {t c x} {f : State → State} (k : [.free, .out, .rcd, .cmd, .sw, .drv, .fld, .can, .far, .twin] ⊆ m) (h : ∀ t, Keeps m t (f t))
    (g : Keeps m s t) : Keeps m s (t.updateArm c x f) := by
  have hu : ∀ {a b d}, Keeps m s (t.updateReply c a b d) := fun {a b d} => updateReply_keeps k g
  unfold State.updateArm
  split
  · exact hu
  · split
    · exact hu
    · split
      · exact keeps_trans hu (h _)
      · exact hu

theorem installOwner_keeps {t x1} (k : [.rcd, .id] ⊆ m) (g : Keeps m s t) : Keeps m s (State.installOwner t x1) := by
  refine keeps_step ?_ k g; unfold State.installOwner
  repeat' first | (with_reducible first | exact keeps_refl _ _ | apply record_keeps | apply onId_keeps | apply keeps_ite) | decide | split | dsimp only

theorem claimPending_keeps {t} (k : [.rcd, .id] ⊆ m) (g : Keeps m s t) : Keeps m s (State.claimPending t) := by
  refine keeps_step ?_ k g; unfold State.claimPending
  repeat' first | (with_reducible first | exact keeps_refl _ _ | apply installOwner_keeps | apply onId_keeps) | decide | split | dsimp only

theorem bootFails_keeps {t x1 x2} (k : [.rcd, .flt, .id] ⊆ m) (g : Keeps m s t) : Keeps m s (State.bootFails t x1 x2) := by
  refine keeps_step ?_ k g; unfold State.bootFails
  repeat' first | (with_reducible first | exact keeps_refl _ _ | apply onId_keeps | apply fault_keeps | apply keeps_ite) | decide | split | dsimp only

theorem enterWait_keeps {t} (k : [.rcd, .flt, .id] ⊆ m) (g : Keeps m s t) : Keeps m s (State.enterWait t) := by
  refine keeps_step ?_ k g; unfold State.enterWait
  repeat' first | (with_reducible first | exact keeps_refl _ _ | apply onId_keeps | apply fault_keeps | apply keeps_ite) | decide | split | dsimp only

theorem resume_keeps {t x1 x2} (k : [.rcd, .flt, .id] ⊆ m) (g : Keeps m s t) : Keeps m s (State.resume t x1 x2) := by
  refine keeps_step ?_ k g; unfold State.resume
  repeat' first | (with_reducible first | exact keeps_refl _ _ | apply enterWait_keeps | apply record_keeps | apply onId_keeps | apply keeps_ite) | decide | split | dsimp only

theorem loaderRuns_keeps {t} (k : [.out, .links, .pwr, .rcd, .cmd, .sw, .drv, .fld, .loom, .weft, .can, .far, .twin, .id] ⊆ m) (g : Keeps m s t) : Keeps m s (State.loaderRuns t) := by
  refine keeps_step ?_ k g; unfold State.loaderRuns
  repeat' first | (with_reducible first | exact keeps_refl _ _ | apply resetLoom_keeps | apply resetLinks_keeps | apply onId_keeps | apply onPwr_keeps) | decide | split | dsimp only

theorem serve_keeps {t} (k : [.out, .pwr, .rcd, .flt, .cmd, .sw, .drv, .fld, .can, .nm, .far, .twin] ⊆ m) (g : Keeps m s t) : Keeps m s (State.serve t) := by
  refine keeps_step ?_ k g; unfold State.serve
  repeat' first | (with_reducible first | exact keeps_refl _ _ | apply onPwr_keeps | apply wdtStart_keeps | apply canGroups_keeps | apply opPermitRenewal_keeps | apply onCmd_keeps | apply record_keeps | apply nmEnter_keeps | apply keeps_dite | apply keeps_dite_pair | apply keeps_ite) | decide | intro _ | split | dsimp only

theorem bootNext_keeps {t} (k : [.id] ⊆ m) (g : Keeps m s t) : Keeps m s (State.bootNext t) := by
  refine keeps_step ?_ k g; unfold State.bootNext
  repeat' first | (with_reducible first | exact keeps_refl _ _ | apply onId_keeps) | decide | split | dsimp only

theorem updateEnd_keeps {t x1 x2 x3} (k : [.rcd, .flt, .id] ⊆ m) (g : Keeps m s t) : Keeps m s (State.updateEnd t x1 x2 x3) := by
  refine keeps_step ?_ k g; unfold State.updateEnd
  repeat' first | (with_reducible first | exact keeps_refl _ _ | apply onId_keeps | apply enterWait_keeps | apply record_keeps | apply bootNext_keeps | apply keeps_ite) | decide | split | dsimp only

theorem sessionRefused_keeps {t x1 x2 x3 x4} (k : [.out, .rcd, .cmd, .sw, .drv, .fld, .can, .far, .twin] ⊆ m) (g : Keeps m s t) : Keeps m s (State.sessionRefused t x1 x2 x3 x4) := by
  refine keeps_step ?_ k g; unfold State.sessionRefused
  repeat' first | (with_reducible first | exact keeps_refl _ _ | apply complete_keeps | apply record_keeps) | decide | split | dsimp only

theorem powerWatch_keeps {t} (k : [.pwr] ⊆ m) (g : Keeps m s t) : Keeps m s (State.powerWatch t) := by
  refine keeps_step ?_ k g; unfold State.powerWatch
  repeat' first | (with_reducible first | exact keeps_refl _ _ | apply onPwr_keeps | apply keeps_ite) | decide | split | dsimp only

theorem recordFirst_keeps {t x1 x2 x3} (k : [.rcd] ⊆ m) (g : Keeps m s t) : Keeps m s (State.recordFirst t x1 x2 x3) := by
  refine keeps_step ?_ k g; unfold State.recordFirst
  repeat' first | (with_reducible first | exact keeps_refl _ _ | apply onRcd_keeps | apply keeps_ite) | decide | split | dsimp only

theorem commitBuffered_keeps {x0 t} (k : [.out, .supply, .rcd, .flt, .cmd, .sw, .drv, .fld, .can, .far, .twin] ⊆ m) (g : Keeps m s t) : Keeps m s (State.commitBuffered x0 t) := by
  induction x0 generalizing t with
  | zero =>
    unfold State.commitBuffered
    repeat' first | exact k | (with_reducible first | assumption | apply opRecordWrite_keeps | apply opTailSectorErase_keeps | apply keeps_ite) | exact List.Subset.trans (by decide) k | split | dsimp only
  | succ n ih =>
    unfold State.commitBuffered
    repeat' first | exact k | (with_reducible first | assumption | apply ih | apply opRecordWrite_keeps | apply opTailSectorErase_keeps | apply keeps_ite) | exact List.Subset.trans (by decide) k | split | dsimp only

theorem saveCounts_keeps {t} (k : [.sw] ⊆ m) (g : Keeps m s t) : Keeps m s (State.saveCounts t) := by
  refine keeps_step ?_ k g; unfold State.saveCounts
  repeat' first | (with_reducible first | exact keeps_refl _ _ | apply onSw_keeps) | decide | split | dsimp only

theorem warpResume_keeps {t} (k : [.wt] ⊆ m) (g : Keeps m s t) : Keeps m s (State.warpResume t) := by
  refine keeps_step ?_ k g; unfold State.warpResume
  repeat' first | (with_reducible first | exact keeps_refl _ _ | apply onWt_keeps) | decide | split | dsimp only

theorem wakeHeld_keeps {t} (k : [.rcd, .sw] ⊆ m) (g : Keeps m s t) : Keeps m s (State.wakeHeld t) := by
  refine keeps_step ?_ k g; unfold State.wakeHeld
  repeat' first | (with_reducible first | exact keeps_refl _ _ | apply offAnew_keeps | apply record_keeps | apply onChan_keeps | apply orphanSafe_keeps | apply keeps_forEach | apply keeps_ite) | decide | intro _ | split | dsimp only

theorem wakeUp_keeps {t x1 x2} (k : [.out, .clk, .wt, .pwr, .rcd, .flt, .sw, .drv, .fld, .weft, .can, .nm, .eth, .acc, .id] ⊆ m) (g : Keeps m s t) : Keeps m s (State.wakeUp t x1 x2) := by
  refine keeps_step ?_ k g; unfold State.wakeUp
  repeat' first | (with_reducible first | exact keeps_refl _ _ | apply onPwr_keeps | apply wdtStart_keeps | apply onClk_keeps | apply record_keeps | apply onWeft_keeps | apply rebase_keeps | apply warpResume_keeps | apply fault_keeps | apply railUpdate_keeps | apply onDrv_keeps | apply fieldBegin_keeps | apply onId_keeps | apply nmEnter_keeps | apply wakeHeld_keeps | apply portWakes_keeps | apply doorEvent_keeps | apply radioEval_keeps | apply onAcc_keeps | apply keeps_forEach | apply keeps_dite | apply keeps_dite_pair | apply keeps_ite) | decide | intro _ | split | dsimp only

theorem writeSupply_keeps {t x1 x2} (k : [.supply] ⊆ m) (g : Keeps m s t) : Keeps m s (State.writeSupply t x1 x2).2 := by
  refine keeps_step ?_ k g; unfold State.writeSupply
  repeat' first | (with_reducible first | exact keeps_refl _ _ | apply onSupply_keeps | apply keeps_ite | apply keeps_ite_pair) | decide | split | dsimp only

theorem unpower_keeps {t x1 x2} (k : [.free, .out, .mem, .supply, .clk, .wt, .links, .pwr, .rcd, .flt, .cmd, .sw, .drv, .fld, .loom, .weft, .can, .nm, .eth, .far, .twin, .acc, .id] ⊆ m) (g : Keeps m s t) : Keeps m s (State.unpower t x1 x2) := by
  refine keeps_step ?_ k g; unfold State.unpower
  repeat' first | (with_reducible first | exact keeps_refl _ _ | apply clearMem_keeps | apply stopAccess_keeps | apply dropFar_keeps | apply resetCommands_keeps | apply releaseToken_keeps | apply resetLoom_keeps | apply resetNm_keeps | apply resetFar_keeps | apply resetEth_keeps | apply resetCan_keeps | apply switchClear_keeps | apply driveClear_keeps | apply onSupply_keeps | apply fieldStop_keeps | apply resetTwin_keeps | apply onLinks_keeps | apply onPwr_keeps | apply onId_keeps | apply keeps_ite) | decide | split | dsimp only

theorem sleepChan_keeps {t x1} (k : [.sw] ⊆ m) (g : Keeps m s t) : Keeps m s (State.sleepChan t x1) := by
  refine keeps_step ?_ k g; unfold State.sleepChan
  repeat' first | (with_reducible first | exact keeps_refl _ _ | apply onChan_keeps | apply changeMode_keeps | apply keeps_ite | refine keeps_of_eq (by assumption) ?_) | decide | split | dsimp only

theorem barrierRest_keeps {t} (k : [.fld] ⊆ m) (g : Keeps m s t) : Keeps m s (State.barrierRest t) := by
  refine keeps_step ?_ k g; unfold State.barrierRest
  repeat' first | (with_reducible first | exact keeps_refl _ _ | apply onFld_keeps) | decide | split | dsimp only

theorem sleepEnd_keeps {t} (k : [.free, .out, .mem, .supply, .clk, .wt, .links, .pwr, .rcd, .flt, .cmd, .sw, .drv, .fld, .loom, .weft, .can, .nm, .eth, .far, .twin, .acc, .id] ⊆ m) (g : Keeps m s t) : Keeps m s (State.sleepEnd t) := by
  refine keeps_step ?_ k g; unfold State.sleepEnd
  repeat' first | (with_reducible first | exact keeps_refl _ _ | apply onWt_keeps | apply barrierRest_keeps | apply unpower_keeps | apply onEth_keeps | apply radioEval_keeps | apply onPwr_keeps | apply keeps_ite) | decide | split | dsimp only

theorem sleepReached_keeps {t} (k : [.free, .out, .mem, .supply, .clk, .wt, .links, .pwr, .rcd, .flt, .cmd, .sw, .drv, .fld, .loom, .weft, .can, .nm, .eth, .far, .twin, .acc, .id] ⊆ m) (g : Keeps m s t) : Keeps m s (State.sleepReached t) := by
  refine keeps_step ?_ k g; unfold State.sleepReached
  repeat' first | (with_reducible first | exact keeps_refl _ _ | apply sleepEnd_keeps | apply wakeUp_keeps) | decide | split | dsimp only

theorem sessionLocks_keeps {t} (k : [.far] ⊆ m) (g : Keeps m s t) : Keeps m s (State.sessionLocks t) := by
  refine keeps_step ?_ k g; unfold State.sessionLocks
  repeat' first | (with_reducible first | exact keeps_refl _ _ | apply onFarPort_keeps | apply keeps_forEach) | decide | intro _ | split | dsimp only

theorem sleepBegin_keeps {t x1} (k : [.free, .out, .pwr, .rcd, .cmd, .sw, .drv, .fld, .loom, .weft, .can, .nm, .eth, .far, .twin] ⊆ m) (g : Keeps m s t) : Keeps m s (State.sleepBegin t x1) := by
  refine keeps_step ?_ k g; unfold State.sleepBegin
  repeat' first | (with_reducible first | exact keeps_refl _ _ | apply haltWeft_keeps | apply resetCommands_keeps | apply sessionLocks_keeps | apply onNm_keeps | apply nmEnter_keeps | apply send_keeps | apply onPort_keeps | apply sleepChan_keeps | apply acRelease_keeps | apply fieldStop_keeps | apply onPwr_keeps | apply record_keeps | apply keeps_forEach | apply keeps_ite) | decide | intro _ | split | dsimp only

theorem streamDrop_keeps {t x1 x2} (k : [.cmd, .can, .far] ⊆ m) (g : Keeps m s t) : Keeps m s (State.streamDrop t x1 x2) := by
  refine keeps_step ?_ k g; unfold State.streamDrop
  repeat' first | (with_reducible first | exact keeps_refl _ _ | apply onSource_keeps | apply dropItems_keeps | apply onFarPort_keeps) | decide | split | dsimp only

theorem setWindow_keeps {t x1 x2 x3} (k : [.cmd] ⊆ m) (g : Keeps m s t) : Keeps m s (State.setWindow t x1 x2 x3) := by
  refine keeps_step ?_ k g; unfold State.setWindow
  repeat' first | (with_reducible first | exact keeps_refl _ _ | apply onSource_keeps | apply keeps_dite | apply keeps_dite_pair) | decide | intro _ | split | dsimp only

theorem advance_keeps {t x1 x2 x3 x4 x5} (k : [.cmd] ⊆ m) (g : Keeps m s t) : Keeps m s (State.advance t x1 x2 x3 x4 x5) := by
  refine keeps_step ?_ k g; unfold State.advance
  repeat' first | (with_reducible first | exact keeps_refl _ _ | apply setWindow_keeps | apply keeps_ite) | decide | split | dsimp only

theorem seek_keeps {t x1 x2 x3 x4} (k : [.cmd] ⊆ m) (g : Keeps m s t) : Keeps m s (State.seek t x1 x2 x3 x4) := by
  refine keeps_step ?_ k g; unfold State.seek
  repeat' first | (with_reducible first | exact keeps_refl _ _ | apply advance_keeps) | decide | split | dsimp only

theorem writeReg_keeps {t x1 x2} (k : [.free, .out, .supply, .clk, .ccfg, .rcd, .flt, .cmd, .sw, .drv, .fld, .can, .nm, .eth, .far, .twin] ⊆ m) (g : Keeps m s t) : Keeps m s (State.writeReg t x1 x2).2 := by
  refine keeps_step ?_ k g; unfold State.writeReg
  repeat' first | (with_reducible first | exact keeps_refl _ _ | apply writeChan_keeps | apply writeSwitch_keeps | apply writeAct_keeps | apply writeDrive_keeps | apply writeField_keeps | apply writeCanCh_keeps | apply writeNm_keeps | apply writeFar_keeps | apply writeTwin_keeps | apply writeSupply_keeps | apply writeClock_keeps | apply writeFaults_keeps | apply writeCmd_keeps | apply keeps_dite | apply keeps_dite_pair | apply keeps_ite | apply keeps_ite_pair | refine keeps_of_eq (by assumption) ?_) | decide | intro _ | split | dsimp only

theorem writeRegs_keeps {x0 x1 x2 t} (k : [.free, .out, .supply, .clk, .ccfg, .rcd, .flt, .cmd, .sw, .drv, .fld, .can, .nm, .eth, .far, .twin] ⊆ m) (g : Keeps m s t) : Keeps m s (State.writeRegs x0 x1 x2 t).2.2 := by
  induction x2 generalizing x0 x1 t with
  | zero =>
    unfold State.writeRegs
    repeat' first | exact k | (with_reducible first | assumption | apply writeReg_keeps | refine keeps_of_eq (by assumption) ?_ | refine keeps_of_eq2 (by assumption) ?_) | exact List.Subset.trans (by decide) k | split | dsimp only
  | succ n ih =>
    unfold State.writeRegs
    repeat' first | exact k | (with_reducible first | assumption | apply ih | apply writeReg_keeps | refine keeps_of_eq (by assumption) ?_ | refine keeps_of_eq2 (by assumption) ?_) | exact List.Subset.trans (by decide) k | split | dsimp only

theorem storeMem_keeps {t x1 x2 x3} (k : [.out, .mem, .rcd, .cmd, .sw, .drv, .fld, .weft, .can, .far, .twin] ⊆ m) (g : Keeps m s t) : Keeps m s (State.storeMem t x1 x2 x3) := by
  refine keeps_step ?_ k g; unfold State.storeMem
  repeat' first | (with_reducible first | exact keeps_refl _ _ | apply touchWeft_keeps | apply onCmd_keeps | apply writeMem_keeps | apply keeps_forEach | refine keeps_of_eq (by assumption) ?_) | decide | intro _ | split | dsimp only

theorem readReg_keeps {t x1} (k : [.wt] ⊆ m) (g : Keeps m s t) : Keeps m s (State.readReg t x1).2 := by
  refine keeps_step ?_ k g; unfold State.readReg
  repeat' first | (with_reducible first | exact keeps_refl _ _ | apply readClock_keeps | apply keeps_dite | apply keeps_dite_pair | apply keeps_ite | apply keeps_ite_pair | refine keeps_of_eq (by assumption) ?_) | decide | intro _ | split | dsimp only

theorem readRegs_keeps {x0 x1 t} (k : [.wt] ⊆ m) (g : Keeps m s t) : Keeps m s (State.readRegs x0 x1 t).2 := by
  induction x1 generalizing x0 t with
  | zero =>
    unfold State.readRegs
    repeat' first | exact k | (with_reducible first | assumption | apply readReg_keeps | refine keeps_of_eq (by assumption) ?_) | exact List.Subset.trans (by decide) k | split | dsimp only
  | succ n ih =>
    unfold State.readRegs
    repeat' first | exact k | (with_reducible first | assumption | apply ih | apply readReg_keeps | refine keeps_of_eq (by assumption) ?_) | exact List.Subset.trans (by decide) k | split | dsimp only

theorem readBurst_keeps {t x1 x2 x3} (k : [.out, .wt, .links, .rcd, .flt, .cmd, .sw, .drv, .fld, .can, .far, .twin] ⊆ m) (g : Keeps m s t) : Keeps m s (State.readBurst t x1 x2 x3).2 := by
  refine keeps_step ?_ k g; unfold State.readBurst
  repeat' first | (with_reducible first | exact keeps_refl _ _ | apply readRegs_keeps | apply access_keeps | apply keeps_ite | apply keeps_ite_pair | refine keeps_of_eq (by assumption) ?_) | decide | split | dsimp only

theorem elapse_keeps {t x1} (k : [.now, .wt] ⊆ m) (g : Keeps m s t) : Keeps m s (State.elapse t x1) := by
  refine keeps_step ?_ k g; unfold State.elapse
  repeat' first | (with_reducible first | exact keeps_refl _ _ | apply onWt_keeps | apply keeps_ite) | decide | split | dsimp only | (refine ⟨⟨fun p h => ?_⟩, id, Nat.le_add_right _ _, Nat.le_refl _⟩; cases p <;> first | rfl | exact absurd (by decide) h)

theorem correctWarp_keeps {t x1} (k : [.clk, .rcd, .flt] ⊆ m) (g : Keeps m s t) : Keeps m s (State.correctWarp t x1) := by
  refine keeps_step ?_ k g; unfold State.correctWarp
  repeat' first | (with_reducible first | exact keeps_refl _ _ | apply fault_keeps | apply onClk_keeps | apply keeps_forEach) | decide | intro _ | split | dsimp only

theorem adoptObject_keeps {t x1} (k : [.rcd, .sw, .drv] ⊆ m) (g : Keeps m s t) : Keeps m s (State.adoptObject t x1).2 := by
  refine keeps_step ?_ k g; unfold State.adoptObject
  repeat' first | (with_reducible first | exact keeps_refl _ _ | apply adoptChan_keeps | apply adoptAct_keeps | refine keeps_of_eq (by assumption) ?_) | decide | split | dsimp only

theorem adoptAll_keeps {x0 t} (k : [.rcd, .sw, .drv] ⊆ m) (g : Keeps m s t) : Keeps m s (State.adoptAll x0 t).2 := by
  induction x0 generalizing t with
  | nil =>
    unfold State.adoptAll
    repeat' first | exact k | (with_reducible first | assumption | apply adoptObject_keeps | refine keeps_of_eq (by assumption) ?_) | exact List.Subset.trans (by decide) k | split | dsimp only
  | cons y n ih =>
    unfold State.adoptAll
    repeat' first | exact k | (with_reducible first | assumption | apply ih | apply adoptObject_keeps | refine keeps_of_eq (by assumption) ?_) | exact List.Subset.trans (by decide) k | split | dsimp only

theorem adoptMark_keeps {t} (k : [.out, .rcd, .cmd, .sw, .drv, .fld, .can, .far, .twin] ⊆ m) (g : Keeps m s t) : Keeps m s (State.adoptMark t) := by
  refine keeps_step ?_ k g; unfold State.adoptMark
  repeat' first | (with_reducible first | exact keeps_refl _ _ | apply onSw_keeps | apply adoptAll_keeps | apply completeId_keeps | apply keeps_forEach | apply keeps_ite | refine keeps_of_eq (by assumption) ?_) | decide | intro _ | split | dsimp only

theorem overdue_keeps {t} (k : [.free, .out, .rcd, .flt, .cmd, .sw, .drv, .fld, .can, .far, .twin] ⊆ m) (g : Keeps m s t) : Keeps m s (State.overdue t) := by
  refine keeps_step ?_ k g; unfold State.overdue
  repeat' first | (with_reducible first | exact keeps_refl _ _ | apply switchDue_keeps | apply driveDue_keeps | apply opOrphanSafe_keeps | apply opActuatorOrphanSafe_keeps | apply keeps_forEach) | decide | intro _ | split | dsimp only

theorem dropReports_keeps {t} (k : [.rcd, .flt, .can, .eth] ⊆ m) (g : Keeps m s t) : Keeps m s (State.dropReports t) := by
  refine keeps_step ?_ k g; unfold State.dropReports
  repeat' first | (with_reducible first | exact keeps_refl _ _ | apply reportDropped_keeps | apply reportTunDrops_keeps | apply reportDrops_keeps | apply keeps_forEach) | decide | intro _ | split | dsimp only

theorem serviceHeartbeat_keeps {t} (k : [.links] ⊆ m) (g : Keeps m s t) : Keeps m s (State.serviceHeartbeat t) := by
  refine keeps_step ?_ k g; unfold State.serviceHeartbeat
  repeat' first | (with_reducible first | exact keeps_refl _ _ | apply sendWord_keeps | apply keeps_ite) | decide | split | dsimp only

theorem markWork_keeps {t x1 x2 x3 x4} (k : [.free, .out, .clk, .links, .pwr, .rcd, .flt, .cmd, .sw, .drv, .fld, .loom, .weft, .can, .nm, .eth, .far, .twin, .acc] ⊆ m) (g : Keeps m s t) : Keeps m s (State.markWork t x1 x2 x3 x4) := by
  refine keeps_step ?_ k g; unfold State.markWork
  repeat' first | (with_reducible first | exact keeps_refl _ _ | apply frameDeviation_keeps | apply correctWarp_keeps | apply onFlt_keeps | apply adoptMark_keeps | apply overdue_keeps | apply serviceDue_keeps | apply driveCommit_keeps | apply switchCommit_keeps | apply driveHostMark_keeps | apply hostMark_keeps | apply pgMark_keeps | apply onSw_keeps | apply dropReports_keeps | apply nmEval_keeps | apply relMark_keeps | apply twinHeartbeat_keeps | apply serviceHeartbeat_keeps | apply drainEth_keeps | apply powerWatch_keeps | apply lockstep_keeps | apply handoverMark_keeps | apply weftMark_keeps | apply keeps_ite) | decide | split | dsimp only

theorem idleStep_keeps {t} (k : [.now, .free, .out, .clk, .wt, .links, .pwr, .rcd, .flt, .cmd, .sw, .drv, .fld, .loom, .weft, .can, .nm, .eth, .far, .twin, .acc] ⊆ m) (g : Keeps m s t) : Keeps m s (State.idleStep t) := by
  refine keeps_step ?_ k g; unfold State.idleStep
  repeat' first | (with_reducible first | exact keeps_refl _ _ | apply elapse_keeps | apply markWork_keeps | apply onWt_keeps | apply powerWatch_keeps | apply drainEth_keeps | apply keeps_ite) | decide | split | dsimp only

end Sys2Proof.Laws
end

