-- ==== Sys2Proof/Laws/Table.lean ====
section
/-! SUPPORT. Laws of the fixed-length table: what an entry reads after an update. -/

namespace Sys2Proof

variable {α : Type} {n : Nat}

@[simp] theorem Tab.get_fill (i : Fin n) (x : α) : Tab.get (Tab.fill n x) i = x := by
  simp [Tab.get, Tab.fill]

@[simp] theorem Tab.get_put_self (t : Tab α n) (i : Fin n) (x : α) : Tab.get (Tab.put t i x) i = x := by
  simp [Tab.get, Tab.put]

theorem Tab.get_put_ne (t : Tab α n) {i j : Fin n} (x : α) (h : j ≠ i) : Tab.get (Tab.put t i x) j = Tab.get t j := by
  have : i.1 ≠ j.1 := fun e => h (Fin.ext e.symm)
  simp [Tab.get, Tab.put, this]

theorem Tab.get_put (t : Tab α n) (i j : Fin n) (x : α) : Tab.get (Tab.put t i x) j = if j = i then x else Tab.get t j := by
  split
  · rename_i h; subst h; exact Tab.get_put_self t j x
  · rename_i h; exact Tab.get_put_ne t x h

@[simp] theorem Tab.get_upd_self (t : Tab α n) (i : Fin n) (f : α → α) : Tab.get (Tab.upd t i f) i = f (Tab.get t i) := by
  simp [Tab.upd]

theorem Tab.get_upd_ne (t : Tab α n) {i j : Fin n} (f : α → α) (h : j ≠ i) : Tab.get (Tab.upd t i f) j = Tab.get t j :=
  Tab.get_put_ne t _ h

theorem Tab.get_foldl_upd (l : List (Fin n)) (hl : l.Nodup) (t : Tab α n) (f : Fin n → α → α) (j : Fin n) :
    Tab.get (l.foldl (fun acc i => acc.upd i (f i)) t) j = if j ∈ l then f j (Tab.get t j) else Tab.get t j := by
  induction l generalizing t with
  | nil => simp
  | cons i l ih =>
    have h := List.nodup_cons.mp hl
    rw [List.foldl_cons, ih h.2]
    by_cases hj : j = i
    · subst hj
      simp [h.1]
    · simp [hj, Tab.get_upd_ne t (f i) hj]

/-- Every entry of a table mapped reads as its image. -/
@[simp] theorem Tab.get_mapIdx (t : Tab α n) (f : Fin n → α → α) (j : Fin n) : Tab.get (Tab.mapIdx t f) j = f j (Tab.get t j) := by
  unfold Tab.mapIdx
  rw [Tab.get_foldl_upd _ (List.nodup_finRange n)]
  simp

end Sys2Proof
end

