-- ==== Sys2Proof/Laws/Objects.lean ====
section
/-! SUPPORT. Updates of one channel, coil, port, link, group or task, read at that object and at another. -/

namespace Sys2Proof.Laws

open Sys2Proof Sys2Proof.Machine

variable (s : State)

@[simp] theorem chan_onChan (c : ChNo) (f : Chan → Chan) : (s.onChan c f).chan c = f (s.chan c) := by
  simp [State.chan, State.onChan, State.onSw]

theorem chan_onChan_ne {c d : ChNo} (f : Chan → Chan) (h : d ≠ c) : (s.onChan c f).chan d = s.chan d :=
  Tab.get_upd_ne _ f h

@[simp] theorem coil_onCoil (c : AcNo) (f : Coil → Coil) : (s.onCoil c f).coil c = f (s.coil c) := by
  simp [State.coil, State.onCoil, State.onDrv]

theorem coil_onCoil_ne {c d : AcNo} (f : Coil → Coil) (h : d ≠ c) : (s.onCoil c f).coil d = s.coil d :=
  Tab.get_upd_ne _ f h

@[simp] theorem canCh_onCanCh (c : CanNo) (f : CanCh → CanCh) : (s.onCanCh c f).canCh c = f (s.canCh c) := by
  simp [State.canCh, State.onCanCh, State.onCan]

theorem canCh_onCanCh_ne {c d : CanNo} (f : CanCh → CanCh) (h : d ≠ c) : (s.onCanCh c f).canCh d = s.canCh d :=
  Tab.get_upd_ne _ f h

@[simp] theorem nmCh_onNmCh (c : CanNo) (f : NmCh → NmCh) : (s.onNmCh c f).nmCh c = f (s.nmCh c) := by
  simp [State.nmCh, State.onNmCh, State.onNm]

theorem nmCh_onNmCh_ne {c d : CanNo} (f : NmCh → NmCh) (h : d ≠ c) : (s.onNmCh c f).nmCh d = s.nmCh d :=
  Tab.get_upd_ne _ f h

@[simp] theorem port_onPort (c : PortNo) (f : EthPort → EthPort) : (s.onPort c f).port c = f (s.port c) := by
  simp [State.port, State.onPort, State.onEth]

theorem port_onPort_ne {c d : PortNo} (f : EthPort → EthPort) (h : d ≠ c) : (s.onPort c f).port d = s.port d :=
  Tab.get_upd_ne _ f h

@[simp] theorem farPort_onFarPort (c : FarNo) (f : FarPort → FarPort) : (s.onFarPort c f).farPort c = f (s.farPort c) := by
  simp [State.farPort, State.onFarPort, State.onFar]

theorem farPort_onFarPort_ne {c d : FarNo} (f : FarPort → FarPort) (h : d ≠ c) : (s.onFarPort c f).farPort d = s.farPort d :=
  Tab.get_upd_ne _ f h

@[simp] theorem link_onLink (c : LinkNo) (f : Link → Link) : (s.onLink c f).link c = f (s.link c) := by
  simp [State.link, State.onLink, State.onLinks]

theorem link_onLink_ne {c d : LinkNo} (f : Link → Link) (h : d ≠ c) : (s.onLink c f).link d = s.link d :=
  Tab.get_upd_ne _ f h

@[simp] theorem group_onGroup (c : Grp) (f : Group → Group) : (s.onGroup c f).group c = f (s.group c) := by
  simp [State.group, State.onGroup, State.onCmd]

theorem group_onGroup_ne {c d : Grp} (f : Group → Group) (h : d ≠ c) : (s.onGroup c f).group d = s.group d :=
  Tab.get_upd_ne _ f h

@[simp] theorem task_onTask (c : Fin 64) (f : TaskRun → TaskRun) : (s.onTask c f).task c = f (s.task c) := by
  simp [State.task, State.onTask, State.onWeft]

theorem task_onTask_ne {c d : Fin 64} (f : TaskRun → TaskRun) (h : d ≠ c) : (s.onTask c f).task d = s.task d :=
  Tab.get_upd_ne _ f h

end Sys2Proof.Laws
end

