-- ==== Sys2Proof/Laws/State.lean ====
section
/-! SUPPORT. Each update of one part of the state, read at each part: no later proof unfolds a record update. -/

namespace Sys2Proof.Machine

open Sys2Proof

/-! ## onSupply -/

section
variable (s : State) (f : Supply → Supply)

@[simp] theorem onSupply_now : (s.onSupply f).now = s.now := rfl
@[simp] theorem onSupply_free : (s.onSupply f).free = s.free := rfl
@[simp] theorem onSupply_out : (s.onSupply f).out = s.out := rfl
@[simp] theorem onSupply_mem : (s.onSupply f).mem = s.mem := rfl
@[simp] theorem onSupply_supply : (s.onSupply f).supply = f s.supply := rfl
@[simp] theorem onSupply_clk : (s.onSupply f).clk = s.clk := rfl
@[simp] theorem onSupply_ccfg : (s.onSupply f).ccfg = s.ccfg := rfl
@[simp] theorem onSupply_wt : (s.onSupply f).wt = s.wt := rfl
@[simp] theorem onSupply_links : (s.onSupply f).links = s.links := rfl
@[simp] theorem onSupply_pwr : (s.onSupply f).pwr = s.pwr := rfl
@[simp] theorem onSupply_rcd : (s.onSupply f).rcd = s.rcd := rfl
@[simp] theorem onSupply_flt : (s.onSupply f).flt = s.flt := rfl
@[simp] theorem onSupply_cmd : (s.onSupply f).cmd = s.cmd := rfl
@[simp] theorem onSupply_sw : (s.onSupply f).sw = s.sw := rfl
@[simp] theorem onSupply_drv : (s.onSupply f).drv = s.drv := rfl
@[simp] theorem onSupply_fld : (s.onSupply f).fld = s.fld := rfl
@[simp] theorem onSupply_loom : (s.onSupply f).loom = s.loom := rfl
@[simp] theorem onSupply_weft : (s.onSupply f).weft = s.weft := rfl
@[simp] theorem onSupply_can : (s.onSupply f).can = s.can := rfl
@[simp] theorem onSupply_nm : (s.onSupply f).nm = s.nm := rfl
@[simp] theorem onSupply_eth : (s.onSupply f).eth = s.eth := rfl
@[simp] theorem onSupply_far : (s.onSupply f).far = s.far := rfl
@[simp] theorem onSupply_twin : (s.onSupply f).twin = s.twin := rfl
@[simp] theorem onSupply_acc : (s.onSupply f).acc = s.acc := rfl
@[simp] theorem onSupply_id : (s.onSupply f).id = s.id := rfl
@[simp] theorem onSupply_pending : (s.onSupply f).pending = s.pending := rfl

end

/-! ## onClk -/

section
variable (s : State) (f : Clock → Clock)

@[simp] theorem onClk_now : (s.onClk f).now = s.now := rfl
@[simp] theorem onClk_free : (s.onClk f).free = s.free := rfl
@[simp] theorem onClk_out : (s.onClk f).out = s.out := rfl
@[simp] theorem onClk_mem : (s.onClk f).mem = s.mem := rfl
@[simp] theorem onClk_supply : (s.onClk f).supply = s.supply := rfl
@[simp] theorem onClk_clk : (s.onClk f).clk = f s.clk := rfl
@[simp] theorem onClk_ccfg : (s.onClk f).ccfg = s.ccfg := rfl
@[simp] theorem onClk_wt : (s.onClk f).wt = s.wt := rfl
@[simp] theorem onClk_links : (s.onClk f).links = s.links := rfl
@[simp] theorem onClk_pwr : (s.onClk f).pwr = s.pwr := rfl
@[simp] theorem onClk_rcd : (s.onClk f).rcd = s.rcd := rfl
@[simp] theorem onClk_flt : (s.onClk f).flt = s.flt := rfl
@[simp] theorem onClk_cmd : (s.onClk f).cmd = s.cmd := rfl
@[simp] theorem onClk_sw : (s.onClk f).sw = s.sw := rfl
@[simp] theorem onClk_drv : (s.onClk f).drv = s.drv := rfl
@[simp] theorem onClk_fld : (s.onClk f).fld = s.fld := rfl
@[simp] theorem onClk_loom : (s.onClk f).loom = s.loom := rfl
@[simp] theorem onClk_weft : (s.onClk f).weft = s.weft := rfl
@[simp] theorem onClk_can : (s.onClk f).can = s.can := rfl
@[simp] theorem onClk_nm : (s.onClk f).nm = s.nm := rfl
@[simp] theorem onClk_eth : (s.onClk f).eth = s.eth := rfl
@[simp] theorem onClk_far : (s.onClk f).far = s.far := rfl
@[simp] theorem onClk_twin : (s.onClk f).twin = s.twin := rfl
@[simp] theorem onClk_acc : (s.onClk f).acc = s.acc := rfl
@[simp] theorem onClk_id : (s.onClk f).id = s.id := rfl
@[simp] theorem onClk_pending : (s.onClk f).pending = s.pending := rfl

end

/-! ## onWt -/

section
variable (s : State) (f : WarpTime → WarpTime)

@[simp] theorem onWt_now : (s.onWt f).now = s.now := rfl
@[simp] theorem onWt_free : (s.onWt f).free = s.free := rfl
@[simp] theorem onWt_out : (s.onWt f).out = s.out := rfl
@[simp] theorem onWt_mem : (s.onWt f).mem = s.mem := rfl
@[simp] theorem onWt_supply : (s.onWt f).supply = s.supply := rfl
@[simp] theorem onWt_clk : (s.onWt f).clk = s.clk := rfl
@[simp] theorem onWt_ccfg : (s.onWt f).ccfg = s.ccfg := rfl
@[simp] theorem onWt_wt : (s.onWt f).wt = f s.wt := rfl
@[simp] theorem onWt_links : (s.onWt f).links = s.links := rfl
@[simp] theorem onWt_pwr : (s.onWt f).pwr = s.pwr := rfl
@[simp] theorem onWt_rcd : (s.onWt f).rcd = s.rcd := rfl
@[simp] theorem onWt_flt : (s.onWt f).flt = s.flt := rfl
@[simp] theorem onWt_cmd : (s.onWt f).cmd = s.cmd := rfl
@[simp] theorem onWt_sw : (s.onWt f).sw = s.sw := rfl
@[simp] theorem onWt_drv : (s.onWt f).drv = s.drv := rfl
@[simp] theorem onWt_fld : (s.onWt f).fld = s.fld := rfl
@[simp] theorem onWt_loom : (s.onWt f).loom = s.loom := rfl
@[simp] theorem onWt_weft : (s.onWt f).weft = s.weft := rfl
@[simp] theorem onWt_can : (s.onWt f).can = s.can := rfl
@[simp] theorem onWt_nm : (s.onWt f).nm = s.nm := rfl
@[simp] theorem onWt_eth : (s.onWt f).eth = s.eth := rfl
@[simp] theorem onWt_far : (s.onWt f).far = s.far := rfl
@[simp] theorem onWt_twin : (s.onWt f).twin = s.twin := rfl
@[simp] theorem onWt_acc : (s.onWt f).acc = s.acc := rfl
@[simp] theorem onWt_id : (s.onWt f).id = s.id := rfl
@[simp] theorem onWt_pending : (s.onWt f).pending = s.pending := rfl

end

/-! ## onLinks -/

section
variable (s : State) (f : Tab Link 23 → Tab Link 23)

@[simp] theorem onLinks_now : (s.onLinks f).now = s.now := rfl
@[simp] theorem onLinks_free : (s.onLinks f).free = s.free := rfl
@[simp] theorem onLinks_out : (s.onLinks f).out = s.out := rfl
@[simp] theorem onLinks_mem : (s.onLinks f).mem = s.mem := rfl
@[simp] theorem onLinks_supply : (s.onLinks f).supply = s.supply := rfl
@[simp] theorem onLinks_clk : (s.onLinks f).clk = s.clk := rfl
@[simp] theorem onLinks_ccfg : (s.onLinks f).ccfg = s.ccfg := rfl
@[simp] theorem onLinks_wt : (s.onLinks f).wt = s.wt := rfl
@[simp] theorem onLinks_links : (s.onLinks f).links = f s.links := rfl
@[simp] theorem onLinks_pwr : (s.onLinks f).pwr = s.pwr := rfl
@[simp] theorem onLinks_rcd : (s.onLinks f).rcd = s.rcd := rfl
@[simp] theorem onLinks_flt : (s.onLinks f).flt = s.flt := rfl
@[simp] theorem onLinks_cmd : (s.onLinks f).cmd = s.cmd := rfl
@[simp] theorem onLinks_sw : (s.onLinks f).sw = s.sw := rfl
@[simp] theorem onLinks_drv : (s.onLinks f).drv = s.drv := rfl
@[simp] theorem onLinks_fld : (s.onLinks f).fld = s.fld := rfl
@[simp] theorem onLinks_loom : (s.onLinks f).loom = s.loom := rfl
@[simp] theorem onLinks_weft : (s.onLinks f).weft = s.weft := rfl
@[simp] theorem onLinks_can : (s.onLinks f).can = s.can := rfl
@[simp] theorem onLinks_nm : (s.onLinks f).nm = s.nm := rfl
@[simp] theorem onLinks_eth : (s.onLinks f).eth = s.eth := rfl
@[simp] theorem onLinks_far : (s.onLinks f).far = s.far := rfl
@[simp] theorem onLinks_twin : (s.onLinks f).twin = s.twin := rfl
@[simp] theorem onLinks_acc : (s.onLinks f).acc = s.acc := rfl
@[simp] theorem onLinks_id : (s.onLinks f).id = s.id := rfl
@[simp] theorem onLinks_pending : (s.onLinks f).pending = s.pending := rfl

end

/-! ## onPwr -/

section
variable (s : State) (f : Power → Power)

@[simp] theorem onPwr_now : (s.onPwr f).now = s.now := rfl
@[simp] theorem onPwr_free : (s.onPwr f).free = s.free := rfl
@[simp] theorem onPwr_out : (s.onPwr f).out = s.out := rfl
@[simp] theorem onPwr_mem : (s.onPwr f).mem = s.mem := rfl
@[simp] theorem onPwr_supply : (s.onPwr f).supply = s.supply := rfl
@[simp] theorem onPwr_clk : (s.onPwr f).clk = s.clk := rfl
@[simp] theorem onPwr_ccfg : (s.onPwr f).ccfg = s.ccfg := rfl
@[simp] theorem onPwr_wt : (s.onPwr f).wt = s.wt := rfl
@[simp] theorem onPwr_links : (s.onPwr f).links = s.links := rfl
@[simp] theorem onPwr_pwr : (s.onPwr f).pwr = f s.pwr := rfl
@[simp] theorem onPwr_rcd : (s.onPwr f).rcd = s.rcd := rfl
@[simp] theorem onPwr_flt : (s.onPwr f).flt = s.flt := rfl
@[simp] theorem onPwr_cmd : (s.onPwr f).cmd = s.cmd := rfl
@[simp] theorem onPwr_sw : (s.onPwr f).sw = s.sw := rfl
@[simp] theorem onPwr_drv : (s.onPwr f).drv = s.drv := rfl
@[simp] theorem onPwr_fld : (s.onPwr f).fld = s.fld := rfl
@[simp] theorem onPwr_loom : (s.onPwr f).loom = s.loom := rfl
@[simp] theorem onPwr_weft : (s.onPwr f).weft = s.weft := rfl
@[simp] theorem onPwr_can : (s.onPwr f).can = s.can := rfl
@[simp] theorem onPwr_nm : (s.onPwr f).nm = s.nm := rfl
@[simp] theorem onPwr_eth : (s.onPwr f).eth = s.eth := rfl
@[simp] theorem onPwr_far : (s.onPwr f).far = s.far := rfl
@[simp] theorem onPwr_twin : (s.onPwr f).twin = s.twin := rfl
@[simp] theorem onPwr_acc : (s.onPwr f).acc = s.acc := rfl
@[simp] theorem onPwr_id : (s.onPwr f).id = s.id := rfl
@[simp] theorem onPwr_pending : (s.onPwr f).pending = s.pending := rfl

end

/-! ## onRcd -/

section
variable (s : State) (f : Recorder → Recorder)

@[simp] theorem onRcd_now : (s.onRcd f).now = s.now := rfl
@[simp] theorem onRcd_free : (s.onRcd f).free = s.free := rfl
@[simp] theorem onRcd_out : (s.onRcd f).out = s.out := rfl
@[simp] theorem onRcd_mem : (s.onRcd f).mem = s.mem := rfl
@[simp] theorem onRcd_supply : (s.onRcd f).supply = s.supply := rfl
@[simp] theorem onRcd_clk : (s.onRcd f).clk = s.clk := rfl
@[simp] theorem onRcd_ccfg : (s.onRcd f).ccfg = s.ccfg := rfl
@[simp] theorem onRcd_wt : (s.onRcd f).wt = s.wt := rfl
@[simp] theorem onRcd_links : (s.onRcd f).links = s.links := rfl
@[simp] theorem onRcd_pwr : (s.onRcd f).pwr = s.pwr := rfl
@[simp] theorem onRcd_rcd : (s.onRcd f).rcd = f s.rcd := rfl
@[simp] theorem onRcd_flt : (s.onRcd f).flt = s.flt := rfl
@[simp] theorem onRcd_cmd : (s.onRcd f).cmd = s.cmd := rfl
@[simp] theorem onRcd_sw : (s.onRcd f).sw = s.sw := rfl
@[simp] theorem onRcd_drv : (s.onRcd f).drv = s.drv := rfl
@[simp] theorem onRcd_fld : (s.onRcd f).fld = s.fld := rfl
@[simp] theorem onRcd_loom : (s.onRcd f).loom = s.loom := rfl
@[simp] theorem onRcd_weft : (s.onRcd f).weft = s.weft := rfl
@[simp] theorem onRcd_can : (s.onRcd f).can = s.can := rfl
@[simp] theorem onRcd_nm : (s.onRcd f).nm = s.nm := rfl
@[simp] theorem onRcd_eth : (s.onRcd f).eth = s.eth := rfl
@[simp] theorem onRcd_far : (s.onRcd f).far = s.far := rfl
@[simp] theorem onRcd_twin : (s.onRcd f).twin = s.twin := rfl
@[simp] theorem onRcd_acc : (s.onRcd f).acc = s.acc := rfl
@[simp] theorem onRcd_id : (s.onRcd f).id = s.id := rfl
@[simp] theorem onRcd_pending : (s.onRcd f).pending = s.pending := rfl

end

/-! ## onFlt -/

section
variable (s : State) (f : Faults → Faults)

@[simp] theorem onFlt_now : (s.onFlt f).now = s.now := rfl
@[simp] theorem onFlt_free : (s.onFlt f).free = s.free := rfl
@[simp] theorem onFlt_out : (s.onFlt f).out = s.out := rfl
@[simp] theorem onFlt_mem : (s.onFlt f).mem = s.mem := rfl
@[simp] theorem onFlt_supply : (s.onFlt f).supply = s.supply := rfl
@[simp] theorem onFlt_clk : (s.onFlt f).clk = s.clk := rfl
@[simp] theorem onFlt_ccfg : (s.onFlt f).ccfg = s.ccfg := rfl
@[simp] theorem onFlt_wt : (s.onFlt f).wt = s.wt := rfl
@[simp] theorem onFlt_links : (s.onFlt f).links = s.links := rfl
@[simp] theorem onFlt_pwr : (s.onFlt f).pwr = s.pwr := rfl
@[simp] theorem onFlt_rcd : (s.onFlt f).rcd = s.rcd := rfl
@[simp] theorem onFlt_flt : (s.onFlt f).flt = f s.flt := rfl
@[simp] theorem onFlt_cmd : (s.onFlt f).cmd = s.cmd := rfl
@[simp] theorem onFlt_sw : (s.onFlt f).sw = s.sw := rfl
@[simp] theorem onFlt_drv : (s.onFlt f).drv = s.drv := rfl
@[simp] theorem onFlt_fld : (s.onFlt f).fld = s.fld := rfl
@[simp] theorem onFlt_loom : (s.onFlt f).loom = s.loom := rfl
@[simp] theorem onFlt_weft : (s.onFlt f).weft = s.weft := rfl
@[simp] theorem onFlt_can : (s.onFlt f).can = s.can := rfl
@[simp] theorem onFlt_nm : (s.onFlt f).nm = s.nm := rfl
@[simp] theorem onFlt_eth : (s.onFlt f).eth = s.eth := rfl
@[simp] theorem onFlt_far : (s.onFlt f).far = s.far := rfl
@[simp] theorem onFlt_twin : (s.onFlt f).twin = s.twin := rfl
@[simp] theorem onFlt_acc : (s.onFlt f).acc = s.acc := rfl
@[simp] theorem onFlt_id : (s.onFlt f).id = s.id := rfl
@[simp] theorem onFlt_pending : (s.onFlt f).pending = s.pending := rfl

end

/-! ## onCmd -/

section
variable (s : State) (f : Commands → Commands)

@[simp] theorem onCmd_now : (s.onCmd f).now = s.now := rfl
@[simp] theorem onCmd_free : (s.onCmd f).free = s.free := rfl
@[simp] theorem onCmd_out : (s.onCmd f).out = s.out := rfl
@[simp] theorem onCmd_mem : (s.onCmd f).mem = s.mem := rfl
@[simp] theorem onCmd_supply : (s.onCmd f).supply = s.supply := rfl
@[simp] theorem onCmd_clk : (s.onCmd f).clk = s.clk := rfl
@[simp] theorem onCmd_ccfg : (s.onCmd f).ccfg = s.ccfg := rfl
@[simp] theorem onCmd_wt : (s.onCmd f).wt = s.wt := rfl
@[simp] theorem onCmd_links : (s.onCmd f).links = s.links := rfl
@[simp] theorem onCmd_pwr : (s.onCmd f).pwr = s.pwr := rfl
@[simp] theorem onCmd_rcd : (s.onCmd f).rcd = s.rcd := rfl
@[simp] theorem onCmd_flt : (s.onCmd f).flt = s.flt := rfl
@[simp] theorem onCmd_cmd : (s.onCmd f).cmd = f s.cmd := rfl
@[simp] theorem onCmd_sw : (s.onCmd f).sw = s.sw := rfl
@[simp] theorem onCmd_drv : (s.onCmd f).drv = s.drv := rfl
@[simp] theorem onCmd_fld : (s.onCmd f).fld = s.fld := rfl
@[simp] theorem onCmd_loom : (s.onCmd f).loom = s.loom := rfl
@[simp] theorem onCmd_weft : (s.onCmd f).weft = s.weft := rfl
@[simp] theorem onCmd_can : (s.onCmd f).can = s.can := rfl
@[simp] theorem onCmd_nm : (s.onCmd f).nm = s.nm := rfl
@[simp] theorem onCmd_eth : (s.onCmd f).eth = s.eth := rfl
@[simp] theorem onCmd_far : (s.onCmd f).far = s.far := rfl
@[simp] theorem onCmd_twin : (s.onCmd f).twin = s.twin := rfl
@[simp] theorem onCmd_acc : (s.onCmd f).acc = s.acc := rfl
@[simp] theorem onCmd_id : (s.onCmd f).id = s.id := rfl
@[simp] theorem onCmd_pending : (s.onCmd f).pending = s.pending := rfl

end

/-! ## onSw -/

section
variable (s : State) (f : Switch → Switch)

@[simp] theorem onSw_now : (s.onSw f).now = s.now := rfl
@[simp] theorem onSw_free : (s.onSw f).free = s.free := rfl
@[simp] theorem onSw_out : (s.onSw f).out = s.out := rfl
@[simp] theorem onSw_mem : (s.onSw f).mem = s.mem := rfl
@[simp] theorem onSw_supply : (s.onSw f).supply = s.supply := rfl
@[simp] theorem onSw_clk : (s.onSw f).clk = s.clk := rfl
@[simp] theorem onSw_ccfg : (s.onSw f).ccfg = s.ccfg := rfl
@[simp] theorem onSw_wt : (s.onSw f).wt = s.wt := rfl
@[simp] theorem onSw_links : (s.onSw f).links = s.links := rfl
@[simp] theorem onSw_pwr : (s.onSw f).pwr = s.pwr := rfl
@[simp] theorem onSw_rcd : (s.onSw f).rcd = s.rcd := rfl
@[simp] theorem onSw_flt : (s.onSw f).flt = s.flt := rfl
@[simp] theorem onSw_cmd : (s.onSw f).cmd = s.cmd := rfl
@[simp] theorem onSw_sw : (s.onSw f).sw = f s.sw := rfl
@[simp] theorem onSw_drv : (s.onSw f).drv = s.drv := rfl
@[simp] theorem onSw_fld : (s.onSw f).fld = s.fld := rfl
@[simp] theorem onSw_loom : (s.onSw f).loom = s.loom := rfl
@[simp] theorem onSw_weft : (s.onSw f).weft = s.weft := rfl
@[simp] theorem onSw_can : (s.onSw f).can = s.can := rfl
@[simp] theorem onSw_nm : (s.onSw f).nm = s.nm := rfl
@[simp] theorem onSw_eth : (s.onSw f).eth = s.eth := rfl
@[simp] theorem onSw_far : (s.onSw f).far = s.far := rfl
@[simp] theorem onSw_twin : (s.onSw f).twin = s.twin := rfl
@[simp] theorem onSw_acc : (s.onSw f).acc = s.acc := rfl
@[simp] theorem onSw_id : (s.onSw f).id = s.id := rfl
@[simp] theorem onSw_pending : (s.onSw f).pending = s.pending := rfl

end

/-! ## onDrv -/

section
variable (s : State) (f : Drive → Drive)

@[simp] theorem onDrv_now : (s.onDrv f).now = s.now := rfl
@[simp] theorem onDrv_free : (s.onDrv f).free = s.free := rfl
@[simp] theorem onDrv_out : (s.onDrv f).out = s.out := rfl
@[simp] theorem onDrv_mem : (s.onDrv f).mem = s.mem := rfl
@[simp] theorem onDrv_supply : (s.onDrv f).supply = s.supply := rfl
@[simp] theorem onDrv_clk : (s.onDrv f).clk = s.clk := rfl
@[simp] theorem onDrv_ccfg : (s.onDrv f).ccfg = s.ccfg := rfl
@[simp] theorem onDrv_wt : (s.onDrv f).wt = s.wt := rfl
@[simp] theorem onDrv_links : (s.onDrv f).links = s.links := rfl
@[simp] theorem onDrv_pwr : (s.onDrv f).pwr = s.pwr := rfl
@[simp] theorem onDrv_rcd : (s.onDrv f).rcd = s.rcd := rfl
@[simp] theorem onDrv_flt : (s.onDrv f).flt = s.flt := rfl
@[simp] theorem onDrv_cmd : (s.onDrv f).cmd = s.cmd := rfl
@[simp] theorem onDrv_sw : (s.onDrv f).sw = s.sw := rfl
@[simp] theorem onDrv_drv : (s.onDrv f).drv = f s.drv := rfl
@[simp] theorem onDrv_fld : (s.onDrv f).fld = s.fld := rfl
@[simp] theorem onDrv_loom : (s.onDrv f).loom = s.loom := rfl
@[simp] theorem onDrv_weft : (s.onDrv f).weft = s.weft := rfl
@[simp] theorem onDrv_can : (s.onDrv f).can = s.can := rfl
@[simp] theorem onDrv_nm : (s.onDrv f).nm = s.nm := rfl
@[simp] theorem onDrv_eth : (s.onDrv f).eth = s.eth := rfl
@[simp] theorem onDrv_far : (s.onDrv f).far = s.far := rfl
@[simp] theorem onDrv_twin : (s.onDrv f).twin = s.twin := rfl
@[simp] theorem onDrv_acc : (s.onDrv f).acc = s.acc := rfl
@[simp] theorem onDrv_id : (s.onDrv f).id = s.id := rfl
@[simp] theorem onDrv_pending : (s.onDrv f).pending = s.pending := rfl

end

/-! ## onFld -/

section
variable (s : State) (f : Field → Field)

@[simp] theorem onFld_now : (s.onFld f).now = s.now := rfl
@[simp] theorem onFld_free : (s.onFld f).free = s.free := rfl
@[simp] theorem onFld_out : (s.onFld f).out = s.out := rfl
@[simp] theorem onFld_mem : (s.onFld f).mem = s.mem := rfl
@[simp] theorem onFld_supply : (s.onFld f).supply = s.supply := rfl
@[simp] theorem onFld_clk : (s.onFld f).clk = s.clk := rfl
@[simp] theorem onFld_ccfg : (s.onFld f).ccfg = s.ccfg := rfl
@[simp] theorem onFld_wt : (s.onFld f).wt = s.wt := rfl
@[simp] theorem onFld_links : (s.onFld f).links = s.links := rfl
@[simp] theorem onFld_pwr : (s.onFld f).pwr = s.pwr := rfl
@[simp] theorem onFld_rcd : (s.onFld f).rcd = s.rcd := rfl
@[simp] theorem onFld_flt : (s.onFld f).flt = s.flt := rfl
@[simp] theorem onFld_cmd : (s.onFld f).cmd = s.cmd := rfl
@[simp] theorem onFld_sw : (s.onFld f).sw = s.sw := rfl
@[simp] theorem onFld_drv : (s.onFld f).drv = s.drv := rfl
@[simp] theorem onFld_fld : (s.onFld f).fld = f s.fld := rfl
@[simp] theorem onFld_loom : (s.onFld f).loom = s.loom := rfl
@[simp] theorem onFld_weft : (s.onFld f).weft = s.weft := rfl
@[simp] theorem onFld_can : (s.onFld f).can = s.can := rfl
@[simp] theorem onFld_nm : (s.onFld f).nm = s.nm := rfl
@[simp] theorem onFld_eth : (s.onFld f).eth = s.eth := rfl
@[simp] theorem onFld_far : (s.onFld f).far = s.far := rfl
@[simp] theorem onFld_twin : (s.onFld f).twin = s.twin := rfl
@[simp] theorem onFld_acc : (s.onFld f).acc = s.acc := rfl
@[simp] theorem onFld_id : (s.onFld f).id = s.id := rfl
@[simp] theorem onFld_pending : (s.onFld f).pending = s.pending := rfl

end

/-! ## onLoom -/

section
variable (s : State) (f : Loom → Loom)

@[simp] theorem onLoom_now : (s.onLoom f).now = s.now := rfl
@[simp] theorem onLoom_free : (s.onLoom f).free = s.free := rfl
@[simp] theorem onLoom_out : (s.onLoom f).out = s.out := rfl
@[simp] theorem onLoom_mem : (s.onLoom f).mem = s.mem := rfl
@[simp] theorem onLoom_supply : (s.onLoom f).supply = s.supply := rfl
@[simp] theorem onLoom_clk : (s.onLoom f).clk = s.clk := rfl
@[simp] theorem onLoom_ccfg : (s.onLoom f).ccfg = s.ccfg := rfl
@[simp] theorem onLoom_wt : (s.onLoom f).wt = s.wt := rfl
@[simp] theorem onLoom_links : (s.onLoom f).links = s.links := rfl
@[simp] theorem onLoom_pwr : (s.onLoom f).pwr = s.pwr := rfl
@[simp] theorem onLoom_rcd : (s.onLoom f).rcd = s.rcd := rfl
@[simp] theorem onLoom_flt : (s.onLoom f).flt = s.flt := rfl
@[simp] theorem onLoom_cmd : (s.onLoom f).cmd = s.cmd := rfl
@[simp] theorem onLoom_sw : (s.onLoom f).sw = s.sw := rfl
@[simp] theorem onLoom_drv : (s.onLoom f).drv = s.drv := rfl
@[simp] theorem onLoom_fld : (s.onLoom f).fld = s.fld := rfl
@[simp] theorem onLoom_loom : (s.onLoom f).loom = f s.loom := rfl
@[simp] theorem onLoom_weft : (s.onLoom f).weft = s.weft := rfl
@[simp] theorem onLoom_can : (s.onLoom f).can = s.can := rfl
@[simp] theorem onLoom_nm : (s.onLoom f).nm = s.nm := rfl
@[simp] theorem onLoom_eth : (s.onLoom f).eth = s.eth := rfl
@[simp] theorem onLoom_far : (s.onLoom f).far = s.far := rfl
@[simp] theorem onLoom_twin : (s.onLoom f).twin = s.twin := rfl
@[simp] theorem onLoom_acc : (s.onLoom f).acc = s.acc := rfl
@[simp] theorem onLoom_id : (s.onLoom f).id = s.id := rfl
@[simp] theorem onLoom_pending : (s.onLoom f).pending = s.pending := rfl

end

/-! ## onWeft -/

section
variable (s : State) (f : Wefts → Wefts)

@[simp] theorem onWeft_now : (s.onWeft f).now = s.now := rfl
@[simp] theorem onWeft_free : (s.onWeft f).free = s.free := rfl
@[simp] theorem onWeft_out : (s.onWeft f).out = s.out := rfl
@[simp] theorem onWeft_mem : (s.onWeft f).mem = s.mem := rfl
@[simp] theorem onWeft_supply : (s.onWeft f).supply = s.supply := rfl
@[simp] theorem onWeft_clk : (s.onWeft f).clk = s.clk := rfl
@[simp] theorem onWeft_ccfg : (s.onWeft f).ccfg = s.ccfg := rfl
@[simp] theorem onWeft_wt : (s.onWeft f).wt = s.wt := rfl
@[simp] theorem onWeft_links : (s.onWeft f).links = s.links := rfl
@[simp] theorem onWeft_pwr : (s.onWeft f).pwr = s.pwr := rfl
@[simp] theorem onWeft_rcd : (s.onWeft f).rcd = s.rcd := rfl
@[simp] theorem onWeft_flt : (s.onWeft f).flt = s.flt := rfl
@[simp] theorem onWeft_cmd : (s.onWeft f).cmd = s.cmd := rfl
@[simp] theorem onWeft_sw : (s.onWeft f).sw = s.sw := rfl
@[simp] theorem onWeft_drv : (s.onWeft f).drv = s.drv := rfl
@[simp] theorem onWeft_fld : (s.onWeft f).fld = s.fld := rfl
@[simp] theorem onWeft_loom : (s.onWeft f).loom = s.loom := rfl
@[simp] theorem onWeft_weft : (s.onWeft f).weft = f s.weft := rfl
@[simp] theorem onWeft_can : (s.onWeft f).can = s.can := rfl
@[simp] theorem onWeft_nm : (s.onWeft f).nm = s.nm := rfl
@[simp] theorem onWeft_eth : (s.onWeft f).eth = s.eth := rfl
@[simp] theorem onWeft_far : (s.onWeft f).far = s.far := rfl
@[simp] theorem onWeft_twin : (s.onWeft f).twin = s.twin := rfl
@[simp] theorem onWeft_acc : (s.onWeft f).acc = s.acc := rfl
@[simp] theorem onWeft_id : (s.onWeft f).id = s.id := rfl
@[simp] theorem onWeft_pending : (s.onWeft f).pending = s.pending := rfl

end

/-! ## onCan -/

section
variable (s : State) (f : Can → Can)

@[simp] theorem onCan_now : (s.onCan f).now = s.now := rfl
@[simp] theorem onCan_free : (s.onCan f).free = s.free := rfl
@[simp] theorem onCan_out : (s.onCan f).out = s.out := rfl
@[simp] theorem onCan_mem : (s.onCan f).mem = s.mem := rfl
@[simp] theorem onCan_supply : (s.onCan f).supply = s.supply := rfl
@[simp] theorem onCan_clk : (s.onCan f).clk = s.clk := rfl
@[simp] theorem onCan_ccfg : (s.onCan f).ccfg = s.ccfg := rfl
@[simp] theorem onCan_wt : (s.onCan f).wt = s.wt := rfl
@[simp] theorem onCan_links : (s.onCan f).links = s.links := rfl
@[simp] theorem onCan_pwr : (s.onCan f).pwr = s.pwr := rfl
@[simp] theorem onCan_rcd : (s.onCan f).rcd = s.rcd := rfl
@[simp] theorem onCan_flt : (s.onCan f).flt = s.flt := rfl
@[simp] theorem onCan_cmd : (s.onCan f).cmd = s.cmd := rfl
@[simp] theorem onCan_sw : (s.onCan f).sw = s.sw := rfl
@[simp] theorem onCan_drv : (s.onCan f).drv = s.drv := rfl
@[simp] theorem onCan_fld : (s.onCan f).fld = s.fld := rfl
@[simp] theorem onCan_loom : (s.onCan f).loom = s.loom := rfl
@[simp] theorem onCan_weft : (s.onCan f).weft = s.weft := rfl
@[simp] theorem onCan_can : (s.onCan f).can = f s.can := rfl
@[simp] theorem onCan_nm : (s.onCan f).nm = s.nm := rfl
@[simp] theorem onCan_eth : (s.onCan f).eth = s.eth := rfl
@[simp] theorem onCan_far : (s.onCan f).far = s.far := rfl
@[simp] theorem onCan_twin : (s.onCan f).twin = s.twin := rfl
@[simp] theorem onCan_acc : (s.onCan f).acc = s.acc := rfl
@[simp] theorem onCan_id : (s.onCan f).id = s.id := rfl
@[simp] theorem onCan_pending : (s.onCan f).pending = s.pending := rfl

end

/-! ## onNm -/

section
variable (s : State) (f : Nm → Nm)

@[simp] theorem onNm_now : (s.onNm f).now = s.now := rfl
@[simp] theorem onNm_free : (s.onNm f).free = s.free := rfl
@[simp] theorem onNm_out : (s.onNm f).out = s.out := rfl
@[simp] theorem onNm_mem : (s.onNm f).mem = s.mem := rfl
@[simp] theorem onNm_supply : (s.onNm f).supply = s.supply := rfl
@[simp] theorem onNm_clk : (s.onNm f).clk = s.clk := rfl
@[simp] theorem onNm_ccfg : (s.onNm f).ccfg = s.ccfg := rfl
@[simp] theorem onNm_wt : (s.onNm f).wt = s.wt := rfl
@[simp] theorem onNm_links : (s.onNm f).links = s.links := rfl
@[simp] theorem onNm_pwr : (s.onNm f).pwr = s.pwr := rfl
@[simp] theorem onNm_rcd : (s.onNm f).rcd = s.rcd := rfl
@[simp] theorem onNm_flt : (s.onNm f).flt = s.flt := rfl
@[simp] theorem onNm_cmd : (s.onNm f).cmd = s.cmd := rfl
@[simp] theorem onNm_sw : (s.onNm f).sw = s.sw := rfl
@[simp] theorem onNm_drv : (s.onNm f).drv = s.drv := rfl
@[simp] theorem onNm_fld : (s.onNm f).fld = s.fld := rfl
@[simp] theorem onNm_loom : (s.onNm f).loom = s.loom := rfl
@[simp] theorem onNm_weft : (s.onNm f).weft = s.weft := rfl
@[simp] theorem onNm_can : (s.onNm f).can = s.can := rfl
@[simp] theorem onNm_nm : (s.onNm f).nm = f s.nm := rfl
@[simp] theorem onNm_eth : (s.onNm f).eth = s.eth := rfl
@[simp] theorem onNm_far : (s.onNm f).far = s.far := rfl
@[simp] theorem onNm_twin : (s.onNm f).twin = s.twin := rfl
@[simp] theorem onNm_acc : (s.onNm f).acc = s.acc := rfl
@[simp] theorem onNm_id : (s.onNm f).id = s.id := rfl
@[simp] theorem onNm_pending : (s.onNm f).pending = s.pending := rfl

end

/-! ## onEth -/

section
variable (s : State) (f : Eth → Eth)

@[simp] theorem onEth_now : (s.onEth f).now = s.now := rfl
@[simp] theorem onEth_free : (s.onEth f).free = s.free := rfl
@[simp] theorem onEth_out : (s.onEth f).out = s.out := rfl
@[simp] theorem onEth_mem : (s.onEth f).mem = s.mem := rfl
@[simp] theorem onEth_supply : (s.onEth f).supply = s.supply := rfl
@[simp] theorem onEth_clk : (s.onEth f).clk = s.clk := rfl
@[simp] theorem onEth_ccfg : (s.onEth f).ccfg = s.ccfg := rfl
@[simp] theorem onEth_wt : (s.onEth f).wt = s.wt := rfl
@[simp] theorem onEth_links : (s.onEth f).links = s.links := rfl
@[simp] theorem onEth_pwr : (s.onEth f).pwr = s.pwr := rfl
@[simp] theorem onEth_rcd : (s.onEth f).rcd = s.rcd := rfl
@[simp] theorem onEth_flt : (s.onEth f).flt = s.flt := rfl
@[simp] theorem onEth_cmd : (s.onEth f).cmd = s.cmd := rfl
@[simp] theorem onEth_sw : (s.onEth f).sw = s.sw := rfl
@[simp] theorem onEth_drv : (s.onEth f).drv = s.drv := rfl
@[simp] theorem onEth_fld : (s.onEth f).fld = s.fld := rfl
@[simp] theorem onEth_loom : (s.onEth f).loom = s.loom := rfl
@[simp] theorem onEth_weft : (s.onEth f).weft = s.weft := rfl
@[simp] theorem onEth_can : (s.onEth f).can = s.can := rfl
@[simp] theorem onEth_nm : (s.onEth f).nm = s.nm := rfl
@[simp] theorem onEth_eth : (s.onEth f).eth = f s.eth := rfl
@[simp] theorem onEth_far : (s.onEth f).far = s.far := rfl
@[simp] theorem onEth_twin : (s.onEth f).twin = s.twin := rfl
@[simp] theorem onEth_acc : (s.onEth f).acc = s.acc := rfl
@[simp] theorem onEth_id : (s.onEth f).id = s.id := rfl
@[simp] theorem onEth_pending : (s.onEth f).pending = s.pending := rfl

end

/-! ## onFar -/

section
variable (s : State) (f : Bridge → Bridge)

@[simp] theorem onFar_now : (s.onFar f).now = s.now := rfl
@[simp] theorem onFar_free : (s.onFar f).free = s.free := rfl
@[simp] theorem onFar_out : (s.onFar f).out = s.out := rfl
@[simp] theorem onFar_mem : (s.onFar f).mem = s.mem := rfl
@[simp] theorem onFar_supply : (s.onFar f).supply = s.supply := rfl
@[simp] theorem onFar_clk : (s.onFar f).clk = s.clk := rfl
@[simp] theorem onFar_ccfg : (s.onFar f).ccfg = s.ccfg := rfl
@[simp] theorem onFar_wt : (s.onFar f).wt = s.wt := rfl
@[simp] theorem onFar_links : (s.onFar f).links = s.links := rfl
@[simp] theorem onFar_pwr : (s.onFar f).pwr = s.pwr := rfl
@[simp] theorem onFar_rcd : (s.onFar f).rcd = s.rcd := rfl
@[simp] theorem onFar_flt : (s.onFar f).flt = s.flt := rfl
@[simp] theorem onFar_cmd : (s.onFar f).cmd = s.cmd := rfl
@[simp] theorem onFar_sw : (s.onFar f).sw = s.sw := rfl
@[simp] theorem onFar_drv : (s.onFar f).drv = s.drv := rfl
@[simp] theorem onFar_fld : (s.onFar f).fld = s.fld := rfl
@[simp] theorem onFar_loom : (s.onFar f).loom = s.loom := rfl
@[simp] theorem onFar_weft : (s.onFar f).weft = s.weft := rfl
@[simp] theorem onFar_can : (s.onFar f).can = s.can := rfl
@[simp] theorem onFar_nm : (s.onFar f).nm = s.nm := rfl
@[simp] theorem onFar_eth : (s.onFar f).eth = s.eth := rfl
@[simp] theorem onFar_far : (s.onFar f).far = f s.far := rfl
@[simp] theorem onFar_twin : (s.onFar f).twin = s.twin := rfl
@[simp] theorem onFar_acc : (s.onFar f).acc = s.acc := rfl
@[simp] theorem onFar_id : (s.onFar f).id = s.id := rfl
@[simp] theorem onFar_pending : (s.onFar f).pending = s.pending := rfl

end

/-! ## onTwin -/

section
variable (s : State) (f : Twin → Twin)

@[simp] theorem onTwin_now : (s.onTwin f).now = s.now := rfl
@[simp] theorem onTwin_free : (s.onTwin f).free = s.free := rfl
@[simp] theorem onTwin_out : (s.onTwin f).out = s.out := rfl
@[simp] theorem onTwin_mem : (s.onTwin f).mem = s.mem := rfl
@[simp] theorem onTwin_supply : (s.onTwin f).supply = s.supply := rfl
@[simp] theorem onTwin_clk : (s.onTwin f).clk = s.clk := rfl
@[simp] theorem onTwin_ccfg : (s.onTwin f).ccfg = s.ccfg := rfl
@[simp] theorem onTwin_wt : (s.onTwin f).wt = s.wt := rfl
@[simp] theorem onTwin_links : (s.onTwin f).links = s.links := rfl
@[simp] theorem onTwin_pwr : (s.onTwin f).pwr = s.pwr := rfl
@[simp] theorem onTwin_rcd : (s.onTwin f).rcd = s.rcd := rfl
@[simp] theorem onTwin_flt : (s.onTwin f).flt = s.flt := rfl
@[simp] theorem onTwin_cmd : (s.onTwin f).cmd = s.cmd := rfl
@[simp] theorem onTwin_sw : (s.onTwin f).sw = s.sw := rfl
@[simp] theorem onTwin_drv : (s.onTwin f).drv = s.drv := rfl
@[simp] theorem onTwin_fld : (s.onTwin f).fld = s.fld := rfl
@[simp] theorem onTwin_loom : (s.onTwin f).loom = s.loom := rfl
@[simp] theorem onTwin_weft : (s.onTwin f).weft = s.weft := rfl
@[simp] theorem onTwin_can : (s.onTwin f).can = s.can := rfl
@[simp] theorem onTwin_nm : (s.onTwin f).nm = s.nm := rfl
@[simp] theorem onTwin_eth : (s.onTwin f).eth = s.eth := rfl
@[simp] theorem onTwin_far : (s.onTwin f).far = s.far := rfl
@[simp] theorem onTwin_twin : (s.onTwin f).twin = f s.twin := rfl
@[simp] theorem onTwin_acc : (s.onTwin f).acc = s.acc := rfl
@[simp] theorem onTwin_id : (s.onTwin f).id = s.id := rfl
@[simp] theorem onTwin_pending : (s.onTwin f).pending = s.pending := rfl

end

/-! ## onAcc -/

section
variable (s : State) (f : Access → Access)

@[simp] theorem onAcc_now : (s.onAcc f).now = s.now := rfl
@[simp] theorem onAcc_free : (s.onAcc f).free = s.free := rfl
@[simp] theorem onAcc_out : (s.onAcc f).out = s.out := rfl
@[simp] theorem onAcc_mem : (s.onAcc f).mem = s.mem := rfl
@[simp] theorem onAcc_supply : (s.onAcc f).supply = s.supply := rfl
@[simp] theorem onAcc_clk : (s.onAcc f).clk = s.clk := rfl
@[simp] theorem onAcc_ccfg : (s.onAcc f).ccfg = s.ccfg := rfl
@[simp] theorem onAcc_wt : (s.onAcc f).wt = s.wt := rfl
@[simp] theorem onAcc_links : (s.onAcc f).links = s.links := rfl
@[simp] theorem onAcc_pwr : (s.onAcc f).pwr = s.pwr := rfl
@[simp] theorem onAcc_rcd : (s.onAcc f).rcd = s.rcd := rfl
@[simp] theorem onAcc_flt : (s.onAcc f).flt = s.flt := rfl
@[simp] theorem onAcc_cmd : (s.onAcc f).cmd = s.cmd := rfl
@[simp] theorem onAcc_sw : (s.onAcc f).sw = s.sw := rfl
@[simp] theorem onAcc_drv : (s.onAcc f).drv = s.drv := rfl
@[simp] theorem onAcc_fld : (s.onAcc f).fld = s.fld := rfl
@[simp] theorem onAcc_loom : (s.onAcc f).loom = s.loom := rfl
@[simp] theorem onAcc_weft : (s.onAcc f).weft = s.weft := rfl
@[simp] theorem onAcc_can : (s.onAcc f).can = s.can := rfl
@[simp] theorem onAcc_nm : (s.onAcc f).nm = s.nm := rfl
@[simp] theorem onAcc_eth : (s.onAcc f).eth = s.eth := rfl
@[simp] theorem onAcc_far : (s.onAcc f).far = s.far := rfl
@[simp] theorem onAcc_twin : (s.onAcc f).twin = s.twin := rfl
@[simp] theorem onAcc_acc : (s.onAcc f).acc = f s.acc := rfl
@[simp] theorem onAcc_id : (s.onAcc f).id = s.id := rfl
@[simp] theorem onAcc_pending : (s.onAcc f).pending = s.pending := rfl

end

/-! ## onId -/

section
variable (s : State) (f : Ident → Ident)

@[simp] theorem onId_now : (s.onId f).now = s.now := rfl
@[simp] theorem onId_free : (s.onId f).free = s.free := rfl
@[simp] theorem onId_out : (s.onId f).out = s.out := rfl
@[simp] theorem onId_mem : (s.onId f).mem = s.mem := rfl
@[simp] theorem onId_supply : (s.onId f).supply = s.supply := rfl
@[simp] theorem onId_clk : (s.onId f).clk = s.clk := rfl
@[simp] theorem onId_ccfg : (s.onId f).ccfg = s.ccfg := rfl
@[simp] theorem onId_wt : (s.onId f).wt = s.wt := rfl
@[simp] theorem onId_links : (s.onId f).links = s.links := rfl
@[simp] theorem onId_pwr : (s.onId f).pwr = s.pwr := rfl
@[simp] theorem onId_rcd : (s.onId f).rcd = s.rcd := rfl
@[simp] theorem onId_flt : (s.onId f).flt = s.flt := rfl
@[simp] theorem onId_cmd : (s.onId f).cmd = s.cmd := rfl
@[simp] theorem onId_sw : (s.onId f).sw = s.sw := rfl
@[simp] theorem onId_drv : (s.onId f).drv = s.drv := rfl
@[simp] theorem onId_fld : (s.onId f).fld = s.fld := rfl
@[simp] theorem onId_loom : (s.onId f).loom = s.loom := rfl
@[simp] theorem onId_weft : (s.onId f).weft = s.weft := rfl
@[simp] theorem onId_can : (s.onId f).can = s.can := rfl
@[simp] theorem onId_nm : (s.onId f).nm = s.nm := rfl
@[simp] theorem onId_eth : (s.onId f).eth = s.eth := rfl
@[simp] theorem onId_far : (s.onId f).far = s.far := rfl
@[simp] theorem onId_twin : (s.onId f).twin = s.twin := rfl
@[simp] theorem onId_acc : (s.onId f).acc = s.acc := rfl
@[simp] theorem onId_id : (s.onId f).id = f s.id := rfl
@[simp] theorem onId_pending : (s.onId f).pending = s.pending := rfl

end

/-! ## send -/

section
variable (s : State) (o : Out)

@[simp] theorem send_now : (s.send o).now = s.now := rfl
@[simp] theorem send_free : (s.send o).free = s.free := rfl
@[simp] theorem send_out : (s.send o).out = o :: s.out := rfl
@[simp] theorem send_mem : (s.send o).mem = s.mem := rfl
@[simp] theorem send_supply : (s.send o).supply = s.supply := rfl
@[simp] theorem send_clk : (s.send o).clk = s.clk := rfl
@[simp] theorem send_ccfg : (s.send o).ccfg = s.ccfg := rfl
@[simp] theorem send_wt : (s.send o).wt = s.wt := rfl
@[simp] theorem send_links : (s.send o).links = s.links := rfl
@[simp] theorem send_pwr : (s.send o).pwr = s.pwr := rfl
@[simp] theorem send_rcd : (s.send o).rcd = s.rcd := rfl
@[simp] theorem send_flt : (s.send o).flt = s.flt := rfl
@[simp] theorem send_cmd : (s.send o).cmd = s.cmd := rfl
@[simp] theorem send_sw : (s.send o).sw = s.sw := rfl
@[simp] theorem send_drv : (s.send o).drv = s.drv := rfl
@[simp] theorem send_fld : (s.send o).fld = s.fld := rfl
@[simp] theorem send_loom : (s.send o).loom = s.loom := rfl
@[simp] theorem send_weft : (s.send o).weft = s.weft := rfl
@[simp] theorem send_can : (s.send o).can = s.can := rfl
@[simp] theorem send_nm : (s.send o).nm = s.nm := rfl
@[simp] theorem send_eth : (s.send o).eth = s.eth := rfl
@[simp] theorem send_far : (s.send o).far = s.far := rfl
@[simp] theorem send_twin : (s.send o).twin = s.twin := rfl
@[simp] theorem send_acc : (s.send o).acc = s.acc := rfl
@[simp] theorem send_id : (s.send o).id = s.id := rfl
@[simp] theorem send_pending : (s.send o).pending = s.pending := rfl

end

/-! ## writeMem -/

section
variable (s : State) (a : Nat) (b : List Byte)

@[simp] theorem writeMem_now : (s.writeMem a b).now = s.now := rfl
@[simp] theorem writeMem_free : (s.writeMem a b).free = s.free := rfl
@[simp] theorem writeMem_out : (s.writeMem a b).out = s.out := rfl
@[simp] theorem writeMem_mem : (s.writeMem a b).mem = Memory.writeBytes s.mem a b := rfl
@[simp] theorem writeMem_supply : (s.writeMem a b).supply = s.supply := rfl
@[simp] theorem writeMem_clk : (s.writeMem a b).clk = s.clk := rfl
@[simp] theorem writeMem_ccfg : (s.writeMem a b).ccfg = s.ccfg := rfl
@[simp] theorem writeMem_wt : (s.writeMem a b).wt = s.wt := rfl
@[simp] theorem writeMem_links : (s.writeMem a b).links = s.links := rfl
@[simp] theorem writeMem_pwr : (s.writeMem a b).pwr = s.pwr := rfl
@[simp] theorem writeMem_rcd : (s.writeMem a b).rcd = s.rcd := rfl
@[simp] theorem writeMem_flt : (s.writeMem a b).flt = s.flt := rfl
@[simp] theorem writeMem_cmd : (s.writeMem a b).cmd = s.cmd := rfl
@[simp] theorem writeMem_sw : (s.writeMem a b).sw = s.sw := rfl
@[simp] theorem writeMem_drv : (s.writeMem a b).drv = s.drv := rfl
@[simp] theorem writeMem_fld : (s.writeMem a b).fld = s.fld := rfl
@[simp] theorem writeMem_loom : (s.writeMem a b).loom = s.loom := rfl
@[simp] theorem writeMem_weft : (s.writeMem a b).weft = s.weft := rfl
@[simp] theorem writeMem_can : (s.writeMem a b).can = s.can := rfl
@[simp] theorem writeMem_nm : (s.writeMem a b).nm = s.nm := rfl
@[simp] theorem writeMem_eth : (s.writeMem a b).eth = s.eth := rfl
@[simp] theorem writeMem_far : (s.writeMem a b).far = s.far := rfl
@[simp] theorem writeMem_twin : (s.writeMem a b).twin = s.twin := rfl
@[simp] theorem writeMem_acc : (s.writeMem a b).acc = s.acc := rfl
@[simp] theorem writeMem_id : (s.writeMem a b).id = s.id := rfl
@[simp] theorem writeMem_pending : (s.writeMem a b).pending = s.pending := rfl

end

/-! ## clearMem -/

section
variable (s : State) (lo hi : Nat)

@[simp] theorem clearMem_now : (s.clearMem lo hi).now = s.now := rfl
@[simp] theorem clearMem_free : (s.clearMem lo hi).free = s.free := rfl
@[simp] theorem clearMem_out : (s.clearMem lo hi).out = s.out := rfl
@[simp] theorem clearMem_mem : (s.clearMem lo hi).mem = Memory.clear s.mem lo hi := rfl
@[simp] theorem clearMem_supply : (s.clearMem lo hi).supply = s.supply := rfl
@[simp] theorem clearMem_clk : (s.clearMem lo hi).clk = s.clk := rfl
@[simp] theorem clearMem_ccfg : (s.clearMem lo hi).ccfg = s.ccfg := rfl
@[simp] theorem clearMem_wt : (s.clearMem lo hi).wt = s.wt := rfl
@[simp] theorem clearMem_links : (s.clearMem lo hi).links = s.links := rfl
@[simp] theorem clearMem_pwr : (s.clearMem lo hi).pwr = s.pwr := rfl
@[simp] theorem clearMem_rcd : (s.clearMem lo hi).rcd = s.rcd := rfl
@[simp] theorem clearMem_flt : (s.clearMem lo hi).flt = s.flt := rfl
@[simp] theorem clearMem_cmd : (s.clearMem lo hi).cmd = s.cmd := rfl
@[simp] theorem clearMem_sw : (s.clearMem lo hi).sw = s.sw := rfl
@[simp] theorem clearMem_drv : (s.clearMem lo hi).drv = s.drv := rfl
@[simp] theorem clearMem_fld : (s.clearMem lo hi).fld = s.fld := rfl
@[simp] theorem clearMem_loom : (s.clearMem lo hi).loom = s.loom := rfl
@[simp] theorem clearMem_weft : (s.clearMem lo hi).weft = s.weft := rfl
@[simp] theorem clearMem_can : (s.clearMem lo hi).can = s.can := rfl
@[simp] theorem clearMem_nm : (s.clearMem lo hi).nm = s.nm := rfl
@[simp] theorem clearMem_eth : (s.clearMem lo hi).eth = s.eth := rfl
@[simp] theorem clearMem_far : (s.clearMem lo hi).far = s.far := rfl
@[simp] theorem clearMem_twin : (s.clearMem lo hi).twin = s.twin := rfl
@[simp] theorem clearMem_acc : (s.clearMem lo hi).acc = s.acc := rfl
@[simp] theorem clearMem_id : (s.clearMem lo hi).id = s.id := rfl
@[simp] theorem clearMem_pending : (s.clearMem lo hi).pending = s.pending := rfl

end

/-! ## draw_snd -/

section
variable (s : State)

@[simp] theorem draw_snd_now : (s.draw.2).now = s.now := rfl
@[simp] theorem draw_snd_free : (s.draw.2).free = s.free + 1 := rfl
@[simp] theorem draw_snd_out : (s.draw.2).out = s.out := rfl
@[simp] theorem draw_snd_mem : (s.draw.2).mem = s.mem := rfl
@[simp] theorem draw_snd_supply : (s.draw.2).supply = s.supply := rfl
@[simp] theorem draw_snd_clk : (s.draw.2).clk = s.clk := rfl
@[simp] theorem draw_snd_ccfg : (s.draw.2).ccfg = s.ccfg := rfl
@[simp] theorem draw_snd_wt : (s.draw.2).wt = s.wt := rfl
@[simp] theorem draw_snd_links : (s.draw.2).links = s.links := rfl
@[simp] theorem draw_snd_pwr : (s.draw.2).pwr = s.pwr := rfl
@[simp] theorem draw_snd_rcd : (s.draw.2).rcd = s.rcd := rfl
@[simp] theorem draw_snd_flt : (s.draw.2).flt = s.flt := rfl
@[simp] theorem draw_snd_cmd : (s.draw.2).cmd = s.cmd := rfl
@[simp] theorem draw_snd_sw : (s.draw.2).sw = s.sw := rfl
@[simp] theorem draw_snd_drv : (s.draw.2).drv = s.drv := rfl
@[simp] theorem draw_snd_fld : (s.draw.2).fld = s.fld := rfl
@[simp] theorem draw_snd_loom : (s.draw.2).loom = s.loom := rfl
@[simp] theorem draw_snd_weft : (s.draw.2).weft = s.weft := rfl
@[simp] theorem draw_snd_can : (s.draw.2).can = s.can := rfl
@[simp] theorem draw_snd_nm : (s.draw.2).nm = s.nm := rfl
@[simp] theorem draw_snd_eth : (s.draw.2).eth = s.eth := rfl
@[simp] theorem draw_snd_far : (s.draw.2).far = s.far := rfl
@[simp] theorem draw_snd_twin : (s.draw.2).twin = s.twin := rfl
@[simp] theorem draw_snd_acc : (s.draw.2).acc = s.acc := rfl
@[simp] theorem draw_snd_id : (s.draw.2).id = s.id := rfl
@[simp] theorem draw_snd_pending : (s.draw.2).pending = s.pending := rfl

end

/-! ## enqueue -/

section
variable (s : State) (c : Instr)

@[simp] theorem enqueue_now : (s.enqueue c).now = s.now := rfl
@[simp] theorem enqueue_free : (s.enqueue c).free = s.free := rfl
@[simp] theorem enqueue_out : (s.enqueue c).out = s.out := rfl
@[simp] theorem enqueue_mem : (s.enqueue c).mem = s.mem := rfl
@[simp] theorem enqueue_supply : (s.enqueue c).supply = s.supply := rfl
@[simp] theorem enqueue_clk : (s.enqueue c).clk = s.clk := rfl
@[simp] theorem enqueue_ccfg : (s.enqueue c).ccfg = s.ccfg := rfl
@[simp] theorem enqueue_wt : (s.enqueue c).wt = s.wt := rfl
@[simp] theorem enqueue_links : (s.enqueue c).links = s.links := rfl
@[simp] theorem enqueue_pwr : (s.enqueue c).pwr = s.pwr := rfl
@[simp] theorem enqueue_rcd : (s.enqueue c).rcd = s.rcd := rfl
@[simp] theorem enqueue_flt : (s.enqueue c).flt = s.flt := rfl
@[simp] theorem enqueue_cmd : (s.enqueue c).cmd = s.cmd := rfl
@[simp] theorem enqueue_sw : (s.enqueue c).sw = s.sw := rfl
@[simp] theorem enqueue_drv : (s.enqueue c).drv = s.drv := rfl
@[simp] theorem enqueue_fld : (s.enqueue c).fld = s.fld := rfl
@[simp] theorem enqueue_loom : (s.enqueue c).loom = s.loom := rfl
@[simp] theorem enqueue_weft : (s.enqueue c).weft = s.weft := rfl
@[simp] theorem enqueue_can : (s.enqueue c).can = s.can := rfl
@[simp] theorem enqueue_nm : (s.enqueue c).nm = s.nm := rfl
@[simp] theorem enqueue_eth : (s.enqueue c).eth = s.eth := rfl
@[simp] theorem enqueue_far : (s.enqueue c).far = s.far := rfl
@[simp] theorem enqueue_twin : (s.enqueue c).twin = s.twin := rfl
@[simp] theorem enqueue_acc : (s.enqueue c).acc = s.acc := rfl
@[simp] theorem enqueue_id : (s.enqueue c).id = s.id := rfl
@[simp] theorem enqueue_pending : (s.enqueue c).pending = c :: s.pending := rfl

end

/-! ## rest -/

section
variable (s : State) (q : List Instr)

@[simp] theorem rest_now : (s.rest q).now = s.now := rfl
@[simp] theorem rest_free : (s.rest q).free = s.free := rfl
@[simp] theorem rest_out : (s.rest q).out = s.out := rfl
@[simp] theorem rest_mem : (s.rest q).mem = s.mem := rfl
@[simp] theorem rest_supply : (s.rest q).supply = s.supply := rfl
@[simp] theorem rest_clk : (s.rest q).clk = s.clk := rfl
@[simp] theorem rest_ccfg : (s.rest q).ccfg = s.ccfg := rfl
@[simp] theorem rest_wt : (s.rest q).wt = s.wt := rfl
@[simp] theorem rest_links : (s.rest q).links = s.links := rfl
@[simp] theorem rest_pwr : (s.rest q).pwr = s.pwr := rfl
@[simp] theorem rest_rcd : (s.rest q).rcd = s.rcd := rfl
@[simp] theorem rest_flt : (s.rest q).flt = s.flt := rfl
@[simp] theorem rest_cmd : (s.rest q).cmd = s.cmd := rfl
@[simp] theorem rest_sw : (s.rest q).sw = s.sw := rfl
@[simp] theorem rest_drv : (s.rest q).drv = s.drv := rfl
@[simp] theorem rest_fld : (s.rest q).fld = s.fld := rfl
@[simp] theorem rest_loom : (s.rest q).loom = s.loom := rfl
@[simp] theorem rest_weft : (s.rest q).weft = s.weft := rfl
@[simp] theorem rest_can : (s.rest q).can = s.can := rfl
@[simp] theorem rest_nm : (s.rest q).nm = s.nm := rfl
@[simp] theorem rest_eth : (s.rest q).eth = s.eth := rfl
@[simp] theorem rest_far : (s.rest q).far = s.far := rfl
@[simp] theorem rest_twin : (s.rest q).twin = s.twin := rfl
@[simp] theorem rest_acc : (s.rest q).acc = s.acc := rfl
@[simp] theorem rest_id : (s.rest q).id = s.id := rfl
@[simp] theorem rest_pending : (s.rest q).pending = q := rfl

end

end Sys2Proof.Machine
end

