-- ==== Sys2Proof/Tests/Slice0.lean ====
section
/-! SUPPORT. The model's own tests: the values of the spec's worked examples, ill-formed commands for each check of WellFormed, and for every
statement of the obligations a state and operands that meet its hypotheses. -/

namespace Sys2Proof.Tests

open Sys2Proof Sys2Proof.Machine

set_option Elab.async false

/-! ## Worked values of the spec -/

/-- R274: the check value over "123456789". -/
theorem test_crc32c_check : crc32c [0x31, 0x32, 0x33, 0x34, 0x35, 0x36, 0x37, 0x38, 0x39] = 0xE3069283 := by decide +kernel

/-- R93, the table of examples: results and flags of DADD, DADC, ADD.B, DADJ and CVBD. -/
theorem test_decimal_examples :
    (decF false 0 0x99999998 0x00000005 0).1 = 0x00000003 ∧
    (decF false 0 0x99999998 0x00000005 0).2 = 0b10001 ∧
    decF false 0b00001 0x00000012 0 1 = (0x00000013, 0) ∧
    (addF 0 8 0x38 0x45 0).1 = 0x7D ∧ getF (addF 0 8 0x38 0x45 0).2 fC = false ∧ getF (addF 0 8 0x38 0x45 0).2 fH = false ∧
    (dadjF 0 0x7D).1 = 0x83 ∧ getF (dadjF 0 0x7D).2 fC = false ∧
    (addF 0 8 0x19 0x28 0).1 = 0x41 ∧ getF (addF 0 8 0x19 0x28 0).2 fH = true ∧
    (dadjF 0b10000 0x41).1 = 0x47 ∧ getF (dadjF 0b10000 0x41).2 fC = false ∧
    (addF 0 8 0x99 0x01 0).1 = 0x9A ∧ (dadjF 0 0x9A).1 = 0 ∧ getF (dadjF 0 0x9A).2 fC = true ∧ getF (dadjF 0 0x9A).2 fZ = true ∧
    (cvbdF 0 0x1267).1 = 0x4711 ∧ getF (cvbdF 0 0x1267).2 fC = false := by decide +kernel

/-- An instruction at address 0. -/
def insAt (ws : List Nat) : Ins := ({ State.reset with mem := Memory.writeBytes [] 0 (ws.flatMap (le 4)) } : State).fetchIns 0

/-- R81: the worked cycle counts. -/
theorem test_cycle_examples :
    (insAt [0x120101C2]).cycles = 2 ∧ (insAt [0x12834020, 8, 0x10000040, 5]).cycles = 6 ∧ (insAt [0x4D642000, 1]).cycles = 4 ∧
    (insAt [0x120101C2]).legal = true ∧ (insAt [0x12834020, 8, 0x10000040, 5]).legal = true ∧ (insAt [0x4D642000, 1]).legal = true := by
  decide +kernel

/-- Spec/05, the LED strips: the on-time of DUTY 768 and the on_start of rank 1, in units of 20 ns. -/
theorem test_led_strips : onTime 25000 768 = 18750 ∧ firstOn 0 25000 128 0 = 3125 := by decide +kernel

/-- A channel of 1.2 A with profile 1 in segment `k`. -/
def lamp (k : Nat) : State :=
  State.reset.onChan 33 fun x => { x with cfg := { x.cfg with iNom := 1200, profile := 1 }, run := { x.run with profile := 1, segment := k } }

/-- Spec/05, the marker lamp: the limits in force and the ends of the segments. -/
theorem test_marker_lamp :
    (lamp 1).limit 33 = 12000 ∧ (lamp 2).limit 33 = 7200 ∧ (lamp 3).limit 33 = 3600 ∧ (lamp 4).limit 33 = 1800 ∧ (lamp 0).limit 33 = 1500 ∧
    (lamp 1).segmentEnd 33 = 2000 ∧ (lamp 4).segmentEnd 33 = 77000 ∧ profBlank (predefined 1) = 80000 := by decide +kernel

/-- The contactor AC01 of the worked example of spec/07. -/
def contactor : Coil :=
  let x := (State.reset.coil 0)
  { x with
    closeLearned := 3880
    dropLearned := 400
    cfg := { x.cfg with iPeak := 4500, iHold := 1500, holdFloor := 400, holdMinEn := true, holdMargin := 50, tBoostMin := 100, tBoostMax := 800,
                        boostExtend := 100, learnEn := true } }

/-- Spec/07: T_BOOST_IN_FORCE, the hold in force, T_CLOSE_LEARNED. -/
theorem test_contactor : contactor.tBoostUs = 4880 ∧ contactor.holdInForce = 600 ∧ quarter 3880 3920 = 3890 := by decide +kernel

/-- R434: no delay at 3 failures, 2 s at 4, at most 256 s. -/
theorem test_failure_delay : delayOf 3 = 0 ∧ delayOf 4 = 2 ∧ delayOf 11 = 256 ∧ delayOf 255 = 256 := by decide +kernel

/-- R142, R147, R184: the needs of the spare fan and of the three-way valve of spec/06, in units of 0.1 A. -/
theorem test_admission_needs :
    let s := State.reset.onChan 11 fun x => { x with cfg := { x.cfg with iNom := 5000, profile := 4 } }
    let v := State.reset.onChan 13 fun x => { x with cfg := { x.cfg with iNom := 1000, profile := 7 } }
    s.onNeed 11 { mode := .on, duty := 0, phase := 0, arg := 0 } = 300 ∧ v.onNeed 13 { mode := .on, duty := 0, phase := 0, arg := 0 } = 13 := by
  decide +kernel

/-! ## Ill-formed commands -/

/-- A CAN frame of 11-bit identifier `id` and length `n`, remote or not. -/
def canFrame (id n : Nat) (rtr fdf : Bool) : CanFrame :=
  { CanFrame.own id false rtr fdf false n [] with dlc := n }

/-- A poll whose first slot heard a frame of a token number and a turnaround. -/
def uwbSeen (id turn : Nat) : Vector SlotSeen 8 :=
  Vector.replicate 8 (.frame { strong := { sts := [], round := 0 }, weak := { sts := [], round := 0 }, id := id, turn := turn, mic := [], ratio := 0 })

/-- A voltage past its monitor's range is ill formed in every command that has one (R32, R198). -/
theorem test_ill_volts :
    ([.auxLoss 65536, .reserveEnd 65536 false none, .pwrLow 0 65536, .openLoadOffDetect 0 65536, .loadReturnedOff 0 65536, .vboostReady 131072,
      .vboostOv 131072, .boostFail 131072, .vboostAtVbSet 131072, .fieldStart 65536, .fieldStop 65536, .supplyMonitorUpdate 65536 0 0 0 0,
      .supplyMonitorUpdate 0 65536 0 0 0, .supplyMonitorUpdate 0 0 65536 0 0, .supplyMonitorUpdate 0 0 0 65536 0,
      .supplyMonitorUpdate 0 0 0 0 65536] : List Instr).all (fun c => !c.wellFormed) = true := by decide +kernel

/-- Multiplexers, warp corrections, objects, group periods, field offsets and the sums of a field group (R50, R54, R110, R144, R270, R260). -/
theorem test_ill_objects :
    ([.clkstuck 2, .clkstuck 19, .frameMark [(3, 0)] none none [], .frameMark [(1, 0), (1, 0)] none none [], .frameMark [] (some 49) none [],
      .frameMark [] none (some 0x80) [], .frameMark [] none none [0], .commandDue 49 true, .pgPeriodWrite 0 8388608, .fieldConfigWrite 2 0,
      .fieldConfigWrite 256 0, .fieldConfigWrite 0 4294967296, .groupLimit 0 [1]] : List Instr).all (fun c => !c.wellFormed) = true := by decide +kernel

/-- Packets, frames, identities, addresses, sequence numbers and wake sources (R280, R334, R364, R374, R378, R379, R384, R398, R423, R506). -/
theorem test_ill_frames :
    ([.packetReceive (.udp 4294967296 0 0 []) [], .packetReceive (.udp 0 65536 0 []) [], .packetReceive (.udp 0 0 65536 []) [], .canFrameReceive 0 (canFrame 2048 0 false false) 0 0 none,
      .canFrameReceive 0 (canFrame 0 9 false false) 0 0 none, .canFrameReceive 0 (canFrame 0 9 false true) 0 0 none,
      .canFrameReceive 0 (canFrame 0 1 false false) 0 0 none, .canFrameReceive 0 (canFrame 0 0 false false) 0 125 none,
      .canWakeDetect 0 (.frame (canFrame 0 0 true true)), .ethFrameReceive 0 [], .macAgeOut 281474976710656,
      .ipAddress (some { addr := 4294967296, mask := 0, gateway := 0, secs := 0 }) none, .ipAddress none (some 281474976710656),
      .dhcpRenewal none (some 281474976710656), .dhcpLeaseLost (some 281474976710656), .modbusFrameReceive 0 (List.replicate 257 0) false,
      .twinRetransmit 4294967296, .uwbPoll (uwbSeen 18446744073709551616 0), .uwbPoll (uwbSeen 0 1099511627776), .sleepWake 0 0, .sleepWake 9 0,
      .sleepWake 1 256] : List Instr).all (fun c => !c.wellFormed) = true := by decide +kernel

/-- The same commands with their operands in range are well formed. -/
theorem test_well_formed :
    ([.auxLoss 9000, .clkstuck 18, .frameMark [(1, 0), (2, -1)] (some 48) (some 0x81) [3], .fieldConfigWrite 4 1, .groupLimit 0 (List.replicate 8 1),
      .canFrameReceive 0 (canFrame 2047 8 true false) 0 124 none, .uwbPoll (uwbSeen 1 1), .sleepWake 8 0] : List Instr).all Instr.wellFormed = true := by
  decide +kernel

/-! ## States that meet the hypotheses of the statements -/

def zr : CmdRef := .ungrouped 0

/-- A command with parameters, taken by the service core. -/
def zq (op : Nat) (ps : List Byte) : Cmd :=
  { id := 1, src := .session 0, addr := 0, port := 0, opcode := op, flags := 0, posted := false, fence := false, tag := 0, group := none,
    session := 0, params := ps, accepted := true, stage := .service, msn := 0, mirr := false, begunAt := none }

/-- The command begun, outside any group. -/
def begins (s : State) (q : Cmd) : State :=
  s.onCmd fun c => { c with serving := true, sources := c.sources.upd 0 fun x => { x with exec := some q } }

/-- A shuttle word, and the word at the head of a link. -/
def zw (typ : Nat) (p : BitVec 64) : ShWord := ShWord.make typ 0 p

def word (s : State) (k : LinkNo) (typ : Nat) (p : BitVec 64) : State := s.onLink k fun l => { l with fly := [zw typ p], rxSeq := 0 }

/-- The state at a true time. -/
def atNow (s : State) (t : Nat) : State := { s with now := max s.now t }

/-- The state at a warp time. -/
def atWarp (s : State) (t : Nat) : State := s.onWt fun w => { w with warp := BitVec.ofNat 64 t }

/-- A weft of one task with one segment, and a state in which it runs. -/
def zweft : Weft :=
  { image := [], id := 1, layout := 1, secVersion := 0, carryTag := 0
    tasks := [{ entry := 0, winLo := 0, winHi := 31, period := 1, phase := 0, wcet := 1000, deadline := 1, policy := .continue }]
    frameMap := [0], templates := [[{ start := 0, task := 0, budget := 100 }]], envelope := [], decl := { chans := [], acts := [], sheds := [], adopts := [], status := none }, data := none, carry := none, autostart := true }

def zrun (z : State) : State := z.onWeft fun x => { x with store := Tab.fill 2 (some zweft), running := some 0 }

/-- An image whose header passes the first checks. -/
def zimg : List Byte :=
  le 4 0x54464557 ++ le 2 1 ++ le 2 128 ++ le 4 200 ++ le 4 0 ++ le 4 0x4812 ++ le 2 1000 ++ le 2 1000 ++ le 1 1 ++ le 1 1 ++ le 1 5 ++ zeros 173

/-- A bobbin engine at word 0 of program 1, which is `w`. -/
def zbob (z : State) (w : Nat) : State :=
  ({ z with mem := Memory.writeBytes [] 0x22100100 (le 4 w) } : State).onCoil 0 fun x =>
    { x with eng := { x.eng with run := true, program := 1, c := Tab.fill 2 2 } }

/-- A packet of an opcode 0x0102, in a group and a session. -/
def zpkt (g session : Nat) : List Byte :=
  let b := [1, 0] ++ le 2 0x0102 ++ le 2 0 ++ le 1 g ++ [0] ++ le 4 session ++ zeros 4
  b ++ le 4 (crc32c b)

def zsess : Session :=
  { id := 7, khd := [], kdh := [], keyId := [], ownerId := [], notify := false, top := 0, seen := [], txSeq := 0, addr := 0, lastAt := 0 }

/-- Source 0 with one window. -/
def zwin (z : State) (w : Window) : State :=
  z.onCmd fun c => { c with sources := c.sources.upd 0 fun x => { x with windows := Tab.fill 4 (some w), notes := [zeros 32] } }

/-- Both Ethernet ports up, two addresses learned at the second; a frame to one of them. -/
def zeth (z : State) : State :=
  (((z.onClk fun x => { x with settled := true }).onPort 0 fun x => { x with link := .up }).onPort 1 fun x => { x with link := .up }).onEth fun x =>
    { x with macs := [{ addr := 2, port := 2, at_ := 0 }, { addr := 4, port := 2, at_ := 0 }] }

def zbody (d : Byte) : List Byte := [d, 0, 0, 0, 0, 0, 1, 0, 0, 0, 0, 0] ++ zeros 48

def zframe (d : Byte) : List Byte := zbody d ++ le 4 (crc32 (zbody d))

def ztf (typ : Nat) (p : List Byte) : List Byte :=
  let b := [BitVec.ofNat 8 typ, 0] ++ le 2 p.length ++ le 4 0 ++ le 4 1 ++ p
  b ++ le 4 (crc32c b)

def zlink (z : State) : State := (z.onTwin fun t => { t with linkUp := true, en := true }).onClk fun c => { c with i8Run := true }

def zshadow (z : State) : State := (zlink z).onTwin fun t => { t with role := .shadow, pair := .pairing, agreed := true }

def zfly : TwinFly := { typ := 0x20, epoch := 0, seq := 0, payload := [], msn := some 1, last := false, sentAt := 0, firstAt := 0, repeats := 0 }

def zlead (z : State) : State := z.onTwin fun t => { t with role := .lead, pair := .paired, fly := [zfly] }

def zhello : Hello := { side := false, running := false, proto := 0, serial := [], nonce := [], check := [] }

def zhand (z : State) (cmd : Option Nat) (gone : Bool) : State :=
  (zlink z).onTwin fun t => { t with handover := some { frame := 0, cmd := cmd, accepted := false, gone := gone } }

def zhdr : List Byte :=
  le 4 0x54464557 ++ le 2 1 ++ le 2 128 ++ le 4 200 ++ le 4 0 ++ le 4 0x4812 ++ le 2 1000 ++ le 2 1000 ++ le 1 1 ++ le 1 1 ++ le 1 5 ++ zeros 173

/-- The Loom at address 0x100, with words there, in a segment that ends at a frame cycle. -/
def zloom (z : State) (ws : List Nat) : State :=
  (({ z with mem := Memory.writeBytes [] 0x100 (ws.flatMap (le 4)) } : State).onLoom fun l => { l with pc := 0x100, rep := none, mul := none, seg := some ⟨0, 0, 1000⟩, cyc := 0 }).onPwr
    fun p => { p with islandUp := p.islandUp.put 1 true }

def zseg : Seg := { task := 0, index := 0, stop := 1000 }

def ztok : Token := { id := 1, key := [], opSec := 0 }
def zburst : Burst := { startAt := 0, channel := 5, range := 150, polls := 0, invalid := none, seen := 0 }
def zacc (z : State) : State := z.onAcc fun a => { a with running := true, burst := some zburst, tokens := (Tab.fill 32 none).put 0 (some ztok) }
def zjournal (blocks done : Nat) (p : List Byte) : Journal := { digest := imageDigest p, version := 1, security := 0, blocks := blocks, done := done }

def zload (z : State) (j : Journal) (waiting : Bool) : State := z.onId fun k => { k with journal := some j, loader := true, waiting := waiting }

def zbuf : Buffered := { record := { code := 1, source := 0, severity := 0, opSec := 0, subsec := 0, cycles := 0, p0 := 0, p1 := 0, p2 := 0 }, at_ := 0, fails := 0, cmd := none }
def zrec (z : State) : State := (z.onPwr fun p => { p with domains := Tab.fill 10 true }).onRcd fun r => { r with buffer := [zbuf] }

/-- The state at a count of ticks. -/
def atTick (s : State) (t : Nat) : State := s.onWt fun w => { w with ticks := t }

def zside (z : State) : State :=
  ({ z with fld := { z.fld with side := FieldSide.start 1 0 24000, frameAt := none } } : State).onPwr fun p => { p with islandUp := Tab.fill 9 true }

def zses (z : State) : State :=
  ((z.onCmd fun c => { c with serving := true, rxUntil := 0, sessions := Tab.fill 4 (some zsess) })).onGroup 5 fun x => { x with holder := .src (.session 0) }

def zwrap : List Byte := le 4 7 ++ le 8 1 ++ gcmSealed zsess.khd (le 4 7 ++ le 8 1) (le 4 7 ++ le 8 1) (zpkt 5 7)

def zslot (s : State) : Fin 8 := ⟨pollSlot ztok (le 8 s.pollNonce.1), Nat.mod_lt _ (by decide)⟩

/-- A reply of the token in a slot: the turnaround of R423 in the counter's units. -/
def replyOf (n : List Byte) (k : Fin 8) (extra : Nat) : UwbFrame :=
  let turn := ((tReply k.1 * 63897600 + 999999999) / 1000000000).toNat
  { strong := { sts := ztok.sts n, round := turn + extra }, weak := { sts := [1], round := 0 }, id := 1, turn := turn
    mic := Config.ccmMic ztok.key n (le 8 1 ++ le 5 turn), ratio := 0 }

def zreply (s : State) (extra : Nat) : UwbFrame := replyOf (le 8 s.pollNonce.1) (zslot s) extra

def zseen (s : State) (extra : Nat) : Vector SlotSeen 8 := Vector.ofFn fun j => if j = zslot s then .frame (zreply s extra) else .empty

def zboot (z : State) : State :=
  (z.onId fun k => { k with resetAt := some 0, watch := none, armed := none, journal := none }).onPwr fun p => { p with islandUp := Tab.fill 9 true }

def zbuf2 : Buffered := { zbuf with record := { zbuf.record with source := 5 } }
def zrec2 (z : State) : State := (z.onPwr fun p => { p with domains := Tab.fill 10 true }).onRcd fun r => { r with buffer := [zbuf2] }


def z : State := State.reset

/-- Only token 0 is enrolled. -/
theorem zknown {α : Type} (g : TokNo → Token → Option α) :
    (allTokens.filterMap fun i => ((zacc z).acc.tokens.get i).bind (g i)) = (g 0 ztok).toList := by
  have h : ∀ i ∈ allTokens.tail, (zacc z).acc.tokens.get i = none := by decide +kernel
  have h0 : (zacc z).acc.tokens.get 0 = some ztok := by decide +kernel
  have hn : (allTokens.tail.filterMap fun i => ((zacc z).acc.tokens.get i).bind (g i)) = [] := by
    simpa [List.filterMap_eq_nil_iff] using fun i hi => by simp [h i hi]
  rw [show allTokens = 0 :: allTokens.tail by decide +kernel, List.filterMap_cons, h0, hn]
  cases hg : g 0 ztok <;> simp [hg]

/-- A turnaround in the counter's units lies in its slot. -/
theorem zturn : ∀ k : Fin 8,
    (tReply k.1 - 20000) * 63897600 ≤ (((tReply k.1 * 63897600 + 999999999) / 1000000000).toNat : Int) * 1000000000 ∧
    (((tReply k.1 * 63897600 + 999999999) / 1000000000).toNat : Int) * 1000000000 ≤ (tReply k.1 + 20000) * 63897600 := by decide +kernel

/-- A reply of token 0 in its slot, at no distance, is judged valid. -/
theorem zjudge (n : List Byte) (k : Fin 8) (f : UwbFrame) (hk : pollSlot ztok n = k.1) (hs : f.strong.sts = ztok.sts n)
    (hr : f.strong.round = f.turn) (hm : f.mic = Config.ccmMic ztok.key n (le 8 f.id ++ le 5 f.turn)) (hi : f.id = 1)
    (ht : f.turn = ((tReply k.1 * 63897600 + 999999999) / 1000000000).toNat) (hq : f.ratio = 0) :
    (zacc z).acc.judge n k.1 (.frame f) = .valid 0 0 := by
  have hu : f.under ztok n = some (f.turn, true) := by simp [UwbFrame.under, UwbFrame.heard, UwbFrame.micOk, hs, hr, hm]
  have hb : (f.turn : Int) * 1000000000 = f.scaled := by simp [UwbFrame.scaled, hq]
  have ho : f.turnOk k.1 = true := by
    have h := zturn k
    rw [← ht] at h
    simp [UwbFrame.turnOk, ← hb, h]
  unfold Access.judge
  simp only [zknown fun i t => (f.under t n).map fun r => (i, t, r), hu]
  simp [hk, ho, ← hb, hi, show ztok.id = 1 from rfl, Int.mul_comm]

theorem replyOf_valid (n : List Byte) (k : Fin 8) (hk : pollSlot ztok n = k.1) :
    (zacc z).acc.judge n k.1 (.frame (replyOf n k 0)) = .valid 0 0 := 
  zjudge n k (replyOf n k 0) hk rfl (by simp [replyOf]) rfl rfl rfl rfl

theorem zvalid (s : State) : (zacc z).acc.judge (le 8 s.pollNonce.1) (zslot s).1 (.frame (zreply s 0)) = .valid 0 0 :=
  replyOf_valid _ _ rfl

/-- With no token enrolled every frame is judged unauthentic. -/
theorem zjudgeNone (n : List Byte) (k : Nat) (f : UwbFrame) (a : Access) (h : ∀ i : TokNo, a.tokens.get i = none) :
    a.judge n k (.frame f) = .invalid 0 := by
  simp [Access.judge, h]

theorem zseen_get (s : State) (e : Nat) (j : Fin 8) : (zseen s e)[j] = if j = zslot s then .frame (zreply s e) else .empty := by
  simp [zseen]

/-- A sealed part is as long as its packet and 16 bytes. -/
theorem zsealed (k n d p : List Byte) : (gcmSealed k n d p).length = p.length + 16 := by
  simp [gcmSealed, padTo, zeros]; omega

/-- The wrapper of a packet opens to it under its session's key. -/
theorem zopens : zsess.opens zwrap (zpkt 5 7) = true := by
  have h : (le 4 7 ++ le 8 1).length = 12 := by decide +kernel
  unfold Session.opens zwrap
  rw [List.take_left' h, List.drop_left' h]
  exact beq_self_eq_true _

theorem zslice (a b : List Byte) (i n : Nat) (h : i + n ≤ a.length) : slice (a ++ b) i n = slice a i n := by
  rw [slice, slice, List.drop_append_of_le_length (by omega), List.take_append_of_le_length (by simp; omega)]

theorem zwrapId : u32 zwrap 0 = 7 := by
  unfold u32 zwrap
  rw [zslice _ _ _ _ (by decide +kernel)]
  decide +kernel

theorem zwrapSeq : ofLe (slice zwrap 4 8) = 1 := by
  unfold zwrap
  rw [zslice _ _ _ _ (by decide +kernel)]
  decide +kernel

theorem zwrapOk : wrapperOk zwrap = true := by
  have h : zwrap.length = 12 + ((zpkt 5 7).length + 16) := by
    unfold zwrap; rw [List.length_append, zsealed, show (le 4 7 ++ le 8 1).length = 12 by decide +kernel]
  have hp : (zpkt 5 7).length = 20 := by decide +kernel
  unfold wrapperOk
  rw [zwrapId, h, hp]
  decide

/-- An ATTEST frame of 302 zero bytes, without its CRC. -/
def zatt : List Byte := [2, 0] ++ le 2 302 ++ zeros 4 ++ le 4 1

def zpair : State := (zlink z).onTwin fun x => { x with pair := .pairing, hello := some zhello }

def zattf : List Byte := zatt ++ (zeros 100 ++ (zeros 100 ++ zeros 102)) ++ le 4 (3862719775 ^^^ 0xFFFFFFFF)

def zcrc (c : Nat) (p : List Byte) : Nat := p.foldl (fun c b => crcReflStep 0x82F63B78 8 (c ^^^ b.toNat)) c

theorem zcrc_append (c : Nat) (p q : List Byte) : zcrc c (p ++ q) = zcrc (zcrc c p) q := by simp [zcrc]

theorem zcrc_crc (p : List Byte) : crc32c p = zcrc 0xFFFFFFFF p ^^^ 0xFFFFFFFF := rfl

theorem zattCrc : crc32c (zatt ++ (zeros 100 ++ (zeros 100 ++ zeros 102))) = 3862719775 ^^^ 0xFFFFFFFF := by
  have h1 : zcrc 0xFFFFFFFF zatt = 2004310985 := by decide +kernel
  have h2 : zcrc 2004310985 (zeros 100) = 1926416242 := by decide +kernel
  have h3 : zcrc 1926416242 (zeros 100) = 1398202698 := by decide +kernel
  have h4 : zcrc 1398202698 (zeros 102) = 3862719775 := by decide +kernel
  rw [zcrc_crc, zcrc_append, zcrc_append, zcrc_append, h1, h2, h3, h4]

theorem zattOk : zpair.twin.frameOk zattf = true := by
  have hn : u16 zattf 2 = 302 := by decide +kernel
  have ht : zattf.take (12 + 302) = zatt ++ (zeros 100 ++ (zeros 100 ++ zeros 102)) := by decide +kernel
  unfold Twin.frameOk
  simp only [hn, ht, zattCrc]
  decide +kernel


/-- Without a release since the latest evaluation τ plays no part in the dissipation (R40). -/
theorem zdiss (s : State) (h : ∀ c : AcNo, (s.coil c).relMa = 0) :
    s.dissipation = electronics + (allCh.map s.channelLoss).sum + (allAc.map s.coilLoss).sum + s.boostLoss + s.fieldLoss := by
  simp [State.dissipation, State.releaseLoss, h]

/-- Does a command answer a next state? -/
def goes (s : State) (c : Instr) : Bool := match exec c s with | .next _ => true | _ => false

theorem goes_next {s : State} {c : Instr} (h : goes s c = true) : ∃ t, exec c s = .next t := by
  unfold goes at h
  split at h
  · exact ⟨_, ‹_›⟩
  · cases h

theorem all_go {l : List Instr} (h : l.all (goes z) = true) : ∀ c ∈ l, ∃ t, exec c z = .next t :=
  fun c hc => goes_next (List.all_eq_true.mp h c hc)

def zcan : CanFrame := canFrame 0 0 false false

theorem test_witness_StepRunsFront :
    ∃ (s : State) (c : Instr) (q : List Instr), s.pending = c :: q :=
  ⟨({ z with pending := [.nop] } : State), .nop, [], by decide +kernel⟩

theorem test_witness_EmptyQueueTicks :
    ∃ (s : State), s.pending = [] :=
  ⟨z, by decide +kernel⟩

theorem test_witness_ForbiddenRepeat :
    ∃ (s : State) (g : Seg) (row : Nat), (row = 0x74 ∨ row = 0x75) ∧ LoomAt s g row ∧
      (s.fetchIns s.nowIns.after).opc ∈ [0x60, 0x61, 0x62, 0x63, 0x64, 0x65, 0x74, 0x75, 0x7A, 0x7B] ∧ s.loom.cyc + 4 ≤ g.stop :=
  ⟨zloom z [0x74000000, 0x60000000], zseg, 0x74, by unfold LoomAt; decide +kernel⟩

theorem test_witness_HostBudget :
    (∃ (v : Nat), v < 65536 ∧ v ≤ 600) ∧
    (∃ (v : Nat), v < 65536 ∧ v ≤ 600) ∧
    (∃ (v : Nat), v < 65536 ∧ 600 < v) :=
  ⟨⟨0, by decide +kernel⟩,
   ⟨0, by decide +kernel⟩,
   ⟨601, by decide +kernel⟩⟩

theorem test_witness_FalseWake :
    (∃ (s : State) (c : CanNo), (s.nmCh c).state = .listen ∧ 1000 * s.nm.cfg.falseWakeT ≤ s.since (s.nmCh c).since) ∧
    (∃ (s : State) (c : CanNo), ((s.nmCh c).state ≠ .listen ∨ s.since (s.nmCh c).since < 1000 * s.nm.cfg.falseWakeT)) :=
  ⟨⟨atNow (z.onNmCh 0 fun x => { x with state := .listen }) 100000000, 0, by decide +kernel⟩,
   ⟨z, 0, by decide +kernel⟩⟩

theorem test_witness_NmKeeper :
    (∃ (s : State) (c : CanNo), (s.nmCh c).state = .ready ∧ (s.nmCh c).keeperSaid = false ∧ 1000000 * s.nm.cfg.keepLimit ≤ s.since (s.nmCh c).since) ∧
    (∃ (s : State) (c : CanNo), ((s.nmCh c).state ≠ .ready ∨ (s.nmCh c).keeperSaid = true ∨ s.since (s.nmCh c).since < 1000000 * s.nm.cfg.keepLimit)) :=
  ⟨⟨atNow (z.onNmCh 0 fun x => { x with state := .ready }) 1000000000000, 0, by decide +kernel⟩,
   ⟨z, 0, by decide +kernel⟩⟩

theorem test_witness_SupplyCommandsComplete :
    (∃ (s : State), s.supply.loss = none) ∧
    (∃ (s : State) (l : AuxLoss), s.supply.loss = some l ∧ 30000 ≤ s.since l.at_ ∧ l.restored = false) ∧
    (∃ (s : State) (l : AuxLoss), s.supply.loss = some l) ∧
    (∃ (s : State) (p : PwrNo), s.supply.low.get p = false ∧ s.pwr.state ≠ .off) ∧
    (∃ (s : State) (p : PwrNo), s.supply.low.get p = true ∧ s.pwr.state ≠ .off) ∧
    (∃ (s : State), s.supply.vbusOn = true) ∧
    (∃ (s : State), s.supply.vbusOn = false ∧ 1000000 ≤ s.since s.supply.vbusOffAt) ∧
    (∃ (s : State) (aux : Nat) (a : Nat) (b : Nat) (c : Nat) (d : Nat), withinMaxima aux a b c d = true ∧ s.supply.loss = none) ∧
    (∃ (aux : Nat) (a : Nat) (b : Nat) (c : Nat) (d : Nat), withinMaxima aux a b c d = false) :=
  ⟨⟨z, by decide +kernel⟩,
   ⟨atNow (z.onSupply fun x => { x with loss := some { at_ := 0, lowest := 0, restored := false, wrote := false } }) 30000, { at_ := 0, lowest := 0, restored := false, wrote := false }, by decide +kernel⟩,
   ⟨z.onSupply fun x => { x with loss := some { at_ := 0, lowest := 0, restored := false, wrote := false } }, { at_ := 0, lowest := 0, restored := false, wrote := false }, by decide +kernel⟩,
   ⟨z, 0, by decide +kernel⟩,
   ⟨z.onSupply fun x => { x with low := Tab.fill 4 true }, 0, by decide +kernel⟩,
   ⟨z, by decide +kernel⟩,
   ⟨atNow (z.onSupply fun x => { x with vbusOn := false }) 1000000, by decide +kernel⟩,
   ⟨z, 24000, 24000, 24000, 24000, 24000, by decide +kernel⟩,
   ⟨100000, 0, 0, 0, 0, by decide +kernel⟩⟩

theorem test_witness_PowerCommandsComplete :
    (∃ (s : State), s.pwr.coldDue = true) ∧
    (∃ (s : State), s.pwr.state = .run ∧ s.cmd.serving = true ∧ s.pwr.entering = false ∧ s.idleOk none = true ∧ 1000 * s.pwr.t1 ≤ s.since s.pwr.idleSince) ∧
    (∃ (s : State), s.pwr.state = .idle) ∧
    (∃ (s : State), s.pwr.entering = true ∧ s.rcd.buffer = [] ∧ s.pwr.latched = none) ∧
    (∃ (s : State), s.pwr.entering = false ∧ s.pwr.forced = none ∧ s.pwr.state = .idle ∧ s.sleepBlock none = 0 ∧
      1000000 * s.pwr.t2 ≤ s.since s.pwr.sleepSince) ∧
    (∃ (s : State), s.pwr.state = .sleep ∧ s.pwr.latched = none ∧ s.forcedTo = some .deep) ∧
    (∃ (s : State), s.pwr.state = .deep ∧ s.pwr.latched = none ∧ s.forcedTo = some .off) ∧
    (∃ (s : State) (src : Nat) (d : Nat), s.supply.loss = none ∧ s.pwr.entering = false ∧ s.pwr.state = .sleep ∧ s.pwr.latched = some (src, d)) ∧
    (∃ (s : State), s.awake = true ∧ s.pwr.entering = false) ∧
    (∃ (s : State) (r : CmdRef) (q : Cmd), s.begun r = some q ∧ q.opcode = 0x0B01 ∧ q.params.length = 28 ∧ u32 q.params 0 = 0 ∧ 1 ≤ u32 q.params 4 ∧ u32 q.params 4 ≤ 10000 ∧
      1 ≤ u32 q.params 8 ∧ u32 q.params 8 ≤ 86400 ∧ 60 ≤ u32 q.params 12 ∧ u32 q.params 12 ≤ 2592000 ∧ u32 q.params 16 ≤ 3650 ∧
      u32 q.params 20 ≤ 2592000 ∧ u32 q.params 24 < 1024) ∧
    (∃ (s : State) (r : CmdRef) (q : Cmd), s.begun r = some q ∧ q.opcode = 0x0B02 ∧ q.params = [2, 0, 0, 0] ∧ s.weftBusy = false ∧ s.flt.forceSafe = false ∧ s.pairBusy = false) ∧
    (∃ (s : State) (r : CmdRef) (q : Cmd), s.begun r = some q ∧ q.opcode = 0x0B03 ∧ q.params = []) :=
  ⟨⟨z, by decide +kernel⟩,
   ⟨atNow (z.onCmd fun x => { x with serving := true }) 10000, by decide +kernel⟩,
   ⟨z.onPwr fun x => { x with state := .idle }, by decide +kernel⟩,
   ⟨z.onPwr fun x => { x with entering := true }, by decide +kernel⟩,
   ⟨atNow (z.onPwr fun x => { x with state := .idle }) 60000000, by decide +kernel⟩,
   ⟨z.onPwr fun x => { x with state := .sleep, forced := some (.deep, 0) }, by decide +kernel⟩,
   ⟨z.onPwr fun x => { x with state := .deep, forced := some (.off, 0) }, by decide +kernel⟩,
   ⟨z.onPwr fun x => { x with state := .sleep, latched := some (0, 0) }, 0, 0, by decide +kernel⟩,
   ⟨z, by decide +kernel⟩,
   ⟨begins z (zq 0x0B01 (le 4 0 ++ le 4 1 ++ le 4 1 ++ le 4 60 ++ le 4 3650 ++ le 4 2592000 ++ le 4 1023)), zr, zq 0x0B01 (le 4 0 ++ le 4 1 ++ le 4 1 ++ le 4 60 ++ le 4 3650 ++ le 4 2592000 ++ le 4 1023), by decide +kernel⟩,
   ⟨begins z (zq 0x0B02 [2, 0, 0, 0]), zr, zq 0x0B02 [2, 0, 0, 0], by decide +kernel⟩,
   ⟨begins z (zq 0x0B03 []), zr, zq 0x0B03 [], by decide +kernel⟩⟩

theorem test_witness_ClockCommandsComplete :
    (∃ (s : State), s.awake = true ∧ s.clk.xoEnabled = true ∧ s.clk.xoOk = false ∧ s.clk.stableAt = none ∧ s.clk.xoEver = false) ∧
    (∃ (s : State), s.awake = true ∧ s.clk.xoEnabled = true ∧ s.clk.xoOk = false ∧ s.clk.stableAt = none ∧ s.clk.xoEver = true) ∧
    (∃ (s : State), s.clk.xoOk = true ∧ s.clk.settled = false) ∧
    (∃ (s : State), s.clk.trimSrc ≠ 0) ∧
    (∃ (s : State), (s.clk.xoOk = true ∨ s.clk.stableAt.isSome = true)) ∧
    (∃ (s : State), s.awake = true ∧ s.clk.xoEnabled = true ∧ s.clk.xoOk = false ∧ s.clk.stableAt = none ∧ 20000 ≤ s.since s.clk.xoEnabledAt) ∧
    (∃ (s : State) (f : Nat), s.clk.retryFrom = some f ∧ s.awake = true ∧ s.clk.xoOk = false ∧ s.clk.stableAt = none ∧ f + 10000000 ≤ s.now) ∧
    (∃ (s : State) (i : Fin 6) (sync : Nat), 2 ≤ i.1 ∧ s.clk.avail.get i = true ∧ 3 * s.sourcePeriod i sync ≤ s.since (s.clk.validAt.get i)) ∧
    (∃ (m : Nat), (m ≤ 1 ∨ (10 ≤ m ∧ m ≤ 18))) ∧
    (∃ (s : State) (n : Isl), n.1 ≠ 0 ∧ n.1 ≠ 6 ∧ s.clk.onPll.get n = true) ∧
    (∃ (s : State), s.clk.refXo = true) ∧
    (∃ (s : State) (a : Nat), s.clk.stableAt = some a ∧ s.clk.xoOk = false ∧ a + 10000000 ≤ s.now ∧ (999950 ≤ s.warp % 1000000 ∨ s.warp % 1000000 = 0)) ∧
    (∃ (s : State) (hz : Nat), s.ccfg.syncInMode = 2 ∧ 9900000 ≤ hz ∧ hz ≤ 10100000) :=
  ⟨⟨z, by decide +kernel⟩,
   ⟨z.onClk fun x => { x with xoEver := true }, by decide +kernel⟩,
   ⟨z.onClk fun x => { x with xoOk := true }, by decide +kernel⟩,
   ⟨atNow (z.onClk fun x => { x with trimSrc := 2 }) 100000, by decide +kernel⟩,
   ⟨z.onClk fun x => { x with xoOk := true }, by decide +kernel⟩,
   ⟨atNow z 20000, by decide +kernel⟩,
   ⟨atNow (z.onClk fun x => { x with retryFrom := some 0 }) 10000000, 0, by decide +kernel⟩,
   ⟨atNow (z.onClk fun x => { x with avail := Tab.fill 6 true }) 1000000000, 2, 0, by decide +kernel⟩,
   ⟨18, by decide +kernel⟩,
   ⟨z, 2, by decide +kernel⟩,
   ⟨z.onClk fun x => { x with refXo := true }, by decide +kernel⟩,
   ⟨atNow (z.onClk fun x => { x with stableAt := some 0 }) 10000000, 0, by decide +kernel⟩,
   ⟨({ z with ccfg := { z.ccfg with syncInMode := 2 } } : State), 9900000, by decide +kernel⟩⟩

theorem test_witness_WarpCommandsComplete :
    (∃ (s : State), s.pwr.islandUp.get 3 = true) ∧
    (∃ (s : State), s.followsPtp = true ∧ s.weftActive = true) ∧
    (∃ (s : State) (ptp : Warp) (phase : Nat), s.followsPtp = true ∧ s.weftActive = false ∧ phase ≤ 1000 ∧ ptp ≠ s.wt.warp) ∧
    (∃ (s : State) (k : LinkNo) (j : LinkNo) (w : ShWord), k.back = some j ∧ (s.link k).unacked ≠ 0 ∧ WordAt s j tyAck w) ∧
    (∃ (s : State) (k : LinkNo), k.back = none ∧ (s.link k).unacked ≠ 0) ∧
    (∃ (s : State) (k : LinkNo) (w : ShWord) (rest : List ShWord), (s.link k).retry = w :: rest ∧ (s.link k).full = false) :=
  ⟨⟨z, by decide +kernel⟩,
   ⟨(z.onEth fun x => { x with synced := true }).onWeft fun x => { x with running := some 0 }, by decide +kernel⟩,
   ⟨z.onEth fun x => { x with synced := true }, 1000, 0, by decide +kernel⟩,
   ⟨(z.onLink 4 fun x => { x with fly := [zw tyAck 0], rxSeq := 0 }).onLink 0 fun x => { x with unacked := 1 }, 0, 4, zw tyAck 0, by unfold WordAt; decide +kernel⟩,
   ⟨z.onLink 6 fun x => { x with unacked := 1 }, 6, by decide +kernel⟩,
   ⟨z.onLink 0 fun x => { x with retry := [zw 1 0] }, 0, zw 1 0, [], by decide +kernel⟩⟩

theorem test_witness_ControlResults :
    (∃ (s : State) (g : Seg), LoomAt s g 0x60 ∧ s.loom.cyc + s.nowIns.cycles + 3 ≤ g.stop) ∧
    (∃ (s : State) (g : Seg) (k : Nat), LoomAt s g 0x61 ∧ k = bits s.nowIns.w 21 3 ∧ s.loom.wbase + 4 * k + 23 ≤ s.region.2 ∧ s.loom.cyc + s.nowIns.cycles + 3 ≤ g.stop) ∧
    (∃ (s : State) (g : Seg) (k : Nat) (p : Nat), LoomAt s g 0x62 ∧ 1 ≤ k ∧ k ≤ 6 ∧ p < 2 ^ 19 ∧ s.loom.reg 31 = p + 2 ^ 24 * k ∧ s.region.1 + 4 * k ≤ s.loom.wbase ∧
      s.loom.cyc + s.nowIns.cycles + 3 ≤ g.stop) ∧
    (∃ (s : State) (u : State) (g : Seg) (v : Nat), LoomAt s g 0x63 ∧ (settled s).readOp s.nowIns.a s.nowIns.xa 4 = (v, none, u) ∧ v < 0x80000 ∧ s.loom.cyc + s.nowIns.cycles + 3 ≤ g.stop) ∧
    (∃ (s : State) (g : Seg), LoomAt s g 0x64 ∧ s.weft.haltDue = false ∧ s.loom.cyc + s.nowIns.cycles ≤ g.stop) ∧
    (∃ (s : State) (g : Seg), LoomAt s g 0x65 ∧ s.weft.haltDue = false ∧ s.loom.cyc + s.nowIns.cycles ≤ g.stop) ∧
    (∃ (s : State) (u : State) (g : Seg) (v : Nat) (n : Ins), LoomAt s g 0x74 ∧ n = s.fetchIns s.nowIns.after ∧ noRepeat n.opc = false ∧
      (settled s).readOp s.nowIns.a s.nowIns.xa 4 = (v, none, u) ∧
      s.loom.cyc + s.nowIns.cycles + v % 65536 * (if n.legal then n.cycles else 1) + 3 ≤ g.stop) ∧
    (∃ (s : State) (u : State) (g : Seg) (v : Nat) (n : Ins), LoomAt s g 0x75 ∧ n = s.fetchIns s.nowIns.after ∧ noRepeat n.opc = false ∧
      (settled s).readOp s.nowIns.a s.nowIns.xa 4 = (v, none, u) ∧ s.loom.cyc + s.nowIns.cycles + 3 ≤ g.stop) ∧
    (∃ (s : State) (u : State) (x : State) (g : Seg) (a : Nat) (b : Nat) (k : LinkNo), LoomAt s g 0x78 ∧ (settled s).readOp s.nowIns.a s.nowIns.xa 4 = (a, none, u) ∧ u.readOp s.nowIns.b s.nowIns.xb 4 = (b, none, x) ∧
      k = portLink (bits s.nowIns.w 21 3) ∧ (s.link k).full = false ∧ s.loom.cyc + s.nowIns.cycles + 3 ≤ g.stop) ∧
    (∃ (s : State) (g : Seg) (port : Nat) (x : BitVec 64) (rest : List (BitVec 64)), LoomAt s g 0x79 ∧ port = bits s.nowIns.w 13 3 ∧ port ≠ 4 ∧ s.loom.rx.get (portQueue port) = x :: rest ∧ sMode s.nowIns.d = 0 ∧
      s.loom.cyc + s.nowIns.cycles + 3 ≤ g.stop) ∧
    (∃ (s : State) (g : Seg), LoomAt s g 0x7A ∧ s.unacked = 0 ∧ s.loom.cyc + s.nowIns.cycles + 3 ≤ g.stop) ∧
    (∃ (s : State) (u : State) (g : Seg) (v : Nat), LoomAt s g 0x7B ∧ (settled s).readOp s.nowIns.a s.nowIns.xa 4 = (v, none, u) ∧ 1 ≤ v ∧ v ≤ 37 ∧
      max (s.loom.cyc + s.nowIns.cycles) (6250 * v) + 3 ≤ g.stop) ∧
    (∃ (s : State) (g : Seg), LoomAt s g 0x7C ∧ sMode s.nowIns.d = 0 ∧ s.loom.cyc + s.nowIns.cycles + 3 ≤ g.stop) ∧
    (∃ (s : State) (u : State) (g : Seg) (v : Nat), LoomAt s g 0x7D ∧ (settled s).readOp s.nowIns.a s.nowIns.xa 4 = (v, none, u) ∧ bits s.nowIns.w 16 3 = 1 ∧ v < 32 ∧
      s.loom.cyc + s.nowIns.cycles + 3 ≤ g.stop) ∧
    (∃ (s : State) (u : State) (g : Seg) (v : Nat), LoomAt s g 0x7D ∧ (settled s).readOp s.nowIns.a s.nowIns.xa 4 = (v, none, u) ∧ bits s.nowIns.w 16 3 = 4 ∧ v < 65536 ∧
      s.loom.cyc + s.nowIns.cycles + 3 ≤ g.stop) :=
  ⟨⟨zloom z [0x60000000], zseg, by unfold LoomAt; decide +kernel⟩,
   ⟨zloom z [0x61200000], zseg, 1, by unfold LoomAt; decide +kernel⟩,
   ⟨(zloom z [0x62000000]).onLoom fun l => ({ l with wbase := 4 } : Loom).setReg 31 (2 ^ 24), zseg, 1, 0, by unfold LoomAt; decide +kernel⟩,
   (by refine ⟨zloom z [0x63000000], ((settled (zloom z [0x63000000])).readOp ((zloom z [0x63000000])).nowIns.a ((zloom z [0x63000000])).nowIns.xa 4).2.2, zseg, 0, by unfold LoomAt; decide +kernel, Prod.ext (by decide +kernel) (Prod.ext (by decide +kernel) rfl), ?_, ?_⟩ <;> decide +kernel),
   ⟨zloom z [0x64000000], zseg, by unfold LoomAt; decide +kernel⟩,
   ⟨zloom z [0x65000000], zseg, by unfold LoomAt; decide +kernel⟩,
   (by refine ⟨zloom z [0x74000000, 0x12000000], ((settled (zloom z [0x74000000, 0x12000000])).readOp ((zloom z [0x74000000, 0x12000000])).nowIns.a ((zloom z [0x74000000, 0x12000000])).nowIns.xa 4).2.2, zseg, 0, (zloom z [0x74000000, 0x12000000]).fetchIns (zloom z [0x74000000, 0x12000000]).nowIns.after, by unfold LoomAt; decide +kernel, rfl, ?_, Prod.ext (by decide +kernel) (Prod.ext (by decide +kernel) rfl), ?_⟩ <;> decide +kernel),
   (by refine ⟨zloom z [0x75000000, 0x12000000], ((settled (zloom z [0x75000000, 0x12000000])).readOp ((zloom z [0x75000000, 0x12000000])).nowIns.a ((zloom z [0x75000000, 0x12000000])).nowIns.xa 4).2.2, zseg, 0, (zloom z [0x75000000, 0x12000000]).fetchIns (zloom z [0x75000000, 0x12000000]).nowIns.after, by unfold LoomAt; decide +kernel, rfl, ?_, Prod.ext (by decide +kernel) (Prod.ext (by decide +kernel) rfl), ?_⟩ <;> decide +kernel),
   (by refine ⟨zloom z [0x78000000], ((settled (zloom z [0x78000000])).readOp ((zloom z [0x78000000])).nowIns.a ((zloom z [0x78000000])).nowIns.xa 4).2.2, (((settled (zloom z [0x78000000])).readOp ((zloom z [0x78000000])).nowIns.a ((zloom z [0x78000000])).nowIns.xa 4).2.2.readOp (zloom z [0x78000000]).nowIns.b (zloom z [0x78000000]).nowIns.xb 4).2.2, zseg, 0, 0, 0, by unfold LoomAt; decide +kernel, Prod.ext (by decide +kernel) (Prod.ext (by decide +kernel) rfl), Prod.ext (by decide +kernel) (Prod.ext (by decide +kernel) rfl), ?_, ?_, ?_⟩ <;> decide +kernel),
   ⟨(zloom z [0x79000000]).onLoom fun l => { l with rx := Tab.fill 3 [5] }, zseg, 0, 5, [], by unfold LoomAt; decide +kernel⟩,
   ⟨zloom z [0x7A000000], zseg, by unfold LoomAt; decide +kernel⟩,
   (by refine ⟨(zloom z [0x7B002000, 5]).onLoom fun l => { l with seg := some ⟨0, 0, 40000⟩ }, ((settled ((zloom z [0x7B002000, 5]).onLoom fun l => { l with seg := some ⟨0, 0, 40000⟩ })).readOp (((zloom z [0x7B002000, 5]).onLoom fun l => { l with seg := some ⟨0, 0, 40000⟩ })).nowIns.a (((zloom z [0x7B002000, 5]).onLoom fun l => { l with seg := some ⟨0, 0, 40000⟩ })).nowIns.xa 4).2.2, ⟨0, 0, 40000⟩, 5, by unfold LoomAt; decide +kernel, Prod.ext (by decide +kernel) (Prod.ext (by decide +kernel) rfl), ?_, ?_, ?_⟩ <;> decide +kernel),
   ⟨zloom z [0x7C000000], zseg, by unfold LoomAt; decide +kernel⟩,
   (by refine ⟨zloom z [0x7D010000], ((settled (zloom z [0x7D010000])).readOp ((zloom z [0x7D010000])).nowIns.a ((zloom z [0x7D010000])).nowIns.xa 4).2.2, zseg, 0, by unfold LoomAt; decide +kernel, Prod.ext (by decide +kernel) (Prod.ext (by decide +kernel) rfl), ?_, ?_, ?_⟩ <;> decide +kernel),
   (by refine ⟨zloom z [0x7D040000], ((settled (zloom z [0x7D040000])).readOp ((zloom z [0x7D040000])).nowIns.a ((zloom z [0x7D040000])).nowIns.xa 4).2.2, zseg, 0, by unfold LoomAt; decide +kernel, Prod.ext (by decide +kernel) (Prod.ext (by decide +kernel) rfl), ?_, ?_, ?_⟩ <;> decide +kernel)⟩

theorem test_witness_DecimalArithmetic :
    (∃ (a : Nat) (b : Nat), a < 2 ^ 32 ∧ b < 2 ^ 32 ∧ badDigit a = false ∧ badDigit b = false) ∧
    (∃ (a : Nat) (b : Nat), a < 2 ^ 32 ∧ b < 2 ^ 32 ∧ badDigit a = false ∧ badDigit b = false) ∧
    (∃ (a : Nat) (b : Nat), a < 2 ^ 32 ∧ b < 2 ^ 32 ∧ badDigit a = false ∧ badDigit b = false) ∧
    (∃ (a : Nat) (b : Nat), a < 2 ^ 32 ∧ b < 2 ^ 32 ∧ badDigit a = false ∧ badDigit b = false) ∧
    (∃ (a : Nat) (b : Nat), a < 2 ^ 32 ∧ b < 2 ^ 32 ∧ badDigit a = false ∧ badDigit b = false) ∧
    (∃ (a : Nat) (b : Nat), a < 2 ^ 32 ∧ b < 2 ^ 32 ∧ badDigit a = false ∧ badDigit b = false) :=
  ⟨⟨0x99999999, 1, by decide +kernel⟩,
   ⟨0x99999999, 1, by decide +kernel⟩,
   ⟨0x99999999, 1, by decide +kernel⟩,
   ⟨0x99999999, 1, by decide +kernel⟩,
   ⟨0x99999999, 1, by decide +kernel⟩,
   ⟨0x99999999, 1, by decide +kernel⟩⟩

theorem test_witness_DecimalConversion :
    (∃ (a : Nat), a < 100000000) ∧
    (∃ (a : Nat), a < 100000000) ∧
    (∃ (a : Nat), a < 100000000) ∧
    (∃ (a : Nat), a < 100000000) :=
  ⟨⟨12345678, by decide +kernel⟩,
   ⟨12345678, by decide +kernel⟩,
   ⟨12345678, by decide +kernel⟩,
   ⟨12345678, by decide +kernel⟩⟩

theorem test_witness_ArithmeticFlags :
    (∃ (w : Nat) (a : Nat) (b : Nat) (c : Nat), (w = 8 ∨ w = 16 ∨ w = 32) ∧ a < 2 ^ w ∧ b < 2 ^ w ∧ c ≤ 1) ∧
    (∃ (w : Nat) (a : Nat) (b : Nat) (c : Nat), (w = 8 ∨ w = 16 ∨ w = 32) ∧ a < 2 ^ w ∧ b < 2 ^ w ∧ c ≤ 1) ∧
    (∃ (w : Nat) (a : Nat) (b : Nat) (c : Nat), (w = 8 ∨ w = 16 ∨ w = 32) ∧ a < 2 ^ w ∧ b < 2 ^ w ∧ c ≤ 1) ∧
    (∃ (w : Nat) (a : Nat) (b : Nat) (c : Nat), (w = 8 ∨ w = 16 ∨ w = 32) ∧ a < 2 ^ w ∧ b < 2 ^ w ∧ c ≤ 1) ∧
    (∃ (w : Nat) (a : Nat) (b : Nat) (c : Nat), (w = 8 ∨ w = 16 ∨ w = 32) ∧ a < 2 ^ w ∧ b < 2 ^ w ∧ c ≤ 1) ∧
    (∃ (w : Nat) (a : Nat) (b : Nat) (c : Nat), (w = 8 ∨ w = 16 ∨ w = 32) ∧ a < 2 ^ w ∧ b < 2 ^ w ∧ c ≤ 1) ∧
    (∃ (w : Nat) (a : Nat) (b : Nat) (c : Nat), (w = 8 ∨ w = 16 ∨ w = 32) ∧ a < 2 ^ w ∧ b < 2 ^ w ∧ c ≤ 1) ∧
    (∃ (w : Nat) (a : Nat) (b : Nat) (c : Nat), (w = 8 ∨ w = 16 ∨ w = 32) ∧ a < 2 ^ w ∧ b < 2 ^ w ∧ c ≤ 1) ∧
    (∃ (w : Nat) (a : Nat) (b : Nat) (c : Nat), (w = 8 ∨ w = 16 ∨ w = 32) ∧ a < 2 ^ w ∧ b < 2 ^ w ∧ c ≤ 1) ∧
    (∃ (w : Nat) (a : Nat) (b : Nat) (c : Nat), (w = 8 ∨ w = 16 ∨ w = 32) ∧ a < 2 ^ w ∧ b < 2 ^ w ∧ c ≤ 1) ∧
    (∃ (w : Nat) (a : Nat) (b : Nat) (c : Nat), (w = 8 ∨ w = 16 ∨ w = 32) ∧ a < 2 ^ w ∧ b < 2 ^ w ∧ c ≤ 1) ∧
    (∃ (w : Nat) (a : Nat) (b : Nat) (c : Nat), (w = 8 ∨ w = 16 ∨ w = 32) ∧ a < 2 ^ w ∧ b < 2 ^ w ∧ c ≤ 1) ∧
    (∃ (w : Nat) (a : Nat) (b : Nat) (c : Nat), (w = 8 ∨ w = 16 ∨ w = 32) ∧ a < 2 ^ w ∧ b < 2 ^ w ∧ c ≤ 1) :=
  ⟨⟨8, 0x80, 0x80, 0, by decide +kernel⟩,
   ⟨8, 0x80, 0x80, 0, by decide +kernel⟩,
   ⟨8, 0x80, 0x80, 0, by decide +kernel⟩,
   ⟨8, 0x80, 0x80, 0, by decide +kernel⟩,
   ⟨8, 0x80, 0x80, 0, by decide +kernel⟩,
   ⟨8, 0x80, 0x80, 0, by decide +kernel⟩,
   ⟨8, 0x80, 0x80, 0, by decide +kernel⟩,
   ⟨8, 0x80, 0x80, 0, by decide +kernel⟩,
   ⟨8, 0x80, 0x80, 0, by decide +kernel⟩,
   ⟨8, 0x80, 0x80, 0, by decide +kernel⟩,
   ⟨8, 0x80, 0x80, 0, by decide +kernel⟩,
   ⟨8, 0x80, 0x80, 0, by decide +kernel⟩,
   ⟨8, 0x80, 0x80, 0, by decide +kernel⟩⟩

theorem test_witness_AddRegisters :
    ∃ (s : State) (g : Seg) (d : Nat) (a : Nat) (b : Nat), LoomAt s g 0x10 ∧ s.nowIns.opc = 0x12 ∧ s.nowIns.d = d ∧ s.nowIns.a = a ∧ s.nowIns.b = b ∧ d < 8 ∧ a < 8 ∧ b < 8 ∧
      s.loom.cyc + 4 ≤ g.stop ∧ s.loom.pc + 4 < 2 ^ 32 :=
  ⟨zloom z [0x12000000], zseg, 0, 0, 0, by unfold LoomAt; decide +kernel⟩

theorem test_witness_MovStores :
    ∃ (s : State) (g : Seg), LoomAt s g 0x04 ∧ Memory.wf s.mem = true ∧ s.nowIns.opc = 0x06 ∧ s.nowIns.d = 0x40 ∧ s.nowIns.a < 8 ∧
      dataOk s.layout (s.nowIns.xd % 2 ^ 32) 4 = true ∧ (settled s).loom.cyc + s.nowIns.cycles + 3 ≤ g.stop :=
  ⟨zloom z [0x06400000, 0x10000000], zseg, by unfold LoomAt; decide +kernel⟩

theorem test_witness_WeftEventsComplete :
    (∃ (s : State) (port : Fin 3) (w : ShWord), WordAt s (rxLink port) tyData w ∧ (s.loom.rx.get port).length < 8) ∧
    (∃ (s : State) (w : Weft) (d : SegDesc), s.runningWeft = some w ∧ (w.templates.getD (s.template w) [])[s.loom.next]? = some d ∧ s.segmentsRun = true ∧ s.loom.seg = none ∧
      s.loom.selvedge = false ∧ s.weft.haltDue = false ∧ d.start / 250 ≤ s.warp % 1000 ∧ s.warp % 1000 < 950 ∧
      s.activeTask (Fin.ofNat 64 d.task) = true) ∧
    (∃ (s : State) (k : Fin 64) (d : TaskDesc), s.taskDesc k = some d ∧ (s.task k).wcetDone = false ∧ d.wcet < (s.task k).cycles) ∧
    (∃ (s : State) (k : Fin 64) (d : TaskDesc), s.taskDesc k = some d ∧ (s.task k).open_ = true ∧ 1000 * ((s.task k).released + d.deadline) - 50 ≤ s.warp) ∧
    (∃ (s : State) (i : Fin 2) (k : LinkNo), k = (if i = 0 then 0 else 1) ∧ 950 ≤ s.warp % 1000 ∧ s.loom.selvedge = false ∧ s.segmentsRun = true ∧ (s.link k).fly = [] ∧
      (s.link k).hold = []) ∧
    (∃ (s : State) (drive : Bool) (w : ShWord), WordAt s (if drive then 1 else 0) tyCommit w) ∧
    (∃ (s : State) (drive : Bool) (host : Bool) (w : ShWord), WordAt s (if host then (if drive then 10 else 9) else if drive then 1 else 0) tyHeartbeat w) ∧
    (∃ (s : State) (c : ChNo) (d : Due), (s.chan c).latched = some d ∧ d.at_ ≤ s.warp ∧ d.good = true) ∧
    (∃ (s : State) (c : AcNo) (d : Due), s.driveLatched c = some d ∧ d.good = true) ∧
    (∃ (s : State) (c : ChNo) (d : Due) (ok : Bool), (s.chan c).latched = some d ∧ d.at_ ≤ s.warp ∧ (ok = false ∨ d.good = false)) :=
  ⟨⟨word z 4 tyData 5, 0, zw tyData 5, by unfold WordAt; decide +kernel⟩,
   ⟨(zrun z).onTask 0 fun x => { x with open_ := true }, zweft, { start := 0, task := 0, budget := 100 }, by decide +kernel⟩,
   ⟨(zrun z).onTask 0 fun x => { x with cycles := 1001 }, 0, { entry := 0, winLo := 0, winHi := 31, period := 1, phase := 0, wcet := 1000, deadline := 1, policy := .continue }, by decide +kernel⟩,
   ⟨atWarp ((zrun z).onTask 0 fun x => { x with open_ := true }) 950, 0, { entry := 0, winLo := 0, winHi := 31, period := 1, phase := 0, wcet := 1000, deadline := 1, policy := .continue }, by decide +kernel⟩,
   ⟨atWarp (zrun z) 950, 1, 1, by decide +kernel⟩,
   ⟨word z 0 tyCommit 5, false, zw tyCommit 5, by unfold WordAt; decide +kernel⟩,
   ⟨word z 9 tyHeartbeat 0, false, true, zw tyHeartbeat 0, by unfold WordAt; decide +kernel⟩,
   ⟨z.onChan 0 fun x => { x with latched := some ((CmdReg.keep 0).latch 0) }, 0, (CmdReg.keep 0).latch 0, by decide +kernel⟩,
   ⟨z.onCoil 0 fun x => { x with latched := some ((CmdReg.keep 0).latch 0) }, 0, (CmdReg.keep 0).latch 0, by decide +kernel⟩,
   ⟨z.onChan 0 fun x => { x with latched := some ((CmdReg.keep 0).latch 0) }, 0, (CmdReg.keep 0).latch 0, false, by decide +kernel⟩⟩

theorem test_witness_WeftCommandsComplete :
    (∃ (s : State) (r : CmdRef) (q : Cmd), s.begun r = some q ∧ q.opcode = 0x0601 ∧ q.params.length = 4 ∧ s.cmd.load = none ∧ weftLengthOk (u32 q.params 0) = true) ∧
    (∃ (s : State) (r : CmdRef) (q : Cmd) (l : WeftLoad), s.begun r = some q ∧ q.opcode = 0x0602 ∧ q.params = [] ∧ s.cmd.load = some l ∧ l.src = q.src ∧ l.full = true ∧
      checkHeader (Memory.readBytes s.mem 0x1C000000 l.length) = .ok () ∧ s.mirrors = false) ∧
    (∃ (s : State) (r : CmdRef) (q : Cmd) (k : Slot2) (w : Weft), s.begun r = some q ∧ q.opcode = 0x0603 ∧ q.params.length = 4 ∧ u8 q.params 0 ≤ 1 ∧ u8 q.params 1 ≤ 2 ∧ u16 q.params 2 = 0 ∧
      s.pickWeft (u8 q.params 1) = some k ∧ s.weft.store.get k = some w ∧ s.mayStart = true ∧ s.crcBad w = []) ∧
    (∃ (s : State) (r : CmdRef) (q : Cmd) (k : Slot2), s.begun r = some q ∧ q.opcode = 0x0604 ∧ q.params.length = 4 ∧ u8 q.params 0 ≤ 1 ∧ zeroAt q.params [1, 2, 3] = true ∧
      s.weft.running = some k ∧ s.weft.stopping = none) ∧
    (∃ (s : State) (r : CmdRef) (q : Cmd) (k : Slot2) (w : Weft), s.begun r = some q ∧ q.opcode = 0x0605 ∧ q.params = [] ∧ s.swapCheck = .ok (k, w)) ∧
    (∃ (s : State) (k : Slot2) (old : Weft), s.weft.autoTry = true ∧ s.mayStart = true ∧ s.cmd.serving = true ∧ s.autoSlot = some k ∧ s.weft.store.get k = some old) ∧
    (∃ (s : State) (x : Starting) (w : Weft), s.weft.starting = some x ∧ x.evaluated = false ∧ s.frame + 1 = x.frame ∧ s.weft.store.get x.slot = some w ∧
      (s.evaluate w.decl w.decl.chans w.decl.acts).1 = true) ∧
    (∃ (s : State) (x : Starting), s.weft.starting = some x ∧ x.evaluated = true ∧ x.frame ≤ s.frame ∧ s.weft.haltDue = false) ∧
    (∃ (s : State) (k : Slot2) (x : Stopping), s.weft.running = some k ∧ s.weft.stopping = some x ∧ x.frame < s.frame) ∧
    (∃ (s : State) (k : Slot2) (o : Weft) (w : Weft) (x : Swapping), s.weft.running = some k ∧ s.runningWeft = some o ∧ s.weft.swapping = some x ∧ s.weft.store.get x.target = some w ∧
      x.evaluated = true ∧ x.frame ≤ s.frame ∧ s.weft.stopping = none ∧ s.weft.haltDue = false) :=
  ⟨⟨begins z (zq 0x0601 (le 4 200)), zr, zq 0x0601 (le 4 200), by decide +kernel⟩,
   ⟨begins ({ z with mem := Memory.writeBytes [] 0x1C000000 zimg, cmd := { z.cmd with load := some { src := .session 0, length := 200, written := [(0, 200)] } } } : State) (zq 0x0602 []), zr, zq 0x0602 [], { src := .session 0, length := 200, written := [(0, 200)] }, by decide +kernel⟩,
   ⟨begins ((z.onClk fun x => { x with xoOk := true }).onWeft fun x => { x with store := (Tab.fill 2 none).put 0 (some zweft), autoTry := false }) (zq 0x0603 [0, 1, 0, 0]), zr, zq 0x0603 [0, 1, 0, 0], 0, zweft, by decide +kernel⟩,
   ⟨begins (zrun z) (zq 0x0604 (zeros 4)), zr, zq 0x0604 (zeros 4), 0, by decide +kernel⟩,
   ⟨begins (zrun z) (zq 0x0605 []), zr, zq 0x0605 [], 1, zweft, by decide +kernel⟩,
   ⟨((z.onClk fun x => { x with xoOk := true }).onCmd fun x => { x with serving := true }).onWeft fun x => { x with store := Tab.fill 2 (some zweft), autoTry := true }, 0, zweft, by decide +kernel⟩,
   ⟨z.onWeft fun x => { x with store := Tab.fill 2 (some zweft), starting := some { slot := 0, frame := 1, cmd := none, autostart := false, evaluated := false, restart := false, twin := false } }, { slot := 0, frame := 1, cmd := none, autostart := false, evaluated := false, restart := false, twin := false }, zweft, by decide +kernel⟩,
   ⟨atWarp (z.onWeft fun x => { x with store := Tab.fill 2 (some zweft), starting := some { slot := 0, frame := 1, cmd := none, autostart := false, evaluated := true, restart := false, twin := false } }) 1000, { slot := 0, frame := 1, cmd := none, autostart := false, evaluated := true, restart := false, twin := false }, by decide +kernel⟩,
   ⟨atWarp ((zrun z).onWeft fun x => { x with stopping := some { frame := 0, toHost := false, reason := 1, cmd := none } }) 1000, 0, { frame := 0, toHost := false, reason := 1, cmd := none }, by decide +kernel⟩,
   ⟨(zrun z).onWeft fun x => { x with swapping := some { target := 1, frame := 0, cmd := none, evaluated := true, twin := false } }, 0, zweft, zweft, { target := 1, frame := 0, cmd := none, evaluated := true, twin := false }, by decide +kernel⟩⟩

theorem test_witness_SwitchOperationComplete :
    (∃ (s : State) (w : ShWord) (c : ChNo) (k : ChCmd), WordAt s 0 tyCmd w ∧ chOfNum (pf w.payload 0 8) = some c ∧ s.leads (s.chan c).cfg.twinShared = false ∧ (s.chan c).owner = .weft ∧
      switchCmd w.payload c = some k ∧ ((k.mode.isPwm = true → s.groupOk c = true))) ∧
    (∃ (s : State) (w : ShWord) (v : Nat) (k : Nat), WordAt s 0 tyData w ∧ Room s 4 ∧ pf w.payload 16 48 = 0 ∧ s.switchRead (pf w.payload 0 8) (pf w.payload 8 8) = some (v, k)) ∧
    (∃ (s : State) (c : ChNo), (s.chan c).mode = .pwm ∧ (s.chan c).prot = .normal ∧ (s.chan c).wave.pend = none ∧ (s.chan c).wave.autoPend = none ∧
      s.edgeDue (s.chan c).wave.nextOn = true ∧
      firstOn s.hyperBase (s.chPeriod c) (s.chan c).phase (s.chan c).wave.nextOn = (s.chan c).wave.nextOn ∧
      (swClass c).tMin * 50 ≤ onTime (s.chPeriod c) (s.chan c).duty ∧
      onTime (s.chPeriod c) (s.chan c).duty + (swClass c).tMin * 50 ≤ s.chPeriod c) ∧
    (∃ (s : State) (c : ChNo) (k : Nat), (s.chan c).wave.offAt = some k ∧ s.edgeDue k = true ∧ (s.chan c).mode.isPwm = true) ∧
    (∃ (s : State) (c : ChNo), (s.chan c).mode = .pulse ∧ (s.chan c).prot = .normal ∧ (s.chan c).wave.pulseEnd ≤ s.now) ∧
    (∃ (s : State) (g : Fin 4) (v : Nat), 2000 ≤ v ∧ v ≤ 5000000 ∧ 50000000 % v = 0 ∧
      ((∀ c : ChNo, (if (s.chan c).mode = .off then (s.chan c).cfg.pg else (s.chan c).run.pg) = g → (s.chan c).owner ≠ .weft ∧ ((s.chan c).mode.isPwm = true → (swClass c).minPeriod ≤ v)))) ∧
    (∃ (s : State) (c : ChNo), (s.chan c).run.segment ≠ 0 ∧ s.segmentEnd c ≤ s.now) ∧
    (∃ (s : State), s.scanning = true) :=
  ⟨⟨(word z 0 tyCmd 0x40001).onChan 0 fun x => { x with owner := .weft }, zw tyCmd 0x40001, 0, { mode := .on, duty := 0, phase := 0, arg := 0 }, by unfold WordAt; decide +kernel⟩,
   ⟨word z 0 tyData 1, zw tyData 1, ((((word z 0 tyData 1)).switchRead 1 0).getD (0, 0)).1, ((((word z 0 tyData 1)).switchRead 1 0).getD (0, 0)).2, by unfold WordAt Room; decide +kernel⟩,
   ⟨z.onChan 0 fun x => { x with mode := .pwm, duty := 512 }, 0, by decide +kernel⟩,
   ⟨z.onChan 0 fun x => { x with mode := .pwm, wave := { Wave.reset with offAt := some 0 } }, 0, 0, by decide +kernel⟩,
   ⟨z.onChan 0 fun x => { x with mode := .pulse }, 0, by decide +kernel⟩,
   ⟨z, 0, 2500, by decide +kernel⟩,
   ⟨atNow (z.onChan 0 fun x => { x with run := { ProfRun.reset with segment := 1 } }) 1000000000, 0, by decide +kernel⟩,
   ⟨z, by decide +kernel⟩⟩

theorem test_witness_SwitchProtectionComplete :
    (∃ (s : State) (c : ChNo) (mA : Nat), (s.chan c).output = true ∧ (swClass c).shortTrip < mA ∧ s.pwr.state ≠ .sleep) ∧
    (∃ (s : State) (c : ChNo) (mA : Nat), (s.chan c).output = true ∧ (swClass c).shortTrip < mA ∧ s.pwr.state = .sleep) ∧
    (∃ (s : State) (c : ChNo), (s.chan c).output = true ∧ 4 ≤ (s.chan c).overRun ∧ s.scanning = true) ∧
    (∃ (s : State) (c : ChNo) (tj : Int), 1700 ≤ tj ∧ (s.chan c).output = true ∧ s.pwr.state ≠ .sleep) ∧
    (∃ (s : State) (c : ChNo) (tj : Int) (e : Nat), (s.chan c).prot = .pause e ∧ e ≤ s.now ∧ s.scanning = true ∧ tj < 1450 ∧ profValid (s.profile (s.chan c).cfg.profile) = true) ∧
    (∃ (s : State) (c : ChNo) (tj : Int) (e : Nat), (s.chan c).prot = .pause e ∧ e ≤ s.now ∧ s.scanning = true ∧ 1450 ≤ tj) ∧
    (∃ (s : State) (c : ChNo) (tj : Int) (e : Nat), (s.chan c).prot = .thermalWait e ∧ s.since e < 60000000 ∧ s.scanning = true ∧ tj < 1450 ∧
      profValid (s.profile (s.chan c).cfg.profile) = true) ∧
    (∃ (s : State) (c : ChNo) (e : Nat), (s.chan c).prot = .thermalWait e ∧ 60000000 ≤ s.since e ∧ s.scanning = true) ∧
    (∃ (s : State) (c : ChNo), (s.chan c).prot = .normal ∧ max 1 (s.chan c).cfg.retryWindow * 100000 ≤ s.since (s.chan c).normalAt) ∧
    (∃ (s : State) (c : ChNo) (a : Nat), (s.chan c).ol.since = some a ∧ (s.chan c).cfg.olThresh ≠ 0 ∧ (s.chan c).ol.onOpen = false ∧ 8 ≤ (s.chan c).ol.counted ∧
      (s.chan c).cfg.olTime * 1000 ≤ s.since a ∧ s.scanning = true) ∧
    (∃ (s : State) (c : ChNo) (a : Nat), (s.chan c).ol.back = some a ∧ (s.chan c).ol.onOpen = true ∧ (s.chan c).cfg.olTime * 1000 ≤ s.since a ∧ (s.chan c).cfg.olThresh ≠ 0 ∧
      s.scanning = true) ∧
    (∃ (s : State) (c : ChNo) (mv : Nat), s.offDetects c = true ∧ (s.chan c).ol.offOpen = false ∧ 3600 < mv) ∧
    (∃ (s : State) (c : ChNo) (mv : Nat), s.offDetects c = true ∧ (s.chan c).ol.offOpen = true ∧ mv < 4400) :=
  ⟨⟨z.onChan 0 fun x => { x with mode := .on, output := true }, 0, 150001, by decide +kernel⟩,
   ⟨(z.onPwr fun x => { x with state := .sleep }).onChan 0 fun x => { x with mode := .on, output := true }, 0, 150001, by decide +kernel⟩,
   ⟨z.onChan 0 fun x => { x with mode := .on, output := true, overRun := 4 }, 0, by decide +kernel⟩,
   ⟨z.onChan 0 fun x => { x with mode := .on, output := true }, 0, 1700, by decide +kernel⟩,
   ⟨z.onChan 0 fun x => { x with mode := .on, prot := .pause 0 }, 0, 0, 0, by decide +kernel⟩,
   ⟨z.onChan 0 fun x => { x with prot := .pause 0 }, 0, 1450, 0, by decide +kernel⟩,
   ⟨z.onChan 0 fun x => { x with mode := .on, prot := .thermalWait 0 }, 0, 1449, 0, by decide +kernel⟩,
   ⟨atNow (z.onChan 0 fun x => { x with prot := .thermalWait 0 }) 60000000, 0, 0, by decide +kernel⟩,
   ⟨atNow z 60000000, 0, by decide +kernel⟩,
   ⟨atNow (z.onChan 0 fun x => { x with cfg := { (z.chan 0).cfg with olThresh := 1 }, ol := { OpenLoad.reset with since := some 0, counted := 8 } }) 100000, 0, 0, by decide +kernel⟩,
   ⟨atNow (z.onChan 0 fun x => { x with cfg := { (z.chan 0).cfg with olThresh := 1 }, ol := { OpenLoad.reset with back := some 0, onOpen := true } }) 100000, 0, 0, by decide +kernel⟩,
   ⟨atNow (z.onChan 0 fun x => { x with cfg := { (z.chan 0).cfg with olOffEn := true } }) 20000, 0, 3601, by decide +kernel⟩,
   ⟨atNow (z.onChan 0 fun x => { x with cfg := { (z.chan 0).cfg with olOffEn := true }, ol := { OpenLoad.reset with offOpen := true } }) 20000, 0, 4399, by decide +kernel⟩⟩

theorem test_witness_SwitchSupervisionComplete :
    (∃ (s : State) (p : PwrNo) (f : Nat), (s.sw.guards.get p).first = some f ∧ (s.sw.guards.get p).open_ = false ∧ 200 < (s.sw.guards.get p).latest - f ∧ s.scanning = true) ∧
    (∃ (s : State) (p : PwrNo) (c : ChNo), p.1 ≠ 3 ∧ (s.sw.guards.get p).shedding = true ∧ (s.sw.guards.get p).nextShed ≤ s.now ∧
      (s.sw.guards.get p).lastE < (s.sw.guards.get p).lastS ∧ s.nextShed p = some c ∧ s.scanning = true) ∧
    (∃ (s : State) (p : PwrNo), p.1 ≠ 3 ∧ (s.sw.guards.get p).shedding = true ∧ (s.sw.guards.get p).nextShed ≤ s.now ∧
      (s.sw.guards.get p).lastS ≤ (s.sw.guards.get p).lastE ∧ s.scanning = true) ∧
    (∃ (s : State) (p : PwrNo), (s.sw.guards.get p).open_ = true ∧ ((s.sw.guards.get p).shedding = false ∨ p = 3) ∧ 1000 ≤ s.since (s.sw.guards.get p).latest) ∧
    (∃ (s : State) (k : Nat), (s.sw.guards.get 3).okSince = some k ∧ (s.sw.guards.get 3).shedding = true ∧ 1000 ≤ s.since k) ∧
    (∃ (s : State) (b : Int), s.sw.thermOver = none ∧ 10000 ≤ s.since s.supply.dissAt ∧ s.scanning = true ∧
      (320 < (s.evalDiss b).supply.diss60 ∨ 450 < (s.evalDiss b).supply.diss1 ∨ 850 < b)) ∧
    (∃ (s : State) (k : Nat) (b : Int), s.sw.thermOver = some k ∧ 10000 ≤ s.since s.supply.dissAt ∧ s.scanning = true ∧ (s.evalDiss b).supply.diss60 ≤ 300 ∧
      (s.evalDiss b).supply.diss1 ≤ 420 ∧ b ≤ 830) ∧
    (∃ (s : State), s.sw.thermShed = none ∧ (360 < s.supply.diss60 ∨ 870 < s.supply.baseTemp ∨ (∃ k, s.sw.thermOver = some k ∧ 10000000 ≤ s.since k))) ∧
    (∃ (s : State) (k : Nat), s.sw.thermShed = some k ∧ k ≤ s.now ∧ s.supply.diss1 ≤ 300) ∧
    (∃ (s : State) (k : Nat) (c : ChNo), s.sw.thermShed = some k ∧ k ≤ s.now ∧ 300 < s.supply.diss1 ∧
      ((s.shedOrder 0 ++ s.shedOrder 1 ++ s.shedOrder 2).find? fun c => (s.chan c).sheddable) = some c) ∧
    (∃ (s : State) (host : Bool), 3000 ≤ s.since (s.sw.heardAt host)) ∧
    (∃ (s : State) (c : ChNo) (o : OrphanHold), (s.chan c).orphan = some o ∧ o.policy = 1 ∧ o.done = false ∧ o.safeAfter * 1000 ≤ s.since o.origin ∧ s.scanning = true ∧
      o.safeValue = false) ∧
    (∃ (s : State) (r : CmdRef) (q : Cmd) (c : ChNo), s.begun r = some q ∧ q.opcode = 0x0204 ∧ chOfNum (u8 q.params 0) = some c ∧ q.params.length = 4 ∧ zeroAt q.params [1, 2, 3] = true ∧
      (s.chan c).prot = .latched ∧ (s.chan c).meas.tj < 1450) ∧
    (∃ (s : State) (c : ChNo) (r : HostReq) (rest : List HostReq) (f : Nat), (s.chan c).waiting = r :: rest ∧ r.firstMark = some f ∧ f + 50000 ≤ s.now) ∧
    (∃ (s : State) (r : CmdRef) (q : Cmd) (c : ChNo) (m : Mode), s.begun r = some q ∧ q.opcode = 0x0201 ∧ chOfNum (u8 q.params 0) = some c ∧ Mode.ofNum (u8 q.params 1) = some m ∧
      q.params.length = 12 ∧ zeroAt q.params [6, 7] = true ∧
      cmdFieldsOk c { mode := m, duty := u16 q.params 2, phase := u16 q.params 4, arg := u32 q.params 8 } = true ∧
      s.twinDenies (s.chan c).cfg.twinShared = false ∧ ((s.inhibited (s.chan c).cfg.twinShared = true → m = .off)) ∧
      (s.chan c).owner ≠ .weft ∧ (s.chan c).orphan = none ∧ s.flt.forceSafe = false ∧ ((m.isPwm = true → s.groupOk c = true)) ∧ Room s 9) ∧
    (∃ (s : State) (w : ShWord) (c : ChNo) (k : ChCmd), WordAt s 9 tyService w ∧ (s.link 9).unacked = 0 ∧ chOfNum (pf w.payload 0 8) = some c ∧ switchCmd w.payload c = some k) ∧
    (∃ (s : State) (r : CmdRef) (q : Cmd) (c : ChNo), s.begun r = some q ∧ q.opcode = 0x0202 ∧ chOfNum (u8 q.params 0) = some c ∧ q.params.length = 4 ∧ zeroAt q.params [1, 2, 3] = true) ∧
    (∃ (s : State) (r : CmdRef) (q : Cmd) (c : ChNo) (k : ChCfg), s.begun r = some q ∧ q.opcode = 0x0203 ∧ chOfNum (u8 q.params 0) = some c ∧ q.params.length = 24 ∧ zeroAt q.params [1, 2, 3] = true ∧
      (s.chan c).cfgClosed = false ∧ (s.chan c).cfg.writeAll c (cfgOffsets.map fun o => (o, u32 q.params (4 + o))) = some k) ∧
    (∃ (s : State) (r : CmdRef) (q : Cmd), s.begun r = some q ∧ q.opcode = 0x0205 ∧ q.params.length = 12 ∧ u8 q.params 0 = 1 ∧ zeroAt q.params [1, 2, 3] = true ∧
      u32 q.params 8 = 0 ∧ AdoptEntry.ok { object := u8 q.params 4, expect := u8 q.params 5, duty := u16 q.params 6 } = true ∧
      s.twinDenies (s.objectShared (u8 q.params 4)) = false) :=
  ⟨⟨z.onGuard 0 fun x => { x with first := some 0, latest := 201 }, 0, 0, by decide +kernel⟩,
   ⟨(z.onGuard 0 fun x => { x with shedding := true, lastS := 1 }).onChan 0 fun x => { x with mode := .on }, 0, 0, by decide +kernel⟩,
   ⟨z.onGuard 0 fun x => { x with shedding := true }, 0, by decide +kernel⟩,
   ⟨atNow (z.onGuard 0 fun x => { x with open_ := true }) 1000, 0, by decide +kernel⟩,
   ⟨atNow (z.onGuard 3 fun x => { x with shedding := true, okSince := some 0 }) 1000, 0, by decide +kernel⟩,
   (by refine ⟨atNow z 10000, 851, ?_, ?_, ?_, Or.inr (Or.inr (by decide))⟩ <;> decide +kernel),
   (by refine ⟨atNow (z.onSw fun x => { x with thermOver := some 0 }) 10000, 0, 830, ?_, ?_, ?_, by simp only [State.evalDiss, zdiss (atNow (z.onSw fun x => { x with thermOver := some 0 }) 10000) (by decide +kernel)]; decide +kernel, by simp only [State.evalDiss, zdiss (atNow (z.onSw fun x => { x with thermOver := some 0 }) 10000) (by decide +kernel)]; decide +kernel, ?_⟩ <;> decide +kernel),
   ⟨z.onSupply fun x => { x with diss60 := 361 }, by decide +kernel⟩,
   ⟨z.onSw fun x => { x with thermShed := some 0 }, 0, by decide +kernel⟩,
   ⟨((z.onSw fun x => { x with thermShed := some 0 }).onSupply fun x => { x with diss1 := 301 }).onChan 0 fun x => { x with mode := .on }, 0, 0, by decide +kernel⟩,
   ⟨atNow z 3000, false, by decide +kernel⟩,
   ⟨atNow (z.onChan 0 fun x => { x with mode := .on, output := true, orphan := some { origin := 0, policy := 1, safeValue := false, safeAfter := 1000, done := false } }) 1000000, 0, { origin := 0, policy := 1, safeValue := false, safeAfter := 1000, done := false }, by decide +kernel⟩,
   ⟨begins (z.onChan 0 fun x => { x with prot := .latched }) (zq 0x0204 [1, 0, 0, 0]), zr, zq 0x0204 [1, 0, 0, 0], 0, by decide +kernel⟩,
   ⟨atNow (z.onChan 0 fun x => { x with waiting := [{ cmd := 1, arrival := 0, body := { mode := .on, duty := 0, phase := 0, arg := 0 }, reg := CmdReg.keep 0, firstMark := some 0, lastNeed := 0, lastHave := 0 }] }) 50000, 0, { cmd := 1, arrival := 0, body := { mode := .on, duty := 0, phase := 0, arg := 0 }, reg := CmdReg.keep 0, firstMark := some 0, lastNeed := 0, lastHave := 0 }, [], 0, by decide +kernel⟩,
   ⟨begins z (zq 0x0201 ([1, 1] ++ zeros 10)), zr, zq 0x0201 ([1, 1] ++ zeros 10), 0, .on, by unfold Room; decide +kernel⟩,
   ⟨(word z 9 tyService 0x40001).onLink 9 fun x => { x with unacked := 0 }, zw tyService 0x40001, 0, { mode := .on, duty := 0, phase := 0, arg := 0 }, by unfold WordAt; decide +kernel⟩,
   ⟨begins z (zq 0x0202 [1, 0, 0, 0]), zr, zq 0x0202 [1, 0, 0, 0], 0, by decide +kernel⟩,
   ⟨begins z (zq 0x0203 ([1, 0, 0, 0] ++ le 4 0x200 ++ le 4 25000 ++ le 4 1000 ++ le 4 (5 + 256 * 10) ++ zeros 4)), zr, zq 0x0203 ([1, 0, 0, 0] ++ le 4 0x200 ++ le 4 25000 ++ le 4 1000 ++ le 4 (5 + 256 * 10) ++ zeros 4), 0, (((z.chan 0).cfg).writeAll 0 (cfgOffsets.map fun o => (o, u32 ([1, 0, 0, 0] ++ le 4 0x200 ++ le 4 25000 ++ le 4 1000 ++ le 4 (5 + 256 * 10) ++ zeros 4) (4 + o)))).getD (ChCfg.reset 0), by decide +kernel⟩,
   ⟨begins z (zq 0x0205 ([1, 0, 0, 0, 1, 0, 0, 0] ++ zeros 4)), zr, zq 0x0205 ([1, 0, 0, 0, 1, 0, 0, 0] ++ zeros 4), by decide +kernel⟩⟩

theorem test_witness_BoostRailComplete :
    (∃ (s : State) (mv : Nat), s.drv.vbSet ≤ mv) ∧
    (∃ (mv : Nat), 66000 < mv) ∧
    (∃ (s : State) (mv : Nat) (k : Nat), s.supply.low.get 3 = false ∧ (s.sw.guards.get 3).shedding = false ∧ mv < s.drv.vbStart ∧ mv ≤ 66000 ∧ s.drv.failFrom = some k ∧
      s.drv.failed = false ∧ k + 500000 ≤ s.ticks) ∧
    (∃ (s : State) (c : AcNo) (mJ : Nat), 1500 ≤ mJ ∧ s.holdsBoost c = true) ∧
    (∃ (s : State) (c : AcNo), s.mayBoost c = true) ∧
    (∃ (s : State) (c : AcNo) (h : AcNo) (k : Nat), (s.coil c).eng.run = true ∧ (s.coil c).eng.request = some k ∧ k + (s.bank (acBank c)).defer * 100 ≤ s.ticks ∧
      (s.bank (acBank c)).holder = some h ∧ h ≠ c) ∧
    (∃ (s : State) (b : BankNo) (released : Bool) (mA : Nat), (if released then 100 else 50000) ≤ mA ∧ ((released = true → ∃ c, acBank c = b ∧ s.leaks c = true))) ∧
    (∃ (s : State) (b : BankNo) (mean : Nat), (s.bank b).overload = false ∧ 10000 < mean) ∧
    (∃ (mean : Nat), mean ≤ 9000) :=
  ⟨⟨z, 58000, by decide +kernel⟩,
   ⟨66001, by decide +kernel⟩,
   ⟨atTick (z.onDrv fun x => { x with failFrom := some 0 }) 500000, 51999, 0, by decide +kernel⟩,
   ⟨z.onDrv fun x => { x with banks := Tab.fill 6 { Bank.reset with holder := some 0 } }, 0, 1500, by decide +kernel⟩,
   ⟨(z.onDrv fun x => { x with vboost := 60000 }).onCoil 0 fun x => { x with eng := { Engine.reset with run := true, request := some 0 } }, 0, by decide +kernel⟩,
   ⟨atTick ((z.onDrv fun x => { x with banks := Tab.fill 6 { Bank.reset with holder := some 1 } }).onCoil 0 fun x => { x with eng := { Engine.reset with run := true, request := some 0 } }) 2000, 0, 1, 0, by decide +kernel⟩,
   ⟨z, 0, false, 50000, by decide +kernel⟩,
   ⟨z, 0, 10001, by decide +kernel⟩,
   ⟨9000, by decide +kernel⟩⟩

theorem test_witness_ActuatorCommandsComplete :
    (∃ (s : State) (c : AcNo) (d : Due), s.driveLatched c = some d ∧ d.good = true ∧ pf d.payload 18 2 = 1 ∧ s.mute (s.coil c).cfg.twinShared = false ∧
      s.flt.forceSafe = false ∧ s.phase c = .released ∧ (s.coil c).flagSet 4 = false ∧ (s.coil c).flagSet 5 = false ∧
      (s.bank (acBank c)).fault = false ∧ s.acConsistent c = true ∧ (s.bank (acBank c)).overload = false ∧
      s.dutyUsed c + ((s.coil c).cfg.ttpMax * 10 + (s.coil c).cfg.tPeak * 100) ≤ (s.coil c).cfg.dutyLimit * (s.coil c).cfg.dutyWindow * 10000) ∧
    (∃ (s : State) (c : AcNo) (d : Due), s.driveLatched c = some d ∧ d.good = true ∧ pf d.payload 18 2 = 0 ∧ (s.coil c).eng.run = true) ∧
    (∃ (s : State) (c : AcNo) (k : Nat), (s.coil c).belowSince = some k ∧ (s.coil c).eng.run = false ∧ ((s.coil c).rest = .decay ∨ (s.coil c).rest = .fastDecay) ∧
      k + 100 ≤ s.ticks) ∧
    (∃ (s : State) (c : AcNo) (k : Nat), (s.coil c).fwAt = some k ∧ 20000 ≤ s.since k) ∧
    (∃ (s : State) (c : AcNo), s.driveUp = true ∧ (s.coil c).updAt ≠ some s.ticks) ∧
    (∃ (s : State) (c : AcNo) (k : Nat) (l : Nat), (s.coil c).unreachSince = some k ∧ (s.coil c).eng.reg = .hold l ∧ (s.coil c).unreachDone = false ∧ k + 5000 ≤ s.ticks) ∧
    (∃ (s : State) (c : AcNo) (k : Nat), (s.coil c).openSince = some k ∧ k + 1000 ≤ s.ticks) ∧
    (∃ (mA : Nat), 25000 ≤ mA) ∧
    (∃ (s : State) (w : ShWord) (c : AcNo), WordAt s 1 tyCmd w ∧ acOfNum (pf w.payload 0 8) = some c ∧ s.leads (s.coil c).cfg.twinShared = false ∧ (s.coil c).owner = .weft ∧
      pf w.payload 8 10 ≤ 999 ∧ pf w.payload 18 2 ≤ 1 ∧ pf w.payload 20 12 = 0 ∧
      (pf w.payload 32 32 = 0 ∨ (pf w.payload 18 2 = 1 ∧ (s.coil c).cfg.bobbin ≠ 0))) ∧
    (∃ (s : State) (w : ShWord) (v : Nat) (k : Nat), WordAt s 1 tyData w ∧ Room s 5 ∧ pf w.payload 16 48 = 0 ∧ s.driveRead (pf w.payload 0 8) (pf w.payload 8 8) = some (v, k)) ∧
    (∃ (s : State) (host : Bool), s.drv.heardAt host + 3000 ≤ s.ticks) ∧
    (∃ (s : State) (c : AcNo) (o : AcOrphan), s.driveUp = true ∧ (s.coil c).orphan = some o ∧ o.done = false ∧ o.policy = 1 ∧ o.origin + o.safeAfter * 1000 ≤ s.ticks ∧
      (s.coil c).eng.run = false ∧ (s.coil c).rest = .hold ∧ (s.coil c).fire = none) ∧
    (∃ (s : State) (r : CmdRef) (q : Cmd) (c : AcNo), s.begun r = some q ∧ q.opcode = 0x0301 ∧ acOfNum (u8 q.params 0) = some c ∧ q.params.length = 8 ∧ zeroAt q.params [1, 2, 3] = true ∧
      s.twinDenies (s.coil c).cfg.twinShared = false ∧ s.inhibited (s.coil c).cfg.twinShared = false ∧ (s.coil c).owner ≠ .weft ∧
      (s.coil c).orphan = none ∧ Room s 10) ∧
    (∃ (s : State) (r : CmdRef) (q : Cmd) (c : AcNo), s.begun r = some q ∧ q.opcode = 0x0302 ∧ acOfNum (u8 q.params 0) = some c ∧ q.params.length = 4 ∧ zeroAt q.params [1, 2, 3] = true ∧
      s.twinDenies (s.coil c).cfg.twinShared = false ∧ (s.coil c).owner ≠ .weft ∧ (s.coil c).orphan = none ∧ Room s 10) ∧
    (∃ (s : State) (w : ShWord) (c : AcNo), WordAt s 10 tyService w ∧ (s.link 10).unacked = 0 ∧ acOfNum (pf w.payload 0 8) = some c) ∧
    (∃ (s : State) (r : CmdRef) (q : Cmd) (c : AcNo) (k : AcCfg), s.begun r = some q ∧ q.opcode = 0x0303 ∧ acOfNum (u8 q.params 0) = some c ∧ q.params.length = 48 ∧ zeroAt q.params [1, 2, 3] = true ∧
      (s.coil c).cfgClosed = false ∧
      (s.coil c).cfg.writeAll (s.coil (acOther c)).cfg.iHold (acOffsets.map fun o => (o, u32 q.params (4 + o))) = some k) ∧
    (∃ (s : State) (r : CmdRef) (q : Cmd) (c : AcNo), s.begun r = some q ∧ q.opcode = 0x0305 ∧ acOfNum (u8 q.params 0) = some c ∧ q.params.length = 4 ∧ zeroAt q.params [1, 2, 3] = true) ∧
    (∃ (s : State) (r : CmdRef) (q : Cmd), s.begun r = some q ∧ q.opcode = 0x0304 ∧ q.params.length = 260 ∧ zeroAt q.params [1, 2, 3] = true ∧ 1 ≤ u8 q.params 0 ∧
      u8 q.params 0 ≤ 15 ∧ s.bobInUse (u8 q.params 0) = false ∧ ((List.range 64).all fun k => bobWordOk (u32 q.params (4 + 4 * k))) = true) :=
  ⟨⟨z.onCoil 0 fun x => { x with latched := some ((CmdReg.keep 0x40000).latch 0) }, 0, (CmdReg.keep 0x40000).latch 0, by decide +kernel⟩,
   ⟨z.onCoil 0 fun x => { x with latched := some ((CmdReg.keep 0).latch 0), eng := { Engine.reset with run := true } }, 0, (CmdReg.keep 0).latch 0, by decide +kernel⟩,
   ⟨atTick (z.onCoil 0 fun x => { x with belowSince := some 0, rest := .decay }) 100, 0, 0, by decide +kernel⟩,
   ⟨atNow (z.onCoil 0 fun x => { x with fwAt := some 0 }) 20000, 0, 0, by decide +kernel⟩,
   ⟨z, 0, by decide +kernel⟩,
   ⟨atTick (z.onCoil 0 fun x => { x with unreachSince := some 0, eng := { Engine.reset with reg := .hold 500 } }) 5000, 0, 0, 500, by decide +kernel⟩,
   ⟨atTick (z.onCoil 0 fun x => { x with openSince := some 0 }) 1000, 0, 0, by decide +kernel⟩,
   ⟨25000, by decide +kernel⟩,
   ⟨(word z 1 tyCmd 1).onCoil 0 fun x => { x with owner := .weft }, zw tyCmd 1, 0, by unfold WordAt; decide +kernel⟩,
   ⟨word z 1 tyData 1, zw tyData 1, ((((word z 1 tyData 1)).driveRead 1 0).getD (0, 0)).1, ((((word z 1 tyData 1)).driveRead 1 0).getD (0, 0)).2, by unfold WordAt Room; decide +kernel⟩,
   ⟨atTick z 3000, false, by decide +kernel⟩,
   ⟨atTick (z.onCoil 0 fun x => { x with rest := .hold, orphan := some { origin := 0, policy := 1, safeAfter := 1000, done := false } }) 1000000, 0, { origin := 0, policy := 1, safeAfter := 1000, done := false }, by decide +kernel⟩,
   ⟨begins z (zq 0x0301 [1, 0, 0, 0, 0, 0, 0, 0]), zr, zq 0x0301 [1, 0, 0, 0, 0, 0, 0, 0], 0, by unfold Room; decide +kernel⟩,
   ⟨begins z (zq 0x0302 [1, 0, 0, 0]), zr, zq 0x0302 [1, 0, 0, 0], 0, by unfold Room; decide +kernel⟩,
   ⟨(word z 10 tyService 1).onLink 10 fun x => { x with unacked := 0 }, zw tyService 1, 0, by unfold WordAt; decide +kernel⟩,
   ⟨begins z (zq 0x0303 ([1, 0, 0, 0] ++ acOffsets.flatMap fun o => le 4 (z.readAct 0 o))), zr, zq 0x0303 ([1, 0, 0, 0] ++ acOffsets.flatMap fun o => le 4 (z.readAct 0 o)), 0, ((z.coil 0).cfg.writeAll (z.coil (acOther 0)).cfg.iHold (acOffsets.map fun o => (o, z.readAct 0 o))).getD AcCfg.reset, by decide +kernel⟩,
   ⟨begins z (zq 0x0305 [1, 0, 0, 0]), zr, zq 0x0305 [1, 0, 0, 0], 0, by decide +kernel⟩,
   ⟨begins z (zq 0x0304 ([1, 0, 0, 0] ++ zeros 256)), zr, zq 0x0304 ([1, 0, 0, 0] ++ zeros 256), by decide +kernel⟩⟩

theorem test_witness_BobbinInstructions :
    (∃ (s : State) (c : AcNo) (w : Nat), w = s.bobWord (s.coil c).eng.program.1 (s.coil c).eng.pc ∧ bits w 26 6 = 0x01 ∧ bit w 22 = false) ∧
    (∃ (s : State) (c : AcNo) (w : Nat), w = s.bobWord (s.coil c).eng.program.1 (s.coil c).eng.pc ∧ bits w 26 6 = 0x07) ∧
    (∃ (s : State) (c : AcNo) (w : Nat), w = s.bobWord (s.coil c).eng.program.1 (s.coil c).eng.pc ∧ bits w 26 6 = 0x07) ∧
    (∃ (s : State) (c : AcNo) (w : Nat), w = s.bobWord (s.coil c).eng.program.1 (s.coil c).eng.pc ∧ bits w 26 6 = 0x0D ∧ bit w 25 = false ∧ 1 < (s.coil c).eng.c.get 0) ∧
    (∃ (s : State) (c : AcNo) (w : Nat), w = s.bobWord (s.coil c).eng.program.1 (s.coil c).eng.pc ∧ bits w 26 6 = 0x0D ∧ bit w 25 = false ∧ 1 < (s.coil c).eng.c.get 0) ∧
    (∃ (s : State) (c : AcNo) (w : Nat), w = s.bobWord (s.coil c).eng.program.1 (s.coil c).eng.pc ∧ bits w 26 6 = 0x0D ∧ bit w 25 = false ∧ 1 < (s.coil c).eng.c.get 0) ∧
    (∃ (s : State) (c : AcNo) (k : Taken) (w : Nat), w = s.bobWord (s.coil c).eng.program.1 (s.coil c).eng.pc ∧ bits w 26 6 = 0x05 ∧ s.bobCond c k w = false) ∧
    (∃ (s : State) (c : AcNo) (k : Taken) (w : Nat), w = s.bobWord (s.coil c).eng.program.1 (s.coil c).eng.pc ∧ bits w 26 6 = 0x05 ∧ s.bobCond c k w = true) ∧
    (∃ (s : State) (c : AcNo) (k : Taken) (w : Nat), w = s.bobWord (s.coil c).eng.program.1 (s.coil c).eng.pc ∧ bits w 26 6 = 0x05 ∧ s.bobCond c k w = true) ∧
    (∃ (s : State) (c : AcNo) (w : Nat), w = s.bobWord (s.coil c).eng.program.1 (s.coil c).eng.pc ∧ bits w 26 6 = 0x06) ∧
    (∃ (s : State) (c : AcNo) (w : Nat), w = s.bobWord (s.coil c).eng.program.1 (s.coil c).eng.pc ∧ bits w 26 6 = 0x06) ∧
    (∃ (s : State) (c : AcNo) (w : Nat), w = s.bobWord (s.coil c).eng.program.1 (s.coil c).eng.pc ∧ bits w 26 6 = 0x08) ∧
    (∃ (s : State) (c : AcNo) (w : Nat), w = s.bobWord (s.coil c).eng.program.1 (s.coil c).eng.pc ∧ bits w 26 6 = 0x08) ∧
    (∃ (s : State) (c : AcNo) (w : Nat), w = s.bobWord (s.coil c).eng.program.1 (s.coil c).eng.pc) :=
  ⟨⟨zbob z 0x04000000, 0, 0x04000000, by decide +kernel⟩,
   ⟨zbob z 0x1C000000, 0, 0x1C000000, by decide +kernel⟩,
   ⟨zbob z 0x1C000000, 0, 0x1C000000, by decide +kernel⟩,
   ⟨zbob z 0x34000000, 0, 0x34000000, by decide +kernel⟩,
   ⟨zbob z 0x34000000, 0, 0x34000000, by decide +kernel⟩,
   ⟨zbob z 0x34000000, 0, 0x34000000, by decide +kernel⟩,
   ⟨zbob z 0x14200000, 0, { mA := 0, holds := false }, 0x14200000, by decide +kernel⟩,
   ⟨zbob z 0x14100000, 0, { mA := 0, holds := false }, 0x14100000, by decide +kernel⟩,
   ⟨zbob z 0x14100000, 0, { mA := 0, holds := false }, 0x14100000, by decide +kernel⟩,
   ⟨zbob z 0x18000000, 0, 0x18000000, by decide +kernel⟩,
   ⟨zbob z 0x18000000, 0, 0x18000000, by decide +kernel⟩,
   ⟨zbob z 0x20000000, 0, 0x20000000, by decide +kernel⟩,
   ⟨zbob z 0x20000000, 0, 0x20000000, by decide +kernel⟩,
   ⟨zbob z 0, 0, 0, by decide +kernel⟩⟩

theorem test_witness_FieldCommandsComplete :
    (∃ (s : State), s.warp % 10 = 0 ∧ s.fld.frameAt ≠ some s.warp ∧ s.barrierUp = true) ∧
    (∃ (s : State) (u : FieldFrame), s.fld.up = some u ∧ u.good = true ∧ seqBehind s.fld.rxSeq u.seq = false ∧ u.start = none) ∧
    (∃ (s : State) (u : FieldFrame) (n : Nat), s.fld.up = some u ∧ u.good = true ∧ u.start = some n ∧ n ≠ s.fld.seenStart) ∧
    (∃ (s : State) (x : LogicFrame), s.fld.down = some x ∧ s.side.running = true ∧ x.good = true ∧ seqBehind s.side.rxSeq x.seq = false) ∧
    (∃ (s : State), 3 ≤ s.fld.missing ∧ (s.fld.stale = false ∨ s.supply.fpPresent = true)) ∧
    (∃ (s : State), s.side.running = true ∧ 50 ≤ s.side.silent) ∧
    (∃ (s : State) (mv : Nat), s.side.running = false ∧ 18000 < mv ∧ s.fieldPowered = true) ∧
    (∃ (s : State) (mv : Nat), s.side.running = true ∧ mv < 16000) ∧
    (∃ (s : State), s.side.running = true) ∧
    (∃ (s : State) (i : Fin 24), s.side.running = true ∧ (s.side.cfg.inputs.get i).tStuck ≠ 0 ∧ (s.side.inputs.get i).stuck = false ∧
      (s.side.cfg.inputs.get i).tStuck * 100000 ≤ (s.side.inputs.get i).ones) ∧
    (∃ (s : State) (i : Fin 24), s.side.running = true ∧ (s.side.cfg.inputs.get i).chatEn = true ∧ (s.side.inputs.get i).chatter = false ∧
      s.side.cfg.chatterN < (s.side.inputs.get i).changes.length) ∧
    (∃ (s : State), s.side.running = true) ∧
    (∃ (s : State) (o : Fin 16), s.side.running = true ∧ (s.side.outs.get o).on = true) ∧
    (∃ (s : State) (g : Fin 2) (ma : List Nat) (n : Nat) (o : Fin 16), s.side.running = true ∧ s.side.sumFor.get g = some n ∧ 1000 ≤ n ∧ s.side.heaviest g ma = some o) ∧
    (∃ (s : State) (w : ShWord), WordAt s 7 tyData w ∧ pf w.payload 32 32 = 0 ∧ BitVec.ofNat 16 (pf w.payload 16 16) &&& ~~~s.fld.mirror.weftMask = 0) ∧
    (∃ (s : State) (off : Nat) (v : Nat) (m : FieldCfg), off ∈ fieldCfgOffsets ∧ ((off = 0x0C → s.weft.running = none)) ∧ s.fld.mirror.write off v = some m ∧
      (s.supply.fpPresent = false ∨ s.fld.queue.length < 64)) ∧
    (∃ (s : State) (r : CmdRef) (q : Cmd), s.begun r = some q ∧ q.opcode = 0x0401 ∧ q.params.length = 4 ∧ BitVec.ofNat 16 (u16 q.params 0) &&& s.weftOutputs = 0 ∧
      BitVec.ofNat 16 (u16 q.params 0) &&& s.safeHeld = 0 ∧ s.supply.fpPresent = true) ∧
    (∃ (s : State) (r : CmdRef) (q : Cmd), s.begun r = some q ∧ q.opcode = 0x0402 ∧ q.params = []) ∧
    (∃ (s : State) (r : CmdRef) (q : Cmd) (m : FieldCfg), s.begun r = some q ∧ q.opcode = 0x0403 ∧ q.params.length = 8 ∧ zeroAt q.params [2, 3] = true ∧ u16 q.params 0 ∈ fieldCfgOffsets ∧
      ((u16 q.params 0 = 0x0C → s.weft.running = none)) ∧ s.fld.mirror.write (u16 q.params 0) (u32 q.params 4) = some m ∧
      (s.supply.fpPresent = false ∨ s.fld.queue.length < 64)) :=
  ⟨⟨zside z, by decide +kernel⟩,
   ⟨({ z with fld := { z.fld with rxSeq := none, up := some (FieldFrame.seal { seq := 0, k := 0, start := none, words := Tab.fill 16 0, groups := (0, 0), downCrc := 0, crc := 0 }) } } : State), FieldFrame.seal { seq := 0, k := 0, start := none, words := Tab.fill 16 0, groups := (0, 0), downCrc := 0, crc := 0 }, by decide +kernel⟩,
   ⟨({ z with fld := { z.fld with up := some (FieldFrame.seal { seq := 0, k := 0, start := (some 1), words := Tab.fill 16 0, groups := (0, 0), downCrc := 0, crc := 0 }) } } : State), FieldFrame.seal { seq := 0, k := 0, start := (some 1), words := Tab.fill 16 0, groups := (0, 0), downCrc := 0, crc := 0 }, 1, by decide +kernel⟩,
   ⟨({ z with fld := { z.fld with down := some (LogicFrame.seal { seq := 0, k := 0, forceSafe := false, replay := false, cfg := none, cmd := none, values := 0, clear := 0, foClear := 0, crc := 0 }), side := FieldSide.start 1 0 24000 } } : State), LogicFrame.seal { seq := 0, k := 0, forceSafe := false, replay := false, cfg := none, cmd := none, values := 0, clear := 0, foClear := 0, crc := 0 }, by decide +kernel⟩,
   ⟨({ z with fld := { z.fld with missing := 3 }, supply := { z.supply with fpPresent := true } } : State), by decide +kernel⟩,
   ⟨({ z with fld := { z.fld with side := { FieldSide.start 1 0 24000 with silent := 50 } } } : State), by decide +kernel⟩,
   ⟨z, 18001, by decide +kernel⟩,
   ⟨({ z with fld := { z.fld with side := FieldSide.start 1 0 24000 } } : State), 15999, by decide +kernel⟩,
   ⟨({ z with fld := { z.fld with side := FieldSide.start 1 0 24000 } } : State), by decide +kernel⟩,
   ⟨({ z with fld := { z.fld with side := { FieldSide.start 1 0 24000 with inputs := Tab.fill 24 { Input.reset with ones := 100000 }, cfg := { FieldCfg.reset with inputs := Tab.fill 24 { InCfg.reset with tStuck := 1 } } } } } : State), 0, by decide +kernel⟩,
   ⟨({ z with fld := { z.fld with side := { FieldSide.start 1 0 24000 with inputs := Tab.fill 24 { Input.reset with changes := List.replicate 21 0 }, cfg := { FieldCfg.reset with inputs := Tab.fill 24 { InCfg.reset with chatEn := true } } } } } : State), 0, by decide +kernel⟩,
   ⟨({ z with fld := { z.fld with side := FieldSide.start 1 0 24000 } } : State), by decide +kernel⟩,
   ⟨({ z with fld := { z.fld with side := { FieldSide.start 1 0 24000 with outs := Tab.fill 16 { applied := true, held := false, overload := false } } } } : State), 0, by decide +kernel⟩,
   ⟨({ z with fld := { z.fld with side := { FieldSide.start 1 0 24000 with outs := Tab.fill 16 { applied := true, held := false, overload := false }, sumFor := Tab.fill 2 (some 1000) } } } : State), 0, [100, 300], 1000, (({ z with fld := { z.fld with side := { FieldSide.start 1 0 24000 with outs := Tab.fill 16 { applied := true, held := false, overload := false }, sumFor := Tab.fill 2 (some 1000) } } } : State).side.heaviest 0 [100, 300]).getD 0, by decide +kernel⟩,
   ⟨word z 7 tyData 0, zw tyData 0, by unfold WordAt; decide +kernel⟩,
   ⟨z, 0x04, 0x0A14, (z.fld.mirror.write 0x04 0x0A14).getD FieldCfg.reset, by decide +kernel⟩,
   ⟨begins (z.onSupply fun x => { x with fpPresent := true }) (zq 0x0401 [1, 0, 1, 0]), zr, zq 0x0401 [1, 0, 1, 0], by decide +kernel⟩,
   ⟨begins z (zq 0x0402 []), zr, zq 0x0402 [], by decide +kernel⟩,
   ⟨begins z (zq 0x0403 ([4, 0, 0, 0] ++ le 4 0x0A14)), zr, zq 0x0403 ([4, 0, 0, 0] ++ le 4 0x0A14), (z.fld.mirror.write 0x04 0x0A14).getD FieldCfg.reset, by decide +kernel⟩⟩

theorem test_witness_PacketCommandsComplete :
    (∃ (s : State), s.cmd.serving = true ∧ 256 ≤ s.rxWaiting) ∧
    (∃ (s : State) (p : List Byte), s.cmd.serving = true ∧ s.rxWaiting < 256 ∧ s.cmd.canEn = true ∧ packetOk (p.take (20 + u16 p 12)) 44 0 = false) ∧
    (∃ (s : State) (w : List Byte), s.cmd.serving = true ∧ s.rxWaiting < 256 ∧ wrapperOk w = true ∧ u32 w 0 ≠ 0 ∧ s.cmd.slotOf (u32 w 0) = none) ∧
    (∃ (s : State) (to_ : Nat), s.cmd.serving = true ∧ s.rxWaiting < 256 ∧ to_ ≠ portCmd ∧ to_ ≠ portNote) ∧
    (∃ (s : State) (p : List Byte), s.cmd.serving = true ∧ s.rxWaiting < 256 ∧ s.cmd.canEn = true ∧ packetOk p 44 0 = true ∧ u8 p 6 = 0xFF ∧ s.twin.role ≠ .shadow ∧
      s.mirrors = false) ∧
    (∃ (s : State) (w : List Byte) (p : List Byte) (k : Fin 4) (x : Session) (g : Grp), s.cmd.serving = true ∧ s.rxWaiting < 256 ∧ wrapperOk w = true ∧ u32 w 0 ≠ 0 ∧ s.cmd.slotOf (u32 w 0) = some k ∧
      s.cmd.sessions.get k = some x ∧ x.opens w p = true ∧ x.seqOk (ofLe (slice w 4 8)) = true ∧ ofLe (slice w 4 8) < seqMax ∧
      packetOk p 1424 x.id = true ∧ u8 p 6 = g.1 ∧ bit (u8 p 1) 0 = false ∧ (s.group g).holder = .src (.session k) ∧ s.twin.role ≠ .shadow ∧
      (s.group g).causes.stalled = false ∧ (s.group g).held = [] ∧ (s.group g).outstanding < 64 ∧ u16 p 4 = (s.group g).expected ∧
      s.mirrors = false) ∧
    (∃ (s : State) (g : Grp) (c : Cmd) (rest : List Cmd), s.cmd.serving = true ∧ (s.group g).taken = c :: rest ∧ (s.group g).causes.stalled = false ∧ (s.group g).exec = none ∧
      ((c.fence = true → (s.group g).handed = [])) ∧ s.handoverHolds = false ∧ s.mirrors = false ∧ c.group = some g ∧ c.check = none) ∧
    (∃ (s : State) (i : Fin 6) (c : Cmd) (rest : List Cmd), s.cmd.serving = true ∧ (s.cmd.sources.get i).waiting = c :: rest ∧ (s.cmd.sources.get i).exec = none ∧ s.mirrors = false ∧
      c.group = none ∧ c.src.idx = i ∧ c.check = none) ∧
    (∃ (s : State) (k : Fin 4) (x : Session), s.cmd.sessions.get k = some x ∧ 60000000 ≤ s.since x.lastAt) ∧
    (∃ (s : State) (r : CmdRef) (q : Cmd) (k : Fin 4), s.begun r = some q ∧ q.opcode = 0x0105 ∧ q.params = [] ∧ q.src = .session k) ∧
    (∃ (s : State) (r : CmdRef) (q : Cmd), s.begun r = some q ∧ q.opcode = 0x0102 ∧ q.params.length ≤ 1420) ∧
    (∃ (s : State) (r : CmdRef) (q : Cmd) (g : Grp), s.begun r = some q ∧ q.opcode = 0x0E03 ∧ q.params = [] ∧ q.group = some g ∧ (s.group g).handed = []) ∧
    (∃ (s : State) (r : CmdRef) (q : Cmd) (g : Grp), s.begun r = some q ∧ q.opcode = 0x0E01 ∧ q.params.length = 4 ∧ zeroAt q.params [1, 2, 3] = true ∧ s.ownGroup q = .ok g ∧
      (((s.group g).causes.clsS = true → s.flt.forceSafe = false ∧ ∀ e ∈ s.flt.queue, e.cls ≠ .S)) ∧
      (((s.group g).causes.clsD = true → ∀ e ∈ s.flt.queue, e.cls ≠ .D))) ∧
    (∃ (s : State) (r : CmdRef) (q : Cmd) (g : Grp), s.begun r = some q ∧ q.opcode = 0x0E02 ∧ q.params.length = 4 ∧ zeroAt q.params [2, 3] = true ∧ u8 q.params 1 ≤ 1 ∧
      s.ownGroup q = .ok g) ∧
    (∃ (s : State) (r : CmdRef) (q : Cmd), s.begun r = some q ∧ q.opcode = 0x0101 ∧ q.params = []) ∧
    (∃ (s : State) (r : CmdRef) (q : Cmd), s.begun r = some q ∧ q.opcode = 0x0103 ∧ q.params = []) :=
  ⟨⟨z.onCmd fun x => { x with serving := true, rxUntil := z.now + 200000 }, by decide +kernel⟩,
   ⟨z.onCmd fun x => { x with serving := true, canEn := true, rxUntil := 0 }, [], by decide +kernel⟩,
   ⟨z.onCmd fun x => { x with serving := true, rxUntil := 0 }, le 4 99 ++ zeros 24, by decide +kernel⟩,
   ⟨z.onCmd fun x => { x with serving := true, rxUntil := 0 }, 0, by decide +kernel⟩,
   ⟨z.onCmd fun x => { x with serving := true, canEn := true, rxUntil := 0 }, zpkt 0xFF 0, by decide +kernel⟩,
   (by refine ⟨zses z, zwrap, zpkt 5 7, 0, zsess, 5, ?_, ?_, zwrapOk, by rw [zwrapId]; decide, by rw [zwrapId]; decide +kernel, ?_, zopens, by rw [zwrapSeq]; decide +kernel, by rw [zwrapSeq]; decide +kernel, ?_, ?_, ?_, ?_, ?_, ?_, ?_, ?_, ?_, ?_⟩ <;> decide +kernel),
   ⟨(z.onCmd fun x => { x with serving := true }).onGroup 0 fun x => { x with taken := [{ zq 0x0102 [] with group := some 0 }] }, 0, { zq 0x0102 [] with group := some 0 }, [], by decide +kernel⟩,
   ⟨z.onCmd fun x => { x with serving := true, sources := Tab.fill 6 { Source.reset with waiting := [zq 0x0102 []] } }, 0, zq 0x0102 [], [], by decide +kernel⟩,
   ⟨atNow (z.onCmd fun x => { x with sessions := Tab.fill 4 (some zsess) }) 60000000, 0, zsess, by decide +kernel⟩,
   ⟨begins z (zq 0x0105 []), zr, zq 0x0105 [], 0, by decide +kernel⟩,
   ⟨begins z (zq 0x0102 [1]), zr, zq 0x0102 [1], by decide +kernel⟩,
   ⟨begins z ({ zq 0x0E03 [] with group := some 0 }), zr, { zq 0x0E03 [] with group := some 0 }, 0, by decide +kernel⟩,
   ⟨begins (z.onGroup 0 fun x => { x with holder := .src (.session 0), causes := { Causes.none with failure := true } }) (zq 0x0E01 [0, 0, 0, 0]), zr, zq 0x0E01 [0, 0, 0, 0], 0, by decide +kernel⟩,
   ⟨begins (z.onGroup 0 fun x => { x with holder := .src (.session 0), causes := { Causes.none with failure := true } }) (zq 0x0E02 [0, 1, 0, 0]), zr, zq 0x0E02 [0, 1, 0, 0], 0, by decide +kernel⟩,
   ⟨begins z (zq 0x0101 []), zr, zq 0x0101 [], by decide +kernel⟩,
   ⟨begins z (zq 0x0103 []), zr, zq 0x0103 [], by decide +kernel⟩⟩

theorem test_witness_DataPortCommandsComplete :
    (∃ (s : State) (r : CmdRef) (q : Cmd), s.begun r = some q ∧ q.opcode = 0x0701 ∧ q.params.length = 12 ∧ s.openCheck q = none) ∧
    (∃ (s : State) (r : CmdRef) (q : Cmd) (w : Window) (o : Nat), s.begun r = some q ∧ q.opcode = 0x0702 ∧ q.params.length = 8 ∧ u8 q.params 1 = 0 ∧ s.window q (u8 q.params 0) = some w ∧
      w.burst (u16 q.params 2) (u32 q.params 4) (decide (q.src = .can)) = some o) ∧
    (∃ (s : State) (r : CmdRef) (q : Cmd) (w : Window) (o : Nat) (n : Nat) (g : Region), s.begun r = some q ∧ q.opcode = 0x0703 ∧ q.params.length = 8 + u16 q.params 2 ∧ u8 q.params 1 = 0 ∧
      s.window q (u8 q.params 0) = some w ∧ w.burst (u16 q.params 2) (u32 q.params 4) (decide (q.src = .can)) = some o ∧ w.attr = 0 ∧
      n = min (u16 q.params 2) (w.length - o) ∧ 1 ≤ n ∧ regionOf w.base w.length = some g ∧ s.memRefusal g.space (w.base + o) n = none) ∧
    (∃ (s : State) (u : State) (r : CmdRef) (q : Cmd) (w : Window) (o : Nat) (n : Nat), s.begun r = some q ∧ q.opcode = 0x0703 ∧ q.params.length = 8 + u16 q.params 2 ∧ u8 q.params 1 = 0 ∧
      s.window q (u8 q.params 0) = some w ∧ w.burst (u16 q.params 2) (u32 q.params 4) (decide (q.src = .can)) = some o ∧ w.attr = 2 ∧
      n = min (u16 q.params 2) (w.length - o) ∧ s.fieldFull (w.base + o) (n / 4) = false ∧
      u = (s.seek q (u8 q.params 0) w o).access (regIsland (w.base + o)) (n / 4) false ∧
      (State.writeRegs (w.base + o) (slice q.params 8 n) (n / 4) u).1 = .ok) ∧
    (∃ (s : State) (r : CmdRef) (q : Cmd), s.begun r = some q ∧ q.opcode = 0x0704 ∧ q.params.length = 4 ∧ zeroAt q.params [1, 2, 3] = true ∧ u8 q.params 0 ≤ 3) ∧
    (∃ (s : State) (r : CmdRef) (q : Cmd) (w : Window) (x : Stream), s.begun r = some q ∧ q.opcode = 0x0705 ∧ q.params.length = 4 ∧ u8 q.params 1 = 0 ∧ s.window q (u8 q.params 0) = some w ∧ w.attr = 1 ∧
      streamAt w.base w.length = some x ∧ u16 q.params 2 ≤ (s.streamItems x).length) :=
  ⟨⟨begins z (zq 0x0701 ([0, 1, 0, 0] ++ le 4 0x10000000 ++ le 4 16)), zr, zq 0x0701 ([0, 1, 0, 0] ++ le 4 0x10000000 ++ le 4 16), by decide +kernel⟩,
   ⟨begins (zwin z { elem := 1, attr := 0, autoinc := false, base := 0x10000000, length := 16, cursor := 0 }) (zq 0x0702 ([0, 0] ++ le 2 4 ++ le 4 0)), zr, zq 0x0702 ([0, 0] ++ le 2 4 ++ le 4 0), { elem := 1, attr := 0, autoinc := false, base := 0x10000000, length := 16, cursor := 0 }, 0, by decide +kernel⟩,
   ⟨begins (zwin z { elem := 1, attr := 0, autoinc := false, base := 0x10000000, length := 16, cursor := 0 }) (zq 0x0703 ([0, 0] ++ le 2 4 ++ le 4 12 ++ zeros 4)), zr, zq 0x0703 ([0, 0] ++ le 2 4 ++ le 4 12 ++ zeros 4), { elem := 1, attr := 0, autoinc := false, base := 0x10000000, length := 16, cursor := 0 }, 12, 4, (regionOf 0x10000000 16).getD { base := 0, length := 0, space := .plain, attrs := [], elems := [] }, by decide +kernel⟩,
   (by refine ⟨begins (zwin z { elem := 4, attr := 2, autoinc := false, base := 0x20003048, length := 4, cursor := 0 }) (zq 0x0703 ([0, 0] ++ le 2 4 ++ le 4 0 ++ le 4 600)), ((begins (zwin z { elem := 4, attr := 2, autoinc := false, base := 0x20003048, length := 4, cursor := 0 }) (zq 0x0703 ([0, 0] ++ le 2 4 ++ le 4 0 ++ le 4 600))).seek (zq 0x0703 ([0, 0] ++ le 2 4 ++ le 4 0 ++ le 4 600)) 0 { elem := 4, attr := 2, autoinc := false, base := 0x20003048, length := 4, cursor := 0 } 0).access (regIsland 0x20003048) 1 false, zr, zq 0x0703 ([0, 0] ++ le 2 4 ++ le 4 0 ++ le 4 600), { elem := 4, attr := 2, autoinc := false, base := 0x20003048, length := 4, cursor := 0 }, 0, 4, ?_, ?_, ?_, ?_, ?_, ?_, ?_, ?_, ?_, rfl, ?_⟩ <;> decide +kernel),
   ⟨begins z (zq 0x0704 [3, 0, 0, 0]), zr, zq 0x0704 [3, 0, 0, 0], by decide +kernel⟩,
   ⟨begins (zwin z { elem := 32, attr := 1, autoinc := false, base := (Stream.notes 0).extent.1, length := (Stream.notes 0).extent.2, cursor := 0 }) (zq 0x0705 [0, 0, 1, 0]), zr, zq 0x0705 [0, 0, 1, 0], { elem := 32, attr := 1, autoinc := false, base := (Stream.notes 0).extent.1, length := (Stream.notes 0).extent.2, cursor := 0 }, .notes 0, by decide +kernel⟩⟩

theorem test_witness_DataPortMemory :
    ∃ (s : State) (b : List Byte), Memory.wf s.mem = true ∧ 0 < b.length :=
  ⟨z, [1, 2], by decide +kernel⟩

theorem test_witness_FaultCommandsComplete :
    (∃ (s : State) (w : FaultWord) (rest : List FaultWord), takeFirst s.flt.words = some (w, rest) ∧ (∀ e ∈ s.flt.queue, e.merges w = false) ∧ s.flt.room w.cls = true) ∧
    (∃ (s : State) (w : FaultWord) (rest : List FaultWord), takeFirst s.flt.words = some (w, rest) ∧ (∃ e ∈ s.flt.queue, e.merges w = true)) ∧
    (∃ (s : State) (w : FaultWord) (rest : List FaultWord), takeFirst s.flt.words = some (w, rest) ∧ w.island ≠ 0 ∧ w.resent = false) ∧
    (∃ (s : State) (k : Nat), s.flt.quietEnd = some k ∧ k ≤ s.now) ∧
    (∃ (s : State) (e : FaultEntry), s.cmd.serving = true ∧ s.flt.select.running = some e) ∧
    (∃ (s : State) (r : CmdRef) (q : Cmd), s.begun r = some q ∧ q.opcode = 0x0E04 ∧ q.params.length = 4 ∧ zeroAt q.params [2, 3] = true ∧ u8 q.params 0 ≤ 63 ∧
      1 ≤ u8 q.params 1 ∧ u8 q.params 1 ≤ 64 ∧ ((q.src = .can → u8 q.params 1 = 1))) ∧
    (∃ (s : State), s.cmd.serving = true) ∧
    (∃ (s : State), s.flt.gate.expired = false ∧ 300000 ≤ s.since s.flt.gate.lastRenewal) ∧
    (∃ (s : State) (n : Isl) (ago : Nat), s.watched n = true ∧ s.wdtTimeout n ≤ ago ∧ s.wdtTimeout n ≤ s.since (s.flt.wdtFrom.get n)) ∧
    (∃ (s : State), s.flt.forceSafe = false ∧ s.pwr.state ≠ .off) ∧
    (∃ (s : State), s.flt.forceSafe = true) :=
  ⟨⟨z.onFlt fun x => { x with words := [{ cls := .C, island := 1, code := 5, p0 := 0, p1 := 0, at_ := 0, tick := 0, event := 0, seq := 0, resent := false }], queue := [] }, { cls := .C, island := 1, code := 5, p0 := 0, p1 := 0, at_ := 0, tick := 0, event := 0, seq := 0, resent := false }, [], by decide +kernel⟩,
   ⟨z.onFlt fun x => { x with words := [{ cls := .C, island := 1, code := 5, p0 := 0, p1 := 0, at_ := 0, tick := 0, event := 0, seq := 0, resent := false }], queue := [{ cls := .C, state := .queued, code := 5, p0 := 0, p1 := 0, merged := 0, seq := 1, tick := 0, event := 0, step := 0, notified := false, added := [] }] }, { cls := .C, island := 1, code := 5, p0 := 0, p1 := 0, at_ := 0, tick := 0, event := 0, seq := 0, resent := false }, [], by decide +kernel⟩,
   ⟨z.onFlt fun x => { x with words := [{ cls := .C, island := 1, code := 5, p0 := 0, p1 := 0, at_ := 0, tick := 0, event := 0, seq := 0, resent := false }] }, { cls := .C, island := 1, code := 5, p0 := 0, p1 := 0, at_ := 0, tick := 0, event := 0, seq := 0, resent := false }, [], by decide +kernel⟩,
   ⟨z.onFlt fun x => { x with quietEnd := some 0 }, 0, by decide +kernel⟩,
   ⟨(z.onCmd fun x => { x with serving := true }).onFlt fun x => { x with queue := [{ cls := .C, state := .queued, code := 5, p0 := 0, p1 := 0, merged := 0, seq := 1, tick := 0, event := 0, step := 0, notified := false, added := [] }] }, { cls := .C, state := .running, code := 5, p0 := 0, p1 := 0, merged := 0, seq := 1, tick := 0, event := 0, step := 0, notified := false, added := [] }, by decide +kernel⟩,
   ⟨begins z (zq 0x0E04 [0, 1, 0, 0]), zr, zq 0x0E04 [0, 1, 0, 0], by decide +kernel⟩,
   ⟨z.onCmd fun x => { x with serving := true }, by decide +kernel⟩,
   ⟨atNow (z.onFlt fun x => { x with gate := { z.flt.gate with expired := false } }) 300000, by decide +kernel⟩,
   ⟨atNow (z.onPwr fun x => { x with islandUp := Tab.fill 9 true }) 10000000, 1, 10000000, by decide +kernel⟩,
   ⟨z, by decide +kernel⟩,
   ⟨z.onFlt fun x => { x with forceSafe := true }, by decide +kernel⟩⟩

theorem test_witness_CanEventsComplete :
    (∃ (s : State) (c : CanNo) (f : CanFrame) (k : Fin 32), s.canRuns c = true ∧ (s.canCh c).integrating = false ∧ ((s.canCh c).state = .active ∨ (s.canCh c).state = .passive) ∧
      ((f.fdf = true → (s.canCh c).fdEn = true)) ∧ s.isCommand c f = false ∧ s.isNm f = false ∧ (s.nmCh c).state ≠ .clearing ∧
      (s.canCh c).pair f = some k ∧ ((s.canCh c).filters.get k).action = 1 ∧ bit ((s.canCh c).filters.get k).mask 29 = false ∧
      ((s.canCh c).q.get 0).items.length < 48) ∧
    (∃ (s : State) (c : CanNo) (f : CanFrame) (k : Fin 32), s.canRuns c = true ∧ (s.canCh c).integrating = false ∧ ((s.canCh c).state = .active ∨ (s.canCh c).state = .passive) ∧
      ((f.fdf = true → (s.canCh c).fdEn = true)) ∧ s.isCommand c f = false ∧ s.isNm f = false ∧ (s.nmCh c).state ≠ .clearing ∧
      (s.canCh c).pair f = some k ∧ ((s.canCh c).filters.get k).action = 2 ∧ bit ((s.canCh c).filters.get k).mask 29 = false ∧
      48 ≤ ((s.canCh c).q.get 1).items.length) ∧
    (∃ (s : State) (c : CanNo), s.canRuns c = true ∧ (s.canCh c).integrating = false ∧ ((s.canCh c).state = .active ∨ (s.canCh c).state = .passive) ∧
      (s.canCh c).mode ≠ 2) ∧
    (∃ (s : State) (c : CanNo) (b : Fin 5) (f : CanFrame) (l : Nat) (ago : Nat), s.canRuns c = true ∧ (s.canCh c).integrating = false ∧ ((s.canCh c).state = .active ∨ (s.canCh c).state = .passive) ∧
      (∀ a, ((s.canCh c).tx.get a).next = none) ∧ ((s.canCh c).tx.get b).frame = some (f, l) ∧ ((s.canCh c).tx.get b).abort = false ∧
      s.attempting c b (s.now - ago) = true) ∧
    (∃ (s : State) (c : CanNo), s.canRuns c = true ∧ (s.canCh c).integrating = false ∧ (s.canCh c).fdEn = false ∧ (s.canCh c).state ≠ .busOff) ∧
    (∃ (s : State) (c : CanNo), (s.canCh c).state = .active ∧ (128 ≤ (s.canCh c).tec ∨ 128 ≤ (s.canCh c).rec_)) ∧
    (∃ (s : State) (c : CanNo), (s.canCh c).state = .passive ∧ (s.canCh c).tec < 128 ∧ (s.canCh c).rec_ < 128) ∧
    (∃ (s : State) (c : CanNo), ((s.canCh c).state = .active ∨ (s.canCh c).state = .passive) ∧ 256 ≤ (s.canCh c).tec) ∧
    (∃ (s : State) (c : CanNo), (s.canCh c).state = .busOff ∧ s.canRuns c = true ∧ 1408 * (s.canCh c).bitNs ≤ 1000 * s.since (s.canCh c).busoffAt) ∧
    (∃ (s : State) (c : CanNo), s.canRuns c = true ∧ (s.canCh c).integrating = true) ∧
    (∃ (s : State) (c : CanNo) (b : Fin 5) (id : Nat) (n : Nat), ((s.canCh c).tx.get b).due = some (id, n)) ∧
    (∃ (s : State) (c : CanNo) (b : Fin 5) (f : CanFrame) (l : Nat) (ago : Nat), (∀ a, ((s.canCh c).tx.get a).next = none) ∧ ((s.canCh c).tx.get b).frame = some (f, l) ∧ s.attempting c b (s.now - ago) = true ∧
      ((b = 3 → (s.canCh c).waiting = [] ∧ ((s.canCh c).tx.get b).cmd = none))) ∧
    (∃ (s : State) (c : CanNo) (b : Fin 3) (f : CanFrame) (l : Nat), ((s.canCh c).tx.get ⟨b.1, by omega⟩).abort = true ∧ ((s.canCh c).tx.get ⟨b.1, by omega⟩).frame = some (f, l)) :=
  ⟨⟨z.onCanCh 0 fun x => { x with ctrl := 1, integrating := false, state := .active, filters := Tab.fill 32 { id := 1 * 2 ^ 30, mask := 0 } }, 0, CanFrame.own 1 false false false false 0 [], 0, by decide +kernel⟩,
   ⟨z.onCanCh 0 fun x => { x with ctrl := 1, integrating := false, state := .active, filters := Tab.fill 32 { id := 2 * 2 ^ 30, mask := 0 }, q := Tab.fill 2 { CanQueue.reset with items := List.replicate 48 { frame := (CanFrame.own 1 false false false false 0 []), tick := 0, sub := 0, pair := 0, seq := 0 } } }, 0, CanFrame.own 1 false false false false 0 [], 0, by decide +kernel⟩,
   ⟨z.onCanCh 0 fun x => { x with ctrl := 1, integrating := false, state := .active }, 0, by decide +kernel⟩,
   ⟨z.onCanCh 0 fun x => { x with ctrl := 1, integrating := false, state := .active, tx := (Tab.fill 5 TxBuf.reset).put 0 { TxBuf.reset with frame := some ((CanFrame.own 1 false false false false 0 []), 0) } }, 0, 0, CanFrame.own 1 false false false false 0 [], 0, 0, by decide +kernel⟩,
   ⟨z.onCanCh 0 fun x => { x with ctrl := 1, integrating := false, state := .active }, 0, by decide +kernel⟩,
   ⟨z.onCanCh 0 fun x => { x with state := .active, tec := 128 }, 0, by decide +kernel⟩,
   ⟨z.onCanCh 0 fun x => { x with state := .passive }, 0, by decide +kernel⟩,
   ⟨z.onCanCh 0 fun x => { x with state := .passive, tec := 256 }, 0, by decide +kernel⟩,
   ⟨atNow (z.onCanCh 0 fun x => { x with ctrl := 1, state := .busOff }) 1000000000, 0, by decide +kernel⟩,
   ⟨z.onCanCh 0 fun x => { x with ctrl := 1, integrating := true }, 0, by decide +kernel⟩,
   ⟨z.onCanCh 0 fun x => { x with tx := Tab.fill 5 { TxBuf.reset with due := some (5, 16) } }, 0, 0, 5, 16, by decide +kernel⟩,
   ⟨z.onCanCh 0 fun x => { x with ctrl := 1, integrating := false, state := .active, tx := (Tab.fill 5 TxBuf.reset).put 0 { TxBuf.reset with frame := some ((CanFrame.own 1 false false false false 0 []), 0) } }, 0, 0, CanFrame.own 1 false false false false 0 [], 0, 0, by decide +kernel⟩,
   ⟨z.onCanCh 0 fun x => { x with tx := Tab.fill 5 { TxBuf.reset with abort := true, frame := some ((CanFrame.own 1 false false false false 0 []), 0) } }, 0, 0, CanFrame.own 1 false false false false 0 [], 0, by decide +kernel⟩⟩

theorem test_witness_CanCommandsComplete :
    (∃ (s : State) (r : CmdRef) (q : Cmd) (c : CanNo), s.begun r = some q ∧ q.opcode = 0x0501 ∧ q.params.length = 20 ∧ zeroAt q.params [1, 2, 3] = true ∧ canOfNum (u8 q.params 0) = some c ∧
      timingOk (nbtMask (u32 q.params 8)) (dbtMask (u32 q.params 12)) = true ∧ s.assignMoves c (ctrlMask (u32 q.params 4)) = false ∧
      ((s.canCh c).mode = 0 ∨ (nbtMask (u32 q.params 8) = (s.canCh c).nbt ∧ dbtMask (u32 q.params 12) = (s.canCh c).dbt ∧ tdcMask (u32 q.params 16) = (s.canCh c).tdc ∧ bits (ctrlMask (u32 q.params 4)) 2 2 = bits (s.canCh c).ctrl 2 2))) ∧
    (∃ (s : State) (r : CmdRef) (q : Cmd) (c : CanNo), s.begun r = some q ∧ q.opcode = 0x0502 ∧ u8 q.params 3 = 0 ∧ 1 ≤ u8 q.params 2 ∧ u8 q.params 1 + u8 q.params 2 ≤ 32 ∧
      q.params.length = 4 + 8 * u8 q.params 2 ∧ ((q.src = .can → q.params.length ≤ 44)) ∧ canOfNum (u8 q.params 0) = some c) ∧
    (∃ (s : State) (r : CmdRef) (q : Cmd) (c : CanNo) (b : Fin 5) (f : CanFrame), s.begun r = some q ∧ q.opcode = 0x0503 ∧ canOfNum (u8 q.params 0) = some c ∧ b.1 = u8 q.params 1 ∧ b.1 < 3 ∧ u8 q.params 2 ≤ 15 ∧
      f = CanFrame.own (u32 q.params 4) (bit (u8 q.params 2) 0) (bit (u8 q.params 2) 1) (bit (u8 q.params 2) 2) (bit (u8 q.params 2) 3) (u8 q.params 3) (if bit (u8 q.params 2) 1 then [] else slice q.params 8 (u8 q.params 3)) ∧
      q.params.length = 8 + f.data.length ∧ ((f.rtr = false → f.data.length = f.len)) ∧ f.id < (if f.ide then 2 ^ 29 else 2 ^ 11) ∧
      ((q.src = .can → q.params.length ≤ 44)) ∧ (s.canCh c).tbWeft b = false ∧ (s.canCh c).mode = 1 ∧ ((s.canCh c).tx.get b).frame = none ∧
      (s.canCh c).loadable f = true) ∧
    (∃ (s : State) (r : CmdRef) (q : Cmd) (c : CanNo), s.begun r = some q ∧ q.opcode = 0x0504 ∧ q.params.length = 4 ∧ zeroAt q.params [1, 2, 3] = true ∧ canOfNum (u8 q.params 0) = some c) ∧
    (∃ (s : State) (w : ShWord) (c : CanNo) (q : Fin 2) (i : CanItem), WordAt s 2 tyData w ∧ s.can.asm = none ∧ s.pwr.islandUp.get 3 = true ∧ pf w.payload 0 8 = 0x10 ∧
      canOfNum (pf w.payload 8 4) = some c ∧ q.1 = pf w.payload 12 1 ∧ (s.canCh c).qWeft q = true ∧
      pf w.payload 24 4 + pf w.payload 32 3 ≤ 10 ∧ 1 ≤ pf w.payload 32 3 ∧ pf w.payload 16 6 ≤ 47 ∧
      ((s.canCh c).q.get q).items[pf w.payload 16 6]? = some i) ∧
    (∃ (s : State) (w : ShWord) (c : CanNo) (q : Fin 2), WordAt s 2 tyData w ∧ s.can.asm = none ∧ s.pwr.islandUp.get 3 = true ∧ pf w.payload 0 8 = 0x11 ∧
      canOfNum (pf w.payload 8 4) = some c ∧ q.1 = pf w.payload 12 1 ∧ (s.canCh c).qWeft q = true ∧ 1 ≤ pf w.payload 16 6 ∧
      pf w.payload 16 6 ≤ 48) ∧
    (∃ (s : State) (w : ShWord) (c : CanNo) (b : Fin 5) (f : CanFrame), WordAt s 2 tyData w ∧ s.can.asm = none ∧ s.pwr.islandUp.get 3 = true ∧ pf w.payload 0 8 = 0x12 ∧
      canOfNum (pf w.payload 8 4) = some c ∧ b.1 = pf w.payload 12 2 ∧ b.1 < 3 ∧ txWords w.payload = 0 ∧ (s.canCh c).tbWeft b = true ∧
      f = CanFrame.own (pf w.payload 16 29) (decide (pf w.payload 45 1 = 1)) (decide (pf w.payload 46 1 = 1)) (decide (pf w.payload 47 1 = 1)) (decide (pf w.payload 48 1 = 1)) (pf w.payload 49 7) [] ∧
      (s.canCh c).loadable f = true ∧ ((f.ide = true ∨ f.id < 2048)) ∧ s.twin.role ≠ .shadow ∧ ((s.canCh c).tx.get b).frame = none) ∧
    (∃ (s : State) (w : ShWord) (c : CanNo), WordAt s 2 tyData w ∧ s.can.asm = none ∧ s.pwr.islandUp.get 3 = true ∧ pf w.payload 0 8 = 0x13 ∧ canOfNum (pf w.payload 8 4) = some c) ∧
    (∃ (s : State) (w : ShWord), WordAt s 2 tyCmd w ∧ s.can.asm = none ∧ s.pwr.islandUp.get 3 = true) :=
  ⟨⟨begins z (zq 0x0501 ([1, 0, 0, 0] ++ le 4 1 ++ le 4 (29 * 256 + 9 * 65536) ++ le 4 (256 + 65536) ++ le 4 0)), zr, zq 0x0501 ([1, 0, 0, 0] ++ le 4 1 ++ le 4 (29 * 256 + 9 * 65536) ++ le 4 (256 + 65536) ++ le 4 0), 0, by decide +kernel⟩,
   ⟨begins z (zq 0x0502 ([1, 0, 1, 0] ++ zeros 8)), zr, zq 0x0502 ([1, 0, 1, 0] ++ zeros 8), 0, by decide +kernel⟩,
   ⟨begins (z.onCanCh 0 fun x => { x with ctrl := 1, integrating := false, state := .active }) (zq 0x0503 ([1, 0, 0, 0] ++ le 4 1)), zr, zq 0x0503 ([1, 0, 0, 0] ++ le 4 1), 0, 0, CanFrame.own 1 false false false false 0 [], by decide +kernel⟩,
   ⟨begins z (zq 0x0504 [1, 0, 0, 0]), zr, zq 0x0504 [1, 0, 0, 0], 0, by decide +kernel⟩,
   ⟨word ((z.onCanCh 0 fun x => { x with ctrl := 0x101, q := Tab.fill 2 { CanQueue.reset with items := [{ frame := (CanFrame.own 1 false false false false 0 []), tick := 0, sub := 0, pair := 0, seq := 0 }] } }).onCan fun x => { x with asm := none }) 2 tyData 0x100000110, zw tyData 0x100000110, 0, 0, { frame := (CanFrame.own 1 false false false false 0 []), tick := 0, sub := 0, pair := 0, seq := 0 }, by unfold WordAt; decide +kernel⟩,
   ⟨word ((z.onCanCh 0 fun x => { x with ctrl := 0x101 }).onCan fun x => { x with asm := none }) 2 tyData 0x10111, zw tyData 0x10111, 0, 0, by unfold WordAt; decide +kernel⟩,
   ⟨word ((z.onCanCh 0 fun x => { x with ctrl := 0x401 }).onCan fun x => { x with asm := none }) 2 tyData 0x10112, zw tyData 0x10112, 0, 0, CanFrame.own 1 false false false false 0 [], by unfold WordAt; decide +kernel⟩,
   ⟨word (z.onCan fun x => { x with asm := none }) 2 tyData 0x113, zw tyData 0x113, 0, by unfold WordAt; decide +kernel⟩,
   ⟨word (z.onCan fun x => { x with asm := none }) 2 tyCmd 0, zw tyCmd 0, by unfold WordAt; decide +kernel⟩⟩

theorem test_witness_NetworkManagementComplete :
    (∃ (s : State) (c : CanNo), ((s.nmCh c).state = .rpt ∨ (s.nmCh c).state = .normal) ∧
      ((s.nmCh c).sentAt = none ∨ (∃ t, (s.nmCh c).sentAt = some t ∧ 1000 * s.nm.cfg.cycle ≤ s.since t)) ∧
      ((s.canCh c).tx.get 3).frame = none) ∧
    (∃ (s : State) (c : CanNo), (s.nmCh c).state = .ready ∧ 1000 * s.nm.cfg.timeout ≤ s.since (s.nmCh c).timeoutAt) ∧
    (∃ (s : State) (c : CanNo), (s.nmCh c).state = .rpt ∧ 1000 * s.nm.cfg.rptTime ≤ s.since (s.nmCh c).since) ∧
    (∃ (s : State) (c : CanNo), (s.nmCh c).state = .clearing ∧ 1000 * s.nm.cfg.tClear ≤ s.since (s.nmCh c).since) ∧
    (∃ (s : State) (c : CanNo), s.nm.cfg.enabled c = true ∧ s.nm.cfg.selective c = none ∧ (s.nmCh c).state = .busSleep ∧ s.asleep = false ∧
      (s.pwr.state = .run ∨ s.pwr.state = .idle)) ∧
    (∃ (s : State) (c : CanNo), s.nm.cfg.enabled c = true ∧ (s.nm.cfg.selective c).isSome = true ∧ (s.nmCh c).state = .busSleep) ∧
    (∃ (s : State) (c : CanNo), 32 ≤ (s.nmCh c).errCount ∧ (s.nmCh c).state = .busSleep ∧ s.asleep = false ∧ (s.pwr.state = .run ∨ s.pwr.state = .idle)) ∧
    (∃ (s : State) (c : CanNo), (s.nmCh c).state = .listen ∧ 1000 * s.nm.cfg.falseWakeT ≤ s.since (s.nmCh c).since) ∧
    (∃ (s : State) (c : CanNo) (k : Nat), (s.nmCh c).host = some k ∧ s.nm.cfg.maxAwake ≠ 0 ∧ 1000000 * s.nm.cfg.maxAwake ≤ s.since k) ∧
    (∃ (s : State) (c : CanNo), (s.nmCh c).state = .ready ∧ (s.nmCh c).keeperSaid = false ∧ 1000000 * s.nm.cfg.keepLimit ≤ s.since (s.nmCh c).since) ∧
    (∃ (s : State) (r : CmdRef) (q : Cmd), s.begun r = some q ∧ q.opcode = 0x0505 ∧ zeroAt q.params [0, 1, 2, 3] = true ∧ q.params.length = 32 ∧
      timing1Ok (u32 q.params 12) = true ∧ timing2Ok (u32 q.params 16) = true ∧ timing3Ok (u32 q.params 20) = true ∧
      u32 q.params 24 % 2 ^ 17 ≤ 86400 ∧ ((∀ c, (s.nmCh c).state = .off ∨ (s.nmCh c).state = .busSleep))) ∧
    (∃ (s : State) (r : CmdRef) (q : Cmd) (l : List CanNo) (c : CanNo), s.begun r = some q ∧ q.opcode = 0x0506 ∧ u8 q.params 0 = 1 ∧ q.params.length = 4 ∧ zeroAt q.params [2, 3] = true ∧
      s.nmNamed (u8 q.params 1) = some l ∧ c ∈ l) ∧
    (∃ (s : State) (r : CmdRef) (q : Cmd) (l : List CanNo) (c : CanNo), s.begun r = some q ∧ q.opcode = 0x0506 ∧ u8 q.params 0 = 2 ∧ q.params.length = 4 ∧ zeroAt q.params [2, 3] = true ∧
      s.nmNamed (u8 q.params 1) = some l ∧ c ∈ l) ∧
    (∃ (s : State) (r : CmdRef) (q : Cmd) (l : List CanNo) (c : CanNo), s.begun r = some q ∧ q.opcode = 0x0506 ∧ u8 q.params 0 = 0 ∧ q.params.length = 4 ∧ zeroAt q.params [2, 3] = true ∧
      s.nmNamed (u8 q.params 1) = some l ∧ c ∈ l) ∧
    (∃ (s : State) (p : PortNo), s.tc10Ready = true ∧ s.nm.cfg.ethSleep p = true ∧ (s.port p).link = .up ∧ (s.port p).asked = false) ∧
    (∃ (s : State) (p : PortNo), (s.port p).link = .requested) ∧
    (∃ (s : State) (p : PortNo), s.tc10Ready = true ∧ s.nm.cfg.ethSleep p = true ∧ ((s.port p).link = .up ∨ (s.port p).link = .requested)) ∧
    (∃ (s : State) (p : PortNo), (s.port p).link = .asleep ∧ s.asleep = false ∧ (s.pwr.state = .run ∨ s.pwr.state = .idle) ∧ s.nm.cfg.ethFwd = false) :=
  ⟨⟨z.onNmCh 0 fun x => { x with state := .rpt, sentAt := none }, 0, by decide +kernel⟩,
   ⟨atNow (z.onNmCh 0 fun x => { x with state := .ready }) 10000000000, 0, by decide +kernel⟩,
   ⟨atNow (z.onNmCh 0 fun x => { x with state := .rpt }) 10000000000, 0, by decide +kernel⟩,
   ⟨atNow (z.onNmCh 0 fun x => { x with state := .clearing }) 10000000000, 0, by decide +kernel⟩,
   ⟨({ z with nm := { z.nm with cfg := { NmCfg.reset with config := 0x400BF } } } : State).onNmCh 0 fun x => { x with state := .busSleep }, 0, by decide +kernel⟩,
   ⟨({ z with nm := { z.nm with cfg := { NmCfg.reset with config := 0x40081, sw := Tab.fill 2 { id := 2 ^ 30, mask := 0, lo := 0, hi := 0 } } } } : State).onNmCh 0 fun x => { x with state := .busSleep }, 0, by decide +kernel⟩,
   ⟨z.onNmCh 0 fun x => { x with state := .busSleep, errCount := 32 }, 0, by decide +kernel⟩,
   ⟨atNow (z.onNmCh 0 fun x => { x with state := .listen }) 10000000000, 0, by decide +kernel⟩,
   ⟨atNow (({ z with nm := { z.nm with cfg := { NmCfg.reset with maxAwake := 1 } } } : State).onNmCh 0 fun x => { x with host := some 0 }) 10000000000, 0, 0, by decide +kernel⟩,
   ⟨atNow (z.onNmCh 0 fun x => { x with state := .ready }) 10000000000, 0, by decide +kernel⟩,
   ⟨begins z (zq 0x0505 (le 4 0 ++ le 4 0 ++ le 4 0x500 ++ le 4 (200 + 2000 * 65536) ++ le 4 (1500 + 50 * 65536) ++ le 4 (3000 + 600 * 65536) ++ le 4 86400 ++ le 4 0)), zr, zq 0x0505 (le 4 0 ++ le 4 0 ++ le 4 0x500 ++ le 4 (200 + 2000 * 65536) ++ le 4 (1500 + 50 * 65536) ++ le 4 (3000 + 600 * 65536) ++ le 4 86400 ++ le 4 0), by decide +kernel⟩,
   ⟨begins ({ z with nm := { z.nm with cfg := { NmCfg.reset with config := 0x400BF } } } : State) (zq 0x0506 [1, 1, 0, 0]), zr, zq 0x0506 [1, 1, 0, 0], [0], 0, by decide +kernel⟩,
   ⟨begins ({ z with nm := { z.nm with cfg := { NmCfg.reset with config := 0x400BF } } } : State) (zq 0x0506 [2, 1, 0, 0]), zr, zq 0x0506 [2, 1, 0, 0], [0], 0, by decide +kernel⟩,
   ⟨begins ({ z with nm := { z.nm with cfg := { NmCfg.reset with config := 0x400BF } } } : State) (zq 0x0506 [0, 1, 0, 0]), zr, zq 0x0506 [0, 1, 0, 0], [0], 0, by decide +kernel⟩,
   ⟨({ z with nm := { z.nm with cfg := { NmCfg.reset with config := 0x70080 } } } : State).onPort 0 fun x => { x with link := .up }, 0, by decide +kernel⟩,
   ⟨z.onPort 0 fun x => { x with link := .requested }, 0, by decide +kernel⟩,
   ⟨({ z with nm := { z.nm with cfg := { NmCfg.reset with config := 0x70080 } } } : State).onPort 0 fun x => { x with link := .up }, 0, by decide +kernel⟩,
   ⟨({ z with nm := { z.nm with cfg := { NmCfg.reset with config := 0x00080 } } } : State).onPort 0 fun x => { x with link := .asleep }, 0, by decide +kernel⟩⟩

theorem test_witness_EthernetComplete :
    (∃ (s : State) (p : PortNo) (frame : List Byte), s.etherRuns = true ∧ s.portOpen p.sw = true ∧ ethFrameOk frame = false) ∧
    (∃ (s : State) (p : PortNo) (o : PortNo) (frame : List Byte) (f : EthFrame), s.etherRuns = true ∧ s.portOpen p.sw = true ∧ s.portOpen o.sw = true ∧ o ≠ p ∧ ethFrameOk frame = true ∧
      f = parseEth (frame.take (frame.length - 4)) ∧ linkLocal f.dst = false ∧ f.dst % 2 = 0 ∧ s.eth.vlanEn = false ∧
      (s.eth.learn f.src (portNum p) s.now).known f.dst = some (portNum o) ∧
      (∀ x, (s.eth.outs.get x).waiting = [] ∧ (s.eth.outs.get x).freeAt ≤ 1000 * s.now)) ∧
    (∃ (s : State) (p : PortNo) (o : PortNo) (frame : List Byte) (f : EthFrame), s.etherRuns = true ∧ s.portOpen p.sw = true ∧ s.portOpen o.sw = true ∧ o ≠ p ∧ ethFrameOk frame = true ∧
      f = parseEth (frame.take (frame.length - 4)) ∧ linkLocal f.dst = false ∧ f.dst % 2 = 0 ∧ s.eth.vlanEn = false ∧
      (s.eth.learn f.src (portNum p) s.now).known f.dst = some (portNum o) ∧ (∀ x, 1000 * s.now < (s.eth.outs.get x).freeAt)) ∧
    (∃ (s : State), 256 ≤ s.eth.macs.length ∧ s.eth.fullAt = none) ∧
    (∃ (s : State) (p : PortNo), s.etherRuns = true ∧ (s.port p).link = .down) ∧
    (∃ (s : State) (p : PortNo), ((s.port p).link = .up ∨ (s.port p).link = .requested)) ∧
    (∃ (s : State) (p : PortNo), s.etherRuns = true ∧ s.portOpen p.sw = true ∧ 1000000 ≤ s.since (s.port p).pdelayAt) ∧
    (∃ (s : State) (p : PortNo) (gmId : Nat), s.etherRuns = true ∧ s.portOpen p.sw = true ∧ (s.port p).gptp ≠ 2 ∧ s.bestMaster p = some gmId) ∧
    (∃ (s : State) (p : PortNo) (next : Fin 4), s.eth.synced = true ∧ (s.port p).gptp = 2 ∧ next ≠ 2) ∧
    (∃ (s : State), s.cmd.serving = true ∧ s.eth.ipActive = 0 ∧ s.eth.dhcpEn = false ∧ s.eth.ipAddr ≠ 0) ∧
    (∃ (s : State), s.cmd.serving = true ∧ s.eth.ipActive = 0 ∧ s.eth.dhcpEn = true) ∧
    (∃ (s : State), s.dhcpDue = true ∧ s.eth.leaseHalf ≤ s.now) ∧
    (∃ (s : State), s.dhcpDue = true ∧ s.eth.leaseEnd ≤ s.now) ∧
    (∃ (s : State) (c : CanNo) (x : TunFrame) (rest : List TunFrame), s.etherRuns = true ∧ (s.eth.tun.get c).frames = x :: rest ∧ bits (s.eth.tun.get c).ctrl 4 7 = 0 ∧ x.at_ ≤ s.now) :=
  ⟨⟨((z.onClk fun x => { x with settled := true, i7Run := true }).onPort 0 fun x => { x with link := .up }).onPort 1 fun x => { x with link := .up }, 0, [], by decide +kernel⟩,
   by
  by_cases h : Config.macAddress = 2
  · exact ⟨zeth z, 0, 1, zframe 4, parseEth ((zframe 4).take ((zframe 4).length - 4)), (by decide +kernel), (by decide +kernel), (by decide +kernel), (by decide +kernel), (by decide +kernel), rfl, (by decide +kernel), (by decide +kernel), (by decide +kernel), (by
      unfold Eth.learn; rw [if_pos (Or.inr (by decide +kernel))]; unfold Eth.known
      rw [if_neg (by rw [show (parseEth ((zframe 4).take ((zframe 4).length - 4))).dst = 4 by decide +kernel]; rw [h]; decide)]; decide +kernel), (by decide +kernel)⟩
  · exact ⟨zeth z, 0, 1, zframe 2, parseEth ((zframe 2).take ((zframe 2).length - 4)), (by decide +kernel), (by decide +kernel), (by decide +kernel), (by decide +kernel), (by decide +kernel), rfl, (by decide +kernel), (by decide +kernel), (by decide +kernel), (by
      unfold Eth.learn; rw [if_pos (Or.inr (by decide +kernel))]; unfold Eth.known
      rw [if_neg (by rw [show (parseEth ((zframe 2).take ((zframe 2).length - 4))).dst = 2 by decide +kernel]; exact fun e => h e.symm)]; decide +kernel), (by decide +kernel)⟩,
   by
  by_cases h : Config.macAddress = 2
  · exact ⟨(zeth z).onEth fun x => { x with outs := Tab.fill 3 { waiting := [], freeAt := 2 ^ 70 } }, 0, 1, zframe 4, parseEth ((zframe 4).take ((zframe 4).length - 4)), (by decide +kernel), (by decide +kernel), (by decide +kernel), (by decide +kernel), (by decide +kernel), rfl, (by decide +kernel), (by decide +kernel), (by decide +kernel), (by
      unfold Eth.learn; rw [if_pos (Or.inr (by decide +kernel))]; unfold Eth.known
      rw [if_neg (by rw [show (parseEth ((zframe 4).take ((zframe 4).length - 4))).dst = 4 by decide +kernel]; rw [h]; decide)]; decide +kernel), (by decide +kernel)⟩
  · exact ⟨(zeth z).onEth fun x => { x with outs := Tab.fill 3 { waiting := [], freeAt := 2 ^ 70 } }, 0, 1, zframe 2, parseEth ((zframe 2).take ((zframe 2).length - 4)), (by decide +kernel), (by decide +kernel), (by decide +kernel), (by decide +kernel), (by decide +kernel), rfl, (by decide +kernel), (by decide +kernel), (by decide +kernel), (by
      unfold Eth.learn; rw [if_pos (Or.inr (by decide +kernel))]; unfold Eth.known
      rw [if_neg (by rw [show (parseEth ((zframe 2).take ((zframe 2).length - 4))).dst = 2 by decide +kernel]; exact fun e => h e.symm)]; decide +kernel), (by decide +kernel)⟩,
   ⟨(((z.onClk fun x => { x with settled := true, i7Run := true }).onPort 0 fun x => { x with link := .up }).onPort 1 fun x => { x with link := .up }).onEth fun x => { x with fullAt := none, macs := List.replicate 256 { addr := 2, port := 2, at_ := 0 } }, by decide +kernel⟩,
   ⟨z.onClk fun x => { x with settled := true, i7Run := true }, 0, by decide +kernel⟩,
   ⟨((z.onClk fun x => { x with settled := true, i7Run := true }).onPort 0 fun x => { x with link := .up }).onPort 1 fun x => { x with link := .up }, 0, by decide +kernel⟩,
   ⟨atNow (((z.onClk fun x => { x with settled := true, i7Run := true }).onPort 0 fun x => { x with link := .up }).onPort 1 fun x => { x with link := .up }) 1000000, 0, by decide +kernel⟩,
   ⟨(((z.onClk fun x => { x with settled := true, i7Run := true }).onPort 0 fun x => { x with link := .up }).onPort 1 fun x => { x with link := .up }).onPort 0 fun x => { x with announce := some 0 }, 0, 0, by decide +kernel⟩,
   ⟨((((z.onClk fun x => { x with settled := true, i7Run := true }).onPort 0 fun x => { x with link := .up }).onPort 1 fun x => { x with link := .up }).onEth fun x => { x with synced := true }).onPort 0 fun x => { x with gptp := 2 }, 0, 3, by decide +kernel⟩,
   ⟨(z.onCmd fun x => { x with serving := true }).onEth fun x => { x with ctrl := 0x12, ipAddr := 1 }, by decide +kernel⟩,
   ⟨z.onCmd fun x => { x with serving := true }, by decide +kernel⟩,
   ⟨(((z.onClk fun x => { x with settled := true, i7Run := true }).onPort 0 fun x => { x with link := .up }).onPort 1 fun x => { x with link := .up }).onEth fun x => { x with ipActive := 1 }, by decide +kernel⟩,
   ⟨(((z.onClk fun x => { x with settled := true, i7Run := true }).onPort 0 fun x => { x with link := .up }).onPort 1 fun x => { x with link := .up }).onEth fun x => { x with ipActive := 1 }, by decide +kernel⟩,
   ⟨(((z.onClk fun x => { x with settled := true, i7Run := true }).onPort 0 fun x => { x with link := .up }).onPort 1 fun x => { x with link := .up }).onEth fun x => { x with tun := Tab.fill 6 { Tunnel.reset with frames := [{ frame := (CanFrame.own 1 false false false false 0 []), tick := 0, sub := 0, at_ := 0 }] } }, 0, { frame := (CanFrame.own 1 false false false false 0 []), tick := 0, sub := 0, at_ := 0 }, [], by decide +kernel⟩⟩

theorem test_witness_FarTransactionsComplete :
    (∃ (s : State) (p : FarNo) (f : Far) (rest : List Far) (first : Bool), (s.farPort p).current = none ∧ s.pwr.islandUp.get 3 = true ∧ s.pwr.domains.get 4 = true ∧ s.farQuiet p = true ∧
      s.twin.role ≠ .shadow ∧
      (if first then (s.farPort p).pick (s.farPort p).ahead = some (f, rest) else (s.farPort p).pick (s.farPort p).ahead = none ∧ (s.farPort p).pick (s.farPort p).withLate.queue = some (f, rest))) ∧
    (∃ (s : State) (p : FarNo), s.pwr.islandUp.get 3 = true ∧ s.pwr.domains.get 4 = true ∧ (s.farPort p).current = none) ∧
    (∃ (s : State) (p : FarNo) (frame : List Byte) (b : List Byte) (o : FarOpen), s.pwr.islandUp.get 3 = true ∧ s.pwr.domains.get 4 = true ∧ (s.farPort p).current = some o ∧ 2 ≤ b.length ∧ frame = b ++ modbusCrc b ∧
      u8 b 0 = o.far.unit ∧ u8 b 1 = o.far.function + 0x80) ∧
    (∃ (s : State) (p : FarNo) (o : FarOpen), (s.farPort p).current = some o ∧ o.far.unit ≠ 0 ∧ o.endAt + o.respTimeout ≤ s.now ∧ o.far.kind = .read ∧
      o.far.attempts ≤ (s.farPort p).retries ∧ s.farQuiet p = true) ∧
    (∃ (s : State) (p : FarNo) (o : FarOpen), (s.farPort p).current = some o ∧ o.far.unit ≠ 0 ∧ o.endAt + o.respTimeout ≤ s.now ∧
      (o.far.kind ≠ .read ∨ (s.farPort p).retries < o.far.attempts)) ∧
    (∃ (s : State) (p : FarNo) (o : FarOpen), (s.farPort p).current = some o ∧ o.far.unit = 0 ∧ o.endAt + o.turnaround ≤ s.now) ∧
    (∃ (s : State) (p : FarNo) (f : Far) (rest : List Far) (k : Nat) (id : Nat) (c : Cmd), (s.farPort p).ahead = [] ∧ (s.farPort p).queue = f :: rest ∧ f.waitFrom = some k ∧ (s.farPort p).heddleWait ≤ s.since k ∧
      f.held = false ∧ f.kind = .write ∧ f.cmd = some id ∧ s.cmd.findCmd id = some c ∧ c.posted = false) ∧
    (∃ (s : State) (p : FarNo) (l : FarLock), (s.farPort p).lock = some l ∧ (s.farPort p).lockTimeout ≤ s.since l.at_) ∧
    (∃ (s : State) (r : CmdRef) (q : Cmd) (p : FarNo) (f : Far), s.begun r = some q ∧ q.opcode = 0x0D01 ∧ farOfNum (u8 q.params 0) = some p ∧ farReadOk q = true ∧ s.lockGone p q = false ∧
      s.farEnters p q = true ∧ f = q.far .read (u8 q.params 1) (farReadPdu q.params) ∧ u8 q.params 3 = 0) ∧
    (∃ (s : State) (r : CmdRef) (q : Cmd) (p : FarNo), s.begun r = some q ∧ q.opcode = 0x0D01 ∧ farOfNum (u8 q.params 0) = some p ∧ farReadOk q = true ∧ s.lockGone p q = false ∧
      s.farEnters p q = true ∧ u8 q.params 3 = 1 ∧ (s.farPort p).items.length < 8) ∧
    (∃ (s : State) (r : CmdRef) (q : Cmd) (p : FarNo) (f : Far), s.begun r = some q ∧ q.opcode = 0x0D02 ∧ farOfNum (u8 q.params 0) = some p ∧ farWriteOk q = true ∧ s.lockGone p q = false ∧
      s.farEnters p q = true ∧ f = q.far .write (u8 q.params 1) (farWritePdu q.params)) ∧
    (∃ (s : State) (r : CmdRef) (q : Cmd) (p : FarNo) (f : Far), s.begun r = some q ∧ q.opcode = 0x0D03 ∧ farOfNum (u8 q.params 0) = some p ∧ q.params.length = 4 ∧ zeroAt q.params [2, 3] = true ∧
      1 ≤ u8 q.params 1 ∧ u8 q.params 1 ≤ 247 ∧ (s.farPort p).heddleMode = false ∧ s.farEnters p q = true ∧
      f = { q.far .lockWrite (u8 q.params 1) (le 1 6 ++ be 2 (bits (s.farPort p).opts 16 16) ++ be 2 ((s.farPort p).ownerCode q)) with tag := (s.farPort p).ownerCode q }) ∧
    (∃ (s : State) (r : CmdRef) (q : Cmd) (p : FarNo), s.begun r = some q ∧ q.opcode = 0x0D03 ∧ farOfNum (u8 q.params 0) = some p ∧ q.params.length = 4 ∧ zeroAt q.params [1, 2, 3] = true ∧
      (s.farPort p).heddleMode = true ∧ (s.farPort p).lock = none ∧ (s.farPort p).queue = []) ∧
    (∃ (s : State) (r : CmdRef) (q : Cmd) (p : FarNo) (l : FarLock), s.begun r = some q ∧ q.opcode = 0x0D04 ∧ farOfNum (u8 q.params 0) = some p ∧ q.params.length = 4 ∧ zeroAt q.params [1, 2, 3] = true ∧
      (s.farPort p).lock = some l ∧ l.src = q.src ∧ l.group = q.group ∧ l.heddle = false ∧ s.farEnters p q = true) ∧
    (∃ (s : State) (r : CmdRef) (q : Cmd) (p : FarNo) (l : FarLock), s.begun r = some q ∧ q.opcode = 0x0D04 ∧ farOfNum (u8 q.params 0) = some p ∧ q.params.length = 4 ∧ zeroAt q.params [1, 2, 3] = true ∧
      (s.farPort p).lock = some l ∧ l.src = q.src ∧ l.group = q.group ∧ l.heddle = true) :=
  ⟨⟨atNow (z.onFarPort 0 fun x => { x with queue := [{ kind := .read, cmd := none, src := .session 0, group := none, tag := 0, posted := false, unit := 1, pdu := [3, 0, 0, 0, 1], toStream := none, attempts := 0, held := false, waitFrom := none }] }) 100000, 0, { kind := .read, cmd := none, src := .session 0, group := none, tag := 0, posted := false, unit := 1, pdu := [3, 0, 0, 0, 1], toStream := none, attempts := 0, held := false, waitFrom := none }, [], false, by decide +kernel⟩,
   ⟨z, 0, by decide +kernel⟩,
   ⟨z.onFarPort 0 fun x => { x with current := some { far := { kind := .read, cmd := none, src := .session 0, group := none, tag := 0, posted := false, unit := 1, pdu := [3, 0, 0, 0, 1], toStream := none, attempts := 0, held := false, waitFrom := none }, endAt := 0, line := 17, timing := 500 + 100 * 65536 } }, 0, [1, 0x83] ++ modbusCrc [1, 0x83], [1, 0x83], { far := { kind := .read, cmd := none, src := .session 0, group := none, tag := 0, posted := false, unit := 1, pdu := [3, 0, 0, 0, 1], toStream := none, attempts := 0, held := false, waitFrom := none }, endAt := 0, line := 17, timing := 500 + 100 * 65536 }, by decide +kernel⟩,
   ⟨atNow (z.onFarPort 0 fun x => { x with current := some { far := { kind := .read, cmd := none, src := .session 0, group := none, tag := 0, posted := false, unit := 1, pdu := [3, 0, 0, 0, 1], toStream := none, attempts := 1, held := false, waitFrom := none }, endAt := 0, line := 17, timing := 500 + 100 * 65536 } }) 10000000, 0, { far := { kind := .read, cmd := none, src := .session 0, group := none, tag := 0, posted := false, unit := 1, pdu := [3, 0, 0, 0, 1], toStream := none, attempts := 1, held := false, waitFrom := none }, endAt := 0, line := 17, timing := 500 + 100 * 65536 }, by decide +kernel⟩,
   ⟨atNow (z.onFarPort 0 fun x => { x with current := some { far := { kind := .read, cmd := none, src := .session 0, group := none, tag := 0, posted := false, unit := 1, pdu := [3, 0, 0, 0, 1], toStream := none, attempts := 2, held := false, waitFrom := none }, endAt := 0, line := 17, timing := 500 + 100 * 65536 } }) 10000000, 0, { far := { kind := .read, cmd := none, src := .session 0, group := none, tag := 0, posted := false, unit := 1, pdu := [3, 0, 0, 0, 1], toStream := none, attempts := 2, held := false, waitFrom := none }, endAt := 0, line := 17, timing := 500 + 100 * 65536 }, by decide +kernel⟩,
   ⟨atNow (z.onFarPort 0 fun x => { x with current := some { far := { kind := .read, cmd := none, src := .session 0, group := none, tag := 0, posted := false, unit := 0, pdu := [3, 0, 0, 0, 1], toStream := none, attempts := 0, held := false, waitFrom := none }, endAt := 0, line := 17, timing := 500 + 100 * 65536 } }) 10000000, 0, { far := { kind := .read, cmd := none, src := .session 0, group := none, tag := 0, posted := false, unit := 0, pdu := [3, 0, 0, 0, 1], toStream := none, attempts := 0, held := false, waitFrom := none }, endAt := 0, line := 17, timing := 500 + 100 * 65536 }, by decide +kernel⟩,
   ⟨atNow (begins (z.onFarPort 0 fun x => { x with queue := [{ kind := .write, cmd := (some 1), src := .session 0, group := none, tag := 0, posted := false, unit := 1, pdu := [6], toStream := none, attempts := 0, held := false, waitFrom := (some 0) }] }) (zq 0x0D02 [])) 10000000, 0, { kind := .write, cmd := (some 1), src := .session 0, group := none, tag := 0, posted := false, unit := 1, pdu := [6], toStream := none, attempts := 0, held := false, waitFrom := (some 0) }, [], 0, 1, zq 0x0D02 [], by decide +kernel⟩,
   ⟨atNow (z.onFarPort 0 fun x => { x with lock := some { heddle := true, src := .session 0, group := none, unit := 1, at_ := 0 } }) 1000000000, 0, { heddle := true, src := .session 0, group := none, unit := 1, at_ := 0 }, by decide +kernel⟩,
   ⟨begins z (zq 0x0D01 ([1, 1, 3, 0] ++ le 2 0 ++ le 2 1)), zr, zq 0x0D01 ([1, 1, 3, 0] ++ le 2 0 ++ le 2 1), 0, (zq 0x0D01 ([1, 1, 3, 0] ++ le 2 0 ++ le 2 1)).far .read 1 (farReadPdu ([1, 1, 3, 0] ++ le 2 0 ++ le 2 1)), by decide +kernel⟩,
   ⟨begins z (zq 0x0D01 ([1, 1, 3, 1] ++ le 2 0 ++ le 2 1)), zr, zq 0x0D01 ([1, 1, 3, 1] ++ le 2 0 ++ le 2 1), 0, by decide +kernel⟩,
   ⟨begins z (zq 0x0D02 ([1, 1, 6, 0] ++ le 2 0 ++ le 2 1 ++ zeros 2)), zr, zq 0x0D02 ([1, 1, 6, 0] ++ le 2 0 ++ le 2 1 ++ zeros 2), 0, (zq 0x0D02 ([1, 1, 6, 0] ++ le 2 0 ++ le 2 1 ++ zeros 2)).far .write 1 (farWritePdu ([1, 1, 6, 0] ++ le 2 0 ++ le 2 1 ++ zeros 2)), by decide +kernel⟩,
   ⟨begins (z.onFarPort 0 fun x => { x with opts := 1 }) (zq 0x0D03 [1, 1, 0, 0]), zr, zq 0x0D03 [1, 1, 0, 0], 0, { (zq 0x0D03 [1, 1, 0, 0]).far .lockWrite 1 (le 1 6 ++ be 2 0 ++ be 2 0x4B00) with tag := 0x4B00 }, by decide +kernel⟩,
   ⟨begins z (zq 0x0D03 [1, 0, 0, 0]), zr, zq 0x0D03 [1, 0, 0, 0], 0, by decide +kernel⟩,
   ⟨begins (z.onFarPort 0 fun x => { x with lock := some { heddle := false, src := .session 0, group := none, unit := 1, at_ := 0 } }) (zq 0x0D04 [1, 0, 0, 0]), zr, zq 0x0D04 [1, 0, 0, 0], 0, { heddle := false, src := .session 0, group := none, unit := 1, at_ := 0 }, by decide +kernel⟩,
   ⟨begins (z.onFarPort 0 fun x => { x with lock := some { heddle := true, src := .session 0, group := none, unit := 1, at_ := 0 } }) (zq 0x0D04 [1, 0, 0, 0]), zr, zq 0x0D04 [1, 0, 0, 0], 0, { heddle := true, src := .session 0, group := none, unit := 1, at_ := 0 }, by decide +kernel⟩⟩

theorem test_witness_TwinFramesComplete :
    (∃ (s : State), s.twin.linkUp = false ∧ s.clk.i8Run = true ∧ 3 ≤ s.twin.valid) ∧
    (∃ (s : State), s.twin.linkUp = true ∧ (3000 ≤ s.since s.twin.heardAt ∨ s.beatsMissed = true)) ∧
    (∃ (s : State) (seq : Nat) (x : TwinFly), (s.twin.fly.find? fun x => x.seq == seq) = some x ∧ 50 ≤ s.since x.sentAt ∧ x.repeats < 3) ∧
    (∃ (s : State), s.mirrors = true ∧ (∃ x ∈ s.twin.fly, x.msn.isSome = true ∧ 3000 ≤ s.since x.firstAt)) ∧
    (∃ (s : State) (f : List Byte) (p : List Byte) (h : Hello), s.twin.linkUp = true ∧ s.clk.i8Run = true ∧ s.twin.frameOk f = true ∧ u8 f 0 = 0x01 ∧ p = slice f 12 (u16 f 2) ∧ s.mayPair = true ∧
      s.twin.pair = .pairing ∧ s.twin.hello = none ∧
      h = { side := u8 p 0 == 1, running := u8 p 1 == 1, proto := u16 p 2, serial := slice p 4 8, nonce := slice p 12 16, check := slice p 28 16 }) ∧
    (∃ (s : State) (f : List Byte) (p : List Byte) (h : Hello), s.twin.linkUp = true ∧ s.clk.i8Run = true ∧ s.twin.frameOk f = true ∧ u8 f 0 = 0x02 ∧ p = slice f 12 (u16 f 2) ∧
      s.twin.hello = some h ∧ s.twin.pair = .pairing ∧ s.twin.attested = false) ∧
    (∃ (s : State) (f : List Byte) (p : List Byte), s.twin.linkUp = true ∧ s.clk.i8Run = true ∧ s.twin.frameOk f = true ∧ u8 f 0 = 0x03 ∧ p = slice f 12 (u16 f 2) ∧
      s.twin.pair = .pairing ∧ s.twin.attested = true ∧ ((∀ h, s.twin.hello = some h → s.becomesLead h = false))) ∧
    (∃ (s : State) (f : List Byte) (p : List Byte), s.twin.linkUp = true ∧ s.clk.i8Run = true ∧ s.twin.frameOk f = true ∧ u8 f 0 = 0x04 ∧ p = slice f 12 (u16 f 2) ∧
      s.twin.role = .shadow ∧ s.twin.agreed = true ∧ s.twin.weftRx = none ∧ (p.drop 12).length < u32 p 4) ∧
    (∃ (s : State) (f : List Byte) (p : List Byte), s.twin.linkUp = true ∧ s.clk.i8Run = true ∧ s.twin.frameOk f = true ∧ u8 f 0 = 0x04 ∧ p = slice f 12 (u16 f 2) ∧
      s.twin.role = .shadow ∧ s.twin.agreed = true ∧ s.twin.weftRx = none ∧ u32 p 8 = 0 ∧ u32 p 4 ≤ (p.drop 12).length ∧
      checkHeader (p.drop 12) = .ok ()) ∧
    (∃ (s : State) (f : List Byte) (p : List Byte), s.twin.linkUp = true ∧ s.clk.i8Run = true ∧ s.twin.frameOk f = true ∧ u8 f 0 = 0x10 ∧ p = slice f 12 (u16 f 2) ∧ u8 p 8 = 1 ∧
      s.twin.role = .shadow ∧ s.twin.agreed = true) ∧
    (∃ (s : State) (f : List Byte) (p : List Byte) (g : Grp), s.twin.linkUp = true ∧ s.clk.i8Run = true ∧ s.twin.frameOk f = true ∧ u8 f 0 = 0x20 ∧ p = slice f 12 (u16 f 2) ∧
      s.twin.role = .shadow ∧ s.twin.agreed = true ∧ (s.twin.pair = .pairing ∨ s.twin.pair = .paired) ∧
      u32 p 0 = (s.twin.stored + 1) % 2 ^ 32 ∧ u8 p 4 = 0 ∧ u8 p 5 = g.1) ∧
    (∃ (s : State) (f : List Byte) (p : List Byte), s.twin.linkUp = true ∧ s.clk.i8Run = true ∧ s.twin.frameOk f = true ∧ u8 f 0 = 0x21 ∧ p = slice f 12 (u16 f 2) ∧
      s.twin.role = .shadow ∧ s.twin.agreed = true ∧ (s.twin.pair = .pairing ∨ s.twin.pair = .paired) ∧
      u32 p 0 = (s.twin.stored + 1) % 2 ^ 32 ∧ u16 p 4 = 1 ∧ p.length = 20 ∧ crc8 (slice p 8 8) = u8 p 16 ∧ u32 p 8 % 4 = 0 ∧
      0x21000100 ≤ u32 p 8 ∧ u32 p 8 < 0x21000200 ∧ Memory.wf s.mem = true) ∧
    (∃ (s : State) (f : List Byte) (p : List Byte), s.twin.linkUp = true ∧ s.clk.i8Run = true ∧ s.twin.frameOk f = true ∧ u8 f 0 = 0x30 ∧ p = slice f 12 (u16 f 2) ∧
      s.twin.pair = .paired ∧ u16 p 4 = 1 ∧ p.length = 14 ∧ u16 p 8 < 1024 ∧ Memory.wf s.mem = true) ∧
    (∃ (s : State) (f : List Byte) (p : List Byte) (x : TwinFly), s.twin.linkUp = true ∧ s.clk.i8Run = true ∧ s.twin.frameOk f = true ∧ u8 f 0 = 0x7E ∧ p = slice f 12 (u16 f 2) ∧
      (s.twin.fly.find? fun x => x.seq == u32 p 0) = some x) ∧
    (∃ (s : State) (f : List Byte), s.twin.linkUp = true ∧ s.clk.i8Run = true ∧ s.twin.frameOk f = true ∧ u8 f 0 = 0x7F) ∧
    (∃ (s : State) (k : Nat), s.twin.retryAt = some k ∧ k ≤ s.now ∧ s.mayPair = true) :=
  ⟨⟨(z.onClk fun x => { x with i8Run := true }).onTwin fun x => { x with valid := 3 }, by decide +kernel⟩,
   ⟨atNow (zlink z) 3000, by decide +kernel⟩,
   ⟨atNow (zlead z) 50, 0, zfly, by decide +kernel⟩,
   ⟨atNow (zlead z) 3000, by decide +kernel⟩,
   ⟨(zlink z).onTwin fun x => { x with pair := .pairing, hello := none }, ztf 0x01 (zeros 44), (zeros 44), { side := false, running := false, proto := 0, serial := zeros 8, nonce := zeros 16, check := zeros 16 }, by decide +kernel⟩,
   (by refine ⟨zpair, zattf, slice zattf 12 (u16 zattf 2), zhello, ?_, ?_, zattOk, ?_, rfl, ?_, ?_, ?_⟩ <;> decide +kernel),
   ⟨(zlink z).onTwin fun x => { x with pair := .pairing, attested := true, hello := none }, ztf 0x03 (zeros 12), (zeros 12), by decide +kernel⟩,
   ⟨zshadow z, ztf 0x04 (zeros 4 ++ le 4 200 ++ zeros 5), (zeros 4 ++ le 4 200 ++ zeros 5), by decide +kernel⟩,
   ⟨zshadow z, ztf 0x04 (zeros 4 ++ le 4 200 ++ zeros 4 ++ zhdr), (zeros 4 ++ le 4 200 ++ zeros 4 ++ zhdr), by decide +kernel⟩,
   ⟨zshadow z, ztf 0x10 (zeros 8 ++ [1] ++ zeros 183), (zeros 8 ++ [1] ++ zeros 183), by decide +kernel⟩,
   ⟨(zshadow z).onTwin fun x => { x with stored := 0 }, ztf 0x20 (le 4 1 ++ zeros 4), (le 4 1 ++ zeros 4), 0, by decide +kernel⟩,
   ⟨(zshadow z).onTwin fun x => { x with stored := 0 }, ztf 0x21 (le 4 1 ++ le 2 1 ++ zeros 2 ++ le 4 0x21000100 ++ zeros 4 ++ [BitVec.ofNat 8 (crc8 (le 4 0x21000100 ++ zeros 4))] ++ zeros 3), (le 4 1 ++ le 2 1 ++ zeros 2 ++ le 4 0x21000100 ++ zeros 4 ++ [BitVec.ofNat 8 (crc8 (le 4 0x21000100 ++ zeros 4))] ++ zeros 3), by decide +kernel⟩,
   ⟨(zshadow z).onTwin fun x => { x with pair := .paired }, ztf 0x30 (zeros 4 ++ le 2 1 ++ zeros 2 ++ le 2 0 ++ zeros 4), (zeros 4 ++ le 2 1 ++ zeros 2 ++ le 2 0 ++ zeros 4), by decide +kernel⟩,
   ⟨(zlink z).onTwin fun x => { x with fly := [zfly] }, ztf 0x7E (zeros 4), (zeros 4), zfly, by decide +kernel⟩,
   ⟨zlink z, ztf 0x7F [], by decide +kernel⟩,
   ⟨(zlink z).onTwin fun x => { x with retryAt := some 0, pair := .waiting }, 0, by decide +kernel⟩⟩

theorem test_witness_TwinTokenComplete :
    (∃ (s : State), s.twin.linkUp = false ∧ s.twin.role ≠ .lead) ∧
    (∃ (s : State), s.twin.role = .shadow ∧ (s.twin.pair = .paired ∨ s.twin.pair = .broken) ∧
      ((s.twin.linkUp = true ∧ s.twin.released = true) ∨ (s.twin.linkUp = false ∧ s.twin.cable = true))) ∧
    (∃ (s : State), s.twin.role = .shadow ∧ (s.twin.pair = .paired ∨ s.twin.pair = .broken) ∧ s.twin.linkUp = true ∧ s.twin.released = false) ∧
    (∃ (s : State), s.twin.role = .shadow ∧ (s.twin.pair = .paired ∨ s.twin.pair = .broken) ∧ s.twin.linkUp = false ∧ s.twin.cable = false) ∧
    (∃ (s : State) (k : Nat), s.twin.holdEnd = some k ∧ k ≤ s.now ∧ s.clk.i8Run = true ∧ s.twin.en = true) ∧
    (∃ (s : State), s.twin.en = true ∧ s.twin.driven = false ∧ s.twin.holdEnd = none ∧ (s.twin.pair = .waiting ∨ s.twin.pair = .pairing) ∧
      1000000 * s.twin.loneWait + (if s.twin.cable && s.twin.side then 50000 else 0) ≤ s.since s.twin.waitFrom) ∧
    (∃ (s : State) (r : CmdRef) (q : Cmd), s.begun r = some q ∧ q.opcode = 0x0C01 ∧ q.params.length = 12 ∧ u8 q.params 0 ≤ 1 ∧ u8 q.params 1 ≤ 1 ∧ u8 q.params 2 ≠ 0 ∧
      u8 q.params 3 = 1 ∧ s.twin.pair ≠ .pairing ∧ s.twin.pair ≠ .paired) ∧
    (∃ (s : State) (r : CmdRef) (q : Cmd), s.begun r = some q ∧ q.opcode = 0x0C03 ∧ q.params = []) :=
  ⟨⟨z, by decide +kernel⟩,
   ⟨(zshadow z).onTwin fun x => { x with pair := .paired, released := true }, by decide +kernel⟩,
   ⟨(zshadow z).onTwin fun x => { x with pair := .paired, released := false }, by decide +kernel⟩,
   ⟨(zshadow z).onTwin fun x => { x with pair := .broken, linkUp := false, cable := false }, by decide +kernel⟩,
   ⟨(zlink z).onTwin fun x => { x with holdEnd := some 0 }, 0, by decide +kernel⟩,
   ⟨atNow ((zlink z).onTwin fun x => { x with pair := .waiting }) 10000000, by decide +kernel⟩,
   ⟨begins z (zq 0x0C01 ([0, 0, 1, 1] ++ zeros 8)), zr, zq 0x0C01 ([0, 0, 1, 1] ++ zeros 8), by decide +kernel⟩,
   ⟨begins z (zq 0x0C03 []), zr, zq 0x0C03 [], by decide +kernel⟩⟩

theorem test_witness_TwinHandoverComplete :
    (∃ (s : State) (r : CmdRef) (q : Cmd), s.begun r = some q ∧ q.opcode = 0x0C02 ∧ q.params = [] ∧ s.twin.role = .lead ∧ s.twin.pair = .paired ∧ s.inLockstep = true ∧
      s.flt.forceSafe = false ∧ s.twin.handover = none) ∧
    (∃ (s : State) (f : List Byte) (action : Nat), s.twin.linkUp = true ∧ s.clk.i8Run = true ∧ s.twin.frameOk f = true ∧ u8 f 0 = 0x40 ∧ u8 (slice f 12 (u16 f 2)) 0 = 0 ∧
      action = (if s.twin.role = .shadow ∧ s.twin.pair = .paired ∧ s.twin.msnSeen = s.twin.stored ∧ s.inLockstep = true ∧ s.flt.forceSafe = false then 1 else 2)) ∧
    (∃ (s : State) (f : List Byte) (h : Handover), s.twin.linkUp = true ∧ s.clk.i8Run = true ∧ s.twin.frameOk f = true ∧ u8 f 0 = 0x40 ∧ u8 (slice f 12 (u16 f 2)) 0 = 1 ∧
      s.twin.handover = some h) ∧
    (∃ (s : State) (f : List Byte) (h : Handover), s.twin.linkUp = true ∧ s.clk.i8Run = true ∧ s.twin.frameOk f = true ∧ u8 f 0 = 0x40 ∧ u8 (slice f 12 (u16 f 2)) 0 = 2 ∧
      s.twin.handover = some h ∧ h.accepted = false ∧ h.gone = false ∧ s.twin.weftWait = []) ∧
    (∃ (s : State) (f : List Byte), s.twin.linkUp = true ∧ s.clk.i8Run = true ∧ s.twin.frameOk f = true ∧ u8 f 0 = 0x40 ∧ u8 (slice f 12 (u16 f 2)) 0 = 3 ∧
      s.twin.role = .shadow ∧ s.twin.pair = .paired) ∧
    (∃ (s : State) (h : Handover) (c : Nat), s.twin.handover = some h ∧ h.gone = true ∧ h.frame < s.frame ∧ h.cmd = some c) ∧
    (∃ (s : State) (h : Handover), s.twin.handover = some h ∧ h.gone = true ∧ h.frame < s.frame ∧ h.cmd = none) :=
  ⟨⟨begins ((((z.onWeft fun x => { x with store := Tab.fill 2 (some zweft), running := some 0 })).onTwin fun x => { x with role := .lead, pair := .paired, lockWeft := some 1 }).onTwin fun x => { x with fly := [] }) (zq 0x0C02 []), zr, zq 0x0C02 [], by decide +kernel⟩,
   ⟨zlink z, ztf 0x40 (zeros 8), 2, by decide +kernel⟩,
   ⟨zhand z none false, ztf 0x40 ([1] ++ zeros 7), { frame := 0, cmd := none, accepted := false, gone := false }, by decide +kernel⟩,
   ⟨zhand z none false, ztf 0x40 ([2] ++ zeros 7), { frame := 0, cmd := none, accepted := false, gone := false }, by decide +kernel⟩,
   ⟨(zshadow z).onTwin fun x => { x with pair := .paired }, ztf 0x40 ([3] ++ zeros 7), by decide +kernel⟩,
   ⟨atWarp (zhand z (some 0) true) 2000, { frame := 0, cmd := some 0, accepted := false, gone := true }, 0, by decide +kernel⟩,
   ⟨atWarp (zhand z none true) 2000, { frame := 0, cmd := none, accepted := false, gone := true }, by decide +kernel⟩⟩

theorem test_witness_AccessEventsComplete :
    (∃ (s : State), s.acc.running = true ∧ s.acc.burst = none ∧
      (s.acc.doorReq = true ∨ s.acc.lastBurst = none ∨ (∃ b, s.acc.lastBurst = some b ∧ s.pollPeriod ≤ s.since b))) ∧
    (∃ (s : State) (seen : Vector SlotSeen 8) (b : Burst), s.acc.burst = some b ∧ s.acc.running = true ∧ b.polls < 3 ∧ b.startAt + 5000 * b.polls ≤ s.now ∧ (∀ k : Fin 8, seen[k] = .empty)) ∧
    (∃ (s : State) (seen : Vector SlotSeen 8) (b : Burst) (k : Fin 8) (f : UwbFrame) (n : Nat), s.acc.burst = some b ∧ s.acc.running = true ∧ b.polls < 3 ∧ b.startAt + 5000 * b.polls ≤ s.now ∧ seen[k] = .frame f ∧
      ((∀ j : Fin 8, j ≠ k → seen[j] = .empty)) ∧ s.acc.judge (le 8 s.pollNonce.1) k.1 (.frame f) = .invalid n) ∧
    (∃ (s : State) (seen : Vector SlotSeen 8) (b : Burst) (k : Fin 8) (f : UwbFrame) (i : TokNo) (d : Int), s.acc.burst = some b ∧ s.acc.running = true ∧ b.polls < 3 ∧ b.startAt + 5000 * b.polls ≤ s.now ∧ seen[k] = .frame f ∧
      ((∀ j : Fin 8, j ≠ k → seen[j] = .empty)) ∧ s.acc.judge (le 8 s.pollNonce.1) k.1 (.frame f) = .valid i d ∧
      flightNear d b.range = true ∧ s.acc.granted.getLsbD i.1 = false ∧ s.acc.lockedOut = false ∧ s.acc.tamper = false ∧ s.inDelay = false) ∧
    (∃ (s : State) (b : Burst), s.acc.burst = some b ∧ b.startAt + 15000 ≤ s.now ∧ b.polls = 3) ∧
    (∃ (s : State) (k : Nat), s.acc.delayEnd = some k ∧ k ≤ s.now) ∧
    (∃ (s : State), s.acc.failCount ≠ 0 ∧ 600000000 ≤ s.since s.acc.failAt) ∧
    (∃ (s : State), s.acc.cfg.leaseTime ≠ 0 ∧ s.acc.leaseOk = true ∧ s.leaseLeft = 0) ∧
    (∃ (s : State), s.acc.relOn = true ∧ s.stopReason ≠ 0) :=
  ⟨⟨z.onAcc fun x => { x with running := true }, by decide +kernel⟩,
   ⟨zacc z, Vector.replicate 8 .empty, zburst, by decide +kernel⟩,
   (by refine ⟨(zacc z).onAcc fun x => { x with tokens := Tab.fill 32 none }, zseen (zacc z) 0, zburst, zslot (zacc z), zreply (zacc z) 0, 0, ?_, ?_, ?_, ?_, by rw [zseen_get]; simp, fun j h => by rw [zseen_get]; simp [h], zjudgeNone _ _ _ _ (by decide +kernel)⟩ <;> decide +kernel),
   (by refine ⟨zacc z, zseen (zacc z) 0, zburst, zslot (zacc z), zreply (zacc z) 0, 0, 0, ?_, ?_, ?_, ?_, by rw [zseen_get]; simp, fun j h => by rw [zseen_get]; simp [h], zvalid _, ?_, ?_, ?_, ?_, ?_⟩ <;> decide +kernel),
   ⟨atNow ((zacc z).onAcc fun x => { x with burst := some { zburst with polls := 3 } }) 15000, { zburst with polls := 3 }, by decide +kernel⟩,
   ⟨z.onAcc fun x => { x with delayEnd := some 0 }, 0, by decide +kernel⟩,
   ⟨atNow (z.onAcc fun x => { x with failCount := 1 }) 600000000, by decide +kernel⟩,
   ⟨(z.onRcd fun x => { x with opSeconds := 604800 }).onAcc fun x => { x with leaseOk := true }, by decide +kernel⟩,
   ⟨z.onAcc fun x => { x with relOn := true }, by decide +kernel⟩⟩

theorem test_witness_AccessCommandsComplete :
    (∃ (s : State) (r : CmdRef) (q : Cmd) (i : TokNo), s.begun r = some q ∧ q.opcode = 0x0901 ∧ q.params.length = 28 ∧ zeroAt q.params [1, 2, 3] = true ∧ u8 q.params 0 = i.1 ∧
      u64 q.params 4 ≠ 0 ∧ u64 q.params 4 ≠ 2 ^ 64 - 1 ∧ s.acc.tokens.get i = none ∧
      ((∀ j k, s.acc.tokens.get j = some k → k.id ≠ u64 q.params 4))) ∧
    (∃ (s : State) (r : CmdRef) (q : Cmd) (i : TokNo) (k : Token), s.begun r = some q ∧ q.opcode = 0x0902 ∧ q.params.length = 4 ∧ zeroAt q.params [1, 2, 3] = true ∧ u8 q.params 0 = i.1 ∧
      s.acc.tokens.get i = some k) ∧
    (∃ (s : State) (r : CmdRef) (q : Cmd), s.begun r = some q ∧ q.opcode = 0x0903 ∧ q.params.length = 4 ∧ zeroAt q.params [2, 3] = true ∧ 1 ≤ u8 q.params 1 ∧
      u8 q.params 0 + u8 q.params 1 ≤ 32) ∧
    (∃ (s : State) (r : CmdRef) (q : Cmd) (k : AccCfg), s.begun r = some q ∧ q.opcode = 0x0904 ∧ q.params.length = 24 ∧ zeroAt q.params [0, 1, 2, 3] = true ∧
      k = AccCfg.ofWords (u32 q.params 4) (u32 q.params 8) (u32 q.params 12) (u32 q.params 16) (u32 q.params 20) ∧ k.ok = true ∧
      ((k.releaseEn = true → ∃ c, k.channel = some c ∧ (s.canCh c).fdEn = true))) ∧
    (∃ (s : State) (r : CmdRef) (q : Cmd) (n : Nat), s.begun r = some q ∧ q.opcode = 0x0904 ∧ u8 q.params 0 = 1 ∧ n = u16 q.params 84 ∧ 1 ≤ n ∧ n ≤ 1024 ∧ q.params.length = 152 + n ∧
      zeroAt q.params [1, 2, 3, 86, 87] = true ∧ s.twin.role = .none ∧ s.acc.relEpoch ≠ 0xFFFFFFFF) ∧
    (∃ (s : State) (r : CmdRef) (q : Cmd), s.begun r = some q ∧ q.opcode = 0x0904 ∧ q.params = [2, 0, 0, 0] ∧ s.twin.role = .none ∧ s.acc.pcc.isSome = true) ∧
    (∃ (s : State) (r : CmdRef) (q : Cmd), s.begun r = some q ∧ q.opcode = 0x0904 ∧ q.params = [3, 0, 0, 0] ∧ s.acc.cfg.leaseTime ≠ 0) ∧
    (∃ (s : State) (r : CmdRef) (q : Cmd), s.begun r = some q ∧ q.opcode = 0x0905 ∧ q.params = [0, 0, 0, 0] ∧ s.acc.lockedOut = false) ∧
    (∃ (s : State) (r : CmdRef) (q : Cmd), s.begun r = some q ∧ q.opcode = 0x0905 ∧ q.params = [1, 0, 0, 0] ∧ s.acc.lockedOut = true) ∧
    (∃ (s : State) (r : CmdRef) (q : Cmd), s.begun r = some q ∧ q.opcode = 0x0905 ∧ q.params = [2, 0, 0, 0] ∧ s.acc.tamper = true ∧
      (s.acc.cfg.tamperIn = 0 ∨ s.inputReads s.acc.cfg.tamperIn ≠ s.acc.cfg.tamperPol)) :=
  ⟨⟨begins z (zq 0x0901 ([0, 0, 0, 0] ++ le 8 5 ++ zeros 16)), zr, zq 0x0901 ([0, 0, 0, 0] ++ le 8 5 ++ zeros 16), 0, by decide +kernel⟩,
   ⟨begins (zacc z) (zq 0x0902 (zeros 4)), zr, zq 0x0902 (zeros 4), 0, ztok, by decide +kernel⟩,
   ⟨begins z (zq 0x0903 [0, 1, 0, 0]), zr, zq 0x0903 [0, 1, 0, 0], by decide +kernel⟩,
   ⟨begins z (zq 0x0904 (zeros 4 ++ le 4 1 ++ le 4 150 ++ le 4 0 ++ le 4 0 ++ le 4 168)), zr, zq 0x0904 (zeros 4 ++ le 4 1 ++ le 4 150 ++ le 4 0 ++ le 4 0 ++ le 4 168), AccCfg.ofWords 1 150 0 0 168, by decide +kernel⟩,
   ⟨begins z (zq 0x0904 ([1] ++ zeros 83 ++ le 2 1 ++ zeros 67)), zr, zq 0x0904 ([1] ++ zeros 83 ++ le 2 1 ++ zeros 67), 1, by decide +kernel⟩,
   ⟨begins (z.onAcc fun x => { x with pcc := some [] }) (zq 0x0904 [2, 0, 0, 0]), zr, zq 0x0904 [2, 0, 0, 0], by decide +kernel⟩,
   ⟨begins z (zq 0x0904 [3, 0, 0, 0]), zr, zq 0x0904 [3, 0, 0, 0], by decide +kernel⟩,
   ⟨begins z (zq 0x0905 [0, 0, 0, 0]), zr, zq 0x0905 [0, 0, 0, 0], by decide +kernel⟩,
   ⟨begins (z.onAcc fun x => { x with lockedOut := true }) (zq 0x0905 [1, 0, 0, 0]), zr, zq 0x0905 [1, 0, 0, 0], by decide +kernel⟩,
   ⟨begins (z.onAcc fun x => { x with tamper := true }) (zq 0x0905 [2, 0, 0, 0]), zr, zq 0x0905 [2, 0, 0, 0], by decide +kernel⟩⟩

theorem test_witness_IdentityCommandsComplete :
    (∃ (s : State) (r : CmdRef) (q : Cmd) (n : Nat) (k : Fin 4), s.begun r = some q ∧ q.opcode = 0x0104 ∧ q.src = .clear ∧ q.group = none ∧ n = u16 q.params 82 ∧ 1 ≤ n ∧ n ≤ 1024 ∧
      q.params.length = 148 + n ∧ u8 q.params 80 ≤ 1 ∧ u8 q.params 81 = 0 ∧
      ((List.finRange 4).find? fun k => (s.cmd.sessions.get k).isNone) = some k ∧
      (∀ g : Grp, (s.group g).holder ≠ .keyId (pubId (Config.certKey (slice q.params 84 n))))) ∧
    (∃ (s : State) (k : Nat) (flash : Option (List Byte)) (p : List Byte), s.id.resetAt = some k ∧ s.id.watch = none ∧ s.id.armed = none ∧ s.pwr.islandUp.get 2 = true ∧ s.id.journal = none ∧
      p = flash.getD s.id.stored.bytes) ∧
    (∃ (s : State) (k : Nat) (flash : Option (List Byte)) (p : List Byte), s.id.resetAt = some k ∧ s.id.watch = none ∧ s.id.armed = none ∧ s.pwr.islandUp.get 2 = true ∧ p = flash.getD s.id.stored.bytes) ∧
    (∃ (s : State) (k : Nat), s.id.resetAt = some k ∧ s.id.watch = none ∧ s.id.armed = none ∧ s.pwr.islandUp.get 2 = true ∧ s.id.journal.isSome = true) ∧
    (∃ (s : State) (r : CmdRef) (q : Cmd), s.begun r = some q ∧ q.opcode = 0x0A01 ∧ q.params.length = 16) ∧
    (∃ (s : State) (r : CmdRef) (q : Cmd) (i : Fin 12), s.begun r = some q ∧ q.opcode = 0x0A02 ∧ u8 q.params 0 = 0 ∧ (s.id.keysOf 1 ++ s.id.keysOf 2).contains (slice q.params 8 64) = false ∧
      ((List.finRange 12).find? fun i => (s.id.keys.get i).isNone) = some i ∧ s.id.freeOf (u8 q.params 1) ≠ 0) ∧
    (∃ (s : State) (r : CmdRef) (q : Cmd), s.begun r = some q ∧ q.opcode = 0x0A02 ∧ u8 q.params 0 = 1 ∧ ((u8 q.params 1 = 1 → 2 ≤ (s.id.keysOf 1).length)) ∧
      (∀ k, s.weft.store.get k = none)) ∧
    (∃ (s : State) (r : CmdRef) (q : Cmd), s.begun r = some q ∧ q.opcode = 0x0A02 ∧ u8 q.params 0 = 2 ∧ s.id.floor < u32 q.params 8 ∧
      ((∀ k w, s.weft.store.get k = some w → u32 q.params 8 ≤ w.secVersion))) ∧
    (∃ (s : State) (r : CmdRef) (q : Cmd) (m : Option Medium) (p : List Byte), s.begun r = some q ∧ q.opcode = 0x0A03 ∧ q.params = [0, 0, 0, 0] ∧ Medium.img m = some p ∧
      (s.twin.role ≠ .lead ∨ (s.twin.pair ≠ .paired ∧ s.twin.pair ≠ .broken))) ∧
    (∃ (s : State) (r : CmdRef) (q : Cmd) (m : Option Medium) (p : List Byte), s.begun r = some q ∧ q.opcode = 0x0A03 ∧ q.params = [1, 0, 0, 0] ∧ Medium.img m = some p ∧
      (s.twin.role ≠ .lead ∨ (s.twin.pair ≠ .paired ∧ s.twin.pair ≠ .broken))) ∧
    (∃ (s : State) (k : Nat), s.id.watch = some (k, true) ∧ k + 10000000 ≤ s.now) ∧
    (∃ (s : State) (file : List Byte) (i : Fin 12), s.id.watch.isSome = true ∧ s.id.keyFile = some file ∧ s.id.keysOf 1 = [] ∧ file.length = 72 ∧
      file.take 8 = [0x4B, 0x57, 0x4F, 0x4B, 0, 0, 0, 0] ∧ ((List.finRange 12).find? fun i => (s.id.keys.get i).isNone) = some i) ∧
    (∃ (s : State) (k : Nat) (wake : Bool) (m : Option Medium) (p : List Byte), s.id.armed = some (k, wake) ∧ Medium.img m = some p) ∧
    (∃ (s : State) (m : Option Medium) (j : Journal) (p : List Byte), s.id.journal = some j ∧ s.id.loader = true ∧ s.id.waiting = false ∧ j.done + 1 < j.blocks ∧ Medium.img m = some p ∧
      imageDigest p = j.digest) ∧
    (∃ (s : State) (m : Option Medium) (flash : Option (List Byte)) (j : Journal) (p : List Byte) (r : List Byte) (f : Flash), s.id.journal = some j ∧ s.id.loader = true ∧ s.id.waiting = false ∧ j.blocks ≤ j.done + 1 ∧ Medium.img m = some p ∧
      imageDigest p = j.digest ∧ ((j.done < j.blocks → Config.blockTag (p.take 128) j.done (imageBlock p j.done) = true)) ∧
      f = (if j.done < j.blocks then s.id.stored.write j.done (imageBlock p j.done) else s.id.stored).close p ∧ r = flash.getD f.bytes) ∧
    (∃ (s : State) (m : Option Medium) (j : Journal) (p : List Byte), s.id.loader = true ∧ 1000000 ≤ s.since s.id.pollAt ∧ s.id.journal = some j ∧ s.id.waiting = true ∧ Medium.img m = some p ∧
      imageDigest p = j.digest) :=
  ⟨⟨begins z ({ zq 0x0104 ([] ++ zeros 82 ++ le 2 1 ++ zeros 65) with src := .clear }), zr, { zq 0x0104 ([] ++ zeros 82 ++ le 2 1 ++ zeros 65) with src := .clear }, 1, 0, by decide +kernel⟩,
   (by refine ⟨zboot z, 0, none, z.id.stored.bytes, ?_, ?_, ?_, ?_, ?_, rfl⟩ <;> decide +kernel),
   (by refine ⟨zboot z, 0, none, z.id.stored.bytes, ?_, ?_, ?_, ?_, rfl⟩ <;> decide +kernel),
   ⟨(zboot z).onId fun k => { k with journal := some (zjournal 5 0 []) }, 0, by decide +kernel⟩,
   ⟨begins z (zq 0x0A01 (zeros 16)), zr, zq 0x0A01 (zeros 16), by decide +kernel⟩,
   ⟨begins z (zq 0x0A02 ([0, 1] ++ zeros 70)), zr, zq 0x0A02 ([0, 1] ++ zeros 70), 0, by decide +kernel⟩,
   ⟨begins z (zq 0x0A02 [1, 2]), zr, zq 0x0A02 [1, 2], by decide +kernel⟩,
   ⟨begins z (zq 0x0A02 ([2] ++ zeros 7 ++ le 4 1)), zr, zq 0x0A02 ([2] ++ zeros 7 ++ le 4 1), by decide +kernel⟩,
   ⟨begins z (zq 0x0A03 [0, 0, 0, 0]), zr, zq 0x0A03 [0, 0, 0, 0], some { bulkOnly := true, sector := 512, partitions := .none, fat32 := true, root := [("KWOT4812.IMG", [])] }, ([] : List Byte), by decide +kernel⟩,
   ⟨begins z (zq 0x0A03 [1, 0, 0, 0]), zr, zq 0x0A03 [1, 0, 0, 0], some { bulkOnly := true, sector := 512, partitions := .none, fat32 := true, root := [("KWOT4812.IMG", [])] }, ([] : List Byte), by decide +kernel⟩,
   ⟨atNow (z.onId fun x => { x with watch := some (0, true) }) 10000000, 0, by decide +kernel⟩,
   ⟨z.onId fun x => { x with watch := some (0, true), keyFile := some ([0x4B, 0x57, 0x4F, 0x4B, 0, 0, 0, 0] ++ zeros 64) }, [0x4B, 0x57, 0x4F, 0x4B, 0, 0, 0, 0] ++ zeros 64, 0, by decide +kernel⟩,
   ⟨z.onId fun x => { x with armed := some (0, false) }, 0, false, some { bulkOnly := true, sector := 512, partitions := .none, fat32 := true, root := [("KWOT4812.IMG", [])] }, ([] : List Byte), by decide +kernel⟩,
   (by refine ⟨zload z (zjournal 5 0 []) false, some { bulkOnly := true, sector := 512, partitions := .none, fat32 := true, root := [("KWOT4812.IMG", [])] }, zjournal 5 0 [], ([] : List Byte), rfl, ?_, ?_, ?_, ?_, rfl⟩ <;> decide +kernel),
   (by refine ⟨zload z (zjournal 5 5 []) false, some { bulkOnly := true, sector := 512, partitions := .none, fat32 := true, root := [("KWOT4812.IMG", [])] }, none, zjournal 5 5 [], ([] : List Byte), (z.id.stored.close []).bytes, z.id.stored.close [], rfl, ?_, ?_, ?_, ?_, rfl, fun h => absurd h (by decide), rfl, rfl⟩ <;> decide +kernel),
   (by refine ⟨atNow (zload z (zjournal 5 0 []) true) 1000000, some { bulkOnly := true, sector := 512, partitions := .none, fat32 := true, root := [("KWOT4812.IMG", [])] }, zjournal 5 0 [], ([] : List Byte), ?_, ?_, rfl, ?_, ?_, rfl⟩ <;> decide +kernel)⟩

theorem test_witness_RecorderCommandsComplete :
    (∃ (s : State) (b : Buffered) (rest : List Buffered) (w : Bool), s.engineReady = true ∧ s.rcd.buffer = b :: rest ∧ s.rcd.saturated = false ∧ s.rcd.main.length + 2 < mainSlots ∧
      (w = true ∨ b.fails ≠ 0 ∨ b.record.source = 0)) ∧
    (∃ (s : State) (b : Buffered) (rest : List Buffered) (w : Bool), s.engineReady = true ∧ s.rcd.buffer = b :: rest ∧ s.rcd.saturated = false ∧ s.rcd.main.length + 2 < mainSlots ∧ b.fails = 0 ∧
      (w = true ∨ b.record.source = 0)) ∧
    (∃ (s : State) (b : Buffered) (rest : List Buffered), s.engineReady = true ∧ s.rcd.buffer = b :: rest ∧ b.fails = 0 ∧ b.record.source ≠ 0) ∧
    (∃ (s : State), s.rcd.saturated = true ∧ s.rcd.sectorReady = false ∧ s.rcd.worn = [] ∧ s.rcd.tailNext < tailSlots) ∧
    (∃ (s : State), 62500 ≤ s.since s.rcd.tokenAt) ∧
    (∃ (s : State), 600000000 ≤ s.since s.rcd.savedAt) ∧
    (∃ (s : State), 1000000 ≤ s.since s.rcd.secondAt ∧ s.pwr.state ≠ .off) ∧
    (∃ (s : State) (r : CmdRef) (q : Cmd), s.begun r = some q ∧ q.opcode = 0x0801 ∧ q.params = []) ∧
    (∃ (s : State) (r : CmdRef) (q : Cmd), s.begun r = some q ∧ q.opcode = 0x0802 ∧ q.params.length = 16 ∧ 0xB000 ≤ u16 q.params 0 ∧ u16 q.params 0 ≤ 0xBFFF ∧
      8 ≤ u8 q.params 2 ∧ u8 q.params 2 ≤ 15 ∧ u8 q.params 3 = 0 ∧ s.rcd.tokens ≠ 0 ∧ s.rcd.saturated = false ∧ s.pwr.domains.get 2 = true) :=
  ⟨⟨zrec z, zbuf, [], false, by decide +kernel⟩,
   ⟨zrec z, zbuf, [], false, by decide +kernel⟩,
   ⟨zrec2 z, zbuf2, [], by decide +kernel⟩,
   ⟨z.onRcd fun x => { x with saturated := true, tail := [(0, .torn), (200, .torn)] }, by decide +kernel⟩,
   ⟨atNow z 62500, by decide +kernel⟩,
   ⟨atNow z 600000000, by decide +kernel⟩,
   ⟨atNow z 1000000, by decide +kernel⟩,
   ⟨begins z (zq 0x0801 []), zr, zq 0x0801 [], by decide +kernel⟩,
   ⟨begins (z.onPwr fun x => { x with domains := Tab.fill 10 true }) (zq 0x0802 (le 2 0xB000 ++ [8, 0] ++ zeros 12)), zr, zq 0x0802 (le 2 0xB000 ++ [8, 0] ++ zeros 12), by decide +kernel⟩⟩

/-- Every row of `PowerAndClockFrame` answers a next state. -/
theorem test_witness_PowerAndClockFrame :
    ∀ c ∈ ([.auxLoss 0, .sleepEntry, .deepSleepEntry, .reserveEnd 0 false none, .auxRestore, .vbusFault, .vbusRestore,
      .supplyMonitorUpdate 24000 24000 24000 24000 24000, .pwrLow 0 0, .pwrRestored 0, .keepColdStart false none, .idleEntry, .idleExit,
      .offEntry, .sleepWake 0 0, .pwrConfig zr, .pwrEnter zr, .wakeSource zr, .wakeRisingEdge, .xoStable, .xoPllSettled, .xoReturn,
      .hfoTrimConverged 0 0, .lfoTrimConverged 0, .xoRetry, .xoFail, .clkstuck 0, .trimSource 0 0, .syncInEdge 0 0, .xoLoss false,
      .warpStep 0 0, .warpLoRead, .warpPtpOffsetLoRead, .shuttleAck 0, .shuttleRetransmit 0, .frameMark [] none none [],
      .recordWrite false false, .tailSectorErase false, .rateToken, .counterSave, .opSecond, .recInfo zr, .recAppend zr] : List Instr),
      ∃ t, exec c z = .next t :=
  all_go (by decide +kernel)

/-- Every row of `LoomAndWeftFrame` answers a next state. -/
theorem test_witness_LoomAndWeftFrame :
    ∀ c ∈ ([.nop, .cmp, .tst, .btst, .bcc, .call, .ret, .jmpi, .yield, .done, .mulu, .muls, .rep, .repi, .fence, .waitslot, .puts, .mov, .movsx,
      .lea, .add, .adc, .sub, .sbc, .and, .or, .xor, .not, .neg, .shl, .shr, .sar, .ror, .addm, .subm, .bset, .bclr, .dadd, .dadc, .dsub,
      .dsbc, .dadj, .cvbd, .cvdb, .recv, .gets, .mulComplete, .send, .loomDataReceive 0 false, .segmentStart, .wcet 0, .deadline 0,
      .selvedgeCommit, .commitReceive false false, .heartbeatReceive false false false, .commandDue 0 false, .weftLoadBegin zr,
      .weftCommit zr, .weftSwap zr, .ownershipEvaluation, .weftStart zr, .weftStop zr, .weftAutostart, .weftStarted, .weftStopped,
      .weftSwapped] : List Instr),
      ∃ t, exec c z = .next t :=
  all_go (by decide +kernel)

/-- Every row of `SwitchFrame` answers a next state. -/
theorem test_witness_SwitchFrame :
    ∀ c ∈ ([.switchCmd false, .switchReadRequest false, .pwmPeriodStart 0, .pwmOffEdge 0, .pulseEnd 0, .profileSegmentEnd 0, .peakReset 0,
      .retryWindowExpiry 0, .pgPeriodWrite 0 0, .envelopeEventClose 0, .scanSample 0 0 0 0 0, .orphanEnter false, .orphanSafe 0,
      .openLoadOnDetect 0, .loadReturnedOn 0, .pauseExpiry 0 0, .openLoadOffDetect 0 0, .loadReturnedOff 0 0, .shed 0, .switchReset,
      .shortTrip 0 0, .overcurrentTrip 0, .coolingLimit 0, .thermalShutdown 0 0, .coolingRestart 0 0, .envelopeEvent 0, .rechargeResume,
      .swClearLatch zr, .admitLimit 0, .swGet zr, .swConfig zr, .swAdopt zr, .swSet zr, .thermalBudgetEval 0, .thermalShedStart,
      .thermalShed] : List Instr),
      ∃ t, exec c z = .next t :=
  all_go (by decide +kernel)

/-- Every row of `DriveAndFieldFrame` answers a next state. -/
theorem test_witness_DriveAndFieldFrame :
    ∀ c ∈ ([.vboostReady 0, .vboostOv 0, .vboostAtVbSet 0, .boostGrant 0, .decayEnd 0, .freewheelLatchExpiry 0, .clearLearned 0,
      .bankOverloadClear 0 0, .boostFail 0, .holdUnreachable 0, .bankOverload 0 0, .boostCut 0 0 0, .bankDeferExpiry 0, .actuatorFire 0,
      .actuatorRelease 0, .openCoil 0, .controlUpdate 0 0 0 0 0, .shortedCoil 0 0, .bankFault 0 false 0, .driveCmd false,
      .driveReadRequest false, .actuatorOrphanEnter false, .actuatorOrphanSafe 0, .acConfig zr, .driveReset, .acLoadBobbin zr, .acFire zr,
      .acRelease zr, .acGet zr, .barrierFrame 0 0 0 0 0 0, .fieldStop 0, .fioSet zr, .fioGet zr, .fioConfig zr, .logicFrameReceive false,
      .stuck 0, .chatter 0, .fastCountEdge 0 false 0, .fieldStale, .logicSilent, .fieldWatchdog, .fieldConfigWrite 0 0, .counterClear 0,
      .fieldFlagClear 0 0 0 false 0, .fieldStart 0, .foOverload 0, .groupLimit 0 [], .fieldDataWord false] : List Instr),
      ∃ t, exec c z = .next t :=
  all_go (by decide +kernel)

/-- Every row of `CommandFrame` answers a next state. -/
theorem test_witness_CommandFrame :
    ∀ c ∈ ([.packetReceive .can [], .commandBegin zr, .sessionTimeout 0, .ping zr, .sessionClose zr, .groupResume zr, .groupAbort zr,
      .fenceCmd zr, .info zr, .getState zr, .dpOpen zr, .dpClose zr, .dpCommit zr, .dpRead zr, .dpWrite zr, .sessionOpen zr,
      .updateCheck zr none, .boot false none none, .attest zr, .keyAdd zr, .keyRemove zr, .weftFloorRaise zr, .updateArm zr none,
      .updateArmByWake, .wakeFalls, .ownerClaimed [], .updateStart none, .updateBlock none none, .mediumPoll none, .faultRead zr,
      .quietPeriodEnd, .permitRenewal, .permitExpiry, .faultHandler, .faultReport false, .watchdog 0 0, .loomReset, .serviceCoreReset,
      .networkReset, .forceSafeOn, .forceSafeOff] : List Instr),
      ∃ t, exec c z = .next t :=
  all_go (by decide +kernel)

/-- Every row of `NetworkFrame` answers a next state. -/
theorem test_witness_NetworkFrame :
    ∀ c ∈ ([.canFrameReceive 0 zcan 0 0 none, .canError 0 0 false none false false 0 none, .canTxComplete 0 0 0 0, .canAbort 0 0, .canConfig zr,
      .protocolException 0, .errorPassive 0, .busOff 0, .idclash 0 0, .errorActive 0, .busRecovered 0, .busIntegrated 0, .canFilter zr,
      .canStatus zr, .canSend zr, .canPeek false, .canStatusRequest false, .canCommit false, .networkCmdInvalid false, .canTx false,
      .nmFrameSend 0, .nmTimeout 0, .repeatEnd 0, .nmSleep 0, .wufErrwake 0, .canWakeDetect 0 .pattern, .falseWake 0, .maxAwake 0,
      .nmKeeper 0, .nmConfig zr, .nmRequest zr, .nmRequestRepeat zr, .nmRelease zr, .tc10SleepRequest 0, .tc10SleepReceive 0, .tc10Wake 0,
      .tc10SleepAcknowledge 0 false, .ethFrameReceive 0 [], .macAgeOut 0, .macTableFull, .linkUp 0, .linkDown 0, .pdelayMeasure 0 0,
      .tunnelAvtpduClose 0, .gptpSync 0, .gptpLost 0 0, .ipAddress none none, .dhcpRenewal none none, .dhcpLeaseLost none,
      .farTransactionStart 0, .modbusFrameReceive 0 [] false, .farTimeout 0, .farTurnaroundEnd 0, .heddleWaitExpiry 0, .lockExpired 0,
      .farRead zr, .farWrite zr, .farLock zr, .farUnlock zr] : List Instr),
      ∃ t, exec c z = .next t :=
  all_go (by decide +kernel)

/-- Every row of `TwinAndAccessFrame` answers a next state. -/
theorem test_witness_TwinAndAccessFrame :
    ∀ c ∈ ([.twinLinkUp, .pairingRetry, .twinLinkDown false, .twinRetransmit 0, .mirrorAckTimeout, .twinHello [], .twinAttest [], .twinPaired [],
      .twinWeft [] false, .twinHeartbeat [] 0, .twinMirror [], .twinConfigFrame [], .twinLoomData [], .twinAck [], .twinRelease [],
      .pllLost 0, .handoverRequest [], .handoverAccept [], .handoverRefuse [], .twinHandover zr, .twinStatus zr, .handoverGo [],
      .handoverComplete, .tokenReleaseHoldEnd false, .twinConfig zr, .cableSense 0 false, .takeover, .loneLead false,
      .fieldFrameReceive false, .burstStart, .uwbPoll (Vector.replicate 8 .empty), .burstEnd, .failureDelayEnd, .failDecay, .leaseExpiry,
      .tokenEnrol zr, .tokenRevoke zr, .releaseConfigUnpair zr, .releaseConfigRenew zr, .lockout zr, .clearLockout zr, .clearTamper zr,
      .tokenList zr, .releaseConfigSet zr, .releaseConfigPair zr, .releaseStopped] : List Instr),
      ∃ t, exec c z = .next t :=
  all_go (by decide +kernel)

/-- The instruction's own cycles, those it must not begin without and the save of the context lie before the segment's end. -/
def Fits (row : Nat) (d : Done) (s : State) : Prop :=
  s.loom.cyc + d.cycles + d.ahead + (if row = 0x64 ∨ row = 0x65 then 0 else 3) ≤ zseg.stop

theorem test_witness_LoomDataComplete :
    ∀ x ∈ ([(0x00, 0x00000000, (fun i s => i.plain s)), (0x04, 0x04000000, (semUnary fun f w a => (a, flagsNZ f w a))),
      (0x08, 0x08000000, (semUnary fun f w a => (unsigned 32 (signed w a), flagsNZ f w a))), (0x0E, 0x0E004000, semLea),
      (0x10, 0x10000000, (semBinary fun f w a b => addF f w a b 0)), (0x14, 0x14000000, (semBinary fun f w a b => addF f w a b (carry f))),
      (0x18, 0x18000000, (semBinary fun f w a b => subF f w a b 0)), (0x1C, 0x1C000000, (semBinary fun f w a b => subF f w a b (carry f))),
      (0x20, 0x20000000, (semBinary fun f w a b => logicF f w (a &&& b))),
      (0x24, 0x24000000, (semBinary fun f w a b => logicF f w (a ||| b))),
      (0x28, 0x28000000, (semBinary fun f w a b => logicF f w (a ^^^ b))),
      (0x2C, 0x2C000000, (semUnary fun f w a => logicF f w (2 ^ w - 1 - a))), (0x30, 0x30000000, (semUnary fun f w a => subF f w 0 a 0)),
      (0x34, 0x34000000, (semBinary (shiftF .shl))), (0x38, 0x38000000, (semBinary (shiftF .shr))),
      (0x3C, 0x3C000000, (semBinary (shiftF .sar))), (0x40, 0x40000000, (semBinary (shiftF .ror))),
      (0x44, 0x44000000, (semCompare fun f w a b => (subF f w a b 0).2)),
      (0x48, 0x48000000, (semCompare fun f w a b => (logicF f w (a &&& b)).2)),
      (0x4C, 0x4C000000, (semModify fun f w d a => addF f w d a 0)), (0x50, 0x50000000, (semModify fun f w d a => subF f w d a 0)),
      (0x54, 0x54000000, (semModify fun f w d a => (d ||| 2 ^ (a % w), bitZ f w d a))),
      (0x58, 0x58000000, (semModify fun f w d a => (if bit d (a % w) then d - 2 ^ (a % w) else d, bitZ f w d a))),
      (0x5C, 0x5C000000, (semCompare fun f w a b => bitZ f w a b)), (0x68, 0x68000000, (semMul false)), (0x69, 0x69000000, (semMul true)),
      (0x6C, 0x6C000000, (semBinary fun f _ a b => decF false f a b 0)),
      (0x6D, 0x6D000000, (semBinary fun f _ a b => decF false f a b (carry f))),
      (0x6E, 0x6E000000, (semBinary fun f _ a b => decF true f a b 0)),
      (0x6F, 0x6F000000, (semBinary fun f _ a b => decF true f a b (carry f))), (0x70, 0x70000000, (semUnary fun f _ a => dadjF f a)),
      (0x71, 0x71000000, (semUnary fun f _ a => cvbdF f a)), (0x72, 0x72000000, (semUnary fun f _ a => cvdbF f a))] : List (Nat × Nat × (Ins → State → Done))),
      LoomAt (zloom z [x.2.1]) zseg x.1 ∧ Fits x.1 (x.2.2 (zloom z [x.2.1]).nowIns (settled (zloom z [x.2.1]))) (settled (zloom z [x.2.1])) := by
  unfold LoomAt Fits
  decide +kernel

theorem test_witness_LoomDataComplete_mul :
    ∃ (s : State) (m : Mul), s.loom.mul = some m ∧ m.ready ≤ (if s.loom.seg.isSome = true then s.loom.cyc else max s.loom.cyc (s.warp % 1000 * 250)) :=
  ⟨z.onLoom fun l => { l with mul := some { ready := 0, product := 1 } }, { ready := 0, product := 1 }, by decide +kernel⟩

theorem test_witness_LoomControlComplete :
    ∀ x ∈ ([(0x60, 0x60000000, semBcc), (0x61, 0x61200000, semCall), (0x62, 0x62000000, semRet), (0x63, 0x63000000, (semOne semJmpi)),
      (0x64, 0x64000000, (fun i s => { i.plain s with yields := true })), (0x65, 0x65000000, (fun i s => { i.plain s with ends := true })),
      (0x74, 0x74000000, (semRep false)), (0x75, 0x75000000, (semRep true)), (0x78, 0x78000000, semSend), (0x79, 0x79000000, semRecv),
      (0x7A, 0x7A000000, (fun i s => { i.plain s with fault := if s.unacked = 0 then none else some (0x9025, s.unacked) })),
      (0x7B, 0x7B000000, (semOne semWaitslot)), (0x7C, 0x7C000000, semGets), (0x7D, 0x7D010000, (semOne semPuts))] : List (Nat × Nat × (Ins → State → Done))),
      LoomAt (zloom z [x.2.1]) zseg x.1 ∧ Fits x.1 (x.2.2 (zloom z [x.2.1]).nowIns (settled (zloom z [x.2.1]))) (settled (zloom z [x.2.1])) := by
  unfold LoomAt Fits
  decide +kernel

theorem test_witness_LoomBudget :
    ∃ (s : State) (g : Seg), LoomAt s g 0x10 ∧ g.stop < (settled s).loom.cyc + s.nowIns.cycles + 3 :=
  ⟨(zloom z [0x12000000]).onLoom fun l => { l with seg := some ⟨0, 0, 3⟩ }, ⟨0, 0, 3⟩, by unfold LoomAt; decide +kernel⟩

theorem test_witness_LoomRegisterFrame : ∃ s : State, Memory.wf s.mem = true ∧ ∃ t, exec .add s = .next t :=
  ⟨zloom z [0x12000000], by decide +kernel, goes_next (by decide +kernel)⟩

theorem test_witness_OtherObjectsKept :
    (∃ c d : ChNo, d ≠ c ∧ profValid (z.profile (z.chan c).cfg.profile) = true ∧
      (∃ t, exec (.pulseEnd c) z = .next t) ∧ ∃ t, exec (.pauseExpiry c 0) z = .next t) ∧
    (∃ c d : AcNo, d ≠ c ∧ d ≠ acOther c ∧ (∃ t, exec (.decayEnd c) z = .next t) ∧ ∃ t, exec (.controlUpdate c 0 0 0 0) z = .next t) ∧
    (∃ i j : Fin 24, j ≠ i ∧ ∃ t, exec (.stuck i) z = .next t) ∧
    (∃ k j : Fin 8, j ≠ k ∧ ∃ t, exec (.fastCountEdge k true 0) z = .next t) ∧
    (∃ c d : CanNo, d ≠ c ∧ (∃ t, exec (.busOff c) z = .next t) ∧ ∃ t, exec (.nmSleep c) z = .next t) ∧
    (∃ p q : PortNo, q ≠ p ∧ ∃ t, exec (.linkUp p) z = .next t) ∧
    (∃ p q : FarNo, q ≠ p ∧ ∃ t, exec (.lockExpired p) z = .next t) :=
  ⟨⟨0, 1, by decide, by decide +kernel, goes_next (by decide +kernel), goes_next (by decide +kernel)⟩,
   ⟨0, 2, by decide, by decide, goes_next (by decide +kernel), goes_next (by decide +kernel)⟩, ⟨0, 1, by decide, goes_next (by decide +kernel)⟩,
   ⟨0, 1, by decide, goes_next (by decide +kernel)⟩, ⟨0, 1, by decide, goes_next (by decide +kernel), goes_next (by decide +kernel)⟩,
   ⟨0, 1, by decide, goes_next (by decide +kernel)⟩, ⟨0, 1, by decide, goes_next (by decide +kernel)⟩⟩

def zw0 : Window := { elem := 1, attr := 0, autoinc := false, base := 0x10000000, length := 16, cursor := 0 }

theorem test_witness_MemoryFrame :
    Memory.wf z.mem = true ∧ (∃ t, exec .switchReset z = .next t) ∧ (∃ t, exec .driveReset z = .next t) ∧ (∃ t, exec (.twinLoomData []) z = .next t) ∧
    (∃ t, exec .selvedgeCommit z = .next t) ∧ z.weft.swapping = none ∧
    (∃ (s : State) (q : Cmd), Memory.wf s.mem = true ∧ s.begun zr = some q ∧ ∃ t, exec (.acLoadBobbin zr) s = .next t) ∧
    (∃ (s : State) (q : Cmd) (w : Window), Memory.wf s.mem = true ∧ s.begun zr = some q ∧ s.window q (u8 q.params 0) = some w ∧
      ∃ t, exec (.dpWrite zr) s = .next t) :=
  ⟨by decide +kernel, goes_next (by decide +kernel), goes_next (by decide +kernel), goes_next (by decide +kernel), goes_next (by decide +kernel), by decide +kernel,
   ⟨begins z (zq 0x0506 []), zq 0x0506 [], by decide +kernel, by decide +kernel, goes_next (by decide +kernel)⟩,
   ⟨begins (zwin z zw0) (zq 0x0703 [0]), zq 0x0703 [0], zw0, by decide +kernel, by decide +kernel, by decide +kernel, goes_next (by decide +kernel)⟩⟩

/-- A queue with one command: the invariants hold there, and the step goes on. -/
theorem test_witness_invariants :
    ∃ s : State, MemOk s ∧ TokenOk s ∧ FaultQueueOk s ∧ s.pending = [.driveReset] ∧ ∃ t, exec .driveReset (s.rest []) = .next t :=
  ⟨{ z with pending := [.driveReset] }, by unfold MemOk; decide +kernel, by unfold TokenOk; decide +kernel, by unfold FaultQueueOk; decide +kernel, rfl,
   goes_next (by decide +kernel)⟩

theorem test_witness_queues : (∃ (s : State) (c : Instr) (q : List Instr), s.pending = c :: q) ∧ ∃ s : State, s.pending = [] :=
  ⟨⟨{ z with pending := [.driveReset] }, .driveReset, [], rfl⟩, ⟨z, rfl⟩⟩

theorem test_witness_QueueAndClockKept : ∃ (c : Instr) (t : State), exec c z = .next t :=
  ⟨.driveReset, goes_next (by decide +kernel)⟩

end Sys2Proof.Tests
end

/-! The Loom's instructions: how a row completes, what a plan fault of a task leaves alone, and the repeat of a forbidden instruction. -/

namespace Sys2Proof.LoomProofs

open Sys2Proof Sys2Proof.Machine Sys2Proof.Laws

/-! ## Rules of the Loom's operations -/

@[simp] theorem spend_loom (s : State) (k : Fin 64) (c : Nat) : (s.spend k c).loom = { s.loom with cyc := s.loom.cyc + c } := rfl

@[simp] theorem spend_mem (s : State) (k : Fin 64) (c : Nat) : (s.spend k c).mem = s.mem := rfl

/-- Only the multiplier changes when its product comes to stand (R90). -/
theorem settle_eq (l : Loom) (t : Nat) : ∃ m lo hi, l.settle t = { l with mul := m, mlo := lo, mhi := hi } := by
  unfold Loom.settle
  split
  · split
    · exact ⟨_, _, _, rfl⟩
    · exact ⟨_, _, _, rfl⟩
  · exact ⟨_, _, _, rfl⟩

/-- A legal instruction of the row at the Loom's PC, outside a repeat and with budget enough, takes effect as the row's meaning says (R116, R117). -/
theorem loomRow_of_loomAt {s : State} {g : Seg} {row : Nat} {sem : Ins → State → Done} {r : Done} (h : LoomAt s g row)
    (hr : sem s.nowIns (settled s) = r)
    (fits : s.loom.cyc + r.cycles + r.ahead + (if r.yields || (r.ends && r.fault.isNone) then 0 else 3) ≤ g.stop) :
    s.loomRow (isRow row) sem = (State.finishIns g s.nowIns r).boundary := by
  obtain ⟨hseg, hready, hfetch, hrow, hlegal, hrep⟩ := h
  obtain ⟨m, lo, hi, hs⟩ := settle_eq s.loom s.loom.cyc
  unfold settled at hr
  simp only [State.loomRow, hseg, hready, hfetch, hrow, hlegal, hr, hs, hrep, isRow, onLoom_loom, beq_self_eq_true, Bool.not_true,
    Bool.or_self, Bool.false_eq_true, if_false, if_true, decide_eq_true_eq, fits]

/-! ## The end of a segment -/

/-- The Loom is as before, or has left its segment and with it its repeat (R86). -/
def SameOrLeft (l l' : Loom) : Prop := l' = l ∨ l' = { l with seg := none, rep := none }

theorem SameOrLeft.trans {a b c : Loom} (h : SameOrLeft a b) (k : SameOrLeft b c) : SameOrLeft a c := by
  obtain rfl | rfl := h
  · exact k
  · obtain rfl | rfl := k
    · exact .inr rfl
    · exact .inr rfl

theorem SameOrLeft.eq_rest {l l' : Loom} (h : SameOrLeft l l') :
    l'.rpc = l.rpc ∧ l'.pc = l.pc ∧ l'.cyc = l.cyc ∧ l'.g = l.g ∧ l'.file = l.file ∧ l'.flg = l.flg := by
  obtain rfl | rfl := h
  · exact ⟨rfl, rfl, rfl, rfl, rfl, rfl⟩
  · exact ⟨rfl, rfl, rfl, rfl, rfl, rfl⟩

theorem SameOrLeft.rep_eq_none {l l' : Loom} (h : SameOrLeft l l') (hl : l.rep = none) : l'.rep = none := by
  obtain rfl | rfl := h
  · exact hl
  · rfl

theorem endActivation_loom (s : State) (k : Fin 64) : SameOrLeft s.loom (s.endActivation k).loom := by
  unfold State.endActivation
  dsimp only
  split
  · split
    · exact .inr rfl
    · exact .inl rfl
  · exact .inl rfl

/-- A plan fault ends the task's activation at most, as its FAULT_POLICY tells (R125). -/
theorem taskFault_loom (s : State) (k : Fin 64) (code p0 p1 p2 : Nat) : SameOrLeft s.loom (s.taskFault k code p0 p1 p2).loom := by
  have hplan : (s.planFault (0, k.1) 1 code p0 p1 p2).loom = s.loom :=
    (planFault_keeps (List.Subset.refl _) (keeps_refl _ _)).only.same .loom (by decide)
  unfold State.taskFault
  dsimp only
  split
  · exact hplan ▸ endActivation_loom _ k
  · exact .inl (((stopWeft_keeps (List.Subset.refl _) (keeps_refl _ _)).only.same .loom (by decide)).trans hplan)
  · exact .inl hplan

/-- The parts a stop at once may change, the Loom apart (R130). -/
def haltParts : List Part := [.out, .rcd, .cmd, .sw, .drv, .fld, .weft, .can, .far, .twin]

/-- A stop at once takes the segment from the Loom; the replies and records that follow do not touch the Loom. -/
theorem haltWeft_loom (s : State) (reason : Nat) : (s.haltWeft reason).loom = { s.loom with seg := none, rep := none } := by
  unfold State.haltWeft
  extract_lets w s1 s2 name
  have h2 : Keeps haltParts s1 s2 := by
    simp only [s2]
    split
    · split
      · exact completeId_keeps (by decide) (onWeft_keeps (by decide) (keeps_refl _ _))
      · exact onWeft_keeps (by decide) (keeps_refl _ _)
    · exact keeps_refl _ _
  split
  next => exact h2.only.same .loom (by decide)
  next last s3 _ _ k _ =>
    extract_lets s4 s5
    have h3 : Keeps haltParts s1 s3 := onWeft_keeps (by decide) h2
    have h4 : Keeps haltParts s1 s4 := by
      simp only [s4]
      split
      · split
        · exact completeId_keeps (by decide) h3
        · exact h3
      · exact h3
    have h5 : Keeps haltParts s1 s5 := by
      simp only [s5]
      split
      · split
        · exact completeId_keeps (by decide) h4
        · exact h4
      · exact h4
    exact (record_keeps (m := haltParts) (by decide) h5).only.same .loom (by decide)

/-- At a segment boundary a weft that has lost its PLL may stop (R51); the Loom keeps all but its segment. -/
theorem boundary_loom (s : State) : SameOrLeft s.loom s.boundary.loom := by
  unfold State.boundary
  split
  · exact .inr (haltWeft_loom s 2)
  · exact .inl rfl

@[simp] theorem boundary_mem (s : State) : s.boundary.mem = s.mem :=
  (boundary_keeps (List.Subset.refl _) (keeps_refl _ _)).only.same .mem (by decide)

@[simp] theorem boundary_flt (s : State) : s.boundary.flt = s.flt :=
  (boundary_keeps (List.Subset.refl _) (keeps_refl _ _)).only.same .flt (by decide)

/-! ## Plan faults -/

@[simp] theorem taskFault_mem (s : State) (k : Fin 64) (code p0 p1 p2 : Nat) : (s.taskFault k code p0 p1 p2).mem = s.mem :=
  (taskFault_keeps (List.Subset.refl _) (keeps_refl _ _)).only.same .mem (by decide)

/-- Whether the first of its frame or a later one, a plan fault leaves its source noted for the frame (R126). -/
theorem planFault_mem_planSeen (s : State) (key : Nat × Nat) (island code p0 p1 p2 : Nat) :
    key ∈ (s.planFault key island code p0 p1 p2).flt.planSeen := by
  unfold State.planFault
  split
  next seen => exact seen
  next => exact List.mem_cons_self

/-- The FAULT_POLICY leaves the fault words as the plan fault made them. -/
theorem taskFault_flt (s : State) (k : Fin 64) (code p0 p1 p2 : Nat) :
    (s.taskFault k code p0 p1 p2).flt = (s.planFault (0, k.1) 1 code p0 p1 p2).flt := by
  unfold State.taskFault
  dsimp only
  split
  · exact (endActivation_keeps (List.Subset.refl _) (keeps_refl _ _)).only.same .flt (by decide)
  · exact (stopWeft_keeps (List.Subset.refl _) (keeps_refl _ _)).only.same .flt (by decide)
  · rfl

/-! ## The repeat of a forbidden instruction (R88, R99) -/

theorem noRepeat_iff (opc : Nat) : noRepeat opc = true ↔ opc ∈ [0x60, 0x61, 0x62, 0x63, 0x64, 0x65, 0x74, 0x75, 0x7A, 0x7B] := by
  simp [noRepeat, or_assoc]

/-- What an illegal repeat is: RPC 0, one cycle, on past the instruction `n` after it, and ILLEGAL with the word of `n`. -/
def illegalRepeat (i n : Ins) (s : State) : Done :=
  { i.plain (s.onLoom fun l => { l with rpc := 0 }) with cycles := 1, jump := some n.after, fault := some (0x9020, n.w) }

theorem semRep_of_noRepeat {susp : Bool} {i : Ins} {s : State} (h : noRepeat (s.fetchIns i.after).opc = true) :
    semRep susp i s = illegalRepeat i (s.fetchIns i.after) s := by
  simp only [semRep, h, if_true, illegalRepeat]

/-- The state in which an illegal repeat raises its fault. -/
def passedOver (g : Seg) (i n : Ins) (s : State) : State :=
  ((s.onLoom fun l => { l with rpc := 0 }).spend g.task 1).onLoom fun l => { l with last := i.addr, pc := n.after % 2 ^ 32 }

theorem finishIns_illegalRepeat (g : Seg) (i n : Ins) (s : State) :
    State.finishIns g i (illegalRepeat i n s) = (passedOver g i n s).taskFault g.task 0x9020 i.addr g.task.1 n.w := rfl

/-- REP and REPI before an instruction that may not be repeated: it is passed over, ILLEGAL raised, and a segment boundary may follow. -/
theorem loomRow_semRep_of_noRepeat {s : State} {g : Seg} {row : Nat} (susp : Bool) (h : LoomAt s g row)
    (hn : noRepeat (s.fetchIns s.nowIns.after).opc = true) (fits : s.loom.cyc + 4 ≤ g.stop) :
    s.loomRow (isRow row) (semRep susp) =
      ((passedOver g s.nowIns (s.fetchIns s.nowIns.after) (settled s)).taskFault g.task 0x9020 s.nowIns.addr g.task.1
        (s.fetchIns s.nowIns.after).w).boundary :=
  (loomRow_of_loomAt h (semRep_of_noRepeat (s := settled s) hn) fits).trans (congrArg State.boundary (finishIns_illegalRepeat ..))

/-- The Loom after an illegal repeat, its segment apart. -/
theorem passedOver_settled_loom (g : Seg) (i n : Ins) (s : State) :
    ∃ m lo hi, (passedOver g i n (settled s)).loom =
      { s.loom with mul := m, mlo := lo, mhi := hi, rpc := 0, cyc := s.loom.cyc + 1, last := i.addr, pc := n.after % 2 ^ 32 } := by
  obtain ⟨m, lo, hi, h⟩ := settle_eq s.loom s.loom.cyc
  exact ⟨m, lo, hi, by simp [passedOver, settled, h]⟩

theorem passedOver_settled_mem (g : Seg) (i n : Ins) (s : State) : (passedOver g i n (settled s)).mem = s.mem := by
  simp [passedOver, settled]

/-- The two rows run the Loom with the one meaning of a repeat, suspendable for REPI (R87, R89). -/
theorem exec_repeat_eq {s : State} {row : Nat} (h : row = 0x74 ∨ row = 0x75) :
    ∃ susp, exec (if row = 0x74 then .rep else .repi) s = .next (s.loomRow (isRow row) (semRep susp)) := by
  obtain rfl | rfl := h
  · exact ⟨false, rfl⟩
  · exact ⟨true, rfl⟩

/-- Settles O9: the illegal repeat passes over the instruction; the fault and the boundary after it end the segment at most. -/
theorem forbiddenRepeat : Obligations.ForbiddenRepeat := by
  intro s g row hrow hat hnext fits
  obtain ⟨susp, hexec⟩ := exec_repeat_eq (s := s) hrow
  have hrun := loomRow_semRep_of_noRepeat susp hat ((noRepeat_iff _).mpr hnext) fits
  rw [hexec, hrun]
  refine ⟨_, rfl, ?_⟩
  obtain ⟨m, lo, hi, hpassed⟩ := passedOver_settled_loom g s.nowIns (s.fetchIns s.nowIns.after) s
  have hmem := passedOver_settled_mem g s.nowIns (s.fetchIns s.nowIns.after) s
  generalize passedOver g s.nowIns (s.fetchIns s.nowIns.after) (settled s) = p at hpassed hmem ⊢
  have hleft : SameOrLeft p.loom (p.taskFault g.task 0x9020 s.nowIns.addr g.task.1 (s.fetchIns s.nowIns.after).w).boundary.loom :=
    (taskFault_loom ..).trans (boundary_loom _)
  obtain ⟨hrpc, hpc, hcyc, hg, hfile, hflg⟩ := hleft.eq_rest
  obtain ⟨-, -, -, -, -, hrep⟩ := hat
  rw [hpassed] at hrpc hpc hcyc hg hfile hflg
  refine ⟨hrpc, hleft.rep_eq_none (hpassed ▸ hrep), hpc, hcyc, hg, hfile, hflg, ?_, ?_⟩
  · rw [boundary_mem, taskFault_mem, hmem]
  · rw [boundary_flt, taskFault_flt]
    exact planFault_mem_planSeen ..

end Sys2Proof.LoomProofs

/-! The common block of the switch island: which register an address reaches, and the host budgets the guard and admission take (R186, R193). -/

namespace Sys2Proof.BudgetProofs

open Sys2Proof Sys2Proof.Machine Sys2Proof.Laws

/-! ## Rules of the common block -/

/-- The common block's registers lie at their offsets from 0x2000_3000 (R193). -/
theorem writeReg_switch (s : State) {off : Nat} (v : Nat) (h : off < 0x100) :
    s.writeReg (0x20003000 + off) v = s.writeSwitch off v := by
  have hchan : ¬ (0x20000000 ≤ 0x20003000 + off ∧ 0x20003000 + off < 0x20003000) := by omega
  have hswitch : 0x20003000 ≤ 0x20003000 + off ∧ 0x20003000 + off < 0x20003100 := by omega
  have hoff : (0x20003000 + off) % 0x100 = off := by omega
  rw [State.writeReg, dif_neg hchan, if_pos hswitch, hoff]

/-- One budget register per power input, four bytes apart (R193). -/
theorem writeSwitch_hostBudget (s : State) (p : PwrNo) (v : Nat) : s.writeSwitch (0x48 + 4 * p.1) v = s.writeBudget p v := by
  match p with
  | 0 => rfl
  | 1 => rfl
  | 2 => rfl
  | 3 => rfl

theorem writeReg_hostBudget (s : State) (p : PwrNo) (v : Nat) : s.writeReg (0x20003048 + 4 * p.1) v = s.writeBudget p v := by
  have hoff : 0x48 + 4 * p.1 < 0x100 := by omega
  calc s.writeReg (0x20003048 + 4 * p.1) v
      = s.writeReg (0x20003000 + (0x48 + 4 * p.1)) v := by rw [← Nat.add_assoc]
    _ = s.writeSwitch (0x48 + 4 * p.1) v := writeReg_switch s v hoff
    _ = s.writeBudget p v := writeSwitch_hostBudget s p v

/-! ## The guard of a power input -/

@[simp] theorem guards_get_onGuard (s : State) (p : PwrNo) (f : Guard → Guard) : (s.onGuard p f).sw.guards.get p = f (s.sw.guards.get p) := by
  simp [State.onGuard]

@[simp] theorem cfgReject_onGuard (s : State) (p : PwrNo) (f : Guard → Guard) : (s.onGuard p f).sw.cfgReject = s.sw.cfgReject := rfl

/-! ## The budget's range (R186) -/

/-- The BUDGET field [15:0] of a word whose reserved bits are 0 is the word. -/
theorem bits_eq_self {v n : Nat} (h : v < 2 ^ n) : bits v 0 n = v := by
  simp [bits, Nat.mod_eq_of_lt h]

theorem writeBudget_of_le (s : State) (p : PwrNo) {v : Nat} (h : v ≤ 600) :
    s.writeBudget p v = (.ok, s.onGuard p fun g => { g with budget := v }) := by
  rw [State.writeBudget, bits_eq_self (by omega), if_neg (by omega)]

theorem writeBudget_of_gt (s : State) (p : PwrNo) {v : Nat} (hfield : v < 2 ^ 16) (h : 600 < v) :
    s.writeBudget p v = (.badParam, s.onSw fun w => { w with cfgReject := true }) := by
  rw [State.writeBudget, bits_eq_self hfield, if_pos h]

/-- Settles O10: the address reaches the input's budget, which takes a value in range and marks any other as rejected. -/
theorem hostBudget : Obligations.HostBudget := by
  intro s p v hfield
  rw [writeReg_hostBudget]
  constructor
  · intro hle
    rw [writeBudget_of_le s p hle]
    exact ⟨by rw [guards_get_onGuard], cfgReject_onGuard ..⟩
  · intro hgt
    rw [writeBudget_of_gt s p hfield hgt, onSw_sw]

end Sys2Proof.BudgetProofs

/-! Network management: the stays in LISTEN and READY that a limit ends or marks (R365, R367). -/

namespace Sys2Proof.NmProofs

open Sys2Proof Sys2Proof.Machine Sys2Proof.Laws

/-! ## Rules of the operations -/

@[simp] theorem record_nm (s : State) (code source p0 p1 p2 : Nat) : (s.record code source p0 p1 p2).nm = s.nm := rfl

/-- What a record adds depends on the time, the power domains and the recorder alone (R479 to R482). -/
theorem record_rcd_of_only {ps : List Part} {s t : State} (h : Only ps s t) (hnow : .now ∉ ps) (hpwr : .pwr ∉ ps) (hrcd : .rcd ∉ ps)
    (code source p0 p1 p2 : Nat) : (t.record code source p0 p1 p2).rcd = (s.record code source p0 p1 p2).rcd := by
  have now : t.now = s.now := h.same .now hnow
  have pwr : t.pwr = s.pwr := h.same .pwr hpwr
  have rcd : t.rcd = s.rcd := h.same .rcd hrcd
  simp only [State.record, State.recordSev, State.stamp, State.subsec, State.since, State.pd2, onRcd_rcd, now, pwr, rcd]

/-- A change of state updates the one channel, whose stay in the new state begins now (R357). -/
theorem nmEnter_nm (s : State) (c : CanNo) (st : NmState) :
    ∃ f : NmCh → NmCh, (s.nmEnter c st).nm = (s.onNmCh c f).nm ∧ ∀ x, (f x).state = st ∧ (f x).since = s.now := by
  unfold State.nmEnter
  dsimp only
  split
  next => exact ⟨_, rfl, fun _ => ⟨rfl, rfl⟩⟩
  next =>
    split
    next => exact ⟨_, rfl, fun _ => ⟨rfl, rfl⟩⟩
    next => exact ⟨_, rfl, fun _ => ⟨rfl, rfl⟩⟩

/-! ## FALSE_WAKE (R365) -/

theorem exec_falseWake (s : State) (c : CanNo) : exec (.falseWake c) s = .next (opFalseWake c s) := rfl

/-- The block notes a false wake: its bit, and its counter, which saturates. -/
def noteFalseWake (k : Nm) : Nm := { k with falseWake := true, falseWakes := satAdd 0xFFFF k.falseWakes 1 }

theorem opFalseWake_of_due {s : State} {c : CanNo} (hstate : (s.nmCh c).state = .listen)
    (hdue : 1000 * s.nm.cfg.falseWakeT ≤ s.since (s.nmCh c).since) :
    opFalseWake c s = ((s.nmEnter c .clearing).onNm noteFalseWake).record 0x4023 3 (canNum c) (s.nmCh c).cause 0 :=
  if_pos ⟨hstate, hdue⟩

theorem opFalseWake_of_not_due {s : State} {c : CanNo}
    (h : (s.nmCh c).state ≠ .listen ∨ s.since (s.nmCh c).since < 1000 * s.nm.cfg.falseWakeT) : opFalseWake c s = s := by
  refine if_neg fun ⟨hstate, hdue⟩ => ?_
  obtain hother | hearly := h
  · exact hother hstate
  · exact Nat.not_le.mpr hearly hdue

/-- Settles O11: the row enters CLEARING and notes the wake, neither of which reaches the recorder before the record does. That the row
changes nothing where its condition fails is the model's choice (log entry 4). -/
theorem falseWake : Obligations.FalseWake := by
  intro s c
  refine ⟨fun hstate hdue => ?_, fun h => by rw [exec_falseWake, opFalseWake_of_not_due h]⟩
  rw [exec_falseWake, opFalseWake_of_due hstate hdue]
  have hkeeps : Keeps [.can, .nm] s ((s.nmEnter c .clearing).onNm noteFalseWake) :=
    onNm_keeps (by decide) (nmEnter_keeps (List.Subset.refl _) (keeps_refl _ _))
  obtain ⟨f, hnm, hf⟩ := nmEnter_nm s c .clearing
  have hch : (s.nmEnter c .clearing).nmCh c = f (s.nmCh c) := (congrArg (·.chans.get c) hnm).trans (nmCh_onNmCh s c f)
  obtain ⟨hclearing, hsince⟩ := hf (s.nmCh c)
  refine ⟨_, rfl, (congrArg NmCh.state hch).trans hclearing, (congrArg NmCh.since hch).trans hsince, rfl, ?_, ?_⟩
  · rw [record_nm, onNm_nm, hnm]
    rfl
  · exact record_rcd_of_only hkeeps.only (by decide) (by decide) (by decide) ..

/-! ## NM_KEEPER (R367) -/

theorem exec_nmKeeper (s : State) (c : CanNo) : exec (.nmKeeper c) s = .next (opNmKeeper c s) := rfl

/-- The channel has said what it heard in this stay, and the block has KEEPER set. -/
def keeperNoted (c : CanNo) (s : State) : State :=
  (s.onNmCh c fun n => { n with keeperSaid := true }).onNm fun k => { k with keeper := true }

theorem keeperNoted_nmCh (s : State) (c : CanNo) : (keeperNoted c s).nmCh c = { s.nmCh c with keeperSaid := true } :=
  nmCh_onNmCh s c _

theorem keeperNoted_keeps (s : State) (c : CanNo) : Keeps [.nm] s (keeperNoted c s) :=
  onNm_keeps (List.Subset.refl _) (onNmCh_keeps (List.Subset.refl _) (keeps_refl _ _))

theorem opNmKeeper_of_due {s : State} {c : CanNo} (hstate : (s.nmCh c).state = .ready) (hunsaid : (s.nmCh c).keeperSaid = false)
    (hdue : 1000000 * s.nm.cfg.keepLimit ≤ s.since (s.nmCh c).since) :
    opNmKeeper c s = (keeperNoted c s).record 0x4025 3 (canNum c) (s.nmCh c).lastNode (s.nmCh c).heard.length :=
  if_pos ⟨hstate, hunsaid, hdue⟩

theorem opNmKeeper_of_not_due {s : State} {c : CanNo} (h : (s.nmCh c).state ≠ .ready ∨ (s.nmCh c).keeperSaid = true ∨
    s.since (s.nmCh c).since < 1000000 * s.nm.cfg.keepLimit) : opNmKeeper c s = s := by
  refine if_neg fun ⟨hstate, hunsaid, hdue⟩ => ?_
  obtain hother | hsaid | hearly := h
  · exact hother hstate
  · exact Bool.false_ne_true (hunsaid.symm.trans hsaid)
  · exact Nat.not_le.mpr hearly hdue

/-- Settles O12: the row marks the stay as said, so that a second one finds its condition false. That the row then changes nothing is the
model's choice (log entry 4). -/
theorem nmKeeper : Obligations.NmKeeper := by
  intro s c
  refine ⟨fun hstate hunsaid hdue => ?_, fun h => by rw [exec_nmKeeper, opNmKeeper_of_not_due h]⟩
  rw [exec_nmKeeper, opNmKeeper_of_due hstate hunsaid hdue]
  refine ⟨_, rfl, rfl, ?_, keeperNoted_nmCh s c, (keeperNoted_keeps s c).only.same .out (by decide), ?_⟩
  · exact record_rcd_of_only (keeperNoted_keeps s c).only (by decide) (by decide) (by decide) ..
  · have hsaid : (((keeperNoted c s).record 0x4025 3 (canNum c) (s.nmCh c).lastNode (s.nmCh c).heard.length).nmCh c).keeperSaid = true :=
      congrArg NmCh.keeperSaid (keeperNoted_nmCh s c)
    rw [exec_nmKeeper, opNmKeeper_of_not_due (.inr (.inl hsaid))]

end Sys2Proof.NmProofs

/-! What each command of the table changes: for each row the parts of the state its meaning may touch, the table of these parts, and the frames,
the kept queue and the kept form of memory that follow from it. -/

namespace Sys2Proof.RowFrames

open Sys2Proof Sys2Proof.Machine Sys2Proof.Laws

section

variable {s : State}

/-! ## The supplies, the power states, the clocks, the shuttles and the recorder (spec/01, 02, 18 and 19) -/

theorem opAuxLoss_keeps {mv : Nat} : Keeps [.free, .out, .mem, .supply, .clk, .wt, .links, .pwr, .rcd, .flt, .cmd, .sw, .drv, .fld, .loom, .weft,
    .can, .nm, .eth, .far, .twin, .acc, .id] s (opAuxLoss mv s) := by
  unfold opAuxLoss
  exact keeps_ite (keeps_refl _ _) (unpower_keeps (by decide) (radioStop_keeps (by decide) (onPwr_keeps (by decide) (onWt_keeps (by decide)
    (onSupply_keeps (by decide) (keeps_refl _ _))))))

theorem opSleepEntry_keeps : Keeps [.free, .out, .mem, .supply, .clk, .wt, .links, .pwr, .rcd, .flt, .cmd, .sw, .drv, .fld, .loom, .weft, .can, .nm,
    .eth, .far, .twin, .acc, .id] s (opSleepEntry s) := by
  unfold opSleepEntry
  refine keeps_ite (keeps_ite (sleepReached_keeps (by decide) (keeps_refl _ _)) (keeps_refl _ _)) ?_
  split
  · exact keeps_ite (sleepBegin_keeps (by decide) (keeps_refl _ _)) (keeps_refl _ _)
  · exact keeps_ite (sleepBegin_keeps (by decide) (keeps_refl _ _)) (keeps_refl _ _)
  · exact keeps_ite (sleepBegin_keeps (by decide) (keeps_refl _ _)) (keeps_refl _ _)
  · exact keeps_ite (sleepBegin_keeps (by decide) (keeps_refl _ _)) (keeps_refl _ _)

theorem opDeepSleepEntry_keeps : Keeps [.free, .out, .mem, .supply, .clk, .wt, .links, .pwr, .rcd, .flt, .cmd, .sw, .drv, .fld, .loom, .weft, .can,
    .nm, .eth, .far, .twin, .acc, .id] s (opDeepSleepEntry s) := by
  unfold opDeepSleepEntry
  exact keeps_ite (keeps_refl _ _) (radioEval_keeps (by decide) (onPwr_keeps (by decide) (unpower_keeps (by decide) (record_keeps (by decide)
    (keeps_refl _ _)))))

theorem opReserveEnd_keeps {mv : Nat} {wake : Bool} {m : Option Medium} : Keeps [.out, .supply, .clk, .wt, .pwr, .rcd, .flt, .cmd, .sw, .drv, .fld,
    .weft, .can, .nm, .eth, .far, .twin, .acc, .id] s (opReserveEnd mv wake m s) := by
  unfold opReserveEnd
  split
  · exact keeps_refl _ _
  · exact keeps_ite (keeps_refl _ _) (keeps_ite (onId_keeps (by decide) (wakeUp_keeps (by decide) (saveCounts_keeps (by decide) (onPwr_keeps (by
      decide) (onRcd_keeps (by decide) (commitBuffered_keeps (by decide) (onPwr_keeps (by decide) (onSupply_keeps (by decide) (recordFirst_keeps (by
      decide) (keeps_refl _ _)))))))))) (onPwr_keeps (by decide) (saveCounts_keeps (by decide) (onPwr_keeps (by decide) (onRcd_keeps (by decide)
      (commitBuffered_keeps (by decide) (onPwr_keeps (by decide) (onSupply_keeps (by decide) (recordFirst_keeps (by decide) (keeps_refl _ _))))))))))

theorem opAuxRestore_keeps : Keeps [.supply] s (opAuxRestore s) := by
  unfold opAuxRestore
  exact onSupply_keeps (by decide) (keeps_refl _ _)

theorem opVbusFault_keeps : Keeps [.supply] s (opVbusFault s) := by
  unfold opVbusFault
  exact keeps_ite (keeps_refl _ _) (onSupply_keeps (by decide) (keeps_refl _ _))

theorem opVbusRestore_keeps : Keeps [.supply] s (opVbusRestore s) := by
  unfold opVbusRestore
  exact keeps_ite (keeps_refl _ _) (onSupply_keeps (by decide) (keeps_refl _ _))

theorem opSupplyMonitorUpdate_keeps {aux a b c d : Nat} : Keeps [.supply] s (opSupplyMonitorUpdate aux a b c d s) := by
  unfold opSupplyMonitorUpdate
  exact onSupply_keeps (by decide) (keeps_refl _ _)

theorem opPwrLow_keeps {p : PwrNo} {mv : Nat} : Keeps [.supply, .rcd, .drv] s (opPwrLow p mv s) := by
  unfold opPwrLow
  exact keeps_ite (keeps_refl _ _) (railUpdate_keeps (by decide) (record_keeps (by decide) (onSupply_keeps (by decide) (keeps_refl _ _))))

theorem opPwrRestored_keeps {p : PwrNo} : Keeps [.supply, .rcd, .sw, .drv] s (opPwrRestored p s) := by
  unfold opPwrRestored
  exact keeps_ite (keeps_refl _ _) (railUpdate_keeps (by decide) (record_keeps (by decide) (offAnew_keeps (by decide) (onSupply_keeps (by decide)
    (keeps_refl _ _)))))

/-- The parts a cold start of the Keep domain writes anew. -/
def coldStartParts : List Part := [.mem, .supply, .clk, .ccfg, .wt, .links, .pwr, .rcd, .flt, .cmd, .sw, .drv, .fld, .loom, .weft, .can, .nm, .eth, .far,
  .twin, .acc, .id]

theorem opKeepColdStart_keeps {wake : Bool} {m : Option Medium} : Keeps coldStartParts s (opKeepColdStart wake m s) := by
  unfold opKeepColdStart
  refine keeps_ite (keeps_refl _ _) ?_
  extract_lets now weft cold begun sec power booted started access door watch file
  have hcold : Keeps coldStartParts s cold :=
    ⟨⟨fun p h => by cases p <;> first | exact absurd (by decide) h | rfl⟩, fun _ => rfl, Nat.le_refl _, Nat.le_refl _⟩
  have hbegun : Keeps coldStartParts s begun :=
    recorderColdStart_keeps (by decide) (rebase_keeps (by decide) (keeps_ite (fieldBegin_keeps (by decide) hcold) hcold))
  have haccess : Keeps coldStartParts s access :=
    coldAccess_keeps (by decide) (record_keeps (by decide) (wdtStart_keeps (by decide) (onPwr_keeps (by decide) hbegun)))
  have hdoor : Keeps coldStartParts s door := keeps_ite (doorEvent_keeps (by decide) haccess) haccess
  exact radioEval_keeps (by decide) (onId_keeps (by decide) hdoor)

theorem opIdleEntry_keeps : Keeps [.pwr] s (opIdleEntry s) := by
  unfold opIdleEntry
  exact keeps_ite (onPwr_keeps (by decide) (keeps_refl _ _)) (keeps_refl _ _)

theorem opIdleExit_keeps : Keeps [.pwr, .flt] s (opIdleExit s) := by
  unfold opIdleExit
  exact keeps_ite (onPwr_keeps (by decide) (idleWatch_keeps (by decide) (keeps_refl _ _))) (keeps_refl _ _)

theorem opOffEntry_keeps : Keeps [.out, .supply, .pwr, .rcd, .flt, .cmd, .sw, .drv, .fld, .can, .far, .twin, .acc] s (opOffEntry s) := by
  unfold opOffEntry
  exact keeps_ite (keeps_refl _ _) (radioEval_keeps (by decide) (onPwr_keeps (by decide) (onCan_keeps (by decide) (saveCounts_keeps (by decide)
    (onRcd_keeps (by decide) (commitBuffered_keeps (by decide) (onPwr_keeps (by decide) (record_keeps (by decide) (keeps_refl _ _)))))))))

theorem opSleepWake_keeps {source detail : Nat} : Keeps [.out, .clk, .wt, .pwr, .rcd, .flt, .sw, .drv, .fld, .weft, .can, .nm, .eth, .acc, .id] s
    (opSleepWake source detail s) := by
  unfold opSleepWake
  refine keeps_ite (keeps_refl _ _) ?_
  refine keeps_ite (keeps_ite (moduleWake_keeps (by decide) (keeps_refl _ _)) (keeps_refl _ _)) ?_
  refine keeps_ite (keeps_ite (onPwr_keeps (by decide) (keeps_refl _ _)) (keeps_refl _ _)) ?_
  refine keeps_ite ?_ (keeps_refl _ _)
  split
  · exact wakeUp_keeps (by decide) (keeps_refl _ _)
  · exact keeps_ite (wakeUp_keeps (by decide) (keeps_refl _ _)) (keeps_refl _ _)

theorem opPwrConfig_keeps {r : CmdRef} : Keeps [.out, .pwr, .rcd, .cmd, .sw, .drv, .fld, .can, .far, .twin] s (opPwrConfig r s) := by
  unfold opPwrConfig
  exact onCommand_keeps (fun c t => keeps_ite (complete_keeps (by decide) (keeps_refl _ _)) (complete_keeps (by decide) (onPwr_keeps (by decide)
    (keeps_refl _ _)))) (keeps_refl _ _)

theorem opPwrEnter_keeps {r : CmdRef} : Keeps [.out, .pwr, .rcd, .cmd, .sw, .drv, .fld, .can, .far, .twin] s (opPwrEnter r s) := by
  unfold opPwrEnter
  refine onCommand_keeps ?_ (keeps_refl _ _)
  intro c t
  dsimp only
  split
  · exact complete_keeps (by decide) (keeps_refl _ _)
  · exact keeps_ite (complete_keeps (by decide) (keeps_refl _ _)) (keeps_ite (complete_keeps (by decide) (keeps_refl _ _)) (keeps_ite (complete_keeps
      (by decide) (keeps_refl _ _)) (onPwr_keeps (by decide) (complete_keeps (by decide) (keeps_refl _ _)))))

theorem opWakeSource_keeps {r : CmdRef} : Keeps [.out, .rcd, .cmd, .sw, .drv, .fld, .can, .far, .twin] s (opWakeSource r s) := by
  unfold opWakeSource
  exact onCommand_keeps (fun c t => keeps_ite (complete_keeps (by decide) (keeps_refl _ _)) (complete_keeps (by decide) (keeps_refl _ _)))
    (keeps_refl _ _)

theorem opWakeRisingEdge_keeps : Keeps [.pwr, .flt, .acc] s (opWakeRisingEdge s) := by
  unfold opWakeRisingEdge
  exact keeps_ite (doorEvent_keeps (by decide) (serviceActive_keeps (by decide) (keeps_refl _ _))) (keeps_refl _ _)

theorem opXoStable_keeps : Keeps [.clk, .pwr, .rcd, .acc] s (opXoStable s) := by
  unfold opXoStable
  exact keeps_ite (keeps_refl _ _) (keeps_ite (onClk_keeps (by decide) (keeps_refl _ _)) (radioEval_keeps (by decide) (onClk_keeps (by decide)
    (keeps_refl _ _))))

theorem opXoPllSettled_keeps : Keeps [.clk, .pwr, .rcd, .acc] s (opXoPllSettled s) := by
  unfold opXoPllSettled
  exact keeps_ite (keeps_refl _ _) (radioEval_keeps (by decide) (setSource_keeps (by decide) (record_keeps (by decide) (onClk_keeps (by decide)
    (keeps_refl _ _)))))

theorem opXoReturn_keeps : Keeps [.clk, .pwr, .rcd, .acc] s (opXoReturn s) := by
  unfold opXoReturn
  split
  · exact keeps_refl _ _
  · exact keeps_ite (keeps_refl _ _) (radioEval_keeps (by decide) (setSource_keeps (by decide) (record_keeps (by decide) (onClk_keeps (by decide)
      (keeps_refl _ _)))))

theorem opHfoTrimConverged_keeps {trim dev : Int} : Keeps [.clk] s (opHfoTrimConverged trim dev s) := by
  unfold opHfoTrimConverged
  exact keeps_ite (keeps_refl _ _) (onClk_keeps (by decide) (keeps_refl _ _))

theorem opLfoTrimConverged_keeps {dev : Int} : Keeps [.clk] s (opLfoTrimConverged dev s) := by
  unfold opLfoTrimConverged
  exact keeps_ite (onClk_keeps (by decide) (keeps_refl _ _)) (keeps_refl _ _)

theorem opXoRetry_keeps : Keeps [.clk] s (opXoRetry s) := by
  unfold opXoRetry
  dsimp only
  split
  · exact keeps_refl _ _
  · exact keeps_ite (keeps_refl _ _) (onClk_keeps (by decide) (keeps_refl _ _))

theorem opXoFail_keeps : Keeps [.clk, .rcd, .flt] s (opXoFail s) := by
  unfold opXoFail
  exact keeps_ite (keeps_refl _ _) (fault_keeps (by decide) (onClk_keeps (by decide) (keeps_refl _ _)))

theorem opClkstuck_keeps {mux : Nat} : Keeps [.clk, .rcd, .flt] s (opClkstuck mux s) := by
  unfold opClkstuck
  exact keeps_ite (fault_keeps (by decide) (onClk_keeps (by decide) (keeps_refl _ _))) (keeps_refl _ _)

theorem opTrimSource_keeps {i : Fin 6} {sync : Nat} : Keeps [.clk, .rcd] s (opTrimSource i sync s) := by
  unfold opTrimSource
  exact keeps_ite (keeps_refl _ _) (setSource_keeps (by decide) (keeps_refl _ _))

theorem opSyncInEdge_keeps {hz : Nat} {dev : Int} : Keeps [.clk, .rcd] s (opSyncInEdge hz dev s) := by
  unfold opSyncInEdge
  refine keeps_ite ?_ (keeps_ite (measured_keeps (by decide) (keeps_refl _ _)) (keeps_refl _ _))
  dsimp only
  split
  · exact onClk_keeps (by decide) (keeps_refl _ _)
  · exact measured_keeps (by decide) (onClk_keeps (by decide) (keeps_refl _ _))

theorem opXoLoss_keeps {offFrequency : Bool} : Keeps [.clk, .pwr, .rcd, .flt, .acc] s (opXoLoss offFrequency s) := by
  unfold opXoLoss
  exact keeps_ite (keeps_ite (onClk_keeps (by decide) (keeps_refl _ _)) (keeps_refl _ _)) (radioEval_keeps (by decide) (setSource_keeps (by decide)
    (faultEvent_keeps (by decide) (onClk_keeps (by decide) (keeps_ite (keeps_refl _ _) (faultEvent_keeps (by decide) (onClk_keeps (by decide)
    (keeps_refl _ _))))))))

theorem opWarpStep_keeps {ptp : Warp} {phase : Nat} : Keeps [.wt, .rcd, .sw] s (opWarpStep ptp phase s) := by
  unfold opWarpStep
  exact keeps_ite (keeps_ite (onWt_keeps (by decide) (keeps_refl _ _)) (applyStep_keeps (by decide) (onWt_keeps (by decide) (keeps_refl _ _))))
    (keeps_refl _ _)

theorem opShuttleAck_keeps {k : LinkNo} : Keeps [.out, .links, .rcd, .flt, .cmd, .sw, .drv, .fld, .can, .far, .twin] s (opShuttleAck k s) := by
  unfold opShuttleAck
  dsimp only
  split
  · exact ackArrive_keeps (by decide) (keeps_ite (told_keeps (by decide) (keeps_refl _ _)) (keeps_refl _ _))
  · exact acked_keeps (by decide) (keeps_ite (told_keeps (by decide) (keeps_refl _ _)) (keeps_refl _ _))

theorem opShuttleRetransmit_keeps {k : LinkNo} : Keeps [.out, .links, .rcd, .flt, .cmd, .sw, .drv, .fld, .can, .far, .twin] s (opShuttleRetransmit k
    s) := by
  unfold opShuttleRetransmit
  exact onLink_keeps (by decide) (keeps_ite (keeps_refl _ _) (keeps_ite (ackArrive_keeps (by decide) (keeps_refl _ _)) (keeps_ite (told_keeps (by
    decide) (keeps_refl _ _)) (keeps_ite (fault_keeps (by decide) (keeps_refl _ _)) (keeps_refl _ _)))))

theorem opFrameMark_keeps {corr : List (Nat × Int)} {badSw badDr : Option Nat} {badHost : List Nat} : Keeps [.now, .free, .out, .clk, .wt, .links,
    .pwr, .rcd, .flt, .cmd, .sw, .drv, .fld, .loom, .weft, .can, .nm, .eth, .far, .twin, .acc] s (opFrameMark corr badSw badDr badHost s) := by
  unfold opFrameMark
  exact keeps_ite (keeps_refl _ _) (markWork_keeps (by decide) (onWt_keeps (by decide) (elapse_keeps (by decide) (keeps_refl _ _))))

theorem opRateToken_keeps : Keeps [.rcd] s (opRateToken s) := by
  unfold opRateToken
  exact keeps_ite (keeps_refl _ _) (onRcd_keeps (by decide) (keeps_refl _ _))

theorem opCounterSave_keeps : Keeps [.rcd] s (opCounterSave s) := by
  unfold opCounterSave
  exact keeps_ite (keeps_refl _ _) (onRcd_keeps (by decide) (keeps_refl _ _))

theorem opOpSecond_keeps : Keeps [.rcd, .sw] s (opOpSecond s) := by
  unfold opOpSecond
  exact keeps_ite (keeps_refl _ _) (onSw_keeps (by decide) (onRcd_keeps (by decide) (keeps_refl _ _)))

theorem opRecInfo_keeps {r : CmdRef} : Keeps [.out, .rcd, .cmd, .sw, .drv, .fld, .can, .far, .twin] s (opRecInfo r s) := by
  unfold opRecInfo
  exact onCommand_keeps (fun c t => keeps_ite (complete_keeps (by decide) (keeps_refl _ _)) (complete_keeps (by decide) (keeps_refl _ _)))
    (keeps_refl _ _)

theorem opRecAppend_keeps {r : CmdRef} : Keeps [.out, .rcd, .cmd, .sw, .drv, .fld, .can, .far, .twin] s (opRecAppend r s) := by
  unfold opRecAppend
  exact onCommand_keeps (fun c t => keeps_ite (complete_keeps (by decide) (keeps_refl _ _)) (keeps_ite (complete_keeps (by decide) (keeps_refl _ _))
    (keeps_ite (complete_keeps (by decide) (onRcd_keeps (by decide) (keeps_refl _ _))) (onRcd_keeps (by decide) (handOver_keeps (by decide)
    (keeps_refl _ _)))))) (keeps_refl _ _)

/-! ## The Loom and the weft (spec/03 and 04) -/

theorem opNop_keeps : Keeps [.out, .rcd, .flt, .cmd, .sw, .drv, .fld, .loom, .weft, .can, .far, .twin] s (opNop s) := by
  unfold opNop
  exact keeps_ite (loomRow_keeps (by decide) (fun i t => Ins_plain_keeps (by decide) (keeps_refl _ _))) (fetchFault_keeps (by decide) (keeps_refl _
    _))

theorem opCmp_keeps : Keeps [.out, .rcd, .flt, .cmd, .sw, .drv, .fld, .loom, .weft, .can, .far, .twin] s (opCmp s) := by
  unfold opCmp
  exact loomRow_keeps (by decide) (fun i t => semCompare_keeps (by decide) (keeps_refl _ _))

theorem opTst_keeps : Keeps [.out, .rcd, .flt, .cmd, .sw, .drv, .fld, .loom, .weft, .can, .far, .twin] s (opTst s) := by
  unfold opTst
  exact loomRow_keeps (by decide) (fun i t => semCompare_keeps (by decide) (keeps_refl _ _))

theorem opBtst_keeps : Keeps [.out, .rcd, .flt, .cmd, .sw, .drv, .fld, .loom, .weft, .can, .far, .twin] s (opBtst s) := by
  unfold opBtst
  exact loomRow_keeps (by decide) (fun i t => semCompare_keeps (by decide) (keeps_refl _ _))

theorem opBcc_keeps : Keeps [.out, .rcd, .flt, .cmd, .sw, .drv, .fld, .loom, .weft, .can, .far, .twin] s (opBcc s) := by
  unfold opBcc
  exact loomRow_keeps (by decide) (fun i t => semBcc_keeps (by decide) (keeps_refl _ _))

theorem opCall_keeps : Keeps [.out, .rcd, .flt, .cmd, .sw, .drv, .fld, .loom, .weft, .can, .far, .twin] s (opCall s) := by
  unfold opCall
  exact loomRow_keeps (by decide) (fun i t => semCall_keeps (by decide) (keeps_refl _ _))

theorem opRet_keeps : Keeps [.out, .rcd, .flt, .cmd, .sw, .drv, .fld, .loom, .weft, .can, .far, .twin] s (opRet s) := by
  unfold opRet
  exact loomRow_keeps (by decide) (fun i t => semRet_keeps (by decide) (keeps_refl _ _))

theorem opJmpi_keeps : Keeps [.out, .rcd, .flt, .cmd, .sw, .drv, .fld, .loom, .weft, .can, .far, .twin] s (opJmpi s) := by
  unfold opJmpi
  exact loomRow_keeps (by decide) (fun i t => semOne_keeps (by decide) (fun a b t1 h => semJmpi_keeps h) (keeps_refl _ _))

theorem opYield_keeps : Keeps [.out, .rcd, .flt, .cmd, .sw, .drv, .fld, .loom, .weft, .can, .far, .twin] s (opYield s) := by
  unfold opYield
  exact loomRow_keeps (by decide) (fun i t => keeps_refl _ _)

theorem opDone_keeps : Keeps [.out, .rcd, .flt, .cmd, .sw, .drv, .fld, .loom, .weft, .can, .far, .twin] s (opDone s) := by
  unfold opDone
  exact loomRow_keeps (by decide) (fun i t => keeps_refl _ _)

theorem opMulu_keeps : Keeps [.out, .rcd, .flt, .cmd, .sw, .drv, .fld, .loom, .weft, .can, .far, .twin] s (opMulu s) := by
  unfold opMulu
  exact loomRow_keeps (by decide) (fun i t => semMul_keeps (by decide) (keeps_refl _ _))

theorem opMuls_keeps : Keeps [.out, .rcd, .flt, .cmd, .sw, .drv, .fld, .loom, .weft, .can, .far, .twin] s (opMuls s) := by
  unfold opMuls
  exact loomRow_keeps (by decide) (fun i t => semMul_keeps (by decide) (keeps_refl _ _))

theorem opRep_keeps : Keeps [.out, .rcd, .flt, .cmd, .sw, .drv, .fld, .loom, .weft, .can, .far, .twin] s (opRep s) := by
  unfold opRep
  exact loomRow_keeps (by decide) (fun i t => semRep_keeps (by decide) (keeps_refl _ _))

theorem opRepi_keeps : Keeps [.out, .rcd, .flt, .cmd, .sw, .drv, .fld, .loom, .weft, .can, .far, .twin] s (opRepi s) := by
  unfold opRepi
  exact loomRow_keeps (by decide) (fun i t => semRep_keeps (by decide) (keeps_refl _ _))

theorem opFence_keeps : Keeps [.out, .rcd, .flt, .cmd, .sw, .drv, .fld, .loom, .weft, .can, .far, .twin] s (opFence s) := by
  unfold opFence
  exact loomRow_keeps (by decide) (fun i t => keeps_refl _ _)

theorem opWaitslot_keeps : Keeps [.out, .rcd, .flt, .cmd, .sw, .drv, .fld, .loom, .weft, .can, .far, .twin] s (opWaitslot s) := by
  unfold opWaitslot
  exact loomRow_keeps (by decide) (fun i t => semOne_keeps (by decide) (fun a b t1 h => semWaitslot_keeps (by decide) h) (keeps_refl _ _))

theorem opPuts_keeps : Keeps [.out, .rcd, .flt, .cmd, .sw, .drv, .fld, .loom, .weft, .can, .far, .twin] s (opPuts s) := by
  unfold opPuts
  exact loomRow_keeps (by decide) (fun i t => semOne_keeps (by decide) (fun a b t1 h => semPuts_keeps (by decide) h) (keeps_refl _ _))

theorem opMov_keeps : Keeps [.out, .mem, .rcd, .flt, .cmd, .sw, .drv, .fld, .loom, .weft, .can, .far, .twin] s (opMov s) := by
  unfold opMov
  exact loomRow_keeps (by decide) (fun i t => semUnary_keeps (by decide) (keeps_refl _ _))

theorem opMovsx_keeps : Keeps [.out, .mem, .rcd, .flt, .cmd, .sw, .drv, .fld, .loom, .weft, .can, .far, .twin] s (opMovsx s) := by
  unfold opMovsx
  exact loomRow_keeps (by decide) (fun i t => semUnary_keeps (by decide) (keeps_refl _ _))

theorem opLea_keeps : Keeps [.out, .mem, .rcd, .flt, .cmd, .sw, .drv, .fld, .loom, .weft, .can, .far, .twin] s (opLea s) := by
  unfold opLea
  exact loomRow_keeps (by decide) (fun i t => semLea_keeps (by decide) (keeps_refl _ _))

theorem opAdd_keeps : Keeps [.out, .mem, .rcd, .flt, .cmd, .sw, .drv, .fld, .loom, .weft, .can, .far, .twin] s (opAdd s) := by
  unfold opAdd
  exact loomRow_keeps (by decide) (fun i t => semBinary_keeps (by decide) (keeps_refl _ _))

theorem opAdc_keeps : Keeps [.out, .mem, .rcd, .flt, .cmd, .sw, .drv, .fld, .loom, .weft, .can, .far, .twin] s (opAdc s) := by
  unfold opAdc
  exact loomRow_keeps (by decide) (fun i t => semBinary_keeps (by decide) (keeps_refl _ _))

theorem opSub_keeps : Keeps [.out, .mem, .rcd, .flt, .cmd, .sw, .drv, .fld, .loom, .weft, .can, .far, .twin] s (opSub s) := by
  unfold opSub
  exact loomRow_keeps (by decide) (fun i t => semBinary_keeps (by decide) (keeps_refl _ _))

theorem opSbc_keeps : Keeps [.out, .mem, .rcd, .flt, .cmd, .sw, .drv, .fld, .loom, .weft, .can, .far, .twin] s (opSbc s) := by
  unfold opSbc
  exact loomRow_keeps (by decide) (fun i t => semBinary_keeps (by decide) (keeps_refl _ _))

theorem opAnd_keeps : Keeps [.out, .mem, .rcd, .flt, .cmd, .sw, .drv, .fld, .loom, .weft, .can, .far, .twin] s (opAnd s) := by
  unfold opAnd
  exact loomRow_keeps (by decide) (fun i t => semBinary_keeps (by decide) (keeps_refl _ _))

theorem opOr_keeps : Keeps [.out, .mem, .rcd, .flt, .cmd, .sw, .drv, .fld, .loom, .weft, .can, .far, .twin] s (opOr s) := by
  unfold opOr
  exact loomRow_keeps (by decide) (fun i t => semBinary_keeps (by decide) (keeps_refl _ _))

theorem opXor_keeps : Keeps [.out, .mem, .rcd, .flt, .cmd, .sw, .drv, .fld, .loom, .weft, .can, .far, .twin] s (opXor s) := by
  unfold opXor
  exact loomRow_keeps (by decide) (fun i t => semBinary_keeps (by decide) (keeps_refl _ _))

theorem opNot_keeps : Keeps [.out, .mem, .rcd, .flt, .cmd, .sw, .drv, .fld, .loom, .weft, .can, .far, .twin] s (opNot s) := by
  unfold opNot
  exact loomRow_keeps (by decide) (fun i t => semUnary_keeps (by decide) (keeps_refl _ _))

theorem opNeg_keeps : Keeps [.out, .mem, .rcd, .flt, .cmd, .sw, .drv, .fld, .loom, .weft, .can, .far, .twin] s (opNeg s) := by
  unfold opNeg
  exact loomRow_keeps (by decide) (fun i t => semUnary_keeps (by decide) (keeps_refl _ _))

theorem opShl_keeps : Keeps [.out, .mem, .rcd, .flt, .cmd, .sw, .drv, .fld, .loom, .weft, .can, .far, .twin] s (opShl s) := by
  unfold opShl
  exact loomRow_keeps (by decide) (fun i t => semBinary_keeps (by decide) (keeps_refl _ _))

theorem opShr_keeps : Keeps [.out, .mem, .rcd, .flt, .cmd, .sw, .drv, .fld, .loom, .weft, .can, .far, .twin] s (opShr s) := by
  unfold opShr
  exact loomRow_keeps (by decide) (fun i t => semBinary_keeps (by decide) (keeps_refl _ _))

theorem opSar_keeps : Keeps [.out, .mem, .rcd, .flt, .cmd, .sw, .drv, .fld, .loom, .weft, .can, .far, .twin] s (opSar s) := by
  unfold opSar
  exact loomRow_keeps (by decide) (fun i t => semBinary_keeps (by decide) (keeps_refl _ _))

theorem opRor_keeps : Keeps [.out, .mem, .rcd, .flt, .cmd, .sw, .drv, .fld, .loom, .weft, .can, .far, .twin] s (opRor s) := by
  unfold opRor
  exact loomRow_keeps (by decide) (fun i t => semBinary_keeps (by decide) (keeps_refl _ _))

theorem opAddm_keeps : Keeps [.out, .mem, .rcd, .flt, .cmd, .sw, .drv, .fld, .loom, .weft, .can, .far, .twin] s (opAddm s) := by
  unfold opAddm
  exact loomRow_keeps (by decide) (fun i t => semModify_keeps (by decide) (keeps_refl _ _))

theorem opSubm_keeps : Keeps [.out, .mem, .rcd, .flt, .cmd, .sw, .drv, .fld, .loom, .weft, .can, .far, .twin] s (opSubm s) := by
  unfold opSubm
  exact loomRow_keeps (by decide) (fun i t => semModify_keeps (by decide) (keeps_refl _ _))

theorem opBset_keeps : Keeps [.out, .mem, .rcd, .flt, .cmd, .sw, .drv, .fld, .loom, .weft, .can, .far, .twin] s (opBset s) := by
  unfold opBset
  exact loomRow_keeps (by decide) (fun i t => semModify_keeps (by decide) (keeps_refl _ _))

theorem opBclr_keeps : Keeps [.out, .mem, .rcd, .flt, .cmd, .sw, .drv, .fld, .loom, .weft, .can, .far, .twin] s (opBclr s) := by
  unfold opBclr
  exact loomRow_keeps (by decide) (fun i t => semModify_keeps (by decide) (keeps_refl _ _))

theorem opDadd_keeps : Keeps [.out, .mem, .rcd, .flt, .cmd, .sw, .drv, .fld, .loom, .weft, .can, .far, .twin] s (opDadd s) := by
  unfold opDadd
  exact loomRow_keeps (by decide) (fun i t => semBinary_keeps (by decide) (keeps_refl _ _))

theorem opDadc_keeps : Keeps [.out, .mem, .rcd, .flt, .cmd, .sw, .drv, .fld, .loom, .weft, .can, .far, .twin] s (opDadc s) := by
  unfold opDadc
  exact loomRow_keeps (by decide) (fun i t => semBinary_keeps (by decide) (keeps_refl _ _))

theorem opDsub_keeps : Keeps [.out, .mem, .rcd, .flt, .cmd, .sw, .drv, .fld, .loom, .weft, .can, .far, .twin] s (opDsub s) := by
  unfold opDsub
  exact loomRow_keeps (by decide) (fun i t => semBinary_keeps (by decide) (keeps_refl _ _))

theorem opDsbc_keeps : Keeps [.out, .mem, .rcd, .flt, .cmd, .sw, .drv, .fld, .loom, .weft, .can, .far, .twin] s (opDsbc s) := by
  unfold opDsbc
  exact loomRow_keeps (by decide) (fun i t => semBinary_keeps (by decide) (keeps_refl _ _))

theorem opDadj_keeps : Keeps [.out, .mem, .rcd, .flt, .cmd, .sw, .drv, .fld, .loom, .weft, .can, .far, .twin] s (opDadj s) := by
  unfold opDadj
  exact loomRow_keeps (by decide) (fun i t => semUnary_keeps (by decide) (keeps_refl _ _))

theorem opCvbd_keeps : Keeps [.out, .mem, .rcd, .flt, .cmd, .sw, .drv, .fld, .loom, .weft, .can, .far, .twin] s (opCvbd s) := by
  unfold opCvbd
  exact loomRow_keeps (by decide) (fun i t => semUnary_keeps (by decide) (keeps_refl _ _))

theorem opCvdb_keeps : Keeps [.out, .mem, .rcd, .flt, .cmd, .sw, .drv, .fld, .loom, .weft, .can, .far, .twin] s (opCvdb s) := by
  unfold opCvdb
  exact loomRow_keeps (by decide) (fun i t => semUnary_keeps (by decide) (keeps_refl _ _))

theorem opRecv_keeps : Keeps [.out, .mem, .rcd, .flt, .cmd, .sw, .drv, .fld, .loom, .weft, .can, .far, .twin] s (opRecv s) := by
  unfold opRecv
  exact loomRow_keeps (by decide) (fun i t => semRecv_keeps (by decide) (keeps_refl _ _))

theorem opGets_keeps : Keeps [.out, .mem, .rcd, .flt, .cmd, .sw, .drv, .fld, .loom, .weft, .can, .far, .twin] s (opGets s) := by
  unfold opGets
  exact loomRow_keeps (by decide) (fun i t => semGets_keeps (by decide) (keeps_refl _ _))

theorem opMulComplete_keeps : Keeps [.loom] s (opMulComplete s) := by
  unfold opMulComplete
  exact onLoom_keeps (by decide) (keeps_refl _ _)

theorem opSend_keeps : Keeps [.out, .links, .rcd, .flt, .cmd, .sw, .drv, .fld, .loom, .weft, .can, .far, .twin] s (opSend s) := by
  unfold opSend
  exact loomRow_keeps (by decide) (fun i t => semSend_keeps (by decide) (keeps_refl _ _))

theorem opLoomDataReceive_keeps {port : Fin 3} {crcOk : Bool} : Keeps [.links, .rcd, .flt, .loom] s (opLoomDataReceive port crcOk s) := by
  unfold opLoomDataReceive
  dsimp only
  split
  · exact keeps_refl _ _
  · refine keeps_ite (receiveWord_keeps (by decide) (keeps_refl _ _)) ?_
    split
    next h1 => exact keeps_of_eq h1 (receiveWord_keeps (by decide) (keeps_refl _ _))
    next h1 =>
      exact keeps_ite (onLoom_keeps (by decide) (keeps_of_eq h1 (receiveWord_keeps (by decide) (keeps_refl _ _)))) (planFault_keeps (by decide)
        (keeps_of_eq h1 (receiveWord_keeps (by decide) (keeps_refl _ _))))

theorem opSegmentStart_keeps : Keeps [.out, .rcd, .cmd, .sw, .drv, .fld, .loom, .weft, .can, .far, .twin] s (opSegmentStart s) := by
  unfold opSegmentStart
  split
  · exact keeps_refl _ _
  · split
    · exact keeps_refl _ _
    · exact keeps_ite (keeps_refl _ _) (keeps_ite (boundary_keeps (by decide) (keeps_refl _ _)) (keeps_ite (onLoom_keeps (by decide) (keeps_refl _
        _)) (onLoom_keeps (by decide) (onTask_keeps (by decide) (onLoom_keeps (by decide) (keeps_refl _ _))))))

theorem opWcet_keeps {k : Fin 64} : Keeps [.rcd, .flt, .loom, .weft] s (opWcet k s) := by
  unfold opWcet
  split
  · exact keeps_refl _ _
  · exact keeps_ite (keeps_refl _ _) (taskFault_keeps (by decide) (onTask_keeps (by decide) (keeps_refl _ _)))

theorem opDeadline_keeps {k : Fin 64} : Keeps [.rcd, .flt, .loom, .weft] s (opDeadline k s) := by
  unfold opDeadline
  split
  · exact keeps_refl _ _
  · exact keeps_ite (taskFault_keeps (by decide) (endActivation_keeps (by decide) (keeps_refl _ _))) (keeps_refl _ _)

theorem opSelvedgeCommit_keeps : Keeps [.out, .mem, .links, .rcd, .flt, .loom, .twin] s (opSelvedgeCommit s) := by
  unfold opSelvedgeCommit
  refine keeps_ite (keeps_refl _ _) ?_
  refine keeps_ite (sendWord_keeps (by decide) (sendWord_keeps (by decide) (sendWord_keeps (by decide) (sendWord_keeps (by decide) (onLoom_keeps (by
    decide) (keeps_refl _ _)))))) ?_
  dsimp only
  split
  · exact keeps_ite (writeMem_keeps (by decide) (sendLoomData_keeps (by decide) (twinDrain_keeps (by decide) (sendWord_keeps (by decide)
      (sendWord_keeps (by decide) (sendWord_keeps (by decide) (sendWord_keeps (by decide) (onLoom_keeps (by decide) (keeps_refl _ _)))))))))
      (sendLoomData_keeps (by decide) (twinDrain_keeps (by decide) (sendWord_keeps (by decide) (sendWord_keeps (by decide) (sendWord_keeps (by
      decide) (sendWord_keeps (by decide) (onLoom_keeps (by decide) (keeps_refl _ _))))))))
  · refine keeps_ite ?_ (keeps_ite (writeMem_keeps (by decide) (sendLoomData_keeps (by decide) (twinDrain_keeps (by decide) (sendWord_keeps (by
      decide) (sendWord_keeps (by decide) (sendWord_keeps (by decide) (sendWord_keeps (by decide) (onLoom_keeps (by decide) (keeps_refl _ _)))))))))
      (sendLoomData_keeps (by decide) (twinDrain_keeps (by decide) (sendWord_keeps (by decide) (sendWord_keeps (by decide) (sendWord_keeps (by
      decide) (sendWord_keeps (by decide) (onLoom_keeps (by decide) (keeps_refl _ _)))))))))
    split
    · exact writeOwnership_keeps (by decide) (onLoom_keeps (by decide) (keeps_ite (writeMem_keeps (by decide) (sendLoomData_keeps (by decide)
        (twinDrain_keeps (by decide) (sendWord_keeps (by decide) (sendWord_keeps (by decide) (sendWord_keeps (by decide) (sendWord_keeps (by decide)
        (onLoom_keeps (by decide) (keeps_refl _ _))))))))) (sendLoomData_keeps (by decide) (twinDrain_keeps (by decide) (sendWord_keeps (by decide)
        (sendWord_keeps (by decide) (sendWord_keeps (by decide) (sendWord_keeps (by decide) (onLoom_keeps (by decide) (keeps_refl _ _))))))))))
    · exact onLoom_keeps (by decide) (keeps_ite (writeMem_keeps (by decide) (sendLoomData_keeps (by decide) (twinDrain_keeps (by decide)
        (sendWord_keeps (by decide) (sendWord_keeps (by decide) (sendWord_keeps (by decide) (sendWord_keeps (by decide) (onLoom_keeps (by decide)
        (keeps_refl _ _))))))))) (sendLoomData_keeps (by decide) (twinDrain_keeps (by decide) (sendWord_keeps (by decide) (sendWord_keeps (by decide)
        (sendWord_keeps (by decide) (sendWord_keeps (by decide) (onLoom_keeps (by decide) (keeps_refl _ _)))))))))

theorem opCommitReceive_keeps {drive crcOk : Bool} : Keeps [.links, .rcd, .flt, .sw, .drv] s (opCommitReceive drive crcOk s) := by
  unfold opCommitReceive
  dsimp only
  split
  next h => exact keeps_of_eq h (receiveWord_keeps (by decide) (keeps_refl _ _))
  next h =>
    exact sendWord_keeps (by decide) (keeps_ite (onDrv_keeps (by decide) (keeps_of_eq h (receiveWord_keeps (by decide) (keeps_refl _ _))))
      (onSw_keeps (by decide) (keeps_of_eq h (receiveWord_keeps (by decide) (keeps_refl _ _)))))

theorem opHeartbeatReceive_keeps {drive host crcOk : Bool} : Keeps [.out, .links, .rcd, .flt, .cmd, .sw, .drv, .fld, .can, .far, .twin] s
    (opHeartbeatReceive drive host crcOk s) := by
  unfold opHeartbeatReceive
  exact heartbeat_keeps (by decide) (keeps_refl _ _)

theorem opCommandDue_keeps {object : Nat} {checkOk : Bool} : Keeps [.free, .out, .rcd, .flt, .cmd, .sw, .drv, .fld, .can, .far, .twin] s
    (opCommandDue object checkOk s) := by
  unfold opCommandDue
  split
  · exact switchDue_keeps (by decide) (keeps_refl _ _)
  · split
    · exact driveDue_keeps (by decide) (keeps_refl _ _)
    · exact keeps_refl _ _

theorem opWeftLoadBegin_keeps {r : CmdRef} : Keeps [.out, .rcd, .cmd, .sw, .drv, .fld, .can, .far, .twin] s (opWeftLoadBegin r s) := by
  unfold opWeftLoadBegin
  exact onCommand_keeps (fun c t => keeps_ite (complete_keeps (by decide) (keeps_refl _ _)) (keeps_ite (complete_keeps (by decide) (keeps_refl _ _))
    (keeps_ite (complete_keeps (by decide) (keeps_refl _ _)) (complete_keeps (by decide) (onCmd_keeps (by decide) (keeps_refl _ _)))))) (keeps_refl _
    _)

theorem opWeftCommit_keeps {r : CmdRef} : Keeps [.free, .out, .mem, .rcd, .cmd, .sw, .drv, .fld, .weft, .can, .far, .twin] s (opWeftCommit r s) := by
  unfold opWeftCommit
  refine onCommand_keeps ?_ (keeps_refl _ _)
  intro c t
  refine keeps_ite ?_ ?_
  · dsimp only
    exact complete_keeps (by decide) (freeReason_keeps (by decide) (onCmd_keeps (by decide) (keeps_refl _ _)))
  · split
    · exact refuseWeft_keeps (by decide) (keeps_refl _ _)
    · refine keeps_ite (refuseWeft_keeps (by decide) (onCmd_keeps (by decide) (keeps_refl _ _))) ?_
      split
      · exact refuseWeft_keeps (by decide) (onCmd_keeps (by decide) (keeps_refl _ _))
      · exact keeps_ite (onTwin_keeps (by decide) (sendWeft_keeps (by decide) (handOver_keeps (by decide) (onCmd_keeps (by decide) (keeps_refl _
          _))))) (complete_keeps (by decide) (installWeft_keeps (by decide) (onCmd_keeps (by decide) (keeps_refl _ _))))

theorem opWeftSwap_keeps {r : CmdRef} : Keeps [.free, .out, .mem, .rcd, .cmd, .sw, .drv, .fld, .weft, .can, .far, .twin] s (opWeftSwap r s) := by
  unfold opWeftSwap
  refine onCommand_keeps ?_ (keeps_refl _ _)
  intro c t
  refine keeps_ite ?_ ?_
  · split
    next h => exact complete_keeps (by decide) (keeps_of_eq h (freeReason_keeps (by decide) (keeps_refl _ _)))
  · split
    · exact complete_keeps (by decide) (keeps_refl _ _)
    · exact beginSwap_keeps (by decide) (handOver_keeps (by decide) (keeps_refl _ _))

theorem opOwnershipEvaluation_keeps : Keeps [.free, .out, .mem, .rcd, .cmd, .sw, .drv, .fld, .weft, .can, .far, .twin] s (opOwnershipEvaluation s) :=
    by
  unfold opOwnershipEvaluation
  split
  · exact keeps_ite (evalStart_keeps (by decide) (keeps_refl _ _)) (keeps_refl _ _)
  · split
    · exact keeps_ite (evalSwap_keeps (by decide) (keeps_refl _ _)) (keeps_refl _ _)
    · exact keeps_refl _ _

theorem opWeftStart_keeps {r : CmdRef} : Keeps [.out, .mem, .wt, .rcd, .cmd, .sw, .drv, .fld, .loom, .weft, .can, .far, .twin] s (opWeftStart r s) :=
    by
  unfold opWeftStart
  refine onCommand_keeps ?_ (keeps_refl _ _)
  intro c t
  refine keeps_ite (complete_keeps (by decide) (keeps_refl _ _)) ?_
  split
  next h => exact keeps_of_eq h (doStart_keeps (by decide) (handOver_keeps (by decide) (keeps_refl _ _)))
  next h => exact complete_keeps (by decide) (keeps_of_eq h (doStart_keeps (by decide) (handOver_keeps (by decide) (keeps_refl _ _))))

theorem opWeftStop_keeps {r : CmdRef} : Keeps [.out, .rcd, .cmd, .sw, .drv, .fld, .weft, .can, .far, .twin] s (opWeftStop r s) := by
  unfold opWeftStop
  refine onCommand_keeps ?_ (keeps_refl _ _)
  intro c t
  refine keeps_ite (complete_keeps (by decide) (keeps_refl _ _)) ?_
  split
  next h => exact keeps_of_eq h (doStop_keeps (by decide) (handOver_keeps (by decide) (keeps_refl _ _)))
  next h => exact complete_keeps (by decide) (keeps_of_eq h (doStop_keeps (by decide) (handOver_keeps (by decide) (keeps_refl _ _))))

theorem opWeftAutostart_keeps : Keeps [.free, .mem, .wt, .rcd, .sw, .loom, .weft] s (opWeftAutostart s) := by
  unfold opWeftAutostart
  refine keeps_ite (keeps_refl _ _) ?_
  split
  · exact onWeft_keeps (by decide) (keeps_refl _ _)
  · split
    · exact keeps_refl _ _
    · split
      · split
        next h3 => exact restartFails_keeps (by decide) (keeps_of_eq h3 (detailOf_keeps (by decide) (keeps_refl _ _)))
      · split
        · exact restartFails_keeps (by decide) (keeps_refl _ _)
        · exact beginStart_keeps (by decide) (onWeft_keeps (by decide) (keeps_refl _ _))

theorem opWeftStarted_keeps : Keeps [.out, .rcd, .cmd, .sw, .drv, .fld, .loom, .weft, .can, .nm, .eth, .far, .twin] s (opWeftStarted s) := by
  unfold opWeftStarted
  split
  · exact keeps_refl _ _
  · refine keeps_ite (keeps_refl _ _) ?_
    refine nmEval_keeps (by decide) ?_
    split
    · exact completeId_keeps (by decide) (record_keeps (by decide) (weftMark_keeps (by decide) (onTwin_keeps (by decide) (onWeft_keeps (by decide)
        (keeps_refl _ _)))))
    · exact record_keeps (by decide) (weftMark_keeps (by decide) (onTwin_keeps (by decide) (onWeft_keeps (by decide) (keeps_refl _ _))))

theorem opWeftStopped_keeps : Keeps [.free, .out, .rcd, .cmd, .sw, .drv, .fld, .loom, .weft, .can, .nm, .eth, .far, .twin] s (opWeftStopped s) := by
  unfold opWeftStopped
  split
  · refine keeps_ite (keeps_refl _ _) ?_
    refine nmEval_keeps (by decide) ?_
    split
    · exact completeId_keeps (by decide) (record_keeps (by decide) (keeps_ite (weftToHost_keeps (by decide) (onLoom_keeps (by decide) (onWeft_keeps
        (by decide) (endSwap_keeps (by decide) (keeps_refl _ _))))) (acOrphanEvent_keeps (by decide) (orphanEvent_keeps (by decide) (onLoom_keeps (by
        decide) (onWeft_keeps (by decide) (endSwap_keeps (by decide) (keeps_refl _ _))))))))
    · exact record_keeps (by decide) (keeps_ite (weftToHost_keeps (by decide) (onLoom_keeps (by decide) (onWeft_keeps (by decide) (endSwap_keeps (by
        decide) (keeps_refl _ _))))) (acOrphanEvent_keeps (by decide) (orphanEvent_keeps (by decide) (onLoom_keeps (by decide) (onWeft_keeps (by
        decide) (endSwap_keeps (by decide) (keeps_refl _ _)))))))
  · exact keeps_refl _ _

theorem opWeftSwapped_keeps : Keeps [.free, .out, .rcd, .cmd, .sw, .drv, .fld, .loom, .weft, .can, .far, .twin] s (opWeftSwapped s) := by
  unfold opWeftSwapped
  split
  · split
    · exact keeps_refl _ _
    · refine keeps_ite (keeps_refl _ _) ?_
      dsimp only
      split
      · exact completeId_keeps (by decide) (record_keeps (by decide) (weftMark_keeps (by decide) (onTwin_keeps (by decide) (keeps_forEach (fun x6 t
          => actToWeft_keeps (by decide) (keeps_refl _ _)) (keeps_forEach (fun x6 t => chanToWeft_keeps (by decide) (keeps_refl _ _))
          (acOrphanEvent_keeps (by decide) (orphanEvent_keeps (by decide) (onWeft_keeps (by decide) (keeps_refl _ _)))))))))
      · exact record_keeps (by decide) (weftMark_keeps (by decide) (onTwin_keeps (by decide) (keeps_forEach (fun x6 t => actToWeft_keeps (by decide)
          (keeps_refl _ _)) (keeps_forEach (fun x6 t => chanToWeft_keeps (by decide) (keeps_refl _ _)) (acOrphanEvent_keeps (by decide)
          (orphanEvent_keeps (by decide) (onWeft_keeps (by decide) (keeps_refl _ _))))))))
  · exact keeps_refl _ _

/-! ## The switch island (spec/05 and 06) -/

theorem opSwitchCmd_keeps {crcOk : Bool} : Keeps [.links, .rcd, .flt, .sw] s (opSwitchCmd crcOk s) := by
  unfold opSwitchCmd
  split
  next h => exact keeps_of_eq h (receiveWord_keeps (by decide) (keeps_refl _ _))
  next h =>
    dsimp only
    split
    · exact switchInvalid_keeps (by decide) (onSw_keeps (by decide) (keeps_of_eq h (receiveWord_keeps (by decide) (keeps_refl _ _))))
    · refine keeps_ite (onSw_keeps (by decide) (keeps_of_eq h (receiveWord_keeps (by decide) (keeps_refl _ _)))) ?_
      refine keeps_ite (islandPlanFault_keeps (by decide) (onSw_keeps (by decide) (keeps_of_eq h (receiveWord_keeps (by decide) (keeps_refl _ _)))))
        ?_
      split
      · exact switchInvalid_keeps (by decide) (onSw_keeps (by decide) (keeps_of_eq h (receiveWord_keeps (by decide) (keeps_refl _ _))))
      · exact keeps_ite (switchInvalid_keeps (by decide) (onSw_keeps (by decide) (keeps_of_eq h (receiveWord_keeps (by decide) (keeps_refl _ _)))))
          (onChan_keeps (by decide) (onSw_keeps (by decide) (keeps_of_eq h (receiveWord_keeps (by decide) (keeps_refl _ _)))))

theorem opSwitchReadRequest_keeps {crcOk : Bool} : Keeps [.links, .rcd, .flt] s (opSwitchReadRequest crcOk s) := by
  unfold opSwitchReadRequest
  split
  next h => exact keeps_of_eq h (receiveWord_keeps (by decide) (keeps_refl _ _))
  next h =>
    dsimp only
    split
    · exact sendWord_keeps (by decide) (keeps_of_eq h (receiveWord_keeps (by decide) (keeps_refl _ _)))
    · exact switchInvalid_keeps (by decide) (sendWord_keeps (by decide) (keeps_of_eq h (receiveWord_keeps (by decide) (keeps_refl _ _))))

theorem opPwmPeriodStart_keeps {c : ChNo} : Keeps [.sw] s (opPwmPeriodStart c s) := by
  unfold opPwmPeriodStart
  exact keeps_ite (keeps_refl _ _) (rephase_keeps (by decide) (onChan_keeps (by decide) (onChan_keeps (by decide) (keeps_refl _ _))))

theorem opPwmOffEdge_keeps {c : ChNo} : Keeps [.sw] s (opPwmOffEdge c s) := by
  unfold opPwmOffEdge
  split
  · exact keeps_refl _ _
  · exact keeps_ite (onChan_keeps (by decide) (keeps_refl _ _)) (keeps_refl _ _)

theorem opPulseEnd_keeps {c : ChNo} : Keeps [.sw] s (opPulseEnd c s) := by
  unfold opPulseEnd
  exact keeps_ite (onChan_keeps (by decide) (enter_keeps (by decide) (keeps_refl _ _))) (keeps_refl _ _)

theorem opProfileSegmentEnd_keeps {c : ChNo} : Keeps [.sw] s (opProfileSegmentEnd c s) := by
  unfold opProfileSegmentEnd
  exact keeps_ite (keeps_refl _ _) (onChan_keeps (by decide) (keeps_refl _ _))

theorem opPeakReset_keeps {c : ChNo} : Keeps [.sw] s (opPeakReset c s) := by
  unfold opPeakReset
  exact onChan_keeps (by decide) (keeps_refl _ _)

theorem opRetryWindowExpiry_keeps {c : ChNo} : Keeps [.sw] s (opRetryWindowExpiry c s) := by
  unfold opRetryWindowExpiry
  exact keeps_ite (onChan_keeps (by decide) (keeps_refl _ _)) (keeps_refl _ _)

theorem opPgPeriodWrite_keeps {g : Fin 4} {v : Nat} : Keeps [.sw] s (opPgPeriodWrite g v s) := by
  unfold opPgPeriodWrite
  exact writePg_keeps (by decide) (keeps_refl _ _)

theorem opEnvelopeEventClose_keeps {p : PwrNo} : Keeps [.sw] s (opEnvelopeEventClose p s) := by
  unfold opEnvelopeEventClose
  exact keeps_ite (onGuard_keeps (by decide) (keeps_refl _ _)) (keeps_refl _ _)

theorem opScanSample_keeps {c : ChNo} {mA fine : Nat} {tj : Int} {dSum : Nat} : Keeps [.supply, .sw] s (opScanSample c mA fine tj dSum s) := by
  unfold opScanSample
  exact keeps_ite (keeps_refl _ _) (keeps_ite (judgeSum_keeps (by decide) (onSupply_keeps (by decide) (scanSum_keeps (by decide) (onSw_keeps (by
    decide) (onChan_keeps (by decide) (keeps_refl _ _)))))) (scanSum_keeps (by decide) (onSw_keeps (by decide) (onChan_keeps (by decide) (keeps_refl
    _ _)))))

theorem opOrphanEnter_keeps {host : Bool} : Keeps [.rcd, .sw] s (opOrphanEnter host s) := by
  unfold opOrphanEnter
  exact keeps_ite (keeps_refl _ _) (orphanEvent_keeps (by decide) (keeps_refl _ _))

theorem opOpenLoadOnDetect_keeps {c : ChNo} : Keeps [.rcd, .sw] s (opOpenLoadOnDetect c s) := by
  unfold opOpenLoadOnDetect
  dsimp only
  split
  · exact keeps_refl _ _
  · exact keeps_ite (keeps_refl _ _) (record_keeps (by decide) (onChan_keeps (by decide) (keeps_refl _ _)))

theorem opLoadReturnedOn_keeps {c : ChNo} : Keeps [.rcd, .sw] s (opLoadReturnedOn c s) := by
  unfold opLoadReturnedOn
  dsimp only
  split
  · exact keeps_refl _ _
  · exact keeps_ite (keeps_refl _ _) (record_keeps (by decide) (onChan_keeps (by decide) (keeps_refl _ _)))

theorem opPauseExpiry_keeps {c : ChNo} {tj : Int} : Keeps [.rcd, .sw] s (opPauseExpiry c tj s) := by
  unfold opPauseExpiry
  split
  · exact keeps_ite (keeps_refl _ _) (keeps_ite (restart_keeps (by decide) (onChan_keeps (by decide) (keeps_refl _ _))) (onChan_keeps (by decide)
      (onChan_keeps (by decide) (keeps_refl _ _))))
  · exact keeps_refl _ _

theorem opOpenLoadOffDetect_keeps {c : ChNo} {mv : Nat} : Keeps [.rcd, .sw] s (opOpenLoadOffDetect c mv s) := by
  unfold opOpenLoadOffDetect
  exact keeps_ite (record_keeps (by decide) (onChan_keeps (by decide) (keeps_refl _ _))) (keeps_refl _ _)

theorem opLoadReturnedOff_keeps {c : ChNo} {mv : Nat} : Keeps [.rcd, .sw] s (opLoadReturnedOff c mv s) := by
  unfold opLoadReturnedOff
  exact keeps_ite (record_keeps (by decide) (onChan_keeps (by decide) (keeps_refl _ _))) (keeps_refl _ _)

theorem opShed_keeps {p : PwrNo} : Keeps [.rcd, .sw] s (opShed p s) := by
  unfold opShed
  exact keeps_ite (keeps_refl _ _) (keeps_ite (guardShed_keeps (by decide) (keeps_refl _ _)) (onGuard_keeps (by decide) (keeps_refl _ _)))

theorem resetSwitch_keeps : Keeps [.out, .mem, .supply, .clk, .links, .rcd, .flt, .cmd, .sw, .drv, .fld, .can, .far, .twin] s
    (s.resetIsland 4) :=
  opSwitchReset_keeps (by decide) (wdtStart_keeps (by decide) (onClk_keeps (by decide) (resetLinks_keeps (by decide) (serviceDrain_keeps (by decide)
    (keeps_refl _ _)))))

theorem opShortTrip_keeps {c : ChNo} {mA : Nat} : Keeps [.rcd, .flt, .sw] s (opShortTrip c mA s) := by
  unfold opShortTrip
  exact keeps_ite (keeps_refl _ _) (keeps_ite (sleepTrip_keeps (by decide) (keeps_refl _ _)) (afterTrip_keeps (by decide) (record_keeps (by decide)
    (onChan_keeps (by decide) (countTrip_keeps (by decide) (keeps_refl _ _))))))

theorem opOvercurrentTrip_keeps {c : ChNo} : Keeps [.rcd, .flt, .sw] s (opOvercurrentTrip c s) := by
  unfold opOvercurrentTrip
  exact keeps_ite (keeps_refl _ _) (afterTrip_keeps (by decide) (record_keeps (by decide) (onChan_keeps (by decide) (countTrip_keeps (by decide)
    (keeps_refl _ _)))))

theorem opCoolingLimit_keeps {c : ChNo} : Keeps [.rcd, .flt, .sw] s (opCoolingLimit c s) := by
  unfold opCoolingLimit
  split
  · exact keeps_ite (keeps_refl _ _) (coolingLatch_keeps (by decide) (keeps_refl _ _))
  · exact keeps_refl _ _

theorem opThermalShutdown_keeps {c : ChNo} {tj : Int} : Keeps [.rcd, .flt, .sw] s (opThermalShutdown c tj s) := by
  unfold opThermalShutdown
  exact keeps_ite (onChan_keeps (by decide) (keeps_refl _ _)) (keeps_ite (sleepTrip_keeps (by decide) (onChan_keeps (by decide) (keeps_refl _ _)))
    (afterTrip_keeps (by decide) (record_keeps (by decide) (onChan_keeps (by decide) (countTrip_keeps (by decide) (onChan_keeps (by decide)
    (keeps_refl _ _)))))))

theorem opCoolingRestart_keeps {c : ChNo} {tj : Int} : Keeps [.rcd, .flt, .sw] s (opCoolingRestart c tj s) := by
  unfold opCoolingRestart
  split
  · exact keeps_ite (keeps_refl _ _) (keeps_ite (onChan_keeps (by decide) (keeps_refl _ _)) (keeps_ite (coolingLatch_keeps (by decide) (onChan_keeps
      (by decide) (keeps_refl _ _))) (restart_keeps (by decide) (onChan_keeps (by decide) (keeps_refl _ _)))))
  · exact keeps_refl _ _

theorem opEnvelopeEvent_keeps {p : PwrNo} : Keeps [.rcd, .flt, .sw, .drv] s (opEnvelopeEvent p s) := by
  unfold opEnvelopeEvent
  dsimp only
  split
  · exact keeps_refl _ _
  · exact keeps_ite (keeps_refl _ _) (keeps_ite (railUpdate_keeps (by decide) (onGuard_keeps (by decide) (fault_keeps (by decide) (onSw_keeps (by
      decide) (onGuard_keeps (by decide) (keeps_refl _ _)))))) (guardShed_keeps (by decide) (fault_keeps (by decide) (onSw_keeps (by decide)
      (onGuard_keeps (by decide) (keeps_refl _ _))))))

theorem opRechargeResume_keeps : Keeps [.sw, .drv] s (opRechargeResume s) := by
  unfold opRechargeResume
  dsimp only
  split
  · exact keeps_refl _ _
  · exact keeps_ite (railUpdate_keeps (by decide) (onGuard_keeps (by decide) (keeps_refl _ _))) (keeps_refl _ _)

theorem opSwClearLatch_keeps {r : CmdRef} : Keeps [.out, .rcd, .cmd, .sw, .drv, .fld, .can, .far, .twin] s (opSwClearLatch r s) := by
  unfold opSwClearLatch
  refine onCommand_keeps ?_ (keeps_refl _ _)
  intro c t
  split
  · exact complete_keeps (by decide) (keeps_refl _ _)
  · exact keeps_ite (complete_keeps (by decide) (keeps_refl _ _)) (keeps_ite (complete_keeps (by decide) (record_keeps (by decide) (rephase_keeps (by
      decide) (onChan_keeps (by decide) (keeps_refl _ _))))) (complete_keeps (by decide) (keeps_refl _ _)))

theorem opAdmitLimit_keeps {c : ChNo} : Keeps [.out, .rcd, .cmd, .sw, .drv, .fld, .can, .far, .twin] s (opAdmitLimit c s) := by
  unfold opAdmitLimit
  split
  · exact keeps_refl _ _
  · split
    · exact keeps_refl _ _
    · exact keeps_ite (keeps_refl _ _) (completeId_keeps (by decide) (record_keeps (by decide) (popWaiting_keeps (by decide) (keeps_refl _ _))))

theorem opSwGet_keeps {r : CmdRef} : Keeps [.out, .rcd, .cmd, .sw, .drv, .fld, .can, .far, .twin] s (opSwGet r s) := by
  unfold opSwGet
  refine onCommand_keeps ?_ (keeps_refl _ _)
  intro c t
  split
  · exact complete_keeps (by decide) (keeps_refl _ _)
  · exact keeps_ite (complete_keeps (by decide) (keeps_refl _ _)) (complete_keeps (by decide) (keeps_refl _ _))

theorem opSwConfig_keeps {r : CmdRef} : Keeps [.out, .rcd, .cmd, .sw, .drv, .fld, .can, .far, .twin] s (opSwConfig r s) := by
  unfold opSwConfig
  refine onCommand_keeps ?_ (keeps_refl _ _)
  intro c t
  dsimp only
  split
  · exact complete_keeps (by decide) (keeps_refl _ _)
  · refine keeps_ite (complete_keeps (by decide) (keeps_refl _ _)) ?_
    split
    · exact complete_keeps (by decide) (chDenied_keeps (by decide) (keeps_refl _ _))
    · exact keeps_ite (complete_keeps (by decide) (chDenied_keeps (by decide) (keeps_refl _ _))) (complete_keeps (by decide) (configure_keeps (by
        decide) (keeps_refl _ _)))

theorem opSwAdopt_keeps {r : CmdRef} : Keeps [.out, .rcd, .cmd, .sw, .drv, .fld, .can, .far, .twin] s (opSwAdopt r s) := by
  unfold opSwAdopt
  exact onCommand_keeps (fun c t => keeps_ite (complete_keeps (by decide) (keeps_refl _ _)) (keeps_ite (complete_keeps (by decide) (keeps_refl _ _))
    (onSw_keeps (by decide) (handOver_keeps (by decide) (keeps_refl _ _))))) (keeps_refl _ _)

theorem opSwSet_keeps {r : CmdRef} : Keeps [.out, .links, .rcd, .cmd, .sw, .drv, .fld, .can, .far, .twin] s (opSwSet r s) := by
  unfold opSwSet
  refine onCommand_keeps ?_ (keeps_refl _ _)
  intro c t
  dsimp only
  split
  · exact keeps_ite (complete_keeps (by decide) (keeps_refl _ _)) (keeps_ite (complete_keeps (by decide) (keeps_refl _ _)) (keeps_ite (complete_keeps
      (by decide) (keeps_refl _ _)) (keeps_ite (complete_keeps (by decide) (keeps_refl _ _)) (keeps_ite (complete_keeps (by decide) (keeps_refl _ _))
      (keeps_ite (complete_keeps (by decide) (keeps_refl _ _)) (sendWord_keeps (by decide) (handOver_keeps (by decide) (keeps_refl _ _))))))))
  · exact complete_keeps (by decide) (keeps_refl _ _)

theorem opThermalBudgetEval_keeps {base : Int} : Keeps [.supply, .rcd, .flt, .sw, .drv] s (opThermalBudgetEval base s) := by
  unfold opThermalBudgetEval
  refine keeps_ite (keeps_refl _ _) ?_
  dsimp only
  split
  · exact keeps_ite (fault_keeps (by decide) (onSw_keeps (by decide) (evalDiss_keeps (by decide) (keeps_refl _ _)))) (evalDiss_keeps (by decide)
      (keeps_refl _ _))
  · exact keeps_ite (record_keeps (by decide) (onSw_keeps (by decide) (evalDiss_keeps (by decide) (keeps_refl _ _)))) (evalDiss_keeps (by decide)
      (keeps_refl _ _))

theorem opThermalShedStart_keeps : Keeps [.rcd, .flt, .sw] s (opThermalShedStart s) := by
  unfold opThermalShedStart
  exact keeps_ite (keeps_refl _ _) (fault_keeps (by decide) (onSw_keeps (by decide) (keeps_refl _ _)))

theorem opThermalShed_keeps : Keeps [.rcd, .sw] s (opThermalShed s) := by
  unfold opThermalShed
  split
  · exact keeps_refl _ _
  · refine keeps_ite (keeps_refl _ _) ?_
    refine keeps_ite (onSw_keeps (by decide) (keeps_refl _ _)) ?_
    dsimp only
    split
    · exact onSw_keeps (by decide) (keeps_refl _ _)
    · exact shed_keeps (by decide) (onSw_keeps (by decide) (keeps_refl _ _))

/-! ## The drive and the field island (spec/07 to 09) -/

theorem opVboostReady_keeps {mv : Nat} : Keeps [.drv] s (opVboostReady mv s) := by
  unfold opVboostReady
  exact setVboost_keeps (by decide) (keeps_refl _ _)

theorem opVboostOv_keeps {mv : Nat} : Keeps [.drv] s (opVboostOv mv s) := by
  unfold opVboostOv
  exact setVboost_keeps (by decide) (keeps_refl _ _)

theorem opVboostAtVbSet_keeps {mv : Nat} : Keeps [.drv] s (opVboostAtVbSet mv s) := by
  unfold opVboostAtVbSet
  exact setVboost_keeps (by decide) (keeps_refl _ _)

theorem opBoostGrant_keeps {c : AcNo} : Keeps [.drv] s (opBoostGrant c s) := by
  unfold opBoostGrant
  exact keeps_ite (grant_keeps (by decide) (keeps_refl _ _)) (keeps_refl _ _)

theorem opDecayEnd_keeps {c : AcNo} : Keeps [.drv] s (opDecayEnd c s) := by
  unfold opDecayEnd
  dsimp only
  split
  · exact keeps_refl _ _
  · exact keeps_ite (onCoil_keeps (by decide) (keeps_refl _ _)) (keeps_refl _ _)

theorem opFreewheelLatchExpiry_keeps {c : AcNo} : Keeps [.drv] s (opFreewheelLatchExpiry c s) := by
  unfold opFreewheelLatchExpiry
  split
  · exact keeps_refl _ _
  · exact keeps_ite (keeps_refl _ _) (onCoil_keeps (by decide) (keeps_refl _ _))

theorem opClearLearned_keeps {c : AcNo} : Keeps [.drv] s (opClearLearned c s) := by
  unfold opClearLearned
  exact onCoil_keeps (by decide) (keeps_refl _ _)

theorem opBankOverloadClear_keeps {b : BankNo} {mean : Nat} : Keeps [.drv] s (opBankOverloadClear b mean s) := by
  unfold opBankOverloadClear
  exact keeps_ite (bankMean_keeps (by decide) (keeps_refl _ _)) (onBank_keeps (by decide) (bankMean_keeps (by decide) (keeps_refl _ _)))

theorem opBoostFail_keeps {mv : Nat} : Keeps [.rcd, .flt, .drv] s (opBoostFail mv s) := by
  unfold opBoostFail
  dsimp only
  split
  · exact setVboost_keeps (by decide) (keeps_refl _ _)
  · exact keeps_ite (setVboost_keeps (by decide) (keeps_refl _ _)) (fault_keeps (by decide) (onDrv_keeps (by decide) (setVboost_keeps (by decide)
      (keeps_refl _ _))))

theorem opHoldUnreachable_keeps {c : AcNo} : Keeps [.rcd, .flt, .drv] s (opHoldUnreachable c s) := by
  unfold opHoldUnreachable
  dsimp only
  split
  · exact keeps_ite (keeps_refl _ _) (raiseDiag_keeps (by decide) (onCoil_keeps (by decide) (keeps_refl _ _)))
  · exact keeps_refl _ _

theorem opBankOverload_keeps {b : BankNo} {mean : Nat} : Keeps [.rcd, .flt, .drv] s (opBankOverload b mean s) := by
  unfold opBankOverload
  exact keeps_ite (bankMean_keeps (by decide) (keeps_refl _ _)) (fault_keeps (by decide) (onBank_keeps (by decide) (bankMean_keeps (by decide)
    (keeps_refl _ _))))

theorem opBoostCut_keeps {c : AcNo} {mJ mA : Nat} : Keeps [.rcd, .drv] s (opBoostCut c mJ mA s) := by
  unfold opBoostCut
  exact keeps_ite (keeps_refl _ _) (record_keeps (by decide) (settle_keeps (by decide) (onCoil_keeps (by decide) (dropBoost_keeps (by decide)
    (keeps_refl _ _)))))

theorem opActuatorFire_keeps {c : AcNo} : Keeps [.free, .out, .rcd, .flt, .cmd, .sw, .drv, .fld, .can, .far, .twin] s (opActuatorFire c s) := by
  unfold opActuatorFire
  split
  · exact keeps_refl _ _
  · exact keeps_ite (driveDue_keeps (by decide) (keeps_refl _ _)) (keeps_refl _ _)

theorem opActuatorRelease_keeps {c : AcNo} : Keeps [.free, .out, .rcd, .flt, .cmd, .sw, .drv, .fld, .can, .far, .twin] s (opActuatorRelease c s) := by
  unfold opActuatorRelease
  split
  · exact keeps_refl _ _
  · exact keeps_ite (driveDue_keeps (by decide) (keeps_refl _ _)) (keeps_refl _ _)

theorem opOpenCoil_keeps {c : AcNo} : Keeps [.free, .out, .rcd, .flt, .cmd, .sw, .drv, .fld, .can, .far, .twin] s (opOpenCoil c s) := by
  unfold opOpenCoil
  split
  · exact keeps_refl _ _
  · exact keeps_ite (keeps_refl _ _) (acRelease_keeps (by decide) (raiseDiag_keeps (by decide) (keeps_refl _ _)))

theorem opControlUpdate_keeps {c : AcNo} {mA : Nat} {u : Int} {vb mJ : Nat} : Keeps [.free, .out, .rcd, .flt, .cmd, .sw, .drv, .fld, .can, .far,
    .twin] s (opControlUpdate c mA u vb mJ s) := by
  unfold opControlUpdate
  exact keeps_ite (keeps_refl _ _) (resumeOther_keeps (by decide) (endUpdate_keeps (by decide) (engineUpdate_keeps (by decide)
    (opBankDeferExpiry_keeps (by decide) (keeps_ite (acOrphanRelease_keeps (by decide) (keeps_ite (driveDue_keeps (by decide) (keeps_ite
    (takeDropout_keeps (by decide) (onCoil_keeps (by decide) (setVboost_keeps (by decide) (keeps_refl _ _)))) (keeps_ite (takeKink_keeps (by decide)
    (onCoil_keeps (by decide) (setVboost_keeps (by decide) (keeps_refl _ _)))) (onCoil_keeps (by decide) (setVboost_keeps (by decide) (keeps_refl _
    _)))))) (keeps_ite (takeDropout_keeps (by decide) (onCoil_keeps (by decide) (setVboost_keeps (by decide) (keeps_refl _ _)))) (keeps_ite
    (takeKink_keeps (by decide) (onCoil_keeps (by decide) (setVboost_keeps (by decide) (keeps_refl _ _)))) (onCoil_keeps (by decide) (setVboost_keeps
    (by decide) (keeps_refl _ _))))))) (keeps_ite (driveDue_keeps (by decide) (keeps_ite (takeDropout_keeps (by decide) (onCoil_keeps (by decide)
    (setVboost_keeps (by decide) (keeps_refl _ _)))) (keeps_ite (takeKink_keeps (by decide) (onCoil_keeps (by decide) (setVboost_keeps (by decide)
    (keeps_refl _ _)))) (onCoil_keeps (by decide) (setVboost_keeps (by decide) (keeps_refl _ _)))))) (keeps_ite (takeDropout_keeps (by decide)
    (onCoil_keeps (by decide) (setVboost_keeps (by decide) (keeps_refl _ _)))) (keeps_ite (takeKink_keeps (by decide) (onCoil_keeps (by decide)
    (setVboost_keeps (by decide) (keeps_refl _ _)))) (onCoil_keeps (by decide) (setVboost_keeps (by decide) (keeps_refl _ _)))))))))))

theorem opShortedCoil_keeps {c : AcNo} {mA : Nat} : Keeps [.free, .out, .rcd, .flt, .cmd, .sw, .drv, .fld, .can, .far, .twin] s (opShortedCoil c mA
    s) := by
  unfold opShortedCoil
  exact keeps_ite (keeps_refl _ _) (acRelease_keeps (by decide) (raiseDiag_keeps (by decide) (keeps_refl _ _)))

theorem opBankFault_keeps {b : BankNo} {released : Bool} {mA : Nat} : Keeps [.free, .out, .rcd, .flt, .cmd, .sw, .drv, .fld, .can, .far, .twin] s
    (opBankFault b released mA s) := by
  unfold opBankFault
  exact keeps_ite (keeps_refl _ _) (keeps_forEach (fun x t => acRelease_keeps (by decide) (onEng_keeps (by decide) (keeps_refl _ _))) (fault_keeps
    (by decide) (keeps_forEach (fun x t => onCoil_keeps (by decide) (keeps_refl _ _)) (onBank_keeps (by decide) (keeps_refl _ _)))))

theorem opDriveCmd_keeps {crcOk : Bool} : Keeps [.links, .rcd, .flt, .drv] s (opDriveCmd crcOk s) := by
  unfold opDriveCmd
  split
  next h => exact keeps_of_eq h (receiveWord_keeps (by decide) (keeps_refl _ _))
  next h =>
    dsimp only
    split
    · exact driveInvalid_keeps (by decide) (onDrv_keeps (by decide) (keeps_of_eq h (receiveWord_keeps (by decide) (keeps_refl _ _))))
    · exact keeps_ite (onDrv_keeps (by decide) (keeps_of_eq h (receiveWord_keeps (by decide) (keeps_refl _ _)))) (keeps_ite (islandPlanFault_keeps
        (by decide) (onDrv_keeps (by decide) (keeps_of_eq h (receiveWord_keeps (by decide) (keeps_refl _ _))))) (keeps_ite (onCoil_keeps (by decide)
        (onDrv_keeps (by decide) (keeps_of_eq h (receiveWord_keeps (by decide) (keeps_refl _ _))))) (driveInvalid_keeps (by decide) (onDrv_keeps (by
        decide) (keeps_of_eq h (receiveWord_keeps (by decide) (keeps_refl _ _)))))))

theorem opDriveReadRequest_keeps {crcOk : Bool} : Keeps [.links, .rcd, .flt] s (opDriveReadRequest crcOk s) := by
  unfold opDriveReadRequest
  split
  next h => exact keeps_of_eq h (receiveWord_keeps (by decide) (keeps_refl _ _))
  next h =>
    dsimp only
    split
    · exact sendWord_keeps (by decide) (keeps_of_eq h (receiveWord_keeps (by decide) (keeps_refl _ _)))
    · exact driveInvalid_keeps (by decide) (sendWord_keeps (by decide) (keeps_of_eq h (receiveWord_keeps (by decide) (keeps_refl _ _))))

theorem opActuatorOrphanEnter_keeps {host : Bool} : Keeps [.free, .out, .rcd, .cmd, .sw, .drv, .fld, .can, .far, .twin] s (opActuatorOrphanEnter host
    s) := by
  unfold opActuatorOrphanEnter
  exact keeps_ite (keeps_refl _ _) (acOrphanEvent_keeps (by decide) (keeps_refl _ _))

theorem opAcConfig_keeps {r : CmdRef} : Keeps [.free, .out, .rcd, .cmd, .sw, .drv, .fld, .can, .far, .twin] s (opAcConfig r s) := by
  unfold opAcConfig
  refine onCommand_keeps ?_ (keeps_refl _ _)
  intro c t
  dsimp only
  split
  · exact complete_keeps (by decide) (keeps_refl _ _)
  · refine keeps_ite (complete_keeps (by decide) (keeps_refl _ _)) ?_
    split
    · exact complete_keeps (by decide) (acDenied_keeps (by decide) (keeps_refl _ _))
    · exact keeps_ite (complete_keeps (by decide) (acDenied_keeps (by decide) (keeps_refl _ _))) (complete_keeps (by decide) (muteAct_keeps (by
        decide) (onCoil_keeps (by decide) (keeps_refl _ _))))

theorem resetDrive_keeps : Keeps [.free, .out, .mem, .clk, .links, .rcd, .flt, .cmd, .sw, .drv, .fld, .can, .far, .twin] s
    (s.resetIsland 5) :=
  opDriveReset_keeps (by decide) (wdtStart_keeps (by decide) (onClk_keeps (by decide) (resetLinks_keeps (by decide) (serviceDrain_keeps (by decide)
    (keeps_refl _ _)))))

theorem opAcLoadBobbin_keeps {r : CmdRef} : Keeps [.out, .mem, .rcd, .cmd, .sw, .drv, .fld, .can, .far, .twin] s (opAcLoadBobbin r s) := by
  unfold opAcLoadBobbin
  refine onCommand_keeps ?_ (keeps_refl _ _)
  intro c t
  refine keeps_ite (complete_keeps (by decide) (keeps_refl _ _)) ?_
  refine keeps_ite (complete_keeps (by decide) (record_keeps (by decide) (keeps_refl _ _))) ?_
  refine keeps_ite (complete_keeps (by decide) (record_keeps (by decide) (keeps_refl _ _))) ?_
  refine keeps_ite (complete_keeps (by decide) (record_keeps (by decide) (keeps_refl _ _))) ?_
  split
  · exact complete_keeps (by decide) (record_keeps (by decide) (keeps_refl _ _))
  · exact complete_keeps (by decide) (record_keeps (by decide) (onDrv_keeps (by decide) (writeMem_keeps (by decide) (keeps_refl _ _))))

theorem opAcFire_keeps {r : CmdRef} : Keeps [.out, .links, .rcd, .cmd, .sw, .drv, .fld, .can, .far, .twin] s (opAcFire r s) := by
  unfold opAcFire
  refine onCommand_keeps ?_ (keeps_refl _ _)
  intro c t
  dsimp only
  split
  · exact complete_keeps (by decide) (keeps_refl _ _)
  · exact keeps_ite (complete_keeps (by decide) (keeps_refl _ _)) (keeps_ite (complete_keeps (by decide) (keeps_refl _ _)) (keeps_ite (complete_keeps
      (by decide) (keeps_refl _ _)) (keeps_ite (complete_keeps (by decide) (keeps_refl _ _)) (sendWord_keeps (by decide) (handOver_keeps (by decide)
      (keeps_refl _ _))))))

theorem opAcRelease_keeps {r : CmdRef} : Keeps [.out, .links, .rcd, .cmd, .sw, .drv, .fld, .can, .far, .twin] s (opAcRelease r s) := by
  unfold opAcRelease
  refine onCommand_keeps ?_ (keeps_refl _ _)
  intro c t
  dsimp only
  split
  · exact complete_keeps (by decide) (keeps_refl _ _)
  · exact keeps_ite (complete_keeps (by decide) (keeps_refl _ _)) (keeps_ite (complete_keeps (by decide) (keeps_refl _ _)) (keeps_ite (complete_keeps
      (by decide) (keeps_refl _ _)) (keeps_ite (complete_keeps (by decide) (keeps_refl _ _)) (sendWord_keeps (by decide) (handOver_keeps (by decide)
      (keeps_refl _ _))))))

theorem opAcGet_keeps {r : CmdRef} : Keeps [.out, .rcd, .cmd, .sw, .drv, .fld, .can, .far, .twin] s (opAcGet r s) := by
  unfold opAcGet
  refine onCommand_keeps ?_ (keeps_refl _ _)
  intro c t
  dsimp only
  split
  · exact complete_keeps (by decide) (keeps_refl _ _)
  · exact keeps_ite (complete_keeps (by decide) (keeps_refl _ _)) (complete_keeps (by decide) (keeps_refl _ _))

theorem opBarrierFrame_keeps {raw : BitVec 32} {readback parity : BitVec 16} {fpMv ga gb : Nat} : Keeps [.out, .rcd, .cmd, .sw, .drv, .fld, .can,
    .far, .twin] s (opBarrierFrame raw readback parity fpMv ga gb s) := by
  unfold opBarrierFrame
  exact keeps_ite (keeps_ite (onFld_keeps (by decide) (sideFrame_keeps (by decide) (keeps_refl _ _))) (keeps_refl _ _)) (keeps_ite (keeps_refl _ _)
    (composeFrame_keeps (by decide) (keeps_ite (sideFrame_keeps (by decide) (onFld_keeps (by decide) (keeps_refl _ _))) (onFld_keeps (by decide)
    (keeps_refl _ _)))))

theorem opFieldStop_keeps {mv : Nat} : Keeps [.out, .rcd, .cmd, .sw, .drv, .fld, .can, .far, .twin] s (opFieldStop mv s) := by
  unfold opFieldStop
  exact keeps_ite (keeps_refl _ _) (keeps_ite (fieldStop_keeps (by decide) (keeps_refl _ _)) (onSide_keeps (by decide) (keeps_refl _ _)))

theorem opFioSet_keeps {r : CmdRef} : Keeps [.out, .rcd, .cmd, .sw, .drv, .fld, .can, .far, .twin] s (opFioSet r s) := by
  unfold opFioSet
  exact onCommand_keeps (fun c t => keeps_ite (complete_keeps (by decide) (keeps_refl _ _)) (keeps_ite (complete_keeps (by decide) (keeps_refl _ _))
    (keeps_ite (complete_keeps (by decide) (keeps_refl _ _)) (onFld_keeps (by decide) (handOver_keeps (by decide) (keeps_refl _ _)))))) (keeps_refl _
    _)

theorem opFioGet_keeps {r : CmdRef} : Keeps [.out, .rcd, .cmd, .sw, .drv, .fld, .can, .far, .twin] s (opFioGet r s) := by
  unfold opFioGet
  exact onCommand_keeps (fun c t => keeps_ite (complete_keeps (by decide) (keeps_refl _ _)) (complete_keeps (by decide) (keeps_refl _ _)))
    (keeps_refl _ _)

theorem opFioConfig_keeps {r : CmdRef} : Keeps [.out, .rcd, .cmd, .sw, .drv, .fld, .can, .far, .twin] s (opFioConfig r s) := by
  unfold opFioConfig
  refine onCommand_keeps ?_ (keeps_refl _ _)
  intro c t
  refine keeps_ite (complete_keeps (by decide) (keeps_refl _ _)) ?_
  split
  next h => exact complete_keeps (by decide) (keeps_of_eq2 h (fieldConfig_keeps (by decide) (keeps_refl _ _)))
  next h => exact handOver_keeps (by decide) (keeps_of_eq2 h (fieldConfig_keeps (by decide) (keeps_refl _ _)))
  next h2 => exact complete_keeps (by decide) (keeps_of_eq2 h2 (fieldConfig_keeps (by decide) (keeps_refl _ _)))

theorem opLogicFrameReceive_keeps {crcOk : Bool} : Keeps [.rcd, .fld] s (opLogicFrameReceive crcOk s) := by
  unfold opLogicFrameReceive
  split
  · exact keeps_refl _ _
  · exact keeps_ite (onFld_keeps (by decide) (keeps_refl _ _)) (keeps_ite (onFld_keeps (by decide) (onFld_keeps (by decide) (keeps_refl _ _)))
      (keeps_ite (onFld_keeps (by decide) (keeps_refl _ _)) (keeps_ite (record_keeps (by decide) (onSide_keeps (by decide) (onFld_keeps (by decide)
      (keeps_refl _ _)))) (onSide_keeps (by decide) (onFld_keeps (by decide) (keeps_refl _ _))))))

theorem opStuck_keeps {i : Fin 24} : Keeps [.rcd, .fld] s (opStuck i s) := by
  unfold opStuck
  exact keeps_ite (keeps_refl _ _) (record_keeps (by decide) (onSide_keeps (by decide) (keeps_refl _ _)))

theorem opChatter_keeps {i : Fin 24} : Keeps [.rcd, .fld] s (opChatter i s) := by
  unfold opChatter
  exact keeps_ite (keeps_refl _ _) (record_keeps (by decide) (onSide_keeps (by decide) (keeps_refl _ _)))

theorem opFastCountEdge_keeps {k : Fin 8} {rising : Bool} {interval : Nat} : Keeps [.rcd, .fld] s (opFastCountEdge k rising interval s) := by
  unfold opFastCountEdge
  exact keeps_ite (keeps_refl _ _) (keeps_ite (record_keeps (by decide) (onSide_keeps (by decide) (keeps_ite (onSide_keeps (by decide) (keeps_refl _
    _)) (keeps_refl _ _)))) (keeps_ite (onSide_keeps (by decide) (keeps_refl _ _)) (keeps_refl _ _)))

theorem opFieldStale_keeps : Keeps [.out, .supply, .rcd, .cmd, .sw, .drv, .fld, .can, .far, .twin] s (opFieldStale s) := by
  unfold opFieldStale
  exact keeps_ite (keeps_refl _ _) (keeps_ite (keeps_forEach (fun x t => completeId_keeps (by decide) (keeps_refl _ _)) (onSupply_keeps (by decide)
    (onFld_keeps (by decide) (keeps_refl _ _)))) (record_keeps (by decide) (keeps_forEach (fun x t => completeId_keeps (by decide) (keeps_refl _ _))
    (onSupply_keeps (by decide) (onFld_keeps (by decide) (keeps_refl _ _))))))

theorem opLogicSilent_keeps : Keeps [.fld] s (opLogicSilent s) := by
  unfold opLogicSilent
  exact keeps_ite (onSide_keeps (by decide) (keeps_refl _ _)) (keeps_refl _ _)

theorem opFieldWatchdog_keeps : Keeps [.fld] s (opFieldWatchdog s) := by
  unfold opFieldWatchdog
  exact keeps_ite (keeps_refl _ _) (onFld_keeps (by decide) (keeps_refl _ _))

theorem opFieldConfigWrite_keeps {off v : Nat} : Keeps [.fld] s (opFieldConfigWrite off v s) := by
  unfold opFieldConfigWrite
  exact keeps_ite (fieldConfig_keeps (by decide) (keeps_refl _ _)) (keeps_refl _ _)

theorem opFieldStart_keeps {mv : Nat} : Keeps [.pwr, .fld] s (opFieldStart mv s) := by
  unfold opFieldStart
  exact keeps_ite (keeps_refl _ _) (keeps_ite (onPwr_keeps (by decide) (fieldBegin_keeps (by decide) (keeps_refl _ _))) (onSide_keeps (by decide)
    (keeps_refl _ _)))

theorem opFoOverload_keeps {o : Fin 16} : Keeps [.rcd, .flt, .fld] s (opFoOverload o s) := by
  unfold opFoOverload
  exact keeps_ite (fault_keeps (by decide) (onSide_keeps (by decide) (keeps_refl _ _))) (keeps_refl _ _)

theorem opGroupLimit_keeps {g : Fin 2} {ma : List Nat} : Keeps [.rcd, .flt, .fld] s (opGroupLimit g ma s) := by
  unfold opGroupLimit
  dsimp only
  split
  · exact keeps_ite (keeps_refl _ _) (fault_keeps (by decide) (onSide_keeps (by decide) (keeps_refl _ _)))
  · exact keeps_refl _ _

theorem opFieldDataWord_keeps {crcOk : Bool} : Keeps [.links, .rcd, .flt, .fld] s (opFieldDataWord crcOk s) := by
  unfold opFieldDataWord
  dsimp only
  split
  · exact onFld_keeps (by decide) (receiveWord_keeps (by decide) (keeps_refl _ _))
  · exact keeps_ite (fieldInvalid_keeps (by decide) (onFld_keeps (by decide) (receiveWord_keeps (by decide) (keeps_refl _ _)))) (keeps_ite
      (fieldInvalid_keeps (by decide) (onFld_keeps (by decide) (receiveWord_keeps (by decide) (keeps_refl _ _)))) (onFld_keeps (by decide)
      (onFld_keeps (by decide) (receiveWord_keeps (by decide) (keeps_refl _ _)))))

/-! ## Packets, the data port, the identity, faults and resets (spec/10, 11 and 17) -/

theorem opPacketReceive_keeps {via : Via} {p : List Byte} : Keeps [.free, .out, .pwr, .rcd, .flt, .cmd, .sw, .drv, .fld, .can, .far, .twin] s
    (opPacketReceive via p s) := by
  unfold opPacketReceive
  exact receivePacket_keeps (by decide) (keeps_refl _ _)

theorem opCommandBegin_keeps {r : CmdRef} : Keeps [.free, .out, .rcd, .cmd, .sw, .drv, .fld, .can, .far, .twin] s (opCommandBegin r s) := by
  unfold opCommandBegin
  refine keeps_ite (keeps_refl _ _) ?_
  split
  · dsimp only
    split
    · exact keeps_refl _ _
    · exact keeps_ite (keeps_refl _ _) (beginCmd_keeps (by decide) (onGroup_keeps (by decide) (keeps_refl _ _)))
  · dsimp only
    split
    · exact keeps_refl _ _
    · exact keeps_ite (keeps_refl _ _) (beginCmd_keeps (by decide) (onSource_keeps (by decide) (keeps_refl _ _)))

theorem opSessionTimeout_keeps {k : Fin 4} : Keeps [.pwr, .rcd, .flt, .cmd, .sw, .drv, .fld, .far] s (opSessionTimeout k s) := by
  unfold opSessionTimeout
  split
  · exact keeps_refl _ _
  · exact keeps_ite (keeps_refl _ _) (closeSession_keeps (by decide) (endIdle_keeps (by decide) (keeps_refl _ _)))

theorem opPing_keeps {r : CmdRef} : Keeps [.out, .rcd, .cmd, .sw, .drv, .fld, .can, .far, .twin] s (opPing r s) := by
  unfold opPing
  exact onCommand_keeps (fun c t => keeps_ite (complete_keeps (by decide) (keeps_refl _ _)) (complete_keeps (by decide) (keeps_refl _ _)))
    (keeps_refl _ _)

theorem opSessionClose_keeps {r : CmdRef} : Keeps [.out, .rcd, .cmd, .sw, .drv, .fld, .can, .far, .twin] s (opSessionClose r s) := by
  unfold opSessionClose
  refine onCommand_keeps ?_ (keeps_refl _ _)
  intro c t
  refine keeps_ite (complete_keeps (by decide) (keeps_refl _ _)) ?_
  dsimp only
  split
  · exact closeSession_keeps (by decide) (complete_keeps (by decide) (keeps_refl _ _))
  · exact complete_keeps (by decide) (keeps_refl _ _)

theorem opGroupResume_keeps {r : CmdRef} : Keeps [.out, .rcd, .cmd, .sw, .drv, .fld, .can, .far, .twin] s (opGroupResume r s) := by
  unfold opGroupResume
  refine onCommand_keeps ?_ (keeps_refl _ _)
  intro c t
  refine keeps_ite (complete_keeps (by decide) (keeps_refl _ _)) ?_
  split
  · exact complete_keeps (by decide) (keeps_refl _ _)
  · exact keeps_ite (complete_keeps (by decide) (keeps_refl _ _)) (complete_keeps (by decide) (farResume_keeps (by decide) (onGroup_keeps (by decide)
      (keeps_refl _ _))))

theorem opGroupAbort_keeps {r : CmdRef} : Keeps [.out, .rcd, .cmd, .sw, .drv, .fld, .can, .far, .twin] s (opGroupAbort r s) := by
  unfold opGroupAbort
  refine onCommand_keeps ?_ (keeps_refl _ _)
  intro c t
  refine keeps_ite (complete_keeps (by decide) (keeps_refl _ _)) ?_
  split
  · exact complete_keeps (by decide) (keeps_refl _ _)
  · exact complete_keeps (by decide) (keeps_ite (onGroup_keeps (by decide) (farGone_keeps (by decide) (onGroup_keeps (by decide) (keeps_forEach (fun
      x1 t1 => discard_keeps (by decide) (keeps_refl _ _)) (keeps_refl _ _))))) (farGone_keeps (by decide) (onGroup_keeps (by decide) (keeps_forEach
      (fun x1 t1 => discard_keeps (by decide) (keeps_refl _ _)) (keeps_refl _ _)))))

theorem opFenceCmd_keeps {r : CmdRef} : Keeps [.out, .rcd, .cmd, .sw, .drv, .fld, .can, .far, .twin] s (opFenceCmd r s) := by
  unfold opFenceCmd
  refine onCommand_keeps ?_ (keeps_refl _ _)
  intro c t
  refine keeps_ite (complete_keeps (by decide) (keeps_refl _ _)) ?_
  split
  · exact keeps_refl _ _
  · exact keeps_ite (complete_keeps (by decide) (keeps_refl _ _)) (keeps_refl _ _)

theorem opInfoCmd_keeps {r : CmdRef} : Keeps [.out, .rcd, .cmd, .sw, .drv, .fld, .can, .far, .twin] s (opInfoCmd r s) := by
  unfold opInfoCmd
  exact onCommand_keeps (fun c t => keeps_ite (complete_keeps (by decide) (keeps_refl _ _)) (complete_keeps (by decide) (keeps_refl _ _)))
    (keeps_refl _ _)

theorem opGetState_keeps {r : CmdRef} : Keeps [.out, .rcd, .cmd, .sw, .drv, .fld, .can, .far, .twin] s (opGetState r s) := by
  unfold opGetState
  exact onCommand_keeps (fun c t => keeps_ite (complete_keeps (by decide) (keeps_refl _ _)) (complete_keeps (by decide) (keeps_refl _ _)))
    (keeps_refl _ _)

theorem opDpOpen_keeps {r : CmdRef} : Keeps [.out, .rcd, .cmd, .sw, .drv, .fld, .can, .far, .twin] s (opDpOpen r s) := by
  unfold opDpOpen
  refine onCommand_keeps ?_ (keeps_refl _ _)
  intro c t
  refine keeps_ite (complete_keeps (by decide) (keeps_refl _ _)) ?_
  split
  · exact complete_keeps (by decide) (keeps_refl _ _)
  · exact complete_keeps (by decide) (setWindow_keeps (by decide) (keeps_refl _ _))

theorem opDpClose_keeps {r : CmdRef} : Keeps [.out, .rcd, .cmd, .sw, .drv, .fld, .can, .far, .twin] s (opDpClose r s) := by
  unfold opDpClose
  exact onCommand_keeps (fun c t => keeps_ite (complete_keeps (by decide) (keeps_refl _ _)) (complete_keeps (by decide) (setWindow_keeps (by decide)
    (keeps_refl _ _)))) (keeps_refl _ _)

theorem opDpCommit_keeps {r : CmdRef} : Keeps [.out, .rcd, .cmd, .sw, .drv, .fld, .can, .far, .twin] s (opDpCommit r s) := by
  unfold opDpCommit
  refine onCommand_keeps ?_ (keeps_refl _ _)
  intro c t
  refine keeps_ite (complete_keeps (by decide) (keeps_refl _ _)) ?_
  split
  · exact complete_keeps (by decide) (keeps_refl _ _)
  · split
    · exact complete_keeps (by decide) (keeps_refl _ _)
    · exact keeps_ite (complete_keeps (by decide) (keeps_refl _ _)) (complete_keeps (by decide) (streamDrop_keeps (by decide) (keeps_refl _ _)))

theorem opDpRead_keeps {r : CmdRef} : Keeps [.out, .wt, .links, .rcd, .flt, .cmd, .sw, .drv, .fld, .can, .far, .twin] s (opDpRead r s) := by
  unfold opDpRead
  refine onCommand_keeps ?_ (keeps_refl _ _)
  intro c t
  refine keeps_ite (complete_keeps (by decide) (keeps_refl _ _)) ?_
  split
  · exact complete_keeps (by decide) (keeps_refl _ _)
  · split
    · exact complete_keeps (by decide) (keeps_refl _ _)
    · split
      next h2 =>
        exact complete_keeps (by decide) (advance_keeps (by decide) (keeps_of_eq h2 (readBurst_keeps (by decide) (seek_keeps (by decide) (keeps_refl
          _ _)))))

theorem opDpWrite_keeps {r : CmdRef} : Keeps [.free, .out, .mem, .supply, .clk, .ccfg, .links, .rcd, .flt, .cmd, .sw, .drv, .fld, .weft, .can, .nm,
    .eth, .far, .twin] s (opDpWrite r s) := by
  unfold opDpWrite
  refine onCommand_keeps ?_ (keeps_refl _ _)
  intro c t
  refine keeps_ite (complete_keeps (by decide) (keeps_refl _ _)) ?_
  split
  · exact complete_keeps (by decide) (keeps_refl _ _)
  · split
    · exact complete_keeps (by decide) (keeps_refl _ _)
    · refine keeps_ite (complete_keeps (by decide) (seek_keeps (by decide) (keeps_refl _ _))) ?_
      refine keeps_ite ?_ ?_
      · refine keeps_ite (complete_keeps (by decide) (seek_keeps (by decide) (keeps_refl _ _))) ?_
        split
        next h2 =>
          exact complete_keeps (by decide) (advance_keeps (by decide) (keeps_of_eq2 h2 (writeRegs_keeps (by decide) (access_keeps (by decide)
            (seek_keeps (by decide) (keeps_refl _ _))))))
      · split
        · exact complete_keeps (by decide) (seek_keeps (by decide) (keeps_refl _ _))
        · split
          · exact complete_keeps (by decide) (seek_keeps (by decide) (keeps_refl _ _))
          · exact complete_keeps (by decide) (advance_keeps (by decide) (storeMem_keeps (by decide) (seek_keeps (by decide) (keeps_refl _ _))))

theorem opSessionOpen_keeps {r : CmdRef} : Keeps [.free, .out, .rcd, .cmd, .sw, .drv, .fld, .can, .far, .twin] s (opSessionOpen r s) := by
  unfold opSessionOpen
  refine onCommand_keeps ?_ (keeps_refl _ _)
  intro c t
  refine keeps_ite ?_ ?_
  · split
    next h => exact sessionRefused_keeps (by decide) (keeps_of_eq h (draw_keeps (by decide) (keeps_refl _ _)))
  · refine keeps_ite (sessionRefused_keeps (by decide) (keeps_refl _ _)) ?_
    dsimp only
    split
    · exact sessionRefused_keeps (by decide) (keeps_refl _ _)
    · refine keeps_ite (sessionRefused_keeps (by decide) (keeps_refl _ _)) ?_
      split
      · exact sessionRefused_keeps (by decide) (keeps_refl _ _)
      · exact claimGroups_keeps (by decide) (complete_keeps (by decide) (record_keeps (by decide) (onCmd_keeps (by decide) (drawBytes_keeps (by
          decide) (draw_keeps (by decide) (draw_keeps (by decide) (keeps_refl _ _)))))))

theorem opUpdateCheck_keeps {r : CmdRef} {m : Option Medium} : Keeps [.free, .out, .rcd, .cmd, .sw, .drv, .fld, .can, .far, .twin] s (opUpdateCheck r
    m s) := by
  unfold opUpdateCheck
  exact onCommand_keeps (fun c t => keeps_ite (keeps_refl _ _) (keeps_ite (complete_keeps (by decide) (keeps_refl _ _)) (updateArm_keeps (by decide)
    (fun t1 => keeps_refl _ _) (keeps_refl _ _)))) (keeps_refl _ _)

theorem opBoot_keeps {otpOk : Bool} {flash : Option (List Byte)} {m : Option Medium} : Keeps [.out, .links, .pwr, .rcd, .flt, .cmd, .sw, .drv, .fld,
    .loom, .weft, .can, .nm, .far, .twin, .id] s (opBoot otpOk flash m s) := by
  unfold opBoot
  split
  · exact keeps_refl _ _
  · refine keeps_ite (keeps_refl _ _) ?_
    dsimp only
    split
    · exact bootFails_keeps (by decide) (onId_keeps (by decide) (claimPending_keeps (by decide) (keeps_refl _ _)))
    · exact resume_keeps (by decide) (loaderRuns_keeps (by decide) (onId_keeps (by decide) (claimPending_keeps (by decide) (keeps_refl _ _))))
    · exact keeps_ite (bootFails_keeps (by decide) (onId_keeps (by decide) (claimPending_keeps (by decide) (keeps_refl _ _)))) (serve_keeps (by
        decide) (record_keeps (by decide) (onId_keeps (by decide) (onId_keeps (by decide) (claimPending_keeps (by decide) (keeps_refl _ _))))))

theorem opAttest_keeps {r : CmdRef} : Keeps [.out, .rcd, .cmd, .sw, .drv, .fld, .can, .far, .twin] s (opAttest r s) := by
  unfold opAttest
  exact onCommand_keeps (fun c t => keeps_ite (complete_keeps (by decide) (keeps_refl _ _)) (complete_keeps (by decide) (keeps_refl _ _)))
    (keeps_refl _ _)

theorem opKeyAdd_keeps {r : CmdRef} : Keeps [.out, .rcd, .cmd, .sw, .drv, .fld, .can, .far, .twin, .id] s (opKeyAdd r s) := by
  unfold opKeyAdd
  refine onCommand_keeps ?_ (keeps_refl _ _)
  intro c t
  refine keeps_ite (keeps_refl _ _) ?_
  split
  · exact complete_keeps (by decide) (keeps_refl _ _)
  · refine keeps_ite (complete_keeps (by decide) (keeps_refl _ _)) ?_
    split
    · exact complete_keeps (by decide) (keeps_refl _ _)
    · exact keeps_ite (complete_keeps (by decide) (keeps_refl _ _)) (keyDone_keeps (by decide) (onId_keeps (by decide) (keeps_refl _ _)))

theorem opKeyRemove_keeps {r : CmdRef} : Keeps [.out, .rcd, .cmd, .sw, .drv, .fld, .can, .far, .twin, .id] s (opKeyRemove r s) := by
  unfold opKeyRemove
  refine onCommand_keeps ?_ (keeps_refl _ _)
  intro c t
  refine keeps_ite (keeps_refl _ _) ?_
  split
  · exact complete_keeps (by decide) (keeps_refl _ _)
  · exact keeps_ite (complete_keeps (by decide) (keeps_refl _ _)) (keeps_ite (keeps_forEach (fun x1 t1 => closeSession_keeps (by decide) (keeps_refl
      _ _)) (keyDone_keeps (by decide) (onId_keeps (by decide) (keeps_refl _ _)))) (keyDone_keeps (by decide) (onId_keeps (by decide) (keeps_refl _
      _))))

theorem opWeftFloorRaise_keeps {r : CmdRef} : Keeps [.out, .rcd, .cmd, .sw, .drv, .fld, .can, .far, .twin, .id] s (opWeftFloorRaise r s) := by
  unfold opWeftFloorRaise
  refine onCommand_keeps ?_ (keeps_refl _ _)
  intro c t
  refine keeps_ite (keeps_refl _ _) ?_
  split
  · exact complete_keeps (by decide) (keeps_refl _ _)
  · exact keeps_ite (complete_keeps (by decide) (keeps_refl _ _)) (keyDone_keeps (by decide) (onId_keeps (by decide) (keeps_refl _ _)))

theorem opUpdateArm_keeps {r : CmdRef} {m : Option Medium} : Keeps [.free, .out, .rcd, .cmd, .sw, .drv, .fld, .can, .far, .twin, .id] s (opUpdateArm
    r m s) := by
  unfold opUpdateArm
  exact onCommand_keeps (fun c t => keeps_ite (keeps_refl _ _) (keeps_ite (complete_keeps (by decide) (keeps_refl _ _)) (updateArm_keeps (by decide)
    (fun t1 => onId_keeps (by decide) (keeps_refl _ _)) (keeps_refl _ _)))) (keeps_refl _ _)

theorem opUpdateArmByWake_keeps : Keeps [.rcd, .id] s (opUpdateArmByWake s) := by
  unfold opUpdateArmByWake
  split
  · exact keeps_ite (keeps_refl _ _) (onId_keeps (by decide) (claimPending_keeps (by decide) (keeps_refl _ _)))
  · exact keeps_refl _ _

theorem opWakeFalls_keeps : Keeps [.rcd, .id] s (opWakeFalls s) := by
  unfold opWakeFalls
  exact onId_keeps (by decide) (claimPending_keeps (by decide) (keeps_refl _ _))

theorem opOwnerClaimed_keeps {file : List Byte} : Keeps [.rcd, .id] s (opOwnerClaimed file s) := by
  unfold opOwnerClaimed
  exact keeps_ite (keeps_refl _ _) (claimPending_keeps (by decide) (keeps_refl _ _))

theorem opUpdateStart_keeps {m : Option Medium} : Keeps [.free, .out, .links, .pwr, .rcd, .flt, .cmd, .sw, .drv, .fld, .loom, .weft, .can, .far,
    .twin, .acc, .id] s (opUpdateStart m s) := by
  unfold opUpdateStart
  split
  · exact keeps_refl _ _
  · dsimp only
    split
    · exact bootNext_keeps (by decide) (record_keeps (by decide) (onId_keeps (by decide) (loaderRuns_keeps (by decide) (resetService_keeps (by
        decide) (resetLinks_keeps (by decide) (keeps_refl _ _))))))
    · split
      · exact bootNext_keeps (by decide) (record_keeps (by decide) (onId_keeps (by decide) (loaderRuns_keeps (by decide) (resetService_keeps (by
          decide) (resetLinks_keeps (by decide) (keeps_refl _ _))))))
      · exact onId_keeps (by decide) (record_keeps (by decide) (onId_keeps (by decide) (loaderRuns_keeps (by decide) (resetService_keeps (by decide)
          (resetLinks_keeps (by decide) (keeps_refl _ _))))))

theorem opUpdateBlock_keeps {m : Option Medium} {flash : Option (List Byte)} : Keeps [.rcd, .flt, .id] s (opUpdateBlock m flash s) := by
  unfold opUpdateBlock
  split
  · exact keeps_refl _ _
  · refine keeps_ite (keeps_refl _ _) ?_
    split
    · exact enterWait_keeps (by decide) (keeps_refl _ _)
    · exact keeps_ite (enterWait_keeps (by decide) (keeps_refl _ _)) (keeps_ite (updateEnd_keeps (by decide) (keeps_refl _ _)) (keeps_ite
        (enterWait_keeps (by decide) (record_keeps (by decide) (keeps_refl _ _))) (keeps_ite (updateEnd_keeps (by decide) (onId_keeps (by decide)
        (keeps_refl _ _))) (onId_keeps (by decide) (keeps_refl _ _)))))

theorem opMediumPoll_keeps {m : Option Medium} : Keeps [.rcd, .flt, .id] s (opMediumPoll m s) := by
  unfold opMediumPoll
  refine keeps_ite (keeps_refl _ _) ?_
  dsimp only
  split
  · exact keeps_ite (resume_keeps (by decide) (onId_keeps (by decide) (keeps_refl _ _))) (onId_keeps (by decide) (keeps_refl _ _))
  · exact onId_keeps (by decide) (keeps_refl _ _)

theorem opFaultRead_keeps {r : CmdRef} : Keeps [.out, .rcd, .cmd, .sw, .drv, .fld, .can, .far, .twin] s (opFaultRead r s) := by
  unfold opFaultRead
  exact onCommand_keeps (fun c t => keeps_ite (complete_keeps (by decide) (keeps_refl _ _)) (complete_keeps (by decide) (keeps_refl _ _)))
    (keeps_refl _ _)

theorem opQuietPeriodEnd_keeps : Keeps [.rcd, .flt] s (opQuietPeriodEnd s) := by
  unfold opQuietPeriodEnd
  split
  · exact keeps_refl _ _
  · exact keeps_ite (keeps_refl _ _) (keeps_ite (onFlt_keeps (by decide) (keeps_refl _ _)) (record_keeps (by decide) (onFlt_keeps (by decide)
      (keeps_refl _ _))))

theorem opPermitExpiry_keeps : Keeps [.rcd, .flt] s (opPermitExpiry s) := by
  unfold opPermitExpiry
  exact keeps_ite (keeps_refl _ _) (closeGate_keeps (by decide) (onFlt_keeps (by decide) (keeps_refl _ _)))

theorem opFaultHandler_keeps : Keeps [.out, .rcd, .flt, .cmd, .sw, .drv, .fld, .weft, .can, .far, .twin] s (opFaultHandler s) := by
  unfold opFaultHandler
  refine keeps_ite (keeps_refl _ _) ?_
  dsimp only
  split
  · exact onFlt_keeps (by decide) (keeps_refl _ _)
  · exact handlerStep_keeps (by decide) (onFlt_keeps (by decide) (keeps_refl _ _))

/-- The parts a FAULT word and the hold reset it may end in can change. -/
def faultReportParts : List Part := [.free, .out, .mem, .supply, .clk, .wt, .links, .pwr, .rcd, .flt, .cmd, .sw, .drv, .fld, .loom, .weft, .can, .nm,
  .eth, .far, .twin, .acc, .id]

theorem opFaultReport_keeps {crcOk : Bool} : Keeps faultReportParts s (opFaultReport crcOk s) := by
  unfold opFaultReport
  split
  · exact keeps_refl _ _
  next w rest _ =>
    extract_lets u
    have hu : Keeps faultReportParts s u := onFlt_keeps (by decide) (keeps_refl _ _)
    refine keeps_ite (badFaultWord_keeps (by decide) hu) ?_
    split
    next d t h =>
      have ht : Keeps faultReportParts s t := keeps_of_eq h (keeps_ite_pair hu (faultSeq_keeps (by decide) hu))
      refine keeps_ite ht ?_
      split
      next v hv => exact endIdle_keeps (by decide) (keeps_of_some hv (enterFault_keeps (by decide) ht))
      next => exact keeps_ite (dropFault_keeps (by decide) ht) (holdReset_keeps (by decide) (endIdle_keeps (by decide) ht))

theorem opWatchdog_keeps {n : Isl} {ago : Nat} : Keeps [.free, .out, .mem, .supply, .clk, .wt, .links, .pwr, .rcd, .flt, .cmd, .sw, .drv, .fld,
    .loom, .weft, .can, .nm, .eth, .far, .twin, .acc, .id] s (opWatchdog n ago s) := by
  unfold opWatchdog
  exact keeps_ite (fault_keeps (by decide) (onFlt_keeps (by decide) (resetIsland_keeps (by decide) (keeps_refl _ _)))) (keeps_refl _ _)

theorem opLoomReset_keeps : Keeps [.free, .out, .mem, .supply, .clk, .wt, .links, .pwr, .rcd, .flt, .cmd, .sw, .drv, .fld, .loom, .weft, .can, .nm,
    .eth, .far, .twin, .acc, .id] s (opLoomReset s) := by
  unfold opLoomReset
  exact resetIsland_keeps (by decide) (keeps_refl _ _)

theorem opServiceCoreReset_keeps : Keeps [.free, .out, .mem, .supply, .clk, .wt, .links, .pwr, .rcd, .flt, .cmd, .sw, .drv, .fld, .loom, .weft, .can,
    .nm, .eth, .far, .twin, .acc, .id] s (opServiceCoreReset s) := by
  unfold opServiceCoreReset
  exact resetIsland_keeps (by decide) (keeps_refl _ _)

theorem opNetworkReset_keeps : Keeps [.free, .out, .mem, .supply, .clk, .wt, .links, .pwr, .rcd, .flt, .cmd, .sw, .drv, .fld, .loom, .weft, .can,
    .nm, .eth, .far, .twin, .acc, .id] s (opNetworkReset s) := by
  unfold opNetworkReset
  exact resetIsland_keeps (by decide) (keeps_refl _ _)

theorem opForceSafeOn_keeps : Keeps [.free, .out, .pwr, .rcd, .flt, .cmd, .sw, .drv, .fld, .can, .far, .twin] s (opForceSafeOn s) := by
  unfold opForceSafeOn
  exact keeps_ite (keeps_refl _ _) (keeps_ite (moduleWake_keeps (by decide) (fault_keeps (by decide) (closeGate_keeps (by decide) (keeps_ite
    (driveForceSafe_keeps (by decide) (keeps_forEach (fun x t => toSafe_keeps (by decide) (keeps_refl _ _)) (onFlt_keeps (by decide) (keeps_refl _
    _)))) (keeps_forEach (fun x t => toSafe_keeps (by decide) (keeps_refl _ _)) (onFlt_keeps (by decide) (keeps_refl _ _))))))) (endIdle_keeps (by
    decide) (fault_keeps (by decide) (closeGate_keeps (by decide) (keeps_ite (driveForceSafe_keeps (by decide) (keeps_forEach (fun x t =>
    toSafe_keeps (by decide) (keeps_refl _ _)) (onFlt_keeps (by decide) (keeps_refl _ _)))) (keeps_forEach (fun x t => toSafe_keeps (by decide)
    (keeps_refl _ _)) (onFlt_keeps (by decide) (keeps_refl _ _))))))))

theorem opForceSafeOff_keeps : Keeps [.rcd, .flt] s (opForceSafeOff s) := by
  unfold opForceSafeOff
  exact keeps_ite (keeps_refl _ _) (record_keeps (by decide) (onFlt_keeps (by decide) (keeps_refl _ _)))

/-! ## CAN, network management, Ethernet and the Modbus bridge (spec/12 to 14) -/

theorem opCanFrameReceive_keeps {c : CanNo} {f : CanFrame} {ago sub : Nat} {lost : Option (Fin 5)} : Keeps [.free, .out, .clk, .pwr, .rcd, .flt,
    .cmd, .sw, .drv, .fld, .can, .nm, .eth, .far, .twin] s (opCanFrameReceive c f ago sub lost s) := by
  unfold opCanFrameReceive
  refine keeps_ite (keeps_refl _ _) ?_
  refine keeps_ite ?_ ?_
  · refine nmJudge_keeps (by decide) ?_
    refine keeps_ite ?_ ?_
    · refine receivePacket_keeps (by decide) ?_
      refine recDown_keeps (by decide) ?_
      split
      · exact keeps_ite (attemptFailed_keeps (by decide) (onCanCh_keeps (by decide) (keeps_refl _ _))) (keeps_refl _ _)
      · exact keeps_refl _ _
    · refine filterFrame_keeps (by decide) ?_
      refine keeps_ite ?_ ?_
      · refine nmReceive_keeps (by decide) ?_
        refine canSync_keeps (by decide) ?_
        refine recDown_keeps (by decide) ?_
        split
        · exact keeps_ite (attemptFailed_keeps (by decide) (onCanCh_keeps (by decide) (keeps_refl _ _))) (keeps_refl _ _)
        · exact keeps_refl _ _
      · refine canSync_keeps (by decide) ?_
        refine recDown_keeps (by decide) ?_
        split
        · exact keeps_ite (attemptFailed_keeps (by decide) (onCanCh_keeps (by decide) (keeps_refl _ _))) (keeps_refl _ _)
        · exact keeps_refl _ _
  · refine busActivity_keeps (by decide) ?_
    refine keeps_ite ?_ ?_
    · refine receivePacket_keeps (by decide) ?_
      refine recDown_keeps (by decide) ?_
      split
      · exact keeps_ite (attemptFailed_keeps (by decide) (onCanCh_keeps (by decide) (keeps_refl _ _))) (keeps_refl _ _)
      · exact keeps_refl _ _
    · refine filterFrame_keeps (by decide) ?_
      refine keeps_ite ?_ ?_
      · refine nmReceive_keeps (by decide) ?_
        refine canSync_keeps (by decide) ?_
        refine recDown_keeps (by decide) ?_
        split
        · exact keeps_ite (attemptFailed_keeps (by decide) (onCanCh_keeps (by decide) (keeps_refl _ _))) (keeps_refl _ _)
        · exact keeps_refl _ _
      · refine canSync_keeps (by decide) ?_
        refine recDown_keeps (by decide) ?_
        split
        · exact keeps_ite (attemptFailed_keeps (by decide) (onCanCh_keeps (by decide) (keeps_refl _ _))) (keeps_refl _ _)
        · exact keeps_refl _ _

theorem opCanError_keeps {c : CanNo} {kind : Fin 5} {inData : Bool} {buf : Option (Fin 5)} {dataField heavy : Bool} {ago : Nat} {tdcv : Option Nat} :
    Keeps [.out, .rcd, .cmd, .sw, .drv, .fld, .can, .nm, .far, .twin] s (opCanError c kind inData buf dataField heavy ago tdcv s) := by
  unfold opCanError
  refine keeps_ite (keeps_refl _ _) ?_
  split
  · exact busActivity_keeps (by decide) (onCanCh_keeps (by decide) (keeps_refl _ _))
  · exact keeps_ite (keeps_refl _ _) (busActivity_keeps (by decide) (attemptFailed_keeps (by decide) (onCanCh_keeps (by decide) (onCanCh_keeps (by
      decide) (keeps_refl _ _)))))

theorem opCanTxComplete_keeps {c : CanNo} {b : Fin 5} {ago tdcv : Nat} : Keeps [.out, .rcd, .cmd, .sw, .drv, .fld, .can, .nm, .far, .twin] s
    (opCanTxComplete c b ago tdcv s) := by
  unfold opCanTxComplete
  dsimp only
  split
  · exact onCanCh_keeps (by decide) (keeps_refl _ _)
  · refine keeps_ite (onCanCh_keeps (by decide) (keeps_refl _ _)) ?_
    refine nmJudge_keeps (by decide) ?_
    split
    · exact keeps_ite (onNmCh_keeps (by decide) (onCanCh_keeps (by decide) (onCanCh_keeps (by decide) (send_keeps (by decide) (onCanCh_keeps (by
        decide) (keeps_refl _ _)))))) (onCanCh_keeps (by decide) (onCanCh_keeps (by decide) (send_keeps (by decide) (onCanCh_keeps (by decide)
        (keeps_refl _ _)))))
    · exact completeId_keeps (by decide) (keeps_ite (onNmCh_keeps (by decide) (onCanCh_keeps (by decide) (onCanCh_keeps (by decide) (send_keeps (by
        decide) (onCanCh_keeps (by decide) (keeps_refl _ _)))))) (onCanCh_keeps (by decide) (onCanCh_keeps (by decide) (send_keeps (by decide)
        (onCanCh_keeps (by decide) (keeps_refl _ _))))))

theorem opCanAbort_keeps {c : CanNo} {b : Fin 3} : Keeps [.out, .rcd, .cmd, .sw, .drv, .fld, .can, .nm, .far, .twin] s (opCanAbort c b s) := by
  unfold opCanAbort
  exact keeps_ite (nmJudge_keeps (by decide) (emptyBuf_keeps (by decide) (keeps_refl _ _))) (keeps_refl _ _)

theorem opCanConfig_keeps {r : CmdRef} : Keeps [.out, .rcd, .cmd, .sw, .drv, .fld, .can, .nm, .far, .twin] s (opCanConfig r s) := by
  unfold opCanConfig
  refine onCommand_keeps ?_ (keeps_refl _ _)
  intro c t
  dsimp only
  split
  · exact complete_keeps (by decide) (keeps_refl _ _)
  · exact keeps_ite (complete_keeps (by decide) (keeps_refl _ _)) (keeps_ite (complete_keeps (by decide) (onCanCh_keeps (by decide) (keeps_refl _
      _))) (keeps_ite (complete_keeps (by decide) (keeps_refl _ _)) (complete_keeps (by decide) (nmJudge_keeps (by decide) (setCtrl_keeps (by decide)
      (onCanCh_keeps (by decide) (keeps_refl _ _)))))))

theorem opProtocolException_keeps {c : CanNo} : Keeps [.rcd, .can, .nm] s (opProtocolException c s) := by
  unfold opProtocolException
  exact keeps_ite (keeps_refl _ _) (busActivity_keeps (by decide) (onCanCh_keeps (by decide) (keeps_refl _ _)))

theorem opErrorPassive_keeps {c : CanNo} : Keeps [.rcd, .flt, .can] s (opErrorPassive c s) := by
  unfold opErrorPassive
  exact keeps_ite (fault_keeps (by decide) (onCanCh_keeps (by decide) (keeps_refl _ _))) (keeps_refl _ _)

theorem opBusOff_keeps {c : CanNo} : Keeps [.rcd, .flt, .can] s (opBusOff c s) := by
  unfold opBusOff
  exact keeps_ite (fault_keeps (by decide) (onCanCh_keeps (by decide) (keeps_refl _ _))) (keeps_refl _ _)

theorem opIdclash_keeps {c : CanNo} {b : Fin 5} : Keeps [.rcd, .flt, .can] s (opIdclash c b s) := by
  unfold opIdclash
  dsimp only
  split
  · exact fault_keeps (by decide) (onCanCh_keeps (by decide) (keeps_refl _ _))
  · exact keeps_refl _ _

theorem opErrorActive_keeps {c : CanNo} : Keeps [.rcd, .can] s (opErrorActive c s) := by
  unfold opErrorActive
  exact keeps_ite (record_keeps (by decide) (onCanCh_keeps (by decide) (keeps_refl _ _))) (keeps_refl _ _)

theorem opBusRecovered_keeps {c : CanNo} : Keeps [.rcd, .can] s (opBusRecovered c s) := by
  unfold opBusRecovered
  exact keeps_ite (record_keeps (by decide) (onCanCh_keeps (by decide) (keeps_refl _ _))) (keeps_refl _ _)

theorem opBusIntegrated_keeps {c : CanNo} : Keeps [.can] s (opBusIntegrated c s) := by
  unfold opBusIntegrated
  exact keeps_ite (onCanCh_keeps (by decide) (keeps_refl _ _)) (keeps_refl _ _)

theorem opCanFilter_keeps {r : CmdRef} : Keeps [.out, .rcd, .cmd, .sw, .drv, .fld, .can, .far, .twin] s (opCanFilter r s) := by
  unfold opCanFilter
  refine onCommand_keeps ?_ (keeps_refl _ _)
  intro c t
  dsimp only
  split
  · exact complete_keeps (by decide) (keeps_refl _ _)
  · exact keeps_ite (complete_keeps (by decide) (keeps_refl _ _)) (complete_keeps (by decide) (onCanCh_keeps (by decide) (keeps_refl _ _)))

theorem opCanStatus_keeps {r : CmdRef} : Keeps [.out, .rcd, .cmd, .sw, .drv, .fld, .can, .far, .twin] s (opCanStatus r s) := by
  unfold opCanStatus
  refine onCommand_keeps ?_ (keeps_refl _ _)
  intro c t
  dsimp only
  split
  · exact complete_keeps (by decide) (keeps_refl _ _)
  · exact keeps_ite (complete_keeps (by decide) (keeps_refl _ _)) (complete_keeps (by decide) (keeps_refl _ _))

theorem opCanSend_keeps {r : CmdRef} : Keeps [.free, .out, .rcd, .cmd, .sw, .drv, .fld, .can, .nm, .far, .twin] s (opCanSend r s) := by
  unfold opCanSend
  refine onCommand_keeps ?_ (keeps_refl _ _)
  intro c t
  dsimp only
  split
  · exact complete_keeps (by decide) (keeps_refl _ _)
  · exact keeps_dite (fun h1 => keeps_ite (complete_keeps (by decide) (keeps_refl _ _)) (keeps_ite (complete_keeps (by decide) (keeps_refl _ _))
      (keeps_ite (complete_keeps (by decide) (draw_keeps (by decide) (keeps_refl _ _))) (keeps_ite (complete_keeps (by decide) (keeps_refl _ _))
      (nmJudge_keeps (by decide) (handOver_keeps (by decide) (onCanCh_keeps (by decide) (keeps_refl _ _)))))))) (fun h1 => complete_keeps (by decide)
      (keeps_refl _ _))

theorem opCanPeek_keeps {crcOk : Bool} : Keeps [.free, .links, .rcd, .flt] s (opCanPeek crcOk s) := by
  unfold opCanPeek
  refine keeps_ite (keeps_refl _ _) ?_
  split
  next h => exact keeps_of_eq h (receiveWord_keeps (by decide) (keeps_refl _ _))
  next h =>
    dsimp only
    split
    · exact badRequest_keeps (by decide) (keeps_of_eq h (receiveWord_keeps (by decide) (keeps_refl _ _)))
    · refine keeps_ite (badRequest_keeps (by decide) (keeps_of_eq h (receiveWord_keeps (by decide) (keeps_refl _ _)))) ?_
      split
      · exact answer_keeps (by decide) (keeps_of_eq h (receiveWord_keeps (by decide) (keeps_refl _ _)))
      · exact keeps_forEach (fun x3 t1 => answer_keeps (by decide) (keeps_refl _ _)) (answer_keeps (by decide) (keeps_of_eq h (receiveWord_keeps (by
          decide) (keeps_refl _ _))))

theorem opCanStatusRequest_keeps {crcOk : Bool} : Keeps [.free, .links, .rcd, .flt] s (opCanStatusRequest crcOk s) := by
  unfold opCanStatusRequest
  refine keeps_ite (keeps_refl _ _) ?_
  split
  next h => exact keeps_of_eq h (receiveWord_keeps (by decide) (keeps_refl _ _))
  next h =>
    split
    · exact badRequest_keeps (by decide) (keeps_of_eq h (receiveWord_keeps (by decide) (keeps_refl _ _)))
    · split
      next h2 =>
        exact answer_keeps (by decide) (keeps_of_eq h2 (draw_keeps (by decide) (keeps_of_eq h (receiveWord_keeps (by decide) (keeps_refl _ _)))))

theorem opCanCommit_keeps {crcOk : Bool} : Keeps [.free, .links, .rcd, .flt, .can] s (opCanCommit crcOk s) := by
  unfold opCanCommit
  refine keeps_ite (keeps_refl _ _) ?_
  split
  next h => exact keeps_of_eq h (receiveWord_keeps (by decide) (keeps_refl _ _))
  next h =>
    dsimp only
    split
    · exact badRequest_keeps (by decide) (keeps_of_eq h (receiveWord_keeps (by decide) (keeps_refl _ _)))
    · exact keeps_ite (badRequest_keeps (by decide) (keeps_of_eq h (receiveWord_keeps (by decide) (keeps_refl _ _)))) (answer_keeps (by decide)
        (dropItems_keeps (by decide) (keeps_of_eq h (receiveWord_keeps (by decide) (keeps_refl _ _)))))

theorem opNetworkCmdInvalid_keeps {crcOk : Bool} : Keeps [.free, .links, .rcd, .flt, .can] s (opNetworkCmdInvalid crcOk s) := by
  unfold opNetworkCmdInvalid
  split
  · exact keeps_refl _ _
  · refine keeps_ite (keeps_refl _ _) ?_
    split
    next h1 => exact keeps_of_eq h1 (receiveWord_keeps (by decide) (keeps_refl _ _))
    next h1 =>
      refine planRecord_keeps (by decide) ?_
      split
      · exact badRequest_keeps (by decide) (asmEnd_keeps (by decide) (keeps_of_eq h1 (receiveWord_keeps (by decide) (keeps_refl _ _))))
      · exact keeps_of_eq h1 (receiveWord_keeps (by decide) (keeps_refl _ _))

theorem opCanTx_keeps {crcOk : Bool} : Keeps [.free, .links, .rcd, .flt, .can, .nm] s (opCanTx crcOk s) := by
  unfold opCanTx
  split
  · refine keeps_ite (keeps_refl _ _) ?_
    split
    next h1 => exact keeps_of_eq h1 (receiveWord_keeps (by decide) (keeps_refl _ _))
    next h1 =>
      exact keeps_ite (txDone_keeps (by decide) (keeps_of_eq h1 (receiveWord_keeps (by decide) (keeps_refl _ _)))) (onCan_keeps (by decide)
        (keeps_of_eq h1 (receiveWord_keeps (by decide) (keeps_refl _ _))))
  · dsimp only
    split
    next h1 => exact keeps_of_eq h1 (receiveWord_keeps (by decide) (keeps_refl _ _))
    next h1 =>
      exact keeps_ite (badRequest_keeps (by decide) (asmEnd_keeps (by decide) (keeps_of_eq h1 (receiveWord_keeps (by decide) (keeps_refl _ _)))))
        (keeps_ite (txDone_keeps (by decide) (asmEnd_keeps (by decide) (keeps_of_eq h1 (receiveWord_keeps (by decide) (keeps_refl _ _)))))
        (onCan_keeps (by decide) (keeps_of_eq h1 (receiveWord_keeps (by decide) (keeps_refl _ _)))))

theorem opNmFrameSend_keeps {c : CanNo} : Keeps [.can, .nm] s (opNmFrameSend c s) := by
  unfold opNmFrameSend
  exact keeps_ite (onCanCh_keeps (by decide) (onNmCh_keeps (by decide) (keeps_refl _ _))) (keeps_refl _ _)

theorem opNmTimeout_keeps {c : CanNo} : Keeps [.can, .nm] s (opNmTimeout c s) := by
  unfold opNmTimeout
  exact keeps_ite (nmEnter_keeps (by decide) (keeps_refl _ _)) (keeps_refl _ _)

theorem opRepeatEnd_keeps {c : CanNo} : Keeps [.can, .nm] s (opRepeatEnd c s) := by
  unfold opRepeatEnd
  exact keeps_ite (nmEnter_keeps (by decide) (keeps_refl _ _)) (keeps_refl _ _)

theorem opNmSleep_keeps {c : CanNo} : Keeps [.free, .pwr, .rcd, .can, .nm] s (opNmSleep c s) := by
  unfold opNmSleep
  exact keeps_ite (keeps_ite (opWufErrwake_keeps (by decide) (keeps_refl _ _)) (record_keeps (by decide) (nmEnter_keeps (by decide) (keeps_refl _
    _)))) (keeps_refl _ _)

theorem opCanWakeDetect_keeps {c : CanNo} {seen : Seen} : Keeps [.free, .pwr, .rcd, .can, .nm] s (opCanWakeDetect c seen s) := by
  unfold opCanWakeDetect
  refine keeps_ite (keeps_refl _ _) ?_
  split
  · exact detectorWake_keeps (by decide) (keeps_refl _ _)
  · exact keeps_ite (detectorWake_keeps (by decide) (keeps_ite (keeps_refl _ _) (onNmCh_keeps (by decide) (keeps_refl _ _)))) (keeps_ite (keeps_refl
      _ _) (onNmCh_keeps (by decide) (keeps_refl _ _)))
  · exact onNmCh_keeps (by decide) (keeps_refl _ _)
  · exact keeps_refl _ _

theorem opFalseWake_keeps {c : CanNo} : Keeps [.rcd, .can, .nm] s (opFalseWake c s) := by
  unfold opFalseWake
  exact keeps_ite (record_keeps (by decide) (onNm_keeps (by decide) (nmEnter_keeps (by decide) (keeps_refl _ _)))) (keeps_refl _ _)

theorem opMaxAwake_keeps {c : CanNo} : Keeps [.rcd, .flt, .can, .nm, .eth] s (opMaxAwake c s) := by
  unfold opMaxAwake
  split
  · exact keeps_refl _ _
  · exact keeps_ite (keeps_refl _ _) (fault_keeps (by decide) (nmEval_keeps (by decide) (onNm_keeps (by decide) (keeps_refl _ _))))

theorem opNmKeeper_keeps {c : CanNo} : Keeps [.rcd, .nm] s (opNmKeeper c s) := by
  unfold opNmKeeper
  exact keeps_ite (record_keeps (by decide) (onNm_keeps (by decide) (onNmCh_keeps (by decide) (keeps_refl _ _)))) (keeps_refl _ _)

theorem opNmConfig_keeps {r : CmdRef} : Keeps [.out, .rcd, .cmd, .sw, .drv, .fld, .can, .nm, .eth, .far, .twin] s (opNmConfig r s) := by
  unfold opNmConfig
  exact onCommand_keeps (fun c t => keeps_ite (complete_keeps (by decide) (keeps_refl _ _)) (keeps_ite (keeps_ite (complete_keeps (by decide)
    (keeps_refl _ _)) (keeps_ite (complete_keeps (by decide) (onNm_keeps (by decide) (keeps_refl _ _))) (keeps_ite (complete_keeps (by decide)
    (keeps_refl _ _)) (complete_keeps (by decide) (setNmCfg_keeps (by decide) (keeps_refl _ _)))))) (keeps_dite (fun h => keeps_ite (complete_keeps
    (by decide) (keeps_refl _ _)) (complete_keeps (by decide) (onNm_keeps (by decide) (keeps_refl _ _)))) (fun h => complete_keeps (by decide)
    (keeps_refl _ _))))) (keeps_refl _ _)

theorem opNmRequest_keeps {r : CmdRef} : Keeps [.out, .rcd, .cmd, .sw, .drv, .fld, .can, .nm, .eth, .far, .twin] s (opNmRequest r s) := by
  unfold opNmRequest
  exact nmAction_keeps (by decide) (keeps_refl _ _)

theorem opNmRequestRepeat_keeps {r : CmdRef} : Keeps [.out, .rcd, .cmd, .sw, .drv, .fld, .can, .nm, .eth, .far, .twin] s (opNmRequestRepeat r s) := by
  unfold opNmRequestRepeat
  exact nmAction_keeps (by decide) (keeps_refl _ _)

theorem opNmRelease_keeps {r : CmdRef} : Keeps [.out, .rcd, .cmd, .sw, .drv, .fld, .can, .nm, .eth, .far, .twin] s (opNmRelease r s) := by
  unfold opNmRelease
  exact nmAction_keeps (by decide) (keeps_refl _ _)

theorem opTc10SleepRequest_keeps {p : PortNo} : Keeps [.out, .eth] s (opTc10SleepRequest p s) := by
  unfold opTc10SleepRequest
  exact keeps_ite (send_keeps (by decide) (onPort_keeps (by decide) (keeps_refl _ _))) (keeps_refl _ _)

theorem opTc10SleepReceive_keeps {p : PortNo} : Keeps [.out, .rcd, .eth] s (opTc10SleepReceive p s) := by
  unfold opTc10SleepReceive
  exact keeps_ite (keeps_refl _ _) (keeps_ite (portSleeps_keeps (by decide) (send_keeps (by decide) (keeps_refl _ _))) (send_keeps (by decide)
    (keeps_refl _ _)))

theorem opTc10Wake_keeps {p : PortNo} : Keeps [.out, .pwr, .rcd, .eth] s (opTc10Wake p s) := by
  unfold opTc10Wake
  exact keeps_ite (keeps_refl _ _) (keeps_ite (moduleWake_keeps (by decide) (keeps_refl _ _)) (keeps_ite (keeps_ite (portWakes_keeps (by decide)
    (portWakes_keeps (by decide) (keeps_refl _ _))) (portWakes_keeps (by decide) (keeps_refl _ _))) (keeps_refl _ _)))

theorem opTc10SleepAcknowledge_keeps {p : PortNo} {ack : Bool} : Keeps [.rcd, .eth] s (opTc10SleepAcknowledge p ack s) := by
  unfold opTc10SleepAcknowledge
  exact keeps_ite (keeps_refl _ _) (keeps_ite (portSleeps_keeps (by decide) (keeps_refl _ _)) (onPort_keeps (by decide) (keeps_refl _ _)))

theorem opEthFrameReceive_keeps {p : PortNo} {frame : List Byte} : Keeps [.out, .clk, .pwr, .rcd, .flt, .eth] s (opEthFrameReceive p frame s) := by
  unfold opEthFrameReceive
  exact keeps_ite (keeps_refl _ _) (keeps_ite (rxError_keeps (by decide) (keeps_refl _ _)) (keeps_ite (keeps_ite (ptpReceive_keeps (by decide)
    (onEth_keeps (by decide) (keeps_refl _ _))) (onEth_keeps (by decide) (keeps_refl _ _))) (drainEth_keeps (by decide) (switch_keeps (by decide)
    (onEth_keeps (by decide) (keeps_refl _ _))))))

theorem opMacAgeOut_keeps {addr : Nat} : Keeps [.eth] s (opMacAgeOut addr s) := by
  unfold opMacAgeOut
  exact onEth_keeps (by decide) (keeps_refl _ _)

theorem opMacTableFull_keeps : Keeps [.rcd, .eth] s (opMacTableFull s) := by
  unfold opMacTableFull
  exact keeps_ite (record_keeps (by decide) (onEth_keeps (by decide) (keeps_refl _ _))) (keeps_refl _ _)

theorem opLinkUp_keeps {p : PortNo} : Keeps [.rcd, .eth] s (opLinkUp p s) := by
  unfold opLinkUp
  exact keeps_ite (record_keeps (by decide) (onPort_keeps (by decide) (keeps_refl _ _))) (keeps_refl _ _)

theorem opPdelayMeasure_keeps {p : PortNo} {ns : Nat} : Keeps [.out, .eth] s (opPdelayMeasure p ns s) := by
  unfold opPdelayMeasure
  exact keeps_ite (send_keeps (by decide) (onPort_keeps (by decide) (keeps_refl _ _))) (keeps_refl _ _)

theorem opTunnelAvtpduClose_keeps {c : CanNo} : Keeps [.out, .eth] s (opTunnelAvtpduClose c s) := by
  unfold opTunnelAvtpduClose
  dsimp only
  split
  · exact keeps_refl _ _
  · exact keeps_ite (keeps_refl _ _) (fromP0_keeps (by decide) (onEth_keeps (by decide) (keeps_refl _ _)))

theorem opGptpSync_keeps {p : PortNo} : Keeps [.clk, .rcd, .eth] s (opGptpSync p s) := by
  unfold opGptpSync
  dsimp only
  split
  · exact keeps_refl _ _
  · exact keeps_ite (setSource_keeps (by decide) (record_keeps (by decide) (onClk_keeps (by decide) (onEth_keeps (by decide) (onPort_keeps (by
      decide) (onPort_keeps (by decide) (keeps_refl _ _))))))) (keeps_refl _ _)

theorem opIpAddress_keeps {grant : Option Lease} {other : Option Nat} : Keeps [.out, .pwr, .rcd, .flt, .eth] s (opIpAddress grant other s) := by
  unfold opIpAddress
  refine keeps_ite (keeps_refl _ _) ?_
  split
  · refine keeps_ite (keeps_refl _ _) ?_
    dsimp only
    split
    · exact ipConflict_keeps (by decide) (serviceActive_keeps (by decide) (arpOut_keeps (by decide) (keeps_refl _ _)))
    · exact assign_keeps (by decide) (arpOut_keeps (by decide) (keeps_refl _ _))
  · refine keeps_ite (keeps_refl _ _) ?_
    dsimp only
    split
    · exact send_keeps (by decide) (ipConflict_keeps (by decide) (arpOut_keeps (by decide) (send_keeps (by decide) (send_keeps (by decide)
        (serviceActive_keeps (by decide) (keeps_refl _ _))))))
    · exact assign_keeps (by decide) (arpOut_keeps (by decide) (send_keeps (by decide) (send_keeps (by decide) (serviceActive_keeps (by decide)
        (keeps_refl _ _)))))

theorem opDhcpRenewal_keeps {extends_ other : Option Nat} : Keeps [.out, .pwr, .rcd, .flt, .eth] s (opDhcpRenewal extends_ other s) := by
  unfold opDhcpRenewal
  refine keeps_ite (keeps_refl _ _) ?_
  dsimp only
  split
  · refine dropAddress_keeps (by decide) ?_
    refine send_keeps (by decide) ?_
    refine ipConflict_keeps (by decide) ?_
    split
    · exact onEth_keeps (by decide) (send_keeps (by decide) (serviceActive_keeps (by decide) (keeps_refl _ _)))
    · exact onEth_keeps (by decide) (send_keeps (by decide) (serviceActive_keeps (by decide) (keeps_refl _ _)))
  · split
    · exact onEth_keeps (by decide) (send_keeps (by decide) (serviceActive_keeps (by decide) (keeps_refl _ _)))
    · exact onEth_keeps (by decide) (send_keeps (by decide) (serviceActive_keeps (by decide) (keeps_refl _ _)))

theorem opDhcpLeaseLost_keeps {other : Option Nat} : Keeps [.out, .pwr, .rcd, .flt, .eth] s (opDhcpLeaseLost other s) := by
  unfold opDhcpLeaseLost
  refine keeps_ite (keeps_refl _ _) ?_
  split
  · exact dropAddress_keeps (by decide) (send_keeps (by decide) (ipConflict_keeps (by decide) (serviceActive_keeps (by decide) (keeps_refl _ _))))
  · exact keeps_ite (keeps_refl _ _) (dropAddress_keeps (by decide) (keeps_refl _ _))

theorem opFarTransactionStart_keeps {p : FarNo} : Keeps [.out, .far] s (opFarTransactionStart p s) := by
  unfold opFarTransactionStart
  refine keeps_ite (keeps_refl _ _) ?_
  split
  · exact farSend_keeps (by decide) (onFarPort_keeps (by decide) (keeps_refl _ _))
  · exact farSend_keeps (by decide) (onFarPort_keeps (by decide) (keeps_refl _ _))
  · exact keeps_refl _ _

theorem opModbusFrameReceive_keeps {p : FarNo} {frame : List Byte} {charError : Bool} : Keeps [.out, .rcd, .flt, .cmd, .sw, .drv, .fld, .can, .far,
    .twin] s (opModbusFrameReceive p frame charError s) := by
  unfold opModbusFrameReceive
  refine keeps_ite (keeps_refl _ _) ?_
  dsimp only
  split
  · exact stray_keeps (by decide) (onFarPort_keeps (by decide) (keeps_refl _ _))
  · exact keeps_ite (onFarPort_keeps (by decide) (onFarPort_keeps (by decide) (keeps_refl _ _))) (keeps_ite (stray_keeps (by decide) (onFarPort_keeps
      (by decide) (keeps_refl _ _))) (keeps_ite (farEnd_keeps (by decide) (onFarPort_keeps (by decide) (onFarPort_keeps (by decide) (onFarPort_keeps
      (by decide) (keeps_refl _ _))))) (keeps_ite (farEnd_keeps (by decide) (onFarPort_keeps (by decide) (onFarPort_keeps (by decide) (keeps_refl _
      _)))) (farEnd_keeps (by decide) (onFarPort_keeps (by decide) (onFarPort_keeps (by decide) (keeps_refl _ _)))))))

theorem opFarTimeout_keeps {p : FarNo} : Keeps [.out, .rcd, .flt, .cmd, .sw, .drv, .fld, .can, .far, .twin] s (opFarTimeout p s) := by
  unfold opFarTimeout
  dsimp only
  split
  · exact keeps_refl _ _
  · exact keeps_ite (keeps_refl _ _) (keeps_ite (farSend_keeps (by decide) (onFarPort_keeps (by decide) (keeps_refl _ _))) (farEnd_keeps (by decide)
      (onFarPort_keeps (by decide) (keeps_refl _ _))))

theorem opFarTurnaroundEnd_keeps {p : FarNo} : Keeps [.out, .rcd, .flt, .cmd, .sw, .drv, .fld, .can, .far, .twin] s (opFarTurnaroundEnd p s) := by
  unfold opFarTurnaroundEnd
  split
  · exact keeps_refl _ _
  · exact keeps_ite (keeps_refl _ _) (farEnd_keeps (by decide) (onFarPort_keeps (by decide) (keeps_refl _ _)))

theorem opHeddleWaitExpiry_keeps {p : FarNo} : Keeps [.out, .rcd, .flt, .cmd, .sw, .drv, .fld, .can, .far, .twin] s (opHeddleWaitExpiry p s) := by
  unfold opHeddleWaitExpiry
  dsimp only
  split
  · exact keeps_refl _ _
  · exact farEnd_keeps (by decide) (onFarPort_keeps (by decide) (keeps_refl _ _))

theorem opLockExpired_keeps {p : FarNo} : Keeps [.rcd, .flt, .far] s (opLockExpired p s) := by
  unfold opLockExpired
  dsimp only
  split
  · exact keeps_refl _ _
  · exact keeps_ite (keeps_refl _ _) (fault_keeps (by decide) (onFarPort_keeps (by decide) (keeps_refl _ _)))

theorem opFarRead_keeps {r : CmdRef} : Keeps [.out, .rcd, .cmd, .sw, .drv, .fld, .can, .far, .twin] s (opFarRead r s) := by
  unfold opFarRead
  refine onCommand_keeps ?_ (keeps_refl _ _)
  intro c t
  split
  · exact complete_keeps (by decide) (keeps_refl _ _)
  · exact keeps_ite (complete_keeps (by decide) (keeps_refl _ _)) (keeps_ite (complete_keeps (by decide) (keeps_refl _ _)) (keeps_ite (complete_keeps
      (by decide) (keeps_refl _ _)) (keeps_ite (keeps_refl _ _) (farEnter_keeps (by decide) (handOver_keeps (by decide) (keeps_ite (onFarPort_keeps
      (by decide) (keeps_refl _ _)) (keeps_refl _ _)))))))

theorem opFarWrite_keeps {r : CmdRef} : Keeps [.out, .rcd, .cmd, .sw, .drv, .fld, .can, .far, .twin] s (opFarWrite r s) := by
  unfold opFarWrite
  refine onCommand_keeps ?_ (keeps_refl _ _)
  intro c t
  split
  · exact complete_keeps (by decide) (keeps_refl _ _)
  · exact keeps_ite (complete_keeps (by decide) (keeps_refl _ _)) (keeps_ite (complete_keeps (by decide) (keeps_refl _ _)) (keeps_ite (keeps_refl _
      _) (farEnter_keeps (by decide) (handOver_keeps (by decide) (keeps_refl _ _)))))

theorem opFarLock_keeps {r : CmdRef} : Keeps [.out, .rcd, .cmd, .sw, .drv, .fld, .can, .far, .twin] s (opFarLock r s) := by
  unfold opFarLock
  refine onCommand_keeps ?_ (keeps_refl _ _)
  intro c t
  split
  · exact complete_keeps (by decide) (keeps_refl _ _)
  · exact keeps_ite (complete_keeps (by decide) (keeps_refl _ _)) (keeps_ite (keeps_ite (complete_keeps (by decide) (keeps_refl _ _)) (complete_keeps
      (by decide) (onFarPort_keeps (by decide) (keeps_refl _ _)))) (keeps_ite (keeps_refl _ _) (farEnter_keeps (by decide) (handOver_keeps (by
      decide) (keeps_refl _ _)))))

theorem opFarUnlock_keeps {r : CmdRef} : Keeps [.out, .rcd, .cmd, .sw, .drv, .fld, .can, .far, .twin] s (opFarUnlock r s) := by
  unfold opFarUnlock
  refine onCommand_keeps ?_ (keeps_refl _ _)
  intro c t
  split
  · exact complete_keeps (by decide) (keeps_refl _ _)
  · refine keeps_ite (complete_keeps (by decide) (keeps_refl _ _)) ?_
    split
    · exact complete_keeps (by decide) (keeps_refl _ _)
    · exact keeps_ite (complete_keeps (by decide) (keeps_refl _ _)) (keeps_ite (complete_keeps (by decide) (onFarPort_keeps (by decide) (keeps_refl _
        _))) (keeps_ite (keeps_refl _ _) (farEnter_keeps (by decide) (handOver_keeps (by decide) (keeps_refl _ _)))))

/-! ## The twin pair and door access (spec/15 and 16) -/

theorem opTwinLinkUp_keeps : Keeps [.free, .out, .twin] s (opTwinLinkUp s) := by
  unfold opTwinLinkUp
  exact keeps_ite (keeps_refl _ _) (keeps_ite (startPairing_keeps (by decide) (onTwin_keeps (by decide) (keeps_refl _ _))) (onTwin_keeps (by decide)
    (keeps_refl _ _)))

theorem opPairingRetry_keeps : Keeps [.free, .out, .twin] s (opPairingRetry s) := by
  unfold opPairingRetry
  split
  · exact keeps_refl _ _
  · exact keeps_ite (keeps_refl _ _) (startPairing_keeps (by decide) (keeps_refl _ _))

theorem opTwinLinkDown_keeps {detached : Bool} : Keeps [.free, .out, .rcd, .flt, .cmd, .sw, .drv, .fld, .can, .far, .twin] s (opTwinLinkDown detached
    s) := by
  unfold opTwinLinkDown
  exact keeps_ite (keeps_refl _ _) (linkGone_keeps (by decide) (keeps_refl _ _))

theorem opTwinRetransmit_keeps {seq : Nat} : Keeps [.free, .out, .rcd, .flt, .cmd, .sw, .drv, .fld, .can, .far, .twin] s (opTwinRetransmit seq s) :=
    by
  unfold opTwinRetransmit
  split
  · exact keeps_refl _ _
  · exact keeps_ite (keeps_refl _ _) (keeps_ite (linkGone_keeps (by decide) (keeps_refl _ _)) (onTwin_keeps (by decide) (send_keeps (by decide)
      (keeps_refl _ _))))

theorem opMirrorAckTimeout_keeps : Keeps [.free, .out, .rcd, .flt, .cmd, .sw, .drv, .fld, .can, .far, .twin] s (opMirrorAckTimeout s) := by
  unfold opMirrorAckTimeout
  exact keeps_ite (linkGone_keeps (by decide) (keeps_refl _ _)) (keeps_refl _ _)

theorem opTwinHello_keeps {f : List Byte} : Keeps [.free, .out, .rcd, .twin] s (opTwinHello f s) := by
  unfold opTwinHello
  split
  next h => exact keeps_of_eq h (twinTake_keeps (by decide) (keeps_refl _ _))
  next h =>
    refine keeps_ite (twinAnswer_keeps (by decide) (keeps_of_eq h (twinTake_keeps (by decide) (keeps_refl _ _)))) ?_
    dsimp only
    split
    · exact refusePairing_keeps (by decide) (onTwin_keeps (by decide) (keeps_ite (startPairing_keeps (by decide) (twinAnswer_keeps (by decide)
        (keeps_of_eq h (twinTake_keeps (by decide) (keeps_refl _ _))))) (twinAnswer_keeps (by decide) (keeps_of_eq h (twinTake_keeps (by decide)
        (keeps_refl _ _))))))
    · exact twinFrame_keeps (by decide) (onTwin_keeps (by decide) (onTwin_keeps (by decide) (keeps_ite (startPairing_keeps (by decide)
        (twinAnswer_keeps (by decide) (keeps_of_eq h (twinTake_keeps (by decide) (keeps_refl _ _))))) (twinAnswer_keeps (by decide) (keeps_of_eq h
        (twinTake_keeps (by decide) (keeps_refl _ _)))))))

theorem opTwinAttest_keeps {f : List Byte} : Keeps [.out, .pwr, .rcd, .sw, .can, .twin, .acc] s (opTwinAttest f s) := by
  unfold opTwinAttest
  split
  next h => exact keeps_of_eq h (twinTake_keeps (by decide) (keeps_refl _ _))
  next h =>
    dsimp only
    split
    · exact twinAnswer_keeps (by decide) (keeps_of_eq h (twinTake_keeps (by decide) (keeps_refl _ _)))
    · exact keeps_ite (twinAnswer_keeps (by decide) (keeps_of_eq h (twinTake_keeps (by decide) (keeps_refl _ _)))) (keeps_ite (refusePairing_keeps
        (by decide) (twinAnswer_keeps (by decide) (keeps_of_eq h (twinTake_keeps (by decide) (keeps_refl _ _))))) (keeps_ite (leadPairing_keeps (by
        decide) (onTwin_keeps (by decide) (twinAnswer_keeps (by decide) (keeps_of_eq h (twinTake_keeps (by decide) (keeps_refl _ _))))))
        (onTwin_keeps (by decide) (twinAnswer_keeps (by decide) (keeps_of_eq h (twinTake_keeps (by decide) (keeps_refl _ _)))))))

theorem opTwinPaired_keeps {f : List Byte} : Keeps [.free, .out, .pwr, .rcd, .cmd, .sw, .drv, .fld, .can, .far, .twin, .acc] s (opTwinPaired f s) :=
    by
  unfold opTwinPaired
  split
  next h => exact keeps_of_eq h (twinTake_keeps (by decide) (keeps_refl _ _))
  next h =>
    exact keeps_ite (twinAnswer_keeps (by decide) (handoverFrame_keeps (by decide) (keeps_of_eq h (twinTake_keeps (by decide) (keeps_refl _ _)))))
      (roleChanged_keeps (by decide) (dropShared_keeps (by decide) (onTwin_keeps (by decide) (twinAnswer_keeps (by decide) (keeps_of_eq h
      (twinTake_keeps (by decide) (keeps_refl _ _)))))))

theorem opTwinWeft_keeps {f : List Byte} {leadRuns : Bool} : Keeps [.free, .out, .mem, .wt, .rcd, .cmd, .sw, .drv, .fld, .loom, .weft, .can, .far,
    .twin] s (opTwinWeft f leadRuns s) := by
  unfold opTwinWeft
  split
  next h => exact keeps_of_eq h (twinTake_keeps (by decide) (keeps_refl _ _))
  next h =>
    refine keeps_ite (twinAnswer_keeps (by decide) (keeps_of_eq h (twinTake_keeps (by decide) (keeps_refl _ _)))) ?_
    refine keeps_ite (twinAnswer_keeps (by decide) (onTwin_keeps (by decide) (keeps_of_eq h (twinTake_keeps (by decide) (keeps_refl _ _))))) ?_
    dsimp only
    split
    · exact keeps_ite (refusePairing_keeps (by decide) (twinAnswer_keeps (by decide) (handoverFrame_keeps (by decide) (record_keeps (by decide)
        (detailOf_keeps (by decide) (onTwin_keeps (by decide) (keeps_of_eq h (twinTake_keeps (by decide) (keeps_refl _ _))))))))) (twinAnswer_keeps
        (by decide) (handoverFrame_keeps (by decide) (record_keeps (by decide) (detailOf_keeps (by decide) (onTwin_keeps (by decide) (keeps_of_eq h
        (twinTake_keeps (by decide) (keeps_refl _ _))))))))
    · exact keeps_ite (beginStart_keeps (by decide) (twinAnswer_keeps (by decide) (installWeft_keeps (by decide) (onTwin_keeps (by decide)
        (keeps_of_eq h (twinTake_keeps (by decide) (keeps_refl _ _))))))) (twinAnswer_keeps (by decide) (installWeft_keeps (by decide) (onTwin_keeps
        (by decide) (keeps_of_eq h (twinTake_keeps (by decide) (keeps_refl _ _))))))

theorem opTwinHeartbeat_keeps {f : List Byte} {ofs : Int} : Keeps [.out, .wt, .rcd, .sw, .twin] s (opTwinHeartbeat f ofs s) := by
  unfold opTwinHeartbeat
  split
  next h => exact keeps_of_eq h (twinTake_keeps (by decide) (keeps_refl _ _))
  next h =>
    exact keeps_ite (onTwin_keeps (by decide) (twinAnswer_keeps (by decide) (keeps_of_eq h (twinTake_keeps (by decide) (keeps_refl _ _)))))
      (keeps_ite (record_keeps (by decide) (rebase_keeps (by decide) (onWt_keeps (by decide) (onTwin_keeps (by decide) (onTwin_keeps (by decide)
      (twinAnswer_keeps (by decide) (keeps_of_eq h (twinTake_keeps (by decide) (keeps_refl _ _))))))))) (onTwin_keeps (by decide) (onTwin_keeps (by
      decide) (twinAnswer_keeps (by decide) (keeps_of_eq h (twinTake_keeps (by decide) (keeps_refl _ _)))))))

theorem opTwinMirror_keeps {f : List Byte} : Keeps [.out, .mem, .wt, .rcd, .sw, .loom, .weft, .twin] s (opTwinMirror f s) := by
  unfold opTwinMirror
  split
  next h => exact keeps_of_eq h (twinTake_keeps (by decide) (keeps_refl _ _))
  next h =>
    exact inOrder_keeps (by decide) (fun t1 => storeStage_keeps (by decide) (keeps_refl _ _)) (keeps_of_eq h (twinTake_keeps (by decide) (keeps_refl
      _ _)))

theorem opTwinConfigFrame_keeps {f : List Byte} : Keeps [.free, .out, .mem, .pwr, .rcd, .cmd, .sw, .drv, .fld, .can, .far, .twin, .acc] s
    (opTwinConfigFrame f s) := by
  unfold opTwinConfigFrame
  split
  next h => exact keeps_of_eq h (twinTake_keeps (by decide) (keeps_refl _ _))
  next h =>
    exact keeps_ite (keeps_of_eq h (twinTake_keeps (by decide) (keeps_refl _ _))) (roleChanged_keeps (by decide) (flagChanges_keeps (by decide)
      (tokenChanges_keeps (by decide) (inOrder_keeps (by decide) (fun t1 => keeps_forEach (fun x1 t2 => keeps_ite (writeMirrored_keeps (by decide)
      (keeps_refl _ _)) (keeps_refl _ _)) (keeps_refl _ _)) (keeps_of_eq h (twinTake_keeps (by decide) (keeps_refl _ _)))))))

theorem opTwinLoomData_keeps {f : List Byte} : Keeps [.out, .mem, .twin] s (opTwinLoomData f s) := by
  unfold opTwinLoomData
  split
  next h => exact keeps_of_eq h (twinTake_keeps (by decide) (keeps_refl _ _))
  next h =>
    exact keeps_ite (twinAnswer_keeps (by decide) (keeps_of_eq h (twinTake_keeps (by decide) (keeps_refl _ _)))) (writeMem_keeps (by decide)
      (keeps_forEach (fun x1 t1 => keeps_ite (writeMem_keeps (by decide) (keeps_refl _ _)) (keeps_refl _ _)) (twinAnswer_keeps (by decide)
      (keeps_of_eq h (twinTake_keeps (by decide) (keeps_refl _ _))))))

theorem opTwinAck_keeps {f : List Byte} : Keeps [.free, .out, .mem, .rcd, .cmd, .sw, .drv, .fld, .weft, .can, .far, .twin] s (opTwinAck f s) := by
  unfold opTwinAck
  split
  next h => exact keeps_of_eq h (twinTake_keeps (by decide) (keeps_refl _ _))
  next h =>
    dsimp only
    split
    · exact keeps_of_eq h (twinTake_keeps (by decide) (keeps_refl _ _))
    · exact lockstepDue_keeps (by decide) (keeps_ite (commitAcked_keeps (by decide) (startAcked_keeps (by decide) (flushHeld_keeps (by decide)
        (onTwin_keeps (by decide) (keeps_of_eq h (twinTake_keeps (by decide) (keeps_refl _ _))))))) (startAcked_keeps (by decide) (flushHeld_keeps
        (by decide) (onTwin_keeps (by decide) (keeps_of_eq h (twinTake_keeps (by decide) (keeps_refl _ _)))))))

theorem opTwinRelease_keeps {f : List Byte} : Keeps [.out, .twin] s (opTwinRelease f s) := by
  unfold opTwinRelease
  split
  next h => exact keeps_of_eq h (twinTake_keeps (by decide) (keeps_refl _ _))
  next h => exact onTwin_keeps (by decide) (twinAnswer_keeps (by decide) (keeps_of_eq h (twinTake_keeps (by decide) (keeps_refl _ _))))

theorem opPllLost_keeps {n : Isl} : Keeps [.free, .out, .clk, .wt, .pwr, .rcd, .flt, .cmd, .sw, .drv, .fld, .loom, .weft, .can, .eth, .far, .twin,
    .acc] s (opPllLost n s) := by
  unfold opPllLost
  refine keeps_ite (keeps_refl _ _) ?_
  dsimp only
  split
  · exact keeps_ite (boundary_keeps (by decide) (onWeft_keeps (by decide) (fault_keeps (by decide) (onClk_keeps (by decide) (keeps_refl _ _)))))
      (haltWeft_keeps (by decide) (fault_keeps (by decide) (onClk_keeps (by decide) (keeps_refl _ _))))
  · exact etherStops_keeps (by decide) (fault_keeps (by decide) (onClk_keeps (by decide) (keeps_refl _ _)))
  · exact radioEval_keeps (by decide) (fault_keeps (by decide) (onClk_keeps (by decide) (keeps_refl _ _)))
  · exact keeps_ite (linkGone_keeps (by decide) (fault_keeps (by decide) (onClk_keeps (by decide) (keeps_refl _ _)))) (fault_keeps (by decide)
      (onClk_keeps (by decide) (keeps_refl _ _)))
  · exact fault_keeps (by decide) (onClk_keeps (by decide) (keeps_refl _ _))

theorem opHandoverRequest_keeps {f : List Byte} : Keeps [.out, .twin] s (opHandoverRequest f s) := by
  unfold opHandoverRequest
  split
  next h => exact keeps_of_eq h (handoverTake_keeps (by decide) (keeps_refl _ _))
  next h => exact handoverFrame_keeps (by decide) (keeps_of_eq h (handoverTake_keeps (by decide) (keeps_refl _ _)))

theorem opHandoverAccept_keeps {f : List Byte} : Keeps [.out, .twin] s (opHandoverAccept f s) := by
  unfold opHandoverAccept
  split
  next h => exact keeps_of_eq h (handoverTake_keeps (by decide) (keeps_refl _ _))
  next h => exact onTwin_keeps (by decide) (keeps_of_eq h (handoverTake_keeps (by decide) (keeps_refl _ _)))

theorem opHandoverRefuse_keeps {f : List Byte} : Keeps [.out, .rcd, .cmd, .sw, .drv, .fld, .can, .far, .twin] s (opHandoverRefuse f s) := by
  unfold opHandoverRefuse
  split
  next h => exact keeps_of_eq h (handoverTake_keeps (by decide) (keeps_refl _ _))
  next h => exact refusedByShadow_keeps (by decide) (keeps_of_eq h (handoverTake_keeps (by decide) (keeps_refl _ _)))

theorem opTwinHandover_keeps {r : CmdRef} : Keeps [.out, .rcd, .cmd, .sw, .drv, .fld, .can, .far, .twin] s (opTwinHandover r s) := by
  unfold opTwinHandover
  exact onCommand_keeps (fun c t => keeps_ite (complete_keeps (by decide) (keeps_refl _ _)) (keeps_ite (complete_keeps (by decide) (keeps_refl _ _))
    (keeps_ite (complete_keeps (by decide) (keeps_refl _ _)) (handoverFrame_keeps (by decide) (onTwin_keeps (by decide) (handOver_keeps (by decide)
    (keeps_refl _ _))))))) (keeps_refl _ _)

theorem opTwinStatus_keeps {r : CmdRef} : Keeps [.out, .rcd, .cmd, .sw, .drv, .fld, .can, .far, .twin] s (opTwinStatus r s) := by
  unfold opTwinStatus
  exact onCommand_keeps (fun c t => keeps_ite (complete_keeps (by decide) (keeps_refl _ _)) (complete_keeps (by decide) (keeps_refl _ _)))
    (keeps_refl _ _)

theorem opHandoverGo_keeps {f : List Byte} : Keeps [.free, .out, .pwr, .rcd, .cmd, .sw, .drv, .fld, .can, .far, .twin, .acc] s (opHandoverGo f s) :=
    by
  unfold opHandoverGo
  split
  next h => exact keeps_of_eq h (handoverTake_keeps (by decide) (keeps_refl _ _))
  next h =>
    exact keeps_ite (keeps_of_eq h (handoverTake_keeps (by decide) (keeps_refl _ _))) (restoreGroups_keeps (by decide) (takeShared_keeps (by decide)
      (onTwin_keeps (by decide) (seize_keeps (by decide) (keeps_of_eq h (handoverTake_keeps (by decide) (keeps_refl _ _)))))))

theorem opHandoverComplete_keeps : Keeps [.free, .out, .pwr, .rcd, .cmd, .sw, .drv, .fld, .can, .far, .twin, .acc] s (opHandoverComplete s) := by
  unfold opHandoverComplete
  split
  · exact keeps_refl _ _
  · refine keeps_ite (keeps_refl _ _) ?_
    split
    · exact record_keeps (by decide) (onTwin_keeps (by decide) (keeps_refl _ _))
    · exact keeps_forEach (fun x2 t => onGroup_keeps (by decide) (keeps_refl _ _)) (roleChanged_keeps (by decide) (onTwin_keeps (by decide)
        (dropShared_keeps (by decide) (completeId_keeps (by decide) (record_keeps (by decide) (keeps_ite (twinFrame_keeps (by decide) (keeps_refl _
        _)) (keeps_refl _ _)))))))

theorem opTokenReleaseHoldEnd_keeps {low : Bool} : Keeps [.free, .out, .pwr, .rcd, .cmd, .sw, .drv, .fld, .can, .far, .twin, .acc] s
    (opTokenReleaseHoldEnd low s) := by
  unfold opTokenReleaseHoldEnd
  split
  · exact keeps_refl _ _
  · exact keeps_ite (keeps_refl _ _) (keeps_ite (roleChanged_keeps (by decide) (onTwin_keeps (by decide) (dropShared_keeps (by decide) (keeps_refl _
      _)))) (dropShared_keeps (by decide) (keeps_refl _ _)))

theorem opTwinConfig_keeps {r : CmdRef} : Keeps [.free, .out, .pwr, .rcd, .cmd, .sw, .drv, .fld, .can, .far, .twin, .acc] s (opTwinConfig r s) := by
  unfold opTwinConfig
  exact onCommand_keeps (fun c t => keeps_ite (complete_keeps (by decide) (keeps_refl _ _)) (keeps_ite (complete_keeps (by decide) (keeps_refl _ _))
    (complete_keeps (by decide) (keeps_ite (enterPair_keeps (by decide) (onTwin_keeps (by decide) (keeps_refl _ _))) (keeps_ite (leavePair_keeps (by
    decide) (onTwin_keeps (by decide) (keeps_refl _ _))) (onTwin_keeps (by decide) (keeps_refl _ _))))))) (keeps_refl _ _)

theorem opCableSense_keeps {deciohm : Nat} {low : Bool} : Keeps [.twin] s (opCableSense deciohm low s) := by
  unfold opCableSense
  exact keeps_ite (keeps_refl _ _) (onTwin_keeps (by decide) (keeps_refl _ _))

theorem opTakeover_keeps : Keeps [.free, .out, .pwr, .rcd, .flt, .cmd, .sw, .drv, .fld, .can, .far, .twin, .acc] s (opTakeover s) := by
  unfold opTakeover
  exact keeps_ite (keeps_refl _ _) (keeps_ite (fault_keeps (by decide) (onTwin_keeps (by decide) (onTwin_keeps (by decide) (keeps_refl _ _))))
    (keeps_ite (fault_keeps (by decide) (onTwin_keeps (by decide) (onTwin_keeps (by decide) (keeps_refl _ _)))) (takeOver_keeps (by decide)
    (onTwin_keeps (by decide) (keeps_refl _ _)))))

theorem opLoneLead_keeps {low : Bool} : Keeps [.pwr, .rcd, .sw, .can, .twin, .acc] s (opLoneLead low s) := by
  unfold opLoneLead
  exact keeps_ite (onTwin_keeps (by decide) (keeps_refl _ _)) (keeps_ite (onTwin_keeps (by decide) (keeps_refl _ _)) (record_keeps (by decide)
    (seize_keeps (by decide) (onTwin_keeps (by decide) (keeps_refl _ _)))))

theorem opFieldFrameReceive_keeps {crcOk : Bool} : Keeps [.out, .supply, .rcd, .flt, .cmd, .sw, .drv, .fld, .can, .far, .twin, .acc] s
    (opFieldFrameReceive crcOk s) := by
  unfold opFieldFrameReceive
  exact keeps_ite (receiveField_keeps (by decide) (keeps_refl _ _)) (keeps_ite (keeps_ite (relStop_keeps (by decide) (record_keeps (by decide)
    (onAcc_keeps (by decide) (receiveField_keeps (by decide) (keeps_refl _ _))))) (receiveField_keeps (by decide) (keeps_refl _ _))) (onAcc_keeps (by
    decide) (keeps_ite (doorEvent_keeps (by decide) (keeps_ite (relStop_keeps (by decide) (record_keeps (by decide) (onAcc_keeps (by decide)
    (receiveField_keeps (by decide) (keeps_refl _ _))))) (receiveField_keeps (by decide) (keeps_refl _ _)))) (keeps_ite (relStop_keeps (by decide)
    (record_keeps (by decide) (onAcc_keeps (by decide) (receiveField_keeps (by decide) (keeps_refl _ _))))) (receiveField_keeps (by decide)
    (keeps_refl _ _))))))

theorem opBurstStart_keeps : Keeps [.pwr, .acc] s (opBurstStart s) := by
  unfold opBurstStart
  exact keeps_ite (keeps_refl _ _) (onAcc_keeps (by decide) (radioPower_keeps (by decide) (keeps_refl _ _)))

theorem opUwbPoll_keeps {seen : Vector SlotSeen 8} : Keeps [.free, .out, .pwr, .rcd, .acc] s (opUwbPoll seen s) := by
  unfold opUwbPoll
  split
  · exact keeps_refl _ _
  · refine keeps_ite (keeps_refl _ _) ?_
    split
    next h1 =>
      exact keeps_forEach (fun x2 t1 => decideToken_keeps (by decide) (keeps_refl _ _)) (onAcc_keeps (by decide) (send_keeps (by decide) (keeps_of_eq
        h1 (pollNonce_keeps (by decide) (keeps_refl _ _)))))

theorem opBurstEnd_keeps : Keeps [.pwr, .rcd, .acc] s (opBurstEnd s) := by
  unfold opBurstEnd
  split
  · exact keeps_refl _ _
  · refine keeps_ite (keeps_refl _ _) ?_
    refine radioEval_keeps (by decide) ?_
    refine radioPower_keeps (by decide) ?_
    split
    · exact countFailure_keeps (by decide) (onAcc_keeps (by decide) (keeps_refl _ _))
    · exact onAcc_keeps (by decide) (keeps_refl _ _)

theorem opFailureDelayEnd_keeps : Keeps [.acc] s (opFailureDelayEnd s) := by
  unfold opFailureDelayEnd
  split
  · exact keeps_refl _ _
  · exact keeps_ite (keeps_refl _ _) (onAcc_keeps (by decide) (keeps_refl _ _))

theorem opFailDecay_keeps : Keeps [.acc] s (opFailDecay s) := by
  unfold opFailDecay
  exact keeps_ite (keeps_refl _ _) (onAcc_keeps (by decide) (keeps_refl _ _))

theorem opLeaseExpiry_keeps : Keeps [.rcd, .can, .acc] s (opLeaseExpiry s) := by
  unfold opLeaseExpiry
  exact keeps_ite (keeps_refl _ _) (relStop_keeps (by decide) (record_keeps (by decide) (onAcc_keeps (by decide) (keeps_refl _ _))))

theorem opTokenEnrol_keeps {r : CmdRef} : Keeps [.out, .rcd, .cmd, .sw, .drv, .fld, .can, .far, .twin, .acc] s (opTokenEnrol r s) := by
  unfold opTokenEnrol
  refine onCommand_keeps ?_ (keeps_refl _ _)
  intro c t
  refine keeps_ite (complete_keeps (by decide) (keeps_refl _ _)) ?_
  split
  · split
    · exact complete_keeps (by decide) (keeps_refl _ _)
    · exact keeps_ite (complete_keeps (by decide) (keeps_refl _ _)) (complete_keeps (by decide) (record_keeps (by decide) (onAcc_keeps (by decide)
        (keeps_refl _ _))))
  · exact keeps_ite (complete_keeps (by decide) (keeps_refl _ _)) (keeps_ite (complete_keeps (by decide) (keeps_refl _ _)) (complete_keeps (by
      decide) (record_keeps (by decide) (onAcc_keeps (by decide) (keeps_refl _ _)))))

theorem opTokenRevoke_keeps {r : CmdRef} : Keeps [.out, .rcd, .cmd, .sw, .drv, .fld, .can, .far, .twin, .acc] s (opTokenRevoke r s) := by
  unfold opTokenRevoke
  refine onCommand_keeps ?_ (keeps_refl _ _)
  intro c t
  dsimp only
  split
  · exact complete_keeps (by decide) (keeps_refl _ _)
  · refine keeps_ite (complete_keeps (by decide) (keeps_refl _ _)) ?_
    split
    · exact complete_keeps (by decide) (keeps_refl _ _)
    · exact complete_keeps (by decide) (record_keeps (by decide) (onAcc_keeps (by decide) (keeps_refl _ _)))

theorem opReleaseConfigUnpair_keeps {r : CmdRef} : Keeps [.out, .rcd, .cmd, .sw, .drv, .fld, .can, .far, .twin, .acc] s (opReleaseConfigUnpair r s)
    := by
  unfold opReleaseConfigUnpair
  exact onCommand_keeps (fun c t => keeps_ite (keeps_refl _ _) (keeps_ite (complete_keeps (by decide) (keeps_refl _ _)) (keeps_ite (complete_keeps
    (by decide) (keeps_refl _ _)) (complete_keeps (by decide) (onAcc_keeps (by decide) (relStop_keeps (by decide) (onAcc_keeps (by decide)
    (keeps_refl _ _)))))))) (keeps_refl _ _)

theorem opReleaseConfigRenew_keeps {r : CmdRef} : Keeps [.out, .rcd, .cmd, .sw, .drv, .fld, .can, .far, .twin, .acc] s (opReleaseConfigRenew r s) :=
    by
  unfold opReleaseConfigRenew
  exact onCommand_keeps (fun c t => keeps_ite (keeps_refl _ _) (keeps_ite (complete_keeps (by decide) (keeps_refl _ _)) (keeps_ite (complete_keeps
    (by decide) (keeps_refl _ _)) (relStart_keeps (by decide) (complete_keeps (by decide) (record_keeps (by decide) (onAcc_keeps (by decide)
    (keeps_refl _ _)))))))) (keeps_refl _ _)

theorem opLockout_keeps {r : CmdRef} : Keeps [.out, .rcd, .cmd, .sw, .drv, .fld, .can, .far, .twin, .acc] s (opLockout r s) := by
  unfold opLockout
  exact onCommand_keeps (fun c t => keeps_ite (keeps_refl _ _) (keeps_ite (complete_keeps (by decide) (keeps_refl _ _)) (complete_keeps (by decide)
    (keeps_ite (keeps_refl _ _) (relStop_keeps (by decide) (record_keeps (by decide) (onAcc_keeps (by decide) (keeps_refl _ _)))))))) (keeps_refl _ _)

theorem opClearLockout_keeps {r : CmdRef} : Keeps [.out, .rcd, .cmd, .sw, .drv, .fld, .can, .far, .twin, .acc] s (opClearLockout r s) := by
  unfold opClearLockout
  exact onCommand_keeps (fun c t => keeps_ite (keeps_refl _ _) (keeps_ite (complete_keeps (by decide) (keeps_refl _ _)) (keeps_ite (complete_keeps
    (by decide) (keeps_refl _ _)) (complete_keeps (by decide) (relStart_keeps (by decide) (record_keeps (by decide) (onAcc_keeps (by decide)
    (keeps_refl _ _)))))))) (keeps_refl _ _)

theorem opClearTamper_keeps {r : CmdRef} : Keeps [.out, .rcd, .cmd, .sw, .drv, .fld, .can, .far, .twin, .acc] s (opClearTamper r s) := by
  unfold opClearTamper
  exact onCommand_keeps (fun c t => keeps_ite (keeps_refl _ _) (keeps_ite (complete_keeps (by decide) (keeps_refl _ _)) (keeps_ite (complete_keeps
    (by decide) (keeps_refl _ _)) (complete_keeps (by decide) (relStart_keeps (by decide) (record_keeps (by decide) (onAcc_keeps (by decide)
    (keeps_refl _ _)))))))) (keeps_refl _ _)

theorem opTokenList_keeps {r : CmdRef} : Keeps [.out, .rcd, .cmd, .sw, .drv, .fld, .can, .far, .twin] s (opTokenList r s) := by
  unfold opTokenList
  exact onCommand_keeps (fun c t => keeps_ite (complete_keeps (by decide) (keeps_refl _ _)) (complete_keeps (by decide) (keeps_refl _ _)))
    (keeps_refl _ _)

theorem opReleaseConfigSet_keeps {r : CmdRef} : Keeps [.out, .pwr, .rcd, .cmd, .sw, .drv, .fld, .can, .far, .twin, .acc] s (opReleaseConfigSet r s)
    := by
  unfold opReleaseConfigSet
  exact onCommand_keeps (fun c t => keeps_ite (keeps_refl _ _) (keeps_ite (complete_keeps (by decide) (keeps_refl _ _)) (keeps_ite (complete_keeps
    (by decide) (keeps_refl _ _)) (complete_keeps (by decide) (keeps_ite (radioEval_keeps (by decide) (onAcc_keeps (by decide) (keeps_refl _ _)))
    (onAcc_keeps (by decide) (keeps_refl _ _))))))) (keeps_refl _ _)

theorem opReleaseConfigPair_keeps {r : CmdRef} : Keeps [.free, .out, .rcd, .cmd, .sw, .drv, .fld, .can, .far, .twin, .acc] s (opReleaseConfigPair r
    s) := by
  unfold opReleaseConfigPair
  refine onCommand_keeps ?_ (keeps_refl _ _)
  intro c t
  refine keeps_ite (keeps_refl _ _) ?_
  refine keeps_ite (complete_keeps (by decide) (keeps_refl _ _)) ?_
  refine keeps_ite (complete_keeps (by decide) (keeps_refl _ _)) ?_
  refine keeps_ite (complete_keeps (by decide) (keeps_refl _ _)) ?_
  refine keeps_ite (complete_keeps (by decide) (keeps_refl _ _)) ?_
  split
  next h =>
    split
    next h1 =>
      exact relStart_keeps (by decide) (complete_keeps (by decide) (record_keeps (by decide) (onAcc_keeps (by decide) (keeps_of_eq h1
        (drawBytes_keeps (by decide) (keeps_of_eq h (draw_keeps (by decide) (keeps_refl _ _))))))))

theorem opReleaseStopped_keeps : Keeps [.rcd, .can, .acc] s (opReleaseStopped s) := by
  unfold opReleaseStopped
  exact relStop_keeps (by decide) (keeps_refl _ _)

end

/-! ## The table of the parts -/

/-- The parts of the state a command of the table may change. -/
def touches : Instr → List Part
  | .auxLoss .. => [.free, .out, .mem, .supply, .clk, .wt, .links, .pwr, .rcd, .flt, .cmd, .sw, .drv, .fld, .loom, .weft, .can, .nm, .eth, .far,
    .twin, .acc, .id]
  | .sleepEntry | .deepSleepEntry => [.free, .out, .mem, .supply, .clk, .wt, .links, .pwr, .rcd, .flt, .cmd, .sw, .drv, .fld, .loom, .weft, .can,
    .nm, .eth, .far, .twin, .acc, .id]
  | .reserveEnd .. => [.out, .supply, .clk, .wt, .pwr, .rcd, .flt, .cmd, .sw, .drv, .fld, .weft, .can, .nm, .eth, .far, .twin, .acc, .id]
  | .auxRestore | .vbusFault | .vbusRestore => [.supply]
  | .supplyMonitorUpdate .. => [.supply]
  | .pwrLow .. => [.supply, .rcd, .drv]
  | .pwrRestored .. => [.supply, .rcd, .sw, .drv]
  | .keepColdStart .. => [.mem, .supply, .clk, .ccfg, .wt, .links, .pwr, .rcd, .flt, .cmd, .sw, .drv, .fld, .loom, .weft, .can, .nm, .eth, .far,
    .twin, .acc, .id]
  | .idleEntry => [.pwr]
  | .idleExit => [.pwr, .flt]
  | .offEntry => [.out, .supply, .pwr, .rcd, .flt, .cmd, .sw, .drv, .fld, .can, .far, .twin, .acc]
  | .sleepWake .. => [.out, .clk, .wt, .pwr, .rcd, .flt, .sw, .drv, .fld, .weft, .can, .nm, .eth, .acc, .id]
  | .pwrConfig .. | .pwrEnter .. => [.out, .pwr, .rcd, .cmd, .sw, .drv, .fld, .can, .far, .twin]
  | .wakeSource .. => [.out, .rcd, .cmd, .sw, .drv, .fld, .can, .far, .twin]
  | .wakeRisingEdge => [.pwr, .flt, .acc]
  | .xoStable | .xoPllSettled | .xoReturn => [.clk, .pwr, .rcd, .acc]
  | .hfoTrimConverged .. => [.clk]
  | .lfoTrimConverged .. => [.clk]
  | .xoRetry => [.clk]
  | .xoFail => [.clk, .rcd, .flt]
  | .clkstuck .. => [.clk, .rcd, .flt]
  | .trimSource .. => [.clk, .rcd]
  | .syncInEdge .. => [.clk, .rcd]
  | .xoLoss .. => [.clk, .pwr, .rcd, .flt, .acc]
  | .warpStep .. => [.wt, .rcd, .sw]
  | .warpLoRead | .warpPtpOffsetLoRead => [.wt]
  | .shuttleAck .. | .shuttleRetransmit .. => [.out, .links, .rcd, .flt, .cmd, .sw, .drv, .fld, .can, .far, .twin]
  | .frameMark .. => [.now, .free, .out, .clk, .wt, .links, .pwr, .rcd, .flt, .cmd, .sw, .drv, .fld, .loom, .weft, .can, .nm, .eth, .far, .twin, .acc]
  | .recordWrite .. => [.out, .supply, .rcd, .flt, .cmd, .sw, .drv, .fld, .can, .far, .twin]
  | .tailSectorErase .. => [.out, .rcd, .flt, .cmd, .sw, .drv, .fld, .can, .far, .twin]
  | .rateToken | .counterSave => [.rcd]
  | .opSecond => [.rcd, .sw]
  | .recInfo .. | .recAppend .. => [.out, .rcd, .cmd, .sw, .drv, .fld, .can, .far, .twin]
  | .nop | .cmp | .tst | .btst | .bcc | .call | .ret | .jmpi | .yield | .done | .mulu | .muls | .rep | .repi | .fence | .waitslot | .puts => [.out,
    .rcd, .flt, .cmd, .sw, .drv, .fld, .loom, .weft, .can, .far, .twin]
  | .mov | .movsx | .lea | .add | .adc | .sub | .sbc | .and | .or | .xor | .not | .neg | .shl | .shr | .sar | .ror | .addm | .subm | .bset | .bclr |
    .dadd | .dadc | .dsub | .dsbc | .dadj | .cvbd | .cvdb | .recv | .gets => [.out, .mem, .rcd, .flt, .cmd, .sw, .drv, .fld, .loom, .weft, .can,
    .far, .twin]
  | .mulComplete => [.loom]
  | .send => [.out, .links, .rcd, .flt, .cmd, .sw, .drv, .fld, .loom, .weft, .can, .far, .twin]
  | .loomDataReceive .. => [.links, .rcd, .flt, .loom]
  | .segmentStart => [.out, .rcd, .cmd, .sw, .drv, .fld, .loom, .weft, .can, .far, .twin]
  | .wcet .. | .deadline .. => [.rcd, .flt, .loom, .weft]
  | .selvedgeCommit => [.out, .mem, .links, .rcd, .flt, .loom, .twin]
  | .commitReceive .. => [.links, .rcd, .flt, .sw, .drv]
  | .heartbeatReceive .. => [.out, .links, .rcd, .flt, .cmd, .sw, .drv, .fld, .can, .far, .twin]
  | .commandDue .. => [.free, .out, .rcd, .flt, .cmd, .sw, .drv, .fld, .can, .far, .twin]
  | .weftLoadBegin .. => [.out, .rcd, .cmd, .sw, .drv, .fld, .can, .far, .twin]
  | .weftCommit .. | .weftSwap .. => [.free, .out, .mem, .rcd, .cmd, .sw, .drv, .fld, .weft, .can, .far, .twin]
  | .ownershipEvaluation => [.free, .out, .mem, .rcd, .cmd, .sw, .drv, .fld, .weft, .can, .far, .twin]
  | .weftStart .. => [.out, .mem, .wt, .rcd, .cmd, .sw, .drv, .fld, .loom, .weft, .can, .far, .twin]
  | .weftStop .. => [.out, .rcd, .cmd, .sw, .drv, .fld, .weft, .can, .far, .twin]
  | .weftAutostart => [.free, .mem, .wt, .rcd, .sw, .loom, .weft]
  | .weftStarted => [.out, .rcd, .cmd, .sw, .drv, .fld, .loom, .weft, .can, .nm, .eth, .far, .twin]
  | .weftStopped => [.free, .out, .rcd, .cmd, .sw, .drv, .fld, .loom, .weft, .can, .nm, .eth, .far, .twin]
  | .weftSwapped => [.free, .out, .rcd, .cmd, .sw, .drv, .fld, .loom, .weft, .can, .far, .twin]
  | .switchCmd .. => [.links, .rcd, .flt, .sw]
  | .switchReadRequest .. => [.links, .rcd, .flt]
  | .pwmPeriodStart .. | .pwmOffEdge .. | .pulseEnd .. | .profileSegmentEnd .. | .peakReset .. | .retryWindowExpiry .. => [.sw]
  | .pgPeriodWrite .. => [.sw]
  | .envelopeEventClose .. => [.sw]
  | .scanSample .. => [.supply, .sw]
  | .orphanEnter .. => [.rcd, .sw]
  | .orphanSafe .. | .openLoadOnDetect .. | .loadReturnedOn .. => [.rcd, .sw]
  | .pauseExpiry .. => [.rcd, .sw]
  | .openLoadOffDetect .. | .loadReturnedOff .. => [.rcd, .sw]
  | .shed .. => [.rcd, .sw]
  | .switchReset => [.out, .mem, .supply, .clk, .links, .rcd, .flt, .cmd, .sw, .drv, .fld, .can, .far, .twin]
  | .shortTrip .. => [.rcd, .flt, .sw]
  | .overcurrentTrip .. | .coolingLimit .. => [.rcd, .flt, .sw]
  | .thermalShutdown .. | .coolingRestart .. => [.rcd, .flt, .sw]
  | .envelopeEvent .. => [.rcd, .flt, .sw, .drv]
  | .rechargeResume => [.sw, .drv]
  | .swClearLatch .. => [.out, .rcd, .cmd, .sw, .drv, .fld, .can, .far, .twin]
  | .admitLimit .. => [.out, .rcd, .cmd, .sw, .drv, .fld, .can, .far, .twin]
  | .swGet .. | .swConfig .. | .swAdopt .. => [.out, .rcd, .cmd, .sw, .drv, .fld, .can, .far, .twin]
  | .swSet .. => [.out, .links, .rcd, .cmd, .sw, .drv, .fld, .can, .far, .twin]
  | .thermalBudgetEval .. => [.supply, .rcd, .flt, .sw, .drv]
  | .thermalShedStart => [.rcd, .flt, .sw]
  | .thermalShed => [.rcd, .sw]
  | .vboostReady .. | .vboostOv .. | .vboostAtVbSet .. => [.drv]
  | .boostGrant .. | .decayEnd .. | .freewheelLatchExpiry .. | .clearLearned .. => [.drv]
  | .bankOverloadClear .. => [.drv]
  | .boostFail .. => [.rcd, .flt, .drv]
  | .holdUnreachable .. => [.rcd, .flt, .drv]
  | .bankOverload .. => [.rcd, .flt, .drv]
  | .boostCut .. => [.rcd, .drv]
  | .bankDeferExpiry .. | .actuatorFire .. | .actuatorRelease .. | .openCoil .. => [.free, .out, .rcd, .flt, .cmd, .sw, .drv, .fld, .can, .far, .twin]
  | .controlUpdate .. => [.free, .out, .rcd, .flt, .cmd, .sw, .drv, .fld, .can, .far, .twin]
  | .shortedCoil .. => [.free, .out, .rcd, .flt, .cmd, .sw, .drv, .fld, .can, .far, .twin]
  | .bankFault .. => [.free, .out, .rcd, .flt, .cmd, .sw, .drv, .fld, .can, .far, .twin]
  | .driveCmd .. => [.links, .rcd, .flt, .drv]
  | .driveReadRequest .. => [.links, .rcd, .flt]
  | .actuatorOrphanEnter .. => [.free, .out, .rcd, .cmd, .sw, .drv, .fld, .can, .far, .twin]
  | .actuatorOrphanSafe .. => [.free, .out, .rcd, .cmd, .sw, .drv, .fld, .can, .far, .twin]
  | .acConfig .. => [.free, .out, .rcd, .cmd, .sw, .drv, .fld, .can, .far, .twin]
  | .driveReset => [.free, .out, .mem, .clk, .links, .rcd, .flt, .cmd, .sw, .drv, .fld, .can, .far, .twin]
  | .acLoadBobbin .. => [.out, .mem, .rcd, .cmd, .sw, .drv, .fld, .can, .far, .twin]
  | .acFire .. | .acRelease .. => [.out, .links, .rcd, .cmd, .sw, .drv, .fld, .can, .far, .twin]
  | .acGet .. => [.out, .rcd, .cmd, .sw, .drv, .fld, .can, .far, .twin]
  | .barrierFrame .. => [.out, .rcd, .cmd, .sw, .drv, .fld, .can, .far, .twin]
  | .fieldStop .. => [.out, .rcd, .cmd, .sw, .drv, .fld, .can, .far, .twin]
  | .fioSet .. | .fioGet .. | .fioConfig .. => [.out, .rcd, .cmd, .sw, .drv, .fld, .can, .far, .twin]
  | .logicFrameReceive .. => [.rcd, .fld]
  | .stuck .. | .chatter .. => [.rcd, .fld]
  | .fastCountEdge .. => [.rcd, .fld]
  | .fieldStale => [.out, .supply, .rcd, .cmd, .sw, .drv, .fld, .can, .far, .twin]
  | .logicSilent | .fieldWatchdog => [.fld]
  | .fieldConfigWrite .. => [.fld]
  | .counterClear .. => [.fld]
  | .fieldFlagClear .. => [.fld]
  | .fieldStart .. => [.pwr, .fld]
  | .foOverload .. => [.rcd, .flt, .fld]
  | .groupLimit .. => [.rcd, .flt, .fld]
  | .fieldDataWord .. => [.links, .rcd, .flt, .fld]
  | .packetReceive .. => [.free, .out, .pwr, .rcd, .flt, .cmd, .sw, .drv, .fld, .can, .far, .twin]
  | .commandBegin .. => [.free, .out, .rcd, .cmd, .sw, .drv, .fld, .can, .far, .twin]
  | .sessionTimeout .. => [.pwr, .rcd, .flt, .cmd, .sw, .drv, .fld, .far]
  | .ping .. | .sessionClose .. | .groupResume .. | .groupAbort .. | .fenceCmd .. => [.out, .rcd, .cmd, .sw, .drv, .fld, .can, .far, .twin]
  | .info .. | .getState .. | .dpOpen .. | .dpClose .. | .dpCommit .. => [.out, .rcd, .cmd, .sw, .drv, .fld, .can, .far, .twin]
  | .dpRead .. => [.out, .wt, .links, .rcd, .flt, .cmd, .sw, .drv, .fld, .can, .far, .twin]
  | .dpWrite .. => [.free, .out, .mem, .supply, .clk, .ccfg, .links, .rcd, .flt, .cmd, .sw, .drv, .fld, .weft, .can, .nm, .eth, .far, .twin]
  | .sessionOpen .. => [.free, .out, .rcd, .cmd, .sw, .drv, .fld, .can, .far, .twin]
  | .updateCheck .. => [.free, .out, .rcd, .cmd, .sw, .drv, .fld, .can, .far, .twin]
  | .boot .. => [.out, .links, .pwr, .rcd, .flt, .cmd, .sw, .drv, .fld, .loom, .weft, .can, .nm, .far, .twin, .id]
  | .attest .. => [.out, .rcd, .cmd, .sw, .drv, .fld, .can, .far, .twin]
  | .keyAdd .. | .keyRemove .. | .weftFloorRaise .. => [.out, .rcd, .cmd, .sw, .drv, .fld, .can, .far, .twin, .id]
  | .updateArm .. => [.free, .out, .rcd, .cmd, .sw, .drv, .fld, .can, .far, .twin, .id]
  | .updateArmByWake | .wakeFalls => [.rcd, .id]
  | .ownerClaimed .. => [.rcd, .id]
  | .updateStart .. => [.free, .out, .links, .pwr, .rcd, .flt, .cmd, .sw, .drv, .fld, .loom, .weft, .can, .far, .twin, .acc, .id]
  | .updateBlock .. => [.rcd, .flt, .id]
  | .mediumPoll .. => [.rcd, .flt, .id]
  | .faultRead .. => [.out, .rcd, .cmd, .sw, .drv, .fld, .can, .far, .twin]
  | .quietPeriodEnd | .permitRenewal | .permitExpiry => [.rcd, .flt]
  | .faultHandler => [.out, .rcd, .flt, .cmd, .sw, .drv, .fld, .weft, .can, .far, .twin]
  | .faultReport .. => [.free, .out, .mem, .supply, .clk, .wt, .links, .pwr, .rcd, .flt, .cmd, .sw, .drv, .fld, .loom, .weft, .can, .nm, .eth, .far,
    .twin, .acc, .id]
  | .watchdog .. => [.free, .out, .mem, .supply, .clk, .wt, .links, .pwr, .rcd, .flt, .cmd, .sw, .drv, .fld, .loom, .weft, .can, .nm, .eth, .far,
    .twin, .acc, .id]
  | .loomReset | .serviceCoreReset | .networkReset => [.free, .out, .mem, .supply, .clk, .wt, .links, .pwr, .rcd, .flt, .cmd, .sw, .drv, .fld, .loom,
    .weft, .can, .nm, .eth, .far, .twin, .acc, .id]
  | .forceSafeOn => [.free, .out, .pwr, .rcd, .flt, .cmd, .sw, .drv, .fld, .can, .far, .twin]
  | .forceSafeOff => [.rcd, .flt]
  | .canFrameReceive .. => [.free, .out, .clk, .pwr, .rcd, .flt, .cmd, .sw, .drv, .fld, .can, .nm, .eth, .far, .twin]
  | .canError .. => [.out, .rcd, .cmd, .sw, .drv, .fld, .can, .nm, .far, .twin]
  | .canTxComplete .. => [.out, .rcd, .cmd, .sw, .drv, .fld, .can, .nm, .far, .twin]
  | .canAbort .. => [.out, .rcd, .cmd, .sw, .drv, .fld, .can, .nm, .far, .twin]
  | .canConfig .. => [.out, .rcd, .cmd, .sw, .drv, .fld, .can, .nm, .far, .twin]
  | .protocolException .. => [.rcd, .can, .nm]
  | .errorPassive .. | .busOff .. => [.rcd, .flt, .can]
  | .idclash .. => [.rcd, .flt, .can]
  | .errorActive .. | .busRecovered .. => [.rcd, .can]
  | .busIntegrated .. => [.can]
  | .canFilter .. | .canStatus .. => [.out, .rcd, .cmd, .sw, .drv, .fld, .can, .far, .twin]
  | .canSend .. => [.free, .out, .rcd, .cmd, .sw, .drv, .fld, .can, .nm, .far, .twin]
  | .canPeek .. | .canStatusRequest .. => [.free, .links, .rcd, .flt]
  | .canCommit .. | .networkCmdInvalid .. => [.free, .links, .rcd, .flt, .can]
  | .canTx .. => [.free, .links, .rcd, .flt, .can, .nm]
  | .nmFrameSend .. | .nmTimeout .. | .repeatEnd .. => [.can, .nm]
  | .nmSleep .. | .wufErrwake .. => [.free, .pwr, .rcd, .can, .nm]
  | .canWakeDetect .. => [.free, .pwr, .rcd, .can, .nm]
  | .falseWake .. => [.rcd, .can, .nm]
  | .maxAwake .. => [.rcd, .flt, .can, .nm, .eth]
  | .nmKeeper .. => [.rcd, .nm]
  | .nmConfig .. | .nmRequest .. | .nmRequestRepeat .. | .nmRelease .. => [.out, .rcd, .cmd, .sw, .drv, .fld, .can, .nm, .eth, .far, .twin]
  | .tc10SleepRequest .. => [.out, .eth]
  | .tc10SleepReceive .. => [.out, .rcd, .eth]
  | .tc10Wake .. => [.out, .pwr, .rcd, .eth]
  | .tc10SleepAcknowledge .. => [.rcd, .eth]
  | .ethFrameReceive .. => [.out, .clk, .pwr, .rcd, .flt, .eth]
  | .macAgeOut .. => [.eth]
  | .macTableFull => [.rcd, .eth]
  | .linkUp .. => [.rcd, .eth]
  | .linkDown .. => [.rcd, .flt, .eth]
  | .pdelayMeasure .. => [.out, .eth]
  | .tunnelAvtpduClose .. => [.out, .eth]
  | .gptpSync .. => [.clk, .rcd, .eth]
  | .gptpLost .. => [.clk, .wt, .rcd, .eth]
  | .ipAddress .. => [.out, .pwr, .rcd, .flt, .eth]
  | .dhcpRenewal .. => [.out, .pwr, .rcd, .flt, .eth]
  | .dhcpLeaseLost .. => [.out, .pwr, .rcd, .flt, .eth]
  | .farTransactionStart .. => [.out, .far]
  | .modbusFrameReceive .. => [.out, .rcd, .flt, .cmd, .sw, .drv, .fld, .can, .far, .twin]
  | .farTimeout .. | .farTurnaroundEnd .. | .heddleWaitExpiry .. => [.out, .rcd, .flt, .cmd, .sw, .drv, .fld, .can, .far, .twin]
  | .lockExpired .. => [.rcd, .flt, .far]
  | .farRead .. | .farWrite .. | .farLock .. | .farUnlock .. => [.out, .rcd, .cmd, .sw, .drv, .fld, .can, .far, .twin]
  | .twinLinkUp | .pairingRetry => [.free, .out, .twin]
  | .twinLinkDown .. => [.free, .out, .rcd, .flt, .cmd, .sw, .drv, .fld, .can, .far, .twin]
  | .twinRetransmit .. => [.free, .out, .rcd, .flt, .cmd, .sw, .drv, .fld, .can, .far, .twin]
  | .mirrorAckTimeout => [.free, .out, .rcd, .flt, .cmd, .sw, .drv, .fld, .can, .far, .twin]
  | .twinHello .. => [.free, .out, .rcd, .twin]
  | .twinAttest .. => [.out, .pwr, .rcd, .sw, .can, .twin, .acc]
  | .twinPaired .. => [.free, .out, .pwr, .rcd, .cmd, .sw, .drv, .fld, .can, .far, .twin, .acc]
  | .twinWeft .. => [.free, .out, .mem, .wt, .rcd, .cmd, .sw, .drv, .fld, .loom, .weft, .can, .far, .twin]
  | .twinHeartbeat .. => [.out, .wt, .rcd, .sw, .twin]
  | .twinMirror .. => [.out, .mem, .wt, .rcd, .sw, .loom, .weft, .twin]
  | .twinConfigFrame .. => [.free, .out, .mem, .pwr, .rcd, .cmd, .sw, .drv, .fld, .can, .far, .twin, .acc]
  | .twinLoomData .. => [.out, .mem, .twin]
  | .twinAck .. => [.free, .out, .mem, .rcd, .cmd, .sw, .drv, .fld, .weft, .can, .far, .twin]
  | .twinRelease .. => [.out, .twin]
  | .pllLost .. => [.free, .out, .clk, .wt, .pwr, .rcd, .flt, .cmd, .sw, .drv, .fld, .loom, .weft, .can, .eth, .far, .twin, .acc]
  | .handoverRequest .. | .handoverAccept .. => [.out, .twin]
  | .handoverRefuse .. => [.out, .rcd, .cmd, .sw, .drv, .fld, .can, .far, .twin]
  | .twinHandover .. | .twinStatus .. => [.out, .rcd, .cmd, .sw, .drv, .fld, .can, .far, .twin]
  | .handoverGo .. => [.free, .out, .pwr, .rcd, .cmd, .sw, .drv, .fld, .can, .far, .twin, .acc]
  | .handoverComplete => [.free, .out, .pwr, .rcd, .cmd, .sw, .drv, .fld, .can, .far, .twin, .acc]
  | .tokenReleaseHoldEnd .. => [.free, .out, .pwr, .rcd, .cmd, .sw, .drv, .fld, .can, .far, .twin, .acc]
  | .twinConfig .. => [.free, .out, .pwr, .rcd, .cmd, .sw, .drv, .fld, .can, .far, .twin, .acc]
  | .cableSense .. => [.twin]
  | .takeover => [.free, .out, .pwr, .rcd, .flt, .cmd, .sw, .drv, .fld, .can, .far, .twin, .acc]
  | .loneLead .. => [.pwr, .rcd, .sw, .can, .twin, .acc]
  | .fieldFrameReceive .. => [.out, .supply, .rcd, .flt, .cmd, .sw, .drv, .fld, .can, .far, .twin, .acc]
  | .burstStart => [.pwr, .acc]
  | .uwbPoll .. => [.free, .out, .pwr, .rcd, .acc]
  | .burstEnd => [.pwr, .rcd, .acc]
  | .failureDelayEnd | .failDecay => [.acc]
  | .leaseExpiry => [.rcd, .can, .acc]
  | .tokenEnrol .. | .tokenRevoke .. | .releaseConfigUnpair .. | .releaseConfigRenew .. | .lockout .. | .clearLockout .. | .clearTamper .. => [.out,
    .rcd, .cmd, .sw, .drv, .fld, .can, .far, .twin, .acc]
  | .tokenList .. => [.out, .rcd, .cmd, .sw, .drv, .fld, .can, .far, .twin]
  | .releaseConfigSet .. => [.out, .pwr, .rcd, .cmd, .sw, .drv, .fld, .can, .far, .twin, .acc]
  | .releaseConfigPair .. => [.free, .out, .rcd, .cmd, .sw, .drv, .fld, .can, .far, .twin, .acc]
  | .releaseStopped => [.rcd, .can, .acc]

theorem keeps_of_next {ps : List Part} {s t u : State} (h : (.next t : Host.Outcome State Fault Refusal) = .next u) (k : Keeps ps s t) :
    Keeps ps s u := by
  cases h
  exact k

/-- A command that answers a next state has changed only the parts the table gives it. -/
theorem exec_keeps {c : Instr} {s t : State} (h : exec c s = .next t) : Keeps (touches c) s t := by
  cases c with
  | auxLoss => exact keeps_of_next h opAuxLoss_keeps
  | sleepEntry => exact keeps_of_next h opSleepEntry_keeps
  | deepSleepEntry => exact keeps_of_next h opDeepSleepEntry_keeps
  | reserveEnd => exact keeps_of_next h opReserveEnd_keeps
  | auxRestore => exact keeps_of_next h opAuxRestore_keeps
  | vbusFault => exact keeps_of_next h opVbusFault_keeps
  | vbusRestore => exact keeps_of_next h opVbusRestore_keeps
  | supplyMonitorUpdate aux a b c d =>
    have hmaxima : withinMaxima aux a b c d = true := by
      by_contra hout
      exact nomatch (if_neg hout).symm.trans h
    exact keeps_of_next ((if_pos hmaxima).symm.trans h) opSupplyMonitorUpdate_keeps
  | pwrLow => exact keeps_of_next h opPwrLow_keeps
  | pwrRestored => exact keeps_of_next h opPwrRestored_keeps
  | keepColdStart => exact keeps_of_next h opKeepColdStart_keeps
  | idleEntry => exact keeps_of_next h opIdleEntry_keeps
  | idleExit => exact keeps_of_next h opIdleExit_keeps
  | offEntry => exact keeps_of_next h opOffEntry_keeps
  | sleepWake => exact keeps_of_next h opSleepWake_keeps
  | pwrConfig => exact keeps_of_next h opPwrConfig_keeps
  | pwrEnter => exact keeps_of_next h opPwrEnter_keeps
  | wakeSource => exact keeps_of_next h opWakeSource_keeps
  | wakeRisingEdge => exact keeps_of_next h opWakeRisingEdge_keeps
  | xoStable => exact keeps_of_next h opXoStable_keeps
  | xoPllSettled => exact keeps_of_next h opXoPllSettled_keeps
  | xoReturn => exact keeps_of_next h opXoReturn_keeps
  | hfoTrimConverged => exact keeps_of_next h opHfoTrimConverged_keeps
  | lfoTrimConverged => exact keeps_of_next h opLfoTrimConverged_keeps
  | xoRetry => exact keeps_of_next h opXoRetry_keeps
  | xoFail => exact keeps_of_next h opXoFail_keeps
  | clkstuck => exact keeps_of_next h opClkstuck_keeps
  | trimSource => exact keeps_of_next h opTrimSource_keeps
  | syncInEdge => exact keeps_of_next h opSyncInEdge_keeps
  | xoLoss => exact keeps_of_next h opXoLoss_keeps
  | warpStep => exact keeps_of_next h opWarpStep_keeps
  | warpLoRead => exact keeps_of_next h (opWarpLoRead_keeps (List.Subset.refl _) (keeps_refl _ _))
  | warpPtpOffsetLoRead => exact keeps_of_next h (opWarpPtpOffsetLoRead_keeps (List.Subset.refl _) (keeps_refl _ _))
  | shuttleAck => exact keeps_of_next h opShuttleAck_keeps
  | shuttleRetransmit => exact keeps_of_next h opShuttleRetransmit_keeps
  | frameMark => exact keeps_of_next h opFrameMark_keeps
  | recordWrite => exact keeps_of_next h (opRecordWrite_keeps (List.Subset.refl _) (keeps_refl _ _))
  | tailSectorErase => exact keeps_of_next h (opTailSectorErase_keeps (List.Subset.refl _) (keeps_refl _ _))
  | rateToken => exact keeps_of_next h opRateToken_keeps
  | counterSave => exact keeps_of_next h opCounterSave_keeps
  | opSecond => exact keeps_of_next h opOpSecond_keeps
  | recInfo => exact keeps_of_next h opRecInfo_keeps
  | recAppend => exact keeps_of_next h opRecAppend_keeps
  | nop => exact keeps_of_next h opNop_keeps
  | cmp => exact keeps_of_next h opCmp_keeps
  | tst => exact keeps_of_next h opTst_keeps
  | btst => exact keeps_of_next h opBtst_keeps
  | bcc => exact keeps_of_next h opBcc_keeps
  | call => exact keeps_of_next h opCall_keeps
  | ret => exact keeps_of_next h opRet_keeps
  | jmpi => exact keeps_of_next h opJmpi_keeps
  | yield => exact keeps_of_next h opYield_keeps
  | done => exact keeps_of_next h opDone_keeps
  | mulu => exact keeps_of_next h opMulu_keeps
  | muls => exact keeps_of_next h opMuls_keeps
  | rep => exact keeps_of_next h opRep_keeps
  | repi => exact keeps_of_next h opRepi_keeps
  | fence => exact keeps_of_next h opFence_keeps
  | waitslot => exact keeps_of_next h opWaitslot_keeps
  | puts => exact keeps_of_next h opPuts_keeps
  | mov => exact keeps_of_next h opMov_keeps
  | movsx => exact keeps_of_next h opMovsx_keeps
  | lea => exact keeps_of_next h opLea_keeps
  | add => exact keeps_of_next h opAdd_keeps
  | adc => exact keeps_of_next h opAdc_keeps
  | sub => exact keeps_of_next h opSub_keeps
  | sbc => exact keeps_of_next h opSbc_keeps
  | and => exact keeps_of_next h opAnd_keeps
  | or => exact keeps_of_next h opOr_keeps
  | xor => exact keeps_of_next h opXor_keeps
  | not => exact keeps_of_next h opNot_keeps
  | neg => exact keeps_of_next h opNeg_keeps
  | shl => exact keeps_of_next h opShl_keeps
  | shr => exact keeps_of_next h opShr_keeps
  | sar => exact keeps_of_next h opSar_keeps
  | ror => exact keeps_of_next h opRor_keeps
  | addm => exact keeps_of_next h opAddm_keeps
  | subm => exact keeps_of_next h opSubm_keeps
  | bset => exact keeps_of_next h opBset_keeps
  | bclr => exact keeps_of_next h opBclr_keeps
  | dadd => exact keeps_of_next h opDadd_keeps
  | dadc => exact keeps_of_next h opDadc_keeps
  | dsub => exact keeps_of_next h opDsub_keeps
  | dsbc => exact keeps_of_next h opDsbc_keeps
  | dadj => exact keeps_of_next h opDadj_keeps
  | cvbd => exact keeps_of_next h opCvbd_keeps
  | cvdb => exact keeps_of_next h opCvdb_keeps
  | recv => exact keeps_of_next h opRecv_keeps
  | gets => exact keeps_of_next h opGets_keeps
  | mulComplete => exact keeps_of_next h opMulComplete_keeps
  | send => exact keeps_of_next h opSend_keeps
  | loomDataReceive => exact keeps_of_next h opLoomDataReceive_keeps
  | segmentStart => exact keeps_of_next h opSegmentStart_keeps
  | wcet => exact keeps_of_next h opWcet_keeps
  | deadline => exact keeps_of_next h opDeadline_keeps
  | selvedgeCommit => exact keeps_of_next h opSelvedgeCommit_keeps
  | commitReceive => exact keeps_of_next h opCommitReceive_keeps
  | heartbeatReceive => exact keeps_of_next h opHeartbeatReceive_keeps
  | commandDue => exact keeps_of_next h opCommandDue_keeps
  | weftLoadBegin => exact keeps_of_next h opWeftLoadBegin_keeps
  | weftCommit => exact keeps_of_next h opWeftCommit_keeps
  | weftSwap => exact keeps_of_next h opWeftSwap_keeps
  | ownershipEvaluation => exact keeps_of_next h opOwnershipEvaluation_keeps
  | weftStart => exact keeps_of_next h opWeftStart_keeps
  | weftStop => exact keeps_of_next h opWeftStop_keeps
  | weftAutostart => exact keeps_of_next h opWeftAutostart_keeps
  | weftStarted => exact keeps_of_next h opWeftStarted_keeps
  | weftStopped => exact keeps_of_next h opWeftStopped_keeps
  | weftSwapped => exact keeps_of_next h opWeftSwapped_keeps
  | switchCmd => exact keeps_of_next h opSwitchCmd_keeps
  | switchReadRequest => exact keeps_of_next h opSwitchReadRequest_keeps
  | pwmPeriodStart => exact keeps_of_next h opPwmPeriodStart_keeps
  | pwmOffEdge => exact keeps_of_next h opPwmOffEdge_keeps
  | pulseEnd => exact keeps_of_next h opPulseEnd_keeps
  | profileSegmentEnd => exact keeps_of_next h opProfileSegmentEnd_keeps
  | peakReset => exact keeps_of_next h opPeakReset_keeps
  | retryWindowExpiry => exact keeps_of_next h opRetryWindowExpiry_keeps
  | pgPeriodWrite => exact keeps_of_next h opPgPeriodWrite_keeps
  | envelopeEventClose => exact keeps_of_next h opEnvelopeEventClose_keeps
  | scanSample => exact keeps_of_next h opScanSample_keeps
  | orphanEnter => exact keeps_of_next h opOrphanEnter_keeps
  | orphanSafe => exact keeps_of_next h (opOrphanSafe_keeps (List.Subset.refl _) (keeps_refl _ _))
  | openLoadOnDetect => exact keeps_of_next h opOpenLoadOnDetect_keeps
  | loadReturnedOn => exact keeps_of_next h opLoadReturnedOn_keeps
  | pauseExpiry => exact keeps_of_next h opPauseExpiry_keeps
  | openLoadOffDetect => exact keeps_of_next h opOpenLoadOffDetect_keeps
  | loadReturnedOff => exact keeps_of_next h opLoadReturnedOff_keeps
  | shed => exact keeps_of_next h opShed_keeps
  | switchReset => exact keeps_of_next h resetSwitch_keeps
  | shortTrip => exact keeps_of_next h opShortTrip_keeps
  | overcurrentTrip => exact keeps_of_next h opOvercurrentTrip_keeps
  | coolingLimit => exact keeps_of_next h opCoolingLimit_keeps
  | thermalShutdown => exact keeps_of_next h opThermalShutdown_keeps
  | coolingRestart => exact keeps_of_next h opCoolingRestart_keeps
  | envelopeEvent => exact keeps_of_next h opEnvelopeEvent_keeps
  | rechargeResume => exact keeps_of_next h opRechargeResume_keeps
  | swClearLatch => exact keeps_of_next h opSwClearLatch_keeps
  | admitLimit => exact keeps_of_next h opAdmitLimit_keeps
  | swGet => exact keeps_of_next h opSwGet_keeps
  | swConfig => exact keeps_of_next h opSwConfig_keeps
  | swAdopt => exact keeps_of_next h opSwAdopt_keeps
  | swSet => exact keeps_of_next h opSwSet_keeps
  | thermalBudgetEval => exact keeps_of_next h opThermalBudgetEval_keeps
  | thermalShedStart => exact keeps_of_next h opThermalShedStart_keeps
  | thermalShed => exact keeps_of_next h opThermalShed_keeps
  | vboostReady => exact keeps_of_next h opVboostReady_keeps
  | vboostOv => exact keeps_of_next h opVboostOv_keeps
  | vboostAtVbSet => exact keeps_of_next h opVboostAtVbSet_keeps
  | boostGrant => exact keeps_of_next h opBoostGrant_keeps
  | decayEnd => exact keeps_of_next h opDecayEnd_keeps
  | freewheelLatchExpiry => exact keeps_of_next h opFreewheelLatchExpiry_keeps
  | clearLearned => exact keeps_of_next h opClearLearned_keeps
  | bankOverloadClear => exact keeps_of_next h opBankOverloadClear_keeps
  | boostFail => exact keeps_of_next h opBoostFail_keeps
  | holdUnreachable => exact keeps_of_next h opHoldUnreachable_keeps
  | bankOverload => exact keeps_of_next h opBankOverload_keeps
  | boostCut => exact keeps_of_next h opBoostCut_keeps
  | bankDeferExpiry => exact keeps_of_next h (opBankDeferExpiry_keeps (List.Subset.refl _) (keeps_refl _ _))
  | actuatorFire => exact keeps_of_next h opActuatorFire_keeps
  | actuatorRelease => exact keeps_of_next h opActuatorRelease_keeps
  | openCoil => exact keeps_of_next h opOpenCoil_keeps
  | controlUpdate => exact keeps_of_next h opControlUpdate_keeps
  | shortedCoil => exact keeps_of_next h opShortedCoil_keeps
  | bankFault => exact keeps_of_next h opBankFault_keeps
  | driveCmd => exact keeps_of_next h opDriveCmd_keeps
  | driveReadRequest => exact keeps_of_next h opDriveReadRequest_keeps
  | actuatorOrphanEnter => exact keeps_of_next h opActuatorOrphanEnter_keeps
  | actuatorOrphanSafe => exact keeps_of_next h (opActuatorOrphanSafe_keeps (List.Subset.refl _) (keeps_refl _ _))
  | acConfig => exact keeps_of_next h opAcConfig_keeps
  | driveReset => exact keeps_of_next h resetDrive_keeps
  | acLoadBobbin => exact keeps_of_next h opAcLoadBobbin_keeps
  | acFire => exact keeps_of_next h opAcFire_keeps
  | acRelease => exact keeps_of_next h opAcRelease_keeps
  | acGet => exact keeps_of_next h opAcGet_keeps
  | barrierFrame => exact keeps_of_next h opBarrierFrame_keeps
  | fieldStop => exact keeps_of_next h opFieldStop_keeps
  | fioSet => exact keeps_of_next h opFioSet_keeps
  | fioGet => exact keeps_of_next h opFioGet_keeps
  | fioConfig => exact keeps_of_next h opFioConfig_keeps
  | logicFrameReceive => exact keeps_of_next h opLogicFrameReceive_keeps
  | stuck => exact keeps_of_next h opStuck_keeps
  | chatter => exact keeps_of_next h opChatter_keeps
  | fastCountEdge => exact keeps_of_next h opFastCountEdge_keeps
  | fieldStale => exact keeps_of_next h opFieldStale_keeps
  | logicSilent => exact keeps_of_next h opLogicSilent_keeps
  | fieldWatchdog => exact keeps_of_next h opFieldWatchdog_keeps
  | fieldConfigWrite => exact keeps_of_next h opFieldConfigWrite_keeps
  | counterClear => exact keeps_of_next h (opCounterClear_keeps (List.Subset.refl _) (keeps_refl _ _))
  | fieldFlagClear => exact keeps_of_next h (opFieldFlagClear_keeps (List.Subset.refl _) (keeps_refl _ _))
  | fieldStart => exact keeps_of_next h opFieldStart_keeps
  | foOverload => exact keeps_of_next h opFoOverload_keeps
  | groupLimit => exact keeps_of_next h opGroupLimit_keeps
  | fieldDataWord => exact keeps_of_next h opFieldDataWord_keeps
  | packetReceive => exact keeps_of_next h opPacketReceive_keeps
  | commandBegin => exact keeps_of_next h opCommandBegin_keeps
  | sessionTimeout => exact keeps_of_next h opSessionTimeout_keeps
  | ping => exact keeps_of_next h opPing_keeps
  | sessionClose => exact keeps_of_next h opSessionClose_keeps
  | groupResume => exact keeps_of_next h opGroupResume_keeps
  | groupAbort => exact keeps_of_next h opGroupAbort_keeps
  | fenceCmd => exact keeps_of_next h opFenceCmd_keeps
  | info => exact keeps_of_next h opInfoCmd_keeps
  | getState => exact keeps_of_next h opGetState_keeps
  | dpOpen => exact keeps_of_next h opDpOpen_keeps
  | dpClose => exact keeps_of_next h opDpClose_keeps
  | dpCommit => exact keeps_of_next h opDpCommit_keeps
  | dpRead => exact keeps_of_next h opDpRead_keeps
  | dpWrite => exact keeps_of_next h opDpWrite_keeps
  | sessionOpen => exact keeps_of_next h opSessionOpen_keeps
  | updateCheck => exact keeps_of_next h opUpdateCheck_keeps
  | boot => exact keeps_of_next h opBoot_keeps
  | attest => exact keeps_of_next h opAttest_keeps
  | keyAdd => exact keeps_of_next h opKeyAdd_keeps
  | keyRemove => exact keeps_of_next h opKeyRemove_keeps
  | weftFloorRaise => exact keeps_of_next h opWeftFloorRaise_keeps
  | updateArm => exact keeps_of_next h opUpdateArm_keeps
  | updateArmByWake => exact keeps_of_next h opUpdateArmByWake_keeps
  | wakeFalls => exact keeps_of_next h opWakeFalls_keeps
  | ownerClaimed => exact keeps_of_next h opOwnerClaimed_keeps
  | updateStart => exact keeps_of_next h opUpdateStart_keeps
  | updateBlock => exact keeps_of_next h opUpdateBlock_keeps
  | mediumPoll => exact keeps_of_next h opMediumPoll_keeps
  | faultRead => exact keeps_of_next h opFaultRead_keeps
  | quietPeriodEnd => exact keeps_of_next h opQuietPeriodEnd_keeps
  | permitRenewal => exact keeps_of_next h (opPermitRenewal_keeps (List.Subset.refl _) (keeps_refl _ _))
  | permitExpiry => exact keeps_of_next h opPermitExpiry_keeps
  | faultHandler => exact keeps_of_next h opFaultHandler_keeps
  | faultReport => exact keeps_of_next h opFaultReport_keeps
  | watchdog => exact keeps_of_next h opWatchdog_keeps
  | loomReset => exact keeps_of_next h opLoomReset_keeps
  | serviceCoreReset => exact keeps_of_next h opServiceCoreReset_keeps
  | networkReset => exact keeps_of_next h opNetworkReset_keeps
  | forceSafeOn => exact keeps_of_next h opForceSafeOn_keeps
  | forceSafeOff => exact keeps_of_next h opForceSafeOff_keeps
  | canFrameReceive => exact keeps_of_next h opCanFrameReceive_keeps
  | canError => exact keeps_of_next h opCanError_keeps
  | canTxComplete => exact keeps_of_next h opCanTxComplete_keeps
  | canAbort => exact keeps_of_next h opCanAbort_keeps
  | canConfig => exact keeps_of_next h opCanConfig_keeps
  | protocolException => exact keeps_of_next h opProtocolException_keeps
  | errorPassive => exact keeps_of_next h opErrorPassive_keeps
  | busOff => exact keeps_of_next h opBusOff_keeps
  | idclash => exact keeps_of_next h opIdclash_keeps
  | errorActive => exact keeps_of_next h opErrorActive_keeps
  | busRecovered => exact keeps_of_next h opBusRecovered_keeps
  | busIntegrated => exact keeps_of_next h opBusIntegrated_keeps
  | canFilter => exact keeps_of_next h opCanFilter_keeps
  | canStatus => exact keeps_of_next h opCanStatus_keeps
  | canSend => exact keeps_of_next h opCanSend_keeps
  | canPeek => exact keeps_of_next h opCanPeek_keeps
  | canStatusRequest => exact keeps_of_next h opCanStatusRequest_keeps
  | canCommit => exact keeps_of_next h opCanCommit_keeps
  | networkCmdInvalid => exact keeps_of_next h opNetworkCmdInvalid_keeps
  | canTx => exact keeps_of_next h opCanTx_keeps
  | nmFrameSend => exact keeps_of_next h opNmFrameSend_keeps
  | nmTimeout => exact keeps_of_next h opNmTimeout_keeps
  | repeatEnd => exact keeps_of_next h opRepeatEnd_keeps
  | nmSleep => exact keeps_of_next h opNmSleep_keeps
  | wufErrwake => exact keeps_of_next h (opWufErrwake_keeps (List.Subset.refl _) (keeps_refl _ _))
  | canWakeDetect => exact keeps_of_next h opCanWakeDetect_keeps
  | falseWake => exact keeps_of_next h opFalseWake_keeps
  | maxAwake => exact keeps_of_next h opMaxAwake_keeps
  | nmKeeper => exact keeps_of_next h opNmKeeper_keeps
  | nmConfig => exact keeps_of_next h opNmConfig_keeps
  | nmRequest => exact keeps_of_next h opNmRequest_keeps
  | nmRequestRepeat => exact keeps_of_next h opNmRequestRepeat_keeps
  | nmRelease => exact keeps_of_next h opNmRelease_keeps
  | tc10SleepRequest => exact keeps_of_next h opTc10SleepRequest_keeps
  | tc10SleepReceive => exact keeps_of_next h opTc10SleepReceive_keeps
  | tc10Wake => exact keeps_of_next h opTc10Wake_keeps
  | tc10SleepAcknowledge => exact keeps_of_next h opTc10SleepAcknowledge_keeps
  | ethFrameReceive => exact keeps_of_next h opEthFrameReceive_keeps
  | macAgeOut => exact keeps_of_next h opMacAgeOut_keeps
  | macTableFull => exact keeps_of_next h opMacTableFull_keeps
  | linkUp => exact keeps_of_next h opLinkUp_keeps
  | linkDown => exact keeps_of_next h (opLinkDown_keeps (List.Subset.refl _) (keeps_refl _ _))
  | pdelayMeasure => exact keeps_of_next h opPdelayMeasure_keeps
  | tunnelAvtpduClose => exact keeps_of_next h opTunnelAvtpduClose_keeps
  | gptpSync => exact keeps_of_next h opGptpSync_keeps
  | gptpLost => exact keeps_of_next h (opGptpLost_keeps (List.Subset.refl _) (keeps_refl _ _))
  | ipAddress => exact keeps_of_next h opIpAddress_keeps
  | dhcpRenewal => exact keeps_of_next h opDhcpRenewal_keeps
  | dhcpLeaseLost => exact keeps_of_next h opDhcpLeaseLost_keeps
  | farTransactionStart => exact keeps_of_next h opFarTransactionStart_keeps
  | modbusFrameReceive => exact keeps_of_next h opModbusFrameReceive_keeps
  | farTimeout => exact keeps_of_next h opFarTimeout_keeps
  | farTurnaroundEnd => exact keeps_of_next h opFarTurnaroundEnd_keeps
  | heddleWaitExpiry => exact keeps_of_next h opHeddleWaitExpiry_keeps
  | lockExpired => exact keeps_of_next h opLockExpired_keeps
  | farRead => exact keeps_of_next h opFarRead_keeps
  | farWrite => exact keeps_of_next h opFarWrite_keeps
  | farLock => exact keeps_of_next h opFarLock_keeps
  | farUnlock => exact keeps_of_next h opFarUnlock_keeps
  | twinLinkUp => exact keeps_of_next h opTwinLinkUp_keeps
  | pairingRetry => exact keeps_of_next h opPairingRetry_keeps
  | twinLinkDown => exact keeps_of_next h opTwinLinkDown_keeps
  | twinRetransmit => exact keeps_of_next h opTwinRetransmit_keeps
  | mirrorAckTimeout => exact keeps_of_next h opMirrorAckTimeout_keeps
  | twinHello => exact keeps_of_next h opTwinHello_keeps
  | twinAttest => exact keeps_of_next h opTwinAttest_keeps
  | twinPaired => exact keeps_of_next h opTwinPaired_keeps
  | twinWeft => exact keeps_of_next h opTwinWeft_keeps
  | twinHeartbeat => exact keeps_of_next h opTwinHeartbeat_keeps
  | twinMirror => exact keeps_of_next h opTwinMirror_keeps
  | twinConfigFrame => exact keeps_of_next h opTwinConfigFrame_keeps
  | twinLoomData => exact keeps_of_next h opTwinLoomData_keeps
  | twinAck => exact keeps_of_next h opTwinAck_keeps
  | twinRelease => exact keeps_of_next h opTwinRelease_keeps
  | pllLost => exact keeps_of_next h opPllLost_keeps
  | handoverRequest => exact keeps_of_next h opHandoverRequest_keeps
  | handoverAccept => exact keeps_of_next h opHandoverAccept_keeps
  | handoverRefuse => exact keeps_of_next h opHandoverRefuse_keeps
  | twinHandover => exact keeps_of_next h opTwinHandover_keeps
  | twinStatus => exact keeps_of_next h opTwinStatus_keeps
  | handoverGo => exact keeps_of_next h opHandoverGo_keeps
  | handoverComplete => exact keeps_of_next h opHandoverComplete_keeps
  | tokenReleaseHoldEnd => exact keeps_of_next h opTokenReleaseHoldEnd_keeps
  | twinConfig => exact keeps_of_next h opTwinConfig_keeps
  | cableSense => exact keeps_of_next h opCableSense_keeps
  | takeover => exact keeps_of_next h opTakeover_keeps
  | loneLead => exact keeps_of_next h opLoneLead_keeps
  | fieldFrameReceive => exact keeps_of_next h opFieldFrameReceive_keeps
  | burstStart => exact keeps_of_next h opBurstStart_keeps
  | uwbPoll => exact keeps_of_next h opUwbPoll_keeps
  | burstEnd => exact keeps_of_next h opBurstEnd_keeps
  | failureDelayEnd => exact keeps_of_next h opFailureDelayEnd_keeps
  | failDecay => exact keeps_of_next h opFailDecay_keeps
  | leaseExpiry => exact keeps_of_next h opLeaseExpiry_keeps
  | tokenEnrol => exact keeps_of_next h opTokenEnrol_keeps
  | tokenRevoke => exact keeps_of_next h opTokenRevoke_keeps
  | releaseConfigUnpair => exact keeps_of_next h opReleaseConfigUnpair_keeps
  | releaseConfigRenew => exact keeps_of_next h opReleaseConfigRenew_keeps
  | lockout => exact keeps_of_next h opLockout_keeps
  | clearLockout => exact keeps_of_next h opClearLockout_keeps
  | clearTamper => exact keeps_of_next h opClearTamper_keeps
  | tokenList => exact keeps_of_next h opTokenList_keeps
  | releaseConfigSet => exact keeps_of_next h opReleaseConfigSet_keeps
  | releaseConfigPair => exact keeps_of_next h opReleaseConfigPair_keeps
  | releaseStopped => exact keeps_of_next h opReleaseStopped_keeps

end Sys2Proof.RowFrames

/-! The frames of the table's commands, and the invariants that follow from the parts a command changes alone: the waiting queue and the clock, and the
canonical form of memory. -/

namespace Sys2Proof.RowFrames

open Sys2Proof Sys2Proof.Machine Sys2Proof.Laws

theorem only_of_exec {c : Instr} {ps : List Part} {s t : State} (h : exec c s = .next t) (hps : touches c = ps) : Only ps s t :=
  hps ▸ (exec_keeps h).only

/-- Rows with the same parts in the table have the same frame. -/
theorem only_of_rows {rows : List Instr} {ps : List Part} {s t : State} (h : rows.map touches = List.replicate rows.length ps) :
    ∀ row ∈ rows, exec row s = .next t → Only ps s t :=
  fun _ hrow hexec => only_of_exec hexec (List.eq_of_mem_replicate (h ▸ List.mem_map_of_mem hrow))

/-- Settles O51: every clause is read off the table of the parts for the supply, power, clock and recorder rows. -/
theorem powerAndClockFrame : Obligations.PowerAndClockFrame := by
  intro s t
  exact ⟨fun _ h => only_of_exec h rfl,
    only_of_rows rfl,
    fun _ _ _ h => only_of_exec h rfl,
    only_of_rows rfl,
    fun _ _ _ _ _ h => only_of_exec h rfl,
    fun _ _ h => only_of_exec h rfl,
    fun _ h => only_of_exec h rfl,
    fun _ _ h => only_of_exec h rfl,
    fun h => only_of_exec h rfl,
    fun h => only_of_exec h rfl,
    fun h => only_of_exec h rfl,
    fun _ _ h => only_of_exec h rfl,
    fun _ => only_of_rows rfl,
    fun _ h => only_of_exec h rfl,
    fun h => only_of_exec h rfl,
    only_of_rows rfl,
    fun _ _ h => only_of_exec h rfl,
    fun _ h => only_of_exec h rfl,
    fun h => only_of_exec h rfl,
    fun h => only_of_exec h rfl,
    fun _ h => only_of_exec h rfl,
    fun _ _ h => only_of_exec h rfl,
    fun _ _ h => only_of_exec h rfl,
    fun _ h => only_of_exec h rfl,
    fun _ _ h => only_of_exec h rfl,
    only_of_rows rfl,
    fun _ => only_of_rows rfl,
    fun _ _ _ _ h => only_of_exec h rfl,
    fun _ _ h => only_of_exec h rfl,
    fun _ h => only_of_exec h rfl,
    only_of_rows rfl,
    fun h => only_of_exec h rfl,
    fun _ => only_of_rows rfl⟩

/-- Settles O52: every clause is read off the table of the parts for the rows of the Loom and the weft. -/
theorem loomAndWeftFrame : Obligations.LoomAndWeftFrame := by
  intro s t
  exact ⟨only_of_rows rfl,
    only_of_rows rfl,
    fun h => only_of_exec h rfl,
    fun h => only_of_exec h rfl,
    fun _ _ h => only_of_exec h rfl,
    fun h => only_of_exec h rfl,
    fun _ => only_of_rows rfl,
    fun h => only_of_exec h rfl,
    fun _ _ h => only_of_exec h rfl,
    fun _ _ _ h => only_of_exec h rfl,
    fun _ _ h => only_of_exec h rfl,
    fun _ h => only_of_exec h rfl,
    fun _ => only_of_rows rfl,
    fun h => only_of_exec h rfl,
    fun _ h => only_of_exec h rfl,
    fun _ h => only_of_exec h rfl,
    fun h => only_of_exec h rfl,
    fun h => only_of_exec h rfl,
    fun h => only_of_exec h rfl,
    fun h => only_of_exec h rfl⟩

/-- Settles O53: every clause is read off the table of the parts for the rows of the switch island. -/
theorem switchFrame : Obligations.SwitchFrame := by
  intro s t
  exact ⟨fun _ h => only_of_exec h rfl,
    fun _ h => only_of_exec h rfl,
    fun _ => only_of_rows rfl,
    fun _ _ h => only_of_exec h rfl,
    fun _ h => only_of_exec h rfl,
    fun _ _ _ _ _ h => only_of_exec h rfl,
    fun _ h => only_of_exec h rfl,
    fun _ => only_of_rows rfl,
    fun _ _ h => only_of_exec h rfl,
    fun _ _ => only_of_rows rfl,
    fun _ h => only_of_exec h rfl,
    fun h => only_of_exec h rfl,
    fun _ _ h => only_of_exec h rfl,
    fun _ => only_of_rows rfl,
    fun _ _ => only_of_rows rfl,
    fun _ h => only_of_exec h rfl,
    fun h => only_of_exec h rfl,
    fun _ h => only_of_exec h rfl,
    fun _ h => only_of_exec h rfl,
    fun _ => only_of_rows rfl,
    fun _ h => only_of_exec h rfl,
    fun _ h => only_of_exec h rfl,
    fun h => only_of_exec h rfl,
    fun h => only_of_exec h rfl⟩

/-- Settles O54: every clause is read off the table of the parts for the rows of the drive and field islands. -/
theorem driveAndFieldFrame : Obligations.DriveAndFieldFrame := by
  intro s t
  exact ⟨fun _ => only_of_rows rfl,
    fun _ => only_of_rows rfl,
    fun _ _ h => only_of_exec h rfl,
    fun _ h => only_of_exec h rfl,
    fun _ h => only_of_exec h rfl,
    fun _ _ h => only_of_exec h rfl,
    fun _ _ _ h => only_of_exec h rfl,
    fun _ => only_of_rows rfl,
    fun _ _ _ _ _ h => only_of_exec h rfl,
    fun _ _ h => only_of_exec h rfl,
    fun _ _ _ h => only_of_exec h rfl,
    fun _ h => only_of_exec h rfl,
    fun _ h => only_of_exec h rfl,
    fun _ h => only_of_exec h rfl,
    fun _ h => only_of_exec h rfl,
    fun _ h => only_of_exec h rfl,
    fun h => only_of_exec h rfl,
    fun _ h => only_of_exec h rfl,
    fun _ => only_of_rows rfl,
    fun _ h => only_of_exec h rfl,
    fun _ _ _ _ _ _ h => only_of_exec h rfl,
    fun _ h => only_of_exec h rfl,
    fun _ => only_of_rows rfl,
    fun _ h => only_of_exec h rfl,
    fun _ => only_of_rows rfl,
    fun _ _ _ h => only_of_exec h rfl,
    fun h => only_of_exec h rfl,
    only_of_rows rfl,
    fun _ _ h => only_of_exec h rfl,
    fun _ h => only_of_exec h rfl,
    fun _ _ _ _ _ h => only_of_exec h rfl,
    fun _ h => only_of_exec h rfl,
    fun _ h => only_of_exec h rfl,
    fun _ _ h => only_of_exec h rfl,
    fun _ h => only_of_exec h rfl⟩

/-- Settles O55: every clause is read off the table of the parts for packets, the data port, the identity, faults and resets. -/
theorem commandFrame : Obligations.CommandFrame := by
  intro s t
  exact ⟨fun _ _ h => only_of_exec h rfl,
    fun _ h => only_of_exec h rfl,
    fun _ h => only_of_exec h rfl,
    fun _ => only_of_rows rfl,
    fun _ => only_of_rows rfl,
    fun _ h => only_of_exec h rfl,
    fun _ h => only_of_exec h rfl,
    fun _ h => only_of_exec h rfl,
    fun _ _ h => only_of_exec h rfl,
    fun _ _ _ h => only_of_exec h rfl,
    fun _ h => only_of_exec h rfl,
    fun _ => only_of_rows rfl,
    fun _ _ h => only_of_exec h rfl,
    only_of_rows rfl,
    fun _ h => only_of_exec h rfl,
    fun _ h => only_of_exec h rfl,
    fun _ _ h => only_of_exec h rfl,
    fun _ h => only_of_exec h rfl,
    fun _ h => only_of_exec h rfl,
    only_of_rows rfl,
    fun h => only_of_exec h rfl,
    fun _ h => only_of_exec h rfl,
    fun _ _ h => only_of_exec h rfl,
    only_of_rows rfl,
    fun h => only_of_exec h rfl,
    fun h => only_of_exec h rfl⟩

/-- Settles O56: every clause is read off the table of the parts for the network rows. -/
theorem networkFrame : Obligations.NetworkFrame := by
  intro s t
  exact ⟨fun _ _ _ _ _ h => only_of_exec h rfl,
    fun _ _ _ _ _ _ _ _ h => only_of_exec h rfl,
    fun _ _ _ _ h => only_of_exec h rfl,
    fun _ _ h => only_of_exec h rfl,
    fun _ h => only_of_exec h rfl,
    fun _ h => only_of_exec h rfl,
    fun _ => only_of_rows rfl,
    fun _ _ h => only_of_exec h rfl,
    fun _ => only_of_rows rfl,
    fun _ h => only_of_exec h rfl,
    fun _ => only_of_rows rfl,
    fun _ h => only_of_exec h rfl,
    fun _ => only_of_rows rfl,
    fun _ => only_of_rows rfl,
    fun _ h => only_of_exec h rfl,
    fun _ => only_of_rows rfl,
    fun _ => only_of_rows rfl,
    fun _ _ h => only_of_exec h rfl,
    fun _ h => only_of_exec h rfl,
    fun _ h => only_of_exec h rfl,
    fun _ h => only_of_exec h rfl,
    fun _ => only_of_rows rfl,
    fun _ h => only_of_exec h rfl,
    fun _ h => only_of_exec h rfl,
    fun _ h => only_of_exec h rfl,
    fun _ _ h => only_of_exec h rfl,
    fun _ _ h => only_of_exec h rfl,
    fun _ h => only_of_exec h rfl,
    fun h => only_of_exec h rfl,
    fun _ h => only_of_exec h rfl,
    fun _ h => only_of_exec h rfl,
    fun _ _ h => only_of_exec h rfl,
    fun _ h => only_of_exec h rfl,
    fun _ h => only_of_exec h rfl,
    fun _ _ h => only_of_exec h rfl,
    fun _ _ h => only_of_exec h rfl,
    fun _ _ h => only_of_exec h rfl,
    fun _ h => only_of_exec h rfl,
    fun _ h => only_of_exec h rfl,
    fun _ _ _ h => only_of_exec h rfl,
    fun _ => only_of_rows rfl,
    fun _ h => only_of_exec h rfl,
    fun _ => only_of_rows rfl⟩

/-- Settles O57: every clause is read off the table of the parts for the twin pair and door access. -/
theorem twinAndAccessFrame : Obligations.TwinAndAccessFrame := by
  intro s t
  exact ⟨only_of_rows rfl,
    fun _ h => only_of_exec h rfl,
    fun _ h => only_of_exec h rfl,
    fun h => only_of_exec h rfl,
    fun _ h => only_of_exec h rfl,
    fun _ h => only_of_exec h rfl,
    fun _ h => only_of_exec h rfl,
    fun _ _ h => only_of_exec h rfl,
    fun _ _ h => only_of_exec h rfl,
    fun _ h => only_of_exec h rfl,
    fun _ h => only_of_exec h rfl,
    fun _ h => only_of_exec h rfl,
    fun _ h => only_of_exec h rfl,
    fun _ h => only_of_exec h rfl,
    fun _ h => only_of_exec h rfl,
    fun _ => only_of_rows rfl,
    fun _ h => only_of_exec h rfl,
    fun _ => only_of_rows rfl,
    fun _ h => only_of_exec h rfl,
    fun h => only_of_exec h rfl,
    fun _ h => only_of_exec h rfl,
    fun _ h => only_of_exec h rfl,
    fun _ _ h => only_of_exec h rfl,
    fun h => only_of_exec h rfl,
    fun _ h => only_of_exec h rfl,
    fun _ h => only_of_exec h rfl,
    fun h => only_of_exec h rfl,
    fun _ h => only_of_exec h rfl,
    fun h => only_of_exec h rfl,
    only_of_rows rfl,
    fun h => only_of_exec h rfl,
    fun _ => only_of_rows rfl,
    fun _ h => only_of_exec h rfl,
    fun _ h => only_of_exec h rfl,
    fun _ h => only_of_exec h rfl,
    fun h => only_of_exec h rfl⟩

/-! ## Refusals, the queue and the clock -/

/-- Settles O4: every row but SUPPLY_MONITOR_UPDATE has a next state, and that one has it for a supply within the maxima. -/
theorem neverRefused : Obligations.NeverRefused := by
  intro s c
  cases c
  case supplyMonitorUpdate aux a b x d =>
    by_cases hmaxima : withinMaxima aux a b x d = true
    · exact .inl ⟨_, if_pos hmaxima⟩
    · exact .inr ⟨if_neg hmaxima, _, _, _, _, _, rfl⟩
  all_goals exact .inl ⟨_, rfl⟩

/-- No row of the table touches the queue of waiting commands. -/
theorem pending_not_touched (c : Instr) : Part.pending ∉ touches c := by
  have hcontains : (touches c).contains .pending = false := by cases c <;> rfl
  exact fun hmem => Bool.false_ne_true (hcontains.symm.trans (List.contains_iff_mem.mpr hmem))

/-- Settles O5: the queue is in no row's parts, and `Keeps` bounds the clock and the count of free values from below. -/
theorem queueAndClockKept : Obligations.QueueAndClockKept := by
  intro s t c h
  have hkeeps := exec_keeps h
  exact ⟨hkeeps.only.same .pending (pending_not_touched c), hkeeps.time, hkeeps.drawn⟩

/-! ## The form of memory -/

/-- A step is the meaning of the command in front on the queue's rest, or the microsecond of an empty queue. -/
theorem step_cases {s t : State} (h : step s = .next t) : t = s.idleStep ∨ ∃ c q, s.pending = c :: q ∧ exec c (s.rest q) = .next t := by
  unfold step at h
  split at h
  · exact .inl (Host.Outcome.next.inj h).symm
  next c q hq => exact .inr ⟨c, q, hq, h⟩

/-- Settles O6: the idle microsecond and every command keep the form, as `Keeps` says of each. -/
theorem memoryFormKept : Obligations.MemoryFormKept := by
  intro s t hform h
  obtain rfl | ⟨c, q, -, hexec⟩ := step_cases h
  · exact (idleStep_keeps (List.Subset.refl _) (keeps_refl _ s)).form hform
  · exact (exec_keeps hexec).form hform

end Sys2Proof.RowFrames

/-! The two invariants that every step keeps: TWIN_TOKEN driven by the lead only (R401, R417), and the bounds of the fault queue (R309, R310, R317).
  Both
speak of one part of the state; an operation that leaves the two parts alone keeps them by its frame. -/

namespace Sys2Proof.Invariants

open Sys2Proof Sys2Proof.Machine Sys2Proof.Laws Sys2Proof.RowFrames

/-- `TokenOk`, of the twin's part alone. -/
def TwinOk (w : Twin) : Prop := (w.driven = true → w.role = .lead) ∧ (w.holdEnd.isSome = true → w.driven = false)

/-- `FaultQueueOk`, of the faults' part alone. -/
def FaultsOk (f : Faults) : Prop :=
  (f.queue.filter fun e => decide (e.cls = .S)).length ≤ 1 ∧ (f.queue.filter fun e => decide (e.cls ≠ .S)).length ≤ 63 ∧ f.queue.length ≤ 64

/-- What the rule of TWIN_TOKEN speaks of: the driver, the role and the time held after a release. -/
def tokenPart (w : Twin) : Bool × Role × Option Nat := (w.driven, w.role, w.holdEnd)

/-- From `s` to `t` nothing that TWIN_TOKEN's rule speaks of has changed, and the fault queue keeps its bounds. -/
structure Steady (s t : State) : Prop where
  token : tokenPart t.twin = tokenPart s.twin
  queue : FaultQueueOk s → FaultQueueOk t

/-- From `s` to `t` both invariants are kept. -/
structure Safe (s t : State) : Prop where
  token : TokenOk s → TokenOk t
  queue : FaultQueueOk s → FaultQueueOk t

/-! ## How they compose -/

theorem steady_refl (s : State) : Steady s s := ⟨rfl, id⟩

theorem Steady.trans {s t u : State} (h : Steady s t) (k : Steady t u) : Steady s u := ⟨k.token.trans h.token, k.queue ∘ h.queue⟩

theorem safe_refl (s : State) : Safe s s := ⟨id, id⟩

theorem Safe.trans {s t u : State} (h : Safe s t) (k : Safe t u) : Safe s u := ⟨k.token ∘ h.token, k.queue ∘ h.queue⟩

theorem Steady.safe {s t : State} (h : Steady s t) : Safe s t := by
  refine ⟨?_, h.queue⟩
  obtain ⟨hdriven, hrole, hheld⟩ : t.twin.driven = s.twin.driven ∧ t.twin.role = s.twin.role ∧ t.twin.holdEnd = s.twin.holdEnd := by
    simpa [tokenPart] using h.token
  simp only [TokenOk, hdriven, hrole, hheld, imp_self]

theorem Safe.steady {s t u : State} (g : Safe s t) (h : Steady t u) : Safe s u := g.trans h.safe

/-- An operation that leaves the twin and the faults alone changes nothing here. -/
theorem steady_of_keeps {ps : List Part} {s t : State} (h : Keeps ps s t) (htwin : Part.twin ∉ ps) (hflt : Part.flt ∉ ps) : Steady s t := by
  have twin : t.twin = s.twin := h.only.same .twin htwin
  have flt : t.flt = s.flt := h.only.same .flt hflt
  refine ⟨by rw [twin], ?_⟩
  simp only [FaultQueueOk, flt, imp_self]

theorem Steady.calm {ps : List Part} {s t u : State} (g : Steady s t) (h : Keeps ps t u) (htwin : Part.twin ∉ ps) (hflt : Part.flt ∉ ps) :
    Steady s u := g.trans (steady_of_keeps h htwin hflt)

theorem Safe.calm {ps : List Part} {s t u : State} (g : Safe s t) (h : Keeps ps t u) (htwin : Part.twin ∉ ps) (hflt : Part.flt ∉ ps) :
    Safe s u := g.steady (steady_of_keeps h htwin hflt)

theorem steady_ite {s t u : State} {c : Prop} [Decidable c] (h : Steady s t) (k : Steady s u) : Steady s (if c then t else u) := by
  split
  · exact h
  · exact k

theorem steady_dite {s : State} {c : Prop} [Decidable c] {f : c → State} {g : ¬c → State} (h : ∀ x, Steady s (f x)) (k : ∀ x, Steady s (g x)) :
    Steady s (if x : c then f x else g x) := by
  split
  · exact h _
  · exact k _

theorem steady_ite_pair {α : Type} {s : State} {c : Prop} [Decidable c] {p q : α × State} (h : Steady s p.2) (k : Steady s q.2) :
    Steady s (if c then p else q).2 := by
  split
  · exact h
  · exact k

theorem steady_dite_pair {α : Type} {s : State} {c : Prop} [Decidable c] {f : c → α × State} {g : ¬c → α × State} (h : ∀ x, Steady s (f x).2)
    (k : ∀ x, Steady s (g x).2) : Steady s (if x : c then f x else g x).2 := by
  split
  · exact h _
  · exact k _

theorem steady_of_eq {α : Type} {s t : State} {p : α × State} {a : α} (e : p = (a, t)) (h : Steady s p.2) : Steady s t := by subst e; exact h

theorem steady_of_eq2 {α β : Type} {s t : State} {p : α × β × State} {a : α} {b : β} (e : p = (a, b, t)) (h : Steady s p.2.2) : Steady s t := by
  subst e; exact h

theorem steady_foldl {α : Type} {f : State → α → State} {s t : State} (l : List α) (h : ∀ t x, Steady t (f t x)) (g : Steady s t) :
    Steady s (l.foldl f t) := by
  induction l generalizing t with
  | nil => exact g
  | cons x l ih => exact ih (g.trans (h t x))

theorem steady_foldl1 {α β : Type} {f : State × β → α → State × β} {s : State} {p : State × β} (l : List α) (h : ∀ p x, Steady p.1 (f p x).1)
    (g : Steady s p.1) : Steady s (l.foldl f p).1 := by
  induction l generalizing p with
  | nil => exact g
  | cons x l ih => exact ih (g.trans (h p x))

theorem steady_forEach {α : Type} {f : α → State → State} {s t : State} {l : List α} (h : ∀ x t, Steady t (f x t)) (g : Steady s t) :
    Steady s (t.forEach l f) :=
  steady_foldl l (fun t x => h x t) g

theorem safe_ite {s t u : State} {c : Prop} [Decidable c] (h : Safe s t) (k : Safe s u) : Safe s (if c then t else u) := by
  split
  · exact h
  · exact k

theorem safe_ite_pair {α : Type} {s : State} {c : Prop} [Decidable c] {p q : α × State} (h : Safe s p.2) (k : Safe s q.2) :
    Safe s (if c then p else q).2 := by
  split
  · exact h
  · exact k

theorem safe_of_eq {α : Type} {s t : State} {p : α × State} {a : α} (e : p = (a, t)) (h : Safe s p.2) : Safe s t := by subst e; exact h

theorem safe_of_some {s t u : State} {o : Option State} (e : o = some t) (h : Safe s (o.getD u)) : Safe s t := by subst e; exact h

theorem safe_foldl {α : Type} {f : State → α → State} {s t : State} (l : List α) (h : ∀ t x, Safe t (f t x)) (g : Safe s t) :
    Safe s (l.foldl f t) := by
  induction l generalizing t with
  | nil => exact g
  | cons x l ih => exact ih (g.trans (h t x))

theorem safe_forEach {α : Type} {f : α → State → State} {s t : State} {l : List α} (h : ∀ x t, Safe t (f x t)) (g : Safe s t) :
    Safe s (t.forEach l f) :=
  safe_foldl l (fun t x => h x t) g

/-! ## The two parts -/

section

variable {s t : State}

theorem onTwin_steady {f} (h : tokenPart (f t.twin) = tokenPart t.twin) (g : Steady s t) : Steady s (State.onTwin t f) := ⟨h.trans g.token, g.queue⟩

theorem onFlt_steady {f} (h : FaultsOk t.flt → FaultsOk (f t.flt)) (g : Steady s t) : Steady s (State.onFlt t f) := ⟨g.token, h ∘ g.queue⟩

theorem onTwin_safe {f} (h : TwinOk t.twin → TwinOk (f t.twin)) (g : Safe s t) : Safe s (State.onTwin t f) := ⟨h ∘ g.token, g.queue⟩

theorem onFlt_safe {f} (h : FaultsOk t.flt → FaultsOk (f t.flt)) (g : Safe s t) : Safe s (State.onFlt t f) := ⟨g.token, h ∘ g.queue⟩

/-! ## The operations every family shares -/

theorem faultWord_steady {x1 x2 x3 x4 x5 x6} (g : Steady s t) : Steady s (State.faultWord t x1 x2 x3 x4 x5 x6) := by
  unfold State.faultWord
  exact onFlt_steady id g

theorem fault_steady {x1 x2 x3 x4 x5 x6} (g : Steady s t) : Steady s (State.fault t x1 x2 x3 x4 x5 x6) := by
  unfold State.fault
  exact faultWord_steady (g.calm (recordSev_keeps (List.Subset.refl _) (keeps_refl _ _)) (by decide) (by decide))

theorem planFault_steady {x1 x2 x3 x4 x5 x6} (g : Steady s t) : Steady s (State.planFault t x1 x2 x3 x4 x5 x6) := by
  unfold State.planFault
  exact steady_ite (g.calm (record_keeps (List.Subset.refl _) (keeps_refl _ _)) (by decide) (by decide)) (fault_steady (onFlt_steady id g))

theorem wdtStart_steady {x1} (g : Steady s t) : Steady s (State.wdtStart t x1) := by
  unfold State.wdtStart
  exact onFlt_steady id g

theorem islandPlanFault_steady {x1 x2 x3 x4 x5} (g : Steady s t) : Steady s (State.islandPlanFault t x1 x2 x3 x4 x5) := by
  unfold State.islandPlanFault
  exact planFault_steady g

theorem faultEvent_steady {x1 x2 x3 x4 x5 x6 x7} (g : Steady s t) : Steady s (State.faultEvent t x1 x2 x3 x4 x5 x6 x7) := by
  unfold State.faultEvent
  exact faultWord_steady (g.calm (recordSev_keeps (List.Subset.refl _) (keeps_refl _ _)) (by decide) (by decide))

theorem twinSend_steady {x1 x2 x3 x4 x5} (g : Steady s t) : Steady s (State.twinSend t x1 x2 x3 x4 x5) := by
  unfold State.twinSend
  exact onTwin_steady (by rfl) (g.calm (send_keeps (List.Subset.refl _) (keeps_refl _ _)) (by decide) (by decide))

theorem twinFrame_steady {x1 x2 x3 x4 x5} (g : Steady s t) : Steady s (State.twinFrame t x1 x2 x3 x4 x5) := by
  unfold State.twinFrame
  exact steady_ite (onTwin_steady (by rfl) g) (twinSend_steady g)

theorem mirrorFrame_steady {x1 x2} (g : Steady s t) : Steady s (State.mirrorFrame t x1 x2) := by
  unfold State.mirrorFrame
  exact twinFrame_steady (onTwin_steady (by rfl) g)

theorem mirrorBegun_steady {x1 x2} (g : Steady s t) : Steady s (State.mirrorBegun t x1 x2) := by
  unfold State.mirrorBegun
  exact steady_ite (mirrorFrame_steady g) g

theorem sendConfig_steady {x0 x1} (g : Steady s t) : Steady s (State.sendConfig x0 x1 t) := by
  induction x0 generalizing x1 t with
  | zero => exact g
  | succ n ih =>
    cases x1 with
    | nil => exact g
    | cons => exact ih (mirrorFrame_steady g)

theorem mirrorConfig_steady (g : Steady s t) : Steady s (State.mirrorConfig t) := by
  unfold State.mirrorConfig
  exact steady_ite (onTwin_steady (by rfl) (sendConfig_steady g)) g

theorem mirrorDone_steady {x1 x2 x3 x4 x5} (g : Steady s t) : Steady s (State.mirrorDone t x1 x2 x3 x4 x5) := by
  unfold State.mirrorDone
  exact steady_ite (mirrorFrame_steady (mirrorConfig_steady g)) g

theorem mirrorStallAll_steady {x1} (g : Steady s t) : Steady s (State.mirrorStallAll t x1) := by
  unfold State.mirrorStallAll
  exact steady_ite (mirrorFrame_steady g) g

theorem flushLater_steady (g : Steady s t) : Steady s (State.flushLater t) := by
  unfold State.flushLater
  exact steady_forEach (fun x t1 => twinSend_steady (steady_refl _)) (onTwin_steady (by rfl) g)

theorem mirrorTaken_steady {x1 x2 x3 x4} (g : Steady s t) : Steady s (State.mirrorTaken t x1 x2 x3 x4) := by
  unfold State.mirrorTaken
  exact steady_ite (mirrorFrame_steady g) g

theorem sendOrHold_steady {x1 x2 x3 x4 x5 x6 x7 x8} (g : Steady s t) : Steady s (State.sendOrHold t x1 x2 x3 x4 x5 x6 x7 x8) := by
  unfold State.sendOrHold
  exact steady_ite g (steady_ite (onTwin_steady (by rfl) g) (g.calm (sendPacket_keeps (List.Subset.refl _) (keeps_refl _ _)) (by decide) (by decide)))

theorem notify_steady {x1 x2 x3} (g : Steady s t) : Steady s (State.notify t x1 x2 x3) := by
  unfold State.notify
  refine steady_ite ?_ g
  dsimp only
  split
  · exact g.calm (onCmd_keeps (List.Subset.refl _) (keeps_refl _ _)) (by decide) (by decide)
  · exact steady_ite (sendOrHold_steady (g.calm (onCmd_keeps (List.Subset.refl _) (keeps_refl _ _)) (by decide) (by decide))) (g.calm (onCmd_keeps
      (List.Subset.refl _) (keeps_refl _ _)) (by decide) (by decide))
  · split
    · exact g.calm (onCmd_keeps (List.Subset.refl _) (keeps_refl _ _)) (by decide) (by decide)
    · exact sendOrHold_steady (g.calm (onCmd_keeps (List.Subset.refl _) (keeps_refl _ _)) (by decide) (by decide))

theorem notifyHolder_steady {x1 x2 x3} (g : Steady s t) : Steady s (State.notifyHolder t x1 x2 x3) := by
  unfold State.notifyHolder
  split
  · exact g
  · exact notify_steady g

theorem notifyStall_steady {x1 x2} (g : Steady s t) : Steady s (State.notifyStall t x1 x2) := by
  unfold State.notifyStall
  exact notifyHolder_steady g

theorem doneStage_steady {x1 x2 x3 x4} (g : Steady s t) : Steady s (State.doneStage t x1 x2 x3 x4) := by
  unfold State.doneStage
  split
  · exact g
  · exact mirrorDone_steady g

theorem lateError_steady {x1 x2 x3} (g : Steady s t) : Steady s (State.lateError t x1 x2 x3) := by
  unfold State.lateError
  split
  · exact g
  · exact notifyHolder_steady (doneStage_steady g)

theorem replyWith_steady {x1 x2 x3 x4 x5 x6} (g : Steady s t) : Steady s (State.replyWith t x1 x2 x3 x4 x5 x6) := by
  unfold State.replyWith
  extract_lets p u addr u1
  have hu : Steady s u := steady_ite (doneStage_steady g) g
  have hu1 : Steady s u1 := sendOrHold_steady hu
  split
  · exact hu1
  · exact hu1.calm (onGroup_keeps (List.Subset.refl _) (keeps_refl _ _)) (by decide) (by decide)

theorem replyEnd_steady {x1 x2 x3} (g : Steady s t) : Steady s (State.replyEnd t x1 x2 x3) := by
  unfold State.replyEnd
  exact steady_ite (replyWith_steady g) (replyWith_steady g)

theorem accept_steady {x1} (g : Steady s t) : Steady s (State.accept t x1) := by
  unfold State.accept
  exact steady_ite g (replyWith_steady g)

theorem acceptWaiting_steady {x1} (g : Steady s t) : Steady s (State.acceptWaiting t x1) := by
  unfold State.acceptWaiting
  exact (steady_forEach (fun x t1 => accept_steady (steady_refl _)) (g.calm (onGroup_keeps (List.Subset.refl _) (keeps_refl _ _)) (by decide) (by
    decide))).calm (onGroup_keeps (List.Subset.refl _) (keeps_refl _ _)) (by decide) (by decide)

theorem failGroup_steady {x1 x2} (g : Steady s t) : Steady s (State.failGroup t x1 x2) := by
  unfold State.failGroup
  exact steady_ite (acceptWaiting_steady (g.calm (onGroup_keeps (List.Subset.refl _) (keeps_refl _ _)) (by decide) (by decide))) (notifyStall_steady
    (acceptWaiting_steady (g.calm (onGroup_keeps (List.Subset.refl _) (keeps_refl _ _)) (by decide) (by decide))))

theorem complete_steady {x1 x2 x3 x4} (g : Steady s t) : Steady s (State.complete t x1 x2 x3 x4) := by
  unfold State.complete
  split
  · exact replyEnd_steady (g.calm (onSource_keeps (List.Subset.refl _) (keeps_refl _ _)) (by decide) (by decide))
  · extract_lets u u1 u2
    have hu : Steady s u := g.calm (onGroup_keeps (List.Subset.refl _) (keeps_refl _ _)) (by decide) (by decide)
    have hu1 : Steady s u1 := lateError_steady hu
    have hu2 : Steady s u2 := steady_ite (replyEnd_steady hu) (steady_ite (steady_ite hu1 (hu1.calm (record_keeps (List.Subset.refl _) (keeps_refl _
      _)) (by decide) (by decide))) (steady_ite (replyEnd_steady hu) (doneStage_steady hu)))
    exact steady_ite (failGroup_steady hu2) hu2

theorem onCommand_steady {r n} {f : Cmd → State → State} (h : ∀ c t, Steady t (f c t)) (g : Steady s t) : Steady s (t.onCommand r n f) := by
  unfold State.onCommand
  split
  · exact g
  · exact steady_ite (g.trans (h _ _)) g

theorem completeId_steady {x1 x2 x3 x4} (g : Steady s t) : Steady s (State.completeId t x1 x2 x3 x4) := by
  unfold State.completeId
  split
  · exact g
  · exact complete_steady g

theorem judgeWord_steady {x1 x2 x3} (g : Steady s t) : Steady s (State.judgeWord t x1 x2 x3).2 := by
  unfold State.judgeWord
  refine steady_ite_pair ?_ ?_
  · dsimp only
    exact fault_steady (g.calm (onLink_keeps (List.Subset.refl _) (keeps_refl _ _)) (by decide) (by decide))
  · refine steady_ite_pair g ?_
    dsimp only
    exact (steady_ite g (fault_steady g)).calm (onLink_keeps (List.Subset.refl _) (keeps_refl _ _)) (by decide) (by decide)

theorem ackArrive_steady {x1 x2} (g : Steady s t) : Steady s (State.ackArrive t x1 x2) := by
  unfold State.ackArrive
  split
  · exact g
  · refine steady_ite g ?_
    dsimp only
    exact steady_ite ((judgeWord_steady (g.calm (onLink_keeps (List.Subset.refl _) (keeps_refl _ _)) (by decide) (by decide))).calm (acked_keeps
      (List.Subset.refl _) (keeps_refl _ _)) (by decide) (by decide)) (judgeWord_steady (g.calm (onLink_keeps (List.Subset.refl _) (keeps_refl _ _))
      (by decide) (by decide)))

theorem takeAcks_steady {x1} (g : Steady s t) : Steady s (State.takeAcks t x1) := by
  unfold State.takeAcks
  exact steady_forEach (fun x t1 => ackArrive_steady (steady_refl _)) g

theorem receiveWord_steady {x1 x2 x3} (g : Steady s t) : Steady s (State.receiveWord t x1 x2 x3).2 := by
  unfold State.receiveWord
  dsimp only
  split
  · dsimp only
    exact takeAcks_steady g
  · refine steady_ite_pair ?_ ?_
    · dsimp only
      exact takeAcks_steady g
    · split
      next h1 =>
        dsimp only
        exact (steady_of_eq h1 (judgeWord_steady ((takeAcks_steady g).calm (onLink_keeps (List.Subset.refl _) (keeps_refl _ _)) (by decide) (by
          decide)))).calm (acknowledge_keeps (List.Subset.refl _) (keeps_refl _ _)) (by decide) (by decide)
      next h1 =>
        exact steady_of_eq h1 (judgeWord_steady ((takeAcks_steady g).calm (onLink_keeps (List.Subset.refl _) (keeps_refl _ _)) (by decide) (by
          decide)))

theorem tokenPart_takeWord (w : Twin) (b : Bool) (x y : Nat) : tokenPart (w.takeWord b x y) = tokenPart w := by
  unfold Twin.takeWord
  split
  all_goals first | rfl | (split <;> rfl)

theorem twinArrive_steady {x1} (g : Steady s t) : Steady s (State.twinArrive t x1) := by
  unfold State.twinArrive
  split
  · exact g
  · split
    next u h => exact steady_of_eq h (receiveWord_steady g)
    next h => exact onTwin_steady (tokenPart_takeWord ..) (steady_of_eq h (receiveWord_steady g))

theorem twinDrain_steady (g : Steady s t) : Steady s (State.twinDrain t) := by
  unfold State.twinDrain
  exact twinArrive_steady (twinArrive_steady (twinArrive_steady (twinArrive_steady g)))

theorem loseBuffered_steady {x1} (g : Steady s t) : Steady s (State.loseBuffered t x1) := by
  unfold State.loseBuffered
  dsimp only
  split
  · exact g.calm (onRcd_keeps (List.Subset.refl _) (keeps_refl _ _)) (by decide) (by decide)
  · exact completeId_steady (g.calm (onRcd_keeps (List.Subset.refl _) (keeps_refl _ _)) (by decide) (by decide))

theorem dropBuffer_steady (g : Steady s t) : Steady s (State.dropBuffer t) := by
  unfold State.dropBuffer
  exact steady_foldl _ (fun t1 x => loseBuffered_steady (steady_refl _)) (g.calm (onRcd_keeps (List.Subset.refl _) (keeps_refl _ _)) (by decide) (by
    decide))

theorem opTailSectorErase_steady {x0 t} (g : Steady s t) : Steady s (opTailSectorErase x0 t) := by
  unfold opTailSectorErase
  refine steady_ite g ?_
  split
  · exact steady_ite ((g.calm (onRcd_keeps (List.Subset.refl _) (keeps_refl _ _)) (by decide) (by decide)).calm (onRcd_keeps (List.Subset.refl _)
      (keeps_refl _ _)) (by decide) (by decide)) (steady_ite (dropBuffer_steady (fault_steady ((g.calm (onRcd_keeps (List.Subset.refl _) (keeps_refl
      _ _)) (by decide) (by decide)).calm (onRcd_keeps (List.Subset.refl _) (keeps_refl _ _)) (by decide) (by decide)))) (fault_steady ((g.calm
      (onRcd_keeps (List.Subset.refl _) (keeps_refl _ _)) (by decide) (by decide)).calm (onRcd_keeps (List.Subset.refl _) (keeps_refl _ _)) (by
      decide) (by decide))))

theorem opRecordWrite_steady {x0 x1 t} (g : Steady s t) : Steady s (opRecordWrite x0 x1 t) := by
  unfold opRecordWrite
  refine steady_ite g ?_
  dsimp only
  split
  · exact g.calm (onSupply_keeps (List.Subset.refl _) (keeps_refl _ _)) (by decide) (by decide)
  · refine steady_ite (loseBuffered_steady ((g.calm (onSupply_keeps (List.Subset.refl _) (keeps_refl _ _)) (by decide) (by decide)).calm (onRcd_keeps
      (List.Subset.refl _) (keeps_refl _ _)) (by decide) (by decide))) ?_
    refine steady_ite ?_ ((faultWord_steady (steady_ite ((g.calm (onSupply_keeps (List.Subset.refl _) (keeps_refl _ _)) (by decide) (by decide)).calm
      (onRcd_keeps (List.Subset.refl _) (keeps_refl _ _)) (by decide) (by decide)) (loseBuffered_steady ((g.calm (onSupply_keeps (List.Subset.refl _)
      (keeps_refl _ _)) (by decide) (by decide)).calm (onRcd_keeps (List.Subset.refl _) (keeps_refl _ _)) (by decide) (by decide))))).calm
      (saturate_keeps (List.Subset.refl _) (keeps_refl _ _)) (by decide) (by decide))
    refine Steady.calm ?_ (saturate_keeps (List.Subset.refl _) (keeps_refl _ _)) (by decide) (by decide)
    split
    · exact (g.calm (onSupply_keeps (List.Subset.refl _) (keeps_refl _ _)) (by decide) (by decide)).calm (onRcd_keeps (List.Subset.refl _)
        (keeps_refl _ _)) (by decide) (by decide)
    · exact completeId_steady ((g.calm (onSupply_keeps (List.Subset.refl _) (keeps_refl _ _)) (by decide) (by decide)).calm (onRcd_keeps
        (List.Subset.refl _) (keeps_refl _ _)) (by decide) (by decide))

theorem stallAll_steady {x1} (g : Steady s t) : Steady s (State.stallAll t x1).2 := by
  unfold State.stallAll
  split
  · exact g
  · dsimp only
    exact steady_forEach (fun x2 t1 => acceptWaiting_steady ((steady_refl _).calm (onGroup_keeps (List.Subset.refl _) (keeps_refl _ _)) (by decide)
      (by decide))) (steady_ite g (mirrorStallAll_steady g))

/-! ### The fault queue's entries -/

/-- A change of the entries that keeps every class. -/
theorem faultsOk_of_map {f f' : Faults} {g : FaultEntry → FaultEntry} (hg : ∀ e, (g e).cls = e.cls) (hqueue : f'.queue = f.queue.map g)
    (h : FaultsOk f) : FaultsOk f' := by
  have hcount : ∀ p : Cls → Bool, (f'.queue.filter fun e => p e.cls).length = (f.queue.filter fun e => p e.cls).length := fun p => by
    simp only [hqueue, List.filter_map, List.length_map, Function.comp_def, hg]
  obtain ⟨hS, hother, hall⟩ := h
  exact ⟨(hcount fun c => decide (c = .S)).trans_le hS, (hcount fun c => decide (c ≠ .S)).trans_le hother,
    (hqueue ▸ List.length_map _).trans_le hall⟩

theorem faultsOk_updEntry {f : Faults} {g : FaultEntry → FaultEntry} (seq : Nat) (hg : ∀ e, (g e).cls = e.cls) (h : FaultsOk f) :
    FaultsOk (f.updEntry seq g) := by
  have hcls : ∀ e : FaultEntry, (if e.seq = seq then g e else e).cls = e.cls := fun e => by
    split
    · exact hg e
    · rfl
  have hcount : ∀ p : Cls → Bool, ((f.updEntry seq g).queue.filter fun e => p e.cls).length = (f.queue.filter fun e => p e.cls).length := fun p => by
    simp only [Faults.updEntry, List.filter_map, List.length_map, Function.comp_def, hcls]
  obtain ⟨hS, hother, hall⟩ := h
  exact ⟨(hcount fun c => decide (c = .S)).trans_le hS, (hcount fun c => decide (c ≠ .S)).trans_le hother, (List.length_map _).trans_le hall⟩

/-- A reset of the service core starts the running entry anew (R313). -/
theorem faultsOk_restart {f : Faults} (h : FaultsOk f) : FaultsOk f.restart := by
  refine faultsOk_of_map (fun e => ?_) rfl h
  split <;> rfl

theorem faultsOk_of_sublist {f f' : Faults} (hsub : f'.queue.Sublist f.queue) (h : FaultsOk f) : FaultsOk f' := by
  obtain ⟨hS, hother, hall⟩ := h
  exact ⟨(hsub.filter _).length_le.trans hS, (hsub.filter _).length_le.trans hother, hsub.length_le.trans hall⟩

theorem faultsOk_removeEntry {f : Faults} (seq : Nat) (h : FaultsOk f) : FaultsOk (f.removeEntry seq) := faultsOk_of_sublist List.filter_sublist h

/-- Preempting and starting an entry changes no class (R311, R312). -/
theorem faultsOk_select {f : Faults} (h : FaultsOk f) : FaultsOk f.select := by
  unfold Faults.select
  extract_lets f'
  have hpreempted : FaultsOk f' := by
    simp only [f']
    split
    · split
      · exact faultsOk_updEntry _ (fun _ => rfl) h
      · exact h
    · exact h
  split
  · exact faultsOk_updEntry _ (fun _ => rfl) hpreempted
  · exact hpreempted

theorem notifyStalls_steady {x1} (g : Steady s t) : Steady s (State.notifyStalls t x1) := by
  unfold State.notifyStalls
  split
  · exact g
  · exact steady_forEach (fun _ t => notifyStall_steady (steady_refl t)) (onFlt_steady (faultsOk_updEntry _ fun _ => rfl) g)

theorem notifyFault_steady {x1} (g : Steady s t) : Steady s (State.notifyFault t x1) := by
  unfold State.notifyFault
  exact steady_ite g (steady_forEach (fun _ t => notify_steady (steady_refl t)) (onFlt_steady (faultsOk_updEntry _ fun _ => rfl) g))

theorem handlerStep_steady {x1} (g : Steady s t) : Steady s (State.handlerStep t x1) := by
  have hadvance : ∀ {u}, Steady s u → Steady s (u.onFlt fun f => f.updEntry x1.seq fun x => { x with step := x.step + 1 }) :=
    fun hu => onFlt_steady (faultsOk_updEntry _ fun _ => rfl) hu
  have hfinish : ∀ {u}, Steady s u → Steady s (u.onFlt fun f => f.removeEntry x1.seq) := fun hu => onFlt_steady (faultsOk_removeEntry _) hu
  have hnotified : Steady s (t.notifyFault x1) := notifyFault_steady g
  have hstalled : Steady s (t.notifyStalls x1) := notifyStalls_steady g
  unfold State.handlerStep
  extract_lets advance finish
  split
  · exact hadvance hstalled
  · exact hadvance (steady_ite (g.calm (stopWeft_keeps (List.Subset.refl _) (keeps_refl _ _)) (by decide) (by decide)) g)
  · exact steady_ite (hadvance hnotified) (hfinish (hadvance hnotified))
  · exact steady_ite g (hfinish g)
  · exact hadvance hstalled
  · exact hfinish hnotified
  · exact hfinish hnotified

/-- A merge changes no entry's class and no length (R310). -/
theorem filter_mergeFirst_length (p : Cls → Bool) (w : FaultWord) (added : List Grp) (l : List FaultEntry) :
    ((mergeFirst w added l).filter fun e => p e.cls).length = (l.filter fun e => p e.cls).length := by
  induction l with
  | nil => rfl
  | cons e l ih =>
    unfold mergeFirst
    split
    · simp only [List.filter_cons]
      split <;> rfl
    · simp only [List.filter_cons]
      split
      · simp only [List.length_cons, ih]
      · exact ih

theorem mergeFirst_length (w : FaultWord) (added : List Grp) (l : List FaultEntry) : (mergeFirst w added l).length = l.length := by
  simpa using filter_mergeFirst_length (fun _ => true) w added l

theorem faultsOk_merge {f : Faults} (c : Cls) (w : FaultWord) (added : List Grp) (h : FaultsOk f) :
    FaultsOk { f.count c with queue := mergeFirst w added f.queue } := by
  obtain ⟨hS, hother, hall⟩ := h
  exact ⟨(filter_mergeFirst_length (fun c => decide (c = .S)) w added f.queue).trans_le hS,
    (filter_mergeFirst_length (fun c => decide (c ≠ .S)) w added f.queue).trans_le hother, (mergeFirst_length w added f.queue).trans_le hall⟩

/-- A class S fault finds no other of its class when none merges with it (R310). -/
theorem no_S_of_no_merge {f : Faults} {w : FaultWord} (hmerge : (f.queue.any fun e => e.merges w) = false) (hS : w.cls = .S) :
    f.queue.filter (fun e => decide (e.cls = .S)) = [] := by
  rw [List.filter_eq_nil_iff]
  intro e he hcls
  rw [List.any_eq_false] at hmerge
  refine hmerge e he ?_
  simp [FaultEntry.merges, of_decide_eq_true hcls, hS]

/-- A new entry finds room for its class (R309, R317). -/
theorem faultsOk_pushEntry {f : Faults} {w : FaultWord} (added : List Grp) (hmerge : (f.queue.any fun e => e.merges w) = false)
    (hroom : f.room w.cls = true) (h : FaultsOk f) : FaultsOk ((f.count w.cls).pushEntry w added) := by
  obtain ⟨hS, hother, hall⟩ := h
  simp only [Faults.room, Bool.and_eq_true, Bool.or_eq_true, decide_eq_true_eq, Faults.nonS, countIf] at hroom
  obtain ⟨hlen, hclass⟩ := hroom
  by_cases hcls : w.cls = .S
  · refine ⟨?_, ?_, ?_⟩
    · simp [Faults.pushEntry, Faults.count, List.filter_append, no_S_of_no_merge hmerge hcls, hcls]
    · simpa [Faults.pushEntry, Faults.count, List.filter_append, hcls] using hother
    · simpa [Faults.pushEntry, Faults.count] using hlen
  · have hfew := hclass.resolve_left hcls
    refine ⟨?_, ?_, ?_⟩
    · simpa [Faults.pushEntry, Faults.count, List.filter_append, hcls] using hS
    · simpa [Faults.pushEntry, Faults.count, List.filter_append, hcls] using hfew
    · simpa [Faults.pushEntry, Faults.count] using hlen

theorem enterFault_steady {w} (g : Steady s t) : Steady s ((t.enterFault w).getD t) := by
  have hstall : Steady s (t.stallAll w.cls).2 := stallAll_steady g
  have hflt : (t.stallAll w.cls).2.flt = t.flt := (stallAll_keeps (List.Subset.refl _) (keeps_refl _ _)).only.same .flt (by decide)
  unfold State.enterFault
  generalize t.stallAll w.cls = p at hstall hflt ⊢
  obtain ⟨added, u⟩ := p
  dsimp only at hstall hflt ⊢
  rw [← hflt]
  split
  · dsimp only [Option.getD_some]
    exact onFlt_steady (faultsOk_merge _ _ _) hstall
  next hmerge =>
    split
    next hroom =>
      dsimp only [Option.getD_some]
      exact onFlt_steady (faultsOk_pushEntry _ (Bool.eq_false_iff.mpr hmerge) hroom) hstall
    next => exact g

theorem closeGate_steady {x1} (g : Steady s t) : Steady s (State.closeGate t x1) := by
  unfold State.closeGate
  exact steady_ite g ((onFlt_steady id g).calm (record_keeps (List.Subset.refl _) (keeps_refl _ _)) (by decide) (by decide))

theorem writeFaults_steady {x1 x2} (g : Steady s t) : Steady s (State.writeFaults t x1 x2).2 := by
  unfold State.writeFaults
  refine steady_ite_pair ?_ g
  dsimp only
  exact onFlt_steady id g

theorem reportDropped_steady (g : Steady s t) : Steady s (State.reportDropped t) := by
  unfold State.reportDropped
  exact steady_ite g ((onFlt_steady id g).calm (record_keeps (List.Subset.refl _) (keeps_refl _ _)) (by decide) (by decide))

theorem dropFault_steady (g : Steady s t) : Steady s (State.dropFault t) := by
  unfold State.dropFault
  exact onFlt_steady id (reportDropped_steady g)

theorem opPermitRenewal_steady (g : Steady s t) : Steady s (opPermitRenewal t) := by
  unfold opPermitRenewal
  exact steady_ite g (steady_ite ((onFlt_steady id (onFlt_steady id g)).calm (record_keeps (List.Subset.refl _) (keeps_refl _ _)) (by decide) (by
    decide)) (onFlt_steady id g))

theorem takeCmd_steady {x1 x2} (g : Steady s t) : Steady s (State.takeCmd t x1 x2) := by
  unfold State.takeCmd
  extract_lets u c u1 now u2
  have hu : Steady s u := g.calm (onGroup_keeps (List.Subset.refl _) (keeps_refl _ _)) (by decide) (by decide)
  have hu1 : Steady s u1 := steady_ite (mirrorTaken_steady hu) hu
  have hu2 : Steady s u2 := steady_ite (hu1.calm (onGroup_keeps (List.Subset.refl _) (keeps_refl _ _)) (by decide) (by decide)) (steady_ite
    (accept_steady hu1) hu1)
  exact hu2.calm (onGroup_keeps (List.Subset.refl _) (keeps_refl _ _)) (by decide) (by decide)

theorem takeHeld_steady {x0 x1} (g : Steady s t) : Steady s (State.takeHeld x0 x1 t) := by
  induction x1 generalizing t with
  | zero => exact g
  | succ n ih =>
    unfold State.takeHeld
    dsimp only
    split
    · exact g
    · exact ih (takeCmd_steady (g.calm (onGroup_keeps (List.Subset.refl _) (keeps_refl _ _)) (by decide) (by decide)))

theorem payDue_steady {x1} (g : Steady s t) : Steady s (State.payDue t x1) := by
  unfold State.payDue
  exact steady_forEach (fun x t1 => notifyHolder_steady (steady_refl _)) (g.calm (onGroup_keeps (List.Subset.refl _) (keeps_refl _ _)) (by decide)
    (by decide))

theorem claimGroup_steady {x1 x2 x3 x4} (g : Steady s t) : Steady s (State.claimGroup t x1 x2 x3 x4) := by
  unfold State.claimGroup
  exact payDue_steady (g.calm (onGroup_keeps (List.Subset.refl _) (keeps_refl _ _)) (by decide) (by decide))

theorem idleWatch_steady (g : Steady s t) : Steady s (State.idleWatch t) := by
  unfold State.idleWatch
  exact steady_ite (wdtStart_steady g) g

theorem serviceActive_steady (g : Steady s t) : Steady s (State.serviceActive t) := by
  unfold State.serviceActive
  exact (idleWatch_steady g).calm (onPwr_keeps (List.Subset.refl _) (keeps_refl _ _)) (by decide) (by decide)

theorem endIdle_steady (g : Steady s t) : Steady s (State.endIdle t) := by
  unfold State.endIdle
  exact steady_ite (serviceActive_steady g) g

theorem rejectPacket_steady {x1 x2 x3 x4 x5 x6} (g : Steady s t) : Steady s (State.rejectPacket t x1 x2 x3 x4 x5 x6) := by
  unfold State.rejectPacket
  exact steady_ite ((g.calm (refuseOpen_keeps (List.Subset.refl _) (keeps_refl _ _)) (by decide) (by decide)).calm (sendPacket_keeps
    (List.Subset.refl _) (keeps_refl _ _)) (by decide) (by decide)) (sendOrHold_steady g)

theorem admitPacket_steady {x1 x2 x3 x4} (g : Steady s t) : Steady s (State.admitPacket t x1 x2 x3 x4) := by
  unfold State.admitPacket
  refine steady_ite (rejectPacket_steady (g.calm (onCmd_keeps (List.Subset.refl _) (keeps_refl _ _)) (by decide) (by decide))) ?_
  refine steady_ite (rejectPacket_steady (g.calm (onCmd_keeps (List.Subset.refl _) (keeps_refl _ _)) (by decide) (by decide))) ?_
  refine steady_dite ?_ ?_
  · intro h
    refine steady_ite (rejectPacket_steady (g.calm (onCmd_keeps (List.Subset.refl _) (keeps_refl _ _)) (by decide) (by decide))) ?_
    refine steady_ite (rejectPacket_steady (g.calm (onCmd_keeps (List.Subset.refl _) (keeps_refl _ _)) (by decide) (by decide))) ?_
    extract_lets u x d
    have hu : Steady s u := steady_ite ((g.calm (onCmd_keeps (List.Subset.refl _) (keeps_refl _ _)) (by decide) (by decide)).calm (onGroup_keeps
      (List.Subset.refl _) (keeps_refl _ _)) (by decide) (by decide)) (g.calm (onCmd_keeps (List.Subset.refl _) (keeps_refl _ _)) (by decide) (by
      decide))
    exact steady_ite (steady_ite (rejectPacket_steady hu) (takeHeld_steady (takeCmd_steady hu))) (steady_ite (steady_ite hu (steady_ite
      (rejectPacket_steady hu) (hu.calm (onGroup_keeps (List.Subset.refl _) (keeps_refl _ _)) (by decide) (by decide)))) (steady_ite
      (rejectPacket_steady hu) (rejectPacket_steady hu)))
  · intro h
    refine steady_ite (rejectPacket_steady (g.calm (onCmd_keeps (List.Subset.refl _) (keeps_refl _ _)) (by decide) (by decide))) ?_
    extract_lets c c1 u
    have hu : Steady s u := steady_ite (mirrorTaken_steady (g.calm (onCmd_keeps (List.Subset.refl _) (keeps_refl _ _)) (by decide) (by decide)))
      (g.calm (onCmd_keeps (List.Subset.refl _) (keeps_refl _ _)) (by decide) (by decide))
    exact hu.calm (onSource_keeps (List.Subset.refl _) (keeps_refl _ _)) (by decide) (by decide)

theorem receiveUdp_steady {x1 x2 x3 x4} (g : Steady s t) : Steady s (State.receiveUdp t x1 x2 x3 x4) := by
  unfold State.receiveUdp
  refine steady_ite (steady_ite (g.calm (countCrcFail_keeps (List.Subset.refl _) (keeps_refl _ _)) (by decide) (by decide)) (steady_ite
    (admitPacket_steady g) g)) ?_
  split
  · exact g.calm (countAuthFail_keeps (List.Subset.refl _) (keeps_refl _ _)) (by decide) (by decide)
  · split
    · exact g
    · refine steady_ite (g.calm (countAuthFail_keeps (List.Subset.refl _) (keeps_refl _ _)) (by decide) (by decide)) ?_
      extract_lets u u1
      have hu : Steady s u := g.calm (onCmd_keeps (List.Subset.refl _) (keeps_refl _ _)) (by decide) (by decide)
      have hu1 : Steady s u1 := steady_ite (admitPacket_steady hu) (hu.calm (countCrcFail_keeps (List.Subset.refl _) (keeps_refl _ _)) (by decide)
        (by decide))
      exact steady_ite (hu1.calm (closeSession_keeps (List.Subset.refl _) (keeps_refl _ _)) (by decide) (by decide)) hu1

theorem endOpen_steady {x1 x2} (g : Steady s t) : Steady s (State.endOpen t x1 x2) := by
  unfold State.endOpen
  dsimp only
  split
  · exact replyEnd_steady ((g.calm (refuseOpen_keeps (List.Subset.refl _) (keeps_refl _ _)) (by decide) (by decide)).calm (onSource_keeps
      (List.Subset.refl _) (keeps_refl _ _)) (by decide) (by decide))
  · exact failGroup_steady (replyEnd_steady ((g.calm (refuseOpen_keeps (List.Subset.refl _) (keeps_refl _ _)) (by decide) (by decide)).calm
      (onGroup_keeps (List.Subset.refl _) (keeps_refl _ _)) (by decide) (by decide)))

theorem startCmd_steady {x1} (g : Steady s t) : Steady s (State.startCmd t x1) := by
  unfold State.startCmd
  dsimp only
  split
  · exact g.calm (setExec_keeps (List.Subset.refl _) (keeps_refl _ _)) (by decide) (by decide)
  · exact steady_ite (endOpen_steady (g.calm (setExec_keeps (List.Subset.refl _) (keeps_refl _ _)) (by decide) (by decide))) (complete_steady (g.calm
      (setExec_keeps (List.Subset.refl _) (keeps_refl _ _)) (by decide) (by decide)))

theorem beginCmd_steady {x1} (g : Steady s t) : Steady s (State.beginCmd t x1) := by
  unfold State.beginCmd
  split
  · exact startCmd_steady g
  · exact steady_ite ((mirrorBegun_steady g).calm (setExec_keeps (List.Subset.refl _) (keeps_refl _ _)) (by decide) (by decide)) (startCmd_steady g)

theorem canGroups_steady (g : Steady s t) : Steady s (State.canGroups t) := by
  unfold State.canGroups
  exact steady_forEach (fun x t1 => payDue_steady (steady_refl _)) g

theorem startAcked_steady (g : Steady s t) : Steady s (State.startAcked t) := by
  unfold State.startAcked
  exact steady_forEach (fun x t1 => startCmd_steady (steady_refl _)) g

theorem discard_steady {x1} (g : Steady s t) : Steady s (State.discard t x1) := by
  unfold State.discard
  exact steady_ite (lateError_steady g) (replyEnd_steady g)

theorem receivePacket_steady {x1 x2} (g : Steady s t) : Steady s (State.receivePacket t x1 x2) := by
  unfold State.receivePacket
  refine steady_ite g ?_
  refine steady_ite (g.calm (onCmd_keeps (List.Subset.refl _) (keeps_refl _ _)) (by decide) (by decide)) ?_
  split
  · exact steady_ite (serviceActive_steady (g.calm (rxTake_keeps (List.Subset.refl _) (keeps_refl _ _)) (by decide) (by decide))) (steady_ite
      (admitPacket_steady (serviceActive_steady (g.calm (rxTake_keeps (List.Subset.refl _) (keeps_refl _ _)) (by decide) (by decide))))
      ((serviceActive_steady (g.calm (rxTake_keeps (List.Subset.refl _) (keeps_refl _ _)) (by decide) (by decide))).calm (countCrcFail_keeps
      (List.Subset.refl _) (keeps_refl _ _)) (by decide) (by decide)))
  · exact steady_ite (steady_ite (receiveUdp_steady (serviceActive_steady (g.calm (rxTake_keeps (List.Subset.refl _) (keeps_refl _ _)) (by decide)
      (by decide)))) g) (steady_ite (serviceActive_steady (g.calm (rxTake_keeps (List.Subset.refl _) (keeps_refl _ _)) (by decide) (by decide))) g)

theorem claimGroups_steady {x1 x2} (g : Steady s t) : Steady s (State.claimGroups t x1 x2) := by
  unfold State.claimGroups
  exact steady_forEach (fun x t1 => claimGroup_steady (steady_refl _)) g

theorem afterTrip_steady {x1} (g : Steady s t) : Steady s (State.afterTrip t x1) := by
  unfold State.afterTrip
  exact steady_ite (fault_steady (g.calm (onChan_keeps (List.Subset.refl _) (keeps_refl _ _)) (by decide) (by decide))) (steady_ite (g.calm
    (onChan_keeps (List.Subset.refl _) (keeps_refl _ _)) (by decide) (by decide)) (g.calm (onChan_keeps (List.Subset.refl _) (keeps_refl _ _)) (by
    decide) (by decide)))

theorem sleepTrip_steady {x1 x2 x3} (g : Steady s t) : Steady s (State.sleepTrip t x1 x2 x3) := by
  unfold State.sleepTrip
  exact fault_steady (((g.calm (countTrip_keeps (List.Subset.refl _) (keeps_refl _ _)) (by decide) (by decide)).calm (onChan_keeps (List.Subset.refl
    _) (keeps_refl _ _)) (by decide) (by decide)).calm (record_keeps (List.Subset.refl _) (keeps_refl _ _)) (by decide) (by decide))

theorem switchDue_steady {x1 x2} (g : Steady s t) : Steady s (State.switchDue t x1 x2) := by
  unfold State.switchDue
  split
  · exact g
  · exact steady_ite g (steady_ite ((g.calm (onChan_keeps (List.Subset.refl _) (keeps_refl _ _)) (by decide) (by decide)).calm (applyWeftCmd_keeps
      (List.Subset.refl _) (keeps_refl _ _)) (by decide) (by decide)) (fault_steady (g.calm (onChan_keeps (List.Subset.refl _) (keeps_refl _ _)) (by
      decide) (by decide))))

theorem endWaiting_steady {x1} (g : Steady s t) : Steady s (State.endWaiting t x1) := by
  unfold State.endWaiting
  exact steady_forEach (fun x t1 => completeId_steady (steady_refl _)) g

theorem endBarrier_steady (g : Steady s t) : Steady s (State.endBarrier t) := by
  unfold State.endBarrier
  exact steady_forEach (fun x t1 => completeId_steady (steady_refl _)) ((g.calm (onFld_keeps (List.Subset.refl _) (keeps_refl _ _)) (by decide) (by
    decide)).calm (onSupply_keeps (List.Subset.refl _) (keeps_refl _ _)) (by decide) (by decide))

theorem coolingLatch_steady {x1} (g : Steady s t) : Steady s (State.coolingLatch t x1) := by
  unfold State.coolingLatch
  exact fault_steady (g.calm (onChan_keeps (List.Subset.refl _) (keeps_refl _ _)) (by decide) (by decide))

theorem switchClear_steady (g : Steady s t) : Steady s (State.switchClear t) := by
  unfold State.switchClear
  exact (((endBarrier_steady (endWaiting_steady g)).calm (onSw_keeps (List.Subset.refl _) (keeps_refl _ _)) (by decide) (by decide)).calm
    (rebase_keeps (List.Subset.refl _) (keeps_refl _ _)) (by decide) (by decide)).calm (clearMem_keeps (List.Subset.refl _) (keeps_refl _ _)) (by
    decide) (by decide)

theorem opSwitchReset_steady (g : Steady s t) : Steady s (opSwitchReset t) := by
  unfold opSwitchReset
  exact fault_steady (switchClear_steady g)

theorem hostCheckFails_steady {x1 x2} (g : Steady s t) : Steady s (State.hostCheckFails t x1 x2) := by
  unfold State.hostCheckFails
  exact completeId_steady (fault_steady (g.calm (popWaiting_keeps (List.Subset.refl _) (keeps_refl _ _)) (by decide) (by decide)))

theorem applyHostCmd_steady {x1 x2} (g : Steady s t) : Steady s (State.applyHostCmd t x1 x2) := by
  unfold State.applyHostCmd
  refine steady_ite (completeId_steady (g.calm (popWaiting_keeps (List.Subset.refl _) (keeps_refl _ _)) (by decide) (by decide))) ?_
  refine steady_ite (completeId_steady (g.calm (popWaiting_keeps (List.Subset.refl _) (keeps_refl _ _)) (by decide) (by decide))) ?_
  split
  next h =>
    exact completeId_steady (((steady_of_eq h ((g.calm (popWaiting_keeps (List.Subset.refl _) (keeps_refl _ _)) (by decide) (by decide)).calm
      (changeMode_keeps (List.Subset.refl _) (keeps_refl _ _)) (by decide) (by decide))).calm (onChan_keeps (List.Subset.refl _) (keeps_refl _ _))
      (by decide) (by decide)).calm (rephase_keeps (List.Subset.refl _) (keeps_refl _ _)) (by decide) (by decide))
  next h =>
    exact completeId_steady (steady_of_eq h ((g.calm (popWaiting_keeps (List.Subset.refl _) (keeps_refl _ _)) (by decide) (by decide)).calm
      (changeMode_keeps (List.Subset.refl _) (keeps_refl _ _)) (by decide) (by decide)))
  next h =>
    exact completeId_steady (steady_of_eq h ((g.calm (popWaiting_keeps (List.Subset.refl _) (keeps_refl _ _)) (by decide) (by decide)).calm
      (changeMode_keeps (List.Subset.refl _) (keeps_refl _ _)) (by decide) (by decide)))
  next h =>
    exact completeId_steady ((steady_of_eq h ((g.calm (popWaiting_keeps (List.Subset.refl _) (keeps_refl _ _)) (by decide) (by decide)).calm
      (changeMode_keeps (List.Subset.refl _) (keeps_refl _ _)) (by decide) (by decide))).calm (record_keeps (List.Subset.refl _) (keeps_refl _ _))
      (by decide) (by decide))

theorem evalRequest_steady {x1 x2 x3 x4} (g : Steady s t) : Steady s (State.evalRequest t x1 x2 x3 x4).1 := by
  unfold State.evalRequest
  split
  · dsimp only
    split
    · dsimp only
      exact completeId_steady (g.calm (popWaiting_keeps (List.Subset.refl _) (keeps_refl _ _)) (by decide) (by decide))
    · split
      · dsimp only
        exact completeId_steady (g.calm (popWaiting_keeps (List.Subset.refl _) (keeps_refl _ _)) (by decide) (by decide))
      · split
        · dsimp only
          exact completeId_steady (g.calm (popWaiting_keeps (List.Subset.refl _) (keeps_refl _ _)) (by decide) (by decide))
        · dsimp only
          exact applyHostCmd_steady g
  · split
    · dsimp only
      split
      · dsimp only
        exact completeId_steady (g.calm (popWaiting_keeps (List.Subset.refl _) (keeps_refl _ _)) (by decide) (by decide))
      · split
        · dsimp only
          exact completeId_steady (g.calm (popWaiting_keeps (List.Subset.refl _) (keeps_refl _ _)) (by decide) (by decide))
        · split
          · dsimp only
            exact completeId_steady (g.calm (popWaiting_keeps (List.Subset.refl _) (keeps_refl _ _)) (by decide) (by decide))
          · split
            · dsimp only
              exact applyHostCmd_steady g
            · split
              · dsimp only
                exact (applyHostCmd_steady g).calm (onChan_keeps (List.Subset.refl _) (keeps_refl _ _)) (by decide) (by decide)
              · dsimp only
                exact g.calm (onChan_keeps (List.Subset.refl _) (keeps_refl _ _)) (by decide) (by decide)
    · dsimp only
      split
      · dsimp only
        exact completeId_steady (g.calm (popWaiting_keeps (List.Subset.refl _) (keeps_refl _ _)) (by decide) (by decide))
      · split
        · dsimp only
          exact completeId_steady (g.calm (popWaiting_keeps (List.Subset.refl _) (keeps_refl _ _)) (by decide) (by decide))
        · split
          · dsimp only
            exact completeId_steady (g.calm (popWaiting_keeps (List.Subset.refl _) (keeps_refl _ _)) (by decide) (by decide))
          · split
            · dsimp only
              exact applyHostCmd_steady g
            · split
              · dsimp only
                exact (applyHostCmd_steady g).calm (onChan_keeps (List.Subset.refl _) (keeps_refl _ _)) (by decide) (by decide)
              · dsimp only
                exact g.calm (onChan_keeps (List.Subset.refl _) (keeps_refl _ _)) (by decide) (by decide)

theorem markStep_steady {base bad} {a : State × MarkRun} {q} : Steady a.1 (State.markStep base bad a q).1 := by
  unfold State.markStep
  split
  · exact steady_refl _
  · dsimp only
    split
    · exact hostCheckFails_steady (steady_refl _)
    · split
      · exact steady_refl _
      · exact evalRequest_steady (steady_refl _)

theorem hostMark_steady {x1} (g : Steady s t) : Steady s (State.hostMark t x1) := by
  unfold State.hostMark
  refine steady_foldl1 _ (fun p x => markStep_steady) ?_
  dsimp only
  exact g.calm (onSw_keeps (List.Subset.refl _) (keeps_refl _ _)) (by decide) (by decide)

theorem switchCommit_steady {x1 x2} (g : Steady s t) : Steady s (State.switchCommit t x1 x2) := by
  unfold State.switchCommit
  dsimp only
  split
  · exact fault_steady ((g.calm (onSw_keeps (List.Subset.refl _) (keeps_refl _ _)) (by decide) (by decide)).calm (onSw_keeps (List.Subset.refl _)
      (keeps_refl _ _)) (by decide) (by decide))
  · exact steady_ite ((g.calm (onSw_keeps (List.Subset.refl _) (keeps_refl _ _)) (by decide) (by decide)).calm (onSw_keeps (List.Subset.refl _)
      (keeps_refl _ _)) (by decide) (by decide)) (steady_ite (islandPlanFault_steady ((g.calm (onSw_keeps (List.Subset.refl _) (keeps_refl _ _)) (by
      decide) (by decide)).calm (onSw_keeps (List.Subset.refl _) (keeps_refl _ _)) (by decide) (by decide))) ((g.calm (onSw_keeps (List.Subset.refl
      _) (keeps_refl _ _)) (by decide) (by decide)).calm (onSw_keeps (List.Subset.refl _) (keeps_refl _ _)) (by decide) (by decide)))

theorem endFire_steady {x1 x2 x3 x4 x5} (g : Steady s t) : Steady s (State.endFire t x1 x2 x3 x4 x5) := by
  unfold State.endFire
  split
  · exact g
  · exact completeId_steady (g.calm (onCoil_keeps (List.Subset.refl _) (keeps_refl _ _)) (by decide) (by decide))

theorem endFireEarly_steady {x1 x2} (g : Steady s t) : Steady s (State.endFireEarly t x1 x2) := by
  unfold State.endFireEarly
  split
  · exact endFire_steady g
  · exact endFire_steady g
  · exact endFire_steady g
  · exact endFire_steady g
  · exact endFire_steady g
  · exact endFire_steady g
  · refine steady_ite ?_ g
    split
    next h => exact endFire_steady (steady_of_eq h (g.calm (draw_keeps (List.Subset.refl _) (keeps_refl _ _)) (by decide) (by decide)))

theorem acRelease_steady {x1 x2} (g : Steady s t) : Steady s (State.acRelease t x1 x2) := by
  unfold State.acRelease
  exact steady_ite (endFireEarly_steady (((g.calm (dropBoost_keeps (List.Subset.refl _) (keeps_refl _ _)) (by decide) (by decide)).calm (onCoil_keeps
    (List.Subset.refl _) (keeps_refl _ _)) (by decide) (by decide)).calm (settle_keeps (List.Subset.refl _) (keeps_refl _ _)) (by decide) (by
    decide))) g

theorem acOrphanRelease_steady {x1} (g : Steady s t) : Steady s (State.acOrphanRelease t x1) := by
  unfold State.acOrphanRelease
  exact (acRelease_steady g).calm (acOrphanMark_keeps (List.Subset.refl _) (keeps_refl _ _)) (by decide) (by decide)

theorem acOrphanEnter_steady {x1} (g : Steady s t) : Steady s (State.acOrphanEnter t x1) := by
  unfold State.acOrphanEnter
  exact steady_ite (acOrphanRelease_steady (g.calm (onCoil_keeps (List.Subset.refl _) (keeps_refl _ _)) (by decide) (by decide))) (g.calm
    (onCoil_keeps (List.Subset.refl _) (keeps_refl _ _)) (by decide) (by decide))

theorem acOrphanEvent_steady {x1 x2} (g : Steady s t) : Steady s (State.acOrphanEvent t x1 x2) := by
  unfold State.acOrphanEvent
  exact steady_ite g (steady_forEach (fun x t1 => acOrphanEnter_steady (steady_refl _)) (g.calm (record_keeps (List.Subset.refl _) (keeps_refl _ _))
    (by decide) (by decide)))

theorem raiseDiag_steady {x1 x2 x3 x4 x5} (g : Steady s t) : Steady s (State.raiseDiag t x1 x2 x3 x4 x5) := by
  unfold State.raiseDiag
  exact fault_steady (g.calm (onCoil_keeps (List.Subset.refl _) (keeps_refl _ _)) (by decide) (by decide))

theorem bobDiag_steady {x1 x2 x3} (g : Steady s t) : Steady s (State.bobDiag t x1 x2 x3) := by
  unfold State.bobDiag
  dsimp only
  split
  · exact raiseDiag_steady g
  · exact raiseDiag_steady g
  · exact raiseDiag_steady g
  · exact raiseDiag_steady g
  · exact fault_steady (g.calm (onCoil_keeps (List.Subset.refl _) (keeps_refl _ _)) (by decide) (by decide))

theorem programEnd_steady {x1 x2} (g : Steady s t) : Steady s (State.programEnd t x1 x2) := by
  unfold State.programEnd
  dsimp only
  split
  · exact steady_ite ((acRelease_steady g).calm (acOrphanMark_keeps (List.Subset.refl _) (keeps_refl _ _)) (by decide) (by decide)) (acRelease_steady
      g)
  · exact acRelease_steady g

theorem acFire_steady {x1 x2 x3} (g : Steady s t) : Steady s (State.acFire t x1 x2 x3) := by
  unfold State.acFire
  refine steady_ite ?_ ?_
  · dsimp only
    split
    · exact g.calm (record_keeps (List.Subset.refl _) (keeps_refl _ _)) (by decide) (by decide)
    · exact completeId_steady (g.calm (record_keeps (List.Subset.refl _) (keeps_refl _ _)) (by decide) (by decide))
  · refine steady_ite ?_ ?_
    · dsimp only
      split
      · exact steady_ite (g.calm (record_keeps (List.Subset.refl _) (keeps_refl _ _)) (by decide) (by decide)) (planFault_steady g)
      · exact completeId_steady (steady_ite (g.calm (record_keeps (List.Subset.refl _) (keeps_refl _ _)) (by decide) (by decide)) (planFault_steady
          g))
    · refine steady_ite ?_ ?_
      · dsimp only
        split
        · exact g.calm (record_keeps (List.Subset.refl _) (keeps_refl _ _)) (by decide) (by decide)
        · exact completeId_steady (g.calm (record_keeps (List.Subset.refl _) (keeps_refl _ _)) (by decide) (by decide))
      · refine steady_ite ?_ ?_
        · dsimp only
          split
          · exact steady_ite (g.calm (record_keeps (List.Subset.refl _) (keeps_refl _ _)) (by decide) (by decide)) (planFault_steady g)
          · exact completeId_steady (steady_ite (g.calm (record_keeps (List.Subset.refl _) (keeps_refl _ _)) (by decide) (by decide))
              (planFault_steady g))
        · refine steady_ite ?_ ?_
          · dsimp only
            split
            · exact fault_steady g
            · exact completeId_steady (fault_steady g)
          · refine steady_ite ?_ ((g.calm (onCoil_keeps (List.Subset.refl _) (keeps_refl _ _)) (by decide) (by decide)).calm (settle_keeps
              (List.Subset.refl _) (keeps_refl _ _)) (by decide) (by decide))
            dsimp only
            split
            · exact fault_steady (g.calm (onCoil_keeps (List.Subset.refl _) (keeps_refl _ _)) (by decide) (by decide))
            · exact completeId_steady (fault_steady (g.calm (onCoil_keeps (List.Subset.refl _) (keeps_refl _ _)) (by decide) (by decide)))

theorem muteAct_steady {x1} (g : Steady s t) : Steady s (State.muteAct t x1) := by
  unfold State.muteAct
  exact steady_ite (acRelease_steady g) g

theorem refuseBoost_steady {x1} (g : Steady s t) : Steady s (State.refuseBoost t x1) := by
  unfold State.refuseBoost
  dsimp only
  refine acRelease_steady ?_
  refine endFire_steady ?_
  split
  · dsimp only
    exact fault_steady (g.calm (onCoil_keeps (List.Subset.refl _) (keeps_refl _ _)) (by decide) (by decide))
  · dsimp only
    exact fault_steady (g.calm (onCoil_keeps (List.Subset.refl _) (keeps_refl _ _)) (by decide) (by decide))

theorem judgeGuard_steady {x1 x2 x3} (g : Steady s t) : Steady s (State.judgeGuard t x1 x2 x3).2 := by
  unfold State.judgeGuard
  split
  · exact g
  · refine steady_ite_pair ?_ ?_
    · dsimp only
      exact g.calm (onEng_keeps (List.Subset.refl _) (keeps_refl _ _)) (by decide) (by decide)
    · refine steady_ite_pair g ?_
      split
      next h1 =>
        dsimp only
        exact bobDiag_steady ((steady_of_eq h1 (steady_ite_pair (g.calm (draw_keeps (List.Subset.refl _) (keeps_refl _ _)) (by decide) (by decide))
          g)).calm (onEng_keeps (List.Subset.refl _) (keeps_refl _ _)) (by decide) (by decide))

theorem bobGuards_steady {x1 x2} (g : Steady s t) : Steady s (State.bobGuards t x1 x2) := by
  unfold State.bobGuards
  dsimp only
  exact steady_ite (programEnd_steady (judgeGuard_steady (judgeGuard_steady g))) (steady_ite (programEnd_steady (judgeGuard_steady (judgeGuard_steady
    g))) (judgeGuard_steady (judgeGuard_steady g)))

theorem bobError_steady {x1 x2} (g : Steady s t) : Steady s (State.bobError t x1 x2) := by
  unfold State.bobError
  exact programEnd_steady (fault_steady (g.calm (onEng_keeps (List.Subset.refl _) (keeps_refl _ _)) (by decide) (by decide)))

theorem bobKeep_steady {x1} (g : Steady s t) : Steady s (State.bobKeep t x1) := by
  unfold State.bobKeep
  exact steady_ite (g.calm (onCoil_keeps (List.Subset.refl _) (keeps_refl _ _)) (by decide) (by decide)) (bobError_steady g)

theorem bobReg_steady {x1 x2} (g : Steady s t) : Steady s (State.bobReg t x1 x2).2 := by
  unfold State.bobReg
  refine steady_ite_pair ?_ ?_
  · dsimp only
    exact bobError_steady g
  · refine steady_ite_pair ?_ ?_
    · refine steady_ite_pair ?_ ?_
      · dsimp only
        exact bobError_steady g
      · dsimp only
        exact (g.calm (onCoil_keeps (List.Subset.refl _) (keeps_refl _ _)) (by decide) (by decide)).calm (bobNext_keeps (List.Subset.refl _)
          (keeps_refl _ _)) (by decide) (by decide)
    · dsimp only
      exact (g.calm (onEng_keeps (List.Subset.refl _) (keeps_refl _ _)) (by decide) (by decide)).calm (bobNext_keeps (List.Subset.refl _) (keeps_refl
        _ _)) (by decide) (by decide)

theorem bobGuard_steady {x1 x2 x3} (g : Steady s t) : Steady s (State.bobGuard t x1 x2 x3).2 := by
  unfold State.bobGuard
  refine steady_ite_pair ?_ ?_
  · dsimp only
    exact g.calm (bobNext_keeps (List.Subset.refl _) (keeps_refl _ _)) (by decide) (by decide)
  · refine steady_ite_pair ?_ ?_
    · dsimp only
      exact (g.calm (onEng_keeps (List.Subset.refl _) (keeps_refl _ _)) (by decide) (by decide)).calm (bobNext_keeps (List.Subset.refl _) (keeps_refl
        _ _)) (by decide) (by decide)
    · split
      · dsimp only
        split
        next h1 =>
          dsimp only
          exact programEnd_steady (steady_of_eq h1 (judgeGuard_steady ((g.calm (onEng_keeps (List.Subset.refl _) (keeps_refl _ _)) (by decide) (by
            decide)).calm (bobNext_keeps (List.Subset.refl _) (keeps_refl _ _)) (by decide) (by decide))))
        next h1 =>
          exact steady_of_eq h1 (judgeGuard_steady ((g.calm (onEng_keeps (List.Subset.refl _) (keeps_refl _ _)) (by decide) (by decide)).calm
            (bobNext_keeps (List.Subset.refl _) (keeps_refl _ _)) (by decide) (by decide)))
      · dsimp only
        split
        next h1 =>
          dsimp only
          exact programEnd_steady (steady_of_eq h1 (judgeGuard_steady ((g.calm (onEng_keeps (List.Subset.refl _) (keeps_refl _ _)) (by decide) (by
            decide)).calm (bobNext_keeps (List.Subset.refl _) (keeps_refl _ _)) (by decide) (by decide))))
        next h1 =>
          exact steady_of_eq h1 (judgeGuard_steady ((g.calm (onEng_keeps (List.Subset.refl _) (keeps_refl _ _)) (by decide) (by decide)).calm
            (bobNext_keeps (List.Subset.refl _) (keeps_refl _ _)) (by decide) (by decide)))

theorem bobFault_steady {x1 x2} (g : Steady s t) : Steady s (State.bobFault t x1 x2).2 := by
  unfold State.bobFault
  refine steady_ite_pair ?_ ?_
  · dsimp only
    exact programEnd_steady (bobDiag_steady g)
  · dsimp only
    exact (bobDiag_steady g).calm (bobNext_keeps (List.Subset.refl _) (keeps_refl _ _)) (by decide) (by decide)

theorem bobDone_steady {x1} (g : Steady s t) : Steady s (State.bobDone t x1) := by
  unfold State.bobDone
  refine steady_ite ?_ ((g.calm (onCoil_keeps (List.Subset.refl _) (keeps_refl _ _)) (by decide) (by decide)).calm (record_keeps (List.Subset.refl _)
    (keeps_refl _ _)) (by decide) (by decide))
  split
  next h =>
    exact endFire_steady (steady_of_eq h (((g.calm (onCoil_keeps (List.Subset.refl _) (keeps_refl _ _)) (by decide) (by decide)).calm (record_keeps
      (List.Subset.refl _) (keeps_refl _ _)) (by decide) (by decide)).calm (draw_keeps (List.Subset.refl _) (keeps_refl _ _)) (by decide) (by
      decide)))

theorem bobStep_steady {x1 x2} (g : Steady s t) : Steady s (State.bobStep t x1 x2).2 := by
  unfold State.bobStep
  dsimp only
  split
  · dsimp only
    exact steady_ite (bobKeep_steady g) (programEnd_steady g)
  · dsimp only
    exact (g.calm (onEng_keeps (List.Subset.refl _) (keeps_refl _ _)) (by decide) (by decide)).calm (bobNext_keeps (List.Subset.refl _) (keeps_refl _
      _)) (by decide) (by decide)
  · refine steady_ite_pair (g.calm (bobBoost_keeps (List.Subset.refl _) (keeps_refl _ _)) (by decide) (by decide)) ?_
    dsimp only
    exact (((g.calm (dropBoost_keeps (List.Subset.refl _) (keeps_refl _ _)) (by decide) (by decide)).calm (onEng_keeps (List.Subset.refl _)
      (keeps_refl _ _)) (by decide) (by decide)).calm (settle_keeps (List.Subset.refl _) (keeps_refl _ _)) (by decide) (by decide)).calm
      (bobNext_keeps (List.Subset.refl _) (keeps_refl _ _)) (by decide) (by decide)
  · refine steady_ite_pair ?_ ?_
    · dsimp only
      exact bobError_steady g
    · dsimp only
      exact (g.calm (onCoil_keeps (List.Subset.refl _) (keeps_refl _ _)) (by decide) (by decide)).calm (bobNext_keeps (List.Subset.refl _)
        (keeps_refl _ _)) (by decide) (by decide)
  · exact bobReg_steady g
  · refine steady_ite_pair ?_ g
    dsimp only
    exact g.calm (bobNext_keeps (List.Subset.refl _) (keeps_refl _ _)) (by decide) (by decide)
  · dsimp only
    exact steady_ite (g.calm (bobJump_keeps (List.Subset.refl _) (keeps_refl _ _)) (by decide) (by decide)) (g.calm (bobNext_keeps (List.Subset.refl
      _) (keeps_refl _ _)) (by decide) (by decide))
  · dsimp only
    exact g.calm (bobJump_keeps (List.Subset.refl _) (keeps_refl _ _)) (by decide) (by decide)
  · dsimp only
    exact (g.calm (onEng_keeps (List.Subset.refl _) (keeps_refl _ _)) (by decide) (by decide)).calm (bobNext_keeps (List.Subset.refl _) (keeps_refl _
      _)) (by decide) (by decide)
  · dsimp only
    exact (g.calm (onEng_keeps (List.Subset.refl _) (keeps_refl _ _)) (by decide) (by decide)).calm (bobNext_keeps (List.Subset.refl _) (keeps_refl _
      _)) (by decide) (by decide)
  · exact bobGuard_steady g
  · exact bobFault_steady g
  · dsimp only
    exact (g.calm (onEng_keeps (List.Subset.refl _) (keeps_refl _ _)) (by decide) (by decide)).calm (bobNext_keeps (List.Subset.refl _) (keeps_refl _
      _)) (by decide) (by decide)
  · refine steady_ite_pair ?_ ?_
    · dsimp only
      exact g.calm (bobNext_keeps (List.Subset.refl _) (keeps_refl _ _)) (by decide) (by decide)
    · dsimp only
      exact steady_ite ((g.calm (onEng_keeps (List.Subset.refl _) (keeps_refl _ _)) (by decide) (by decide)).calm (bobNext_keeps (List.Subset.refl _)
        (keeps_refl _ _)) (by decide) (by decide)) ((g.calm (onEng_keeps (List.Subset.refl _) (keeps_refl _ _)) (by decide) (by decide)).calm
        (bobJump_keeps (List.Subset.refl _) (keeps_refl _ _)) (by decide) (by decide))
  · dsimp only
    exact (bobDone_steady g).calm (bobNext_keeps (List.Subset.refl _) (keeps_refl _ _)) (by decide) (by decide)
  · dsimp only
    exact programEnd_steady g

theorem bobRun_steady {x0 x1 x2} (g : Steady s t) : Steady s (bobRun x0 x1 x2 t) := by
  induction x2 generalizing t with
  | zero => exact bobError_steady g
  | succ n ih =>
    unfold bobRun
    split
    next u h => exact ih (steady_of_eq h (bobStep_steady g))
    next _ u _ h => exact (steady_of_eq h (bobStep_steady g)).calm (onEng_keeps (List.Subset.refl _) (keeps_refl _ _)) (by decide) (by decide)

theorem engineResume_steady {x1 x2 x3} (g : Steady s t) : Steady s (State.engineResume t x1 x2 x3) := by
  unfold State.engineResume
  exact steady_ite (acOrphanRelease_steady ((bobRun_steady (g.calm (onEng_keeps (List.Subset.refl _) (keeps_refl _ _)) (by decide) (by decide))).calm
    (onEng_keeps (List.Subset.refl _) (keeps_refl _ _)) (by decide) (by decide))) ((bobRun_steady (g.calm (onEng_keeps (List.Subset.refl _)
    (keeps_refl _ _)) (by decide) (by decide))).calm (onEng_keeps (List.Subset.refl _) (keeps_refl _ _)) (by decide) (by decide))

theorem engineUpdate_steady {x1 x2} (g : Steady s t) : Steady s (State.engineUpdate t x1 x2) := by
  unfold State.engineUpdate
  exact steady_ite (engineResume_steady (bobGuards_steady g)) (bobGuards_steady g)

theorem resumeOther_steady {x1} (g : Steady s t) : Steady s (State.resumeOther t x1) := by
  unfold State.resumeOther
  exact steady_ite ((engineResume_steady g).calm (endUpdate_keeps (List.Subset.refl _) (keeps_refl _ _)) (by decide) (by decide)) g

theorem endAcWaiting_steady {x1} (g : Steady s t) : Steady s (State.endAcWaiting t x1) := by
  unfold State.endAcWaiting
  refine steady_foldl _ ?_ g
  intro t1 x
  split
  · exact completeId_steady (steady_refl _)
  · exact completeId_steady (steady_refl _)

theorem driveClear_steady (g : Steady s t) : Steady s (State.driveClear t) := by
  unfold State.driveClear
  exact (((steady_forEach (fun x t1 => endAcWaiting_steady (endFireEarly_steady (steady_refl _))) g).calm (onDrv_keeps (List.Subset.refl _)
    (keeps_refl _ _)) (by decide) (by decide)).calm (railUpdate_keeps (List.Subset.refl _) (keeps_refl _ _)) (by decide) (by decide)).calm
    (clearMem_keeps (List.Subset.refl _) (keeps_refl _ _)) (by decide) (by decide)

theorem opDriveReset_steady (g : Steady s t) : Steady s (opDriveReset t) := by
  unfold opDriveReset
  exact fault_steady (driveClear_steady g)

theorem writeAct_steady {x1 x2 x3} (g : Steady s t) : Steady s (State.writeAct t x1 x2 x3).2 := by
  unfold State.writeAct
  refine steady_ite_pair ?_ ?_
  · refine steady_ite_pair ?_ ?_
    · dsimp only
      exact g.calm (acDenied_keeps (List.Subset.refl _) (keeps_refl _ _)) (by decide) (by decide)
    · split
      · dsimp only
        exact g.calm (acDenied_keeps (List.Subset.refl _) (keeps_refl _ _)) (by decide) (by decide)
      · dsimp only
        exact muteAct_steady (g.calm (onCoil_keeps (List.Subset.refl _) (keeps_refl _ _)) (by decide) (by decide))
  · refine steady_ite_pair ?_ ?_
    · dsimp only
      exact g.calm (onCoil_keeps (List.Subset.refl _) (keeps_refl _ _)) (by decide) (by decide)
    · refine steady_ite_pair ?_ ?_
      · dsimp only
        exact steady_ite (g.calm (onCoil_keeps (List.Subset.refl _) (keeps_refl _ _)) (by decide) (by decide)) g
      · refine steady_ite_pair ?_ g
        dsimp only
        exact steady_ite (g.calm (onCoil_keeps (List.Subset.refl _) (keeps_refl _ _)) (by decide) (by decide)) g

theorem driveCommit_steady {x1 x2} (g : Steady s t) : Steady s (State.driveCommit t x1 x2) := by
  unfold State.driveCommit
  dsimp only
  split
  · exact fault_steady ((g.calm (onDrv_keeps (List.Subset.refl _) (keeps_refl _ _)) (by decide) (by decide)).calm (onDrv_keeps (List.Subset.refl _)
      (keeps_refl _ _)) (by decide) (by decide))
  · exact steady_ite ((g.calm (onDrv_keeps (List.Subset.refl _) (keeps_refl _ _)) (by decide) (by decide)).calm (onDrv_keeps (List.Subset.refl _)
      (keeps_refl _ _)) (by decide) (by decide)) (steady_ite (islandPlanFault_steady ((g.calm (onDrv_keeps (List.Subset.refl _) (keeps_refl _ _)) (by
      decide) (by decide)).calm (onDrv_keeps (List.Subset.refl _) (keeps_refl _ _)) (by decide) (by decide))) ((g.calm (onDrv_keeps (List.Subset.refl
      _) (keeps_refl _ _)) (by decide) (by decide)).calm (onDrv_keeps (List.Subset.refl _) (keeps_refl _ _)) (by decide) (by decide)))

theorem opActuatorOrphanSafe_steady {x0 t} (g : Steady s t) : Steady s (opActuatorOrphanSafe x0 t) := by
  unfold opActuatorOrphanSafe
  exact steady_ite (acOrphanRelease_steady g) g

theorem applyDriveCmd_steady {x1 x2} (g : Steady s t) : Steady s (State.applyDriveCmd t x1 x2) := by
  unfold State.applyDriveCmd
  exact steady_ite (acRelease_steady g) (steady_ite g (acFire_steady g))

theorem driveDue_steady {x1 x2} (g : Steady s t) : Steady s (State.driveDue t x1 x2) := by
  unfold State.driveDue
  split
  · exact g
  · exact steady_ite (applyDriveCmd_steady (g.calm (onCoil_keeps (List.Subset.refl _) (keeps_refl _ _)) (by decide) (by decide))) (fault_steady
      (g.calm (onCoil_keeps (List.Subset.refl _) (keeps_refl _ _)) (by decide) (by decide)))

theorem opBankDeferExpiry_steady {x0 t} (g : Steady s t) : Steady s (opBankDeferExpiry x0 t) := by
  unfold opBankDeferExpiry
  exact steady_ite (refuseBoost_steady g) g

theorem applyAcReq_steady {x1 x2} (g : Steady s t) : Steady s (State.applyAcReq t x1 x2) := by
  unfold State.applyAcReq
  dsimp only
  split
  · exact steady_ite (completeId_steady g) (steady_ite (completeId_steady g) (steady_ite (completeId_steady g) (steady_ite (completeId_steady g)
      (acFire_steady g))))
  · exact steady_ite (completeId_steady g) (steady_ite (completeId_steady g) (completeId_steady ((acRelease_steady g).calm (onCoil_keeps
      (List.Subset.refl _) (keeps_refl _ _)) (by decide) (by decide))))

theorem driveHostMark_steady {x1} (g : Steady s t) : Steady s (State.driveHostMark t x1) := by
  unfold State.driveHostMark
  exact steady_forEach (fun x t1 => steady_forEach (fun x2 t2 => steady_ite (completeId_steady (fault_steady (steady_refl _))) (applyAcReq_steady
    (steady_refl _))) ((steady_refl _).calm (onCoil_keeps (List.Subset.refl _) (keeps_refl _ _)) (by decide) (by decide))) g

theorem driveForceSafe_steady (g : Steady s t) : Steady s (State.driveForceSafe t) := by
  unfold State.driveForceSafe
  exact steady_ite ((steady_forEach (fun x t1 => endFireEarly_steady ((((steady_refl _).calm (dropBoost_keeps (List.Subset.refl _) (keeps_refl _ _))
    (by decide) (by decide)).calm (onCoil_keeps (List.Subset.refl _) (keeps_refl _ _)) (by decide) (by decide)).calm (settle_keeps (List.Subset.refl
    _) (keeps_refl _ _)) (by decide) (by decide))) g).calm (onDrv_keeps (List.Subset.refl _) (keeps_refl _ _)) (by decide) (by decide))
    (((steady_forEach (fun x t1 => endFireEarly_steady ((((steady_refl _).calm (dropBoost_keeps (List.Subset.refl _) (keeps_refl _ _)) (by decide)
    (by decide)).calm (onCoil_keeps (List.Subset.refl _) (keeps_refl _ _)) (by decide) (by decide)).calm (settle_keeps (List.Subset.refl _)
    (keeps_refl _ _)) (by decide) (by decide))) g).calm (onDrv_keeps (List.Subset.refl _) (keeps_refl _ _)) (by decide) (by decide)).calm
    (record_keeps (List.Subset.refl _) (keeps_refl _ _)) (by decide) (by decide))

theorem queueAct_steady {x1 x2} (g : Steady s t) : Steady s (State.queueAct t x1 x2) := by
  unfold State.queueAct
  split
  · exact completeId_steady g
  · exact g.calm (onCoil_keeps (List.Subset.refl _) (keeps_refl _ _)) (by decide) (by decide)

theorem queueChan_steady {x1 x2} (g : Steady s t) : Steady s (State.queueChan t x1 x2) := by
  unfold State.queueChan
  split
  · exact completeId_steady g
  · split
    · exact completeId_steady g
    · exact (g.calm (onSw_keeps (List.Subset.refl _) (keeps_refl _ _)) (by decide) (by decide)).calm (onChan_keeps (List.Subset.refl _) (keeps_refl _
        _)) (by decide) (by decide)

theorem serviceArrive_steady {x1 x2} (g : Steady s t) : Steady s (State.serviceArrive t x1 x2) := by
  unfold State.serviceArrive
  dsimp only
  split
  · exact takeAcks_steady g
  · split
    next h1 =>
      exact steady_ite (steady_ite (queueAct_steady (steady_of_eq h1 (receiveWord_steady (takeAcks_steady g)))) (queueChan_steady (steady_of_eq h1
        (receiveWord_steady (takeAcks_steady g))))) (steady_ite ((steady_of_eq h1 (receiveWord_steady (takeAcks_steady g))).calm (heard_keeps
        (List.Subset.refl _) (keeps_refl _ _)) (by decide) (by decide)) (steady_of_eq h1 (receiveWord_steady (takeAcks_steady g))))
    next h1 =>
      exact steady_ite (completeId_steady (steady_of_eq h1 (receiveWord_steady (takeAcks_steady g)))) (steady_of_eq h1 (receiveWord_steady
        (takeAcks_steady g)))

theorem heartbeat_steady {x1 x2 x3} (g : Steady s t) : Steady s (State.heartbeat t x1 x2 x3) := by
  unfold State.heartbeat
  extract_lets k u
  have hu : Steady s u := steady_ite g (steady_forEach (fun x t1 => steady_ite (serviceArrive_steady (steady_refl _)) (steady_refl _)) g)
  split
  next h => exact steady_of_eq h (receiveWord_steady hu)
  next h => exact (steady_of_eq h (receiveWord_steady hu)).calm (heard_keeps (List.Subset.refl _) (keeps_refl _ _)) (by decide) (by decide)

theorem serviceDrain_steady {x1} (g : Steady s t) : Steady s (State.serviceDrain t x1) := by
  unfold State.serviceDrain
  exact steady_forEach (fun x t1 => serviceArrive_steady (steady_refl _)) g

theorem access_steady {x1 x2 x3} (g : Steady s t) : Steady s (State.access t x1 x2 x3) := by
  unfold State.access
  split
  · exact g
  · extract_lets u u1
    have hu : Steady s u := steady_ite (serviceDrain_steady g) (steady_ite (serviceDrain_steady g) g)
    have hu1 : Steady s u1 := by
      unfold u1
      split
      · exact takeAcks_steady hu
      · exact hu
    exact hu1.calm (crossWords_keeps (List.Subset.refl _) (keeps_refl _ _)) (by decide) (by decide)

theorem serviceDue_steady {x1} (g : Steady s t) : Steady s (State.serviceDue t x1) := by
  unfold State.serviceDue
  exact steady_forEach (fun x t1 => steady_ite (serviceArrive_steady (steady_refl _)) (steady_refl _)) g

theorem fieldStop_steady {x1} (g : Steady s t) : Steady s (State.fieldStop t x1) := by
  unfold State.fieldStop
  exact steady_forEach (fun x t1 => completeId_steady (steady_refl _)) (g.calm (onFld_keeps (List.Subset.refl _) (keeps_refl _ _)) (by decide) (by
    decide))

theorem sideFrame_steady {x1 x2 x3 x4 x5 x6 x7} (g : Steady s t) : Steady s (State.sideFrame t x1 x2 x3 x4 x5 x6 x7) := by
  unfold State.sideFrame
  extract_lets ids u heavy u1
  have hu : Steady s u := by
    unfold u
    split
    · exact g
    · exact steady_forEach (fun x8 t1 => completeId_steady (steady_refl _)) (steady_forEach (fun x8 t1 => (steady_refl _).calm (barrierFailure_keeps
        (List.Subset.refl _) (keeps_refl _ _)) (by decide) (by decide)) (g.calm (onFld_keeps (List.Subset.refl _) (keeps_refl _ _)) (by decide) (by
        decide)))
  have hu1 : Steady s u1 := hu.calm (onSide_keeps (List.Subset.refl _) (keeps_refl _ _)) (by decide) (by decide)
  exact hu1.calm (onFld_keeps (List.Subset.refl _) (keeps_refl _ _)) (by decide) (by decide)

theorem receiveField_steady {x1} (g : Steady s t) : Steady s (State.receiveField t x1) := by
  unfold State.receiveField
  split
  · exact g
  · refine steady_ite (((g.calm (onFld_keeps (List.Subset.refl _) (keeps_refl _ _)) (by decide) (by decide)).calm (onFld_keeps (List.Subset.refl _)
      (keeps_refl _ _)) (by decide) (by decide)).calm (barrierFailure_keeps (List.Subset.refl _) (keeps_refl _ _)) (by decide) (by decide)) ?_
    refine steady_ite (g.calm (onFld_keeps (List.Subset.refl _) (keeps_refl _ _)) (by decide) (by decide)) ?_
    refine steady_ite ?_ (steady_forEach (fun x2 t1 => completeId_steady (steady_refl _)) (((g.calm (onFld_keeps (List.Subset.refl _) (keeps_refl _
      _)) (by decide) (by decide)).calm (onSupply_keeps (List.Subset.refl _) (keeps_refl _ _)) (by decide) (by decide)).calm (onFld_keeps
      (List.Subset.refl _) (keeps_refl _ _)) (by decide) (by decide)))
    extract_lets u1 mv u2
    have hu1 : Steady s u1 := (steady_forEach (fun x2 t1 => completeId_steady (steady_refl _)) (((g.calm (onFld_keeps (List.Subset.refl _)
      (keeps_refl _ _)) (by decide) (by decide)).calm (onSupply_keeps (List.Subset.refl _) (keeps_refl _ _)) (by decide) (by decide)).calm
      (onFld_keeps (List.Subset.refl _) (keeps_refl _ _)) (by decide) (by decide))).calm (onFld_keeps (List.Subset.refl _) (keeps_refl _ _)) (by
      decide) (by decide)
    have hu2 : Steady s u2 := steady_ite (hu1.calm (record_keeps (List.Subset.refl _) (keeps_refl _ _)) (by decide) (by decide)) (fault_steady hu1)
    exact hu2.calm (record_keeps (List.Subset.refl _) (keeps_refl _ _)) (by decide) (by decide)

theorem nmAction_steady {x1 x2} (g : Steady s t) : Steady s (State.nmAction t x1 x2) := by
  unfold State.nmAction
  refine onCommand_steady ?_ g
  intro c t1
  refine steady_ite (steady_refl _) ?_
  refine steady_ite (complete_steady (steady_refl _)) ?_
  split
  · exact complete_steady (steady_refl _)
  · refine complete_steady ?_
    refine Steady.calm ?_ (tc10Judge_keeps (List.Subset.refl _) (keeps_refl _ _)) (by decide) (by decide)
    refine steady_forEach ?_ (steady_refl _)
    intro x3 t2
    extract_lets u st u1
    have hu : Steady t2 u := (steady_refl _).calm (onNmCh_keeps (List.Subset.refl _) (keeps_refl _ _)) (by decide) (by decide)
    have hu1 : Steady t2 u1 := steady_ite (hu.calm (nmEnter_keeps (List.Subset.refl _) (keeps_refl _ _)) (by decide) (by decide)) hu
    exact hu1.calm (nmJudge_keeps (List.Subset.refl _) (keeps_refl _ _)) (by decide) (by decide)

theorem emptyBuf_steady {x1 x2 x3} (g : Steady s t) : Steady s (State.emptyBuf t x1 x2 x3) := by
  unfold State.emptyBuf
  dsimp only
  split
  · exact g
  · split
    · exact g.calm (onCanCh_keeps (List.Subset.refl _) (keeps_refl _ _)) (by decide) (by decide)
    · exact completeId_steady (g.calm (onCanCh_keeps (List.Subset.refl _) (keeps_refl _ _)) (by decide) (by decide))

theorem attemptFailed_steady {x1 x2 x3} (g : Steady s t) : Steady s (State.attemptFailed t x1 x2 x3) := by
  unfold State.attemptFailed
  dsimp only
  split
  · exact g
  · exact steady_ite (emptyBuf_steady (g.calm (onCanCh_keeps (List.Subset.refl _) (keeps_refl _ _)) (by decide) (by decide))) (g.calm (onCanCh_keeps
      (List.Subset.refl _) (keeps_refl _ _)) (by decide) (by decide))

theorem setCtrl_steady {x1 x2} (g : Steady s t) : Steady s (State.setCtrl t x1 x2) := by
  unfold State.setCtrl
  refine steady_ite (g.calm (onCanCh_keeps (List.Subset.refl _) (keeps_refl _ _)) (by decide) (by decide)) ?_
  extract_lets u
  have hu : Steady s u := steady_ite (g.calm (onCanCh_keeps (List.Subset.refl _) (keeps_refl _ _)) (by decide) (by decide)) (steady_forEach (fun x t1
    => emptyBuf_steady (steady_refl _)) (g.calm (onCanCh_keeps (List.Subset.refl _) (keeps_refl _ _)) (by decide) (by decide)))
  exact steady_ite (hu.calm (onCanCh_keeps (List.Subset.refl _) (keeps_refl _ _)) (by decide) (by decide)) (steady_ite (hu.calm (onCanCh_keeps
    (List.Subset.refl _) (keeps_refl _ _)) (by decide) (by decide)) hu)

theorem resetCan_steady (g : Steady s t) : Steady s (State.resetCan t) := by
  unfold State.resetCan
  exact steady_forEach (fun x t1 => completeId_steady (steady_refl _)) ((steady_forEach (fun x t1 => (steady_refl _).calm (onCanCh_keeps
    (List.Subset.refl _) (keeps_refl _ _)) (by decide) (by decide)) g).calm (asmEnd_keeps (List.Subset.refl _) (keeps_refl _ _)) (by decide) (by
    decide))

theorem writeCanCh_steady {x1 x2 x3} (g : Steady s t) : Steady s (State.writeCanCh t x1 x2 x3).2 := by
  unfold State.writeCanCh
  split
  · refine steady_ite_pair ?_ ?_
    · dsimp only
      exact g.calm (onCanCh_keeps (List.Subset.refl _) (keeps_refl _ _)) (by decide) (by decide)
    · dsimp only
      exact (setCtrl_steady g).calm (nmJudge_keeps (List.Subset.refl _) (keeps_refl _ _)) (by decide) (by decide)
  · refine steady_ite_pair ?_ ?_
    · dsimp only
      exact g.calm (onCanCh_keeps (List.Subset.refl _) (keeps_refl _ _)) (by decide) (by decide)
    · refine steady_ite_pair ?_ ?_
      · dsimp only
        exact g.calm (onCanCh_keeps (List.Subset.refl _) (keeps_refl _ _)) (by decide) (by decide)
      · dsimp only
        exact g.calm (onCanCh_keeps (List.Subset.refl _) (keeps_refl _ _)) (by decide) (by decide)
  · refine steady_ite_pair ?_ ?_
    · dsimp only
      exact g.calm (onCanCh_keeps (List.Subset.refl _) (keeps_refl _ _)) (by decide) (by decide)
    · refine steady_ite_pair ?_ ?_
      · dsimp only
        exact g.calm (onCanCh_keeps (List.Subset.refl _) (keeps_refl _ _)) (by decide) (by decide)
      · dsimp only
        exact g.calm (onCanCh_keeps (List.Subset.refl _) (keeps_refl _ _)) (by decide) (by decide)
  · refine steady_ite_pair ?_ ?_
    · dsimp only
      exact g.calm (onCanCh_keeps (List.Subset.refl _) (keeps_refl _ _)) (by decide) (by decide)
    · dsimp only
      exact g.calm (onCanCh_keeps (List.Subset.refl _) (keeps_refl _ _)) (by decide) (by decide)
  · dsimp only
    exact g.calm (onCanCh_keeps (List.Subset.refl _) (keeps_refl _ _)) (by decide) (by decide)
  · dsimp only
    exact g.calm (onCanCh_keeps (List.Subset.refl _) (keeps_refl _ _)) (by decide) (by decide)
  · refine steady_dite_pair ?_ (fun h6 => g)
    intro h6
    dsimp only
    exact g.calm (onCanCh_keeps (List.Subset.refl _) (keeps_refl _ _)) (by decide) (by decide)

theorem ipConflict_steady {x1 x2} (g : Steady s t) : Steady s (State.ipConflict t x1 x2) := by
  unfold State.ipConflict
  exact fault_steady g

theorem drainPort_steady {give p n} (h : ∀ b u, Steady u (give b u)) (g : Steady s t) : Steady s (State.drainPort give p n t) := by
  induction n generalizing t with
  | zero => exact g
  | succ n ih =>
    unfold State.drainPort
    dsimp only
    split
    · exact g
    · exact ih ((g.calm (onEth_keeps (List.Subset.refl _) (keeps_refl _ _)) (by decide) (by decide)).trans (h _ _))

theorem arpReceive_steady {x1} (g : Steady s t) : Steady s (State.arpReceive t x1) := by
  unfold State.arpReceive
  refine steady_ite g ?_
  extract_lets u u1 u2
  have hu : Steady s u := serviceActive_steady g
  have hu1 : Steady s u1 := steady_ite (hu.calm (onEth_keeps (List.Subset.refl _) (keeps_refl _ _)) (by decide) (by decide)) hu
  have hu2 : Steady s u2 := ipConflict_steady hu1
  exact steady_ite hu1 (steady_ite (steady_ite ((hu2.calm (send_keeps (List.Subset.refl _) (keeps_refl _ _)) (by decide) (by decide)).calm
    (dropAddress_keeps (List.Subset.refl _) (keeps_refl _ _)) (by decide) (by decide)) hu2) (steady_ite (hu1.calm (fromP0_keeps (List.Subset.refl _)
    (keeps_refl _ _)) (by decide) (by decide)) hu1))

theorem ipReceive_steady {x1} (g : Steady s t) : Steady s (State.ipReceive t x1) := by
  unfold State.ipReceive
  exact steady_ite g ((serviceActive_steady g).calm (fromP0_keeps (List.Subset.refl _) (keeps_refl _ _)) (by decide) (by decide))

theorem toService_steady {x1} (g : Steady s t) : Steady s (State.toService t x1) := by
  unfold State.toService
  exact steady_ite g (steady_ite (arpReceive_steady g) (steady_ite (ipReceive_steady g) g))

theorem drainEth_steady (g : Steady s t) : Steady s (State.drainEth t) := by
  unfold State.drainEth
  exact steady_ite g ((drainPort_steady (fun b t1 => toService_steady (steady_refl _)) g).calm (drainLines_keeps (List.Subset.refl _) (keeps_refl _
    _)) (by decide) (by decide))

theorem opLinkDown_steady {x0 t} (g : Steady s t) : Steady s (opLinkDown x0 t) := by
  unfold opLinkDown
  exact steady_ite (fault_steady (g.calm (onPort_keeps (List.Subset.refl _) (keeps_refl _ _)) (by decide) (by decide))) g

theorem retrain_steady {x1 x2} (g : Steady s t) : Steady s (State.retrain t x1 x2) := by
  unfold State.retrain
  exact steady_forEach (fun x t1 => steady_ite (steady_refl _) (opLinkDown_steady (steady_refl _))) g

theorem writeEth_steady {x1 x2} (g : Steady s t) : Steady s (State.writeEth t x1 x2).2 := by
  unfold State.writeEth
  split
  · dsimp only
    exact steady_ite ((retrain_steady g).calm (onEth_keeps (List.Subset.refl _) (keeps_refl _ _)) (by decide) (by decide)) ((retrain_steady g).calm
      (readdress_keeps (List.Subset.refl _) (keeps_refl _ _)) (by decide) (by decide))
  · refine steady_ite_pair ?_ (g.calm (ethReject_keeps (List.Subset.refl _) (keeps_refl _ _)) (by decide) (by decide))
    dsimp only
    exact g.calm (onEth_keeps (List.Subset.refl _) (keeps_refl _ _)) (by decide) (by decide)
  · dsimp only
    exact (steady_forEach (fun x t1 => (steady_refl _).calm (onPort_keeps (List.Subset.refl _) (keeps_refl _ _)) (by decide) (by decide)) g).calm
      (onEth_keeps (List.Subset.refl _) (keeps_refl _ _)) (by decide) (by decide)
  · dsimp only
    exact steady_ite (g.calm (onEth_keeps (List.Subset.refl _) (keeps_refl _ _)) (by decide) (by decide)) (g.calm (readdress_keeps (List.Subset.refl
      _) (keeps_refl _ _)) (by decide) (by decide))
  · dsimp only
    exact steady_ite (g.calm (onEth_keeps (List.Subset.refl _) (keeps_refl _ _)) (by decide) (by decide)) (g.calm (readdress_keeps (List.Subset.refl
      _) (keeps_refl _ _)) (by decide) (by decide))
  · dsimp only
    exact steady_ite (g.calm (onEth_keeps (List.Subset.refl _) (keeps_refl _ _)) (by decide) (by decide)) (g.calm (readdress_keeps (List.Subset.refl
      _) (keeps_refl _ _)) (by decide) (by decide))
  · refine steady_dite_pair ?_ ?_
    · intro h6
      dsimp only
      exact g.calm (onEth_keeps (List.Subset.refl _) (keeps_refl _ _)) (by decide) (by decide)
    · intro h6
      refine steady_dite_pair ?_ ?_
      · intro h7
        refine steady_ite_pair ?_ (g.calm (ethReject_keeps (List.Subset.refl _) (keeps_refl _ _)) (by decide) (by decide))
        dsimp only
        exact g.calm (onEth_keeps (List.Subset.refl _) (keeps_refl _ _)) (by decide) (by decide)
      · intro h7
        refine steady_dite_pair ?_ (fun h8 => g)
        intro h8
        dsimp only
        split
        · dsimp only
          exact g.calm (onEth_keeps (List.Subset.refl _) (keeps_refl _ _)) (by decide) (by decide)
        · exact g.calm (ethReject_keeps (List.Subset.refl _) (keeps_refl _ _)) (by decide) (by decide)

theorem resetEth_steady (g : Steady s t) : Steady s (State.resetEth t) := by
  unfold State.resetEth
  exact steady_ite ((steady_forEach (fun x t1 => (steady_refl _).calm (record_keeps (List.Subset.refl _) (keeps_refl _ _)) (by decide) (by decide))
    (steady_forEach (fun x t1 => fault_steady (steady_refl _)) ((g.calm (onEth_keeps (List.Subset.refl _) (keeps_refl _ _)) (by decide) (by
    decide)).calm (onWt_keeps (List.Subset.refl _) (keeps_refl _ _)) (by decide) (by decide)))).calm (setSource_keeps (List.Subset.refl _)
    (keeps_refl _ _)) (by decide) (by decide)) (steady_forEach (fun x t1 => fault_steady (steady_refl _)) ((g.calm (onEth_keeps (List.Subset.refl _)
    (keeps_refl _ _)) (by decide) (by decide)).calm (onWt_keeps (List.Subset.refl _) (keeps_refl _ _)) (by decide) (by decide)))

theorem farDone_steady {x1 x2 x3 x4 x5 x6} (g : Steady s t) : Steady s (State.farDone t x1 x2 x3 x4 x5 x6) := by
  unfold State.farDone
  exact complete_steady g

theorem farLate_steady {x1 x2 x3 x4 x5} (g : Steady s t) : Steady s (State.farLate t x1 x2 x3 x4 x5) := by
  unfold State.farLate
  split
  · exact g
  · exact failGroup_steady ((lateError_steady (g.calm (onFarPort_keeps (List.Subset.refl _) (keeps_refl _ _)) (by decide) (by decide))).calm
      (record_keeps (List.Subset.refl _) (keeps_refl _ _)) (by decide) (by decide))

theorem farEnd_steady {x1 x2 x3 x4 x5} (g : Steady s t) : Steady s (State.farEnd t x1 x2 x3 x4 x5) := by
  unfold State.farEnd
  extract_lets u u1 read l u2 u3
  have hu : Steady s u := by
    unfold u
    split
    · exact fault_steady g
    · exact fault_steady (g.calm (onFarPort_keeps (List.Subset.refl _) (keeps_refl _ _)) (by decide) (by decide))
    · exact g
  have hu1 : Steady s u1 := hu.calm (onFarPort_keeps (List.Subset.refl _) (keeps_refl _ _)) (by decide) (by decide)
  have hu2 : Steady s u2 := hu1.calm (onFarPort_keeps (List.Subset.refl _) (keeps_refl _ _)) (by decide) (by decide)
  have hu3 : Steady s u3 := steady_ite (hu1.calm (onFarPort_keeps (List.Subset.refl _) (keeps_refl _ _)) (by decide) (by decide)) hu1
  split
  · exact hu1
  · split
    · exact hu1
    · split
      · exact steady_ite (hu1.calm (onFarPort_keeps (List.Subset.refl _) (keeps_refl _ _)) (by decide) (by decide)) (farDone_steady hu1)
      · exact steady_ite (steady_ite (farDone_steady hu2) (farDone_steady hu1)) (farDone_steady hu1)
      · exact farDone_steady hu3
      · exact steady_ite (farLate_steady hu1) (farDone_steady hu1)

theorem writeFar_steady {x1 x2} (g : Steady s t) : Steady s (State.writeFar t x1 x2).2 := by
  unfold State.writeFar
  refine steady_dite_pair ?_ (fun h => writeEth_steady g)
  intro h
  dsimp only
  split
  · dsimp only
    exact g.calm (onFarPort_keeps (List.Subset.refl _) (keeps_refl _ _)) (by decide) (by decide)
  · exact g.calm (ethReject_keeps (List.Subset.refl _) (keeps_refl _ _)) (by decide) (by decide)

theorem resetFar_steady (g : Steady s t) : Steady s (State.resetFar t) := by
  unfold State.resetFar
  refine steady_forEach (fun x t1 => (steady_refl _).calm (onFarPort_keeps (List.Subset.refl _) (keeps_refl _ _)) (by decide) (by decide)) ?_
  refine steady_forEach ?_ (g.calm (loseLocks_keeps (List.Subset.refl _) (keeps_refl _ _)) (by decide) (by decide))
  intro x t1
  split
  · exact steady_refl _
  · exact farEnd_steady ((steady_refl _).calm (onFarPort_keeps (List.Subset.refl _) (keeps_refl _ _)) (by decide) (by decide))

theorem haltWeft_steady {x1} (g : Steady s t) : Steady s (State.haltWeft t x1) := by
  unfold State.haltWeft
  extract_lets w u u1 name last u2
  have hu : Steady s u := g.calm (onLoom_keeps (List.Subset.refl _) (keeps_refl _ _)) (by decide) (by decide)
  have hu1 : Steady s u1 := by
    unfold u1
    split
    · dsimp only
      split
      · exact completeId_steady (hu.calm (onWeft_keeps (List.Subset.refl _) (keeps_refl _ _)) (by decide) (by decide))
      · exact hu.calm (onWeft_keeps (List.Subset.refl _) (keeps_refl _ _)) (by decide) (by decide)
    · exact hu
  have hu2 : Steady s u2 := hu1.calm (onWeft_keeps (List.Subset.refl _) (keeps_refl _ _)) (by decide) (by decide)
  split
  · exact hu1
  · extract_lets u3 u4
    have hu3 : Steady s u3 := by
      unfold u3
      split
      · split
        · exact completeId_steady hu2
        · exact hu2
      · exact hu2
    have hu4 : Steady s u4 := by
      unfold u4
      split
      · split
        · exact completeId_steady hu3
        · exact hu3
      · exact hu3
    exact hu4.calm (record_keeps (List.Subset.refl _) (keeps_refl _ _)) (by decide) (by decide)

theorem boundary_steady (g : Steady s t) : Steady s (State.boundary t) := by
  unfold State.boundary
  exact steady_ite (haltWeft_steady g) g

theorem taskFault_steady {x1 x2 x3 x4 x5} (g : Steady s t) : Steady s (State.taskFault t x1 x2 x3 x4 x5) := by
  unfold State.taskFault
  dsimp only
  split
  · exact (planFault_steady g).calm (endActivation_keeps (List.Subset.refl _) (keeps_refl _ _)) (by decide) (by decide)
  · exact (planFault_steady g).calm (stopWeft_keeps (List.Subset.refl _) (keeps_refl _ _)) (by decide) (by decide)
  · exact planFault_steady g

theorem finishIns_steady {e i} {r : Done} (h : Steady s r.s) : Steady s (State.finishIns e i r) := by
  have hspent : Steady s (r.s.spend e.task r.cycles) := h.calm (spend_keeps (List.Subset.refl _) (keeps_refl _ _)) (by decide) (by decide)
  unfold State.finishIns
  extract_lets u v w x
  have hv : Steady s v := hspent.calm (onLoom_keeps (List.Subset.refl _) (keeps_refl _ _)) (by decide) (by decide)
  have hw : Steady s w := steady_ite (hv.calm (saveContext_keeps (List.Subset.refl _) (keeps_refl _ _)) (by decide) (by decide)) hv
  have hx : Steady s x := steady_ite (hw.calm (endActivation_keeps (List.Subset.refl _) (keeps_refl _ _)) (by decide) (by decide)) hw
  split
  · exact hx
  · exact taskFault_steady hx

theorem budgetFault_steady {x1} (g : Steady s t) : Steady s (State.budgetFault t x1) := by
  unfold State.budgetFault
  exact taskFault_steady ((g.calm (spend_keeps (List.Subset.refl _) (keeps_refl _ _)) (by decide) (by decide)).calm (saveContext_keeps
    (List.Subset.refl _) (keeps_refl _ _)) (by decide) (by decide))

theorem loomRow_steady {sel : Nat → Bool} {sem : Ins → State → Done} (h : ∀ i t, Steady t (sem i t).s) : Steady s (s.loomRow sel sem) := by
  unfold State.loomRow
  split
  · exact steady_refl _
  next e _ =>
    dsimp only
    refine steady_ite (steady_refl _) ?_
    have hsettled : Steady s (s.onLoom fun l => l.settle l.cyc) :=
      (steady_refl s).calm (onLoom_keeps (List.Subset.refl _) (keeps_refl _ _)) (by decide) (by decide)
    generalize (s.onLoom fun l => l.settle l.cyc) = u at hsettled ⊢
    have hrun : Steady s (if s.nowIns.legal = true then sem s.nowIns u else s.nowIns.illegal u).s := by
      split
      · exact hsettled.trans (h _ _)
      · exact hsettled
    generalize (if s.nowIns.legal = true then sem s.nowIns u else s.nowIns.illegal u) = r at hrun ⊢
    refine boundary_steady ?_
    have hbudget : Steady s (u.budgetFault e) := budgetFault_steady hsettled
    split
    · exact steady_ite (finishIns_steady hrun) (hsettled.calm (suspend_keeps (List.Subset.refl _) (keeps_refl _ _)) (by decide) (by decide))
    · exact steady_ite (finishIns_steady hrun) hbudget
    · exact steady_ite (finishIns_steady hrun) hbudget

theorem fetchFault_steady (g : Steady s t) : Steady s (State.fetchFault t) := by
  unfold State.fetchFault
  split
  · exact g
  · exact steady_ite g (taskFault_steady (g.calm (endActivation_keeps (List.Subset.refl _) (keeps_refl _ _)) (by decide) (by decide)))

theorem told_steady {x1 x2} (g : Steady s t) : Steady s (State.told t x1 x2) := by
  unfold State.told
  exact steady_ite (twinArrive_steady g) (steady_ite (serviceArrive_steady g) (steady_ite (serviceArrive_steady g) g))

theorem sendLoomData_steady (g : Steady s t) : Steady s (State.sendLoomData t) := by
  unfold State.sendLoomData
  exact steady_ite g (steady_ite (flushLater_steady (onTwin_steady (by rfl) (twinFrame_steady g))) ((flushLater_steady (onTwin_steady (by rfl)
    (twinFrame_steady g))).calm (planRecord_keeps (List.Subset.refl _) (keeps_refl _ _)) (by decide) (by decide)))

theorem yieldAct_steady {x1} (g : Steady s t) : Steady s (State.yieldAct t x1) := by
  unfold State.yieldAct
  exact (acRelease_steady g).calm (onCoil_keeps (List.Subset.refl _) (keeps_refl _ _)) (by decide) (by decide)

theorem actToWeft_steady {x1} (g : Steady s t) : Steady s (State.actToWeft t x1) := by
  unfold State.actToWeft
  exact steady_ite (yieldAct_steady g) (muteAct_steady (((g.calm (acPassTo_keeps (List.Subset.refl _) (keeps_refl _ _)) (by decide) (by decide)).calm
    (onDrv_keeps (List.Subset.refl _) (keeps_refl _ _)) (by decide) (by decide)).calm (onCoil_keeps (List.Subset.refl _) (keeps_refl _ _)) (by
    decide) (by decide)))

theorem evaluate_steady {x1 x2 x3} (g : Steady s t) : Steady s (State.evaluate t x1 x2 x3).2 := by
  unfold State.evaluate
  refine steady_ite_pair ?_ ?_
  · dsimp only
    exact steady_forEach (fun x t1 => (steady_refl _).calm (record_keeps (List.Subset.refl _) (keeps_refl _ _)) (by decide) (by decide)) g
  · dsimp only
    exact steady_forEach (fun x t1 => actToWeft_steady (steady_refl _)) (steady_forEach (fun x t1 => (steady_refl _).calm (chanToWeft_keeps
      (List.Subset.refl _) (keeps_refl _ _)) (by decide) (by decide)) (steady_forEach (fun x t1 => (steady_refl _).calm (record_keeps
      (List.Subset.refl _) (keeps_refl _ _)) (by decide) (by decide)) g))

theorem endSwap_steady {x1} (g : Steady s t) : Steady s (State.endSwap t x1) := by
  unfold State.endSwap
  split
  · exact g
  · dsimp only
    split
    · exact completeId_steady (g.calm (onWeft_keeps (List.Subset.refl _) (keeps_refl _ _)) (by decide) (by decide))
    · exact g.calm (onWeft_keeps (List.Subset.refl _) (keeps_refl _ _)) (by decide) (by decide)

theorem evalSwap_steady {x1} (g : Steady s t) : Steady s (State.evalSwap t x1) := by
  unfold State.evalSwap
  split
  · dsimp only
    split
    next h2 => exact (steady_of_eq h2 (evaluate_steady g)).calm (onWeft_keeps (List.Subset.refl _) (keeps_refl _ _)) (by decide) (by decide)
    next h2 => exact endSwap_steady (steady_of_eq h2 (evaluate_steady g))
  · exact g

theorem weftMark_steady (g : Steady s t) : Steady s (State.weftMark t) := by
  unfold State.weftMark
  exact steady_ite ((boundary_steady (((g.calm (saveContext_keeps (List.Subset.refl _) (keeps_refl _ _)) (by decide) (by decide)).calm (onLoom_keeps
    (List.Subset.refl _) (keeps_refl _ _)) (by decide) (by decide)).calm (onWeft_keeps (List.Subset.refl _) (keeps_refl _ _)) (by decide) (by
    decide))).calm (releaseTasks_keeps (List.Subset.refl _) (keeps_refl _ _)) (by decide) (by decide)) (boundary_steady (((g.calm (saveContext_keeps
    (List.Subset.refl _) (keeps_refl _ _)) (by decide) (by decide)).calm (onLoom_keeps (List.Subset.refl _) (keeps_refl _ _)) (by decide) (by
    decide)).calm (onWeft_keeps (List.Subset.refl _) (keeps_refl _ _)) (by decide) (by decide)))

theorem dropStart_steady {x1} (g : Steady s t) : Steady s (State.dropStart t x1) := by
  unfold State.dropStart
  split
  · exact g
  · refine steady_ite ?_ g
    dsimp only
    split
    · exact completeId_steady (g.calm (onWeft_keeps (List.Subset.refl _) (keeps_refl _ _)) (by decide) (by decide))
    · exact g.calm (onWeft_keeps (List.Subset.refl _) (keeps_refl _ _)) (by decide) (by decide)

theorem installWeft_steady {x1} (g : Steady s t) : Steady s (State.installWeft t x1) := by
  unfold State.installWeft
  exact (((dropStart_steady g).calm (onWeft_keeps (List.Subset.refl _) (keeps_refl _ _)) (by decide) (by decide)).calm (placeWeft_keeps
    (List.Subset.refl _) (keeps_refl _ _)) (by decide) (by decide)).calm (record_keeps (List.Subset.refl _) (keeps_refl _ _)) (by decide) (by decide)

theorem refuseWeft_steady {x1 x2 x3} (g : Steady s t) : Steady s (State.refuseWeft t x1 x2 x3) := by
  unfold State.refuseWeft
  split
  next h =>
    exact complete_steady ((steady_of_eq h (g.calm (detailOf_keeps (List.Subset.refl _) (keeps_refl _ _)) (by decide) (by decide))).calm
      (record_keeps (List.Subset.refl _) (keeps_refl _ _)) (by decide) (by decide))

theorem sendWeftFrom_steady {x0 x1 x2 x3 x4} (g : Steady s t) : Steady s (State.sendWeftFrom x0 x1 x2 x3 x4 t) := by
  induction x3 generalizing x2 x4 t with
  | zero => exact g
  | succ n ih =>
    unfold State.sendWeftFrom
    exact steady_ite g (ih (twinFrame_steady g))

theorem sendWeft_steady {x1} (g : Steady s t) : Steady s (State.sendWeft t x1) := by
  unfold State.sendWeft
  exact sendWeftFrom_steady g

theorem touchWeft_steady {x1} (g : Steady s t) : Steady s (State.touchWeft t x1).2 := by
  unfold State.touchWeft
  refine steady_ite_pair g ?_
  dsimp only
  exact dropStart_steady (g.calm (onWeft_keeps (List.Subset.refl _) (keeps_refl _ _)) (by decide) (by decide))

theorem evalStart_steady {x1} (g : Steady s t) : Steady s (State.evalStart t x1) := by
  unfold State.evalStart
  split
  · exact g
  · split
    next h1 =>
      exact ((steady_of_eq h1 (evaluate_steady g)).calm (onWeft_keeps (List.Subset.refl _) (keeps_refl _ _)) (by decide) (by decide)).calm
        (writeOwnership_keeps (List.Subset.refl _) (keeps_refl _ _)) (by decide) (by decide)
    next h1 =>
      extract_lets u u1
      have hu : Steady s u := (steady_of_eq h1 (evaluate_steady g)).calm (onWeft_keeps (List.Subset.refl _) (keeps_refl _ _)) (by decide) (by decide)
      have hu1 : Steady s u1 := steady_ite (hu.calm (restartFails_keeps (List.Subset.refl _) (keeps_refl _ _)) (by decide) (by decide)) hu
      split
      · exact completeId_steady hu1
      · exact hu1

theorem twinAnswer_steady {x1} (g : Steady s t) : Steady s (State.twinAnswer t x1) := by
  unfold State.twinAnswer
  exact steady_ite (twinFrame_steady g) g

theorem twinTake_steady {x1 x2} (g : Steady s t) : Steady s (State.twinTake t x1 x2).2 := by
  unfold State.twinTake
  refine steady_ite_pair g ?_
  refine steady_ite_pair ?_ ?_
  · dsimp only
    exact onTwin_steady (by rfl) g
  · refine steady_ite_pair ?_ ?_
    · dsimp only
      exact onTwin_steady (by rfl) g
    · refine steady_ite_pair g ?_
      dsimp only
      exact onTwin_steady (by rfl) g

theorem commitFails_steady {x1} (g : Steady s t) : Steady s (State.commitFails t x1) := by
  unfold State.commitFails
  exact completeId_steady g

theorem flushHeld_steady (g : Steady s t) : Steady s (State.flushHeld t) := by
  unfold State.flushHeld
  exact steady_forEach (fun x t1 => steady_ite ((steady_refl _).calm (sendPacket_keeps (List.Subset.refl _) (keeps_refl _ _)) (by decide) (by
    decide)) (steady_refl _)) (onTwin_steady (by rfl) g)

theorem linkGone_steady {x1} (g : Steady s t) : Steady s (State.linkGone t x1) := by
  unfold State.linkGone
  extract_lets t1 now u u1 u2 u3
  have hu : Steady s u := onTwin_steady (by rfl) g
  have hu1 : Steady s u1 := steady_ite (steady_ite (hu.calm (record_keeps (List.Subset.refl _) (keeps_refl _ _)) (by decide) (by decide))
    (fault_steady hu)) hu
  have hu2 : Steady s u2 := steady_forEach (fun x t2 => commitFails_steady (steady_refl _)) hu1
  have hu3 : Steady s u3 := by
    unfold u3
    split
    · split
      · exact steady_ite hu2 (completeId_steady hu2)
      · exact hu2
    · exact hu2
  exact startAcked_steady (flushHeld_steady hu3)

theorem endPairing_steady (g : Steady s t) : Steady s (State.endPairing t) := by
  unfold State.endPairing
  exact onTwin_steady (by rfl) g

theorem refusePairing_steady {x1} (g : Steady s t) : Steady s (State.refusePairing t x1) := by
  unfold State.refusePairing
  exact endPairing_steady (g.calm (record_keeps (List.Subset.refl _) (keeps_refl _ _)) (by decide) (by decide))

theorem lockstepDue_steady (g : Steady s t) : Steady s (State.lockstepDue t) := by
  unfold State.lockstepDue
  exact steady_ite (onTwin_steady (by rfl) g) g

theorem commitAcked_steady (g : Steady s t) : Steady s (State.commitAcked t) := by
  unfold State.commitAcked
  split
  · exact g
  · exact completeId_steady (installWeft_steady (onTwin_steady (by rfl) g))

theorem shadowPaired_steady (g : Steady s t) : Steady s (State.shadowPaired t) := by
  unfold State.shadowPaired
  exact steady_ite ((onTwin_steady (by rfl) g).calm (record_keeps (List.Subset.refl _) (keeps_refl _ _)) (by decide) (by decide)) g

theorem dropShared_steady (g : Steady s t) : Steady s (State.dropShared t) := by
  unfold State.dropShared
  exact steady_forEach (fun x t1 => (acRelease_steady (steady_refl _)).calm (onCoil_keeps (List.Subset.refl _) (keeps_refl _ _)) (by decide) (by
    decide)) (steady_forEach (fun x t1 => (((steady_refl _).calm (changeMode_keeps (List.Subset.refl _) (keeps_refl _ _)) (by decide) (by
    decide)).calm (onChan_keeps (List.Subset.refl _) (keeps_refl _ _)) (by decide) (by decide)).calm (rephase_keeps (List.Subset.refl _) (keeps_refl
    _ _)) (by decide) (by decide)) g)

theorem inOrder_steady {a b} {f : State → State} (h : ∀ t, Steady t (f t)) (g : Steady s t) : Steady s (t.inOrder a b f) := by
  have hgo : Steady s (f t.shadowPaired) := (shadowPaired_steady g).trans (h _)
  unfold State.inOrder
  exact steady_ite g (steady_ite (twinAnswer_steady (onTwin_steady (by rfl) hgo)) (steady_ite (twinAnswer_steady g) (onTwin_steady (by rfl) g)))

theorem storeTaken_steady {x1 x2 x3} (g : Steady s t) : Steady s (State.storeTaken t x1 x2 x3) := by
  unfold State.storeTaken
  exact onTwin_steady (by rfl) g

theorem storeBegun_steady {x1 x2} (g : Steady s t) : Steady s (State.storeBegun t x1 x2) := by
  unfold State.storeBegun
  split
  · exact g
  · exact (onTwin_steady (by rfl) g).calm (shadowExecute_keeps (List.Subset.refl _) (keeps_refl _ _)) (by decide) (by decide)

theorem storeDone_steady {x1 x2 x3} (g : Steady s t) : Steady s (State.storeDone t x1 x2 x3) := by
  unfold State.storeDone
  exact onTwin_steady (by rfl) g

theorem storeStall_steady {x1} (g : Steady s t) : Steady s (State.storeStall t x1) := by
  unfold State.storeStall
  exact onTwin_steady (by rfl) g

theorem storeStage_steady {x1} (g : Steady s t) : Steady s (State.storeStage t x1) := by
  unfold State.storeStage
  refine steady_dite ?_ (fun h => steady_ite (storeStall_steady g) g)
  intro h
  dsimp only
  split
  · exact storeTaken_steady g
  · exact storeBegun_steady g
  · exact storeDone_steady g
  · exact g

theorem twinHeartbeat_steady (g : Steady s t) : Steady s (State.twinHeartbeat t) := by
  unfold State.twinHeartbeat
  exact steady_ite (twinFrame_steady (flushLater_steady g)) (flushLater_steady g)

theorem startPairing_steady (g : Steady s t) : Steady s (State.startPairing t) := by
  unfold State.startPairing
  split
  next h =>
    exact twinFrame_steady (onTwin_steady (by rfl) (steady_of_eq h (g.calm (drawBytes_keeps (List.Subset.refl _) (keeps_refl _ _)) (by decide) (by
      decide))))

theorem handoverFrame_steady {x1 x2} (g : Steady s t) : Steady s (State.handoverFrame t x1 x2) := by
  unfold State.handoverFrame
  exact twinFrame_steady g

theorem lockstep_steady (g : Steady s t) : Steady s (State.lockstep t) := by
  unfold State.lockstep
  split
  · exact g
  · exact steady_ite g (mirrorConfig_steady (steady_forEach (fun x1 t1 => mirrorFrame_steady (steady_refl _)) (((onTwin_steady (by rfl) g).calm
      (record_keeps (List.Subset.refl _) (keeps_refl _ _)) (by decide) (by decide)).calm (onCmd_keeps (List.Subset.refl _) (keeps_refl _ _)) (by
      decide) (by decide))))

theorem mirrorAct_steady {x1 x2 x3} (g : Steady s t) : Steady s (State.mirrorAct t x1 x2 x3) := by
  unfold State.mirrorAct
  split
  · exact muteAct_steady (g.calm (onCoil_keeps (List.Subset.refl _) (keeps_refl _ _)) (by decide) (by decide))
  · exact g.calm (acDenied_keeps (List.Subset.refl _) (keeps_refl _ _)) (by decide) (by decide)

theorem writeMirrored_steady {x1 x2} (g : Steady s t) : Steady s (State.writeMirrored t x1 x2) := by
  unfold State.writeMirrored
  exact steady_dite (fun h => g.calm (mirrorChan_keeps (List.Subset.refl _) (keeps_refl _ _)) (by decide) (by decide)) (fun h => steady_ite (g.calm
    (writePg_keeps (List.Subset.refl _) (keeps_refl _ _)) (by decide) (by decide)) (steady_ite (g.calm (writeMem_keeps (List.Subset.refl _)
    (keeps_refl _ _)) (by decide) (by decide)) (steady_dite (fun h1 => mirrorAct_steady g) (fun h1 => steady_ite (steady_ite (g.calm (writeMem_keeps
    (List.Subset.refl _) (keeps_refl _ _)) (by decide) (by decide)) ((g.calm (writeMem_keeps (List.Subset.refl _) (keeps_refl _ _)) (by decide) (by
    decide)).calm (onDrv_keeps (List.Subset.refl _) (keeps_refl _ _)) (by decide) (by decide))) (steady_ite (g.calm (writeItem_keeps
    (List.Subset.refl _) (keeps_refl _ _)) (by decide) (by decide)) g)))))

theorem restoreGroups_steady {x1 x2} (g : Steady s t) : Steady s (State.restoreGroups t x1 x2) := by
  unfold State.restoreGroups
  extract_lets u u1
  have hu : Steady s u := steady_ite (steady_forEach (fun x t1 => (steady_refl _).calm (onGroup_keeps (List.Subset.refl _) (keeps_refl _ _)) (by
    decide) (by decide)) g) ((steady_forEach (fun x t1 => (steady_refl _).calm (restoreGroup_keeps (List.Subset.refl _) (keeps_refl _ _)) (by decide)
    (by decide)) g).calm (restoreUngrouped_keeps (List.Subset.refl _) (keeps_refl _ _)) (by decide) (by decide))
  have hu1 : Steady s u1 := onTwin_steady (by rfl) hu
  refine steady_forEach ?_ hu1
  intro x t1
  split
  · exact claimGroups_steady (steady_refl _)
  · exact steady_refl _

theorem handoverTake_steady {x1 x2} (g : Steady s t) : Steady s (State.handoverTake t x1 x2).2 := by
  unfold State.handoverTake
  split
  next h => exact steady_of_eq h (twinTake_steady g)
  next h =>
    refine steady_ite_pair ?_ ?_
    · dsimp only
      exact twinAnswer_steady (steady_of_eq h (twinTake_steady g))
    · dsimp only
      exact twinAnswer_steady (steady_of_eq h (twinTake_steady g))

theorem handoverRefused_steady (g : Steady s t) : Steady s (State.handoverRefused t) := by
  unfold State.handoverRefused
  split
  · exact g
  · dsimp only
    split
    · exact completeId_steady (onTwin_steady (by rfl) g)
    · exact onTwin_steady (by rfl) g

theorem refusedByShadow_steady (g : Steady s t) : Steady s (State.refusedByShadow t) := by
  unfold State.refusedByShadow
  dsimp only
  split
  · exact steady_ite (handoverRefused_steady g) (commitFails_steady (onTwin_steady (by rfl) g))
  · exact steady_ite (handoverRefused_steady g) (steady_ite (endPairing_steady g) g)

theorem etherStops_steady (g : Steady s t) : Steady s (State.etherStops t) := by
  unfold State.etherStops
  exact steady_forEach (fun x t1 => (steady_refl _).calm (opGptpLost_keeps (List.Subset.refl _) (keeps_refl _ _)) (by decide) (by decide))
    (steady_forEach (fun x t1 => opLinkDown_steady (steady_refl _)) g)

theorem takeAct_steady {x1} (g : Steady s t) : Steady s (State.takeAct t x1) := by
  unfold State.takeAct
  refine steady_ite g ?_
  extract_lets u x u1 now u2
  have hu : Steady s u := g.calm (onCoil_keeps (List.Subset.refl _) (keeps_refl _ _)) (by decide) (by decide)
  have hu1 : Steady s u1 := steady_ite (hu.calm (onCoil_keeps (List.Subset.refl _) (keeps_refl _ _)) (by decide) (by decide)) (steady_ite (hu.calm
    (fireNext_keeps (List.Subset.refl _) (keeps_refl _ _)) (by decide) (by decide)) hu)
  have hu2 : Steady s u2 := hu1.calm (onCoil_keeps (List.Subset.refl _) (keeps_refl _ _)) (by decide) (by decide)
  exact steady_ite (steady_ite (acOrphanRelease_steady hu2) hu2) hu1

theorem takeShared_steady (g : Steady s t) : Steady s (State.takeShared t) := by
  unfold State.takeShared
  exact steady_forEach (fun x t1 => takeAct_steady (steady_refl _)) (steady_forEach (fun x t1 => (steady_refl _).calm (takeChan_keeps
    (List.Subset.refl _) (keeps_refl _ _)) (by decide) (by decide)) g)

theorem mirrorOwn_steady (g : Steady s t) : Steady s (State.mirrorOwn t) := by
  unfold State.mirrorOwn
  exact onTwin_steady (by rfl) g

theorem handoverMark_steady (g : Steady s t) : Steady s (State.handoverMark t) := by
  unfold State.handoverMark
  split
  · exact g
  · exact steady_ite g (steady_ite (handoverRefused_steady g) (onTwin_steady (by rfl) (mirrorOwn_steady (handoverFrame_steady g))))

theorem writeTwin_steady {x1 x2} (g : Steady s t) : Steady s (State.writeTwin t x1 x2).2 := by
  unfold State.writeTwin
  split
  · exact g
  · dsimp only
    exact onTwin_steady (by rfl) g
  · exact g

theorem resetLoom_steady (g : Steady s t) : Steady s (State.resetLoom t) := by
  unfold State.resetLoom
  exact ((haltWeft_steady g).calm (onLoom_keeps (List.Subset.refl _) (keeps_refl _ _)) (by decide) (by decide)).calm (onWeft_keeps (List.Subset.refl
    _) (keeps_refl _ _)) (by decide) (by decide)

theorem resetNetwork_steady (g : Steady s t) : Steady s (State.resetNetwork t) := by
  unfold State.resetNetwork
  exact ((resetFar_steady (resetEth_steady (resetCan_steady ((g.calm (resetNm_keeps (List.Subset.refl _) (keeps_refl _ _)) (by decide) (by
    decide)).calm (resetNmChans_keeps (List.Subset.refl _) (keeps_refl _ _)) (by decide) (by decide))))).calm (onWt_keeps (List.Subset.refl _)
    (keeps_refl _ _)) (by decide) (by decide)).calm (rebase_keeps (List.Subset.refl _) (keeps_refl _ _)) (by decide) (by decide)

theorem faultSeq_steady {x1} (g : Steady s t) : Steady s (State.faultSeq t x1).2 := by
  unfold State.faultSeq
  refine steady_ite_pair g ?_
  refine steady_ite_pair ?_ ?_
  · dsimp only
    exact onFlt_steady id g
  · split
    next h =>
      dsimp only
      exact fault_steady (steady_of_eq h ((onFlt_steady id g).calm (rootLink_keeps (List.Subset.refl _) (keeps_refl _ _)) (by decide) (by decide)))

theorem badFaultWord_steady {x1} (g : Steady s t) : Steady s (State.badFaultWord t x1) := by
  unfold State.badFaultWord
  split
  next h =>
    extract_lets u
    have hu : Steady s u := steady_ite (steady_of_eq h (g.calm (rootLink_keeps (List.Subset.refl _) (keeps_refl _ _)) (by decide) (by decide)))
      (onFlt_steady id (steady_of_eq h (g.calm (rootLink_keeps (List.Subset.refl _) (keeps_refl _ _)) (by decide) (by decide))))
    exact fault_steady hu

theorem keyDone_steady {x1 x2 x3 x4 x5} (g : Steady s t) : Steady s (State.keyDone t x1 x2 x3 x4 x5) := by
  unfold State.keyDone
  exact complete_steady ((g.calm (onId_keeps (List.Subset.refl _) (keeps_refl _ _)) (by decide) (by decide)).calm (record_keeps (List.Subset.refl _)
    (keeps_refl _ _)) (by decide) (by decide))

theorem updateReply_steady {x1 x2 x3 x4} (g : Steady s t) : Steady s (State.updateReply t x1 x2 x3 x4) := by
  unfold State.updateReply
  dsimp only
  split
  · exact complete_steady g
  · exact complete_steady (g.calm (drawBytes_keeps (List.Subset.refl _) (keeps_refl _ _)) (by decide) (by decide))

theorem updateArm_steady {c x} {f : State → State} (h : ∀ t, Steady t (f t)) (g : Steady s t) : Steady s (t.updateArm c x f) := by
  have hreply : ∀ {a b d}, Steady s (t.updateReply c a b d) := updateReply_steady g
  unfold State.updateArm
  split
  · exact hreply
  · refine steady_ite hreply ?_
    split
    · exact hreply.trans (h _)
    · exact hreply

theorem bootFails_steady {x1 x2} (g : Steady s t) : Steady s (State.bootFails t x1 x2) := by
  unfold State.bootFails
  exact fault_steady (g.calm (onId_keeps (List.Subset.refl _) (keeps_refl _ _)) (by decide) (by decide))

theorem enterWait_steady (g : Steady s t) : Steady s (State.enterWait t) := by
  unfold State.enterWait
  exact steady_ite (g.calm (onId_keeps (List.Subset.refl _) (keeps_refl _ _)) (by decide) (by decide)) (fault_steady (g.calm (onId_keeps
    (List.Subset.refl _) (keeps_refl _ _)) (by decide) (by decide)))

theorem resume_steady {x1 x2} (g : Steady s t) : Steady s (State.resume t x1 x2) := by
  unfold State.resume
  split
  · exact enterWait_steady g
  · exact steady_ite ((g.calm (onId_keeps (List.Subset.refl _) (keeps_refl _ _)) (by decide) (by decide)).calm (record_keeps (List.Subset.refl _)
      (keeps_refl _ _)) (by decide) (by decide)) (steady_ite (g.calm (onId_keeps (List.Subset.refl _) (keeps_refl _ _)) (by decide) (by decide))
      (enterWait_steady g))

theorem loaderRuns_steady (g : Steady s t) : Steady s (State.loaderRuns t) := by
  unfold State.loaderRuns
  exact ((resetLoom_steady (g.calm (resetLinks_keeps (List.Subset.refl _) (keeps_refl _ _)) (by decide) (by decide))).calm (onPwr_keeps
    (List.Subset.refl _) (keeps_refl _ _)) (by decide) (by decide)).calm (onId_keeps (List.Subset.refl _) (keeps_refl _ _)) (by decide) (by decide)

theorem serve_steady (g : Steady s t) : Steady s (State.serve t) := by
  unfold State.serve
  exact steady_ite (steady_dite (fun h => ((((wdtStart_steady (canGroups_steady (opPermitRenewal_steady ((g.calm (onPwr_keeps (List.Subset.refl _)
    (keeps_refl _ _)) (by decide) (by decide)).calm (onCmd_keeps (List.Subset.refl _) (keeps_refl _ _)) (by decide) (by decide))))).calm
    (record_keeps (List.Subset.refl _) (keeps_refl _ _)) (by decide) (by decide)).calm (onPwr_keeps (List.Subset.refl _) (keeps_refl _ _)) (by
    decide) (by decide)).calm (nmEnter_keeps (List.Subset.refl _) (keeps_refl _ _)) (by decide) (by decide)).calm (record_keeps (List.Subset.refl _)
    (keeps_refl _ _)) (by decide) (by decide)) (fun h => ((wdtStart_steady (canGroups_steady (opPermitRenewal_steady ((g.calm (onPwr_keeps
    (List.Subset.refl _) (keeps_refl _ _)) (by decide) (by decide)).calm (onCmd_keeps (List.Subset.refl _) (keeps_refl _ _)) (by decide) (by
    decide))))).calm (record_keeps (List.Subset.refl _) (keeps_refl _ _)) (by decide) (by decide)).calm (onPwr_keeps (List.Subset.refl _) (keeps_refl
    _ _)) (by decide) (by decide))) (wdtStart_steady (canGroups_steady (opPermitRenewal_steady ((g.calm (onPwr_keeps (List.Subset.refl _) (keeps_refl
    _ _)) (by decide) (by decide)).calm (onCmd_keeps (List.Subset.refl _) (keeps_refl _ _)) (by decide) (by decide)))))

theorem updateEnd_steady {x1 x2 x3} (g : Steady s t) : Steady s (State.updateEnd t x1 x2 x3) := by
  unfold State.updateEnd
  refine steady_ite (enterWait_steady (g.calm (onId_keeps (List.Subset.refl _) (keeps_refl _ _)) (by decide) (by decide))) ?_
  extract_lets old u
  have hu : Steady s u := steady_ite (((g.calm (onId_keeps (List.Subset.refl _) (keeps_refl _ _)) (by decide) (by decide)).calm (onId_keeps
    (List.Subset.refl _) (keeps_refl _ _)) (by decide) (by decide)).calm (record_keeps (List.Subset.refl _) (keeps_refl _ _)) (by decide) (by
    decide)) (g.calm (onId_keeps (List.Subset.refl _) (keeps_refl _ _)) (by decide) (by decide))
  exact ((hu.calm (onId_keeps (List.Subset.refl _) (keeps_refl _ _)) (by decide) (by decide)).calm (record_keeps (List.Subset.refl _) (keeps_refl _
    _)) (by decide) (by decide)).calm (bootNext_keeps (List.Subset.refl _) (keeps_refl _ _)) (by decide) (by decide)

theorem sessionRefused_steady {x1 x2 x3 x4} (g : Steady s t) : Steady s (State.sessionRefused t x1 x2 x3 x4) := by
  unfold State.sessionRefused
  exact complete_steady (g.calm (record_keeps (List.Subset.refl _) (keeps_refl _ _)) (by decide) (by decide))

theorem commitBuffered_steady {x0} (g : Steady s t) : Steady s (State.commitBuffered x0 t) := by
  induction x0 generalizing t with
  | zero => exact g
  | succ n ih => exact ih (opRecordWrite_steady (steady_ite g (opTailSectorErase_steady g)))

theorem wakeUp_steady {x1 x2} (g : Steady s t) : Steady s (State.wakeUp t x1 x2) := by
  unfold State.wakeUp
  extract_lets t1 sec left asleep held u u1 src u2 u3 u4 u5 n u6 u7 u8 u9 u10 u11 u12 granted u13
  have hu : Steady s u := g.calm (onPwr_keeps (List.Subset.refl _) (keeps_refl _ _)) (by decide) (by decide)
  have hu1 : Steady s u1 := wdtStart_steady hu
  have hu2 : Steady s u2 := hu1.calm (onClk_keeps (List.Subset.refl _) (keeps_refl _ _)) (by decide) (by decide)
  have hu3 : Steady s u3 := steady_ite hu2 (hu2.calm (record_keeps (List.Subset.refl _) (keeps_refl _ _)) (by decide) (by decide))
  have hu4 : Steady s u4 := ((hu3.calm (warpResume_keeps (List.Subset.refl _) (keeps_refl _ _)) (by decide) (by decide)).calm (rebase_keeps
    (List.Subset.refl _) (keeps_refl _ _)) (by decide) (by decide)).calm (onWeft_keeps (List.Subset.refl _) (keeps_refl _ _)) (by decide) (by decide)
  have hu5 : Steady s u5 := fault_steady (steady_ite hu4 (fault_steady hu4))
  have hu6 : Steady s u6 := (hu5.calm (onDrv_keeps (List.Subset.refl _) (keeps_refl _ _)) (by decide) (by decide)).calm (railUpdate_keeps
    (List.Subset.refl _) (keeps_refl _ _)) (by decide) (by decide)
  have hu7 : Steady s u7 := steady_ite (hu6.calm (fieldBegin_keeps (List.Subset.refl _) (keeps_refl _ _)) (by decide) (by decide)) hu6
  have hu8 : Steady s u8 := hu7.calm (onId_keeps (List.Subset.refl _) (keeps_refl _ _)) (by decide) (by decide)
  have hu9 : Steady s u9 := steady_forEach (fun x t2 => (steady_refl _).calm (nmEnter_keeps (List.Subset.refl _) (keeps_refl _ _)) (by decide) (by
    decide)) hu8
  have hu10 : Steady s u10 := hu9.calm (wakeHeld_keeps (List.Subset.refl _) (keeps_refl _ _)) (by decide) (by decide)
  have hu11 : Steady s u11 := steady_forEach (fun x t2 => (steady_refl _).calm (portWakes_keeps (List.Subset.refl _) (keeps_refl _ _)) (by decide)
    (by decide)) hu10
  have hu12 : Steady s u12 := steady_ite (hu11.calm (doorEvent_keeps (List.Subset.refl _) (keeps_refl _ _)) (by decide) (by decide)) hu11
  have hu13 : Steady s u13 := hu12.calm (radioEval_keeps (List.Subset.refl _) (keeps_refl _ _)) (by decide) (by decide)
  exact steady_ite (hu13.calm (onAcc_keeps (List.Subset.refl _) (keeps_refl _ _)) (by decide) (by decide)) hu13

theorem sleepBegin_steady {x1} (g : Steady s t) : Steady s (State.sleepBegin t x1) := by
  unfold State.sleepBegin
  extract_lets u u1 u2 u3 u4 u5 u6 u7 u8
  have hu : Steady s u := haltWeft_steady g
  have hu1 : Steady s u1 := (hu.calm (sessionLocks_keeps (List.Subset.refl _) (keeps_refl _ _)) (by decide) (by decide)).calm (resetCommands_keeps
    (List.Subset.refl _) (keeps_refl _ _)) (by decide) (by decide)
  have hu2 : Steady s u2 := hu1.calm (onNm_keeps (List.Subset.refl _) (keeps_refl _ _)) (by decide) (by decide)
  have hu3 : Steady s u3 := steady_forEach (fun x t1 => (steady_refl _).calm (nmEnter_keeps (List.Subset.refl _) (keeps_refl _ _)) (by decide) (by
    decide)) hu2
  have hu4 : Steady s u4 := steady_ite (steady_forEach (fun x t1 => ((steady_refl _).calm (onPort_keeps (List.Subset.refl _) (keeps_refl _ _)) (by
    decide) (by decide)).calm (send_keeps (List.Subset.refl _) (keeps_refl _ _)) (by decide) (by decide)) hu3) hu1
  have hu5 : Steady s u5 := steady_forEach (fun x t1 => (steady_refl _).calm (sleepChan_keeps (List.Subset.refl _) (keeps_refl _ _)) (by decide) (by
    decide)) hu4
  have hu6 : Steady s u6 := steady_forEach (fun x t1 => acRelease_steady (steady_refl _)) hu5
  have hu7 : Steady s u7 := fieldStop_steady hu6
  have hu8 : Steady s u8 := hu7.calm (onPwr_keeps (List.Subset.refl _) (keeps_refl _ _)) (by decide) (by decide)
  exact hu8.calm (record_keeps (List.Subset.refl _) (keeps_refl _ _)) (by decide) (by decide)

theorem writeReg_steady {x1 x2} (g : Steady s t) : Steady s (State.writeReg t x1 x2).2 := by
  unfold State.writeReg
  exact steady_dite_pair (fun h => g.calm (writeChan_keeps (List.Subset.refl _) (keeps_refl _ _)) (by decide) (by decide)) (fun h => steady_ite_pair
    (g.calm (writeSwitch_keeps (List.Subset.refl _) (keeps_refl _ _)) (by decide) (by decide)) (steady_dite_pair (fun h1 => writeAct_steady g) (fun
    h1 => steady_ite_pair (g.calm (writeDrive_keeps (List.Subset.refl _) (keeps_refl _ _)) (by decide) (by decide)) (steady_ite_pair (g.calm
    (writeField_keeps (List.Subset.refl _) (keeps_refl _ _)) (by decide) (by decide)) (steady_dite_pair (fun h2 => writeCanCh_steady g) (fun h2 =>
    steady_ite_pair (g.calm (writeNm_keeps (List.Subset.refl _) (keeps_refl _ _)) (by decide) (by decide)) (steady_ite_pair (writeFar_steady g)
    (steady_ite_pair (writeTwin_steady g) (steady_ite_pair g (steady_ite_pair (g.calm (writeSupply_keeps (List.Subset.refl _) (keeps_refl _ _)) (by
    decide) (by decide)) (steady_ite_pair (g.calm (writeClock_keeps (List.Subset.refl _) (keeps_refl _ _)) (by decide) (by decide)) (steady_ite_pair
    (writeFaults_steady g) (steady_ite_pair g (steady_ite_pair (g.calm (writeCmd_keeps (List.Subset.refl _) (keeps_refl _ _)) (by decide) (by
    decide)) g))))))))))))))

theorem writeRegs_steady {x0 x1 x2} (g : Steady s t) : Steady s (State.writeRegs x0 x1 x2 t).2.2 := by
  induction x2 generalizing x0 x1 t with
  | zero => exact g
  | succ n ih =>
    unfold State.writeRegs
    split
    next u h => exact ih (steady_of_eq h (writeReg_steady g))
    next u _ h => exact steady_of_eq h (writeReg_steady g)

theorem storeMem_steady {x1 x2 x3} (g : Steady s t) : Steady s (State.storeMem t x1 x2 x3) := by
  unfold State.storeMem
  extract_lets part u
  have hu : Steady s u := by
    unfold u
    split
    · exact steady_forEach (fun x t1 => touchWeft_steady (steady_refl _)) g
    · exact g.calm (onCmd_keeps (List.Subset.refl _) (keeps_refl _ _)) (by decide) (by decide)
    · exact g
  exact hu.calm (writeMem_keeps (List.Subset.refl _) (keeps_refl _ _)) (by decide) (by decide)

theorem readBurst_steady {x1 x2 x3} (g : Steady s t) : Steady s (State.readBurst t x1 x2 x3).2 := by
  unfold State.readBurst
  refine steady_ite_pair ?_ ?_
  · split
    · exact g
    · exact g
  · refine steady_ite_pair ((access_steady g).calm (readRegs_keeps (List.Subset.refl _) (keeps_refl _ _)) (by decide) (by decide)) ?_
    split
    · exact g
    · exact g

theorem correctWarp_steady {x1} (g : Steady s t) : Steady s (State.correctWarp t x1) := by
  unfold State.correctWarp
  exact steady_forEach (fun x t1 => fault_steady ((steady_refl _).calm (onClk_keeps (List.Subset.refl _) (keeps_refl _ _)) (by decide) (by decide))) g

theorem adoptMark_steady (g : Steady s t) : Steady s (State.adoptMark t) := by
  unfold State.adoptMark
  refine steady_forEach ?_ (g.calm (onSw_keeps (List.Subset.refl _) (keeps_refl _ _)) (by decide) (by decide))
  intro x t1
  split
  next h =>
    exact completeId_steady (steady_of_eq h ((steady_refl _).calm (adoptAll_keeps (List.Subset.refl _) (keeps_refl _ _)) (by decide) (by decide)))

theorem overdue_steady (g : Steady s t) : Steady s (State.overdue t) := by
  unfold State.overdue
  exact steady_forEach (fun x t1 => opActuatorOrphanSafe_steady (steady_refl _)) (steady_forEach (fun x t1 => (steady_refl _).calm
    (opOrphanSafe_keeps (List.Subset.refl _) (keeps_refl _ _)) (by decide) (by decide)) (steady_forEach (fun x t1 => driveDue_steady (steady_refl _))
    (steady_forEach (fun x t1 => switchDue_steady (steady_refl _)) g)))

theorem dropReports_steady (g : Steady s t) : Steady s (State.dropReports t) := by
  unfold State.dropReports
  exact steady_forEach (fun x t1 => (((steady_refl _).calm (reportDrops_keeps (List.Subset.refl _) (keeps_refl _ _)) (by decide) (by decide)).calm
    (reportDrops_keeps (List.Subset.refl _) (keeps_refl _ _)) (by decide) (by decide)).calm (reportTunDrops_keeps (List.Subset.refl _) (keeps_refl _
    _)) (by decide) (by decide)) (reportDropped_steady g)

theorem markWork_steady {x1 x2 x3 x4} (g : Steady s t) : Steady s (State.markWork t x1 x2 x3 x4) := by
  unfold State.markWork
  extract_lets u u1 u2 due u3 u4 u5 u6 u7
  have hu : Steady s u := (correctWarp_steady (onFlt_steady id g)).calm (frameDeviation_keeps (List.Subset.refl _) (keeps_refl _ _)) (by decide) (by
    decide)
  have hu1 : Steady s u1 := adoptMark_steady (overdue_steady hu)
  have hu2 : Steady s u2 := serviceDue_steady (serviceDue_steady hu1)
  have hu3 : Steady s u3 := driveCommit_steady (switchCommit_steady hu2)
  have hu4 : Steady s u4 := driveHostMark_steady (hostMark_steady hu3)
  have hu5 : Steady s u5 := steady_ite (hu4.calm (pgMark_keeps (List.Subset.refl _) (keeps_refl _ _)) (by decide) (by decide)) hu4
  have hu6 : Steady s u6 := hu5.calm (onSw_keeps (List.Subset.refl _) (keeps_refl _ _)) (by decide) (by decide)
  have hu7 : Steady s u7 := dropReports_steady (((twinHeartbeat_steady ((drainEth_steady hu6).calm (serviceHeartbeat_keeps (List.Subset.refl _)
    (keeps_refl _ _)) (by decide) (by decide))).calm (relMark_keeps (List.Subset.refl _) (keeps_refl _ _)) (by decide) (by decide)).calm
    (nmEval_keeps (List.Subset.refl _) (keeps_refl _ _)) (by decide) (by decide))
  exact (lockstep_steady (handoverMark_steady (weftMark_steady hu7))).calm (powerWatch_keeps (List.Subset.refl _) (keeps_refl _ _)) (by decide) (by
    decide)

theorem idleStep_steady (g : Steady s t) : Steady s (State.idleStep t) := by
  unfold State.idleStep
  exact steady_ite (markWork_steady ((g.calm (elapse_keeps (List.Subset.refl _) (keeps_refl _ _)) (by decide) (by decide)).calm (onWt_keeps
    (List.Subset.refl _) (keeps_refl _ _)) (by decide) (by decide))) ((drainEth_steady (g.calm (elapse_keeps (List.Subset.refl _) (keeps_refl _ _))
    (by decide) (by decide))).calm (powerWatch_keeps (List.Subset.refl _) (keeps_refl _ _)) (by decide) (by decide))

/-! ## The operations that take or release TWIN_TOKEN -/

theorem twinOk_of_released {w : Twin} (h : w.driven = false) : TwinOk w := ⟨fun hdriven => absurd hdriven (by simp [h]), fun _ => h⟩

theorem twinOk_of_lead {w : Twin} (hrole : w.role = .lead) (hheld : w.holdEnd = none) : TwinOk w :=
  ⟨fun _ => hrole, fun h => absurd h (by simp [hheld])⟩

theorem faultsOk_of_nil {f : Faults} (h : f.queue = []) : FaultsOk f := by simp [FaultsOk, h]

theorem seize_safe {p} (g : Safe s t) : Safe s (State.seize t p) := by
  unfold State.seize
  exact (onTwin_safe (fun _ => twinOk_of_lead rfl rfl) g).calm (roleChanged_keeps (List.Subset.refl _) (keeps_refl _ _)) (by decide) (by decide)

theorem releaseToken_safe (g : Safe s t) : Safe s (State.releaseToken t) := by
  unfold State.releaseToken
  exact safe_ite g (((onTwin_safe (fun _ => twinOk_of_released rfl) (safe_ite (g.steady (twinFrame_steady (steady_refl _))) g)).steady
    (flushHeld_steady (steady_refl _))).steady (startAcked_steady (steady_refl _)))

/-- After its release the token is not driven (R401). -/
theorem releaseToken_driven (t : State) : t.releaseToken.twin.driven = false := by
  unfold State.releaseToken
  split
  next h => simpa using h
  next =>
    extract_lets now u v
    exact congrArg (fun x : Bool × Role × Option Nat => x.1) (startAcked_steady (flushHeld_steady (steady_refl v))).token

theorem resetTwin_safe (g : Safe s t) : Safe s (State.resetTwin t) := by
  unfold State.resetTwin
  exact onTwin_safe (fun _ => twinOk_of_released (releaseToken_driven _))
    (releaseToken_safe (safe_ite (g.steady (linkGone_steady (steady_refl _))) g))

theorem onCommand_safe {r n} {f : Cmd → State → State} (h : ∀ c t, Safe t (f c t)) (g : Safe s t) : Safe s (t.onCommand r n f) := by
  unfold State.onCommand
  split
  · exact g
  · exact safe_ite (g.trans (h _ _)) g

theorem leadPairing_safe (g : Safe s t) : Safe s (State.leadPairing t) := by
  unfold State.leadPairing
  refine safe_forEach ?_ (onTwin_safe id ((onTwin_safe id (seize_safe g)).steady (twinFrame_steady (steady_refl _))))
  intro x t1
  split
  · exact (safe_refl _).steady (sendWeft_steady (steady_refl _))
  · exact safe_refl _

theorem takeOver_safe (g : Safe s t) : Safe s (State.takeOver t) := by
  unfold State.takeOver
  exact (((onTwin_safe id (seize_safe g)).steady (takeShared_steady (steady_refl _))).steady (restoreGroups_steady (steady_refl _))).calm
    (record_keeps (List.Subset.refl _) (keeps_refl _ _)) (by decide) (by decide)

theorem enterPair_safe (g : Safe s t) : Safe s (State.enterPair t) := by
  unfold State.enterPair
  exact safe_ite ((((onTwin_safe (fun _ => twinOk_of_released rfl) g).steady (dropShared_steady (steady_refl _))).calm (roleChanged_keeps
    (List.Subset.refl _) (keeps_refl _ _)) (by decide) (by decide)).steady (startPairing_steady (steady_refl _))) (((onTwin_safe (fun _ =>
    twinOk_of_released rfl) g).steady (dropShared_steady (steady_refl _))).calm (roleChanged_keeps (List.Subset.refl _) (keeps_refl _ _)) (by decide)
    (by decide))

theorem leavePair_safe (g : Safe s t) : Safe s (State.leavePair t) := by
  unfold State.leavePair
  extract_lets t1 u u1
  have hu : Safe s u := safe_ite (g.calm (record_keeps (List.Subset.refl _) (keeps_refl _ _)) (by decide) (by decide)) g
  have hu1 : Safe s u1 := onTwin_safe (fun _ => twinOk_of_released rfl) hu
  exact (hu1.steady (dropShared_steady (steady_refl _))).calm (roleChanged_keeps (List.Subset.refl _) (keeps_refl _ _)) (by decide) (by decide)

theorem resetService_safe (g : Safe s t) : Safe s (State.resetService t) := by
  unfold State.resetService
  exact ((((releaseToken_safe (onFlt_safe faultsOk_restart g)).calm (resetCommands_keeps (List.Subset.refl _) (keeps_refl _ _)) (by decide) (by
    decide)).calm (dropFar_keeps (List.Subset.refl _) (keeps_refl _ _)) (by decide) (by decide)).calm (resetAccess_keeps (List.Subset.refl _)
    (keeps_refl _ _)) (by decide) (by decide)).calm (onId_keeps (List.Subset.refl _) (keeps_refl _ _)) (by decide) (by decide)

theorem resetIsland_safe {x1} (g : Safe s t) : Safe s (State.resetIsland t x1) := by
  unfold State.resetIsland
  extract_lets u u1 u2
  have hu : Safe s u := safe_ite (g.steady (serviceDrain_steady (steady_refl _))) g
  have hu1 : Safe s u1 := safe_ite (hu.steady (serviceDrain_steady (steady_refl _))) hu
  have hu2 : Safe s u2 := ((hu1.calm (resetLinks_keeps (List.Subset.refl _) (keeps_refl _ _)) (by decide) (by decide)).calm (onClk_keeps
    (List.Subset.refl _) (keeps_refl _ _)) (by decide) (by decide)).steady (wdtStart_steady (steady_refl _))
  split
  · exact hu2.steady (resetLoom_steady (steady_refl _))
  · exact resetService_safe hu2
  · exact hu2.steady (resetNetwork_steady (steady_refl _))
  · exact hu2.steady (opSwitchReset_steady (steady_refl _))
  · exact hu2.steady (opDriveReset_steady (steady_refl _))
  · exact (hu2.calm (radioStop_keeps (List.Subset.refl _) (keeps_refl _ _)) (by decide) (by decide)).calm (radioEval_keeps (List.Subset.refl _)
      (keeps_refl _ _)) (by decide) (by decide)
  · exact resetTwin_safe hu2
  · exact hu2

/-- A hold reset empties the queue and enters its own fault (R316, R317). -/
theorem holdReset_safe {w} (g : Safe s t) : Safe s (State.holdReset t w) := by
  unfold State.holdReset
  extract_lets held islands q mask now emptied noted e entered
  have hheld : Safe s held := onFlt_safe id ((releaseToken_safe g).steady (closeGate_steady (steady_refl _)))
  have hislands : Safe s islands := safe_forEach (fun _ t => resetIsland_safe (safe_refl t)) hheld
  have hemptied : Safe s emptied := onFlt_safe (fun _ => faultsOk_of_nil rfl) hislands
  have hnoted : Safe s noted := hemptied.calm (recordSev_keeps (List.Subset.refl _) (keeps_refl _ _)) (by decide) (by decide)
  have hentered : Safe s entered := hnoted.steady (enterFault_steady (steady_refl _))
  clear_value entered
  exact onFlt_safe id hentered

theorem unpower_safe {x1 x2} (g : Safe s t) : Safe s (State.unpower t x1 x2) := by
  unfold State.unpower
  extract_lets up u u1 u2 u3 u4 u5 u6 u7 u8
  have hu : Safe s u := safe_ite (((((releaseToken_safe g).calm (resetCommands_keeps (List.Subset.refl _) (keeps_refl _ _)) (by decide) (by
    decide)).calm (dropFar_keeps (List.Subset.refl _) (keeps_refl _ _)) (by decide) (by decide)).calm (stopAccess_keeps (List.Subset.refl _)
    (keeps_refl _ _)) (by decide) (by decide)).calm (clearMem_keeps (List.Subset.refl _) (keeps_refl _ _)) (by decide) (by decide)) g
  have hu1 : Safe s u1 := safe_ite (((hu.steady (resetLoom_steady (steady_refl _))).calm (clearMem_keeps (List.Subset.refl _) (keeps_refl _ _)) (by
    decide) (by decide)).calm (clearMem_keeps (List.Subset.refl _) (keeps_refl _ _)) (by decide) (by decide)) hu
  have hu2 : Safe s u2 := safe_ite ((((hu1.steady (resetCan_steady (steady_refl _))).steady (resetEth_steady (steady_refl _))).steady
    (resetFar_steady (steady_refl _))).calm (resetNm_keeps (List.Subset.refl _) (keeps_refl _ _)) (by decide) (by decide)) hu1
  have hu3 : Safe s u3 := safe_ite (hu2.steady (switchClear_steady (steady_refl _))) hu2
  have hu4 : Safe s u4 := safe_ite (hu3.steady (driveClear_steady (steady_refl _))) hu3
  have hu5 : Safe s u5 := (hu4.steady (fieldStop_steady (steady_refl _))).calm (onSupply_keeps (List.Subset.refl _) (keeps_refl _ _)) (by decide) (by
    decide)
  have hu6 : Safe s u6 := safe_ite (resetTwin_safe hu5) hu5
  have hu7 : Safe s u7 := hu6.calm (onLinks_keeps (List.Subset.refl _) (keeps_refl _ _)) (by decide) (by decide)
  have hu8 : Safe s u8 := hu7.calm (onPwr_keeps (List.Subset.refl _) (keeps_refl _ _)) (by decide) (by decide)
  exact hu8.calm (onId_keeps (List.Subset.refl _) (keeps_refl _ _)) (by decide) (by decide)

theorem sleepEnd_safe (g : Safe s t) : Safe s (State.sleepEnd t) := by
  unfold State.sleepEnd
  exact ((((unpower_safe (g.calm (onWt_keeps (List.Subset.refl _) (keeps_refl _ _)) (by decide) (by decide))).calm (barrierRest_keeps
    (List.Subset.refl _) (keeps_refl _ _)) (by decide) (by decide)).calm (onEth_keeps (List.Subset.refl _) (keeps_refl _ _)) (by decide) (by
    decide)).calm (onPwr_keeps (List.Subset.refl _) (keeps_refl _ _)) (by decide) (by decide)).calm (radioEval_keeps (List.Subset.refl _) (keeps_refl
    _ _)) (by decide) (by decide)

theorem sleepReached_safe (g : Safe s t) : Safe s (State.sleepReached t) := by
  unfold State.sleepReached
  dsimp only
  split
  · exact (sleepEnd_safe g).steady (wakeUp_steady (steady_refl _))
  · exact sleepEnd_safe g

/-! ## The rows of the table -/

theorem opAuxLoss_safe {mv : Nat} : Safe s (opAuxLoss mv s) := by
  unfold opAuxLoss
  exact safe_ite (safe_refl _) (unpower_safe (((((safe_refl _).calm (onSupply_keeps (List.Subset.refl _) (keeps_refl _ _)) (by decide) (by
    decide)).calm (onWt_keeps (List.Subset.refl _) (keeps_refl _ _)) (by decide) (by decide)).calm (onPwr_keeps (List.Subset.refl _) (keeps_refl _
    _)) (by decide) (by decide)).calm (radioStop_keeps (List.Subset.refl _) (keeps_refl _ _)) (by decide) (by decide)))

theorem opSleepEntry_safe : Safe s (opSleepEntry s) := by
  unfold opSleepEntry
  refine safe_ite (safe_ite (sleepReached_safe (safe_refl _)) (safe_refl _)) ?_
  split
  · exact safe_ite ((safe_refl _).steady (sleepBegin_steady (steady_refl _))) (safe_refl _)
  · exact safe_ite ((safe_refl _).steady (sleepBegin_steady (steady_refl _))) (safe_refl _)
  · exact safe_ite ((safe_refl _).steady (sleepBegin_steady (steady_refl _))) (safe_refl _)
  · exact safe_ite ((safe_refl _).steady (sleepBegin_steady (steady_refl _))) (safe_refl _)

theorem opDeepSleepEntry_safe : Safe s (opDeepSleepEntry s) := by
  unfold opDeepSleepEntry
  exact safe_ite (safe_refl _) (((unpower_safe ((safe_refl _).calm (record_keeps (List.Subset.refl _) (keeps_refl _ _)) (by decide) (by
    decide))).calm (onPwr_keeps (List.Subset.refl _) (keeps_refl _ _)) (by decide) (by decide)).calm (radioEval_keeps (List.Subset.refl _)
    (keeps_refl _ _)) (by decide) (by decide))

theorem opReserveEnd_steady {mv : Nat} {wake : Bool} {m : Option Medium} : Steady s (opReserveEnd mv wake m s) := by
  unfold opReserveEnd
  split
  · exact steady_refl _
  · exact steady_ite (steady_refl _) (steady_ite ((wakeUp_steady ((((commitBuffered_steady ((((steady_refl _).calm (recordFirst_keeps
      (List.Subset.refl _) (keeps_refl _ _)) (by decide) (by decide)).calm (onSupply_keeps (List.Subset.refl _) (keeps_refl _ _)) (by decide) (by
      decide)).calm (onPwr_keeps (List.Subset.refl _) (keeps_refl _ _)) (by decide) (by decide))).calm (onRcd_keeps (List.Subset.refl _) (keeps_refl
      _ _)) (by decide) (by decide)).calm (onPwr_keeps (List.Subset.refl _) (keeps_refl _ _)) (by decide) (by decide)).calm (saveCounts_keeps
      (List.Subset.refl _) (keeps_refl _ _)) (by decide) (by decide))).calm (onId_keeps (List.Subset.refl _) (keeps_refl _ _)) (by decide) (by
      decide)) (((((commitBuffered_steady ((((steady_refl _).calm (recordFirst_keeps (List.Subset.refl _) (keeps_refl _ _)) (by decide) (by
      decide)).calm (onSupply_keeps (List.Subset.refl _) (keeps_refl _ _)) (by decide) (by decide)).calm (onPwr_keeps (List.Subset.refl _)
      (keeps_refl _ _)) (by decide) (by decide))).calm (onRcd_keeps (List.Subset.refl _) (keeps_refl _ _)) (by decide) (by decide)).calm (onPwr_keeps
      (List.Subset.refl _) (keeps_refl _ _)) (by decide) (by decide)).calm (saveCounts_keeps (List.Subset.refl _) (keeps_refl _ _)) (by decide) (by
      decide)).calm (onPwr_keeps (List.Subset.refl _) (keeps_refl _ _)) (by decide) (by decide)))

theorem opKeepColdStart_safe {wake : Bool} {m : Option Medium} : Safe s (opKeepColdStart wake m s) := by
  unfold opKeepColdStart
  refine safe_ite (safe_refl _) ?_
  extract_lets now weft cold begun sec power booted started access door watch file
  have hcold : Safe s cold := ⟨fun _ => twinOk_of_released rfl, fun _ => faultsOk_of_nil rfl⟩
  have hfed : Safe s (if (cold.side.fed && !cold.side.running) = true then cold.fieldBegin cold.side.fpMv else cold) :=
    safe_ite (hcold.calm (fieldBegin_keeps (List.Subset.refl _) (keeps_refl _ _)) (by decide) (by decide)) hcold
  have hbegun : Safe s begun := (hfed.calm (rebase_keeps (List.Subset.refl _) (keeps_refl _ _)) (by decide) (by decide)).calm
    (recorderColdStart_keeps (List.Subset.refl _) (keeps_refl _ _)) (by decide) (by decide)
  have hbooted : Safe s booted := hbegun.calm (onPwr_keeps (List.Subset.refl _) (keeps_refl _ _)) (by decide) (by decide)
  have haccess : Safe s access := ((hbooted.steady (wdtStart_steady (steady_refl _))).calm (record_keeps (List.Subset.refl _) (keeps_refl _ _))
    (by decide) (by decide)).calm (coldAccess_keeps (List.Subset.refl _) (keeps_refl _ _)) (by decide) (by decide)
  have hdoor : Safe s door := safe_ite (haccess.calm (doorEvent_keeps (List.Subset.refl _) (keeps_refl _ _)) (by decide) (by decide)) haccess
  exact (hdoor.calm (onId_keeps (List.Subset.refl _) (keeps_refl _ _)) (by decide) (by decide)).calm
    (radioEval_keeps (List.Subset.refl _) (keeps_refl _ _)) (by decide) (by decide)

theorem opIdleExit_steady : Steady s (opIdleExit s) := by
  unfold opIdleExit
  exact steady_ite ((idleWatch_steady (steady_refl _)).calm (onPwr_keeps (List.Subset.refl _) (keeps_refl _ _)) (by decide) (by decide)) (steady_refl
    _)

theorem opOffEntry_steady : Steady s (opOffEntry s) := by
  unfold opOffEntry
  exact steady_ite (steady_refl _) ((((((commitBuffered_steady (((steady_refl _).calm (record_keeps (List.Subset.refl _) (keeps_refl _ _)) (by
    decide) (by decide)).calm (onPwr_keeps (List.Subset.refl _) (keeps_refl _ _)) (by decide) (by decide))).calm (onRcd_keeps (List.Subset.refl _)
    (keeps_refl _ _)) (by decide) (by decide)).calm (saveCounts_keeps (List.Subset.refl _) (keeps_refl _ _)) (by decide) (by decide)).calm
    (onCan_keeps (List.Subset.refl _) (keeps_refl _ _)) (by decide) (by decide)).calm (onPwr_keeps (List.Subset.refl _) (keeps_refl _ _)) (by decide)
    (by decide)).calm (radioEval_keeps (List.Subset.refl _) (keeps_refl _ _)) (by decide) (by decide))

theorem opSleepWake_steady {source detail : Nat} : Steady s (opSleepWake source detail s) := by
  unfold opSleepWake
  refine steady_ite (steady_refl _) ?_
  refine steady_ite (steady_ite ((steady_refl _).calm (moduleWake_keeps (List.Subset.refl _) (keeps_refl _ _)) (by decide) (by decide)) (steady_refl
    _)) ?_
  refine steady_ite (steady_ite ((steady_refl _).calm (onPwr_keeps (List.Subset.refl _) (keeps_refl _ _)) (by decide) (by decide)) (steady_refl _)) ?_
  refine steady_ite ?_ (steady_refl _)
  split
  · exact wakeUp_steady (steady_refl _)
  · exact steady_ite (wakeUp_steady (steady_refl _)) (steady_refl _)

theorem opPwrConfig_steady {r : CmdRef} : Steady s (opPwrConfig r s) := by
  unfold opPwrConfig
  exact onCommand_steady (fun c t => steady_ite (complete_steady (steady_refl _)) (complete_steady ((steady_refl _).calm (onPwr_keeps
    (List.Subset.refl _) (keeps_refl _ _)) (by decide) (by decide)))) (steady_refl _)

theorem opPwrEnter_steady {r : CmdRef} : Steady s (opPwrEnter r s) := by
  unfold opPwrEnter
  refine onCommand_steady ?_ (steady_refl _)
  intro c t
  dsimp only
  split
  · exact complete_steady (steady_refl _)
  · exact steady_ite (complete_steady (steady_refl _)) (steady_ite (complete_steady (steady_refl _)) (steady_ite (complete_steady (steady_refl _))
      ((complete_steady (steady_refl _)).calm (onPwr_keeps (List.Subset.refl _) (keeps_refl _ _)) (by decide) (by decide))))

theorem opWakeSource_steady {r : CmdRef} : Steady s (opWakeSource r s) := by
  unfold opWakeSource
  exact onCommand_steady (fun c t => steady_ite (complete_steady (steady_refl _)) (complete_steady (steady_refl _))) (steady_refl _)

theorem opWakeRisingEdge_steady : Steady s (opWakeRisingEdge s) := by
  unfold opWakeRisingEdge
  exact steady_ite ((serviceActive_steady (steady_refl _)).calm (doorEvent_keeps (List.Subset.refl _) (keeps_refl _ _)) (by decide) (by decide))
    (steady_refl _)

theorem opXoFail_steady : Steady s (opXoFail s) := by
  unfold opXoFail
  exact steady_ite (steady_refl _) (fault_steady ((steady_refl _).calm (onClk_keeps (List.Subset.refl _) (keeps_refl _ _)) (by decide) (by decide)))

theorem opClkstuck_steady {mux : Nat} : Steady s (opClkstuck mux s) := by
  unfold opClkstuck
  exact steady_ite (fault_steady ((steady_refl _).calm (onClk_keeps (List.Subset.refl _) (keeps_refl _ _)) (by decide) (by decide))) (steady_refl _)

theorem opXoLoss_steady {offFrequency : Bool} : Steady s (opXoLoss offFrequency s) := by
  unfold opXoLoss
  refine steady_ite (steady_ite ((steady_refl _).calm (onClk_keeps (List.Subset.refl _) (keeps_refl _ _)) (by decide) (by decide)) (steady_refl _)) ?_
  extract_lets ev u t u1 u2
  have hu : Steady s u := steady_ite (steady_refl _) (faultEvent_steady ((steady_refl _).calm (onClk_keeps (List.Subset.refl _) (keeps_refl _ _)) (by
    decide) (by decide)))
  have hu1 : Steady s u1 := hu.calm (onClk_keeps (List.Subset.refl _) (keeps_refl _ _)) (by decide) (by decide)
  have hu2 : Steady s u2 := faultEvent_steady hu1
  exact (hu2.calm (setSource_keeps (List.Subset.refl _) (keeps_refl _ _)) (by decide) (by decide)).calm (radioEval_keeps (List.Subset.refl _)
    (keeps_refl _ _)) (by decide) (by decide)

theorem opShuttleAck_steady {k : LinkNo} : Steady s (opShuttleAck k s) := by
  unfold opShuttleAck
  extract_lets u
  have hu : Steady s u := steady_ite (told_steady (steady_refl _)) (steady_refl _)
  split
  · exact ackArrive_steady hu
  · exact hu.calm (acked_keeps (List.Subset.refl _) (keeps_refl _ _)) (by decide) (by decide)

theorem opShuttleRetransmit_steady {k : LinkNo} : Steady s (opShuttleRetransmit k s) := by
  unfold opShuttleRetransmit
  extract_lets l u
  have hu : Steady s u := steady_ite (steady_refl _) (steady_ite (ackArrive_steady (steady_refl _)) (steady_ite (told_steady (steady_refl _))
    (steady_ite (fault_steady (steady_refl _)) (steady_refl _))))
  exact hu.calm (onLink_keeps (List.Subset.refl _) (keeps_refl _ _)) (by decide) (by decide)

theorem opFrameMark_steady {corr : List (Nat × Int)} {badSw badDr : Option Nat} {badHost : List Nat} : Steady s (opFrameMark corr badSw badDr badHost
    s) := by
  unfold opFrameMark
  exact steady_ite (steady_refl _) (markWork_steady (((steady_refl _).calm (elapse_keeps (List.Subset.refl _) (keeps_refl _ _)) (by decide) (by
    decide)).calm (onWt_keeps (List.Subset.refl _) (keeps_refl _ _)) (by decide) (by decide)))

theorem opRecInfo_steady {r : CmdRef} : Steady s (opRecInfo r s) := by
  unfold opRecInfo
  exact onCommand_steady (fun c t => steady_ite (complete_steady (steady_refl _)) (complete_steady (steady_refl _))) (steady_refl _)

theorem opRecAppend_steady {r : CmdRef} : Steady s (opRecAppend r s) := by
  unfold opRecAppend
  exact onCommand_steady (fun c t => steady_ite (complete_steady (steady_refl _)) (steady_ite (complete_steady (steady_refl _)) (steady_ite
    (complete_steady ((steady_refl _).calm (onRcd_keeps (List.Subset.refl _) (keeps_refl _ _)) (by decide) (by decide))) (((steady_refl _).calm
    (handOver_keeps (List.Subset.refl _) (keeps_refl _ _)) (by decide) (by decide)).calm (onRcd_keeps (List.Subset.refl _) (keeps_refl _ _)) (by
    decide) (by decide))))) (steady_refl _)

theorem opNop_steady : Steady s (opNop s) := by
  unfold opNop
  exact steady_ite (loomRow_steady (fun i t => (steady_refl _).calm (Ins_plain_keeps (List.Subset.refl _) (keeps_refl _ _)) (by decide) (by decide)))
    (fetchFault_steady (steady_refl _))

theorem opCmp_steady : Steady s (opCmp s) := by
  unfold opCmp
  exact loomRow_steady (fun i t => (steady_refl _).calm (semCompare_keeps (List.Subset.refl _) (keeps_refl _ _)) (by decide) (by decide))

theorem opTst_steady : Steady s (opTst s) := by
  unfold opTst
  exact loomRow_steady (fun i t => (steady_refl _).calm (semCompare_keeps (List.Subset.refl _) (keeps_refl _ _)) (by decide) (by decide))

theorem opBtst_steady : Steady s (opBtst s) := by
  unfold opBtst
  exact loomRow_steady (fun i t => (steady_refl _).calm (semCompare_keeps (List.Subset.refl _) (keeps_refl _ _)) (by decide) (by decide))

theorem opBcc_steady : Steady s (opBcc s) := by
  unfold opBcc
  exact loomRow_steady (fun i t => (steady_refl _).calm (semBcc_keeps (List.Subset.refl _) (keeps_refl _ _)) (by decide) (by decide))

theorem opCall_steady : Steady s (opCall s) := by
  unfold opCall
  exact loomRow_steady (fun i t => (steady_refl _).calm (semCall_keeps (List.Subset.refl _) (keeps_refl _ _)) (by decide) (by decide))

theorem opRet_steady : Steady s (opRet s) := by
  unfold opRet
  exact loomRow_steady (fun i t => (steady_refl _).calm (semRet_keeps (List.Subset.refl _) (keeps_refl _ _)) (by decide) (by decide))

theorem opJmpi_steady : Steady s (opJmpi s) := by
  unfold opJmpi
  exact loomRow_steady fun i t => (steady_refl t).calm (semOne_keeps (m := [.loom]) (List.Subset.refl _) (fun _ _ _ h => semJmpi_keeps h)
    (keeps_refl _ _)) (by decide) (by decide)

theorem opYield_steady : Steady s (opYield s) := by
  unfold opYield
  exact loomRow_steady fun _ t => steady_refl t

theorem opDone_steady : Steady s (opDone s) := by
  unfold opDone
  exact loomRow_steady fun _ t => steady_refl t

theorem opMulu_steady : Steady s (opMulu s) := by
  unfold opMulu
  exact loomRow_steady (fun i t => (steady_refl _).calm (semMul_keeps (List.Subset.refl _) (keeps_refl _ _)) (by decide) (by decide))

theorem opMuls_steady : Steady s (opMuls s) := by
  unfold opMuls
  exact loomRow_steady (fun i t => (steady_refl _).calm (semMul_keeps (List.Subset.refl _) (keeps_refl _ _)) (by decide) (by decide))

theorem opRep_steady : Steady s (opRep s) := by
  unfold opRep
  exact loomRow_steady (fun i t => (steady_refl _).calm (semRep_keeps (List.Subset.refl _) (keeps_refl _ _)) (by decide) (by decide))

theorem opRepi_steady : Steady s (opRepi s) := by
  unfold opRepi
  exact loomRow_steady (fun i t => (steady_refl _).calm (semRep_keeps (List.Subset.refl _) (keeps_refl _ _)) (by decide) (by decide))

theorem opFence_steady : Steady s (opFence s) := by
  unfold opFence
  exact loomRow_steady fun _ t => steady_refl t

theorem opWaitslot_steady : Steady s (opWaitslot s) := by
  unfold opWaitslot
  exact loomRow_steady fun i t => (steady_refl t).calm (semOne_keeps (m := [.loom]) (List.Subset.refl _) (fun _ _ _ h => semWaitslot_keeps
    (List.Subset.refl _) h)
    (keeps_refl _ _)) (by decide) (by decide)

theorem opPuts_steady : Steady s (opPuts s) := by
  unfold opPuts
  exact loomRow_steady fun i t => (steady_refl t).calm (semOne_keeps (m := [.loom]) (List.Subset.refl _) (fun _ _ _ h => semPuts_keeps
    (List.Subset.refl _) h)
    (keeps_refl _ _)) (by decide) (by decide)

theorem opMov_steady : Steady s (opMov s) := by
  unfold opMov
  exact loomRow_steady (fun i t => (steady_refl _).calm (semUnary_keeps (List.Subset.refl _) (keeps_refl _ _)) (by decide) (by decide))

theorem opMovsx_steady : Steady s (opMovsx s) := by
  unfold opMovsx
  exact loomRow_steady (fun i t => (steady_refl _).calm (semUnary_keeps (List.Subset.refl _) (keeps_refl _ _)) (by decide) (by decide))

theorem opLea_steady : Steady s (opLea s) := by
  unfold opLea
  exact loomRow_steady (fun i t => (steady_refl _).calm (semLea_keeps (List.Subset.refl _) (keeps_refl _ _)) (by decide) (by decide))

theorem opAdd_steady : Steady s (opAdd s) := by
  unfold opAdd
  exact loomRow_steady (fun i t => (steady_refl _).calm (semBinary_keeps (List.Subset.refl _) (keeps_refl _ _)) (by decide) (by decide))

theorem opAdc_steady : Steady s (opAdc s) := by
  unfold opAdc
  exact loomRow_steady (fun i t => (steady_refl _).calm (semBinary_keeps (List.Subset.refl _) (keeps_refl _ _)) (by decide) (by decide))

theorem opSub_steady : Steady s (opSub s) := by
  unfold opSub
  exact loomRow_steady (fun i t => (steady_refl _).calm (semBinary_keeps (List.Subset.refl _) (keeps_refl _ _)) (by decide) (by decide))

theorem opSbc_steady : Steady s (opSbc s) := by
  unfold opSbc
  exact loomRow_steady (fun i t => (steady_refl _).calm (semBinary_keeps (List.Subset.refl _) (keeps_refl _ _)) (by decide) (by decide))

theorem opAnd_steady : Steady s (opAnd s) := by
  unfold opAnd
  exact loomRow_steady (fun i t => (steady_refl _).calm (semBinary_keeps (List.Subset.refl _) (keeps_refl _ _)) (by decide) (by decide))

theorem opOr_steady : Steady s (opOr s) := by
  unfold opOr
  exact loomRow_steady (fun i t => (steady_refl _).calm (semBinary_keeps (List.Subset.refl _) (keeps_refl _ _)) (by decide) (by decide))

theorem opXor_steady : Steady s (opXor s) := by
  unfold opXor
  exact loomRow_steady (fun i t => (steady_refl _).calm (semBinary_keeps (List.Subset.refl _) (keeps_refl _ _)) (by decide) (by decide))

theorem opNot_steady : Steady s (opNot s) := by
  unfold opNot
  exact loomRow_steady (fun i t => (steady_refl _).calm (semUnary_keeps (List.Subset.refl _) (keeps_refl _ _)) (by decide) (by decide))

theorem opNeg_steady : Steady s (opNeg s) := by
  unfold opNeg
  exact loomRow_steady (fun i t => (steady_refl _).calm (semUnary_keeps (List.Subset.refl _) (keeps_refl _ _)) (by decide) (by decide))

theorem opShl_steady : Steady s (opShl s) := by
  unfold opShl
  exact loomRow_steady (fun i t => (steady_refl _).calm (semBinary_keeps (List.Subset.refl _) (keeps_refl _ _)) (by decide) (by decide))

theorem opShr_steady : Steady s (opShr s) := by
  unfold opShr
  exact loomRow_steady (fun i t => (steady_refl _).calm (semBinary_keeps (List.Subset.refl _) (keeps_refl _ _)) (by decide) (by decide))

theorem opSar_steady : Steady s (opSar s) := by
  unfold opSar
  exact loomRow_steady (fun i t => (steady_refl _).calm (semBinary_keeps (List.Subset.refl _) (keeps_refl _ _)) (by decide) (by decide))

theorem opRor_steady : Steady s (opRor s) := by
  unfold opRor
  exact loomRow_steady (fun i t => (steady_refl _).calm (semBinary_keeps (List.Subset.refl _) (keeps_refl _ _)) (by decide) (by decide))

theorem opAddm_steady : Steady s (opAddm s) := by
  unfold opAddm
  exact loomRow_steady (fun i t => (steady_refl _).calm (semModify_keeps (List.Subset.refl _) (keeps_refl _ _)) (by decide) (by decide))

theorem opSubm_steady : Steady s (opSubm s) := by
  unfold opSubm
  exact loomRow_steady (fun i t => (steady_refl _).calm (semModify_keeps (List.Subset.refl _) (keeps_refl _ _)) (by decide) (by decide))

theorem opBset_steady : Steady s (opBset s) := by
  unfold opBset
  exact loomRow_steady (fun i t => (steady_refl _).calm (semModify_keeps (List.Subset.refl _) (keeps_refl _ _)) (by decide) (by decide))

theorem opBclr_steady : Steady s (opBclr s) := by
  unfold opBclr
  exact loomRow_steady (fun i t => (steady_refl _).calm (semModify_keeps (List.Subset.refl _) (keeps_refl _ _)) (by decide) (by decide))

theorem opDadd_steady : Steady s (opDadd s) := by
  unfold opDadd
  exact loomRow_steady (fun i t => (steady_refl _).calm (semBinary_keeps (List.Subset.refl _) (keeps_refl _ _)) (by decide) (by decide))

theorem opDadc_steady : Steady s (opDadc s) := by
  unfold opDadc
  exact loomRow_steady (fun i t => (steady_refl _).calm (semBinary_keeps (List.Subset.refl _) (keeps_refl _ _)) (by decide) (by decide))

theorem opDsub_steady : Steady s (opDsub s) := by
  unfold opDsub
  exact loomRow_steady (fun i t => (steady_refl _).calm (semBinary_keeps (List.Subset.refl _) (keeps_refl _ _)) (by decide) (by decide))

theorem opDsbc_steady : Steady s (opDsbc s) := by
  unfold opDsbc
  exact loomRow_steady (fun i t => (steady_refl _).calm (semBinary_keeps (List.Subset.refl _) (keeps_refl _ _)) (by decide) (by decide))

theorem opDadj_steady : Steady s (opDadj s) := by
  unfold opDadj
  exact loomRow_steady (fun i t => (steady_refl _).calm (semUnary_keeps (List.Subset.refl _) (keeps_refl _ _)) (by decide) (by decide))

theorem opCvbd_steady : Steady s (opCvbd s) := by
  unfold opCvbd
  exact loomRow_steady (fun i t => (steady_refl _).calm (semUnary_keeps (List.Subset.refl _) (keeps_refl _ _)) (by decide) (by decide))

theorem opCvdb_steady : Steady s (opCvdb s) := by
  unfold opCvdb
  exact loomRow_steady (fun i t => (steady_refl _).calm (semUnary_keeps (List.Subset.refl _) (keeps_refl _ _)) (by decide) (by decide))

theorem opRecv_steady : Steady s (opRecv s) := by
  unfold opRecv
  exact loomRow_steady (fun i t => (steady_refl _).calm (semRecv_keeps (List.Subset.refl _) (keeps_refl _ _)) (by decide) (by decide))

theorem opGets_steady : Steady s (opGets s) := by
  unfold opGets
  exact loomRow_steady (fun i t => (steady_refl _).calm (semGets_keeps (List.Subset.refl _) (keeps_refl _ _)) (by decide) (by decide))

theorem opSend_steady : Steady s (opSend s) := by
  unfold opSend
  exact loomRow_steady (fun i t => (steady_refl _).calm (semSend_keeps (List.Subset.refl _) (keeps_refl _ _)) (by decide) (by decide))

theorem opLoomDataReceive_steady {port : Fin 3} {crcOk : Bool} : Steady s (opLoomDataReceive port crcOk s) := by
  unfold opLoomDataReceive
  dsimp only
  split
  · exact steady_refl _
  · refine steady_ite (receiveWord_steady (steady_refl _)) ?_
    split
    next h1 => exact steady_of_eq h1 (receiveWord_steady (steady_refl _))
    next h1 =>
      exact steady_ite ((steady_of_eq h1 (receiveWord_steady (steady_refl _))).calm (onLoom_keeps (List.Subset.refl _) (keeps_refl _ _)) (by decide)
        (by decide)) (planFault_steady (steady_of_eq h1 (receiveWord_steady (steady_refl _))))

theorem opSegmentStart_steady : Steady s (opSegmentStart s) := by
  unfold opSegmentStart
  split
  · exact steady_refl _
  · split
    · exact steady_refl _
    · exact steady_ite (steady_refl _) (steady_ite (boundary_steady (steady_refl _)) (steady_ite ((steady_refl _).calm (onLoom_keeps
        (List.Subset.refl _) (keeps_refl _ _)) (by decide) (by decide)) ((((steady_refl _).calm (onLoom_keeps (List.Subset.refl _) (keeps_refl _ _))
        (by decide) (by decide)).calm (onTask_keeps (List.Subset.refl _) (keeps_refl _ _)) (by decide) (by decide)).calm (onLoom_keeps
        (List.Subset.refl _) (keeps_refl _ _)) (by decide) (by decide))))

theorem opWcet_steady {k : Fin 64} : Steady s (opWcet k s) := by
  unfold opWcet
  split
  · exact steady_refl _
  · exact steady_ite (steady_refl _) (taskFault_steady ((steady_refl _).calm (onTask_keeps (List.Subset.refl _) (keeps_refl _ _)) (by decide) (by
      decide)))

theorem opDeadline_steady {k : Fin 64} : Steady s (opDeadline k s) := by
  unfold opDeadline
  split
  · exact steady_refl _
  · exact steady_ite (taskFault_steady ((steady_refl _).calm (endActivation_keeps (List.Subset.refl _) (keeps_refl _ _)) (by decide) (by decide)))
      (steady_refl _)

theorem opSelvedgeCommit_steady : Steady s (opSelvedgeCommit s) := by
  unfold opSelvedgeCommit
  refine steady_ite (steady_refl _) ?_
  refine steady_ite ((((((steady_refl _).calm (onLoom_keeps (List.Subset.refl _) (keeps_refl _ _)) (by decide) (by decide)).calm (sendWord_keeps
    (List.Subset.refl _) (keeps_refl _ _)) (by decide) (by decide)).calm (sendWord_keeps (List.Subset.refl _) (keeps_refl _ _)) (by decide) (by
    decide)).calm (sendWord_keeps (List.Subset.refl _) (keeps_refl _ _)) (by decide) (by decide)).calm (sendWord_keeps (List.Subset.refl _)
    (keeps_refl _ _)) (by decide) (by decide)) ?_
  extract_lets u u1 u2
  have hu : Steady s u := sendLoomData_steady (twinDrain_steady ((((((steady_refl _).calm (onLoom_keeps (List.Subset.refl _) (keeps_refl _ _)) (by
    decide) (by decide)).calm (sendWord_keeps (List.Subset.refl _) (keeps_refl _ _)) (by decide) (by decide)).calm (sendWord_keeps (List.Subset.refl
    _) (keeps_refl _ _)) (by decide) (by decide)).calm (sendWord_keeps (List.Subset.refl _) (keeps_refl _ _)) (by decide) (by decide)).calm
    (sendWord_keeps (List.Subset.refl _) (keeps_refl _ _)) (by decide) (by decide)))
  have hu1 : Steady s u1 := steady_ite (hu.calm (writeMem_keeps (List.Subset.refl _) (keeps_refl _ _)) (by decide) (by decide)) hu
  have hu2 : Steady s u2 := hu1.calm (onLoom_keeps (List.Subset.refl _) (keeps_refl _ _)) (by decide) (by decide)
  split
  · exact hu1
  · refine steady_ite ?_ hu1
    split
    · exact hu2.calm (writeOwnership_keeps (List.Subset.refl _) (keeps_refl _ _)) (by decide) (by decide)
    · exact hu2

theorem opCommitReceive_steady {drive crcOk : Bool} : Steady s (opCommitReceive drive crcOk s) := by
  unfold opCommitReceive
  dsimp only
  split
  next h => exact steady_of_eq h (receiveWord_steady (steady_refl _))
  next h =>
    exact (steady_ite ((steady_of_eq h (receiveWord_steady (steady_refl _))).calm (onDrv_keeps (List.Subset.refl _) (keeps_refl _ _)) (by decide) (by
      decide)) ((steady_of_eq h (receiveWord_steady (steady_refl _))).calm (onSw_keeps (List.Subset.refl _) (keeps_refl _ _)) (by decide) (by
      decide))).calm (sendWord_keeps (List.Subset.refl _) (keeps_refl _ _)) (by decide) (by decide)

theorem opHeartbeatReceive_steady {drive host crcOk : Bool} : Steady s (opHeartbeatReceive drive host crcOk s) := by
  unfold opHeartbeatReceive
  exact heartbeat_steady (steady_refl _)

theorem opCommandDue_steady {object : Nat} {checkOk : Bool} : Steady s (opCommandDue object checkOk s) := by
  unfold opCommandDue
  split
  · exact switchDue_steady (steady_refl _)
  · split
    · exact driveDue_steady (steady_refl _)
    · exact steady_refl _

theorem opWeftLoadBegin_steady {r : CmdRef} : Steady s (opWeftLoadBegin r s) := by
  unfold opWeftLoadBegin
  exact onCommand_steady (fun c t => steady_ite (complete_steady (steady_refl _)) (steady_ite (complete_steady (steady_refl _)) (steady_ite
    (complete_steady (steady_refl _)) (complete_steady ((steady_refl _).calm (onCmd_keeps (List.Subset.refl _) (keeps_refl _ _)) (by decide) (by
    decide)))))) (steady_refl _)

theorem opWeftCommit_steady {r : CmdRef} : Steady s (opWeftCommit r s) := by
  unfold opWeftCommit
  refine onCommand_steady ?_ (steady_refl _)
  intro c t
  refine steady_ite ?_ ?_
  · dsimp only
    exact complete_steady (((steady_refl _).calm (onCmd_keeps (List.Subset.refl _) (keeps_refl _ _)) (by decide) (by decide)).calm (freeReason_keeps
      (List.Subset.refl _) (keeps_refl _ _)) (by decide) (by decide))
  · split
    · exact refuseWeft_steady (steady_refl _)
    · refine steady_ite (refuseWeft_steady ((steady_refl _).calm (onCmd_keeps (List.Subset.refl _) (keeps_refl _ _)) (by decide) (by decide))) ?_
      split
      · exact refuseWeft_steady ((steady_refl _).calm (onCmd_keeps (List.Subset.refl _) (keeps_refl _ _)) (by decide) (by decide))
      · exact steady_ite (onTwin_steady (by rfl) (sendWeft_steady (((steady_refl _).calm (onCmd_keeps (List.Subset.refl _) (keeps_refl _ _)) (by
          decide) (by decide)).calm (handOver_keeps (List.Subset.refl _) (keeps_refl _ _)) (by decide) (by decide)))) (complete_steady
          (installWeft_steady ((steady_refl _).calm (onCmd_keeps (List.Subset.refl _) (keeps_refl _ _)) (by decide) (by decide))))

theorem opWeftSwap_steady {r : CmdRef} : Steady s (opWeftSwap r s) := by
  unfold opWeftSwap
  refine onCommand_steady ?_ (steady_refl _)
  intro c t
  refine steady_ite ?_ ?_
  · split
    next h =>
      exact complete_steady (steady_of_eq h ((steady_refl _).calm (freeReason_keeps (List.Subset.refl _) (keeps_refl _ _)) (by decide) (by decide)))
  · split
    · exact complete_steady (steady_refl _)
    · exact ((steady_refl _).calm (handOver_keeps (List.Subset.refl _) (keeps_refl _ _)) (by decide) (by decide)).calm (beginSwap_keeps
        (List.Subset.refl _) (keeps_refl _ _)) (by decide) (by decide)

theorem opOwnershipEvaluation_steady : Steady s (opOwnershipEvaluation s) := by
  unfold opOwnershipEvaluation
  split
  · exact steady_ite (evalStart_steady (steady_refl _)) (steady_refl _)
  · split
    · exact steady_ite (evalSwap_steady (steady_refl _)) (steady_refl _)
    · exact steady_refl _

theorem opWeftStart_steady {r : CmdRef} : Steady s (opWeftStart r s) := by
  unfold opWeftStart
  refine onCommand_steady ?_ (steady_refl _)
  intro c t
  refine steady_ite (complete_steady (steady_refl _)) ?_
  split
  next h =>
    exact steady_of_eq h (((steady_refl _).calm (handOver_keeps (List.Subset.refl _) (keeps_refl _ _)) (by decide) (by decide)).calm (doStart_keeps
      (List.Subset.refl _) (keeps_refl _ _)) (by decide) (by decide))
  next h =>
    exact complete_steady (steady_of_eq h (((steady_refl _).calm (handOver_keeps (List.Subset.refl _) (keeps_refl _ _)) (by decide) (by decide)).calm
      (doStart_keeps (List.Subset.refl _) (keeps_refl _ _)) (by decide) (by decide)))

theorem opWeftStop_steady {r : CmdRef} : Steady s (opWeftStop r s) := by
  unfold opWeftStop
  refine onCommand_steady ?_ (steady_refl _)
  intro c t
  refine steady_ite (complete_steady (steady_refl _)) ?_
  split
  next h =>
    exact steady_of_eq h (((steady_refl _).calm (handOver_keeps (List.Subset.refl _) (keeps_refl _ _)) (by decide) (by decide)).calm (doStop_keeps
      (List.Subset.refl _) (keeps_refl _ _)) (by decide) (by decide))
  next h =>
    exact complete_steady (steady_of_eq h (((steady_refl _).calm (handOver_keeps (List.Subset.refl _) (keeps_refl _ _)) (by decide) (by decide)).calm
      (doStop_keeps (List.Subset.refl _) (keeps_refl _ _)) (by decide) (by decide)))

theorem opWeftStarted_steady : Steady s (opWeftStarted s) := by
  unfold opWeftStarted
  split
  · exact steady_refl _
  · refine steady_ite (steady_refl _) ?_
    extract_lets id u u1 u2 u3
    have hu : Steady s u := (steady_refl _).calm (onWeft_keeps (List.Subset.refl _) (keeps_refl _ _)) (by decide) (by decide)
    have hu1 : Steady s u1 := weftMark_steady (onTwin_steady (by rfl) hu)
    have hu2 : Steady s u2 := hu1.calm (record_keeps (List.Subset.refl _) (keeps_refl _ _)) (by decide) (by decide)
    have hu3 : Steady s u3 := by
      unfold u3
      split
      · exact completeId_steady hu2
      · exact hu2
    exact hu3.calm (nmEval_keeps (List.Subset.refl _) (keeps_refl _ _)) (by decide) (by decide)

theorem opWeftStopped_steady : Steady s (opWeftStopped s) := by
  unfold opWeftStopped
  split
  · refine steady_ite (steady_refl _) ?_
    extract_lets id u u1 u2 u3 u4 u5
    have hu : Steady s u := endSwap_steady (steady_refl _)
    have hu1 : Steady s u1 := hu.calm (onWeft_keeps (List.Subset.refl _) (keeps_refl _ _)) (by decide) (by decide)
    have hu2 : Steady s u2 := hu1.calm (onLoom_keeps (List.Subset.refl _) (keeps_refl _ _)) (by decide) (by decide)
    have hu3 : Steady s u3 := steady_ite (hu2.calm (weftToHost_keeps (List.Subset.refl _) (keeps_refl _ _)) (by decide) (by decide))
      (acOrphanEvent_steady (hu2.calm (orphanEvent_keeps (List.Subset.refl _) (keeps_refl _ _)) (by decide) (by decide)))
    have hu4 : Steady s u4 := hu3.calm (record_keeps (List.Subset.refl _) (keeps_refl _ _)) (by decide) (by decide)
    have hu5 : Steady s u5 := by
      unfold u5
      split
      · exact completeId_steady hu4
      · exact hu4
    exact hu5.calm (nmEval_keeps (List.Subset.refl _) (keeps_refl _ _)) (by decide) (by decide)
  · exact steady_refl _

theorem opWeftSwapped_steady : Steady s (opWeftSwapped s) := by
  unfold opWeftSwapped
  split
  · split
    · exact steady_refl _
    · refine steady_ite (steady_refl _) ?_
      dsimp only
      split
      · exact completeId_steady ((weftMark_steady (onTwin_steady (by rfl) (steady_forEach (fun x6 t => actToWeft_steady (steady_refl _))
          (steady_forEach (fun x6 t => (steady_refl _).calm (chanToWeft_keeps (List.Subset.refl _) (keeps_refl _ _)) (by decide) (by decide))
          (acOrphanEvent_steady (((steady_refl _).calm (onWeft_keeps (List.Subset.refl _) (keeps_refl _ _)) (by decide) (by decide)).calm
          (orphanEvent_keeps (List.Subset.refl _) (keeps_refl _ _)) (by decide) (by decide))))))).calm (record_keeps (List.Subset.refl _) (keeps_refl
          _ _)) (by decide) (by decide))
      · exact (weftMark_steady (onTwin_steady (by rfl) (steady_forEach (fun x6 t => actToWeft_steady (steady_refl _)) (steady_forEach (fun x6 t =>
          (steady_refl _).calm (chanToWeft_keeps (List.Subset.refl _) (keeps_refl _ _)) (by decide) (by decide)) (acOrphanEvent_steady (((steady_refl
          _).calm (onWeft_keeps (List.Subset.refl _) (keeps_refl _ _)) (by decide) (by decide)).calm (orphanEvent_keeps (List.Subset.refl _)
          (keeps_refl _ _)) (by decide) (by decide))))))).calm (record_keeps (List.Subset.refl _) (keeps_refl _ _)) (by decide) (by decide)
  · exact steady_refl _

theorem opSwitchCmd_steady {crcOk : Bool} : Steady s (opSwitchCmd crcOk s) := by
  unfold opSwitchCmd
  split
  next h => exact steady_of_eq h (receiveWord_steady (steady_refl _))
  next h =>
    dsimp only
    split
    · exact ((steady_of_eq h (receiveWord_steady (steady_refl _))).calm (onSw_keeps (List.Subset.refl _) (keeps_refl _ _)) (by decide) (by
        decide)).calm (switchInvalid_keeps (List.Subset.refl _) (keeps_refl _ _)) (by decide) (by decide)
    · refine steady_ite ((steady_of_eq h (receiveWord_steady (steady_refl _))).calm (onSw_keeps (List.Subset.refl _) (keeps_refl _ _)) (by decide)
        (by decide)) ?_
      refine steady_ite (islandPlanFault_steady ((steady_of_eq h (receiveWord_steady (steady_refl _))).calm (onSw_keeps (List.Subset.refl _)
        (keeps_refl _ _)) (by decide) (by decide))) ?_
      split
      · exact ((steady_of_eq h (receiveWord_steady (steady_refl _))).calm (onSw_keeps (List.Subset.refl _) (keeps_refl _ _)) (by decide) (by
          decide)).calm (switchInvalid_keeps (List.Subset.refl _) (keeps_refl _ _)) (by decide) (by decide)
      · exact steady_ite (((steady_of_eq h (receiveWord_steady (steady_refl _))).calm (onSw_keeps (List.Subset.refl _) (keeps_refl _ _)) (by decide)
          (by decide)).calm (switchInvalid_keeps (List.Subset.refl _) (keeps_refl _ _)) (by decide) (by decide)) (((steady_of_eq h
          (receiveWord_steady (steady_refl _))).calm (onSw_keeps (List.Subset.refl _) (keeps_refl _ _)) (by decide) (by decide)).calm (onChan_keeps
          (List.Subset.refl _) (keeps_refl _ _)) (by decide) (by decide))

theorem opSwitchReadRequest_steady {crcOk : Bool} : Steady s (opSwitchReadRequest crcOk s) := by
  unfold opSwitchReadRequest
  split
  next h => exact steady_of_eq h (receiveWord_steady (steady_refl _))
  next h =>
    dsimp only
    split
    · exact (steady_of_eq h (receiveWord_steady (steady_refl _))).calm (sendWord_keeps (List.Subset.refl _) (keeps_refl _ _)) (by decide) (by decide)
    · exact ((steady_of_eq h (receiveWord_steady (steady_refl _))).calm (sendWord_keeps (List.Subset.refl _) (keeps_refl _ _)) (by decide) (by
        decide)).calm (switchInvalid_keeps (List.Subset.refl _) (keeps_refl _ _)) (by decide) (by decide)

theorem opShortTrip_steady {c : ChNo} {mA : Nat} : Steady s (opShortTrip c mA s) := by
  unfold opShortTrip
  exact steady_ite (steady_refl _) (steady_ite (sleepTrip_steady (steady_refl _)) (afterTrip_steady ((((steady_refl _).calm (countTrip_keeps
    (List.Subset.refl _) (keeps_refl _ _)) (by decide) (by decide)).calm (onChan_keeps (List.Subset.refl _) (keeps_refl _ _)) (by decide) (by
    decide)).calm (record_keeps (List.Subset.refl _) (keeps_refl _ _)) (by decide) (by decide))))

theorem opOvercurrentTrip_steady {c : ChNo} : Steady s (opOvercurrentTrip c s) := by
  unfold opOvercurrentTrip
  exact steady_ite (steady_refl _) (afterTrip_steady ((((steady_refl _).calm (countTrip_keeps (List.Subset.refl _) (keeps_refl _ _)) (by decide) (by
    decide)).calm (onChan_keeps (List.Subset.refl _) (keeps_refl _ _)) (by decide) (by decide)).calm (record_keeps (List.Subset.refl _) (keeps_refl _
    _)) (by decide) (by decide)))

theorem opCoolingLimit_steady {c : ChNo} : Steady s (opCoolingLimit c s) := by
  unfold opCoolingLimit
  split
  · exact steady_ite (steady_refl _) (coolingLatch_steady (steady_refl _))
  · exact steady_refl _

theorem opThermalShutdown_steady {c : ChNo} {tj : Int} : Steady s (opThermalShutdown c tj s) := by
  unfold opThermalShutdown
  exact steady_ite ((steady_refl _).calm (onChan_keeps (List.Subset.refl _) (keeps_refl _ _)) (by decide) (by decide)) (steady_ite (sleepTrip_steady
    ((steady_refl _).calm (onChan_keeps (List.Subset.refl _) (keeps_refl _ _)) (by decide) (by decide))) (afterTrip_steady (((((steady_refl _).calm
    (onChan_keeps (List.Subset.refl _) (keeps_refl _ _)) (by decide) (by decide)).calm (countTrip_keeps (List.Subset.refl _) (keeps_refl _ _)) (by
    decide) (by decide)).calm (onChan_keeps (List.Subset.refl _) (keeps_refl _ _)) (by decide) (by decide)).calm (record_keeps (List.Subset.refl _)
    (keeps_refl _ _)) (by decide) (by decide))))

theorem opCoolingRestart_steady {c : ChNo} {tj : Int} : Steady s (opCoolingRestart c tj s) := by
  unfold opCoolingRestart
  split
  · exact steady_ite (steady_refl _) (steady_ite ((steady_refl _).calm (onChan_keeps (List.Subset.refl _) (keeps_refl _ _)) (by decide) (by decide))
      (steady_ite (coolingLatch_steady ((steady_refl _).calm (onChan_keeps (List.Subset.refl _) (keeps_refl _ _)) (by decide) (by decide)))
      (((steady_refl _).calm (onChan_keeps (List.Subset.refl _) (keeps_refl _ _)) (by decide) (by decide)).calm (restart_keeps (List.Subset.refl _)
      (keeps_refl _ _)) (by decide) (by decide))))
  · exact steady_refl _

theorem opEnvelopeEvent_steady {p : PwrNo} : Steady s (opEnvelopeEvent p s) := by
  unfold opEnvelopeEvent
  dsimp only
  split
  · exact steady_refl _
  · exact steady_ite (steady_refl _) (steady_ite (((fault_steady (((steady_refl _).calm (onGuard_keeps (List.Subset.refl _) (keeps_refl _ _)) (by
      decide) (by decide)).calm (onSw_keeps (List.Subset.refl _) (keeps_refl _ _)) (by decide) (by decide))).calm (onGuard_keeps (List.Subset.refl _)
      (keeps_refl _ _)) (by decide) (by decide)).calm (railUpdate_keeps (List.Subset.refl _) (keeps_refl _ _)) (by decide) (by decide))
      ((fault_steady (((steady_refl _).calm (onGuard_keeps (List.Subset.refl _) (keeps_refl _ _)) (by decide) (by decide)).calm (onSw_keeps
      (List.Subset.refl _) (keeps_refl _ _)) (by decide) (by decide))).calm (guardShed_keeps (List.Subset.refl _) (keeps_refl _ _)) (by decide) (by
      decide)))

theorem opSwClearLatch_steady {r : CmdRef} : Steady s (opSwClearLatch r s) := by
  unfold opSwClearLatch
  refine onCommand_steady ?_ (steady_refl _)
  intro c t
  split
  · exact complete_steady (steady_refl _)
  · exact steady_ite (complete_steady (steady_refl _)) (steady_ite (complete_steady ((((steady_refl _).calm (onChan_keeps (List.Subset.refl _)
      (keeps_refl _ _)) (by decide) (by decide)).calm (rephase_keeps (List.Subset.refl _) (keeps_refl _ _)) (by decide) (by decide)).calm
      (record_keeps (List.Subset.refl _) (keeps_refl _ _)) (by decide) (by decide))) (complete_steady (steady_refl _)))

theorem opAdmitLimit_steady {c : ChNo} : Steady s (opAdmitLimit c s) := by
  unfold opAdmitLimit
  split
  · exact steady_refl _
  · split
    · exact steady_refl _
    · exact steady_ite (steady_refl _) (completeId_steady (((steady_refl _).calm (popWaiting_keeps (List.Subset.refl _) (keeps_refl _ _)) (by decide)
        (by decide)).calm (record_keeps (List.Subset.refl _) (keeps_refl _ _)) (by decide) (by decide)))

theorem opSwGet_steady {r : CmdRef} : Steady s (opSwGet r s) := by
  unfold opSwGet
  refine onCommand_steady ?_ (steady_refl _)
  intro c t
  split
  · exact complete_steady (steady_refl _)
  · exact steady_ite (complete_steady (steady_refl _)) (complete_steady (steady_refl _))

theorem opSwConfig_steady {r : CmdRef} : Steady s (opSwConfig r s) := by
  unfold opSwConfig
  refine onCommand_steady ?_ (steady_refl _)
  intro c t
  dsimp only
  split
  · exact complete_steady (steady_refl _)
  · refine steady_ite (complete_steady (steady_refl _)) ?_
    split
    · exact complete_steady ((steady_refl _).calm (chDenied_keeps (List.Subset.refl _) (keeps_refl _ _)) (by decide) (by decide))
    · exact steady_ite (complete_steady ((steady_refl _).calm (chDenied_keeps (List.Subset.refl _) (keeps_refl _ _)) (by decide) (by decide)))
        (complete_steady ((steady_refl _).calm (configure_keeps (List.Subset.refl _) (keeps_refl _ _)) (by decide) (by decide)))

theorem opSwAdopt_steady {r : CmdRef} : Steady s (opSwAdopt r s) := by
  unfold opSwAdopt
  exact onCommand_steady (fun c t => steady_ite (complete_steady (steady_refl _)) (steady_ite (complete_steady (steady_refl _)) (((steady_refl
    _).calm (handOver_keeps (List.Subset.refl _) (keeps_refl _ _)) (by decide) (by decide)).calm (onSw_keeps (List.Subset.refl _) (keeps_refl _ _))
    (by decide) (by decide)))) (steady_refl _)

theorem opSwSet_steady {r : CmdRef} : Steady s (opSwSet r s) := by
  unfold opSwSet
  refine onCommand_steady ?_ (steady_refl _)
  intro c t
  dsimp only
  split
  · exact steady_ite (complete_steady (steady_refl _)) (steady_ite (complete_steady (steady_refl _)) (steady_ite (complete_steady (steady_refl _))
      (steady_ite (complete_steady (steady_refl _)) (steady_ite (complete_steady (steady_refl _)) (steady_ite (complete_steady (steady_refl _))
      (((steady_refl _).calm (handOver_keeps (List.Subset.refl _) (keeps_refl _ _)) (by decide) (by decide)).calm (sendWord_keeps (List.Subset.refl
      _) (keeps_refl _ _)) (by decide) (by decide)))))))
  · exact complete_steady (steady_refl _)

theorem opThermalBudgetEval_steady {base : Int} : Steady s (opThermalBudgetEval base s) := by
  unfold opThermalBudgetEval
  refine steady_ite (steady_refl _) ?_
  dsimp only
  split
  · exact steady_ite (fault_steady (((steady_refl _).calm (evalDiss_keeps (List.Subset.refl _) (keeps_refl _ _)) (by decide) (by decide)).calm
      (onSw_keeps (List.Subset.refl _) (keeps_refl _ _)) (by decide) (by decide))) ((steady_refl _).calm (evalDiss_keeps (List.Subset.refl _)
      (keeps_refl _ _)) (by decide) (by decide))
  · exact steady_ite ((((steady_refl _).calm (evalDiss_keeps (List.Subset.refl _) (keeps_refl _ _)) (by decide) (by decide)).calm (onSw_keeps
      (List.Subset.refl _) (keeps_refl _ _)) (by decide) (by decide)).calm (record_keeps (List.Subset.refl _) (keeps_refl _ _)) (by decide) (by
      decide)) ((steady_refl _).calm (evalDiss_keeps (List.Subset.refl _) (keeps_refl _ _)) (by decide) (by decide))

theorem opThermalShedStart_steady : Steady s (opThermalShedStart s) := by
  unfold opThermalShedStart
  exact steady_ite (steady_refl _) (fault_steady ((steady_refl _).calm (onSw_keeps (List.Subset.refl _) (keeps_refl _ _)) (by decide) (by decide)))

theorem opBoostFail_steady {mv : Nat} : Steady s (opBoostFail mv s) := by
  unfold opBoostFail
  dsimp only
  split
  · exact (steady_refl _).calm (setVboost_keeps (List.Subset.refl _) (keeps_refl _ _)) (by decide) (by decide)
  · exact steady_ite ((steady_refl _).calm (setVboost_keeps (List.Subset.refl _) (keeps_refl _ _)) (by decide) (by decide)) (fault_steady
      (((steady_refl _).calm (setVboost_keeps (List.Subset.refl _) (keeps_refl _ _)) (by decide) (by decide)).calm (onDrv_keeps (List.Subset.refl _)
      (keeps_refl _ _)) (by decide) (by decide)))

theorem opHoldUnreachable_steady {c : AcNo} : Steady s (opHoldUnreachable c s) := by
  unfold opHoldUnreachable
  dsimp only
  split
  · exact steady_ite (steady_refl _) (raiseDiag_steady ((steady_refl _).calm (onCoil_keeps (List.Subset.refl _) (keeps_refl _ _)) (by decide) (by
      decide)))
  · exact steady_refl _

theorem opBankOverload_steady {b : BankNo} {mean : Nat} : Steady s (opBankOverload b mean s) := by
  unfold opBankOverload
  exact steady_ite ((steady_refl _).calm (bankMean_keeps (List.Subset.refl _) (keeps_refl _ _)) (by decide) (by decide)) (fault_steady (((steady_refl
    _).calm (bankMean_keeps (List.Subset.refl _) (keeps_refl _ _)) (by decide) (by decide)).calm (onBank_keeps (List.Subset.refl _) (keeps_refl _ _))
    (by decide) (by decide)))

theorem opActuatorFire_steady {c : AcNo} : Steady s (opActuatorFire c s) := by
  unfold opActuatorFire
  split
  · exact steady_refl _
  · exact steady_ite (driveDue_steady (steady_refl _)) (steady_refl _)

theorem opActuatorRelease_steady {c : AcNo} : Steady s (opActuatorRelease c s) := by
  unfold opActuatorRelease
  split
  · exact steady_refl _
  · exact steady_ite (driveDue_steady (steady_refl _)) (steady_refl _)

theorem opOpenCoil_steady {c : AcNo} : Steady s (opOpenCoil c s) := by
  unfold opOpenCoil
  split
  · exact steady_refl _
  · exact steady_ite (steady_refl _) (acRelease_steady (raiseDiag_steady (steady_refl _)))

theorem opControlUpdate_steady {c : AcNo} {mA : Nat} {u : Int} {vb mJ : Nat} : Steady s (opControlUpdate c mA u vb mJ s) := by
  unfold opControlUpdate
  refine steady_ite (steady_refl _) ?_
  extract_lets was ph u1 holds n t u2 u3 u4 u5 u6 u7
  have hu1 : Steady s u1 := (steady_refl _).calm (setVboost_keeps (List.Subset.refl _) (keeps_refl _ _)) (by decide) (by decide)
  have hu2 : Steady s u2 := hu1.calm (onCoil_keeps (List.Subset.refl _) (keeps_refl _ _)) (by decide) (by decide)
  have hu3 : Steady s u3 := steady_ite (hu2.calm (takeDropout_keeps (List.Subset.refl _) (keeps_refl _ _)) (by decide) (by decide)) (steady_ite
    (hu2.calm (takeKink_keeps (List.Subset.refl _) (keeps_refl _ _)) (by decide) (by decide)) hu2)
  have hu4 : Steady s u4 := steady_ite (driveDue_steady hu3) hu3
  have hu5 : Steady s u5 := steady_ite (acOrphanRelease_steady hu4) hu4
  have hu6 : Steady s u6 := opBankDeferExpiry_steady hu5
  have hu7 : Steady s u7 := engineUpdate_steady hu6
  exact resumeOther_steady (hu7.calm (endUpdate_keeps (List.Subset.refl _) (keeps_refl _ _)) (by decide) (by decide))

theorem opShortedCoil_steady {c : AcNo} {mA : Nat} : Steady s (opShortedCoil c mA s) := by
  unfold opShortedCoil
  exact steady_ite (steady_refl _) (acRelease_steady (raiseDiag_steady (steady_refl _)))

theorem opBankFault_steady {b : BankNo} {released : Bool} {mA : Nat} : Steady s (opBankFault b released mA s) := by
  unfold opBankFault
  exact steady_ite (steady_refl _) (steady_forEach (fun x t => acRelease_steady ((steady_refl _).calm (onEng_keeps (List.Subset.refl _) (keeps_refl _
    _)) (by decide) (by decide))) (fault_steady (steady_forEach (fun x t => (steady_refl _).calm (onCoil_keeps (List.Subset.refl _) (keeps_refl _ _))
    (by decide) (by decide)) ((steady_refl _).calm (onBank_keeps (List.Subset.refl _) (keeps_refl _ _)) (by decide) (by decide)))))

theorem opDriveCmd_steady {crcOk : Bool} : Steady s (opDriveCmd crcOk s) := by
  unfold opDriveCmd
  split
  next h => exact steady_of_eq h (receiveWord_steady (steady_refl _))
  next h =>
    dsimp only
    split
    · exact ((steady_of_eq h (receiveWord_steady (steady_refl _))).calm (onDrv_keeps (List.Subset.refl _) (keeps_refl _ _)) (by decide) (by
        decide)).calm (driveInvalid_keeps (List.Subset.refl _) (keeps_refl _ _)) (by decide) (by decide)
    · exact steady_ite ((steady_of_eq h (receiveWord_steady (steady_refl _))).calm (onDrv_keeps (List.Subset.refl _) (keeps_refl _ _)) (by decide)
        (by decide)) (steady_ite (islandPlanFault_steady ((steady_of_eq h (receiveWord_steady (steady_refl _))).calm (onDrv_keeps (List.Subset.refl
        _) (keeps_refl _ _)) (by decide) (by decide))) (steady_ite (((steady_of_eq h (receiveWord_steady (steady_refl _))).calm (onDrv_keeps
        (List.Subset.refl _) (keeps_refl _ _)) (by decide) (by decide)).calm (onCoil_keeps (List.Subset.refl _) (keeps_refl _ _)) (by decide) (by
        decide)) (((steady_of_eq h (receiveWord_steady (steady_refl _))).calm (onDrv_keeps (List.Subset.refl _) (keeps_refl _ _)) (by decide) (by
        decide)).calm (driveInvalid_keeps (List.Subset.refl _) (keeps_refl _ _)) (by decide) (by decide))))

theorem opDriveReadRequest_steady {crcOk : Bool} : Steady s (opDriveReadRequest crcOk s) := by
  unfold opDriveReadRequest
  split
  next h => exact steady_of_eq h (receiveWord_steady (steady_refl _))
  next h =>
    dsimp only
    split
    · exact (steady_of_eq h (receiveWord_steady (steady_refl _))).calm (sendWord_keeps (List.Subset.refl _) (keeps_refl _ _)) (by decide) (by decide)
    · exact ((steady_of_eq h (receiveWord_steady (steady_refl _))).calm (sendWord_keeps (List.Subset.refl _) (keeps_refl _ _)) (by decide) (by
        decide)).calm (driveInvalid_keeps (List.Subset.refl _) (keeps_refl _ _)) (by decide) (by decide)

theorem opActuatorOrphanEnter_steady {host : Bool} : Steady s (opActuatorOrphanEnter host s) := by
  unfold opActuatorOrphanEnter
  exact steady_ite (steady_refl _) (acOrphanEvent_steady (steady_refl _))

theorem opAcConfig_steady {r : CmdRef} : Steady s (opAcConfig r s) := by
  unfold opAcConfig
  refine onCommand_steady ?_ (steady_refl _)
  intro c t
  dsimp only
  split
  · exact complete_steady (steady_refl _)
  · refine steady_ite (complete_steady (steady_refl _)) ?_
    split
    · exact complete_steady ((steady_refl _).calm (acDenied_keeps (List.Subset.refl _) (keeps_refl _ _)) (by decide) (by decide))
    · exact steady_ite (complete_steady ((steady_refl _).calm (acDenied_keeps (List.Subset.refl _) (keeps_refl _ _)) (by decide) (by decide)))
        (complete_steady (muteAct_steady ((steady_refl _).calm (onCoil_keeps (List.Subset.refl _) (keeps_refl _ _)) (by decide) (by decide))))

theorem opAcLoadBobbin_steady {r : CmdRef} : Steady s (opAcLoadBobbin r s) := by
  unfold opAcLoadBobbin
  refine onCommand_steady ?_ (steady_refl _)
  intro c t
  refine steady_ite (complete_steady (steady_refl _)) ?_
  refine steady_ite (complete_steady ((steady_refl _).calm (record_keeps (List.Subset.refl _) (keeps_refl _ _)) (by decide) (by decide))) ?_
  refine steady_ite (complete_steady ((steady_refl _).calm (record_keeps (List.Subset.refl _) (keeps_refl _ _)) (by decide) (by decide))) ?_
  refine steady_ite (complete_steady ((steady_refl _).calm (record_keeps (List.Subset.refl _) (keeps_refl _ _)) (by decide) (by decide))) ?_
  split
  · exact complete_steady ((steady_refl _).calm (record_keeps (List.Subset.refl _) (keeps_refl _ _)) (by decide) (by decide))
  · exact complete_steady ((((steady_refl _).calm (writeMem_keeps (List.Subset.refl _) (keeps_refl _ _)) (by decide) (by decide)).calm (onDrv_keeps
      (List.Subset.refl _) (keeps_refl _ _)) (by decide) (by decide)).calm (record_keeps (List.Subset.refl _) (keeps_refl _ _)) (by decide) (by
      decide))

theorem opAcFire_steady {r : CmdRef} : Steady s (opAcFire r s) := by
  unfold opAcFire
  refine onCommand_steady ?_ (steady_refl _)
  intro c t
  dsimp only
  split
  · exact complete_steady (steady_refl _)
  · exact steady_ite (complete_steady (steady_refl _)) (steady_ite (complete_steady (steady_refl _)) (steady_ite (complete_steady (steady_refl _))
      (steady_ite (complete_steady (steady_refl _)) (((steady_refl _).calm (handOver_keeps (List.Subset.refl _) (keeps_refl _ _)) (by decide) (by
      decide)).calm (sendWord_keeps (List.Subset.refl _) (keeps_refl _ _)) (by decide) (by decide)))))

theorem opAcRelease_steady {r : CmdRef} : Steady s (opAcRelease r s) := by
  unfold opAcRelease
  refine onCommand_steady ?_ (steady_refl _)
  intro c t
  dsimp only
  split
  · exact complete_steady (steady_refl _)
  · exact steady_ite (complete_steady (steady_refl _)) (steady_ite (complete_steady (steady_refl _)) (steady_ite (complete_steady (steady_refl _))
      (steady_ite (complete_steady (steady_refl _)) (((steady_refl _).calm (handOver_keeps (List.Subset.refl _) (keeps_refl _ _)) (by decide) (by
      decide)).calm (sendWord_keeps (List.Subset.refl _) (keeps_refl _ _)) (by decide) (by decide)))))

theorem opAcGet_steady {r : CmdRef} : Steady s (opAcGet r s) := by
  unfold opAcGet
  refine onCommand_steady ?_ (steady_refl _)
  intro c t
  dsimp only
  split
  · exact complete_steady (steady_refl _)
  · exact steady_ite (complete_steady (steady_refl _)) (complete_steady (steady_refl _))

theorem opBarrierFrame_steady {raw : BitVec 32} {readback parity : BitVec 16} {fpMv ga gb : Nat} : Steady s (opBarrierFrame raw readback parity fpMv
    ga gb s) := by
  unfold opBarrierFrame
  refine steady_ite (steady_ite ((sideFrame_steady (steady_refl _)).calm (onFld_keeps (List.Subset.refl _) (keeps_refl _ _)) (by decide) (by decide))
    (steady_refl _)) ?_
  refine steady_ite (steady_refl _) ?_
  extract_lets k u u1
  have hu : Steady s u := (steady_refl _).calm (onFld_keeps (List.Subset.refl _) (keeps_refl _ _)) (by decide) (by decide)
  have hu1 : Steady s u1 := steady_ite (sideFrame_steady hu) hu
  exact hu1.calm (composeFrame_keeps (List.Subset.refl _) (keeps_refl _ _)) (by decide) (by decide)

theorem opFieldStop_steady {mv : Nat} : Steady s (opFieldStop mv s) := by
  unfold opFieldStop
  exact steady_ite (steady_refl _) (steady_ite (fieldStop_steady (steady_refl _)) ((steady_refl _).calm (onSide_keeps (List.Subset.refl _)
    (keeps_refl _ _)) (by decide) (by decide)))

theorem opFioSet_steady {r : CmdRef} : Steady s (opFioSet r s) := by
  unfold opFioSet
  exact onCommand_steady (fun c t => steady_ite (complete_steady (steady_refl _)) (steady_ite (complete_steady (steady_refl _)) (steady_ite
    (complete_steady (steady_refl _)) (((steady_refl _).calm (handOver_keeps (List.Subset.refl _) (keeps_refl _ _)) (by decide) (by decide)).calm
    (onFld_keeps (List.Subset.refl _) (keeps_refl _ _)) (by decide) (by decide))))) (steady_refl _)

theorem opFioGet_steady {r : CmdRef} : Steady s (opFioGet r s) := by
  unfold opFioGet
  exact onCommand_steady (fun c t => steady_ite (complete_steady (steady_refl _)) (complete_steady (steady_refl _))) (steady_refl _)

theorem opFioConfig_steady {r : CmdRef} : Steady s (opFioConfig r s) := by
  unfold opFioConfig
  refine onCommand_steady ?_ (steady_refl _)
  intro c t
  refine steady_ite (complete_steady (steady_refl _)) ?_
  split
  next h =>
    exact complete_steady (steady_of_eq2 h ((steady_refl _).calm (fieldConfig_keeps (List.Subset.refl _) (keeps_refl _ _)) (by decide) (by decide)))
  next h =>
    exact (steady_of_eq2 h ((steady_refl _).calm (fieldConfig_keeps (List.Subset.refl _) (keeps_refl _ _)) (by decide) (by decide))).calm
      (handOver_keeps (List.Subset.refl _) (keeps_refl _ _)) (by decide) (by decide)
  next h2 =>
    exact complete_steady (steady_of_eq2 h2 ((steady_refl _).calm (fieldConfig_keeps (List.Subset.refl _) (keeps_refl _ _)) (by decide) (by decide)))

theorem opFieldStale_steady : Steady s (opFieldStale s) := by
  unfold opFieldStale
  exact steady_ite (steady_refl _) (steady_ite (steady_forEach (fun x t => completeId_steady (steady_refl _)) (((steady_refl _).calm (onFld_keeps
    (List.Subset.refl _) (keeps_refl _ _)) (by decide) (by decide)).calm (onSupply_keeps (List.Subset.refl _) (keeps_refl _ _)) (by decide) (by
    decide))) ((steady_forEach (fun x t => completeId_steady (steady_refl _)) (((steady_refl _).calm (onFld_keeps (List.Subset.refl _) (keeps_refl _
    _)) (by decide) (by decide)).calm (onSupply_keeps (List.Subset.refl _) (keeps_refl _ _)) (by decide) (by decide))).calm (record_keeps
    (List.Subset.refl _) (keeps_refl _ _)) (by decide) (by decide)))

theorem opFoOverload_steady {o : Fin 16} : Steady s (opFoOverload o s) := by
  unfold opFoOverload
  exact steady_ite (fault_steady ((steady_refl _).calm (onSide_keeps (List.Subset.refl _) (keeps_refl _ _)) (by decide) (by decide))) (steady_refl _)

theorem opGroupLimit_steady {g : Fin 2} {ma : List Nat} : Steady s (opGroupLimit g ma s) := by
  unfold opGroupLimit
  dsimp only
  split
  · exact steady_ite (steady_refl _) (fault_steady ((steady_refl _).calm (onSide_keeps (List.Subset.refl _) (keeps_refl _ _)) (by decide) (by
      decide)))
  · exact steady_refl _

theorem opFieldDataWord_steady {crcOk : Bool} : Steady s (opFieldDataWord crcOk s) := by
  unfold opFieldDataWord
  dsimp only
  split
  · exact (receiveWord_steady (steady_refl _)).calm (onFld_keeps (List.Subset.refl _) (keeps_refl _ _)) (by decide) (by decide)
  · exact steady_ite (((receiveWord_steady (steady_refl _)).calm (onFld_keeps (List.Subset.refl _) (keeps_refl _ _)) (by decide) (by decide)).calm
      (fieldInvalid_keeps (List.Subset.refl _) (keeps_refl _ _)) (by decide) (by decide)) (steady_ite (((receiveWord_steady (steady_refl _)).calm
      (onFld_keeps (List.Subset.refl _) (keeps_refl _ _)) (by decide) (by decide)).calm (fieldInvalid_keeps (List.Subset.refl _) (keeps_refl _ _))
      (by decide) (by decide)) (((receiveWord_steady (steady_refl _)).calm (onFld_keeps (List.Subset.refl _) (keeps_refl _ _)) (by decide) (by
      decide)).calm (onFld_keeps (List.Subset.refl _) (keeps_refl _ _)) (by decide) (by decide)))

theorem opPacketReceive_steady {via : Via} {p : List Byte} : Steady s (opPacketReceive via p s) := by
  unfold opPacketReceive
  exact receivePacket_steady (steady_refl _)

theorem opCommandBegin_steady {r : CmdRef} : Steady s (opCommandBegin r s) := by
  unfold opCommandBegin
  refine steady_ite (steady_refl _) ?_
  split
  · dsimp only
    split
    · exact steady_refl _
    · exact steady_ite (steady_refl _) (beginCmd_steady ((steady_refl _).calm (onGroup_keeps (List.Subset.refl _) (keeps_refl _ _)) (by decide) (by
        decide)))
  · dsimp only
    split
    · exact steady_refl _
    · exact steady_ite (steady_refl _) (beginCmd_steady ((steady_refl _).calm (onSource_keeps (List.Subset.refl _) (keeps_refl _ _)) (by decide) (by
        decide)))

theorem opSessionTimeout_steady {k : Fin 4} : Steady s (opSessionTimeout k s) := by
  unfold opSessionTimeout
  split
  · exact steady_refl _
  · exact steady_ite (steady_refl _) ((endIdle_steady (steady_refl _)).calm (closeSession_keeps (List.Subset.refl _) (keeps_refl _ _)) (by decide)
      (by decide))

theorem opPing_steady {r : CmdRef} : Steady s (opPing r s) := by
  unfold opPing
  exact onCommand_steady (fun c t => steady_ite (complete_steady (steady_refl _)) (complete_steady (steady_refl _))) (steady_refl _)

theorem opSessionClose_steady {r : CmdRef} : Steady s (opSessionClose r s) := by
  unfold opSessionClose
  refine onCommand_steady ?_ (steady_refl _)
  intro c t
  refine steady_ite (complete_steady (steady_refl _)) ?_
  dsimp only
  split
  · exact (complete_steady (steady_refl _)).calm (closeSession_keeps (List.Subset.refl _) (keeps_refl _ _)) (by decide) (by decide)
  · exact complete_steady (steady_refl _)

theorem opGroupResume_steady {r : CmdRef} : Steady s (opGroupResume r s) := by
  unfold opGroupResume
  refine onCommand_steady ?_ (steady_refl _)
  intro c t
  refine steady_ite (complete_steady (steady_refl _)) ?_
  split
  · exact complete_steady (steady_refl _)
  · exact steady_ite (complete_steady (steady_refl _)) (complete_steady (((steady_refl _).calm (onGroup_keeps (List.Subset.refl _) (keeps_refl _ _))
      (by decide) (by decide)).calm (farResume_keeps (List.Subset.refl _) (keeps_refl _ _)) (by decide) (by decide)))

theorem opGroupAbort_steady {r : CmdRef} : Steady s (opGroupAbort r s) := by
  unfold opGroupAbort
  refine onCommand_steady ?_ (steady_refl _)
  intro c t
  refine steady_ite (complete_steady (steady_refl _)) ?_
  split
  · exact complete_steady (steady_refl _)
  · extract_lets x1 far back again gone nxt u u1 u2 u3
    have hu : Steady t u := steady_forEach (fun x2 t1 => discard_steady (steady_refl _)) (steady_refl _)
    have hu1 : Steady t u1 := hu.calm (onGroup_keeps (List.Subset.refl _) (keeps_refl _ _)) (by decide) (by decide)
    have hu2 : Steady t u2 := hu1.calm (farGone_keeps (List.Subset.refl _) (keeps_refl _ _)) (by decide) (by decide)
    have hu3 : Steady t u3 := steady_ite (hu2.calm (onGroup_keeps (List.Subset.refl _) (keeps_refl _ _)) (by decide) (by decide)) hu2
    exact complete_steady hu3

theorem opFenceCmd_steady {r : CmdRef} : Steady s (opFenceCmd r s) := by
  unfold opFenceCmd
  refine onCommand_steady ?_ (steady_refl _)
  intro c t
  refine steady_ite (complete_steady (steady_refl _)) ?_
  split
  · exact steady_refl _
  · exact steady_ite (complete_steady (steady_refl _)) (steady_refl _)

theorem opInfoCmd_steady {r : CmdRef} : Steady s (opInfoCmd r s) := by
  unfold opInfoCmd
  exact onCommand_steady (fun c t => steady_ite (complete_steady (steady_refl _)) (complete_steady (steady_refl _))) (steady_refl _)

theorem opGetState_steady {r : CmdRef} : Steady s (opGetState r s) := by
  unfold opGetState
  exact onCommand_steady (fun c t => steady_ite (complete_steady (steady_refl _)) (complete_steady (steady_refl _))) (steady_refl _)

theorem opDpOpen_steady {r : CmdRef} : Steady s (opDpOpen r s) := by
  unfold opDpOpen
  refine onCommand_steady ?_ (steady_refl _)
  intro c t
  refine steady_ite (complete_steady (steady_refl _)) ?_
  split
  · exact complete_steady (steady_refl _)
  · exact complete_steady ((steady_refl _).calm (setWindow_keeps (List.Subset.refl _) (keeps_refl _ _)) (by decide) (by decide))

theorem opDpClose_steady {r : CmdRef} : Steady s (opDpClose r s) := by
  unfold opDpClose
  exact onCommand_steady (fun c t => steady_ite (complete_steady (steady_refl _)) (complete_steady ((steady_refl _).calm (setWindow_keeps
    (List.Subset.refl _) (keeps_refl _ _)) (by decide) (by decide)))) (steady_refl _)

theorem opDpCommit_steady {r : CmdRef} : Steady s (opDpCommit r s) := by
  unfold opDpCommit
  refine onCommand_steady ?_ (steady_refl _)
  intro c t
  refine steady_ite (complete_steady (steady_refl _)) ?_
  split
  · exact complete_steady (steady_refl _)
  · split
    · exact complete_steady (steady_refl _)
    · exact steady_ite (complete_steady (steady_refl _)) (complete_steady ((steady_refl _).calm (streamDrop_keeps (List.Subset.refl _) (keeps_refl _
        _)) (by decide) (by decide)))

theorem opDpRead_steady {r : CmdRef} : Steady s (opDpRead r s) := by
  unfold opDpRead
  refine onCommand_steady ?_ (steady_refl _)
  intro c t
  refine steady_ite (complete_steady (steady_refl _)) ?_
  split
  · exact complete_steady (steady_refl _)
  · split
    · exact complete_steady (steady_refl _)
    · split
      next h2 =>
        exact complete_steady ((steady_of_eq h2 (readBurst_steady ((steady_refl _).calm (seek_keeps (List.Subset.refl _) (keeps_refl _ _)) (by
          decide) (by decide)))).calm (advance_keeps (List.Subset.refl _) (keeps_refl _ _)) (by decide) (by decide))

theorem opDpWrite_steady {r : CmdRef} : Steady s (opDpWrite r s) := by
  unfold opDpWrite
  refine onCommand_steady ?_ (steady_refl _)
  intro c t
  refine steady_ite (complete_steady (steady_refl _)) ?_
  split
  · exact complete_steady (steady_refl _)
  · split
    · exact complete_steady (steady_refl _)
    · refine steady_ite (complete_steady ((steady_refl _).calm (seek_keeps (List.Subset.refl _) (keeps_refl _ _)) (by decide) (by decide))) ?_
      refine steady_ite ?_ ?_
      · refine steady_ite (complete_steady ((steady_refl _).calm (seek_keeps (List.Subset.refl _) (keeps_refl _ _)) (by decide) (by decide))) ?_
        split
        next h2 =>
          exact complete_steady ((steady_of_eq2 h2 (writeRegs_steady (access_steady ((steady_refl _).calm (seek_keeps (List.Subset.refl _)
            (keeps_refl _ _)) (by decide) (by decide))))).calm (advance_keeps (List.Subset.refl _) (keeps_refl _ _)) (by decide) (by decide))
      · split
        · exact complete_steady ((steady_refl _).calm (seek_keeps (List.Subset.refl _) (keeps_refl _ _)) (by decide) (by decide))
        · split
          · exact complete_steady ((steady_refl _).calm (seek_keeps (List.Subset.refl _) (keeps_refl _ _)) (by decide) (by decide))
          · exact complete_steady ((storeMem_steady ((steady_refl _).calm (seek_keeps (List.Subset.refl _) (keeps_refl _ _)) (by decide) (by
              decide))).calm (advance_keeps (List.Subset.refl _) (keeps_refl _ _)) (by decide) (by decide))

theorem opSessionOpen_steady {r : CmdRef} : Steady s (opSessionOpen r s) := by
  unfold opSessionOpen
  refine onCommand_steady ?_ (steady_refl _)
  intro c t
  refine steady_ite ?_ ?_
  · split
    next h =>
      exact sessionRefused_steady (steady_of_eq h ((steady_refl _).calm (draw_keeps (List.Subset.refl _) (keeps_refl _ _)) (by decide) (by decide)))
  · refine steady_ite (sessionRefused_steady (steady_refl _)) ?_
    dsimp only
    split
    · exact sessionRefused_steady (steady_refl _)
    · refine steady_ite (sessionRefused_steady (steady_refl _)) ?_
      split
      · exact sessionRefused_steady (steady_refl _)
      · exact claimGroups_steady (complete_steady ((((((steady_refl _).calm (draw_keeps (List.Subset.refl _) (keeps_refl _ _)) (by decide) (by
          decide)).calm (draw_keeps (List.Subset.refl _) (keeps_refl _ _)) (by decide) (by decide)).calm (drawBytes_keeps (List.Subset.refl _)
          (keeps_refl _ _)) (by decide) (by decide)).calm (onCmd_keeps (List.Subset.refl _) (keeps_refl _ _)) (by decide) (by decide)).calm
          (record_keeps (List.Subset.refl _) (keeps_refl _ _)) (by decide) (by decide)))

theorem opUpdateCheck_steady {r : CmdRef} {m : Option Medium} : Steady s (opUpdateCheck r m s) := by
  unfold opUpdateCheck
  exact onCommand_steady (fun c t => steady_ite (steady_refl _) (steady_ite (complete_steady (steady_refl _)) (updateArm_steady (fun t1 =>
    steady_refl _) (steady_refl _)))) (steady_refl _)

theorem opBoot_steady {otpOk : Bool} {flash : Option (List Byte)} {m : Option Medium} : Steady s (opBoot otpOk flash m s) := by
  unfold opBoot
  split
  · exact steady_refl _
  · refine steady_ite (steady_refl _) ?_
    dsimp only
    split
    · exact bootFails_steady (((steady_refl _).calm (claimPending_keeps (List.Subset.refl _) (keeps_refl _ _)) (by decide) (by decide)).calm
        (onId_keeps (List.Subset.refl _) (keeps_refl _ _)) (by decide) (by decide))
    · exact resume_steady (loaderRuns_steady (((steady_refl _).calm (claimPending_keeps (List.Subset.refl _) (keeps_refl _ _)) (by decide) (by
        decide)).calm (onId_keeps (List.Subset.refl _) (keeps_refl _ _)) (by decide) (by decide)))
    · exact steady_ite (bootFails_steady (((steady_refl _).calm (claimPending_keeps (List.Subset.refl _) (keeps_refl _ _)) (by decide) (by
        decide)).calm (onId_keeps (List.Subset.refl _) (keeps_refl _ _)) (by decide) (by decide))) (serve_steady (((((steady_refl _).calm
        (claimPending_keeps (List.Subset.refl _) (keeps_refl _ _)) (by decide) (by decide)).calm (onId_keeps (List.Subset.refl _) (keeps_refl _ _))
        (by decide) (by decide)).calm (onId_keeps (List.Subset.refl _) (keeps_refl _ _)) (by decide) (by decide)).calm (record_keeps
        (List.Subset.refl _) (keeps_refl _ _)) (by decide) (by decide)))

theorem opAttest_steady {r : CmdRef} : Steady s (opAttest r s) := by
  unfold opAttest
  exact onCommand_steady (fun c t => steady_ite (complete_steady (steady_refl _)) (complete_steady (steady_refl _))) (steady_refl _)

theorem opKeyAdd_steady {r : CmdRef} : Steady s (opKeyAdd r s) := by
  unfold opKeyAdd
  refine onCommand_steady ?_ (steady_refl _)
  intro c t
  refine steady_ite (steady_refl _) ?_
  split
  · exact complete_steady (steady_refl _)
  · refine steady_ite (complete_steady (steady_refl _)) ?_
    split
    · exact complete_steady (steady_refl _)
    · exact steady_ite (complete_steady (steady_refl _)) (keyDone_steady ((steady_refl _).calm (onId_keeps (List.Subset.refl _) (keeps_refl _ _)) (by
        decide) (by decide)))

theorem opKeyRemove_steady {r : CmdRef} : Steady s (opKeyRemove r s) := by
  unfold opKeyRemove
  refine onCommand_steady ?_ (steady_refl _)
  intro c t
  refine steady_ite (steady_refl _) ?_
  split
  · exact complete_steady (steady_refl _)
  · exact steady_ite (complete_steady (steady_refl _)) (steady_ite (steady_forEach (fun x1 t1 => (steady_refl _).calm (closeSession_keeps
      (List.Subset.refl _) (keeps_refl _ _)) (by decide) (by decide)) (keyDone_steady ((steady_refl _).calm (onId_keeps (List.Subset.refl _)
      (keeps_refl _ _)) (by decide) (by decide)))) (keyDone_steady ((steady_refl _).calm (onId_keeps (List.Subset.refl _) (keeps_refl _ _)) (by
      decide) (by decide))))

theorem opWeftFloorRaise_steady {r : CmdRef} : Steady s (opWeftFloorRaise r s) := by
  unfold opWeftFloorRaise
  refine onCommand_steady ?_ (steady_refl _)
  intro c t
  refine steady_ite (steady_refl _) ?_
  split
  · exact complete_steady (steady_refl _)
  · exact steady_ite (complete_steady (steady_refl _)) (keyDone_steady ((steady_refl _).calm (onId_keeps (List.Subset.refl _) (keeps_refl _ _)) (by
      decide) (by decide)))

theorem opUpdateArm_steady {r : CmdRef} {m : Option Medium} : Steady s (opUpdateArm r m s) := by
  unfold opUpdateArm
  exact onCommand_steady (fun c t => steady_ite (steady_refl _) (steady_ite (complete_steady (steady_refl _)) (updateArm_steady (fun t1 =>
    (steady_refl _).calm (onId_keeps (List.Subset.refl _) (keeps_refl _ _)) (by decide) (by decide)) (steady_refl _)))) (steady_refl _)

theorem opUpdateStart_safe {m : Option Medium} : Safe s (opUpdateStart m s) := by
  unfold opUpdateStart
  split
  · exact safe_refl _
  · dsimp only
    split
    · exact ((((resetService_safe ((safe_refl _).calm (resetLinks_keeps (List.Subset.refl _) (keeps_refl _ _)) (by decide) (by decide))).steady
        (loaderRuns_steady (steady_refl _))).calm (onId_keeps (List.Subset.refl _) (keeps_refl _ _)) (by decide) (by decide)).calm (record_keeps
        (List.Subset.refl _) (keeps_refl _ _)) (by decide) (by decide)).calm (bootNext_keeps (List.Subset.refl _) (keeps_refl _ _)) (by decide) (by
        decide)
    · split
      · exact ((((resetService_safe ((safe_refl _).calm (resetLinks_keeps (List.Subset.refl _) (keeps_refl _ _)) (by decide) (by decide))).steady
          (loaderRuns_steady (steady_refl _))).calm (onId_keeps (List.Subset.refl _) (keeps_refl _ _)) (by decide) (by decide)).calm (record_keeps
          (List.Subset.refl _) (keeps_refl _ _)) (by decide) (by decide)).calm (bootNext_keeps (List.Subset.refl _) (keeps_refl _ _)) (by decide) (by
          decide)
      · exact ((((resetService_safe ((safe_refl _).calm (resetLinks_keeps (List.Subset.refl _) (keeps_refl _ _)) (by decide) (by decide))).steady
          (loaderRuns_steady (steady_refl _))).calm (onId_keeps (List.Subset.refl _) (keeps_refl _ _)) (by decide) (by decide)).calm (record_keeps
          (List.Subset.refl _) (keeps_refl _ _)) (by decide) (by decide)).calm (onId_keeps (List.Subset.refl _) (keeps_refl _ _)) (by decide) (by
          decide)

theorem opUpdateBlock_steady {m : Option Medium} {flash : Option (List Byte)} : Steady s (opUpdateBlock m flash s) := by
  unfold opUpdateBlock
  split
  · exact steady_refl _
  · refine steady_ite (steady_refl _) ?_
    split
    · exact enterWait_steady (steady_refl _)
    · exact steady_ite (enterWait_steady (steady_refl _)) (steady_ite (updateEnd_steady (steady_refl _)) (steady_ite (enterWait_steady ((steady_refl
        _).calm (record_keeps (List.Subset.refl _) (keeps_refl _ _)) (by decide) (by decide))) (steady_ite (updateEnd_steady ((steady_refl _).calm
        (onId_keeps (List.Subset.refl _) (keeps_refl _ _)) (by decide) (by decide))) ((steady_refl _).calm (onId_keeps (List.Subset.refl _)
        (keeps_refl _ _)) (by decide) (by decide)))))

theorem opMediumPoll_steady {m : Option Medium} : Steady s (opMediumPoll m s) := by
  unfold opMediumPoll
  refine steady_ite (steady_refl _) ?_
  dsimp only
  split
  · exact steady_ite (resume_steady ((steady_refl _).calm (onId_keeps (List.Subset.refl _) (keeps_refl _ _)) (by decide) (by decide))) ((steady_refl
      _).calm (onId_keeps (List.Subset.refl _) (keeps_refl _ _)) (by decide) (by decide))
  · exact (steady_refl _).calm (onId_keeps (List.Subset.refl _) (keeps_refl _ _)) (by decide) (by decide)

theorem opFaultRead_steady {r : CmdRef} : Steady s (opFaultRead r s) := by
  unfold opFaultRead
  exact onCommand_steady (fun c t => steady_ite (complete_steady (steady_refl _)) (complete_steady (steady_refl _))) (steady_refl _)

theorem opQuietPeriodEnd_steady : Steady s (opQuietPeriodEnd s) := by
  unfold opQuietPeriodEnd
  split
  · exact steady_refl _
  · exact steady_ite (steady_refl _) (steady_ite (onFlt_steady id (steady_refl _)) ((onFlt_steady id (steady_refl _)).calm (record_keeps
      (List.Subset.refl _) (keeps_refl _ _)) (by decide) (by decide)))

theorem opPermitExpiry_steady : Steady s (opPermitExpiry s) := by
  unfold opPermitExpiry
  exact steady_ite (steady_refl _) (closeGate_steady (onFlt_steady id (steady_refl _)))

theorem opFaultHandler_steady : Steady s (opFaultHandler s) := by
  unfold opFaultHandler
  refine steady_ite (steady_refl _) ?_
  dsimp only
  split
  · exact onFlt_steady faultsOk_select (steady_refl _)
  · exact handlerStep_steady (onFlt_steady faultsOk_select (steady_refl _))

theorem opFaultReport_safe {crcOk : Bool} : Safe s (opFaultReport crcOk s) := by
  unfold opFaultReport
  split
  · exact safe_refl _
  next w rest _ =>
    extract_lets u
    have hu : Safe s u := onFlt_safe id (safe_refl _)
    refine safe_ite (hu.steady (badFaultWord_steady (steady_refl _))) ?_
    split
    next d t h =>
      have ht : Safe s t := safe_of_eq h (safe_ite_pair hu (hu.steady (faultSeq_steady (steady_refl _))))
      refine safe_ite ht ?_
      split
      next v hv =>
        have hv : Safe s v := safe_of_some hv (ht.steady (enterFault_steady (steady_refl _)))
        exact hv.steady (endIdle_steady (steady_refl _))
      next =>
        have hidle : Safe s t.endIdle := ht.steady (endIdle_steady (steady_refl _))
        exact safe_ite (ht.steady (dropFault_steady (steady_refl _))) (holdReset_safe hidle)

theorem opWatchdog_safe {n : Isl} {ago : Nat} : Safe s (opWatchdog n ago s) := by
  unfold opWatchdog
  exact safe_ite ((onFlt_safe id (resetIsland_safe (safe_refl _))).steady (fault_steady (steady_refl _))) (safe_refl _)

theorem opLoomReset_safe : Safe s (opLoomReset s) := by
  unfold opLoomReset
  exact resetIsland_safe (safe_refl _)

theorem opServiceCoreReset_safe : Safe s (opServiceCoreReset s) := by
  unfold opServiceCoreReset
  exact resetIsland_safe (safe_refl _)

theorem opNetworkReset_safe : Safe s (opNetworkReset s) := by
  unfold opNetworkReset
  exact resetIsland_safe (safe_refl _)

theorem opForceSafeOn_steady : Steady s (opForceSafeOn s) := by
  unfold opForceSafeOn
  refine steady_ite (steady_refl _) ?_
  extract_lets t chans away live u u1 u2 u3
  have hu : Steady s u := onFlt_steady id (steady_refl _)
  have hu1 : Steady s u1 := steady_forEach (fun x t1 => (steady_refl _).calm (toSafe_keeps (List.Subset.refl _) (keeps_refl _ _)) (by decide) (by
    decide)) hu
  have hu2 : Steady s u2 := steady_ite (driveForceSafe_steady hu1) hu1
  have hu3 : Steady s u3 := fault_steady (closeGate_steady hu2)
  exact steady_ite (hu3.calm (moduleWake_keeps (List.Subset.refl _) (keeps_refl _ _)) (by decide) (by decide)) (endIdle_steady hu3)

theorem opForceSafeOff_steady : Steady s (opForceSafeOff s) := by
  unfold opForceSafeOff
  exact steady_ite (steady_refl _) ((onFlt_steady id (steady_refl _)).calm (record_keeps (List.Subset.refl _) (keeps_refl _ _)) (by decide) (by
    decide))

theorem opCanFrameReceive_steady {c : CanNo} {f : CanFrame} {ago sub : Nat} {lost : Option (Fin 5)} : Steady s (opCanFrameReceive c f ago sub lost s)
    := by
  unfold opCanFrameReceive
  refine steady_ite (steady_refl _) ?_
  extract_lets u u1 u2 nm u3 u4 u5
  have hu : Steady s u := (steady_refl _).calm (onCanCh_keeps (List.Subset.refl _) (keeps_refl _ _)) (by decide) (by decide)
  have hu1 : Steady s u1 := by
    unfold u1
    split
    · exact steady_ite (attemptFailed_steady hu) (steady_refl _)
    · exact steady_refl _
  have hu2 : Steady s u2 := hu1.calm (recDown_keeps (List.Subset.refl _) (keeps_refl _ _)) (by decide) (by decide)
  have hu3 : Steady s u3 := hu2.calm (canSync_keeps (List.Subset.refl _) (keeps_refl _ _)) (by decide) (by decide)
  have hu4 : Steady s u4 := steady_ite (hu3.calm (nmReceive_keeps (List.Subset.refl _) (keeps_refl _ _)) (by decide) (by decide)) hu3
  have hu5 : Steady s u5 := steady_ite (receivePacket_steady hu2) (hu4.calm (filterFrame_keeps (List.Subset.refl _) (keeps_refl _ _)) (by decide) (by
    decide))
  exact steady_ite (hu5.calm (nmJudge_keeps (List.Subset.refl _) (keeps_refl _ _)) (by decide) (by decide)) (hu5.calm (busActivity_keeps
    (List.Subset.refl _) (keeps_refl _ _)) (by decide) (by decide))

theorem opCanError_steady {c : CanNo} {kind : Fin 5} {inData : Bool} {buf : Option (Fin 5)} {dataField heavy : Bool} {ago : Nat} {tdcv : Option Nat}
    : Steady s (opCanError c kind inData buf dataField heavy ago tdcv s) := by
  unfold opCanError
  refine steady_ite (steady_refl _) ?_
  split
  · exact ((steady_refl _).calm (onCanCh_keeps (List.Subset.refl _) (keeps_refl _ _)) (by decide) (by decide)).calm (busActivity_keeps
      (List.Subset.refl _) (keeps_refl _ _)) (by decide) (by decide)
  · exact steady_ite (steady_refl _) ((attemptFailed_steady (((steady_refl _).calm (onCanCh_keeps (List.Subset.refl _) (keeps_refl _ _)) (by decide)
      (by decide)).calm (onCanCh_keeps (List.Subset.refl _) (keeps_refl _ _)) (by decide) (by decide))).calm (busActivity_keeps (List.Subset.refl _)
      (keeps_refl _ _)) (by decide) (by decide))

theorem opCanTxComplete_steady {c : CanNo} {b : Fin 5} {ago tdcv : Nat} : Steady s (opCanTxComplete c b ago tdcv s) := by
  unfold opCanTxComplete
  dsimp only
  split
  · exact (steady_refl _).calm (onCanCh_keeps (List.Subset.refl _) (keeps_refl _ _)) (by decide) (by decide)
  · refine steady_ite ((steady_refl _).calm (onCanCh_keeps (List.Subset.refl _) (keeps_refl _ _)) (by decide) (by decide)) ?_
    refine Steady.calm ?_ (nmJudge_keeps (List.Subset.refl _) (keeps_refl _ _)) (by decide) (by decide)
    split
    · exact steady_ite ((((((steady_refl _).calm (onCanCh_keeps (List.Subset.refl _) (keeps_refl _ _)) (by decide) (by decide)).calm (send_keeps
        (List.Subset.refl _) (keeps_refl _ _)) (by decide) (by decide)).calm (onCanCh_keeps (List.Subset.refl _) (keeps_refl _ _)) (by decide) (by
        decide)).calm (onCanCh_keeps (List.Subset.refl _) (keeps_refl _ _)) (by decide) (by decide)).calm (onNmCh_keeps (List.Subset.refl _)
        (keeps_refl _ _)) (by decide) (by decide)) (((((steady_refl _).calm (onCanCh_keeps (List.Subset.refl _) (keeps_refl _ _)) (by decide) (by
        decide)).calm (send_keeps (List.Subset.refl _) (keeps_refl _ _)) (by decide) (by decide)).calm (onCanCh_keeps (List.Subset.refl _)
        (keeps_refl _ _)) (by decide) (by decide)).calm (onCanCh_keeps (List.Subset.refl _) (keeps_refl _ _)) (by decide) (by decide))
    · exact completeId_steady (steady_ite ((((((steady_refl _).calm (onCanCh_keeps (List.Subset.refl _) (keeps_refl _ _)) (by decide) (by
        decide)).calm (send_keeps (List.Subset.refl _) (keeps_refl _ _)) (by decide) (by decide)).calm (onCanCh_keeps (List.Subset.refl _)
        (keeps_refl _ _)) (by decide) (by decide)).calm (onCanCh_keeps (List.Subset.refl _) (keeps_refl _ _)) (by decide) (by decide)).calm
        (onNmCh_keeps (List.Subset.refl _) (keeps_refl _ _)) (by decide) (by decide)) (((((steady_refl _).calm (onCanCh_keeps (List.Subset.refl _)
        (keeps_refl _ _)) (by decide) (by decide)).calm (send_keeps (List.Subset.refl _) (keeps_refl _ _)) (by decide) (by decide)).calm
        (onCanCh_keeps (List.Subset.refl _) (keeps_refl _ _)) (by decide) (by decide)).calm (onCanCh_keeps (List.Subset.refl _) (keeps_refl _ _)) (by
        decide) (by decide)))

theorem opCanAbort_steady {c : CanNo} {b : Fin 3} : Steady s (opCanAbort c b s) := by
  unfold opCanAbort
  exact steady_ite ((emptyBuf_steady (steady_refl _)).calm (nmJudge_keeps (List.Subset.refl _) (keeps_refl _ _)) (by decide) (by decide))
    (steady_refl _)

theorem opCanConfig_steady {r : CmdRef} : Steady s (opCanConfig r s) := by
  unfold opCanConfig
  refine onCommand_steady ?_ (steady_refl _)
  intro c t
  dsimp only
  split
  · exact complete_steady (steady_refl _)
  · exact steady_ite (complete_steady (steady_refl _)) (steady_ite (complete_steady ((steady_refl _).calm (onCanCh_keeps (List.Subset.refl _)
      (keeps_refl _ _)) (by decide) (by decide))) (steady_ite (complete_steady (steady_refl _)) (complete_steady ((setCtrl_steady ((steady_refl
      _).calm (onCanCh_keeps (List.Subset.refl _) (keeps_refl _ _)) (by decide) (by decide))).calm (nmJudge_keeps (List.Subset.refl _) (keeps_refl _
      _)) (by decide) (by decide)))))

theorem opErrorPassive_steady {c : CanNo} : Steady s (opErrorPassive c s) := by
  unfold opErrorPassive
  exact steady_ite (fault_steady ((steady_refl _).calm (onCanCh_keeps (List.Subset.refl _) (keeps_refl _ _)) (by decide) (by decide))) (steady_refl _)

theorem opBusOff_steady {c : CanNo} : Steady s (opBusOff c s) := by
  unfold opBusOff
  exact steady_ite (fault_steady ((steady_refl _).calm (onCanCh_keeps (List.Subset.refl _) (keeps_refl _ _)) (by decide) (by decide))) (steady_refl _)

theorem opIdclash_steady {c : CanNo} {b : Fin 5} : Steady s (opIdclash c b s) := by
  unfold opIdclash
  dsimp only
  split
  · exact fault_steady ((steady_refl _).calm (onCanCh_keeps (List.Subset.refl _) (keeps_refl _ _)) (by decide) (by decide))
  · exact steady_refl _

theorem opCanFilter_steady {r : CmdRef} : Steady s (opCanFilter r s) := by
  unfold opCanFilter
  refine onCommand_steady ?_ (steady_refl _)
  intro c t
  dsimp only
  split
  · exact complete_steady (steady_refl _)
  · exact steady_ite (complete_steady (steady_refl _)) (complete_steady ((steady_refl _).calm (onCanCh_keeps (List.Subset.refl _) (keeps_refl _ _))
      (by decide) (by decide)))

theorem opCanStatus_steady {r : CmdRef} : Steady s (opCanStatus r s) := by
  unfold opCanStatus
  refine onCommand_steady ?_ (steady_refl _)
  intro c t
  dsimp only
  split
  · exact complete_steady (steady_refl _)
  · exact steady_ite (complete_steady (steady_refl _)) (complete_steady (steady_refl _))

theorem opCanSend_steady {r : CmdRef} : Steady s (opCanSend r s) := by
  unfold opCanSend
  refine onCommand_steady ?_ (steady_refl _)
  intro c t
  dsimp only
  split
  · exact complete_steady (steady_refl _)
  · exact steady_dite (fun h1 => steady_ite (complete_steady (steady_refl _)) (steady_ite (complete_steady (steady_refl _)) (steady_ite
      (complete_steady ((steady_refl _).calm (draw_keeps (List.Subset.refl _) (keeps_refl _ _)) (by decide) (by decide))) (steady_ite
      (complete_steady (steady_refl _)) ((((steady_refl _).calm (onCanCh_keeps (List.Subset.refl _) (keeps_refl _ _)) (by decide) (by decide)).calm
      (handOver_keeps (List.Subset.refl _) (keeps_refl _ _)) (by decide) (by decide)).calm (nmJudge_keeps (List.Subset.refl _) (keeps_refl _ _)) (by
      decide) (by decide)))))) (fun h1 => complete_steady (steady_refl _))

theorem opCanPeek_steady {crcOk : Bool} : Steady s (opCanPeek crcOk s) := by
  unfold opCanPeek
  refine steady_ite (steady_refl _) ?_
  split
  next h => exact steady_of_eq h (receiveWord_steady (steady_refl _))
  next h =>
    dsimp only
    split
    · exact (steady_of_eq h (receiveWord_steady (steady_refl _))).calm (badRequest_keeps (List.Subset.refl _) (keeps_refl _ _)) (by decide) (by
        decide)
    · refine steady_ite ((steady_of_eq h (receiveWord_steady (steady_refl _))).calm (badRequest_keeps (List.Subset.refl _) (keeps_refl _ _)) (by
        decide) (by decide)) ?_
      split
      · exact (steady_of_eq h (receiveWord_steady (steady_refl _))).calm (answer_keeps (List.Subset.refl _) (keeps_refl _ _)) (by decide) (by decide)
      · exact steady_forEach (fun x3 t1 => (steady_refl _).calm (answer_keeps (List.Subset.refl _) (keeps_refl _ _)) (by decide) (by decide))
          ((steady_of_eq h (receiveWord_steady (steady_refl _))).calm (answer_keeps (List.Subset.refl _) (keeps_refl _ _)) (by decide) (by decide))

theorem opCanStatusRequest_steady {crcOk : Bool} : Steady s (opCanStatusRequest crcOk s) := by
  unfold opCanStatusRequest
  refine steady_ite (steady_refl _) ?_
  split
  next h => exact steady_of_eq h (receiveWord_steady (steady_refl _))
  next h =>
    split
    · exact (steady_of_eq h (receiveWord_steady (steady_refl _))).calm (badRequest_keeps (List.Subset.refl _) (keeps_refl _ _)) (by decide) (by
        decide)
    · split
      next h2 =>
        exact (steady_of_eq h2 ((steady_of_eq h (receiveWord_steady (steady_refl _))).calm (draw_keeps (List.Subset.refl _) (keeps_refl _ _)) (by
          decide) (by decide))).calm (answer_keeps (List.Subset.refl _) (keeps_refl _ _)) (by decide) (by decide)

theorem opCanCommit_steady {crcOk : Bool} : Steady s (opCanCommit crcOk s) := by
  unfold opCanCommit
  refine steady_ite (steady_refl _) ?_
  split
  next h => exact steady_of_eq h (receiveWord_steady (steady_refl _))
  next h =>
    dsimp only
    split
    · exact (steady_of_eq h (receiveWord_steady (steady_refl _))).calm (badRequest_keeps (List.Subset.refl _) (keeps_refl _ _)) (by decide) (by
        decide)
    · exact steady_ite ((steady_of_eq h (receiveWord_steady (steady_refl _))).calm (badRequest_keeps (List.Subset.refl _) (keeps_refl _ _)) (by
        decide) (by decide)) (((steady_of_eq h (receiveWord_steady (steady_refl _))).calm (dropItems_keeps (List.Subset.refl _) (keeps_refl _ _)) (by
        decide) (by decide)).calm (answer_keeps (List.Subset.refl _) (keeps_refl _ _)) (by decide) (by decide))

theorem opNetworkCmdInvalid_steady {crcOk : Bool} : Steady s (opNetworkCmdInvalid crcOk s) := by
  unfold opNetworkCmdInvalid
  split
  · exact steady_refl _
  · refine steady_ite (steady_refl _) ?_
    split
    next h1 => exact steady_of_eq h1 (receiveWord_steady (steady_refl _))
    next h1 =>
      extract_lets u
      have hu : Steady s u := by
        unfold u
        split
        · exact ((steady_of_eq h1 (receiveWord_steady (steady_refl _))).calm (asmEnd_keeps (List.Subset.refl _) (keeps_refl _ _)) (by decide) (by
            decide)).calm (badRequest_keeps (List.Subset.refl _) (keeps_refl _ _)) (by decide) (by decide)
        · exact steady_of_eq h1 (receiveWord_steady (steady_refl _))
      exact hu.calm (planRecord_keeps (List.Subset.refl _) (keeps_refl _ _)) (by decide) (by decide)

theorem opCanTx_steady {crcOk : Bool} : Steady s (opCanTx crcOk s) := by
  unfold opCanTx
  split
  · refine steady_ite (steady_refl _) ?_
    split
    next h1 => exact steady_of_eq h1 (receiveWord_steady (steady_refl _))
    next h1 =>
      exact steady_ite ((steady_of_eq h1 (receiveWord_steady (steady_refl _))).calm (txDone_keeps (List.Subset.refl _) (keeps_refl _ _)) (by decide)
        (by decide)) ((steady_of_eq h1 (receiveWord_steady (steady_refl _))).calm (onCan_keeps (List.Subset.refl _) (keeps_refl _ _)) (by decide) (by
        decide))
  · dsimp only
    split
    next h1 => exact steady_of_eq h1 (receiveWord_steady (steady_refl _))
    next h1 =>
      exact steady_ite (((steady_of_eq h1 (receiveWord_steady (steady_refl _))).calm (asmEnd_keeps (List.Subset.refl _) (keeps_refl _ _)) (by decide)
        (by decide)).calm (badRequest_keeps (List.Subset.refl _) (keeps_refl _ _)) (by decide) (by decide)) (steady_ite (((steady_of_eq h1
        (receiveWord_steady (steady_refl _))).calm (asmEnd_keeps (List.Subset.refl _) (keeps_refl _ _)) (by decide) (by decide)).calm (txDone_keeps
        (List.Subset.refl _) (keeps_refl _ _)) (by decide) (by decide)) ((steady_of_eq h1 (receiveWord_steady (steady_refl _))).calm (onCan_keeps
        (List.Subset.refl _) (keeps_refl _ _)) (by decide) (by decide)))

theorem opMaxAwake_steady {c : CanNo} : Steady s (opMaxAwake c s) := by
  unfold opMaxAwake
  split
  · exact steady_refl _
  · exact steady_ite (steady_refl _) (fault_steady (((steady_refl _).calm (onNm_keeps (List.Subset.refl _) (keeps_refl _ _)) (by decide) (by
      decide)).calm (nmEval_keeps (List.Subset.refl _) (keeps_refl _ _)) (by decide) (by decide)))

theorem opNmConfig_steady {r : CmdRef} : Steady s (opNmConfig r s) := by
  unfold opNmConfig
  exact onCommand_steady (fun c t => steady_ite (complete_steady (steady_refl _)) (steady_ite (steady_ite (complete_steady (steady_refl _))
    (steady_ite (complete_steady ((steady_refl _).calm (onNm_keeps (List.Subset.refl _) (keeps_refl _ _)) (by decide) (by decide))) (steady_ite
    (complete_steady (steady_refl _)) (complete_steady ((steady_refl _).calm (setNmCfg_keeps (List.Subset.refl _) (keeps_refl _ _)) (by decide) (by
    decide)))))) (steady_dite (fun h => steady_ite (complete_steady (steady_refl _)) (complete_steady ((steady_refl _).calm (onNm_keeps
    (List.Subset.refl _) (keeps_refl _ _)) (by decide) (by decide)))) (fun h => complete_steady (steady_refl _))))) (steady_refl _)

theorem opNmRequest_steady {r : CmdRef} : Steady s (opNmRequest r s) := by
  unfold opNmRequest
  exact nmAction_steady (steady_refl _)

theorem opNmRequestRepeat_steady {r : CmdRef} : Steady s (opNmRequestRepeat r s) := by
  unfold opNmRequestRepeat
  exact nmAction_steady (steady_refl _)

theorem opNmRelease_steady {r : CmdRef} : Steady s (opNmRelease r s) := by
  unfold opNmRelease
  exact nmAction_steady (steady_refl _)

theorem opEthFrameReceive_steady {p : PortNo} {frame : List Byte} : Steady s (opEthFrameReceive p frame s) := by
  unfold opEthFrameReceive
  exact steady_ite (steady_refl _) (steady_ite ((steady_refl _).calm (rxError_keeps (List.Subset.refl _) (keeps_refl _ _)) (by decide) (by decide))
    (steady_ite (steady_ite (((steady_refl _).calm (onEth_keeps (List.Subset.refl _) (keeps_refl _ _)) (by decide) (by decide)).calm
    (ptpReceive_keeps (List.Subset.refl _) (keeps_refl _ _)) (by decide) (by decide)) ((steady_refl _).calm (onEth_keeps (List.Subset.refl _)
    (keeps_refl _ _)) (by decide) (by decide))) (drainEth_steady (((steady_refl _).calm (onEth_keeps (List.Subset.refl _) (keeps_refl _ _)) (by
    decide) (by decide)).calm (switch_keeps (List.Subset.refl _) (keeps_refl _ _)) (by decide) (by decide)))))

theorem opIpAddress_steady {grant : Option Lease} {other : Option Nat} : Steady s (opIpAddress grant other s) := by
  unfold opIpAddress
  refine steady_ite (steady_refl _) ?_
  split
  · refine steady_ite (steady_refl _) ?_
    dsimp only
    split
    · exact ipConflict_steady (serviceActive_steady ((steady_refl _).calm (arpOut_keeps (List.Subset.refl _) (keeps_refl _ _)) (by decide) (by
        decide)))
    · exact ((steady_refl _).calm (arpOut_keeps (List.Subset.refl _) (keeps_refl _ _)) (by decide) (by decide)).calm (assign_keeps (List.Subset.refl
        _) (keeps_refl _ _)) (by decide) (by decide)
  · refine steady_ite (steady_refl _) ?_
    dsimp only
    split
    · exact (ipConflict_steady ((((serviceActive_steady (steady_refl _)).calm (send_keeps (List.Subset.refl _) (keeps_refl _ _)) (by decide) (by
        decide)).calm (send_keeps (List.Subset.refl _) (keeps_refl _ _)) (by decide) (by decide)).calm (arpOut_keeps (List.Subset.refl _) (keeps_refl
        _ _)) (by decide) (by decide))).calm (send_keeps (List.Subset.refl _) (keeps_refl _ _)) (by decide) (by decide)
    · exact ((((serviceActive_steady (steady_refl _)).calm (send_keeps (List.Subset.refl _) (keeps_refl _ _)) (by decide) (by decide)).calm
        (send_keeps (List.Subset.refl _) (keeps_refl _ _)) (by decide) (by decide)).calm (arpOut_keeps (List.Subset.refl _) (keeps_refl _ _)) (by
        decide) (by decide)).calm (assign_keeps (List.Subset.refl _) (keeps_refl _ _)) (by decide) (by decide)

theorem opDhcpRenewal_steady {extends_ other : Option Nat} : Steady s (opDhcpRenewal extends_ other s) := by
  unfold opDhcpRenewal
  refine steady_ite (steady_refl _) ?_
  extract_lets u now u1
  have hu : Steady s u := (serviceActive_steady (steady_refl _)).calm (send_keeps (List.Subset.refl _) (keeps_refl _ _)) (by decide) (by decide)
  have hu1 : Steady s u1 := by
    unfold u1
    split
    · exact hu.calm (onEth_keeps (List.Subset.refl _) (keeps_refl _ _)) (by decide) (by decide)
    · exact hu.calm (onEth_keeps (List.Subset.refl _) (keeps_refl _ _)) (by decide) (by decide)
  split
  · exact ((ipConflict_steady hu1).calm (send_keeps (List.Subset.refl _) (keeps_refl _ _)) (by decide) (by decide)).calm (dropAddress_keeps
      (List.Subset.refl _) (keeps_refl _ _)) (by decide) (by decide)
  · exact hu1

theorem opDhcpLeaseLost_steady {other : Option Nat} : Steady s (opDhcpLeaseLost other s) := by
  unfold opDhcpLeaseLost
  refine steady_ite (steady_refl _) ?_
  split
  · exact ((ipConflict_steady (serviceActive_steady (steady_refl _))).calm (send_keeps (List.Subset.refl _) (keeps_refl _ _)) (by decide) (by
      decide)).calm (dropAddress_keeps (List.Subset.refl _) (keeps_refl _ _)) (by decide) (by decide)
  · exact steady_ite (steady_refl _) ((steady_refl _).calm (dropAddress_keeps (List.Subset.refl _) (keeps_refl _ _)) (by decide) (by decide))

theorem opModbusFrameReceive_steady {p : FarNo} {frame : List Byte} {charError : Bool} : Steady s (opModbusFrameReceive p frame charError s) := by
  unfold opModbusFrameReceive
  refine steady_ite (steady_refl _) ?_
  dsimp only
  split
  · exact ((steady_refl _).calm (onFarPort_keeps (List.Subset.refl _) (keeps_refl _ _)) (by decide) (by decide)).calm (stray_keeps (List.Subset.refl
      _) (keeps_refl _ _)) (by decide) (by decide)
  · exact steady_ite (((steady_refl _).calm (onFarPort_keeps (List.Subset.refl _) (keeps_refl _ _)) (by decide) (by decide)).calm (onFarPort_keeps
      (List.Subset.refl _) (keeps_refl _ _)) (by decide) (by decide)) (steady_ite (((steady_refl _).calm (onFarPort_keeps (List.Subset.refl _)
      (keeps_refl _ _)) (by decide) (by decide)).calm (stray_keeps (List.Subset.refl _) (keeps_refl _ _)) (by decide) (by decide)) (steady_ite
      (farEnd_steady ((((steady_refl _).calm (onFarPort_keeps (List.Subset.refl _) (keeps_refl _ _)) (by decide) (by decide)).calm (onFarPort_keeps
      (List.Subset.refl _) (keeps_refl _ _)) (by decide) (by decide)).calm (onFarPort_keeps (List.Subset.refl _) (keeps_refl _ _)) (by decide) (by
      decide))) (steady_ite (farEnd_steady (((steady_refl _).calm (onFarPort_keeps (List.Subset.refl _) (keeps_refl _ _)) (by decide) (by
      decide)).calm (onFarPort_keeps (List.Subset.refl _) (keeps_refl _ _)) (by decide) (by decide))) (farEnd_steady (((steady_refl _).calm
      (onFarPort_keeps (List.Subset.refl _) (keeps_refl _ _)) (by decide) (by decide)).calm (onFarPort_keeps (List.Subset.refl _) (keeps_refl _ _))
      (by decide) (by decide))))))

theorem opFarTimeout_steady {p : FarNo} : Steady s (opFarTimeout p s) := by
  unfold opFarTimeout
  dsimp only
  split
  · exact steady_refl _
  · exact steady_ite (steady_refl _) (steady_ite (((steady_refl _).calm (onFarPort_keeps (List.Subset.refl _) (keeps_refl _ _)) (by decide) (by
      decide)).calm (farSend_keeps (List.Subset.refl _) (keeps_refl _ _)) (by decide) (by decide)) (farEnd_steady ((steady_refl _).calm
      (onFarPort_keeps (List.Subset.refl _) (keeps_refl _ _)) (by decide) (by decide))))

theorem opFarTurnaroundEnd_steady {p : FarNo} : Steady s (opFarTurnaroundEnd p s) := by
  unfold opFarTurnaroundEnd
  split
  · exact steady_refl _
  · exact steady_ite (steady_refl _) (farEnd_steady ((steady_refl _).calm (onFarPort_keeps (List.Subset.refl _) (keeps_refl _ _)) (by decide) (by
      decide)))

theorem opHeddleWaitExpiry_steady {p : FarNo} : Steady s (opHeddleWaitExpiry p s) := by
  unfold opHeddleWaitExpiry
  dsimp only
  split
  · exact steady_refl _
  · exact farEnd_steady ((steady_refl _).calm (onFarPort_keeps (List.Subset.refl _) (keeps_refl _ _)) (by decide) (by decide))

theorem opLockExpired_steady {p : FarNo} : Steady s (opLockExpired p s) := by
  unfold opLockExpired
  dsimp only
  split
  · exact steady_refl _
  · exact steady_ite (steady_refl _) (fault_steady ((steady_refl _).calm (onFarPort_keeps (List.Subset.refl _) (keeps_refl _ _)) (by decide) (by
      decide)))

theorem opFarRead_steady {r : CmdRef} : Steady s (opFarRead r s) := by
  unfold opFarRead
  refine onCommand_steady ?_ (steady_refl _)
  intro c t
  split
  · exact complete_steady (steady_refl _)
  · refine steady_ite (complete_steady (steady_refl _)) ?_
    refine steady_ite (complete_steady (steady_refl _)) ?_
    refine steady_ite (complete_steady (steady_refl _)) ?_
    refine steady_ite (steady_refl _) ?_
    extract_lets f f1 u
    have hu : Steady t u := steady_ite ((steady_refl _).calm (onFarPort_keeps (List.Subset.refl _) (keeps_refl _ _)) (by decide) (by decide))
      (steady_refl _)
    exact (hu.calm (handOver_keeps (List.Subset.refl _) (keeps_refl _ _)) (by decide) (by decide)).calm (farEnter_keeps (List.Subset.refl _)
      (keeps_refl _ _)) (by decide) (by decide)

theorem opFarWrite_steady {r : CmdRef} : Steady s (opFarWrite r s) := by
  unfold opFarWrite
  refine onCommand_steady ?_ (steady_refl _)
  intro c t
  split
  · exact complete_steady (steady_refl _)
  · exact steady_ite (complete_steady (steady_refl _)) (steady_ite (complete_steady (steady_refl _)) (steady_ite (steady_refl _) (((steady_refl
      _).calm (handOver_keeps (List.Subset.refl _) (keeps_refl _ _)) (by decide) (by decide)).calm (farEnter_keeps (List.Subset.refl _) (keeps_refl _
      _)) (by decide) (by decide))))

theorem opFarLock_steady {r : CmdRef} : Steady s (opFarLock r s) := by
  unfold opFarLock
  refine onCommand_steady ?_ (steady_refl _)
  intro c t
  split
  · exact complete_steady (steady_refl _)
  · exact steady_ite (complete_steady (steady_refl _)) (steady_ite (steady_ite (complete_steady (steady_refl _)) (complete_steady ((steady_refl
      _).calm (onFarPort_keeps (List.Subset.refl _) (keeps_refl _ _)) (by decide) (by decide)))) (steady_ite (steady_refl _) (((steady_refl _).calm
      (handOver_keeps (List.Subset.refl _) (keeps_refl _ _)) (by decide) (by decide)).calm (farEnter_keeps (List.Subset.refl _) (keeps_refl _ _)) (by
      decide) (by decide))))

theorem opFarUnlock_steady {r : CmdRef} : Steady s (opFarUnlock r s) := by
  unfold opFarUnlock
  refine onCommand_steady ?_ (steady_refl _)
  intro c t
  split
  · exact complete_steady (steady_refl _)
  · refine steady_ite (complete_steady (steady_refl _)) ?_
    split
    · exact complete_steady (steady_refl _)
    · exact steady_ite (complete_steady (steady_refl _)) (steady_ite (complete_steady ((steady_refl _).calm (onFarPort_keeps (List.Subset.refl _)
        (keeps_refl _ _)) (by decide) (by decide))) (steady_ite (steady_refl _) (((steady_refl _).calm (handOver_keeps (List.Subset.refl _)
        (keeps_refl _ _)) (by decide) (by decide)).calm (farEnter_keeps (List.Subset.refl _) (keeps_refl _ _)) (by decide) (by decide))))

theorem opTwinLinkUp_steady : Steady s (opTwinLinkUp s) := by
  unfold opTwinLinkUp
  exact steady_ite (steady_refl _) (steady_ite (startPairing_steady (onTwin_steady (by rfl) (steady_refl _))) (onTwin_steady (by rfl) (steady_refl
    _)))

theorem opPairingRetry_steady : Steady s (opPairingRetry s) := by
  unfold opPairingRetry
  split
  · exact steady_refl _
  · exact steady_ite (steady_refl _) (startPairing_steady (steady_refl _))

theorem opTwinLinkDown_steady {detached : Bool} : Steady s (opTwinLinkDown detached s) := by
  unfold opTwinLinkDown
  exact steady_ite (steady_refl _) (linkGone_steady (steady_refl _))

theorem opTwinRetransmit_steady {seq : Nat} : Steady s (opTwinRetransmit seq s) := by
  unfold opTwinRetransmit
  split
  · exact steady_refl _
  · exact steady_ite (steady_refl _) (steady_ite (linkGone_steady (steady_refl _)) (onTwin_steady (by rfl) ((steady_refl _).calm (send_keeps
      (List.Subset.refl _) (keeps_refl _ _)) (by decide) (by decide))))

theorem opMirrorAckTimeout_steady : Steady s (opMirrorAckTimeout s) := by
  unfold opMirrorAckTimeout
  exact steady_ite (linkGone_steady (steady_refl _)) (steady_refl _)

theorem opTwinHello_steady {f : List Byte} : Steady s (opTwinHello f s) := by
  unfold opTwinHello
  split
  next h => exact steady_of_eq h (twinTake_steady (steady_refl _))
  next h =>
    refine steady_ite (twinAnswer_steady (steady_of_eq h (twinTake_steady (steady_refl _)))) ?_
    extract_lets u h1 u1
    have hu : Steady s u := steady_ite (startPairing_steady (twinAnswer_steady (steady_of_eq h (twinTake_steady (steady_refl _)))))
      (twinAnswer_steady (steady_of_eq h (twinTake_steady (steady_refl _))))
    have hu1 : Steady s u1 := onTwin_steady (by rfl) hu
    split
    · exact refusePairing_steady hu1
    · exact twinFrame_steady (onTwin_steady (by rfl) hu1)

theorem opTwinAttest_safe {f : List Byte} : Safe s (opTwinAttest f s) := by
  unfold opTwinAttest
  split
  next h => exact safe_of_eq h ((safe_refl _).steady (twinTake_steady (steady_refl _)))
  next h =>
    dsimp only
    split
    · exact (safe_of_eq h ((safe_refl _).steady (twinTake_steady (steady_refl _)))).steady (twinAnswer_steady (steady_refl _))
    · exact safe_ite ((safe_of_eq h ((safe_refl _).steady (twinTake_steady (steady_refl _)))).steady (twinAnswer_steady (steady_refl _))) (safe_ite
        (((safe_of_eq h ((safe_refl _).steady (twinTake_steady (steady_refl _)))).steady (twinAnswer_steady (steady_refl _))).steady
        (refusePairing_steady (steady_refl _))) (safe_ite (leadPairing_safe (onTwin_safe id ((safe_of_eq h ((safe_refl _).steady (twinTake_steady
        (steady_refl _)))).steady (twinAnswer_steady (steady_refl _))))) (onTwin_safe id ((safe_of_eq h ((safe_refl _).steady (twinTake_steady
        (steady_refl _)))).steady (twinAnswer_steady (steady_refl _))))))

theorem opTwinPaired_safe {f : List Byte} : Safe s (opTwinPaired f s) := by
  unfold opTwinPaired
  split
  next h => exact safe_of_eq h ((safe_refl _).steady (twinTake_steady (steady_refl _)))
  next h =>
    exact safe_ite (((safe_of_eq h ((safe_refl _).steady (twinTake_steady (steady_refl _)))).steady (handoverFrame_steady (steady_refl _))).steady
      (twinAnswer_steady (steady_refl _))) (((onTwin_safe (fun _ => twinOk_of_released rfl) ((safe_of_eq h ((safe_refl _).steady (twinTake_steady
      (steady_refl _)))).steady (twinAnswer_steady (steady_refl _)))).steady (dropShared_steady (steady_refl _))).calm (roleChanged_keeps
      (List.Subset.refl _) (keeps_refl _ _)) (by decide) (by decide))

theorem opTwinWeft_steady {f : List Byte} {leadRuns : Bool} : Steady s (opTwinWeft f leadRuns s) := by
  unfold opTwinWeft
  split
  next h => exact steady_of_eq h (twinTake_steady (steady_refl _))
  next h =>
    refine steady_ite (twinAnswer_steady (steady_of_eq h (twinTake_steady (steady_refl _)))) ?_
    refine steady_ite (twinAnswer_steady (onTwin_steady (by rfl) (steady_of_eq h (twinTake_steady (steady_refl _))))) ?_
    dsimp only
    split
    · exact steady_ite (refusePairing_steady (twinAnswer_steady (handoverFrame_steady (((onTwin_steady (by rfl) (steady_of_eq h (twinTake_steady
        (steady_refl _)))).calm (detailOf_keeps (List.Subset.refl _) (keeps_refl _ _)) (by decide) (by decide)).calm (record_keeps (List.Subset.refl
        _) (keeps_refl _ _)) (by decide) (by decide))))) (twinAnswer_steady (handoverFrame_steady (((onTwin_steady (by rfl) (steady_of_eq h
        (twinTake_steady (steady_refl _)))).calm (detailOf_keeps (List.Subset.refl _) (keeps_refl _ _)) (by decide) (by decide)).calm (record_keeps
        (List.Subset.refl _) (keeps_refl _ _)) (by decide) (by decide))))
    · exact steady_ite ((twinAnswer_steady (installWeft_steady (onTwin_steady (by rfl) (steady_of_eq h (twinTake_steady (steady_refl _)))))).calm
        (beginStart_keeps (List.Subset.refl _) (keeps_refl _ _)) (by decide) (by decide)) (twinAnswer_steady (installWeft_steady (onTwin_steady (by
        rfl) (steady_of_eq h (twinTake_steady (steady_refl _))))))

theorem opTwinHeartbeat_steady {f : List Byte} {ofs : Int} : Steady s (opTwinHeartbeat f ofs s) := by
  unfold opTwinHeartbeat
  split
  next h => exact steady_of_eq h (twinTake_steady (steady_refl _))
  next h =>
    exact steady_ite (onTwin_steady (by rfl) (twinAnswer_steady (steady_of_eq h (twinTake_steady (steady_refl _))))) (steady_ite ((((onTwin_steady
      (by rfl) (onTwin_steady (by rfl) (twinAnswer_steady (steady_of_eq h (twinTake_steady (steady_refl _)))))).calm (onWt_keeps (List.Subset.refl _)
      (keeps_refl _ _)) (by decide) (by decide)).calm (rebase_keeps (List.Subset.refl _) (keeps_refl _ _)) (by decide) (by decide)).calm
      (record_keeps (List.Subset.refl _) (keeps_refl _ _)) (by decide) (by decide)) (onTwin_steady (by rfl) (onTwin_steady (by rfl)
      (twinAnswer_steady (steady_of_eq h (twinTake_steady (steady_refl _)))))))

theorem opTwinMirror_steady {f : List Byte} : Steady s (opTwinMirror f s) := by
  unfold opTwinMirror
  split
  next h => exact steady_of_eq h (twinTake_steady (steady_refl _))
  next h => exact inOrder_steady (fun t1 => storeStage_steady (steady_refl _)) (steady_of_eq h (twinTake_steady (steady_refl _)))

theorem opTwinConfigFrame_steady {f : List Byte} : Steady s (opTwinConfigFrame f s) := by
  unfold opTwinConfigFrame
  split
  next h => exact steady_of_eq h (twinTake_steady (steady_refl _))
  next h =>
    exact steady_ite (steady_of_eq h (twinTake_steady (steady_refl _))) ((((inOrder_steady (fun t1 => steady_forEach (fun x1 t2 => steady_ite
      (writeMirrored_steady (steady_refl _)) (steady_refl _)) (steady_refl _)) (steady_of_eq h (twinTake_steady (steady_refl _)))).calm
      (tokenChanges_keeps (List.Subset.refl _) (keeps_refl _ _)) (by decide) (by decide)).calm (flagChanges_keeps (List.Subset.refl _) (keeps_refl _
      _)) (by decide) (by decide)).calm (roleChanged_keeps (List.Subset.refl _) (keeps_refl _ _)) (by decide) (by decide))

theorem opTwinLoomData_steady {f : List Byte} : Steady s (opTwinLoomData f s) := by
  unfold opTwinLoomData
  split
  next h => exact steady_of_eq h (twinTake_steady (steady_refl _))
  next h =>
    exact steady_ite (twinAnswer_steady (steady_of_eq h (twinTake_steady (steady_refl _)))) ((steady_forEach (fun x1 t1 => steady_ite ((steady_refl
      _).calm (writeMem_keeps (List.Subset.refl _) (keeps_refl _ _)) (by decide) (by decide)) (steady_refl _)) (twinAnswer_steady (steady_of_eq h
      (twinTake_steady (steady_refl _))))).calm (writeMem_keeps (List.Subset.refl _) (keeps_refl _ _)) (by decide) (by decide))

theorem opTwinAck_steady {f : List Byte} : Steady s (opTwinAck f s) := by
  unfold opTwinAck
  split
  next h => exact steady_of_eq h (twinTake_steady (steady_refl _))
  next h =>
    dsimp only
    split
    · exact steady_of_eq h (twinTake_steady (steady_refl _))
    · exact lockstepDue_steady (steady_ite (commitAcked_steady (startAcked_steady (flushHeld_steady (onTwin_steady (by rfl) (steady_of_eq h
        (twinTake_steady (steady_refl _))))))) (startAcked_steady (flushHeld_steady (onTwin_steady (by rfl) (steady_of_eq h (twinTake_steady
        (steady_refl _)))))))

theorem opTwinRelease_steady {f : List Byte} : Steady s (opTwinRelease f s) := by
  unfold opTwinRelease
  split
  next h => exact steady_of_eq h (twinTake_steady (steady_refl _))
  next h => exact onTwin_steady (by rfl) (twinAnswer_steady (steady_of_eq h (twinTake_steady (steady_refl _))))

theorem opPllLost_steady {n : Isl} : Steady s (opPllLost n s) := by
  unfold opPllLost
  refine steady_ite (steady_refl _) ?_
  dsimp only
  split
  · exact steady_ite (boundary_steady ((fault_steady ((steady_refl _).calm (onClk_keeps (List.Subset.refl _) (keeps_refl _ _)) (by decide) (by
      decide))).calm (onWeft_keeps (List.Subset.refl _) (keeps_refl _ _)) (by decide) (by decide))) (haltWeft_steady (fault_steady ((steady_refl
      _).calm (onClk_keeps (List.Subset.refl _) (keeps_refl _ _)) (by decide) (by decide))))
  · exact etherStops_steady (fault_steady ((steady_refl _).calm (onClk_keeps (List.Subset.refl _) (keeps_refl _ _)) (by decide) (by decide)))
  · exact (fault_steady ((steady_refl _).calm (onClk_keeps (List.Subset.refl _) (keeps_refl _ _)) (by decide) (by decide))).calm (radioEval_keeps
      (List.Subset.refl _) (keeps_refl _ _)) (by decide) (by decide)
  · exact steady_ite (linkGone_steady (fault_steady ((steady_refl _).calm (onClk_keeps (List.Subset.refl _) (keeps_refl _ _)) (by decide) (by
      decide)))) (fault_steady ((steady_refl _).calm (onClk_keeps (List.Subset.refl _) (keeps_refl _ _)) (by decide) (by decide)))
  · exact fault_steady ((steady_refl _).calm (onClk_keeps (List.Subset.refl _) (keeps_refl _ _)) (by decide) (by decide))

theorem opHandoverRequest_steady {f : List Byte} : Steady s (opHandoverRequest f s) := by
  unfold opHandoverRequest
  split
  next h => exact steady_of_eq h (handoverTake_steady (steady_refl _))
  next h => exact handoverFrame_steady (steady_of_eq h (handoverTake_steady (steady_refl _)))

theorem opHandoverAccept_steady {f : List Byte} : Steady s (opHandoverAccept f s) := by
  unfold opHandoverAccept
  split
  next h => exact steady_of_eq h (handoverTake_steady (steady_refl _))
  next h => exact onTwin_steady (by rfl) (steady_of_eq h (handoverTake_steady (steady_refl _)))

theorem opHandoverRefuse_steady {f : List Byte} : Steady s (opHandoverRefuse f s) := by
  unfold opHandoverRefuse
  split
  next h => exact steady_of_eq h (handoverTake_steady (steady_refl _))
  next h => exact refusedByShadow_steady (steady_of_eq h (handoverTake_steady (steady_refl _)))

theorem opTwinHandover_steady {r : CmdRef} : Steady s (opTwinHandover r s) := by
  unfold opTwinHandover
  exact onCommand_steady (fun c t => steady_ite (complete_steady (steady_refl _)) (steady_ite (complete_steady (steady_refl _)) (steady_ite
    (complete_steady (steady_refl _)) (handoverFrame_steady (onTwin_steady (by rfl) ((steady_refl _).calm (handOver_keeps (List.Subset.refl _)
    (keeps_refl _ _)) (by decide) (by decide))))))) (steady_refl _)

theorem opTwinStatus_steady {r : CmdRef} : Steady s (opTwinStatus r s) := by
  unfold opTwinStatus
  exact onCommand_steady (fun c t => steady_ite (complete_steady (steady_refl _)) (complete_steady (steady_refl _))) (steady_refl _)

theorem opHandoverGo_safe {f : List Byte} : Safe s (opHandoverGo f s) := by
  unfold opHandoverGo
  split
  next h => exact safe_of_eq h ((safe_refl _).steady (handoverTake_steady (steady_refl _)))
  next h =>
    exact safe_ite (safe_of_eq h ((safe_refl _).steady (handoverTake_steady (steady_refl _)))) (((onTwin_safe id (seize_safe (safe_of_eq h
      ((safe_refl _).steady (handoverTake_steady (steady_refl _)))))).steady (takeShared_steady (steady_refl _))).steady (restoreGroups_steady
      (steady_refl _)))

theorem opHandoverComplete_safe : Safe s (opHandoverComplete s) := by
  unfold opHandoverComplete
  split
  · exact safe_refl _
  · refine safe_ite (safe_refl _) ?_
    split
    · exact (onTwin_safe id (safe_refl _)).calm (record_keeps (List.Subset.refl _) (keeps_refl _ _)) (by decide) (by decide)
    · extract_lets u u1 now u2
      have hu : Safe s u := safe_ite ((safe_refl _).steady (twinFrame_steady (steady_refl _))) (safe_refl _)
      have hu1 : Safe s u1 := (hu.calm (record_keeps (List.Subset.refl _) (keeps_refl _ _)) (by decide) (by decide)).steady (completeId_steady
        (steady_refl _))
      have hu2 : Safe s u2 := (onTwin_safe (fun _ => twinOk_of_released rfl) (hu1.steady (dropShared_steady (steady_refl _)))).calm
        (roleChanged_keeps (List.Subset.refl _) (keeps_refl _ _)) (by decide) (by decide)
      exact safe_forEach (fun x2 t => (safe_refl _).calm (onGroup_keeps (List.Subset.refl _) (keeps_refl _ _)) (by decide) (by decide)) hu2

/-- In the hold after its release the token is not driven, so that the module may become shadow at the hold's end (R417). -/
theorem opTokenReleaseHoldEnd_safe {low : Bool} : Safe s (opTokenReleaseHoldEnd low s) := by
  unfold opTokenReleaseHoldEnd
  split
  · exact safe_refl _
  next h hheld =>
    have hdropped : Steady s s.dropShared := dropShared_steady (steady_refl s)
    refine safe_ite (safe_refl _) (safe_ite ?_ hdropped.safe)
    have hrole : Safe s (s.dropShared.onTwin fun k =>
        { k with role := .shadow, pair := .waiting, lineLow := true, holdEnd := none, waitFrom := s.dropShared.now, agreed := false }) := by
      refine ⟨fun hok => twinOk_of_released ?_, hdropped.queue⟩
      have hdriven : s.twin.driven = false := hok.2 (by rw [hheld]; rfl)
      exact (congrArg (fun x : Bool × Role × Option Nat => x.1) hdropped.token).trans hdriven
    exact hrole.calm (roleChanged_keeps (List.Subset.refl _) (keeps_refl _ _)) (by decide) (by decide)

theorem opTwinConfig_safe {r : CmdRef} : Safe s (opTwinConfig r s) := by
  unfold opTwinConfig
  refine onCommand_safe ?_ (safe_refl _)
  intro c t
  refine safe_ite ((safe_refl _).steady (complete_steady (steady_refl _))) ?_
  refine safe_ite ((safe_refl _).steady (complete_steady (steady_refl _))) ?_
  extract_lets u u1
  have hu : Safe t u := onTwin_safe id (safe_refl _)
  have hu1 : Safe t u1 := safe_ite (enterPair_safe hu) (safe_ite (leavePair_safe hu) hu)
  exact hu1.steady (complete_steady (steady_refl _))

theorem opCableSense_steady {deciohm : Nat} {low : Bool} : Steady s (opCableSense deciohm low s) := by
  unfold opCableSense
  exact steady_ite (steady_refl _) (onTwin_steady (by rfl) (steady_refl _))

theorem opTakeover_safe : Safe s (opTakeover s) := by
  unfold opTakeover
  exact safe_ite (safe_refl _) (safe_ite ((onTwin_safe id (onTwin_safe id (safe_refl _))).steady (fault_steady (steady_refl _))) (safe_ite
    ((onTwin_safe id (onTwin_safe id (safe_refl _))).steady (fault_steady (steady_refl _))) (takeOver_safe (onTwin_safe id (safe_refl _)))))

theorem opLoneLead_safe {low : Bool} : Safe s (opLoneLead low s) := by
  unfold opLoneLead
  exact safe_ite (onTwin_safe id (safe_refl _)) (safe_ite (onTwin_safe id (safe_refl _)) ((seize_safe (onTwin_safe id (safe_refl _))).calm
    (record_keeps (List.Subset.refl _) (keeps_refl _ _)) (by decide) (by decide)))

theorem opFieldFrameReceive_steady {crcOk : Bool} : Steady s (opFieldFrameReceive crcOk s) := by
  unfold opFieldFrameReceive
  refine steady_ite (receiveField_steady (steady_refl _)) ?_
  extract_lets k u v u1
  have hu : Steady s u := steady_ite ((((receiveField_steady (steady_refl _)).calm (onAcc_keeps (List.Subset.refl _) (keeps_refl _ _)) (by decide)
    (by decide)).calm (record_keeps (List.Subset.refl _) (keeps_refl _ _)) (by decide) (by decide)).calm (relStop_keeps (List.Subset.refl _)
    (keeps_refl _ _)) (by decide) (by decide)) (receiveField_steady (steady_refl _))
  have hu1 : Steady s u1 := steady_ite (hu.calm (doorEvent_keeps (List.Subset.refl _) (keeps_refl _ _)) (by decide) (by decide)) hu
  exact steady_ite hu (hu1.calm (onAcc_keeps (List.Subset.refl _) (keeps_refl _ _)) (by decide) (by decide))

theorem opTokenEnrol_steady {r : CmdRef} : Steady s (opTokenEnrol r s) := by
  unfold opTokenEnrol
  refine onCommand_steady ?_ (steady_refl _)
  intro c t
  refine steady_ite (complete_steady (steady_refl _)) ?_
  split
  · split
    · exact complete_steady (steady_refl _)
    · exact steady_ite (complete_steady (steady_refl _)) (complete_steady (((steady_refl _).calm (onAcc_keeps (List.Subset.refl _) (keeps_refl _ _))
        (by decide) (by decide)).calm (record_keeps (List.Subset.refl _) (keeps_refl _ _)) (by decide) (by decide)))
  · exact steady_ite (complete_steady (steady_refl _)) (steady_ite (complete_steady (steady_refl _)) (complete_steady (((steady_refl _).calm
      (onAcc_keeps (List.Subset.refl _) (keeps_refl _ _)) (by decide) (by decide)).calm (record_keeps (List.Subset.refl _) (keeps_refl _ _)) (by
      decide) (by decide))))

theorem opTokenRevoke_steady {r : CmdRef} : Steady s (opTokenRevoke r s) := by
  unfold opTokenRevoke
  refine onCommand_steady ?_ (steady_refl _)
  intro c t
  dsimp only
  split
  · exact complete_steady (steady_refl _)
  · refine steady_ite (complete_steady (steady_refl _)) ?_
    split
    · exact complete_steady (steady_refl _)
    · exact complete_steady (((steady_refl _).calm (onAcc_keeps (List.Subset.refl _) (keeps_refl _ _)) (by decide) (by decide)).calm (record_keeps
        (List.Subset.refl _) (keeps_refl _ _)) (by decide) (by decide))

theorem opReleaseConfigUnpair_steady {r : CmdRef} : Steady s (opReleaseConfigUnpair r s) := by
  unfold opReleaseConfigUnpair
  exact onCommand_steady (fun c t => steady_ite (steady_refl _) (steady_ite (complete_steady (steady_refl _)) (steady_ite (complete_steady
    (steady_refl _)) (complete_steady ((((steady_refl _).calm (onAcc_keeps (List.Subset.refl _) (keeps_refl _ _)) (by decide) (by decide)).calm
    (relStop_keeps (List.Subset.refl _) (keeps_refl _ _)) (by decide) (by decide)).calm (onAcc_keeps (List.Subset.refl _) (keeps_refl _ _)) (by
    decide) (by decide)))))) (steady_refl _)

theorem opReleaseConfigRenew_steady {r : CmdRef} : Steady s (opReleaseConfigRenew r s) := by
  unfold opReleaseConfigRenew
  exact onCommand_steady (fun c t => steady_ite (steady_refl _) (steady_ite (complete_steady (steady_refl _)) (steady_ite (complete_steady
    (steady_refl _)) ((complete_steady (((steady_refl _).calm (onAcc_keeps (List.Subset.refl _) (keeps_refl _ _)) (by decide) (by decide)).calm
    (record_keeps (List.Subset.refl _) (keeps_refl _ _)) (by decide) (by decide))).calm (relStart_keeps (List.Subset.refl _) (keeps_refl _ _)) (by
    decide) (by decide))))) (steady_refl _)

theorem opLockout_steady {r : CmdRef} : Steady s (opLockout r s) := by
  unfold opLockout
  refine onCommand_steady ?_ (steady_refl _)
  intro c t
  refine steady_ite (steady_refl _) ?_
  refine steady_ite (complete_steady (steady_refl _)) ?_
  extract_lets u
  have hu : Steady t u := steady_ite (steady_refl _) ((((steady_refl _).calm (onAcc_keeps (List.Subset.refl _) (keeps_refl _ _)) (by decide) (by
    decide)).calm (record_keeps (List.Subset.refl _) (keeps_refl _ _)) (by decide) (by decide)).calm (relStop_keeps (List.Subset.refl _) (keeps_refl
    _ _)) (by decide) (by decide))
  exact complete_steady hu

theorem opClearLockout_steady {r : CmdRef} : Steady s (opClearLockout r s) := by
  unfold opClearLockout
  exact onCommand_steady (fun c t => steady_ite (steady_refl _) (steady_ite (complete_steady (steady_refl _)) (steady_ite (complete_steady
    (steady_refl _)) (complete_steady ((((steady_refl _).calm (onAcc_keeps (List.Subset.refl _) (keeps_refl _ _)) (by decide) (by decide)).calm
    (record_keeps (List.Subset.refl _) (keeps_refl _ _)) (by decide) (by decide)).calm (relStart_keeps (List.Subset.refl _) (keeps_refl _ _)) (by
    decide) (by decide)))))) (steady_refl _)

theorem opClearTamper_steady {r : CmdRef} : Steady s (opClearTamper r s) := by
  unfold opClearTamper
  exact onCommand_steady (fun c t => steady_ite (steady_refl _) (steady_ite (complete_steady (steady_refl _)) (steady_ite (complete_steady
    (steady_refl _)) (complete_steady ((((steady_refl _).calm (onAcc_keeps (List.Subset.refl _) (keeps_refl _ _)) (by decide) (by decide)).calm
    (record_keeps (List.Subset.refl _) (keeps_refl _ _)) (by decide) (by decide)).calm (relStart_keeps (List.Subset.refl _) (keeps_refl _ _)) (by
    decide) (by decide)))))) (steady_refl _)

theorem opTokenList_steady {r : CmdRef} : Steady s (opTokenList r s) := by
  unfold opTokenList
  exact onCommand_steady (fun c t => steady_ite (complete_steady (steady_refl _)) (complete_steady (steady_refl _))) (steady_refl _)

theorem opReleaseConfigSet_steady {r : CmdRef} : Steady s (opReleaseConfigSet r s) := by
  unfold opReleaseConfigSet
  refine onCommand_steady ?_ (steady_refl _)
  intro c t
  refine steady_ite (steady_refl _) ?_
  refine steady_ite (complete_steady (steady_refl _)) ?_
  refine steady_ite (complete_steady (steady_refl _)) ?_
  extract_lets u u1
  have hu : Steady t u := (steady_refl _).calm (onAcc_keeps (List.Subset.refl _) (keeps_refl _ _)) (by decide) (by decide)
  have hu1 : Steady t u1 := steady_ite (hu.calm (radioEval_keeps (List.Subset.refl _) (keeps_refl _ _)) (by decide) (by decide)) hu
  exact complete_steady hu1

theorem opReleaseConfigPair_steady {r : CmdRef} : Steady s (opReleaseConfigPair r s) := by
  unfold opReleaseConfigPair
  refine onCommand_steady ?_ (steady_refl _)
  intro c t
  refine steady_ite (steady_refl _) ?_
  refine steady_ite (complete_steady (steady_refl _)) ?_
  refine steady_ite (complete_steady (steady_refl _)) ?_
  refine steady_ite (complete_steady (steady_refl _)) ?_
  refine steady_ite (complete_steady (steady_refl _)) ?_
  split
  next h =>
    split
    next h1 =>
      exact (complete_steady (((steady_of_eq h1 ((steady_of_eq h ((steady_refl _).calm (draw_keeps (List.Subset.refl _) (keeps_refl _ _)) (by decide)
        (by decide))).calm (drawBytes_keeps (List.Subset.refl _) (keeps_refl _ _)) (by decide) (by decide))).calm (onAcc_keeps (List.Subset.refl _)
        (keeps_refl _ _)) (by decide) (by decide)).calm (record_keeps (List.Subset.refl _) (keeps_refl _ _)) (by decide) (by decide))).calm
        (relStart_keeps (List.Subset.refl _) (keeps_refl _ _)) (by decide) (by decide)

end

/-! ## Every step -/

theorem safe_of_next {s t u : State} (h : (.next t : Host.Outcome State Fault Refusal) = .next u) (k : Safe s t) : Safe s u := by
  cases h
  exact k

/-- A row that touches neither the twin nor the faults keeps both invariants by its frame. -/
theorem safe_of_calm {c : Instr} {s t : State} (h : exec c s = .next t) (htwin : (touches c).contains .twin = false)
    (hflt : (touches c).contains .flt = false) : Safe s t :=
  (safe_refl s).calm (exec_keeps h) (fun hmem => Bool.false_ne_true (htwin.symm.trans (List.contains_iff_mem.mpr hmem)))
    fun hmem => Bool.false_ne_true (hflt.symm.trans (List.contains_iff_mem.mpr hmem))

theorem exec_safe {c : Instr} {s t : State} (h : exec c s = .next t) : Safe s t := by
  cases c with
  | auxLoss => exact safe_of_next h opAuxLoss_safe
  | sleepEntry => exact safe_of_next h opSleepEntry_safe
  | deepSleepEntry => exact safe_of_next h opDeepSleepEntry_safe
  | reserveEnd => exact safe_of_next h opReserveEnd_steady.safe
  | keepColdStart => exact safe_of_next h opKeepColdStart_safe
  | idleExit => exact safe_of_next h opIdleExit_steady.safe
  | offEntry => exact safe_of_next h opOffEntry_steady.safe
  | sleepWake => exact safe_of_next h opSleepWake_steady.safe
  | pwrConfig => exact safe_of_next h opPwrConfig_steady.safe
  | pwrEnter => exact safe_of_next h opPwrEnter_steady.safe
  | wakeSource => exact safe_of_next h opWakeSource_steady.safe
  | wakeRisingEdge => exact safe_of_next h opWakeRisingEdge_steady.safe
  | xoFail => exact safe_of_next h opXoFail_steady.safe
  | clkstuck => exact safe_of_next h opClkstuck_steady.safe
  | xoLoss => exact safe_of_next h opXoLoss_steady.safe
  | shuttleAck => exact safe_of_next h opShuttleAck_steady.safe
  | shuttleRetransmit => exact safe_of_next h opShuttleRetransmit_steady.safe
  | frameMark => exact safe_of_next h opFrameMark_steady.safe
  | recordWrite => exact safe_of_next h (opRecordWrite_steady (steady_refl _)).safe
  | tailSectorErase => exact safe_of_next h (opTailSectorErase_steady (steady_refl _)).safe
  | recInfo => exact safe_of_next h opRecInfo_steady.safe
  | recAppend => exact safe_of_next h opRecAppend_steady.safe
  | nop => exact safe_of_next h opNop_steady.safe
  | cmp => exact safe_of_next h opCmp_steady.safe
  | tst => exact safe_of_next h opTst_steady.safe
  | btst => exact safe_of_next h opBtst_steady.safe
  | bcc => exact safe_of_next h opBcc_steady.safe
  | call => exact safe_of_next h opCall_steady.safe
  | ret => exact safe_of_next h opRet_steady.safe
  | jmpi => exact safe_of_next h opJmpi_steady.safe
  | yield => exact safe_of_next h opYield_steady.safe
  | done => exact safe_of_next h opDone_steady.safe
  | mulu => exact safe_of_next h opMulu_steady.safe
  | muls => exact safe_of_next h opMuls_steady.safe
  | rep => exact safe_of_next h opRep_steady.safe
  | repi => exact safe_of_next h opRepi_steady.safe
  | fence => exact safe_of_next h opFence_steady.safe
  | waitslot => exact safe_of_next h opWaitslot_steady.safe
  | puts => exact safe_of_next h opPuts_steady.safe
  | mov => exact safe_of_next h opMov_steady.safe
  | movsx => exact safe_of_next h opMovsx_steady.safe
  | lea => exact safe_of_next h opLea_steady.safe
  | add => exact safe_of_next h opAdd_steady.safe
  | adc => exact safe_of_next h opAdc_steady.safe
  | sub => exact safe_of_next h opSub_steady.safe
  | sbc => exact safe_of_next h opSbc_steady.safe
  | and => exact safe_of_next h opAnd_steady.safe
  | or => exact safe_of_next h opOr_steady.safe
  | xor => exact safe_of_next h opXor_steady.safe
  | not => exact safe_of_next h opNot_steady.safe
  | neg => exact safe_of_next h opNeg_steady.safe
  | shl => exact safe_of_next h opShl_steady.safe
  | shr => exact safe_of_next h opShr_steady.safe
  | sar => exact safe_of_next h opSar_steady.safe
  | ror => exact safe_of_next h opRor_steady.safe
  | addm => exact safe_of_next h opAddm_steady.safe
  | subm => exact safe_of_next h opSubm_steady.safe
  | bset => exact safe_of_next h opBset_steady.safe
  | bclr => exact safe_of_next h opBclr_steady.safe
  | dadd => exact safe_of_next h opDadd_steady.safe
  | dadc => exact safe_of_next h opDadc_steady.safe
  | dsub => exact safe_of_next h opDsub_steady.safe
  | dsbc => exact safe_of_next h opDsbc_steady.safe
  | dadj => exact safe_of_next h opDadj_steady.safe
  | cvbd => exact safe_of_next h opCvbd_steady.safe
  | cvdb => exact safe_of_next h opCvdb_steady.safe
  | recv => exact safe_of_next h opRecv_steady.safe
  | gets => exact safe_of_next h opGets_steady.safe
  | send => exact safe_of_next h opSend_steady.safe
  | loomDataReceive => exact safe_of_next h opLoomDataReceive_steady.safe
  | segmentStart => exact safe_of_next h opSegmentStart_steady.safe
  | wcet => exact safe_of_next h opWcet_steady.safe
  | deadline => exact safe_of_next h opDeadline_steady.safe
  | selvedgeCommit => exact safe_of_next h opSelvedgeCommit_steady.safe
  | commitReceive => exact safe_of_next h opCommitReceive_steady.safe
  | heartbeatReceive => exact safe_of_next h opHeartbeatReceive_steady.safe
  | commandDue => exact safe_of_next h opCommandDue_steady.safe
  | weftLoadBegin => exact safe_of_next h opWeftLoadBegin_steady.safe
  | weftCommit => exact safe_of_next h opWeftCommit_steady.safe
  | weftSwap => exact safe_of_next h opWeftSwap_steady.safe
  | ownershipEvaluation => exact safe_of_next h opOwnershipEvaluation_steady.safe
  | weftStart => exact safe_of_next h opWeftStart_steady.safe
  | weftStop => exact safe_of_next h opWeftStop_steady.safe
  | weftStarted => exact safe_of_next h opWeftStarted_steady.safe
  | weftStopped => exact safe_of_next h opWeftStopped_steady.safe
  | weftSwapped => exact safe_of_next h opWeftSwapped_steady.safe
  | switchCmd => exact safe_of_next h opSwitchCmd_steady.safe
  | switchReadRequest => exact safe_of_next h opSwitchReadRequest_steady.safe
  | switchReset => exact safe_of_next h (resetIsland_safe (safe_refl _))
  | shortTrip => exact safe_of_next h opShortTrip_steady.safe
  | overcurrentTrip => exact safe_of_next h opOvercurrentTrip_steady.safe
  | coolingLimit => exact safe_of_next h opCoolingLimit_steady.safe
  | thermalShutdown => exact safe_of_next h opThermalShutdown_steady.safe
  | coolingRestart => exact safe_of_next h opCoolingRestart_steady.safe
  | envelopeEvent => exact safe_of_next h opEnvelopeEvent_steady.safe
  | swClearLatch => exact safe_of_next h opSwClearLatch_steady.safe
  | admitLimit => exact safe_of_next h opAdmitLimit_steady.safe
  | swGet => exact safe_of_next h opSwGet_steady.safe
  | swConfig => exact safe_of_next h opSwConfig_steady.safe
  | swAdopt => exact safe_of_next h opSwAdopt_steady.safe
  | swSet => exact safe_of_next h opSwSet_steady.safe
  | thermalBudgetEval => exact safe_of_next h opThermalBudgetEval_steady.safe
  | thermalShedStart => exact safe_of_next h opThermalShedStart_steady.safe
  | boostFail => exact safe_of_next h opBoostFail_steady.safe
  | holdUnreachable => exact safe_of_next h opHoldUnreachable_steady.safe
  | bankOverload => exact safe_of_next h opBankOverload_steady.safe
  | bankDeferExpiry => exact safe_of_next h (opBankDeferExpiry_steady (steady_refl _)).safe
  | actuatorFire => exact safe_of_next h opActuatorFire_steady.safe
  | actuatorRelease => exact safe_of_next h opActuatorRelease_steady.safe
  | openCoil => exact safe_of_next h opOpenCoil_steady.safe
  | controlUpdate => exact safe_of_next h opControlUpdate_steady.safe
  | shortedCoil => exact safe_of_next h opShortedCoil_steady.safe
  | bankFault => exact safe_of_next h opBankFault_steady.safe
  | driveCmd => exact safe_of_next h opDriveCmd_steady.safe
  | driveReadRequest => exact safe_of_next h opDriveReadRequest_steady.safe
  | actuatorOrphanEnter => exact safe_of_next h opActuatorOrphanEnter_steady.safe
  | actuatorOrphanSafe => exact safe_of_next h (opActuatorOrphanSafe_steady (steady_refl _)).safe
  | acConfig => exact safe_of_next h opAcConfig_steady.safe
  | driveReset => exact safe_of_next h (resetIsland_safe (safe_refl _))
  | acLoadBobbin => exact safe_of_next h opAcLoadBobbin_steady.safe
  | acFire => exact safe_of_next h opAcFire_steady.safe
  | acRelease => exact safe_of_next h opAcRelease_steady.safe
  | acGet => exact safe_of_next h opAcGet_steady.safe
  | barrierFrame => exact safe_of_next h opBarrierFrame_steady.safe
  | fieldStop => exact safe_of_next h opFieldStop_steady.safe
  | fioSet => exact safe_of_next h opFioSet_steady.safe
  | fioGet => exact safe_of_next h opFioGet_steady.safe
  | fioConfig => exact safe_of_next h opFioConfig_steady.safe
  | fieldStale => exact safe_of_next h opFieldStale_steady.safe
  | foOverload => exact safe_of_next h opFoOverload_steady.safe
  | groupLimit => exact safe_of_next h opGroupLimit_steady.safe
  | fieldDataWord => exact safe_of_next h opFieldDataWord_steady.safe
  | packetReceive => exact safe_of_next h opPacketReceive_steady.safe
  | commandBegin => exact safe_of_next h opCommandBegin_steady.safe
  | sessionTimeout => exact safe_of_next h opSessionTimeout_steady.safe
  | ping => exact safe_of_next h opPing_steady.safe
  | sessionClose => exact safe_of_next h opSessionClose_steady.safe
  | groupResume => exact safe_of_next h opGroupResume_steady.safe
  | groupAbort => exact safe_of_next h opGroupAbort_steady.safe
  | fenceCmd => exact safe_of_next h opFenceCmd_steady.safe
  | info => exact safe_of_next h opInfoCmd_steady.safe
  | getState => exact safe_of_next h opGetState_steady.safe
  | dpOpen => exact safe_of_next h opDpOpen_steady.safe
  | dpClose => exact safe_of_next h opDpClose_steady.safe
  | dpCommit => exact safe_of_next h opDpCommit_steady.safe
  | dpRead => exact safe_of_next h opDpRead_steady.safe
  | dpWrite => exact safe_of_next h opDpWrite_steady.safe
  | sessionOpen => exact safe_of_next h opSessionOpen_steady.safe
  | updateCheck => exact safe_of_next h opUpdateCheck_steady.safe
  | boot => exact safe_of_next h opBoot_steady.safe
  | attest => exact safe_of_next h opAttest_steady.safe
  | keyAdd => exact safe_of_next h opKeyAdd_steady.safe
  | keyRemove => exact safe_of_next h opKeyRemove_steady.safe
  | weftFloorRaise => exact safe_of_next h opWeftFloorRaise_steady.safe
  | updateArm => exact safe_of_next h opUpdateArm_steady.safe
  | updateStart => exact safe_of_next h opUpdateStart_safe
  | updateBlock => exact safe_of_next h opUpdateBlock_steady.safe
  | mediumPoll => exact safe_of_next h opMediumPoll_steady.safe
  | faultRead => exact safe_of_next h opFaultRead_steady.safe
  | quietPeriodEnd => exact safe_of_next h opQuietPeriodEnd_steady.safe
  | permitRenewal => exact safe_of_next h (opPermitRenewal_steady (steady_refl _)).safe
  | permitExpiry => exact safe_of_next h opPermitExpiry_steady.safe
  | faultHandler => exact safe_of_next h opFaultHandler_steady.safe
  | faultReport => exact safe_of_next h opFaultReport_safe
  | watchdog => exact safe_of_next h opWatchdog_safe
  | loomReset => exact safe_of_next h opLoomReset_safe
  | serviceCoreReset => exact safe_of_next h opServiceCoreReset_safe
  | networkReset => exact safe_of_next h opNetworkReset_safe
  | forceSafeOn => exact safe_of_next h opForceSafeOn_steady.safe
  | forceSafeOff => exact safe_of_next h opForceSafeOff_steady.safe
  | canFrameReceive => exact safe_of_next h opCanFrameReceive_steady.safe
  | canError => exact safe_of_next h opCanError_steady.safe
  | canTxComplete => exact safe_of_next h opCanTxComplete_steady.safe
  | canAbort => exact safe_of_next h opCanAbort_steady.safe
  | canConfig => exact safe_of_next h opCanConfig_steady.safe
  | errorPassive => exact safe_of_next h opErrorPassive_steady.safe
  | busOff => exact safe_of_next h opBusOff_steady.safe
  | idclash => exact safe_of_next h opIdclash_steady.safe
  | canFilter => exact safe_of_next h opCanFilter_steady.safe
  | canStatus => exact safe_of_next h opCanStatus_steady.safe
  | canSend => exact safe_of_next h opCanSend_steady.safe
  | canPeek => exact safe_of_next h opCanPeek_steady.safe
  | canStatusRequest => exact safe_of_next h opCanStatusRequest_steady.safe
  | canCommit => exact safe_of_next h opCanCommit_steady.safe
  | networkCmdInvalid => exact safe_of_next h opNetworkCmdInvalid_steady.safe
  | canTx => exact safe_of_next h opCanTx_steady.safe
  | maxAwake => exact safe_of_next h opMaxAwake_steady.safe
  | nmConfig => exact safe_of_next h opNmConfig_steady.safe
  | nmRequest => exact safe_of_next h opNmRequest_steady.safe
  | nmRequestRepeat => exact safe_of_next h opNmRequestRepeat_steady.safe
  | nmRelease => exact safe_of_next h opNmRelease_steady.safe
  | ethFrameReceive => exact safe_of_next h opEthFrameReceive_steady.safe
  | linkDown => exact safe_of_next h (opLinkDown_steady (steady_refl _)).safe
  | ipAddress => exact safe_of_next h opIpAddress_steady.safe
  | dhcpRenewal => exact safe_of_next h opDhcpRenewal_steady.safe
  | dhcpLeaseLost => exact safe_of_next h opDhcpLeaseLost_steady.safe
  | modbusFrameReceive => exact safe_of_next h opModbusFrameReceive_steady.safe
  | farTimeout => exact safe_of_next h opFarTimeout_steady.safe
  | farTurnaroundEnd => exact safe_of_next h opFarTurnaroundEnd_steady.safe
  | heddleWaitExpiry => exact safe_of_next h opHeddleWaitExpiry_steady.safe
  | lockExpired => exact safe_of_next h opLockExpired_steady.safe
  | farRead => exact safe_of_next h opFarRead_steady.safe
  | farWrite => exact safe_of_next h opFarWrite_steady.safe
  | farLock => exact safe_of_next h opFarLock_steady.safe
  | farUnlock => exact safe_of_next h opFarUnlock_steady.safe
  | twinLinkUp => exact safe_of_next h opTwinLinkUp_steady.safe
  | pairingRetry => exact safe_of_next h opPairingRetry_steady.safe
  | twinLinkDown => exact safe_of_next h opTwinLinkDown_steady.safe
  | twinRetransmit => exact safe_of_next h opTwinRetransmit_steady.safe
  | mirrorAckTimeout => exact safe_of_next h opMirrorAckTimeout_steady.safe
  | twinHello => exact safe_of_next h opTwinHello_steady.safe
  | twinAttest => exact safe_of_next h opTwinAttest_safe
  | twinPaired => exact safe_of_next h opTwinPaired_safe
  | twinWeft => exact safe_of_next h opTwinWeft_steady.safe
  | twinHeartbeat => exact safe_of_next h opTwinHeartbeat_steady.safe
  | twinMirror => exact safe_of_next h opTwinMirror_steady.safe
  | twinConfigFrame => exact safe_of_next h opTwinConfigFrame_steady.safe
  | twinLoomData => exact safe_of_next h opTwinLoomData_steady.safe
  | twinAck => exact safe_of_next h opTwinAck_steady.safe
  | twinRelease => exact safe_of_next h opTwinRelease_steady.safe
  | pllLost => exact safe_of_next h opPllLost_steady.safe
  | handoverRequest => exact safe_of_next h opHandoverRequest_steady.safe
  | handoverAccept => exact safe_of_next h opHandoverAccept_steady.safe
  | handoverRefuse => exact safe_of_next h opHandoverRefuse_steady.safe
  | twinHandover => exact safe_of_next h opTwinHandover_steady.safe
  | twinStatus => exact safe_of_next h opTwinStatus_steady.safe
  | handoverGo => exact safe_of_next h opHandoverGo_safe
  | handoverComplete => exact safe_of_next h opHandoverComplete_safe
  | tokenReleaseHoldEnd => exact safe_of_next h opTokenReleaseHoldEnd_safe
  | twinConfig => exact safe_of_next h opTwinConfig_safe
  | cableSense => exact safe_of_next h opCableSense_steady.safe
  | takeover => exact safe_of_next h opTakeover_safe
  | loneLead => exact safe_of_next h opLoneLead_safe
  | fieldFrameReceive => exact safe_of_next h opFieldFrameReceive_steady.safe
  | tokenEnrol => exact safe_of_next h opTokenEnrol_steady.safe
  | tokenRevoke => exact safe_of_next h opTokenRevoke_steady.safe
  | releaseConfigUnpair => exact safe_of_next h opReleaseConfigUnpair_steady.safe
  | releaseConfigRenew => exact safe_of_next h opReleaseConfigRenew_steady.safe
  | lockout => exact safe_of_next h opLockout_steady.safe
  | clearLockout => exact safe_of_next h opClearLockout_steady.safe
  | clearTamper => exact safe_of_next h opClearTamper_steady.safe
  | tokenList => exact safe_of_next h opTokenList_steady.safe
  | releaseConfigSet => exact safe_of_next h opReleaseConfigSet_steady.safe
  | releaseConfigPair => exact safe_of_next h opReleaseConfigPair_steady.safe
  | _ => exact safe_of_calm h rfl rfl

theorem step_safe {s t : State} (h : step s = .next t) : Safe s t := by
  obtain rfl | ⟨c, q, -, hexec⟩ := step_cases h
  · exact (idleStep_steady (steady_refl s)).safe
  · have hrest : Safe s (s.rest q) := ⟨id, id⟩
    exact hrest.trans (exec_safe hexec)

/-- Settles O7: a step that changes the driver, the role or the hold takes or releases the token as a whole. -/
theorem tokenKept : Obligations.TokenKept := fun _ _ hok h => (step_safe h).token hok

/-- Settles O8: a fault enters only where its class has room, and an entry that waits keeps its class. -/
theorem faultQueueBounded : Obligations.FaultQueueBounded := fun _ _ hok h => (step_safe h).queue hok

end Sys2Proof.Invariants

/-! The Loom's flags and its decimal arithmetic: one flag read after another is set, the overflow of a signed sum, and the digit-wise sums as sums of
numbers (R83, R91, R93). -/

namespace Sys2Proof.FlagProofs

open Sys2Proof Sys2Proof.Machine

/-! ## Flags -/

theorem getLsbD_ofNat_two_pow (i j : Nat) : (BitVec.ofNat 5 (2 ^ i)).getLsbD j = (decide (j < 5) && decide (i = j)) := by
  rw [BitVec.getLsbD_ofNat, Nat.testBit_two_pow]

theorem getF_setF (f : BitVec 5) {i : Nat} (j : Nat) (b : Bool) (hi : i < 5) : getF (setF f i b) j = if i = j then b else getF f j := by
  unfold getF setF
  cases b
  · rw [if_neg Bool.false_ne_true, BitVec.getLsbD_and, BitVec.getLsbD_not, getLsbD_ofNat_two_pow]
    by_cases hij : i = j
    · simp [← hij, hi]
    · by_cases hj : j < 5
      · simp [hij, hj]
      · simp [hij, BitVec.getLsbD_of_ge f j (by omega)]
  · rw [if_pos rfl, BitVec.getLsbD_or, getLsbD_ofNat_two_pow]
    by_cases hij : i = j
    · simp [← hij, hi]
    · simp [hij]

@[simp] theorem getF_setF_self (f : BitVec 5) {i : Nat} (b : Bool) (hi : i < 5) : getF (setF f i b) i = b := by
  rw [getF_setF f i b hi, if_pos rfl]

theorem getF_setF_ne (f : BitVec 5) {i j : Nat} (b : Bool) (hi : i < 5) (hij : i ≠ j) : getF (setF f i b) j = getF f j := by
  rw [getF_setF f j b hi, if_neg hij]

/-! ## Additions and subtractions (R83) -/

/-- A result that agrees with `v` modulo 2 to the width reads as `v` where `v` fits, and as something else where it does not. -/
theorem signed_eq_iff_fits {w r : Nat} {v : Int} (hw : w = 8 ∨ w = 16 ∨ w = 32) (hr : ((r : Int) - v) % (2 ^ w : Nat) = 0) :
    signed w r = v ↔ fits w v = true := by
  obtain rfl | rfl | rfl := hw <;>
  · simp only [signed, fits, Bool.and_eq_true, decide_eq_true_eq]
    norm_num at hr ⊢
    split <;> omega

/-- A word and its signed reading agree modulo 2 to the width. -/
theorem signed_sub_self_emod {w a : Nat} (hw : w = 8 ∨ w = 16 ∨ w = 32) : (signed w a - (a : Int)) % (2 ^ w : Nat) = 0 := by
  obtain rfl | rfl | rfl := hw <;>
  · simp only [signed]
    norm_num
    split <;> omega

theorem emod_sub_emod_eq_zero {P x y z : Int} (hx : (x - y) % P = 0) (hy : (z - y) % P = 0) : (x - z) % P = 0 := by
  have hsplit : x - z = (x - y) - (z - y) := by ring
  rw [hsplit, Int.sub_emod, hx, hy]
  simp

theorem addF_flags {f : BitVec 5} {w a b c : Nat} :
    getF (addF f w a b c).2 fN = bit (addF f w a b c).1 (w - 1) ∧ getF (addF f w a b c).2 fZ = ((addF f w a b c).1 % 2 ^ w == 0) ∧
    getF (addF f w a b c).2 fC = decide (2 ^ w ≤ a + b + c) ∧ getF (addF f w a b c).2 fV = !fits w (signed w a + signed w b + c) ∧
    getF (addF f w a b c).2 fH = decide (16 ≤ a % 16 + b % 16 + c) := by
  simp [addF, flagsNZ, getF_setF, fN, fZ, fC, fV, fH]

theorem subF_flags {f : BitVec 5} {w a b c : Nat} :
    getF (subF f w a b c).2 fN = bit (subF f w a b c).1 (w - 1) ∧ getF (subF f w a b c).2 fZ = ((subF f w a b c).1 % 2 ^ w == 0) ∧
    getF (subF f w a b c).2 fC = decide (a < b + c) ∧ getF (subF f w a b c).2 fV = !fits w (signed w a - signed w b - c) ∧
    getF (subF f w a b c).2 fH = decide (a % 16 < b % 16 + c) := by
  simp [subF, flagsNZ, getF_setF, fN, fZ, fC, fV, fH]

theorem overflow_iff {w r : Nat} {v x : Int} (hw : w = 8 ∨ w = 16 ∨ w = 32) (hr : ((r : Int) - x) % (2 ^ w : Nat) = 0)
    (hv : (v - x) % (2 ^ w : Nat) = 0) : (!fits w v) = true ↔ signed w r ≠ v := by
  rw [Ne, signed_eq_iff_fits hw (emod_sub_emod_eq_zero hr hv), Bool.not_eq_true', Bool.not_eq_true]

theorem add_overflow_iff {w a b c : Nat} (hw : w = 8 ∨ w = 16 ∨ w = 32) :
    (!fits w (signed w a + signed w b + c)) = true ↔ signed w ((a + b + c) % 2 ^ w) ≠ signed w a + signed w b + c := by
  have ha := signed_sub_self_emod (a := a) hw
  have hb := signed_sub_self_emod (a := b) hw
  refine overflow_iff (x := (a : Int) + b + c) hw ?_ ?_
  · obtain rfl | rfl | rfl := hw <;> norm_num
  · obtain rfl | rfl | rfl := hw <;> norm_num at ha hb ⊢ <;> omega

theorem sub_overflow_iff {w a b c : Nat} (hw : w = 8 ∨ w = 16 ∨ w = 32) :
    (!fits w (signed w a - signed w b - c)) = true ↔ signed w (unsigned w ((a : Int) - b - c)) ≠ signed w a - signed w b - c := by
  have ha := signed_sub_self_emod (a := a) hw
  have hb := signed_sub_self_emod (a := b) hw
  refine overflow_iff (x := (a : Int) - b - c) hw ?_ ?_
  · obtain rfl | rfl | rfl := hw <;> norm_num [unsigned] <;> omega
  · obtain rfl | rfl | rfl := hw <;> norm_num at ha hb ⊢ <;> omega

theorem subF_result {f : BitVec 5} {w a b c : Nat} (hw : w = 8 ∨ w = 16 ∨ w = 32) (ha : a < 2 ^ w) :
    ((subF f w a b c).1 + b + c) % 2 ^ w = a ∧ (subF f w a b c).1 < 2 ^ w := by
  obtain rfl | rfl | rfl := hw <;>
  · simp only [subF, unsigned]
    norm_num at ha ⊢
    omega

/-- Settles O22: each flag is set last to its own value, and the overflow is the failure to fit of the exact signed result. -/
theorem arithmeticFlags : Obligations.ArithmeticFlags := by
  intro f w a b c hw ha hb hc
  obtain ⟨hsum, hlt⟩ := subF_result (f := f) (b := b) (c := c) hw ha
  have hadd : (addF f w a b c).1 < 2 ^ w := Nat.mod_lt _ (Nat.two_pow_pos w)
  obtain ⟨haN, haZ, haC, haV, haH⟩ := addF_flags (f := f) (w := w) (a := a) (b := b) (c := c)
  obtain ⟨hsN, hsZ, hsC, hsV, hsH⟩ := subF_flags (f := f) (w := w) (a := a) (b := b) (c := c)
  refine ⟨⟨rfl, haN, ?_, ?_, ?_, ?_⟩, hsum, hlt, hsN, ?_, ?_, ?_, ?_⟩
  · rw [haZ, Nat.mod_eq_of_lt hadd, beq_iff_eq]
  · rw [haC, decide_eq_true_iff]
  · rw [haV]; exact add_overflow_iff hw
  · rw [haH, decide_eq_true_iff]
  · rw [hsZ, Nat.mod_eq_of_lt hlt, beq_iff_eq]
  · rw [hsC, decide_eq_true_iff]
  · rw [hsV]; exact sub_overflow_iff hw
  · rw [hsH, decide_eq_true_iff]

/-! ## Packed decimal numbers (R91, R93) -/

theorem decimalValue_succ (v i n : Nat) : decimalValue v i (n + 1) = digit v i + 10 * decimalValue v (i + 1) n := rfl

theorem digit_le_of_badDigit {v : Nat} (h : badDigit v = false) {i : Nat} (hi : i < 8) : digit v i ≤ 9 := by
  simp only [badDigit, List.any_eq_false, List.mem_range, decide_eq_true_eq, Nat.not_lt] at h
  exact h i hi

/-- A digit put below a number with none there is read back. -/
theorem digit_put {d i r : Nat} (hd : d < 16) (hr : 16 ^ (i + 1) ∣ r) : digit (d * 16 ^ i + r) i = d := by
  obtain ⟨q, rfl⟩ := hr
  have hfactor : d * 16 ^ i + 16 ^ (i + 1) * q = 16 ^ i * (d + 16 * q) := by ring
  rw [digit, hfactor, Nat.mul_div_cancel_left _ (by positivity)]
  omega

/-- It does not change the digits above. -/
theorem digit_put_above {d i j r : Nat} (hd : d < 16) (hr : 16 ^ (i + 1) ∣ r) (hij : i < j) : digit (d * 16 ^ i + r) j = digit r j := by
  obtain ⟨q, rfl⟩ := hr
  obtain ⟨m, rfl⟩ : ∃ m, j = i + 1 + m := ⟨j - (i + 1), by omega⟩
  have hlow : (d * 16 ^ i + 16 ^ (i + 1) * q) / 16 ^ (i + 1) = q := by
    have hlt : d * 16 ^ i < 16 ^ (i + 1) := by
      rw [pow_succ']
      exact Nat.mul_lt_mul_of_pos_right hd (by positivity)
    rw [Nat.add_mul_div_left _ _ (by positivity), Nat.div_eq_of_lt hlt, Nat.zero_add]
  have hdiv (x : Nat) : x / 16 ^ (i + 1 + m) = x / 16 ^ (i + 1) / 16 ^ m := by rw [pow_add _ (i + 1) m, Nat.div_div_eq_div_mul]
  rw [digit, digit, hdiv, hdiv, hlow, Nat.mul_div_cancel_left _ (by positivity)]

theorem decimalValue_put_above {d i r : Nat} (hd : d < 16) (hr : 16 ^ (i + 1) ∣ r) (n : Nat) {j : Nat} (hij : i < j) :
    decimalValue (d * 16 ^ i + r) j n = decimalValue r j n := by
  induction n generalizing j with
  | zero => rfl
  | succ n ih => rw [decimalValue_succ, decimalValue_succ, digit_put_above hd hr hij, ih (by omega)]

theorem decimalValue_put {d i r : Nat} (hd : d < 16) (hr : 16 ^ (i + 1) ∣ r) (n : Nat) :
    decimalValue (d * 16 ^ i + r) i (n + 1) = d + 10 * decimalValue r (i + 1) n := by
  rw [decimalValue_succ, digit_put hd hr, decimalValue_put_above hd hr n (Nat.lt_succ_self i)]

/-- The result of a digit-wise sum has no digits below its first. -/
theorem bcd_dvd (sub : Bool) (a b n i k : Nat) : 16 ^ i ∣ (bcd sub a b n i k).1 := by
  induction n generalizing i k with
  | zero => exact dvd_zero _
  | succ n ih => exact dvd_add (Nat.dvd_mul_left _ _) ((Nat.pow_dvd_pow 16 (Nat.le_succ i)).trans (ih _ _))

/-- Digit by digit, the sum is the sum of the numbers, less the carry out (R91). -/
theorem bcd_add {a b : Nat} (n i k : Nat) (hk : k ≤ 1) (ha : ∀ j, i ≤ j → j < i + n → digit a j ≤ 9) (hb : ∀ j, i ≤ j → j < i + n → digit b j ≤ 9) :
    (bcd false a b n i k).2.1 ≤ 1 ∧
    decimalValue (bcd false a b n i k).1 i n + 10 ^ n * (bcd false a b n i k).2.1 = decimalValue a i n + decimalValue b i n + k := by
  induction n generalizing i k with
  | zero => simpa [bcd, decimalValue] using hk
  | succ n ih =>
    have hda := ha i (Nat.le_refl i) (by omega)
    have hdb := hb i (Nat.le_refl i) (by omega)
    obtain ⟨d, k', hd, hk', hsum, hbcd⟩ : ∃ d k', d < 10 ∧ k' ≤ 1 ∧ d + 10 * k' = digit a i + digit b i + k ∧
        bcd false a b (n + 1) i k = (d * 16 ^ i + (bcd false a b n (i + 1) k').1, (bcd false a b n (i + 1) k').2.1, k') := by
      by_cases hcarry : 10 ≤ digit a i + digit b i + k
      · exact ⟨(digit a i + digit b i + k - 10) % 16, 1, by omega, le_rfl, by omega, by simp [bcd, hcarry]⟩
      · exact ⟨(digit a i + digit b i + k) % 16, 0, by omega, Nat.zero_le _, by omega, by simp [bcd, hcarry]⟩
    obtain ⟨hout, hrest⟩ := ih (i + 1) k' hk' (fun j hij hj => ha j (by omega) (by omega)) (fun j hij hj => hb j (by omega) (by omega))
    rw [hbcd]
    refine ⟨hout, ?_⟩
    rw [decimalValue_put (by omega) (bcd_dvd ..), decimalValue_succ, decimalValue_succ, pow_succ]
    linarith

/-- Digit by digit, the difference is the difference of the numbers, with the borrow out (R91). -/
theorem bcd_sub {a b : Nat} (n i k : Nat) (hk : k ≤ 1) (ha : ∀ j, i ≤ j → j < i + n → digit a j ≤ 9) (hb : ∀ j, i ≤ j → j < i + n → digit b j ≤ 9) :
    (bcd true a b n i k).2.1 ≤ 1 ∧
    decimalValue (bcd true a b n i k).1 i n + decimalValue b i n + k = decimalValue a i n + 10 ^ n * (bcd true a b n i k).2.1 := by
  induction n generalizing i k with
  | zero => simpa [bcd, decimalValue] using hk
  | succ n ih =>
    have hda := ha i (Nat.le_refl i) (by omega)
    have hdb := hb i (Nat.le_refl i) (by omega)
    obtain ⟨d, k', hd, hk', hsum, hbcd⟩ : ∃ d k', d < 10 ∧ k' ≤ 1 ∧ d + digit b i + k = digit a i + 10 * k' ∧
        bcd true a b (n + 1) i k = (d * 16 ^ i + (bcd true a b n (i + 1) k').1, (bcd true a b n (i + 1) k').2.1, k') := by
      by_cases hborrow : digit a i < digit b i + k
      · exact ⟨(digit a i + 10 + 16 - digit b i - k) % 16, 1, by omega, le_rfl, by omega, by simp [bcd, hborrow]⟩
      · exact ⟨(digit a i - digit b i - k) % 16, 0, by omega, Nat.zero_le _, by omega, by simp [bcd, hborrow]⟩
    obtain ⟨hout, hrest⟩ := ih (i + 1) k' hk' (fun j hij hj => ha j (by omega) (by omega)) (fun j hij hj => hb j (by omega) (by omega))
    rw [hbcd]
    refine ⟨hout, ?_⟩
    rw [decimalValue_put (by omega) (bcd_dvd ..), decimalValue_succ, decimalValue_succ, pow_succ]
    linarith

theorem decF_result (sub : Bool) (f : BitVec 5) (a b k : Nat) : (decF sub f a b k).1 = (bcd sub a b 8 0 k).1 := rfl

theorem decF_flags (sub : Bool) (f : BitVec 5) (a b k : Nat) :
    getF (decF sub f a b k).2 fC = ((bcd sub a b 8 0 k).2.1 == 1) ∧ getF (decF sub f a b k).2 fZ = ((bcd sub a b 8 0 k).1 == 0) ∧
    getF (decF sub f a b k).2 fN = false ∧ getF (decF sub f a b k).2 fV = (badDigit a || badDigit b) := by
  simp [decF, getF_setF, fN, fZ, fC, fV, fH]

/-- A carry as the value it stands for. -/
theorem carry_value {c : Nat} (hc : c ≤ 1) : (if (c == 1) = true then 100000000 else 0) = 10 ^ 8 * c := by
  interval_cases c <;> norm_num

/-- Settles O20: the sums of the digits carry and borrow as the sums of the numbers do. -/
theorem decimalArithmetic : Obligations.DecimalArithmetic := by
  intro f a b _ _ hbada hbadb
  have hda : ∀ j, 0 ≤ j → j < 0 + 8 → digit a j ≤ 9 := fun j _ hj => digit_le_of_badDigit hbada (by omega)
  have hdb : ∀ j, 0 ≤ j → j < 0 + 8 → digit b j ≤ 9 := fun j _ hj => digit_le_of_badDigit hbadb (by omega)
  obtain ⟨hcarry, hadd⟩ := bcd_add 8 0 0 (Nat.zero_le 1) hda hdb
  obtain ⟨hborrow, hsub⟩ := bcd_sub 8 0 0 (Nat.zero_le 1) hda hdb
  obtain ⟨haC, haZ, haN, haV⟩ := decF_flags false f a b 0
  obtain ⟨hsC, -, -, hsV⟩ := decF_flags true f a b 0
  refine ⟨?_, ?_, ?_, ?_, haN, ?_⟩
  · rw [decF_result, haC, carry_value hcarry, hadd, Nat.add_zero]
  · rw [decF_result, hsC, carry_value hborrow, ← hsub, Nat.add_zero]
  · rw [haV, hbada, hbadb, Bool.or_self]
  · rw [hsV, hbada, hbadb, Bool.or_self]
  · rw [haZ, beq_iff_eq, decF_result]

/-! ## Conversion (R93) -/

theorem toBcd_eq (v : Nat) : toBcd v = ((List.range 8).map fun i => v / 10 ^ i % 10 * 16 ^ i).sum := rfl

/-- Packed digits fill no more than their places. -/
theorem packed_lt {e : Nat → Nat} (he : ∀ i, e i < 16) (n : Nat) : ((List.range n).map fun i => e i * 16 ^ i).sum < 16 ^ n := by
  induction n with
  | zero => simp
  | succ n ih =>
    have htop : e n * 16 ^ n ≤ 15 * 16 ^ n := Nat.mul_le_mul_right _ (Nat.le_of_lt_succ (he n))
    rw [List.range_succ, List.map_append, List.sum_append, List.map_singleton, List.sum_singleton, pow_succ]
    omega

/-- A number of packed digits has them as its digits. -/
theorem digit_packed {e : Nat → Nat} (he : ∀ i, e i < 16) {i n : Nat} (hi : i < n) : digit ((List.range n).map fun i => e i * 16 ^ i).sum i = e i := by
  induction n with
  | zero => exact absurd hi (Nat.not_lt_zero i)
  | succ n ih =>
    rw [List.range_succ, List.map_append, List.sum_append, List.map_singleton, List.sum_singleton]
    obtain hlt | rfl := Nat.lt_succ_iff_lt_or_eq.mp hi
    · obtain ⟨m, rfl⟩ : ∃ m, n = i + 1 + m := ⟨n - (i + 1), by omega⟩
      have hshift : e (i + 1 + m) * 16 ^ (i + 1 + m) = 16 ^ i * (16 * (e (i + 1 + m) * 16 ^ m)) := by ring
      rw [digit, hshift, Nat.add_mul_div_left _ _ (by positivity), Nat.add_mul_mod_self_left]
      exact ih hlt
    · rw [digit, Nat.add_mul_div_right _ _ (by positivity), Nat.div_eq_of_lt (packed_lt he i), Nat.zero_add, Nat.mod_eq_of_lt (he i)]

/-- Each packed digit is the decimal digit of the number. -/
theorem digit_toBcd (v : Nat) {i : Nat} (hi : i < 8) : digit (toBcd v) i = v / 10 ^ i % 10 := by
  rw [toBcd_eq]
  exact digit_packed (e := fun i => v / 10 ^ i % 10) (fun i => (Nat.mod_lt _ (by decide)).trans (by decide)) hi

theorem sum_decimal_digits (v n : Nat) : ((List.range n).map fun i => v / 10 ^ i % 10 * 10 ^ i).sum = v % 10 ^ n := by
  induction n with
  | zero => simp [Nat.mod_one]
  | succ n ih =>
    rw [List.range_succ, List.map_append, List.sum_append, List.map_singleton, List.sum_singleton, ih, Nat.mod_pow_succ, Nat.mul_comm (10 ^ n)]

theorem cvdbF_toBcd {f : BitVec 5} {v : Nat} (h : v < 100000000) : (cvdbF f (toBcd v)).1 = v := by
  have hdigits : (List.range 8).map (fun i => digit (toBcd v) i * 10 ^ i) = (List.range 8).map fun i => v / 10 ^ i % 10 * 10 ^ i :=
    List.map_congr_left fun i hi => by rw [digit_toBcd v (List.mem_range.mp hi)]
  show ((List.range 8).map fun i => digit (toBcd v) i * 10 ^ i).sum % 2 ^ 32 = v
  rw [hdigits, sum_decimal_digits]
  omega

theorem badDigit_toBcd (v : Nat) : badDigit (toBcd v) = false := by
  simp only [badDigit, List.any_eq_false, List.mem_range, decide_eq_true_eq, Nat.not_lt]
  intro i hi
  rw [digit_toBcd v hi]
  omega

/-- Settles O21: the packed digits are the decimal digits, none above 9. -/
theorem decimalConversion : Obligations.DecimalConversion := by
  intro f a ha
  have hpacked : (cvbdF f a).1 = toBcd a := by simp only [cvbdF, Nat.mod_eq_of_lt ha]
  rw [hpacked]
  refine ⟨cvdbF_toBcd ha, ?_, ?_, ?_⟩
  · simp [cvbdF, getF_setF, fN, fZ, fC, fV, ha]
  · simp [cvdbF, fN, fZ, fC, fV, badDigit_toBcd]
  · simp [cvdbF, getF_setF, fN, fZ, fC, fV]

end Sys2Proof.FlagProofs

/-! A step by the queue, the state after reset, and a burst of the data port (R302, R303). -/

namespace Sys2Proof.BasicProofs

open Sys2Proof Sys2Proof.Machine Sys2Proof.Laws

/-- Settles O1. -/
theorem stepRunsFront : Obligations.StepRunsFront := by
  intro s c q h
  simp only [step, h]

theorem elapse_now (s : State) (n : Nat) : (s.elapse n).now = s.now + n := by
  unfold State.elapse
  dsimp only
  split <;> rfl

theorem elapse_pending (s : State) (n : Nat) : (s.elapse n).pending = s.pending :=
  (elapse_keeps (List.Subset.refl _) (keeps_refl _ s)).only.same .pending (by decide)

/-- The parts a microsecond without a command may change once the clock has moved on. -/
def idleParts : List Part :=
  [.wt, .free, .out, .clk, .links, .pwr, .rcd, .flt, .cmd, .sw, .drv, .fld, .loom, .weft, .can, .nm, .eth, .far, .twin, .acc]

theorem idleStep_keeps_elapse (s : State) : Keeps idleParts (s.elapse 1) s.idleStep := by
  unfold State.idleStep
  exact keeps_ite (markWork_keeps (by decide) (onWt_keeps (by decide) (keeps_refl _ _)))
    (powerWatch_keeps (by decide) (drainEth_keeps (by decide) (keeps_refl _ _)))

/-- Settles O2. -/
theorem emptyQueueTicks : Obligations.EmptyQueueTicks := by
  intro s h
  have hidle := (idleStep_keeps_elapse s).only
  refine ⟨s.idleStep, by simp only [step, h], ?_, ?_⟩
  · exact (hidle.same .now (by decide)).trans (elapse_now s 1)
  · exact (hidle.same .pending (by decide)).trans ((elapse_pending s 1).trans h)

/-- Settles O3. -/
theorem resetState : Obligations.ResetState := by
  refine ⟨rfl, ⟨by decide, by decide⟩, ⟨by decide, by decide, by decide⟩, rfl, fun c => ?_, fun c => ?_, rfl, rfl, rfl, rfl, rfl, rfl⟩
  · revert c
    decide
  · revert c
    decide

/-! ## Bytes written and read back -/

theorem readBytes_writeBytes {m : List Host.Cell} (a : Nat) (b : List Byte) (h : Memory.wf m = true) :
    Memory.readBytes (Memory.writeBytes m a b) a b.length = b := by
  induction b generalizing m a with
  | nil => rfl
  | cons x b ih =>
    have hwf := Memory.wf_write a x h
    have hfirst : Memory.read (Memory.writeBytes (Memory.write m a x) (a + 1) b) a = x := by
      rw [Memory.read_writeBytes_of_outside (a + 1) b a hwf (Or.inl (Nat.lt_succ_self a)), Memory.read_write a x a h, if_pos rfl]
    rw [List.length_cons, Memory.readBytes, Memory.writeBytes, hfirst, ih (a + 1) hwf]

/-- Settles O37. -/
theorem dataPortMemory : Obligations.DataPortMemory := by
  intro s a b hwf _
  exact ⟨readBytes_writeBytes a b hwf, Memory.wf_writeBytes a b hwf, fun x hx => Memory.read_writeBytes_of_outside a b x hwf hx⟩

end Sys2Proof.BasicProofs

/-! The Loom's instructions begin where the budget allows them and take effect as their row says (R82, R116, R117). -/

namespace Sys2Proof.LoomRowProofs

open Sys2Proof Sys2Proof.Machine Sys2Proof.Laws Sys2Proof.LoomProofs

/-! ## One instruction -/

/-- Does an instruction end the segment, so that no cycle need be left to save the context (R116)? -/
def ending (r : Done) : Bool := r.yields || (r.ends && r.fault.isNone)

/-- A legal instruction at the Loom's PC, outside a repeat, takes effect if it fits the budget and is the budget fault if not. -/
theorem loomRow_eq {s : State} {g : Seg} {row : Nat} {sel : Nat → Bool} {sem : Ins → State → Done} (h : LoomAt s g row) (hsel : sel row = true) :
    s.loomRow sel sem = (if s.loom.cyc + (sem s.nowIns (settled s)).cycles + (sem s.nowIns (settled s)).ahead +
        (if ending (sem s.nowIns (settled s)) then 0 else 3) ≤ g.stop then State.finishIns g s.nowIns (sem s.nowIns (settled s))
      else (settled s).budgetFault g).boundary := by
  obtain ⟨hseg, hready, hfetch, hrow, hlegal, hrep⟩ := h
  obtain ⟨m, lo, hi, hs⟩ := settle_eq s.loom s.loom.cyc
  simp only [State.loomRow, settled, ending, hseg, hready, hfetch, hrow, hlegal, hsel, hs, hrep, onLoom_loom, Bool.not_true, Bool.or_self,
    Bool.false_eq_true, if_false, if_true, decide_eq_true_eq]
  rfl

theorem settled_cyc (s : State) : (settled s).loom.cyc = s.loom.cyc := by
  obtain ⟨m, lo, hi, hs⟩ := settle_eq s.loom s.loom.cyc
  simp only [settled, onLoom_loom, hs]

/-- What every row's command does at a legal instruction of its row. -/
def RunsRow (c : Instr) (row : Nat) (sem : Ins → State → Done) : Prop :=
  ∃ sel : Nat → Bool, sel row = true ∧ ∀ s : State, s.fetchOk = true → exec c s = .next (s.loomRow sel sem)

theorem runsRow_of_isRow {c : Instr} {row : Nat} {sem : Ins → State → Done} (h : ∀ s, exec c s = .next (s.loomRow (isRow row) sem)) :
    RunsRow c row sem := ⟨isRow row, beq_self_eq_true row, fun s _ => h s⟩

theorem runsRow_nop : RunsRow .nop 0x00 (fun i s => i.plain s) :=
  ⟨fun o => o == 0 || (opShape o).isNone, rfl, fun s h => by
    show Host.Outcome.next (opNop s) = _
    rw [opNop, if_pos h]⟩

theorem RunsRow.completes {c : Instr} {row : Nat} {sem : Ins → State → Done} (h : RunsRow c row sem)
    (hend : row = 0x64 ∨ row = 0x65 → ∀ i s, ending (sem i s) = true) : LoomCompletes c row sem := by
  obtain ⟨sel, hsel, hexec⟩ := h
  intro s g hat fits
  obtain ⟨hseg, hready, hfetch, -⟩ := id hat
  rw [hexec s hfetch, loomRow_eq hat hsel, if_pos]
  rw [settled_cyc] at fits
  by_cases hrow : row = 0x64 ∨ row = 0x65
  · rwa [hend hrow, if_pos rfl, if_pos hrow] at *
  · rw [if_neg hrow] at fits
    split <;> omega

theorem RunsRow.completes_of_going {c : Instr} {row : Nat} {sem : Ins → State → Done} (h : RunsRow c row sem) (hrow : ¬ (row = 0x64 ∨ row = 0x65)) :
    LoomCompletes c row sem := h.completes fun k => absurd k hrow

/-- A product stands once its cycle has come (R90). -/
theorem settle_of_ready {l : Loom} {m : Mul} {k : Nat} (h : l.mul = some m) (hready : m.ready ≤ k) :
    l.settle k = { l with mul := none, mlo := m.product.setWidth 32, mhi := (m.product >>> 32).setWidth 32 } := by
  simp only [Loom.settle, h, if_pos hready]

theorem exec_mulComplete_of_ready (s : State) (m : Mul) (h : s.loom.mul = some m)
    (hready : m.ready ≤ if s.loom.seg.isSome = true then s.loom.cyc else max s.loom.cyc (s.warp % 1000 * 250)) :
    ∃ t, exec .mulComplete s = .next t ∧ t.loom.mlo = m.product.setWidth 32 ∧ t.loom.mhi = (m.product >>> 32).setWidth 32 ∧ t.loom.mul = none := by
  refine ⟨opMulComplete s, rfl, ?_⟩
  rw [opMulComplete, onLoom_loom, settle_of_ready h hready]
  exact ⟨rfl, rfl, rfl⟩

/-- Settles O17. -/
theorem loomDataComplete : Obligations.LoomDataComplete := by
  refine ⟨runsRow_nop.completes_of_going (by decide), ?_, ?_, ?_, ?_, ?_, ?_, ?_, ?_, ?_, ?_, ?_, ?_, ?_, ?_, ?_, ?_, ?_, ?_, ?_, ?_, ?_, ?_, ?_, ?_, ?_, ?_,
    ?_, ?_, ?_, ?_, ?_, ?_, exec_mulComplete_of_ready⟩
  all_goals exact (runsRow_of_isRow fun _ => rfl).completes_of_going (by decide)

/-- Settles O18. -/
theorem loomControlComplete : Obligations.LoomControlComplete := by
  refine ⟨?_, ?_, ?_, ?_, ?_, ?_, ?_, ?_, ?_, ?_, ?_, ?_, ?_, ?_⟩
  case refine_5 => exact (runsRow_of_isRow fun _ => rfl).completes fun _ _ _ => rfl
  case refine_6 => exact (runsRow_of_isRow fun _ => rfl).completes fun _ _ _ => rfl
  all_goals exact (runsRow_of_isRow fun _ => rfl).completes_of_going (by decide)

/-! ## The budget (R117) -/

/-- An instruction that takes no less than the cycles of R81 and ends no activation without a fault. -/
def GoesOn (sem : Ins → State → Done) : Prop := ∀ i s, i.cycles ≤ (sem i s).cycles ∧ ending (sem i s) = false

theorem goesOn_of_plain {sem : Ins → State → Done} (h : ∀ i s, ∃ u j st f, sem i s = { i.plain u with jump := j, stay := st, fault := f }) : GoesOn sem := by
  intro i s
  obtain ⟨u, j, st, f, hplain⟩ := h i s
  rw [hplain]
  exact ⟨Nat.le_refl _, rfl⟩

/-- A legal instruction that does not fit the budget is not begun. -/
theorem RunsRow.budgetFault {c : Instr} {row : Nat} {sem : Ins → State → Done} (h : RunsRow c row sem) (hgo : GoesOn sem) {s : State} {g : Seg}
    (hat : LoomAt s g row) (hfew : g.stop < (settled s).loom.cyc + s.nowIns.cycles + 3) :
    exec c s = .next ((settled s).budgetFault g).boundary := by
  obtain ⟨sel, hsel, hexec⟩ := h
  obtain ⟨hseg, hready, hfetch, -⟩ := id hat
  obtain ⟨hcycles, hend⟩ := hgo s.nowIns (settled s)
  rw [settled_cyc] at hfew
  rw [hexec s hfetch, loomRow_eq hat hsel, if_neg]
  rw [hend, if_neg Bool.false_ne_true]
  omega

theorem goesOn_unary (f : BitVec 5 → Nat → Nat → Nat × BitVec 5) : GoesOn (semUnary f) := goesOn_of_plain fun _ _ => ⟨_, _, _, _, rfl⟩

theorem goesOn_binary (f : BitVec 5 → Nat → Nat → Nat → Nat × BitVec 5) : GoesOn (semBinary f) := goesOn_of_plain fun _ _ => ⟨_, _, _, _, rfl⟩

theorem goesOn_compare (f : BitVec 5 → Nat → Nat → Nat → BitVec 5) : GoesOn (semCompare f) := goesOn_of_plain fun _ _ => ⟨_, _, _, _, rfl⟩

theorem goesOn_modify (f : BitVec 5 → Nat → Nat → Nat → Nat × BitVec 5) : GoesOn (semModify f) := goesOn_of_plain fun _ _ => ⟨_, _, _, _, rfl⟩

theorem goesOn_mul (sgn : Bool) : GoesOn (semMul sgn) := goesOn_of_plain fun _ _ => ⟨_, _, _, _, rfl⟩

theorem goesOn_lea : GoesOn semLea := goesOn_of_plain fun _ _ => ⟨_, _, _, _, rfl⟩

theorem goesOn_bcc : GoesOn semBcc := goesOn_of_plain fun _ _ => ⟨_, _, _, _, rfl⟩

theorem goesOn_recv : GoesOn semRecv := goesOn_of_plain fun _ _ => ⟨_, _, _, _, rfl⟩

theorem goesOn_gets : GoesOn semGets := goesOn_of_plain fun _ _ => ⟨_, _, _, _, rfl⟩

theorem goesOn_send : GoesOn semSend := by
  refine goesOn_of_plain fun i s => ?_
  unfold semSend
  dsimp only
  split
  · exact ⟨_, _, _, _, rfl⟩
  · exact ⟨_, _, _, _, rfl⟩

theorem goesOn_call : GoesOn semCall := by
  intro i s
  unfold semCall
  dsimp only
  split
  · exact ⟨Nat.le_refl _, rfl⟩
  · exact ⟨Nat.le_refl _, rfl⟩

theorem goesOn_ret : GoesOn semRet := by
  intro i s
  unfold semRet
  dsimp only
  split
  · exact ⟨Nat.le_refl _, rfl⟩
  · split
    · exact ⟨Nat.le_refl _, rfl⟩
    · exact ⟨Nat.le_refl _, rfl⟩

/-- A void target ends the activation with the address fault of its operand (R99). -/
theorem goesOn_jmpi : GoesOn (semOne semJmpi) := by
  intro i s
  unfold semOne semJmpi
  obtain ⟨a, fa, u⟩ := s.readOp i.a i.xa 4
  cases fa with
  | some x => exact ⟨Nat.le_refl _, rfl⟩
  | none =>
    by_cases hfar : 0x80000 ≤ a
    · simp [hfar, ending, Ins.plain]
    · simp [hfar, ending, Ins.plain]

theorem goesOn_nop : GoesOn fun i s => i.plain s := goesOn_of_plain fun _ _ => ⟨_, _, _, _, rfl⟩

theorem goesOn_fence : GoesOn fun i s => { i.plain s with fault := if s.unacked = 0 then none else some (0x9025, s.unacked) } :=
  goesOn_of_plain fun _ _ => ⟨_, _, _, _, rfl⟩

/-- A command and its row, of a meaning that the budget monitor judges by the cycles of R81. -/
def BudgetRow (p : Instr × Nat) : Prop := ∃ sem, RunsRow p.1 p.2 sem ∧ GoesOn sem

theorem budgetRow {c : Instr} {row : Nat} {sem : Ins → State → Done} (hgo : GoesOn sem) (h : ∀ s, exec c s = .next (s.loomRow (isRow row) sem)) :
    BudgetRow (c, row) := ⟨sem, runsRow_of_isRow h, hgo⟩

theorem budgetRows : ∀ p ∈ ([(.nop, 0x00), (.mov, 0x04), (.movsx, 0x08), (.lea, 0x0E), (.add, 0x10), (.adc, 0x14), (.sub, 0x18), (.sbc, 0x1C), (.and, 0x20), (.or, 0x24),
        (.xor, 0x28), (.not, 0x2C), (.neg, 0x30), (.shl, 0x34), (.shr, 0x38), (.sar, 0x3C), (.ror, 0x40), (.cmp, 0x44), (.tst, 0x48), (.addm, 0x4C),
        (.subm, 0x50), (.bset, 0x54), (.bclr, 0x58), (.btst, 0x5C), (.bcc, 0x60), (.call, 0x61), (.ret, 0x62), (.jmpi, 0x63), (.mulu, 0x68),
        (.muls, 0x69), (.dadd, 0x6C), (.dadc, 0x6D), (.dsub, 0x6E), (.dsbc, 0x6F), (.dadj, 0x70), (.cvbd, 0x71), (.cvdb, 0x72), (.send, 0x78),
        (.recv, 0x79), (.fence, 0x7A), (.gets, 0x7C)] : List (Instr × Nat)), BudgetRow p := by
  simp only [List.forall_mem_cons]
  refine ⟨⟨_, runsRow_nop, goesOn_nop⟩, budgetRow (goesOn_unary _) fun _ => rfl, budgetRow (goesOn_unary _) fun _ => rfl,
    budgetRow goesOn_lea fun _ => rfl, budgetRow (goesOn_binary _) fun _ => rfl, budgetRow (goesOn_binary _) fun _ => rfl,
    budgetRow (goesOn_binary _) fun _ => rfl, budgetRow (goesOn_binary _) fun _ => rfl, budgetRow (goesOn_binary _) fun _ => rfl,
    budgetRow (goesOn_binary _) fun _ => rfl, budgetRow (goesOn_binary _) fun _ => rfl, budgetRow (goesOn_unary _) fun _ => rfl,
    budgetRow (goesOn_unary _) fun _ => rfl, budgetRow (goesOn_binary _) fun _ => rfl, budgetRow (goesOn_binary _) fun _ => rfl,
    budgetRow (goesOn_binary _) fun _ => rfl, budgetRow (goesOn_binary _) fun _ => rfl, budgetRow (goesOn_compare _) fun _ => rfl,
    budgetRow (goesOn_compare _) fun _ => rfl, budgetRow (goesOn_modify _) fun _ => rfl, budgetRow (goesOn_modify _) fun _ => rfl,
    budgetRow (goesOn_modify _) fun _ => rfl, budgetRow (goesOn_modify _) fun _ => rfl, budgetRow (goesOn_compare _) fun _ => rfl,
    budgetRow goesOn_bcc fun _ => rfl, budgetRow goesOn_call fun _ => rfl, budgetRow goesOn_ret fun _ => rfl, budgetRow goesOn_jmpi fun _ => rfl,
    budgetRow (goesOn_mul _) fun _ => rfl, budgetRow (goesOn_mul _) fun _ => rfl, budgetRow (goesOn_binary _) fun _ => rfl,
    budgetRow (goesOn_binary _) fun _ => rfl, budgetRow (goesOn_binary _) fun _ => rfl, budgetRow (goesOn_binary _) fun _ => rfl,
    budgetRow (goesOn_unary _) fun _ => rfl, budgetRow (goesOn_unary _) fun _ => rfl, budgetRow (goesOn_unary _) fun _ => rfl,
    budgetRow goesOn_send fun _ => rfl, budgetRow goesOn_recv fun _ => rfl, budgetRow goesOn_fence fun _ => rfl,
    budgetRow goesOn_gets fun _ => rfl, List.forall_mem_nil _⟩

/-- Settles O19: every row of the list runs its meaning, and none of those ends an activation without a fault. -/
theorem loomBudget : Obligations.LoomBudget := by
  intro s g p hp hat hfew
  obtain ⟨sem, hrun, hgo⟩ := budgetRows p hp
  exact hrun.budgetFault hgo hat hfew

end Sys2Proof.LoomRowProofs

/-! The Loom's registers and operands (R70, R77 to R79), and where an instruction that goes on leaves the Loom (R116). -/

namespace Sys2Proof.OperandProofs

open Sys2Proof Sys2Proof.Machine Sys2Proof.Laws Sys2Proof.LoomProofs Sys2Proof.LoomRowProofs

/-! ## Registers -/

theorem sReg_lt (x : Nat) : sReg x < 32 := Nat.mod_lt _ (by decide)

/-- Two registers of the window stand in two places of the file. -/
theorem window_ne {b r q : Nat} (hr : 8 ≤ r) (hrw : r < 32) (hq : 8 ≤ q) (hqw : q < 32) (h : r ≠ q) : (b + (r - 8)) % 2048 ≠ (b + (q - 8)) % 2048 := by
  omega

theorem reg_setReg_self (l : Loom) (r v : Nat) : (l.setReg r v).reg r = v % 2 ^ 32 := by
  unfold Loom.setReg Loom.reg
  by_cases hr : r < 8
  · simp [hr, w32]
  · simp [hr, w32]

theorem reg_setReg_ne (l : Loom) {r q : Nat} (v : Nat) (hr : r < 32) (hq : q < 32) (h : q ≠ r) : (l.setReg r v).reg q = l.reg q := by
  unfold Loom.setReg Loom.reg
  by_cases hr8 : r < 8
  · by_cases hq8 : q < 8
    · simp [hr8, hq8, Tab.get_put_ne, h]
    · simp [hr8, hq8]
  · by_cases hq8 : q < 8
    · simp [hr8, hq8]
    · have hplace := window_ne (b := l.wbase) (by omega) hq (by omega) hr h
      simp [hr8, hq8, Tab.get_put_ne, hplace]

theorem reg_lt (l : Loom) (r : Nat) : l.reg r < 2 ^ 32 := by
  unfold Loom.reg
  split
  · exact BitVec.isLt _
  · exact BitVec.isLt _

/-- A register changes in the G registers or in the file. -/
theorem setReg_eq (l : Loom) (r v : Nat) : ∃ gs file, l.setReg r v = { l with g := gs, file := file } := by
  unfold Loom.setReg
  split
  · exact ⟨_, _, rfl⟩
  · exact ⟨_, _, rfl⟩

/-! ## Reading operands -/

/-- An operand form changes the register it counts up or down, if any (R77). -/
theorem loc_eq (l : Loom) (x ext size : Nat) : ∃ gs file, (l.loc x ext size).2 = { l with g := gs, file := file } := by
  unfold Loom.loc
  dsimp only
  split
  case h_7 => exact setReg_eq ..
  case h_8 => exact setReg_eq ..
  all_goals exact ⟨_, _, rfl⟩

/-- From one state to another only registers and the multiplier have changed. -/
def Reads (s u : State) : Prop :=
  ∃ gs file mul lo hi, u = s.onLoom fun l => { l with g := gs, file := file, mul := mul, mlo := lo, mhi := hi }

theorem Reads.trans {s u x : State} (h : Reads s u) (k : Reads u x) : Reads s x := by
  obtain ⟨gs, file, mul, lo, hi, rfl⟩ := h
  obtain ⟨gs', file', mul', lo', hi', rfl⟩ := k
  exact ⟨gs', file', mul', lo', hi', rfl⟩

theorem reads_settled (s : State) : Reads s (settled s) := by
  obtain ⟨m, lo, hi, h⟩ := settle_eq s.loom s.loom.cyc
  refine ⟨s.loom.g, s.loom.file, m, lo, hi, ?_⟩
  simp only [settled, State.onLoom, h]

theorem reads_onLoom_loc (s : State) (x ext size : Nat) : Reads s (s.onLoom fun _ => (s.loom.loc x ext size).2) := by
  obtain ⟨gs, file, h⟩ := loc_eq s.loom x ext size
  rw [h]
  exact ⟨gs, file, _, _, _, rfl⟩

theorem readOp_state (s : State) (x ext size : Nat) : (s.readOp x ext size).2.2 = s.onLoom fun _ => (s.loom.loc x ext size).2 := by
  unfold State.readOp
  dsimp only
  split
  · rfl
  · rfl
  · split
    · rfl
    · rfl

theorem reads_of_readOp {s u : State} {x ext size v : Nat} {f : Option Nat} (h : s.readOp x ext size = (v, f, u)) : Reads s u := by
  have hstate := readOp_state s x ext size
  rw [h] at hstate
  rw [show u = _ from hstate]
  exact reads_onLoom_loc ..

/-- Everything the sources leave alone: the Loom's place, flags, window, queues and repeat. -/
theorem Reads.control {s u : State} (h : Reads s u) :
    u.loom.cyc = s.loom.cyc ∧ u.loom.flg = s.loom.flg ∧ u.loom.wbase = s.loom.wbase ∧ u.loom.rep = s.loom.rep ∧ u.loom.seg = s.loom.seg ∧
      u.loom.rpc = s.loom.rpc ∧ u.loom.rx = s.loom.rx := by
  obtain ⟨gs, file, mul, lo, hi, rfl⟩ := h
  exact ⟨rfl, rfl, rfl, rfl, rfl, rfl, rfl⟩

theorem Reads.only {s u : State} (h : Reads s u) : Only [.loom] s u := by
  obtain ⟨gs, file, mul, lo, hi, rfl⟩ := h
  exact (onLoom_keeps (List.Subset.refl _) (keeps_refl _ s)).only

section

/-! ## The state an instruction without operands works on -/

/-- The multiplier's product may have come to stand; nothing else has changed. -/
theorem settled_loom (s : State) : ∃ mul lo hi, (settled s).loom = { s.loom with mul := mul, mlo := lo, mhi := hi } := settle_eq s.loom s.loom.cyc

@[simp] theorem settled_flg (s : State) : (settled s).loom.flg = s.loom.flg := (reads_settled s).control.2.1

@[simp] theorem settled_wbase (s : State) : (settled s).loom.wbase = s.loom.wbase := (reads_settled s).control.2.2.1

@[simp] theorem settled_rep (s : State) : (settled s).loom.rep = s.loom.rep := (reads_settled s).control.2.2.2.1

@[simp] theorem settled_seg (s : State) : (settled s).loom.seg = s.loom.seg := (reads_settled s).control.2.2.2.2.1

@[simp] theorem settled_g (s : State) : (settled s).loom.g = s.loom.g := by
  obtain ⟨m, lo, hi, h⟩ := settled_loom s
  rw [h]

@[simp] theorem settled_file (s : State) : (settled s).loom.file = s.loom.file := by
  obtain ⟨m, lo, hi, h⟩ := settled_loom s
  rw [h]

@[simp] theorem settled_mem (s : State) : (settled s).mem = s.mem := rfl

@[simp] theorem settled_weft (s : State) : (settled s).weft = s.weft := rfl

@[simp] theorem settled_reg (s : State) (r : Nat) : (settled s).loom.reg r = s.loom.reg r := by
  obtain ⟨m, lo, hi, h⟩ := settled_loom s
  rw [h]
  rfl

@[simp] theorem settled_region (s : State) : (settled s).region = s.region := by
  simp only [State.region, settled_seg]
  rfl

variable {s u : State}

theorem Reads.flg (h : Reads s u) : u.loom.flg = s.loom.flg := h.control.2.1

theorem Reads.wbase (h : Reads s u) : u.loom.wbase = s.loom.wbase := h.control.2.2.1

theorem Reads.rep (h : Reads s u) : u.loom.rep = s.loom.rep := h.control.2.2.2.1

theorem Reads.seg (h : Reads s u) : u.loom.seg = s.loom.seg := h.control.2.2.2.2.1

theorem Reads.mem (h : Reads s u) : u.mem = s.mem := h.only.same .mem (by decide)

end

/-! ## Going on -/

/-- The Loom after an instruction that goes on: its cycles spent, PC at `p`. -/
def landed (g : Seg) (i : Ins) (u : State) (c p : Nat) : State := (u.spend g.task c).onLoom fun l => { l with last := i.addr, pc := p % 2 ^ 32 }

@[simp] theorem landed_loom (g : Seg) (i : Ins) (u : State) (c p : Nat) :
    (landed g i u c p).loom = { u.loom with cyc := u.loom.cyc + c, last := i.addr, pc := p % 2 ^ 32 } := rfl

@[simp] theorem landed_reg (g : Seg) (i : Ins) (u : State) (c p r : Nat) : (landed g i u c p).loom.reg r = u.loom.reg r := rfl

@[simp] theorem landed_mem (g : Seg) (i : Ins) (u : State) (c p : Nat) : (landed g i u c p).mem = u.mem := rfl

@[simp] theorem landed_flt (g : Seg) (i : Ins) (u : State) (c p : Nat) : (landed g i u c p).flt = u.flt := rfl

@[simp] theorem landed_link (g : Seg) (i : Ins) (u : State) (c p : Nat) (k : LinkNo) : (landed g i u c p).link k = u.link k := rfl

/-- What an instruction does that has no fault and ends nothing: its results, cycles, iterations ahead, and where it goes. -/
def goingOn (u : State) (c a : Nat) (jump : Option Nat) : Done :=
  { s := u, cycles := c, ahead := a, jump := jump, stay := false, ends := false, yields := false, fault := none }

theorem finishIns_jump (g : Seg) (i : Ins) (u : State) (c a p : Nat) : State.finishIns g i (goingOn u c a (some p)) = landed g i u c p := rfl

theorem finishIns_next (g : Seg) (i : Ins) {u : State} (c : Nat) (h : u.loom.rep = none) :
    State.finishIns g i (goingOn u c 0 none) = landed g i u c i.after := by
  show (u.spend g.task c).onLoom (fun l => ({ l with last := i.addr } : Loom).iterate i) = _
  simp [landed, State.onLoom, Loom.iterate, h]

theorem boundary_of_seg {s : State} {g : Seg} (h : s.loom.seg = some g) : s.boundary = s := by
  simp [State.boundary, h]

variable {c : Instr} {row : Nat} {sem : Ins → State → Done} {s u : State} {g : Seg} {k a p : Nat} {j : Option Nat}

/-- A command whose instruction goes on runs it where the budget allows. -/
theorem exec_goingOn (h : RunsRow c row sem) (hat : LoomAt s g row) (hr : sem s.nowIns (settled s) = goingOn u k a j)
    (fits : s.loom.cyc + k + a + 3 ≤ g.stop) : exec c s = .next (State.finishIns g s.nowIns (goingOn u k a j)).boundary := by
  obtain ⟨sel, hsel, hexec⟩ := h
  obtain ⟨-, -, hfetch, -⟩ := id hat
  have hfits : s.loom.cyc + (goingOn u k a j).cycles + (goingOn u k a j).ahead + (if ending (goingOn u k a j) then 0 else 3) ≤ g.stop := fits
  rw [hexec s hfetch, loomRow_eq hat hsel, hr, if_pos hfits]

/-- One whose instruction goes on in sequence leaves the Loom after it. -/
theorem exec_next (h : RunsRow c row sem) (hat : LoomAt s g row) (hr : sem s.nowIns (settled s) = goingOn u k 0 none)
    (hseg : u.loom.seg = s.loom.seg) (hrep : u.loom.rep = s.loom.rep) (fits : s.loom.cyc + k + 3 ≤ g.stop) :
    exec c s = .next (landed g s.nowIns u k s.nowIns.after) := by
  obtain ⟨hat_seg, -, -, -, -, hat_rep⟩ := id hat
  rw [exec_goingOn h hat hr fits, finishIns_next _ _ _ (hrep.trans hat_rep), boundary_of_seg (s := landed ..) (hseg.trans hat_seg)]

/-- One whose instruction goes elsewhere leaves it there. -/
theorem exec_jump (h : RunsRow c row sem) (hat : LoomAt s g row) (hr : sem s.nowIns (settled s) = goingOn u k a (some p))
    (hseg : u.loom.seg = s.loom.seg) (fits : s.loom.cyc + k + a + 3 ≤ g.stop) : exec c s = .next (landed g s.nowIns u k p) := by
  obtain ⟨hat_seg, -⟩ := id hat
  rw [exec_goingOn h hat hr fits, finishIns_jump, boundary_of_seg (s := landed ..) (hseg.trans hat_seg)]

end Sys2Proof.OperandProofs

/-! The results of the Loom's control instructions (R72, R73, R84 to R89, R94, R95, R97, R98). -/

namespace Sys2Proof.ControlProofs

open Sys2Proof Sys2Proof.Machine Sys2Proof.Laws Sys2Proof.LoomProofs Sys2Proof.LoomRowProofs Sys2Proof.OperandProofs

variable {s u x : State} {g : Seg}

theorem unsigned_lt (w : Nat) (v : Int) : unsigned w v < 2 ^ w := by
  have hpos : (0 : Int) < (2 ^ w : Nat) := by exact_mod_cast Nat.two_pow_pos w
  have hlt := Int.emod_lt_of_pos v hpos
  have hge := Int.emod_nonneg v hpos.ne'
  simp only [unsigned]
  omega

theorem bits_lt (v lo w : Nat) : bits v lo w < 2 ^ w := Nat.mod_lt _ (Nat.two_pow_pos w)

/-! ## Branches, calls and jumps -/

theorem semBcc_of_holds (i : Ins) {v : State} (h : condHolds v.loom.flg (bits i.w 20 4) = true) :
    semBcc i v = goingOn v i.cycles 0 (some (unsigned 32 ((i.addr : Int) + 4 + signed 20 (bits i.w 0 20) * 4))) := by
  simp only [semBcc, h, if_true]
  rfl

theorem semBcc_of_not_holds (i : Ins) {v : State} (h : ¬ condHolds v.loom.flg (bits i.w 20 4) = true) :
    semBcc i v = goingOn v i.cycles 0 none := by
  simp only [semBcc, if_neg h]
  rfl

theorem bcc_result (h : LoomAt s g 0x60) (fits : s.loom.cyc + s.nowIns.cycles + 3 ≤ g.stop) :
    ∃ t, exec .bcc s = .next t ∧
      t.loom.pc = (if condHolds s.loom.flg (bits s.nowIns.w 20 4) then unsigned 32 (s.loom.pc + 4 + 4 * signed 20 (bits s.nowIns.w 0 20))
        else s.nowIns.after) % 2 ^ 32 ∧
      t.loom.flg = s.loom.flg ∧ t.loom.g = s.loom.g ∧ t.loom.file = s.loom.file ∧ t.mem = s.mem ∧ t.loom.cyc = s.loom.cyc + s.nowIns.cycles := by
  have hrun : RunsRow .bcc 0x60 semBcc := runsRow_of_isRow fun _ => rfl
  by_cases hcond : condHolds s.loom.flg (bits s.nowIns.w 20 4) = true
  · have hsem := semBcc_of_holds s.nowIns (v := settled s) (by rwa [settled_flg])
    refine ⟨_, exec_jump hrun h hsem (settled_seg s) fits, ?_⟩
    rw [if_pos hcond, Int.mul_comm 4]
    simp [settled_cyc]
    rfl
  · have hsem := semBcc_of_not_holds s.nowIns (v := settled s) (by rwa [settled_flg])
    refine ⟨_, exec_next hrun h hsem (settled_seg s) (settled_rep s) fits, ?_⟩
    rw [if_neg hcond]
    simp [settled_cyc]

/-- The Loom in a routine called `k` times 4 registers up from address `pc`: the link stands in R31 (R72). -/
def called (k pc : Nat) (l : Loom) : Loom := ({ l with wbase := l.wbase + 4 * k } : Loom).setReg 31 ((pc + 4) % 2 ^ 19 + 2 ^ 24 * k)

/-- R31 stands in the register file. -/
theorem called_eq (k pc : Nat) (l : Loom) : ∃ file, called k pc l = { l with wbase := l.wbase + 4 * k, file := file } := ⟨_, rfl⟩

theorem called_link {k : Nat} (pc : Nat) (l : Loom) (h : k < 2 ^ 3) : (called k pc l).reg 31 = (pc + 4) % 2 ^ 19 + 2 ^ 24 * k := by
  rw [called, reg_setReg_self]
  omega

theorem semCall_of_room (i : Ins) {v : State} (h : v.loom.wbase + 4 * bits i.w 21 3 + 23 ≤ v.region.2) :
    semCall i v = goingOn (v.onLoom (called (bits i.w 21 3) i.addr)) i.cycles 0
      (some (unsigned 32 ((i.addr : Int) + 4 + signed 21 (bits i.w 0 21) * 4))) := by
  simp only [semCall, if_neg (Nat.not_lt.mpr h)]
  rfl

theorem call_result {k : Nat} (h : LoomAt s g 0x61) (hk : k = bits s.nowIns.w 21 3) (hroom : s.loom.wbase + 4 * k + 23 ≤ s.region.2)
    (fits : s.loom.cyc + s.nowIns.cycles + 3 ≤ g.stop) :
    ∃ t, exec .call s = .next t ∧ t.loom.wbase = s.loom.wbase + 4 * k ∧
      t.loom.pc = unsigned 32 (s.loom.pc + 4 + 4 * signed 21 (bits s.nowIns.w 0 21)) ∧ t.loom.reg 31 = (s.loom.pc + 4) % 2 ^ 19 + 2 ^ 24 * k ∧
      t.loom.flg = s.loom.flg ∧ t.loom.g = s.loom.g ∧ t.mem = s.mem := by
  have hrun : RunsRow .call 0x61 semCall := runsRow_of_isRow fun _ => rfl
  have hk8 : k < 2 ^ 3 := hk ▸ bits_lt ..
  have hsem := semCall_of_room s.nowIns (v := settled s) (by rwa [settled_wbase, settled_region, ← hk])
  rw [← hk] at hsem
  obtain ⟨file, hcalled⟩ := called_eq k s.nowIns.addr (settled s).loom
  have hseg : ((settled s).onLoom (called k s.nowIns.addr)).loom.seg = s.loom.seg := by
    rw [onLoom_loom, hcalled]
    exact settled_seg s
  refine ⟨_, exec_jump hrun h hsem hseg fits, ?_⟩
  have hpc := Nat.mod_eq_of_lt (unsigned_lt 32 ((s.nowIns.addr : Int) + 4 + signed 21 (bits s.nowIns.w 0 21) * 4))
  rw [landed_reg, landed_loom, onLoom_loom, called_link _ _ hk8, hpc]
  refine ⟨?_, ?_, rfl, ?_, ?_, ?_⟩
  · simp [hcalled]
  · rw [Int.mul_comm 4]
    rfl
  · simp [hcalled]
  · simp [hcalled]
  · simp

theorem semRet_of_link (i : Ins) {v : State} {k p : Nat} (hk : 1 ≤ k) (hk6 : k ≤ 6) (hp : p < 2 ^ 19) (hlink : v.loom.reg 31 = p + 2 ^ 24 * k)
    (hroom : v.region.1 + 4 * k ≤ v.loom.wbase) :
    semRet i v = goingOn (v.onLoom fun l => { l with wbase := l.wbase - 4 * k }) i.cycles 0 (some p) := by
  have hcount : bits (p + 2 ^ 24 * k) 24 3 = k := by
    simp only [bits, Nat.shiftRight_eq_div_pow]
    omega
  have hplace : bits (p + 2 ^ 24 * k) 0 19 = p := by
    simp only [bits, Nat.shiftRight_eq_div_pow]
    omega
  have hgood : ¬ (k = 0 ∨ k = 7 ∨ p + 2 ^ 24 * k ≠ p + 2 ^ 24 * k) := by omega
  simp only [semRet, hlink, hcount, hplace, if_neg hgood, if_neg (Nat.not_lt.mpr hroom)]
  rfl

theorem ret_result {k p : Nat} (h : LoomAt s g 0x62) (hk : 1 ≤ k) (hk6 : k ≤ 6) (hp : p < 2 ^ 19) (hlink : s.loom.reg 31 = p + 2 ^ 24 * k)
    (hroom : s.region.1 + 4 * k ≤ s.loom.wbase) (fits : s.loom.cyc + s.nowIns.cycles + 3 ≤ g.stop) :
    ∃ t, exec .ret s = .next t ∧ t.loom.wbase = s.loom.wbase - 4 * k ∧ t.loom.pc = p ∧ t.loom.flg = s.loom.flg ∧ t.loom.g = s.loom.g ∧
      t.loom.file = s.loom.file ∧ t.mem = s.mem := by
  have hrun : RunsRow .ret 0x62 semRet := runsRow_of_isRow fun _ => rfl
  have hsem := semRet_of_link s.nowIns (v := settled s) hk hk6 hp (by rwa [settled_reg]) (by rwa [settled_region, settled_wbase])
  refine ⟨_, exec_jump hrun h hsem (settled_seg s) fits, ?_⟩
  have hpc : p % 2 ^ 32 = p := Nat.mod_eq_of_lt (by omega)
  rw [landed_loom, hpc]
  simp

/-- An instruction of one operand that is readable. -/
theorem semOne_of_read {f : Ins → Nat → Bool → State → State → Done} {i : Ins} {v : State} {a : Nat} (h : v.readOp i.a i.xa 4 = (a, none, u)) :
    semOne f i v = f i a false v u := by
  simp only [semOne, h]
  rfl

theorem jmpi_result {v : Nat} (h : LoomAt s g 0x63) (hread : (settled s).readOp s.nowIns.a s.nowIns.xa 4 = (v, none, u)) (hv : v < 0x80000)
    (fits : s.loom.cyc + s.nowIns.cycles + 3 ≤ g.stop) :
    ∃ t, exec .jmpi s = .next t ∧ t.loom.pc = v / 4 * 4 ∧ t.loom.flg = s.loom.flg ∧ t.loom.wbase = s.loom.wbase ∧ t.mem = s.mem := by
  have hrun : RunsRow .jmpi 0x63 (semOne semJmpi) := runsRow_of_isRow fun _ => rfl
  have hsem : semOne semJmpi s.nowIns (settled s) = goingOn u s.nowIns.cycles 0 (some (v / 4 * 4)) := by
    rw [semOne_of_read hread, semJmpi, if_neg Bool.false_ne_true, if_neg (Nat.not_le.mpr hv)]
    rfl
  have hu := (reads_settled s).trans (reads_of_readOp hread)
  refine ⟨_, exec_jump hrun h hsem hu.seg fits, ?_⟩
  have hpc : v / 4 * 4 % 2 ^ 32 = v / 4 * 4 := Nat.mod_eq_of_lt (by omega)
  rw [landed_loom, landed_mem, hpc]
  exact ⟨rfl, hu.flg, hu.wbase, hu.mem⟩

/-! ## The end of a segment or an activation -/

theorem boundary_of_not_haltDue {v : State} (h : v.weft.haltDue = false) : v.boundary = v := by
  simp [State.boundary, h]

/-- YIELD and DONE need no cycle but their own. -/
theorem exec_ending {c : Instr} {row : Nat} {sem : Ins → State → Done} {r : Done} (h : RunsRow c row sem) (hat : LoomAt s g row)
    (hr : sem s.nowIns (settled s) = r) (hend : ending r = true) (fits : s.loom.cyc + r.cycles + r.ahead ≤ g.stop) :
    exec c s = .next (State.finishIns g s.nowIns r).boundary := by
  obtain ⟨sel, hsel, hexec⟩ := h
  obtain ⟨-, -, hfetch, -⟩ := id hat
  rw [hexec s hfetch, loomRow_eq hat hsel, hr, hend, if_pos rfl, Nat.add_zero, if_pos fits]

/-- What YIELD does. -/
def yielding (i : Ins) (s : State) : Done := { i.plain s with yields := true }

/-- What DONE does. -/
def activationDone (i : Ins) (s : State) : Done := { i.plain s with ends := true }

theorem finishIns_yielding (i : Ins) {v : State} (hrep : v.loom.rep = none) :
    State.finishIns g i (yielding i v) = (landed g i v i.cycles i.after).saveContext (i.after % 2 ^ 32) := by
  show (State.finishIns g i (goingOn v i.cycles 0 none)).saveContext (State.finishIns g i (goingOn v i.cycles 0 none)).loom.pc = _
  rw [finishIns_next g i i.cycles hrep, landed_loom]

theorem finishIns_activationDone (i : Ins) {v : State} (hrep : v.loom.rep = none) :
    State.finishIns g i (activationDone i v) = (landed g i v i.cycles i.after).endActivation g.task := by
  show (State.finishIns g i (goingOn v i.cycles 0 none)).endActivation g.task = _
  rw [finishIns_next g i i.cycles hrep]

/-- What a task's context holds of a Loom that leaves it for `pc`. -/
def contextOf (l : Loom) (pc : Nat) (t : TaskRun) : TaskRun :=
  { t with pc := pc, flg := l.flg.toNat, rpc := l.rpc, wbase := l.wbase, rep := l.rep }

theorem saveContext_of_seg {v : State} (pc : Nat) (h : v.loom.seg = some g) :
    v.saveContext pc = (v.onTask g.task (contextOf v.loom pc)).onLoom fun l => { l with seg := none, rep := none } := by
  simp only [State.saveContext, h]
  rfl

theorem endActivation_of_seg {v : State} (h : v.loom.seg = some g) :
    v.endActivation g.task = (v.onTask g.task fun t => { t with open_ := false }).onLoom fun l => { l with seg := none, rep := none } := by
  unfold State.endActivation
  dsimp only
  simp only [State.onTask, onWeft_loom, h, if_true]

@[simp] theorem task_onLoom (v : State) (f : Loom → Loom) (k : Fin 64) : (v.onLoom f).task k = v.task k := rfl

theorem landed_task (i : Ins) (v : State) (c p : Nat) :
    (landed g i v c p).task g.task = { v.task g.task with cycles := (v.task g.task).cycles + c } :=
  task_onTask (s := v) g.task fun t => { t with cycles := t.cycles + c }

theorem landed_task_ne (i : Ins) (v : State) (c p : Nat) {k : Fin 64} (h : k ≠ g.task) : (landed g i v c p).task k = v.task k :=
  task_onTask_ne (s := v) (fun t => { t with cycles := t.cycles + c }) h

@[simp] theorem mem_onTask (v : State) (k : Fin 64) (f : TaskRun → TaskRun) : (v.onTask k f).mem = v.mem := rfl

@[simp] theorem settled_task (s : State) (k : Fin 64) : (settled s).task k = s.task k := rfl

theorem yield_result (h : LoomAt s g 0x64) (hdue : s.weft.haltDue = false) (fits : s.loom.cyc + s.nowIns.cycles ≤ g.stop) :
    ∃ t, exec .yield s = .next t ∧ t.loom.seg = none ∧ (t.task g.task).pc = s.nowIns.after % 2 ^ 32 ∧ (t.task g.task).flg = s.loom.flg.toNat ∧
      (t.task g.task).rpc = s.loom.rpc ∧ (t.task g.task).wbase = s.loom.wbase ∧ (t.task g.task).open_ = (s.task g.task).open_ ∧ t.mem = s.mem := by
  have hrun : RunsRow .yield 0x64 yielding := runsRow_of_isRow fun _ => rfl
  obtain ⟨hseg, -, -, -, -, hrep⟩ := id h
  have hexec := exec_ending hrun h rfl rfl fits
  have hland : (landed g s.nowIns (settled s) s.nowIns.cycles s.nowIns.after).loom.seg = some g := (settled_seg s).trans hseg
  rw [finishIns_yielding s.nowIns ((settled_rep s).trans hrep), saveContext_of_seg _ hland, boundary_of_not_haltDue (by exact hdue)] at hexec
  refine ⟨_, hexec, rfl, ?_⟩
  rw [task_onLoom, task_onTask, landed_task]
  simp [contextOf, (reads_settled s).control.2.2.2.2.2.1]

theorem done_result (h : LoomAt s g 0x65) (hdue : s.weft.haltDue = false) (fits : s.loom.cyc + s.nowIns.cycles ≤ g.stop) :
    ∃ t, exec .done s = .next t ∧ t.loom.seg = none ∧ (t.task g.task).open_ = false ∧ t.mem = s.mem ∧ ∀ k, k ≠ g.task → t.task k = s.task k := by
  have hrun : RunsRow .done 0x65 activationDone := runsRow_of_isRow fun _ => rfl
  obtain ⟨hseg, -, -, -, -, hrep⟩ := id h
  have hexec := exec_ending hrun h rfl rfl fits
  have hland : (landed g s.nowIns (settled s) s.nowIns.cycles s.nowIns.after).loom.seg = some g := (settled_seg s).trans hseg
  rw [finishIns_activationDone s.nowIns ((settled_rep s).trans hrep), endActivation_of_seg hland, boundary_of_not_haltDue (by exact hdue)] at hexec
  refine ⟨_, hexec, rfl, ?_, by simp, fun k hk => ?_⟩
  · rw [task_onLoom, task_onTask]
  · rw [task_onLoom, task_onTask_ne _ _ hk, landed_task_ne _ _ _ _ hk, settled_task]

/-! ## Repeats -/

/-- The Loom with a count loaded for a repeat (R87). -/
def repeating (susp : Bool) (addr c : Nat) (l : Loom) : Loom := { l with rpc := c, rep := if c = 0 then none else some (susp, addr) }

theorem semRep_of_read {susp : Bool} {i : Ins} {v : State} {a : Nat} (hn : noRepeat (v.fetchIns i.after).opc = false)
    (hread : v.readOp i.a i.xa 4 = (a, none, u)) :
    semRep susp i v = goingOn (u.onLoom (repeating susp i.addr (a % 65536))) i.cycles
      (if susp then 0 else a % 65536 * (if (v.fetchIns i.after).legal then (v.fetchIns i.after).cycles else 1))
      (some (if a % 65536 = 0 then (v.fetchIns i.after).after else i.after)) := by
  simp only [semRep, hn, hread, if_neg Bool.false_ne_true]
  rfl

/-- Where a repeat's count is loaded, and where it goes on. -/
theorem repeat_result {c : Instr} {row v : Nat} {susp : Bool} (hrun : RunsRow c row (semRep susp)) (h : LoomAt s g row)
    (hn : noRepeat (s.fetchIns s.nowIns.after).opc = false) (hread : (settled s).readOp s.nowIns.a s.nowIns.xa 4 = (v, none, u))
    (fits : s.loom.cyc + s.nowIns.cycles +
      (if susp then 0 else v % 65536 * (if (s.fetchIns s.nowIns.after).legal then (s.fetchIns s.nowIns.after).cycles else 1)) + 3 ≤ g.stop) :
    ∃ t, exec c s = .next t ∧ t.loom.rpc = v % 65536 ∧ t.loom.rep = (if v % 65536 = 0 then none else some (susp, s.loom.pc)) ∧
      t.loom.pc = (if v % 65536 = 0 then (s.fetchIns s.nowIns.after).after else s.nowIns.after) % 2 ^ 32 ∧ t.loom.flg = s.loom.flg ∧
      t.mem = s.mem := by
  have hu := (reads_settled s).trans (reads_of_readOp hread)
  have hsem := semRep_of_read (susp := susp) (v := settled s) hn hread
  refine ⟨_, exec_jump hrun h hsem hu.seg fits, ?_⟩
  rw [landed_loom, landed_mem, onLoom_loom, onLoom_mem]
  exact ⟨rfl, rfl, rfl, hu.flg, hu.mem⟩

/-! ## Words sent and received -/

/-- A word offered to a link stands behind the others, in flight or held back. -/
theorem words_offer (l : Link) {typ : Nat} (p : BitVec 64) (ref : Nat) (h : typ ≠ tyAck) : (l.offer typ p ref).words = l.words ++ [p] := by
  unfold Link.offer
  split
  next => simp [Link.words]
  next hroom =>
    have hheld : l.hold = [] := by
      simp only [Bool.or_eq_true, not_or, Bool.not_eq_true, Bool.not_eq_false', List.isEmpty_iff] at hroom
      exact hroom.2
    have hcounts : (ShWord.make typ l.txSeq p ref).counts = true := bne_iff_ne.mpr h
    simp [Link.words, Link.push, hheld, hcounts]
    rfl

/-- The type of the word SEND puts on a link (R94). -/
def sentType (i : Ins) : Nat := if bit i.w 20 then tyCmd else tyData

theorem sentType_ne_tyAck (i : Ins) : sentType i ≠ tyAck := by
  unfold sentType
  split
  · decide
  · decide

theorem countSent_keeps_links (v : State) (port : Nat) (cmd : Bool) : (v.countSent port cmd).links = v.links :=
  (countSent_keeps (List.Subset.refl _) (keeps_refl _ _)).only.same .links (by decide)

theorem countSent_loom (v : State) (port : Nat) (cmd : Bool) : (v.countSent port cmd).loom = v.loom :=
  (countSent_keeps (List.Subset.refl _) (keeps_refl _ _)).only.same .loom (by decide)

theorem countSent_mem (v : State) (port : Nat) (cmd : Bool) : (v.countSent port cmd).mem = v.mem :=
  (countSent_keeps (List.Subset.refl _) (keeps_refl _ _)).only.same .mem (by decide)

/-- SEND's words on its port's link, counted for the island (R94, R121). -/
def sent (i : Ins) (a b : Nat) (v : State) : State :=
  (v.sendWord (portLink (bits i.w 21 3)) (sentType i) (BitVec.ofNat 64 (a + 2 ^ 32 * b))).countSent (bits i.w 21 3) (bit i.w 20)

theorem sent_link (i : Ins) (a b : Nat) (v : State) (k : LinkNo) :
    (sent i a b v).link k = (v.sendWord (portLink (bits i.w 21 3)) (sentType i) (BitVec.ofNat 64 (a + 2 ^ 32 * b))).link k :=
  congrArg (fun l : Tab Link 23 => l.get k) (countSent_keeps_links ..)

theorem semSend_of_read {i : Ins} {v : State} {a b : Nat} (ha : v.readOp i.a i.xa 4 = (a, none, u)) (hb : u.readOp i.b i.xb 4 = (b, none, x))
    (hroom : (x.link (portLink (bits i.w 21 3))).full = false) : semSend i v = goingOn (sent i a b x) i.cycles 0 none := by
  simp only [semSend, ha, hb, hroom, if_neg Bool.false_ne_true]
  rfl

theorem send_result {a b : Nat} {k : LinkNo} (h : LoomAt s g 0x78) (ha : (settled s).readOp s.nowIns.a s.nowIns.xa 4 = (a, none, u))
    (hb : u.readOp s.nowIns.b s.nowIns.xb 4 = (b, none, x)) (hk : k = portLink (bits s.nowIns.w 21 3)) (hroom : (s.link k).full = false)
    (fits : s.loom.cyc + s.nowIns.cycles + 3 ≤ g.stop) :
    ∃ t, exec .send s = .next t ∧ (t.link k).words = (s.link k).words ++ [BitVec.ofNat 64 (a + 2 ^ 32 * b)] ∧
      (∀ j, j ≠ k → t.link j = s.link j) ∧ t.loom.flg = s.loom.flg ∧ t.mem = s.mem := by
  have hrun : RunsRow .send 0x78 semSend := runsRow_of_isRow fun _ => rfl
  have hx := ((reads_settled s).trans (reads_of_readOp ha)).trans (reads_of_readOp hb)
  have hlink (j : LinkNo) : x.link j = s.link j := congrArg (fun l : Tab Link 23 => l.get j) (hx.only.same .links (by decide))
  have hsem := semSend_of_read ha hb (by rw [← hk, hlink, hroom])
  have hloom : (sent s.nowIns a b x).loom = x.loom := countSent_loom ..
  refine ⟨_, exec_next hrun h hsem ((congrArg Loom.seg hloom).trans hx.seg) ((congrArg Loom.rep hloom).trans hx.rep) fits, ?_, fun j hj => ?_, ?_, ?_⟩
  · rw [landed_link, sent_link, ← hk, State.sendWord, link_onLink, words_offer _ _ _ (sentType_ne_tyAck _), hlink]
  · rw [landed_link, sent_link, ← hk, State.sendWord, link_onLink_ne _ _ hj, hlink]
  · rw [landed_loom, hloom]
    exact hx.flg
  · rw [landed_mem, sent, countSent_mem]
    exact hx.mem

theorem bit_bits {v i n : Nat} (h : i < n) : bit (bits v 0 n) i = bit v i := by
  simp only [bit, bits, Nat.shiftRight_zero, Nat.testBit_mod_two_pow, h, decide_true, Bool.true_and]

/-- Writing a register operand writes that register alone (R77). -/
theorem writeOp_register {v : State} {d : Nat} (ext size value : Nat) (h : sMode d = 0) :
    v.writeOp d ext size value = (none, v.onLoom fun l => l.setReg (sReg d) value) := by
  simp only [State.writeOp, Loom.loc, h]
  rfl

/-- The Loom after a word of a port was read, taken where `take` says so: Z tells that there was one (R95). -/
def received (port : Nat) (take : Bool) (l : Loom) : Loom :=
  { l with rx := if take then l.rx.upd (portQueue port) fun q => q.drop 1 else l.rx, flg := setF l.flg fZ false }

theorem semRecv_of_word {i : Ins} {v : State} {w : BitVec 64} {rest : List (BitVec 64)} (hport : bits i.w 13 3 ≠ 4)
    (hq : v.loom.rx.get (portQueue (bits i.w 13 3)) = w :: rest) (hd : sMode i.d = 0) :
    semRecv i v = goingOn ((v.onLoom (received (bits i.w 13 3) (bit i.w 1))).onLoom
      fun l => l.setReg (sReg i.d) (if bit i.w 0 then pf w 32 32 else pf w 0 32)) i.cycles 0 none := by
  unfold semRecv
  simp only [if_neg hport, hq, List.head?_cons, Option.map_some, Option.isNone_some, Option.getD_some, writeOp_register _ _ _ hd,
    bit_bits (show 0 < 8 by decide), bit_bits (show 1 < 8 by decide)]
  cases bit i.w 1
  · simp [received, State.onLoom]
    rfl
  · simp [received, State.onLoom, hport]
    rfl

theorem pf_lt (w : BitVec 64) (lo n : Nat) : pf w lo n < 2 ^ n := bits_lt _ lo n

theorem recv_result {port : Nat} {w : BitVec 64} {rest : List (BitVec 64)} (h : LoomAt s g 0x79) (hp : port = bits s.nowIns.w 13 3) (hport : port ≠ 4)
    (hq : s.loom.rx.get (portQueue port) = w :: rest) (hd : sMode s.nowIns.d = 0) (fits : s.loom.cyc + s.nowIns.cycles + 3 ≤ g.stop) :
    ∃ t, exec .recv s = .next t ∧ t.loom.reg (sReg s.nowIns.d) = (if bit s.nowIns.w 0 then pf w 32 32 else pf w 0 32) ∧
      t.loom.rx.get (portQueue port) = (if bit s.nowIns.w 1 then rest else w :: rest) ∧ t.loom.flg = setF s.loom.flg fZ false ∧ t.mem = s.mem := by
  subst hp
  have hrun : RunsRow .recv 0x79 semRecv := runsRow_of_isRow fun _ => rfl
  have hrx : (settled s).loom.rx = s.loom.rx := (reads_settled s).control.2.2.2.2.2.2
  have hsem := semRecv_of_word (v := settled s) hport (by rw [hrx, hq]) hd
  generalize hval : (if bit s.nowIns.w 0 then pf w 32 32 else pf w 0 32) = value at hsem ⊢
  have hvalue : value < 2 ^ 32 := by
    rw [← hval]
    split
    · exact pf_lt ..
    · exact pf_lt ..
  obtain ⟨gs, file, hset⟩ := setReg_eq (received (bits s.nowIns.w 13 3) (bit s.nowIns.w 1) (settled s).loom) (sReg s.nowIns.d) value
  refine ⟨_, exec_next hrun h hsem ?_ ?_ fits, ?_, ?_, ?_, ?_⟩
  · rw [onLoom_loom, onLoom_loom, hset]
    exact settled_seg s
  · rw [onLoom_loom, onLoom_loom, hset]
    exact settled_rep s
  · rw [landed_reg, onLoom_loom, reg_setReg_self]
    exact Nat.mod_eq_of_lt hvalue
  · rw [landed_loom, onLoom_loom, onLoom_loom, hset]
    simp only [received, hrx]
    split
    · rw [Tab.get_upd_self, hq, List.drop_one, List.tail_cons]
    · exact hq
  · rw [landed_loom, onLoom_loom, onLoom_loom, hset]
    simp [received]
  · simp

/-! ## FENCE, WAITSLOT and the special registers -/

theorem opc_eq_of_opRow {opc row : Nat} (h : opRow opc = row) (hrow : row % 4 ≠ 0) : opc = row := by
  unfold opRow at h
  split at h
  · omega
  · exact h

/-- FENCE takes 160 cycles (R97). -/
theorem fence_cycles (s : State) (h : s.nowIns.opc = 0x7A) : s.nowIns.cycles = 160 := by
  have hopc : bits (s.imem s.loom.pc) 24 8 = 0x7A := h
  simp only [State.nowIns, State.fetchIns, Ins.cycles, hopc]
  rfl

theorem unacked_settled (s : State) : (settled s).unacked = s.unacked := rfl

/-- What FENCE does. -/
def fencing (i : Ins) (s : State) : Done := { i.plain s with fault := if s.unacked = 0 then none else some (0x9025, s.unacked) }

theorem fence_result (h : LoomAt s g 0x7A) (hacked : s.unacked = 0) (fits : s.loom.cyc + s.nowIns.cycles + 3 ≤ g.stop) :
    ∃ t, exec .fence s = .next t ∧ t.loom.pc = s.nowIns.after % 2 ^ 32 ∧ t.loom.cyc = s.loom.cyc + 160 ∧ t.loom.flg = s.loom.flg ∧ t.loom.g = s.loom.g ∧
      t.mem = s.mem ∧ t.flt = s.flt := by
  have hrun : RunsRow .fence 0x7A fencing := runsRow_of_isRow fun _ => rfl
  obtain ⟨-, -, -, hrow, -⟩ := id h
  have hcycles := fence_cycles s (opc_eq_of_opRow hrow (by decide))
  have hsem : fencing s.nowIns (settled s) = goingOn (settled s) s.nowIns.cycles 0 none := by
    simp only [fencing, unacked_settled, hacked, if_true]
    rfl
  refine ⟨_, exec_next hrun h hsem (settled_seg s) (settled_rep s) fits, ?_⟩
  rw [landed_loom, landed_mem, landed_flt, hcycles, settled_cyc]
  exact ⟨rfl, rfl, settled_flg s, settled_g s, rfl, rfl⟩

/-- WAITSLOT ends at its slot, or with its own cycles where the slot has begun; C tells which (R98). -/
theorem semWaitslot_of_slot {i : Ins} {a : Nat} {v : State} (ha : 1 ≤ a) (ha37 : a ≤ 37) :
    semWaitslot i a false v u = goingOn (u.onLoom fun l => { l with flg := setF l.flg fC (decide (6250 * a < u.loom.cyc + i.cycles)) })
      (if decide (6250 * a < u.loom.cyc + i.cycles) then i.cycles else 6250 * a - u.loom.cyc) 0 none := by
  have hslot : ¬ (a = 0 ∨ 37 < a) := by omega
  simp only [semWaitslot, if_neg Bool.false_ne_true, if_neg hslot]
  rfl

theorem waitslot_result {v : Nat} (h : LoomAt s g 0x7B) (hread : (settled s).readOp s.nowIns.a s.nowIns.xa 4 = (v, none, u)) (hv : 1 ≤ v)
    (hv37 : v ≤ 37) (fits : max (s.loom.cyc + s.nowIns.cycles) (6250 * v) + 3 ≤ g.stop) :
    ∃ t, exec .waitslot s = .next t ∧ t.loom.cyc = max (s.loom.cyc + s.nowIns.cycles) (6250 * v) ∧
      t.loom.flg = setF s.loom.flg fC (decide (6250 * v < s.loom.cyc + s.nowIns.cycles)) ∧ t.mem = s.mem := by
  have hrun : RunsRow .waitslot 0x7B (semOne semWaitslot) := runsRow_of_isRow fun _ => rfl
  have hu := (reads_settled s).trans (reads_of_readOp hread)
  obtain ⟨hcyc, -⟩ := hu.control
  have hsem := (semOne_of_read (f := semWaitslot) hread).trans (semWaitslot_of_slot hv hv37)
  have htime : s.loom.cyc + (if decide (6250 * v < s.loom.cyc + s.nowIns.cycles) then s.nowIns.cycles else 6250 * v - s.loom.cyc) =
      max (s.loom.cyc + s.nowIns.cycles) (6250 * v) := by
    by_cases hlate : 6250 * v < s.loom.cyc + s.nowIns.cycles
    · rw [if_pos (decide_eq_true hlate), max_eq_left hlate.le]
    · rw [if_neg (by simpa using hlate)]
      omega
  rw [hcyc] at hsem
  refine ⟨_, exec_next hrun h hsem hu.seg hu.rep (by omega), ?_⟩
  rw [landed_loom, landed_mem, onLoom_loom, onLoom_mem, hcyc]
  exact ⟨htime, by rw [hu.flg], hu.mem⟩

theorem semGets_of_register {i : Ins} {v : State} (hd : sMode i.d = 0) :
    semGets i v = goingOn (v.onLoom fun l => l.setReg (sReg i.d) (v.special (bits i.w 8 3))) i.cycles 0 none := by
  simp only [semGets, writeOp_register _ _ _ hd]
  rfl

theorem gets_result (h : LoomAt s g 0x7C) (hd : sMode s.nowIns.d = 0) (fits : s.loom.cyc + s.nowIns.cycles + 3 ≤ g.stop) :
    ∃ t, exec .gets s = .next t ∧ t.loom.reg (sReg s.nowIns.d) = (settled s).special (bits s.nowIns.w 8 3) % 2 ^ 32 ∧ t.loom.flg = s.loom.flg ∧
      t.mem = s.mem := by
  have hrun : RunsRow .gets 0x7C semGets := runsRow_of_isRow fun _ => rfl
  have hsem := semGets_of_register (v := settled s) hd
  obtain ⟨gs, file, hset⟩ := setReg_eq (settled s).loom (sReg s.nowIns.d) ((settled s).special (bits s.nowIns.w 8 3))
  refine ⟨_, exec_next hrun h hsem ?_ ?_ fits, ?_, ?_, ?_⟩
  · rw [onLoom_loom, hset]
    exact settled_seg s
  · rw [onLoom_loom, hset]
    exact settled_rep s
  · rw [landed_reg, onLoom_loom, reg_setReg_self]
  · rw [landed_loom, onLoom_loom, hset]
    exact settled_flg s
  · simp

theorem semPuts_flg {i : Ins} {a : Nat} {v : State} (hn : bits i.w 16 3 = 1) (ha : a < 32) :
    semPuts i a false v u = goingOn (u.onLoom fun l => { l with flg := BitVec.ofNat 5 a }) i.cycles 0 none := by
  simp only [semPuts, hn, ha, and_self, if_true]
  rfl

theorem semPuts_rpc {i : Ins} {a : Nat} {v : State} (hn : bits i.w 16 3 = 4) (ha : a < 65536) :
    semPuts i a false v u = goingOn (u.onLoom fun l => { l with rpc := a }) i.cycles 0 none := by
  have hflg : ¬ (4 = 1 ∧ a < 32) := by omega
  simp only [semPuts, hn, if_neg hflg, ha, and_self, if_true]
  rfl

theorem puts_flg_result {v : Nat} (h : LoomAt s g 0x7D) (hread : (settled s).readOp s.nowIns.a s.nowIns.xa 4 = (v, none, u))
    (hn : bits s.nowIns.w 16 3 = 1) (hv : v < 32) (fits : s.loom.cyc + s.nowIns.cycles + 3 ≤ g.stop) :
    ∃ t, exec .puts s = .next t ∧ t.loom.flg = BitVec.ofNat 5 v ∧ t.loom.rpc = s.loom.rpc ∧ t.mem = s.mem := by
  have hrun : RunsRow .puts 0x7D (semOne semPuts) := runsRow_of_isRow fun _ => rfl
  have hu := (reads_settled s).trans (reads_of_readOp hread)
  obtain ⟨-, -, -, -, -, hrpc, -⟩ := hu.control
  have hsem := (semOne_of_read (f := semPuts) hread).trans (semPuts_flg hn hv)
  refine ⟨_, exec_next hrun h hsem hu.seg hu.rep fits, ?_⟩
  rw [landed_loom, landed_mem, onLoom_loom, onLoom_mem]
  exact ⟨rfl, hrpc, hu.mem⟩

theorem puts_rpc_result {v : Nat} (h : LoomAt s g 0x7D) (hread : (settled s).readOp s.nowIns.a s.nowIns.xa 4 = (v, none, u))
    (hn : bits s.nowIns.w 16 3 = 4) (hv : v < 65536) (fits : s.loom.cyc + s.nowIns.cycles + 3 ≤ g.stop) :
    ∃ t, exec .puts s = .next t ∧ t.loom.rpc = v ∧ t.loom.flg = s.loom.flg ∧ t.mem = s.mem := by
  have hrun : RunsRow .puts 0x7D (semOne semPuts) := runsRow_of_isRow fun _ => rfl
  have hu := (reads_settled s).trans (reads_of_readOp hread)
  have hsem := (semOne_of_read (f := semPuts) hread).trans (semPuts_rpc hn hv)
  refine ⟨_, exec_next hrun h hsem hu.seg hu.rep fits, ?_⟩
  rw [landed_loom, landed_mem, onLoom_loom, onLoom_mem]
  exact ⟨rfl, hu.flg, hu.mem⟩

/-- Settles O60, an instruction at a time. -/
theorem controlResults : Obligations.ControlResults := by
  refine ⟨fun s g h fits => bcc_result h fits, fun s g k h hk hroom fits => call_result h hk hroom fits,
    fun s g k p h hk hk6 hp hlink hroom fits => ret_result h hk hk6 hp hlink hroom fits, fun s u g v h hread hv fits => jmpi_result h hread hv fits,
    fun s g h hdue fits => yield_result h hdue fits, fun s g h hdue fits => done_result h hdue fits, ?_, ?_,
    fun s u x g a b k h ha hb hk hroom fits => send_result h ha hb hk hroom fits,
    fun s g port w rest h hp hport hq hd fits => recv_result h hp hport hq hd fits, fun s g h hacked fits => fence_result h hacked fits,
    fun s u g v h hread hv hv37 fits => waitslot_result h hread hv hv37 fits, fun s g h hd fits => gets_result h hd fits,
    fun s u g v h hread hn hv fits => puts_flg_result h hread hn hv fits, fun s u g v h hread hn hv fits => puts_rpc_result h hread hn hv fits⟩
  · rintro s u g v n h rfl hn hread fits
    exact repeat_result (susp := false) (runsRow_of_isRow fun _ => rfl) h hn hread fits
  · rintro s u g v n h rfl hn hread fits
    exact repeat_result (susp := true) (runsRow_of_isRow fun _ => rfl) h hn hread fits

end Sys2Proof.ControlProofs

/-! What the data instructions of the Loom change and leave (R77 to R83, R90): registers, flags and memory. -/

namespace Sys2Proof.DataFrameProofs

open Sys2Proof Sys2Proof.Machine Sys2Proof.Laws Sys2Proof.LoomProofs Sys2Proof.LoomRowProofs Sys2Proof.OperandProofs Sys2Proof.FlagProofs

/-! ## From an instruction's results to the end of its command -/

/-- Registers, flags, queues, product and memory are the same. -/
structure SameResults (s t : State) : Prop where
  g : t.loom.g = s.loom.g
  file : t.loom.file = s.loom.file
  wbase : t.loom.wbase = s.loom.wbase
  rx : t.loom.rx = s.loom.rx
  mlo : t.loom.mlo = s.loom.mlo
  mhi : t.loom.mhi = s.loom.mhi
  flg : t.loom.flg = s.loom.flg
  mem : t.mem = s.mem

theorem SameResults.refl (s : State) : SameResults s s := ⟨rfl, rfl, rfl, rfl, rfl, rfl, rfl, rfl⟩

theorem SameResults.trans {s t u : State} (h : SameResults s t) (k : SameResults t u) : SameResults s u :=
  ⟨k.g.trans h.g, k.file.trans h.file, k.wbase.trans h.wbase, k.rx.trans h.rx, k.mlo.trans h.mlo, k.mhi.trans h.mhi, k.flg.trans h.flg,
    k.mem.trans h.mem⟩

theorem sameResults_of_left {s t : State} (h : SameOrLeft s.loom t.loom) (hmem : t.mem = s.mem) : SameResults s t := by
  obtain h | h := h
  · exact ⟨by rw [h], by rw [h], by rw [h], by rw [h], by rw [h], by rw [h], by rw [h], hmem⟩
  · exact ⟨by rw [h], by rw [h], by rw [h], by rw [h], by rw [h], by rw [h], by rw [h], hmem⟩

theorem sameResults_boundary (s : State) : SameResults s s.boundary := sameResults_of_left (boundary_loom s) (boundary_mem s)

theorem sameResults_taskFault (s : State) (k : Fin 64) (code p0 p1 p2 : Nat) : SameResults s (s.taskFault k code p0 p1 p2) :=
  sameResults_of_left (taskFault_loom ..) (taskFault_mem ..)

theorem sameResults_endActivation (s : State) (k : Fin 64) : SameResults s (s.endActivation k) :=
  sameResults_of_left (endActivation_loom s k) ((endActivation_keeps (List.Subset.refl _) (keeps_refl _ s)).only.same .mem (by decide))

theorem sameResults_spend (s : State) (k : Fin 64) (c : Nat) : SameResults s (s.spend k c) := ⟨rfl, rfl, rfl, rfl, rfl, rfl, rfl, rfl⟩

theorem sameResults_saveContext (s : State) (pc : Nat) : SameResults s (s.saveContext pc) := by
  unfold State.saveContext
  split
  · exact SameResults.refl s
  · exact ⟨rfl, rfl, rfl, rfl, rfl, rfl, rfl, rfl⟩

theorem sameResults_budgetFault (s : State) (g : Seg) : SameResults s (s.budgetFault g) :=
  ((sameResults_spend s g.task 3).trans (sameResults_saveContext ..)).trans (sameResults_taskFault ..)

theorem sameResults_suspend (s : State) (g : Seg) (addr : Nat) : SameResults s (s.suspend g addr) :=
  (sameResults_spend s g.task 3).trans (sameResults_saveContext ..)

/-- An iteration of a repeat changes the Loom's place and count alone (R87). -/
theorem iterate_eq (l : Loom) (i : Ins) : ∃ rpc rep pc, l.iterate i = { l with rpc := rpc, rep := rep, pc := pc } := by
  unfold Loom.iterate
  split
  · exact ⟨_, _, _, rfl⟩
  · dsimp only
    split
    · exact ⟨_, _, _, rfl⟩
    · exact ⟨_, _, _, rfl⟩

/-- Where an instruction leaves the Loom's place. -/
def placed (i : Ins) (r : Done) (l : Loom) : Loom :=
  let l := { l with last := i.addr }
  match r.jump with
  | some a => { l with pc := a % 2 ^ 32 }
  | none => if r.stay then l else l.iterate i

theorem placed_eq (i : Ins) (r : Done) (l : Loom) : ∃ rpc rep pc last, placed i r l = { l with rpc := rpc, rep := rep, pc := pc, last := last } := by
  unfold placed
  dsimp only
  split
  · exact ⟨_, _, _, _, rfl⟩
  · split
    · exact ⟨_, _, _, _, rfl⟩
    · obtain ⟨rpc, rep, pc, h⟩ := iterate_eq { l with last := i.addr } i
      exact ⟨rpc, rep, pc, _, h⟩

theorem sameResults_placed (s : State) (i : Ins) (r : Done) : SameResults s (s.onLoom (placed i r)) := by
  obtain ⟨rpc, rep, pc, last, h⟩ := placed_eq i r s.loom
  refine ⟨?_, ?_, ?_, ?_, ?_, ?_, ?_, rfl⟩ <;> rw [onLoom_loom, h]

theorem finishIns_eq (g : Seg) (i : Ins) (r : Done) :
    State.finishIns g i r =
      (let s := (r.s.spend g.task r.cycles).onLoom (placed i r)
      let s := if r.yields then s.saveContext s.loom.pc else s
      let s := if r.ends then s.endActivation g.task else s
      match r.fault with
      | none => s
      | some (code, p2) => s.taskFault g.task code (if code = 0xA072 then p2 else i.addr) g.task.1 (if code = 0xA072 then 0 else p2)) := rfl

theorem sameResults_ite {c : Prop} [Decidable c] {s t u : State} (h : SameResults s t) (k : SameResults s u) : SameResults s (if c then t else u) := by
  split
  · exact h
  · exact k

theorem sameResults_finishIns (g : Seg) (i : Ins) (r : Done) : SameResults r.s (State.finishIns g i r) := by
  rw [finishIns_eq]
  extract_lets a b c
  have ha : SameResults r.s a := (sameResults_spend r.s g.task r.cycles).trans (sameResults_placed ..)
  have hb : SameResults r.s b := sameResults_ite (ha.trans (sameResults_saveContext ..)) ha
  have hc : SameResults r.s c := sameResults_ite (hb.trans (sameResults_endActivation ..)) hb
  split
  · exact hc
  · exact hc.trans (sameResults_taskFault ..)

/-- A command of the Loom leaves the results of the legal instruction it ran, or those from before with the product settled. -/
theorem loomRow_results (s : State) (sel : Nat → Bool) (sem : Ins → State → Done) :
    SameResults s (s.loomRow sel sem) ∨ SameResults (settled s) (s.loomRow sel sem) ∨
      (sel (opRow s.nowIns.opc) = true ∧ s.nowIns.legal = true ∧ SameResults (sem s.nowIns (settled s)).s (s.loomRow sel sem)) := by
  unfold State.loomRow
  split
  · exact .inl (SameResults.refl s)
  next g hg =>
    extract_lets i s' r e t fits
    split
    · exact .inl (SameResults.refl s)
    next hrun =>
      have hsel : sel (opRow i.opc) = true := by
        simp only [Bool.or_eq_true, Bool.not_eq_true', not_or, Bool.not_eq_false] at hrun
        exact hrun.2
      have hends (x : State) (h : SameResults s' x ∨ SameResults r.s x) : SameResults s' x.boundary ∨
          (sel (opRow i.opc) = true ∧ i.legal = true ∧ SameResults (sem i s').s x.boundary) := by
        obtain h | h := h
        · exact .inl (h.trans (sameResults_boundary x))
        · by_cases hlegal : i.legal = true
          · simp only [r, if_pos hlegal] at h
            exact .inr ⟨hsel, hlegal, h.trans (sameResults_boundary x)⟩
          · simp only [r, if_neg hlegal] at h
            exact .inl (h.trans (sameResults_boundary x))
      refine .inr (hends _ ?_)
      split
      · split
        · exact .inr (sameResults_finishIns ..)
        · exact .inl (sameResults_suspend ..)
      · split
        · exact .inr (sameResults_finishIns ..)
        · exact .inl (sameResults_budgetFault ..)
      · split
        · exact .inr (sameResults_finishIns ..)
        · exact .inl (sameResults_budgetFault ..)

/-! ## Registers, by the operands of an instruction -/

/-- Only registers that the instruction names as its destination, or counts up or down, have changed. -/
structure RegsKept (i : Ins) (l l' : Loom) : Prop where
  g : ∀ r : Fin 8, ¬ i.changes r.1 → l'.g.get r = l.g.get r
  file : ∀ k : Fin 2048, (∀ r, 8 ≤ r → r < 32 → i.changes r → k.1 ≠ (l.wbase + (r - 8)) % 2048) → l'.file.get k = l.file.get k
  wbase : l'.wbase = l.wbase

theorem RegsKept.refl (i : Ins) (l : Loom) : RegsKept i l l := ⟨fun _ _ => rfl, fun _ _ => rfl, rfl⟩

theorem RegsKept.trans {i : Ins} {l l' l'' : Loom} (h : RegsKept i l l') (k : RegsKept i l' l'') : RegsKept i l l'' :=
  ⟨fun r hr => (k.g r hr).trans (h.g r hr), fun r hr => (k.file r (by rw [h.wbase]; exact hr)).trans (h.file r hr), k.wbase.trans h.wbase⟩

theorem regsKept_setReg {i : Ins} (l : Loom) {r : Nat} (v : Nat) (hr : r < 32) (h : i.changes r) : RegsKept i l (l.setReg r v) := by
  unfold Loom.setReg
  split
  next hr8 =>
    refine ⟨fun q hq => ?_, fun _ _ => rfl, rfl⟩
    exact Tab.get_put_ne _ _ fun heq => hq (by rw [heq]; exact h)
  next hr8 =>
    refine ⟨fun _ _ => rfl, fun k hk => ?_, rfl⟩
    exact Tab.get_put_ne _ _ fun heq => hk r (by omega) hr h (congrArg Fin.val heq)

/-- An operand form counts its register up or down in the modes 6 and 7 alone (R77). -/
theorem regsKept_loc {i : Ins} (l : Loom) (x ext size : Nat) (h : 6 ≤ sMode x → i.changes (sReg x)) : RegsKept i l (l.loc x ext size).2 := by
  unfold Loom.loc
  dsimp only
  split
  case h_7 mode hmode => exact regsKept_setReg _ _ (sReg_lt x) (h (by omega))
  case h_8 mode h0 h1 h2 h3 h4 h5 h6 =>
    rw [imp_false] at h0 h1 h2 h3 h4 h5 h6
    exact regsKept_setReg _ _ (sReg_lt x) (h (by omega))
  all_goals exact RegsKept.refl i l

/-- The Loom but for its registers. -/
def OnlyRegs (l l' : Loom) : Prop := ∃ gs file, l' = { l with g := gs, file := file }

theorem OnlyRegs.trans {l l' l'' : Loom} (h : OnlyRegs l l') (k : OnlyRegs l' l'') : OnlyRegs l l'' := by
  obtain ⟨gs, file, rfl⟩ := h
  obtain ⟨gs', file', rfl⟩ := k
  exact ⟨gs', file', rfl⟩

theorem onlyRegs_loc (l : Loom) (x ext size : Nat) : OnlyRegs l (l.loc x ext size).2 := loc_eq l x ext size

theorem onlyRegs_setReg (l : Loom) (r v : Nat) : OnlyRegs l (l.setReg r v) := setReg_eq l r v

/-! ## An operand's place depends on the registers alone -/

/-- The registers are the same. -/
structure SameRegs (l l' : Loom) : Prop where
  g : l'.g = l.g
  file : l'.file = l.file
  wbase : l'.wbase = l.wbase

theorem SameRegs.reg {l l' : Loom} (h : SameRegs l l') (r : Nat) : l'.reg r = l.reg r := by
  simp only [Loom.reg, h.g, h.file, h.wbase]

theorem SameRegs.setReg {l l' : Loom} (h : SameRegs l l') (r v : Nat) : SameRegs (l.setReg r v) (l'.setReg r v) := by
  unfold Loom.setReg
  split
  · exact ⟨by rw [h.g], h.file, h.wbase⟩
  · exact ⟨h.g, by simp only [h.file, h.wbase], h.wbase⟩

theorem SameRegs.loc {l l' : Loom} (h : SameRegs l l') (x ext size : Nat) :
    (l'.loc x ext size).1 = (l.loc x ext size).1 ∧ SameRegs (l.loc x ext size).2 (l'.loc x ext size).2 := by
  unfold Loom.loc
  dsimp only
  rw [h.reg]
  split
  case h_7 => exact ⟨rfl, h.setReg ..⟩
  case h_8 => exact ⟨rfl, h.setReg ..⟩
  all_goals exact ⟨rfl, h⟩

theorem SameRegs.sources {l l' : Loom} (h : SameRegs l l') (i : Ins) : SameRegs (i.sources l) (i.sources l') := by
  unfold Ins.sources
  dsimp only
  split
  · split
    · exact ((h.loc ..).2.loc ..).2
    · exact (h.loc ..).2
  · split
    · exact (h.loc ..).2
    · exact h

theorem SameRegs.storesTo {l l' : Loom} (h : SameRegs l l') (i : Ins) : i.storesTo l' = i.storesTo l := by
  unfold Ins.storesTo
  rw [((h.sources i).loc ..).1]

/-- Outside a destination at `p`, a byte is not of the destination's size. -/
def Outside (a p size : Nat) : Prop := a < p ∨ p + size ≤ a

theorem le_length (n v : Nat) : (le n v).length = n := by
  induction n generalizing v with
  | zero => rfl
  | succ n ih => rw [le, List.length_cons, ih]

/-- A result written where an operand stands changes its register, or its bytes (R79). -/
theorem writeAt_kept {i : Ins} (v : State) (k : Loc) (size val : Nat) (hwf : Memory.wf v.mem = true) (hreg : ∀ r, k = .reg r → r < 32 ∧ i.changes r) :
    RegsKept i v.loom (v.writeAt k size val).2.loom ∧ OnlyRegs v.loom (v.writeAt k size val).2.loom ∧
      ∀ a, (∀ p, k = .mem p → Outside a p size) → Memory.read (v.writeAt k size val).2.mem a = Memory.read v.mem a := by
  unfold State.writeAt
  split
  next r =>
    obtain ⟨hr, hchanges⟩ := hreg r rfl
    exact ⟨regsKept_setReg _ _ hr hchanges, onlyRegs_setReg .., fun _ _ => rfl⟩
  next => exact ⟨RegsKept.refl .., ⟨_, _, rfl⟩, fun _ _ => rfl⟩
  next p =>
    split
    · refine ⟨RegsKept.refl .., ⟨_, _, rfl⟩, fun a ha => ?_⟩
      exact Memory.read_writeBytes_of_outside p _ a hwf (by rw [le_length]; exact ha p rfl)
    · exact ⟨RegsKept.refl .., ⟨_, _, rfl⟩, fun _ _ => rfl⟩

/-- A register operand is that of mode 0. -/
theorem loc_reg {l : Loom} {x ext size r : Nat} (h : (l.loc x ext size).1 = .reg r) : sMode x = 0 ∧ r = sReg x := by
  unfold Loom.loc at h
  dsimp only at h
  split at h
  case h_1 hmode => exact ⟨hmode, (Loc.reg.inj h).symm⟩
  all_goals exact absurd h nofun

/-! ## The meanings of the data instructions -/

/-- What a data instruction leaves: other registers, the window, the queues, a product not in progress, memory outside its destination; and the flags
as `flags` says. -/
structure DataDone (i : Ins) (flags : BitVec 5 → BitVec 5 → Prop) (s u : State) : Prop where
  regs : RegsKept i s.loom u.loom
  rx : u.loom.rx = s.loom.rx
  product : s.loom.mul = none → u.loom.mlo = s.loom.mlo ∧ u.loom.mhi = s.loom.mhi
  flg : flags s.loom.flg u.loom.flg
  mem : ∀ a, (∀ p, i.storesTo s.loom = some p → Outside a p (opSize i.opc)) → Memory.read u.mem a = Memory.read s.mem a

theorem DataDone.of_same {i : Ins} {flags : BitVec 5 → BitVec 5 → Prop} {s u t : State} (h : DataDone i flags s u) (k : SameResults u t) :
    DataDone i flags s t where
  regs := h.regs.trans ⟨fun _ _ => by rw [k.g], fun _ _ => by rw [k.file], k.wbase⟩
  rx := k.rx.trans h.rx
  product hmul := by rw [k.mlo, k.mhi]; exact h.product hmul
  flg := by rw [k.flg]; exact h.flg
  mem a ha := by rw [k.mem]; exact h.mem a ha

/-- Where nothing but the product has come to stand. -/
theorem dataDone_settled (i : Ins) {flags : BitVec 5 → BitVec 5 → Prop} (s : State) (hrefl : flags s.loom.flg s.loom.flg) :
    DataDone i flags s (settled s) where
  regs := ⟨fun _ _ => by rw [settled_g], fun _ _ => by rw [settled_file], settled_wbase s⟩
  rx := (reads_settled s).control.2.2.2.2.2.2
  product hmul := by simp only [settled, onLoom_loom, Loom.settle, hmul, and_self]
  flg := by rwa [settled_flg]
  mem _ _ := rfl

theorem settled_mul_of_none {s : State} (h : s.loom.mul = none) : (settled s).loom = s.loom := by
  simp only [settled, onLoom_loom, Loom.settle, h]

theorem sameRegs_settled (s : State) : SameRegs s.loom (settled s).loom := ⟨settled_g s, settled_file s, settled_wbase s⟩

/-- The same after an instruction that began with the product settled. -/
theorem DataDone.of_settled {i : Ins} {flags : BitVec 5 → BitVec 5 → Prop} {s u : State} (h : DataDone i flags (settled s) u) :
    DataDone i flags s u where
  regs := (dataDone_settled i (flags := fun _ _ => True) s trivial).regs.trans h.regs
  rx := h.rx.trans (reads_settled s).control.2.2.2.2.2.2
  product hmul := by
    have hproduct := h.product (by rw [settled_mul_of_none hmul, hmul])
    rwa [settled_mul_of_none hmul] at hproduct
  flg := by rw [← settled_flg]; exact h.flg
  mem a ha := h.mem a fun p hp => ha p (by rw [← (sameRegs_settled s).storesTo i, hp])

theorem dataDone_loomRow {s : State} {sel : Nat → Bool} {sem : Ins → State → Done} {flags : BitVec 5 → BitVec 5 → Prop} (hrefl : ∀ f, flags f f)
    (hsem : sel (opRow s.nowIns.opc) = true → s.nowIns.legal = true → DataDone s.nowIns flags (settled s) (sem s.nowIns (settled s)).s) :
    DataDone s.nowIns flags s (s.loomRow sel sem) := by
  obtain h | h | ⟨hsel, hlegal, h⟩ := loomRow_results s sel sem
  · exact DataDone.of_same ⟨RegsKept.refl .., rfl, fun _ => ⟨rfl, rfl⟩, hrefl _, fun _ _ => rfl⟩ h
  · exact (dataDone_settled _ s (hrefl _)).of_same h
  · exact (hsem hsel hlegal).of_settled.of_same h

/-! ## Sources and destination -/

theorem changes_of_a {i : Ins} (h : i.shape.a.operand = true) (hmode : 6 ≤ sMode i.a) : i.changes (sReg i.a) := .inr (.inr (.inl ⟨h, hmode, rfl⟩))

theorem changes_of_b {i : Ins} (h : i.shape.b.operand = true) (hmode : 6 ≤ sMode i.b) : i.changes (sReg i.b) := .inr (.inr (.inr ⟨h, hmode, rfl⟩))

theorem operand_of_written {i : Ins} (h : i.shape.d = .dst ∨ i.shape.d = .rmw) : i.shape.d.operand = true := by
  obtain h | h := h
  · rw [h]; rfl
  · rw [h]; rfl

theorem changes_of_d {i : Ins} (h : i.shape.d = .dst ∨ i.shape.d = .rmw) (hmode : 6 ≤ sMode i.d) : i.changes (sReg i.d) :=
  .inr (.inl ⟨operand_of_written h, hmode, rfl⟩)

theorem regsKept_sources (i : Ins) (l : Loom) : RegsKept i l (i.sources l) := by
  have ha : RegsKept i l (if i.shape.a.operand then (l.loc i.a i.xa (opSize i.opc)).2 else l) := by
    split
    next h => exact regsKept_loc l _ _ _ (changes_of_a h)
    next => exact RegsKept.refl i l
  unfold Ins.sources
  dsimp only
  split
  next h => exact ha.trans (regsKept_loc _ _ _ _ (changes_of_b h))
  next => exact ha

theorem onlyRegs_sources (i : Ins) (l : Loom) : OnlyRegs l (i.sources l) := by
  have ha : OnlyRegs l (if i.shape.a.operand then (l.loc i.a i.xa (opSize i.opc)).2 else l) := by
    split
    · exact onlyRegs_loc ..
    · exact ⟨_, _, rfl⟩
  unfold Ins.sources
  dsimp only
  split
  · exact ha.trans (onlyRegs_loc ..)
  · exact ha

/-- Flags set before a register changes are set after it. -/
theorem setReg_withFlags (l : Loom) (f : BitVec 5) (r v : Nat) : ({ l with flg := f } : Loom).setReg r v = { l.setReg r v with flg := f } := by
  unfold Loom.setReg
  split
  · rfl
  · rfl

theorem loc_withFlags (l : Loom) (f : BitVec 5) (x ext size : Nat) :
    ({ l with flg := f } : Loom).loc x ext size = ((l.loc x ext size).1, { (l.loc x ext size).2 with flg := f }) := by
  have hreg (r : Nat) : ({ l with flg := f } : Loom).reg r = l.reg r := rfl
  unfold Loom.loc
  dsimp only
  simp only [hreg, setReg_withFlags]
  split <;> rfl

/-- The place of the destination after the sources were read, with its register counted. -/
def destination (i : Ins) (l : Loom) : Loc × Loom := (i.sources l).loc i.d i.xd (opSize i.opc)

/-- A result stored with its flags (R78, R83). -/
def stored (i : Ins) (s : State) (f : BitVec 5) (v : Nat) : State :=
  ((s.onLoom fun l => { (destination i l).2 with flg := f }).writeAt (destination i s.loom).1 (opSize i.opc) v).2

theorem writeOp_stored (i : Ins) (s : State) (f : BitVec 5) (v : Nat) :
    (((s.onLoom fun _ => i.sources s.loom).onLoom fun l => { l with flg := f }).writeOp i.d i.xd (opSize i.opc) v).2 = stored i s f v := by
  simp only [State.writeOp, stored, destination, onLoom_loom, loc_withFlags]
  rfl

theorem storesTo_of_destination {i : Ins} {l : Loom} {p : Nat} (hd : i.shape.d = .dst ∨ i.shape.d = .rmw) (h : (destination i l).1 = .mem p) :
    i.storesTo l = some p := by
  unfold destination at h
  simp only [Ins.storesTo, if_pos hd, h]

theorem dataDone_stored {i : Ins} {flags : BitVec 5 → BitVec 5 → Prop} {s : State} {f : BitVec 5} (v : Nat) (hwf : Memory.wf s.mem = true)
    (hd : i.shape.d = .dst ∨ i.shape.d = .rmw) (hflg : flags s.loom.flg f) : DataDone i flags s (stored i s f v) := by
  have hregs : RegsKept i s.loom { (destination i s.loom).2 with flg := f } :=
    (regsKept_sources i s.loom).trans (RegsKept.trans (regsKept_loc _ _ _ _ (changes_of_d hd)) ⟨fun _ _ => rfl, fun _ _ => rfl, rfl⟩)
  obtain ⟨hkept, ⟨gs, file, hwrite⟩, hmem⟩ := writeAt_kept (i := i) (s.onLoom fun l => { (destination i l).2 with flg := f }) (destination i s.loom).1
    (opSize i.opc) v hwf fun r hr => by
      obtain ⟨hmode, rfl⟩ := loc_reg hr
      exact ⟨sReg_lt _, .inl ⟨hd, hmode, rfl⟩⟩
  obtain ⟨gs', file', hdest⟩ := (onlyRegs_sources i s.loom).trans (onlyRegs_loc (i.sources s.loom) i.d i.xd (opSize i.opc))
  have hdest' : (destination i s.loom).2 = { s.loom with g := gs', file := file' } := hdest
  have hloom : (stored i s f v).loom = { s.loom with g := gs, file := file, flg := f } := by
    rw [stored, hwrite, onLoom_loom, hdest']
  exact
    { regs := hregs.trans hkept
      rx := by rw [hloom]
      product := fun _ => by rw [hloom]; exact ⟨rfl, rfl⟩
      flg := by rw [hloom]; exact hflg
      mem := fun a ha => hmem a fun p hp => ha p (storesTo_of_destination hd hp) }

/-- An instruction that stores nothing: its sources are read, and flags and multiplier may change. -/
theorem dataDone_unstored (i : Ins) {flags : BitVec 5 → BitVec 5 → Prop} (s : State) (l : Loom) (hregs : SameRegs (i.sources s.loom) l)
    (hrx : l.rx = s.loom.rx) (hproduct : s.loom.mul = none → l.mlo = s.loom.mlo ∧ l.mhi = s.loom.mhi) (hflg : flags s.loom.flg l.flg) :
    DataDone i flags s (s.onLoom fun _ => l) where
  regs := (regsKept_sources i s.loom).trans ⟨fun _ _ => by rw [onLoom_loom, hregs.g], fun _ _ => by rw [onLoom_loom, hregs.file], hregs.wbase⟩
  rx := hrx
  product := hproduct
  flg := hflg
  mem _ _ := rfl

theorem sources_of_a {i : Ins} (l : Loom) (ha : i.shape.a.operand = true) (hb : i.shape.b.operand = false) :
    i.sources l = (l.loc i.a i.xa (opSize i.opc)).2 := by
  simp only [Ins.sources, ha, hb, if_true, if_neg Bool.false_ne_true]

theorem sources_of_ab {i : Ins} (l : Loom) (ha : i.shape.a.operand = true) (hb : i.shape.b.operand = true) :
    i.sources l = ((l.loc i.a i.xa (opSize i.opc)).2.loc i.b i.xb (opSize i.opc)).2 := by
  simp only [Ins.sources, ha, hb, if_true]

/-- Reading the one source leaves the Loom after the sources. -/
theorem state_of_readA {i : Ins} {s u : State} {v : Nat} {fa : Option Nat} (ha : i.shape.a.operand = true) (hb : i.shape.b.operand = false)
    (h : s.readOp i.a i.xa (opSize i.opc) = (v, fa, u)) : u = s.onLoom fun _ => i.sources s.loom := by
  have hstate := readOp_state s i.a i.xa (opSize i.opc)
  rw [h] at hstate
  rw [sources_of_a _ ha hb]
  exact hstate

/-- So does reading both. -/
theorem state_of_readAB {i : Ins} {s u x : State} {v w : Nat} {fa fb : Option Nat} (ha : i.shape.a.operand = true) (hb : i.shape.b.operand = true)
    (h : s.readOp i.a i.xa (opSize i.opc) = (v, fa, u)) (k : u.readOp i.b i.xb (opSize i.opc) = (w, fb, x)) :
    x = s.onLoom fun _ => i.sources s.loom := by
  have hu := readOp_state s i.a i.xa (opSize i.opc)
  have hx := readOp_state u i.b i.xb (opSize i.opc)
  rw [h] at hu
  rw [k] at hx
  rw [sources_of_ab _ ha hb, show x = _ from hx, show u = _ from hu]
  rfl

theorem sources_flg (i : Ins) (l : Loom) : (i.sources l).flg = l.flg := by
  obtain ⟨gs, file, h⟩ := onlyRegs_sources i l
  rw [h]

theorem semUnary_stored (f : BitVec 5 → Nat → Nat → Nat × BitVec 5) {i : Ins} (s : State) (ha : i.shape.a.operand = true)
    (hb : i.shape.b.operand = false) :
    ∃ a, (semUnary f i s).s = stored i s (f s.loom.flg (8 * opSize i.opc) a).2 (f s.loom.flg (8 * opSize i.opc) a).1 := by
  obtain ⟨a, fa, u, h⟩ : ∃ a fa u, s.readOp i.a i.xa (opSize i.opc) = (a, fa, u) := ⟨_, _, _, rfl⟩
  have hu := state_of_readA ha hb h
  refine ⟨a, ?_⟩
  rw [← writeOp_stored, ← hu]
  simp only [semUnary, h]
  rw [hu, onLoom_loom, sources_flg]
  rfl

theorem semBinary_stored (f : BitVec 5 → Nat → Nat → Nat → Nat × BitVec 5) {i : Ins} (s : State) (ha : i.shape.a.operand = true)
    (hb : i.shape.b.operand = true) :
    ∃ a b, (semBinary f i s).s = stored i s (f s.loom.flg (8 * opSize i.opc) a b).2 (f s.loom.flg (8 * opSize i.opc) a b).1 := by
  obtain ⟨a, fa, u, h⟩ : ∃ a fa u, s.readOp i.a i.xa (opSize i.opc) = (a, fa, u) := ⟨_, _, _, rfl⟩
  obtain ⟨b, fb, x, k⟩ : ∃ b fb x, u.readOp i.b i.xb (opSize i.opc) = (b, fb, x) := ⟨_, _, _, rfl⟩
  have hx := state_of_readAB ha hb h k
  refine ⟨a, b, ?_⟩
  rw [← writeOp_stored, ← hx]
  simp only [semBinary, h, k]
  rw [hx, onLoom_loom, sources_flg]
  rfl

/-- What stands at a destination that is read before it is written (R79), and its address fault. -/
def found (i : Ins) (s : State) : Nat × Option Nat :=
  match (destination i s.loom).1 with
  | .reg r => ((destination i s.loom).2.reg r % 2 ^ (8 * opSize i.opc), none)
  | .imm v => (v, none)
  | .mem p => if dataOk s.layout p (opSize i.opc) then (Memory.num s.mem p (opSize i.opc), none) else (void % 2 ^ (8 * opSize i.opc), some p)

theorem semModify_stored (f : BitVec 5 → Nat → Nat → Nat → Nat × BitVec 5) {i : Ins} (s : State) (ha : i.shape.a.operand = true)
    (hb : i.shape.b.operand = false) :
    ∃ d a, (semModify f i s).s = stored i s (f s.loom.flg (8 * opSize i.opc) d a).2 (f s.loom.flg (8 * opSize i.opc) d a).1 := by
  obtain ⟨a, fa, u, h⟩ : ∃ a fa u, s.readOp i.a i.xa (opSize i.opc) = (a, fa, u) := ⟨_, _, _, rfl⟩
  have hu := state_of_readA ha hb h
  have hflg : (destination i s.loom).2.flg = s.loom.flg := by
    obtain ⟨gs, file, hdest⟩ := (onlyRegs_sources i s.loom).trans (onlyRegs_loc (i.sources s.loom) i.d i.xd (opSize i.opc))
    rw [destination, hdest]
  have hloc : u.loom.loc i.d i.xd (opSize i.opc) = destination i s.loom := by rw [hu]; rfl
  simp only [semModify, h, hloc]
  rw [← hflg]
  refine ⟨(found i s).1, a, ?_⟩
  rw [stored, hu]
  rfl

theorem semCompare_done (f : BitVec 5 → Nat → Nat → Nat → BitVec 5) {i : Ins} {flags : BitVec 5 → BitVec 5 → Prop} (s : State)
    (ha : i.shape.a.operand = true) (hb : i.shape.b.operand = true) (hflg : ∀ a b, flags s.loom.flg (f s.loom.flg (8 * opSize i.opc) a b)) :
    DataDone i flags s (semCompare f i s).s := by
  obtain ⟨a, fa, u, h⟩ : ∃ a fa u, s.readOp i.a i.xa (opSize i.opc) = (a, fa, u) := ⟨_, _, _, rfl⟩
  obtain ⟨b, fb, x, k⟩ : ∃ b fb x, u.readOp i.b i.xb (opSize i.opc) = (b, fb, x) := ⟨_, _, _, rfl⟩
  have hx := state_of_readAB ha hb h k
  obtain ⟨gs, file, hsources⟩ := onlyRegs_sources i s.loom
  have hstate : (semCompare f i s).s = s.onLoom fun _ => { i.sources s.loom with flg := f (i.sources s.loom).flg (8 * opSize i.opc) a b } := by
    simp only [semCompare, h, k]
    rw [hx]
    rfl
  rw [hstate]
  refine dataDone_unstored i s _ ⟨rfl, rfl, rfl⟩ ?_ (fun _ => ?_) ?_
  · rw [hsources]
  · rw [hsources]
    exact ⟨rfl, rfl⟩
  · rw [sources_flg]
    exact hflg a b

/-- The effective address of an operand that stands in memory. -/
def addressOf : Loc → Nat
  | .mem a => a
  | _ => 0

theorem semLea_stored {i : Ins} (s : State) (hsize : opSize i.opc = 4) (ha : i.shape.a.operand = true) (hb : i.shape.b.operand = false) :
    ∃ v, (semLea i s).s = stored i s s.loom.flg v := by
  have hsources := sources_of_a s.loom ha hb
  have hflg : ({ i.sources s.loom with flg := s.loom.flg } : Loom) = i.sources s.loom := by rw [← sources_flg i s.loom]
  have hstate : ((s.onLoom fun _ => i.sources s.loom).onLoom fun l => { l with flg := s.loom.flg }) = s.onLoom fun _ => i.sources s.loom :=
    congrArg (fun l => s.onLoom fun _ => l) hflg
  refine ⟨addressOf (s.loom.loc i.a i.xa 4).1, ?_⟩
  rw [← writeOp_stored, hstate, hsources, hsize]
  rfl

theorem semMul_done (sgn : Bool) {i : Ins} {flags : BitVec 5 → BitVec 5 → Prop} (s : State) (hsize : opSize i.opc = 4)
    (ha : i.shape.a.operand = true) (hb : i.shape.b.operand = true) (hflg : flags s.loom.flg s.loom.flg) :
    DataDone i flags s (semMul sgn i s).s := by
  obtain ⟨a, fa, u, h⟩ : ∃ a fa u, s.readOp i.a i.xa 4 = (a, fa, u) := ⟨_, _, _, rfl⟩
  obtain ⟨b, fb, x, k⟩ : ∃ b fb x, u.readOp i.b i.xb 4 = (b, fb, x) := ⟨_, _, _, rfl⟩
  have hx := state_of_readAB ha hb (hsize.symm ▸ h) (hsize.symm ▸ k)
  obtain ⟨gs, file, hsources⟩ := onlyRegs_sources i s.loom
  obtain ⟨c, p, hstate⟩ : ∃ c p, (semMul sgn i s).s = x.onLoom fun l => { l.settle c with mul := some p } := by
    simp only [semMul, h, k]
    exact ⟨_, _, rfl⟩
  obtain ⟨m, lo, hi, hsettle⟩ := settle_eq (i.sources s.loom) c
  have hloom : (semMul sgn i s).s = s.onLoom fun _ => { (i.sources s.loom).settle c with mul := some p } := by
    rw [hstate, hx]
    rfl
  rw [hloom]
  refine dataDone_unstored i s _ ?_ ?_ (fun hmul => ?_) ?_
  · rw [hsettle]
    exact ⟨rfl, rfl, rfl⟩
  · rw [hsettle, hsources]
  · have hnone : (i.sources s.loom).mul = none := by rw [hsources, hmul]
    rw [Loom.settle, hnone, hsources]
    exact ⟨rfl, rfl⟩
  · rw [hsettle]
    show flags _ (i.sources s.loom).flg
    rw [sources_flg]
    exact hflg

/-! ## The rows -/

/-- What a data row does to the flags: the moves leave C, V and H, the bit operations all but Z, and NOP, LEA and the multiplies all (R83). -/
def RowFlags (row : Instr) (f f' : BitVec 5) : Prop :=
  (row = .mov ∨ row = .movsx → ∀ i, i = fC ∨ i = fV ∨ i = fH → getF f' i = getF f i) ∧
  (row = .bset ∨ row = .bclr ∨ row = .btst → ∀ i, i ≠ fZ → getF f' i = getF f i) ∧
  (row = .nop ∨ row = .lea ∨ row = .mulu ∨ row = .muls → f' = f)

theorem RowFlags.refl (row : Instr) (f : BitVec 5) : RowFlags row f f := ⟨fun _ _ _ => rfl, fun _ _ _ => rfl, fun _ => rfl⟩

theorem getF_flagsNZ (f : BitVec 5) (w r : Nat) {i : Nat} (h : i = fC ∨ i = fV ∨ i = fH) : getF (flagsNZ f w r) i = getF f i := by
  obtain rfl | rfl | rfl := h <;>
  · rw [flagsNZ, getF_setF_ne _ _ (by decide) (by decide), getF_setF_ne _ _ (by decide) (by decide)]

theorem getF_bitZ (f : BitVec 5) (w v n : Nat) {i : Nat} (h : i ≠ fZ) : getF (bitZ f w v n) i = getF f i :=
  getF_setF_ne _ _ (by decide) (Ne.symm h)

/-- A row whose results and frame are those of a data instruction. -/
def DataRow (row : Instr) : Prop :=
  ∀ s t : State, Memory.wf s.mem = true → exec row s = .next t → DataDone s.nowIns (RowFlags row) s t

theorem nowIns_shape {s : State} {sh : Shape} (h : opShape s.nowIns.opc = some sh) : s.nowIns.shape = sh := by
  have hopc : opShape (bits (s.imem s.loom.pc) 24 8) = some sh := h
  show (opShape (bits (s.imem s.loom.pc) 24 8)).getD _ = sh
  rw [hopc]
  rfl

theorem eq_of_isRow {n o : Nat} (h : isRow n o = true) : o = n := beq_iff_eq.mp h

/-- Every operation code of row `n` has the shape `sh`. -/
def RowShape (n : Nat) (sh : Shape) : Prop := ∀ opc, opRow opc = n → opShape opc = some sh

/-- The shape of a code follows from its row. -/
theorem rowShape_of {row : Nat} {sh : Shape} (hrow : opRow row = row) (hshape : opShape row = some sh) : RowShape row sh := by
  intro opc h
  rw [← hshape]
  simp only [opShape, h, hrow]

variable {c : Instr} {n base : Nat}

theorem dataRow_of_isRow {sem : Ins → State → Done} {sh : Shape} (hshape : RowShape n sh) (hexec : ∀ s, exec c s = .next (s.loomRow (isRow n) sem))
    (hsem : ∀ i s, Memory.wf s.mem = true → i.shape = sh → opRow i.opc = n → DataDone i (RowFlags c) s (sem i s).s) : DataRow c := by
  intro s t hwf h
  rw [hexec s] at h
  obtain rfl := Host.Outcome.next.inj h
  refine dataDone_loomRow (RowFlags.refl c) fun hsel _ => ?_
  have hrow := eq_of_isRow hsel
  exact hsem _ _ hwf (nowIns_shape (hshape _ hrow)) hrow

theorem dataRow_unary {f : BitVec 5 → Nat → Nat → Nat × BitVec 5} (hexec : ∀ s, exec c s = .next (s.loomRow (isRow n) (semUnary f)))
    (hshape : RowShape n ⟨.dst, .src, .none, base⟩) (hflg : ∀ fl w a, RowFlags c fl (f fl w a).2) : DataRow c :=
  dataRow_of_isRow hshape hexec fun i s hwf hsh _ => by
    obtain ⟨a, hstored⟩ := semUnary_stored f (i := i) s (by rw [hsh]; rfl) (by rw [hsh]; rfl)
    rw [hstored]
    exact dataDone_stored _ hwf (.inl (by rw [hsh])) (hflg ..)

theorem dataRow_binary {f : BitVec 5 → Nat → Nat → Nat → Nat × BitVec 5} (hexec : ∀ s, exec c s = .next (s.loomRow (isRow n) (semBinary f)))
    (hshape : RowShape n ⟨.dst, .src, .src, base⟩) (hflg : ∀ fl w a b, RowFlags c fl (f fl w a b).2) : DataRow c :=
  dataRow_of_isRow hshape hexec fun i s hwf hsh _ => by
    obtain ⟨a, b, hstored⟩ := semBinary_stored f (i := i) s (by rw [hsh]; rfl) (by rw [hsh]; rfl)
    rw [hstored]
    exact dataDone_stored _ hwf (.inl (by rw [hsh])) (hflg ..)

theorem dataRow_modify {f : BitVec 5 → Nat → Nat → Nat → Nat × BitVec 5} (hexec : ∀ s, exec c s = .next (s.loomRow (isRow n) (semModify f)))
    (hshape : RowShape n ⟨.rmw, .src, .none, base⟩) (hflg : ∀ fl w d a, RowFlags c fl (f fl w d a).2) : DataRow c :=
  dataRow_of_isRow hshape hexec fun i s hwf hsh _ => by
    obtain ⟨d, a, hstored⟩ := semModify_stored f (i := i) s (by rw [hsh]; rfl) (by rw [hsh]; rfl)
    rw [hstored]
    exact dataDone_stored _ hwf (.inr (by rw [hsh])) (hflg ..)

theorem dataRow_compare {f : BitVec 5 → Nat → Nat → Nat → BitVec 5} (hexec : ∀ s, exec c s = .next (s.loomRow (isRow n) (semCompare f)))
    (hshape : RowShape n ⟨.none, .src, .src, base⟩) (hflg : ∀ fl w a b, RowFlags c fl (f fl w a b)) : DataRow c :=
  dataRow_of_isRow hshape hexec fun i s _ hsh _ => semCompare_done f s (by rw [hsh]; rfl) (by rw [hsh]; rfl) fun a b => hflg ..

/-- The rows above the sized ones are operation codes of their own, with word operands (R82). -/
theorem opc_eq_of_unsized {opc row : Nat} (h : opRow opc = row) (hrow : 0x60 ≤ row ∨ row = 0x0E) : opc = row := by
  unfold opRow sized at h
  split at h
  next hsized =>
    simp only [Bool.or_eq_true, Bool.and_eq_true, decide_eq_true_eq] at hsized
    omega
  next => exact h

theorem dataRow_mul (sgn : Bool) (hexec : ∀ s, exec c s = .next (s.loomRow (isRow n) (semMul sgn))) (hn : n = 0x68 ∨ n = 0x69)
    (hshape : RowShape n ⟨.none, .src, .src, base⟩) : DataRow c :=
  dataRow_of_isRow hshape hexec fun i s _ hsh hrow => by
    have hsize : opSize i.opc = 4 := by
      rw [opc_eq_of_unsized hrow (by omega)]
      obtain rfl | rfl := hn <;> rfl
    exact semMul_done sgn s hsize (by rw [hsh]; rfl) (by rw [hsh]; rfl) (RowFlags.refl ..)

theorem dataRow_lea : DataRow .lea :=
  dataRow_of_isRow (sem := semLea) (rowShape_of rfl rfl) (fun _ => rfl) fun i s hwf hsh hrow => by
    obtain ⟨v, hstored⟩ := semLea_stored (i := i) s (by rw [opc_eq_of_unsized hrow (.inr rfl)]; rfl) (by rw [hsh]; rfl) (by rw [hsh]; rfl)
    rw [hstored]
    exact dataDone_stored _ hwf (.inl (by rw [hsh])) (RowFlags.refl ..)

theorem dataDone_refl (i : Ins) (row : Instr) (s : State) : DataDone i (RowFlags row) s s :=
  ⟨RegsKept.refl .., rfl, fun _ => ⟨rfl, rfl⟩, RowFlags.refl .., fun _ _ => rfl⟩

theorem sameResults_fetchFault (s : State) : SameResults s s.fetchFault := by
  unfold State.fetchFault
  split
  · exact SameResults.refl s
  · exact sameResults_ite (SameResults.refl s) ((sameResults_endActivation ..).trans (sameResults_taskFault ..))

/-- NOP's row also takes the fetches that are not allowed and the codes that are none (R80, R99). -/
theorem dataRow_nop : DataRow .nop := by
  intro s t hwf h
  obtain rfl : opNop s = t := Host.Outcome.next.inj h
  unfold opNop
  split
  · exact dataDone_loomRow (RowFlags.refl .nop) fun _ _ => dataDone_refl ..
  · exact (dataDone_refl ..).of_same (sameResults_fetchFault s)

theorem rowFlags_any {row : Instr} {f f' : BitVec 5} (hmove : ¬ (row = .mov ∨ row = .movsx)) (hbit : ¬ (row = .bset ∨ row = .bclr ∨ row = .btst))
    (hnone : ¬ (row = .nop ∨ row = .lea ∨ row = .mulu ∨ row = .muls)) : RowFlags row f f' :=
  ⟨fun h => absurd h hmove, fun h => absurd h hbit, fun h => absurd h hnone⟩

theorem rowFlags_move {row : Instr} {f : BitVec 5} {w r : Nat} (hbit : ¬ (row = .bset ∨ row = .bclr ∨ row = .btst))
    (hnone : ¬ (row = .nop ∨ row = .lea ∨ row = .mulu ∨ row = .muls)) : RowFlags row f (flagsNZ f w r) :=
  ⟨fun _ _ hi => getF_flagsNZ f w r hi, fun h => absurd h hbit, fun h => absurd h hnone⟩

theorem rowFlags_bit {row : Instr} {f : BitVec 5} {w v n : Nat} (hmove : ¬ (row = .mov ∨ row = .movsx))
    (hnone : ¬ (row = .nop ∨ row = .lea ∨ row = .mulu ∨ row = .muls)) : RowFlags row f (bitZ f w v n) :=
  ⟨fun h => absurd h hmove, fun _ _ hi => getF_bitZ f w v n hi, fun h => absurd h hnone⟩

theorem dataRows : ∀ row ∈ ([.nop, .mov, .movsx, .lea, .add, .adc, .sub, .sbc, .and, .or, .xor, .not, .neg, .shl, .shr, .sar, .ror, .cmp, .tst, .addm, .subm, .bset, .bclr, .btst, .mulu, .muls, .dadd, .dadc, .dsub, .dsbc, .dadj, .cvbd, .cvdb] : List Instr), DataRow row := by
  simp only [List.forall_mem_cons]
  refine ⟨
    dataRow_nop,
    dataRow_unary (fun _ => rfl) (rowShape_of rfl rfl) fun _ _ _ => rowFlags_move nofun nofun,
    dataRow_unary (fun _ => rfl) (rowShape_of rfl rfl) fun _ _ _ => rowFlags_move nofun nofun,
    dataRow_lea,
    dataRow_binary (fun _ => rfl) (rowShape_of rfl rfl) fun _ _ _ _ => rowFlags_any nofun nofun nofun,
    dataRow_binary (fun _ => rfl) (rowShape_of rfl rfl) fun _ _ _ _ => rowFlags_any nofun nofun nofun,
    dataRow_binary (fun _ => rfl) (rowShape_of rfl rfl) fun _ _ _ _ => rowFlags_any nofun nofun nofun,
    dataRow_binary (fun _ => rfl) (rowShape_of rfl rfl) fun _ _ _ _ => rowFlags_any nofun nofun nofun,
    dataRow_binary (fun _ => rfl) (rowShape_of rfl rfl) fun _ _ _ _ => rowFlags_any nofun nofun nofun,
    dataRow_binary (fun _ => rfl) (rowShape_of rfl rfl) fun _ _ _ _ => rowFlags_any nofun nofun nofun,
    dataRow_binary (fun _ => rfl) (rowShape_of rfl rfl) fun _ _ _ _ => rowFlags_any nofun nofun nofun,
    dataRow_unary (fun _ => rfl) (rowShape_of rfl rfl) fun _ _ _ => rowFlags_any nofun nofun nofun,
    dataRow_unary (fun _ => rfl) (rowShape_of rfl rfl) fun _ _ _ => rowFlags_any nofun nofun nofun,
    dataRow_binary (fun _ => rfl) (rowShape_of rfl rfl) fun _ _ _ _ => rowFlags_any nofun nofun nofun,
    dataRow_binary (fun _ => rfl) (rowShape_of rfl rfl) fun _ _ _ _ => rowFlags_any nofun nofun nofun,
    dataRow_binary (fun _ => rfl) (rowShape_of rfl rfl) fun _ _ _ _ => rowFlags_any nofun nofun nofun,
    dataRow_binary (fun _ => rfl) (rowShape_of rfl rfl) fun _ _ _ _ => rowFlags_any nofun nofun nofun,
    dataRow_compare (fun _ => rfl) (rowShape_of rfl rfl) fun _ _ _ _ => rowFlags_any nofun nofun nofun,
    dataRow_compare (fun _ => rfl) (rowShape_of rfl rfl) fun _ _ _ _ => rowFlags_any nofun nofun nofun,
    dataRow_modify (fun _ => rfl) (rowShape_of rfl rfl) fun _ _ _ _ => rowFlags_any nofun nofun nofun,
    dataRow_modify (fun _ => rfl) (rowShape_of rfl rfl) fun _ _ _ _ => rowFlags_any nofun nofun nofun,
    dataRow_modify (fun _ => rfl) (rowShape_of rfl rfl) fun _ _ _ _ => rowFlags_bit nofun nofun,
    dataRow_modify (fun _ => rfl) (rowShape_of rfl rfl) fun _ _ _ _ => rowFlags_bit nofun nofun,
    dataRow_compare (fun _ => rfl) (rowShape_of rfl rfl) fun _ _ _ _ => rowFlags_bit nofun nofun,
    dataRow_mul false (fun _ => rfl) (.inl rfl) (rowShape_of rfl rfl),
    dataRow_mul true (fun _ => rfl) (.inr rfl) (rowShape_of rfl rfl),
    dataRow_binary (fun _ => rfl) (rowShape_of rfl rfl) fun _ _ _ _ => rowFlags_any nofun nofun nofun,
    dataRow_binary (fun _ => rfl) (rowShape_of rfl rfl) fun _ _ _ _ => rowFlags_any nofun nofun nofun,
    dataRow_binary (fun _ => rfl) (rowShape_of rfl rfl) fun _ _ _ _ => rowFlags_any nofun nofun nofun,
    dataRow_binary (fun _ => rfl) (rowShape_of rfl rfl) fun _ _ _ _ => rowFlags_any nofun nofun nofun,
    dataRow_unary (fun _ => rfl) (rowShape_of rfl rfl) fun _ _ _ => rowFlags_any nofun nofun nofun,
    dataRow_unary (fun _ => rfl) (rowShape_of rfl rfl) fun _ _ _ => rowFlags_any nofun nofun nofun,
    dataRow_unary (fun _ => rfl) (rowShape_of rfl rfl) fun _ _ _ => rowFlags_any nofun nofun nofun,
    List.forall_mem_nil _⟩

/-- Settles O25, from what the results of every data row leave. -/
theorem loomRegisterFrame : Obligations.LoomRegisterFrame := by
  intro s t hwf row hrow hexec
  obtain ⟨hregs, hrx, hproduct, ⟨hmove, hbit, hnone⟩, hmem⟩ := dataRows row hrow s t hwf hexec
  exact ⟨hregs.g, hregs.file, hregs.wbase, hrx, hproduct, hmove, hbit, hnone, hmem⟩

end Sys2Proof.DataFrameProofs

/-! ADD of registers and MOV to memory, run to their end (R77 to R81). -/

namespace Sys2Proof.DataExecProofs

open Sys2Proof Sys2Proof.Machine Sys2Proof.Laws Sys2Proof.LoomProofs Sys2Proof.LoomRowProofs Sys2Proof.OperandProofs Sys2Proof.ControlProofs
  Sys2Proof.DataFrameProofs

theorem sMode_of_lt {x : Nat} (h : x < 32) : sMode x = 0 := Nat.div_eq_of_lt h

theorem sReg_of_lt {x : Nat} (h : x < 32) : sReg x = x := Nat.mod_eq_of_lt h

/-- A word read from a register is the register. -/
theorem readOp_register {v : State} {x : Nat} (ext : Nat) (h : x < 32) : v.readOp x ext 4 = (v.loom.reg x, none, v) := by
  have hreg : v.loom.reg x % 2 ^ (8 * 4) = v.loom.reg x := Nat.mod_eq_of_lt (reg_lt v.loom x)
  simp only [State.readOp, Loom.loc, sMode_of_lt h, sReg_of_lt h]
  rw [hreg]
  rfl

/-! ## ADD of registers -/

/-- An instruction of one word that names registers alone: its sum is written with its flags. -/
theorem semBinary_registers (f : BitVec 5 → Nat → Nat → Nat → Nat × BitVec 5) {i : Ins} {v : State} (hsize : opSize i.opc = 4) (hd : i.d < 32)
    (ha : i.a < 32) (hb : i.b < 32) :
    semBinary f i v = goingOn (v.onLoom fun l => ({ l with flg := (f l.flg 32 (l.reg i.a) (l.reg i.b)).2 } : Loom).setReg i.d
      (f l.flg 32 (l.reg i.a) (l.reg i.b)).1) i.cycles 0 none := by
  simp only [semBinary, hsize, readOp_register _ ha, readOp_register _ hb, writeOp_register _ _ _ (sMode_of_lt hd), sReg_of_lt hd]
  rfl

/-- The fields of an instruction fetched are those of its word. -/
theorem nowIns_words_of_registers {s : State} (hd : s.nowIns.d < 32) (ha : s.nowIns.a < 32) (hb : s.nowIns.b < 32) : s.nowIns.words = 1 := by
  have hext (u : Use) {x : Nat} (h : x < 32) : extOf u x = 0 := by
    simp [extOf, sMode_of_lt h, modeExt]
  show 1 + extOf s.nowIns.shape.d s.nowIns.d + extOf s.nowIns.shape.a s.nowIns.a + extOf s.nowIns.shape.b s.nowIns.b = 1
  rw [hext _ hd, hext _ ha, hext _ hb]

theorem accOf_register (u : Use) {x : Nat} (h : x < 32) : accOf u x = 0 := by
  cases u <;> simp [accOf, sMode_of_lt h]

/-- Settles O23. -/
theorem addRegisters : Obligations.AddRegisters := by
  rintro s g d a b h hopc rfl rfl rfl hd ha hb fits hpc
  have hrun : RunsRow .add 0x10 (semBinary fun f w a b => addF f w a b 0) := runsRow_of_isRow fun _ => rfl
  have hsize : opSize s.nowIns.opc = 4 := by rw [hopc]; rfl
  have hwords := nowIns_words_of_registers (s := s) (by omega) (by omega) (by omega)
  have hshape : s.nowIns.shape = ⟨.dst, .src, .src, 1⟩ := nowIns_shape (by rw [hopc]; rfl)
  have hcycles : s.nowIns.cycles = 1 := by
    rw [Ins.cycles, hwords, accOf_register _ (by omega), accOf_register _ (by omega), accOf_register _ (by omega), hshape]
  have hafter : s.nowIns.after = s.loom.pc + 4 := by rw [Ins.after, hwords]; rfl
  have hsem := semBinary_registers (fun f w a b => addF f w a b 0) (i := s.nowIns) (v := settled s) hsize (by omega) (by omega) (by omega)
  simp only [hcycles] at hsem
  obtain ⟨gs, file, hset⟩ := setReg_eq { (settled s).loom with
    flg := (addF (settled s).loom.flg 32 ((settled s).loom.reg s.nowIns.a) ((settled s).loom.reg s.nowIns.b) 0).2 } s.nowIns.d
    (addF (settled s).loom.flg 32 ((settled s).loom.reg s.nowIns.a) ((settled s).loom.reg s.nowIns.b) 0).1
  refine ⟨_, exec_next hrun h hsem ?_ ?_ (by omega), ?_, fun r hr hne => ?_, ?_, ?_, ?_, ?_⟩
  · rw [onLoom_loom, hset]
    exact settled_seg s
  · rw [onLoom_loom, hset]
    exact settled_rep s
  · rw [landed_reg, onLoom_loom, reg_setReg_self, settled_reg, settled_reg]
    exact Nat.mod_mod _ _
  · rw [landed_reg, onLoom_loom, reg_setReg_ne _ _ (by omega) hr hne]
    exact settled_reg s r
  · rw [landed_loom, onLoom_loom, hset, settled_reg, settled_reg, settled_flg]
  · rw [landed_loom, hafter]
    exact Nat.mod_eq_of_lt hpc
  · rw [landed_loom, onLoom_loom, hset]
    exact congrArg (· + 1) (settled_cyc s)
  · rw [landed_mem, onLoom_mem, settled_mem]

/-! ## MOV to memory -/

theorem writeOp_absolute {v : State} (ext value : Nat) (h : dataOk v.layout (ext % 2 ^ 32) 4 = true) :
    v.writeOp 0x40 ext 4 value = (none, v.writeMem (ext % 2 ^ 32) (le 4 value)) := by
  have hdata : dataOk (v.onLoom fun _ => v.loom).layout (ext % 2 ^ 32) 4 = true := h
  simp only [State.writeOp, Loom.loc, State.writeAt, show sMode 0x40 = 2 from rfl]
  rw [if_pos hdata]
  rfl

/-- A word moved from a register to an absolute address. -/
theorem semMov_absolute {i : Ins} {v : State} (hopc : i.opc = 0x06) (hd : i.d = 0x40) (ha : i.a < 32)
    (hok : dataOk v.layout (i.xd % 2 ^ 32) 4 = true) :
    semUnary (fun f w a => (a, flagsNZ f w a)) i v =
      goingOn ((v.onLoom fun l => { l with flg := flagsNZ l.flg 32 (l.reg i.a) }).writeMem (i.xd % 2 ^ 32) (le 4 (v.loom.reg i.a))) i.cycles 0 none := by
  have hsize : opSize i.opc = 4 := by rw [hopc]; rfl
  have hdata : dataOk (v.onLoom fun l => { l with flg := flagsNZ v.loom.flg (8 * 4) (v.loom.reg i.a) }).layout (i.xd % 2 ^ 32) 4 = true := hok
  simp only [semUnary, hsize, readOp_register _ ha, hd, writeOp_absolute _ _ hdata]
  rfl

/-- Settles O24. -/
theorem movStores : Obligations.MovStores := by
  intro s g h hwf hopc hd ha hok fits
  have hrun : RunsRow .mov 0x04 (semUnary fun f w a => (a, flagsNZ f w a)) := runsRow_of_isRow fun _ => rfl
  have hlayout : (settled s).layout = s.layout := rfl
  have hsem := semMov_absolute (v := settled s) hopc hd (by omega) (by rwa [hlayout])
  rw [settled_cyc] at fits
  have hmem (t : State) (ht : t.mem = Memory.writeBytes s.mem (s.nowIns.xd % 2 ^ 32) (le 4 (s.loom.reg s.nowIns.a))) (a : Nat)
      (hout : a < s.nowIns.xd % 2 ^ 32 ∨ s.nowIns.xd % 2 ^ 32 + 4 ≤ a) : Memory.read t.mem a = Memory.read s.mem a := by
    rw [ht]
    exact Memory.read_writeBytes_of_outside _ _ a hwf (by rwa [le_length])
  have hstored := exec_next hrun h hsem (settled_seg s) (settled_rep s) fits
  rw [settled_reg] at hstored
  exact ⟨_, hstored, rfl, hmem _ rfl⟩

end Sys2Proof.DataExecProofs

/-! Which bytes of memory the storing commands change (spec/05, 07, 10, 15, R436). -/

namespace Sys2Proof.MemoryFrameProofs

open Sys2Proof Sys2Proof.Machine Sys2Proof.Laws Sys2Proof.DataFrameProofs

/-! ## The bytes at addresses where `P` holds read as before -/

/-- From a memory in its canonical form, memory stays so and every byte at an address of `P` reads as before. -/
def BytesKept (P : Nat → Prop) (s t : State) : Prop :=
  Memory.wf s.mem = true → Memory.wf t.mem = true ∧ ∀ a, P a → Memory.read t.mem a = Memory.read s.mem a

variable {P : Nat → Prop} {s t u : State}

theorem BytesKept.refl (P : Nat → Prop) (s : State) : BytesKept P s s := fun h => ⟨h, fun _ _ => rfl⟩

theorem BytesKept.trans (h : BytesKept P s t) (k : BytesKept P t u) : BytesKept P s u := by
  intro hwf
  obtain ⟨ht, hread⟩ := h hwf
  obtain ⟨hu, hread'⟩ := k ht
  exact ⟨hu, fun a ha => (hread' a ha).trans (hread a ha)⟩

theorem bytesKept_of_keeps {m : List Part} (h : Keeps m s t) (hm : .mem ∉ m) : BytesKept P s t := by
  have hmem : t.mem = s.mem := h.only.same .mem hm
  exact fun hwf => ⟨by rwa [hmem], fun a _ => by rw [hmem]⟩

/-- An operation that leaves memory alone, after others. -/
theorem BytesKept.keeps {m : List Part} (h : BytesKept P s t) (k : Keeps m t u) (hm : .mem ∉ m) : BytesKept P s u :=
  h.trans (bytesKept_of_keeps k hm)

theorem bytesKept_writeMem (s : State) (x : Nat) (b : List Byte) (h : ∀ a, P a → a < x ∨ x + b.length ≤ a) : BytesKept P s (s.writeMem x b) :=
  fun hwf => ⟨Memory.wf_writeBytes x b hwf, fun a ha => Memory.read_writeBytes_of_outside x b a hwf (h a ha)⟩

theorem read_filter (m : List Host.Cell) (p : Host.Cell → Bool) (a : Nat) (h : ∀ v, p (a, v) = true) :
    Memory.read (m.filter p) a = Memory.read m a := by
  induction m with
  | nil => rfl
  | cons c m ih =>
    obtain ⟨k, v⟩ := c
    by_cases hk : k = a
    · subst hk
      rw [List.filter_cons_of_pos (h v), Memory.read, Memory.read, if_pos rfl, if_pos rfl]
    · rw [List.filter_cons]
      split
      · rw [Memory.read, Memory.read, if_neg hk, if_neg hk, ih]
      · rw [Memory.read, if_neg hk, ih]

theorem bytesKept_clearMem (s : State) (lo hi : Nat) (h : ∀ a, P a → a < lo ∨ hi ≤ a) : BytesKept P s (s.clearMem lo hi) :=
  fun hwf => ⟨Memory.wf_clear lo hi hwf, fun a ha => read_filter _ _ a fun v => by
    rw [Bool.or_eq_true, decide_eq_true_iff, decide_eq_true_iff]
    exact h a ha⟩

theorem bytesKept_ite {c : Prop} [Decidable c] (h : BytesKept P s t) (k : BytesKept P s u) : BytesKept P s (if c then t else u) := by
  split
  · exact h
  · exact k

theorem bytesKept_forEach {α : Type} (l : List α) {f : α → State → State} (s : State) (h : ∀ x t, BytesKept P t (f x t)) :
    BytesKept P s (s.forEach l f) := by
  unfold State.forEach
  induction l generalizing s with
  | nil => exact BytesKept.refl P s
  | cons x l ih => exact (h x s).trans (ih _)

theorem slice_length_le (p : List Byte) (i n : Nat) : (slice p i n).length ≤ n := by
  rw [slice, List.length_take]
  exact Nat.min_le_left ..

/-! ## Resets -/

theorem onlyBytes_of_bytesKept {lo hi : Nat} (hwf : Memory.wf s.mem = true) (h : BytesKept (fun a => a < lo ∨ hi ≤ a) s t) : OnlyBytes lo hi s t :=
  (h hwf).2

theorem switchClear_bytes (s : State) : BytesKept (fun a => a < 0x21000100 ∨ 0x21000200 ≤ a) s s.switchClear := by
  unfold State.switchClear
  dsimp only
  refine BytesKept.trans ?_ (bytesKept_clearMem _ _ _ fun a ha => ha)
  exact bytesKept_of_keeps (m := [.out, .supply, .rcd, .cmd, .sw, .drv, .fld, .can, .far, .twin]) (rebase_keeps (by decide) (onSw_keeps (by decide)
    (endBarrier_keeps (by decide) (endWaiting_keeps (by decide) (keeps_refl _ s))))) (by decide)

theorem opSwitchReset_bytes (s : State) : BytesKept (fun a => a < 0x21000100 ∨ 0x21000200 ≤ a) s (opSwitchReset s) :=
  (switchClear_bytes s).keeps (fault_keeps (List.Subset.refl _) (keeps_refl _ _)) (by decide)

theorem driveClear_bytes (s : State) : BytesKept (fun a => a < 0x22100100 ∨ 0x22101000 ≤ a) s s.driveClear := by
  unfold State.driveClear
  dsimp only
  refine BytesKept.trans ?_ (bytesKept_clearMem _ _ _ fun a ha => ha)
  exact bytesKept_of_keeps (m := [.free, .out, .rcd, .cmd, .sw, .drv, .fld, .can, .far, .twin]) (railUpdate_keeps (by decide) (onDrv_keeps (by decide)
    (keeps_forEach (fun c t => endAcWaiting_keeps (by decide) (endFireEarly_keeps (by decide) (keeps_refl _ t))) (keeps_refl _ s)))) (by decide)

theorem opDriveReset_bytes (s : State) : BytesKept (fun a => a < 0x22100100 ∨ 0x22101000 ≤ a) s (opDriveReset s) :=
  (driveClear_bytes s).keeps (fault_keeps (List.Subset.refl _) (keeps_refl _ _)) (by decide)

/-- What goes before the reset of an island of its own leaves memory alone. -/
def resetParts : List Part := [.out, .links, .rcd, .flt, .cmd, .sw, .drv, .fld, .can, .far, .twin, .clk]

theorem resetIsland_switch_bytes (s : State) : BytesKept (fun a => a < 0x21000100 ∨ 0x21000200 ≤ a) s (s.resetIsland 4) :=
  (bytesKept_of_keeps (m := resetParts) (wdtStart_keeps (by decide) (onClk_keeps (by decide) (resetLinks_keeps (by decide)
    (serviceDrain_keeps (by decide) (keeps_refl _ s))))) (by decide)).trans (opSwitchReset_bytes _)

theorem resetIsland_drive_bytes (s : State) : BytesKept (fun a => a < 0x22100100 ∨ 0x22101000 ≤ a) s (s.resetIsland 5) :=
  (bytesKept_of_keeps (m := resetParts) (wdtStart_keeps (by decide) (onClk_keeps (by decide) (resetLinks_keeps (by decide)
    (serviceDrain_keeps (by decide) (keeps_refl _ s))))) (by decide)).trans (opDriveReset_bytes _)

/-! ## Loads, bursts, the twin mailbox and the selvedge -/

theorem onCommand_of_begun {r : CmdRef} {opcode : Nat} {f : Cmd → State → State} {q : Cmd} (h : s.begun r = some q) :
    s.onCommand r opcode f = s ∨ s.onCommand r opcode f = f q s := by
  simp only [State.onCommand, h]
  split
  · exact .inr rfl
  · exact .inl rfl

/-- The parts a reply may change. -/
def replyParts : List Part := [.out, .rcd, .cmd, .sw, .drv, .fld, .can, .far, .twin]

theorem bytesKept_complete {q : Cmd} {st : Status} {p : List Byte} (h : BytesKept P s t) : BytesKept P s (t.complete q st p) :=
  h.keeps (complete_keeps (List.Subset.refl _) (keeps_refl _ t)) (by decide)

theorem acLoadBobbin_bytes {r : CmdRef} {q : Cmd} (h : s.begun r = some q) :
    BytesKept (fun a => a < bobAddr (u8 q.params 0) ∨ bobAddr (u8 q.params 0) + 0x100 ≤ a) s (opAcLoadBobbin r s) := by
  obtain h | h := onCommand_of_begun (opcode := 0x0304) h
  · rw [opAcLoadBobbin, h]
    exact BytesKept.refl _ _
  · rw [opAcLoadBobbin, h]
    extract_lets p n words reject
    have hreject (st : Status) (w : Nat) : BytesKept (fun a => a < bobAddr n ∨ bobAddr n + 0x100 ≤ a) s (reject s st w) :=
      bytesKept_complete (bytesKept_of_keeps (m := replyParts) (record_keeps (by decide) (keeps_refl _ s)) (by decide))
    split
    · exact bytesKept_complete (BytesKept.refl _ _)
    next hlen =>
      refine bytesKept_ite (hreject _ _) (bytesKept_ite (hreject _ _) (bytesKept_ite (hreject _ _) ?_))
      split
      · exact hreject _ _
      · refine bytesKept_complete (BytesKept.keeps (m := [.drv, .rcd]) (bytesKept_writeMem s (bobAddr n) (p.drop 4) fun a ha => ?_)
          (record_keeps (by decide) (onDrv_keeps (by decide) (keeps_refl _ _))) (by decide))
        have hlength : p.length = 260 := by
          by_contra hne
          exact hlen (.inl hne)
        rw [List.length_drop, hlength]
        exact ha

theorem storeMem_bytes (s : State) (g : Space) (x : Nat) (b : List Byte) (h : ∀ a, P a → a < x ∨ x + b.length ≤ a) :
    BytesKept P s (s.storeMem g x b) := by
  unfold State.storeMem
  dsimp only
  refine BytesKept.trans ?_ (bytesKept_writeMem _ x b h)
  split
  · exact bytesKept_forEach _ _ fun i t => bytesKept_of_keeps (touchWeft_keeps (List.Subset.refl _) (keeps_refl _ t)) (by decide)
  · exact bytesKept_of_keeps (onCmd_keeps (List.Subset.refl _) (keeps_refl _ s)) (by decide)
  · exact BytesKept.refl _ _

/-- A burst begins within its window. -/
theorem burst_le {w : Window} {count offset o : Nat} {can : Bool} (h : w.burst count offset can = some o) : o ≤ w.length := by
  simp only [Window.burst, Option.ite_none_right_eq_some] at h
  obtain ⟨⟨-, -, -, -, hle⟩, ho⟩ := h
  exact Option.some.inj ho ▸ hle

theorem dpWrite_bytes {r : CmdRef} {q : Cmd} {w : Window} (h : s.begun r = some q) (hw : s.window q (u8 q.params 0) = some w) :
    BytesKept (fun a => a < w.base ∨ w.base + w.length ≤ a) s (opDpWrite r s) := by
  obtain h | h := onCommand_of_begun (opcode := 0x0703) h
  · rw [opDpWrite, h]
    exact BytesKept.refl _ _
  · rw [opDpWrite, h]
    extract_lets p k count
    refine bytesKept_ite (bytesKept_complete (BytesKept.refl _ _)) ?_
    split
    next hnone => exact bytesKept_complete (BytesKept.refl _ _)
    next w' hsome =>
      obtain rfl : w = w' := Option.some.inj (hw.symm.trans hsome)
      split
      next => exact bytesKept_complete (BytesKept.refl _ _)
      next o ho =>
        extract_lets n b a done s1
        have h1 : BytesKept (fun a => a < w.base ∨ w.base + w.length ≤ a) s s1 :=
          bytesKept_of_keeps (advance_keeps (List.Subset.refl _) (keeps_refl _ s)) (by decide)
        refine bytesKept_ite (bytesKept_complete h1) (bytesKept_ite (bytesKept_ite (bytesKept_complete h1) ?_) ?_)
        · refine bytesKept_complete (BytesKept.trans h1 (bytesKept_of_keeps (m := [.free, .out, .supply, .clk, .ccfg, .links, .rcd, .flt, .cmd, .sw, .drv,
            .fld, .can, .nm, .eth, .far, .twin]) (advance_keeps (by decide) (writeRegs_keeps (by decide) (access_keeps (by decide) (keeps_refl _ s1))))
            (by decide)))
        · split
          · exact bytesKept_complete h1
          · split
            · exact bytesKept_complete h1
            · refine bytesKept_complete (BytesKept.keeps (h1.trans (storeMem_bytes _ _ _ _ fun x hx => ?_))
                (advance_keeps (List.Subset.refl _) (keeps_refl _ _)) (by decide))
              have hb : b.length ≤ n := slice_length_le ..
              have ho' : o ≤ w.length := burst_le ho
              omega

theorem twinLoomData_bytes (f : List Byte) (s : State) : BytesKept (fun a => a < 0x1000EFFC ∨ 0x10010000 ≤ a) s (opTwinLoomData f s) := by
  have htake : BytesKept (fun a => a < 0x1000EFFC ∨ 0x10010000 ≤ a) s (s.twinTake 0x30 f).2 :=
    bytesKept_of_keeps (twinTake_keeps (List.Subset.refl _) (keeps_refl _ s)) (by decide)
  unfold opTwinLoomData
  split
  next s' heq =>
    rw [heq] at htake
    exact htake
  next p s' heq =>
    rw [heq] at htake
    extract_lets s1 n s2
    have h1 : BytesKept (fun a => a < 0x1000EFFC ∨ 0x10010000 ≤ a) s s1 :=
      htake.keeps (twinAnswer_keeps (List.Subset.refl _) (keeps_refl _ s')) (by decide)
    refine bytesKept_ite h1 (BytesKept.trans (h1.trans (bytesKept_forEach _ _ fun i t => ?_)) (bytesKept_writeMem _ _ _ fun a ha => ?_))
    · dsimp only
      split
      next hk =>
        have hword := slice_length_le p (10 + 6 * i) 4
        exact bytesKept_writeMem _ _ _ fun a ha => by omega
      next => exact BytesKept.refl _ _
    · have hword := slice_length_le p 0 4
      omega

theorem le_words_length (l : List Nat) : (l.flatMap fun w => le 4 w).length = 4 * l.length := by
  induction l with
  | nil => rfl
  | cons w l ih => rw [List.flatMap_cons, List.length_append, le_length, ih, List.length_cons]; omega

/-- The words of the selvedge go out, and the twin's data with them. -/
def selvedgeParts : List Part := [.out, .links, .rcd, .flt, .twin, .loom]

theorem selvedgeCommit_bytes (s : State) :
    BytesKept (fun a => (a < 0x1000EFC0 ∨ 0x1000EFE0 ≤ a) ∧
      ∀ x w p, s.weft.swapping = some x → s.weft.store.get x.target = some w → w.decl.status = some p → a < p ∨ p + 8 ≤ a) s (opSelvedgeCommit s) := by
  unfold opSelvedgeCommit
  refine bytesKept_ite (BytesKept.refl _ _) ?_
  extract_lets s1 next s2 s3 s4 s5 s6 s7
  have h5 : Keeps selvedgeParts s s5 := sendWord_keeps (by decide) (sendWord_keeps (by decide) (sendWord_keeps (by decide) (sendWord_keeps (by decide)
    (onLoom_keeps (by decide) (keeps_refl _ s)))))
  have h6 : Keeps selvedgeParts s s6 := sendLoomData_keeps (by decide) (twinDrain_keeps (by decide) h5)
  refine bytesKept_ite (bytesKept_of_keeps h5 (by decide)) ?_
  have h7 : BytesKept (fun a => (a < 0x1000EFC0 ∨ 0x1000EFE0 ≤ a) ∧
      ∀ x w p, s.weft.swapping = some x → s.weft.store.get x.target = some w → w.decl.status = some p → a < p ∨ p + 8 ≤ a) s s7 := by
    refine bytesKept_ite ((bytesKept_of_keeps h6 (by decide)).trans (bytesKept_writeMem _ _ _ fun a ha => ?_)) (bytesKept_of_keeps h6 (by decide))
    rw [le_words_length]
    exact ha.1
  have hkeeps : Keeps (.mem :: selvedgeParts) s s7 :=
    keeps_ite (writeMem_keeps (by decide) (keeps_mono h6 (by decide))) (keeps_mono h6 (by decide))
  have hweft : s7.weft = s.weft := hkeeps.only.same .weft (by decide)
  clear_value s7
  split
  next => exact h7
  next x hx =>
    refine bytesKept_ite ?_ h7
    split
    next w hw =>
      refine h7.trans ?_
      unfold State.writeOwnership
      split
      next p hp =>
        refine bytesKept_writeMem _ _ _ fun a ha => ?_
        rw [le_length]
        have hx' : s.weft.swapping = some x := hweft ▸ hx
        have hw' : s.weft.store.get x.target = some w := hweft ▸ hw
        exact ha.2 x w p hx' hw' hp
      next => exact BytesKept.refl _ _
    next => exact h7

/-- Settles O59. -/
theorem memoryFrame : Obligations.MemoryFrame := by
  intro s t hwf
  refine ⟨fun h => ?_, fun h => ?_, fun r q hq h => ?_, fun r q w hq hw h => ?_, fun f h => ?_, fun h a hout hswap => ?_⟩
  · obtain rfl : s.resetIsland 4 = t := Host.Outcome.next.inj h
    exact onlyBytes_of_bytesKept hwf (resetIsland_switch_bytes s)
  · obtain rfl : s.resetIsland 5 = t := Host.Outcome.next.inj h
    exact onlyBytes_of_bytesKept hwf (resetIsland_drive_bytes s)
  · obtain rfl : opAcLoadBobbin r s = t := Host.Outcome.next.inj h
    exact onlyBytes_of_bytesKept hwf (acLoadBobbin_bytes hq)
  · obtain rfl : opDpWrite r s = t := Host.Outcome.next.inj h
    exact onlyBytes_of_bytesKept hwf (dpWrite_bytes hq hw)
  · obtain rfl : opTwinLoomData f s = t := Host.Outcome.next.inj h
    exact onlyBytes_of_bytesKept hwf (twinLoomData_bytes f s)
  · obtain rfl : opSelvedgeCommit s = t := Host.Outcome.next.inj h
    exact (selvedgeCommit_bytes s hwf).2 a ⟨hout, hswap⟩

end Sys2Proof.MemoryFrameProofs

/-! How a command, once begun, reaches the effect its row gives it. -/

namespace Sys2Proof.CommandProofs

open Sys2Proof Sys2Proof.Machine Sys2Proof.Laws

/-- A begun command of the opcode has the effect its row gives it. -/
theorem onCommand_eq {s : State} {r : CmdRef} {q : Cmd} {opcode : Nat} (h : s.begun r = some q) (ho : q.opcode = opcode)
    (f : Cmd → State → State) : s.onCommand r opcode f = f q s := by
  simp only [State.onCommand, h, ho, if_true]

theorem u8_of_zeroAt {p : List Byte} {l : List Nat} {k : Nat} (h : zeroAt p l = true) (hk : k ∈ l) : u8 p k = 0 := by
  simpa using List.all_eq_true.1 h k hk

/-- A row's result, from the state its operation gives. -/
theorem next_congr {t u : State} (h : t = u) : (Host.Outcome.next t : Host.Outcome State Fault Refusal) = .next u := congrArg _ h

end Sys2Proof.CommandProofs

/-! The clock events: the crystal, the trim sources and the clock switches (spec/02). -/

namespace Sys2Proof.ClockProofs

open Sys2Proof Sys2Proof.Machine Sys2Proof.Laws Sys2Proof.CommandProofs

/-! ## What a change of a trim source and the radio's judgement leave of the clock -/

/-- A change of a trim source marks it and may choose another source, which starts a trim (R46, R47). -/
theorem setSource_clk (s : State) (i : Fin 6) (v : Bool) :
    ∃ (src : Nat) (trimmed : Bool) (at_ : Nat) (temp : Int), (s.setSource i v).clk =
      { s.clk with avail := s.clk.avail.put i v, trimSrc := src, hfoTrimmed := trimmed, trimAt := at_, holdTemp := temp } := by
  unfold State.setSource State.retrim
  dsimp only
  split
  · exact ⟨_, _, _, _, rfl⟩
  · exact ⟨_, _, _, _, rfl⟩

theorem radioEval_clk (s : State) : s.radioEval.clk = s.clk :=
  (radioEval_keeps (List.Subset.refl _) (keeps_refl _ s)).only.same .clk (by decide)

/-- What a lost Ethernet clock leaves of the clock block: all but the trim sources. -/
def SameClocks (k l : Clock) : Prop :=
  l.onPll = k.onPll ∧ l.pllLost = k.pllLost ∧ l.i7Run = k.i7Run ∧ l.i8Run = k.i8Run

theorem opGptpLost_sameClocks (p : PortNo) (next : Fin 4) (s : State) : SameClocks s.clk (opGptpLost p next s).clk := by
  unfold opGptpLost
  split
  · dsimp only
    obtain ⟨src, trimmed, at_, temp, h⟩ := setSource_clk
      ((((s.onPort p fun k => { k with gptp := if next.1 = 2 then 1 else next.1, announce := none }).onEth
        fun e => { e with synced := false }).onWt fun w => { w with phaseOk := false, offset := 0 }).record 0x5021 3 (portNum p) 0 0) 5 false
    rw [h]
    exact ⟨rfl, rfl, rfl, rfl⟩
  · exact ⟨rfl, rfl, rfl, rfl⟩

theorem etherStops_sameClocks (s : State) : SameClocks s.clk s.etherStops.clk := by
  have hdown : (s.forEach (List.finRange 2) fun p s => opLinkDown p s).clk = s.clk :=
    (keeps_forEach (m := [.rcd, .flt, .eth]) (fun p t => opLinkDown_keeps (by decide) (keeps_refl _ t)) (keeps_refl _ s)).only.same .clk (by decide)
  unfold State.etherStops
  dsimp only
  rw [← hdown]
  generalize (s.forEach (List.finRange 2) fun p s => opLinkDown p s) = u
  obtain ⟨h0, h1⟩ := And.intro (opGptpLost_sameClocks 0 0 u) (opGptpLost_sameClocks 1 0 (opGptpLost 0 0 u))
  exact ⟨h1.1.trans h0.1, h1.2.1.trans h0.2.1, h1.2.2.1.trans h0.2.2.1, h1.2.2.2.trans h0.2.2.2⟩

/-! ## A lost PLL (R51) -/

/-- The island's clock is off its PLL, and the fault says so. -/
def offPll (n : Isl) (s : State) : State :=
  (s.onClk fun k =>
    { k with onPll := k.onPll.put n false, pllLost := k.pllLost.put n true, i7Run := k.i7Run && decide (n.1 ≠ 7),
             i8Run := k.i8Run && decide (n.1 ≠ 8) }).fault .D 0 0xA030 n.1 0 0

/-- What the island itself does at the loss. -/
def pllLostEffect (n : Isl) (s : State) : State :=
  match n.1 with
  | 1 => if s.weft.running.isSome then (s.onWeft fun w => { w with haltDue := true }).boundary else s.haltWeft 2
  | 3 => s.etherStops
  | 7 => s.radioEval
  | 8 => if s.twin.linkUp then s.linkGone false else s
  | _ => s

theorem opPllLost_of_onPll {n : Isl} {s : State} (h0 : n.1 ≠ 0) (h6 : n.1 ≠ 6) (hon : s.clk.onPll.get n = true) :
    opPllLost n s = pllLostEffect n (offPll n s) := by
  simp only [opPllLost, h0, h6, hon, false_or, Bool.true_eq_false, if_false]
  rfl

theorem pllLostEffect_sameClocks (n : Isl) (s : State) : SameClocks s.clk (pllLostEffect n s).clk := by
  have same {t : State} (h : t.clk = s.clk) : SameClocks s.clk t.clk := h ▸ ⟨rfl, rfl, rfl, rfl⟩
  unfold pllLostEffect
  split
  · split
    · exact same ((boundary_keeps (List.Subset.refl _) (onWeft_keeps (by decide) (keeps_refl _ s))).only.same .clk (by decide))
    · exact same ((haltWeft_keeps (List.Subset.refl _) (keeps_refl _ s)).only.same .clk (by decide))
  · exact etherStops_sameClocks s
  · exact same (radioEval_clk s)
  · split
    · exact same ((linkGone_keeps (List.Subset.refl _) (keeps_refl _ s)).only.same .clk (by decide))
    · exact same rfl
  · exact same rfl

theorem pllLostEffect_flt {n : Isl} (s : State) (h3 : n.1 ≠ 3) (h8 : n.1 ≠ 8) : (pllLostEffect n s).flt = s.flt := by
  unfold pllLostEffect
  split
  · split
    · exact (boundary_keeps (List.Subset.refl _) (onWeft_keeps (by decide) (keeps_refl _ s))).only.same .flt (by decide)
    · exact (haltWeft_keeps (List.Subset.refl _) (keeps_refl _ s)).only.same .flt (by decide)
  · contradiction
  · exact (radioEval_keeps (List.Subset.refl _) (keeps_refl _ s)).only.same .flt (by decide)
  · contradiction
  · rfl

/-- In a segment the weft only falls due to halt: it halts at the segment's end. -/
theorem pllLostEffect_loom {n : Isl} {s : State} (hn : n.1 = 1) (hrun : s.weft.running.isSome = true) (hseg : s.loom.seg.isSome = true) :
    pllLostEffect n s = s.onWeft fun w => { w with haltDue := true } := by
  have hsome : (s.onWeft fun w => { w with haltDue := true }).loom.seg.isNone = false := by
    rw [onWeft_loom]
    simpa using hseg
  simp only [pllLostEffect, hn, hrun, if_true, State.boundary, hsome, Bool.and_false, Bool.false_eq_true, if_false]

/-! ## The crystal (R43 to R45, R64, R65) -/

theorem opXoStable_of_first {s : State} (haw : s.awake = true) (hen : s.clk.xoEnabled = true) (hok : s.clk.xoOk = false)
    (hst : s.clk.stableAt = none) (hever : s.clk.xoEver = false) :
    opXoStable s = (s.onClk fun k => { k with refXo := true, xoOk := true, xoEver := true, retryFrom := none }).radioEval := by
  simp [opXoStable, haw, hen, hok, hst, hever]

theorem opXoStable_of_later {s : State} (haw : s.awake = true) (hen : s.clk.xoEnabled = true) (hok : s.clk.xoOk = false)
    (hst : s.clk.stableAt = none) (hever : s.clk.xoEver = true) : opXoStable s = s.onClk fun k => { k with stableAt := some s.now } := by
  simp [opXoStable, haw, hen, hok, hst, hever]

theorem opXoPllSettled_of_ok {s : State} (hok : s.clk.xoOk = true) (hset : s.clk.settled = false) :
    opXoPllSettled s = ((((s.onClk fun k => { k with settled := true, i7Run := true, i8Run := true }).record 0xA001 0 s.clk.attempts
      (s.since s.clk.startAt % 2 ^ 32) 0).setSource 1 true).radioEval) := by
  simp only [opXoPllSettled, hok, hset, Bool.not_true, Bool.or_false, Bool.false_eq_true, if_false]
  rfl

theorem opXoFail_of_due {s : State} (haw : s.awake = true) (hen : s.clk.xoEnabled = true) (hok : s.clk.xoOk = false)
    (hst : s.clk.stableAt = none) (hdue : 20000 ≤ s.since s.clk.xoEnabledAt) :
    opXoFail s = (s.onClk fun k => { k with xoFail := true, xoEnabled := false, retryFrom := some (k.retryFrom.getD k.xoEnabledAt) }).fault
      .D 0 0xA002 0 0 0 := by
  simp [opXoFail, haw, hen, hok, hst, hdue]

theorem opXoRetry_of_due {s : State} {f : Nat} (hf : s.clk.retryFrom = some f) (haw : s.awake = true) (hok : s.clk.xoOk = false)
    (hst : s.clk.stableAt = none) (hdue : f + 10000000 ≤ s.now) :
    opXoRetry s = s.onClk fun k =>
      { k with xoEnabled := true, xoEnabledAt := s.now, attempts := k.attempts + 1, retryFrom := some s.now } := by
  simp [opXoRetry, hf, haw, hok, hst, hdue]

/-- The crystal's loss takes it from the references, as seen in the next microsecond (R64). -/
theorem opXoLoss_stopped {s : State} (href : s.clk.refXo = true) :
    opXoLoss false s = (((((s.onClk fun k => { k with clkStuck := true }).faultEvent (s.now + 1) .D 0 0xA020 0 0 0).onClk fun k =>
      { k with refXo := false, xoOk := false, xoLost := true, xoEnabled := false, i7Run := false, lossAt := some s.now, stableAt := none,
               retryFrom := some s.now }).faultEvent (s.now + 1) .D 0 0xA010 0 (sgn s.clk.hfoTrim) 0).setSource 1 false).radioEval := by
  simp only [opXoLoss, href, Bool.not_true, Bool.false_eq_true, if_false]
  rfl

theorem atHyperEnd_iff (s : State) : s.atHyperEnd = true ↔ 999950 ≤ s.warp % 1000000 ∨ s.warp % 1000000 = 0 := by
  simp [State.atHyperEnd]

theorem opXoReturn_of_due {s : State} {a : Nat} (hst : s.clk.stableAt = some a) (hok : s.clk.xoOk = false) (hdue : a + 10000000 ≤ s.now)
    (hend : s.atHyperEnd = true) :
    ∃ sec, opXoReturn s = (((s.onClk fun k =>
      { k with refXo := true, xoOk := true, i7Run := true, stableAt := none, retryFrom := none, lossAt := none }).record 0xA011 0 sec 0 0).setSource
        1 true).radioEval := by
  have hnot : ¬ s.now < a + 10000000 := by omega
  simp only [opXoReturn, hst, hok, hnot, hend, decide_false, Bool.not_true, Bool.or_false, Bool.false_eq_true, if_false]
  exact ⟨_, rfl⟩

/-! ## The trim sources (R46 to R50) -/

theorem opTrimSource_of_late {s : State} {i : Fin 6} {sync : Nat} (hi : 2 ≤ i.1) (hav : s.clk.avail.get i = true)
    (hlate : 3 * s.sourcePeriod i sync ≤ s.since (s.clk.validAt.get i)) : opTrimSource i sync s = s.setSource i false := by
  have hi' : ¬ i.1 < 2 := by omega
  have hlate' : ¬ s.since (s.clk.validAt.get i) < 3 * s.sourcePeriod i sync := by omega
  simp only [opTrimSource, hi', hav, hlate', Bool.true_eq_false, or_self, if_false]

theorem opSyncInEdge_of_tenMHz {s : State} {hz : Nat} {dev : Int} (hmode : s.ccfg.syncInMode = 2) (hlo : 9900000 ≤ hz) (hhi : hz ≤ 10100000) :
    opSyncInEdge hz dev s = s.measured 3 true dev := by
  simp [opSyncInEdge, hmode, hlo, hhi]

theorem measured_valid (s : State) (i : Fin 6) (dev : Int) :
    (s.measured i true dev).clk.avail.get i = true ∧ (s.measured i true dev).clk.validAt.get i = s.now := by
  unfold State.measured
  dsimp only
  obtain ⟨src, trimmed, at_, temp, h⟩ := setSource_clk (s.onClk fun k =>
    { k with validAt := if true then k.validAt.put i s.now else k.validAt, hfoDev := if true && k.trimSrc == i.1 then dev else k.hfoDev }) i true
  rw [h]
  exact ⟨Tab.get_put_self .., Tab.get_put_self ..⟩

/-- Settles O15: each event's equation above, and what a change of source and the radio leave of the clock. -/
theorem clockCommandsComplete : Obligations.ClockCommandsComplete := by
  unfold Obligations.ClockCommandsComplete
  refine ⟨?stable, ?stableLater, ?settled, ?trimmed, ?slow, ?fail, ?retry, ?lateSource, ?stuck, ?pll, ?loss, ?returned, ?tenMHz⟩
  case stable =>
    intro s haw hen hok hst hever
    refine ⟨_, next_congr (opXoStable_of_first haw hen hok hst hever), ?_⟩
    rw [radioEval_clk]
    exact ⟨rfl, rfl, rfl⟩
  case stableLater =>
    intro s haw hen hok hst hever
    exact ⟨_, next_congr (opXoStable_of_later haw hen hok hst hever), rfl⟩
  case settled =>
    intro s hok hset
    refine ⟨_, next_congr (opXoPllSettled_of_ok hok hset), ?_⟩
    obtain ⟨src, trimmed, at_, temp, h⟩ := setSource_clk ((s.onClk fun k => { k with settled := true, i7Run := true, i8Run := true }).record
      0xA001 0 s.clk.attempts (s.since s.clk.startAt % 2 ^ 32) 0) 1 true
    rw [radioEval_clk, h]
    exact ⟨rfl, rfl, rfl, Tab.get_put_self ..⟩
  case trimmed =>
    intro s trim dev hsrc
    refine ⟨_, next_congr (if_neg hsrc), rfl, rfl, decide_eq_true_iff⟩
  case slow =>
    intro s dev h
    refine ⟨_, next_congr (if_pos ?_), rfl, rfl⟩
    rwa [Bool.or_eq_true]
  case fail =>
    intro s haw hen hok hst hdue
    exact ⟨_, next_congr (opXoFail_of_due haw hen hok hst hdue), rfl, rfl, rfl, rfl⟩
  case retry =>
    intro s f hf haw hok hst hdue
    exact ⟨_, next_congr (opXoRetry_of_due hf haw hok hst hdue), rfl, rfl, rfl⟩
  case lateSource =>
    intro s i sync hi hav hlate
    refine ⟨_, next_congr (opTrimSource_of_late hi hav hlate), ?_⟩
    obtain ⟨src, trimmed, at_, temp, h⟩ := setSource_clk s i false
    rw [h]
    exact Tab.get_put_self ..
  case stuck =>
    intro s m hm
    exact ⟨_, next_congr (if_pos hm), rfl, rfl, rfl⟩
  case pll =>
    intro s n h0 h6 hon
    refine ⟨_, next_congr (opPllLost_of_onPll h0 h6 hon), ?_⟩
    obtain ⟨hpll, hlost, h7, h8⟩ := pllLostEffect_sameClocks n (offPll n s)
    refine ⟨hpll, hlost, h7, h8, fun h3 h8 => pllLostEffect_flt _ h3 h8, fun hn hrun hseg => ?_⟩
    rw [pllLostEffect_loom (s := offPll n s) hn hrun hseg]
    exact ⟨rfl, rfl⟩
  case loss =>
    intro s href
    refine ⟨_, next_congr (opXoLoss_stopped href), ?_⟩
    obtain ⟨src, trimmed, at_, temp, h⟩ := setSource_clk ((((s.onClk fun k => { k with clkStuck := true }).faultEvent (s.now + 1) .D 0 0xA020 0 0
      0).onClk fun k =>
      { k with refXo := false, xoOk := false, xoLost := true, xoEnabled := false, i7Run := false, lossAt := some s.now, stableAt := none,
               retryFrom := some s.now }).faultEvent (s.now + 1) .D 0 0xA010 0 (sgn s.clk.hfoTrim) 0) 1 false
    rw [radioEval_clk, h]
    exact ⟨rfl, rfl, rfl, rfl, rfl⟩
  case returned =>
    intro s a hst hok hdue hend
    obtain ⟨sec, hop⟩ := opXoReturn_of_due hst hok hdue ((atHyperEnd_iff s).2 hend)
    refine ⟨_, next_congr hop, ?_⟩
    obtain ⟨src, trimmed, at_, temp, h⟩ := setSource_clk ((s.onClk fun k =>
      { k with refXo := true, xoOk := true, i7Run := true, stableAt := none, retryFrom := none, lossAt := none }).record 0xA011 0 sec 0 0) 1 true
    rw [radioEval_clk, h]
    exact ⟨rfl, rfl, rfl⟩
  case tenMHz =>
    intro s hz dev hmode hlo hhi
    refine ⟨_, next_congr (opSyncInEdge_of_tenMHz hmode hlo hhi), ?_⟩
    exact measured_valid s 3 dev

end Sys2Proof.ClockProofs

/-! Warp time, the shuttle links' own events and the frame mark (spec/02). -/

namespace Sys2Proof.WarpProofs

open Sys2Proof Sys2Proof.Machine Sys2Proof.Laws Sys2Proof.CommandProofs Sys2Proof.BasicProofs Sys2Proof.NmProofs

/-! ## Warp time (R53 to R55, R66) -/

/-- The frame mark comes at the frame's end on the network, and every island's time is warp time there. -/
def marked (s : State) : State := (s.elapse (1000 - s.warp % 1000)).onWt fun w => { w with loc := Tab.fill 9 w.warp }

theorem opFrameMark_of_powered {s : State} (corr : List (Nat × Int)) (a b : Option Nat) (l : List Nat) (h : s.pwr.islandUp.get 3 = true) :
    opFrameMark corr a b l s = (marked s).markWork corr a b l := by
  simp only [opFrameMark, h, Bool.not_true, Bool.false_eq_true, if_false]
  rfl

theorem marked_now (s : State) : (marked s).now = s.now + (1000 - s.warp % 1000) := elapse_now s _

theorem marked_warp {s : State} (h : s.pwr.islandUp.get 3 = true) :
    (marked s).wt.warp = s.wt.warp + BitVec.ofNat 64 (1000 - s.warp % 1000) := by
  simp only [marked, State.elapse, h, if_true]
  rfl

theorem marked_loc (s : State) (n : Fin 9) : (marked s).wt.loc.get n = (marked s).wt.warp := Tab.get_fill ..

/-- The step to gPTP time, at a small phase. -/
theorem opWarpStep_of_near {s : State} {ptp : Warp} {phase : Nat} (hfollows : s.followsPtp = true) (hactive : s.weftActive = false)
    (hphase : phase ≤ 1000) (hne : ptp ≠ s.wt.warp) :
    opWarpStep ptp phase s = (((s.onWt fun w => { w with phaseOk := true, offset := ptp - w.warp }).onWt fun w =>
      { w with warp := w.warp + (ptp - s.wt.warp), offset := 0, loc := w.loc.mapIdx fun _ x => x + (ptp - s.wt.warp) }).rebase.record
        0xA050 3 ((ptp - s.wt.warp).toNat % 2 ^ 32) ((ptp - s.wt.warp).toNat / 2 ^ 32) 0) := by
  have hd : ptp - s.wt.warp ≠ 0 := fun h => hne (sub_eq_zero.1 h)
  have hfollows' (f : WarpTime → WarpTime) : (s.onWt f).followsPtp = true := hfollows
  have hactive' (f : WarpTime → WarpTime) : (s.onWt f).weftActive = false := hactive
  simp only [opWarpStep, hfollows, hactive', State.applyStep, hfollows', onWt_wt, hphase, decide_true, hd, ne_eq, not_false_eq_true, Bool.and_true,
    if_true, Bool.false_eq_true, if_false]

/-! ## The shuttle links (R60, R62, R63) -/

/-- A link's way back is another link, whose way back it is. -/
theorem back_symm : ∀ {k j : LinkNo}, k.back = some j → j.back = some k ∧ j ≠ k := by
  decide

/-- An ACK in order leaves its link, and the link it comes back from has one word less to wait for. -/
theorem ackArrive_of_wordAt {s : State} {k j : LinkNo} {w : ShWord} (hback : k.back = some j) (hw : WordAt s j tyAck w) :
    s.ackArrive j true = ((s.onLink j fun l => { l with fly := (s.link j).fly.tail }).onLink j fun l =>
      { l with rxSeq := (w.seq + 1) % 256 }).onLink k fun l => { l with unacked := l.unacked - 1 } := by
  obtain ⟨hhead, htyp, hseq, hgood⟩ := hw
  obtain ⟨rest, hfly⟩ : ∃ rest, (s.link j).fly = w :: rest := List.head?_eq_some_iff.1 hhead
  have hcounts : w.counts = false := by simp [ShWord.counts, htyp]
  have hdist (u : State) (h : (u.link j).rxSeq = w.seq) : (w.seq + 256 - (u.link j).rxSeq) % 256 = 0 := by
    rw [h]
    omega
  have hrx : ((s.onLink j fun l => { l with fly := rest }).link j).rxSeq = w.seq := by
    rw [link_onLink, hseq]
  simp only [State.ackArrive, hfly, hcounts, Bool.false_eq_true, if_false, State.judgeWord, hgood, Bool.and_true, Bool.not_true, hdist _ hrx,
    if_true, Bool.true_or, (back_symm hback).1, State.acked, List.tail_cons, Nat.reduceLeDiff]

theorem opShuttleRetransmit_of_retry {s : State} {k : LinkNo} {w : ShWord} {rest : List ShWord} (hretry : (s.link k).retry = w :: rest) :
    opShuttleRetransmit k s = s.onLink k Link.resend := by
  simp [opShuttleRetransmit, hretry]

theorem resend_of_retry {l : Link} {w : ShWord} {rest : List ShWord} (hretry : l.retry = w :: rest) (hfull : l.full = false) :
    l.resend = { l with retry := rest, fly := l.fly ++ [{ w with resent := true }] } := by
  simp [Link.resend, hretry, hfull]

/-- Settles O16: the frame mark's work leaves the times alone, and an event on a link changes that link only. -/
theorem warpCommandsComplete : Obligations.WarpCommandsComplete := by
  unfold Obligations.WarpCommandsComplete
  refine ⟨?mark, ?stepHeld, ?stepMade, ?loRead, ?offsetRead, ?ack, ?ackOneWay, ?again⟩
  case mark =>
    intro s corr a b l h
    refine ⟨_, next_congr (opFrameMark_of_powered corr a b l h), ?_⟩
    have hkeeps := markWork_keeps (x1 := corr) (x2 := a) (x3 := b) (x4 := l) (List.Subset.refl _) (keeps_refl _ (marked s))
    have hwt : ((marked s).markWork corr a b l).wt = (marked s).wt := hkeeps.only.same .wt (by decide)
    have hnow : ((marked s).markWork corr a b l).now = (marked s).now := hkeeps.only.same .now (by decide)
    rw [hwt, hnow]
    exact ⟨marked_now s, marked_warp h, marked_loc s⟩
  case stepHeld =>
    intro s ptp phase hfollows hactive
    have hop : opWarpStep ptp phase s = s.onWt fun w => { w with phaseOk := decide (phase ≤ 1000), offset := ptp - w.warp } := by
      rw [opWarpStep, if_pos hfollows]
      exact if_pos hactive
    exact ⟨_, next_congr hop, rfl⟩
  case stepMade =>
    intro s ptp phase hfollows hactive hphase hne
    refine ⟨_, next_congr (opWarpStep_of_near hfollows hactive hphase hne), ?_, rfl, ?_⟩
    · exact add_sub_cancel s.wt.warp ptp
    · exact record_rcd_of_only (rebase_keeps (List.Subset.refl _) (keeps_refl [.sw] _)).only (by decide) (by decide) (by decide) ..
  case loRead => exact fun s => ⟨_, rfl, rfl⟩
  case offsetRead => exact fun s => ⟨_, rfl, rfl⟩
  case ack =>
    intro s k j w hback hun hw
    obtain ⟨-, hjk⟩ := back_symm hback
    have hop : opShuttleAck k s = s.ackArrive j true := by
      simp only [opShuttleAck, hun, if_false, hback]
    refine ⟨_, next_congr (hop.trans (ackArrive_of_wordAt hback hw)), ?_, ?_, fun i hik hij => ?_⟩
    · rw [link_onLink, link_onLink_ne _ _ hjk.symm, link_onLink_ne _ _ hjk.symm]
    · rw [link_onLink_ne _ _ hjk, link_onLink, link_onLink]
    · rw [link_onLink_ne _ _ hik, link_onLink_ne _ _ hij, link_onLink_ne _ _ hij]
  case ackOneWay =>
    intro s k hback hun
    have hop : opShuttleAck k s = s.onLink k fun l => { l with unacked := l.unacked - 1 } := by
      simp only [opShuttleAck, hun, if_false, hback, State.acked]
    exact ⟨_, next_congr hop, link_onLink .., fun j hj => link_onLink_ne _ _ hj⟩
  case again =>
    intro s k w rest hretry hfull
    refine ⟨_, next_congr (opShuttleRetransmit_of_retry hretry), ?_, ?_, fun j hj => link_onLink_ne _ _ hj⟩
    · rw [link_onLink, resend_of_retry hretry hfull]
    · rw [link_onLink, resend_of_retry hretry hfull]

end Sys2Proof.WarpProofs

/-! What the reply to a command leaves of the islands' parts (R280 to R283). A reply goes out as a packet, and a session may close with its last
number: its commands that wait on an island then go. So a channel, an actuator and the field side lose commands that wait, a CAN channel may get the
packet's frame, a port of the bridge loses its transactions, and the twin link carries the mirror's frames. All else of these parts stays. -/

namespace Sys2Proof.ReplyProofs

open Sys2Proof Sys2Proof.Machine Sys2Proof.Laws

/-! ## The parts without what a reply may change -/

def restSwitch (w : Switch) : Switch := { w with adopts := [], chans := Tab.fill 48 (Chan.reset 0 ChCounts.reset) }
def restChan (x : Chan) : Chan := { x with waiting := [] }
def restDrive (d : Drive) : Drive := { d with acts := Tab.fill 12 (Coil.reset (0, 0) .released none) }
def restCoil (x : Coil) : Coil := { x with waiting := [] }
def restField (f : Field) : Field := { f with waiting := [], queue := [] }
def restCanCh (x : CanCh) : CanCh := { x with tx := Tab.fill 5 (x.tx.get 0), waiting := [] }
def restFarPort (k : FarPort) : FarPort := { k with queue := [], ahead := [], late := [], lock := none, lostBy := [], items := [] }
def restTwin (t : Twin) : Twin := { t with txSeq := 0, fly := [], msn := 0, held := [], sentCfg := [], later := [] }

/-- The switch island but for the commands that wait. -/
structure SwReplied (s t : State) : Prop where
  rest : restSwitch t.sw = restSwitch s.sw
  chan : ∀ c, restChan (t.chan c) = restChan (s.chan c)
  waiting : ∀ c, (t.chan c).waiting.Sublist (s.chan c).waiting

/-- The drive island but for the commands that wait. -/
structure DrvReplied (s t : State) : Prop where
  rest : restDrive t.drv = restDrive s.drv
  coil : ∀ c, restCoil (t.coil c) = restCoil (s.coil c)
  waiting : ∀ c, (t.coil c).waiting.Sublist (s.coil c).waiting

/-- The field island but for the commands that wait. -/
structure FldReplied (s t : State) : Prop where
  rest : restField t.fld = restField s.fld
  waiting : t.fld.waiting.Sublist s.fld.waiting

/-- The CAN channels but for the module's own frames, which go to buffer 3. -/
structure CanReplied (s t : State) : Prop where
  asm : t.can.asm = s.can.asm
  ch : ∀ c, restCanCh (t.canCh c) = restCanCh (s.canCh c)
  tx : ∀ c b, b ≠ 3 → (t.canCh c).tx.get b = (s.canCh c).tx.get b

/-- The bridge but for the transactions that go with their holder. -/
def FarReplied (s t : State) : Prop := ∀ p, restFarPort (t.farPort p) = restFarPort (s.farPort p)

/-- The twin but for the frames on the link and the packets held for the mirror. -/
def TwinReplied (s t : State) : Prop := restTwin t.twin = restTwin s.twin

/-- What a reply leaves of the six parts. -/
structure Replied (s t : State) : Prop where
  sw : SwReplied s t
  drv : DrvReplied s t
  fld : FldReplied s t
  can : CanReplied s t
  far : FarReplied s t
  twin : TwinReplied s t

variable {s t u : State} {m : List Part}

theorem SwReplied.of_keeps (h : Keeps m s t) (hm : .sw ∉ m) : SwReplied s t := by
  have hsw : t.sw = s.sw := h.only.same .sw hm
  have hchan (c : ChNo) : t.chan c = s.chan c := congrArg (fun w => w.chans.get c) hsw
  exact ⟨by rw [hsw], fun c => by rw [hchan], fun c => by rw [hchan]⟩

theorem DrvReplied.of_keeps (h : Keeps m s t) (hm : .drv ∉ m) : DrvReplied s t := by
  have hdrv : t.drv = s.drv := h.only.same .drv hm
  have hcoil (c : AcNo) : t.coil c = s.coil c := congrArg (fun w => w.acts.get c) hdrv
  exact ⟨by rw [hdrv], fun c => by rw [hcoil], fun c => by rw [hcoil]⟩

theorem FldReplied.of_keeps (h : Keeps m s t) (hm : .fld ∉ m) : FldReplied s t := by
  have hfld : t.fld = s.fld := h.only.same .fld hm
  exact ⟨by rw [hfld], by rw [hfld]⟩

theorem CanReplied.of_keeps (h : Keeps m s t) (hm : .can ∉ m) : CanReplied s t := by
  have hcan : t.can = s.can := h.only.same .can hm
  have hch (c : CanNo) : t.canCh c = s.canCh c := congrArg (fun w => w.chans.get c) hcan
  exact ⟨by rw [hcan], fun c => by rw [hch], fun c b _ => by rw [hch]⟩

theorem FarReplied.of_keeps (h : Keeps m s t) (hm : .far ∉ m) : FarReplied s t := by
  have hfar : t.far = s.far := h.only.same .far hm
  exact fun p => congrArg (fun w => restFarPort (w.ports.get p)) hfar

theorem TwinReplied.of_keeps (h : Keeps m s t) (hm : .twin ∉ m) : TwinReplied s t := by
  have htwin : t.twin = s.twin := h.only.same .twin hm
  exact congrArg restTwin htwin

theorem SwReplied.trans (h : SwReplied s t) (k : SwReplied t u) : SwReplied s u :=
  ⟨k.rest.trans h.rest, fun c => (k.chan c).trans (h.chan c), fun c => (k.waiting c).trans (h.waiting c)⟩

theorem DrvReplied.trans (h : DrvReplied s t) (k : DrvReplied t u) : DrvReplied s u :=
  ⟨k.rest.trans h.rest, fun c => (k.coil c).trans (h.coil c), fun c => (k.waiting c).trans (h.waiting c)⟩

theorem FldReplied.trans (h : FldReplied s t) (k : FldReplied t u) : FldReplied s u :=
  ⟨k.rest.trans h.rest, k.waiting.trans h.waiting⟩

theorem CanReplied.trans (h : CanReplied s t) (k : CanReplied t u) : CanReplied s u :=
  ⟨k.asm.trans h.asm, fun c => (k.ch c).trans (h.ch c), fun c b hb => (k.tx c b hb).trans (h.tx c b hb)⟩

/-- The parts a reply may change of the islands. -/
def islandParts : List Part := [.sw, .drv, .fld, .can, .far, .twin]

theorem Replied.of_keeps (h : Keeps m s t) (hm : ∀ p ∈ islandParts, p ∉ m) : Replied s t :=
  ⟨.of_keeps h (hm _ (by decide)), .of_keeps h (hm _ (by decide)), .of_keeps h (hm _ (by decide)), .of_keeps h (hm _ (by decide)),
    .of_keeps h (hm _ (by decide)), .of_keeps h (hm _ (by decide))⟩

theorem Replied.refl (s : State) : Replied s s := .of_keeps (keeps_refl [] s) (by decide)

theorem Replied.trans (h : Replied s t) (k : Replied t u) : Replied s u :=
  ⟨h.sw.trans k.sw, h.drv.trans k.drv, h.fld.trans k.fld, h.can.trans k.can, fun p => (k.far p).trans (h.far p), Eq.trans k.twin h.twin⟩

/-- An operation that leaves the islands' parts alone, after others. -/
theorem Replied.keeps (h : Replied s t) (k : Keeps m t u) (hm : ∀ p ∈ islandParts, p ∉ m) : Replied s u := h.trans (.of_keeps k hm)

theorem Replied.forEach {α : Type} {f : α → State → State} (hf : ∀ x t, Replied t (f x t)) (h : Replied s t) (l : List α) :
    Replied s (t.forEach l f) := by
  induction l generalizing t with
  | nil => exact h
  | cons x l ih => exact ih (h.trans (hf x t))

theorem Replied.ite {p : Prop} [Decidable p] (h : Replied s t) (k : Replied s u) : Replied s (if p then t else u) := by
  split
  · exact h
  · exact k

/-- An operation on the twin that changes no more of it than a reply may. -/
theorem replied_of_twin (h : Keeps m s t) (hm : ∀ p ∈ islandParts, p = .twin ∨ p ∉ m) (ht : TwinReplied s t) : Replied s t := by
  have hout (p : Part) (hp : p ∈ islandParts) (hne : p ≠ .twin) : p ∉ m := (hm p hp).resolve_left hne
  exact ⟨.of_keeps h (hout _ (by decide) (by decide)), .of_keeps h (hout _ (by decide) (by decide)), .of_keeps h (hout _ (by decide) (by decide)),
    .of_keeps h (hout _ (by decide) (by decide)), .of_keeps h (hout _ (by decide) (by decide)), ht⟩

/-! ## The mirror's frames -/

theorem twinFrame_twin (s : State) (typ : Nat) (b : List Byte) (ack : Bool) (msn : Option Nat) (last : Bool) :
    TwinReplied s (s.twinFrame typ b ack msn last) := by
  unfold State.twinFrame
  split
  · rfl
  · rfl

theorem mirrorFrame_twin (s : State) (typ : Nat) (b : List Byte) : TwinReplied s (s.mirrorFrame typ b) := by
  unfold State.mirrorFrame
  exact Eq.trans (twinFrame_twin _ _ _ _ _ _) rfl

theorem sendConfig_twin (n : Nat) (l : List (Nat × Nat)) (s : State) : TwinReplied s (State.sendConfig n l s) := by
  fun_induction State.sendConfig n l s with
  | case1 => rfl
  | case2 => rfl
  | case3 s k l _ part ih => exact Eq.trans ih (mirrorFrame_twin ..)

theorem TwinReplied.onTwin {f : Twin → Twin} (h : TwinReplied s t) (hf : ∀ x, restTwin (f x) = restTwin x) : TwinReplied s (t.onTwin f) :=
  Eq.trans (hf t.twin) h

theorem mirrorConfig_twin (s : State) : TwinReplied s s.mirrorConfig := by
  unfold State.mirrorConfig
  split
  · exact (sendConfig_twin 16 _ s).onTwin fun _ => rfl
  · rfl

theorem mirrorDone_replied (s : State) (g : Grp) (tag status : Nat) (k : Causes) (b : List Byte) :
    Replied s (s.mirrorDone g tag status k b) := by
  refine replied_of_twin (mirrorDone_keeps (List.Subset.refl _) (keeps_refl _ s)) (by decide) ?_
  unfold State.mirrorDone
  split
  · exact Eq.trans (mirrorFrame_twin ..) (mirrorConfig_twin s)
  · rfl

theorem doneStage_replied (s : State) (c : Cmd) (st : Status) (fails : Bool) (b : List Byte) : Replied s (s.doneStage c st fails b) := by
  unfold State.doneStage
  split
  · exact .refl s
  · exact mirrorDone_replied ..

/-! ## Commands that go with their session -/

theorem withdraw_chan (s : State) (ids : List Nat) (c : ChNo) :
    (s.withdraw ids).chan c = { s.chan c with waiting := (s.chan c).waiting.filter fun r => !ids.contains r.cmd } := by
  simp only [State.withdraw, State.chan, onFld_sw, onDrv_sw, onSw_sw, Tab.get_mapIdx]

theorem withdraw_coil (s : State) (ids : List Nat) (c : AcNo) :
    (s.withdraw ids).coil c = { s.coil c with waiting := (s.coil c).waiting.filter fun r => !ids.contains r.cmd } := by
  simp only [State.withdraw, State.coil, onFld_drv, onDrv_drv, onSw_drv, Tab.get_mapIdx]

theorem withdraw_replied (s : State) (ids : List Nat) : Replied s (s.withdraw ids) := by
  have hkeeps := withdraw_keeps (x1 := ids) (List.Subset.refl _) (keeps_refl _ s)
  refine ⟨⟨?_, fun c => ?_, fun c => ?_⟩, ⟨?_, fun c => ?_, fun c => ?_⟩, ⟨?_, ?_⟩, .of_keeps hkeeps (by decide),
    .of_keeps hkeeps (by decide), .of_keeps hkeeps (by decide)⟩
  · simp only [State.withdraw, restSwitch, onFld_sw, onDrv_sw, onSw_sw]
  · rw [withdraw_chan]
    rfl
  · rw [withdraw_chan]
    exact List.filter_sublist
  · simp only [State.withdraw, restDrive, onFld_drv, onDrv_drv, onSw_drv]
  · rw [withdraw_coil]
    rfl
  · rw [withdraw_coil]
    exact List.filter_sublist
  · simp only [State.withdraw, restField, onFld_fld, onDrv_fld, onSw_fld]
  · simp only [State.withdraw, onFld_fld, onDrv_fld, onSw_fld]
    exact List.filter_sublist

theorem fillItem_rest (k : FarPort) (p : FarNo) (f : Far) (e : Nat) (b : List Byte) : restFarPort (k.fillItem p f e b) = restFarPort k := by
  unfold FarPort.fillItem
  split
  · rfl
  · rfl

theorem endLock_rest (k : FarPort) (l : FarLock) : restFarPort (k.endLock l) = restFarPort k := by
  unfold FarPort.endLock
  dsimp only
  split
  · rfl
  · split
    · rfl
    · rfl

theorem onFarPort_far {f : FarPort → FarPort} (s : State) (p : FarNo) (hf : ∀ k, restFarPort (f k) = restFarPort k) : FarReplied s (s.onFarPort p f) := by
  intro q
  by_cases hq : q = p
  · rw [hq, farPort_onFarPort, hf]
  · rw [farPort_onFarPort_ne _ _ hq]

/-- An operation on one port of the bridge that changes no more of it than a reply may. -/
theorem onFarPort_replied {f : FarPort → FarPort} (s : State) (p : FarNo) (hf : ∀ k, restFarPort (f k) = restFarPort k) :
    Replied s (s.onFarPort p f) := by
  have hkeeps := onFarPort_keeps (x1 := p) (x2 := f) (List.Subset.refl _) (keeps_refl _ s)
  exact ⟨.of_keeps hkeeps (by decide), .of_keeps hkeeps (by decide), .of_keeps hkeeps (by decide), .of_keeps hkeeps (by decide),
    onFarPort_far s p hf, .of_keeps hkeeps (by decide)⟩

theorem foldl_fillItem_rest (l : List Far) (p : FarNo) (k : FarPort) :
    restFarPort (l.foldl (fun k f => k.fillItem p f 0 []) k) = restFarPort k := by
  induction l generalizing k with
  | nil => rfl
  | cons f l ih => exact (ih _).trans (fillItem_rest ..)

theorem farGone_replied (s : State) (mine : Grp → Bool) (released all : Bool) : Replied s (s.farGone mine released all) := by
  refine .forEach (fun p t => onFarPort_replied t p fun k => ?_) (.refl s) _
  extract_lets goes gone k1
  have hfold := foldl_fillItem_rest gone p k
  have hfilter : restFarPort k1 = restFarPort k := hfold
  split
  · split
    · exact (endLock_rest _ _).trans hfilter
    · exact hfilter
  · exact hfilter

theorem closeSession_replied (s : State) (k : Fin 4) (cause : Nat) : Replied s (s.closeSession k cause) := by
  unfold State.closeSession
  split
  · exact .refl s
  · refine .keeps (.keeps ((farGone_replied _ _ _ _).trans (withdraw_replied _ _)) (onCmd_keeps (m := [.cmd]) (by decide) (keeps_refl _ _)) (by decide))
      (record_keeps (m := [.rcd]) (by decide) (keeps_refl _ _)) (by decide)

/-! ## Packets -/

theorem queueOwn_rest (x : CanCh) (f : CanFrame) (now : Nat) :
    restCanCh (x.queueOwn f now) = restCanCh x ∧ ∀ b, b ≠ 3 → (x.queueOwn f now).tx.get b = x.tx.get b := by
  unfold CanCh.queueOwn
  split
  · exact ⟨rfl, fun _ _ => rfl⟩
  · split
    · refine ⟨?_, fun b hb => Tab.get_upd_ne _ _ hb⟩
      simp only [restCanCh, Tab.get_upd_ne _ _ (show (0 : Fin 5) ≠ 3 by decide)]
    · exact ⟨rfl, fun _ _ => rfl⟩

theorem sendCan_replied (s : State) (id : Nat) (b : List Byte) : Replied s (s.sendCan id b) := by
  have hkeeps := sendCan_keeps (x1 := id) (x2 := b) (List.Subset.refl _) (keeps_refl _ s)
  refine ⟨.of_keeps hkeeps (by decide), .of_keeps hkeeps (by decide), .of_keeps hkeeps (by decide), ?_, .of_keeps hkeeps (by decide),
    .of_keeps hkeeps (by decide)⟩
  have hrefl : CanReplied s s := .of_keeps (keeps_refl [] s) (by decide)
  unfold State.sendCan
  split
  · exact hrefl
  · split
    · exact hrefl
    · split
      · rename_i ch _ _
        dsimp only
        refine ⟨rfl, fun c => ?_, fun c b hb => ?_⟩
        · by_cases hc : c = ch
          · rw [hc, canCh_onCanCh]
            exact (queueOwn_rest ..).1
          · rw [canCh_onCanCh_ne _ _ hc]
        · by_cases hc : c = ch
          · rw [hc, canCh_onCanCh]
            exact (queueOwn_rest ..).2 b hb
          · rw [canCh_onCanCh_ne _ _ hc]
      · exact hrefl

theorem sendUdp_replied (s : State) (a b c : Nat) (l : List Byte) : Replied s (s.sendUdp a b c l) :=
  .of_keeps (sendUdp_keeps (List.Subset.refl _) (keeps_refl _ s)) (by decide)

theorem sendPacket_replied (s : State) (src : Src) (a b c d : Nat) (l : List Byte) : Replied s (s.sendPacket src a b c d l) := by
  unfold State.sendPacket
  split
  · exact sendCan_replied ..
  · exact sendUdp_replied ..
  · split
    · exact .refl s
    · have hsent (t : State) (f : Commands → Commands) (h : Replied s t) : Replied s (t.onCmd f) :=
        h.keeps (onCmd_keeps (m := [.cmd]) (by decide) (keeps_refl _ t)) (by decide)
      extract_lets seq hdr s1 s2
      have h2 : Replied s s2 := hsent _ _ (sendUdp_replied ..)
      exact .ite (h2.trans (closeSession_replied ..)) h2

theorem sendOrHold_replied (s : State) (mirrored : Bool) (src : Src) (id a b c d : Nat) (l : List Byte) :
    Replied s (s.sendOrHold mirrored src id a b c d l) := by
  unfold State.sendOrHold
  refine .ite (.refl s) (.ite (replied_of_twin (onTwin_keeps (List.Subset.refl _) (keeps_refl _ s)) (by decide) rfl) (sendPacket_replied ..))

/-! ## Replies and notifications -/

theorem onGroup_replied (s : State) (g : Grp) (f : Group → Group) : Replied s (s.onGroup g f) :=
  .of_keeps (onGroup_keeps (List.Subset.refl _) (keeps_refl _ s)) (by decide)

theorem replyWith_replied (s : State) (c : Cmd) (flags : Nat) (st : Status) (b : List Byte) (final last : Bool) :
    Replied s (s.replyWith c flags st b final last) := by
  unfold State.replyWith
  extract_lets p s1 addr s2
  have h1 : Replied s s1 := .ite (doneStage_replied ..) (.refl s)
  have h2 : Replied s s2 := h1.trans (sendOrHold_replied ..)
  split
  · exact h2
  · exact h2.trans (onGroup_replied ..)

theorem replyEnd_replied (s : State) (c : Cmd) (st : Status) (b : List Byte) : Replied s (s.replyEnd c st b) :=
  .ite (replyWith_replied ..) (replyWith_replied ..)

theorem accept_replied (s : State) (c : Cmd) : Replied s (s.accept c) := .ite (.refl s) (replyWith_replied ..)

theorem acceptWaiting_replied (s : State) (g : Grp) : Replied s (s.acceptWaiting g) := by
  unfold State.acceptWaiting
  extract_lets s1 x s2
  have h2 : Replied s s2 := .forEach (fun c t => accept_replied t c) (onGroup_replied ..) _
  exact h2.trans (onGroup_replied ..)

theorem notify_replied (s : State) (src : Src) (op : Nat) (b : List Byte) : Replied s (s.notify src op b) := by
  unfold State.notify
  refine .ite ?_ (.refl s)
  extract_lets q p s1
  have h1 : Replied s s1 := .of_keeps (onCmd_keeps (m := [.cmd]) (by decide) (keeps_refl _ s)) (by decide)
  clear_value s1
  split
  · exact h1
  · exact .ite (h1.trans (sendOrHold_replied ..)) h1
  · split
    · exact h1
    · exact h1.trans (sendOrHold_replied ..)

theorem notifyHolder_replied (s : State) (g : Grp) (op : Nat) (b : List Byte) : Replied s (s.notifyHolder g op b) := by
  unfold State.notifyHolder
  split
  · exact .refl s
  · exact notify_replied ..

theorem lateError_replied (s : State) (c : Cmd) (st : Status) (detail : Nat) : Replied s (s.lateError c st detail) := by
  unfold State.lateError
  split
  · exact .refl s
  · exact (doneStage_replied ..).trans (notifyHolder_replied ..)

theorem failGroup_replied (s : State) (g : Grp) (c : Cmd) : Replied s (s.failGroup g c) := by
  unfold State.failGroup
  extract_lets had s1 s2
  have h2 : Replied s s2 := (onGroup_replied ..).trans (acceptWaiting_replied ..)
  exact .ite h2 (h2.trans (notifyHolder_replied ..))

/-- A command's end leaves of the islands' parts what a reply leaves of them. -/
theorem complete_replied (s : State) (c : Cmd) (st : Status) (b : List Byte) (detail : Nat) : Replied s (s.complete c st b detail) := by
  unfold State.complete
  split
  · exact .trans (.of_keeps (onSource_keeps (List.Subset.refl _) (keeps_refl _ s)) (by decide)) (replyEnd_replied ..)
  · extract_lets s1 s2 s3
    have h1 : Replied s s1 := onGroup_replied ..
    have h2 : Replied s s2 := h1.trans (lateError_replied ..)
    have h3 : Replied s s3 := by
      refine .ite (h1.trans (replyEnd_replied ..)) (.ite (.ite h2 ?_) (.ite (h1.trans (replyEnd_replied ..)) (h1.trans (doneStage_replied ..))))
      exact h2.keeps (record_keeps (m := [.rcd]) (by decide) (keeps_refl _ _)) (by decide)
    exact .ite (h3.trans (failGroup_replied ..)) h3

theorem completeId_replied (s : State) (id : Nat) (st : Status) (b : List Byte) (detail : Nat) : Replied s (s.completeId id st b detail) := by
  unfold State.completeId
  split
  · exact .refl s
  · exact complete_replied ..

/-! ## What the end of a command leaves as it was -/

section

variable (c : Cmd) (st : Status) (b : List Byte) (detail : Nat)

theorem complete_footprint (s : State) : Keeps [.out, .rcd, .cmd, .sw, .drv, .fld, .can, .far, .twin] s (s.complete c st b detail) :=
  complete_keeps (List.Subset.refl _) (keeps_refl _ s)

@[simp] theorem complete_now (s : State) : (s.complete c st b detail).now = s.now := (complete_footprint c st b detail s).only.same .now (by decide)
@[simp] theorem complete_free (s : State) : (s.complete c st b detail).free = s.free := (complete_footprint c st b detail s).only.same .free (by decide)
@[simp] theorem complete_mem (s : State) : (s.complete c st b detail).mem = s.mem := (complete_footprint c st b detail s).only.same .mem (by decide)
@[simp] theorem complete_supply (s : State) : (s.complete c st b detail).supply = s.supply := (complete_footprint c st b detail s).only.same .supply (by decide)
@[simp] theorem complete_clk (s : State) : (s.complete c st b detail).clk = s.clk := (complete_footprint c st b detail s).only.same .clk (by decide)
@[simp] theorem complete_ccfg (s : State) : (s.complete c st b detail).ccfg = s.ccfg := (complete_footprint c st b detail s).only.same .ccfg (by decide)
@[simp] theorem complete_wt (s : State) : (s.complete c st b detail).wt = s.wt := (complete_footprint c st b detail s).only.same .wt (by decide)
@[simp] theorem complete_links (s : State) : (s.complete c st b detail).links = s.links := (complete_footprint c st b detail s).only.same .links (by decide)
@[simp] theorem complete_pwr (s : State) : (s.complete c st b detail).pwr = s.pwr := (complete_footprint c st b detail s).only.same .pwr (by decide)
@[simp] theorem complete_flt (s : State) : (s.complete c st b detail).flt = s.flt := (complete_footprint c st b detail s).only.same .flt (by decide)
@[simp] theorem complete_loom (s : State) : (s.complete c st b detail).loom = s.loom := (complete_footprint c st b detail s).only.same .loom (by decide)
@[simp] theorem complete_weft (s : State) : (s.complete c st b detail).weft = s.weft := (complete_footprint c st b detail s).only.same .weft (by decide)
@[simp] theorem complete_nm (s : State) : (s.complete c st b detail).nm = s.nm := (complete_footprint c st b detail s).only.same .nm (by decide)
@[simp] theorem complete_eth (s : State) : (s.complete c st b detail).eth = s.eth := (complete_footprint c st b detail s).only.same .eth (by decide)
@[simp] theorem complete_acc (s : State) : (s.complete c st b detail).acc = s.acc := (complete_footprint c st b detail s).only.same .acc (by decide)
@[simp] theorem complete_id (s : State) : (s.complete c st b detail).id = s.id := (complete_footprint c st b detail s).only.same .id (by decide)

end

/-! ## What the relations say of the parts -/

theorem SwReplied.chan_eq (h : SwReplied s t) (c : ChNo) : t.chan c = { s.chan c with waiting := (t.chan c).waiting } := by
  have hc := h.chan c
  generalize t.chan c = x at hc ⊢
  generalize s.chan c = y at hc ⊢
  cases x
  cases y
  cases hc
  rfl

theorem DrvReplied.coil_eq (h : DrvReplied s t) (c : AcNo) : t.coil c = { s.coil c with waiting := (t.coil c).waiting } := by
  have hc := h.coil c
  generalize t.coil c = x at hc ⊢
  generalize s.coil c = y at hc ⊢
  cases x
  cases y
  cases hc
  rfl

theorem FldReplied.side (h : FldReplied s t) : t.side = s.side :=
  (congrArg Field.side h.rest : (restField t.fld).side = (restField s.fld).side)

end Sys2Proof.ReplyProofs

/-! The supply events (spec/01). -/

namespace Sys2Proof.SupplyProofs

open Sys2Proof Sys2Proof.Machine Sys2Proof.Laws

/-- After reset, with the switch island powered and a frame of the barrier already received on the field side. -/
def receivedOnce : State :=
  (State.reset.onPwr fun p => { p with islandUp := Tab.fill 9 true }).onFld fun f => { f with side := { f.side with rxSeq := some 5 } }

/-- The loss clears the switch island, and with it the sequence the field side expects of the barrier. -/
theorem rxSeq_auxLoss_receivedOnce : (opAuxLoss 0 receivedOnce).side.rxSeq = none := by decide +kernel

/-- Refutes O13: at AUX_LOSS the switch island is cleared, and its barrier starts anew: the field side then expects no sequence, so it is not left as
it was. -/
theorem not_supplyCommandsComplete : ¬ Obligations.SupplyCommandsComplete := by
  intro h
  obtain ⟨t, hexec, -, -, -, -, -, -, -, hside⟩ := h.1 receivedOnce 0 rfl
  obtain rfl : opAuxLoss 0 receivedOnce = t := Host.Outcome.next.inj hexec
  have hrx := congrArg FieldSide.rxSeq hside
  rw [rxSeq_auxLoss_receivedOnce] at hrx
  cases hrx

end Sys2Proof.SupplyProofs

/-! The changes of power state and the commands about them (spec/19). -/

namespace Sys2Proof.PowerProofs

open Sys2Proof Sys2Proof.Machine Sys2Proof.Laws Sys2Proof.CommandProofs Sys2Proof.ClockProofs Sys2Proof.ReplyProofs

/-! ## What the radio's judgement and a loss of power leave of the power block -/

theorem radioStop_pwr (s : State) (cause : Nat) : ∃ d, (s.radioStop cause).pwr = { s.pwr with domains := d } := by
  unfold State.radioStop State.radioPower
  split
  · split
    · exact ⟨_, rfl⟩
    · exact ⟨_, rfl⟩
  · exact ⟨_, rfl⟩

theorem radioEval_pwr (s : State) : ∃ d, s.radioEval.pwr = { s.pwr with domains := d } := by
  unfold State.radioEval
  split
  · exact radioStop_pwr ..
  · split
    · exact ⟨_, rfl⟩
    · exact ⟨_, rfl⟩

theorem resetEth_wt (s : State) : s.resetEth.wt = { s.wt with phaseOk := false, offset := 0 } := by
  unfold State.resetEth
  extract_lets e _ keep _ _ s1 s2 s3 _
  have h3 : s3.wt = s2.wt :=
    (keeps_forEach (m := [.rcd, .flt]) (fun p t => fault_keeps (by decide) (keeps_refl _ t)) (keeps_refl _ s2)).only.same .wt (by decide)
  split
  · have h4 := keeps_forEach (m := [.rcd]) (f := fun p s => State.record s 0x5021 3 (portNum p) 0 0)
      (l := (List.finRange 2).filter fun p => decide ((e.ports.get p).gptp = 2)) (fun p t => record_keeps (by decide) (keeps_refl _ t)) (keeps_refl _ s3)
    have h5 := setSource_keeps (x1 := 5) (x2 := false) (m := [.clk, .rcd]) (List.Subset.refl _) (keeps_mono h4 (by decide))
    exact (h5.only.same .wt (by decide)).trans h3
  · exact h3

/-- The network's reset keeps the power block and the time saved. -/
theorem network_pwr_wt (s : State) (up : Bool) :
    (if up then s.resetCan.resetEth.resetFar.resetNm else s).pwr = s.pwr ∧
      (if up then s.resetCan.resetEth.resetFar.resetNm else s).wt.saved = s.wt.saved ∧
      (if up then s.resetCan.resetEth.resetFar.resetNm else s).wt.savedAt = s.wt.savedAt := by
  have hcan := resetCan_keeps (m := [.out, .rcd, .cmd, .sw, .drv, .fld, .can, .far, .twin]) (List.Subset.refl _) (keeps_refl _ s)
  have heth := resetEth_keeps (m := [.clk, .wt, .rcd, .flt, .eth]) (List.Subset.refl _) (keeps_refl _ s.resetCan)
  have hfar := resetNm_keeps (m := [.out, .rcd, .flt, .cmd, .sw, .drv, .fld, .can, .far, .twin, .nm]) (by decide)
    (resetFar_keeps (by decide) (keeps_refl _ s.resetCan.resetEth))
  have hpwr : s.resetCan.resetEth.resetFar.resetNm.pwr = s.pwr :=
    (hfar.only.same .pwr (by decide)).trans ((heth.only.same .pwr (by decide)).trans (hcan.only.same .pwr (by decide)))
  have hwt : s.resetCan.resetEth.resetFar.resetNm.wt = { s.wt with phaseOk := false, offset := 0 } := by
    rw [show s.resetCan.resetEth.resetFar.resetNm.wt = s.resetCan.resetEth.wt from hfar.only.same .wt (by decide), resetEth_wt,
      show s.resetCan.wt = s.wt from hcan.only.same .wt (by decide)]
  split
  · rw [hpwr, hwt]
    exact ⟨rfl, rfl, rfl⟩
  · exact ⟨rfl, rfl, rfl⟩

theorem unpower_pwr_wt (s : State) (keepSwitch : Bool) (f : FieldSide → FieldSide) :
    (∃ up, (s.unpower keepSwitch f).pwr = { s.pwr with islandUp := up }) ∧ (s.unpower keepSwitch f).wt.saved = s.wt.saved ∧
      (s.unpower keepSwitch f).wt.savedAt = s.wt.savedAt := by
  unfold State.unpower
  extract_lets up s1 s2 s3 s4 s5 s6 s7 s8 s9
  let parts : List Part := [.free, .out, .mem, .supply, .rcd, .flt, .cmd, .sw, .drv, .fld, .loom, .weft, .can, .far, .twin, .acc, .nm]
  have h1 : Keeps parts s s1 := keeps_ite (clearMem_keeps (by decide) (stopAccess_keeps (by decide) (dropFar_keeps (by decide)
    (resetCommands_keeps (by decide) (releaseToken_keeps (by decide) (keeps_refl _ s)))))) (keeps_refl _ s)
  have h2 : Keeps parts s s2 := keeps_ite (clearMem_keeps (by decide) (clearMem_keeps (by decide) (resetLoom_keeps (by decide) h1))) h1
  have h3 : s3.pwr = s2.pwr ∧ s3.wt.saved = s2.wt.saved ∧ s3.wt.savedAt = s2.wt.savedAt := network_pwr_wt ..
  have h4 : Keeps parts s3 s4 := keeps_ite (switchClear_keeps (by decide) (keeps_refl _ s3)) (keeps_refl _ s3)
  have h5 : Keeps parts s3 s5 := keeps_ite (driveClear_keeps (by decide) h4) h4
  have h6 : Keeps parts s3 s6 := onSupply_keeps (by decide) (fieldStop_keeps (by decide) h5)
  have h7 : Keeps parts s3 s7 := keeps_ite (resetTwin_keeps (by decide) h6) h6
  have hpwr : s7.pwr = s.pwr := (h7.only.same .pwr (by decide)).trans (h3.1.trans (h2.only.same .pwr (by decide)))
  have hwt2 : s2.wt = s.wt := h2.only.same .wt (by decide)
  have hwt7 : s7.wt = s3.wt := h7.only.same .wt (by decide)
  have hsaved : s9.wt = s3.wt := hwt7
  have hpwr8 : s8.pwr = s.pwr := hpwr
  refine ⟨⟨_, congrArg (fun p : Power =>
    { p with islandUp := (Tab.fill 9 false).put 0 true |>.put 4 (keepSwitch && up 4) |>.put 6 s8.side.running }) hpwr8⟩, ?_, ?_⟩
  · show s9.wt.saved = s.wt.saved
    rw [hsaved, h3.2.1, hwt2]
  · show s9.wt.savedAt = s.wt.savedAt
    rw [hsaved, h3.2.2, hwt2]

/-! ## Sleep, deep sleep and off -/

theorem sleepEnd_pwr_wt (s : State) :
    s.sleepEnd.pwr.state = .sleep ∧ s.sleepEnd.pwr.entering = false ∧ s.sleepEnd.pwr.sleepAt = s.now ∧
      s.sleepEnd.pwr.latched = s.pwr.latched ∧ s.sleepEnd.wt.saved = s.wt.warp ∧ s.sleepEnd.wt.savedAt = s.now := by
  unfold State.sleepEnd
  extract_lets t held s1 s2 s3 on burst
  obtain ⟨⟨up, hpwr⟩, hsaved, hat⟩ := unpower_pwr_wt s1 held FieldSide.asleep
  have h3 : Keeps [.fld, .eth] (s1.unpower held FieldSide.asleep) s3 := onEth_keeps (by decide) (barrierRest_keeps (by decide) (keeps_refl _ _))
  have hpwr3 : s3.pwr = (s1.unpower held FieldSide.asleep).pwr := h3.only.same .pwr (by decide)
  have hwt3 : s3.wt = (s1.unpower held FieldSide.asleep).wt := h3.only.same .wt (by decide)
  have hlatched : s3.pwr.latched = s.pwr.latched := by
    rw [hpwr3, hpwr]
    rfl
  clear_value s3 on burst
  generalize hs4 : (s3.onPwr fun p =>
    { p with
      state := .sleep, entering := false, sleepAt := t, t3Used := 0, t3From := if on then none else some t
      forced := match p.forced with
        | some (.sleep, _) => none
        | f => f
      domains := Tab.ofList [true, true, false, false, false, false, held, false, false, burst] false }) = s4
  obtain ⟨d, hd⟩ := radioEval_pwr s4
  have hwt4 : s4.radioEval.wt = s3.wt := by
    rw [show s4.radioEval.wt = s4.wt from (radioEval_keeps (List.Subset.refl _) (keeps_refl _ s4)).only.same .wt (by decide), ← hs4]
    rfl
  rw [hd, hwt4, hwt3, hsaved, hat, ← hs4]
  exact ⟨rfl, rfl, rfl, hlatched, rfl, rfl⟩

theorem opSleepEntry_of_reached {s : State} (hent : s.pwr.entering = true) (hbuf : s.rcd.buffer = []) (hlat : s.pwr.latched = none) :
    opSleepEntry s = s.sleepEnd := by
  have hlat' : s.sleepEnd.pwr.latched = none := (sleepEnd_pwr_wt s).2.2.2.1.trans hlat
  simp only [opSleepEntry, hent, hbuf, List.isEmpty_nil, if_true, State.sleepReached, hlat']

/-- The parts the module's wake-up works on, once its power block tells of it. -/
def wakeParts : List Part := [.out, .clk, .wt, .rcd, .flt, .sw, .drv, .fld, .weft, .can, .nm, .eth, .acc, .id]

theorem wakeUp_pwr (s : State) (source detail : Nat) :
    (s.wakeUp source detail).pwr.state = .run ∧ (s.wakeUp source detail).pwr.lastSource = source ∧
      (s.wakeUp source detail).pwr.detail = detail ∧ (s.wakeUp source detail).pwr.stateLeft = s.pwr.state.num ∧
      (s.wakeUp source detail).pwr.latched = none := by
  unfold State.wakeUp
  extract_lets t sec left asleep held s1 s2 src s3 s4 s5 s6 n s7 s8 s9 s10 s11 s12 s13 granted s14
  have h3 : Keeps wakeParts s1 s3 := onClk_keeps (by decide) (wdtStart_keeps (by decide) (keeps_refl _ s1))
  have h4 : Keeps wakeParts s1 s4 := keeps_ite h3 (record_keeps (by decide) h3)
  have h5 : Keeps wakeParts s1 s5 := onWeft_keeps (by decide) (rebase_keeps (by decide) (warpResume_keeps (by decide) h4))
  have h6 : Keeps wakeParts s1 s6 := fault_keeps (by decide) (keeps_ite h5 (fault_keeps (by decide) h5))
  have h7 : Keeps wakeParts s1 s7 := railUpdate_keeps (by decide) (onDrv_keeps (by decide) h6)
  have h8 : Keeps wakeParts s1 s8 := keeps_ite (fieldBegin_keeps (by decide) h7) h7
  have h9 : Keeps wakeParts s1 s9 := onId_keeps (by decide) h8
  have h10 : Keeps wakeParts s1 s10 := keeps_forEach (fun c t => nmEnter_keeps (by decide) (keeps_refl _ t)) h9
  have h11 : Keeps wakeParts s1 s11 := wakeHeld_keeps (by decide) h10
  have h12 : Keeps wakeParts s1 s12 := keeps_forEach (fun c t => portWakes_keeps (by decide) (keeps_refl _ t)) h11
  have h13 : Keeps wakeParts s1 s13 := keeps_ite (doorEvent_keeps (by decide) h12) h12
  have hpwr13 : s13.pwr = s1.pwr := h13.only.same .pwr (by decide)
  obtain ⟨d, hd⟩ := radioEval_pwr s13
  have hpwr : (if source = 5 then s14.onAcc fun a => { a with granted := granted } else s14).pwr = { s1.pwr with domains := d } := by
    rw [← hpwr13, ← hd]
    split
    · rfl
    · rfl
  rw [hpwr]
  exact ⟨rfl, rfl, rfl, rfl, rfl⟩

theorem opDeepSleepEntry_of_forced {s : State} (hstate : s.pwr.state = .sleep) (hlat : s.pwr.latched = none) (hforced : s.forcedTo = some .deep) :
    (opDeepSleepEntry s).pwr.state = .deep ∧ (opDeepSleepEntry s).pwr.deepAt = s.now := by
  unfold opDeepSleepEntry
  extract_lets p forced counted t s1 s2
  have hforced' : forced = true := by simp [forced, hforced]
  rw [if_neg (by simp [p, hstate, hlat, hforced'])]
  generalize hs3 : (s2.onPwr fun p => _) = s3
  obtain ⟨d, hd⟩ := radioEval_pwr s3
  rw [hd, ← hs3]
  exact ⟨rfl, rfl⟩

theorem commitBuffered_pwr (n : Nat) (s : State) : (State.commitBuffered n s).pwr = s.pwr :=
  (commitBuffered_keeps (List.Subset.refl _) (keeps_refl _ s)).only.same .pwr (by decide)

theorem opOffEntry_of_forced {s : State} (hstate : s.pwr.state = .deep) (hlat : s.pwr.latched = none) (hforced : s.forcedTo = some .off) :
    (opOffEntry s).pwr.state = .off ∧ (opOffEntry s).pwr.savedWakes = s.pwr.wakeCounts := by
  unfold opOffEntry
  extract_lets p forced t s1 s2 s3 s4
  have hforced' : forced = true := by simp [forced, hforced]
  rw [if_neg (by simp [p, hstate, hlat, hforced'])]
  have hcounts : s4.pwr.wakeCounts = s.pwr.wakeCounts := 
    (congrArg Power.wakeCounts (commitBuffered_pwr s2.rcd.buffer.length s2)).trans rfl
  clear_value s4
  generalize hs5 : (s4.onPwr fun p => _) = s5
  obtain ⟨d, hd⟩ := radioEval_pwr s5
  rw [hd, ← hs5]
  exact ⟨rfl, hcounts⟩

/-! ## The cold start -/

theorem opKeepColdStart_of_due {s : State} (wake : Bool) (m : Option Medium) (hcold : s.pwr.coldDue = true) :
    (opKeepColdStart wake m s).pwr.coldDue = false ∧ (opKeepColdStart wake m s).pwr.state = .run ∧
      (opKeepColdStart wake m s).wt = WarpTime.reset ∧ (opKeepColdStart wake m s).mem = [] := by
  unfold opKeepColdStart
  extract_lets fromOff t s1 s2 sec s3 s4 s5 s6 w f
  rw [if_neg (by simp [hcold])]
  have h6 : Keeps [.rcd, .flt, .acc, .id] s5 (f.onId fun k =>
      { k with running := none, execRam := [], keyFile := f.keyFileOf wake m, loader := false, waiting := false, waitSaid := false, resetAt := some t,
               armed := none, watch := f.watchOf wake m, pollAt := 0 }) := by
    have hw : Keeps [.rcd, .flt, .acc, .id] s5 w :=
      coldAccess_keeps (by decide) (record_keeps (by decide) (wdtStart_keeps (by decide) (keeps_refl _ s5)))
    exact onId_keeps (by decide) (keeps_ite (doorEvent_keeps (by decide) hw) hw)
  have h5 : Keeps [.rcd, .sw, .fld, .pwr] s2 s5 := onPwr_keeps (by decide) (recorderColdStart_keeps (by decide) (rebase_keeps (by decide)
    (keeps_ite (fieldBegin_keeps (by decide) (keeps_refl _ s2)) (keeps_refl _ s2))))
  have hpwr : _ = s5.pwr := h6.only.same .pwr (by decide)
  have h7 := radioEval_keeps (m := [.rcd, .flt, .acc, .id, .pwr]) (by decide) (keeps_mono h6 (by decide))
  obtain ⟨d, hd⟩ := radioEval_pwr (f.onId fun k =>
      { k with running := none, execRam := [], keyFile := f.keyFileOf wake m, loader := false, waiting := false, waitSaid := false, resetAt := some t,
               armed := none, watch := f.watchOf wake m, pollAt := 0 })
  refine ⟨?_, ?_, (h7.only.same .wt (by decide)).trans (h5.only.same .wt (by decide)), (h7.only.same .mem (by decide)).trans
    (h5.only.same .mem (by decide))⟩
  · exact (congrArg Power.coldDue (hd.trans (congrArg (fun p : Power => { p with domains := d }) hpwr))).trans rfl
  · exact (congrArg Power.state (hd.trans (congrArg (fun p : Power => { p with domains := d }) hpwr))).trans rfl

/-- Settles O14: each change of state from what its last update of the power block says. -/
theorem powerCommandsComplete : Obligations.PowerCommandsComplete := by
  unfold Obligations.PowerCommandsComplete
  refine ⟨?cold, ?idle, ?idleEnd, ?reached, ?begun, ?deep, ?off, ?wake, ?edge, ?config, ?enter, ?source⟩
  case cold => exact fun s wake m h => ⟨_, rfl, opKeepColdStart_of_due wake m h⟩
  case idle =>
    intro s hrun hserv hent hok hdue
    refine ⟨_, next_congr (if_pos ⟨hrun, hserv, hent, hok, ?_⟩), rfl⟩
    rw [decide_eq_true hdue, Bool.or_true]
  case idleEnd =>
    intro s h
    exact ⟨_, next_congr (if_pos h), rfl, rfl⟩
  case reached =>
    intro s hent hbuf hlat
    obtain ⟨hstate, hent', hat, -, hsaved, hsavedAt⟩ := sleepEnd_pwr_wt s
    exact ⟨_, next_congr (opSleepEntry_of_reached hent hbuf hlat), hstate, hent', hsaved, hsavedAt, hat⟩
  case begun =>
    intro s hent hforced hidle hblock hdue
    have hop : opSleepEntry s = s.sleepBegin false := by
      simp only [opSleepEntry, hent, hforced, hidle, hblock, hdue, and_self, if_true, Bool.false_eq_true, if_false]
    exact ⟨_, next_congr hop, rfl, rfl⟩
  case deep => exact fun s hstate hlat hforced => ⟨_, rfl, opDeepSleepEntry_of_forced hstate hlat hforced⟩
  case off => exact fun s hstate hlat hforced => ⟨_, rfl, opOffEntry_of_forced hstate hlat hforced⟩
  case wake =>
    intro s source detail src d hloss hent hstate hlat
    have hop : opSleepWake source detail s = s.wakeUp src d := by
      simp [opSleepWake, hloss, hent, hstate, hlat]
    obtain ⟨hrun, hsrc, hd, hleft, hlat'⟩ := wakeUp_pwr s src d
    exact ⟨_, next_congr hop, hrun, hsrc, hd, hleft.trans (by rw [hstate]; rfl), hlat'⟩
  case edge =>
    intro s hawake hent
    have hop : opWakeRisingEdge s = s.serviceActive.doorEvent := by
      simp [opWakeRisingEdge, hawake, hent]
    refine ⟨_, next_congr hop, rfl, rfl, ?_⟩
    show (if s.idleWatch.pwr.state = .idle then PowerState.run else s.idleWatch.pwr.state) ≠ .idle
    split
    · decide
    · assumption
  case config =>
    intro s r q hq ho hlen h0 h1 h1' h2 h2' h3 h3' h4 hw hen
    have hop : opPwrConfig r s = _ := (onCommand_eq hq ho _).trans (if_neg (by omega))
    refine ⟨_, next_congr hop, ?_⟩
    rw [complete_pwr]
    exact ⟨rfl, rfl, rfl, rfl, rfl, rfl⟩
  case enter =>
    intro s r q hq ho hp hweft hsafe hpair
    refine ⟨_, next_congr (onCommand_eq hq ho _), ?_⟩
    have hnum : PowerState.ofNum (u8 q.params 0) = some .sleep := by rw [hp]; rfl
    simp only [hnum]
    rw [if_neg (by rw [hp]; decide), if_neg (by decide), if_neg (by simp [hweft, hsafe, hpair])]
    rfl
  case source =>
    intro s r q hq ho hp
    exact next_congr ((onCommand_eq hq ho _).trans (if_neg (by rw [hp]; decide)))

end Sys2Proof.PowerProofs

/-! Door access and the release stream: their events (spec/16). -/

namespace Sys2Proof.AccessProofs

open Sys2Proof Sys2Proof.Machine

/-- The stream runs by a SET without a lease, which a new SET with a lease of 168 hours is to replace at the stream's slot (R448); that lease is over. -/
def setWaits : State :=
  (((State.reset.onAcc fun a =>
    { a with rel := { a.rel with ctrl := 5, lease := 0 }, pcc := some [], relOn := true, leaseOk := true, leaseFrom := -604800 }).onCanCh 0 fun x =>
      { x with ctrl := 9 }).onFlt fun f => { f with gate := { f.gate with closed := false } }).onCmd fun c => { c with serving := true }

theorem setWaits_due : setWaits.acc.cfg.leaseTime ≠ 0 ∧ setWaits.acc.leaseOk = true ∧ setWaits.leaseLeft = 0 := by decide +kernel

/-- The stream that runs asks for no lease, so it goes on. -/
theorem relOn_leaseExpiry_setWaits : (opLeaseExpiry setWaits).acc.relOn = true := by decide +kernel

/-- Refutes O47: a lease that is over stops the release stream by the configuration the stream runs by, and a SET counts from its REL_SLOT on only
(R448). A stream that runs by a SET without a lease goes on when the lease of the next SET is over. -/
theorem not_accessEventsComplete : ¬ Obligations.AccessEventsComplete := by
  intro h
  obtain ⟨-, -, -, -, -, -, -, hlease, -⟩ := h
  obtain ⟨hcfg, hok, hleft⟩ := setWaits_due
  obtain ⟨t, hexec, -, hoff⟩ := hlease setWaits hcfg hok hleft
  obtain rfl : opLeaseExpiry setWaits = t := Host.Outcome.next.inj hexec
  rw [relOn_leaseExpiry_setWaits] at hoff
  cases hoff

end Sys2Proof.AccessProofs

/-! The commands of door access and release (spec/16). -/

namespace Sys2Proof.AccessProofs

open Sys2Proof Sys2Proof.Machine Sys2Proof.Laws Sys2Proof.CommandProofs Sys2Proof.ReplyProofs

/-! ## The radio and the release stream -/

/-- The radio's judgement runs it or stops it; a stop ends its burst and what it saw. -/
theorem radioEval_acc (s : State) : ∃ run burst present granted absent, s.radioEval.acc =
    { s.acc with running := run, burst := burst, present := present, granted := granted, absent := absent } := by
  unfold State.radioEval State.radioStop State.radioPower
  split
  · split
    · split
      · exact ⟨_, _, _, _, _, rfl⟩
      · exact ⟨_, _, _, _, _, rfl⟩
    · exact ⟨_, _, _, _, _, rfl⟩
  · split
    · exact ⟨_, _, _, _, _, rfl⟩
    · exact ⟨_, _, _, _, _, rfl⟩

/-- A release frame loaded leaves of the access block all but its counters. -/
theorem loadRelease_acc (s : State) (command reason : Nat) : ∃ n k, (s.loadRelease command reason).acc = { s.acc with counter := n, reserved := k } := by
  unfold State.loadRelease
  split
  · exact ⟨_, _, rfl⟩
  · extract_lets k x f now s1
    split
    · exact ⟨_, _, rfl⟩
    · exact ⟨_, _, rfl⟩

/-- Where there is a reason to, the stream stops; its counters may go on. -/
theorem relStop_acc (s : State) : ∃ on n k, s.relStop.acc = { s.acc with relOn := on, counter := n, reserved := k } ∧
    (s.stopReason ≠ 0 → on = false) := by
  unfold State.relStop
  extract_lets r s1
  split
  · split
    · obtain ⟨n, k, h⟩ := loadRelease_acc s1 0xA5 r
      exact ⟨false, n, k, h, fun _ => rfl⟩
    · exact ⟨false, _, _, rfl, fun _ => rfl⟩
  next hno =>
    refine ⟨s.acc.relOn, _, _, rfl, fun hr => ?_⟩
    have hr' : r ≠ 0 := hr
    simpa [hr'] using hno

theorem relStart_acc (s : State) : ∃ on, s.relStart.acc = { s.acc with relOn := on } := by
  unfold State.relStart
  split
  · exact ⟨_, rfl⟩
  · exact ⟨_, rfl⟩

theorem stopReason_of_unpaired {s : State} (h : s.acc.pcc = none) : s.stopReason ≠ 0 := by
  unfold State.stopReason
  dsimp only
  split
  · decide
  · rw [h]
    exact Nat.succ_ne_zero 1

theorem stopReason_of_lockedOut {s : State} (h : s.acc.lockedOut = true) : s.stopReason ≠ 0 := by
  unfold State.stopReason
  dsimp only
  rw [h]
  split
  · decide
  · split
    · decide
    · exact Nat.succ_ne_zero 2

/-! ## The tokens (R426, R427) -/

theorem tokenOf_of_eq {n : Nat} {i : TokNo} (h : n = i.1) : tokenOf n = some i := by
  simp [tokenOf, h, i.2]

theorem bit32_getLsbD (i : TokNo) : (bit32 i).getLsbD i.1 = true := by
  simp [bit32, i.2]

/-- A bit taken out of a mask reads as 0. -/
theorem getLsbD_and_not_bit32 (m : BitVec 32) (i : TokNo) : (m &&& ~~~bit32 i).getLsbD i.1 = false := by
  rw [BitVec.getLsbD_and, BitVec.getLsbD_not, bit32_getLsbD]
  simp

/-! ## The pairing (R437) -/

section

variable {s : State} {r : CmdRef} {q : Cmd} (hq : s.begun r = some q) (ho : q.opcode = 0x0904) (hop : u8 q.params 0 = 1)
  (hlo : 1 ≤ u16 q.params 84) (hhi : u16 q.params 84 ≤ 1024) (hlen : q.params.length = 152 + u16 q.params 84)
  (hzero : zeroAt q.params [1, 2, 3, 86, 87] = true) (hrole : s.twin.role = .none) (hepoch : s.acc.relEpoch ≠ 0xFFFFFFFF)

/-- The certificate is of a known owner, who signed the request with the module's serial number. -/
def PairSigned (s : State) (q : Cmd) : Prop :=
  Config.onCurve (slice q.params 20 64) = true ∧ (s.id.signer (slice q.params 88 (u16 q.params 84))).isSome = true ∧
    Config.ecdsaVerify (Config.certKey (slice q.params 88 (u16 q.params 84))) (slice q.params 4 (84 + u16 q.params 84) ++ padTo 8 Config.serial)
      (slice q.params (88 + u16 q.params 84) 64) = true

include hq ho hop hrole hepoch

theorem opReleaseConfigPair_of_unsigned (h : ¬PairSigned s q) : (opReleaseConfigPair r s).acc = s.acc := by
  rw [opReleaseConfigPair, onCommand_eq hq ho]
  extract_lets p m cert eph pcc
  rw [if_neg (not_not.2 hop)]
  split
  · exact complete_acc ..
  next hform =>
    have hcurve : Config.onCurve eph = true := by
      by_contra hcurve
      exact hform (by simp [hcurve])
    rw [if_neg (not_not.2 hrole), if_pos ?_, complete_acc]
    rw [Bool.or_eq_true, Bool.not_eq_true', ← Bool.not_eq_true]
    by_contra hboth
    obtain ⟨hsigner, hverify⟩ := not_or.1 hboth
    exact h ⟨hcurve, Option.isSome_iff_ne_none.2 fun hn => hsigner (Option.isNone_iff_eq_none.2 hn), not_not.1 hverify⟩

include hlo hhi hlen hzero in
theorem opReleaseConfigPair_of_signed (h : PairSigned s q) : (opReleaseConfigPair r s).acc.relEpoch = s.acc.relEpoch + 1 ∧
    (opReleaseConfigPair r s).acc.counter = 1 ∧
    (opReleaseConfigPair r s).acc.pcc = some (pubId (Config.certKey (slice q.params 88 (u16 q.params 84)))) := by
  obtain ⟨hcurve, hsigner, hverify⟩ := h
  have hdraw : (State.drawBytes 16 s.draw.2).2.acc = s.acc :=
    (drawBytes_keeps (m := [.free]) (List.Subset.refl _) (keeps_refl _ s.draw.2)).only.same .acc (by decide)
  rw [opReleaseConfigPair, onCommand_eq hq ho]
  extract_lets p m cert eph pcc
  rw [if_neg (not_not.2 hop), if_neg (by simp [p, m, eph, hcurve, hlen, hzero]; omega), if_neg (by simp [hrole]), if_neg hepoch,
    if_neg (by simp [p, m, cert, hverify, Option.isNone_iff_eq_none, Option.isSome_iff_ne_none.1 hsigner])]
  revert hdraw
  generalize s.draw = x1
  obtain ⟨k, s1⟩ := x1
  dsimp only
  generalize State.drawBytes 16 s1 = x2
  obtain ⟨nonce, s2⟩ := x2
  intro hdraw
  generalize hu : State.complete _ q .ok _ = u
  obtain ⟨on, hacc⟩ := relStart_acc u
  rw [hacc, ← hu, complete_acc]
  exact ⟨congrArg (fun a : Access => a.relEpoch + 1) hdraw, rfl, rfl⟩

end

/-- Settles O48: each command by its opcode and its checks, and what the stream's start and stop leave of the access block. -/
theorem accessCommandsComplete : Obligations.AccessCommandsComplete := by
  unfold Obligations.AccessCommandsComplete
  refine ⟨?enrol, ?revoke, ?list, ?set, ?pair, ?unpair, ?renew, ?lockout, ?clearLockout, ?clearTamper⟩
  case enrol =>
    intro s r q i hq ho hlen hzero hi hid hid' hfree hnew
    refine ⟨_, next_congr (onCommand_eq hq ho _), ?_⟩
    extract_lets p id free held take
    have hheld : held = false := by
      rw [List.any_eq_false]
      intro j _
      cases hj : s.acc.tokens.get j with
      | none => simp
      | some k => simpa using hnew j k hj
    rw [if_neg (by simp [p, id, hlen, hzero, hid, hi]; omega)]
    have hi' : tokenOf (u8 p 0) = some i := tokenOf_of_eq hi
    simp only [hi', hfree, Option.isSome_none, Bool.false_eq_true, if_false, take, hheld, complete_acc]
    exact ⟨Tab.get_put_self .., fun j hj => Tab.get_put_ne _ _ hj⟩
  case revoke =>
    intro s r q i k hq ho hlen hzero hi hk
    refine ⟨_, next_congr (onCommand_eq hq ho _), ?_⟩
    simp only [tokenOf_of_eq hi, hlen, hzero, hk, ne_eq, not_true_eq_false, Bool.true_eq_false, or_self, if_false, complete_acc]
    exact ⟨Tab.get_put_self .., getLsbD_and_not_bit32 .., getLsbD_and_not_bit32 .., fun j hj => Tab.get_put_ne _ _ hj⟩
  case list =>
    intro s r q hq ho hlen hzero hn hle
    exact next_congr ((onCommand_eq hq ho _).trans (if_neg (by simp [hlen, hzero]; omega)))
  case set =>
    intro s r q k hq ho hlen hzero hk hok hfd
    refine ⟨_, next_congr (onCommand_eq hq ho _), ?_⟩
    extract_lets p k' fd s1 s2
    have hk' : k' = k := hk.symm
    have hfd' : ¬(k'.releaseEn && !fd) = true := by
      rw [hk']
      intro h
      obtain ⟨hen, hno⟩ := Bool.and_eq_true_iff.1 h
      obtain ⟨c, hc, hcfd⟩ := hfd hen
      have hyes : fd = true := by
        simp only [fd, hk', hc, hcfd]
      simp [hyes] at hno
    rw [if_neg (by simp [p, u8_of_zeroAt hzero (List.mem_cons_self)]), if_neg (by simp [p, hlen, hzero, hk', hok]), if_neg hfd', complete_acc]
    have hs2 : s2.acc.cfg = k' := by
      unfold s2
      split
      · obtain ⟨run, burst, present, granted, absent, hacc⟩ := radioEval_acc s1
        rw [hacc]
        rfl
      · rfl
    exact hs2.trans hk'
  case pair =>
    intro s r q n hq ho hop hn hlo hhi hlen hzero hrole hepoch
    subst hn
    refine ⟨_, rfl, ?_⟩
    split
    next hsigned =>
      exact opReleaseConfigPair_of_signed hq ho hop hlo hhi hlen hzero hrole hepoch hsigned
    next hno =>
      exact opReleaseConfigPair_of_unsigned hq ho hop hrole hepoch hno
  case unpair =>
    intro s r q hq ho hp hrole hpcc
    have hpcc' : s.acc.pcc ≠ none := Option.isSome_iff_ne_none.1 hpcc
    refine ⟨_, next_congr (onCommand_eq hq ho _), ?_⟩
    rw [if_neg (by rw [hp]; decide), if_neg (by rw [hp]; decide), if_neg (by simp [hrole, hpcc']), complete_acc]
    obtain ⟨on, n, k, hacc, hon⟩ := relStop_acc (s.onAcc fun a => { a with pcc := none })
    rw [onAcc_acc, hacc]
    exact ⟨rfl, rfl, hon (stopReason_of_unpaired rfl)⟩
  case renew =>
    intro s r q hq ho hp hlease
    refine ⟨_, next_congr (onCommand_eq hq ho _), ?_⟩
    rw [if_neg (by rw [hp]; decide), if_neg (by rw [hp]; decide), if_neg hlease]
    extract_lets sec s1
    obtain ⟨on, hacc⟩ := relStart_acc (s1.complete q .ok (le 1 3 ++ zeros 3 ++ le 4 s1.leaseLeft))
    rw [hacc, complete_acc]
    exact ⟨rfl, rfl⟩
  case lockout =>
    intro s r q hq ho hp hlock
    refine ⟨_, next_congr (onCommand_eq hq ho _), ?_⟩
    rw [if_neg (by rw [hp]; decide), if_neg (by rw [hp]; decide)]
    simp only [hlock, Bool.false_eq_true, if_false, complete_acc]
    obtain ⟨on, n, k, hacc, hon⟩ := relStop_acc ((s.onAcc fun a => { a with lockedOut := true }).record 0x7023 2 1 0 0)
    rw [hacc]
    exact ⟨rfl, hon (stopReason_of_lockedOut rfl)⟩
  case clearLockout =>
    intro s r q hq ho hp hlock
    refine ⟨_, next_congr (onCommand_eq hq ho _), ?_⟩
    rw [if_neg (by rw [hp]; decide), if_neg (by rw [hp]; decide), if_neg (by simp [hlock]), complete_acc]
    obtain ⟨on, hacc⟩ := relStart_acc ((s.onAcc fun a => { a with lockedOut := false }).record 0x7023 2 0 0 0)
    rw [hacc]
    rfl
  case clearTamper =>
    intro s r q hq ho hp htamper hin
    refine ⟨_, next_congr (onCommand_eq hq ho _), ?_⟩
    rw [if_neg (by rw [hp]; decide), if_neg (by rw [hp]; decide), if_neg (by simpa [htamper, or_iff_not_imp_left] using hin), complete_acc]
    obtain ⟨on, hacc⟩ := relStart_acc ((s.onAcc fun a => { a with tamper := false }).record 0x7024 2 s.acc.cfg.tamperIn 0 0)
    rw [hacc]
    rfl

end Sys2Proof.AccessProofs

/-! The event recorder's commands (spec/18). -/

namespace Sys2Proof.RecorderProofs

open Sys2Proof Sys2Proof.Machine

/-- REC_APPEND of the code 0xB000 and severity 8. -/
def appendCmd : Cmd :=
  { id := 1, src := .session 0, addr := 0, port := 0, opcode := 0x0802, flags := 0, posted := false, fence := false, tag := 0, group := none,
    session := 0, params := le 2 0xB000 ++ [8, 0] ++ zeros 12, accepted := true, stage := .service, msn := 0, mirr := false, begunAt := none }

/-- A record of the switch island that waits in the buffer. -/
def switchRecord : Buffered :=
  { record := { code := 0x1001, source := 4, severity := 5, opSec := 0, subsec := 0, cycles := 0, p0 := 0, p1 := 0, p2 := 0 }, at_ := 0, fails := 0,
    cmd := none }

/-- The command has begun, in the instant of the switch island's record. -/
def appendsNow : State :=
  ((State.reset.onPwr fun p => { p with domains := Tab.fill 10 true }).onRcd fun r => { r with buffer := [switchRecord] }).onSource 0 fun x =>
    { x with exec := some appendCmd }

/-- The service core's record enters before the switch island's, whose number is higher. -/
theorem last_recAppend_appendsNow : (opRecAppend (.ungrouped 0) appendsNow).rcd.buffer.getLast? = some switchRecord := by decide +kernel

theorem appendsNow_due : appendsNow.begun (.ungrouped 0) = some appendCmd ∧ appendsNow.rcd.tokens ≠ 0 ∧ appendsNow.rcd.saturated = false ∧
    appendsNow.pwr.domains.get 2 = true := by decide +kernel

/-- Refutes O50: the record of REC_APPEND is the service core's, and a record enters the buffer by its island's number among those of its instant
(R479); so it does not come last where a record of a higher island waits from the same instant. -/
theorem not_recorderCommandsComplete : ¬ Obligations.RecorderCommandsComplete := by
  intro h
  obtain ⟨-, -, -, -, -, -, -, -, happend⟩ := h
  obtain ⟨hbegun, htokens, hroom, hpower⟩ := appendsNow_due
  obtain ⟨t, b, hexec, hbuffer, -, -, -, hsource, -⟩ := happend appendsNow (.ungrouped 0) appendCmd hbegun rfl (by decide +kernel) (by decide +kernel)
    (by decide +kernel) (by decide +kernel) (by decide +kernel) (by decide +kernel) htokens hroom hpower
  obtain rfl : opRecAppend (.ungrouped 0) appendsNow = t := Host.Outcome.next.inj hexec
  have hlast := last_recAppend_appendsNow
  rw [hbuffer, List.getLast?_concat] at hlast
  obtain rfl : b = switchRecord := Option.some.inj hlast
  exact absurd hsource (by decide)

end Sys2Proof.RecorderProofs

/-! Network management (spec/13). -/

namespace Sys2Proof.NetworkProofs

open Sys2Proof Sys2Proof.Machine

/-- Channel 0 has cleared for T_CLEAR, and its wake detector has counted 32 bad frames. -/
def clearedNoisy : State :=
  { (State.reset.onNmCh 0 fun n => { n with state := .clearing, errCount := 32, since := 0 }) with now := 1000000000 }

theorem clearedNoisy_due : (clearedNoisy.nmCh 0).state = .clearing ∧
    1000 * clearedNoisy.nm.cfg.tClear ≤ clearedNoisy.since (clearedNoisy.nmCh 0).since := by decide +kernel

/-- The errors wake the channel (R362), so it does not fall asleep. -/
theorem state_nmSleep_clearedNoisy : ((opNmSleep 0 clearedNoisy).nmCh 0).state = .listen := by decide +kernel

/-- Refutes O41: at the end of CLEARING a channel whose detector has counted 32 errors wakes by them and goes to LISTEN, not to BUS_SLEEP. -/
theorem not_networkManagementComplete : ¬ Obligations.NetworkManagementComplete := by
  intro h
  obtain ⟨-, -, -, hsleep, -⟩ := h
  obtain ⟨hstate, hdue⟩ := clearedNoisy_due
  obtain ⟨t, hexec, hasleep, -⟩ := hsleep clearedNoisy 0 hstate hdue
  obtain rfl : opNmSleep 0 clearedNoisy = t := Host.Outcome.next.inj hexec
  rw [state_nmSleep_clearedNoisy] at hasleep
  cases hasleep

end Sys2Proof.NetworkProofs

/-! The Modbus bridge: its transactions and its locks (spec/14). -/

namespace Sys2Proof.FarProofs

open Sys2Proof Sys2Proof.Machine Sys2Proof.Laws Sys2Proof.CommandProofs Sys2Proof.ReplyProofs Sys2Proof.DataFrameProofs

/-! ## The end of a transaction (R388 to R391) -/

/-- What the end counts and reports, before the command is answered. -/
def farCounted (s : State) (p : FarNo) (f : Far) (st : Status) (exception : Nat) : State :=
  match st with
  | .farError => s.fault .B 3 0x5060 (farNum p) (256 * f.unit + f.function) exception
  | .farTimeout =>
    (s.onFarPort p fun k => { k with timeouts := satAdd 0xFFFF k.timeouts 1 }).fault .B 3 0x5061 (farNum p) (256 * f.unit + f.function) f.attempts
  | _ => s

/-- The parts the answer to a transaction's command works on. -/
def answerParts : List Part := [.out, .rcd, .cmd, .sw, .drv, .fld, .can, .far, .twin]

/-- An answer keeps of the bridge all but the transactions that wait and the locks, and the fault block. -/
structure Answers (s t : State) : Prop where
  far : FarReplied s t
  flt : t.flt = s.flt

variable {s t u : State}

theorem Answers.trans (h : Answers s t) (k : Answers t u) : Answers s u := ⟨fun p => (k.far p).trans (h.far p), k.flt.trans h.flt⟩

theorem Answers.refl (s : State) : Answers s s := ⟨fun _ => rfl, rfl⟩

theorem answers_onFarPort {f : FarPort → FarPort} (s : State) (p : FarNo) (hf : ∀ k, restFarPort (f k) = restFarPort k) :
    Answers s (s.onFarPort p f) := ⟨onFarPort_far s p hf, rfl⟩

theorem answers_complete (s : State) (c : Cmd) (st : Status) (b : List Byte) (detail : Nat) : Answers s (s.complete c st b detail) :=
  ⟨(complete_replied ..).far, complete_flt ..⟩

theorem fault_farPort (s : State) (c : Cls) (island code p0 p1 p2 : Nat) (p : FarNo) :
    (s.fault c island code p0 p1 p2).farPort p = s.farPort p :=
  congrArg (fun b : Bridge => b.ports.get p) ((fault_keeps (m := [.rcd, .flt]) (by decide) (keeps_refl _ s)).only.same .far (by decide))

/-- A fault's word does not look at the bridge. -/
theorem onFarPort_fault_flt (s : State) (q : FarNo) (f : FarPort → FarPort) (c : Cls) (island code p0 p1 p2 : Nat) :
    ((s.onFarPort q f).fault c island code p0 p1 p2).flt = (s.fault c island code p0 p1 p2).flt := rfl

theorem answers_farLate (s : State) (p : FarNo) (f : Far) (c : Cmd) (st : Status) (e : Nat) : Answers s (s.farLate p f c st e) := by
  unfold State.farLate
  split
  · exact .refl s
  · extract_lets s1 s2
    have h1 : Answers s s1 := answers_onFarPort s p fun _ => rfl
    have h2 : Answers s1 s2 := ⟨(lateError_replied ..).far,
      (lateError_keeps (m := answerParts) (by decide) (keeps_refl _ s1)).only.same .flt (by decide)⟩
    refine (h1.trans h2).trans ⟨fun q => ((failGroup_replied ..).far q).trans ?_, ?_⟩
    · rfl
    · exact (failGroup_keeps (m := answerParts) (by decide) (record_keeps (by decide) (keeps_refl _ s2))).only.same .flt (by decide)

theorem answers_farEnd (s : State) (p : FarNo) (f : Far) (st : Status) (e : Nat) (b : List Byte) :
    Answers (farCounted s p f st e) (s.farEnd p f st e b) := by
  unfold State.farEnd
  extract_lets s0 s1 read l s2 s3
  have h0 : farCounted s p f st e = s0 := rfl
  rw [h0]
  clear_value s0
  have h1 : Answers s0 s1 := answers_onFarPort s0 p fun k => fillItem_rest ..
  have h2 : Answers s1 s2 := answers_onFarPort s1 p fun _ => rfl
  have h3 : Answers s1 s3 := by
    unfold s3
    split
    · exact answers_onFarPort s1 p fun _ => rfl
    · exact .refl s1
  clear_value s3 s2 s1
  refine h1.trans ?_
  have hdone (t : State) (c : Cmd) (st' : Status) (e' : Nat) (b' : List Byte) : Answers t (t.farDone p f c st' e' b') := answers_complete ..
  split
  · exact .refl s1
  · split
    · exact .refl s1
    · split
      · split
        · exact answers_onFarPort s1 p fun _ => rfl
        · exact hdone ..
      · split
        · split
          · exact h2.trans (hdone ..)
          · exact hdone ..
        · exact hdone ..
      · exact h3.trans (hdone ..)
      · split
        · exact answers_farLate ..
        · exact hdone ..

theorem Answers.current (h : Answers s t) (p : FarNo) : (t.farPort p).current = (s.farPort p).current :=
  (congrArg FarPort.current (h.far p) : (restFarPort (t.farPort p)).current = (restFarPort (s.farPort p)).current)

theorem Answers.exceptions (h : Answers s t) (p : FarNo) : (t.farPort p).exceptions = (s.farPort p).exceptions :=
  (congrArg FarPort.exceptions (h.far p) : (restFarPort (t.farPort p)).exceptions = (restFarPort (s.farPort p)).exceptions)

theorem Answers.timeouts (h : Answers s t) (p : FarNo) : (t.farPort p).timeouts = (s.farPort p).timeouts :=
  (congrArg FarPort.timeouts (h.far p) : (restFarPort (t.farPort p)).timeouts = (restFarPort (s.farPort p)).timeouts)

/-! ## The start of a transaction (R385, R386) -/

theorem pick_congr {k j : FarPort} (h : k.lock = j.lock) (l : List Far) : k.pick l = j.pick l := by
  induction l with
  | nil => rfl
  | cons f l ih =>
    have hblocks : k.blocks f = j.blocks f := by rw [FarPort.blocks, FarPort.blocks, h]
    simp only [FarPort.pick, hblocks, ih]

/-- The frame of a transaction, as it goes out on the line. -/
def farFrame (f : Far) : List Byte := le 1 f.unit ++ f.pdu ++ modbusCrc (le 1 f.unit ++ f.pdu)

theorem farFrame_length (f : Far) : (farFrame f).length = f.pdu.length + 3 := by
  simp only [farFrame, modbusCrc, List.length_append, le_length]
  omega

/-- The transaction that a start opens. -/
def farOpened (s : State) (f : Far) (line timing : Nat) : FarOpen :=
  { far := { f with attempts := f.attempts + 1, waitFrom := none }, endAt := s.now + lineTime line (f.pdu.length + 3), line := line, timing := timing }

theorem farSend_eq (s : State) (p : FarNo) (f : Far) (line timing : Nat) :
    s.farSend p f line timing = (s.send (.rs485 (farNum p) (farFrame f))).onFarPort p fun k =>
      { k with current := some (farOpened s f line timing), lineAt := s.now + lineTime line (f.pdu.length + 3) } := by
  rw [farOpened, ← farFrame_length]
  rfl

theorem farSend_farPort (s : State) (p : FarNo) (f : Far) (line timing : Nat) : (s.farSend p f line timing).farPort p =
    { s.farPort p with current := some (farOpened s f line timing), lineAt := s.now + lineTime line (f.pdu.length + 3) } := by
  rw [farSend_eq, farPort_onFarPort]
  rfl

theorem farSend_out (s : State) (p : FarNo) (f : Far) (line timing : Nat) :
    (s.farSend p f line timing).out = .rs485 (farNum p) (farFrame f) :: s.out := rfl

section

variable {p : FarNo} {f : Far} {rest : List Far} (hcur : (s.farPort p).current = none) (hup : s.pwr.islandUp.get 3 = true)
  (hdom : s.pwr.domains.get 4 = true) (hquiet : s.farQuiet p = true) (hrole : s.twin.role ≠ .shadow)
include hcur hup hdom hquiet hrole

theorem opFarTransactionStart_ahead (h : (s.farPort p).pick (s.farPort p).ahead = some (f, rest)) :
    opFarTransactionStart p s = (s.onFarPort p fun _ => { (s.farPort p).withLate with ahead := rest }).farSend p f (s.farPort p).line
      (s.farPort p).timing := by
  have hpick : (s.farPort p).withLate.pick (s.farPort p).withLate.ahead = some (f, rest) := (pick_congr (k := (s.farPort p).withLate) (j := s.farPort p) rfl _).trans h
  have hcur' : (s.farPort p).withLate.current = none := hcur
  simp only [opFarTransactionStart, hcur', hup, hdom, hquiet, hrole, hpick, Option.isSome_none, Bool.not_true, decide_false, Bool.or_self,
    Bool.false_eq_true, if_false]
  rfl

theorem opFarTransactionStart_queue (hnone : (s.farPort p).pick (s.farPort p).ahead = none)
    (h : (s.farPort p).pick (s.farPort p).withLate.queue = some (f, rest)) :
    opFarTransactionStart p s = (s.onFarPort p fun _ => { (s.farPort p).withLate with queue := rest }).farSend p f (s.farPort p).line
      (s.farPort p).timing := by
  have hpick : (s.farPort p).withLate.pick (s.farPort p).withLate.ahead = none := (pick_congr (k := (s.farPort p).withLate) (j := s.farPort p) rfl _).trans hnone
  have hpick' : (s.farPort p).withLate.pick (s.farPort p).withLate.queue = some (f, rest) := (pick_congr (k := (s.farPort p).withLate) (j := s.farPort p) rfl _).trans h
  have hcur' : (s.farPort p).withLate.current = none := hcur
  simp only [opFarTransactionStart, hcur', hup, hdom, hquiet, hrole, hpick, hpick', Option.isSome_none, Bool.not_true, decide_false, Bool.or_self,
    Bool.false_eq_true, if_false]
  rfl

end

/-! ## A frame received (R387) -/

/-- The line has been active just now. -/
def lineHeard (p : FarNo) (s : State) : State := s.onFarPort p fun k => { k with lineAt := s.now }

theorem lineHeard_current (p : FarNo) (s : State) : ((lineHeard p s).farPort p).current = (s.farPort p).current := by
  rw [lineHeard, farPort_onFarPort]

theorem opModbusFrameReceive_of_up (p : FarNo) (frame : List Byte) (e : Bool) (hup : s.pwr.islandUp.get 3 = true) (hdom : s.pwr.domains.get 4 = true)
    (hcur : (s.farPort p).current = none) : opModbusFrameReceive p frame e s = (lineHeard p s).stray p := by
  simp only [opModbusFrameReceive, hup, hdom, Bool.not_true, Bool.or_self, Bool.false_eq_true, if_false]
  have hcur' : ((lineHeard p s).farPort p).current = none := (lineHeard_current p s).trans hcur
  rw [lineHeard] at hcur' ⊢
  rw [hcur']

/-- The far side's exception ends the transaction, which counts it. -/
theorem opModbusFrameReceive_exception {p : FarNo} {b : List Byte} {o : FarOpen} (hup : s.pwr.islandUp.get 3 = true) (hdom : s.pwr.domains.get 4 = true)
    (hcur : (s.farPort p).current = some o) (hlen : 2 ≤ b.length) (hunit : u8 b 0 = o.far.unit) (hfn : u8 b 1 = o.far.function + 0x80) :
    opModbusFrameReceive p (b ++ modbusCrc b) false s =
      (((lineHeard p s).onFarPort p fun k => { k with current := none }).onFarPort p fun k =>
        { k with exceptions := satAdd 0xFFFF k.exceptions 1 }).farEnd p o.far .farError (u8 b 2) [] := by
  have hcur' : ((lineHeard p s).farPort p).current = some o := (lineHeard_current p s).trans hcur
  have hcrc : (modbusCrc b).length = 2 := le_length ..
  have hbody : (b ++ modbusCrc b).take ((b ++ modbusCrc b).length - 2) = b := by
    rw [List.length_append, hcrc, Nat.add_sub_cancel, List.take_left]
  have htail : (b ++ modbusCrc b).drop ((b ++ modbusCrc b).length - 2) = modbusCrc b := by
    rw [List.length_append, hcrc, Nat.add_sub_cancel, List.drop_left]
  have hshort : ¬(b ++ modbusCrc b).length < 4 := by
    rw [List.length_append, hcrc]
    omega
  have hr (i : Nat) : u8 (b.drop 1) i = u8 b (i + 1) := by
    simp [u8]
  simp only [opModbusFrameReceive, hup, hdom, Bool.not_true, Bool.or_self, Bool.false_eq_true, if_false]
  rw [lineHeard] at hcur' ⊢
  rw [hcur']
  simp only [hbody, htail, hshort, hr, hunit, hfn, ne_eq, not_true_eq_false, decide_false, Bool.or_self, Bool.false_eq_true, if_false, Nat.zero_add,
    or_self, and_false, if_true]

/-! ## Timeouts and the turnaround (R388, R389) -/

/-- The transaction on the line is over. -/
def farClosed (p : FarNo) (s : State) : State := s.onFarPort p fun k => { k with current := none }

theorem farClosed_farPort (p : FarNo) (s : State) : (farClosed p s).farPort p = { s.farPort p with current := none } := farPort_onFarPort ..

theorem opFarTimeout_again {p : FarNo} {o : FarOpen} (hcur : (s.farPort p).current = some o) (hunit : o.far.unit ≠ 0)
    (hdue : o.endAt + o.respTimeout ≤ s.now) (hkind : o.far.kind = .read) (hleft : o.far.attempts ≤ (s.farPort p).retries)
    (hquiet : s.farQuiet p = true) : opFarTimeout p s = (farClosed p s).farSend p o.far o.line o.timing := by
  have hnot : ¬s.now < o.endAt + o.respTimeout := by omega
  simp only [opFarTimeout, hcur, hunit, hnot, hkind, hleft, hquiet, decide_true, Bool.and_true, Bool.true_eq_false, and_false, or_self, if_false,
    if_true]
  rfl

theorem opFarTimeout_over {p : FarNo} {o : FarOpen} (hcur : (s.farPort p).current = some o) (hunit : o.far.unit ≠ 0)
    (hdue : o.endAt + o.respTimeout ≤ s.now) (hlast : o.far.kind ≠ .read ∨ (s.farPort p).retries < o.far.attempts) :
    opFarTimeout p s = (farClosed p s).farEnd p o.far .farTimeout 0 [] := by
  have hnot : ¬s.now < o.endAt + o.respTimeout := by omega
  have hagain : (decide (o.far.kind = .read) && decide (o.far.attempts ≤ (s.farPort p).retries)) = false := by
    obtain h | h := hlast
    · simp [h]
    · simp [Nat.not_le.2 h]
  simp only [opFarTimeout, hcur, hunit, hnot, hagain, Bool.false_eq_true, false_and, or_self, if_false]
  rfl

theorem opFarTurnaroundEnd_of_due {p : FarNo} {o : FarOpen} (hcur : (s.farPort p).current = some o) (hunit : o.far.unit = 0)
    (hdue : o.endAt + o.turnaround ≤ s.now) : opFarTurnaroundEnd p s = (farClosed p s).farEnd p o.far .ok 0 [] := by
  have hnot : ¬s.now < o.endAt + o.turnaround := by omega
  simp only [opFarTurnaroundEnd, hcur, hunit, hnot, ne_eq, not_true_eq_false, or_self, if_false]
  rfl

/-! ## Waiting for a lock (R393, R394) -/

/-- Two operations on one port that leave it alike leave the state alike. -/
theorem onFarPort_congr {f g : FarPort → FarPort} {p : FarNo} (h : f (s.farPort p) = g (s.farPort p)) : s.onFarPort p f = s.onFarPort p g := by
  have hports : s.far.ports.upd p f = s.far.ports.upd p g := by
    rw [Tab.upd, Tab.upd]
    exact congrArg _ h
  simp only [State.onFarPort, State.onFar, hports]

theorem tab_ext {α : Type} {n : Nat} {a b : Tab α n} (h : ∀ i, a.get i = b.get i) : a = b :=
  Vector.ext fun i hi => h ⟨i, hi⟩

theorem onFarPort_onFarPort (s : State) (p : FarNo) (f g : FarPort → FarPort) :
    (s.onFarPort p f).onFarPort p g = s.onFarPort p fun k => g (f k) := by
  have hports : (s.far.ports.upd p f).upd p g = s.far.ports.upd p fun k => g (f k) := by
    refine tab_ext fun q => ?_
    by_cases hq : q = p
    · rw [hq, Tab.get_upd_self, Tab.get_upd_self, Tab.get_upd_self]
    · rw [Tab.get_upd_ne _ _ hq, Tab.get_upd_ne _ _ hq, Tab.get_upd_ne _ _ hq]
  simp only [State.onFarPort, State.onFar, hports]

/-- The port without a transaction of its queues. -/
def farDropped (f : Far) (k : FarPort) : FarPort :=
  { k with ahead := k.ahead.erase f, queue := if f ∈ k.ahead then k.queue else k.queue.erase f }

theorem opHeddleWaitExpiry_write {p : FarNo} {f : Far} {rest : List Far} {k id : Nat} {c : Cmd} (hahead : (s.farPort p).ahead = [])
    (hqueue : (s.farPort p).queue = f :: rest) (hwait : f.waitFrom = some k) (hdue : (s.farPort p).heddleWait ≤ s.since k) (hheld : f.held = false)
    (hkind : f.kind = .write) (hcmd : f.cmd = some id) (hc : s.cmd.findCmd id = some c) (hposted : c.posted = false) :
    opHeddleWaitExpiry p s = (s.onFarPort p fun x => FarPort.fillItem { x with queue := rest } p f 0 []).complete c .locked [] := by
  have hstate (t : State) (ht : t.cmd = s.cmd) : t.farEnd p f .locked 0 [] = (t.onFarPort p fun x => x.fillItem p f 0 []).complete c .locked [] := by
    have hfind : (t.onFarPort p fun x => x.fillItem p f 0 []).cmd.findCmd id = some c := (congrArg (fun x : Commands => x.findCmd id) ht).trans hc
    simp only [State.farEnd, hcmd, hfind, hkind, hposted, Bool.false_and, Bool.false_eq_true, if_false, State.farDone, Far.replies, reduceCtorEq,
      decide_false, or_self, Bool.and_false]
    rfl
  simp only [opHeddleWaitExpiry, hahead, hqueue, List.nil_append, List.find?_cons, hwait, hdue, hheld, decide_true, Bool.not_false, Bool.and_self]
  refine Eq.trans (hstate (s.onFarPort p (farDropped f)) rfl) ?_
  rw [onFarPort_onFarPort]
  exact congrArg (State.complete · c .locked []) (onFarPort_congr (by simp [farDropped, hahead, hqueue]))

theorem opLockExpired_of_due {p : FarNo} {l : FarLock} (hlock : (s.farPort p).lock = some l) (hdue : (s.farPort p).lockTimeout ≤ s.since l.at_) :
    opLockExpired p s = (s.onFarPort p fun k => { k.endLock l with lostBy := (s.farPort p).lostBy ++ [(l.src, l.group)] }).fault .B 3 0x5063
      (farNum p) l.mode l.who := by
  simp only [opLockExpired, hlock, Nat.not_lt.2 hdue, if_false]
  exact congrArg (State.fault · .B 3 0x5063 (farNum p) l.mode l.who) (onFarPort_congr rfl)

theorem endLock_lock (k : FarPort) (l : FarLock) : (k.endLock l).lock = none := by
  unfold FarPort.endLock
  extract_lets k'
  split
  · rfl
  · split <;> rfl

/-! ## The commands of the bridge (R390 to R393) -/

theorem handOver_farPort (s : State) (c : Cmd) (st : Stage) (p : FarNo) : (s.handOver c st).farPort p = s.farPort p := by
  unfold State.handOver
  split <;> rfl

theorem handOver_now (s : State) (c : Cmd) (st : Stage) : (s.handOver c st).now = s.now := by
  unfold State.handOver
  split <;> rfl

theorem farEnter_farPort (s : State) (p : FarNo) (f : Far) : (s.farEnter p f).farPort p =
    { s.farPort p with queue := (s.farPort p).queue ++ [if (s.farPort p).blocks f then { f with waitFrom := some s.now } else f] } := by
  rw [State.farEnter, farPort_onFarPort]

/-- A transaction handed over waits at the end of its port's queue. -/
theorem handOver_farEnter_farPort (s : State) (q : Cmd) (st : Stage) (p : FarNo) (f : Far) : ((s.handOver q st).farEnter p f).farPort p =
    { s.farPort p with queue := (s.farPort p).queue ++ [if (s.farPort p).blocks f then { f with waitFrom := some s.now } else f] } := by
  rw [farEnter_farPort, handOver_farPort, handOver_now]

/-- Settles O43: each event of the bridge through the equation of its case, the answers through what they keep of the port. -/
theorem farTransactionsComplete : Obligations.FarTransactionsComplete := by
  unfold Obligations.FarTransactionsComplete
  refine ⟨fun s p f rest first hcur hup hdom hquiet hrole hpick => ?_, fun s p frame e hup hdom hcur => ?_,
    fun s p frame b o hup hdom hcur hlen hframe hunit hfn => ?_, fun s p o hcur hunit hdue hkind hleft hquiet => ?_,
    fun s p o hcur hunit hdue hlast => ?_, fun s p o hcur hunit hdue => ?_,
    fun s p f rest k id c hahead hqueue hwait hdue hheld hkind hcmd hc hposted =>
      congrArg Host.Outcome.next (opHeddleWaitExpiry_write hahead hqueue hwait hdue hheld hkind hcmd hc hposted),
    fun s p l hlock hdue => ?_, fun s r q p f hq ho hp hok hgone henters hf hstream => ?_, fun s r q p hq ho hp hok hgone henters hstream hitems => ?_,
    fun s r q p f hq ho hp hok hgone henters hf => ?_, fun s r q p f hq ho hp hlen hz hunit hunit' hmode henters hf => ?_,
    fun s r q p hq ho hp hlen hz hmode hlock hqueue => ?_, fun s r q p l hq ho hp hlen hz hlock hsrc hgroup hheddle henters => ?_,
    fun s r q p l hq ho hp hlen hz hlock hsrc hgroup hheddle => ?_⟩
  · cases first with
    | true =>
      refine ⟨_, farOpened s f (s.farPort p).line (s.farPort p).timing, congrArg Host.Outcome.next (opFarTransactionStart_ahead hcur hup hdom hquiet hrole hpick), ?_⟩
      rw [farSend_farPort, farPort_onFarPort, farSend_out]
      exact ⟨rfl, rfl, rfl, rfl, rfl, rfl, rfl⟩
    | false =>
      refine ⟨_, farOpened s f (s.farPort p).line (s.farPort p).timing, congrArg Host.Outcome.next (opFarTransactionStart_queue hcur hup hdom hquiet hrole hpick.1 hpick.2), ?_⟩
      rw [farSend_farPort, farPort_onFarPort, farSend_out]
      exact ⟨rfl, rfl, rfl, rfl, rfl, rfl, rfl⟩
  · refine ⟨_, congrArg Host.Outcome.next (opModbusFrameReceive_of_up p frame e hup hdom hcur), ?_⟩
    rw [State.stray, farPort_onFarPort, lineHeard, farPort_onFarPort]
  · subst hframe
    refine ⟨_, congrArg Host.Outcome.next (opModbusFrameReceive_exception hup hdom hcur hlen hunit hfn), ?_⟩
    have h := answers_farEnd (((lineHeard p s).onFarPort p fun k => { k with current := none }).onFarPort p fun k =>
        { k with exceptions := satAdd 0xFFFF k.exceptions 1 }) p o.far .farError (u8 b 2) []
    refine ⟨(h.current p).trans ?_, (h.exceptions p).trans ?_, h.flt.trans ?_⟩
    · rw [farCounted, fault_farPort, farPort_onFarPort, farPort_onFarPort]
    · rw [farCounted, fault_farPort, farPort_onFarPort, farPort_onFarPort, lineHeard, farPort_onFarPort]
    · rw [farCounted, onFarPort_fault_flt, onFarPort_fault_flt, lineHeard, onFarPort_fault_flt]
  · refine ⟨_, farOpened s o.far o.line o.timing, congrArg Host.Outcome.next (opFarTimeout_again hcur hunit hdue hkind hleft hquiet), ?_⟩
    rw [farSend_farPort, farClosed_farPort]
    exact ⟨rfl, rfl, rfl, rfl⟩
  · have h := answers_farEnd (farClosed p s) p o.far .farTimeout 0 []
    refine ⟨_, congrArg Host.Outcome.next (opFarTimeout_over hcur hunit hdue hlast), (h.current p).trans ?_, (h.timeouts p).trans ?_, h.flt.trans ?_⟩
    · rw [farCounted, fault_farPort, farPort_onFarPort, farClosed_farPort]
    · rw [farCounted, fault_farPort, farPort_onFarPort, farClosed_farPort]
    · rw [farCounted, onFarPort_fault_flt, farClosed, onFarPort_fault_flt]
  · have h := answers_farEnd (farClosed p s) p o.far .ok 0 []
    exact ⟨_, congrArg Host.Outcome.next (opFarTurnaroundEnd_of_due hcur hunit hdue), (h.current p).trans (congrArg FarPort.current (farClosed_farPort p s)),
      h.flt⟩
  · refine ⟨_, congrArg Host.Outcome.next (opLockExpired_of_due hlock hdue), ?_, ?_, ?_⟩
    · rw [fault_farPort, farPort_onFarPort]
      exact endLock_lock ..
    · rw [fault_farPort, farPort_onFarPort]
    · rw [onFarPort_fault_flt]
      rfl
  · have hbit : bit (u8 q.params 3) 0 = false := by rw [hstream]; rfl
    refine ⟨_, next_congr (onCommand_eq hq ho _), ?_⟩
    simp only [hp, hok, hgone, henters, hbit, Bool.not_true, Bool.false_eq_true, if_false, false_and, ← hf, handOver_farEnter_farPort]
  · have hbit : bit (u8 q.params 3) 0 = true := by rw [hstream]; rfl
    refine ⟨_, next_congr (onCommand_eq hq ho _), ?_⟩
    simp only [hp, hok, hgone, henters, hbit, Bool.not_true, Bool.false_eq_true, if_false, true_and, Nat.not_le.2 hitems, if_true,
      handOver_farEnter_farPort, farPort_onFarPort, List.length_append, List.length_singleton]
  · refine ⟨_, next_congr (onCommand_eq hq ho _), ?_⟩
    simp only [hp, hok, hgone, henters, Bool.not_true, Bool.false_eq_true, if_false, ← hf, handOver_farEnter_farPort]
  · refine ⟨_, next_congr (onCommand_eq hq ho _), ?_⟩
    have hbad : ¬(u8 q.params 1 = 0 ∨ 247 < u8 q.params 1) := by omega
    simp only [hp, hlen, hz, hmode, henters, hbad, ne_eq, not_true_eq_false, Bool.true_eq_false, Bool.not_true, Bool.false_eq_true, if_false, or_self,
      ← hf, handOver_farEnter_farPort]
    exact ⟨trivial, trivial⟩
  · refine congrArg Host.Outcome.next ((onCommand_eq hq ho _).trans ?_)
    have hz' : zeroAt q.params [2, 3] = true := by simp [zeroAt, u8_of_zeroAt hz (k := 2), u8_of_zeroAt hz (k := 3)]
    have hunit : u8 q.params 1 = 0 := u8_of_zeroAt hz (by decide)
    simp only [hp, hlen, hz', hunit, hmode, hlock, ne_eq, not_true_eq_false, Bool.true_eq_false, Bool.false_eq_true, if_false, or_self, if_true]
    exact congrArg₂ (fun a b => State.complete a q .ok b) (onFarPort_congr (by simp [hqueue])) rfl
  · refine ⟨_, next_congr (onCommand_eq hq ho _), ?_⟩
    have hblocks (f : Far) : (s.farPort p).blocks f = false := by simp [FarPort.blocks, hlock, hheddle]
    simp only [hp, hlen, hz, hlock, hsrc, hgroup, hheddle, henters, ne_eq, not_true_eq_false, Bool.true_eq_false, Bool.not_true,
      Bool.false_eq_true, if_false, or_self, handOver_farEnter_farPort, hblocks]
    exact ⟨trivial, trivial⟩
  · refine congrArg Host.Outcome.next ((onCommand_eq hq ho _).trans ?_)
    simp only [hp, hlen, hz, hlock, hsrc, hgroup, hheddle, ne_eq, not_true_eq_false, Bool.true_eq_false, if_false, or_self, if_true]

end Sys2Proof.FarProofs

/-! The drive island's banks and actuators (spec/07): where their obligations ask for more than the island does. -/

namespace Sys2Proof.DriveProofs

open Sys2Proof Sys2Proof.Machine Sys2Proof.Laws

/-! ## A bank without a time to wait -/

/-- AC1 runs, AC2 asks in this instant for the boost switch, which AC3 holds, in a bank whose BANK_DEFER is 0. -/
def asksAtOnce : State :=
  (((State.reset.onEng 0 fun e => { e with run := true }).onEng 1 fun e => { e with run := true, request := some 0 }).onBank 0 fun b =>
    { b with defer := 0, holder := some 2 })

theorem asksAtOnce_due : (asksAtOnce.coil 1).eng.run = true ∧ (asksAtOnce.coil 1).eng.request = some 0 ∧
    0 + (asksAtOnce.bank (acBank 1)).defer * 100 ≤ asksAtOnce.ticks ∧ (asksAtOnce.bank (acBank 1)).holder = some 2 := by decide +kernel

/-- The request waits for the update of the lower-numbered channel first (R201), so nothing expires yet. -/
theorem flagSet_bankDeferExpiry_asksAtOnce : ((opBankDeferExpiry 1 asksAtOnce).coil 1).flagSet 6 = false := by decide +kernel

/-- Refutes O31: with a BANK_DEFER of 0, a request of this instant is not refused while the bank's other channel has not been updated. -/
theorem not_boostRailComplete : ¬ Obligations.BoostRailComplete := by
  intro h
  obtain ⟨-, -, -, -, -, -, hdefer, -⟩ := h
  obtain ⟨hrun, hrequest, hover, hholder⟩ := asksAtOnce_due
  obtain ⟨t, hexec, hflag, -⟩ := hdefer asksAtOnce 1 2 0 hrun hrequest hover hholder (by decide)
  obtain rfl : opBankDeferExpiry 1 asksAtOnce = t := Host.Outcome.next.inj hexec
  rw [flagSet_bankDeferExpiry_asksAtOnce] at hflag
  cases hflag

/-! ## A shared actuator configured while it learns -/

/-- The configuration after reset, but shared by the twin pair. -/
def sharedCfg : AcCfg := { AcCfg.reset with twinShared := true }

/-- AC_CONFIG of AC1 with it. -/
def configCmd : Cmd :=
  { id := 1, src := .can, addr := 0, port := 0, opcode := 0x0303, flags := 0, posted := false, fence := false, tag := 0, group := none,
    session := 0, params := le 4 1 ++ sharedCfg.bytes, accepted := true, stage := .service, msn := 0, mirr := false, begunAt := none }

/-- The command has begun while AC1 runs its program, whose kink was found after 5 µs. -/
def learnsNow : State :=
  (State.reset.onSource 0 fun q => { q with exec := some configCmd }).onEng 0 fun e => { e with run := true, kink := true, tClose := 5 }

theorem learnsNow_due : learnsNow.begun (.ungrouped 0) = some configCmd ∧ (learnsNow.coil 0).cfgClosed = false ∧
    (learnsNow.coil 0).cfg.writeAll (learnsNow.coil (acOther 0)).cfg.iHold (acOffsets.map fun o => (o, u32 configCmd.params (4 + o))) =
      some sharedCfg := by decide +kernel

/-- The module does not lead, so the actuator is released, and the end of the actuation learns its closing time. -/
theorem closeLearned_acConfig_learnsNow : ((opAcConfig (.ungrouped 0) learnsNow).coil 0).closeLearned = 5 := by decide +kernel

/-- Refutes O32: a configuration that makes a running actuator shared releases it, which learns the closing time just cleared. -/
theorem not_actuatorCommandsComplete : ¬ Obligations.ActuatorCommandsComplete := by
  intro h
  obtain ⟨-, -, -, -, -, -, -, -, -, -, -, -, -, -, -, -, -, hconfig, -⟩ := h
  obtain ⟨hbegun, hopen, hcfg⟩ := learnsNow_due
  obtain ⟨t, hexec, -, hlearned, -⟩ := hconfig learnsNow (.ungrouped 0) configCmd 0 sharedCfg hbegun rfl (by decide +kernel) (by decide +kernel)
    (by decide +kernel) hopen hcfg
  obtain rfl : opAcConfig (.ungrouped 0) learnsNow = t := Host.Outcome.next.inj hexec
  rw [closeLearned_acConfig_learnsNow] at hlearned
  cases hlearned

end Sys2Proof.DriveProofs

/-! The switch island's supervision (spec/05): where its obligation asks for more than the island does. -/

namespace Sys2Proof.SupervisionProofs

open Sys2Proof Sys2Proof.Machine

/-- The module enters Sleep and still runs, with channel 1 sleep-held and in an orphan hold whose SAFE_AFTER is over. -/
def entersHeld : State :=
  (State.reset.onPwr fun p => { p with state := .run, entering := true }).onChan 0 fun x =>
    { x with sleepHeld := true, orphan := some { origin := 0, policy := 1, safeAfter := 0, safeValue := false, done := false } }

theorem entersHeld_scanning : entersHeld.scanning = true := by decide +kernel

/-- From the entry into Sleep until the wake SAFE_AFTER of a sleep-held channel is suspended (R159, R160). -/
theorem orphanSafe_orphanSafe_entersHeld : ((opOrphanSafe 0 entersHeld).chan 0).flags.orphanSafe = false := by decide +kernel

/-- Refutes O30: while the module enters Sleep, SAFE_AFTER of a sleep-held channel does not set it to its safe value. -/
theorem not_switchSupervisionComplete : ¬ Obligations.SwitchSupervisionComplete := by
  intro h
  obtain ⟨-, -, -, -, -, -, -, -, -, -, -, hsafe, -⟩ := h
  obtain ⟨t, hexec, -, -, hflag, -⟩ := hsafe entersHeld 0 { origin := 0, policy := 1, safeAfter := 0, safeValue := false, done := false } rfl rfl rfl
    (Nat.zero_mul 1000 ▸ Nat.zero_le _) entersHeld_scanning rfl
  obtain rfl : opOrphanSafe 0 entersHeld = t := Host.Outcome.next.inj hexec
  rw [orphanSafe_orphanSafe_entersHeld] at hflag
  cases hflag

end Sys2Proof.SupervisionProofs

/-! The fault queue (spec/11) and CAN_FILTER (spec/12): where their obligations ask for more than the module does. -/

namespace Sys2Proof.ArrivalProofs

open Sys2Proof Sys2Proof.Machine Sys2Proof.Laws

/-! ## A FAULT word that comes again -/

/-- A FAULT word of the switch island, whose SEQ lies behind the expected 0. -/
def oldWord : FaultWord :=
  { cls := .B, island := 4, code := 0x1001, p0 := 0, p1 := 0, at_ := 0, tick := 0, event := 0, seq := 200, resent := false }

/-- After reset, with that word on its way to the Taproot. -/
def hearsOldWord : State := State.reset.onFlt fun f => { f with words := [oldWord] }

theorem hearsOldWord_due : takeFirst hearsOldWord.flt.words = some (oldWord, []) ∧ hearsOldWord.flt.queue = [] ∧
    hearsOldWord.flt.room oldWord.cls = true := by decide +kernel

/-- A word whose SEQ lies 128 or more ahead of the number expected is one already taken (R59), and is dropped. -/
theorem queue_faultReport_hearsOldWord : (opFaultReport true hearsOldWord).flt.queue = [] := by decide +kernel

/-- Refutes O38: a FAULT word that comes again enters no fault queue, though the queue has room and nothing it merges with. -/
theorem not_faultCommandsComplete : ¬ Obligations.FaultCommandsComplete := by
  intro h
  obtain ⟨hwords, hempty, hroom⟩ := hearsOldWord_due
  obtain ⟨t, e, hexec, hqueue, -⟩ := h.1 hearsOldWord oldWord [] hwords (by simp [hempty]) hroom
  obtain rfl : opFaultReport true hearsOldWord = t := Host.Outcome.next.inj hexec
  rw [queue_faultReport_hearsOldWord, hempty] at hqueue
  cases hqueue

/-! ## CAN_FILTER over CAN -/

/-- CAN_FILTER of five filters of CAN1, in the 44 bytes a CAN packet holds. -/
def filterCmd : Cmd :=
  { id := 1, src := .can, addr := 0, port := 0, opcode := 0x0502, flags := 0, posted := false, fence := false, tag := 0, group := none,
    session := 0, params := [1, 0, 5, 0] ++ List.replicate 40 1, accepted := true, stage := .service, msn := 0, mirr := false, begunAt := none }

/-- The command has begun. -/
def filtersNow : State := State.reset.onSource 4 fun q => { q with exec := some filterCmd }

theorem filtersNow_begun : filtersNow.begun (.ungrouped 4) = some filterCmd := by decide +kernel

/-- Over CAN the command writes four filters at most, so this one is refused (R354). -/
theorem filter_canFilter_filtersNow : (((opCanFilter (.ungrouped 4) filtersNow).canCh 0).filters.get 0).id = 0 := by decide +kernel

/-- Refutes O40: five filters fit the parameters of a CAN packet, and CAN_FILTER still refuses them over CAN. -/
theorem not_canCommandsComplete : ¬ Obligations.CanCommandsComplete := by
  intro h
  obtain ⟨-, hfilter, -⟩ := h
  obtain ⟨t, hexec, hget⟩ := hfilter filtersNow (.ungrouped 4) filterCmd 0 filtersNow_begun rfl (by decide +kernel) (by decide +kernel)
    (by decide +kernel) (by decide +kernel) (by decide +kernel) (by decide +kernel)
  obtain rfl : opCanFilter (.ungrouped 4) filtersNow = t := Host.Outcome.next.inj hexec
  have hid := congrArg Filter.id (hget 0)
  rw [filter_canFilter_filtersNow] at hid
  revert hid
  decide +kernel

end Sys2Proof.ArrivalProofs

/-! The Ethernet switch (spec/14): where its obligation asks for more than the island does. -/

namespace Sys2Proof.EtherProofs

open Sys2Proof Sys2Proof.Machine

/-- A second after reset, with port 1 up, the network island running, and VLANs enabled of which none has a member. -/
def vlanless : State :=
  { ((((State.reset.onPwr fun p => { p with islandUp := Tab.fill 9 true, domains := Tab.fill 10 true }).onClk fun k =>
    { k with settled := true, onPll := Tab.fill 9 true }).onPort 0 fun k => { k with link := .up }).onEth fun e => { e with ctrl := 4 }) with
    now := 1000000 }

theorem vlanless_due : vlanless.etherRuns = true ∧ vlanless.portOpen (PortNo.sw 0) = true ∧
    1000000 ≤ vlanless.since (vlanless.port 0).pdelayAt := by decide +kernel

/-- The port is in no VLAN, so it sends no Pdelay_Req. -/
theorem pdelay_pdelayMeasure_vlanless : ((opPdelayMeasure 0 1 vlanless).port 0).pdelay = 0 := by decide +kernel

/-- Refutes O42: with VLANs enabled, the path delay is measured only on a port that is a member of one. -/
theorem not_ethernetComplete : ¬ Obligations.EthernetComplete := by
  intro h
  obtain ⟨-, -, -, -, -, -, -, hdelay, -⟩ := h
  obtain ⟨hruns, hopen, hdue⟩ := vlanless_due
  obtain ⟨t, hexec, hpdelay, -⟩ := hdelay vlanless 0 1 hruns hopen hdue
  obtain rfl : opPdelayMeasure 0 1 vlanless = t := Host.Outcome.next.inj hexec
  rw [pdelay_pdelayMeasure_vlanless] at hpdelay
  cases hpdelay

end Sys2Proof.EtherProofs

/-! Objects of one kind (spec/05): where their obligation asks for more than the switch island does. -/

namespace Sys2Proof.ObjectProofs

open Sys2Proof Sys2Proof.Machine

/-- A channel in PWM that AUTO_PHASE places. -/
def placed (x : Chan) : Chan := { x with owner := .host, mode := .pwm, cfg := { x.cfg with autoPhase := true } }

/-- Channels 1 and 2 share a clock group by AUTO_PHASE, and channel 1 is in an orphan hold whose SAFE_AFTER is over. -/
def sharesGroup : State :=
  ((State.reset.onPwr fun p => { p with state := .run }).onChan 0 fun x =>
    { placed x with orphan := some { origin := 0, policy := 1, safeAfter := 0, safeValue := false, done := false } }).onChan 1 fun x =>
      { placed x with phase := 512 }

theorem autoPend_sharesGroup : (sharesGroup.chan 1).wave.autoPend = none := by decide +kernel

/-- Channel 1 goes off, so AUTO_PHASE moves channel 2 to the first place (R145). -/
theorem autoPend_orphanSafe_sharesGroup : ((opOrphanSafe 0 sharesGroup).chan 1).wave.autoPend = some 0 := by decide +kernel

/-- Refutes O58: a channel that goes to its safe value leaves its clock group, and AUTO_PHASE then places the others of the group anew. -/
theorem not_otherObjectsKept : ¬ Obligations.OtherObjectsKept := by
  intro h
  obtain ⟨hchan, -⟩ := h sharesGroup (opOrphanSafe 0 sharesGroup)
  have hkept := congrArg (fun x : Chan => x.wave.autoPend) (hchan 0 1 0 0 0 0 (by decide) (.orphanSafe 0) (by simp) rfl)
  rw [autoPend_orphanSafe_sharesGroup, autoPend_sharesGroup] at hkept
  cases hkept

end Sys2Proof.ObjectProofs

/-! The bobbin engines (spec/08): what an instruction leaves in its engine, and the error of an update that does not stop. -/

namespace Sys2Proof.BobbinProofs

open Sys2Proof Sys2Proof.Machine Sys2Proof.Laws Sys2Proof.ReplyProofs

variable {s : State}

theorem bits_lt (w lo n : Nat) : bits w lo n < 2 ^ n := Nat.mod_lt _ (Nat.two_pow_pos n)

@[simp] theorem eng_onEng (s : State) (c : AcNo) (f : Engine → Engine) : ((s.onEng c f).coil c).eng = f (s.coil c).eng :=
  congrArg Coil.eng (coil_onCoil s c _)

@[simp] theorem eng_bobNext (s : State) (c : AcNo) : ((s.bobNext c).coil c).eng = { (s.coil c).eng with pc := ((s.coil c).eng.pc + 1) % 64 } :=
  eng_onEng s c _

@[simp] theorem eng_bobJump (s : State) (c : AcNo) (n : Nat) : ((s.bobJump c n).coil c).eng = { (s.coil c).eng with pc := n % 64 } :=
  eng_onEng s c _

/-! ## The error code stays to the end of the program -/

@[simp] theorem coil_dropBoost (s : State) (b c : AcNo) : (s.dropBoost b).coil c = s.coil c := rfl

theorem onCoil_error (s : State) (c : AcNo) (f : Coil → Coil) (hf : ∀ x, (f x).eng.error = x.eng.error) :
    ((s.onCoil c f).coil c).eng.error = (s.coil c).eng.error := by
  rw [coil_onCoil, hf]

theorem settle_error (s : State) (c : AcNo) : ((s.settle c).coil c).eng.error = (s.coil c).eng.error := by
  unfold State.settle
  refine onCoil_error s c _ fun x => ?_
  split
  · split <;> rfl
  · split <;> rfl

theorem learnClose_error (x : Coil) : x.learnClose.eng.error = x.eng.error := by
  unfold Coil.learnClose
  split
  · rfl
  · split <;> rfl

theorem stop_error (x : Coil) (rest : Phase) : (x.stop rest).eng.error = x.eng.error := by
  unfold Coil.stop
  split
  · exact learnClose_error x
  · rfl

theorem replied_error {t : State} (h : Replied s t) (c : AcNo) : (t.coil c).eng.error = (s.coil c).eng.error := by
  rw [h.drv.coil_eq c]

theorem endFire_error (s : State) (c : AcNo) (st : Status) (outcome detail diag : Nat) :
    ((s.endFire c st outcome detail diag).coil c).eng.error = (s.coil c).eng.error := by
  unfold State.endFire
  split
  · rfl
  · exact (replied_error (completeId_replied _ _ _ _ _) c).trans (onCoil_error s c _ fun _ => rfl)

theorem acRelease_error (s : State) (c : AcNo) : ((s.acRelease c .program).coil c).eng.error = (s.coil c).eng.error := by
  unfold State.acRelease
  extract_lets x ph rest s₁ s₂
  split
  · have hstop : (s₂.coil c).eng.error = (s₁.coil c).eng.error := by
      refine onCoil_error s₁ c _ fun x => ?_
      cases ph
      all_goals exact stop_error x rest
    exact (endFire_error _ _ _ _ _ _).trans ((settle_error s₂ c).trans hstop)
  · rfl

theorem acOrphanMark_error (s : State) (c : AcNo) : ((s.acOrphanMark c).coil c).eng.error = (s.coil c).eng.error := by
  unfold State.acOrphanMark
  split
  · rfl
  · exact (congrArg (fun x : Coil => x.eng.error) (congrArg (fun d : Drive => d.acts.get c)
      ((record_keeps (m := [.rcd]) (by decide) (keeps_refl _ _)).only.same .drv (by decide)))).trans
      (onCoil_error s c _ fun _ => rfl)

theorem programEnd_error (s : State) (c : AcNo) : ((s.programEnd c .program).coil c).eng.error = (s.coil c).eng.error := by
  unfold State.programEnd
  extract_lets s₁
  split
  · split
    · exact (acOrphanMark_error s₁ c).trans (acRelease_error s c)
    · exact acRelease_error s c
  · exact acRelease_error s c

theorem bobError_error (s : State) (c : AcNo) (code : Nat) : ((s.bobError c code).coil c).eng.error = code := by
  unfold State.bobError
  extract_lets s₁ s₂
  have hflt : s₂.coil c = s₁.coil c := congrArg (fun d : Drive => d.acts.get c)
    ((fault_keeps (m := [.rcd, .flt]) (by decide) (keeps_refl _ s₁)).only.same .drv (by decide))
  rw [programEnd_error, hflt]
  exact congrArg Engine.error (eng_onEng s c _)

/-! ## The instructions -/

section
variable {c : AcNo} {k : Taken} {w : Nat}

theorem bobStep_ldi (hw : w = s.bobWord (s.coil c).eng.program.1 (s.coil c).eng.pc) (hop : bits w 26 6 = 0x01) (himm : bit w 22 = false) :
    s.bobStep c k = (.next, (s.onEng c fun e => { e with v := e.v.put ⟨bits w 23 3, bits_lt w 23 3⟩ (bits w 0 20) }).bobNext c) := by
  unfold State.bobStep
  simp only [← hw, hop, himm, Bool.false_eq_true, if_false, Nat.mod_eq_of_lt (bits_lt w 0 20)]

theorem bobStep_jmp (hw : w = s.bobWord (s.coil c).eng.program.1 (s.coil c).eng.pc) (hop : bits w 26 6 = 0x07) :
    s.bobStep c k = (.next, s.bobJump c (bits w 0 6)) := by
  unfold State.bobStep
  simp only [← hw, hop]

theorem bobStep_loop (hw : w = s.bobWord (s.coil c).eng.program.1 (s.coil c).eng.pc) (hop : bits w 26 6 = 0x0D) (hc : bit w 25 = false)
    (hn : 1 < (s.coil c).eng.c.get 0) :
    s.bobStep c k = (.next, (s.onEng c fun e => { e with c := e.c.put 0 ((s.coil c).eng.c.get 0 - 1) }).bobJump c (bits w 0 6)) := by
  unfold State.bobStep
  simp only [← hw, hop, hc, Bool.false_eq_true, if_false, if_neg (by omega : (s.coil c).eng.c.get 0 ≠ 0),
    if_neg (by omega : (s.coil c).eng.c.get 0 ≠ 1)]

theorem bobStep_wait (hw : w = s.bobWord (s.coil c).eng.program.1 (s.coil c).eng.pc) (hop : bits w 26 6 = 0x05) :
    s.bobStep c k = if s.bobCond c k w then (.next, s.bobNext c) else (.wait, s) := by
  unfold State.bobStep
  simp only [← hw, hop]

theorem bobStep_jc (hw : w = s.bobWord (s.coil c).eng.program.1 (s.coil c).eng.pc) (hop : bits w 26 6 = 0x06) :
    s.bobStep c k = (.next, if s.bobCond c k w != bit w 11 then s.bobJump c (bits w 0 6) else s.bobNext c) := by
  unfold State.bobStep
  simp only [← hw, hop]

theorem bobStep_mark (hw : w = s.bobWord (s.coil c).eng.program.1 (s.coil c).eng.pc) (hop : bits w 26 6 = 0x08) :
    s.bobStep c k = (.next, (s.onEng c fun e => { e with m := e.m.put ⟨bits w 0 2, bits_lt w 0 2⟩ s.ticks }).bobNext c) := by
  unfold State.bobStep
  simp only [← hw, hop]

end

/-- Settles O33, one instruction at a time. -/
theorem bobbinInstructions : Obligations.BobbinInstructions := by
  intro s c k w hw
  have hpc : bits w 0 6 % 64 = bits w 0 6 := Nat.mod_eq_of_lt (bits_lt w 0 6)
  refine ⟨?_, ?_, ?_, ?_, ?_, ?_, ?_, bobError_error s c 1⟩
  · intro hop himm
    rw [bobStep_ldi hw hop himm]
    refine ⟨rfl, ⟨bits w 23 3, bits_lt w 23 3⟩, rfl, ?_, fun y hy => ?_⟩
    · simp [Tab.get_put_self]
    · simpa using Tab.get_put_ne (s.coil c).eng.v _ hy
  · intro hop
    rw [bobStep_jmp hw hop]
    exact ⟨rfl, by rw [eng_bobJump, hpc]⟩
  · intro hop hc hn
    rw [bobStep_loop hw hop hc hn]
    refine ⟨rfl, by rw [eng_bobJump, hpc], ?_⟩
    rw [eng_bobJump, eng_onEng]
    exact Tab.get_put_self _ _ _
  · intro hop hcond
    rw [bobStep_wait hw hop, hcond]
    rfl
  · intro hop hcond
    rw [bobStep_wait hw hop, hcond]
    exact ⟨rfl, eng_bobNext s c⟩
  · intro hop
    rw [bobStep_jc hw hop]
    refine ⟨rfl, ?_⟩
    cases s.bobCond c k w <;> cases bit w 11
    all_goals simp [hpc]
  · intro hop
    rw [bobStep_mark hw hop]
    refine ⟨rfl, ⟨bits w 0 2, bits_lt w 0 2⟩, rfl, ?_⟩
    simp [Tab.get_put_self]

end Sys2Proof.BobbinProofs

/-! The protection of the load-switch channels (spec/05, spec/06): trips, pauses, restarts and open loads. -/

namespace Sys2Proof.ProtectionProofs

open Sys2Proof Sys2Proof.Machine Sys2Proof.Laws

variable {s : State}

/-! ## Rules of the operations -/

@[simp] theorem chan_record (s : State) (code source p0 p1 p2 : Nat) (c : ChNo) : (s.record code source p0 p1 p2).chan c = s.chan c := rfl

@[simp] theorem now_record (s : State) (code source p0 p1 p2 : Nat) : (s.record code source p0 p1 p2).now = s.now := rfl

@[simp] theorem chan_fault (s : State) (k : Cls) (island code p0 p1 p2 : Nat) (c : ChNo) :
    (s.fault k island code p0 p1 p2).chan c = s.chan c :=
  congrArg (fun w : Switch => w.chans.get c) ((fault_keeps (m := [.rcd, .flt]) (by decide) (keeps_refl _ s)).only.same .sw (by decide))

@[simp] theorem now_onChan (s : State) (c : ChNo) (f : Chan → Chan) : (s.onChan c f).now = s.now := rfl

/-- A fault's word does not look at the channels. -/
theorem onChan_fault_flt (s : State) (c : ChNo) (f : Chan → Chan) (k : Cls) (island code p0 p1 p2 : Nat) :
    ((s.onChan c f).fault k island code p0 p1 p2).flt = (s.fault k island code p0 p1 p2).flt := rfl

/-- Neither does a record. -/
theorem onChan_record_rcd (s : State) (c : ChNo) (f : Chan → Chan) (code source p0 p1 p2 : Nat) :
    ((s.onChan c f).record code source p0 p1 p2).rcd = (s.record code source p0 p1 p2).rcd := rfl

/-! ## A trip (R168 to R172) -/

/-- What a trip asks of the channel, with the channel as it was and as it is: `Tripped` of the model. -/
def TrippedChan (x y : Chan) (now : Nat) (current : Bool) : Prop :=
  let n := min 15 (x.trips + 1)
  let limit := max 1 x.cfg.retryN
  y.output = false ∧ y.trips = n ∧ y.normalAt = now ∧
  y.counts.trips = (if current then satAdd 0xFFFFFFFF x.counts.trips 1 else x.counts.trips) ∧
  (limit ≤ n → y.prot = .latched ∧ y.mode = x.mode) ∧
  (n < limit → x.mode = .pulse → y.prot = x.prot ∧ y.mode = .off) ∧
  (n < limit → x.mode ≠ .pulse →
    y.prot = .pause (now + min (max 1 x.cfg.p0Ms * 2 ^ (n - 1)) 10000 * 1000) ∧ y.mode = x.mode)

theorem tripped_iff (s t : State) (c : ChNo) (current : Bool) : Tripped s t c current ↔ TrippedChan (s.chan c) (t.chan c) s.now current := Iff.rfl

/-- The channel that has tripped, its flag set. -/
def tripNow (x : Chan) (now : Nat) (current : Bool) (f : ChFlags → ChFlags) : Chan :=
  { x.switchOff now with
    trips := min 15 (x.trips + 1)
    normalAt := now
    overRun := 0
    counts := if current then { x.counts with trips := satAdd 0xFFFFFFFF x.counts.trips 1 } else x.counts
    flags := f x.flags }

/-- What follows for it: latched, ended or paused. -/
def tripEnd (x : Chan) (now : Nat) : Chan :=
  if max 1 x.cfg.retryN ≤ x.trips then { x with prot := .latched }
  else if x.mode = .pulse then { x with mode := .off, run := { x.run with segment := 0 }, ol := { x.ol with offFrom := now } }
  else { x with prot := .pause (now + min (max 1 x.cfg.p0Ms * 2 ^ (x.trips - 1)) 10000 * 1000) }

theorem chan_countTrip (s : State) (c : ChNo) (current : Bool) (f : ChFlags → ChFlags) :
    ((s.countTrip c current).onChan c fun x => { x with flags := f x.flags }).chan c = tripNow (s.chan c) s.now current f := by
  simp only [State.countTrip, chan_onChan]
  rfl

theorem chan_afterTrip (s : State) (c : ChNo) : (s.afterTrip c).chan c = tripEnd (s.chan c) s.now := by
  unfold State.afterTrip tripEnd
  dsimp only
  split
  · rw [chan_fault, chan_onChan]
  · split
    · rw [chan_onChan]
    · rw [chan_onChan]

theorem trippedChan_tripEnd (x : Chan) (now : Nat) (current : Bool) (f : ChFlags → ChFlags) :
    TrippedChan x (tripEnd (tripNow x now current f) now) now current := by
  have hcounts : (tripNow x now current f).counts.trips = if current then satAdd 0xFFFFFFFF x.counts.trips 1 else x.counts.trips := by
    cases current <;> rfl
  unfold tripEnd
  split
  next hlatch => exact ⟨rfl, rfl, rfl, hcounts, fun _ => ⟨rfl, rfl⟩, fun h => absurd hlatch (Nat.not_le.mpr h), fun h => absurd hlatch (Nat.not_le.mpr h)⟩
  next hgoes =>
    split
    next hpulse =>
      exact ⟨rfl, rfl, rfl, hcounts, fun h => absurd h hgoes, fun _ _ => ⟨rfl, rfl⟩, fun _ h => absurd hpulse h⟩
    next hpulse =>
      exact ⟨rfl, rfl, rfl, hcounts, fun h => absurd h hgoes, fun _ h => absurd h hpulse, fun _ _ => ⟨rfl, rfl⟩⟩

theorem tripEnd_flags (x : Chan) (now : Nat) : (tripEnd x now).flags = x.flags := by
  unfold tripEnd
  split
  · rfl
  · split <;> rfl

theorem tripEnd_meas (x : Chan) (now : Nat) : (tripEnd x now).meas = x.meas := by
  unfold tripEnd
  split
  · rfl
  · split <;> rfl

/-- A trip of the channel: counted, flagged, recorded, and what follows. -/
def tripOf (s : State) (c : ChNo) (current : Bool) (f : ChFlags → ChFlags) (code p1 : Nat) : State :=
  let t := (s.countTrip c current).onChan c fun x => { x with flags := f x.flags }
  (t.record code 4 (chNum c) (t.chan c).trips p1).afterTrip c

theorem chan_tripOf (s : State) (c : ChNo) (current : Bool) (f : ChFlags → ChFlags) (code p1 : Nat) :
    (tripOf s c current f code p1).chan c = tripEnd (tripNow (s.chan c) s.now current f) s.now := by
  unfold tripOf
  extract_lets t
  rw [chan_afterTrip, chan_record]
  exact congrArg (tripEnd · s.now) (chan_countTrip s c current f)

theorem tripOf_tripped (s : State) (c : ChNo) (current : Bool) (f : ChFlags → ChFlags) (code p1 : Nat) :
    Tripped s (tripOf s c current f code p1) c current := by
  rw [tripped_iff, chan_tripOf]
  exact trippedChan_tripEnd ..

theorem tripOf_flags (s : State) (c : ChNo) (current : Bool) (f : ChFlags → ChFlags) (code p1 : Nat) :
    ((tripOf s c current f code p1).chan c).flags = f (s.chan c).flags := by
  rw [chan_tripOf, tripEnd_flags]
  rfl

theorem opShortTrip_awake {c : ChNo} {mA : Nat} (hout : (s.chan c).output = true) (hover : (swClass c).shortTrip < mA)
    (hawake : s.pwr.state ≠ .sleep) : opShortTrip c mA s = tripOf s c true (fun f => { f with short := true }) 0x1012 mA := by
  have hno : ¬ mA ≤ (swClass c).shortTrip := by omega
  simp only [opShortTrip, Chan.armed, hout, hno, hawake, Bool.not_true, decide_false, Bool.or_false, Bool.false_eq_true, if_false]
  rfl

theorem opShortTrip_asleep {c : ChNo} {mA : Nat} (hout : (s.chan c).output = true) (hover : (swClass c).shortTrip < mA)
    (hasleep : s.pwr.state = .sleep) : opShortTrip c mA s = s.sleepTrip c false mA := by
  have hno : ¬ mA ≤ (swClass c).shortTrip := by omega
  simp only [opShortTrip, Chan.armed, hout, hno, hasleep, Bool.not_true, decide_false, Bool.or_false, Bool.false_eq_true, if_false, if_true]

theorem opOvercurrentTrip_of_due {c : ChNo} (hout : (s.chan c).output = true) (hrun : 4 ≤ (s.chan c).overRun) (hscan : s.scanning = true) :
    opOvercurrentTrip c s = tripOf s c true (fun f => { f with overcurrent := true }) 0x1013 (s.limit c) := by
  have hno : ¬ (s.chan c).overRun < 4 := by omega
  simp only [opOvercurrentTrip, hout, hno, hscan, Bool.not_true, decide_false, Bool.or_false, Bool.false_eq_true, if_false]
  rfl

/-- The junction temperature is noted first. -/
def heated (s : State) (c : ChNo) (tj : Int) : State := s.onChan c fun x => { x with meas := { x.meas with tj := tj } }

theorem chan_heated (s : State) (c : ChNo) (tj : Int) : (heated s c tj).chan c = { s.chan c with meas := { (s.chan c).meas with tj := tj } } :=
  chan_onChan ..

theorem opThermalShutdown_awake {c : ChNo} {tj : Int} (hhot : 1700 ≤ tj) (hout : (s.chan c).output = true) (hawake : s.pwr.state ≠ .sleep) :
    opThermalShutdown c tj s = tripOf (heated s c tj) c false (fun f => { f with thermal := true }) 0x1014 (sgn tj) := by
  have hno : ¬ tj < 1700 := by omega
  have harmed : ((heated s c tj).chan c).armed = true := (congrArg Chan.armed (chan_heated s c tj)).trans hout
  have hstate : (heated s c tj).pwr.state ≠ .sleep := hawake
  unfold opThermalShutdown
  rw [← heated]
  simp only [hno, harmed, hstate, Bool.true_eq_false, or_self, if_false]
  rfl

theorem chan_sleepTrip (s : State) (c : ChNo) (reading : Nat) :
    (s.sleepTrip c false reading).chan c =
      { tripNow (s.chan c) s.now true (fun f => { f with sleepTrip := true, short := true }) with prot := .latched, tripDue := some 0 } := by
  simp only [State.sleepTrip, State.countTrip, chan_fault, chan_record, chan_onChan, Bool.not_false, Bool.or_true, Bool.or_false]
  rfl

/-! ## The end of a pause (R173, R174) -/

/-- A channel without the phase the generator gives it. -/
def restPhase (x : Chan) : Chan := { x with wave := { x.wave with autoPend := none } }

theorem forEach_chan {α β : Type} {f : α → State → State} {c : ChNo} (g : Chan → β) (hf : ∀ x t, g ((f x t).chan c) = g (t.chan c)) (l : List α)
    (s : State) : g ((s.forEach l f).chan c) = g (s.chan c) := by
  induction l generalizing s with
  | nil => rfl
  | cons x l ih => exact (ih (f x s)).trans (hf x s)

theorem autoPhase_chan (s : State) (g : Fin 4) (c : ChNo) : restPhase ((s.autoPhase g).chan c) = restPhase (s.chan c) := by
  unfold State.autoPhase
  refine forEach_chan restPhase (fun x t => ?_) _ s
  obtain ⟨k, d⟩ := x
  by_cases hd : c = d
  · subst hd
    dsimp only
    rw [chan_onChan]
    split <;> rfl
  · exact congrArg restPhase (chan_onChan_ne _ _ hd)

theorem rephase_chan (s : State) (before : List (ChNo × Fin 4)) (c : ChNo) : restPhase ((s.rephase before).chan c) = restPhase (s.chan c) := by
  unfold State.rephase
  dsimp only
  split
  · rfl
  · refine forEach_chan restPhase (fun g t => ?_) _ s
    split
    · rfl
    · exact autoPhase_chan t g c

/-- What a restart leaves in its channel. -/
def Restarted (x y : Chan) (now : Nat) : Prop :=
  y.prot = .normal ∧ y.onAt = now ∧ y.counts.switches = satAdd 0xFFFFFFFF x.counts.switches 1 ∧ (x.mode = .on → y.output = true)

theorem Restarted.of_restPhase {x y z : Chan} {now : Nat} (h : Restarted x y now) (hz : restPhase z = restPhase y) : Restarted x z now := by
  obtain ⟨hprot, hat, hcount, hout⟩ := h
  exact ⟨(congrArg Chan.prot hz).trans hprot, (congrArg Chan.onAt hz).trans hat, (congrArg (fun x : Chan => x.counts.switches) hz).trans hcount,
    fun hm => (congrArg Chan.output hz).trans (hout hm)⟩

/-- The wave of a mode begins without a change of protection, switch-on time or counts. -/
theorem Restarted.of_wave {x y z : Chan} {now : Nat} (h : y.prot = .normal ∧ y.onAt = now ∧ y.counts.switches = satAdd 0xFFFFFFFF x.counts.switches 1)
    (hprot : z.prot = y.prot) (hat : z.onAt = y.onAt) (hcount : z.counts = y.counts) (hout : x.mode = .on → z.output = true) : Restarted x z now :=
  ⟨hprot.trans h.1, hat.trans h.2.1, (congrArg ChCounts.switches hcount).trans h.2.2, hout⟩

theorem restart_restarted {c : ChNo} (h : profValid (s.profile (s.chan c).cfg.profile) = true) : Restarted (s.chan c) ((s.restart c).chan c) s.now := by
  unfold State.restart
  extract_lets x p base before s₁ s₂ period
  rw [if_pos h]
  have hs₂ : s₂.chan c = ({ x with prot := .normal, normalAt := s.now } : Chan).switchOn (u8 p 0) s.now := by
    simp only [s₂, s₁, chan_onChan]
    rfl
  have hmode : (s₂.chan c).mode = x.mode := by rw [hs₂]; rfl
  have hon : (s₂.chan c).prot = .normal ∧ (s₂.chan c).onAt = s.now ∧ (s₂.chan c).counts.switches = satAdd 0xFFFFFFFF x.counts.switches 1 := by
    rw [hs₂]
    exact ⟨rfl, rfl, rfl⟩
  refine Restarted.of_restPhase ?_ (rephase_chan _ _ c)
  rw [chan_onChan]
  cases hm : (s₂.chan c).mode
  case on => exact .of_wave hon rfl rfl rfl fun _ => by simp only [Chan.drive, hon.1, decide_true, Bool.and_true]
  all_goals exact .of_wave hon rfl rfl rfl fun h => absurd (hm.symm.trans (hmode.trans h)) (by decide)

theorem heated_restarted {c : ChNo} {tj : Int} (h : profValid (s.profile (s.chan c).cfg.profile) = true) :
    Restarted (s.chan c) (((heated s c tj).restart c).chan c) s.now := by
  have hprofile : profValid ((heated s c tj).profile ((heated s c tj).chan c).cfg.profile) = true := by
    rw [chan_heated]
    exact h
  have hrest := restart_restarted hprofile
  rw [chan_heated] at hrest
  exact hrest

theorem opPauseExpiry_of_due {c : ChNo} {tj : Int} {e : Nat} (hp : (s.chan c).prot = .pause e) (hdue : e ≤ s.now) (hscan : s.scanning = true) :
    opPauseExpiry c tj s =
      if tj < 1450 then (heated s c tj).restart c else (heated s c tj).onChan c fun x => { x with prot := .thermalWait s.now } := by
  have hno : ¬ s.now < e := by omega
  simp only [opPauseExpiry, hp, hno, hscan, Bool.not_true, decide_false, Bool.or_false, Bool.false_eq_true, if_false]
  rfl

theorem opCoolingRestart_of_cool {c : ChNo} {tj : Int} {e : Nat} (hp : (s.chan c).prot = .thermalWait e) (hsoon : s.since e < 60000000)
    (hscan : s.scanning = true) (hcool : tj < 1450) : opCoolingRestart c tj s = (heated s c tj).restart c := by
  have hhot : ¬ (1450 : Int) ≤ tj := by omega
  have hlate : ¬ 60000000 ≤ (heated s c tj).since e := Nat.not_le.mpr hsoon
  simp only [opCoolingRestart, hp, hscan, hhot, Bool.not_true, Bool.false_eq_true, if_false]
  exact if_neg hlate

theorem opCoolingLimit_of_due {c : ChNo} {e : Nat} (hp : (s.chan c).prot = .thermalWait e) (hlate : 60000000 ≤ s.since e)
    (hscan : s.scanning = true) : opCoolingLimit c s = s.coolingLatch c := by
  have hno : ¬ s.since e < 60000000 := by omega
  simp only [opCoolingLimit, hp, hno, hscan, Bool.not_true, decide_false, Bool.or_false, Bool.false_eq_true, if_false]

/-! ## Open loads (R175, R177 to R180) -/

theorem opOpenLoadOnDetect_of_due {c : ChNo} {a : Nat} (hsince : (s.chan c).ol.since = some a) (ht : (s.chan c).cfg.olThresh ≠ 0)
    (hopen : (s.chan c).ol.onOpen = false) (hcount : 8 ≤ (s.chan c).ol.counted) (htime : (s.chan c).cfg.olTime * 1000 ≤ s.since a)
    (hscan : s.scanning = true) :
    opOpenLoadOnDetect c s = (s.onChan c fun x =>
      { x with flags := { x.flags with openLoadOn := true }, ol := { x.ol with onOpen := true } }).record 0x1016 4 (chNum c) 0 (s.chan c).ol.last := by
  have hcount' : ¬ (s.chan c).ol.counted < 8 := by omega
  have htime' : ¬ s.since a < (s.chan c).cfg.olTime * 1000 := by omega
  simp only [opOpenLoadOnDetect, hsince, ht, hopen, hcount', htime', hscan, Bool.false_eq_true, Bool.true_eq_false, or_self, if_false]

theorem opLoadReturnedOn_of_due {c : ChNo} {a : Nat} (hback : (s.chan c).ol.back = some a) (hopen : (s.chan c).ol.onOpen = true)
    (htime : (s.chan c).cfg.olTime * 1000 ≤ s.since a) (ht : (s.chan c).cfg.olThresh ≠ 0) (hscan : s.scanning = true) :
    opLoadReturnedOn c s = (s.onChan c fun x => { x with ol := { x.ol with onOpen := false } }).record 0x1018 4 (chNum c) 0 0 := by
  have htime' : ¬ s.since a < (s.chan c).cfg.olTime * 1000 := by omega
  simp only [opLoadReturnedOn, hback, ht, hopen, htime', hscan, Bool.true_eq_false, or_self, if_false]

/-- Settles O29, one event at a time. -/
theorem switchProtectionComplete : Obligations.SwitchProtectionComplete := by
  refine ⟨?short, ?asleep, ?current, ?thermal, ?pause, ?wait, ?restart, ?latch, ?window, ?openOn, ?backOn, ?openOff, ?backOff⟩
  case short =>
    intro s c mA hout hover hawake
    exact ⟨_, congrArg Host.Outcome.next (opShortTrip_awake hout hover hawake), tripOf_tripped .., by rw [tripOf_flags]⟩
  case asleep =>
    intro s c mA hout hover hasleep
    refine ⟨_, congrArg Host.Outcome.next (opShortTrip_asleep hout hover hasleep), ?_⟩
    rw [chan_sleepTrip]
    exact ⟨rfl, rfl, rfl, rfl, rfl, rfl⟩
  case current =>
    intro s c hout hrun hscan
    exact ⟨_, congrArg Host.Outcome.next (opOvercurrentTrip_of_due hout hrun hscan), tripOf_tripped .., by rw [tripOf_flags]⟩
  case thermal =>
    intro s c tj hhot hout hawake
    refine ⟨_, congrArg Host.Outcome.next (opThermalShutdown_awake hhot hout hawake), ?_, by rw [tripOf_flags], ?_⟩
    · have h := tripOf_tripped (heated s c tj) c false (fun f => { f with thermal := true }) 0x1014 (sgn tj)
      rw [tripped_iff, chan_heated] at h
      exact h
    · rw [chan_tripOf, tripEnd_meas, chan_heated]
      rfl
  case pause =>
    intro s c tj e hp hdue hscan hcool hprofile
    exact ⟨_, congrArg Host.Outcome.next ((opPauseExpiry_of_due hp hdue hscan).trans (if_pos hcool)), heated_restarted hprofile⟩
  case wait =>
    intro s c tj e hp hdue hscan hhot
    refine ⟨_, congrArg Host.Outcome.next ((opPauseExpiry_of_due hp hdue hscan).trans (if_neg (Int.not_lt.mpr hhot))), ?_⟩
    rw [chan_onChan]
  case restart =>
    intro s c tj e hp hsoon hscan hcool hprofile
    exact ⟨_, congrArg Host.Outcome.next (opCoolingRestart_of_cool hp hsoon hscan hcool), heated_restarted hprofile⟩
  case latch =>
    intro s c e hp hlate hscan
    refine ⟨_, congrArg Host.Outcome.next (opCoolingLimit_of_due hp hlate hscan), ?_, onChan_fault_flt ..⟩
    rw [State.coolingLatch, chan_fault, chan_onChan]
  case window =>
    intro s c hp hdue
    refine ⟨_, congrArg Host.Outcome.next (if_pos ⟨hp, hdue⟩), ?_⟩
    rw [chan_onChan]
  case openOn =>
    intro s c a hsince ht hopen hcount htime hscan
    refine ⟨_, congrArg Host.Outcome.next (opOpenLoadOnDetect_of_due hsince ht hopen hcount htime hscan), ?_, ?_, onChan_record_rcd ..⟩
    · rw [chan_record, chan_onChan]
    · rw [chan_record, chan_onChan]
  case backOn =>
    intro s c a hback hopen htime ht hscan
    refine ⟨_, congrArg Host.Outcome.next (opLoadReturnedOn_of_due hback hopen htime ht hscan), ?_, onChan_record_rcd ..⟩
    rw [chan_record, chan_onChan]
  case openOff =>
    intro s c mv hdetects hopen hmv
    have hdue : (s.offDetects c && !(s.chan c).ol.offOpen && decide (3600 < mv)) = true := by simp [hdetects, hopen, hmv]
    refine ⟨_, congrArg Host.Outcome.next (if_pos hdue), ?_, ?_, onChan_record_rcd ..⟩
    · rw [chan_record, chan_onChan]
    · rw [chan_record, chan_onChan]
  case backOff =>
    intro s c mv hdetects hopen hmv
    have hdue : (s.offDetects c && (s.chan c).ol.offOpen && decide (mv < 4400)) = true := by simp [hdetects, hopen, hmv]
    refine ⟨_, congrArg Host.Outcome.next (if_pos hdue), ?_, onChan_record_rcd ..⟩
    rw [chan_record, chan_onChan]

end Sys2Proof.ProtectionProofs

/-! A word in order at the head of a shuttle link: what its receiver takes (R60, R63). -/

namespace Sys2Proof.ReceiveProofs

open Sys2Proof Sys2Proof.Machine Sys2Proof.Laws Sys2Proof.WarpProofs

variable {s : State} {k : LinkNo} {typ : Nat} {w : ShWord}

/-- The link once its first word has left and the word that waits, if any, has followed. -/
def Link.taken (l : Link) (w : ShWord) : Link := { { l with fly := l.fly.tail }.refill with rxSeq := (w.seq + 1) % 256 }

/-- The state in which the word has been taken and acknowledged. -/
def received (s : State) (k : LinkNo) (w : ShWord) : State := (s.onLink k fun l => Link.taken l w).acknowledge k

theorem takeAcks_of_counts {rest : List ShWord} (hfly : (s.link k).fly = w :: rest) (hcounts : w.counts = true) : s.takeAcks k = s := by
  have hstep : s.ackArrive k true = s := by simp only [State.ackArrive, hfly, hcounts, if_true]
  have hall (l : List Nat) : (s.forEach l fun _ s => s.ackArrive k true) = s := by
    induction l with
    | nil => rfl
    | cons n l ih => exact (congrArg (fun t : State => t.forEach l fun _ s => s.ackArrive k true) hstep).trans ih
  exact hall _

theorem refill_rxSeq (l : Link) : l.refill.rxSeq = l.rxSeq := by
  unfold Link.refill
  split
  · rfl
  · split <;> rfl

theorem onLink_onLink (s : State) (k : LinkNo) (f g : Link → Link) : (s.onLink k f).onLink k g = s.onLink k fun l => g (f l) := by
  have hupd (l : Tab Link 23) : (l.upd k f).upd k g = l.upd k fun x => g (f x) := by
    refine FarProofs.tab_ext fun i => ?_
    by_cases hi : i = k
    · subst hi
      simp only [Tab.get_upd_self]
    · simp only [Tab.get_upd_ne _ _ hi]
  exact congrArg (fun l => ({ s with links := l } : State)) (hupd s.links)

/-- A word in order, unhurt and of the type its receiver waits for, is taken. -/
theorem receiveWord_of_wordAt (hw : WordAt s k typ w) (htyp : typ ≠ tyAck) : s.receiveWord k typ true = (some w.payload, received s k w) := by
  obtain ⟨hhead, rfl, hseq, hgood⟩ := hw
  obtain ⟨rest, hfly⟩ : ∃ rest, (s.link k).fly = w :: rest := List.head?_eq_some_iff.1 hhead
  have hcounts : w.counts = true := by simpa [ShWord.counts] using htyp
  have htail : (s.onLink k fun l => { l with fly := rest }.refill) = s.onLink k fun l => { l with fly := l.fly.tail }.refill := by
    have hlink : (s.links.upd k fun l => { l with fly := rest }.refill) = s.links.upd k fun l => { l with fly := l.fly.tail }.refill := by
      refine FarProofs.tab_ext fun i => ?_
      by_cases hi : i = k
      · subst hi
        have hfly' : (s.links.get i).fly = w :: rest := hfly
        simp only [Tab.get_upd_self, hfly', List.tail_cons]
      · simp only [Tab.get_upd_ne _ _ hi]
    exact congrArg (fun l => ({ s with links := l } : State)) hlink
  have hrx : ((s.onLink k fun l => { l with fly := l.fly.tail }.refill).link k).rxSeq = w.seq := by
    rw [link_onLink, refill_rxSeq, hseq]
  have hdist (n : Nat) : (n + 256 - n) % 256 = 0 := by omega
  have hjudge : (s.onLink k fun l => { l with fly := rest }.refill).judgeWord k w true = (true, s.onLink k fun l => Link.taken l w) := by
    rw [htail]
    simp only [State.judgeWord, hgood, Bool.and_self, Bool.not_true, Bool.false_eq_true, if_false, hrx, hdist, Nat.reduceLeDiff, if_true,
      onLink_onLink]
    rfl
  simp only [State.receiveWord, takeAcks_of_counts hfly hcounts, hfly, bne_self_eq_false, Bool.and_false, Bool.false_eq_true, if_false, hjudge]
  rfl

/-! ## What the receipt leaves -/

theorem acknowledge_links (s : State) (k : LinkNo) : ∃ f, s.acknowledge k = s.onLinks f := by
  unfold State.acknowledge
  split
  next j _ => exact ⟨fun l => (l.upd k fun l => { l with unacked := l.unacked + 1 }).upd j fun l => l.push tyAck 0, rfl⟩
  next => exact ⟨fun l => l.upd k fun l => { l with unacked := l.unacked + 1 }, rfl⟩

/-- Only the links have changed. -/
theorem received_links (s : State) (k : LinkNo) (w : ShWord) : ∃ f, received s k w = s.onLinks f := by
  obtain ⟨f, hf⟩ := acknowledge_links (s.onLink k fun l => Link.taken l w) k
  exact ⟨fun l => f (l.upd k fun l => Link.taken l w), hf⟩

theorem received_link_back {j : LinkNo} (hback : k.back = some j) (w : ShWord) : (received s k w).link j = (s.link j).push tyAck 0 := by
  obtain ⟨-, hjk⟩ := back_symm hback
  simp only [received, State.acknowledge, hback, link_onLink, link_onLink_ne _ _ hjk]

theorem received_link_ne {i : LinkNo} (hi : i ≠ k) (hback : k.back ≠ some i) (w : ShWord) : (received s k w).link i = s.link i := by
  unfold received State.acknowledge
  dsimp only
  split
  next j hj =>
    have hij : i ≠ j := fun h => hback (h ▸ hj)
    rw [link_onLink_ne _ _ hij, link_onLink_ne _ _ hi, link_onLink_ne _ _ hi]
  next => rw [link_onLink_ne _ _ hi, link_onLink_ne _ _ hi]

/-- The ACK takes no room (R60): a word offered after it goes out behind it. -/
theorem offer_push_ack {l : Link} (hfull : l.full = false) (hhold : l.hold = []) (typ : Nat) (p : BitVec 64) :
    ((l.push tyAck 0).offer typ p).fly = l.fly ++ [ShWord.make tyAck l.txSeq 0, ShWord.make typ ((l.txSeq + 1) % 256) p] := by
  have hack : ([ShWord.make tyAck l.txSeq 0].filter ShWord.counts) = [] := rfl
  have hsame : realWords (l.push tyAck 0).fly = realWords l.fly := by
    simp only [Link.push, realWords, List.filter_append, hack, List.append_nil]
  have hroom : (l.push tyAck 0).full = false := (congrArg (fun n => decide (4 ≤ n)) hsame).trans hfull
  have hhold' : (l.push tyAck 0).hold = [] := hhold
  have hoffer : (l.push tyAck 0).offer typ p = (l.push tyAck 0).push typ p := by
    simp only [Link.offer, hroom, hhold', List.isEmpty_nil, Bool.not_true, Bool.or_self, Bool.false_eq_true, if_false]
  rw [hoffer]
  exact List.append_assoc ..

end Sys2Proof.ReceiveProofs

/-! The operation of the load-switch channels (spec/05): the weft's commands and reads, the pulse generator, the profiles and the samples. -/

namespace Sys2Proof.SwitchProofs

open Sys2Proof Sys2Proof.Machine Sys2Proof.Laws Sys2Proof.ReceiveProofs Sys2Proof.ProtectionProofs

variable {s : State}

/-! ## Words of the weft -/

/-- A command of the weft is kept for the next COMMIT. -/
theorem opSwitchCmd_of_wordAt {w : ShWord} {c : ChNo} {k : ChCmd} (hw : WordAt s 0 tyCmd w) (hc : chOfNum (pf w.payload 0 8) = some c)
    (hleads : s.leads (s.chan c).cfg.twinShared = false) (howner : (s.chan c).owner = .weft) (hk : switchCmd w.payload c = some k)
    (hgroup : k.mode.isPwm = true → s.groupOk c = true) :
    opSwitchCmd true s = ((received s 0 w).onSw fun x => { x with commit := { x.commit with count := x.commit.count + 1 } }).onChan c fun x =>
      { x with nextReg := some (CmdReg.keep w.payload) } := by
  obtain ⟨f, hf⟩ := received_links s 0 w
  have hpwm : (k.mode.isPwm && !s.groupOk c) = false := by
    cases h : k.mode.isPwm
    · rfl
    · rw [hgroup h]
      rfl
  unfold opSwitchCmd
  rw [receiveWord_of_wordAt hw (by decide)]
  dsimp only
  rw [hf, hc]
  dsimp only
  refine (if_neg fun h => Bool.false_ne_true (hleads.symm.trans h)).trans ((if_neg fun h => h howner).trans ?_)
  rw [hk]
  exact if_neg (fun h => Bool.false_ne_true (hpwm.symm.trans h))

theorem opSwitchReadRequest_of_wordAt {w : ShWord} {v k : Nat} (hw : WordAt s 0 tyData w) (hzero : pf w.payload 16 48 = 0)
    (hread : s.switchRead (pf w.payload 0 8) (pf w.payload 8 8) = some (v, k)) :
    opSwitchReadRequest true s = (received s 0 w).sendWord 4 tyData (readAnswer v (pf w.payload 0 8) (pf w.payload 8 8) k) := by
  obtain ⟨f, hf⟩ := received_links s 0 w
  have hread' : (s.onLinks f).switchRead (pf w.payload 0 8) (pf w.payload 8 8) = some (v, k) := hread
  simp only [opSwitchReadRequest, receiveWord_of_wordAt hw (by decide), hf, hzero, if_true, hread']

/-! ## The pulse generator -/

/-- A period long enough for both edges goes high at its start and low when its duty is over. -/
theorem waveOut_both {prev : Bool} {a period on tm : Nat} (htm : 0 < tm) (hon : tm ≤ on) (hoff : on + tm ≤ period) :
    waveOut prev (on == 0) a (a + period) (a + on) tm = (true, some (a + on), false) := by
  have hnone : (on == 0) = false := by
    rw [beq_eq_false_iff_ne]
    omega
  have honLen : min (a + period) (a + on) - a = on := by omega
  have hoffLen : a + period - a - on = period - on := by omega
  have hlong : ¬ a + period - a < tm := by omega
  have h1 : on ≠ 0 := by omega
  have h2 : ¬ on < tm := by omega
  have h3 : period - on ≠ 0 := by omega
  have h4 : ¬ period - on < tm := by omega
  simp only [waveOut, hnone, honLen, hoffLen, hlong, h1, h2, h3, h4, decide_false, Bool.and_false, Bool.false_eq_true, if_false]

theorem tMin_pos (c : ChNo) : 0 < (swClass c).tMin * 50 := by
  cases swClass c
  all_goals decide

theorem beginWave_both {x : Chan} {c : ChNo} {base period t : Nat} (hfirst : firstOn base period x.phase t = t) (hprot : x.prot = .normal)
    (hon : (swClass c).tMin * 50 ≤ onTime period x.duty) (hoff : onTime period x.duty + (swClass c).tMin * 50 ≤ period) :
    (x.beginWave c base period t).output = true ∧ (x.beginWave c base period t).wave.nextOn = t + period ∧
      (x.beginWave c base period t).wave.offAt = some (t + onTime period x.duty) := by
  unfold Chan.beginWave
  simp only [hfirst, if_true, waveOut_both (tMin_pos c) hon hoff]
  exact ⟨by simp only [Chan.drive, hprot, decide_true, Bool.and_true], trivial, trivial⟩

theorem opPwmPeriodStart_chan {c : ChNo} (hmode : (s.chan c).mode = .pwm) (hprot : (s.chan c).prot = .normal) (hpend : (s.chan c).wave.pend = none)
    (hauto : (s.chan c).wave.autoPend = none) (hdue : s.edgeDue (s.chan c).wave.nextOn = true) :
    restPhase ((opPwmPeriodStart c s).chan c) =
      restPhase ((s.chan c).beginWave c s.hyperBase (s.chPeriod c) (s.chan c).wave.nextOn) := by
  have hpwm : (s.chan c).mode.isPwm = true := by rw [hmode]; rfl
  unfold opPwmPeriodStart
  extract_lets x t base period before s₁ s₂
  rw [if_neg (by simp [x, t, hpwm, hdue])]
  have hs₁ : s₁.chan c = s.chan c := by
    simp only [s₁, chan_onChan, hpend, hauto, Option.getD_none, ite_self]
    rw [← hpend, ← hauto]
  have hs₂ : s₂.chan c = (s.chan c).beginWave c base period t := by
    simp only [s₂, chan_onChan, hs₁, hprot, ne_eq, not_true_eq_false, if_false, hmode]
  rw [rephase_chan, hs₂]

theorem opPwmOffEdge_of_due {c : ChNo} {k : Nat} (hoff : (s.chan c).wave.offAt = some k) (hdue : s.edgeDue k = true)
    (hpwm : (s.chan c).mode.isPwm = true) :
    opPwmOffEdge c s = s.onChan c fun x => { x.drive false (k / 50) with wave := { x.wave with offAt := none, fellAt := k } } := by
  simp only [opPwmOffEdge, hoff, hdue, hpwm, Bool.and_self, if_true]

/-- The channel switches off when its pulse ends. -/
theorem enter_off_of_pulse {c : ChNo} (hmode : (s.chan c).mode = .pulse) :
    ((s.enter c { mode := .off, duty := 0, phase := 0, arg := 0 }).chan c).mode = .off ∧
      ((s.enter c { mode := .off, duty := 0, phase := 0, arg := 0 }).chan c).output = false := by
  unfold State.enter
  simp only [chan_onChan, hmode, Mode.isPwm, Bool.false_and, Bool.false_eq_true, if_false, reduceCtorEq]
  exact ⟨rfl, rfl⟩

theorem writePg_ok {g : Fin 4} {v : Nat} (hlow : 2000 ≤ v) (hhigh : v ≤ 5000000) (hdiv : 50000000 % v = 0)
    (hfree : ∀ c : ChNo, (if (s.chan c).mode = .off then (s.chan c).cfg.pg else (s.chan c).run.pg) = g →
      (s.chan c).owner ≠ .weft ∧ ((s.chan c).mode.isPwm = true → (swClass c).minPeriod ≤ v)) :
    s.writePg g v = (.ok, s.onSw fun w => { w with pgPend := w.pgPend.put g (some v) }) := by
  have hrange : ¬ (v < 2000 ∨ 5000000 < v ∨ 50000000 % v ≠ 0) := by omega
  unfold State.writePg
  extract_lets members reject
  have hmem (c : ChNo) (hc : c ∈ members) := hfree c (of_decide_eq_true (List.mem_filter.1 hc).2)
  have hshort : ¬ (members.any fun c => (s.chan c).mode.isPwm && decide (v < (swClass c).minPeriod)) = true := by
    rw [List.any_eq_true]
    rintro ⟨c, hc, hbad⟩
    rw [Bool.and_eq_true, decide_eq_true_eq] at hbad
    exact absurd ((hmem c hc).2 hbad.1) (Nat.not_le.mpr hbad.2)
  have hweft : ¬ (members.any fun c => decide ((s.chan c).owner = .weft)) = true := by
    rw [List.any_eq_true]
    rintro ⟨c, hc, hbad⟩
    exact (hmem c hc).1 (of_decide_eq_true hbad)
  rw [if_neg hrange, if_neg hshort, if_neg hweft]

/-! ## The samples -/

theorem countOver_meas (x : Chan) (mA lim slew now : Nat) : (x.countOver mA lim slew now).meas = x.meas := by
  unfold Chan.countOver
  split <;> rfl

theorem countOpen_meas (x : Chan) (c : ChNo) (mA fine blank now : Nat) : (x.countOpen c mA fine blank now).meas = x.meas := by
  unfold Chan.countOpen
  split
  · rfl
  split
  · rfl
  split
  · rfl
  split
  · rfl
  dsimp only
  split <;> rfl

theorem judgeSum_chan (s : State) (p : PwrNo) (sum : Nat) (c : ChNo) : (s.judgeSum p sum).chan c = s.chan c := rfl

theorem scanSum_chan (s : State) (p : PwrNo) (c : ChNo) : (s.scanSum p).chan c = s.chan c := by
  unfold State.scanSum
  extract_lets l ma s₁ s₂
  have h₁ : s₁.sw.chans = s.sw.chans := by simp only [s₁, onSw_sw]
  have h₂ : s₂.sw.chans = s₁.sw.chans := by simp only [s₂, State.onGuard, onSupply_sw, onSw_sw]
  clear_value s₂ s₁ l
  split
  · exact (judgeSum_chan s₂ p _ c).trans (congrArg (fun l : Tab Chan 48 => l.get c) (h₂.trans h₁))
  · rfl

theorem opScanSample_chan (s : State) (c : ChNo) (mA fine : Nat) (tj : Int) (dSum : Nat) (hscan : s.scanning = true) :
    ((opScanSample c mA fine tj dSum s).chan c).meas.iMeas = (swClass c).convert mA ∧ ((opScanSample c mA fine tj dSum s).chan c).meas.tj = tj ∧
      ((opScanSample c mA fine tj dSum s).chan c).meas.iPeak = max (s.chan c).meas.iPeak ((swClass c).convert mA) ∧
      ((opScanSample c mA fine tj dSum s).chan c).meas.sampleTick = s.warp % 2 ^ 32 := by
  have hlast (u : State) :
      (if c.1 = 47 then (u.onSupply fun v => { v with sums := v.sums.put 3 dSum }).judgeSum 3 dSum else u).chan c = u.chan c := by
    split <;> rfl
  unfold opScanSample
  rw [if_neg (by simp [hscan])]
  dsimp only
  rw [hlast, scanSum_chan]
  change ((State.onChan s c _).chan c).meas.iMeas = _ ∧ ((State.onChan s c _).chan c).meas.tj = _ ∧
    ((State.onChan s c _).chan c).meas.iPeak = _ ∧ ((State.onChan s c _).chan c).meas.sampleTick = _
  simp only [chan_onChan, countOpen_meas, countOver_meas, and_self]

/-- Settles O28, one event at a time. -/
theorem switchOperationComplete : Obligations.SwitchOperationComplete := by
  refine ⟨?command, ?read, ?period, ?edge, ?pulse, ?write, ?segment, ?sample, ?peak⟩
  case command =>
    intro s w c k hw hc hleads howner hk hgroup
    obtain ⟨f, hf⟩ := received_links s 0 w
    refine ⟨_, congrArg Host.Outcome.next (opSwitchCmd_of_wordAt hw hc hleads howner hk hgroup), ?_, ?_, fun d hd => ?_⟩
    · rw [chan_onChan]
    · rw [hf]
      rfl
    · rw [chan_onChan_ne _ _ hd, hf]
      rfl
  case read =>
    intro s w v k hw hroom hzero hread
    obtain ⟨f, hf⟩ := received_links s 0 w
    refine ⟨_, congrArg Host.Outcome.next (opSwitchReadRequest_of_wordAt hw hzero hread), ?_, ?_⟩
    · rw [hf]
      rfl
    · rw [State.sendWord, link_onLink, received_link_back rfl]
      exact offer_push_ack hroom.1 hroom.2 _ _
  case period =>
    intro s c hmode hprot hpend hauto hdue hfirst hon hoff
    have hchan := opPwmPeriodStart_chan hmode hprot hpend hauto hdue
    obtain ⟨hout, hnext, hfall⟩ := beginWave_both (x := s.chan c) (base := s.hyperBase) hfirst hprot hon hoff
    exact ⟨_, rfl, (congrArg Chan.output hchan).trans hout, (congrArg (fun x : Chan => x.wave.nextOn) hchan).trans hnext,
      (congrArg (fun x : Chan => x.wave.offAt) hchan).trans hfall⟩
  case edge =>
    intro s c k hoff hdue hpwm
    refine ⟨_, congrArg Host.Outcome.next (opPwmOffEdge_of_due hoff hdue hpwm), ?_⟩
    rw [chan_onChan]
    exact ⟨rfl, rfl, rfl⟩
  case pulse =>
    intro s c hmode hprot hend
    obtain ⟨hoff, hout⟩ := enter_off_of_pulse hmode
    refine ⟨_, congrArg Host.Outcome.next (if_pos ⟨hmode, hprot, hend⟩), ?_⟩
    rw [chan_onChan]
    exact ⟨hoff, hout, rfl⟩
  case write =>
    intro s g v hlow hhigh hdiv hfree
    refine ⟨_, congrArg Host.Outcome.next (congrArg Prod.snd (writePg_ok hlow hhigh hdiv hfree)), ?_, rfl⟩
    exact Tab.get_put_self ..
  case segment =>
    intro s c hseg hend
    refine ⟨_, congrArg Host.Outcome.next (if_neg (not_or.mpr ⟨hseg, Nat.not_lt.mpr hend⟩)), fun h => ?_, fun h => ?_⟩
    · simp only [chan_onChan, if_pos h]
    · simp only [chan_onChan, if_neg (Nat.not_lt.mpr h)]
  case sample =>
    intro s c mA fine tj dSum hscan
    exact ⟨_, rfl, opScanSample_chan s c mA fine tj dSum hscan⟩
  case peak =>
    intro s c
    exact ⟨_, rfl, congrArg Chan.meas (chan_onChan s c _), fun d hd => chan_onChan_ne _ _ hd⟩

end Sys2Proof.SwitchProofs

/-! The events of the weft contract (spec/03, spec/04): words at the Loom and at the islands, segments, monitors and the selvedge exchange. -/

namespace Sys2Proof.WeftEventProofs

open Sys2Proof Sys2Proof.Machine Sys2Proof.Laws Sys2Proof.ReceiveProofs

variable {s : State}

/-! ## A receipt leaves the other links -/

/-- Every link but the given one and the one its ACKs come back on is as it was. -/
def OtherLinks (k : LinkNo) (s t : State) : Prop := ∀ i, i ≠ k → k.back ≠ some i → t.link i = s.link i

theorem OtherLinks.trans {k : LinkNo} {t u : State} (h : OtherLinks k s t) (g : OtherLinks k t u) : OtherLinks k s u :=
  fun i hi hb => (g i hi hb).trans (h i hi hb)

theorem otherLinks_of_links {k : LinkNo} {t : State} (h : t.links = s.links) : OtherLinks k s t := fun i _ _ => congrArg (Tab.get · i) h

theorem otherLinks_onLink (s : State) (k : LinkNo) (f : Link → Link) : OtherLinks k s (s.onLink k f) := fun _ hi _ => link_onLink_ne _ _ hi

theorem judgeWord_otherLinks (s : State) (k : LinkNo) (w : ShWord) (crcOk : Bool) : OtherLinks k s (s.judgeWord k w crcOk).2 := by
  unfold State.judgeWord
  split
  · exact OtherLinks.trans (otherLinks_onLink s k fun l => { l with retry := if w.resent then l.retry else l.retry ++ [w] }) (otherLinks_of_links rfl)
  · dsimp only
    split
    · exact fun _ _ _ => rfl
    · split
      · exact otherLinks_onLink s k _
      · exact OtherLinks.trans (t := s.fault ..) (otherLinks_of_links rfl) (otherLinks_onLink _ k _)

theorem acked_otherLinks (s : State) (k : LinkNo) : OtherLinks k s (s.acked k.back) := by
  intro i _ hb
  unfold State.acked
  split
  next j hj => exact link_onLink_ne _ _ fun h => hb (h ▸ hj)
  next => rfl

theorem ackArrive_otherLinks (s : State) (k : LinkNo) (crcOk : Bool) : OtherLinks k s (s.ackArrive k crcOk) := by
  unfold State.ackArrive
  split
  · exact fun _ _ _ => rfl
  · dsimp only
    split
    · exact fun _ _ _ => rfl
    · split
      · exact ((otherLinks_onLink s k _).trans (judgeWord_otherLinks _ k _ _)).trans (acked_otherLinks _ k)
      · exact (otherLinks_onLink s k _).trans (judgeWord_otherLinks _ k _ _)

theorem takeAcks_otherLinks (s : State) (k : LinkNo) : OtherLinks k s (s.takeAcks k) := by
  have hall (l : List Nat) (t : State) : OtherLinks k t (t.forEach l fun _ s => s.ackArrive k true) := by
    induction l generalizing t with
    | nil => exact fun _ _ _ => rfl
    | cons n l ih => exact (ackArrive_otherLinks t k true).trans (ih _)
  exact hall _ s

theorem acknowledge_otherLinks (s : State) (k : LinkNo) : OtherLinks k s (s.acknowledge k) := by
  intro i hi hb
  unfold State.acknowledge
  dsimp only
  split
  next j hj =>
    have hij : i ≠ j := fun h => hb (h ▸ hj)
    rw [link_onLink_ne _ _ hij, link_onLink_ne _ _ hi]
  next => exact link_onLink_ne _ _ hi

theorem receiveWord_otherLinks (s : State) (k : LinkNo) (typ : Nat) (crcOk : Bool) : OtherLinks k s (s.receiveWord k typ crcOk).2 := by
  unfold State.receiveWord
  extract_lets s₁
  have h₁ : OtherLinks k s s₁ := takeAcks_otherLinks s k
  split
  · exact h₁
  next w rest _ =>
    split
    · exact h₁
    · have h₂ := (h₁.trans (otherLinks_onLink s₁ k fun l => { l with fly := rest }.refill)).trans (judgeWord_otherLinks _ k w crcOk)
      split
      next s₂ heq => exact (h₂.trans (otherLinks_of_links (congrArg (fun x : Bool × State => x.2.links) heq).symm)).trans (acknowledge_otherLinks _ k)
      next s₂ heq => exact h₂.trans (otherLinks_of_links (congrArg (fun x : Bool × State => x.2.links) heq).symm)

theorem twinArrive_otherLinks (s : State) (crcOk : Bool) : OtherLinks 6 s (s.twinArrive crcOk) := by
  unfold State.twinArrive
  split
  · exact fun _ _ _ => rfl
  next w _ =>
    have h := receiveWord_otherLinks s 6 w.typ crcOk
    split
    next s₁ heq => exact h.trans (otherLinks_of_links (congrArg (fun x : Option (BitVec 64) × State => x.2.links) heq).symm)
    next p s₁ heq => exact h.trans (otherLinks_of_links (congrArg (fun x : Option (BitVec 64) × State => x.2.links) heq).symm)

theorem twinDrain_link {i : LinkNo} (hi : i ≠ 6) (s : State) : s.twinDrain.link i = s.link i :=
  ((((twinArrive_otherLinks s true).trans (twinArrive_otherLinks _ true)).trans (twinArrive_otherLinks _ true)).trans
    (twinArrive_otherLinks _ true)) i hi (by exact nofun)

/-! ## Words at the Loom and at the islands -/

theorem headWord_of_wordAt {k : LinkNo} {typ : Nat} {w : ShWord} (hw : WordAt s k typ w) (htyp : typ ≠ tyAck) : (s.link k).headWord = some w := by
  obtain ⟨hhead, rfl, -, -⟩ := hw
  obtain ⟨rest, hfly⟩ : ∃ rest, (s.link k).fly = w :: rest := List.head?_eq_some_iff.1 hhead
  have hcounts : w.counts = true := by simpa [ShWord.counts] using htyp
  simp only [Link.headWord, hfly, List.find?_cons, hcounts]

theorem opLoomDataReceive_of_wordAt {port : Fin 3} {w : ShWord} (hw : WordAt s (rxLink port) tyData w) (hroom : (s.loom.rx.get port).length < 8) :
    opLoomDataReceive port true s = (received s (rxLink port) w).onLoom fun l => { l with rx := l.rx.upd port fun q => q ++ [w.payload] } := by
  obtain ⟨f, hf⟩ := received_links s (rxLink port) w
  have htyp : ¬ w.typ = tyCommitAck := fun h => absurd (hw.2.1.symm.trans h) (by decide)
  have hroom' : ((s.onLinks f).loom.rx.get port).length < 8 := hroom
  simp only [opLoomDataReceive, headWord_of_wordAt hw (by decide), htyp, if_false, receiveWord_of_wordAt hw (by decide), hf, hroom', if_true]

theorem opCommitReceive_of_wordAt {drive : Bool} {w : ShWord} (hw : WordAt s (if drive then 1 else 0) tyCommit w) :
    opCommitReceive drive true s =
      (if drive then (received s 1 w).onDrv fun d => { d with commit := d.commit.take w.payload }
        else (received s 0 w).onSw fun x => { x with commit := x.commit.take w.payload }).sendWord (if drive then 5 else 4) tyCommitAck w.payload := by
  unfold opCommitReceive
  dsimp only
  rw [receiveWord_of_wordAt hw (by decide)]
  cases drive <;> rfl

theorem heartbeat_of_wordAt {drive host : Bool} {w : ShWord}
    (hw : WordAt s (if host then (if drive then 10 else 9) else if drive then 1 else 0) tyHeartbeat w) :
    s.heartbeat drive host true = (received s (if host then (if drive then 10 else 9) else if drive then 1 else 0) w).heard drive host := by
  have hhead := headWord_of_wordAt hw (by decide)
  unfold State.heartbeat
  extract_lets k s₁
  have hstep : (if ((s.link k).headWord.map ShWord.typ) == some tyService then s.serviceArrive drive true else s) = s := by
    rw [show (s.link k).headWord = some w from hhead, Option.map_some, hw.2.1]
    rfl
  have hall (l : List Nat) : (s.forEach l fun _ s =>
      if ((s.link k).headWord.map ShWord.typ) == some tyService then s.serviceArrive drive true else s) = s := by
    induction l with
    | nil => rfl
    | cons n l ih =>
      exact (congrArg (fun t : State => t.forEach l fun _ s =>
        if ((s.link k).headWord.map ShWord.typ) == some tyService then s.serviceArrive drive true else s) hstep).trans ih
  have hs₁ : s₁ = s := by
    simp only [s₁, hall, ite_self]
  rw [hs₁, receiveWord_of_wordAt hw (by decide)]

/-! ## Segments and monitors -/

/-- The Loom with the task of the next segment. -/
def segmentBegun (s : State) (d : SegDesc) : State :=
  let k : Fin 64 := Fin.ofNat 64 d.task
  let i := s.loom.next
  let s := s.onLoom fun l => { l with next := i + 1 }
  let t := s.task k
  let pc := match t.rep with
    | some (true, a) => (s.fetchIns a).after
    | _ => t.pc
  let s := s.onTask k fun t => { t with cycles := t.cycles + 4 }
  s.onLoom fun l =>
    { l with cyc := d.start + 4, pc := pc, flg := BitVec.ofNat 5 t.flg, rpc := t.rpc, wbase := t.wbase, rep := t.rep,
             seg := some { task := k, index := i, stop := d.start + d.budget } }

theorem opSegmentStart_of_due {w : Weft} {d : SegDesc} (hweft : s.runningWeft = some w)
    (hseg : (w.templates.getD (s.template w) [])[s.loom.next]? = some d) (hrun : s.segmentsRun = true) (hfree : s.loom.seg = none)
    (hselvedge : s.loom.selvedge = false) (hhalt : s.weft.haltDue = false) (hstart : d.start / 250 ≤ s.warp % 1000) (hend : s.warp % 1000 < 950)
    (hactive : s.activeTask (Fin.ofNat 64 d.task) = true) :
    (opSegmentStart s).loom.seg = some { task := Fin.ofNat 64 d.task, index := s.loom.next, stop := d.start + d.budget } ∧
      (opSegmentStart s).loom.cyc = d.start + 4 ∧ (opSegmentStart s).loom.wbase = (s.task (Fin.ofNat 64 d.task)).wbase ∧
      (opSegmentStart s).loom.next = s.loom.next + 1 := by
  have hdue : ¬ (!s.segmentsRun || s.loom.seg.isSome || s.loom.selvedge || decide (s.warp % 1000 < d.start / 250) ||
      decide (950 ≤ s.warp % 1000)) = true := by
    have h₁ : ¬ s.warp % 1000 < d.start / 250 := by omega
    have h₂ : ¬ 950 ≤ s.warp % 1000 := by omega
    simp [hrun, hfree, hselvedge, h₁, h₂]
  have hactive' : ¬ (!(s.onLoom fun l => { l with next := s.loom.next + 1 }).activeTask (Fin.ofNat 64 d.task)) = true := by
    have h : (s.onLoom fun l => { l with next := s.loom.next + 1 }).activeTask (Fin.ofNat 64 d.task) = true := hactive
    rw [h]
    exact Bool.false_ne_true
  have hgo : opSegmentStart s = segmentBegun s d := by
    unfold opSegmentStart
    simp only [hweft, hseg]
    rw [if_neg hdue, if_neg (fun h => Bool.false_ne_true (hhalt.symm.trans h)), if_neg hactive']
    rfl
  rw [hgo]
  exact ⟨rfl, rfl, rfl, rfl⟩

/-- What a fault may change of a task: whether it runs. -/
def restTask (x : TaskRun) : TaskRun := { x with open_ := false }

theorem endActivation_task (s : State) (i k : Fin 64) :
    (s.endActivation i).task k = (s.onTask i fun t => { t with open_ := false }).task k := by
  unfold State.endActivation
  dsimp only
  split
  · split <;> rfl
  · rfl

theorem stopWeft_task (s : State) (reason : Nat) (clearAuto : Bool) (k : Fin 64) : (s.stopWeft reason clearAuto).task k = s.task k := by
  unfold State.stopWeft
  split
  · rfl
  · cases clearAuto
    all_goals
      dsimp only
      split <;> rfl

theorem planFault_weft (s : State) (key : Nat × Nat) (island code p0 p1 p2 : Nat) : (s.planFault key island code p0 p1 p2).weft = s.weft :=
  (planFault_keeps (m := [.rcd, .flt]) (by decide) (keeps_refl _ s)).only.same .weft (by decide)

/-- A task's fault ends its activation at most. -/
theorem taskFault_task (s : State) (i k : Fin 64) (code p0 p1 p2 : Nat) :
    (s.taskFault i code p0 p1 p2).task k = s.task k ∨ (s.taskFault i code p0 p1 p2).task k = { s.task k with open_ := false } := by
  have hplan : (s.planFault (0, i.1) 1 code p0 p1 p2).task k = s.task k := congrArg (fun w : Wefts => w.tasks.get k) (planFault_weft ..)
  unfold State.taskFault
  dsimp only
  split
  · rw [endActivation_task]
    by_cases hk : k = i
    · subst hk
      exact .inr ((task_onTask _ k _).trans (congrArg (fun x : TaskRun => { x with open_ := false }) hplan))
    · exact .inl ((task_onTask_ne _ _ hk).trans hplan)
  · exact .inl ((stopWeft_task _ _ _ k).trans hplan)
  · exact .inl hplan

theorem taskFault_wcetDone (s : State) (i k : Fin 64) (code p0 p1 p2 : Nat) :
    ((s.taskFault i code p0 p1 p2).task k).wcetDone = (s.task k).wcetDone := by
  rcases taskFault_task s i k code p0 p1 p2 with h | h
  · rw [h]
  · rw [h]

theorem taskFault_closed {i k : Fin 64} (hclosed : (s.task k).open_ = false) (code p0 p1 p2 : Nat) :
    ((s.taskFault i code p0 p1 p2).task k).open_ = false := by
  rcases taskFault_task s i k code p0 p1 p2 with h | h
  · rw [h, hclosed]
  · rw [h]

theorem opWcet_of_over {k : Fin 64} {d : TaskDesc} (hd : s.taskDesc k = some d) (hdone : (s.task k).wcetDone = false)
    (hover : d.wcet < (s.task k).cycles) :
    opWcet k s = (s.onTask k fun t => { t with wcetDone := true }).taskFault k 0x9012 s.loom.last k.1 (s.task k).cycles := by
  have h : ¬ (s.task k).cycles ≤ d.wcet := by omega
  simp only [opWcet, hd, hdone, h, decide_false, Bool.or_self, Bool.false_eq_true, if_false]

theorem opDeadline_of_past {k : Fin 64} {d : TaskDesc} (hd : s.taskDesc k = some d) (hopen : (s.task k).open_ = true)
    (hpast : 1000 * ((s.task k).released + d.deadline) - 50 ≤ s.warp) :
    opDeadline k s = (s.endActivation k).taskFault k 0x9011 0 k.1 d.deadline := by
  simp only [opDeadline, hd, hopen, hpast, decide_true, Bool.and_self, if_true]

/-! ## The selvedge exchange (R121 to R123) -/

/-- What the exchange leaves once its words are out: the links to the islands and that it has begun. -/
def Exchanged (s t : State) : Prop := t.link 0 = s.link 0 ∧ t.link 1 = s.link 1 ∧ t.loom.selvedge = s.loom.selvedge

theorem Exchanged.trans {t u : State} (h : Exchanged s t) (g : Exchanged t u) : Exchanged s u :=
  ⟨g.1.trans h.1, g.2.1.trans h.2.1, g.2.2.trans h.2.2⟩

theorem exchanged_of_keeps {t : State} {m : List Part} (h : Keeps m s t) (hlinks : .links ∉ m) (hloom : .loom ∉ m) : Exchanged s t := by
  have hl : t.links = s.links := h.only.same .links hlinks
  exact ⟨congrArg (Tab.get · 0) hl, congrArg (Tab.get · 1) hl, congrArg Loom.selvedge (h.only.same .loom hloom)⟩

/-- The words of the exchange to one island. -/
def exchangeWords (s : State) (k : LinkNo) (i : Fin 2) (next : Nat) : State :=
  (s.sendWord k tyCommit (BitVec.ofNat 64 (next + 2 ^ 32 * (s.weft.sent.get i % 65536)))).sendWord k tyHeartbeat (BitVec.ofNat 64 0)

theorem exchangeWords_fly {k : LinkNo} {i : Fin 2} {next : Nat} (hfly : (s.link k).fly = []) (hhold : (s.link k).hold = []) :
    ((exchangeWords s k i next).link k).fly =
      [ShWord.make tyCommit (s.link k).txSeq (BitVec.ofNat 64 (next + 2 ^ 32 * (s.weft.sent.get i % 65536))),
        ShWord.make tyHeartbeat (((s.link k).txSeq + 1) % 256) (BitVec.ofNat 64 0)] := by
  have hoffer (l : Link) (typ : Nat) (p : BitVec 64) (hf : l.full = false) (hh : l.hold = []) : l.offer typ p = l.push typ p := by
    simp only [Link.offer, hf, hh, List.isEmpty_nil, Bool.not_true, Bool.or_self, Bool.false_eq_true, if_false]
  have hroom : (s.link k).full = false := by simp [Link.full, hfly, realWords]
  have hroom' (typ : Nat) (p : BitVec 64) : ((s.link k).push typ p).full = false := by
    have hlen : realWords ((s.link k).push typ p).fly ≤ 1 := by
      simp only [Link.push, hfly, List.nil_append, realWords]
      exact List.length_filter_le ..
    exact decide_eq_false (by omega)
  unfold exchangeWords State.sendWord
  rw [link_onLink, link_onLink, hoffer _ _ _ hroom hhold, hoffer _ _ _ (hroom' _ _) hhold]
  simp only [Link.push, hfly, List.nil_append, List.singleton_append]

theorem exchangeWords_link_ne {i k : LinkNo} (h : i ≠ k) (j : Fin 2) (next : Nat) : (exchangeWords s k j next).link i = s.link i :=
  (link_onLink_ne _ _ h).trans (link_onLink_ne _ _ h)

theorem exchanged_writeMem (s : State) (a : Nat) (b : List Byte) : Exchanged s (s.writeMem a b) := ⟨rfl, rfl, rfl⟩

theorem exchanged_clearRegs (s : State) : Exchanged s (s.onLoom Loom.clearRegs) :=
  ⟨rfl, rfl, by simp only [onLoom_loom, Loom.clearRegs]⟩

theorem exchanged_loomData (s : State) : Exchanged s s.twinDrain.sendLoomData := by
  have hdrain : Exchanged s s.twinDrain :=
    ⟨twinDrain_link (by decide) s, twinDrain_link (by decide) s,
      congrArg Loom.selvedge ((twinDrain_keeps (m := [.links, .rcd, .flt, .twin]) (by decide) (keeps_refl _ s)).only.same .loom (by decide))⟩
  exact hdrain.trans (exchanged_of_keeps (sendLoomData_keeps (m := [.out, .rcd, .twin]) (by decide) (keeps_refl _ _)) (by decide) (by decide))

/-- The two words of the exchange to each of the islands. -/
def exchangeAll (s : State) : State :=
  let s := s.onLoom fun l => { l with selvedge := true }
  let next := (s.frame + 1) % 2 ^ 32
  exchangeWords (exchangeWords s 0 0 next) 1 1 next

/-- What the Loom does once its words are out leaves them on the links. -/
theorem opSelvedgeCommit_exchanged (hlate : 950 ≤ s.warp % 1000) (hnew : s.loom.selvedge = false) (hrun : s.segmentsRun = true) :
    Exchanged (exchangeAll s) (opSelvedgeCommit s) := by
  have hdue : ¬ (s.warp % 1000 < 950 ∨ s.loom.selvedge = true ∨ (s.segmentsRun = false ∧ (s.startSelvedge && s.pwr.islandUp.get 1) = false)) := by
    rintro (h | h | h)
    · omega
    · exact Bool.false_ne_true (hnew.symm.trans h)
    · exact Bool.false_ne_true (h.1.symm.trans hrun)
  unfold opSelvedgeCommit
  rw [if_neg hdue]
  extract_lets s₁ next s₂ s₃ s₄ s₅ s₆ s₇
  have hwords : s₅ = exchangeAll s := rfl
  rw [← hwords]
  clear_value s₅
  have h₆ : Exchanged s₅ s₆ := exchanged_loomData s₅
  clear_value s₆
  have h₇ : Exchanged s₅ s₇ := by
    simp only [s₇]
    split
    · exact h₆.trans (exchanged_writeMem ..)
    · exact h₆
  clear_value s₇
  split
  · exact ⟨rfl, rfl, rfl⟩
  split
  · exact h₇
  split
  · have h₈ : Exchanged s₅ (s₇.onLoom Loom.clearRegs) := h₇.trans (exchanged_clearRegs s₇)
    split
    · exact h₈.trans (exchanged_of_keeps (writeOwnership_keeps (m := [.mem]) (by decide) (keeps_refl _ _)) (by decide) (by decide))
    · exact h₈
  · exact h₇

theorem exchangeAll_fly {i : Fin 2} {k : LinkNo} (hk : k = if i = 0 then 0 else 1) (hfly : (s.link k).fly = []) (hhold : (s.link k).hold = []) :
    ((exchangeAll s).link k).fly =
      [ShWord.make tyCommit (s.link k).txSeq (BitVec.ofNat 64 ((s.frame + 1) % 2 ^ 32 + 2 ^ 32 * (s.weft.sent.get i % 65536))),
        ShWord.make tyHeartbeat (((s.link k).txSeq + 1) % 256) 0] := by
  match i with
  | 0 =>
    subst hk
    have hkeep : (exchangeAll s).link 0 = (exchangeWords (s.onLoom fun l => { l with selvedge := true }) 0 0 ((s.frame + 1) % 2 ^ 32)).link 0 :=
      exchangeWords_link_ne (by decide) _ _
    exact (congrArg Link.fly hkeep).trans (exchangeWords_fly hfly hhold)
  | 1 =>
    subst hk
    have hkeep : (exchangeWords (s.onLoom fun l => { l with selvedge := true }) 0 0 ((s.frame + 1) % 2 ^ 32)).link 1 = s.link 1 :=
      exchangeWords_link_ne (by decide) _ _
    have h := exchangeWords_fly (s := exchangeWords (s.onLoom fun l => { l with selvedge := true }) 0 0 ((s.frame + 1) % 2 ^ 32)) (k := 1) (i := 1)
      (next := (s.frame + 1) % 2 ^ 32) ((congrArg Link.fly hkeep).trans hfly) ((congrArg Link.hold hkeep).trans hhold)
    rw [hkeep] at h
    exact h

/-! ## A latched command comes due -/

theorem chOfNum_chNum (c : ChNo) : chOfNum (chNum c) = some c := by
  have h : 1 ≤ chNum c ∧ chNum c ≤ 48 := ⟨Nat.succ_pos _, c.2⟩
  simp only [chOfNum, h, and_self, dite_true]
  rfl

theorem chOfNum_acObject (c : AcNo) : chOfNum (acObject c) = none := by
  have h : ¬ (1 ≤ acObject c ∧ acObject c ≤ 48) := by
    unfold acObject
    omega
  simp only [chOfNum, h, dite_false]

theorem find_acObject : ∀ c : AcNo, ((List.finRange 12).find? fun d => acObject d == acObject c) = some c := by
  decide

theorem opCommandDue_chNum (c : ChNo) (ok : Bool) : opCommandDue (chNum c) ok s = s.switchDue c ok := by
  simp only [opCommandDue, chOfNum_chNum]

theorem opCommandDue_acObject (c : AcNo) (ok : Bool) : opCommandDue (acObject c) ok s = s.driveDue c ok := by
  simp only [opCommandDue, chOfNum_acObject, find_acObject]

/-- Settles O26, one event at a time. -/
theorem weftEventsComplete : Obligations.WeftEventsComplete := by
  refine ⟨?data, ?segment, ?wcet, ?deadline, ?exchange, ?commit, ?heartbeat, ?chDue, ?acDue, ?bad⟩
  case data =>
    intro s port w hw hroom
    obtain ⟨f, hf⟩ := received_links s (rxLink port) w
    refine ⟨_, congrArg Host.Outcome.next (opLoomDataReceive_of_wordAt hw hroom), ?_⟩
    rw [hf]
    exact Tab.get_upd_self ..
  case segment =>
    intro s w d hweft hseg hrun hfree hselvedge hhalt hstart hend hactive
    exact ⟨_, rfl, opSegmentStart_of_due hweft hseg hrun hfree hselvedge hhalt hstart hend hactive⟩
  case wcet =>
    intro s k d hd hdone hover
    refine ⟨_, congrArg Host.Outcome.next (opWcet_of_over hd hdone hover), ?_⟩
    rw [taskFault_wcetDone, task_onTask]
  case deadline =>
    intro s k d hd hopen hpast
    refine ⟨_, congrArg Host.Outcome.next (opDeadline_of_past hd hopen hpast), taskFault_closed ?_ ..⟩
    rw [endActivation_task, task_onTask]
  case exchange =>
    intro s i k hk hlate hnew hrun hfly hhold
    obtain ⟨h0, h1, hsel⟩ := opSelvedgeCommit_exchanged hlate hnew hrun
    have hlink : (opSelvedgeCommit s).link k = (exchangeAll s).link k := by
      subst hk
      split
      · exact h0
      · exact h1
    exact ⟨_, rfl, hsel, (congrArg Link.fly hlink).trans (exchangeAll_fly hk hfly hhold)⟩
  case commit =>
    intro s drive w hw
    refine ⟨_, congrArg Host.Outcome.next (opCommitReceive_of_wordAt hw), ?_⟩
    cases drive
    · obtain ⟨f, hf⟩ := received_links s 0 w
      rw [hf]
      rfl
    · obtain ⟨f, hf⟩ := received_links s 1 w
      rw [hf]
      rfl
  case heartbeat =>
    intro s drive host w hw
    obtain ⟨f, hf⟩ := received_links s (if host then (if drive then 10 else 9) else if drive then 1 else 0) w
    refine ⟨_, congrArg Host.Outcome.next (heartbeat_of_wordAt hw), ?_⟩
    rw [hf]
    cases drive
    all_goals
      cases host
      all_goals rfl
  case chDue =>
    intro s c d hlatched hdue hgood
    refine congrArg Host.Outcome.next ((opCommandDue_chNum c true).trans ?_)
    simp only [State.switchDue, hlatched, Nat.not_lt.mpr hdue, hgood, Bool.and_self, if_false, if_true]
  case acDue =>
    intro s c d hlatched hgood
    refine congrArg Host.Outcome.next ((opCommandDue_acObject c true).trans ?_)
    simp only [State.driveDue, hlatched, hgood, Bool.and_self, if_true]
  case bad =>
    intro s c d ok hlatched hdue hbad
    refine congrArg Host.Outcome.next ((opCommandDue_chNum c ok).trans ?_)
    have h : ¬ (ok && d.good) = true := by
      rw [Bool.and_eq_true]
      rintro ⟨hok, hgood⟩
      rcases hbad with h | h
      · exact Bool.false_ne_true (h.symm.trans hok)
      · exact Bool.false_ne_true (h.symm.trans hgood)
    simp only [State.switchDue, hlatched, Nat.not_lt.mpr hdue, h, if_false]
    rfl

end Sys2Proof.WeftEventProofs

/-! What the twin's lead, its token and its handover leave of the twin's own state (spec/15): the role, the pair's state, the token and the counters
stay through everything a change of the lead does to the shared objects and the groups. -/

namespace Sys2Proof.ReplyProofs

open Sys2Proof Sys2Proof.Machine Sys2Proof.Laws

variable {s t u : State}

theorem TwinReplied.trans (h : TwinReplied s t) (k : TwinReplied t u) : TwinReplied s u := Eq.trans k h

theorem TwinReplied.forEach {α : Type} {f : α → State → State} (hf : ∀ x t, TwinReplied t (f x t)) (h : TwinReplied s t) (l : List α) :
    TwinReplied s (t.forEach l f) := by
  induction l generalizing t with
  | nil => exact h
  | cons x l ih => exact ih (h.trans (hf x t))

theorem TwinReplied.field {α : Type} (h : TwinReplied s t) (f : Twin → α) (hf : ∀ x, f (restTwin x) = f x) : f t.twin = f s.twin :=
  (hf t.twin).symm.trans ((congrArg f h).trans (hf s.twin))

end Sys2Proof.ReplyProofs

namespace Sys2Proof.TwinProofs

open Sys2Proof Sys2Proof.Machine Sys2Proof.Laws Sys2Proof.ReplyProofs Sys2Proof.ProtectionProofs

variable {s t u : State} {m : List Part}

/-- The twin without its frames, and without the mirror that a new lead uses up. -/
def coreTwin (t : Twin) : Twin := { restTwin t with mirror := [], groups := Tab.fill 16 MirrorGroup.reset, stored := 0 }

/-- The core of the twin is as it was. -/
def TwinKept (s t : State) : Prop := coreTwin t.twin = coreTwin s.twin

theorem TwinKept.trans (h : TwinKept s t) (k : TwinKept t u) : TwinKept s u := Eq.trans k h

theorem TwinKept.of_keeps (h : Keeps m s t) (hm : .twin ∉ m) : TwinKept s t := congrArg coreTwin (h.only.same .twin hm)

theorem TwinKept.of_replied (h : TwinReplied s t) : TwinKept s t :=
  congrArg (fun t : Twin => ({ t with mirror := [], groups := Tab.fill 16 MirrorGroup.reset, stored := 0 } : Twin)) h

theorem TwinKept.forEach {α : Type} {f : α → State → State} (hf : ∀ x t, TwinKept t (f x t)) (h : TwinKept s t) (l : List α) :
    TwinKept s (t.forEach l f) := by
  induction l generalizing t with
  | nil => exact h
  | cons x l ih => exact ih (h.trans (hf x t))

theorem TwinKept.field {α : Type} (h : TwinKept s t) (f : Twin → α) (hf : ∀ x, f (coreTwin x) = f x) : f t.twin = f s.twin :=
  (hf t.twin).symm.trans ((congrArg f h).trans (hf s.twin))

section
variable (h : TwinKept s t)
include h

theorem TwinKept.role : t.twin.role = s.twin.role := h.field Twin.role fun _ => rfl
theorem TwinKept.pair : t.twin.pair = s.twin.pair := h.field Twin.pair fun _ => rfl
theorem TwinKept.driven : t.twin.driven = s.twin.driven := h.field Twin.driven fun _ => rfl
theorem TwinKept.epoch : t.twin.epoch = s.twin.epoch := h.field Twin.epoch fun _ => rfl
theorem TwinKept.takeovers : t.twin.takeovers = s.twin.takeovers := h.field Twin.takeovers fun _ => rfl
theorem TwinKept.handover : t.twin.handover = s.twin.handover := h.field Twin.handover fun _ => rfl
theorem TwinKept.holdEnd : t.twin.holdEnd = s.twin.holdEnd := h.field Twin.holdEnd fun _ => rfl
theorem TwinKept.en : t.twin.en = s.twin.en := h.field Twin.en fun _ => rfl
theorem TwinKept.side : t.twin.side = s.twin.side := h.field Twin.side fun _ => rfl
theorem TwinKept.loneWait : t.twin.loneWait = s.twin.loneWait := h.field Twin.loneWait fun _ => rfl
theorem TwinKept.code : t.twin.code = s.twin.code := h.field Twin.code fun _ => rfl
theorem TwinKept.heardAt : t.twin.heardAt = s.twin.heardAt := h.field Twin.heardAt fun _ => rfl

end

/-! ## The shared objects -/

theorem fault_twinKept (s : State) (c : Cls) (island code p0 p1 p2 : Nat) : TwinKept s (s.fault c island code p0 p1 p2) :=
  .of_keeps (fault_keeps (m := [.rcd, .flt]) (by decide) (keeps_refl _ s)) (by decide)

theorem record_twinKept (s : State) (code source p0 p1 p2 : Nat) : TwinKept s (s.record code source p0 p1 p2) := rfl

theorem completeId_twinKept (s : State) (id : Nat) (st : Status) (b : List Byte) (detail : Nat := 0) : TwinKept s (s.completeId id st b detail) :=
  .of_replied (completeId_replied s id st b detail).twin

theorem endFire_twinReplied (s : State) (c : AcNo) (st : Status) (outcome detail diag : Nat) : TwinReplied s (s.endFire c st outcome detail diag) := by
  unfold State.endFire
  split
  · rfl
  · exact TwinReplied.trans (t := s.onCoil c fun x => { x with fire := none }) rfl (completeId_replied ..).twin

theorem endFireEarly_twinReplied (s : State) (c : AcNo) (why : RelWhy) : TwinReplied s (s.endFireEarly c why) := by
  unfold State.endFireEarly
  cases why
  case orphan =>
    dsimp only
    split
    · exact (TwinReplied.of_keeps (draw_keeps (m := [.free]) (by decide) (keeps_refl _ s)) (by decide)).trans (endFire_twinReplied ..)
    · rfl
  all_goals exact endFire_twinReplied ..

theorem acRelease_twinReplied (s : State) (c : AcNo) (why : RelWhy) : TwinReplied s (s.acRelease c why) := by
  unfold State.acRelease
  extract_lets x ph rest s₁ s₂
  split
  · have h : Keeps [.drv] s (s₂.settle c) := by
      refine settle_keeps (by decide) (onCoil_keeps (by decide) (dropBoost_keeps (by decide) (keeps_refl _ s)))
    exact (TwinReplied.of_keeps h (by decide)).trans (endFireEarly_twinReplied ..)
  · rfl

theorem acRelease_twinKept (s : State) (c : AcNo) (why : RelWhy) : TwinKept s (s.acRelease c why) := .of_replied (acRelease_twinReplied s c why)

theorem acOrphanRelease_twinKept (s : State) (c : AcNo) : TwinKept s (s.acOrphanRelease c) :=
  (acRelease_twinKept s c .orphan).trans (.of_keeps (acOrphanMark_keeps (m := [.rcd, .drv]) (by decide) (keeps_refl _ _)) (by decide))

theorem takeAct_twinKept (s : State) (c : AcNo) : TwinKept s (s.takeAct c) := by
  unfold State.takeAct
  extract_lets e s₁ eng s₂ now s₃
  split
  · rfl
  have h₂ : TwinKept s s₂ := by
    simp only [s₂]
    split
    · rfl
    split
    · exact TwinKept.of_keeps (m := [.free, .drv]) (fireNext_keeps (by decide) (onCoil_keeps (by decide) (keeps_refl _ s))) (by decide)
    · rfl
  split
  · have h₃ : TwinKept s s₃ := h₂.trans rfl
    split
    · exact h₃.trans (acOrphanRelease_twinKept s₃ c)
    · exact h₃
  · exact h₂

theorem takeShared_twinKept (s : State) : TwinKept s s.takeShared := by
  have hchans (l : List ChNo) : TwinKept s (s.forEach l fun c s => s.takeChan c) :=
    TwinKept.forEach (fun c t => .of_keeps (takeChan_keeps (m := [.free, .rcd, .sw]) (by decide) (keeps_refl _ t)) (by decide)) rfl l
  exact TwinKept.forEach (fun c t => takeAct_twinKept t c) (hchans _) _

theorem dropShared_twinReplied (s : State) : TwinReplied s s.dropShared := by
  have hchans : TwinReplied s (s.forEach s.sharedChans fun c s =>
      ((s.changeMode c { mode := .off, duty := 0, phase := 0, arg := 0 }).2.onChan c fun x =>
        { x with owner := .none, orphan := none, nextReg := none, latched := none }).rephase s.phaseSet) :=
    TwinReplied.forEach (fun c t => .of_keeps (m := [.sw]) (rephase_keeps (by decide) (onChan_keeps (by decide) (changeMode_keeps (by decide)
      (keeps_refl _ t)))) (by decide)) rfl _
  have hacts (c : AcNo) (t : State) : TwinReplied t ((t.acRelease c .command).onCoil c fun x =>
      { x with owner := .none, orphan := none, nextReg := none, latched := none }) := (acRelease_twinReplied t c .command).trans rfl
  exact TwinReplied.forEach hacts hchans _

theorem dropShared_twinKept (s : State) : TwinKept s s.dropShared := .of_replied (dropShared_twinReplied s)

theorem roleChanged_twinKept (s : State) : TwinKept s s.roleChanged :=
  .of_keeps (roleChanged_keeps (m := [.pwr, .rcd, .sw, .can, .acc]) (by decide) (keeps_refl _ s)) (by decide)

/-! ## The groups -/

theorem notifyHolder_twinKept (s : State) (g : Grp) (op : Nat) (b : List Byte) : TwinKept s (s.notifyHolder g op b) :=
  .of_replied (notifyHolder_replied s g op b).twin

theorem payDue_twinKept (s : State) (g : Grp) : TwinKept s (s.payDue g) := by
  unfold State.payDue
  have hpaid (n : Nat × List Byte) (t : State) : TwinKept t (t.notifyHolder g n.1 n.2) := notifyHolder_twinKept t g n.1 n.2
  refine TwinKept.forEach hpaid ?_ _
  exact .of_keeps (m := [.cmd]) (onGroup_keeps (by decide) (keeps_refl _ s)) (by decide)

theorem claimGroup_twinKept (s : State) (g : Grp) (k : Fin 4) (id addr : Nat) : TwinKept s (s.claimGroup g k id addr) := by
  unfold State.claimGroup
  exact TwinKept.trans (.of_keeps (m := [.cmd]) (onGroup_keeps (by decide) (keeps_refl _ s)) (by decide)) (payDue_twinKept _ g)

theorem claimGroups_twinKept (s : State) (k : Fin 4) (x : Session) : TwinKept s (s.claimGroups k x) := by
  unfold State.claimGroups
  exact TwinKept.forEach (fun g t => claimGroup_twinKept t g k x.id x.addr) (.of_keeps (keeps_refl [] s) (by decide)) _

theorem restoreGroups_twinKept (s : State) (stale planned : Bool) : TwinKept s (s.restoreGroups stale planned) := by
  unfold State.restoreGroups
  extract_lets s₁ s₂
  have h₁ : TwinKept s s₁ := by
    simp only [s₁]
    split
    · exact TwinKept.forEach (fun g t => .of_keeps (m := [.cmd]) (onGroup_keeps (by decide) (keeps_refl _ t)) (by decide))
        (.of_keeps (keeps_refl [] s) (by decide)) _
    · exact TwinKept.trans
        (TwinKept.forEach (fun g t => .of_keeps (restoreGroup_keeps (m := [.rcd, .cmd]) (by decide) (keeps_refl _ t)) (by decide))
          (.of_keeps (keeps_refl [] s) (by decide)) _)
        (.of_keeps (restoreUngrouped_keeps (m := [.rcd, .cmd]) (by decide) (keeps_refl _ _)) (by decide))
  have h₂ : TwinKept s s₂ := h₁.trans rfl
  refine TwinKept.forEach (fun k t => ?_) h₂ _
  split
  · exact claimGroups_twinKept ..
  · rfl

/-! ## Frames -/

theorem twinFrame_twinKept (s : State) (typ : Nat) (b : List Byte) (ack : Bool) (msn : Option Nat) (last : Bool) :
    TwinKept s (s.twinFrame typ b ack msn last) := .of_replied (twinFrame_twin s typ b ack msn last)

/-- The configuration of the pair, and the role, as before. -/
def SameSetup (s t : State) : Prop :=
  t.twin.en = s.twin.en ∧ t.twin.side = s.twin.side ∧ t.twin.loneWait = s.twin.loneWait ∧ t.twin.code = s.twin.code ∧ t.twin.role = s.twin.role

theorem TwinKept.sameSetup (h : TwinKept s t) : SameSetup s t := ⟨h.en, h.side, h.loneWait, h.code, h.role⟩

theorem SameSetup.trans (h : SameSetup s t) (k : SameSetup t u) : SameSetup s u := by
  obtain ⟨h₁, h₂, h₃, h₄, h₅⟩ := h
  obtain ⟨k₁, k₂, k₃, k₄, k₅⟩ := k
  exact ⟨k₁.trans h₁, k₂.trans h₂, k₃.trans h₃, k₄.trans h₄, k₅.trans h₅⟩

theorem startPairing_sameSetup (s : State) : SameSetup s s.startPairing := by
  unfold State.startPairing
  have hdraw : SameSetup s (State.drawBytes 16 s).2 :=
    (TwinKept.of_keeps (drawBytes_keeps (m := [.free]) (by decide) (keeps_refl _ s)) (by decide)).sameSetup
  generalize State.drawBytes 16 s = x at hdraw
  obtain ⟨n, t⟩ := x
  exact hdraw.trans (SameSetup.trans (t := t.onTwin _) ⟨rfl, rfl, rfl, rfl, rfl⟩ (twinFrame_twinKept ..).sameSetup)

end Sys2Proof.TwinProofs

/-! The token of the twin pair and its handover (spec/15). -/

namespace Sys2Proof.TwinProofs

open Sys2Proof Sys2Proof.Machine Sys2Proof.Laws Sys2Proof.ReplyProofs Sys2Proof.ProtectionProofs Sys2Proof.CommandProofs

variable {s t u : State}

/-! ## Taking the lead -/

theorem seize_twinKept (s : State) (p : PairState) :
    TwinKept (s.onTwin fun t => { t with role := .lead, driven := true, lineLow := true, pair := p, holdEnd := none, released := false })
      (s.seize p) := roleChanged_twinKept _

theorem seize_lead (s : State) (p : PairState) :
    (s.seize p).twin.role = .lead ∧ (s.seize p).twin.driven = true ∧ (s.seize p).twin.pair = p ∧ (s.seize p).twin.epoch = s.twin.epoch ∧
      (s.seize p).twin.takeovers = s.twin.takeovers := by
  have h := seize_twinKept s p
  exact ⟨h.role, h.driven, h.pair, h.epoch, h.takeovers⟩

/-- The twin's part in a takeover. -/
def tookOver (s : State) : State :=
  let t := s.twin
  let e := nextEpoch t.epoch
  let now := s.now
  (s.seize .lone).onTwin fun k =>
    { k with epoch := e, takeovers := satAdd 0xFFFF k.takeovers 1, agreed := false, handover := none, weftRx := none, msn := 0, acked := 0
             words := [], wordsLost := 0, later := []
             retryAt := if k.linkUp then some (now + 10000000) else none }

theorem takeOver_twinKept (s : State) : TwinKept (tookOver s) s.takeOver :=
  ((takeShared_twinKept (tookOver s)).trans (restoreGroups_twinKept _ _ _)).trans (record_twinKept ..)

theorem takeOver_lead (s : State) :
    s.takeOver.twin.role = .lead ∧ s.takeOver.twin.driven = true ∧ s.takeOver.twin.pair = .lone ∧
      s.takeOver.twin.epoch = nextEpoch s.twin.epoch ∧ s.takeOver.twin.takeovers = satAdd 0xFFFF s.twin.takeovers 1 := by
  obtain ⟨hrole, hdriven, hpair, -, htake⟩ := seize_lead s .lone
  have h := takeOver_twinKept s
  refine ⟨h.role.trans hrole, h.driven.trans hdriven, h.pair.trans hpair, h.epoch, h.takeovers.trans ?_⟩
  exact congrArg (fun n => satAdd 0xFFFF n 1) htake

theorem opTakeover_of_shadow (hrole : s.twin.role = .shadow) (hpair : s.twin.pair = .paired ∨ s.twin.pair = .broken) :
    opTakeover s =
      let u := s.onTwin fun k => { k with lineLow := false }
      if !(s.twin.linkUp || s.twin.cable) then (u.onTwin fun k => { k with cableOpen := true }).fault .B 8 0x6021 s.twin.role.num 0 0
      else if s.twin.linkUp && !s.twin.released then (u.onTwin fun k => { k with tokenFault := true }).fault .D 8 0x6020 0 0 0
      else u.takeOver := by
  have hgo : ¬ (s.twin.role ≠ .shadow ∨ (s.twin.pair ≠ .paired ∧ s.twin.pair ≠ .broken)) := by
    rintro (h | ⟨h₁, h₂⟩)
    · exact h hrole
    · exact hpair.elim h₁ h₂
  unfold opTakeover
  rw [if_neg hgo]

/-- A fault's word does not look at the twin, and leaves it. -/
theorem onTwin_fault (s : State) (f : Twin → Twin) (c : Cls) (island code p0 p1 p2 : Nat) :
    ((s.onTwin f).fault c island code p0 p1 p2).twin = f s.twin ∧ ((s.onTwin f).fault c island code p0 p1 p2).flt = (s.fault c island code p0 p1 p2).flt :=
  ⟨rfl, rfl⟩

/-! ## The end of the hold -/

theorem forEach_mem {α : Type} {P : State → Prop} {f : α → State → State} {a : α} (hkeep : ∀ x t, P t → P (f x t)) (hset : ∀ t, P (f a t))
    {l : List α} (ha : a ∈ l) (s : State) : P (s.forEach l f) := by
  have hall (l : List α) (t : State) (h : P t) : P (t.forEach l f) := by
    induction l generalizing t with
    | nil => exact h
    | cons x l ih => exact ih _ (hkeep x t h)
  induction l generalizing s with
  | nil => cases ha
  | cons x l ih =>
    cases ha with
    | head => exact hall l _ (hset s)
    | tail _ hmem => exact ih hmem _

/-- The channel is off and belongs to nobody. -/
def Dropped (c : ChNo) (s : State) : Prop := (s.chan c).mode = .off ∧ (s.chan c).owner = .none

theorem Dropped.of_chan {c : ChNo} (h : Dropped c s) (hm : (t.chan c).mode = (s.chan c).mode) (ho : (t.chan c).owner = (s.chan c).owner) :
    Dropped c t := ⟨hm.trans h.1, ho.trans h.2⟩

theorem enter_off_mode (s : State) (c : ChNo) : ((s.enter c { mode := .off, duty := 0, phase := 0, arg := 0 }).chan c).mode = .off := by
  unfold State.enter
  simp only [chan_onChan, Mode.isPwm, Bool.and_false, Bool.false_eq_true, if_false]
  split <;> rfl

theorem changeMode_off (s : State) (c : ChNo) :
    (s.changeMode c { mode := .off, duty := 0, phase := 0, arg := 0 }).2 =
      (s.onChan c fun x => x.toNormal s.now).enter c { mode := .off, duty := 0, phase := 0, arg := 0 } := by
  simp only [State.changeMode, if_true]

theorem Dropped.of_restPhase {c : ChNo} (h : Dropped c s) (hr : restPhase (t.chan c) = restPhase (s.chan c)) : Dropped c t := by
  have hmode := congrArg Chan.mode hr
  have howner := congrArg Chan.owner hr
  exact h.of_chan hmode howner

/-- One shared channel given up, before the phases turn. -/
def giveUp (c : ChNo) (s : State) : State :=
  (s.changeMode c { mode := .off, duty := 0, phase := 0, arg := 0 }).2.onChan c fun x =>
    { x with owner := .none, orphan := none, nextReg := none, latched := none }

theorem giveUp_dropped (s : State) (c : ChNo) : Dropped c (giveUp c s) := by
  unfold Dropped giveUp
  rw [chan_onChan, changeMode_off]
  exact ⟨enter_off_mode _ c, rfl⟩

theorem giveUp_chan_ne {c d : ChNo} (h : c ≠ d) (s : State) : (giveUp d s).chan c = s.chan c := by
  unfold giveUp
  rw [chan_onChan_ne _ _ h, changeMode_off, State.enter, chan_onChan_ne _ _ h, chan_onChan_ne _ _ h]

/-- One shared channel given up. -/
def dropChan (c : ChNo) (s : State) : State := (giveUp c s).rephase s.phaseSet

theorem dropChan_dropped (s : State) (c : ChNo) : Dropped c (dropChan c s) := (giveUp_dropped s c).of_restPhase (rephase_chan _ _ c)

theorem dropChan_keeps_dropped {c : ChNo} (d : ChNo) (s : State) (h : Dropped c s) : Dropped c (dropChan d s) := by
  by_cases hcd : c = d
  · subst hcd
    exact dropChan_dropped s c
  · have hgive : Dropped c (giveUp d s) := h.of_chan (congrArg Chan.mode (giveUp_chan_ne hcd s)) (congrArg Chan.owner (giveUp_chan_ne hcd s))
    exact hgive.of_restPhase (rephase_chan _ _ c)

/-- The channels but for the commands that wait. -/
def SwKept (s t : State) : Prop := ∀ c, restChan (t.chan c) = restChan (s.chan c)

theorem SwKept.trans (h : SwKept s t) (k : SwKept t u) : SwKept s u := fun c => (k c).trans (h c)

theorem SwKept.of_keeps {m : List Part} (h : Keeps m s t) (hm : .sw ∉ m) : SwKept s t := (SwReplied.of_keeps h hm).chan

theorem SwKept.dropped (h : SwKept s t) {c : ChNo} (hd : Dropped c s) : Dropped c t := by
  have hmode := congrArg Chan.mode (h c)
  have howner := congrArg Chan.owner (h c)
  exact hd.of_chan hmode howner

theorem endFire_swKept (s : State) (c : AcNo) (st : Status) (outcome detail diag : Nat) : SwKept s (s.endFire c st outcome detail diag) := by
  unfold State.endFire
  split
  · exact fun _ => rfl
  · exact SwKept.trans (.of_keeps (m := [.drv]) (onCoil_keeps (by decide) (keeps_refl _ s)) (by decide)) (completeId_replied ..).sw.chan

theorem acRelease_swKept (s : State) (c : AcNo) : SwKept s (s.acRelease c .command) := by
  unfold State.acRelease
  extract_lets x ph rest s₁ s₂
  split
  · have h : Keeps [.drv] s (s₂.settle c) := settle_keeps (by decide) (onCoil_keeps (by decide) (dropBoost_keeps (by decide) (keeps_refl _ s)))
    exact (SwKept.of_keeps h (by decide)).trans (endFire_swKept (s₂.settle c) c .state 2 0 0xFF)
  · exact fun _ => rfl

/-- One shared actuator given up. -/
def dropAct (c : AcNo) (s : State) : State :=
  (s.acRelease c .command).onCoil c fun x => { x with owner := .none, orphan := none, nextReg := none, latched := none }

theorem dropAct_swKept (s : State) (c : AcNo) : SwKept s (dropAct c s) :=
  (acRelease_swKept s c).trans (.of_keeps (m := [.drv]) (onCoil_keeps (by decide) (keeps_refl _ _)) (by decide))

theorem dropShared_eq (s : State) :
    s.dropShared = (s.forEach s.sharedChans dropChan).forEach (s.forEach s.sharedChans dropChan).sharedActs dropAct := rfl

theorem dropShared_dropped {c : ChNo} (h : (s.chan c).cfg.twinShared = true) : Dropped c s.dropShared := by
  have hmem : c ∈ s.sharedChans := List.mem_filter.2 ⟨List.mem_finRange c, h⟩
  have hchans : Dropped c (s.forEach s.sharedChans dropChan) := forEach_mem (dropChan_keeps_dropped (c := c)) (fun t => dropChan_dropped t c) hmem s
  have hall (l : List AcNo) (t : State) (ht : Dropped c t) : Dropped c (t.forEach l dropAct) := by
    induction l generalizing t with
    | nil => exact ht
    | cons d l ih => exact ih _ ((dropAct_swKept t d).dropped ht)
  rw [dropShared_eq]
  exact hall _ _ hchans

theorem offAnew_dropped {c : ChNo} (f : ChNo → Bool) (h : Dropped c s) : Dropped c (s.offAnew f) := by
  have hchan : (s.offAnew f).chan c = if f c then { s.chan c with ol := { (s.chan c).ol with evalFrom := s.now } } else s.chan c := by
    simp only [State.offAnew, State.chan, onSw_sw, Tab.get_mapIdx]
  refine h.of_chan ?_ ?_
  · rw [hchan]
    split <;> rfl
  · rw [hchan]
    split <;> rfl

theorem roleChanged_dropped {c : ChNo} (h : Dropped c s) : Dropped c s.roleChanged := by
  have hrest : Keeps [.pwr, .rcd, .can, .acc] (s.offAnew fun c => (s.chan c).cfg.twinShared) s.roleChanged :=
    relStart_keeps (by decide) (relStop_keeps (by decide) (radioEval_keeps (by decide) (keeps_refl _ _)))
  exact (SwKept.of_keeps hrest (by decide)).dropped (offAnew_dropped _ h)

/-- The module is shadow again. -/
def holdEnded (s : State) : State :=
  s.dropShared.onTwin fun k => { k with role := .shadow, pair := .waiting, lineLow := true, holdEnd := none, waitFrom := s.dropShared.now, agreed := false }

theorem opTokenReleaseHoldEnd_of_due {k : Nat} (hk : s.twin.holdEnd = some k) (hdue : k ≤ s.now) (hrun : s.clk.i8Run = true)
    (hen : s.twin.en = true) : opTokenReleaseHoldEnd true s = (holdEnded s).roleChanged := by
  have hrun' : s.dropShared.clk.i8Run = true := by
    rw [(dropShared_keeps (m := [.free, .out, .rcd, .cmd, .sw, .drv, .fld, .can, .far, .twin]) (by decide) (keeps_refl _ s)).only.same .clk (by decide)]
    exact hrun
  have hen' : s.dropShared.twin.en = true := (dropShared_twinKept s).en.trans hen
  simp only [opTokenReleaseHoldEnd, hk, Nat.not_lt.mpr hdue, if_false, hrun', hen', Bool.and_self, if_true]
  rfl

/-! ## Leading alone, and the pair's configuration -/

theorem opLoneLead_of_due (hen : s.twin.en = true) (hdriven : s.twin.driven = false) (hhold : s.twin.holdEnd = none)
    (hpair : s.twin.pair = .waiting ∨ s.twin.pair = .pairing)
    (hwait : 1000000 * s.twin.loneWait + (if s.twin.cable && s.twin.side then 50000 else 0) ≤ s.since s.twin.waitFrom) :
    opLoneLead false s =
      ((s.onTwin fun t => { t with lineLow := false || s.twin.driven }).seize .lone).record 0x6012 8 (b2n s.twin.cable) 0 0 := by
  have hgo : ¬ (!s.twin.en || false || s.twin.driven || s.twin.holdEnd.isSome ||
      !(decide (s.twin.pair = .waiting) || decide (s.twin.pair = .pairing))) = true := by
    rcases hpair with h | h
    · simp [hen, hdriven, hhold, h]
    · simp [hen, hdriven, hhold, h]
  unfold opLoneLead
  dsimp only
  exact (if_neg hgo).trans (if_neg (Nat.not_lt.mpr hwait))

theorem enterPair_setup (s : State) : s.enterPair.twin.en = true ∧ s.enterPair.twin.side = s.twin.side ∧ s.enterPair.twin.loneWait = s.twin.loneWait ∧
    s.enterPair.twin.code = s.twin.code ∧ s.enterPair.twin.role = .shadow := by
  unfold State.enterPair
  extract_lets t s₁ s₂
  have h : SameSetup s₁ s₂ := ((dropShared_twinKept s₁).trans (roleChanged_twinKept _)).sameSetup
  split
  · exact h.trans (startPairing_sameSetup s₂)
  · exact h

theorem leavePair_setup (s : State) : s.leavePair.twin.en = false ∧ s.leavePair.twin.side = s.twin.side ∧
    s.leavePair.twin.loneWait = s.twin.loneWait ∧ s.leavePair.twin.code = s.twin.code ∧ s.leavePair.twin.role = .none := by
  unfold State.leavePair
  extract_lets t s₁ s₂
  have h₁ : SameSetup s s₁ := by
    simp only [s₁]
    split <;> exact ⟨rfl, rfl, rfl, rfl, rfl⟩
  obtain ⟨-, hside, hwait, hcode, -⟩ := h₁
  have h : SameSetup s₂ (s₂.dropShared.roleChanged) := ((dropShared_twinKept s₂).trans (roleChanged_twinKept _)).sameSetup
  obtain ⟨ken, kside, kwait, kcode, krole⟩ := h
  exact ⟨ken, kside.trans hside, kwait.trans hwait, kcode.trans hcode, krole⟩

/-- What TWIN_CONFIG sets, and the role it gives. -/
def configured (p : List Byte) (s : State) : State :=
  s.onTwin fun t => { t with side := u8 p 1 == 1, loneWait := u8 p 2, code := slice p 4 8 }

def pairSet (p : List Byte) (s : State) : State :=
  if (u8 p 0 == 1) && !s.twin.en then (configured p s).enterPair
  else if !(u8 p 0 == 1) && s.twin.en then (configured p s).leavePair
  else configured p s

theorem pairSet_setup (p : List Byte) (s : State) :
    (pairSet p s).twin.en = (u8 p 0 == 1) ∧ (pairSet p s).twin.side = (u8 p 1 == 1) ∧ (pairSet p s).twin.loneWait = u8 p 2 ∧
      (pairSet p s).twin.code = slice p 4 8 ∧ ((u8 p 0 == 1) = true → s.twin.en = false → (pairSet p s).twin.role = .shadow) ∧
      ((u8 p 0 == 1) = false → s.twin.en = true → (pairSet p s).twin.role = .none) := by
  have hen : (configured p s).twin.en = s.twin.en := rfl
  have hset : (configured p s).twin.side = (u8 p 1 == 1) ∧ (configured p s).twin.loneWait = u8 p 2 ∧ (configured p s).twin.code = slice p 4 8 :=
    ⟨rfl, rfl, rfl⟩
  obtain ⟨hside, hwait, hcode⟩ := hset
  unfold pairSet
  cases hon : u8 p 0 == 1
  · cases hwas : s.twin.en
    · simp only [Bool.false_and, Bool.and_false, Bool.false_eq_true, if_false]
      exact ⟨hen.trans hwas, hside, hwait, hcode, nofun, fun _ => nofun⟩
    · obtain ⟨k₁, k₂, k₃, k₄, k₅⟩ := leavePair_setup (configured p s)
      simp only [Bool.false_and, Bool.not_false, Bool.and_true, Bool.false_eq_true, if_false, if_true]
      exact ⟨k₁, k₂.trans hside, k₃.trans hwait, k₄.trans hcode, nofun, fun _ _ => k₅⟩
  · cases hwas : s.twin.en
    · obtain ⟨k₁, k₂, k₃, k₄, k₅⟩ := enterPair_setup (configured p s)
      simp only [Bool.not_false, Bool.and_true, if_true]
      exact ⟨k₁, k₂.trans hside, k₃.trans hwait, k₄.trans hcode, fun _ _ => k₅, nofun⟩
    · simp only [Bool.not_true, Bool.and_false, Bool.false_and, Bool.false_eq_true, if_false]
      exact ⟨hen.trans hwas, hside, hwait, hcode, fun _ => nofun, nofun⟩

/-- The reply to TWIN_CONFIG. -/
def configReply (p : List Byte) (s : State) : List Byte :=
  le 1 (b2n (u8 p 0 == 1)) ++ le 1 (b2n (u8 p 1 == 1)) ++ le 1 (u8 p 2) ++ zeros 1 ++ le 1 s.twin.role.num ++ le 1 s.twin.pair.num ++ zeros 2

theorem opTwinConfig_of_begun {r : CmdRef} {q : Cmd} (hq : s.begun r = some q) (ho : q.opcode = 0x0C01) (hlen : q.params.length = 12)
    (hen : u8 q.params 0 ≤ 1) (hside : u8 q.params 1 ≤ 1) (hwait : u8 q.params 2 ≠ 0) (hcode : u8 q.params 3 = 1)
    (hpairing : s.twin.pair ≠ .pairing) (hpaired : s.twin.pair ≠ .paired) :
    opTwinConfig r s = (pairSet q.params s).complete q .ok (configReply q.params (pairSet q.params s)) := by
  have hgo : ¬ (q.params.length ≠ 12 ∨ 1 < u8 q.params 0 ∨ 1 < u8 q.params 1 ∨ u8 q.params 2 = 0 ∨ 1 < u8 q.params 3) := by omega
  have hbit : bit (u8 q.params 3) 0 = true := by rw [hcode]; rfl
  refine (onCommand_eq hq ho _).trans ?_
  simp only [hgo, if_false, hpairing, hpaired, decide_false, Bool.or_self, Bool.false_and, Bool.and_false, Bool.false_eq_true, hbit, if_true]
  rfl

/-- Settles O45, one event or command at a time. -/
theorem twinTokenComplete : Obligations.TwinTokenComplete := by
  refine ⟨?cable, ?takeover, ?token, ?broken, ?hold, ?lone, ?config, ?status⟩
  case cable =>
    intro s deciohm low hlink hrole
    have hgo : ¬ (s.twin.linkUp = true ∨ s.twin.role = .lead) := by simp [hlink, hrole]
    refine ⟨_, congrArg Host.Outcome.next (if_neg hgo), ?_, rfl, rfl⟩
    simp [onTwin_twin]
  case takeover =>
    intro s hrole hpair hcan
    have hcable : (!(s.twin.linkUp || s.twin.cable)) = false := by
      rcases hcan with ⟨hl, -⟩ | ⟨-, hc⟩
      · simp [hl]
      · simp [hc]
    have hreleased : (s.twin.linkUp && !s.twin.released) = false := by
      rcases hcan with ⟨-, hr⟩ | ⟨hl, -⟩
      · simp [hr]
      · simp [hl]
    refine ⟨_, congrArg Host.Outcome.next ((opTakeover_of_shadow hrole hpair).trans ?_), takeOver_lead (s.onTwin fun k => { k with lineLow := false })⟩
    simp only [hcable, hreleased, Bool.false_eq_true, if_false]
  case token =>
    intro s hrole hpair hlink hreleased
    refine ⟨_, congrArg Host.Outcome.next ((opTakeover_of_shadow hrole hpair).trans ?_), onTwin_fault s
      (fun t => { t with lineLow := false, tokenFault := true }) .D 8 0x6020 0 0 0⟩
    simp only [hlink, hreleased, Bool.true_or, Bool.not_true, Bool.not_false, Bool.and_self, Bool.false_eq_true, if_false, if_true]
    rfl
  case broken =>
    intro s hrole hpair hlink hcable
    refine ⟨_, congrArg Host.Outcome.next ((opTakeover_of_shadow hrole hpair).trans ?_), onTwin_fault s
      (fun t => { t with lineLow := false, cableOpen := true }) .B 8 0x6021 2 0 0⟩
    simp only [hlink, hcable, Bool.or_self, Bool.not_false, if_true, hrole]
    rfl
  case hold =>
    intro s k hk hdue hrun hen
    have h := roleChanged_twinKept (holdEnded s)
    refine ⟨_, congrArg Host.Outcome.next (opTokenReleaseHoldEnd_of_due hk hdue hrun hen), h.role, h.pair, h.holdEnd, fun c hc => ?_⟩
    exact roleChanged_dropped (dropShared_dropped hc)
  case lone =>
    intro s hen hdriven hhold hpair hwait
    obtain ⟨hrole, hdrives, hlone, -, -⟩ := seize_lead (s.onTwin fun t => { t with lineLow := false || s.twin.driven }) .lone
    exact ⟨_, congrArg Host.Outcome.next (opLoneLead_of_due hen hdriven hhold hpair hwait), hrole, hdrives, hlone⟩
  case config =>
    intro s r q hq ho hlen hen hside hwait hcode hpairing hpaired
    have hop := opTwinConfig_of_begun hq ho hlen hen hside hwait hcode hpairing hpaired
    obtain ⟨ken, kside, kwait, kcode, kon, koff⟩ := pairSet_setup q.params s
    have h : TwinKept (pairSet q.params s) ((pairSet q.params s).complete q .ok (configReply q.params (pairSet q.params s))) := .of_replied (complete_replied ..).twin
    refine ⟨_, congrArg Host.Outcome.next hop, h.en.trans ken, h.side.trans kside, h.loneWait.trans kwait, h.code.trans kcode, fun h1 => ?_, fun h0 => ?_⟩
    · exact fun hoff => h.role.trans (kon (by rw [h1]; rfl) hoff)
    · exact fun hon => h.role.trans (koff (by rw [h0]; rfl) hon)
  case status =>
    intro s r q hq ho hp
    refine congrArg Host.Outcome.next ((onCommand_eq hq ho _).trans ?_)
    simp only [hp, List.length_nil, ne_eq, not_true_eq_false, if_false]

end Sys2Proof.TwinProofs

/-! The planned handover of the twin pair (spec/15, R418). -/

namespace Sys2Proof.TwinProofs

open Sys2Proof Sys2Proof.Machine Sys2Proof.Laws Sys2Proof.ReplyProofs Sys2Proof.CommandProofs

variable {s t : State}

/-! ## Asking for it -/

/-- Handing a command over touches the commands only. -/
theorem handOver_cmd (s : State) (q : Cmd) (st : Stage) : ∃ f, s.handOver q st = s.onCmd f := by
  unfold State.handOver
  dsimp only
  split
  next => exact ⟨fun c => { c with sources := c.sources.upd q.src.idx fun x => { x with exec := some { q with stage := st } } }, rfl⟩
  next g _ => exact ⟨fun c => { c with groups := c.groups.upd g fun x =>
      if q.posted then { (x.drop q.id) with handed := x.handed ++ [{ q with stage := st }] } else { x with exec := some { q with stage := st } } }, rfl⟩

/-- The lead has asked for a handover. -/
def asked (s : State) (q : Cmd) : State :=
  (s.handOver q .core).onTwin fun t => { t with handover := some { frame := (s.warp + 2999) / 1000, cmd := some q.id, accepted := false, gone := false } }

theorem opTwinHandover_of_begun {r : CmdRef} {q : Cmd} (hq : s.begun r = some q) (ho : q.opcode = 0x0C02) (hp : q.params = [])
    (hrole : s.twin.role = .lead) (hpair : s.twin.pair = .paired) (hlock : s.inLockstep = true) (hsafe : s.flt.forceSafe = false)
    (hnone : s.twin.handover = none) : opTwinHandover r s = (asked s q).handoverFrame 0 0 := by
  refine (onCommand_eq hq ho _).trans ?_
  simp only [hp, List.length_nil, ne_eq, not_true_eq_false, if_false, hrole, hpair, hlock, hsafe, hnone, Option.isSome_none, Bool.false_eq_true,
    Bool.true_eq_false, or_self, reduceCtorEq]
  rfl

theorem twinFrame_waits (s : State) (typ : Nat) (b : List Byte) (ack : Bool) (msn : Option Nat) (last : Bool) (h : s.twinWaits typ = true) :
    s.twinFrame typ b ack msn last =
      s.onTwin fun t => { t with later := t.later ++ [{ typ := typ, payload := b, ack := ack, msn := msn, last := last }] } :=
  if_pos h

theorem twinFrame_goes (s : State) (typ : Nat) (b : List Byte) (ack : Bool) (msn : Option Nat) (last : Bool) (h : s.twinWaits typ = false) :
    s.twinFrame typ b ack msn last = s.twinSend typ b ack msn last :=
  if_neg fun hw => Bool.false_ne_true (h.symm.trans hw)

theorem asked_out {q : Cmd} (hgoes : s.twinWaits 0x40 = false) :
    ((asked s q).handoverFrame 0 0).out = .twin (twinBytes 0x40 true s.twin.frameEpoch s.twin.txSeq (zeros 8)) :: s.out := by
  obtain ⟨f, hf⟩ := handOver_cmd s q .core
  unfold State.handoverFrame asked
  rw [hf]
  refine (congrArg State.out (twinFrame_goes _ _ _ _ _ _ ?_)).trans ?_
  · exact hgoes
  · rfl

/-! ## A frame of the handover -/

/-- The state in which the frame has been heard and answered. -/
def heardFrame (s : State) (f : List Byte) : State := (s.onTwin fun k => { k with heardAt := s.now, released := false }).twinAnswer f

theorem handoverTake_of_frame {f : List Byte} {action : Nat} (hlink : s.twin.linkUp = true) (hrun : s.clk.i8Run = true)
    (hok : s.twin.frameOk f = true) (htyp : u8 f 0 = 0x40) (haction : u8 (slice f 12 (u16 f 2)) 0 = action) :
    s.handoverTake f action = (some (slice f 12 (u16 f 2)), heardFrame s f) := by
  have htake : s.twinTake 0x40 f = (some (slice f 12 (u16 f 2)), s.onTwin fun k => { k with heardAt := s.now, released := false }) := by
    simp only [State.twinTake, hrun, hok, hlink, htyp, Bool.not_true, Bool.false_eq_true, ne_eq, not_true_eq_false, if_false]
  unfold State.handoverTake
  rw [htake]
  exact if_pos haction

/-- An answer goes out at once (R400), and is no frame that waits for its own answer. -/
theorem twinAnswer_twin (s : State) (f : List Byte) : ∃ n o, s.twinAnswer f = ({ s with out := o } : State).onTwin fun t => { t with txSeq := n } := by
  have hgoes : s.twinWaits 0x7E = false := by
    unfold State.twinWaits
    exact Bool.and_false _
  unfold State.twinAnswer
  split
  · exact ⟨(s.twin.txSeq + 1) % 2 ^ 32, _, twinFrame_goes _ _ _ _ _ _ hgoes⟩
  · exact ⟨s.twin.txSeq, s.out, rfl⟩

/-- What the frame leaves of the state: the twin's time of hearing, its next number and what went out. -/
theorem heardFrame_eq (s : State) (f : List Byte) : ∃ n o, heardFrame s f = ({ s with out := o } : State).onTwin fun t =>
    { t with heardAt := s.now, released := false, txSeq := n } := by
  obtain ⟨n, o, h⟩ := twinAnswer_twin (s.onTwin fun k => { k with heardAt := s.now, released := false }) f
  exact ⟨n, o, h⟩

/-- What a shadow answers to the request. -/
def requestAnswer (s : State) : Nat :=
  if s.twin.role = .shadow ∧ s.twin.pair = .paired ∧ s.twin.msnSeen = s.twin.stored ∧ s.inLockstep = true ∧ s.flt.forceSafe = false then 1 else 2

theorem opHandoverRequest_of_frame {f : List Byte} (hlink : s.twin.linkUp = true) (hrun : s.clk.i8Run = true)
    (hok : s.twin.frameOk f = true) (htyp : u8 f 0 = 0x40) (haction : u8 (slice f 12 (u16 f 2)) 0 = 0) :
    opHandoverRequest f s = (heardFrame s f).handoverFrame (requestAnswer (heardFrame s f)) 0 := by
  unfold opHandoverRequest
  rw [handoverTake_of_frame hlink hrun hok htyp haction]
  dsimp only [requestAnswer]
  refine congrArg (fun n => (heardFrame s f).handoverFrame n 0) ?_
  simp only [Bool.and_eq_true, decide_eq_true_eq, Bool.not_eq_true', and_assoc]

theorem requestAnswer_heardFrame (s : State) (f : List Byte) : requestAnswer (heardFrame s f) = requestAnswer s := by
  obtain ⟨n, o, h⟩ := heardFrame_eq s f
  rw [h]
  rfl

theorem opHandoverRequest_answers {f : List Byte} {action : Nat} (hlink : s.twin.linkUp = true) (hrun : s.clk.i8Run = true)
    (hok : s.twin.frameOk f = true) (htyp : u8 f 0 = 0x40) (haction : u8 (slice f 12 (u16 f 2)) 0 = 0) (hanswer : action = requestAnswer s) :
    (opHandoverRequest f s).twin.role = s.twin.role ∧ (opHandoverRequest f s).twin.heardAt = s.now ∧
      (if s.twinWaits 0x40 = true then (opHandoverRequest f s).twin.later.getLast? =
          some { typ := 0x40, payload := le 1 action ++ zeros 3 ++ le 4 0, ack := true, msn := none, last := false }
        else ∃ n, (opHandoverRequest f s).out.head? =
          some (.twin (twinBytes 0x40 true s.twin.frameEpoch n (le 1 action ++ zeros 3 ++ le 4 0)))) := by
  rw [opHandoverRequest_of_frame hlink hrun hok htyp haction, requestAnswer_heardFrame, ← hanswer]
  obtain ⟨n, o, h⟩ := heardFrame_eq s f
  have hrole : (heardFrame s f).twin.role = s.twin.role := by rw [h]; rfl
  have hheard : (heardFrame s f).twin.heardAt = s.now := by rw [h]; rfl
  have hepoch : (heardFrame s f).twin.frameEpoch = s.twin.frameEpoch := by rw [h]; rfl
  have hwaits : (heardFrame s f).twinWaits 0x40 = s.twinWaits 0x40 := by rw [h]; rfl
  have hkept : TwinKept (heardFrame s f) ((heardFrame s f).handoverFrame action 0) := twinFrame_twinKept ..
  refine ⟨hkept.role.trans hrole, hkept.heardAt.trans hheard, ?_⟩
  rw [← hwaits, ← hepoch]
  unfold State.handoverFrame
  split
  next hw =>
    rw [twinFrame_waits _ _ _ _ _ _ hw]
    simp only [onTwin_twin, List.getLast?_append, List.getLast?_singleton, Option.some_or]
  next hg =>
    rw [twinFrame_goes _ _ _ _ _ _ (Bool.eq_false_of_not_eq_true hg)]
    exact ⟨(heardFrame s f).twin.txSeq, rfl⟩

theorem opHandoverAccept_of_frame {f : List Byte} {h : Handover} (hlink : s.twin.linkUp = true) (hrun : s.clk.i8Run = true)
    (hok : s.twin.frameOk f = true) (htyp : u8 f 0 = 0x40) (haction : u8 (slice f 12 (u16 f 2)) 0 = 1) (hh : s.twin.handover = some h) :
    (opHandoverAccept f s).twin.handover = some { h with accepted := true } := by
  obtain ⟨n, o, heq⟩ := heardFrame_eq s f
  unfold opHandoverAccept
  rw [handoverTake_of_frame hlink hrun hok htyp haction]
  dsimp only
  rw [heq]
  exact congrArg (Option.map fun h : Handover => { h with accepted := true }) hh

theorem handoverRefused_ended {h : Handover} (hh : s.twin.handover = some h) :
    s.handoverRefused.twin.handover = none ∧ s.handoverRefused.twin.role = s.twin.role ∧ s.handoverRefused.twin.pair = s.twin.pair := by
  unfold State.handoverRefused
  rw [hh]
  dsimp only
  split
  next c _ =>
    have hkept := completeId_twinKept (s.onTwin fun t => { t with handover := none }) c .state []
    exact ⟨hkept.handover, hkept.role, hkept.pair⟩
  next => exact ⟨rfl, rfl, rfl⟩

theorem opHandoverRefuse_of_frame {f : List Byte} {h : Handover} (hlink : s.twin.linkUp = true) (hrun : s.clk.i8Run = true)
    (hok : s.twin.frameOk f = true) (htyp : u8 f 0 = 0x40) (haction : u8 (slice f 12 (u16 f 2)) 0 = 2) (hh : s.twin.handover = some h)
    (haccepted : h.accepted = false) (hgone : h.gone = false) (hwait : s.twin.weftWait = []) :
    opHandoverRefuse f s = (heardFrame s f).handoverRefused := by
  obtain ⟨n, o, heq⟩ := heardFrame_eq s f
  have hh' : (heardFrame s f).twin.handover = some h := by
    rw [heq]
    exact hh
  have hwait' : (heardFrame s f).twin.weftWait = [] := by
    rw [heq]
    exact hwait
  unfold opHandoverRefuse
  rw [handoverTake_of_frame hlink hrun hok htyp haction]
  simp only [State.refusedByShadow, hh', hwait', Option.any_some, haccepted, hgone, Bool.not_false, Bool.and_self, if_true]

/-! ## The go and the end -/

/-- The shadow that leads from the go on. -/
def wentOver (s : State) : State :=
  let e := nextEpoch s.twin.epoch
  let s := s.seize .paired
  let cfg := s.mirrorCfg
  let h : Handover := { frame := s.frame, cmd := none, accepted := true, gone := true }
  s.onTwin fun t => { t with epoch := e, takeovers := satAdd 0xFFFF t.takeovers 1, msn := 0, acked := 0, sentCfg := cfg, handover := some h }

theorem wentOver_lead (s : State) : (wentOver s).twin.role = .lead ∧ (wentOver s).twin.driven = true ∧ (wentOver s).twin.pair = .paired ∧
    (wentOver s).twin.epoch = nextEpoch s.twin.epoch ∧ (wentOver s).twin.takeovers = satAdd 0xFFFF s.twin.takeovers 1 := by
  obtain ⟨hrole, hdriven, hpair, -, htake⟩ := seize_lead s .paired
  exact ⟨hrole, hdriven, hpair, rfl, congrArg (fun n => satAdd 0xFFFF n 1) htake⟩

theorem opHandoverGo_of_frame {f : List Byte} (hlink : s.twin.linkUp = true) (hrun : s.clk.i8Run = true) (hok : s.twin.frameOk f = true)
    (htyp : u8 f 0 = 0x40) (haction : u8 (slice f 12 (u16 f 2)) 0 = 3) (hrole : s.twin.role = .shadow) (hpair : s.twin.pair = .paired) :
    opHandoverGo f s = (wentOver (heardFrame s f)).takeShared.restoreGroups false true := by
  obtain ⟨n, o, heq⟩ := heardFrame_eq s f
  have hgo : ¬ ((heardFrame s f).twin.role ≠ .shadow ∨ (heardFrame s f).twin.pair ≠ .paired) := by
    rw [heq]
    exact not_or.2 ⟨not_not_intro hrole, not_not_intro hpair⟩
  unfold opHandoverGo
  rw [handoverTake_of_frame hlink hrun hok htyp haction]
  exact if_neg hgo

/-- The lead that is shadow from now on. -/
def gaveOver (s : State) (c : Nat) : State :=
  let s := if s.twin.linkUp && s.clk.i8Run then s.twinFrame 0x7F [] false none false else s
  let s := (s.record 0x6011 8 s.twin.epoch 1000 0).completeId c .ok (le 4 s.twin.epoch ++ le 2 1000 ++ zeros 2)
  let now := s.now
  s.dropShared.onTwin fun t => { t with handover := none, role := .shadow, driven := false, beatAt := now }

theorem opHandoverComplete_of_lead {h : Handover} {c : Nat} (hh : s.twin.handover = some h) (hgone : h.gone = true) (hframe : h.frame < s.frame)
    (hcmd : h.cmd = some c) : opHandoverComplete s = (gaveOver s c).roleChanged.forEach allGroups fun g s => s.onGroup g Group.release := by
  have hgo : ¬ (h.gone = false ∨ s.frame ≤ h.frame) := by
    rw [hgone]
    simp only [Bool.true_eq_false, false_or]
    omega
  unfold opHandoverComplete
  rw [hh]
  dsimp only
  rw [if_neg hgo, hcmd]
  rfl

theorem opHandoverComplete_of_shadow {h : Handover} (hh : s.twin.handover = some h) (hgone : h.gone = true) (hframe : h.frame < s.frame)
    (hcmd : h.cmd = none) : opHandoverComplete s = (s.onTwin fun t => { t with handover := none }).record 0x6011 8 s.twin.epoch 1000 1 := by
  have hgo : ¬ (h.gone = false ∨ s.frame ≤ h.frame) := by
    rw [hgone]
    simp only [Bool.true_eq_false, false_or]
    omega
  unfold opHandoverComplete
  rw [hh]
  dsimp only
  rw [if_neg hgo, hcmd]

theorem releaseAll_twinKept (s : State) : TwinKept s (s.forEach allGroups fun g s => s.onGroup g Group.release) :=
  TwinKept.forEach (fun g t => .of_keeps (m := [.cmd]) (onGroup_keeps (by decide) (keeps_refl _ t)) (by decide)) (.of_keeps (keeps_refl [] s) (by decide)) _

/-- Settles O46, one step of the handover at a time. -/
theorem twinHandoverComplete : Obligations.TwinHandoverComplete := by
  refine ⟨?ask, ?request, ?accept, ?refuse, ?go, ?lead, ?shadow⟩
  case ask =>
    intro s r q hq ho hp hrole hpair hlock hsafe hnone
    have h : TwinKept (asked s q) ((asked s q).handoverFrame 0 0) := twinFrame_twinKept ..
    obtain ⟨f, hf⟩ := handOver_cmd s q .core
    have hstill : (asked s q).twin.role = .lead := by
      unfold asked
      rw [hf]
      exact hrole
    exact ⟨_, congrArg Host.Outcome.next (opTwinHandover_of_begun hq ho hp hrole hpair hlock hsafe hnone), h.handover, h.role.trans hstill, asked_out⟩
  case request =>
    intro s f action hlink hrun hok htyp haction hanswer
    exact ⟨_, rfl, opHandoverRequest_answers hlink hrun hok htyp haction hanswer⟩
  case accept =>
    intro s f h hlink hrun hok htyp haction hh
    exact ⟨_, rfl, opHandoverAccept_of_frame hlink hrun hok htyp haction hh⟩
  case refuse =>
    intro s f h hlink hrun hok htyp haction hh haccepted hgone hwait
    obtain ⟨n, o, heq⟩ := heardFrame_eq s f
    refine ⟨_, congrArg Host.Outcome.next (opHandoverRefuse_of_frame hlink hrun hok htyp haction hh haccepted hgone hwait), ?_⟩
    rw [heq]
    exact handoverRefused_ended (h := h) hh
  case go =>
    intro s f hlink hrun hok htyp haction hrole hpair
    obtain ⟨n, o, heq⟩ := heardFrame_eq s f
    have h := (takeShared_twinKept (wentOver (heardFrame s f))).trans (restoreGroups_twinKept _ false true)
    obtain ⟨krole, kdriven, kpair, kepoch, ktake⟩ := wentOver_lead (heardFrame s f)
    refine ⟨_, congrArg Host.Outcome.next (opHandoverGo_of_frame hlink hrun hok htyp haction hrole hpair), h.role.trans krole, h.driven.trans kdriven,
      h.pair.trans kpair, h.epoch.trans (kepoch.trans ?_), h.takeovers.trans (ktake.trans ?_)⟩
    · rw [heq]
      rfl
    · rw [heq]
      rfl
  case lead =>
    intro s h c hh hgone hframe hcmd
    have hkept := (roleChanged_twinKept (gaveOver s c)).trans (releaseAll_twinKept _)
    exact ⟨_, congrArg Host.Outcome.next (opHandoverComplete_of_lead hh hgone hframe hcmd), hkept.handover, hkept.role, hkept.driven⟩
  case shadow =>
    intro s h hh hgone hframe hcmd
    exact ⟨_, congrArg Host.Outcome.next (opHandoverComplete_of_shadow hh hgone hframe hcmd), rfl, rfl, rfl⟩

end Sys2Proof.TwinProofs

/-! What the end of a command leaves of the commands' own part, of the twin and of what the module has sent (R280 to R283, R405). -/

namespace Sys2Proof.ReplyProofs

open Sys2Proof Sys2Proof.Machine Sys2Proof.Laws

variable {s t u : State} {m : List Part}

/-- The commands' part without what a reply may change of it. -/
def restCommands (c : Commands) : Commands :=
  { c with noteLost := 0, sessions := Tab.fill 4 none, sources := Tab.fill 6 Source.reset, groups := Tab.fill 16 Group.reset, load := none }

/-- What a reply leaves: the settings of the commands' part, a load that is not of a closed session, what was sent before, and, unless the mirror
takes part, the twin. -/
structure Said (s t : State) : Prop where
  rest : restCommands t.cmd = restCommands s.cmd
  load : t.cmd.load = s.cmd.load ∨ t.cmd.load = none
  out : s.out <:+ t.out
  twin : s.mirrors = false → t.twin = s.twin

theorem Said.serving (h : Said s t) : t.cmd.serving = s.cmd.serving := by
  have hserving := congrArg Commands.serving h.rest
  exact hserving

theorem Said.load_none (h : Said s t) (hl : s.cmd.load = none) : t.cmd.load = none := h.load.elim (fun k => k.trans hl) id

theorem mirrors_of_twin (h : t.twin = s.twin) : t.mirrors = s.mirrors := by
  simp only [State.mirrors, h]

theorem Said.refl (s : State) : Said s s := ⟨rfl, .inl rfl, List.suffix_rfl, fun _ => rfl⟩

theorem Said.trans (h : Said s t) (k : Said t u) : Said s u := by
  refine ⟨k.rest.trans h.rest, ?_, h.out.trans k.out, fun hm => ?_⟩
  · rcases k.load with hk | hk
    · rcases h.load with hh | hh
      · exact .inl (hk.trans hh)
      · exact .inr (hk.trans hh)
    · exact .inr hk
  · have ht := h.twin hm
    exact (k.twin ((mirrors_of_twin ht).trans hm)).trans ht

/-- Neither the commands' part, nor what was sent, nor the twin. -/
theorem Said.of_keeps (h : Keeps m s t) (hcmd : .cmd ∉ m) (hout : .out ∉ m) (htwin : .twin ∉ m) : Said s t := by
  have cmd : t.cmd = s.cmd := h.only.same .cmd hcmd
  have out : t.out = s.out := h.only.same .out hout
  exact ⟨by rw [cmd], .inl (by rw [cmd]), by rw [out], fun _ => h.only.same .twin htwin⟩

/-- What the mirror does, it does with the twin and what it sends. -/
theorem Said.of_twin (h : Keeps [.out, .twin] s t) (hout : s.out <:+ t.out) (htwin : s.mirrors = false → t.twin = s.twin) : Said s t := by
  have cmd : t.cmd = s.cmd := h.only.same .cmd (by decide)
  exact ⟨by rw [cmd], .inl (by rw [cmd]), hout, htwin⟩

theorem Said.ite {p : Prop} [Decidable p] (h : Said s t) (k : Said s u) : Said s (if p then t else u) := by
  split
  · exact h
  · exact k

theorem Said.forEach {α : Type} {f : α → State → State} (hf : ∀ x t, Said t (f x t)) (h : Said s t) (l : List α) : Said s (t.forEach l f) := by
  induction l generalizing t with
  | nil => exact h
  | cons x l ih => exact ih (h.trans (hf x t))

theorem onCmd_said (s : State) {f : Commands → Commands} (hf : ∀ c, restCommands (f c) = restCommands c)
    (hl : ∀ c, (f c).load = c.load ∨ (f c).load = none) : Said s (s.onCmd f) := ⟨hf s.cmd, hl s.cmd, List.suffix_rfl, fun _ => rfl⟩

theorem onGroup_said (s : State) (g : Grp) (f : Group → Group) : Said s (s.onGroup g f) := onCmd_said s (fun _ => rfl) fun _ => .inl rfl

theorem onSource_said (s : State) (i : Fin 6) (f : Source → Source) : Said s (s.onSource i f) := onCmd_said s (fun _ => rfl) fun _ => .inl rfl

/-! ## The mirror -/

theorem twinFrame_out (s : State) (typ : Nat) (b : List Byte) (ack : Bool) (msn : Option Nat) (last : Bool) :
    s.out <:+ (s.twinFrame typ b ack msn last).out := by
  unfold State.twinFrame
  split
  · exact List.suffix_rfl
  · exact List.suffix_cons _ _

theorem mirrorFrame_out (s : State) (typ : Nat) (b : List Byte) : s.out <:+ (s.mirrorFrame typ b).out :=
  twinFrame_out (s.onTwin fun t => { t with msn := s.twin.msn + 1 }) typ (le 4 (s.twin.msn + 1) ++ b) true (some (s.twin.msn + 1)) false

theorem sendConfig_out (n : Nat) (l : List (Nat × Nat)) (s : State) : s.out <:+ (State.sendConfig n l s).out := by
  fun_induction State.sendConfig n l s with
  | case1 => exact List.suffix_rfl
  | case2 => exact List.suffix_rfl
  | case3 s k l _ part ih => exact (mirrorFrame_out ..).trans ih

theorem mirrorConfig_out (s : State) : s.out <:+ s.mirrorConfig.out := by
  unfold State.mirrorConfig
  extract_lets l new
  clear_value new l
  split
  · rw [onTwin_out]
    exact sendConfig_out 16 new s
  · exact List.suffix_rfl

theorem mirrorDone_said (s : State) (g : Grp) (tag status : Nat) (k : Causes) (b : List Byte) : Said s (s.mirrorDone g tag status k b) := by
  refine .of_twin (mirrorDone_keeps (List.Subset.refl _) (keeps_refl _ s)) ?_ fun hm => ?_
  · unfold State.mirrorDone
    split
    · exact (mirrorConfig_out s).trans (mirrorFrame_out ..)
    · exact List.suffix_rfl
  · rw [State.mirrorDone, if_neg fun h => Bool.false_ne_true (hm.symm.trans h)]

theorem doneStage_said (s : State) (c : Cmd) (st : Status) (fails : Bool) (b : List Byte) : Said s (s.doneStage c st fails b) := by
  unfold State.doneStage
  split
  · exact .refl s
  · exact mirrorDone_said ..

/-! ## Packets -/

theorem closeSession_said (s : State) (k : Fin 4) (cause : Nat) : Said s (s.closeSession k cause) := by
  unfold State.closeSession
  split
  · exact .refl s
  · extract_lets src own ids s₁ s₂
    have h₁ : Said s s₁ := .of_keeps (m := [.sw, .drv, .fld, .far]) (withdraw_keeps (by decide) (farGone_keeps (by decide) (keeps_refl _ s)))
      (by decide) (by decide) (by decide)
    have h₂ : Said s s₂ := by
      refine h₁.trans (onCmd_said s₁ (fun _ => rfl) fun c => ?_)
      cases c.load with
      | none => exact .inl rfl
      | some l =>
        by_cases hl : l.src = src
        · exact .inr (if_pos hl)
        · exact .inl (if_neg hl)
    exact h₂.trans (.of_keeps (record_keeps (m := [.rcd]) (by decide) (keeps_refl _ _)) (by decide) (by decide) (by decide))

theorem sendUdp_said (s : State) (a b c : Nat) (l : List Byte) : Said s (s.sendUdp a b c l) := by
  unfold State.sendUdp
  split
  · exact .refl s
  · exact ⟨rfl, .inl rfl, List.suffix_cons _ _, fun _ => rfl⟩

theorem sendPacket_said (s : State) (src : Src) (a b c d : Nat) (l : List Byte) : Said s (s.sendPacket src a b c d l) := by
  unfold State.sendPacket
  split
  · exact .of_keeps (sendCan_keeps (m := [.can]) (by decide) (keeps_refl _ s)) (by decide) (by decide) (by decide)
  · exact sendUdp_said ..
  next k =>
    split
    · exact .refl s
    · extract_lets seq hdr s₁ s₂
      have h₂ : Said s s₂ := (sendUdp_said ..).trans (onCmd_said s₁ (fun _ => rfl) fun _ => .inl rfl)
      exact .ite (h₂.trans (closeSession_said ..)) h₂

theorem sendOrHold_said (s : State) (mirrored : Bool) (src : Src) (id a b c d : Nat) (l : List Byte) :
    Said s (s.sendOrHold mirrored src id a b c d l) := by
  unfold State.sendOrHold
  split
  · exact .refl s
  split
  next hheld =>
    refine ⟨rfl, .inl rfl, List.suffix_rfl, fun hm => ?_⟩
    simp only [hm, Bool.and_false, Bool.false_and, Bool.false_eq_true] at hheld
  next => exact sendPacket_said ..

/-! ## Replies and notifications -/

theorem replyWith_said (s : State) (c : Cmd) (flags : Nat) (st : Status) (b : List Byte) (final last : Bool) :
    Said s (s.replyWith c flags st b final last) := by
  unfold State.replyWith
  extract_lets p s₁ addr s₂
  have h₁ : Said s s₁ := .ite (doneStage_said ..) (.refl s)
  have h₂ : Said s s₂ := h₁.trans (sendOrHold_said ..)
  split
  · exact h₂
  · exact h₂.trans (onGroup_said ..)

theorem replyEnd_said (s : State) (c : Cmd) (st : Status) (b : List Byte) : Said s (s.replyEnd c st b) :=
  .ite (replyWith_said ..) (replyWith_said ..)

theorem acceptWaiting_said (s : State) (g : Grp) : Said s (s.acceptWaiting g) := by
  unfold State.acceptWaiting
  extract_lets s₁ x s₂
  have h₂ : Said s s₂ := .forEach (fun c t => .ite (.refl t) (replyWith_said ..)) (onGroup_said ..) _
  exact h₂.trans (onGroup_said ..)

theorem notify_said (s : State) (src : Src) (op : Nat) (b : List Byte) : Said s (s.notify src op b) := by
  unfold State.notify
  refine .ite ?_ (.refl s)
  extract_lets q p s₁
  have h₁ : Said s s₁ := onCmd_said s (fun _ => rfl) fun _ => .inl rfl
  clear_value s₁
  split
  · exact h₁
  · exact .ite (h₁.trans (sendOrHold_said ..)) h₁
  · split
    · exact h₁
    · exact h₁.trans (sendOrHold_said ..)

theorem notifyHolder_said (s : State) (g : Grp) (op : Nat) (b : List Byte) : Said s (s.notifyHolder g op b) := by
  unfold State.notifyHolder
  split
  · exact .refl s
  · exact notify_said ..

theorem lateError_said (s : State) (c : Cmd) (st : Status) (detail : Nat) : Said s (s.lateError c st detail) := by
  unfold State.lateError
  split
  · exact .refl s
  · exact (doneStage_said ..).trans (notifyHolder_said ..)

theorem failGroup_said (s : State) (g : Grp) (c : Cmd) : Said s (s.failGroup g c) := by
  unfold State.failGroup
  extract_lets had s₁ s₂
  have h₂ : Said s s₂ := (onGroup_said ..).trans (acceptWaiting_said ..)
  exact .ite h₂ (h₂.trans (notifyHolder_said ..))

theorem record_said (s : State) (code source p0 p1 p2 : Nat) : Said s (s.record code source p0 p1 p2) :=
  .of_keeps (record_keeps (m := [.rcd]) (by decide) (keeps_refl _ s)) (by decide) (by decide) (by decide)

theorem complete_said (s : State) (c : Cmd) (st : Status) (b : List Byte) (detail : Nat := 0) : Said s (s.complete c st b detail) := by
  unfold State.complete
  split
  · exact (onSource_said ..).trans (replyEnd_said ..)
  · extract_lets s₁ s₂ s₃
    have h₁ : Said s s₁ := onGroup_said ..
    have h₂ : Said s s₂ := h₁.trans (lateError_said ..)
    have h₃ : Said s s₃ := .ite (h₁.trans (replyEnd_said ..)) (.ite (.ite h₂ (h₂.trans (record_said ..)))
      (.ite (h₁.trans (replyEnd_said ..)) (h₁.trans (doneStage_said ..))))
    exact .ite (h₃.trans (failGroup_said ..)) h₃

theorem completeId_said (s : State) (id : Nat) (st : Status) (b : List Byte) (detail : Nat := 0) : Said s (s.completeId id st b detail) := by
  unfold State.completeId
  split
  · exact .refl s
  next c _ => exact complete_said s c st b detail

end Sys2Proof.ReplyProofs

/-! Secure boot and the update (spec/17, R461 to R470). -/

namespace Sys2Proof.IdentityProofs

open Sys2Proof Sys2Proof.Machine Sys2Proof.Laws Sys2Proof.ReplyProofs Sys2Proof.CommandProofs

variable {s t : State}

/-! ## The pending key file (R456) -/

theorem claimPending_footprint (s : State) : Keeps [.rcd, .id] s s.claimPending := claimPending_keeps (by decide) (keeps_refl _ s)

/-- Of the identity a key file touches the keys only. -/
theorem claimPending_ident (s : State) : s.claimPending.id =
    { s.id with keys := s.claimPending.id.keys, keySeq := s.claimPending.id.keySeq, keyFile := s.claimPending.id.keyFile } := by
  unfold State.claimPending
  split
  · rfl
  · unfold State.installOwner
    dsimp only
    split
    · rfl
    · split
      · rfl
      · split <;> rfl

/-- The state in which a reset goes on: the key file claimed, the wake no longer watched. -/
def claimed (s : State) : State := s.claimPending.onId fun k => { k with watch := none }

theorem claimed_footprint (s : State) : Keeps [.rcd, .id] s (claimed s) := onId_keeps (by decide) (claimPending_footprint s)

theorem claimed_ident (s : State) : (claimed s).id =
    { s.id with keys := s.claimPending.id.keys, keySeq := s.claimPending.id.keySeq, keyFile := s.claimPending.id.keyFile, watch := none } :=
  congrArg (fun k : Ident => ({ k with watch := none } : Ident)) (claimPending_ident s)

/-- A fault's word does not look at the identity. -/
theorem onId_fault_flt (s : State) (f : Ident → Ident) (c : Cls) (island code p0 p1 p2 : Nat) :
    ((s.onId f).fault c island code p0 p1 p2).flt = (s.fault c island code p0 p1 p2).flt := rfl

theorem record_id (s : State) (code source p0 p1 p2 : Nat) : (s.record code source p0 p1 p2).id = s.id := rfl

/-! ## Boot -/

/-- What a boot does, once the reset is due. -/
def booted (s : State) (otpOk : Bool) (flash : Option (List Byte)) (m : Option Medium) (t0 : Nat) : State :=
  let p := flash.getD s.id.stored.bytes
  match otpOk, s.id.journal with
  | false, _ => s.bootFails 1 p
  | true, some j => s.loaderRuns.resume j m
  | true, none =>
    let step := s.id.stored.bootStep s.id.arb p
    if step ≠ 0 then s.bootFails step p
    else
      let ms := s.since t0 / 1000
      let s := s.onId fun k =>
        { k with running := some { version := u32 p 20, security := u32 p 12 }, execRam := List.range (u16 p 26), loader := false, resetAt := none }
      (s.record 0x8001 2 (u32 p 20) (u32 p 12) ms).serve

theorem opBoot_of_due {k : Nat} {otpOk : Bool} {flash : Option (List Byte)} {m : Option Medium} (hk : s.id.resetAt = some k)
    (hwatch : s.id.watch = none) (harmed : s.id.armed = none) (hup : s.pwr.islandUp.get 2 = true) :
    opBoot otpOk flash m s = booted (claimed s) otpOk flash m k := by
  simp only [opBoot, hk, hwatch, harmed, hup, Option.isSome_none, Bool.not_true, Bool.or_self, Bool.false_eq_true, if_false]
  rfl

/-- A failed boot leaves the loader running, with its fault (R462). -/
theorem bootFails_spec (s : State) (step : Nat) (p : List Byte) :
    (s.bootFails step p).id = { s.id with loader := true, resetAt := none, running := none, execRam := [], pollAt := s.now } ∧
      (s.bootFails step p).cmd = s.cmd ∧
      (s.bootFails step p).flt = (s.fault .D 2 0x8002 step (if 128 ≤ p.length then u32 p 20 else 0) 0).flt := ⟨rfl, rfl, rfl⟩

theorem booted_fails {otpOk : Bool} {flash : Option (List Byte)} {m : Option Medium} {k step : Nat} {p : List Byte}
    (h : booted (claimed s) otpOk flash m k = (claimed s).bootFails step p) :
    (booted (claimed s) otpOk flash m k).id.loader = true ∧ (booted (claimed s) otpOk flash m k).id.running = none ∧
      (booted (claimed s) otpOk flash m k).id.resetAt = none ∧ (booted (claimed s) otpOk flash m k).id.execRam = [] ∧
      (booted (claimed s) otpOk flash m k).id.keys = s.claimPending.id.keys ∧ (booted (claimed s) otpOk flash m k).cmd = s.cmd ∧
      (booted (claimed s) otpOk flash m k).flt = (s.claimPending.fault .D 2 0x8002 step (if 128 ≤ p.length then u32 p 20 else 0) 0).flt := by
  obtain ⟨hid, hcmd, hflt⟩ := bootFails_spec (claimed s) step p
  rw [h]
  refine ⟨?_, ?_, ?_, ?_, ?_, hcmd.trans ((claimed_footprint s).only.same .cmd (by decide)), hflt.trans (onId_fault_flt ..)⟩
  all_goals rw [hid]
  rfl

theorem enterWait_id (s : State) : s.enterWait.id = { s.id with waiting := true, waitSaid := true, pollAt := s.now } := by
  unfold State.enterWait
  dsimp only
  split <;> rfl

/-- Resuming an update keeps the loader as it is. -/
theorem resume_ident (s : State) (j : Journal) (m : Option Medium) :
    (s.resume j m).id.loader = s.id.loader ∧ (s.resume j m).id.running = s.id.running ∧ (s.resume j m).id.resetAt = s.id.resetAt := by
  unfold State.resume
  split
  · rw [enterWait_id]
    exact ⟨rfl, rfl, rfl⟩
  · split
    · exact ⟨rfl, rfl, rfl⟩
    · split
      · exact ⟨rfl, rfl, rfl⟩
      · rw [enterWait_id]
        exact ⟨rfl, rfl, rfl⟩

/-- The loader runs: the Loom's island is down. -/
theorem loaderRuns_spec (s : State) : s.loaderRuns.id = { s.id with loader := true, resetAt := none, running := none, execRam := [] } ∧
    s.loaderRuns.pwr.islandUp.get 1 = false := by
  have h : Keeps [.out, .links, .rcd, .cmd, .sw, .drv, .fld, .loom, .weft, .can, .far, .twin] s (s.resetLinks 1).resetLoom :=
    resetLoom_keeps (by decide) (resetLinks_keeps (by decide) (keeps_refl _ s))
  have hid : (s.resetLinks 1).resetLoom.id = s.id := h.only.same .id (by decide)
  unfold State.loaderRuns
  dsimp only
  refine ⟨?_, Tab.get_put_self ..⟩
  rw [onId_id, onPwr_id, hid]

/-- The wake that led to the run is recorded. -/
def wakeNoted (s : State) : State :=
  if s.pwr.wakeDue then
    let s := s.record 0x0002 0 s.pwr.lastSource s.pwr.detail s.pwr.stateLeft
    let s := s.onPwr fun p => { p with wakeDue := false }
    if h : s.pwr.lastSource = 2 ∧ 1 ≤ s.pwr.detail ∧ s.pwr.detail ≤ 6 then
      let c : CanNo := ⟨s.pwr.detail - 1, by omega⟩
      let s := s.nmEnter c .listen
      s.record 0x4021 3 (canNum c) (s.nmCh c).cause (s.nmCh c).wakeId
    else s
  else s

theorem wakeNoted_spec (s : State) : (wakeNoted s).cmd = s.cmd ∧ (wakeNoted s).pwr.islandUp = s.pwr.islandUp := by
  unfold wakeNoted
  extract_lets s₁ s₂
  have hcmd : s₂.cmd = s.cmd := rfl
  have hup : s₂.pwr.islandUp = s.pwr.islandUp := rfl
  split
  · split
    · have h (c : CanNo) : Keeps [.rcd, .can, .nm] s₂ ((s₂.nmEnter c .listen).record 0x4021 3 (canNum c) ((s₂.nmEnter c .listen).nmCh c).cause
          ((s₂.nmEnter c .listen).nmCh c).wakeId) := record_keeps (by decide) (nmEnter_keeps (by decide) (keeps_refl _ s₂))
      exact ⟨((h _).only.same .cmd (by decide)).trans hcmd, (congrArg Power.islandUp ((h _).only.same .pwr (by decide))).trans hup⟩
    · exact ⟨hcmd, hup⟩
  · exact ⟨rfl, rfl⟩

/-- The service island serves, before the wake is recorded. -/
def servesNow (s : State) : State :=
  let t := s.now
  let s := s.onPwr fun p => { p with islandUp := p.islandUp.put 1 true, idleSince := t, sleepSince := t }
  (opPermitRenewal (s.onCmd fun c => { c with serving := true })).canGroups.wdtStart fun n => n == 1 || n == 2

theorem serve_eq (s : State) : s.serve = wakeNoted (servesNow s) := rfl

theorem canGroups_said (s : State) : Said s s.canGroups := by
  refine .forEach (fun g t => ?_) (.refl s) _
  have hnote (n : Nat × List Byte) (t : State) : Said t (t.notifyHolder g n.1 n.2) := notifyHolder_said ..
  exact .forEach hnote (onGroup_said t g _) _

theorem servesNow_spec (s : State) : (servesNow s).cmd.serving = true ∧ (servesNow s).pwr.islandUp.get 1 = true := by
  unfold servesNow
  extract_lets now s₁
  have hrest : Keeps [.out, .rcd, .flt, .cmd, .sw, .drv, .fld, .can, .far, .twin] (s₁.onCmd fun c => { c with serving := true })
      ((opPermitRenewal (s₁.onCmd fun c => { c with serving := true })).canGroups.wdtStart fun n => n == 1 || n == 2) :=
    wdtStart_keeps (by decide) (canGroups_keeps (by decide) (opPermitRenewal_keeps (by decide) (keeps_refl _ _)))
  have hsaid : Said (s₁.onCmd fun c => { c with serving := true })
      ((opPermitRenewal (s₁.onCmd fun c => { c with serving := true })).canGroups.wdtStart fun n => n == 1 || n == 2) := by
    refine Said.trans (Said.trans (.of_keeps (opPermitRenewal_keeps (m := [.rcd, .flt]) (by decide) (keeps_refl _ _)) (by decide) (by decide)
      (by decide)) (canGroups_said _)) (.of_keeps (wdtStart_keeps (m := [.flt]) (by decide) (keeps_refl _ _)) (by decide) (by decide) (by decide))
  have hserving := hsaid.serving
  refine ⟨hserving, ?_⟩
  rw [hrest.only.same .pwr (by decide)]
  exact Tab.get_put_self ..

theorem serve_spec (s : State) : s.serve.id = s.id ∧ s.serve.cmd.serving = true ∧ s.serve.pwr.islandUp.get 1 = true := by
  obtain ⟨hserving, hup⟩ := servesNow_spec s
  obtain ⟨hcmd, hisland⟩ := wakeNoted_spec (servesNow s)
  refine ⟨(serve_keeps (m := [.out, .pwr, .rcd, .flt, .cmd, .sw, .drv, .fld, .can, .nm, .far, .twin]) (by decide) (keeps_refl _ s)).only.same .id
    (by decide), ?_, ?_⟩
  · rw [serve_eq, hcmd, hserving]
  · rw [serve_eq, hisland, hup]

/-! ## The update (R466 to R470) -/

theorem bootNext_id (s : State) : s.bootNext.id = { s.id with loader := false, waiting := false, resetAt := some s.now } := rfl

/-- The state in which the loader begins the update. -/
def updateBegun (s : State) : State := ((s.resetLinks 2).resetService.loaderRuns).onId fun k => { k with armed := none, watch := none }

theorem resetCommands_serving (s : State) : s.resetCommands.cmd.serving = false := rfl

theorem resetService_spec (s : State) : s.resetService.cmd.serving = false ∧
    s.resetService.id = { s.id with running := none, execRam := [], loader := false, resetAt := some s.now, armed := none, waitSaid := false } ∧
    s.resetService.now = s.now := by
  unfold State.resetService
  extract_lets t s₁ s₂
  have htoken : Keeps [.free, .out, .rcd, .cmd, .sw, .drv, .fld, .can, .far, .twin] s₁ s₁.releaseToken := releaseToken_keeps (by decide) (keeps_refl _ s₁)
  have hrest : Keeps [.rcd, .can, .far, .acc] s₁.releaseToken.resetCommands s₂ :=
    resetAccess_keeps (by decide) (dropFar_keeps (by decide) (keeps_refl _ _))
  have hcmds : Keeps [.rcd, .cmd, .sw, .drv, .fld, .far] s₁.releaseToken s₁.releaseToken.resetCommands :=
    resetCommands_keeps (by decide) (keeps_refl _ _)
  have hid : s₂.id = s.id :=
    (hrest.only.same .id (by decide)).trans ((hcmds.only.same .id (by decide)).trans (htoken.only.same .id (by decide)))
  have hnow : s₂.now = s.now :=
    (hrest.only.same .now (by decide)).trans ((hcmds.only.same .now (by decide)).trans (htoken.only.same .now (by decide)))
  have hserving : s₂.cmd.serving = false :=
    (congrArg Commands.serving (hrest.only.same .cmd (by decide))).trans (resetCommands_serving s₁.releaseToken)
  clear_value s₂
  refine ⟨?_, ?_, hnow⟩
  · rw [onId_cmd, hserving]
  · rw [onId_id, hid]

theorem onWeft_said (s : State) (f : Wefts → Wefts) : Said s (s.onWeft f) := ⟨rfl, .inl rfl, List.suffix_rfl, fun _ => rfl⟩

theorem haltWeft_said (s : State) (reason : Nat) : Said s (s.haltWeft reason) := by
  unfold State.haltWeft
  extract_lets w s₁ s₂ name last s₃
  have h₁ : Said s s₁ := ⟨rfl, .inl rfl, List.suffix_rfl, fun _ => rfl⟩
  have h₂ : Said s s₂ := by
    simp only [s₂]
    split
    next st _ =>
      have h : Said s (s₁.onWeft fun w => { w with starting := none, autoTry := w.autoTry || st.restart }) := h₁.trans (onWeft_said ..)
      split
      · exact h.trans (completeId_said ..)
      · exact h
    next => exact h₁
  split
  · exact h₂
  next k _ =>
    extract_lets s₄ s₅
    have h₃ : Said s s₃ := h₂.trans (onWeft_said s₂ _)
    have h₄ : Said s s₄ := by
      simp only [s₄]
      split
      · split
        · exact h₃.trans (completeId_said ..)
        · exact h₃
      · exact h₃
    have h₅ : Said s s₅ := by
      simp only [s₅]
      split
      · split
        · exact h₄.trans (completeId_said ..)
        · exact h₄
      · exact h₄
    exact h₅.trans (record_said ..)

theorem loaderRuns_said (s : State) : Said s s.loaderRuns := by
  have hlinks : Said s (s.resetLinks 1) :=
    .of_keeps (resetLinks_keeps (m := [.links]) (by decide) (keeps_refl _ s)) (by decide) (by decide) (by decide)
  have hhalt : Said s ((s.resetLinks 1).haltWeft 3) := hlinks.trans (haltWeft_said _ 3)
  have hrest : Keeps [.pwr, .loom, .weft, .id] ((s.resetLinks 1).haltWeft 3) s.loaderRuns := by
    unfold State.loaderRuns State.resetLoom
    exact onId_keeps (by decide) (onPwr_keeps (by decide) (onWeft_keeps (by decide) (onLoom_keeps (by decide) (keeps_refl _ _))))
  exact hhalt.trans (.of_keeps hrest (by decide) (by decide) (by decide))

theorem updateBegun_spec (s : State) : (updateBegun s).cmd.serving = false ∧ (updateBegun s).pwr.islandUp.get 1 = false ∧
    (updateBegun s).now = s.now ∧
    (updateBegun s).id = { s.id with running := none, execRam := [], loader := true, resetAt := none, armed := none, waitSaid := false, watch := none } := by
  obtain ⟨hserving, hid, hnow⟩ := resetService_spec (s.resetLinks 2)
  obtain ⟨kid, kup⟩ := loaderRuns_spec (s.resetLinks 2).resetService
  have hsaid := (loaderRuns_said (s.resetLinks 2).resetService).serving
  have know : (s.resetLinks 2).resetService.loaderRuns.now = (s.resetLinks 2).resetService.now :=
    (loaderRuns_keeps (m := [.out, .links, .pwr, .rcd, .cmd, .sw, .drv, .fld, .loom, .weft, .can, .far, .twin, .id]) (by decide)
      (keeps_refl _ _)).only.same .now (by decide)
  have hlinks : Keeps [.links] s (s.resetLinks 2) := resetLinks_keeps (by decide) (keeps_refl _ s)
  unfold updateBegun
  generalize (s.resetLinks 2).resetService.loaderRuns = u at *
  refine ⟨?_, ?_, ?_, ?_⟩
  · rw [onId_cmd, hsaid, hserving]
  · rw [onId_pwr, kup]
  · rw [onId_now, know, hnow, hlinks.only.same .now (by decide)]
  · rw [onId_id, kid, hid, hlinks.only.same .id (by decide)]

theorem opUpdateStart_of_armed {x : Nat × Bool} {m : Option Medium} {p : List Byte} (harmed : s.id.armed = some x) (hp : Medium.img m = some p) :
    opUpdateStart m s = match imageFault s.id.arb p with
      | some (reason, off) => ((updateBegun s).record 0x8013 2 reason off 0).bootNext
      | none => ((updateBegun s).record 0x8010 2 (u32 p 20) (u32 p 12) (b2n x.2)).onId fun k => { k with journal := some (Journal.begin p), waiting := false } := by
  have harb : (updateBegun s).id.arb = s.id.arb := by rw [(updateBegun_spec s).2.2.2]
  unfold opUpdateStart
  simp only [harmed, hp]
  change (match imageFault (updateBegun s).id.arb p with
    | some (reason, off) => _
    | none => _) = _
  rw [harb]
  rfl

/-- The end of an update: the boot follows, or the loader waits. -/
theorem updateEnd_spec (s : State) (j : Journal) (p : List Byte) (flash : Option (List Byte)) (f : Flash) (r : List Byte)
    (hf : f = s.id.stored.close p) (hr : r = flash.getD f.bytes) :
    (s.updateEnd j p flash).id.stored = f ∧
      (if headerOk r = true ∧ f.sealed r = true then
        (s.updateEnd j p flash).id.journal = none ∧ (s.updateEnd j p flash).id.arb = max s.id.arb j.security ∧
          (s.updateEnd j p flash).id.loader = false ∧ (s.updateEnd j p flash).id.resetAt = some s.now
      else (s.updateEnd j p flash).id.waiting = true ∧ (s.updateEnd j p flash).id.loader = s.id.loader ∧
          (s.updateEnd j p flash).id.arb = s.id.arb) := by
  subst hf hr
  unfold State.updateEnd
  extract_lets s₁ p₁ old s₂
  have hp₁ : p₁ = flash.getD (s.id.stored.close p).bytes := rfl
  have hold : old = s.id.arb := rfl
  rw [← hp₁]
  by_cases hgood : headerOk p₁ = true ∧ (s.id.stored.close p).sealed p₁ = true
  · have hgo : ¬ (!(headerOk p₁ && s₁.id.stored.sealed p₁)) = true := by
      have h : s₁.id.stored.sealed p₁ = true := hgood.2
      simp [hgood.1, h]
    rw [if_neg hgo, if_pos hgood]
    have h₂ : s₂.id = { s₁.id with arb := max s.id.arb j.security } ∧ s₂.now = s.now := by
      simp only [s₂]
      split
      next hlt =>
        have hmax : max s.id.arb j.security = j.security := by omega
        exact ⟨by rw [hmax]; rfl, rfl⟩
      next hge =>
        have hmax : max s.id.arb j.security = s.id.arb := by omega
        rw [hmax]
        exact ⟨rfl, rfl⟩
    obtain ⟨hid, hnow⟩ := h₂
    rw [bootNext_id, record_id, onId_id, hid]
    exact ⟨rfl, rfl, rfl, rfl, congrArg some hnow⟩
  · have hgo : (!(headerOk p₁ && s₁.id.stored.sealed p₁)) = true := by
      rw [Bool.not_eq_true', Bool.and_eq_false_iff]
      by_cases hh : headerOk p₁ = true
      · exact .inr (Bool.eq_false_of_not_eq_true fun h => hgood ⟨hh, h⟩)
      · exact .inl (Bool.eq_false_of_not_eq_true hh)
    rw [if_pos hgo, if_neg hgood, enterWait_id]
    exact ⟨rfl, rfl, rfl, rfl⟩

end Sys2Proof.IdentityProofs

/-! Keys, sessions, boot and update (spec/10, spec/17). -/

namespace Sys2Proof.IdentityProofs

open Sys2Proof Sys2Proof.Machine Sys2Proof.Laws Sys2Proof.ReplyProofs Sys2Proof.CommandProofs

variable {s t : State}

/-! ## Opening a session (R281) -/

/-- A reply in the clear leaves the sessions and the groups. -/
theorem complete_clear {q : Cmd} (hsrc : q.src = .clear) (hgroup : q.group = none) (st : Status) (b : List Byte) :
    (s.complete q st b).cmd.sessions = s.cmd.sessions ∧ (s.complete q st b).cmd.groups = s.cmd.groups := by
  have hdone (t : State) (st : Status) (fails : Bool) (p : List Byte) : (t.doneStage q st fails p).cmd = t.cmd :=
    (doneStage_keeps (m := [.out, .twin]) (by decide) (keeps_refl _ t)).only.same .cmd (by decide)
  have hsend (t : State) (mirrored : Bool) (id a b c d : Nat) (p : List Byte) : (t.sendOrHold mirrored .clear id a b c d p).cmd = t.cmd := by
    unfold State.sendOrHold
    split
    · rfl
    split
    · rfl
    · exact (sendUdp_keeps (m := [.out]) (by decide) (keeps_refl _ t)).only.same .cmd (by decide)
  have hreply (t : State) (flags : Nat) (st : Status) (p : List Byte) (final : Bool) : (t.replyWith q flags st p final true).cmd = t.cmd := by
    unfold State.replyWith
    simp only [hgroup, hsrc, if_true]
    exact (hsend ..).trans (hdone ..)
  have hend (t : State) (st : Status) (p : List Byte) : (t.replyEnd q st p).cmd = t.cmd := by
    unfold State.replyEnd
    split
    · exact hreply ..
    · exact hreply ..
  unfold State.complete
  rw [hgroup]
  dsimp only
  rw [hend]
  exact ⟨rfl, rfl⟩

theorem sessionRefused_sessions {q : Cmd} (hsrc : q.src = .clear) (hgroup : q.group = none) (st : Status) (why key : Nat) :
    (s.sessionRefused q st why key).cmd.sessions = s.cmd.sessions := (complete_clear hsrc hgroup st []).1

/-- No group waits for the key, so none is claimed. -/
theorem claimGroups_of_none {k : Fin 4} {x : Session} (h : ∀ g : Grp, (s.group g).holder ≠ .keyId x.keyId) : s.claimGroups k x = s := by
  unfold State.claimGroups
  have hnone : (allGroups.filter fun g => decide ((s.group g).holder = .keyId x.keyId)) = [] :=
    List.filter_eq_nil_iff.2 fun g _ hg => h g (of_decide_eq_true hg)
  rw [hnone]
  rfl

/-- The session a request opens, but for its keys and its number. -/
def Opens (s : State) (q : Cmd) (owner : List Byte) (x : Session) : Prop :=
  x.keyId = pubId (Config.certKey (slice q.params 84 (u16 q.params 82))) ∧ x.ownerId = pubId owner ∧ x.top = 0 ∧ x.txSeq = 0 ∧ x.lastAt = s.now ∧
    x.notify = bit (u8 q.params 80) 0

theorem opSessionOpen_opens {r : CmdRef} {q : Cmd} {k : Fin 4} {owner : List Byte} (hq : s.begun r = some q) (ho : q.opcode = 0x0104)
    (hshape : ¬ (u16 q.params 82 < 1 ∨ 1024 < u16 q.params 82 ∨ q.params.length ≠ 148 + u16 q.params 82 ∨ 1 < u8 q.params 80 ∨ u8 q.params 81 ≠ 0))
    (hcurve : Config.onCurve (slice q.params 16 64) = true) (howner : s.id.signer (slice q.params 84 (u16 q.params 82)) = some owner)
    (hsigned : Config.ecdsaVerify (Config.certKey (slice q.params 84 (u16 q.params 82))) (q.params.take (84 + u16 q.params 82))
      (q.params.drop (84 + u16 q.params 82)) = true)
    (hk : ((List.finRange 4).find? fun k => (s.cmd.sessions.get k).isNone) = some k) :
    ∃ u x p0 p2 b, Keeps [.free] s u ∧ Opens s q owner x ∧
      opSessionOpen r s =
        (((u.onCmd fun c => c.setSession k (some x)).record 0x8030 2 p0 k.1 p2).complete { q with session := x.id } .ok b).claimGroups k x := by
  have hop : opSessionOpen r s = _ := onCommand_eq hq ho _
  rw [hop]
  simp only [hshape, if_false, hcurve, howner, hsigned, hk, Bool.not_true, Bool.false_eq_true]
  have hdrawn : Keeps [.free] s (State.drawBytes 16 s.draw.2.draw.2).2 :=
    drawBytes_keeps (by decide) (draw_keeps (by decide) (draw_keeps (by decide) (keeps_refl _ s)))
  have hnow : (State.drawBytes 16 s.draw.2.draw.2).2.now = s.now := hdrawn.only.same .now (by decide)
  refine ⟨(State.drawBytes 16 s.draw.2.draw.2).2, _, _, _, _, hdrawn, ?_, rfl⟩
  exact ⟨rfl, rfl, rfl, rfl, hnow, rfl⟩

theorem sessionOpened {q : Cmd} {k : Fin 4} {u : State} {x : Session} {p0 p2 : Nat} {b : List Byte} (hu : Keeps [.free] s u)
    (hsrc : q.src = .clear) (hgroup : q.group = none) (hclaim : ∀ g : Grp, (s.group g).holder ≠ .keyId x.keyId) :
    ((((u.onCmd fun c => c.setSession k (some x)).record 0x8030 2 p0 k.1 p2).complete { q with session := x.id } .ok b).claimGroups k x).cmd.sessions.get k =
      some x := by
  have hcmd : u.cmd = s.cmd := hu.only.same .cmd (by decide)
  obtain ⟨hsessions, hgroups⟩ := complete_clear (s := (u.onCmd fun c => c.setSession k (some x)).record 0x8030 2 p0 k.1 p2)
    (q := { q with session := x.id }) hsrc hgroup .ok b
  rw [claimGroups_of_none, hsessions]
  · exact Tab.get_put_self ..
  · intro g hg
    refine hclaim g ?_
    have hsame : ((u.onCmd fun c => c.setSession k (some x)).record 0x8030 2 p0 k.1 p2).cmd.groups = s.cmd.groups := by
      have h := congrArg Commands.groups hcmd
      exact h
    unfold State.group at hg
    rw [hgroups, hsame] at hg
    exact hg

/-- A request that fails a check is refused, and the sessions stay. -/
theorem opSessionOpen_refused {r : CmdRef} {q : Cmd} {k : Fin 4} (hq : s.begun r = some q) (ho : q.opcode = 0x0104) (hsrc : q.src = .clear)
    (hgroup : q.group = none)
    (hshape : ¬ (u16 q.params 82 < 1 ∨ 1024 < u16 q.params 82 ∨ q.params.length ≠ 148 + u16 q.params 82 ∨ 1 < u8 q.params 80 ∨ u8 q.params 81 ≠ 0))
    (hbad : ¬ (Config.onCurve (slice q.params 16 64) = true ∧ (s.id.signer (slice q.params 84 (u16 q.params 82))).isSome = true ∧
      Config.ecdsaVerify (Config.certKey (slice q.params 84 (u16 q.params 82))) (q.params.take (84 + u16 q.params 82))
        (q.params.drop (84 + u16 q.params 82)) = true))
    (hk : ((List.finRange 4).find? fun k => (s.cmd.sessions.get k).isNone) = some k) :
    (opSessionOpen r s).cmd.sessions = s.cmd.sessions := by
  have hop : opSessionOpen r s = _ := onCommand_eq hq ho _
  rw [hop]
  simp only [hshape, if_false, hk]
  split
  · exact sessionRefused_sessions hsrc hgroup ..
  next hcurve =>
    split
    · exact sessionRefused_sessions hsrc hgroup ..
    next owner howner =>
      split
      · exact sessionRefused_sessions hsrc hgroup ..
      next hverify =>
        simp only [Bool.not_eq_true', Bool.not_eq_false] at hcurve hverify
        exact absurd ⟨hcurve, by rw [howner]; rfl, hverify⟩ hbad

/-! ## The key store (R457 to R460) -/

theorem keyDone_id (s : State) (q : Cmd) (code p0 p1 : Nat) (k : List Byte) : (s.keyDone q code p0 p1 k).id = { s.id with keySeq := u32 q.params 4 } := by
  unfold State.keyDone
  dsimp only
  rw [complete_id]
  rfl

theorem opKeyAdd_spec {r : CmdRef} {q : Cmd} {i : Fin 12} (hq : s.begun r = some q) (ho : q.opcode = 0x0A02) (haction : u8 q.params 0 = 0)
    (hnew : (s.id.keysOf 1 ++ s.id.keysOf 2).contains (slice q.params 8 64) = false)
    (hi : ((List.finRange 12).find? fun i => (s.id.keys.get i).isNone) = some i) (hfree : s.id.freeOf (u8 q.params 1) ≠ 0) :
    (s.keyCheck q.params ≠ none → (opKeyAdd r s).id = s.id) ∧ (s.keyCheck q.params = none →
      (opKeyAdd r s).id = { s.id with keys := s.id.keys.put i (some { role := u8 q.params 1, pub := slice q.params 8 64 }), keySeq := u32 q.params 4 }) := by
  have hop : opKeyAdd r s = _ := onCommand_eq hq ho _
  have hrange : ¬ (1 ≤ u8 q.params 0 ∧ u8 q.params 0 ≤ 2) := by omega
  rw [hop]
  simp only [hrange, if_false, hnew, Bool.false_eq_true, hi, hfree]
  split
  next st hst => exact ⟨fun _ => complete_id .., fun h => by cases hst.symm.trans h⟩
  next hnone => exact ⟨fun h => absurd hnone h, fun _ => keyDone_id ..⟩

theorem closeSessions_id (l : List (Fin 4)) (s : State) : (s.forEach l fun k s => s.closeSession k 4).id = s.id := by
  induction l generalizing s with
  | nil => rfl
  | cons k l ih =>
    exact (ih _).trans ((closeSession_keeps (m := [.rcd, .cmd, .sw, .drv, .fld, .far]) (by decide) (keeps_refl _ s)).only.same .id (by decide))

/-- The entries without the keys of the role and the name. -/
def keysWithout (t : Tab (Option KeyEntry) 12) (role : Nat) (keyId : List Byte) : Tab (Option KeyEntry) 12 :=
  t.mapIdx fun _ e => e.filter fun x => !(x.role == role && pubId x.pub == keyId)

theorem keysWithout_get {t : Tab (Option KeyEntry) 12} {role : Nat} {keyId : List Byte} {i : Fin 12} {e : KeyEntry} :
    (keysWithout t role keyId).get i = some e ↔ t.get i = some e ∧ ¬ (e.role = role ∧ pubId e.pub = keyId) := by
  unfold keysWithout
  rw [Tab.get_mapIdx, Option.filter_eq_some_iff, Bool.not_eq_true', ← Bool.not_eq_true, Bool.and_eq_true, beq_iff_eq, beq_iff_eq]

theorem weftNames_of_empty (h : ∀ k, s.weft.store.get k = none) (keyId : List Byte) : s.weftNames keyId = false := by
  simp [State.weftNames, Tab.any, h]

theorem opKeyRemove_spec {r : CmdRef} {q : Cmd} (hq : s.begun r = some q) (ho : q.opcode = 0x0A02) (haction : u8 q.params 0 = 1)
    (htwo : u8 q.params 1 = 1 → 2 ≤ (s.id.keysOf 1).length) (hstore : ∀ k, s.weft.store.get k = none) :
    (s.keyCheck q.params ≠ none → (opKeyRemove r s).id = s.id) ∧ (s.keyCheck q.params = none →
      (s.id.keyNamed (u8 q.params 1) (slice q.params 8 8)).isSome = true →
        (opKeyRemove r s).id = { s.id with keys := keysWithout s.id.keys (u8 q.params 1) (slice q.params 8 8), keySeq := u32 q.params 4 }) := by
  have hop : opKeyRemove r s = _ := onCommand_eq hq ho _
  rw [hop]
  simp only [haction, ne_eq, not_true_eq_false, if_false]
  split
  next st hst => exact ⟨fun _ => complete_id .., fun h => by cases hst.symm.trans h⟩
  next hnone =>
    refine ⟨fun h => absurd hnone h, fun _ hnamed => ?_⟩
    have hgo : ((s.id.keyNamed (u8 q.params 1) (slice q.params 8 8)).isNone || (u8 q.params 1 == 1 && decide ((s.id.keysOf 1).length ≤ 1)) ||
        s.weftNames (slice q.params 8 8)) = false := by
      have hmany : (u8 q.params 1 == 1 && decide ((s.id.keysOf 1).length ≤ 1)) = false := by
        by_cases h1 : u8 q.params 1 = 1
        · have h := htwo h1
          simp only [Bool.and_eq_false_iff, decide_eq_false_iff_not]
          exact .inr (by omega)
        · simp only [Bool.and_eq_false_iff, beq_eq_false_iff_ne]
          exact .inl h1
      have hsome : (s.id.keyNamed (u8 q.params 1) (slice q.params 8 8)).isNone = false := by
        rw [← Option.not_isSome, hnamed]
        rfl
      rw [hsome, hmany, weftNames_of_empty hstore]
      rfl
    rw [if_neg fun h => Bool.false_ne_true (hgo.symm.trans h)]
    split
    · exact (closeSessions_id _ _).trans (keyDone_id ..)
    · exact keyDone_id ..

theorem opWeftFloorRaise_spec {r : CmdRef} {q : Cmd} (hq : s.begun r = some q) (ho : q.opcode = 0x0A02) (haction : u8 q.params 0 = 2)
    (hup : s.id.floor < u32 q.params 8) (hstore : ∀ k w, s.weft.store.get k = some w → u32 q.params 8 ≤ w.secVersion) :
    (s.keyCheck q.params ≠ none → (opWeftFloorRaise r s).id = s.id) ∧ (s.keyCheck q.params = none →
      (opWeftFloorRaise r s).id = { s.id with floor := u32 q.params 8, keySeq := u32 q.params 4 }) := by
  have hop : opWeftFloorRaise r s = _ := onCommand_eq hq ho _
  rw [hop]
  simp only [haction, ne_eq, not_true_eq_false, if_false]
  split
  next st hst => exact ⟨fun _ => complete_id .., fun h => by cases hst.symm.trans h⟩
  next hnone =>
    refine ⟨fun h => absurd hnone h, fun _ => ?_⟩
    have hgo : ¬ (u32 q.params 8 ≤ s.id.floor ∨ (s.weft.store.any fun w => match w with
        | some w => decide (w.secVersion < u32 q.params 8)
        | none => false) = true) := by
      rintro (h | h)
      · omega
      · simp only [Tab.any, List.any_eq_true] at h
        obtain ⟨k, -, hk⟩ := h
        split at hk
        next w hw => exact absurd (hstore k w hw) (Nat.not_le.mpr (of_decide_eq_true hk))
        next => cases hk
    refine (congrArg State.id (if_neg hgo)).trans (keyDone_id ..)

/-! ## The update's commands (R466, R467) -/

theorem updateReply_some (s : State) (q : Cmd) (st : Status) (reason : Nat) (p : List Byte) :
    s.updateReply q st reason (some p) = s.complete q st (le 1 (u8 q.params 0) ++ le 1 reason ++ zeros 2 ++ le 4 (u32 p 20) ++ le 4 (u32 p 12) ++
      le 4 (u32 p 8) ++ le 4 s.id.arb) := rfl

theorem updateArm_alone {q : Cmd} {m : Option Medium} {p : List Byte} (go : State → State) (hp : Medium.img m = some p)
    (halone : s.twin.role ≠ .lead ∨ (s.twin.pair ≠ .paired ∧ s.twin.pair ≠ .broken)) :
    s.updateArm q m go = match imageFault s.id.arb p with
      | none => go (s.updateReply q .ok 0 (some p))
      | some (reason, _) => s.updateReply q (if 6 ≤ reason then .denied else .badCheck) reason (some p) := by
  have hno : ¬ (s.twin.role = .lead ∧ (s.twin.pair = .paired ∨ s.twin.pair = .broken)) := by
    rintro ⟨hr, hp⟩
    rcases halone with h | ⟨h₁, h₂⟩
    · exact h hr
    · exact hp.elim h₁ h₂
  simp only [State.updateArm, hp, hno, if_false] <;> rfl

theorem opUpdateArm_id {r : CmdRef} {q : Cmd} {m : Option Medium} {p : List Byte} (hq : s.begun r = some q) (ho : q.opcode = 0x0A03)
    (hparams : q.params = [1, 0, 0, 0]) (hp : Medium.img m = some p)
    (halone : s.twin.role ≠ .lead ∨ (s.twin.pair ≠ .paired ∧ s.twin.pair ≠ .broken)) :
    (opUpdateArm r m s).id = if imageFault s.id.arb p = none then { s.id with armed := some (s.now, false) } else s.id := by
  have hop : opUpdateArm r m s = s.updateArm q m fun s => s.onId fun k => { k with armed := some (s.now, false) } := by
    refine (onCommand_eq hq ho _).trans ?_
    rw [hparams]
    rfl
  rw [hop, updateArm_alone _ hp halone]
  cases imageFault s.id.arb p with
  | none =>
    dsimp only
    rw [if_pos rfl, onId_id, updateReply_some, complete_id, complete_now]
  | some x =>
    rw [if_neg (by simp)]
    exact complete_id ..

theorem opUpdateBlock_next {m : Option Medium} {flash : Option (List Byte)} {j : Journal} {p : List Byte} (hj : s.id.journal = some j)
    (hloader : s.id.loader = true) (hwait : s.id.waiting = false) (hmore : j.done + 1 < j.blocks) (hp : Medium.img m = some p)
    (hdigest : imageDigest p = j.digest) :
    (opUpdateBlock m flash s).id = (if Config.blockTag (p.take 128) j.done (imageBlock p j.done) = true then
        { s.id with stored := s.id.stored.write j.done (imageBlock p j.done), journal := some { j with done := j.done + 1 } }
      else { s.id with waiting := true, waitSaid := true, pollAt := s.now }) := by
  have hop : opUpdateBlock m flash s = if Config.blockTag (p.take 128) j.done (imageBlock p j.done) = true then
      s.onId fun k => { k with stored := k.stored.write j.done (imageBlock p j.done), journal := some { j with done := j.done + 1 } }
      else (s.record 0x8013 2 11 j.done 0).enterWait := by
    have h₁ : ¬ j.blocks ≤ j.done := by omega
    have h₂ : ¬ j.blocks ≤ j.done + 1 := by omega
    simp only [opUpdateBlock, hj, hloader, hwait, hp, hdigest, h₁, h₂, Bool.not_true, Bool.or_self, Bool.false_eq_true, ne_eq, not_true_eq_false,
      if_false]
    cases Config.blockTag (p.take 128) j.done (imageBlock p j.done) <;> rfl
  rw [hop]
  split
  · rfl
  · exact enterWait_id _

theorem opUpdateBlock_end {m : Option Medium} {flash : Option (List Byte)} {j : Journal} {p r : List Byte} {f : Flash} (hj : s.id.journal = some j)
    (hloader : s.id.loader = true) (hwait : s.id.waiting = false) (hlast : j.blocks ≤ j.done + 1) (hp : Medium.img m = some p)
    (hdigest : imageDigest p = j.digest) (htag : j.done < j.blocks → Config.blockTag (p.take 128) j.done (imageBlock p j.done) = true)
    (hf : f = (if j.done < j.blocks then s.id.stored.write j.done (imageBlock p j.done) else s.id.stored).close p) (hr : r = flash.getD f.bytes) :
    (opUpdateBlock m flash s).id.stored = f ∧
      (if headerOk r = true ∧ f.sealed r = true then
        (opUpdateBlock m flash s).id.journal = none ∧ (opUpdateBlock m flash s).id.arb = max s.id.arb j.security ∧
          (opUpdateBlock m flash s).id.loader = false ∧ (opUpdateBlock m flash s).id.resetAt = some s.now
      else (opUpdateBlock m flash s).id.waiting = true ∧ (opUpdateBlock m flash s).id.loader = true ∧
          (opUpdateBlock m flash s).id.arb = s.id.arb) := by
  by_cases hmore : j.done < j.blocks
  · have hop : opUpdateBlock m flash s = (s.onId fun k =>
        { k with stored := k.stored.write j.done (imageBlock p j.done), journal := some { j with done := j.done + 1 } }).updateEnd
          { j with done := j.done + 1 } p flash := by
      simp only [opUpdateBlock, hj, hloader, hwait, hp, hdigest, Nat.not_le.mpr hmore, htag hmore, hlast, Bool.not_true, Bool.or_self, Bool.false_eq_true,
        ne_eq, not_true_eq_false, if_false, if_true]
    rw [if_pos hmore] at hf
    have h := updateEnd_spec (s.onId fun k =>
      { k with stored := k.stored.write j.done (imageBlock p j.done), journal := some { j with done := j.done + 1 } })
      { j with done := j.done + 1 } p flash f r hf hr
    rw [hop]
    rw [onId_id, hloader] at h
    exact h
  · have hop : opUpdateBlock m flash s = s.updateEnd j p flash := by
      simp only [opUpdateBlock, hj, hloader, hwait, hp, hdigest, Nat.not_lt.mp hmore, Bool.not_true, Bool.or_self, Bool.false_eq_true,
        ne_eq, not_true_eq_false, if_false, if_true]
    rw [if_neg hmore] at hf
    have h := updateEnd_spec s j p flash f r hf hr
    rw [hop]
    rw [hloader] at h
    exact h

theorem opMediumPoll_waiting {m : Option Medium} {j : Journal} (hloader : s.id.loader = true) (hdue : 1000000 ≤ s.since s.id.pollAt)
    (hj : s.id.journal = some j) (hwait : s.id.waiting = true) :
    opMediumPoll m s = (s.onId fun k => { k with pollAt := s.now }).resume j m := by
  have hgo : ¬ s.since s.id.pollAt < 1000000 := by omega
  have hj' : (s.onId fun k => { k with pollAt := s.now }).id.journal = some j := hj
  have hwait' : (s.onId fun k => { k with pollAt := s.now }).id.waiting = true := hwait
  simp only [opMediumPoll, hloader, hgo, decide_false, Bool.not_true, Bool.or_self, Bool.false_eq_true, if_false, hj', hwait', if_true]

/-- A poll looks at the medium now, whatever it finds. -/
theorem resume_pollAt (s : State) (j : Journal) (m : Option Medium) (h : s.id.pollAt = s.now) : (s.resume j m).id.pollAt = s.now := by
  unfold State.resume
  split
  · rw [enterWait_id]
  · split
    · exact h
    · split
      · exact h
      · rw [enterWait_id]

theorem resume_signed {j : Journal} {m : Option Medium} {p : List Byte} (hp : Medium.img m = some p) (hdigest : imageDigest p = j.digest)
    (hsigned : imageSigned p = true) : s.resume j m = (s.onId fun k => { k with waiting := false }).record 0x8011 2 j.done j.blocks 0 := by
  simp only [State.resume, hp, hdigest, hsigned, and_self, if_true]

/-! ## The key file on the medium (R456) -/

theorem opOwnerClaimed_of_watch {file : List Byte} {i : Fin 12} (hwatch : s.id.watch.isSome = true) (hfile : s.id.keyFile = some file)
    (hnone : s.id.keysOf 1 = []) (hlen : file.length = 72) (hhead : file.take 8 = [0x4B, 0x57, 0x4F, 0x4B, 0, 0, 0, 0])
    (hi : ((List.finRange 12).find? fun i => (s.id.keys.get i).isNone) = some i) :
    opOwnerClaimed file s = if Config.onCurve (file.drop 8) = true then
        ((s.onId fun k => { k with keyFile := none }).onId fun k =>
          { k with keySeq := 0, keys := k.keys.put i (some { role := 1, pub := file.drop 8 }) }).record 0x8023 2 (u32 (pubId (file.drop 8)) 0) 0 0
      else (s.onId fun k => { k with keyFile := none }).record 0x8013 2 9 0 0 := by
  have hopen : ¬ (s.id.watch.isNone || decide (s.id.keyFile ≠ some file)) = true := by
    rw [← Option.not_isSome, hwatch, hfile]
    simp
  have hnone' : (s.onId fun k => { k with keyFile := none }).id.keysOf 1 = [] := hnone
  have hi' : ((List.finRange 12).find? fun i => ((s.onId fun k => { k with keyFile := none }).id.keys.get i).isNone) = some i := hi
  unfold opOwnerClaimed
  rw [if_neg hopen]
  simp only [State.claimPending, hfile, State.installOwner, hnone', hlen, hhead, hi', List.isEmpty_nil, ne_eq, not_true_eq_false, decide_false,
    bne_self_eq_false, Bool.not_true, Bool.or_self, Bool.false_eq_true, if_false]
  cases Config.onCurve (file.drop 8) <;> rfl

/-! ## Boot -/

theorem booted_without_otp (s : State) (flash : Option (List Byte)) (m : Option Medium) (k : Nat) :
    booted (claimed s) false flash m k = (claimed s).bootFails 1 (flash.getD s.id.stored.bytes) := by
  have hstored : (claimed s).id.stored = s.id.stored := by rw [claimed_ident]
  simp only [booted, hstored]

theorem booted_stuck {flash : Option (List Byte)} {m : Option Medium} {k : Nat} (hj : s.id.journal = none)
    (hstep : s.id.stored.bootStep s.id.arb (flash.getD s.id.stored.bytes) ≠ 0) :
    booted (claimed s) true flash m k =
      (claimed s).bootFails (s.id.stored.bootStep s.id.arb (flash.getD s.id.stored.bytes)) (flash.getD s.id.stored.bytes) := by
  have hstored : (claimed s).id.stored = s.id.stored := by rw [claimed_ident]
  have harb : (claimed s).id.arb = s.id.arb := by rw [claimed_ident]
  have hjournal : (claimed s).id.journal = none := by rw [claimed_ident, hj]
  simp only [booted, hstored, harb, hjournal, hstep, ne_eq, not_false_eq_true, if_true]

theorem booted_runs {flash : Option (List Byte)} {m : Option Medium} {k : Nat} (hj : s.id.journal = none)
    (hstep : s.id.stored.bootStep s.id.arb (flash.getD s.id.stored.bytes) = 0) :
    (booted (claimed s) true flash m k).id.resetAt = none ∧ (booted (claimed s) true flash m k).id.keys = s.claimPending.id.keys ∧
      (booted (claimed s) true flash m k).cmd.serving = true ∧
      (booted (claimed s) true flash m k).id.running =
        some { version := u32 (flash.getD s.id.stored.bytes) 20, security := u32 (flash.getD s.id.stored.bytes) 12 } ∧
      (booted (claimed s) true flash m k).id.loader = false ∧
      (booted (claimed s) true flash m k).id.execRam = List.range (u16 (flash.getD s.id.stored.bytes) 26) ∧
      (booted (claimed s) true flash m k).pwr.islandUp.get 1 = true := by
  have hstored : (claimed s).id.stored = s.id.stored := by rw [claimed_ident]
  have harb : (claimed s).id.arb = s.id.arb := by rw [claimed_ident]
  have hjournal : (claimed s).id.journal = none := by rw [claimed_ident, hj]
  simp only [booted, hstored, harb, hjournal, hstep, ne_eq, not_true_eq_false, if_false]
  generalize hu : State.record _ _ _ _ _ _ = u
  have hid : u.id = { (claimed s).id with
      running := some { version := u32 (flash.getD s.id.stored.bytes) 20, security := u32 (flash.getD s.id.stored.bytes) 12 }
      execRam := List.range (u16 (flash.getD s.id.stored.bytes) 26)
      loader := false
      resetAt := none } := by
    rw [← hu]
    rfl
  obtain ⟨kid, kserving, kup⟩ := serve_spec u
  rw [kid, hid]
  exact ⟨rfl, rfl, kserving, rfl, rfl, rfl, kup⟩

theorem booted_resumes {flash : Option (List Byte)} {m : Option Medium} {k : Nat} (hj : s.id.journal.isSome = true) :
    (booted (claimed s) true flash m k).id.loader = true ∧ (booted (claimed s) true flash m k).id.running = none ∧
      (booted (claimed s) true flash m k).id.resetAt = none ∧ (booted (claimed s) true flash m k).pwr.islandUp.get 1 = false := by
  obtain ⟨j, hj⟩ := Option.isSome_iff_exists.1 hj
  have hjournal : (claimed s).id.journal = some j := by rw [claimed_ident, hj]
  have hop : booted (claimed s) true flash m k = (claimed s).loaderRuns.resume j m := by simp only [booted, hjournal]
  obtain ⟨hid, hup⟩ := loaderRuns_spec (claimed s)
  obtain ⟨hloader, hrunning, hreset⟩ := resume_ident (claimed s).loaderRuns j m
  have hpwr : ((claimed s).loaderRuns.resume j m).pwr = (claimed s).loaderRuns.pwr :=
    (resume_keeps (m := [.rcd, .flt, .id]) (by decide) (keeps_refl _ _)).only.same .pwr (by decide)
  rw [hop, hloader, hrunning, hreset, hid, hpwr]
  exact ⟨rfl, rfl, rfl, hup⟩

/-- Settles O49, one event or command at a time. -/
theorem identityCommandsComplete : Obligations.IdentityCommandsComplete := by
  refine ⟨?open1, ?boot, ?otp, ?resume, ?attest, ?add, ?remove, ?floor, ?check, ?arm, ?wake, ?owner, ?start, ?block, ?last, ?poll, ?falls⟩
  case open1 =>
    intro s r q n k hq ho hsrc hgroup hn h1 h2 hlen hnote hzero hk hclaim
    subst hn
    have hshape : ¬ (u16 q.params 82 < 1 ∨ 1024 < u16 q.params 82 ∨ q.params.length ≠ 148 + u16 q.params 82 ∨ 1 < u8 q.params 80 ∨
        u8 q.params 81 ≠ 0) := by omega
    refine ⟨opSessionOpen r s, rfl, ?_⟩
    split
    next hgood =>
      obtain ⟨hcurve, howner, hsigned⟩ := hgood
      obtain ⟨owner, howner⟩ := Option.isSome_iff_exists.1 howner
      obtain ⟨u, x, p0, p2, b, hu, hx, hop⟩ := opSessionOpen_opens hq ho hshape hcurve howner hsigned hk
      obtain ⟨hkey, hownerId, htop, hseq, hlast, hnotify⟩ := hx
      refine ⟨x, ?_, hkey, by rw [howner]; exact hownerId, htop, hseq, hlast, hnotify⟩
      rw [hop]
      refine sessionOpened hu hsrc hgroup fun g => ?_
      rw [hkey]
      exact hclaim g
    next hbad => exact opSessionOpen_refused hq ho hsrc hgroup hshape hbad hk
  case boot =>
    intro s k flash m p hk hwatch harmed hup hj hp
    subst hp
    refine ⟨_, congrArg Host.Outcome.next (opBoot_of_due hk hwatch harmed hup), ?_⟩
    by_cases hstep : s.id.stored.bootStep s.id.arb (flash.getD s.id.stored.bytes) = 0
    · obtain ⟨hreset, hkeys, hserving, hrunning, hloader, hexec, hisland⟩ := booted_runs (flash := flash) (m := m) (k := k) hj hstep
      exact ⟨hreset, hkeys, by rw [if_pos hstep]; exact ⟨hserving, hrunning, hloader, hexec, hisland⟩⟩
    · obtain ⟨hloader, hrunning, hreset, hexec, hkeys, hcmd, hflt⟩ := booted_fails (booted_stuck (flash := flash) (m := m) (k := k) hj hstep)
      exact ⟨hreset, hkeys, by rw [if_neg hstep]; exact ⟨hloader, hrunning, hexec, hcmd, hflt⟩⟩
  case otp =>
    intro s k flash m p hk hwatch harmed hup hp
    subst hp
    obtain ⟨hloader, hrunning, hreset, hexec, -, hcmd, hflt⟩ := booted_fails (booted_without_otp s flash m k)
    exact ⟨_, congrArg Host.Outcome.next (opBoot_of_due hk hwatch harmed hup), hreset, hloader, hrunning, hexec, hcmd, hflt⟩
  case resume =>
    intro s k flash m hk hwatch harmed hup hj
    exact ⟨_, congrArg Host.Outcome.next (opBoot_of_due hk hwatch harmed hup), booted_resumes hj⟩
  case attest =>
    intro s r q hq ho hlen
    refine congrArg Host.Outcome.next ((onCommand_eq hq ho _).trans ?_)
    simp only [hlen, ne_eq, not_true_eq_false, if_false]
  case add =>
    intro s r q i hq ho haction hnew hi hfree
    exact ⟨_, rfl, opKeyAdd_spec hq ho haction hnew hi hfree⟩
  case remove =>
    intro s r q hq ho haction htwo hstore
    obtain ⟨hkept, hgone⟩ := opKeyRemove_spec hq ho haction htwo hstore
    refine ⟨_, rfl, hkept, fun hnone hnamed => ?_⟩
    have hid : (opKeyRemove r s).id = _ := hgone hnone hnamed
    refine ⟨congrArg Ident.keySeq hid, fun i e => ?_⟩
    rw [hid]
    exact keysWithout_get
  case floor =>
    intro s r q hq ho haction hup hstore
    exact ⟨_, rfl, opWeftFloorRaise_spec hq ho haction hup hstore⟩
  case check =>
    intro s r q m p hq ho hparams hp halone
    refine congrArg Host.Outcome.next ?_
    have hop : opUpdateCheck r m s = s.updateArm q m fun s => s := by
      refine (onCommand_eq hq ho _).trans ?_
      rw [hparams]
      rfl
    rw [hop, updateArm_alone _ hp halone]
    cases imageFault s.id.arb p with
    | none =>
      dsimp only
      rw [updateReply_some, hparams]
      rfl
    | some x =>
      dsimp only
      rw [updateReply_some, hparams]
      rfl
  case arm =>
    intro s r q m p hq ho hparams hp halone
    exact ⟨_, rfl, opUpdateArm_id hq ho hparams hp halone⟩
  case wake =>
    intro s k hwatch hdue
    refine ⟨s.claimPending.onId fun i => { i with watch := none, armed := some (s.now, true) }, congrArg Host.Outcome.next ?_, rfl⟩
    simp only [opUpdateArmByWake, hwatch, Nat.not_lt.mpr hdue, if_false]
  case owner =>
    intro s file i hwatch hfile hnone hlen hhead hi
    refine ⟨_, congrArg Host.Outcome.next (opOwnerClaimed_of_watch hwatch hfile hnone hlen hhead hi), ?_⟩
    split
    · refine ⟨rfl, NmProofs.record_rcd_of_only (onId_keeps (m := [.id]) (by decide) (onId_keeps (by decide) (keeps_refl _ s))).only (by decide) (by decide)
        (by decide) ..⟩
    · exact ⟨rfl, NmProofs.record_rcd_of_only (onId_keeps (m := [.id]) (by decide) (keeps_refl _ s)).only (by decide) (by decide) (by decide) ..⟩
  case start =>
    intro s k wake m p harmed hp
    refine ⟨_, congrArg Host.Outcome.next (opUpdateStart_of_armed harmed hp), ?_⟩
    obtain ⟨hserving, hisland, hnow, hid⟩ := updateBegun_spec s
    generalize updateBegun s = u at *
    cases imageFault s.id.arb p with
    | none =>
      have hid' : (u.record 0x8010 2 (u32 p 20) (u32 p 12) (b2n wake)).id = u.id := rfl
      dsimp only
      rw [if_pos rfl, onId_id, hid', hid]
      exact ⟨rfl, hserving, hisland, rfl, rfl, rfl⟩
    | some x =>
      have hid' : (u.record 0x8013 2 x.1 x.2 0).id = u.id := rfl
      have hnow' : (u.record 0x8013 2 x.1 x.2 0).now = s.now := hnow
      dsimp only
      rw [if_neg (by simp), bootNext_id, hid', hid, hnow']
      exact ⟨rfl, hserving, hisland, rfl, rfl, rfl, rfl⟩
  case block =>
    intro s m flash j p hj hloader hwait hmore hp hdigest
    exact ⟨_, rfl, opUpdateBlock_next hj hloader hwait hmore hp hdigest⟩
  case last =>
    intro s m flash j p r f hj hloader hwait hlast hp hdigest htag hf hr
    exact ⟨_, rfl, opUpdateBlock_end hj hloader hwait hlast hp hdigest htag hf hr⟩
  case poll =>
    intro s m j p hloader hdue hj hwait hp hdigest
    refine ⟨_, congrArg Host.Outcome.next (opMediumPoll_waiting hloader hdue hj hwait), resume_pollAt _ _ _ rfl, fun hsigned => ?_⟩
    rw [resume_signed hp hdigest hsigned]
    exact ⟨rfl, NmProofs.record_rcd_of_only (onId_keeps (m := [.id]) (by decide) (onId_keeps (by decide) (keeps_refl _ s))).only (by decide) (by decide)
      (by decide) ..⟩
  case falls =>
    exact fun s => ⟨_, rfl, rfl⟩

end Sys2Proof.IdentityProofs

/-! The events of the CAN controllers (spec/12). -/

namespace Sys2Proof.CanProofs

open Sys2Proof Sys2Proof.Machine Sys2Proof.Laws Sys2Proof.ReplyProofs

variable {s t : State} {c : CanNo}

/-! ## Rules of the operations -/

theorem canCh_of_keeps {m : List Part} (h : Keeps m s t) (hm : .can ∉ m) (c : CanNo) : t.canCh c = s.canCh c :=
  congrArg (fun k : Can => k.chans.get c) (h.only.same .can hm)

theorem nmCh_of_keeps {m : List Part} (h : Keeps m s t) (hm : .nm ∉ m) (c : CanNo) : t.nmCh c = s.nmCh c :=
  congrArg (fun k : Nm => k.chans.get c) (h.only.same .nm hm)

@[simp] theorem canCh_record (s : State) (code source p0 p1 p2 : Nat) (c : CanNo) : (s.record code source p0 p1 p2).canCh c = s.canCh c := rfl

@[simp] theorem canCh_fault (s : State) (k : Cls) (island code p0 p1 p2 : Nat) (c : CanNo) :
    (s.fault k island code p0 p1 p2).canCh c = s.canCh c :=
  canCh_of_keeps (fault_keeps (m := [.rcd, .flt]) (by decide) (keeps_refl _ s)) (by decide) c

/-- A fault's word does not look at the CAN channels. -/
theorem onCanCh_fault_flt (s : State) (c : CanNo) (f : CanCh → CanCh) (k : Cls) (island code p0 p1 p2 : Nat) :
    ((s.onCanCh c f).fault k island code p0 p1 p2).flt = (s.fault k island code p0 p1 p2).flt := rfl

/-- Neither does a record. -/
theorem onCanCh_record_rcd (s : State) (c : CanNo) (f : CanCh → CanCh) (code source p0 p1 p2 : Nat) :
    ((s.onCanCh c f).record code source p0 p1 p2).rcd = (s.record code source p0 p1 p2).rcd := rfl

/-- A change that leaves the channel as it is leaves the state. -/
theorem onCanCh_of_fix {f : CanCh → CanCh} (h : f (s.canCh c) = s.canCh c) : s.onCanCh c f = s := by
  have hchans : s.can.chans.upd c f = s.can.chans := by
    refine FarProofs.tab_ext fun d => ?_
    by_cases hd : d = c
    · rw [hd, Tab.get_upd_self]
      exact h
    · exact Tab.get_upd_ne _ f hd
  rw [State.onCanCh, State.onCan, hchans]

/-- Where no replacement waits, none is promoted. -/
theorem promote_of_none {x : CanCh} (h : ∀ a, (x.tx.get a).next = none) (sof : Nat) : x.promote sof = x := by
  have htx : (x.promote sof).tx = x.tx := by
    refine FarProofs.tab_ext fun a => ?_
    rw [CanCh.promote, Tab.get_mapIdx, h a]
  exact congrArg (fun tx => { x with tx := tx }) htx

/-- Traffic in CLEARING wakes the channel to LISTEN, which leaves the controllers as they are. -/
@[simp] theorem busActivity_can (s : State) (c : CanNo) : (s.busActivity c).can = s.can := by
  unfold State.busActivity
  split
  next h =>
    simp only [Bool.and_eq_true, decide_eq_true_eq] at h
    obtain ⟨⟨-, hstate⟩, -⟩ := h
    have hold : ((s.onNm fun n => { n with wakeInClearing := true, clearingWakes := satAdd 0xFFFF n.clearingWakes 1 }).nmCh c).state = .clearing :=
      hstate
    simp only [State.wakeInClearing, State.nmEnter, hold]
    rfl
  · rfl

@[simp] theorem canCh_busActivity (s : State) (c d : CanNo) : (s.busActivity c).canCh d = s.canCh d :=
  congrArg (fun k : Can => k.chans.get d) (busActivity_can s c)

theorem busActivity_of_awake (h : (s.nmCh c).state ≠ .clearing) : s.busActivity c = s := by
  rw [State.busActivity, decide_eq_false h, Bool.and_false, Bool.false_and]
  rfl

/-- Judging the network state starts or stops a channel's controller and leaves its buffers and its error count. -/
structure BuffersKept (s t : State) : Prop where
  tec : ∀ c, (t.canCh c).tec = (s.canCh c).tec
  tx : ∀ c, (t.canCh c).tx = (s.canCh c).tx

theorem BuffersKept.refl (s : State) : BuffersKept s s := ⟨fun _ => rfl, fun _ => rfl⟩

theorem BuffersKept.trans {u : State} (h : BuffersKept s t) (k : BuffersKept t u) : BuffersKept s u :=
  ⟨fun c => (k.tec c).trans (h.tec c), fun c => (k.tx c).trans (h.tx c)⟩

theorem BuffersKept.of_keeps {m : List Part} (h : Keeps m s t) (hm : .can ∉ m) : BuffersKept s t :=
  ⟨fun c => congrArg CanCh.tec (canCh_of_keeps h hm c), fun c => congrArg CanCh.tx (canCh_of_keeps h hm c)⟩

theorem onCanCh_buffersKept (s : State) (c : CanNo) {f : CanCh → CanCh} (htec : ∀ x, (f x).tec = x.tec) (htx : ∀ x, (f x).tx = x.tx) :
    BuffersKept s (s.onCanCh c f) := by
  refine ⟨fun d => ?_, fun d => ?_⟩
  all_goals
    by_cases hd : d = c
    · rw [hd, canCh_onCanCh]
      first | exact htec _ | exact htx _
    · rw [canCh_onCanCh_ne s f hd]

theorem nmEnter_buffersKept (s : State) (c : CanNo) (st : NmState) : BuffersKept s (s.nmEnter c st) := by
  unfold State.nmEnter
  extract_lets old now u
  have hu : BuffersKept s u := .of_keeps (onNmCh_keeps (m := [.nm]) (by decide) (keeps_refl _ s)) (by decide)
  split
  · exact hu.trans (onCanCh_buffersKept u c (fun _ => rfl) fun _ => rfl)
  · split
    · exact hu.trans (onCanCh_buffersKept u c (fun _ => rfl) fun _ => rfl)
    · exact hu

theorem wakeInClearing_buffersKept (s : State) (c : CanNo) (cause : Nat) (to_ : NmState) (why : Nat) :
    BuffersKept s (s.wakeInClearing c cause to_ why) := by
  unfold State.wakeInClearing
  extract_lets ms u
  have hu : BuffersKept s u := .of_keeps (onNm_keeps (m := [.nm]) (by decide) (keeps_refl _ s)) (by decide)
  exact (hu.trans (nmEnter_buffersKept u c to_)).trans (.of_keeps (record_keeps (m := [.nm, .rcd]) (by decide) (onNmCh_keeps (by decide)
    (keeps_refl _ _))) (by decide))

theorem nmRequest_buffersKept (s : State) (c : CanNo) : BuffersKept s (s.nmRequest c) := by
  have hcause (f : NmCh → NmCh) (t : State) : BuffersKept t (t.onNmCh c f) :=
    .of_keeps (onNmCh_keeps (m := [.nm]) (by decide) (keeps_refl _ t)) (by decide)
  unfold State.nmRequest
  split
  · exact ((nmEnter_buffersKept s c .rpt).trans (hcause _ _)).trans (.of_keeps (record_keeps (m := [.rcd]) (by decide) (keeps_refl _ _)) (by decide))
  · exact (nmEnter_buffersKept s c .rpt).trans (hcause _ _)
  · exact wakeInClearing_buffersKept ..
  · exact nmEnter_buffersKept ..
  · exact .refl s

theorem nmJudge_buffersKept (s : State) (c : CanNo) : BuffersKept s (s.nmJudge c) := by
  unfold State.nmJudge
  split
  · exact .refl s
  · extract_lets u
    have hu : BuffersKept s u := by
      unfold u
      split
      · exact nmEnter_buffersKept ..
      · exact .refl s
    split
    · exact hu.trans (nmRequest_buffersKept u c)
    · split
      · exact hu.trans (nmEnter_buffersKept u c .ready)
      · exact hu

/-! ## A frame received (R338 to R342) -/

/-- What an own frame's good end leaves before the filters: the error count gone down and the bus's time taken. -/
def heard (s : State) (c : CanNo) (f : CanFrame) (ago : Nat) : State := (s.recDown c).canSync c f ((s.recDown c).now - ago)

theorem heard_keeps (s : State) (c : CanNo) (f : CanFrame) (ago : Nat) : Keeps [.free, .clk, .rcd, .can] s (heard s c f ago) :=
  canSync_keeps (by decide) (recDown_keeps (by decide) (keeps_refl _ s))

theorem canCh_recDown (s : State) (c : CanNo) : ∃ n, (s.recDown c).canCh c = { s.canCh c with rec_ := n } := by
  unfold State.recDown
  extract_lets x
  split
  · exact ⟨_, (canCh_onCanCh s.draw.2 c _).trans rfl⟩
  · exact ⟨_, canCh_onCanCh s c _⟩

theorem canCh_heard (s : State) (c : CanNo) (f : CanFrame) (ago : Nat) : ∃ n, (heard s c f ago).canCh c = { s.canCh c with rec_ := n } := by
  obtain ⟨n, hn⟩ := canCh_recDown s c
  exact ⟨n, (canCh_of_keeps (canSync_keeps (m := [.free, .clk, .rcd]) (by decide) (keeps_refl _ (s.recDown c))) (by decide) c).trans hn⟩

/-- A frame of another's, neither a command nor a network-management frame, goes through the filters. -/
theorem opCanFrameReceive_filtered {f : CanFrame} {ago sub : Nat} (hruns : s.canRuns c = true) (hint : (s.canCh c).integrating = false)
    (hstate : (s.canCh c).state = .active ∨ (s.canCh c).state = .passive) (hfd : f.fdf = true → (s.canCh c).fdEn = true)
    (hcmd : s.isCommand c f = false) (hnm : s.isNm f = false) :
    opCanFrameReceive c f ago sub none s = ((heard s c f ago).filterFrame c f (s.warp - ago) sub).busActivity c := by
  have hk := recDown_keeps (m := [.free, .can]) (by decide) (keeps_refl _ s) (x1 := c)
  have hcmd' : (s.recDown c).isCommand c f = false := by
    rw [State.isCommand, hk.only.same .cmd (by decide)]
    exact hcmd
  have hnm' : (s.recDown c).isNm f = false := by
    rw [State.isNm, hk.only.same .nm (by decide)]
    exact hnm
  have hrun : (!s.canRuns c || (s.canCh c).integrating || (decide ((s.canCh c).state ≠ .active) && decide ((s.canCh c).state ≠ .passive)) ||
      (f.fdf && !(s.canCh c).fdEn)) = false := by
    rcases hstate with h | h
    all_goals
      cases hf : f.fdf with
      | false => simp [hruns, hint, h]
      | true => simp [hruns, hint, h, hfd hf]
  have hwarp : (heard s c f ago).warp = s.warp := congrArg (fun w : WarpTime => w.warp.toNat) ((heard_keeps s c f ago).only.same .wt (by decide))
  have hcall : opCanFrameReceive c f ago sub none s = ((heard s c f ago).filterFrame c f ((heard s c f ago).warp - ago) sub).busActivity c := by
    simp only [opCanFrameReceive, hrun, hcmd', hnm', Bool.false_and, heard, if_neg Bool.false_ne_true]
  rw [hcall, hwarp]

/-- A frame in a queue with room is appended; the other queue stays. -/
theorem toQueue_room {q : Fin 2} {f : CanFrame} {tick sub pair : Nat} (h : ((s.canCh c).q.get q).items.length < 48) :
    (((s.toQueue c q f tick sub pair).canCh c).q.get q).items = ((s.canCh c).q.get q).items ++
      [{ frame := f, tick := tick, sub := sub, pair := pair, seq := ((s.canCh c).q.get q).seq }] ∧
    ∀ r, r ≠ q → ((s.toQueue c q f tick sub pair).canCh c).q.get r = (s.canCh c).q.get r := by
  rw [State.toQueue, if_pos h, canCh_onCanCh]
  refine ⟨?_, fun r hr => Tab.get_upd_ne _ _ hr⟩
  rw [Tab.get_upd_self]

/-- A frame for a full queue is lost and counted. -/
theorem toQueue_full {q : Fin 2} {f : CanFrame} {tick sub pair : Nat} (h : 48 ≤ ((s.canCh c).q.get q).items.length) :
    (((s.toQueue c q f tick sub pair).canCh c).q.get q).items = ((s.canCh c).q.get q).items ∧
    (((s.toQueue c q f tick sub pair).canCh c).q.get q).drop = satAdd 0xFFFF ((s.canCh c).q.get q).drop 1 ∧
    (((s.toQueue c q f tick sub pair).canCh c).q.get q).ovf = true := by
  have hreport : ∃ n, ((s.reportDrops c q).canCh c).q.get q = { (s.canCh c).q.get q with dropsInSec := n } := by
    unfold State.reportDrops
    extract_lets k
    split
    · exact ⟨0, by rw [canCh_record, canCh_onCanCh, Tab.get_upd_self]⟩
    · exact ⟨_, rfl⟩
  obtain ⟨n, hn⟩ := hreport
  rw [State.toQueue, if_neg (Nat.not_lt.mpr h), canCh_onCanCh, Tab.get_upd_self, hn]
  exact ⟨rfl, rfl, rfl⟩

/-- A frame that hits a pair of action 1 or 2 goes to that queue. -/
theorem filterFrame_queue {f : CanFrame} {tick sub : Nat} {k : Fin 32} {q : Fin 2} (hpair : (s.canCh c).pair f = some k)
    (haction : ((s.canCh c).filters.get k).action = q.1 + 1) (hmask : bit ((s.canCh c).filters.get k).mask 29 = false) :
    s.filterFrame c f tick sub = s.toQueue c q f tick sub k.1 := by
  have hq : q = 0 ∨ q = 1 := by omega
  rcases hq with rfl | rfl
  all_goals
    simp only [State.filterFrame, hpair, haction, hmask, Bool.false_and, if_neg Bool.false_ne_true]
    rfl

/-- What the filters do with a frame received that hits a pair of action 1 or 2. -/
theorem canCh_opCanFrameReceive {f : CanFrame} {ago sub : Nat} {k : Fin 32} {q : Fin 2} (hruns : s.canRuns c = true)
    (hint : (s.canCh c).integrating = false) (hstate : (s.canCh c).state = .active ∨ (s.canCh c).state = .passive)
    (hfd : f.fdf = true → (s.canCh c).fdEn = true) (hcmd : s.isCommand c f = false) (hnm : s.isNm f = false)
    (hpair : (s.canCh c).pair f = some k) (haction : ((s.canCh c).filters.get k).action = q.1 + 1)
    (hmask : bit ((s.canCh c).filters.get k).mask 29 = false) :
    (heard s c f ago).canCh c = { s.canCh c with rec_ := ((heard s c f ago).canCh c).rec_ } ∧
    (opCanFrameReceive c f ago sub none s).canCh c = ((heard s c f ago).toQueue c q f (s.warp - ago) sub k.1).canCh c := by
  obtain ⟨n, hn⟩ := canCh_heard s c f ago
  have hfilter : (heard s c f ago).filterFrame c f (s.warp - ago) sub = (heard s c f ago).toQueue c q f (s.warp - ago) sub k.1 := by
    apply filterFrame_queue
    all_goals
      rw [hn]
      assumption
  rw [opCanFrameReceive_filtered hruns hint hstate hfd hcmd hnm, hfilter, canCh_busActivity]
  exact ⟨by rw [hn], rfl⟩

/-! ## Errors (R343, R344) -/

/-- The guard of an error's row: the controller runs on the bus. -/
theorem onBus_of (hruns : s.canRuns c = true) (hint : (s.canCh c).integrating = false)
    (hstate : (s.canCh c).state = .active ∨ (s.canCh c).state = .passive) :
    (!s.canRuns c || (s.canCh c).integrating || (decide ((s.canCh c).state ≠ .active) && decide ((s.canCh c).state ≠ .passive))) = false := by
  rcases hstate with h | h
  all_goals simp [hruns, hint, h]

/-- An error in another's frame outside the monitor mode: noted, and the receive count up. -/
theorem canCh_opCanError_other {kind : Fin 5} {inData dataField heavy : Bool} {ago : Nat} {tdcv : Option Nat} (hruns : s.canRuns c = true)
    (hint : (s.canCh c).integrating = false) (hstate : (s.canCh c).state = .active ∨ (s.canCh c).state = .passive) (hmode : (s.canCh c).mode ≠ 2) :
    (opCanError c kind inData none dataField heavy ago tdcv s).canCh c =
      { (s.canCh c).noteError (kind.1 + 1) inData false s.warp with rec_ := min 255 ((s.canCh c).rec_ + if heavy then 8 else 1) } := by
  simp only [opCanError, onBus_of hruns hint hstate, if_neg Bool.false_ne_true, canCh_busActivity, canCh_onCanCh]
  exact if_neg hmode

/-- What a failed attempt leaves of the buffer. -/
def failedBuf (y : TxBuf) (f : CanFrame) (clash : Bool) : TxBuf :=
  let n := if clash then min 63 (y.clash + 1) else 0
  { y with
    attempts := y.attempts + 1
    clash := n
    due := if clash && decide (n = 16) && !y.idClash then some (f.id + 2 ^ 31 * b2n f.ide, n) else y.due
    frame := if y.next.isSome then y.next else y.frame
    next := none }

theorem attemptFailed_eq {b : Fin 5} {f : CanFrame} {l : Nat} {clash : Bool} (hframe : ((s.canCh c).tx.get b).frame = some (f, l))
    (habort : ((s.canCh c).tx.get b).abort = false) :
    ∃ g, (s.attemptFailed c b clash) = (s.onCanCh c fun x => { x with tx := x.tx.upd b g }) ∧
      g ((s.canCh c).tx.get b) = failedBuf ((s.canCh c).tx.get b) f clash := by
  simp only [State.attemptFailed, hframe, habort, if_neg Bool.false_ne_true]
  exact ⟨_, rfl, rfl⟩

/-- An error in the module's own frame: noted, the transmit count up, the attempt counted. -/
theorem canCh_opCanError_own {kind : Fin 5} {b : Fin 5} {f : CanFrame} {l : Nat} {inData heavy : Bool} {ago : Nat} {tdcv : Option Nat}
    (hruns : s.canRuns c = true) (hint : (s.canCh c).integrating = false)
    (hstate : (s.canCh c).state = .active ∨ (s.canCh c).state = .passive) (hnext : ∀ a, ((s.canCh c).tx.get a).next = none)
    (hframe : ((s.canCh c).tx.get b).frame = some (f, l)) (habort : ((s.canCh c).tx.get b).abort = false)
    (hgoes : s.attempting c b (s.now - ago) = true) :
    ∃ v g, (opCanError c kind inData (some b) false heavy ago tdcv s).canCh c =
        { (s.canCh c).noteError (kind.1 + 1) inData true s.warp with
          tec := (s.canCh c).tec + (if heavy then 8 else 0), tdcv := v, tx := (s.canCh c).tx.upd b g } ∧
      g ((s.canCh c).tx.get b) = failedBuf ((s.canCh c).tx.get b) f false := by
  have hpromote : (s.onCanCh c fun x => x.promote (s.now - ago)) = s := onCanCh_of_fix (promote_of_none hnext _)
  simp only [opCanError, onBus_of hruns hint hstate, if_neg Bool.false_ne_true, hpromote, hgoes, Bool.not_true, hframe, Bool.and_false,
    canCh_busActivity]
  generalize hu : s.onCanCh c _ = u
  have hch : ∃ v, u.canCh c =
      { (s.canCh c).noteError (kind.1 + 1) inData true s.warp with tec := (s.canCh c).tec + (if heavy then 8 else 0), tdcv := v } :=
    ⟨_, by rw [← hu, canCh_onCanCh]⟩
  obtain ⟨v, hv⟩ := hch
  have htx : (u.canCh c).tx = (s.canCh c).tx := by rw [hv]; rfl
  obtain ⟨g, hg, hfailed⟩ := attemptFailed_eq (s := u) (c := c) (b := b) (f := f) (l := l) (clash := false) (by rw [htx]; exact hframe)
    (by rw [htx]; exact habort)
  refine ⟨v, g, ?_, by rw [← htx]; exact hfailed⟩
  rw [hg, canCh_onCanCh, hv]
  rfl

/-! ## A frame sent or given up (R346 to R350) -/

/-- Refilling the module's own buffer leaves the other buffers and the error count. -/
theorem refill_kept (x : CanCh) (now : Nat) : (x.refill now).tec = x.tec ∧ ∀ b, b ≠ 3 → (x.refill now).tx.get b = x.tx.get b := by
  unfold CanCh.refill
  split
  · exact ⟨rfl, fun _ _ => rfl⟩
  · split
    · exact ⟨rfl, fun b hb => Tab.get_upd_ne _ _ hb⟩
    · exact ⟨rfl, fun _ _ => rfl⟩

/-- With nothing waiting there is nothing to refill. -/
theorem refill_tx_of_nil {x : CanCh} (h : x.waiting = []) (now : Nat) : (x.refill now).tx = x.tx := by
  unfold CanCh.refill
  split
  · rfl
  · rw [h]
    rfl

/-- What a completed command leaves of the channel's other buffers and of the error count. -/
theorem completeId_buffers (s : State) (id : Nat) (st : Status) (p : List Byte) (detail : Nat) (c : CanNo) :
    ((s.completeId id st p detail).canCh c).tec = (s.canCh c).tec ∧
      ∀ b, b ≠ 3 → ((s.completeId id st p detail).canCh c).tx.get b = (s.canCh c).tx.get b := by
  have hr := (completeId_replied s id st p detail).can
  have htec := congrArg CanCh.tec (hr.ch c)
  exact ⟨htec, fun b hb => hr.tx c b hb⟩

/-- The frame as the bus carries it: without the bit-rate switch where the clock is too coarse for it, with the error state's bit. -/
def wireFrame (s : State) (c : CanNo) (f : CanFrame) : Out :=
  .can c f.id f.ide f.rtr f.fdf (f.brs && (s.canCh c).brsEn && !(f.fdf && !s.clk.refXo && !s.clk.hfoTrimmed))
    (f.fdf && decide ((s.canCh c).state = .passive)) f.dlc f.data

/-- The channel with the frame of buffer `b` sent, before the own frames that wait move up. -/
def sentCh (s : State) (x : CanCh) (b : Fin 5) (f : CanFrame) (tdcv : Nat) : CanCh :=
  { x with
    tec := x.tec - 1
    tdcv := if f.fdf then tdcv % 128 else x.tdcv
    brsSup := if f.fdf && !s.clk.refXo && !s.clk.hfoTrimmed then satAdd 0xFFFF x.brsSup 1 else x.brsSup
    tx := x.tx.upd b fun y => match y.next with
      | some g => { y.empty with frame := some g, attempts := 0 }
      | none => y.empty }

/-- The state with the frame sent, before its command is answered. -/
def sentState (s : State) (c : CanNo) (b : Fin 5) (f : CanFrame) (tdcv : Nat) : State :=
  let u := ((s.send (wireFrame s c f)).onCanCh c (sentCh s · b f tdcv)).onCanCh c fun x => x.refill s.now
  if u.isNm f then u.onNmCh c fun n => { n with timeoutAt := s.now } else u

theorem sentState_out (s : State) (c : CanNo) (b : Fin 5) (f : CanFrame) (tdcv : Nat) :
    (sentState s c b f tdcv).out = wireFrame s c f :: s.out := by
  unfold sentState
  extract_lets u
  split <;> rfl

theorem canCh_sentState (s : State) (c : CanNo) (b : Fin 5) (f : CanFrame) (tdcv : Nat) :
    (sentState s c b f tdcv).canCh c = (sentCh s (s.canCh c) b f tdcv).refill s.now := by
  have hu : (((s.send (wireFrame s c f)).onCanCh c (sentCh s · b f tdcv)).onCanCh c fun x => x.refill s.now).canCh c =
      (sentCh s (s.canCh c) b f tdcv).refill s.now := by
    rw [canCh_onCanCh, canCh_onCanCh]
    rfl
  unfold sentState
  extract_lets u
  split
  · exact hu
  · exact hu

theorem opCanTxComplete_eq {b : Fin 5} {f : CanFrame} {l ago tdcv : Nat} (hnext : ∀ a, ((s.canCh c).tx.get a).next = none)
    (hframe : ((s.canCh c).tx.get b).frame = some (f, l)) (hgoes : s.attempting c b (s.now - ago) = true) :
    opCanTxComplete c b ago tdcv s = (match ((s.canCh c).tx.get b).cmd with
      | none => sentState s c b f tdcv
      | some id => (sentState s c b f tdcv).completeId id .ok
          (canReply c b 0xFF (((s.canCh c).tx.get b).attempts + 1) ((sentState s c b f tdcv).warp - ago))).nmJudge c := by
  have hpromote : (s.onCanCh c fun x => x.promote (s.now - ago)) = s := onCanCh_of_fix (promote_of_none hnext _)
  simp only [opCanTxComplete, hpromote, hframe, hgoes, Bool.not_true, if_neg Bool.false_ne_true]
  rfl

/-- The buffer is empty after the frame was sent, unless an own frame moves up into it. -/
theorem sentState_empty {b : Fin 5} {f : CanFrame} {tdcv : Nat} (hnext : ((s.canCh c).tx.get b).next = none)
    (hown : b = 3 → (s.canCh c).waiting = []) : (((sentState s c b f tdcv).canCh c).tx.get b).frame = none := by
  have hsent : (((sentCh s (s.canCh c) b f tdcv).tx).get b).frame = none := by
    rw [sentCh, Tab.get_upd_self, hnext]
    rfl
  rw [canCh_sentState]
  by_cases hb : b = 3
  · rw [refill_tx_of_nil (x := sentCh s (s.canCh c) b f tdcv) (hown hb)]
    exact hsent
  · rw [(refill_kept _ s.now).2 b hb]
    exact hsent

theorem opCanTxComplete_spec {b : Fin 5} {f : CanFrame} {l ago tdcv : Nat} (hnext : ∀ a, ((s.canCh c).tx.get a).next = none)
    (hframe : ((s.canCh c).tx.get b).frame = some (f, l)) (hgoes : s.attempting c b (s.now - ago) = true)
    (hown : b = 3 → (s.canCh c).waiting = [] ∧ ((s.canCh c).tx.get b).cmd = none) :
    (((opCanTxComplete c b ago tdcv s).canCh c).tx.get b).frame = none ∧
    ((opCanTxComplete c b ago tdcv s).canCh c).tec = (s.canCh c).tec - 1 ∧ wireFrame s c f ∈ (opCanTxComplete c b ago tdcv s).out := by
  have hempty := sentState_empty (f := f) (tdcv := tdcv) (hnext b) fun hb => (hown hb).1
  have htec : ((sentState s c b f tdcv).canCh c).tec = (s.canCh c).tec - 1 := by
    rw [canCh_sentState, (refill_kept _ s.now).1]
    rfl
  have hout : wireFrame s c f ∈ (sentState s c b f tdcv).out := by simp [sentState_out]
  have hjudge (u : State) : ((u.nmJudge c).canCh c).tx = (u.canCh c).tx ∧ ((u.nmJudge c).canCh c).tec = (u.canCh c).tec ∧
      (u.nmJudge c).out = u.out :=
    ⟨(nmJudge_buffersKept u c).tx c, (nmJudge_buffersKept u c).tec c,
      (nmJudge_keeps (m := [.rcd, .can, .nm]) (by decide) (keeps_refl _ u)).only.same .out (by decide)⟩
  rw [opCanTxComplete_eq hnext hframe hgoes]
  generalize sentState s c b f tdcv = u at hempty htec hout
  cases hcmd : ((s.canCh c).tx.get b).cmd with
  | none =>
    obtain ⟨hjtx, hjtec, hjout⟩ := hjudge u
    dsimp only
    rw [hjtx, hjtec, hjout]
    exact ⟨hempty, htec, hout⟩
  | some id =>
    have hb : b ≠ 3 := fun hb => by simp [(hown hb).2] at hcmd
    dsimp only
    generalize canReply c b 0xFF (((s.canCh c).tx.get b).attempts + 1) (u.warp - ago) = p
    obtain ⟨hctec, hctx⟩ := completeId_buffers u id .ok p 0 c
    obtain ⟨hjtx, hjtec, hjout⟩ := hjudge (u.completeId id .ok p)
    rw [hjtx, hjtec, hjout, hctec, hctx b hb]
    exact ⟨hempty, htec, (completeId_said u id .ok p).out.subset hout⟩

theorem opCanAbort_spec {b : Fin 3} {f : CanFrame} {l : Nat} {a : Fin 5} (ha : a = ⟨b.1, by omega⟩) (habort : ((s.canCh c).tx.get a).abort = true)
    (hframe : ((s.canCh c).tx.get a).frame = some (f, l)) :
    ((opCanAbort c b s).canCh c).tx.get a = ((s.canCh c).tx.get a).empty := by
  have hb : a ≠ 3 := by
    rw [ha, Ne, Fin.ext_iff]
    exact Nat.ne_of_lt b.2
  have hu : ((s.onCanCh c fun x => CanCh.refill { x with tx := x.tx.upd a TxBuf.empty } s.now).canCh c).tx.get a =
      ((s.canCh c).tx.get a).empty := by
    rw [canCh_onCanCh, (refill_kept _ s.now).2 a hb, Tab.get_upd_self]
  have hempty : ((s.emptyBuf c a 0).canCh c).tx.get a = ((s.canCh c).tx.get a).empty := by
    rw [State.emptyBuf, hframe]
    cases ((s.canCh c).tx.get a).cmd with
    | none => exact hu
    | some id => exact ((completeId_buffers _ id .state _ 0 c).2 a hb).trans hu
  subst ha
  simp only [opCanAbort, habort, if_true]
  rw [(nmJudge_buffersKept _ c).tx c]
  exact hempty

/-- Settles O39: a frame received goes through the filters into its queue, an error counts, the bus states follow the counts, and a frame sent or
given up leaves its buffer empty. -/
theorem canEventsComplete : Obligations.CanEventsComplete := by
  unfold Obligations.CanEventsComplete
  refine ⟨?queued, ?full, ?other, ?own, ?exception, ?passive, ?active, ?off, ?recovered, ?integrated, ?clash, ?sent, ?abort⟩
  case queued =>
    intro s c f ago sub k hruns hint hstate hfd hcmd hnm _ hpair haction hmask hroom
    obtain ⟨hheard, ht⟩ := canCh_opCanFrameReceive (ago := ago) (sub := sub) (q := 0) hruns hint hstate hfd hcmd hnm hpair haction hmask
    have hq : ((heard s c f ago).canCh c).q = (s.canCh c).q := by rw [hheard]
    obtain ⟨hitems, hothers⟩ := toQueue_room (s := heard s c f ago) (c := c) (q := 0) (f := f) (tick := s.warp - ago) (sub := sub) (pair := k.1)
      (by rw [hq]; exact hroom)
    refine ⟨_, rfl, ?_, ?_⟩
    · rw [ht, hitems, hq]
    · rw [ht, hothers 1 (by decide), hq]
  case full =>
    intro s c f ago sub k hruns hint hstate hfd hcmd hnm _ hpair haction hmask hfull
    obtain ⟨hheard, ht⟩ := canCh_opCanFrameReceive (ago := ago) (sub := sub) (q := 1) hruns hint hstate hfd hcmd hnm hpair haction hmask
    have hq : ((heard s c f ago).canCh c).q = (s.canCh c).q := by rw [hheard]
    have hlost := toQueue_full (s := heard s c f ago) (c := c) (q := 1) (f := f) (tick := s.warp - ago) (sub := sub) (pair := k.1)
      (by rw [hq]; exact hfull)
    rw [hq] at hlost
    refine ⟨_, rfl, ?_⟩
    rw [ht]
    exact hlost
  case other =>
    intro s c kind inData dataField heavy ago tdcv hruns hint hstate hmode
    refine ⟨_, rfl, ?_⟩
    rw [canCh_opCanError_other hruns hint hstate hmode]
    exact ⟨rfl, rfl, rfl, rfl⟩
  case own =>
    intro s c kind b f l inData heavy ago tdcv hruns hint hstate hnext hframe habort hgoes
    obtain ⟨v, g, ht, hg⟩ := canCh_opCanError_own (kind := kind) (inData := inData) (heavy := heavy) (tdcv := tdcv) hruns hint hstate hnext hframe
      habort hgoes
    refine ⟨_, rfl, ?_⟩
    rw [ht]
    refine ⟨rfl, rfl, rfl, ?_, ?_, fun a ha => Tab.get_upd_ne _ _ ha⟩
    · dsimp only
      rw [Tab.get_upd_self, hg, failedBuf, hnext b]
      exact hframe
    · dsimp only
      rw [Tab.get_upd_self, hg]
      rfl
  case exception =>
    intro s c hruns hint hfd hstate
    have hmode : (s.canCh c).mode ≠ 0 := by
      simp only [State.canRuns, Bool.and_eq_true, decide_eq_true_eq] at hruns
      exact hruns.1.1.1
    refine ⟨_, rfl, ?_⟩
    simp only [opProtocolException, hruns, hint, hfd, decide_eq_false hstate, Bool.not_true, Bool.or_false, if_neg Bool.false_ne_true,
      canCh_busActivity, canCh_onCanCh]
    exact ⟨rfl, decide_eq_true hmode, trivial, trivial⟩
  case passive =>
    intro s c hstate hcount
    refine ⟨_, rfl, ?_⟩
    simp only [opErrorPassive, if_pos (And.intro hstate hcount), canCh_fault, canCh_onCanCh, onCanCh_fault_flt, and_self]
  case active =>
    intro s c hstate htec hrec
    refine ⟨_, rfl, ?_⟩
    simp only [opErrorActive, if_pos (And.intro hstate (And.intro htec hrec)), canCh_record, canCh_onCanCh, onCanCh_record_rcd, and_self]
  case off =>
    intro s c hstate htec
    refine ⟨_, rfl, ?_⟩
    simp only [opBusOff, if_pos (And.intro hstate htec), canCh_fault, canCh_onCanCh, onCanCh_fault_flt, and_self]
  case recovered =>
    intro s c hstate hruns hdue
    refine ⟨_, rfl, ?_⟩
    simp only [opBusRecovered, if_pos (And.intro hstate (And.intro hruns hdue)), canCh_record, canCh_onCanCh, onCanCh_record_rcd, and_self]
  case integrated =>
    intro s c hruns hint
    refine ⟨_, rfl, ?_⟩
    simp only [opBusIntegrated, if_pos (And.intro hruns hint), canCh_onCanCh]
    exact ⟨trivial, trivial, rfl, rfl⟩
  case clash =>
    intro s c b id n hdue
    refine ⟨_, rfl, ?_⟩
    simp only [opIdclash, hdue, canCh_fault, canCh_onCanCh, onCanCh_fault_flt, Tab.get_upd_self, and_self]
  case sent =>
    exact fun s c b f l ago tdcv hnext hframe hgoes hown => ⟨_, rfl, opCanTxComplete_spec hnext hframe hgoes hown⟩
  case abort =>
    intro s c b f l habort hframe
    refine ⟨_, rfl, ?_⟩
    rw [opCanAbort_spec rfl habort hframe]
    exact ⟨rfl, rfl, rfl⟩

end Sys2Proof.CanProofs

/-! Loading, starting, stopping and swapping wefts (spec/04). -/

namespace Sys2Proof.WeftCommandProofs

open Sys2Proof Sys2Proof.Machine Sys2Proof.Laws Sys2Proof.ReplyProofs Sys2Proof.CommandProofs

variable {s t : State}

/-! ## What leaves the weft's part -/

theorem weft_of_keeps {m : List Part} (h : Keeps m s t) (hm : .weft ∉ m) : t.weft = s.weft := h.only.same .weft hm

theorem completeId_weft (s : State) (id : Nat) (st : Status) (p : List Byte) (detail : Nat := 0) :
    (s.completeId id st p detail).weft = s.weft :=
  weft_of_keeps (completeId_keeps (m := [.out, .rcd, .cmd, .sw, .drv, .fld, .can, .far, .twin]) (by decide) (keeps_refl _ s)) (by decide)

theorem completeId_loom (s : State) (id : Nat) (st : Status) (p : List Byte) (detail : Nat := 0) :
    (s.completeId id st p detail).loom = s.loom :=
  (completeId_keeps (m := [.out, .rcd, .cmd, .sw, .drv, .fld, .can, .far, .twin]) (by decide) (keeps_refl _ s)).only.same .loom (by decide)

/-- The command that waits for an event of the weft, if any, is answered; the weft and the Loom stay. -/
theorem answered_weft (s : State) (x : Option Nat) (st : Status) (p : List Byte) :
    (match x with
      | some c => s.completeId c st p
      | none => s).weft = s.weft := by
  cases x with
  | none => rfl
  | some c => exact completeId_weft ..

theorem answered_loom (s : State) (x : Option Nat) (st : Status) (p : List Byte) :
    (match x with
      | some c => s.completeId c st p
      | none => s).loom = s.loom := by
  cases x with
  | none => rfl
  | some c => exact completeId_loom ..

@[simp] theorem nmEval_weft (s : State) : s.nmEval.weft = s.weft :=
  weft_of_keeps (nmEval_keeps (m := [.rcd, .can, .nm, .eth]) (by decide) (keeps_refl _ s)) (by decide)

@[simp] theorem nmEval_loom (s : State) : s.nmEval.loom = s.loom :=
  (nmEval_keeps (m := [.rcd, .can, .nm, .eth]) (by decide) (keeps_refl _ s)).only.same .loom (by decide)

/-- The frame's mark runs no halt that is not due: it closes the segment, restarts the counts and releases tasks. -/
theorem weftMark_weft (h : s.weft.haltDue = false) : ∃ ts n, s.weftMark.weft = { s.weft with tasks := ts, sent := n } := by
  have hsaved : ∃ ts, (s.saveContext s.loom.pc).weft = { s.weft with tasks := ts } := by
    unfold State.saveContext
    split
    · exact ⟨_, rfl⟩
    · exact ⟨_, rfl⟩
  obtain ⟨ts, hts⟩ := hsaved
  have hrelease (u : State) : ∃ ts', u.releaseTasks.weft = { u.weft with tasks := ts' } := by
    unfold State.releaseTasks
    split
    · exact ⟨_, rfl⟩
    · exact ⟨_, rfl⟩
  unfold State.weftMark
  extract_lets u v w x
  have hw : w.weft = { s.weft with tasks := ts, sent := Tab.fill 2 0 } := congrArg (fun k : Wefts => { k with sent := Tab.fill 2 0 }) hts
  have hx : x = w := by
    have hdue : w.weft.haltDue = false := by
      rw [hw]
      exact h
    exact if_neg (by rw [hdue]; exact Bool.false_ne_true)
  rw [hx]
  split
  · obtain ⟨ts', hts'⟩ := hrelease w
    exact ⟨ts', _, by rw [hts', hw]⟩
  · exact ⟨_, _, hw⟩

/-! ## Loading (R111 to R113) -/

theorem opWeftLoadBegin_of_begun {r : CmdRef} {q : Cmd} (hq : s.begun r = some q) (ho : q.opcode = 0x0601) (hp : q.params.length = 4)
    (hload : s.cmd.load = none) (hlen : weftLengthOk (u32 q.params 0) = true) :
    opWeftLoadBegin r s = (s.onCmd fun c => { c with load := some { src := q.src, length := u32 q.params 0, written := [] } }).complete q .ok
      (le 4 0x1C000000) := by
  refine (onCommand_eq hq ho _).trans ?_
  simp only [hp, ne_eq, not_true_eq_false, hlen, Bool.not_true, hload, if_neg Bool.false_ne_true, if_false]

/-- A weft that is installed leaves the settings of the commands alone. -/
theorem installWeft_said (s : State) (w : Weft) : Said s (s.installWeft w) := by
  have hdrop (g : Slot2 → Bool) : Said s (s.dropStart g) := by
    unfold State.dropStart
    split
    · exact .refl s
    next x _ =>
      split
      · have hu (f : Wefts → Wefts) : Said s (s.onWeft f) :=
          .of_keeps (onWeft_keeps (m := [.weft]) (by decide) (keeps_refl _ s)) (by decide) (by decide) (by decide)
        extract_lets u
        cases x.cmd with
        | none => exact hu _
        | some c => exact (hu _).trans (completeId_said u c .state [])
      · exact .refl s
  unfold State.installWeft
  extract_lets drop u v
  have hu : Said s u := hdrop _
  have hv : Keeps [.mem, .rcd, .weft] u ((v.placeWeft w).record 0x9001 2 w.id w.layout w.secVersion) :=
    record_keeps (by decide) (placeWeft_keeps (by decide) (onWeft_keeps (by decide) (keeps_refl _ u)))
  exact hu.trans (.of_keeps hv (by decide) (by decide) (by decide))

theorem installWeft_store (s : State) (w : Weft) : (s.installWeft w).weft.store.get (slotOf w.layout) = some w := by
  unfold State.installWeft
  extract_lets drop u v
  have hv : ((v.placeWeft w).record 0x9001 2 w.id w.layout w.secVersion).weft = v.weft :=
    weft_of_keeps (m := [.mem, .rcd]) (record_keeps (by decide) (placeWeft_keeps (by decide) (keeps_refl _ v))) (by decide)
  rw [hv]
  exact Tab.get_put_self ..

theorem refuseWeft_said (s : State) (q : Cmd) (p : List Byte) (e : Reject) : Said s (s.refuseWeft q p e) := by
  have hrecord (d : Nat) : Said s ((s.detailOf e).2.record 0x9002 2 e.reason d 0) :=
    .of_keeps (m := [.free, .rcd]) (record_keeps (by decide) (detailOf_keeps (by decide) (keeps_refl _ s))) (by decide) (by decide) (by decide)
  exact (hrecord _).trans (complete_said ..)

/-- The load is taken; the weft is installed or refused with the reason of its check. -/
theorem opWeftCommit_of_begun {r : CmdRef} {q : Cmd} {l : WeftLoad} (hq : s.begun r = some q) (ho : q.opcode = 0x0602) (hp : q.params = [])
    (hload : s.cmd.load = some l) (hsrc : l.src = q.src) (hfull : l.full = true)
    (hheader : checkHeader (Memory.readBytes s.mem 0x1C000000 l.length) = .ok ()) (hmirror : s.mirrors = false) :
    opWeftCommit r s =
      match (s.onCmd fun c => { c with load := none }).checkWeft (Memory.readBytes s.mem 0x1C000000 l.length) with
      | .error e => (s.onCmd fun c => { c with load := none }).refuseWeft q (Memory.readBytes s.mem 0x1C000000 l.length) e
      | .ok w => ((s.onCmd fun c => { c with load := none }).installWeft w).complete q .ok (commitReply 0 0 w.id w.layout) := by
  have hown : (s.cmd.load.filter fun l => decide (l.src = q.src)) = some l := by simp [hload, hsrc]
  have hmirror' : (s.onCmd fun c => { c with load := none }).mirrors = false := hmirror
  refine (onCommand_eq hq ho _).trans ?_
  simp only [hp, List.length_nil, ne_eq, not_true_eq_false, if_false, hown, hfull, Bool.not_true, if_neg Bool.false_ne_true, hmirror', onCmd_mem,
    hheader]
  rfl

theorem opWeftCommit_spec {r : CmdRef} {q : Cmd} {l : WeftLoad} (hq : s.begun r = some q) (ho : q.opcode = 0x0602) (hp : q.params = [])
    (hload : s.cmd.load = some l) (hsrc : l.src = q.src) (hfull : l.full = true)
    (hheader : checkHeader (Memory.readBytes s.mem 0x1C000000 l.length) = .ok ()) (hmirror : s.mirrors = false) :
    (opWeftCommit r s).cmd.load = none ∧
      (match (s.onCmd fun c => { c with load := none }).checkWeft (Memory.readBytes s.mem 0x1C000000 l.length) with
        | .ok w => (opWeftCommit r s).weft.store.get (slotOf w.layout) = some w
        | .error _ => (opWeftCommit r s).weft.store = s.weft.store) := by
  rw [opWeftCommit_of_begun hq ho hp hload hsrc hfull hheader hmirror]
  have hnone : (s.onCmd fun c => { c with load := none }).cmd.load = none := rfl
  have hweft : (s.onCmd fun c => { c with load := none }).weft = s.weft := rfl
  generalize (s.onCmd fun c => { c with load := none }) = u at hnone hweft
  generalize Memory.readBytes s.mem 0x1C000000 l.length = p
  cases u.checkWeft p with
  | error e =>
    refine ⟨(refuseWeft_said u q p e).load_none hnone, ?_⟩
    have hkept := weft_of_keeps (refuseWeft_keeps (m := [.free, .out, .rcd, .cmd, .sw, .drv, .fld, .can, .far, .twin]) (by decide)
      (keeps_refl _ u) (x1 := q) (x2 := p) (x3 := e)) (by decide)
    exact congrArg Wefts.store (hkept.trans hweft)
  | ok w =>
    refine ⟨((installWeft_said u w).trans (complete_said ..)).load_none hnone, ?_⟩
    dsimp only
    rw [complete_weft]
    exact installWeft_store u w

/-! ## Starting and stopping (R114, R127 to R129) -/

/-- The weft's part with a start under way. -/
def startedAs (w : Wefts) (x : Starting) : Wefts := { w with starting := some x }

theorem beginStart_weft (s : State) (k : Slot2) (w : Weft) (auto : Bool) (cmd begun : Option Nat) (restart twin : Bool) :
    ∃ x, (s.beginStart k w auto cmd begun restart twin).weft = startedAs s.weft x ∧ x.slot = k ∧ x.cmd = cmd ∧
      x.autostart = auto ∧ x.evaluated = false ∧ x.restart = restart := by
  unfold State.beginStart
  extract_lets u v x h
  have hx : x.weft = s.weft :=
    weft_of_keeps (m := [.wt, .rcd, .sw, .mem, .loom]) (onLoom_keeps (by decide) (placeData_keeps (by decide) (placeData_keeps (by decide)
      (placeWeft_keeps (by decide) (applyStep_keeps (by decide) (keeps_refl _ s)))))) (by decide)
  exact ⟨{ slot := k, frame := h, cmd := cmd, autostart := auto, evaluated := false, restart := restart, twin := twin },
    congrArg (startedAs · _) hx, rfl, rfl, rfl, rfl, rfl⟩

theorem opWeftStart_of_begun {r : CmdRef} {q : Cmd} {k : Slot2} {w : Weft} (hq : s.begun r = some q) (ho : q.opcode = 0x0603)
    (hp : q.params.length = 4) (hauto : u8 q.params 0 ≤ 1) (harea : u8 q.params 1 ≤ 2) (hzero : u16 q.params 2 = 0)
    (hpick : s.pickWeft (u8 q.params 1) = some k) (hstore : s.weft.store.get k = some w) (hmay : s.mayStart = true) (hcrc : s.crcBad w = []) :
    opWeftStart r s = (s.handOver q .core).beginStart k w (u8 q.params 0 == 1) (some q.id) q.begunAt false q.begunAt.isSome := by
  have hguard : ¬ (q.params.length ≠ 4 ∨ 1 < u8 q.params 0 ∨ 2 < u8 q.params 1 ∨ u16 q.params 2 ≠ 0) := by omega
  have hstart : (s.handOver q .core).doStart (u8 q.params 0 == 1) (u8 q.params 1) (some q.id) q.begunAt =
      (true, (s.handOver q .core).beginStart k w (u8 q.params 0 == 1) (some q.id) q.begunAt false q.begunAt.isSome) := by
    obtain ⟨f, hf⟩ := TwinProofs.handOver_cmd s q .core
    rw [hf]
    have hpick' : (s.onCmd f).pickWeft (u8 q.params 1) = some k := hpick
    have hmay' : (s.onCmd f).mayStart = true := hmay
    have hcrc' : (s.onCmd f).crcBad w = [] := hcrc
    simp only [State.doStart, hpick', onCmd_weft, hstore, hmay', hcrc', List.isEmpty_nil, Bool.and_self, if_true]
  refine (onCommand_eq hq ho _).trans ?_
  dsimp only
  rw [if_neg hguard, hstart]

theorem opWeftStop_of_begun {r : CmdRef} {q : Cmd} {k : Slot2} (hq : s.begun r = some q) (ho : q.opcode = 0x0604)
    (hp : q.params.length = 4) (hmode : u8 q.params 0 ≤ 1) (hzero : zeroAt q.params [1, 2, 3] = true) (hrun : s.weft.running = some k)
    (hstop : s.weft.stopping = none) :
    (opWeftStop r s).weft.stopping =
      some { frame := max s.frame (twinBase q.begunAt), toHost := u8 q.params 0 == 1, reason := 0, cmd := some q.id } := by
  have hguard : ¬ (q.params.length ≠ 4 ∨ 1 < u8 q.params 0 ∨ zeroAt q.params [1, 2, 3] = false) := by simp [hp, hmode, hzero]
  obtain ⟨f, hf⟩ := TwinProofs.handOver_cmd s q .core
  have hop : opWeftStop r s = _ := onCommand_eq hq ho _
  rw [hop]
  dsimp only
  rw [if_neg hguard, hf]
  simp only [State.doStop, onCmd_weft, hrun, hstop]
  rfl

theorem opWeftSwap_of_begun {r : CmdRef} {q : Cmd} {k : Slot2} {w : Weft} (hq : s.begun r = some q) (ho : q.opcode = 0x0605) (hp : q.params = [])
    (hcheck : s.swapCheck = .ok (k, w)) :
    (opWeftSwap r s).weft.swapping =
      some { target := k, frame := s.nextTwinH q.begunAt, cmd := some q.id, evaluated := false, twin := q.begunAt.isSome } := by
  obtain ⟨f, hf⟩ := TwinProofs.handOver_cmd s q .core
  have hop : opWeftSwap r s = _ := onCommand_eq hq ho _
  rw [hop]
  simp only [hp, List.length_nil, ne_eq, not_true_eq_false, if_false, hcheck, hf]
  rfl

/-! ## The autostart (R131) -/

theorem mayStart_iff : s.mayStart = true ↔ s.weft.running = none ∧ s.weft.starting = none ∧ s.weft.swapping = none ∧ s.clk.xoOk = true ∧
    s.clk.onPll.get 1 = true ∧ s.pwr.islandUp.get 1 = true := by
  simp [State.mayStart, State.weftActive, and_assoc]

theorem restartFails_weft (s : State) (reason detail : Nat) : (s.restartFails reason detail).weft = { s.weft with autoTry := false } := rfl

theorem opWeftAutostart_spec {k : Slot2} {old : Weft} (hauto : s.weft.autoTry = true) (hmay : s.mayStart = true) (hserving : s.cmd.serving = true)
    (hslot : s.autoSlot = some k) (hstore : s.weft.store.get k = some old) :
    (opWeftAutostart s).weft.autoTry = false ∧ (opWeftAutostart s).weft.running = s.weft.running ∧
      (match s.checkWeft old.image with
        | .ok w => if s.crcBad w = [] then ∃ x, (opWeftAutostart s).weft.starting = some x ∧ x.slot = k ∧ x.restart = true
          else (opWeftAutostart s).weft.starting = none
        | .error _ => (opWeftAutostart s).weft.starting = none) := by
  obtain ⟨-, hstarting, -⟩ := mayStart_iff.mp hmay
  simp only [opWeftAutostart, hauto, hmay, hserving, Bool.not_true, Bool.or_self, if_neg Bool.false_ne_true, hslot, hstore]
  cases s.checkWeft old.image with
  | error e =>
    have hdetail : (s.detailOf e).2.weft = s.weft :=
      weft_of_keeps (detailOf_keeps (m := [.free]) (by decide) (keeps_refl _ s) (x1 := e)) (by decide)
    dsimp only
    rw [restartFails_weft, hdetail]
    exact ⟨rfl, rfl, hstarting⟩
  | ok w =>
    dsimp only
    cases hbad : (s.crcBad w).min? with
    | some d =>
      have hne : s.crcBad w ≠ [] := fun h => by simp [h] at hbad
      dsimp only
      rw [restartFails_weft, if_neg hne]
      exact ⟨rfl, rfl, hstarting⟩
    | none =>
      have hnil : s.crcBad w = [] := List.min?_eq_none_iff.mp hbad
      obtain ⟨x, hx, hslot, -, -, -, hrestart⟩ := beginStart_weft (s.onWeft fun x => { x with autoTry := false, store := x.store.put k (some { w with autostart := true }) })
        k w true none none true false
      dsimp only
      rw [hx, if_pos hnil]
      exact ⟨rfl, rfl, x, rfl, hslot, hrestart⟩

/-! ## The frames at which a weft changes (R114, R115, R127 to R130) -/

theorem opOwnershipEvaluation_spec {x : Starting} {w : Weft} (hstarting : s.weft.starting = some x) (hnew : x.evaluated = false)
    (hframe : s.frame + 1 = x.frame) (hstore : s.weft.store.get x.slot = some w)
    (hgranted : (s.evaluate w.decl w.decl.chans w.decl.acts).1 = true) :
    (opOwnershipEvaluation s).weft.starting = some { x with evaluated := true } := by
  have hop : opOwnershipEvaluation s =
      ((s.evaluate w.decl w.decl.chans w.decl.acts).2.onWeft fun v => { v with starting := some { x with evaluated := true } }).writeOwnership w
        none := by
    simp only [opOwnershipEvaluation, hstarting, hnew, hframe, and_self, if_true, State.evalStart, hstore]
    generalize s.evaluate w.decl w.decl.chans w.decl.acts = r at hgranted
    obtain ⟨g, u⟩ := r
    cases hgranted
    rfl
  rw [hop, weft_of_keeps (writeOwnership_keeps (m := [.mem]) (by decide) (keeps_refl _ _)) (by decide)]
  rfl

theorem opWeftStarted_spec {x : Starting} (hstarting : s.weft.starting = some x) (hdone : x.evaluated = true) (hframe : x.frame ≤ s.frame)
    (hhalt : s.weft.haltDue = false) :
    (opWeftStarted s).weft.running = some x.slot ∧ (opWeftStarted s).weft.starting = none ∧ (opWeftStarted s).weft.stopping = none := by
  have hguard : ¬ (x.evaluated = false ∨ s.frame < x.frame) := by simp [hdone, hframe]
  have hmark (u : State) (hu : u.weft.haltDue = false) : u.weftMark.weft.running = u.weft.running ∧ u.weftMark.weft.starting = u.weft.starting ∧
      u.weftMark.weft.stopping = u.weft.stopping := by
    obtain ⟨ts, n, h⟩ := weftMark_weft hu
    rw [h]
    exact ⟨rfl, rfl, rfl⟩
  unfold opWeftStarted
  simp -zeta only [hstarting, if_neg hguard]
  extract_lets id u v w y
  have hy : y.weft = v.weft := answered_weft w x.cmd .ok _
  obtain ⟨h1, h2, h3⟩ := hmark (u.onTwin fun t => { t with lockWeft := if x.twin then some id else none }) hhalt
  rw [nmEval_weft, hy]
  exact ⟨h1, h2, h3⟩

theorem opWeftStopped_spec {k : Slot2} {x : Stopping} (hrunning : s.weft.running = some k) (hstopping : s.weft.stopping = some x)
    (hframe : x.frame < s.frame) :
    (opWeftStopped s).weft.running = none ∧ (opWeftStopped s).weft.stopping = none ∧ (opWeftStopped s).weft.lastRun = x.frame ∧
      (opWeftStopped s).loom.seg = none := by
  unfold opWeftStopped
  simp -zeta only [hrunning, hstopping, if_neg (Nat.not_le.mpr hframe)]
  extract_lets id u v w y z r
  have hpassed : Keeps [.free, .out, .rcd, .cmd, .sw, .drv, .fld, .can, .far, .twin] w y :=
    keeps_ite (weftToHost_keeps (by decide) (keeps_refl _ w)) (acOrphanEvent_keeps (by decide) (orphanEvent_keeps (by decide) (keeps_refl _ w)))
  have hy : y.weft = w.weft := weft_of_keeps hpassed (by decide)
  have hweft : r.weft = v.weft := (answered_weft z x.cmd .ok _).trans hy
  have hloom : r.loom = w.loom := (answered_loom z x.cmd .ok _).trans (hpassed.only.same .loom (by decide))
  rw [nmEval_weft, nmEval_loom, hweft, hloom]
  exact ⟨rfl, rfl, rfl, rfl⟩

theorem opWeftSwapped_spec {k : Slot2} {o w : Weft} {x : Swapping} (hrunning : s.weft.running = some k) (hold : s.runningWeft = some o)
    (hswapping : s.weft.swapping = some x) (hstore : s.weft.store.get x.target = some w) (hdone : x.evaluated = true) (hframe : x.frame ≤ s.frame)
    (hstop : s.weft.stopping = none) (hhalt : s.weft.haltDue = false) :
    (opWeftSwapped s).weft.running = some x.target ∧ (opWeftSwapped s).weft.swapping = none ∧ (opWeftSwapped s).weft.lastRun = x.frame - 1 := by
  have hguard : ¬ (x.evaluated = false ∨ s.frame < x.frame ∨ s.weft.stopping.isSome = true) := by simp [hdone, hframe, hstop]
  unfold opWeftSwapped
  simp -zeta only [hrunning, hold, hswapping, hstore, if_neg hguard]
  extract_lets auto u v p q r y
  have hpassed : Keeps [.free, .out, .rcd, .cmd, .sw, .drv, .fld, .can, .far, .twin] u q :=
    keeps_forEach (fun _ t => actToWeft_keeps (by decide) (keeps_refl _ t)) (keeps_forEach (fun _ t => chanToWeft_keeps (by decide) (keeps_refl _ t))
      (acOrphanEvent_keeps (by decide) (orphanEvent_keeps (by decide) (keeps_refl _ u))))
  have hq : q.weft = u.weft := weft_of_keeps hpassed (by decide)
  obtain ⟨ts, n, hr⟩ := weftMark_weft (s := q.onTwin fun t => { t with lockWeft := if x.twin then some w.id else none })
    ((congrArg Wefts.haltDue hq).trans hhalt)
  have hy : y.weft = { u.weft with tasks := ts, sent := n } := hr.trans (by rw [onTwin_weft, hq])
  have hdone : y.weft.running = some x.target ∧ y.weft.swapping = none ∧ y.weft.lastRun = x.frame - 1 := by
    rw [hy]
    exact ⟨rfl, rfl, rfl⟩
  cases x.cmd with
  | none => exact hdone
  | some c =>
    dsimp only
    rw [completeId_weft]
    exact hdone

/-- Settles O27: a load is begun and committed, a start, a stop and a swap wait for their frames, and at the frames the running weft changes. -/
theorem weftCommandsComplete : Obligations.WeftCommandsComplete := by
  unfold Obligations.WeftCommandsComplete
  refine ⟨?load, ?commit, ?start, ?stop, ?swap, ?auto, ?evaluation, ?started, ?stopped, ?swapped⟩
  case load =>
    exact fun s r q hq ho hp hload hlen => congrArg Host.Outcome.next (opWeftLoadBegin_of_begun hq ho hp hload hlen)
  case commit =>
    exact fun s r q l hq ho hp hload hsrc hfull hheader hmirror => ⟨_, rfl, opWeftCommit_spec hq ho hp hload hsrc hfull hheader hmirror⟩
  case start =>
    intro s r q k w hq ho hp hauto harea hzero hpick hstore hmay hcrc
    obtain ⟨x, hx, hslot, hcmd, hown, hnew, -⟩ := beginStart_weft (s.handOver q .core) k w (u8 q.params 0 == 1) (some q.id) q.begunAt false
      q.begunAt.isSome
    refine ⟨_, x, congrArg Host.Outcome.next (opWeftStart_of_begun hq ho hp hauto harea hzero hpick hstore hmay hcrc), ?_, hslot, hcmd, hown, hnew⟩
    rw [hx, startedAs]
  case stop =>
    exact fun s r q k hq ho hp hmode hzero hrun hstop => ⟨_, rfl, opWeftStop_of_begun hq ho hp hmode hzero hrun hstop⟩
  case swap =>
    exact fun s r q k w hq ho hp hcheck => ⟨_, rfl, opWeftSwap_of_begun hq ho hp hcheck⟩
  case auto =>
    exact fun s k old hauto hmay hserving hslot hstore => ⟨_, rfl, opWeftAutostart_spec hauto hmay hserving hslot hstore⟩
  case evaluation =>
    exact fun s x w hstarting hnew hframe hstore hgranted => ⟨_, rfl, opOwnershipEvaluation_spec hstarting hnew hframe hstore hgranted⟩
  case started =>
    exact fun s x hstarting hdone hframe hhalt => ⟨_, rfl, opWeftStarted_spec hstarting hdone hframe hhalt⟩
  case stopped =>
    exact fun s k x hrunning hstopping hframe => ⟨_, rfl, opWeftStopped_spec hrunning hstopping hframe⟩
  case swapped =>
    exact fun s k o w x hrunning hold hswapping hstore hdone hframe hstop hhalt =>
      ⟨_, rfl, opWeftSwapped_spec hrunning hold hswapping hstore hdone hframe hstop hhalt⟩

end Sys2Proof.WeftCommandProofs

/-! The barrier frames and the field side (spec/09). -/

namespace Sys2Proof.FieldProofs

open Sys2Proof Sys2Proof.Machine Sys2Proof.Laws Sys2Proof.ReplyProofs Sys2Proof.CommandProofs

variable {s t : State}

/-! ## What leaves the field's part -/

theorem fld_of_keeps {m : List Part} (h : Keeps m s t) (hm : .fld ∉ m) : t.fld = s.fld := h.only.same .fld hm

theorem side_of_keeps {m : List Part} (h : Keeps m s t) (hm : .fld ∉ m) : t.side = s.side := congrArg Field.side (fld_of_keeps h hm)

theorem FldReplied.side (h : FldReplied s t) : t.side = s.side := by
  have hside := congrArg Field.side h.rest
  exact hside

theorem completeIds_fld {α : Type} (id : α → Nat) (st : Status) (p : α → State → List Byte) (l : List α) (s : State) :
    FldReplied s (s.forEach l fun x t => t.completeId (id x) st (p x t)) := by
  induction l generalizing s with
  | nil => exact .of_keeps (keeps_refl [] s) (by decide)
  | cons x l ih => exact (completeId_replied s (id x) st (p x s) 0).fld.trans (ih _)

theorem completeIds_keeps {α : Type} (id : α → Nat) (st : Status) (p : α → State → List Byte) (l : List α) (s : State) :
    Keeps [.out, .rcd, .cmd, .sw, .drv, .fld, .can, .far, .twin] s (s.forEach l fun x t => t.completeId (id x) st (p x t)) :=
  keeps_forEach (fun _ t => completeId_keeps (by decide) (keeps_refl _ t)) (keeps_refl _ s)

@[simp] theorem side_record (s : State) (code source p0 p1 p2 : Nat) : (s.record code source p0 p1 p2).side = s.side := rfl

@[simp] theorem side_fault (s : State) (k : Cls) (island code p0 p1 p2 : Nat) : (s.fault k island code p0 p1 p2).side = s.side :=
  side_of_keeps (fault_keeps (m := [.rcd, .flt]) (by decide) (keeps_refl _ s)) (by decide)

@[simp] theorem side_onSide (s : State) (f : FieldSide → FieldSide) : (s.onSide f).side = f s.side := rfl

/-- A fault's word does not look at the field side. -/
theorem onSide_fault_flt (s : State) (f : FieldSide → FieldSide) (k : Cls) (island code p0 p1 p2 : Nat) :
    ((s.onSide f).fault k island code p0 p1 p2).flt = (s.fault k island code p0 p1 p2).flt := rfl

/-- Neither does a record. -/
theorem onSide_record_rcd (s : State) (f : FieldSide → FieldSide) (code source p0 p1 p2 : Nat) :
    ((s.onSide f).record code source p0 p1 p2).rcd = (s.record code source p0 p1 p2).rcd := rfl

/-! ## The frames of the barrier (R252 to R256) -/

theorem good_fieldSeal (r : FieldFrame) : r.seal.good = true := beq_self_eq_true (crc8 r.body)

theorem good_logicSeal (r : LogicFrame) : r.seal.good = true := beq_self_eq_true (crc8 r.body)

/-- What the island's side of the frame reads back unchanged when the field side works on it. -/
structure FrameKept (s t : State) : Prop where
  frameAt : t.fld.frameAt = s.fld.frameAt
  missing : t.fld.missing = s.fld.missing
  txSeq : t.fld.txSeq = s.fld.txSeq
  sideSeq : t.side.txSeq = s.side.txSeq

theorem FrameKept.trans {u : State} (h : FrameKept s t) (k : FrameKept t u) : FrameKept s u :=
  ⟨k.frameAt.trans h.frameAt, k.missing.trans h.missing, k.txSeq.trans h.txSeq, k.sideSeq.trans h.sideSeq⟩

theorem FrameKept.refl (s : State) : FrameKept s s := ⟨rfl, rfl, rfl, rfl⟩

theorem FrameKept.of_replied (h : FldReplied s t) : FrameKept s t := by
  have hframe := congrArg Field.frameAt h.rest
  have hmissing := congrArg Field.missing h.rest
  have hseq := congrArg Field.txSeq h.rest
  exact ⟨hframe, hmissing, hseq, congrArg FieldSide.txSeq h.side⟩

theorem FrameKept.ite {u : State} {p : Prop} [Decidable p] (h : FrameKept s t) (k : FrameKept s u) : FrameKept s (if p then t else u) := by
  split
  · exact h
  · exact k

theorem barrierFailure_frameKept (s : State) : FrameKept s s.barrierFailure := .ite ⟨rfl, rfl, rfl, rfl⟩ ⟨rfl, rfl, rfl, rfl⟩

theorem barrierFailure_side (s : State) : s.barrierFailure.side = s.side :=
  (apply_ite State.side _ _ _).trans (ite_self s.side)

theorem barrierFailures_frameKept {α : Type} (l : List α) (s : State) : FrameKept s (s.forEach l fun _ t => t.barrierFailure) := by
  induction l generalizing s with
  | nil => exact .refl s
  | cons _ l ih => exact (barrierFailure_frameKept s).trans (ih _)

theorem barrierFailures_side {α : Type} (l : List α) (s : State) : (s.forEach l fun _ t => t.barrierFailure).side = s.side := by
  induction l generalizing s with
  | nil => rfl
  | cons _ l ih => exact (ih _).trans (barrierFailure_side s)

theorem apply_kept (f : FieldSide) (r : LogicFrame) (parity : BitVec 16) : (f.apply r parity).txSeq = f.txSeq ∧ (f.apply r parity).rx = none :=
  ⟨rfl, rfl⟩

/-- The field side has applied the logic frame it received: outputs that disagree are reported, and the FIO_SETs it carried answered. -/
def applied (s : State) (r : LogicFrame) (parity : BitVec 16) : State :=
  let w := s.onFld fun f => { f with side := f.side.apply r parity, waiting := f.waiting.filter fun q => !q.sent }
  let x := w.forEach ((List.range 16).filter fun o => parity.getLsbD o) fun _ s => s.barrierFailure
  x.forEach ((s.fld.waiting.filter fun (q : FioReq) => q.sent).map fun (q : FioReq) => q.cmd) fun id s => s.completeId id .ok s.fioSetReply

theorem applied_kept (s : State) (r : LogicFrame) (parity : BitVec 16) : FrameKept s (applied s r parity) ∧ (applied s r parity).side.rx = none := by
  unfold applied
  extract_lets w x
  have hw : FrameKept s w := ⟨rfl, rfl, rfl, (apply_kept s.side r parity).1⟩
  have hx : FrameKept w x := barrierFailures_frameKept _ w
  have hside : x.side = w.side := barrierFailures_side _ w
  have hrx : w.side.rx = none := (apply_kept s.side r parity).2
  clear_value x
  have hreplied := completeIds_fld id .ok (fun _ t => t.fioSetReply) ((s.fld.waiting.filter fun (q : FioReq) => q.sent).map fun (q : FioReq) => q.cmd)
    x
  exact ⟨(hw.trans hx).trans (.of_replied hreplied), (congrArg FieldSide.rx (hreplied.side.trans hside)).trans hrx⟩

/-- A frame of the field side: the logic frame it has received applied, the inputs sampled, its own frame sent. -/
theorem sideFrame_spec (s : State) (k : Nat) (raw : BitVec 32) (rb parity : BitVec 16) (mv ga gb : Nat) :
    (s.sideFrame k raw rb parity mv ga gb).fld.frameAt = s.fld.frameAt ∧ (s.sideFrame k raw rb parity mv ga gb).fld.missing = s.fld.missing ∧
    (s.sideFrame k raw rb parity mv ga gb).fld.txSeq = s.fld.txSeq ∧ (s.sideFrame k raw rb parity mv ga gb).side.raw = raw ∧
    (s.sideFrame k raw rb parity mv ga gb).side.readback = rb ∧ (s.sideFrame k raw rb parity mv ga gb).side.fpMv = mv ∧
    (s.sideFrame k raw rb parity mv ga gb).side.groups = (ga, gb) ∧ (s.sideFrame k raw rb parity mv ga gb).side.rx = none ∧
    ∃ u, (s.sideFrame k raw rb parity mv ga gb).fld.up = some u ∧ u.seq = s.side.txSeq ∧ u.good = true := by
  unfold State.sideFrame
  extract_lets ids u heavy v
  have hu : FrameKept s u ∧ u.side.rx = none := by
    unfold u
    cases hrx : s.side.rx with
    | none => exact ⟨.refl s, hrx⟩
    | some r => exact applied_kept s r parity
  clear_value u
  obtain ⟨hkept, hrx⟩ := hu
  have hv : v.side.raw = raw ∧ v.side.readback = rb ∧ v.side.fpMv = mv ∧ v.side.groups = (ga, gb) ∧ v.side.rx = none ∧
      v.side.txSeq = s.side.txSeq := by
    simp only [v, side_onSide, FieldSide.sampleAll]
    exact ⟨trivial, trivial, trivial, trivial, hrx, hkept.sideSeq⟩
  have hfld : v.fld.frameAt = s.fld.frameAt ∧ v.fld.missing = s.fld.missing ∧ v.fld.txSeq = s.fld.txSeq := by
    simp only [v, State.onSide, onFld_fld]
    exact ⟨hkept.frameAt, hkept.missing, hkept.txSeq⟩
  clear_value v
  obtain ⟨hraw, hrb, hmv, hgroups, hrx, hseq⟩ := hv
  obtain ⟨hframe, hmissing, htx⟩ := hfld
  simp only [State.side, onFld_fld] at hraw hrb hmv hgroups hrx hseq ⊢
  exact ⟨hframe, hmissing, htx, hraw, hrb, hmv, hgroups, hrx, _, rfl, hseq, good_fieldSeal _⟩

theorem nextCfg_kept (f : Field) (present : Bool) : (f.nextCfg present).2.2.2.side = f.side ∧ (f.nextCfg present).2.2.2.up = f.up ∧
    (f.nextCfg present).2.2.2.frameAt = f.frameAt ∧ (f.nextCfg present).2.2.2.missing = f.missing ∧ (f.nextCfg present).2.2.2.txSeq = f.txSeq := by
  unfold Field.nextCfg
  split
  · exact ⟨rfl, rfl, rfl, rfl, rfl⟩
  · exact ⟨rfl, rfl, rfl, rfl, rfl⟩
  · split <;> exact ⟨rfl, rfl, rfl, rfl, rfl⟩
  · exact ⟨rfl, rfl, rfl, rfl, rfl⟩

/-- The island's frame: the next number, and the clears it carries gone from the island. -/
theorem composeFrame_spec (s : State) (k : Nat) :
    (s.composeFrame k).side = s.side ∧ (s.composeFrame k).fld.up = s.fld.up ∧ (s.composeFrame k).fld.frameAt = s.fld.frameAt ∧
    (s.composeFrame k).fld.missing = s.fld.missing ∧ (s.composeFrame k).fld.txSeq = (s.fld.txSeq + 1) % 256 ∧
    (s.composeFrame k).fld.clear = 0 ∧ (s.composeFrame k).fld.foClear = 0 ∧
    ∃ x, (s.composeFrame k).fld.down = some x ∧ x.seq = s.fld.txSeq ∧ x.good = true := by
  unfold State.composeFrame State.side
  extract_lets fs present
  rw [onFld_fld]
  extract_lets f vals
  have hf : f.side = s.fld.side ∧ f.up = s.fld.up ∧ f.frameAt = s.fld.frameAt ∧ f.missing = s.fld.missing ∧ f.txSeq = s.fld.txSeq := by
    unfold f
    split <;> exact ⟨rfl, rfl, rfl, rfl, rfl⟩
  obtain ⟨hside, hup, hframe, hmissing, hseq⟩ := hf
  obtain ⟨kside, kup, kframe, kmissing, kseq⟩ := nextCfg_kept f present
  exact ⟨kside.trans hside, kup.trans hup, kframe.trans hframe, kmissing.trans hmissing, by rw [← hseq, ← kseq], rfl, rfl, _, rfl,
    kseq.trans hseq, good_logicSeal _⟩

end Sys2Proof.FieldProofs

/-! The field island's events and commands (spec/09). -/

namespace Sys2Proof.FieldProofs

open Sys2Proof Sys2Proof.Machine Sys2Proof.Laws Sys2Proof.ReplyProofs Sys2Proof.CommandProofs

variable {s t : State}

/-! ## The frame of 10 µs (R252) -/

theorem opBarrierFrame_eq {raw : BitVec 32} {rb parity : BitVec 16} {mv ga gb : Nat} (hwarp : s.warp % 10 = 0)
    (hnew : s.fld.frameAt ≠ some s.warp) (hup : s.barrierUp = true) :
    opBarrierFrame raw rb parity mv ga gb s =
      let u := s.onFld fun f => { f with frameAt := some s.warp, missing := if f.heard then 0 else f.missing + 1, heard := false }
      (if s.side.running then u.sideFrame (s.warp % 1000 / 10) raw rb parity mv ga gb else u).composeFrame (s.warp % 1000 / 10) := by
  have hguard : ¬ (s.warp % 10 ≠ 0 ∨ s.fld.frameAt = some s.warp) := by simp [hwarp, hnew]
  simp only [opBarrierFrame, hup, Bool.not_true, if_neg Bool.false_ne_true, if_neg hguard]
  rfl

theorem opBarrierFrame_spec {raw : BitVec 32} {rb parity : BitVec 16} {mv ga gb : Nat} (hwarp : s.warp % 10 = 0)
    (hnew : s.fld.frameAt ≠ some s.warp) (hup : s.barrierUp = true) :
    ∃ t x, opBarrierFrame raw rb parity mv ga gb s = t ∧ t.fld.frameAt = some s.warp ∧
      t.fld.missing = (if s.fld.heard then 0 else s.fld.missing + 1) ∧ t.fld.down = some x ∧ x.seq = s.fld.txSeq ∧ x.good = true ∧
      t.fld.txSeq = (s.fld.txSeq + 1) % 256 ∧ t.fld.clear = 0 ∧ t.fld.foClear = 0 ∧
      (s.side.running = true → t.side.raw = raw ∧ t.side.readback = rb ∧ t.side.fpMv = mv ∧ t.side.groups = (ga, gb) ∧ t.side.rx = none ∧
        ∃ u, t.fld.up = some u ∧ u.seq = s.side.txSeq ∧ u.good = true) := by
  rw [opBarrierFrame_eq hwarp hnew hup]
  extract_lets u
  have hu : u.fld.frameAt = some s.warp ∧ u.fld.missing = (if s.fld.heard then 0 else s.fld.missing + 1) ∧ u.fld.txSeq = s.fld.txSeq ∧
      u.side.txSeq = s.side.txSeq := ⟨rfl, rfl, rfl, rfl⟩
  clear_value u
  obtain ⟨huframe, humissing, hutx, huseq⟩ := hu
  obtain ⟨hsframe, hsmissing, hstx, hsides⟩ := sideFrame_spec u (s.warp % 1000 / 10) raw rb parity mv ga gb
  generalize hv : (if s.side.running then u.sideFrame (s.warp % 1000 / 10) raw rb parity mv ga gb else u) = v
  obtain ⟨hcside, hcup, hcframe, hcmissing, hctx, hclear, hfo, x, hx, hxseq, hgood⟩ := composeFrame_spec v (s.warp % 1000 / 10)
  have hkept : v.fld.frameAt = u.fld.frameAt ∧ v.fld.missing = u.fld.missing ∧ v.fld.txSeq = u.fld.txSeq := by
    rw [← hv]
    split
    · exact ⟨hsframe, hsmissing, hstx⟩
    · exact ⟨rfl, rfl, rfl⟩
  obtain ⟨hvframe, hvmissing, hvtx⟩ := hkept
  refine ⟨_, x, rfl, hcframe.trans (hvframe.trans huframe), hcmissing.trans (hvmissing.trans humissing), hx, hxseq.trans (hvtx.trans hutx), hgood, ?_,
    hclear, hfo, fun hrun => ?_⟩
  · rw [hctx, hvtx, hutx]
  · rw [if_pos hrun] at hv
    rw [hcside, hcup, ← hv, ← huseq]
    exact hsides

/-! ## A field frame received (R254 to R256) -/

/-- Whether the frame tells of a start of the field side not seen yet. -/
def newStart (s : State) (u : FieldFrame) : Bool :=
  match u.start with
  | some n => decide (n ≠ s.fld.seenStart)
  | none => false

/-- A start noted: the configuration goes out again, and the start is reported. -/
def noteStart (s : State) (u : FieldFrame) : State :=
  let s := s.onFld fun f =>
    { f with seenStart := u.start.getD 0, startFlag := true, replay := some fieldCfgOffsets, upCrc := 0, sentCfg := [], unsent := []
             queue := (f.sentCfg.map fun x => { off := x.2, value := f.mirror.read x.2, cmd := some x.1 }) ++ f.queue }
  let mv := u.words.get 12 % 65536
  let s := if s.side.cause = 0 then s.record 0x3001 6 0 mv 0 else s.fault .D 6 0x3001 1 mv 0
  s.record 0x3008 4 1 0 0

theorem noteStart_fld (s : State) (u : FieldFrame) :
    (noteStart s u).fld.words = s.fld.words ∧ (noteStart s u).fld.startFlag = true ∧ (noteStart s u).fld.replay = some fieldCfgOffsets ∧
      (noteStart s u).fld.stale = s.fld.stale ∧ (noteStart s u).fld.seenStart = u.start.getD 0 ∧ (noteStart s u).fld.upCrc = 0 := by
  unfold noteStart
  extract_lets v mv w
  have hw : (w.record 0x3008 4 1 0 0).fld = v.fld :=
    fld_of_keeps (m := [.rcd, .flt]) (record_keeps (by decide) (keeps_ite (record_keeps (by decide) (keeps_refl _ v))
      (fault_keeps (by decide) (keeps_refl _ v)))) (by decide)
  rw [hw]
  exact ⟨rfl, rfl, rfl, rfl, rfl, rfl⟩

/-- What the island reads after it has taken a good field frame. -/
structure FrameTaken (t : State) (u : FieldFrame) (stale : Bool) : Prop where
  words : t.fld.words = u.words
  missing : t.fld.missing = 0
  up : t.fld.up = none
  rxSeq : t.fld.rxSeq = some ((u.seq + 1) % 256)
  stale : t.fld.stale = stale
  present : t.supply.fpPresent = true

theorem FrameTaken.replied {u : FieldFrame} {stale : Bool} (h : FrameTaken s u stale) (hr : FldReplied s t) (hs : t.supply = s.supply) :
    FrameTaken t u stale := by
  have hwords := congrArg Field.words hr.rest
  have hmissing := congrArg Field.missing hr.rest
  have hup := congrArg Field.up hr.rest
  have hseq := congrArg Field.rxSeq hr.rest
  have hstale := congrArg Field.stale hr.rest
  exact ⟨hwords.trans h.words, hmissing.trans h.missing, hup.trans h.up, hseq.trans h.rxSeq, hstale.trans h.stale, by rw [hs]; exact h.present⟩

/-- A good frame in its place is taken; then a start it tells of is noted. -/
theorem receiveField_of_good {u : FieldFrame} (hup : s.fld.up = some u) (hgood : u.good = true)
    (hok : newStart s u = true ∨ seqBehind s.fld.rxSeq u.seq = false) :
    ∃ v, FrameTaken v u (newStart s u || s.fld.replay.isSome) ∧ s.receiveField true = if newStart s u then noteStart v u else v := by
  have hbehind : (!newStart s u && seqBehind s.fld.rxSeq u.seq) = false := by
    rcases hok with h | h
    all_goals simp [h]
  unfold State.receiveField
  simp -zeta only [hup, hgood]
  extract_lets x new y ids w v z mv r
  have hnew : new = newStart s u := rfl
  have hw : FrameTaken w u (newStart s u || s.fld.replay.isSome) := ⟨rfl, rfl, rfl, rfl, rfl, rfl⟩
  have hv : FldReplied w v := completeIds_fld (fun y : Nat × Nat => y.1) .ok (fun y t => le 2 y.2 ++ zeros 2 ++ le 4 (t.side.cfg.read y.2)) ids w
  have hsupply : v.supply = w.supply := (completeIds_keeps (fun y : Nat × Nat => y.1) .ok
    (fun y t => le 2 y.2 ++ zeros 2 ++ le 4 (t.side.cfg.read y.2)) ids w).only.same .supply (by decide)
  refine ⟨v, hw.replied hv hsupply, ?_⟩
  clear_value v
  have hguard : ¬ (!new && seqBehind x.fld.rxSeq u.seq) = true := by
    rw [hnew]
    exact Bool.not_eq_true _ ▸ hbehind
  rw [if_neg (by decide), if_neg hguard]
  rfl

/-- What follows a field frame looks at the door and the tamper input and touches neither the field's part nor the supply. -/
theorem opFieldFrameReceive_keeps (s : State) (crcOk : Bool) : Keeps [.rcd, .can, .acc] (s.receiveField crcOk) (opFieldFrameReceive crcOk s) := by
  unfold opFieldFrameReceive
  extract_lets u k v
  have hv : Keeps [.rcd, .can, .acc] u v :=
    keeps_ite (relStop_keeps (by decide) (record_keeps (by decide) (onAcc_keeps (by decide) (keeps_refl _ u)))) (keeps_refl _ u)
  refine keeps_ite (keeps_refl _ u) (keeps_ite hv ?_)
  exact onAcc_keeps (by decide) (keeps_ite (doorEvent_keeps (by decide) hv) hv)

theorem opFieldFrameReceive_fld (s : State) (crcOk : Bool) : (opFieldFrameReceive crcOk s).fld = (s.receiveField crcOk).fld :=
  fld_of_keeps (opFieldFrameReceive_keeps s crcOk) (by decide)

theorem opFieldFrameReceive_supply (s : State) (crcOk : Bool) : (opFieldFrameReceive crcOk s).supply = (s.receiveField crcOk).supply :=
  (opFieldFrameReceive_keeps s crcOk).only.same .supply (by decide)

/-! ## The logic frame at the field side, and silence (R253 to R257) -/

theorem opLogicFrameReceive_of_good {x : LogicFrame} (hdown : s.fld.down = some x) (hrun : s.side.running = true) (hgood : x.good = true)
    (hseq : seqBehind s.side.rxSeq x.seq = false) :
    (opLogicFrameReceive true s).fld =
      { s.fld with
        down := none
        side := { s.side with rxSeq := some ((x.seq + 1) % 256), rx := some x, silent := 0, got := true,
                              logicSilent := s.side.logicSilent || decide (50 ≤ s.side.silent) } } := by
  have hrun' : (s.onFld fun f => { f with down := none }).side.running = true := hrun
  have hseq' : seqBehind (s.onFld fun f => { f with down := none }).side.rxSeq x.seq = false := hseq
  simp only [opLogicFrameReceive, hdown, hrun', hgood, hseq', Bool.not_true, Bool.and_self, if_neg Bool.false_ne_true]
  split <;> rfl

/-- Three frames missing: the field's state is stale, and the configuration writes that wait are answered. -/
theorem opFieldStale_spec (hmissing : 3 ≤ s.fld.missing) (hfresh : s.fld.stale = false ∨ s.supply.fpPresent = true) :
    (opFieldStale s).fld.stale = true ∧ (opFieldStale s).supply.fpPresent = false ∧
      (s.fld.stale = false → s.fld.sentCfg = [] → s.fld.queue = [] → (opFieldStale s).rcd = (s.record 0x3008 4 0 0 0).rcd) := by
  have hguard : ¬ (s.fld.missing < 3 ∨ (s.fld.stale = true ∧ s.supply.fpPresent = false)) := by
    rcases hfresh with h | h
    all_goals simp [h, hmissing]
  unfold opFieldStale
  rw [if_neg hguard]
  extract_lets was ids u v
  have hr : FldReplied u v := completeIds_fld (fun x : Nat × Nat => x.1) .ok (fun x t => le 2 x.2 ++ zeros 2 ++ le 4 (t.fld.mirror.read x.2)) ids u
  have hk := completeIds_keeps (fun x : Nat × Nat => x.1) .ok (fun x t => le 2 x.2 ++ zeros 2 ++ le 4 (t.fld.mirror.read x.2)) ids u
  have hstale : v.fld.stale = true := by
    have h := congrArg Field.stale hr.rest
    exact h
  have hpresent : v.supply.fpPresent = false := congrArg Supply.fpPresent (hk.only.same .supply (by decide))
  have hnone : s.fld.sentCfg = [] → s.fld.queue = [] → v = u := by
    intro hsent hqueue
    have hids : ids = [] := by simp [ids, hsent, hqueue]
    exact congrArg (fun l => u.forEach l fun x s => s.completeId x.1 .ok (le 2 x.2 ++ zeros 2 ++ le 4 (s.fld.mirror.read x.2))) hids
  clear_value v
  split
  next hwas =>
    have hwas' : s.fld.stale = true := hwas
    exact ⟨hstale, hpresent, fun h => absurd (h.symm.trans hwas') Bool.false_ne_true⟩
  next =>
    refine ⟨hstale, hpresent, fun _ hsent hqueue => ?_⟩
    rw [hnone hsent hqueue]
    rfl

theorem opFieldStop_running {mv : Nat} (hrun : s.side.running = true) (hlow : mv < 16000) :
    (opFieldStop mv s).side = FieldSide.off s.side.starts ∧ (opFieldStop mv s).fld.waiting = [] := by
  have hop : opFieldStop mv s = s.fieldStop fun f => FieldSide.off f.starts := by
    rw [opFieldStop, if_neg (Nat.not_le.mpr hlow), if_pos hrun]
  rw [hop]
  unfold State.fieldStop
  extract_lets ids u
  have hr := completeIds_fld id .state (fun _ _ => []) ids u
  refine ⟨hr.side, ?_⟩
  exact List.sublist_nil.mp hr.waiting

/-! ## The field side's inputs, counters and outputs (R258 to R265) -/

theorem getLsbD_flag {n : Nat} (v : BitVec n) (i : Fin n) : (v ||| (1 <<< i.1)).getLsbD i.1 = true := by
  have hbit : (BitVec.ofNat n (1 <<< i.1)).getLsbD i.1 = true := by
    rw [BitVec.getLsbD_ofNat, Nat.shiftLeft_eq, Nat.one_mul, Nat.testBit_two_pow_self, decide_eq_true i.2, Bool.and_self]
  exact (BitVec.getLsbD_or ..).trans ((congrArg (v.getLsbD i.1 || ·) hbit).trans (Bool.or_true _))

/-- Whether an edge of this direction counts. -/
def EdgeCounts (f : FieldSide) (k : Fin 8) (rising : Bool) : Prop :=
  f.cfg.edges.get k = 2 ∨ (f.cfg.edges.get k = 0 ∧ rising = true) ∨ (f.cfg.edges.get k = 1 ∧ rising = false)

theorem edgeCounts_iff (f : FieldSide) (k : Fin 8) (rising : Bool) :
    (decide (f.cfg.edges.get k = 2) || (decide (f.cfg.edges.get k = 0) && rising) || (decide (f.cfg.edges.get k = 1) && !rising)) = true ↔
      EdgeCounts f k rising := by
  simp [EdgeCounts, or_assoc]

/-- The state with the edge counted. -/
def counted (s : State) (k : Fin 8) (rising : Bool) : State :=
  if decide (s.side.cfg.edges.get k = 2) || (decide (s.side.cfg.edges.get k = 0) && rising) || (decide (s.side.cfg.edges.get k = 1) && !rising) then
    s.onSide fun f =>
      { f with counters := f.counters.put k (s.side.counters.get k + 1)
               wrap := if s.side.counters.get k = BitVec.allOnes 32 then f.wrap ||| (1 <<< k.1) else f.wrap }
  else s

theorem counted_rcd (s : State) (k : Fin 8) (rising : Bool) (code source p0 p1 p2 : Nat) :
    ((counted s k rising).record code source p0 p1 p2).rcd = (s.record code source p0 p1 p2).rcd := by
  unfold counted
  split <;> rfl

theorem opFastCountEdge_eq {k : Fin 8} {rising : Bool} {n : Nat} (hrun : s.side.running = true) :
    opFastCountEdge k rising n s =
      if n < 64 then ((counted s k rising).onSide fun f => { f with overspeed := f.overspeed ||| (1 <<< k.1) }).record 0x3004 6 (25 + k.1) n 0
      else counted s k rising := by
  simp only [opFastCountEdge, hrun, Bool.not_true, if_neg Bool.false_ne_true]
  rfl

theorem opFastCountEdge_rcd {k : Fin 8} {rising : Bool} {n : Nat} (hrun : s.side.running = true) (hfast : n < 64) :
    (opFastCountEdge k rising n s).side.overspeed.getLsbD k.1 = true ∧
      (opFastCountEdge k rising n s).rcd = (s.record 0x3004 6 (25 + k.1) n 0).rcd := by
  rw [opFastCountEdge_eq hrun, if_pos hfast, side_record, side_onSide, onSide_record_rcd, counted_rcd]
  exact ⟨getLsbD_flag _ k, rfl⟩

theorem opFastCountEdge_counters {k : Fin 8} {rising : Bool} {n : Nat} (hrun : s.side.running = true) :
    (opFastCountEdge k rising n s).side.counters = (counted s k rising).side.counters := by
  rw [opFastCountEdge_eq hrun]
  split <;> rfl

theorem counted_counters (s : State) (k : Fin 8) (rising : Bool) :
    (counted s k rising).side.counters.get k = s.side.counters.get k +
      (if s.side.cfg.edges.get k = 2 ∨ (s.side.cfg.edges.get k = 0 ∧ rising = true) ∨ (s.side.cfg.edges.get k = 1 ∧ rising = false)
        then 1 else 0) := by
  unfold counted
  by_cases h : EdgeCounts s.side k rising
  · rw [if_pos ((edgeCounts_iff s.side k rising).mpr h), side_onSide, Tab.get_put_self]
    exact congrArg (s.side.counters.get k + ·) (if_pos h).symm
  · rw [if_neg (mt (edgeCounts_iff s.side k rising).mp h)]
    exact ((congrArg (s.side.counters.get k + ·) (if_neg h)).trans (BitVec.add_zero _)).symm

/-- An output that is overloaded is held and flagged. -/
theorem outs_overload (f : FieldSide) (o : Fin 16) : (f.overload o).outs.get o = { f.outs.get o with held := true, overload := true } :=
  Tab.get_upd_self ..

theorem opGroupLimit_eq {g : Fin 2} {ma : List Nat} {n : Nat} {o : Fin 16} (hrun : s.side.running = true) (hsum : s.side.sumFor.get g = some n)
    (hover : 1000 ≤ n) (hmost : s.side.heaviest g ma = some o) :
    opGroupLimit g ma s =
      (s.onSide fun f => { f.overload o with groupLimit := f.groupLimit ||| (1 <<< g.1), sumFor := f.sumFor.put g (some 0) }).fault .A 6 0x3006
        (o.1 + 1) 1 (s.side.groupMa o) := by
  have hguard : ¬ (s.side.running = false ∨ n < 1000) := by simp [hrun, hover]
  simp only [opGroupLimit, hsum, hmost, if_neg hguard]

/-! ## The weft's words and the host's commands (R259 to R261, R266 to R270) -/

/-- The bits of a merge of values under a mask. -/
theorem getLsbD_merge (v x m : BitVec 16) (i : Fin 16) :
    ((v &&& ~~~m) ||| (x &&& m)).getLsbD i.1 = if m.getLsbD i.1 then x.getLsbD i.1 else v.getLsbD i.1 := by
  have hi := i.2
  simp only [BitVec.getLsbD_or, BitVec.getLsbD_and, BitVec.getLsbD_not, hi, decide_true, Bool.true_and]
  rcases Bool.eq_false_or_eq_true (m.getLsbD i.1) with h | h
  all_goals
    simp only [h, Bool.not_true, Bool.not_false, Bool.and_false, Bool.and_true, Bool.false_or, Bool.or_false, Bool.false_eq_true, if_true, if_false]

theorem getLsbD_ofNat16 (n : Nat) (i : Fin 16) : (BitVec.ofNat 16 n).getLsbD i.1 = bit n i.1 := by
  rw [BitVec.getLsbD_ofNat, decide_eq_true i.2, Bool.true_and, bit]

/-- The bits that are not held. -/
theorem getLsbD_unheld (n : Nat) (held : BitVec 16) (i : Fin 16) :
    (BitVec.ofNat 16 n &&& ~~~held).getLsbD i.1 = (bit n i.1 && !held.getLsbD i.1) := by
  rw [BitVec.getLsbD_and, getLsbD_ofNat16, BitVec.getLsbD_not, decide_eq_true i.2, Bool.true_and]

theorem getLsbD_silent (silent : Bool) (i : Fin 27) : 
    (BitVec.ofNat 27 (if silent then 1 <<< 26 else 0)).getLsbD i.1 = (silent && decide (i.1 = 26)) := by
  revert i
  cases silent <;> decide

theorem getLsbD_setWidth_shift {n : Nat} (m : BitVec n) (k : Nat) (i : Fin 27) :
    (m.setWidth 27 <<< k).getLsbD i.1 = (decide (k ≤ i.1) && m.getLsbD (i.1 - k)) := by
  have hi := i.2
  have hik : i.1 - k < 27 := by omega
  simp only [BitVec.getLsbD_shiftLeft, BitVec.getLsbD_setWidth, hi, hik, decide_true, Bool.true_and, ← Nat.not_lt, decide_not]

theorem opFieldDataWord_values {w : ShWord} (hw : WordAt s 7 tyData w) (hzero : pf w.payload 32 32 = 0)
    (hmask : BitVec.ofNat 16 (pf w.payload 16 16) &&& ~~~s.fld.mirror.weftMask = 0) (i : Fin 16) :
    (opFieldDataWord true s).fld.values.getLsbD i.1 =
      if bit (pf w.payload 16 16) i.1 && !s.safeHeld.getLsbD i.1 then bit (pf w.payload 0 16) i.1 else s.fld.values.getLsbD i.1 := by
  obtain ⟨hhead, htyp, -⟩ := id hw
  obtain ⟨rest, hfly⟩ := List.head?_eq_some_iff.mp hhead
  obtain ⟨f, hf⟩ := ReceiveProofs.received_links s 7 w
  have hword := ReceiveProofs.receiveWord_of_wordAt hw (by decide)
  rw [hf] at hword
  have hguard : ¬ (pf w.payload 32 32 ≠ 0 ∨ BitVec.ofNat 16 (pf w.payload 16 16) &&& ~~~s.fld.mirror.weftMask ≠ 0) := by simp [hzero, hmask]
  have hop : (opFieldDataWord true s).fld.values =
      (s.fld.values &&& ~~~(BitVec.ofNat 16 (pf w.payload 16 16) &&& ~~~s.safeHeld)) |||
        (BitVec.ofNat 16 (pf w.payload 0 16) &&& (BitVec.ofNat 16 (pf w.payload 16 16) &&& ~~~s.safeHeld)) := by
    simp only [opFieldDataWord, hfly, htyp, hword, ne_eq, not_true_eq_false, if_false]
    refine (congrArg (fun t : State => t.fld.values) (if_neg hguard)).trans ?_
    rfl
  rw [hop, getLsbD_merge, getLsbD_unheld, getLsbD_ofNat16]

/-- A configuration write is taken into the mirror, and queued for the field side when that is present. -/
theorem fieldConfig_ok {off v : Nat} {m : FieldCfg} {cmd : Option Nat} (hrun : off = 0x0C → s.weft.running = none)
    (hwrite : s.fld.mirror.write off v = some m) (hroom : s.supply.fpPresent = false ∨ s.fld.queue.length < 64) :
    s.fieldConfig off v cmd = if s.supply.fpPresent then
        (.ok, false, s.onFld fun f => { f with mirror := m, queue := f.queue ++ [{ off := off, value := m.read off, cmd := cmd }] })
      else (.ok, true, s.onFld fun f => { f with mirror := m, unsent := f.unsent.filter (· != off) ++ [off] }) := by
  have hguard : ¬ (off = 0x0C ∧ s.weft.running.isSome = true) := fun h => by simp [hrun h.1] at h
  rw [State.fieldConfig, if_neg hguard, hwrite]
  cases hp : s.supply.fpPresent with
  | false => rfl
  | true =>
    have hlen : ¬ 64 ≤ s.fld.queue.length := by
      rcases hroom with h | h
      · exact absurd (h.symm.trans hp) Bool.false_ne_true
      · exact Nat.not_le.mpr h
    dsimp only
    rw [if_neg (by decide), if_neg hlen, if_pos rfl]

theorem opFioSet_of_begun {r : CmdRef} {q : Cmd} (hq : s.begun r = some q) (ho : q.opcode = 0x0401) (hp : q.params.length = 4)
    (hweft : BitVec.ofNat 16 (u16 q.params 0) &&& s.weftOutputs = 0) (hsafe : BitVec.ofNat 16 (u16 q.params 0) &&& s.safeHeld = 0)
    (hpresent : s.supply.fpPresent = true) :
    (opFioSet r s).fld.waiting = s.fld.waiting ++ [{ cmd := q.id, sent := false }] ∧
      (opFioSet r s).fld.values = (s.fld.values &&& ~~~BitVec.ofNat 16 (u16 q.params 0)) |||
        (BitVec.ofNat 16 (u16 q.params 2) &&& BitVec.ofNat 16 (u16 q.params 0)) := by
  obtain ⟨f, hf⟩ := TwinProofs.handOver_cmd s q .target
  have hop : opFioSet r s = _ := onCommand_eq hq ho _
  rw [hop]
  simp only [hp, ne_eq, not_true_eq_false, if_false, hweft, hsafe, hpresent, Bool.true_eq_false, or_self, hf]
  exact ⟨rfl, rfl⟩

theorem opFioConfig_of_begun {r : CmdRef} {q : Cmd} {m : FieldCfg} (hq : s.begun r = some q) (ho : q.opcode = 0x0403) (hp : q.params.length = 8)
    (hzero : zeroAt q.params [2, 3] = true) (hoff : u16 q.params 0 ∈ fieldCfgOffsets) (hrun : u16 q.params 0 = 0x0C → s.weft.running = none)
    (hwrite : s.fld.mirror.write (u16 q.params 0) (u32 q.params 4) = some m) (hroom : s.supply.fpPresent = false ∨ s.fld.queue.length < 64) :
    (opFioConfig r s).fld.mirror = m ∧
      (s.supply.fpPresent = true → (opFioConfig r s).fld.queue = s.fld.queue ++
        [{ off := u16 q.params 0, value := m.read (u16 q.params 0), cmd := some q.id }]) := by
  have hguard : ¬ (q.params.length ≠ 8 ∨ zeroAt q.params [2, 3] = false ∨ u16 q.params 0 ∉ fieldCfgOffsets) := by simp [hp, hzero, hoff]
  have hop : opFioConfig r s = _ := onCommand_eq hq ho _
  rw [hop]
  dsimp only
  rw [if_neg hguard, fieldConfig_ok hrun hwrite hroom]
  cases hp : s.supply.fpPresent with
  | true =>
    rw [if_pos rfl]
    dsimp only
    generalize hu : s.onFld _ = u
    have hwritten : u.fld.mirror = m ∧
        u.fld.queue = s.fld.queue ++ [{ off := u16 q.params 0, value := m.read (u16 q.params 0), cmd := some q.id }] := by
      rw [← hu]
      exact ⟨rfl, rfl⟩
    obtain ⟨hmirror, hqueue⟩ := hwritten
    obtain ⟨f, hf⟩ := TwinProofs.handOver_cmd u q .target
    rw [hf]
    exact ⟨hmirror, fun _ => hqueue⟩
  | false =>
    rw [if_neg Bool.false_ne_true]
    dsimp only
    generalize hu : s.onFld _ = u
    have hmirror : u.fld.mirror = m := by rw [← hu]; rfl
    have hr := congrArg Field.mirror (complete_replied u q .ok (le 2 (u16 q.params 0) ++ zeros 2 ++ le 4 (u.fld.mirror.read (u16 q.params 0))) 0).fld.rest
    exact ⟨Eq.trans hr hmirror, fun h => absurd h Bool.false_ne_true⟩

theorem opFioGet_of_begun {r : CmdRef} {q : Cmd} (hq : s.begun r = some q) (ho : q.opcode = 0x0402) (hp : q.params = []) :
    opFioGet r s = s.complete q .ok (le 4 (s.readField 0x10) ++ le 4 (s.readField 0x14) ++ le 4 (s.readField 0x20) ++ le 4 (s.fld.words.get 3) ++
      le 4 (s.readField 0x00)) := by
  have hread : s.readField 0x10 = s.fld.words.get 0 ∧ s.readField 0x14 = s.fld.words.get 1 ∧ s.readField 0x20 = s.fld.words.get 2 ∧
      s.readField 0x00 = s.fieldStatus := ⟨rfl, rfl, rfl, rfl⟩
  obtain ⟨h10, h14, h20, h00⟩ := hread
  refine (onCommand_eq hq ho _).trans ?_
  rw [h10, h14, h20, h00]
  simp only [hp, List.length_nil, ne_eq, not_true_eq_false, if_false]

/-- Settles O34: the barrier's frames carry the field's state both ways, silence and starts are judged, the inputs, counters and outputs follow, and
the weft's and the host's writes reach the mirror. -/
theorem fieldCommandsComplete : Obligations.FieldCommandsComplete := by
  unfold Obligations.FieldCommandsComplete
  refine ⟨?barrier, ?taken, ?started, ?logic, ?stale, ?silent, ?start, ?stop, ?watchdog, ?stuck, ?chatter, ?edge, ?overload, ?limit, ?word, ?write,
    ?clear, ?flags, ?set, ?get, ?config⟩
  case barrier =>
    intro s raw rb parity mv ga gb hwarp hnew hup
    obtain ⟨t, x, ht, hspec⟩ := opBarrierFrame_spec (raw := raw) (rb := rb) (parity := parity) (mv := mv) (ga := ga) (gb := gb) hwarp hnew hup
    exact ⟨t, x, congrArg Host.Outcome.next ht, hspec⟩
  case taken =>
    intro s u hup hgood hseq hstart
    have hnew : newStart s u = false := by rw [newStart, hstart]
    obtain ⟨v, hv, hreceived⟩ := receiveField_of_good hup hgood (.inr hseq)
    rw [hnew] at hv
    refine ⟨_, rfl, ?_⟩
    rw [opFieldFrameReceive_fld, opFieldFrameReceive_supply, hreceived, hnew, if_neg Bool.false_ne_true]
    exact ⟨hv.words, hv.missing, hv.up, hv.stale, hv.present, hv.rxSeq⟩
  case started =>
    intro s u n hup hgood hstart hn
    have hnew : newStart s u = true := by
      rw [newStart, hstart]
      exact decide_eq_true hn
    obtain ⟨v, hv, hreceived⟩ := receiveField_of_good hup hgood (.inl hnew)
    obtain ⟨hwords, hflag, hreplay, hstale, hseen, hcrc⟩ := noteStart_fld v u
    rw [hnew] at hv
    refine ⟨_, rfl, ?_⟩
    rw [opFieldFrameReceive_fld, hreceived, if_pos hnew]
    exact ⟨hwords.trans hv.words, hflag, hreplay, hstale.trans hv.stale, hseen.trans (by rw [hstart]; rfl), hcrc⟩
  case logic =>
    intro s x hdown hrun hgood hseq
    refine ⟨_, rfl, ?_⟩
    rw [State.side, opLogicFrameReceive_of_good hdown hrun hgood hseq]
    exact ⟨rfl, rfl, rfl, rfl⟩
  case stale =>
    exact fun s hmissing hfresh => ⟨_, rfl, opFieldStale_spec hmissing hfresh⟩
  case silent =>
    intro s hrun hlong
    refine ⟨_, rfl, ?_⟩
    rw [opLogicSilent, hrun, decide_eq_true hlong, if_pos (Bool.and_self true)]
    exact ⟨rfl, rfl⟩
  case start =>
    intro s mv hrun hmv hpowered
    have hguard : ¬ (s.side.running = true ∨ mv ≤ 18000) := by simp [hrun, hmv]
    refine ⟨_, rfl, ?_⟩
    rw [opFieldStart, if_neg hguard, if_pos hpowered]
    exact ⟨rfl, Tab.get_put_self ..⟩
  case stop =>
    exact fun s mv hrun hlow => ⟨_, rfl, opFieldStop_running hrun hlow⟩
  case watchdog =>
    intro s hrun
    refine ⟨_, rfl, ?_⟩
    rw [opFieldWatchdog, hrun]
    rfl
  case stuck =>
    intro s i hrun ht hnot hlong
    have hguard : ¬ (s.side.running = false ∨ (s.side.cfg.inputs.get i).tStuck = 0 ∨ (s.side.inputs.get i).stuck = true ∨
        (s.side.inputs.get i).ones < (s.side.cfg.inputs.get i).tStuck * 100000) := by simp [hrun, ht, hnot, hlong]
    refine ⟨_, rfl, ?_⟩
    simp only [opStuck, if_neg hguard, side_record, side_onSide, Tab.get_upd_self, onSide_record_rcd, and_self]
  case chatter =>
    intro s i hrun hen hnot hmany
    have hguard : ¬ (s.side.running = false ∨ (s.side.cfg.inputs.get i).chatEn = false ∨ (s.side.inputs.get i).chatter = true ∨
        (s.side.inputs.get i).changes.length ≤ s.side.cfg.chatterN) := by simp [hrun, hen, hnot, hmany]
    refine ⟨_, rfl, ?_⟩
    simp only [opChatter, if_neg hguard, side_record, side_onSide, Tab.get_upd_self, onSide_record_rcd, and_self]
  case edge =>
    intro s k rising n hrun
    refine ⟨_, rfl, ?_, fun hfast => opFastCountEdge_rcd hrun hfast⟩
    rw [opFastCountEdge_counters hrun]
    exact counted_counters s k rising
  case overload =>
    intro s o hrun hon
    refine ⟨_, rfl, ?_⟩
    rw [opFoOverload, hrun, hon, if_pos (Bool.and_self true), side_fault, side_onSide, outs_overload, onSide_fault_flt]
    exact ⟨rfl, rfl⟩
  case limit =>
    intro s g ma n o hrun hsum hover hmost
    refine ⟨_, rfl, ?_⟩
    rw [opGroupLimit_eq hrun hsum hover hmost, side_fault, side_onSide, onSide_fault_flt]
    exact ⟨outs_overload s.side o, getLsbD_flag _ g, rfl⟩
  case word =>
    exact fun s w hw hzero hmask => ⟨_, rfl, opFieldDataWord_values hw hzero hmask⟩
  case write =>
    intro s off v m hoff hrun hwrite hroom
    refine ⟨_, rfl, ?_⟩
    rw [opFieldConfigWrite, if_pos hoff, fieldConfig_ok hrun hwrite hroom]
    cases s.supply.fpPresent with
    | true => exact ⟨rfl, rfl⟩
    | false => exact ⟨rfl, rfl⟩
  case clear =>
    intro s mask
    refine ⟨_, rfl, fun i => ?_⟩
    rw [opCounterClear, onFld_fld]
    exact (BitVec.getLsbD_or ..).trans (congrArg (s.fld.clear.getLsbD i.1 || ·) (getLsbD_setWidth_shift mask 16 i))
  case flags =>
    intro s speed wrap groups silent outs
    refine ⟨_, rfl, rfl, fun i => ?_⟩
    rw [opFieldFlagClear, onFld_fld]
    dsimp only
    rw [BitVec.getLsbD_or, BitVec.getLsbD_or, BitVec.getLsbD_or, BitVec.getLsbD_or, getLsbD_setWidth_shift, getLsbD_setWidth_shift,
      BitVec.getLsbD_setWidth, decide_eq_true i.2, Bool.true_and]
    exact congrArg (Bool.or _) (getLsbD_silent silent i)
  case set =>
    intro s r q hq ho hp hweft hsafe hpresent
    obtain ⟨hwaiting, hvalues⟩ := opFioSet_of_begun hq ho hp hweft hsafe hpresent
    refine ⟨_, rfl, hwaiting, fun i => ?_⟩
    rw [hvalues, getLsbD_merge, getLsbD_ofNat16, getLsbD_ofNat16]
  case get =>
    exact fun s r q hq ho hp => congrArg Host.Outcome.next (opFioGet_of_begun hq ho hp)
  case config =>
    exact fun s r q m hq ho hp hzero hoff hrun hwrite hroom => ⟨_, rfl, opFioConfig_of_begun hq ho hp hzero hoff hrun hwrite hroom⟩

end Sys2Proof.FieldProofs

/-! Packets, sessions, groups and commands (spec/10). -/

namespace Sys2Proof.PacketProofs

open Sys2Proof Sys2Proof.Machine Sys2Proof.Laws Sys2Proof.ReplyProofs Sys2Proof.CommandProofs

variable {s t u : State}

/-! ## A packet's arrival (R276, R277) -/

theorem cmd_of_keeps {m : List Part} (h : Keeps m s t) (hm : .cmd ∉ m) : t.cmd = s.cmd := h.only.same .cmd hm

/-- The packet has arrived: the buffer holds it for its time, and the service is active. -/
def arrived (s : State) : State := s.rxTake.serviceActive

theorem arrived_keeps (s : State) : Keeps [.cmd, .pwr, .flt] s (arrived s) := serviceActive_keeps (by decide) (rxTake_keeps (by decide) (keeps_refl _ s))

theorem arrived_cmd (s : State) : (arrived s).cmd = { s.cmd with rxUntil := max s.cmd.rxUntil s.now + s.packetTime } :=
  cmd_of_keeps (serviceActive_keeps (m := [.pwr, .flt]) (by decide) (keeps_refl _ s.rxTake)) (by decide)

theorem arrived_sources (s : State) : (arrived s).cmd.sources = s.cmd.sources := by rw [arrived_cmd]

theorem arrived_sessions (s : State) : (arrived s).cmd.sessions = s.cmd.sessions := by rw [arrived_cmd]

theorem arrived_groups (s : State) : (arrived s).cmd.groups = s.cmd.groups := by rw [arrived_cmd]

theorem arrived_nextId (s : State) : (arrived s).cmd.nextId = s.cmd.nextId := by rw [arrived_cmd]

theorem arrived_now (s : State) : (arrived s).now = s.now := (arrived_keeps s).only.same .now (by decide)

theorem arrived_twin (s : State) : (arrived s).twin = s.twin := (arrived_keeps s).only.same .twin (by decide)

theorem receivePacket_full {via : Via} {p : List Byte} (hserving : s.cmd.serving = true) (hfull : 256 ≤ s.rxWaiting) :
    s.receivePacket via p = s.onCmd fun c => { c with rxOverflow := satAdd 0xFFFF c.rxOverflow 1 } := by
  simp only [State.receivePacket, hserving, Bool.not_true, if_neg Bool.false_ne_true, if_pos hfull]

theorem receivePacket_can {p : List Byte} (hserving : s.cmd.serving = true) (hroom : s.rxWaiting < 256) (hen : s.cmd.canEn = true) :
    s.receivePacket .can p =
      if packetOk (p.take (20 + u16 p 12)) 44 0 then (arrived s).admitPacket .can 0 0 (p.take (20 + u16 p 12)) else (arrived s).countCrcFail := by
  have hen' : (arrived s).cmd.canEn = true := by
    rw [arrived_cmd]
    exact hen
  have hen'' : s.rxTake.serviceActive.cmd.canEn = true := hen'
  simp only [State.receivePacket, hserving, Bool.not_true, if_neg Bool.false_ne_true, if_neg (Nat.not_le.mpr hroom), hen'']
  rfl

theorem receivePacket_udp {addr port : Nat} {w p : List Byte} (hserving : s.cmd.serving = true) (hroom : s.rxWaiting < 256)
    (hwrap : wrapperOk w = true) : s.receivePacket (.udp addr port portCmd w) p = (arrived s).receiveUdp addr port w p := by
  simp only [State.receivePacket, hserving, Bool.not_true, if_neg Bool.false_ne_true, if_neg (Nat.not_le.mpr hroom), if_true, hwrap]
  rfl

theorem receivePacket_otherPort {addr port to_ : Nat} {w p : List Byte} (hserving : s.cmd.serving = true) (hroom : s.rxWaiting < 256)
    (hcmd : to_ ≠ portCmd) (hnote : to_ ≠ portNote) : s.receivePacket (.udp addr port to_ w) p = s := by
  simp only [State.receivePacket, hserving, Bool.not_true, if_neg Bool.false_ne_true, if_neg (Nat.not_le.mpr hroom), if_neg hcmd, if_neg hnote]

theorem take_of_packetOk {p : List Byte} {limit session : Nat} (h : packetOk p limit session = true) : p.take (20 + u16 p 12) = p := by
  simp only [packetOk, Bool.and_eq_true, decide_eq_true_eq] at h
  exact List.take_of_length_le (by omega)

/-! ## A command admitted (R278, R283 to R286) -/

/-- The command a packet carries. -/
def carried (s : State) (src : Src) (addr port : Nat) (p : List Byte) (g : Option Grp) : Cmd :=
  { id := s.cmd.nextId, src := src, addr := addr, port := port, opcode := u16 p 2, flags := u8 p 1, posted := bit (u8 p 1) 0,
    fence := bit (u8 p 1) 1, tag := u16 p 4, group := g, session := u32 p 8, params := slice p 16 (u16 p 12), accepted := false, stage := .taken,
    msn := 0, mirr := false, begunAt := none }

/-- A command without a group waits behind the others of its source. -/
theorem admitPacket_ungrouped {src : Src} {addr port : Nat} {p : List Byte} (hgroup : u8 p 6 = 0xFF) (hrole : s.twin.role ≠ .shadow)
    (hmirror : s.mirrors = false) :
    s.admitPacket src addr port p = (s.onCmd fun c => { c with nextId := s.cmd.nextId + 1 }).onSource src.idx fun q =>
      { q with waiting := q.waiting ++ [carried s src addr port p none] } := by
  have hmirror' : (s.onCmd fun c => { c with nextId := s.cmd.nextId + 1 }).mirrors = false := hmirror
  simp only [State.admitPacket, hgroup, ne_eq, not_true_eq_false, and_false, if_false, false_and, onCmd_twin, hrole, decide_false,
    Bool.false_and, Bool.false_eq_true, hmirror', Bool.and_false, Nat.reduceLT, dite_false]
  rfl

theorem takeHeld_none {g : Grp} (n : Nat) (h : (s.group g).held = []) : State.takeHeld g n s = s := by
  cases n with
  | zero => rfl
  | succ n =>
    rw [State.takeHeld]
    simp only [h, List.find?_nil]

theorem withMirr_of_not {c : Cmd} (h : c.mirr = false) : { c with mirr := false } = c := by
  rw [← h]

theorem withAccepted_of_not {c : Cmd} (h : c.accepted = false) : { c with accepted := false } = c := by
  rw [← h]

/-- What of a group a remembered reply leaves: its causes and its lists of commands. -/
def groupCore (x : Group) : Causes × List Cmd × List Cmd × List Cmd := (x.causes, x.failed, x.taken, x.held)

theorem cacheReply_core (x : Group) (tag status flags : Nat) (p : List Byte) (known : Bool) :
    groupCore (x.cacheReply tag status flags p known) = groupCore x := by
  unfold Group.cacheReply
  extract_lets e
  split <;> rfl

/-- The group with a command's tag in its place noted. -/
def tagTaken (x : Group) (tag : Nat) : Group :=
  { (x.cacheReply tag Status.accepted.code 0 [] false) with
    expected := (x.expected + 1) % 65536, inflight := x.inflight.filter fun y => y.1 != tag }

theorem tagTaken_core (x : Group) (tag : Nat) : groupCore (tagTaken x tag) = groupCore x := cacheReply_core ..

/-- A command of a group that runs, in its place, is taken without an answer. -/
theorem takeCmd_running {g : Grp} {c : Cmd} (hposted : c.posted = false) (haccepted : c.accepted = false) (hmirr : c.mirr = false)
    (hstalled : (s.group g).causes.stalled = false) (hmirror : s.mirrors = false) :
    s.takeCmd g c = (s.onGroup g (tagTaken · c.tag)).onGroup g fun x => { x with taken := x.taken ++ [c] } := by
  unfold State.takeCmd
  extract_lets u d v now w
  have hu : u = s.onGroup g (tagTaken · c.tag) := rfl
  have hd : d = c := by
    have hmirror' : u.mirrors = false := hmirror
    simp only [d, hmirror', Bool.and_false]
    exact withMirr_of_not hmirr
  have hv : v = u := by
    simp only [v, hd, hmirr, if_neg Bool.false_ne_true]
  have hnow : now = false := by
    have hcauses := congrArg Prod.fst (tagTaken_core (s.group g) c.tag)
    have hstalled' : (u.group g).causes.stalled = false := by
      rw [hu, group_onGroup]
      exact (congrArg Causes.stalled hcauses).trans hstalled
    simp only [now, hd, hposted, hv, hstalled', Bool.or_self]
  have hw : w = u := by
    simp only [w, hd, haccepted, hnow, hv, if_neg Bool.false_ne_true]
  rw [hw, hd, hnow, haccepted, Bool.or_self, withAccepted_of_not haccepted, hu]

/-- A command of a group with its tag in place is taken, when none is held back. -/
theorem admitPacket_inPlace {src : Src} {addr port : Nat} {p : List Byte} {g : Grp} (hsrc : src ≠ .clear) (hgroup : u8 p 6 = g.1)
    (hposted : bit (u8 p 1) 0 = false) (hholder : (s.group g).holder = .src src) (hrole : s.twin.role ≠ .shadow)
    (hstalled : (s.group g).causes.stalled = false) (hheld : (s.group g).held = []) (hroom : (s.group g).outstanding < 64)
    (htag : u16 p 4 = (s.group g).expected) (hmirror : s.mirrors = false) :
    s.admitPacket src addr port p =
      (((s.onCmd fun c => { c with nextId := s.cmd.nextId + 1 }).onGroup g (tagTaken · (u16 p 4))).onGroup g fun x =>
        { x with taken := x.taken ++ [carried s src addr port p (some g)] }) := by
  have hg := g.2
  have hgb : u8 p 6 ≠ 0xFF := by omega
  have hlow : u8 p 6 < 16 := by omega
  generalize hu : (s.onCmd fun c => { c with nextId := s.cmd.nextId + 1 }) = u
  have hsame : u.group g = s.group g ∧ u.twin = s.twin ∧ u.mirrors = false := by
    rw [← hu]
    exact ⟨rfl, rfl, hmirror⟩
  obtain ⟨hug, hutwin, humirror⟩ := hsame
  have hgrp : (⟨u8 p 6, hlow⟩ : Grp) = g := Fin.ext hgroup
  have hd : (u16 p 4 + 65536 - (s.group g).expected) % 65536 = 0 := by omega
  have hclear : ¬ (src = .clear ∧ u8 p 6 ≠ 0xFF) := fun h => hsrc h.1
  have hgroups : ¬ (u8 p 6 ≠ 0xFF ∧ 16 ≤ u8 p 6) := by omega
  have hfull : ¬ 64 ≤ (s.group g).outstanding := by omega
  have htaken := takeCmd_running (s := u) (g := g) (c := carried s src addr port p (some g)) hposted rfl rfl (by rw [hug]; exact hstalled) humirror
  simp only [State.admitPacket, hu, if_neg hclear, if_neg hgroups, dif_pos hlow, hgrp, hug, hutwin, hholder, hrole, decide_true, decide_false,
    Bool.not_true, Bool.false_and, reduceCtorEq, if_false, hd, if_true, if_neg hfull]
  refine (congrArg (State.takeHeld g 64) htaken).trans (takeHeld_none 64 ?_)
  rw [group_onGroup, group_onGroup, hug]
  exact (congrArg (fun k : Causes × List Cmd × List Cmd × List Cmd => k.2.2.2) (tagTaken_core (s.group g) _)).trans hheld

/-! ## What the end of a command leaves of the groups (R283, R287) -/

/-- Each group keeps its causes and its lists of commands, or is reset with its holder's session. -/
structure GroupsCalm (s t : State) : Prop where
  group : ∀ g, groupCore (t.group g) = groupCore (s.group g) ∨ groupCore (t.group g) = groupCore Group.reset

theorem GroupsCalm.of_cmd (h : t.cmd.groups = s.cmd.groups) : GroupsCalm s t :=
  ⟨fun g => .inl (congrArg (fun k : Tab Group 16 => groupCore (k.get g)) h)⟩

theorem GroupsCalm.refl (s : State) : GroupsCalm s s := .of_cmd rfl

theorem GroupsCalm.trans (h : GroupsCalm s t) (k : GroupsCalm t u) : GroupsCalm s u := by
  refine ⟨fun g => ?_⟩
  rcases k.group g with hk | hk
  · rw [hk]
    exact h.group g
  · exact .inr hk

theorem GroupsCalm.of_keeps {m : List Part} (h : Keeps m s t) (hm : .cmd ∉ m) : GroupsCalm s t :=
  .of_cmd (congrArg Commands.groups (cmd_of_keeps h hm))

theorem GroupsCalm.ite {p : Prop} [Decidable p] (h : GroupsCalm s t) (k : GroupsCalm s u) : GroupsCalm s (if p then t else u) := by
  split
  · exact h
  · exact k

theorem onGroup_calm (s : State) (g : Grp) {f : Group → Group} (hf : ∀ x, groupCore (f x) = groupCore x) : GroupsCalm s (s.onGroup g f) := by
  refine ⟨fun h => ?_⟩
  by_cases hg : h = g
  · rw [hg, group_onGroup]
    exact .inl (hf _)
  · rw [group_onGroup_ne _ _ hg]
    exact .inl rfl

theorem noteReply_core (x : Group) (tag status flags : Nat) (p : List Byte) : groupCore (x.noteReply tag status flags p) = groupCore x := by
  unfold Group.noteReply
  split
  · rfl
  · split
    · exact cacheReply_core ..
    · split <;> rfl

@[simp] theorem group_record (s : State) (code source p0 p1 p2 : Nat) (g : Grp) : (s.record code source p0 p1 p2).group g = s.group g := rfl

/-- A session that closes resets the groups it held, or leaves them to its key. -/
theorem closeSession_group {k : Fin 4} {x : Session} (hx : s.cmd.sessions.get k = some x) (cause : Nat) (g : Grp) :
    (s.closeSession k cause).group g = if (s.group g).holder = .src (.session k) then
      (if cause = 3 then { s.group g with holder := .keyId x.keyId } else Group.reset) else s.group g := by
  unfold State.closeSession
  rw [hx]
  dsimp only
  generalize hv : (s.farGone _ _ _).withdraw _ = v
  have hcmd : v.cmd = s.cmd := by
    rw [← hv]
    exact cmd_of_keeps (m := [.sw, .drv, .fld, .far]) (withdraw_keeps (by decide) (farGone_keeps (by decide) (keeps_refl _ s))) (by decide)
  rw [group_record]
  simp only [State.group, onCmd_cmd, Tab.get_mapIdx, hcmd] <;> rfl

theorem closeSession_calm (s : State) (k : Fin 4) (cause : Nat) : GroupsCalm s (s.closeSession k cause) := by
  cases hx : s.cmd.sessions.get k with
  | none =>
    have hsame : s.closeSession k cause = s := by rw [State.closeSession, hx]
    rw [hsame]
    exact .refl s
  | some x =>
    refine ⟨fun g => ?_⟩
    rw [closeSession_group hx]
    split
    · split
      · exact .inl rfl
      · exact .inr rfl
    · exact .inl rfl

theorem closeSession_session (s : State) (k : Fin 4) (cause : Nat) : (s.closeSession k cause).cmd.sessions.get k = none := by
  unfold State.closeSession
  split
  next h => exact h
  · exact Tab.get_put_self ..

theorem sendPacket_calm (s : State) (src : Src) (a b c d : Nat) (l : List Byte) : GroupsCalm s (s.sendPacket src a b c d l) := by
  unfold State.sendPacket
  split
  · exact .of_keeps (sendCan_keeps (m := [.can]) (by decide) (keeps_refl _ s)) (by decide)
  · exact .of_keeps (sendUdp_keeps (m := [.out]) (by decide) (keeps_refl _ s)) (by decide)
  next k =>
    split
    · exact .refl s
    next x hx =>
      extract_lets seq hdr v w
      have hv : GroupsCalm s v := .of_keeps (sendUdp_keeps (m := [.out]) (by decide) (keeps_refl _ s)) (by decide)
      have hw : GroupsCalm v w := .of_cmd rfl
      exact .ite ((hv.trans hw).trans (closeSession_calm w k 2)) (hv.trans hw)

theorem sendOrHold_calm (s : State) (mirrored : Bool) (src : Src) (id a b c d : Nat) (p : List Byte) :
    GroupsCalm s (s.sendOrHold mirrored src id a b c d p) := by
  unfold State.sendOrHold
  exact .ite (.refl s) (.ite (.of_keeps (onTwin_keeps (m := [.twin]) (by decide) (keeps_refl _ s)) (by decide)) (sendPacket_calm ..))

theorem replyWith_calm (s : State) (c : Cmd) (flags : Nat) (st : Status) (b : List Byte) (final last : Bool) :
    GroupsCalm s (s.replyWith c flags st b final last) := by
  have hdone (p : List Byte) : GroupsCalm s (s.doneStage c st st.stalls p) :=
    .of_keeps (doneStage_keeps (m := [.out, .twin]) (by decide) (keeps_refl _ s)) (by decide)
  unfold State.replyWith
  extract_lets p v addr w
  have hv : GroupsCalm s v := .ite (hdone p) (.refl s)
  have hw : GroupsCalm s w := hv.trans (sendOrHold_calm ..)
  cases c.group with
  | none => exact hw
  | some g => exact hw.trans (onGroup_calm w g fun x => noteReply_core x ..)

theorem replyEnd_calm (s : State) (c : Cmd) (st : Status) (b : List Byte) : GroupsCalm s (s.replyEnd c st b) :=
  .ite (replyWith_calm ..) (replyWith_calm ..)

/-- A command that completes well stalls nothing. -/
theorem complete_ok_calm (s : State) (c : Cmd) (b : List Byte) : GroupsCalm s (s.complete c .ok b) := by
  unfold State.complete
  cases c.group with
  | none =>
    have hexec : GroupsCalm s (s.onSource c.src.idx fun q => { q with exec := none }) := .of_cmd rfl
    exact hexec.trans (replyEnd_calm ..)
  | some g =>
    dsimp only
    generalize hu : s.onGroup g _ = u
    have hdropped : GroupsCalm s u := by
      rw [← hu]
      exact onGroup_calm s g fun _ => rfl
    have hend (p : List Byte) : GroupsCalm u (u.doneStage c .ok false p) :=
      .of_keeps (doneStage_keeps (m := [.out, .twin]) (by decide) (keeps_refl _ u)) (by decide)
    rw [if_neg (by decide)]
    refine hdropped.trans (.ite (replyEnd_calm ..) ?_)
    rw [if_neg (by decide), if_neg (by decide)]
    exact hend []

/-! ## Commands begun, resumed and aborted (R279, R287, R288) -/

theorem setExec_begun_group {c : Cmd} {g : Grp} (hgroup : c.group = some g) (hstage : c.stage = .service) :
    (s.setExec c).begun (.group g) = some c := by
  have hexec : ((s.setExec c).group g).exec = some c := by rw [State.setExec, hgroup, group_onGroup]
  rw [State.begun, hexec, Option.filter_some, hstage]
  rfl

theorem setExec_begun_ungrouped {c : Cmd} (hgroup : c.group = none) (hstage : c.stage = .service) :
    (s.setExec c).begun (.ungrouped c.src.idx) = some c := by
  have hexec : ((s.setExec c).cmd.sources.get c.src.idx).exec = some c := by
    rw [State.setExec, hgroup]
    exact congrArg Source.exec (Tab.get_upd_self ..)
  rw [State.begun, hexec, Option.filter_some, hstage]
  rfl

/-- A command that no mirror takes part in and no check refuses is begun. -/
theorem beginCmd_plain {c : Cmd} (hmirror : s.mirrors = false) (hcheck : c.check = none) :
    s.beginCmd c = s.setExec { c with stage := .service } := by
  have hcheck' : Cmd.check { c with stage := .service } = none := hcheck
  have hstart : s.startCmd c = s.setExec { c with stage := .service } := by
    simp only [State.startCmd, hcheck']
  unfold State.beginCmd
  split
  · exact hstart
  · rw [if_neg fun h => Bool.false_ne_true (hmirror.symm.trans h)]
    exact hstart

theorem opCommandBegin_group {g : Grp} {c : Cmd} {rest : List Cmd} (hserving : s.cmd.serving = true) (htaken : (s.group g).taken = c :: rest)
    (hstalled : (s.group g).causes.stalled = false) (hexec : (s.group g).exec = none) (hfence : c.fence = true → (s.group g).handed = [])
    (hhandover : s.handoverHolds = false) (hmirror : s.mirrors = false) (hcheck : c.check = none) :
    opCommandBegin (.group g) s = (s.onGroup g fun x => { x with taken := rest }).setExec { c with stage := .service } := by
  have hfence' : (c.fence && !(s.group g).handed.isEmpty) = false := by
    cases hf : c.fence with
    | false => rfl
    | true => simp [hfence hf]
  simp only [opCommandBegin, hserving, Bool.not_true, if_neg Bool.false_ne_true, htaken, hstalled, hexec, Option.isSome_none, hfence', hhandover,
    Bool.or_self]
  exact beginCmd_plain hmirror hcheck

theorem opCommandBegin_ungrouped {i : Fin 6} {c : Cmd} {rest : List Cmd} (hserving : s.cmd.serving = true)
    (hwaiting : (s.cmd.sources.get i).waiting = c :: rest) (hexec : (s.cmd.sources.get i).exec = none) (hmirror : s.mirrors = false)
    (hcheck : c.check = none) :
    opCommandBegin (.ungrouped i) s = (s.onSource i fun q => { q with waiting := rest }).setExec { c with stage := .service } := by
  simp only [opCommandBegin, hserving, Bool.not_true, if_neg Bool.false_ne_true, hwaiting, hexec, Option.isSome_none]
  exact beginCmd_plain hmirror hcheck

/-- The group runs again: no cause stalls it and no failed command waits. -/
theorem GroupsCalm.resumed (h : GroupsCalm s t) {g : Grp} (hcauses : (s.group g).causes = Causes.none) (hfailed : (s.group g).failed = []) :
    (t.group g).causes = Causes.none ∧ (t.group g).failed = [] := by
  have hs : (groupCore (s.group g)).1 = Causes.none ∧ (groupCore (s.group g)).2.1 = [] := ⟨hcauses, hfailed⟩
  rcases h.group g with hc | hc
  · rw [← hc] at hs
    exact hs
  · have hr : (groupCore (t.group g)).1 = Causes.none ∧ (groupCore (t.group g)).2.1 = [] := by
      rw [hc]
      exact ⟨rfl, rfl⟩
    exact hr

/-- A group without commands stays without them. -/
theorem GroupsCalm.emptied (h : GroupsCalm s t) {g : Grp} (htaken : (s.group g).taken = []) (hheld : (s.group g).held = []) :
    (t.group g).taken = [] ∧ (t.group g).held = [] := by
  have hs : (groupCore (s.group g)).2.2.1 = [] ∧ (groupCore (s.group g)).2.2.2 = [] := ⟨htaken, hheld⟩
  rcases h.group g with hc | hc
  · rw [← hc] at hs
    exact hs
  · have hr : (groupCore (t.group g)).2.2.1 = [] ∧ (groupCore (t.group g)).2.2.2 = [] := by
      rw [hc]
      exact ⟨rfl, rfl⟩
    exact hr

theorem any_cls_eq_false {l : List FaultEntry} {k : Cls} (h : ∀ e ∈ l, e.cls ≠ k) : (l.any fun e => decide (e.cls = k)) = false := by
  rw [List.any_eq_false]
  exact fun e he => by simp [h e he]

/-- A resumed group's causes and failed commands are gone. -/
theorem opGroupResume_spec {r : CmdRef} {q : Cmd} {g : Grp} (hq : s.begun r = some q) (ho : q.opcode = 0x0E01) (hp : q.params.length = 4)
    (hzero : zeroAt q.params [1, 2, 3] = true) (hown : s.ownGroup q = .ok g)
    (hs : (s.group g).causes.clsS = true → s.flt.forceSafe = false ∧ ∀ e ∈ s.flt.queue, e.cls ≠ .S)
    (hd : (s.group g).causes.clsD = true → ∀ e ∈ s.flt.queue, e.cls ≠ .D) :
    ((opGroupResume r s).group g).causes = Causes.none ∧ ((opGroupResume r s).group g).failed = [] := by
  have hguard : ¬ (q.params.length ≠ 4 ∨ zeroAt q.params [1, 2, 3] = false) := by simp [hp, hzero]
  have hclear : (((s.group g).causes.clsS && ((s.flt.queue.any fun e => decide (e.cls = .S)) || s.flt.forceSafe)) ||
      ((s.group g).causes.clsD && s.flt.queue.any fun e => decide (e.cls = .D))) = false := by
    have hsafe : ((s.group g).causes.clsS && ((s.flt.queue.any fun e => decide (e.cls = .S)) || s.flt.forceSafe)) = false := by
      cases hc : (s.group g).causes.clsS with
      | false => rfl
      | true => rw [any_cls_eq_false (hs hc).2, (hs hc).1]; rfl
    have hdrv : ((s.group g).causes.clsD && s.flt.queue.any fun e => decide (e.cls = .D)) = false := by
      cases hc : (s.group g).causes.clsD with
      | false => rfl
      | true => rw [any_cls_eq_false (hd hc)]; rfl
    rw [hsafe, hdrv]
    rfl
  have hop : opGroupResume r s = _ := onCommand_eq hq ho _
  rw [hop]
  simp only [if_neg hguard, hown, hclear, if_neg Bool.false_ne_true]
  generalize hu : s.onGroup g _ = u
  have hres : (u.group g).causes = Causes.none ∧ (u.group g).failed = [] := by
    rw [← hu, group_onGroup]
    exact ⟨rfl, rfl⟩
  have hfar : GroupsCalm u (u.farResume g) := .of_keeps (farResume_keeps (m := [.far]) (by decide) (keeps_refl _ u)) (by decide)
  exact (hfar.trans (complete_ok_calm ..)).resumed hres.1 hres.2

/-- An aborted group has no cause, no failed command and no command that waits. -/
theorem opGroupAbort_spec {r : CmdRef} {q : Cmd} {g : Grp} (hq : s.begun r = some q) (ho : q.opcode = 0x0E02) (hp : q.params.length = 4)
    (hzero : zeroAt q.params [2, 3] = true) (hmode : u8 q.params 1 ≤ 1) (hown : s.ownGroup q = .ok g) :
    ((opGroupAbort r s).group g).causes = Causes.none ∧ ((opGroupAbort r s).group g).failed = [] ∧ ((opGroupAbort r s).group g).taken = [] ∧
      ((opGroupAbort r s).group g).held = [] := by
  have hguard : ¬ (q.params.length ≠ 4 ∨ zeroAt q.params [2, 3] = false ∨ 1 < u8 q.params 1) := by simp [hp, hzero, hmode]
  have hop : opGroupAbort r s = _ := onCommand_eq hq ho _
  rw [hop]
  simp -zeta only [if_neg hguard, hown]
  extract_lets x far back again gone nxt d u v w
  have hu : (u.group g).causes = Causes.none ∧ (u.group g).failed = [] ∧ (u.group g).taken = [] ∧ (u.group g).held = [] := by
    simp only [u, group_onGroup, and_self]
  have hgone : GroupsCalm u v := .of_keeps (farGone_keeps (m := [.far]) (by decide) (keeps_refl _ u)) (by decide)
  obtain ⟨hcauses, hfailed, htaken, hheld⟩ := hu
  obtain ⟨hvcauses, hvfailed⟩ := hgone.resumed hcauses hfailed
  obtain ⟨hvtaken, hvheld⟩ := hgone.emptied htaken hheld
  have hleft : (w.group g).causes = Causes.none ∧ (w.group g).failed = [] ∧ (w.group g).taken = [] ∧ (w.group g).held = [] := by
    unfold w
    split
    · rw [group_onGroup]
      exact ⟨rfl, rfl, rfl, rfl⟩
    · exact ⟨hvcauses, hvfailed, hvtaken, hvheld⟩
  clear_value w
  obtain ⟨hwcauses, hwfailed, hwtaken, hwheld⟩ := hleft
  have hend (b : List Byte) := complete_ok_calm w q b
  exact ⟨((hend _).resumed hwcauses hwfailed).1, ((hend _).resumed hwcauses hwfailed).2, (hend _).emptied hwtaken hwheld⟩

/-! ## Packets of a session (R280 to R282) -/

theorem receiveUdp_unknown {addr port : Nat} {w p : List Byte} (hid : u32 w 0 ≠ 0) (hslot : s.cmd.slotOf (u32 w 0) = none) :
    s.receiveUdp addr port w p = s.countAuthFail := by
  rw [State.receiveUdp, if_neg hid, hslot]

/-- A good packet of an open session goes on with the session's number taken. -/
theorem receiveUdp_session {addr port : Nat} {w p : List Byte} {k : Fin 4} {x : Session} (hid : u32 w 0 ≠ 0)
    (hslot : s.cmd.slotOf (u32 w 0) = some k) (hsession : s.cmd.sessions.get k = some x) (hopens : x.opens w p = true)
    (hseq : x.seqOk (ofLe (slice w 4 8)) = true) (hlast : ofLe (slice w 4 8) < seqMax) (hok : packetOk p 1424 x.id = true) :
    s.receiveUdp addr port w p =
      (s.onCmd fun c => c.setSession k (some (x.took (ofLe (slice w 4 8)) s.now))).admitPacket (.session k) addr port p := by
  simp only [State.receiveUdp, if_neg hid, hslot, hsession, hopens, hseq, Bool.not_true, Bool.or_self, if_neg Bool.false_ne_true, hok, if_true,
    if_neg (Nat.not_le.mpr hlast)]

/-- Settles O35: packets are counted, admitted or refused; commands are begun, groups resumed and aborted, and sessions closed. -/
theorem packetCommandsComplete : Obligations.PacketCommandsComplete := by
  unfold Obligations.PacketCommandsComplete
  refine ⟨?full, ?bad, ?unknown, ?port, ?can, ?udp, ?group, ?ungrouped, ?timeout, ?close, ?ping, ?fence, ?resume, ?abort, ?info, ?state⟩
  case full =>
    exact fun s via p hserving hfull => ⟨_, congrArg Host.Outcome.next (receivePacket_full hserving hfull), rfl⟩
  case bad =>
    intro s p hserving hroom hen hbad
    refine ⟨_, congrArg Host.Outcome.next (receivePacket_can hserving hroom hen), ?_⟩
    rw [hbad, if_neg Bool.false_ne_true, State.countCrcFail, onCmd_cmd, arrived_cmd]
  case unknown =>
    intro s addr port w p hserving hroom hwrap hid hslot
    have hslot' : (arrived s).cmd.slotOf (u32 w 0) = none := by
      rw [arrived_cmd]
      exact hslot
    refine ⟨_, congrArg Host.Outcome.next (receivePacket_udp hserving hroom hwrap), ?_⟩
    rw [receiveUdp_unknown hid hslot', State.countAuthFail, onCmd_cmd, arrived_cmd]
  case port =>
    exact fun s addr port to_ w p hserving hroom hcmd hnote => congrArg Host.Outcome.next (receivePacket_otherPort hserving hroom hcmd hnote)
  case can =>
    intro s p hserving hroom hen hok hgroup hrole hmirror
    have htwin := arrived_twin s
    have hmirror' : (arrived s).mirrors = false := (mirrors_of_twin htwin).trans hmirror
    have hrole' : (arrived s).twin.role ≠ .shadow := by
      rw [htwin]
      exact hrole
    refine ⟨_, carried (arrived s) .can 0 0 p none, congrArg Host.Outcome.next (receivePacket_can hserving hroom hen), ?_, rfl, rfl, rfl, rfl, rfl, ?_⟩
    · rw [take_of_packetOk hok, hok, if_pos rfl, admitPacket_ungrouped hgroup hrole' hmirror']
      refine (congrArg Source.waiting (Tab.get_upd_self ..)).trans ?_
      exact congrArg (fun k : Tab Source 6 => (k.get 4).waiting ++ [carried (arrived s) .can 0 0 p none]) (arrived_sources s)
    · exact arrived_nextId s
  case udp =>
    intro s addr port w p k x g hserving hroom hwrap hid hslot hsession hopens hseq hlast hok hgroup hposted hholder hrole hstalled hheld hlen htag
      hmirror
    have hslot' : (arrived s).cmd.slotOf (u32 w 0) = some k := by
      rw [Commands.slotOf, arrived_sessions]
      exact hslot
    have hsession' : (arrived s).cmd.sessions.get k = some x := by
      rw [arrived_sessions]
      exact hsession
    have hop := (receivePacket_udp (addr := addr) (port := port) (p := p) hserving hroom hwrap).trans
      (receiveUdp_session hid hslot' hsession' hopens hseq hlast hok)
    generalize hu : (arrived s).onCmd _ = u at hop
    have hkept : u.group g = s.group g ∧ u.twin = s.twin ∧ u.cmd.sessions.get k = some (x.took (ofLe (slice w 4 8)) s.now) := by
      rw [← hu, arrived_now]
      refine ⟨congrArg (fun t : Tab Group 16 => t.get g) (arrived_groups s), arrived_twin s, Tab.get_put_self ..⟩
    obtain ⟨hug, hutwin, husession⟩ := hkept
    have hadmit := admitPacket_inPlace (s := u) (src := .session k) (addr := addr) (port := port) (p := p) (g := g) Src.noConfusion hgroup hposted
      (by rw [hug]; exact hholder) (by rw [hutwin]; exact hrole) (by rw [hug]; exact hstalled) (by rw [hug]; exact hheld) (by rw [hug]; exact hlen)
      (by rw [hug]; exact htag) ((mirrors_of_twin hutwin).trans hmirror)
    refine ⟨_, carried u (.session k) addr port p (some g), congrArg Host.Outcome.next (hop.trans hadmit), ?_, ?_, husession, rfl, rfl, rfl, rfl, rfl⟩
    · rw [group_onGroup, group_onGroup]
      exact congrArg (· ++ [_]) ((congrArg (fun c : Causes × List Cmd × List Cmd × List Cmd => c.2.2.1) (tagTaken_core (u.group g) _)).trans
        (congrArg Group.taken hug))
    · rw [group_onGroup, group_onGroup, htag]
      exact congrArg (fun x : Group => (x.expected + 1) % 65536) hug
  case group =>
    intro s g c rest hserving htaken hstalled hexec hfence hhandover hmirror hgroup hcheck
    refine ⟨_, congrArg Host.Outcome.next (opCommandBegin_group hserving htaken hstalled hexec hfence hhandover hmirror hcheck), ?_,
      setExec_begun_group hgroup rfl⟩
    rw [State.setExec]
    dsimp only
    rw [hgroup]
    dsimp only
    rw [group_onGroup, group_onGroup]
  case ungrouped =>
    intro s i c rest hserving hwaiting hexec hmirror hgroup hsrc hcheck
    subst hsrc
    refine ⟨_, congrArg Host.Outcome.next (opCommandBegin_ungrouped hserving hwaiting hexec hmirror hcheck), ?_,
      setExec_begun_ungrouped (c := { c with stage := .service }) hgroup rfl⟩
    rw [State.setExec]
    dsimp only
    rw [hgroup]
    dsimp only
    refine (congrArg Source.waiting (Tab.get_upd_self ..)).trans ?_
    exact congrArg Source.waiting (Tab.get_upd_self ..)
  case timeout =>
    intro s k x hx hlong
    have hcmd : s.endIdle.cmd = s.cmd := cmd_of_keeps (endIdle_keeps (m := [.pwr, .flt]) (by decide) (keeps_refl _ s)) (by decide)
    have hx' : s.endIdle.cmd.sessions.get k = some x := by
      rw [hcmd]
      exact hx
    have hop : opSessionTimeout k s = s.endIdle.closeSession k 1 := by
      rw [opSessionTimeout, hx]
      exact if_neg (Nat.not_lt.mpr hlong)
    refine ⟨_, congrArg Host.Outcome.next hop, closeSession_session .., fun g hg => ?_⟩
    have hg' : (s.endIdle.group g).holder = .src (.session k) := by
      rw [State.group, hcmd]
      exact hg
    rw [closeSession_group hx', if_pos hg', if_neg (by decide)]
    rfl
  case close =>
    intro s r q k hq ho hp hsrc
    have hop : opSessionClose r s = (s.complete q .ok []).closeSession k 0 := by
      refine (onCommand_eq hq ho _).trans ?_
      simp only [hp, List.length_nil, ne_eq, not_true_eq_false, if_false, hsrc]
    exact ⟨_, congrArg Host.Outcome.next hop, closeSession_session ..⟩
  case ping =>
    intro s r q hq ho hp
    exact congrArg Host.Outcome.next ((onCommand_eq hq ho _).trans (if_neg (Nat.not_lt.mpr hp)))
  case fence =>
    intro s r q g hq ho hp hgroup hhanded
    refine congrArg Host.Outcome.next ((onCommand_eq hq ho _).trans ?_)
    simp only [hp, List.length_nil, ne_eq, not_true_eq_false, if_false, hgroup, hhanded, List.isEmpty_nil, if_true]
  case resume =>
    exact fun s r q g hq ho hp hzero hown hs hd => ⟨_, rfl, opGroupResume_spec hq ho hp hzero hown hs hd⟩
  case abort =>
    exact fun s r q g hq ho hp hzero hmode hown => ⟨_, rfl, opGroupAbort_spec hq ho hp hzero hmode hown⟩
  case info =>
    intro s r q hq ho hp
    refine congrArg Host.Outcome.next ((onCommand_eq hq ho _).trans ?_)
    rw [hp]
    exact if_neg (by decide)
  case state =>
    intro s r q hq ho hp
    refine congrArg Host.Outcome.next ((onCommand_eq hq ho _).trans ?_)
    rw [hp]
    exact if_neg (by decide)

end Sys2Proof.PacketProofs

/-! The frames of the twin link (spec/15): the link's state, pairing and attestation. -/

namespace Sys2Proof.TwinFrameProofs

open Sys2Proof Sys2Proof.Machine Sys2Proof.Laws Sys2Proof.ReplyProofs Sys2Proof.CommandProofs Sys2Proof.TwinProofs Sys2Proof.WeftCommandProofs

variable {s t u : State} {m : List Part}

/-! ## Rules of the operations -/

/-- A good frame of the type awaited is taken. -/
theorem twinTake_of_frame {typ : Nat} {f : List Byte} (hlink : s.twin.linkUp = true) (hrun : s.clk.i8Run = true)
    (hok : s.twin.frameOk f = true) (htyp : u8 f 0 = typ) :
    s.twinTake typ f = (some (slice f 12 (u16 f 2)), s.onTwin fun k => { k with heardAt := s.now, released := false }) := by
  simp only [State.twinTake, hrun, hok, hlink, htyp, Bool.not_true, Bool.false_eq_true, ne_eq, not_true_eq_false, if_false]

/-- What an answer leaves of the twin: all but its frames; and unless the mirror takes part, the frames that wait for an ACK too. -/
structure LinkKept (s t : State) : Prop where
  rest : TwinReplied s t
  fly : s.mirrors = false → t.twin.fly = s.twin.fly

namespace LinkKept

theorem field {α : Type} (h : LinkKept s t) (f : Twin → α) (hf : ∀ x, f (restTwin x) = f x) : f t.twin = f s.twin := h.rest.field f hf

theorem mirrors (h : LinkKept s t) : t.mirrors = s.mirrors := by
  have hrole := h.field Twin.role fun _ => rfl
  have hpair := h.field Twin.pair fun _ => rfl
  have hhanded := h.field Twin.handedOver fun _ => rfl
  simp only [State.mirrors, hrole, hpair, hhanded]

theorem refl (s : State) : LinkKept s s := ⟨rfl, fun _ => rfl⟩

theorem trans (h : LinkKept s t) (k : LinkKept t u) : LinkKept s u :=
  ⟨h.rest.trans k.rest, fun hm => (k.fly (h.mirrors.trans hm)).trans (h.fly hm)⟩

theorem of_said (h : Said s t) (k : TwinReplied s t) : LinkKept s t := ⟨k, fun hm => congrArg Twin.fly (h.twin hm)⟩

theorem of_keeps (h : Keeps m s t) (hm : .twin ∉ m) : LinkKept s t :=
  ⟨.of_keeps h hm, fun _ => congrArg Twin.fly (h.only.same .twin hm)⟩

theorem ite {p : Prop} [Decidable p] (h : LinkKept s t) (k : LinkKept s u) : LinkKept s (if p then t else u) := by
  split
  · exact h
  · exact k

theorem forEach {α : Type} {f : α → State → State} (hf : ∀ x t, LinkKept t (f x t)) (h : LinkKept s t) (l : List α) :
    LinkKept s (t.forEach l f) := by
  induction l generalizing t with
  | nil => exact h
  | cons x l ih => exact ih (h.trans (hf x t))

end LinkKept

theorem complete_linkKept (s : State) (c : Cmd) (st : Status) (b : List Byte) : LinkKept s (s.complete c st b) :=
  .of_said (complete_said ..) (complete_replied s c st b 0).twin

theorem completeId_linkKept (s : State) (id : Nat) (st : Status) (b : List Byte) : LinkKept s (s.completeId id st b) :=
  .of_said (completeId_said ..) (completeId_replied s id st b 0).twin

theorem onGroup_linkKept (s : State) (g : Grp) (f : Group → Group) : LinkKept s (s.onGroup g f) :=
  .of_said (onGroup_said ..) (onGroup_replied ..).twin

theorem onSource_linkKept (s : State) (i : Fin 6) (f : Source → Source) : LinkKept s (s.onSource i f) := ⟨rfl, fun _ => rfl⟩

theorem endOpen_linkKept (s : State) (c : Cmd) (st : Status) : LinkKept s (s.endOpen c st) := by
  have hrefuse : LinkKept s s.refuseOpen :=
    .of_keeps (m := [.free, .rcd]) (record_keeps (by decide) (draw_keeps (by decide) (keeps_refl _ s))) (by decide)
  have hend (d : Cmd) (t : State) : LinkKept t (t.replyEnd d st []) := .of_said (replyEnd_said ..) (replyEnd_replied ..).twin
  have hfail (g : Grp) (t : State) : LinkKept t (t.failGroup g c) := .of_said (failGroup_said ..) (failGroup_replied ..).twin
  unfold State.endOpen
  extract_lets clear
  cases c.group with
  | none => exact (hrefuse.trans (onSource_linkKept s.refuseOpen c.src.idx _)).trans (hend clear _)
  | some g => exact ((hrefuse.trans (onGroup_linkKept s.refuseOpen g _)).trans (hend clear _)).trans (hfail g _)

theorem startCmd_linkKept (s : State) (c : Cmd) : LinkKept s (s.startCmd c) := by
  have hexec (d : Cmd) : LinkKept s (s.setExec d) := by
    unfold State.setExec
    cases d.group with
    | none => exact onSource_linkKept ..
    | some g => exact onGroup_linkKept ..
  unfold State.startCmd
  extract_lets d u
  have hu : LinkKept s u := hexec d
  cases d.check with
  | none => exact hu
  | some st => exact .ite (hu.trans (endOpen_linkKept ..)) (hu.trans (complete_linkKept ..))

theorem startAcked_linkKept (s : State) : LinkKept s s.startAcked := by
  unfold State.startAcked
  exact LinkKept.forEach (fun c t => startCmd_linkKept t c) (.refl s) _

theorem flushHeld_linkKept (s : State) : LinkKept s s.flushHeld := by
  unfold State.flushHeld
  extract_lets go l u
  have hu : LinkKept s u := ⟨rfl, fun _ => rfl⟩
  have hsend (h : HeldPacket) (t : State) :
      LinkKept t (if t.reaches h.src h.id then t.sendPacket h.src h.from_ h.addr h.port h.canId h.packet else t) :=
    .ite (.of_said (sendPacket_said ..) (sendPacket_replied ..).twin) (.refl t)
  exact LinkKept.forEach hsend hu l

/-- Packets and commands that waited for the mirror go on. -/
theorem released_linkKept (s : State) : LinkKept s s.flushHeld.startAcked := (flushHeld_linkKept s).trans (startAcked_linkKept _)

/-! ## The link's state (R397, R398, R405) -/

/-- The twin with the link gone. -/
def goneTwin (k : Twin) (now : Nat) (detached : Bool) : Twin :=
  { k with linkUp := false, valid := 0, fly := [], hello := none, attested := false, weftRx := none, retryAt := none, lockAt := none, weftWait := [],
           handover := k.handover.filter fun h => h.gone, words := [], wordsLost := 0, later := []
           pair := match k.pair with
             | .paired => if k.role = .lead && detached then .lone else .broken
             | .pairing => if k.driven then .lone else .waiting
             | p => p
           waitFrom := if k.pair = .pairing ∧ k.driven = false then now else k.waitFrom }

theorem goneTwin_pair (k : Twin) (now : Nat) (detached : Bool) :
    (goneTwin k now detached).pair ≠ .paired ∧
      (k.pair = .paired → (goneTwin k now detached).pair = if k.role = .lead ∧ detached = true then .lone else .broken) := by
  unfold goneTwin
  cases hpair : k.pair with
  | paired =>
    dsimp only
    by_cases h : k.role = .lead ∧ detached = true
    · obtain ⟨hrole, rfl⟩ := h
      simp [hrole]
    · have hno : (decide (k.role = .lead) && detached) = false := by
        rw [Bool.and_eq_false_iff, decide_eq_false_iff_not, ← Bool.not_eq_true, ← not_and_or]
        exact h
      simp only [hno, if_neg h, if_neg Bool.false_ne_true, forall_const, and_true]
      exact PairState.noConfusion
  | pairing =>
    dsimp only
    exact ⟨by split <;> exact PairState.noConfusion, PairState.noConfusion⟩
  | _ => exact ⟨PairState.noConfusion, PairState.noConfusion⟩

/-- The link is gone: no frame waits, and the pair is lone, broken or waits for a partner. -/
theorem linkGone_spec (s : State) (detached : Bool) :
    (s.linkGone detached).twin.linkUp = false ∧ (s.linkGone detached).twin.fly = [] ∧
      (s.twin.pair = .paired → (s.linkGone detached).twin.pair = if s.twin.role = .lead ∧ detached = true then .lone else .broken) := by
  obtain ⟨hbroken, hlone⟩ := goneTwin_pair s.twin s.now detached
  unfold State.linkGone
  extract_lets t now u v w y
  have hu : u.twin = goneTwin s.twin s.now detached := rfl
  have hv : LinkKept u v := by
    refine .ite (.ite ⟨rfl, fun _ => rfl⟩ ?_) (.refl u)
    exact .of_keeps (fault_keeps (m := [.rcd, .flt]) (by decide) (keeps_refl _ u)) (by decide)
  have hw : LinkKept v w := LinkKept.forEach (fun x z => completeId_linkKept ..) (.refl v) t.weftWait
  have hy : LinkKept w y := by
    unfold y
    split
    · split
      · exact .ite (.refl w) (completeId_linkKept ..)
      · exact .refl w
    · exact .refl w
  clear_value u v w y
  have hmirror : u.mirrors = false := by
    rw [State.mirrors, hu, decide_eq_false hbroken, Bool.and_false, Bool.false_and]
  have hkept := ((hv.trans hw).trans hy).trans (released_linkKept y)
  have hlink : u.twin.linkUp = false := by rw [hu]; rfl
  have hfly : u.twin.fly = [] := by rw [hu]; rfl
  refine ⟨(hkept.field Twin.linkUp fun _ => rfl).trans hlink, (hkept.fly hmirror).trans hfly, fun h => ?_⟩
  exact (hkept.field Twin.pair fun _ => rfl).trans ((congrArg Twin.pair hu).trans (hlone h))

theorem opTwinLinkDown_spec {detached : Bool} (hlink : s.twin.linkUp = true) (hgone : 3000 ≤ s.since s.twin.heardAt ∨ s.beatsMissed = true) :
    opTwinLinkDown detached s = s.linkGone detached := by
  unfold opTwinLinkDown
  refine if_neg ?_
  rw [hlink, Bool.not_true, Bool.false_or, Bool.and_eq_true, decide_eq_true_eq, Bool.not_eq_true']
  rintro ⟨hshort, hbeats⟩
  rcases hgone with hlong | hmissed
  · exact absurd hlong (Nat.not_le.mpr hshort)
  · exact Bool.false_ne_true (hbeats.symm.trans hmissed)

theorem opTwinRetransmit_spec {seq : Nat} {x : TwinFly} (hfly : (s.twin.fly.find? fun x => x.seq == seq) = some x) (hdue : 50 ≤ s.since x.sentAt)
    (hmore : x.repeats < 3) :
    opTwinRetransmit seq s = (s.send (.twin (twinBytes x.typ true x.epoch x.seq x.payload))).onTwin fun k =>
      { k with fly := k.fly.map fun y => if y.seq = seq then { y with sentAt := s.now, repeats := y.repeats + 1 } else y } := by
  unfold opTwinRetransmit
  rw [hfly]
  dsimp only
  rw [if_neg (Nat.not_lt.mpr hdue), if_neg (Nat.not_le.mpr hmore)]

theorem pair_of_mirrors (h : s.mirrors = true) : s.twin.role = .lead ∧ s.twin.pair = .paired := by
  simp only [State.mirrors, Bool.and_eq_true, decide_eq_true_eq] at h
  exact h.1

theorem opMirrorAckTimeout_spec (hmirror : s.mirrors = true) (hlate : ∃ x ∈ s.twin.fly, x.msn.isSome = true ∧ 3000 ≤ s.since x.firstAt) :
    opMirrorAckTimeout s = s.linkGone false := by
  unfold opMirrorAckTimeout
  refine if_pos ?_
  obtain ⟨x, hx, hmsn, hold⟩ := hlate
  rw [hmirror, Bool.true_and, List.any_eq_true]
  exact ⟨x, hx, by rw [hmsn, Bool.true_and, decide_eq_true hold]⟩

/-! ## Pairing (R399 to R404) -/

/-- The pairing is begun anew; the link stays as it was. -/
theorem startPairing_twin (s : State) :
    s.startPairing.twin.pair = .pairing ∧ s.startPairing.twin.hello = none ∧ s.startPairing.twin.attested = false ∧
      s.startPairing.twin.retryAt = none ∧ s.startPairing.twin.linkUp = s.twin.linkUp ∧ s.startPairing.twin.heardAt = s.twin.heardAt ∧
      s.startPairing.twin.cable = s.twin.cable := by
  unfold State.startPairing
  have hdraw : (State.drawBytes 16 s).2.twin = s.twin := (drawBytes_keeps (m := [.free]) (by decide) (keeps_refl _ s)).only.same .twin (by decide)
  generalize State.drawBytes 16 s = x at hdraw
  obtain ⟨n, v⟩ := x
  dsimp only at hdraw ⊢
  generalize hw : v.onTwin _ = w
  have hwt : w.twin.pair = .pairing ∧ w.twin.hello = none ∧ w.twin.attested = false ∧ w.twin.retryAt = none ∧ w.twin.linkUp = s.twin.linkUp ∧
      w.twin.heardAt = s.twin.heardAt ∧ w.twin.cable = s.twin.cable := by
    rw [← hw, ← hdraw]
    exact ⟨rfl, rfl, rfl, rfl, rfl, rfl, rfl⟩
  have hf (b : List Byte) := twinFrame_twin w 0x01 b true none false
  obtain ⟨hpair, hhello, hattested, hretry, hlink, hheard, hcable⟩ := hwt
  exact ⟨((hf _).field Twin.pair fun _ => rfl).trans hpair, ((hf _).field Twin.hello fun _ => rfl).trans hhello,
    ((hf _).field Twin.attested fun _ => rfl).trans hattested, ((hf _).field Twin.retryAt fun _ => rfl).trans hretry,
    ((hf _).field Twin.linkUp fun _ => rfl).trans hlink, ((hf _).field Twin.heardAt fun _ => rfl).trans hheard,
    ((hf _).field Twin.cable fun _ => rfl).trans hcable⟩

theorem opTwinLinkUp_spec (hlink : s.twin.linkUp = false) (hrun : s.clk.i8Run = true) (hvalid : 3 ≤ s.twin.valid) :
    (opTwinLinkUp s).twin.linkUp = true ∧ (opTwinLinkUp s).twin.heardAt = s.now ∧ (opTwinLinkUp s).twin.cable = true ∧
      (s.twin.en = true → s.twin.pair ≠ .paired → s.twin.holdEnd = none → (opTwinLinkUp s).twin.pair = .pairing ∧
        (opTwinLinkUp s).twin.hello = none ∧ (opTwinLinkUp s).twin.attested = false) := by
  have hop : opTwinLinkUp s =
      let u := s.onTwin fun k => { k with linkUp := true, heardAt := s.now, released := false, cable := true, valid := 0 }
      if u.mayPair then u.startPairing else u := by
    simp only [opTwinLinkUp, hlink, hrun, Bool.not_true, decide_eq_false (Nat.not_lt.mpr hvalid), Bool.or_self, if_neg Bool.false_ne_true]
  rw [hop]
  extract_lets u
  have hu : u.twin.linkUp = true ∧ u.twin.heardAt = s.now ∧ u.twin.cable = true ∧
      (s.twin.en = true → s.twin.pair ≠ .paired → s.twin.holdEnd = none → u.mayPair = true) := by
    refine ⟨rfl, rfl, rfl, fun hen hpair hhold => ?_⟩
    simp only [State.mayPair, u, onTwin_twin, hen, hpair, hhold, ne_eq, not_false_eq_true, decide_true, Option.isNone_none, Bool.and_self]
  clear_value u
  obtain ⟨hulink, huheard, hucable, humay⟩ := hu
  obtain ⟨hpair, hhello, hattested, -, hslink, hsheard, hscable⟩ := startPairing_twin u
  split
  next hmay =>
    exact ⟨hslink.trans hulink, hsheard.trans huheard, hscable.trans hucable, fun _ _ _ => ⟨hpair, hhello, hattested⟩⟩
  next hmay =>
    exact ⟨hulink, huheard, hucable, fun hen hpair hhold => absurd (humay hen hpair hhold) hmay⟩

/-- The state after a frame was heard, and answered when it asked for it: the twin's times and next number have changed, and what went out. -/
structure Heard (s u : State) : Prop where
  eq : ∃ n o, u = ({ s with out := o } : State).onTwin fun t => { t with heardAt := s.now, released := false, txSeq := n }
  keeps : Keeps [.out, .twin] s u

theorem heardFrame_heard (s : State) (f : List Byte) : Heard s (heardFrame s f) :=
  ⟨heardFrame_eq s f, twinAnswer_keeps (by decide) (onTwin_keeps (by decide) (keeps_refl _ s))⟩

/-- What a frame heard has changed of the twin. -/
def heardTwin (k : Twin) (now n : Nat) : Twin := { k with heardAt := now, released := false, txSeq := n }

section
variable (h : Heard s u)
include h

theorem Heard.twin : ∃ n, u.twin = heardTwin s.twin s.now n := by
  obtain ⟨n, o, rfl⟩ := h.eq
  exact ⟨n, rfl⟩

theorem Heard.mayPair : u.mayPair = s.mayPair := by
  obtain ⟨n, o, rfl⟩ := h.eq
  rfl

theorem Heard.helloReason (x : List Byte) (y : Hello) : (u.onTwin fun t => { t with partner := x }).helloReason y = s.helloReason y := by
  obtain ⟨n, o, rfl⟩ := h.eq
  rfl

theorem Heard.becomesLead (y : Hello) : (u.onTwin fun t => { t with attested := true }).becomesLead y = s.becomesLead y := by
  obtain ⟨n, o, rfl⟩ := h.eq
  rfl

theorem Heard.now : u.now = s.now := by
  obtain ⟨n, o, rfl⟩ := h.eq
  rfl

theorem Heard.record_rcd (code source p0 p1 p2 : Nat) : (u.record code source p0 p1 p2).rcd = (s.record code source p0 p1 p2).rcd := by
  obtain ⟨n, o, rfl⟩ := h.eq
  rfl

end

/-- A pairing that is refused is recorded, and tried again in 10 s. -/
theorem refusePairing_spec (s : State) (n : Nat) :
    (s.refusePairing n).rcd = (s.record 0x6002 8 n (u32 s.twin.partner 0) 0).rcd ∧ (s.refusePairing n).twin.retryAt = some (s.now + 10000000) ∧
      (s.refusePairing n).twin.partner = s.twin.partner := ⟨rfl, rfl, rfl⟩

theorem opTwinHello_of_frame {f : List Byte} (hlink : s.twin.linkUp = true) (hrun : s.clk.i8Run = true) (hok : s.twin.frameOk f = true)
    (htyp : u8 f 0 = 0x01) {p : List Byte} (hp : p = slice f 12 (u16 f 2)) (hmay : s.mayPair = true) (hpair : s.twin.pair = .pairing)
    (hhello : s.twin.hello = none) {h : Hello}
    (hh : h = { side := u8 p 0 == 1, running := u8 p 1 == 1, proto := u16 p 2, serial := slice p 4 8, nonce := slice p 12 16,
                check := slice p 28 16 }) :
    ∃ u b, Heard s u ∧ opTwinHello f s =
      match s.helloReason h with
      | some n => (u.onTwin fun t => { t with partner := slice p 4 8 }).refusePairing n
      | none => ((u.onTwin fun t => { t with partner := slice p 4 8 }).onTwin fun t => { t with hello := some h }).twinFrame 0x02 b true none
          false := by
  have hheard := heardFrame_heard s f
  unfold opTwinHello
  rw [twinTake_of_frame hlink hrun hok htyp, ← hp]
  dsimp only
  rw [← heardFrame]
  generalize heardFrame s f = u at hheard
  obtain ⟨n, htwin⟩ := hheard.twin
  have hupair : u.twin.pair = .pairing := by
    rw [htwin]
    exact hpair
  have huhello : u.twin.hello = none := by
    rw [htwin]
    exact hhello
  simp only [hheard.mayPair, hmay, Bool.not_true, hupair, huhello, ne_eq, not_true_eq_false, Option.isSome_none,
    Bool.false_eq_true, or_self, if_false, ← hh, hheard.helloReason]
  exact ⟨u, (u.onTwin fun t => { t with partner := slice p 4 8 }).attestReply (slice p 12 16), hheard, rfl⟩

theorem opTwinHello_spec {f : List Byte} (hlink : s.twin.linkUp = true) (hrun : s.clk.i8Run = true) (hok : s.twin.frameOk f = true)
    (htyp : u8 f 0 = 0x01) {p : List Byte} (hp : p = slice f 12 (u16 f 2)) (hmay : s.mayPair = true) (hpair : s.twin.pair = .pairing)
    (hhello : s.twin.hello = none) {h : Hello}
    (hh : h = { side := u8 p 0 == 1, running := u8 p 1 == 1, proto := u16 p 2, serial := slice p 4 8, nonce := slice p 12 16,
                check := slice p 28 16 }) :
    (opTwinHello f s).twin.partner = slice p 4 8 ∧
      (match s.helloReason h with
        | none => (opTwinHello f s).twin.hello = some h ∧ (opTwinHello f s).twin.pair = .pairing
        | some n => (opTwinHello f s).rcd = (s.record 0x6002 8 n (u32 (slice p 4 8) 0) 0).rcd ∧
            (opTwinHello f s).twin.retryAt = some (s.now + 10000000)) := by
  obtain ⟨u, b, hheard, hop⟩ := opTwinHello_of_frame hlink hrun hok htyp hp hmay hpair hhello hh
  obtain ⟨n, htwin⟩ := hheard.twin
  rw [hop]
  generalize hv : (u.onTwin fun t => { t with partner := slice p 4 8 }) = v
  have hvtwin : v.twin.partner = slice p 4 8 ∧ v.twin.pair = .pairing ∧ v.now = s.now := by
    rw [← hv]
    refine ⟨rfl, ?_, hheard.now⟩
    rw [onTwin_twin, htwin]
    exact hpair
  have hrecord (k : Nat) : (v.record 0x6002 8 k (u32 (slice p 4 8) 0) 0).rcd = (s.record 0x6002 8 k (u32 (slice p 4 8) 0) 0).rcd := by
    rw [← hv]
    exact hheard.record_rcd ..
  obtain ⟨hpartner, hvpair, hnow⟩ := hvtwin
  cases s.helloReason h with
  | some k =>
    obtain ⟨hrcd, hretry, hsame⟩ := refusePairing_spec v k
    dsimp only
    rw [hrcd, hretry, hsame, hpartner, hnow]
    exact ⟨rfl, hrecord k, rfl⟩
  | none =>
    have hf := twinFrame_twin (v.onTwin fun t => { t with hello := some h }) 0x02 b true none false
    exact ⟨(hf.field Twin.partner fun _ => rfl).trans hpartner, hf.field Twin.hello fun _ => rfl,
      (hf.field Twin.pair fun _ => rfl).trans hvpair⟩

/-! ## The attestation, and who leads (R403, R404) -/

theorem sendWeftFrom_twinKept (area length off n : Nat) (p : List Byte) (s : State) : TwinKept s (State.sendWeftFrom area length off n p s) := by
  fun_induction State.sendWeftFrom area length off n p s with
  | case1 => rfl
  | case2 => rfl
  | case3 off n p s _ rest u ih => exact (twinFrame_twinKept s 0x04 _ true none rest.isEmpty).trans ih

theorem sendWeft_twinKept (s : State) (w : Weft) : TwinKept s (s.sendWeft w) := sendWeftFrom_twinKept ..

/-- The lead of the new pair: it drives the token, and goes on with the next EPOCH. -/
theorem leadPairing_twin (s : State) :
    s.leadPairing.twin.role = .lead ∧ s.leadPairing.twin.driven = true ∧ s.leadPairing.twin.agreed = true ∧
      s.leadPairing.twin.epoch = nextEpoch s.twin.epoch ∧ s.leadPairing.twin.attested = s.twin.attested := by
  obtain ⟨hrole, hdriven, -⟩ := seize_lead s .pairing
  have hattested : (s.seize .pairing).twin.attested = s.twin.attested := (seize_twinKept s .pairing).field Twin.attested fun _ => rfl
  unfold State.leadPairing
  extract_lets e u v w x first
  have hw : TwinKept v w := twinFrame_twinKept ..
  have hsend (k : Slot2) (t : State) : TwinKept t (match t.weft.store.get k with
      | some w => t.sendWeft w
      | none => t) := by
    split
    · exact sendWeft_twinKept ..
    · rfl
  have hvrole : v.twin.role = .lead := hrole
  have hvdriven : v.twin.driven = true := hdriven
  have hvattested : v.twin.attested = s.twin.attested := hattested
  have hvepoch : v.twin.epoch = e := rfl
  have hxrole : x.twin.role = .lead := hw.role.trans hvrole
  have hxdriven : x.twin.driven = true := hw.driven.trans hvdriven
  have hxepoch : x.twin.epoch = e := hw.epoch.trans hvepoch
  have hxattested : x.twin.attested = s.twin.attested := (hw.field Twin.attested fun _ => rfl).trans hvattested
  have hxagreed : x.twin.agreed = true := rfl
  clear_value x
  have hend := TwinKept.forEach hsend (rfl : TwinKept x x) (first ++ (List.finRange 2).filter fun k => !first.contains k)
  exact ⟨hend.role.trans hxrole, hend.driven.trans hxdriven, (hend.field Twin.agreed fun _ => rfl).trans hxagreed, hend.epoch.trans hxepoch,
    (hend.field Twin.attested fun _ => rfl).trans hxattested⟩

theorem opTwinAttest_of_frame {f : List Byte} (hlink : s.twin.linkUp = true) (hrun : s.clk.i8Run = true) (hok : s.twin.frameOk f = true)
    (htyp : u8 f 0 = 0x02) {p : List Byte} (hp : p = slice f 12 (u16 f 2)) {h : Hello} (hhello : s.twin.hello = some h)
    (hpair : s.twin.pair = .pairing) (hnew : s.twin.attested = false) :
    ∃ u, Heard s u ∧ opTwinAttest f s =
      if attestOk p s.twin.nonce = true then
        if s.becomesLead h = true then (u.onTwin fun t => { t with attested := true }).leadPairing else u.onTwin fun t => { t with attested := true }
      else u.refusePairing 4 := by
  have hheard := heardFrame_heard s f
  unfold opTwinAttest
  rw [twinTake_of_frame hlink hrun hok htyp, ← hp]
  dsimp only
  rw [← heardFrame]
  generalize heardFrame s f = u at hheard
  obtain ⟨n, htwin⟩ := hheard.twin
  have hsame : u.twin.hello = some h ∧ u.twin.pair = .pairing ∧ u.twin.attested = false ∧ u.twin.nonce = s.twin.nonce := by
    rw [htwin]
    exact ⟨hhello, hpair, hnew, rfl⟩
  obtain ⟨huhello, hupair, hunew, hunonce⟩ := hsame
  refine ⟨u, hheard, ?_⟩
  simp only [huhello, hupair, hunew, hunonce, ne_eq, not_true_eq_false, Bool.false_eq_true, or_self, if_false, hheard.becomesLead]
  cases attestOk p s.twin.nonce with
  | true => rfl
  | false => rfl

theorem opTwinAttest_spec {f : List Byte} (hlink : s.twin.linkUp = true) (hrun : s.clk.i8Run = true) (hok : s.twin.frameOk f = true)
    (htyp : u8 f 0 = 0x02) {p : List Byte} (hp : p = slice f 12 (u16 f 2)) {h : Hello} (hhello : s.twin.hello = some h)
    (hpair : s.twin.pair = .pairing) (hnew : s.twin.attested = false) :
    if attestOk p s.twin.nonce = true then
      (opTwinAttest f s).twin.attested = true ∧ (if s.becomesLead h = true then (opTwinAttest f s).twin.role = .lead ∧
        (opTwinAttest f s).twin.driven = true ∧ (opTwinAttest f s).twin.agreed = true ∧ (opTwinAttest f s).twin.epoch = nextEpoch s.twin.epoch
        else (opTwinAttest f s).twin.role = s.twin.role)
    else (opTwinAttest f s).rcd = (s.record 0x6002 8 4 (u32 s.twin.partner 0) 0).rcd ∧
      (opTwinAttest f s).twin.retryAt = some (s.now + 10000000) := by
  obtain ⟨u, hheard, hop⟩ := opTwinAttest_of_frame hlink hrun hok htyp hp hhello hpair hnew
  obtain ⟨n, htwin⟩ := hheard.twin
  have hsame : u.twin.role = s.twin.role ∧ u.twin.epoch = s.twin.epoch ∧ u.twin.partner = s.twin.partner := by
    rw [htwin]
    exact ⟨rfl, rfl, rfl⟩
  obtain ⟨hrole, hepoch, hpartner⟩ := hsame
  rw [hop]
  by_cases hgood : attestOk p s.twin.nonce = true
  · rw [if_pos hgood, if_pos hgood]
    by_cases hlead : s.becomesLead h = true
    · rw [if_pos hlead, if_pos hlead]
      obtain ⟨hlrole, hldriven, hlagreed, hlepoch, hlattested⟩ := leadPairing_twin (u.onTwin fun t => { t with attested := true })
      exact ⟨hlattested, hlrole, hldriven, hlagreed, hlepoch.trans (congrArg nextEpoch hepoch)⟩
    · rw [if_neg hlead, if_neg hlead]
      exact ⟨rfl, hrole⟩
  · rw [if_neg hgood, if_neg hgood]
    obtain ⟨hrcd, hretry, -⟩ := refusePairing_spec u 4
    rw [hrcd, hretry, hpartner, hheard.now]
    exact ⟨hheard.record_rcd .., rfl⟩


/-- The shadow of a new pair. -/
def newShadow (k : Twin) (epoch : Nat) : Twin :=
  { k with epoch := epoch, role := .shadow, driven := false, lineLow := true, agreed := true, stored := 0, msnSeen := 0, mirror := []
           groups := Tab.fill 16 MirrorGroup.reset }

theorem opTwinPaired_of_frame {f : List Byte} (hlink : s.twin.linkUp = true) (hrun : s.clk.i8Run = true) (hok : s.twin.frameOk f = true)
    (htyp : u8 f 0 = 0x03) {p : List Byte} (hp : p = slice f 12 (u16 f 2)) (hpair : s.twin.pair = .pairing) (hattested : s.twin.attested = true)
    (hlead : ∀ h, s.twin.hello = some h → s.becomesLead h = false) :
    opTwinPaired f s = ((heardFrame s f).onTwin fun k => newShadow k (u32 p 0)).dropShared.roleChanged := by
  have hleads : (match s.twin.hello with
      | some h => s.becomesLead h
      | none => false) = false := by
    cases hhello : s.twin.hello with
    | none => rfl
    | some h => exact hlead h hhello
  unfold opTwinPaired
  rw [twinTake_of_frame hlink hrun hok htyp, ← hp]
  refine if_neg ?_
  rintro (h | h | h)
  · exact h hpair
  · exact Bool.false_ne_true (h.symm.trans hattested)
  · exact Bool.false_ne_true (hleads.symm.trans h)

theorem opTwinPaired_spec {f : List Byte} (hlink : s.twin.linkUp = true) (hrun : s.clk.i8Run = true) (hok : s.twin.frameOk f = true)
    (htyp : u8 f 0 = 0x03) {p : List Byte} (hp : p = slice f 12 (u16 f 2)) (hpair : s.twin.pair = .pairing) (hattested : s.twin.attested = true)
    (hlead : ∀ h, s.twin.hello = some h → s.becomesLead h = false) :
    (opTwinPaired f s).twin.role = .shadow ∧ (opTwinPaired f s).twin.epoch = u32 p 0 ∧ (opTwinPaired f s).twin.agreed = true ∧
      (opTwinPaired f s).twin.stored = 0 := by
  rw [opTwinPaired_of_frame hlink hrun hok htyp hp hpair hattested hlead]
  generalize heardFrame s f = u
  generalize hv : (u.onTwin fun k => newShadow k (u32 p 0)) = v
  have hkept : TwinReplied v v.dropShared.roleChanged := (dropShared_twinReplied v).trans
    (.of_keeps (roleChanged_keeps (m := [.pwr, .rcd, .sw, .can, .acc]) (by decide) (keeps_refl _ _)) (by decide))
  have htwin : v.twin = newShadow u.twin (u32 p 0) := by rw [← hv]; rfl
  refine ⟨(hkept.field Twin.role fun _ => rfl).trans ?_, (hkept.field Twin.epoch fun _ => rfl).trans ?_,
    (hkept.field Twin.agreed fun _ => rfl).trans ?_, (hkept.field Twin.stored fun _ => rfl).trans ?_⟩
  all_goals rw [htwin]; rfl

/-! ## The mirror's frames and their ACK (R405 to R410) -/

theorem installWeft_linkKept (s : State) (w : Weft) : LinkKept s (s.installWeft w) := by
  refine .of_said (installWeft_said s w) ?_
  have hdrop (g : Slot2 → Bool) : TwinReplied s (s.dropStart g) := by
    unfold State.dropStart
    split
    · rfl
    next x _ =>
      split
      · extract_lets u
        cases x.cmd with
        | none => rfl
        | some c => exact TwinReplied.trans (t := u) rfl (completeId_replied ..).twin
      · rfl
  unfold State.installWeft
  extract_lets drop u v
  have hv : Keeps [.mem, .rcd, .weft] u ((v.placeWeft w).record 0x9001 2 w.id w.layout w.secVersion) :=
    record_keeps (by decide) (placeWeft_keeps (by decide) (onWeft_keeps (by decide) (keeps_refl _ u)))
  exact (hdrop _).trans (.of_keeps hv (by decide))

/-- The weft that waited for its ACK goes in; the count of entries acknowledged stays. -/
theorem commitAcked_link (s : State) :
    s.commitAcked.twin.acked = s.twin.acked ∧ (s.mirrors = false → s.commitAcked.twin.fly = s.twin.fly) := by
  unfold State.commitAcked
  split
  · exact ⟨rfl, fun _ => rfl⟩
  next w rest _ =>
    have hkept := (installWeft_linkKept (s.onTwin fun t => { t with weftWait := rest }) w.weft).trans
      (completeId_linkKept _ w.cmd .ok (commitReply 0 0 w.weft.id w.weft.layout))
    exact ⟨hkept.field Twin.acked fun _ => rfl, fun hm => hkept.fly hm⟩

theorem lockstepDue_link (s : State) : s.lockstepDue.twin.acked = s.twin.acked ∧ s.lockstepDue.twin.fly = s.twin.fly := by
  unfold State.lockstepDue
  dsimp only
  split <;> exact ⟨rfl, rfl⟩

/-- The twin with the frame of that number acknowledged. -/
def ackedTwin (k : Twin) (n : Nat) (x : TwinFly) : Twin :=
  { k with fly := k.fly.filter fun y => y.seq != n
           acked := match x.msn with
             | some m => max m k.acked
             | none => k.acked }

theorem opTwinAck_of_frame {f : List Byte} (hlink : s.twin.linkUp = true) (hrun : s.clk.i8Run = true) (hok : s.twin.frameOk f = true)
    (htyp : u8 f 0 = 0x7E) {p : List Byte} (hp : p = slice f 12 (u16 f 2)) {x : TwinFly}
    (hfly : (s.twin.fly.find? fun x => x.seq == u32 p 0) = some x) :
    ∃ u : State, u.twin = ackedTwin { s.twin with heardAt := s.now, released := false } (u32 p 0) x ∧
      opTwinAck f s = (if x.last then u.flushHeld.startAcked.commitAcked else u.flushHeld.startAcked).lockstepDue := by
  unfold opTwinAck
  rw [twinTake_of_frame hlink hrun hok htyp, ← hp]
  dsimp only
  rw [onTwin_twin, hfly]
  exact ⟨_, rfl, rfl⟩

theorem opTwinAck_spec {f : List Byte} (hlink : s.twin.linkUp = true) (hrun : s.clk.i8Run = true) (hok : s.twin.frameOk f = true)
    (htyp : u8 f 0 = 0x7E) {p : List Byte} (hp : p = slice f 12 (u16 f 2)) {x : TwinFly}
    (hfly : (s.twin.fly.find? fun x => x.seq == u32 p 0) = some x) :
    (opTwinAck f s).twin.acked = (match x.msn with | some m => max m s.twin.acked | none => s.twin.acked) ∧
      (s.mirrors = false → (opTwinAck f s).twin.fly = s.twin.fly.filter fun y => y.seq != u32 p 0) := by
  obtain ⟨u, hu, hop⟩ := opTwinAck_of_frame hlink hrun hok htyp hp hfly
  have hacked : u.twin.acked = (match x.msn with | some m => max m s.twin.acked | none => s.twin.acked) := by rw [hu]; rfl
  have hufly : u.twin.fly = s.twin.fly.filter fun y => y.seq != u32 p 0 := by rw [hu]; rfl
  have hmirrors : u.mirrors = s.mirrors := by
    simp only [State.mirrors, hu]
    rfl
  rw [hop]
  have hfirst := released_linkKept u
  generalize u.flushHeld.startAcked = v at hfirst
  obtain ⟨hlockAcked, hlockFly⟩ := lockstepDue_link (if x.last then v.commitAcked else v)
  have hcommit : (if x.last then v.commitAcked else v).twin.acked = v.twin.acked ∧
      (v.mirrors = false → (if x.last then v.commitAcked else v).twin.fly = v.twin.fly) := by
    cases x.last with
    | true => exact commitAcked_link v
    | false => exact ⟨rfl, fun _ => rfl⟩
  obtain ⟨hcAcked, hcFly⟩ := hcommit
  refine ⟨hlockAcked.trans (hcAcked.trans ((hfirst.field Twin.acked fun _ => rfl).trans hacked)), fun hm => ?_⟩
  have hum : u.mirrors = false := hmirrors.trans hm
  exact hlockFly.trans ((hcFly (hfirst.mirrors.trans hum)).trans ((hfirst.fly hum).trans hufly))

/-! ## RELEASE, and another try to pair (R401, R404) -/

theorem opTwinRelease_of_frame {f : List Byte} (hlink : s.twin.linkUp = true) (hrun : s.clk.i8Run = true) (hok : s.twin.frameOk f = true)
    (htyp : u8 f 0 = 0x7F) : opTwinRelease f s = (heardFrame s f).onTwin fun t => { t with released := true } := by
  unfold opTwinRelease
  rw [twinTake_of_frame hlink hrun hok htyp]
  rfl

theorem opPairingRetry_of_due {k : Nat} (hretry : s.twin.retryAt = some k) (hdue : k ≤ s.now) (hmay : s.mayPair = true) :
    opPairingRetry s = s.startPairing := by
  unfold opPairingRetry
  rw [hretry]
  refine if_neg ?_
  rintro (h | h)
  · omega
  · exact Bool.false_ne_true (h.symm.trans hmay)

end Sys2Proof.TwinFrameProofs

/-! What the shadow takes from the lead's frames: the weft, the heartbeat, the mirrored commands, the configuration and the Loom's data (spec/15). -/

namespace Sys2Proof.TwinFrameProofs

open Sys2Proof Sys2Proof.Machine Sys2Proof.Laws Sys2Proof.ReplyProofs Sys2Proof.CommandProofs Sys2Proof.TwinProofs Sys2Proof.WeftCommandProofs
open Sys2Proof.BasicProofs

variable {s t u v : State} {m : List Part}

/-! ## Bytes -/

theorem slice_slice (p : List Byte) {i k j n : Nat} (h : j + n ≤ k) : slice (slice p i k) j n = slice p (i + j) n := by
  have hmin : min n (k - j) = n := Nat.min_eq_left (by omega)
  simp only [slice, List.drop_take, List.drop_drop, List.take_take, hmin]

theorem slice_length (p : List Byte) {i n : Nat} (h : i + n ≤ p.length) : (slice p i n).length = n := by
  simp only [slice, List.length_take, List.length_drop]
  omega

theorem le_ofLe (b : List Byte) : le b.length (ofLe b) = b := by
  induction b with
  | nil => rfl
  | cons x b ih =>
    have hx : x.toNat < 256 := x.isLt
    have hrest : (x.toNat + 256 * ofLe b) / 256 = ofLe b := by omega
    have hfirst : BitVec.ofNat 8 (x.toNat + 256 * ofLe b) = x := by
      apply BitVec.eq_of_toNat_eq
      rw [BitVec.toNat_ofNat]
      omega
    rw [List.length_cons, ofLe, le, hfirst, hrest, ih]

theorem le_u32 (p : List Byte) {i : Nat} (h : i + 4 ≤ p.length) : le 4 (u32 p i) = slice p i 4 := by
  have hlen := slice_length p h
  calc le 4 (u32 p i) = le (slice p i 4).length (ofLe (slice p i 4)) := by rw [hlen, u32]
    _ = slice p i 4 := le_ofLe _

/-- Bytes elsewhere read as before. -/
theorem readBytes_congr {m n : List Host.Cell} {a k : Nat} (h : ∀ x, a ≤ x → x < a + k → Memory.read n x = Memory.read m x) :
    Memory.readBytes n a k = Memory.readBytes m a k := by
  induction k generalizing a with
  | zero => rfl
  | succ k ih =>
    rw [Memory.readBytes, Memory.readBytes, h a (Nat.le_refl a) (by omega), ih fun x hlo hhi => h x (by omega) (by omega)]

/-! ## A frame taken, and answered later -/

/-- The state in which the frame has been heard but not answered. -/
def tookFrame (s : State) : State := s.onTwin fun k => { k with heardAt := s.now, released := false }

theorem twinAnswer_replied (s : State) (f : List Byte) : TwinReplied s (s.twinAnswer f) := by
  obtain ⟨n, o, h⟩ := twinAnswer_twin s f
  rw [h]
  rfl

theorem twinAnswer_same (s : State) (f : List Byte) :
    (s.twinAnswer f).weft = s.weft ∧ (s.twinAnswer f).mem = s.mem ∧ (s.twinAnswer f).wt = s.wt := by
  obtain ⟨n, o, h⟩ := twinAnswer_twin s f
  rw [h]
  exact ⟨rfl, rfl, rfl⟩

/-! ## The Loom's data (R416) -/

theorem opTwinLoomData_of_frame {f : List Byte} (hlink : s.twin.linkUp = true) (hrun : s.clk.i8Run = true) (hok : s.twin.frameOk f = true)
    (htyp : u8 f 0 = 0x30) {p : List Byte} (hp : p = slice f 12 (u16 f 2)) (hpair : s.twin.pair = .paired) (hone : u16 p 4 = 1)
    (hlen : p.length = 14) (hword : u16 p 8 < 1024) :
    opTwinLoomData f s = ((heardFrame s f).writeMem (0x1000F000 + 4 * u16 p 8) (slice p 10 4)).writeMem 0x1000EFFC (slice p 0 4) := by
  obtain ⟨n, o, heq⟩ := heardFrame_eq s f
  have hupair : (heardFrame s f).twin.pair = .paired := by
    rw [heq]
    exact hpair
  unfold opTwinLoomData
  rw [twinTake_of_frame hlink hrun hok htyp, ← hp]
  dsimp only
  rw [← heardFrame]
  generalize heardFrame s f = u at hupair
  rw [if_neg (not_or.2 ⟨not_not_intro hupair, by rw [hone, hlen]; decide⟩), hone]
  refine congrArg (fun v : State => v.writeMem 0x1000EFFC (slice p 0 4)) ?_
  exact if_pos hword

theorem opTwinLoomData_spec {f : List Byte} (hlink : s.twin.linkUp = true) (hrun : s.clk.i8Run = true) (hok : s.twin.frameOk f = true)
    (htyp : u8 f 0 = 0x30) {p : List Byte} (hp : p = slice f 12 (u16 f 2)) (hpair : s.twin.pair = .paired) (hone : u16 p 4 = 1)
    (hlen : p.length = 14) (hword : u16 p 8 < 1024) (hwf : Memory.wf s.mem = true) :
    Memory.readBytes (opTwinLoomData f s).mem (0x1000F000 + 4 * u16 p 8) 4 = slice p 10 4 ∧
      Memory.readBytes (opTwinLoomData f s).mem 0x1000EFFC 4 = slice p 0 4 ∧
      ∀ a, a < 0x1000EFFC ∨ 0x10010000 ≤ a → Memory.read (opTwinLoomData f s).mem a = Memory.read s.mem a := by
  obtain ⟨-, hmem, -⟩ := twinAnswer_same (tookFrame s) f
  have hheard : (heardFrame s f).mem = s.mem := hmem
  rw [opTwinLoomData_of_frame hlink hrun hok htyp hp hpair hone hlen hword]
  have hdata : (slice p 10 4).length = 4 := slice_length p (by omega)
  have hmark : (slice p 0 4).length = 4 := slice_length p (by omega)
  have hmem' : (((heardFrame s f).writeMem (0x1000F000 + 4 * u16 p 8) (slice p 10 4)).writeMem 0x1000EFFC (slice p 0 4)).mem =
      Memory.writeBytes (Memory.writeBytes s.mem (0x1000F000 + 4 * u16 p 8) (slice p 10 4)) 0x1000EFFC (slice p 0 4) := by
    rw [← hheard]
    rfl
  rw [hmem']
  have hwf' := Memory.wf_writeBytes (0x1000F000 + 4 * u16 p 8) (slice p 10 4) hwf
  refine ⟨?_, ?_, fun a ha => ?_⟩
  · rw [readBytes_congr fun x hlo _ => Memory.read_writeBytes_of_outside 0x1000EFFC (slice p 0 4) x hwf' (by omega)]
    have hread := readBytes_writeBytes (0x1000F000 + 4 * u16 p 8) (slice p 10 4) hwf
    rwa [hdata] at hread
  · have hread := readBytes_writeBytes 0x1000EFFC (slice p 0 4) hwf'
    rwa [hmark] at hread
  · rw [Memory.read_writeBytes_of_outside _ _ a hwf' (by omega), Memory.read_writeBytes_of_outside _ _ a hwf (by omega)]

/-! ## Entries in order (R407) -/

/-- The twin with an entry stored. -/
def storedTwin (k : Twin) (n : Nat) : Twin := { k with stored := n, msnSeen := if k.msnSeen = k.stored then n else k.msnSeen }

theorem inOrder_of_next {f p : List Byte} (store : State → State) (hrole : s.twin.role = .shadow) (hagreed : s.twin.agreed = true)
    (hpair : s.twin.pair = .pairing ∨ s.twin.pair = .paired) (hnext : u32 p 0 = (s.twin.stored + 1) % 2 ^ 32) :
    s.inOrder f p store = ((store s.shadowPaired).onTwin fun k => storedTwin k (u32 p 0)).twinAnswer f := by
  have hgo : ¬ ((s.twin.role ≠ .shadow ∧ s.twin.handedOver = false) ∨ s.twin.agreed = false ∨ (s.twin.pair ≠ .pairing ∧ s.twin.pair ≠ .paired)) := by
    rintro (⟨h, -⟩ | h | ⟨h₁, h₂⟩)
    · exact h hrole
    · exact Bool.false_ne_true (h.symm.trans hagreed)
    · exact hpair.elim h₁ h₂
  unfold State.inOrder
  rw [if_neg hgo]
  exact if_pos hnext

/-- The first entry makes the shadow paired; the mirror and the memory stay. -/
theorem shadowPaired_spec (s : State) (hpair : s.twin.pair = .pairing ∨ s.twin.pair = .paired) :
    s.shadowPaired.twin.pair = .paired ∧ s.shadowPaired.twin.mirror = s.twin.mirror ∧ s.shadowPaired.mem = s.mem := by
  unfold State.shadowPaired
  split
  · exact ⟨rfl, rfl, rfl⟩
  next h => exact ⟨hpair.resolve_left h, rfl, rfl⟩

theorem storeStage_taken {p : List Byte} {g : Grp} (hstage : u8 p 4 = 0) (hgroup : u8 p 5 = g.1) :
    s.storeStage p = s.storeTaken g (u16 p 6) p := by
  have hlt : u8 p 5 < 16 := hgroup ▸ g.2
  have hg : (⟨u8 p 5, hlt⟩ : Grp) = g := Fin.ext hgroup
  unfold State.storeStage
  rw [dif_pos hlt, hg, hstage]
  rfl

theorem opTwinMirror_spec {f : List Byte} {g : Grp} (hlink : s.twin.linkUp = true) (hrun : s.clk.i8Run = true) (hok : s.twin.frameOk f = true)
    (htyp : u8 f 0 = 0x20) {p : List Byte} (hp : p = slice f 12 (u16 f 2)) (hrole : s.twin.role = .shadow) (hagreed : s.twin.agreed = true)
    (hpair : s.twin.pair = .pairing ∨ s.twin.pair = .paired) (hnext : u32 p 0 = (s.twin.stored + 1) % 2 ^ 32) (hstage : u8 p 4 = 0)
    (hgroup : u8 p 5 = g.1) :
    (opTwinMirror f s).twin.stored = u32 p 0 ∧ (opTwinMirror f s).twin.pair = .paired ∧ (opTwinMirror f s).twin.mirror = s.twin.mirror ++
      [{ group := g, tag := u16 p 6, keyId := slice p 8 8, body := p.drop 16, begun := false, failed := false }] := by
  have hop : opTwinMirror f s =
      (((tookFrame s).shadowPaired.storeTaken g (u16 p 6) p).onTwin fun k => storedTwin k (u32 p 0)).twinAnswer f := by
    unfold opTwinMirror
    rw [twinTake_of_frame hlink hrun hok htyp, ← hp]
    dsimp only
    rw [← tookFrame, inOrder_of_next (s := tookFrame s) _ hrole hagreed hpair hnext, storeStage_taken hstage hgroup]
  obtain ⟨hpaired, hmirror, -⟩ := shadowPaired_spec (tookFrame s) hpair
  rw [hop]
  generalize (tookFrame s).shadowPaired = u at hpaired hmirror
  have hkept := twinAnswer_replied ((u.storeTaken g (u16 p 6) p).onTwin fun k => storedTwin k (u32 p 0)) f
  exact ⟨hkept.field Twin.stored fun _ => rfl, (hkept.field Twin.pair fun _ => rfl).trans hpaired,
    (hkept.field Twin.mirror fun _ => rfl).trans (congrArg (· ++ _) hmirror)⟩

/-! ## The configuration (R409) -/

theorem writeMirrored_can {a n : Nat} (hlo : 0x21000100 ≤ a) (hhi : a < 0x21000200) : s.writeMirrored a n = s.writeMem a (le 4 n) := by
  unfold State.writeMirrored
  rw [dif_neg (by omega), if_neg (by omega), if_pos ⟨hlo, hhi⟩]

theorem opTwinConfigFrame_of_frame {f : List Byte} (hlink : s.twin.linkUp = true) (hrun : s.clk.i8Run = true) (hok : s.twin.frameOk f = true)
    (htyp : u8 f 0 = 0x21) {p : List Byte} (hp : p = slice f 12 (u16 f 2)) (hrole : s.twin.role = .shadow) (hagreed : s.twin.agreed = true)
    (hpair : s.twin.pair = .pairing ∨ s.twin.pair = .paired) (hnext : u32 p 0 = (s.twin.stored + 1) % 2 ^ 32) (hone : u16 p 4 = 1)
    (hlen : p.length = 20) (hcrc : crc8 (slice p 8 8) = u8 p 16) (hlo : 0x21000100 ≤ u32 p 8) (hhi : u32 p 8 < 0x21000200) :
    opTwinConfigFrame f s = ((((((tookFrame s).shadowPaired.writeMem (u32 p 8) (slice p 12 4)).onTwin fun k =>
      storedTwin k (u32 p 0)).twinAnswer f).tokenChanges s.acc.tokens).flagChanges s.acc.lockedOut s.acc.leaseOk).roleChanged := by
  have haddr : u32 (slice p 8 8) 0 = u32 p 8 := congrArg ofLe (slice_slice p (by decide))
  have hvalue : u32 (slice p 8 8) 4 = u32 p 12 := congrArg ofLe (slice_slice p (by decide))
  unfold opTwinConfigFrame
  rw [twinTake_of_frame hlink hrun hok htyp, ← hp]
  dsimp only
  rw [if_neg (by rw [hone, hlen]; decide), ← tookFrame, inOrder_of_next (s := tookFrame s) _ hrole hagreed hpair hnext, hone]
  have hstore : ((tookFrame s).shadowPaired.forEach (List.range 1) fun i s =>
      if crc8 (slice p (8 + 12 * i) 8) = u8 p (16 + 12 * i) then
        s.writeMirrored (u32 (slice p (8 + 12 * i) 8) 0) (u32 (slice p (8 + 12 * i) 8) 4) else s) =
      (tookFrame s).shadowPaired.writeMem (u32 p 8) (slice p 12 4) := by
    refine (if_pos hcrc).trans ?_
    rw [haddr, hvalue, writeMirrored_can hlo hhi, le_u32 p (by omega)]
  rw [hstore]
  rfl

theorem opTwinConfigFrame_spec {f : List Byte} (hlink : s.twin.linkUp = true) (hrun : s.clk.i8Run = true) (hok : s.twin.frameOk f = true)
    (htyp : u8 f 0 = 0x21) {p : List Byte} (hp : p = slice f 12 (u16 f 2)) (hrole : s.twin.role = .shadow) (hagreed : s.twin.agreed = true)
    (hpair : s.twin.pair = .pairing ∨ s.twin.pair = .paired) (hnext : u32 p 0 = (s.twin.stored + 1) % 2 ^ 32) (hone : u16 p 4 = 1)
    (hlen : p.length = 20) (hcrc : crc8 (slice p 8 8) = u8 p 16) (hlo : 0x21000100 ≤ u32 p 8) (hhi : u32 p 8 < 0x21000200)
    (hwf : Memory.wf s.mem = true) :
    (opTwinConfigFrame f s).twin.stored = u32 p 0 ∧ (opTwinConfigFrame f s).twin.pair = .paired ∧
      Memory.readBytes (opTwinConfigFrame f s).mem (u32 p 8) 4 = slice p 12 4 ∧
      ∀ a, a < u32 p 8 ∨ u32 p 8 + 4 ≤ a → Memory.read (opTwinConfigFrame f s).mem a = Memory.read s.mem a := by
  rw [opTwinConfigFrame_of_frame hlink hrun hok htyp hp hrole hagreed hpair hnext hone hlen hcrc hlo hhi]
  obtain ⟨hpaired, -, hmem⟩ := shadowPaired_spec (tookFrame s) hpair
  generalize (tookFrame s).shadowPaired = u at hpaired hmem
  generalize hv : ((u.writeMem (u32 p 8) (slice p 12 4)).onTwin fun k => storedTwin k (u32 p 0)) = v
  have hvmem : v.mem = Memory.writeBytes s.mem (u32 p 8) (slice p 12 4) := by
    rw [← hv]
    exact congrArg (Memory.writeBytes · _ _) hmem
  have hvtwin : v.twin.stored = u32 p 0 ∧ v.twin.pair = .paired := by
    rw [← hv]
    exact ⟨rfl, hpaired⟩
  obtain ⟨-, hamem, -⟩ := twinAnswer_same v f
  have hanswer := twinAnswer_replied v f
  generalize v.twinAnswer f = w at hamem hanswer
  have hkeeps : Keeps [.pwr, .rcd, .sw, .can, .acc] w ((w.tokenChanges s.acc.tokens).flagChanges s.acc.lockedOut s.acc.leaseOk).roleChanged :=
    roleChanged_keeps (by decide) (flagChanges_keeps (by decide) (tokenChanges_keeps (by decide) (keeps_refl _ w)))
  have htwin := hkeeps.only.same .twin (by decide)
  have hwmem := hkeeps.only.same .mem (by decide)
  generalize ((w.tokenChanges s.acc.tokens).flagChanges s.acc.lockedOut s.acc.leaseOk).roleChanged = x at htwin hwmem
  obtain ⟨hstored, hpaired'⟩ := hvtwin
  have hxmem : x.mem = Memory.writeBytes s.mem (u32 p 8) (slice p 12 4) := hwmem.trans (hamem.trans hvmem)
  have hdata : (slice p 12 4).length = 4 := slice_length p (by omega)
  refine ⟨(congrArg Twin.stored htwin).trans ((hanswer.field Twin.stored fun _ => rfl).trans hstored),
    (congrArg Twin.pair htwin).trans ((hanswer.field Twin.pair fun _ => rfl).trans hpaired'), ?_, fun a ha => ?_⟩
  · have hread := readBytes_writeBytes (u32 p 8) (slice p 12 4) hwf
    rw [hdata] at hread
    rw [hxmem, hread]
  · rw [hxmem]
    exact Memory.read_writeBytes_of_outside _ _ a hwf (by omega)

end Sys2Proof.TwinFrameProofs

/-! The lead's heartbeat and its weft on the shadow (spec/15, R404, R406, R410), and the twin frames' obligation. -/

namespace Sys2Proof.TwinFrameProofs

open Sys2Proof Sys2Proof.Machine Sys2Proof.Laws Sys2Proof.ReplyProofs Sys2Proof.CommandProofs Sys2Proof.TwinProofs Sys2Proof.WeftCommandProofs
open Sys2Proof.BasicProofs

variable {s t u v : State} {m : List Part}

/-! ## The heartbeat -/

/-- The step of warp time to the lead's frame. -/
def beatStep (s : State) (p : List Byte) : Warp := BitVec.ofNat 64 (1000 * u64 p 0) - BitVec.ofNat 64 (1000 * s.frame)

/-- The twin with the lead's heartbeat noted. -/
def beatTwin (k : Twin) (p : List Byte) (ofs : Int) (now : Nat) : Twin :=
  { k with released := u8 p 9 == 1, peerRole := u8 p 8, lead := p.drop 16, warpOfs := ofs, beatAt := now, leadFrame := u64 p 0 }

/-- Warp time steps to the lead's frame while the pairing is under way and no weft is active. -/
def stepped (s : State) (p : List Byte) : State :=
  if s.twin.pair = .pairing ∧ beatStep s p ≠ 0 ∧ s.weftActive = false then
    (s.onWt fun w => { w with warp := w.warp + beatStep s p, loc := w.loc.mapIdx fun _ x => x + beatStep s p }).rebase.record 0xA050 3
      ((beatStep s p).toNat % 2 ^ 32) ((beatStep s p).toNat / 2 ^ 32) 0
  else s

theorem opTwinHeartbeat_of_frame {f : List Byte} {ofs : Int} (hlink : s.twin.linkUp = true) (hrun : s.clk.i8Run = true) (hok : s.twin.frameOk f = true)
    (htyp : u8 f 0 = 0x10) {p : List Byte} (hp : p = slice f 12 (u16 f 2)) (hlead : u8 p 8 = 1) (hrole : s.twin.role = .shadow)
    (hagreed : s.twin.agreed = true) :
    opTwinHeartbeat f ofs s = stepped ((heardFrame s f).onTwin fun k => beatTwin k p ofs (heardFrame s f).now) p := by
  obtain ⟨n, o, heq⟩ := heardFrame_eq s f
  have hgo : ¬ (u8 p 8 ≠ 1 ∨ (heardFrame s f).twin.role ≠ .shadow ∨ (heardFrame s f).twin.agreed = false) := by
    rw [heq]
    rintro (h | h | h)
    · exact h hlead
    · exact h hrole
    · exact Bool.false_ne_true (h.symm.trans hagreed)
  unfold opTwinHeartbeat
  rw [twinTake_of_frame hlink hrun hok htyp, ← hp]
  dsimp only
  rw [← heardFrame]
  exact if_neg hgo

/-- The step leaves the twin, and moves warp time by the distance to the lead's frame. -/
theorem stepped_spec (s : State) (p : List Byte) :
    (stepped s p).twin = s.twin ∧
      (stepped s p).wt.warp = if s.twin.pair = .pairing ∧ s.weftActive = false then s.wt.warp + beatStep s p else s.wt.warp := by
  unfold stepped
  by_cases hstep : s.twin.pair = .pairing ∧ beatStep s p ≠ 0 ∧ s.weftActive = false
  · rw [if_pos hstep]
    obtain ⟨hpairing, -, hstill⟩ := hstep
    rw [if_pos ⟨hpairing, hstill⟩]
    exact ⟨rfl, rfl⟩
  · rw [if_neg hstep]
    refine ⟨rfl, ?_⟩
    split
    next hsome =>
      obtain ⟨hpairing, hstill⟩ := hsome
      have hzero : beatStep s p = 0 := Classical.byContradiction fun h => hstep ⟨hpairing, h, hstill⟩
      rw [hzero]
      exact (BitVec.add_zero ..).symm
    next => rfl

theorem opTwinHeartbeat_spec {f : List Byte} {ofs : Int} (hlink : s.twin.linkUp = true) (hrun : s.clk.i8Run = true) (hok : s.twin.frameOk f = true)
    (htyp : u8 f 0 = 0x10) {p : List Byte} (hp : p = slice f 12 (u16 f 2)) (hlead : u8 p 8 = 1) (hrole : s.twin.role = .shadow)
    (hagreed : s.twin.agreed = true) :
    (opTwinHeartbeat f ofs s).twin.lead = p.drop 16 ∧ (opTwinHeartbeat f ofs s).twin.warpOfs = ofs ∧
      (opTwinHeartbeat f ofs s).twin.released = (u8 p 9 == 1) ∧ (opTwinHeartbeat f ofs s).twin.peerRole = 1 ∧
      (opTwinHeartbeat f ofs s).wt.warp =
        if s.twin.pair = .pairing ∧ s.weftActive = false then s.wt.warp + beatStep s p else s.wt.warp := by
  rw [opTwinHeartbeat_of_frame hlink hrun hok htyp hp hlead hrole hagreed]
  obtain ⟨n, o, heq⟩ := heardFrame_eq s f
  generalize hu : ((heardFrame s f).onTwin fun k => beatTwin k p ofs (heardFrame s f).now) = u
  have hsame : u.twin.pair = s.twin.pair ∧ u.weftActive = s.weftActive ∧ beatStep u p = beatStep s p ∧ u.wt = s.wt := by
    rw [← hu, heq]
    exact ⟨rfl, rfl, rfl, rfl⟩
  have hnoted : u.twin.lead = p.drop 16 ∧ u.twin.warpOfs = ofs ∧ u.twin.released = (u8 p 9 == 1) ∧ u.twin.peerRole = 1 := by
    rw [← hu]
    exact ⟨rfl, rfl, rfl, hlead⟩
  obtain ⟨hpair, hactive, hbeat, hwt⟩ := hsame
  obtain ⟨hl, ho, hr, hpeer⟩ := hnoted
  obtain ⟨htwin, hwarp⟩ := stepped_spec u p
  rw [htwin, hwarp, hpair, hactive, hbeat, hwt]
  exact ⟨hl, ho, hr, hpeer, rfl⟩

/-! ## The weft, in parts -/

/-- The weft that the frame begins. -/
def begunRx (p : List Byte) : WeftRx := { area := u8 p 0, length := u32 p 4, parts := [(u32 p 8, p.drop 12)] }

theorem assemble_one (o : Nat) (d : List Byte) : assemble [(o, d)] 1 [] = if o = 0 then d else [] := by
  by_cases h : o = 0
  · subst h
    rfl
  · rw [if_neg h]
    have hne : (o == 0) = false := beq_false_of_ne h
    simp only [assemble, List.find?, List.length_nil, hne]

/-- The shadow takes the weft when it is whole, and keeps or refuses it. -/
def wholeWeft (s : State) (f image : List Byte) (leadRuns : Bool) : State :=
  match (do checkHeader image; s.checkWeft image : Except Reject Weft) with
  | .error e =>
    let v := (((s.detailOf e).2.record 0x9002 2 e.reason (s.detailOf e).1 0).handoverFrame 2 0).twinAnswer f
    if v.twin.pair = .pairing then v.refusePairing 6 else v
  | .ok w =>
    let v := (s.installWeft w).twinAnswer f
    if leadRuns && decide (v.twin.pair = .pairing) && v.mayStart && (v.crcBad w).isEmpty then
      v.beginStart (slotOf w.layout) w false none none false true
    else v

theorem opTwinWeft_of_frame {f : List Byte} {leadRuns : Bool} (hlink : s.twin.linkUp = true) (hrun : s.clk.i8Run = true)
    (hok : s.twin.frameOk f = true) (htyp : u8 f 0 = 0x04) {p : List Byte} (hp : p = slice f 12 (u16 f 2)) (hrole : s.twin.role = .shadow)
    (hagreed : s.twin.agreed = true) (hrx : s.twin.weftRx = none) :
    opTwinWeft f leadRuns s =
      if (assemble [(u32 p 8, p.drop 12)] 1 []).length < u32 p 4 then ((tookFrame s).onTwin fun t => { t with weftRx := some (begunRx p) }).twinAnswer f
      else wholeWeft ((tookFrame s).onTwin fun t => { t with weftRx := none }) f (assemble [(u32 p 8, p.drop 12)] 1 []) leadRuns := by
  have hgo : ¬ ((tookFrame s).twin.role ≠ .shadow ∨ (tookFrame s).twin.agreed = false) := by
    rintro (h | h)
    · exact h hrole
    · exact Bool.false_ne_true (h.symm.trans hagreed)
  have hnone : (tookFrame s).twin.weftRx = none := hrx
  unfold opTwinWeft
  rw [twinTake_of_frame hlink hrun hok htyp, ← hp]
  dsimp only
  rw [← tookFrame, if_neg hgo, hnone]
  rfl

theorem opTwinWeft_part {f : List Byte} {leadRuns : Bool} (hlink : s.twin.linkUp = true) (hrun : s.clk.i8Run = true)
    (hok : s.twin.frameOk f = true) (htyp : u8 f 0 = 0x04) {p : List Byte} (hp : p = slice f 12 (u16 f 2)) (hrole : s.twin.role = .shadow)
    (hagreed : s.twin.agreed = true) (hrx : s.twin.weftRx = none) (hshort : (p.drop 12).length < u32 p 4) :
    (opTwinWeft f leadRuns s).weft = s.weft ∧ (opTwinWeft f leadRuns s).twin.weftRx = some (begunRx p) := by
  have himage : (assemble [(u32 p 8, p.drop 12)] 1 []).length < u32 p 4 := by
    rw [assemble_one]
    split
    · exact hshort
    · exact Nat.lt_of_le_of_lt (Nat.zero_le _) hshort
  rw [opTwinWeft_of_frame hlink hrun hok htyp hp hrole hagreed hrx, if_pos himage]
  obtain ⟨hweft, -, -⟩ := twinAnswer_same ((tookFrame s).onTwin fun t => { t with weftRx := some (begunRx p) }) f
  exact ⟨hweft, (twinAnswer_replied ((tookFrame s).onTwin fun t => { t with weftRx := some (begunRx p) }) f).field Twin.weftRx fun _ => rfl⟩

theorem wholeWeft_spec {image f : List Byte} {leadRuns : Bool} (hheader : checkHeader image = .ok ()) (hrx : s.twin.weftRx = none) :
    (wholeWeft s f image leadRuns).twin.weftRx = none ∧
      (match s.checkWeft image with
        | .ok w => (wholeWeft s f image leadRuns).weft.store.get (slotOf w.layout) = some w
        | .error _ => (wholeWeft s f image leadRuns).weft.store = s.weft.store) := by
  have hcheck : (do checkHeader image; s.checkWeft image : Except Reject Weft) = s.checkWeft image := by
    rw [hheader]
    rfl
  unfold wholeWeft
  rw [hcheck]
  cases s.checkWeft image with
  | error e =>
    dsimp only
    have hrecord : Keeps [.free, .rcd] s ((s.detailOf e).2.record 0x9002 2 e.reason (s.detailOf e).1 0) :=
      record_keeps (by decide) (detailOf_keeps (by decide) (keeps_refl _ s))
    generalize (s.detailOf e).2.record 0x9002 2 e.reason (s.detailOf e).1 0 = u at hrecord
    have htwin : TwinReplied s ((u.handoverFrame 2 0).twinAnswer f) :=
      (TwinReplied.of_keeps hrecord (by decide)).trans (TwinReplied.trans (twinFrame_twin ..) (twinAnswer_replied ..))
    have hweft : ((u.handoverFrame 2 0).twinAnswer f).weft = s.weft :=
      (weft_of_keeps (m := [.out, .twin]) (twinAnswer_keeps (by decide) (handoverFrame_keeps (by decide) (keeps_refl _ u))) (by decide)).trans
        (weft_of_keeps hrecord (by decide))
    generalize (u.handoverFrame 2 0).twinAnswer f = v at htwin hweft
    have hvrx : v.twin.weftRx = none := (htwin.field Twin.weftRx fun _ => rfl).trans hrx
    split
    · exact ⟨hvrx, congrArg Wefts.store hweft⟩
    · exact ⟨hvrx, congrArg Wefts.store hweft⟩
  | ok w =>
    dsimp only
    have hstore := installWeft_store s w
    have hkept := installWeft_linkKept s w
    generalize s.installWeft w = u at hstore hkept
    obtain ⟨hweft, -, -⟩ := twinAnswer_same u f
    have hanswer := twinAnswer_replied u f
    generalize u.twinAnswer f = v at hweft hanswer
    have hvrx : v.twin.weftRx = none := ((hkept.rest.trans hanswer).field Twin.weftRx fun _ => rfl).trans hrx
    have hvstore : v.weft.store.get (slotOf w.layout) = some w := by
      rw [hweft]
      exact hstore
    split
    · obtain ⟨x, hx, -⟩ := beginStart_weft v (slotOf w.layout) w false none none false true
      have htwin : (v.beginStart (slotOf w.layout) w false none none false true).twin = v.twin :=
        (beginStart_keeps (m := [.mem, .wt, .rcd, .sw, .loom, .weft]) (by decide) (keeps_refl _ v)).only.same .twin (by decide)
      rw [htwin, hx]
      exact ⟨hvrx, hvstore⟩
    · exact ⟨hvrx, hvstore⟩

theorem opTwinWeft_whole {f : List Byte} {leadRuns : Bool} (hlink : s.twin.linkUp = true) (hrun : s.clk.i8Run = true)
    (hok : s.twin.frameOk f = true) (htyp : u8 f 0 = 0x04) {p : List Byte} (hp : p = slice f 12 (u16 f 2)) (hrole : s.twin.role = .shadow)
    (hagreed : s.twin.agreed = true) (hrx : s.twin.weftRx = none) (hfirst : u32 p 8 = 0) (hall : u32 p 4 ≤ (p.drop 12).length) :
    opTwinWeft f leadRuns s = wholeWeft ((tookFrame s).onTwin fun t => { t with weftRx := none }) f (p.drop 12) leadRuns := by
  have himage : assemble [(u32 p 8, p.drop 12)] 1 [] = p.drop 12 := (assemble_one ..).trans (if_pos hfirst)
  rw [opTwinWeft_of_frame hlink hrun hok htyp hp hrole hagreed hrx, himage, if_neg (Nat.not_lt.mpr hall)]

/-- Settles O44, one frame at a time. -/
theorem twinFramesComplete : Obligations.TwinFramesComplete := by
  refine ⟨?up, ?down, ?retransmit, ?timeout, ?hello, ?attest, ?paired, ?part, ?whole, ?heartbeat, ?mirror, ?config, ?loom, ?ack, ?release, ?retry⟩
  case up =>
    intro s hlink hrun hvalid
    exact ⟨_, rfl, opTwinLinkUp_spec hlink hrun hvalid⟩
  case down =>
    intro s detached hlink hgone
    exact ⟨_, congrArg Host.Outcome.next (opTwinLinkDown_spec hlink hgone), linkGone_spec s detached⟩
  case retransmit =>
    intro s seq x hfly hdue hmore
    exact ⟨_, congrArg Host.Outcome.next (opTwinRetransmit_spec hfly hdue hmore), rfl, rfl⟩
  case timeout =>
    intro s hmirror hlate
    obtain ⟨hrole, hpair⟩ := pair_of_mirrors hmirror
    obtain ⟨hlink, hfly, hbroken⟩ := linkGone_spec s false
    refine ⟨_, congrArg Host.Outcome.next (opMirrorAckTimeout_spec hmirror hlate), hlink, (hbroken hpair).trans (if_neg ?_), hfly⟩
    rintro ⟨-, h⟩
    exact Bool.false_ne_true h
  case hello =>
    intro s f p h hlink hrun hok htyp hp hmay hpair hhello hh
    exact ⟨_, rfl, opTwinHello_spec hlink hrun hok htyp hp hmay hpair hhello hh⟩
  case attest =>
    intro s f p h hlink hrun hok htyp hp hhello hpair hnew
    exact ⟨_, rfl, opTwinAttest_spec hlink hrun hok htyp hp hhello hpair hnew⟩
  case paired =>
    intro s f p hlink hrun hok htyp hp hpair hattested hlead
    exact ⟨_, rfl, opTwinPaired_spec hlink hrun hok htyp hp hpair hattested hlead⟩
  case part =>
    intro s f p leadRuns hlink hrun hok htyp hp hrole hagreed hrx hshort
    exact ⟨_, rfl, opTwinWeft_part hlink hrun hok htyp hp hrole hagreed hrx hshort⟩
  case whole =>
    intro s f p leadRuns hlink hrun hok htyp hp hrole hagreed hrx hfirst hall hheader
    exact ⟨_, congrArg Host.Outcome.next (opTwinWeft_whole hlink hrun hok htyp hp hrole hagreed hrx hfirst hall), wholeWeft_spec hheader rfl⟩
  case heartbeat =>
    intro s f p ofs hlink hrun hok htyp hp hlead hrole hagreed
    exact ⟨_, rfl, opTwinHeartbeat_spec hlink hrun hok htyp hp hlead hrole hagreed⟩
  case mirror =>
    intro s f p g hlink hrun hok htyp hp hrole hagreed hpair hnext hstage hgroup
    exact ⟨_, rfl, opTwinMirror_spec hlink hrun hok htyp hp hrole hagreed hpair hnext hstage hgroup⟩
  case config =>
    intro s f p hlink hrun hok htyp hp hrole hagreed hpair hnext hone hlen hcrc _ hlo hhi hwf
    exact ⟨_, rfl, opTwinConfigFrame_spec hlink hrun hok htyp hp hrole hagreed hpair hnext hone hlen hcrc hlo hhi hwf⟩
  case loom =>
    intro s f p hlink hrun hok htyp hp hpair hone hlen hword hwf
    exact ⟨_, rfl, opTwinLoomData_spec hlink hrun hok htyp hp hpair hone hlen hword hwf⟩
  case ack =>
    intro s f p x hlink hrun hok htyp hp hfly
    exact ⟨_, rfl, opTwinAck_spec hlink hrun hok htyp hp hfly⟩
  case release =>
    intro s f hlink hrun hok htyp
    obtain ⟨n, o, heq⟩ := heardFrame_eq s f
    refine ⟨_, congrArg Host.Outcome.next (opTwinRelease_of_frame hlink hrun hok htyp), rfl, ?_⟩
    rw [heq]
    exact ⟨rfl, rfl⟩
  case retry =>
    intro s k hretry hdue hmay
    obtain ⟨hpair, -, -, hnone, -⟩ := startPairing_twin s
    exact ⟨_, congrArg Host.Outcome.next (opPairingRetry_of_due hretry hdue hmay), hpair, hnone⟩

end Sys2Proof.TwinFrameProofs

/-! Nothing but the data port looks at a source's windows (R300): what a shuttle word, a reply or a burst does is the same with one window shut. -/

namespace Sys2Proof.WindowProofs

open Sys2Proof Sys2Proof.Machine Sys2Proof.Laws

/-! ## The state with one window shut -/

def shutSource (k : Fin 4) (x : Source) : Source := { x with windows := x.windows.put k none }

def shutCmds (i : Fin 6) (k : Fin 4) (c : Commands) : Commands := { c with sources := c.sources.upd i (shutSource k) }

/-- One window of one source shut, all else as it is. -/
def shut (i : Fin 6) (k : Fin 4) (s : State) : State := s.onCmd (shutCmds i k)

variable {i : Fin 6} {k : Fin 4} {s : State}

theorem upd_upd_comm {α : Type} {n : Nat} (t : Tab α n) (i j : Fin n) {f g : α → α} (h : ∀ x, f (g x) = g (f x)) :
    (t.upd i f).upd j g = (t.upd j g).upd i f := by
  refine FarProofs.tab_ext fun a => ?_
  by_cases hi : a = i
  · by_cases hj : a = j
    · subst hi hj
      simp only [Tab.get_upd_self, h]
    · subst hi
      simp only [Tab.get_upd_self, Tab.get_upd_ne _ _ hj]
  · by_cases hj : a = j
    · subst hj
      simp only [Tab.get_upd_self, Tab.get_upd_ne _ _ hi]
    · simp only [Tab.get_upd_ne _ _ hi, Tab.get_upd_ne _ _ hj]

/-! ### What is read -/

@[simp] theorem shut_weft : (shut i k s).weft = s.weft := rfl
@[simp] theorem shut_eth : (shut i k s).eth = s.eth := rfl
@[simp] theorem shut_twin : (shut i k s).twin = s.twin := rfl
@[simp] theorem shut_sessions : (shut i k s).cmd.sessions = s.cmd.sessions := rfl
@[simp] theorem shut_groups : (shut i k s).cmd.groups = s.cmd.groups := rfl
@[simp] theorem shut_channel : (shut i k s).cmd.channel = s.cmd.channel := rfl
@[simp] theorem shut_canNoteEn : (shut i k s).cmd.canNoteEn = s.cmd.canNoteEn := rfl
@[simp] theorem shut_canNoteId : (shut i k s).cmd.canNoteId = s.cmd.canNoteId := rfl
@[simp] theorem shut_canTxId : (shut i k s).cmd.canTxId = s.cmd.canTxId := rfl
@[simp] theorem shut_link (j : LinkNo) : (shut i k s).link j = s.link j := rfl
@[simp] theorem shut_group (g : Grp) : (shut i k s).group g = s.group g := rfl
@[simp] theorem shut_mirrors : (shut i k s).mirrors = s.mirrors := rfl
@[simp] theorem shut_mirrorCfg : (shut i k s).mirrorCfg = s.mirrorCfg := rfl
@[simp] theorem shut_twinWaits (typ : Nat) : (shut i k s).twinWaits typ = s.twinWaits typ := rfl
@[simp] theorem shut_reaches (src : Src) (n : Nat) : (shut i k s).reaches src n = s.reaches src n := rfl
@[simp] theorem shut_hears (src : Src) : (shut i k s).hears src = s.hears src := by cases src <;> rfl
@[simp] theorem shut_sessionId (src : Src) : (shut i k s).sessionId src = s.sessionId src := by cases src <;> rfl
@[simp] theorem shut_holderId (g : Group) : (shut i k s).holderId g = s.holderId g := rfl

theorem shut_source (j : Fin 6) {α : Type} (f : Source → α) (hf : ∀ x, f (shutSource k x) = f x) :
    f ((shut i k s).cmd.sources.get j) = f (s.cmd.sources.get j) := by
  have hsources : (shut i k s).cmd.sources = s.cmd.sources.upd i (shutSource k) := rfl
  rw [hsources]
  by_cases hj : j = i
  · rw [hj, Tab.get_upd_self, hf]
  · rw [Tab.get_upd_ne _ _ hj]

@[simp] theorem shut_notes (j : Fin 6) : ((shut i k s).cmd.sources.get j).notes = (s.cmd.sources.get j).notes := shut_source j Source.notes fun _ => rfl
@[simp] theorem shut_noteSeq (j : Fin 6) : ((shut i k s).cmd.sources.get j).noteSeq = (s.cmd.sources.get j).noteSeq :=
  shut_source j Source.noteSeq fun _ => rfl

@[simp] theorem shut_exec (j : Fin 6) : ((shut i k s).cmd.sources.get j).exec = (s.cmd.sources.get j).exec := shut_source j Source.exec fun _ => rfl
@[simp] theorem shut_waiting (j : Fin 6) : ((shut i k s).cmd.sources.get j).waiting = (s.cmd.sources.get j).waiting :=
  shut_source j Source.waiting fun _ => rfl

@[simp] theorem shut_findCmd (n : Nat) : (shut i k s).cmd.findCmd n = s.cmd.findCmd n := by
  simp only [Commands.findCmd, shut_exec, shut_groups]

/-! ### What is written -/

@[simp] theorem shut_onLink (j : LinkNo) (f : Link → Link) : (shut i k s).onLink j f = shut i k (s.onLink j f) := rfl
@[simp] theorem shut_onWeft (f) : (shut i k s).onWeft f = shut i k (s.onWeft f) := rfl
@[simp] theorem shut_onTwin (f) : (shut i k s).onTwin f = shut i k (s.onTwin f) := rfl
@[simp] theorem shut_onFarPort (p : FarNo) (f : FarPort → FarPort) : (shut i k s).onFarPort p f = shut i k (s.onFarPort p f) := rfl
@[simp] theorem shut_onGroup (g : Grp) (f : Group → Group) : (shut i k s).onGroup g f = shut i k (s.onGroup g f) := rfl
@[simp] theorem shut_send (o : Out) : (shut i k s).send o = shut i k (s.send o) := rfl
@[simp] theorem shut_record (code source p0 p1 p2 : Nat) : (shut i k s).record code source p0 p1 p2 = shut i k (s.record code source p0 p1 p2) := rfl
@[simp] theorem shut_setSession (j : Fin 4) (x : Option Session) :
    ((shut i k s).onCmd fun c => c.setSession j x) = shut i k (s.onCmd fun c => c.setSession j x) := rfl

theorem shut_onCmd {f : Commands → Commands} (hf : ∀ c, f (shutCmds i k c) = shutCmds i k (f c)) : (shut i k s).onCmd f = shut i k (s.onCmd f) := by
  simp only [shut, State.onCmd, hf]

theorem shutCmds_sources {j : Fin 6} {g : Source → Source} (hg : ∀ x, shutSource k (g x) = g (shutSource k x)) (c : Commands) :
    (shutCmds i k c).sources.upd j g = (c.sources.upd j g).upd i (shutSource k) := upd_upd_comm _ _ _ hg

theorem shut_onSource (j : Fin 6) {g : Source → Source} (hg : ∀ x, shutSource k (g x) = g (shutSource k x)) :
    (shut i k s).onSource j g = shut i k (s.onSource j g) := by
  refine shut_onCmd fun c => ?_
  rw [shutCmds_sources hg]
  rfl

theorem shut_forEach {α : Type} {f : α → State → State} (hf : ∀ x t, f x (shut i k t) = shut i k (f x t)) (l : List α) (s : State) :
    (shut i k s).forEach l f = shut i k (s.forEach l f) := by
  induction l generalizing s with
  | nil => rfl
  | cons x l ih => exact (congrArg (fun t : State => t.forEach l f) (hf x s)).trans (ih (f x s))

/-! ## Frames of the twin -/

@[simp] theorem shut_twinFrame (typ : Nat) (b : List Byte) (ack : Bool) (msn : Option Nat) (last : Bool) :
    (shut i k s).twinFrame typ b ack msn last = shut i k (s.twinFrame typ b ack msn last) := by
  simp only [State.twinFrame, shut_twinWaits, apply_ite (shut i k)]
  rfl

@[simp] theorem shut_mirrorFrame (typ : Nat) (b : List Byte) : (shut i k s).mirrorFrame typ b = shut i k (s.mirrorFrame typ b) := by
  simp only [State.mirrorFrame, shut_twin, shut_onTwin, shut_twinFrame]

theorem shut_sendConfig (n : Nat) (l : List (Nat × Nat)) (s : State) : State.sendConfig n l (shut i k s) = shut i k (State.sendConfig n l s) := by
  induction n generalizing l s with
  | zero => rfl
  | succ n ih =>
    cases l with
    | nil => rfl
    | cons x l => simp only [State.sendConfig, shut_mirrorFrame, ih]

@[simp] theorem shut_mirrorConfig : (shut i k s).mirrorConfig = shut i k s.mirrorConfig := by
  simp only [State.mirrorConfig, shut_mirrors, shut_mirrorCfg, shut_twin, shut_sendConfig, shut_onTwin, apply_ite (shut i k)]

@[simp] theorem shut_mirrorDone (g : Grp) (tag status : Nat) (c : Causes) (b : List Byte) :
    (shut i k s).mirrorDone g tag status c b = shut i k (s.mirrorDone g tag status c b) := by
  simp only [State.mirrorDone, shut_mirrors, shut_mirrorConfig, shut_groups, shut_holderId, shut_mirrorFrame, apply_ite (shut i k)]

@[simp] theorem shut_doneStage (c : Cmd) (st : Status) (fails : Bool) (b : List Byte) :
    (shut i k s).doneStage c st fails b = shut i k (s.doneStage c st fails b) := by
  unfold State.doneStage
  cases c.mirrorGroup with
  | none => rfl
  | some g => exact shut_mirrorDone ..

/-! ## Packets -/

@[simp] theorem shut_farGone (mine : Grp → Bool) (released all : Bool) : (shut i k s).farGone mine released all = shut i k (s.farGone mine released all) := by
  unfold State.farGone
  refine shut_forEach (fun p t => ?_) allFar s
  exact shut_onFarPort ..

@[simp] theorem shut_withdraw (l : List Nat) : (shut i k s).withdraw l = shut i k (s.withdraw l) := rfl

/-- What a session that closes leaves of its source. -/
def closedSource (x : Source) : Source := { x with windows := Tab.fill 4 none, notes := [], waiting := [], exec := none }

theorem closedSource_shut (x : Source) : shutSource k (closedSource x) = closedSource (shutSource k x) := by
  have hfill : (Tab.fill 4 (none : Option Window)).put k none = Tab.fill 4 none := by
    refine FarProofs.tab_ext fun a => ?_
    rw [Tab.get_put, Tab.get_fill, ite_self]
  simp only [shutSource, closedSource, hfill]

/-- A session that closes shuts its windows itself. -/
@[simp] theorem shut_closeSession (j : Fin 4) (cause : Nat) : (shut i k s).closeSession j cause = shut i k (s.closeSession j cause) := by
  unfold State.closeSession
  rw [shut_sessions]
  cases s.cmd.sessions.get j with
  | none => rfl
  | some x =>
    dsimp only
    rw [shut_groups, shut_farGone, shut_withdraw]
    refine (congrArg (fun t : State => t.record 0x8031 2 x.id cause 0) (shut_onCmd fun c => ?_)).trans (shut_record ..)
    have hsources := shutCmds_sources (i := i) (k := k) (j := (Src.session j).idx) closedSource_shut c
    unfold shutCmds at hsources ⊢
    congr 1

@[simp] theorem shut_sendCan (n : Nat) (b : List Byte) : (shut i k s).sendCan n b = shut i k (s.sendCan n b) := by
  unfold State.sendCan
  rw [shut_twin, shut_channel, apply_ite (shut i k)]
  cases s.cmd.channel with
  | none => rfl
  | some c =>
    dsimp only
    rw [apply_ite (shut i k)]
    rfl

@[simp] theorem shut_sendUdp (a b c : Nat) (l : List Byte) : (shut i k s).sendUdp a b c l = shut i k (s.sendUdp a b c l) := by
  simp only [State.sendUdp, shut_eth, shut_send, apply_ite (shut i k)]
  rfl

@[simp] theorem shut_sendPacket (src : Src) (a b c d : Nat) (l : List Byte) :
    (shut i k s).sendPacket src a b c d l = shut i k (s.sendPacket src a b c d l) := by
  unfold State.sendPacket
  cases src with
  | can => exact shut_sendCan ..
  | clear => exact shut_sendUdp ..
  | session j =>
    dsimp only
    rw [shut_sessions]
    cases s.cmd.sessions.get j with
    | none => rfl
    | some x => simp only [shut_sendUdp, shut_setSession, shut_closeSession, apply_ite (shut i k)]

@[simp] theorem shut_sendOrHold (mirrored : Bool) (src : Src) (n a b c d : Nat) (l : List Byte) :
    (shut i k s).sendOrHold mirrored src n a b c d l = shut i k (s.sendOrHold mirrored src n a b c d l) := by
  simp only [State.sendOrHold, shut_reaches, shut_mirrors, shut_twin, shut_onTwin, shut_sendPacket, apply_ite (shut i k)]
  rfl

/-! ## Replies and notifications -/

/-- The address a reply goes to does not turn on the windows. -/
@[simp] theorem shut_replyWith (c : Cmd) (flags : Nat) (st : Status) (b : List Byte) (final last : Bool) :
    (shut i k s).replyWith c flags st b final last = shut i k (s.replyWith c flags st b final last) := by
  unfold State.replyWith
  extract_lets p u addr v u' addr' v'
  have hu : u = shut i k u' := by simp only [u, u', shut_doneStage, apply_ite (shut i k)]
  have haddr : addr = addr' := by simp only [addr, addr', hu, shut_sessions]
  have hv : v = shut i k v' := by simp only [v, v', hu, haddr, shut_canTxId, shut_sendOrHold]
  rw [hv]
  cases c.group with
  | none => rfl
  | some g => rfl

@[simp] theorem shut_replyEnd (c : Cmd) (st : Status) (b : List Byte) : (shut i k s).replyEnd c st b = shut i k (s.replyEnd c st b) := by
  simp only [State.replyEnd, shut_replyWith, apply_ite (shut i k)]

@[simp] theorem shut_acceptWaiting (g : Grp) : (shut i k s).acceptWaiting g = shut i k (s.acceptWaiting g) := by
  have haccept (c : Cmd) (t : State) : (shut i k t).accept c = shut i k (t.accept c) := by
    simp only [State.accept, shut_replyWith, apply_ite (shut i k)]
  simp only [State.acceptWaiting, shut_onGroup, shut_group, shut_forEach (f := fun c t => t.accept c) haccept]

/-- A source with one more notification. -/
def notedSource (p : List Byte) (x : Source) : Source :=
  { x with noteSeq := (x.noteSeq + 1) % 65536, notes := if x.notes.length < 64 then x.notes ++ [p] else x.notes }

/-- The commands' part after a notification to a source, one lost when the source had no room. -/
def noted (j : Fin 6) (p : List Byte) (n : Nat) (c : Commands) : Commands :=
  { c with sources := c.sources.upd j (notedSource p), noteLost := if n < 64 then c.noteLost else satAdd 0xFFFF c.noteLost 1 }

theorem noted_shut (j : Fin 6) (p : List Byte) (n : Nat) (c : Commands) : noted j p n (shutCmds i k c) = shutCmds i k (noted j p n c) := by
  unfold noted
  rw [shutCmds_sources (g := notedSource p) fun _ => rfl]
  rfl

@[simp] theorem shut_notify (src : Src) (op : Nat) (b : List Byte) : (shut i k s).notify src op b = shut i k (s.notify src op b) := by
  unfold State.notify
  rw [shut_hears, apply_ite (shut i k)]
  refine ite_congr rfl (fun _ => ?_) fun _ => rfl
  extract_lets q p u q' p' u'
  have hlen : q.notes.length = q'.notes.length := by rw [shut_notes]
  have hp : p = p' := by simp only [p, p', q, q', shut_noteSeq, shut_sessionId]
  have hu : u = shut i k u' := by
    have hnoted : u = (shut i k s).onCmd (noted src.idx p q.notes.length) := rfl
    rw [hnoted, hp, hlen]
    exact shut_onCmd fun c => noted_shut ..
  rw [hu]
  clear_value u'
  cases src with
  | clear => rfl
  | can => 
    simp only [shut_canNoteEn, shut_canNoteId, hp, shut_sendOrHold, apply_ite (shut i k)]
  | session j =>
    dsimp only
    rw [shut_sessions]
    cases u'.cmd.sessions.get j with
    | none => rfl
    | some x => simp only [hp, shut_sendOrHold]

@[simp] theorem shut_notifyHolder (g : Grp) (op : Nat) (b : List Byte) : (shut i k s).notifyHolder g op b = shut i k (s.notifyHolder g op b) := by
  unfold State.notifyHolder
  rw [shut_group]
  cases (s.group g).holderSrc with
  | none => rfl
  | some src => exact shut_notify ..

@[simp] theorem shut_lateError (c : Cmd) (st : Status) (detail : Nat) : (shut i k s).lateError c st detail = shut i k (s.lateError c st detail) := by
  unfold State.lateError
  cases c.group with
  | none => rfl
  | some g => simp only [shut_group, shut_noteSeq, shut_sessionId, shut_doneStage, shut_notifyHolder]

@[simp] theorem shut_failGroup (g : Grp) (c : Cmd) : (shut i k s).failGroup g c = shut i k (s.failGroup g c) := by
  simp only [State.failGroup, State.notifyStall, shut_group, shut_onGroup, shut_acceptWaiting, shut_notifyHolder, apply_ite (shut i k)]

@[simp] theorem shut_complete (c : Cmd) (st : Status) (b : List Byte) (detail : Nat) :
    (shut i k s).complete c st b detail = shut i k (s.complete c st b detail) := by
  unfold State.complete
  cases c.group with
  | none =>
    have hended : ((shut i k s).onSource c.src.idx fun q => { q with exec := none }) = shut i k (s.onSource c.src.idx fun q => { q with exec := none }) :=
      shut_onSource c.src.idx fun _ => rfl
    exact (congrArg (fun t : State => t.replyEnd c st b) hended).trans (shut_replyEnd ..)
  | some g =>
    simp only [shut_onGroup, shut_replyEnd, shut_lateError, shut_record, shut_doneStage, shut_failGroup, ← apply_ite (shut i k)]

@[simp] theorem shut_completeId (n : Nat) (st : Status) (b : List Byte) (detail : Nat) :
    (shut i k s).completeId n st b detail = shut i k (s.completeId n st b detail) := by
  unfold State.completeId
  rw [shut_findCmd]
  cases s.cmd.findCmd n with
  | none => rfl
  | some c => exact shut_complete ..

/-! ## Words of the shuttles -/

theorem shut_judgeWord (j : LinkNo) (w : ShWord) (crcOk : Bool) :
    (shut i k s).judgeWord j w crcOk = ((s.judgeWord j w crcOk).1, shut i k (s.judgeWord j w crcOk).2) := by
  unfold State.judgeWord
  rw [shut_link]
  split
  · rfl
  · dsimp only
    split
    · rfl
    · split <;> rfl

@[simp] theorem shut_acked (j : Option LinkNo) : (shut i k s).acked j = shut i k (s.acked j) := by
  cases j with
  | none => rfl
  | some j => rfl

@[simp] theorem shut_ackArrive (j : LinkNo) (crcOk : Bool) : (shut i k s).ackArrive j crcOk = shut i k (s.ackArrive j crcOk) := by
  unfold State.ackArrive
  rw [shut_link]
  cases (s.link j).fly with
  | nil => rfl
  | cons w rest => simp only [shut_onLink, shut_judgeWord, shut_acked, apply_ite (shut i k)]

@[simp] theorem shut_takeAcks (j : LinkNo) : (shut i k s).takeAcks j = shut i k (s.takeAcks j) := by
  unfold State.takeAcks
  rw [shut_link]
  exact shut_forEach (fun _ t => shut_ackArrive ..) _ s

@[simp] theorem shut_acknowledge (j : LinkNo) : (shut i k s).acknowledge j = shut i k (s.acknowledge j) := by
  unfold State.acknowledge
  cases j.back with
  | none => rfl
  | some l => rfl

theorem shut_receiveWord (j : LinkNo) (typ : Nat) (crcOk : Bool) :
    (shut i k s).receiveWord j typ crcOk = ((s.receiveWord j typ crcOk).1, shut i k (s.receiveWord j typ crcOk).2) := by
  unfold State.receiveWord
  extract_lets t u
  have ht : t = shut i k u := shut_takeAcks j
  rw [ht, shut_link]
  clear_value u
  cases (u.link j).fly with
  | nil => rfl
  | cons w rest =>
    dsimp only
    split
    · rfl
    · rw [shut_onLink, shut_judgeWord]
      generalize (u.onLink j fun l => { l with fly := rest }.refill).judgeWord j w crcOk = x
      obtain ⟨ok, v⟩ := x
      cases ok with
      | true => exact congrArg (Prod.mk _) (shut_acknowledge j)
      | false => rfl

theorem shut_queueAct (n : Nat) (p : BitVec 64) : (shut i k s).queueAct n p = shut i k (s.queueAct n p) := by
  unfold State.queueAct
  cases acOfNum (pf p 0 8) with
  | none => exact shut_completeId ..
  | some c => rfl

theorem shut_queueChan (n : Nat) (p : BitVec 64) : (shut i k s).queueChan n p = shut i k (s.queueChan n p) := by
  unfold State.queueChan
  cases chOfNum (pf p 0 8) with
  | none => exact shut_completeId ..
  | some c =>
    dsimp only
    cases switchCmd p c with
    | none => exact shut_completeId ..
    | some x => rfl

theorem shut_heard (drive host : Bool) : (shut i k s).heard drive host = shut i k (s.heard drive host) := by
  cases drive with
  | true => rfl
  | false => rfl

theorem shut_serviceArrive (drive crcOk : Bool) : (shut i k s).serviceArrive drive crcOk = shut i k (s.serviceArrive drive crcOk) := by
  unfold State.serviceArrive
  extract_lets j t u
  have ht : t = shut i k u := shut_takeAcks j
  rw [ht, shut_link]
  clear_value u
  cases (u.link j).headWord with
  | none => rfl
  | some w =>
    dsimp only
    rw [shut_receiveWord]
    generalize u.receiveWord j w.typ crcOk = x
    obtain ⟨p, v⟩ := x
    cases p with
    | none => simp only [shut_completeId, apply_ite (shut i k)]
    | some p => simp only [shut_queueAct, shut_queueChan, shut_heard, apply_ite (shut i k)]

theorem shut_serviceDrain (drive : Bool) : (shut i k s).serviceDrain drive = shut i k (s.serviceDrain drive) := by
  unfold State.serviceDrain
  rw [shut_link]
  exact shut_forEach (fun _ t => shut_serviceArrive ..) _ s

theorem shut_crossWords (j : LinkNo) (n : Nat) : (shut i k s).crossWords j n = shut i k (s.crossWords j n) := by
  unfold State.crossWords
  cases j.back with
  | none => rfl
  | some l => rfl

theorem shut_access (island n : Nat) (reads : Bool) : (shut i k s).access island n reads = shut i k (s.access island n reads) := by
  unfold State.access
  cases coreLink island with
  | none => rfl
  | some j =>
    dsimp only
    have hdrain : (if j = 9 then (shut i k s).serviceDrain false else if j = 10 then (shut i k s).serviceDrain true else shut i k s) =
        shut i k (if j = 9 then s.serviceDrain false else if j = 10 then s.serviceDrain true else s) := by
      simp only [shut_serviceDrain, apply_ite (shut i k)]
    rw [hdrain]
    generalize (if j = 9 then s.serviceDrain false else if j = 10 then s.serviceDrain true else s) = u
    cases j.back with
    | none => exact shut_crossWords ..
    | some l =>
      dsimp only
      rw [shut_takeAcks, shut_crossWords]

/-! ## Registers, streams and memory -/

theorem shut_readPower (off : Nat) : (shut i k s).readPower off = s.readPower off := by
  have hbusy : (shut i k s).coreBusy none = s.coreBusy none := by
    simp only [State.coreBusy, shut_waiting, shut_exec]
    rfl
  have hblock : (shut i k s).sleepBlock none = s.sleepBlock none := by
    unfold State.sleepBlock
    rw [hbusy]
    rfl
  unfold State.readPower
  rw [hblock]
  rfl

theorem shut_readChan (c : ChNo) (off : Nat) : (shut i k s).readChan c off = s.readChan c off := by rfl
theorem shut_readSwitch (off : Nat) : (shut i k s).readSwitch off = s.readSwitch off := by rfl
theorem shut_readAct (c : AcNo) (off : Nat) : (shut i k s).readAct c off = s.readAct c off := by rfl
theorem shut_readDrive (off : Nat) : (shut i k s).readDrive off = s.readDrive off := by rfl
theorem shut_readField (off : Nat) : (shut i k s).readField off = s.readField off := by rfl
theorem shut_readNm (off : Nat) : (shut i k s).readNm off = s.readNm off := by rfl
theorem shut_readFar (off : Nat) : (shut i k s).readFar off = s.readFar off := by rfl
theorem shut_readTwin (off : Nat) : (shut i k s).readTwin off = s.readTwin off := by rfl
theorem shut_readAccess (off : Nat) : (shut i k s).readAccess off = s.readAccess off := by rfl
theorem shut_readSupply (off : Nat) : (shut i k s).readSupply off = s.readSupply off := by rfl
theorem shut_readFaults (off : Nat) : (shut i k s).readFaults off = s.readFaults off := by rfl
theorem shut_readRecorder (off : Nat) : (shut i k s).readRecorder off = s.readRecorder off := by rfl
theorem shut_readCmd (off : Nat) : (shut i k s).readCmd off = s.readCmd off := by rfl

/-- What was answered, and the state with the window shut. -/
def shutPair (i : Fin 6) (k : Fin 4) {α : Type} (x : α × State) : α × State := (x.1, shut i k x.2)

theorem shutPair_mk {α : Type} (x : α) : shutPair i k (x, s) = (x, shut i k s) := rfl

theorem shut_readClock (off : Nat) : (shut i k s).readClock off = shutPair i k (s.readClock off) := by
  unfold State.readClock
  dsimp only
  split <;> rfl

/-- A register reads the same: none of them shows a window. -/
theorem shut_readReg (a : Nat) : (shut i k s).readReg a = shutPair i k (s.readReg a) := by
  have hcan (c : CanNo) : (shut i k s).canCh c = s.canCh c := rfl
  simp only [State.readReg, apply_dite (shutPair i k), apply_ite (shutPair i k), shutPair_mk, shut_readPower, shut_readClock, shut_readChan,
    shut_readSwitch, shut_readAct, shut_readDrive, shut_readField, hcan, shut_readNm, shut_readFar, shut_readTwin, shut_readAccess, shut_readSupply,
    shut_readFaults, shut_readRecorder, shut_readCmd]

theorem shut_readRegs (a n : Nat) (s : State) : State.readRegs a n (shut i k s) = shutPair i k (State.readRegs a n s) := by
  induction n generalizing a s with
  | zero => rfl
  | succ n ih =>
    simp only [State.readRegs, shut_readReg]
    rw [shutPair, ih]
    rfl

theorem shut_streamItems (x : Stream) : (shut i k s).streamItems x = s.streamItems x := by
  cases x with
  | notes j => simp only [State.streamItems, shut_notes]
  | can c q => rfl
  | far p => rfl

theorem shut_readSpace (g : Space) (a n : Nat) : (shut i k s).readSpace g a n = s.readSpace g a n := by
  cases g <;> rfl

/-- A burst reads the same, whatever the windows hold. -/
theorem shut_readBurst (w : Window) (o n : Nat) : (shut i k s).readBurst w o n = shutPair i k (s.readBurst w o n) := by
  unfold State.readBurst
  extract_lets c
  split
  · cases streamAt w.base w.length with
    | none => rfl
    | some x =>
      dsimp only
      rw [shut_streamItems]
      rfl
  · split
    · rw [shut_access, shut_readRegs]
    · cases regionOf w.base w.length with
      | none => rfl
      | some g =>
        dsimp only
        rw [shut_readSpace]
        rfl

theorem shut_memRefusal (g : Space) (a n : Nat) : (shut i k s).memRefusal g a n = s.memRefusal g a n := by
  cases g <;> rfl

theorem shut_dropStart (gone : Slot2 → Bool) : (shut i k s).dropStart gone = shut i k (s.dropStart gone) := by
  unfold State.dropStart
  rw [shut_weft]
  cases s.weft.starting with
  | none => rfl
  | some x =>
    dsimp only
    cases x.cmd with
    | none => simp only [shut_onWeft, apply_ite (shut i k)]
    | some c => simp only [shut_onWeft, shut_completeId, apply_ite (shut i k)]

theorem shut_touchWeft (a : Nat) : (shut i k s).touchWeft a = shutPair i k (s.touchWeft a) := by
  have hbusy : (shut i k s).slotBusy = s.slotBusy := rfl
  have hslots : (shut i k s).slotsAt a = s.slotsAt a := rfl
  simp only [State.touchWeft, hslots, hbusy, shut_onWeft, shut_dropStart, apply_ite (shutPair i k), shutPair_mk]

theorem shut_storeMem (g : Space) (a : Nat) (b : List Byte) : (shut i k s).storeMem g a b = shut i k (s.storeMem g a b) := by
  cases g with
  | code =>
    refine (congrArg (fun t : State => t.writeMem a b) (shut_forEach (fun j t => ?_) (List.range b.length) s)).trans rfl
    rw [shut_touchWeft]
    rfl
  | _ => rfl

end Sys2Proof.WindowProofs

/-! The data port's opcodes (spec/10, R296, R300 to R304). A burst first puts the cursor at its start; nothing it does then looks at the cursor. -/

namespace Sys2Proof.DataPortProofs

open Sys2Proof Sys2Proof.Machine Sys2Proof.Laws Sys2Proof.CommandProofs Sys2Proof.WindowProofs

variable {s : State} {r : CmdRef} {q : Cmd} {w : Window} {k o : Nat}

/-! ## The cursor -/

theorem le_of_window (h : s.window q k = some w) : k ≤ 3 := by
  unfold State.window at h
  split at h
  · omega
  · cases h

theorem upd_upd {α : Type} {n : Nat} (t : Tab α n) (i : Fin n) (f g : α → α) : (t.upd i f).upd i g = t.upd i fun x => g (f x) := by
  refine FarProofs.tab_ext fun a => ?_
  by_cases ha : a = i
  · rw [ha, Tab.get_upd_self, Tab.get_upd_self, Tab.get_upd_self]
  · rw [Tab.get_upd_ne _ _ ha, Tab.get_upd_ne _ _ ha, Tab.get_upd_ne _ _ ha]

theorem put_put {α : Type} {n : Nat} (t : Tab α n) (i : Fin n) (x y : α) : (t.put i x).put i y = t.put i y := by
  refine FarProofs.tab_ext fun a => ?_
  rw [Tab.get_put, Tab.get_put, Tab.get_put]
  split <;> rfl

theorem onSource_onSource (s : State) (i : Fin 6) (f g : Source → Source) : (s.onSource i f).onSource i g = s.onSource i fun x => g (f x) := by
  have hsources := upd_upd s.cmd.sources i f g
  simp only [State.onSource, State.onCmd, hsources]

theorem setWindow_shut (hk : k < 4) (s : State) (x : Option Window) : (shut q.src.idx ⟨k, hk⟩ s).setWindow q k x = s.setWindow q k x := by
  unfold State.setWindow
  rw [dif_pos hk, dif_pos hk]
  refine (onSource_onSource s q.src.idx (shutSource ⟨k, hk⟩) _).trans (congrArg (s.onSource q.src.idx) (funext fun y => ?_))
  simp only [shutSource, put_put]

theorem shut_setWindow (hk : k < 4) (s : State) (x : Option Window) : shut q.src.idx ⟨k, hk⟩ (s.setWindow q k x) = shut q.src.idx ⟨k, hk⟩ s := by
  unfold State.setWindow
  rw [dif_pos hk]
  refine (onSource_onSource s q.src.idx _ (shutSource ⟨k, hk⟩)).trans (congrArg (s.onSource q.src.idx) (funext fun y => ?_))
  simp only [shutSource, put_put]

theorem shut_seek (hk : k < 4) (s : State) : shut q.src.idx ⟨k, hk⟩ (s.seek q k w o) = shut q.src.idx ⟨k, hk⟩ s := by
  unfold State.seek State.advance
  split
  · exact shut_setWindow hk s _
  · rfl

/-- What does not look at the window answers the same after the seek. -/
theorem seek_same {α : Type} (hk : k < 4) (f : State → α) (hf : ∀ t, f (shut q.src.idx ⟨k, hk⟩ t) = f t) : f (s.seek q k w o) = f s :=
  calc f (s.seek q k w o) = f (shut q.src.idx ⟨k, hk⟩ (s.seek q k w o)) := (hf _).symm
    _ = f (shut q.src.idx ⟨k, hk⟩ s) := by rw [shut_seek]
    _ = f s := hf s

/-- Where the cursor goes at the end of a burst, the seek at its start no longer shows. -/
theorem advance_seek (hk : k < 4) (f : State → State) (hf : ∀ t, f (shut q.src.idx ⟨k, hk⟩ t) = shut q.src.idx ⟨k, hk⟩ (f t)) (n : Nat) :
    (f (s.seek q k w o)).advance q k w o n = (f s).advance q k w o n := by
  cases hauto : w.autoinc with
  | false => simp only [State.seek, State.advance, hauto, Bool.false_eq_true, if_false]
  | true =>
    simp only [State.advance, hauto, if_true]
    calc (f (s.seek q k w o)).setWindow q k _ = (shut q.src.idx ⟨k, hk⟩ (f (s.seek q k w o))).setWindow q k _ := (setWindow_shut hk _ _).symm
      _ = (f (shut q.src.idx ⟨k, hk⟩ (s.seek q k w o))).setWindow q k _ := by rw [hf]
      _ = (shut q.src.idx ⟨k, hk⟩ (f s)).setWindow q k _ := by rw [shut_seek, hf]
      _ = (f s).setWindow q k _ := setWindow_shut hk _ _

/-! ## The opcodes -/

theorem opDpOpen_of_free (hq : s.begun r = some q) (ho : q.opcode = 0x0701) (hlen : q.params.length = 12) (hcheck : s.openCheck q = none) :
    opDpOpen r s = (s.setWindow q (u8 q.params 0) (some
      { elem := u8 q.params 1, attr := u8 q.params 2, autoinc := bit (u8 q.params 3) 0, base := u32 q.params 4, length := u32 q.params 8,
        cursor := 0 })).complete q .ok (le 1 (u8 q.params 0) ++ zeros 3 ++ le 4 (u32 q.params 8)) := by
  rw [opDpOpen, onCommand_eq hq ho]
  simp only [hlen, hcheck, ne_eq, not_true_eq_false, if_false]

theorem opDpRead_of_burst (hq : s.begun r = some q) (ho : q.opcode = 0x0702) (hlen : q.params.length = 8) (hzero : u8 q.params 1 = 0)
    (hw : s.window q (u8 q.params 0) = some w) (hburst : w.burst (u16 q.params 2) (u32 q.params 4) (decide (q.src = .can)) = some o) :
    opDpRead r s = ((s.readBurst w o (u16 q.params 2)).2.advance q (u8 q.params 0) w o (s.readBurst w o (u16 q.params 2)).1.length).complete q
      (if (s.readBurst w o (u16 q.params 2)).1.length < u16 q.params 2 then .short else .ok)
      (le 1 (u8 q.params 0) ++ zeros 1 ++ le 2 (s.readBurst w o (u16 q.params 2)).1.length ++ le 4 o ++ (s.readBurst w o (u16 q.params 2)).1) := by
  have hk : u8 q.params 0 < 4 := Nat.lt_succ_of_le (le_of_window hw)
  have hbytes : ((s.seek q (u8 q.params 0) w o).readBurst w o (u16 q.params 2)).1 = (s.readBurst w o (u16 q.params 2)).1 :=
    seek_same hk (fun t => (t.readBurst w o (u16 q.params 2)).1) fun t => by rw [shut_readBurst, shutPair]
  have hstate (n : Nat) : ((s.seek q (u8 q.params 0) w o).readBurst w o (u16 q.params 2)).2.advance q (u8 q.params 0) w o n =
      (s.readBurst w o (u16 q.params 2)).2.advance q (u8 q.params 0) w o n :=
    advance_seek hk (fun t => (t.readBurst w o (u16 q.params 2)).2) (fun t => by rw [shut_readBurst, shutPair]) n
  have hgood : ¬ (q.params.length ≠ 8 ∨ u8 q.params 1 ≠ 0 ∨ 3 < u8 q.params 0) := by omega
  rw [opDpRead, onCommand_eq hq ho]
  dsimp only
  rw [if_neg hgood, hw]
  dsimp only
  rw [hburst]
  dsimp only
  rw [hbytes, hstate]

theorem opDpWrite_of_burst (hq : s.begun r = some q) (ho : q.opcode = 0x0703) (hlen : q.params.length = 8 + u16 q.params 2) (hzero : u8 q.params 1 = 0)
    (hw : s.window q (u8 q.params 0) = some w) (hburst : w.burst (u16 q.params 2) (u32 q.params 4) (decide (q.src = .can)) = some o)
    (hattr : w.attr = 0) {n : Nat} (hn : n = min (u16 q.params 2) (w.length - o)) (hsome : 1 ≤ n) {g : Region} (hg : regionOf w.base w.length = some g)
    (hfree : s.memRefusal g.space (w.base + o) n = none) :
    opDpWrite r s = ((s.storeMem g.space (w.base + o) (slice q.params 8 n)).advance q (u8 q.params 0) w o n).complete q
      (if n < u16 q.params 2 then .short else .ok) (writeReply (u8 q.params 0) n o) := by
  have hk : u8 q.params 0 < 4 := Nat.lt_succ_of_le (le_of_window hw)
  have hgood : ¬ (q.params.length ≠ 8 + u16 q.params 2 ∨ u8 q.params 1 ≠ 0 ∨ 3 < u8 q.params 0) := by omega
  have hrefusal : (s.seek q (u8 q.params 0) w o).memRefusal g.space (w.base + o) n = none :=
    (seek_same hk (fun t => t.memRefusal g.space (w.base + o) n) fun t => shut_memRefusal ..).trans hfree
  have hstored : ((s.seek q (u8 q.params 0) w o).storeMem g.space (w.base + o) (slice q.params 8 n)).advance q (u8 q.params 0) w o n =
      (s.storeMem g.space (w.base + o) (slice q.params 8 n)).advance q (u8 q.params 0) w o n :=
    advance_seek hk (fun t => t.storeMem g.space (w.base + o) (slice q.params 8 n)) (fun t => shut_storeMem ..) n
  rw [opDpWrite, onCommand_eq hq ho]
  dsimp only
  rw [if_neg hgood, hw]
  dsimp only
  rw [hburst]
  dsimp only
  rw [if_neg (by omega), if_neg (by omega), hg, ← hn]
  dsimp only
  rw [if_neg (by omega), hrefusal]
  dsimp only
  rw [hstored]

theorem opDpWrite_of_registers (hq : s.begun r = some q) (ho : q.opcode = 0x0703) (hlen : q.params.length = 8 + u16 q.params 2)
    (hzero : u8 q.params 1 = 0) (hw : s.window q (u8 q.params 0) = some w)
    (hburst : w.burst (u16 q.params 2) (u32 q.params 4) (decide (q.src = .can)) = some o) (hattr : w.attr = 2) {n : Nat}
    (hn : n = min (u16 q.params 2) (w.length - o)) (hroom : s.fieldFull (w.base + o) (n / 4) = false) {u : State}
    (hu : u = (s.seek q (u8 q.params 0) w o).access (regIsland (w.base + o)) (n / 4) false)
    (hok : (State.writeRegs (w.base + o) (slice q.params 8 n) (n / 4) u).1 = .ok) :
    opDpWrite r s = ((State.writeRegs (w.base + o) (slice q.params 8 n) (n / 4) u).2.2.advance q (u8 q.params 0) w o
        (State.writeRegs (w.base + o) (slice q.params 8 n) (n / 4) u).2.1).complete q
      (if n < u16 q.params 2 then .short else .ok)
      (writeReply (u8 q.params 0) (State.writeRegs (w.base + o) (slice q.params 8 n) (n / 4) u).2.1 o) := by
  have hk : u8 q.params 0 < 4 := Nat.lt_succ_of_le (le_of_window hw)
  have hgood : ¬ (q.params.length ≠ 8 + u16 q.params 2 ∨ u8 q.params 1 ≠ 0 ∨ 3 < u8 q.params 0) := by omega
  have hfull : (s.seek q (u8 q.params 0) w o).fieldFull (w.base + o) (n / 4) = false :=
    (seek_same hk (fun t => t.fieldFull (w.base + o) (n / 4)) fun t => rfl).trans hroom
  rw [opDpWrite, onCommand_eq hq ho]
  dsimp only
  rw [if_neg hgood, hw]
  dsimp only
  rw [hburst]
  dsimp only
  rw [if_neg (by omega), if_pos hattr, ← hn, hfull, if_neg Bool.false_ne_true, ← hu, hok, if_pos rfl]

theorem opDpClose_of_number (hq : s.begun r = some q) (ho : q.opcode = 0x0704) (hlen : q.params.length = 4) (hzero : zeroAt q.params [1, 2, 3] = true)
    (hk : u8 q.params 0 ≤ 3) : opDpClose r s = (s.setWindow q (u8 q.params 0) none).complete q .ok q.params := by
  rw [opDpClose, onCommand_eq hq ho]
  refine if_neg ?_
  rw [hzero]
  simp only [Bool.true_eq_false, false_or]
  omega

theorem opDpCommit_of_items {x : Stream} (hq : s.begun r = some q) (ho : q.opcode = 0x0705) (hlen : q.params.length = 4) (hzero : u8 q.params 1 = 0)
    (hw : s.window q (u8 q.params 0) = some w) (hattr : w.attr = 1) (hx : streamAt w.base w.length = some x)
    (hhave : u16 q.params 2 ≤ (s.streamItems x).length) :
    opDpCommit r s = (s.streamDrop x (u16 q.params 2)).complete q .ok
      (le 1 (u8 q.params 0) ++ zeros 1 ++ le 2 (u16 q.params 2) ++ le 2 ((s.streamItems x).length - u16 q.params 2) ++ zeros 2) := by
  have hk : u8 q.params 0 ≤ 3 := le_of_window hw
  have hgood : ¬ (q.params.length ≠ 4 ∨ u8 q.params 1 ≠ 0 ∨ 3 < u8 q.params 0) := by omega
  rw [opDpCommit, onCommand_eq hq ho]
  dsimp only
  rw [if_neg hgood, hw]
  dsimp only
  rw [if_pos hattr, hx]
  exact if_neg (Nat.not_lt.mpr hhave)

/-- Settles O36, one opcode at a time; a read and a write to memory do not see where the seek put the cursor. -/
theorem dataPortCommandsComplete : Obligations.DataPortCommandsComplete := by
  refine ⟨?dpOpen, ?read, ?write, ?registers, ?close, ?commit⟩
  case dpOpen =>
    intro s r q hq ho hlen hcheck
    exact congrArg Host.Outcome.next (opDpOpen_of_free hq ho hlen hcheck)
  case read =>
    intro s r q w o hq ho hlen hzero hw hburst
    exact congrArg Host.Outcome.next (opDpRead_of_burst hq ho hlen hzero hw hburst)
  case write =>
    intro s r q w o n g hq ho hlen hzero hw hburst hattr hn hsome hg hfree
    exact congrArg Host.Outcome.next (opDpWrite_of_burst hq ho hlen hzero hw hburst hattr hn hsome hg hfree)
  case registers =>
    intro s u r q w o n hq ho hlen hzero hw hburst hattr hn hroom hu hok
    exact congrArg Host.Outcome.next (opDpWrite_of_registers hq ho hlen hzero hw hburst hattr hn hroom hu hok)
  case close =>
    intro s r q hq ho hlen hzero hk
    exact congrArg Host.Outcome.next (opDpClose_of_number hq ho hlen hzero hk)
  case commit =>
    intro s r q w x hq ho hlen hzero hw hattr hx hhave
    exact congrArg Host.Outcome.next (opDpCommit_of_items hq ho hlen hzero hw hattr hx hhave)

end Sys2Proof.DataPortProofs
